-- ==== Sys2Proof/Word.lean ====
section
/-! DEFINITION. The word types of the CH2416: the 64-bit register (R3), the 32-bit residue or fp32 element, the 16-bit
bf16 element, the byte, the 256-bit memory word (R7) and the 128-bit command word (Table 5.2). -/

namespace Sys2Proof

/-- A register (R3). -/
abbrev Reg64 := BitVec 64

/-- A residue or an fp32 element (R7, R37). -/
abbrev Word32 := BitVec 32

/-- A byte of memory. -/
abbrev Byte := BitVec 8

/-- A 128-bit command word (Table 5.2 of spec/05_command_model.md). -/
abbrev CmdWord := BitVec 128

end Sys2Proof
end

