-- ==== Sys2Proof/Syntax.lean ====
section
/-! DEFINITION. The commands of the block: one constructor per row of spec/opcode_table.json. A command is a register
access, a bench or Foreman command whose turn has come, or an event of an engine, a link, a pin or a timer. The
operands are what the sender chooses and what reaches the device from outside it: sensor samples, training results,
flits, host data, the outcome of an error-correcting code or of an opaque cryptographic check. -/

namespace Sys2Proof

/-- Who accesses registers: PCIe function n (0 the PF, n the VF n), the I3C view, or Matumon itself (R29, R450, R464). -/
inductive View
  | fn (n : Fin 16)
  | i3c
  | matumon
  deriving DecidableEq, Repr

/-- A bench register block: physical n, or logical Bm (R500, R506). -/
inductive BenchRef
  | phys (n : Fin 68)
  | logical (m : Fin 64)
  deriving DecidableEq, Repr

/-- The width of a register access, with the codes of HOST_ACCESS_ERROR (Table 19.5). -/
inductive AccessWidth | w64 | w32 | w16 | w8 | other
  deriving DecidableEq, Repr

/-- The port of a Pool that a window uses (R82-R84). -/
inductive PoolPort | compute | sluice | peer
  deriving DecidableEq, Repr

/-- What an error-correcting code makes of a word that is read: the outcome is a fact about stored bits that no
command decides (R285, R286). -/
inductive Ecc | clean | corrected | uncorrectable
  deriving DecidableEq, Repr

/-- The capability block of EXCHANGE (R341), as the partner sends it. -/
structure CapBlock where
  dev : BitVec 14
  gen : BitVec 16
  role : BitVec 2
  serial : Reg64
  port : BitVec 6
  half : Bool
  halfB : Bool
  lanes : BitVec 8
  fecSr : Bool
  fecLr : Bool
  modeReq : BitVec 2
  version : BitVec 8
  alloc : List (BitVec 10)
  worstLoss : BitVec 8
  optical : Bool
  deriving DecidableEq, Repr

/-- A heartbeat: sender, generation, device state and LAG_AVG (R375). -/
structure Heartbeat where
  src : BitVec 14
  gen : BitVec 16
  state : BitVec 3
  lagAvg : BitVec 16
  deriving DecidableEq, Repr

/-- A FENCE notice: the slot, its generation and state, and, where the chief sends it, the spare and the override
entry (R378-R380). -/
structure FenceNotice where
  slot : BitVec 14
  gen : BitVec 16
  state : BitVec 2
  spare : Option (BitVec 14 × BitVec 6)
  deriving DecidableEq, Repr

/-- A collective packet: entry, sending rank, upward or downward phase, byte offset of its data in the value sent,
whether it is the sender's last one, the lag that a downward packet returns, and its bytes (R385, R390, R391). -/
structure CollPacket where
  index : Fin 64
  rank : BitVec 14
  up : Bool
  offset : BitVec 39
  last : Bool
  lag : BitVec 16
  bytes : List Byte
  deriving DecidableEq, Repr

/-- The requesters of Kwawekan. -/
inductive SealReq | boot | matumon | spdm | debug
  deriving DecidableEq, Repr

/-- The operations of Tables 16.1 and 16.2, with their input lengths in bytes. -/
inductive SealKind
  | sha256 (bytes : Nat) | sha384 (bytes : Nat) | sha512 (bytes : Nat)
  | sha3_256 (bytes : Nat) | sha3_384 (bytes : Nat) | aesGcm (bytes : Nat)
  | random | sign | verify | ecdh | keyGen
  deriving DecidableEq, Repr

/-- How a Kwawekan operation comes out: done, refused by the input gate with role and value codes (R432), or with a
comparison failure of the wide multiplier (R433). -/
inductive SealOutcome
  | ok
  | refused (role : BitVec 4) (value : BitVec 4)
  | mismatch
  deriving DecidableEq, Repr

/-- SPDM requests, those of R441 by name. -/
inductive SpdmCode
  | getVersion | getCapabilities | negotiateAlgorithms | getDigests | getCertificate | challenge | getMeasurements
  | keyExchange | finish | heartbeat | keyUpdate | endSession | respondIfReady | unsupported
  deriving DecidableEq, Repr

/-- The IDE streams (R443). -/
inductive IdeStream | link | selective
  deriving DecidableEq, Repr

/-- An image as its authentication found it (R438): the check other than that of the SVN that failed, with the section, or none, and
what its header says. The digests: the first words of the SHA-384 of the seal firmware, of the Matumon code and of the macro
store image, and of the macro store image's SHA3-256. -/
structure ImageCheck where
  failed : Option (BitVec 4 × BitVec 4)
  version : BitVec 16
  svn : BitVec 16
  rollbackLock : Bool
  digests : List Reg64
  macroSlots : BitVec 8
  macroVersion : BitVec 16
  deriving DecidableEq, Repr

/-- What arrives at an intake channel: data of host memory, or an error completion (R455, R456). -/
inductive HostData
  | data (bytes : List Byte)
  | error
  deriving DecidableEq, Repr

/-- The I3C common command codes the model tells apart (R464). -/
inductive I3cCcc
  | entdaa (addr : BitVec 7)
  | setdasa (addr : BitVec 7)
  | rstdaa
  | enec (ibi : Bool)
  | disec (ibi : Bool)
  | other (code : BitVec 8)
  deriving DecidableEq, Repr

/-- The commands. -/
inductive Instr
  /-- REGISTER_WRITE (R503). A 64-bit BAR0 or I3C write to a register that has no row of its own is judged under R501, then sets RW fields and acts on W1C and W1S fields. -/
  | registerWrite (vw : View) (off : BitVec 26) (data : Reg64)
  /-- RC_FIELD_READ (R526). A read of a register with an RC field returns the whole units counted and removes them, keeping any remainder below one unit. -/
  | rcFieldRead (vw : View) (off : BitVec 26)
  /-- TBL_DATA_ACCESS (R119). A BENCH_TBL_DATA access reads or writes one table doubleword, subject to the bench-state rules, and advances INDEX. -/
  | tblDataAccess (vw : View) (b : BenchRef) (w : Option Reg64)
  /-- FM_MEM_DATA_ACCESS (R197). A BENCH_FM_MEM_DATA access reads or writes one Foreman memory doubleword, subject to the bench-state rules, and advances INDEX. -/
  | fmMemDataAccess (vw : View) (b : BenchRef) (w : Option Reg64)
  /-- WEIR_DATA_ACCESS (R300). A BENCH_WEIR_DATA access reads the selected Weir, or writes it in IDLE and releases the held waits it meets, then advances WEIR. -/
  | weirDataAccess (vw : View) (b : BenchRef) (w : Option Reg64)
  /-- CONFL_DATA_READ (R292). A read of BENCH_CONFL_DATA returns and clears four Pool bank conflict counters and advances GROUP. -/
  | conflDataRead (vw : View) (b : BenchRef)
  /-- BASIN_CONFL_DATA_READ (R292). A read of DEVCTL_BASIN_CONFL_DATA returns and clears four Basin bank wait counters and advances GROUP. -/
  | basinConflDataRead (vw : View)
  /-- HBM_PAGE_DATA_ACCESS (R315). A DEVCTL_HBM_PAGE_DATA access reads the owner of the selected page, or writes it when Matumon writes, and advances PAGE. -/
  | hbmPageDataAccess (vw : View) (w : Option Reg64)
  /-- TEMP_DATA_READ (R505). A read of GAUGE_TEMP_DATA returns the selected sensor, clears MAX and advances SENSOR. -/
  | tempDataRead (vw : View)
  /-- HALL_GEN_DATA_ACCESS (R377). A HALL_GEN_DATA access reads or writes a generation-table entry and advances SLOT. -/
  | hallGenDataAccess (vw : View) (w : Option Reg64)
  /-- HALL_TRIB_DATA_ACCESS (R376). A HALL_TRIB_DATA access reads or writes a tributary entry and advances ENTRY. -/
  | hallTribDataAccess (vw : View) (w : Option Reg64)
  /-- PRIME_LOAD (R30). A DEVCTL_PRIME_CMD write with LOAD latches the staged entry and starts the acceptance test, or is ignored with OVERRUN while BUSY. -/
  | primeLoad (vw : View) (index : BitVec 7)
  /-- PRIME_DELETE (R33). A DEVCTL_PRIME_CMD write with DELETE starts invalidating a prime slot, subject to INUSE. -/
  | primeDelete (vw : View) (index : BitVec 7)
  /-- PRIME_OP_COMPLETE (R31). A prime LOAD or DELETE completes after its fixed tclk count, updates the slot and sets DONE, INDEX and RESULT. -/
  | primeOpComplete
  /-- CHAIN_LOAD (R35). A DEVCTL_CHAIN_CMD write with LOAD latches the staged chain and starts its checks. -/
  | chainLoad (vw : View) (ord : BitVec 7) (spc : BitVec 5) (chain : BitVec 5)
  /-- CHAIN_DELETE (R36). A DEVCTL_CHAIN_CMD write with DELETE starts invalidating a chain that is not in use. -/
  | chainDelete (vw : View) (ord : BitVec 7) (spc : BitVec 5) (chain : BitVec 5)
  /-- CHAIN_OP_COMPLETE (R31). A chain LOAD or DELETE completes, writes the chain, updates slot INUSE and sets DONE and RESULT. -/
  | chainOpComplete
  /-- KEY_INSTALL (R222). A DEVCTL_KEY_CMD write with INSTALL checks the staged key entry against Table 8.3. -/
  | keyInstall (vw : View) (index : BitVec 12)
  /-- KEY_REMOVE (R223). A DEVCTL_KEY_CMD write with REMOVE invalidates a key entry that is not in use. -/
  | keyRemove (vw : View) (index : BitVec 12)
  /-- KEY_READ (R222). A DEVCTL_KEY_CMD write with READ copies a key entry into the stage registers. -/
  | keyRead (vw : View) (index : BitVec 12)
  /-- KEY_OP_COMPLETE (R222). A key operation completes in all four key tables at once and sets DONE and RESULT. -/
  | keyOpComplete
  /-- START (R137). A write of BENCH_CTL.START to an IDLE bench empties its queues, clears its tokens, scoreboards and tracker, and enters FILL. -/
  | start (vw : View) (b : BenchRef) (data : Reg64)
  /-- STOP (R115). A stop ordered by Matumon or written as BENCH_CTL.STOP takes the bench to HALTED with cause 0x08. -/
  | stop (vw : View) (b : BenchRef) (data : Reg64)
  /-- BENCH_RESET (R114). A bench reset stops issue and the Foreman at once and begins abandoning the commands in execution. -/
  | benchReset (pb : Fin 68)
  /-- BENCH_RESET_DONE (R114). Abandonment completes within 64 bclk, the queues and engine stores are cleared, and the bench reads IDLE. -/
  | benchResetDone (pb : Fin 68)
  /-- RINSE (R116). Rinse ordered by Matumon abandons the commands in execution and enters RINSING. -/
  | rinse (pb : Fin 68)
  /-- RINSE_COMPLETE (R116). Zeroisation of the Pool and bench stores ends after 4,096 bclk and the bench enters IDLE. -/
  | rinseComplete (pb : Fin 68)
  /-- BENCH_HW_FAILURE (R113). A bench hardware failure stops the bench at once and leaves its Pool and destinations unpredictable. -/
  | benchHwFailure (pb : Fin 68)
  /-- BENCH_SELF_TEST_DONE (R17). A bench self-test finishes, and its outcome updates AVAIL and the ledge map. -/
  | benchSelfTestDone (pb : Fin 68) (pass : Bool)
  /-- GANG_GATE_OFF (R17). A reach warden power-gates an idle, rinsed gang, which then reads out of service. -/
  | gangGateOff (g : Fin 16)
  /-- GANG_GATE_ON (R17). A reach warden ungates a gang and starts its bench self-test. -/
  | gangGateOn (g : Fin 16)
  /-- SPARE_SUBSTITUTE (R22). After Rinse, Matumon enables the spare on crossbar port 4, tests it and writes the new bench map to the Ledger. -/
  | spareSubstitute (l : Fin 4) (slot : Fin 16) (pass : Bool)
  /-- FETCH_LINE (R138). The fetch unit delivers one line of four commands to the next eligible stream in round-robin order. -/
  | fetchLine (pb : Fin 68)
  /-- POOL_WINDOW_COMPLETE (R83). A Pool window completes 8m/k bclk after its start, and its read data becomes available 3 bclk later. -/
  | poolWindowComplete (pb : Fin 68) (cmd : Nat) (port : PoolPort) (words : List (BitVec 21)) (corr : Option (BitVec 21)) (bad : Option (BitVec 21))
  /-- EXCHANGE_DATA_ARRIVAL (R167). Gang-crossbar exchange data arrives in a TE staging buffer, and the TE's exchange bubbles end. -/
  | exchangeDataArrival (pb : Fin 68)
  /-- AE_TILE_ENTER_CHUTE (R105). A finished accumulator drains into the chute with its token once the chute has room. -/
  | aeTileEnterChute (pb : Fin 68)
  /-- COMMAND_RETIRE (R141). A command or macro stage completes its last write, writes its result descriptor, releases its intervals and scoreboard entries, and retires. -/
  | commandRetire (pb : Fin 68) (cmd : Nat)
  /-- STALL_LIMIT_REACHED (R156). BENCH_STALL_COUNT reaches the limit, the stream heads are captured, QUEUE_STALL is logged and the bench halts. -/
  | stallLimitReached (pb : Fin 68)
  /-- PHASE_DRAIN_COMPLETE (R88). Every engine or Sluice command of the outgoing phase has retired, and the 8-bclk turnaround begins. -/
  | phaseDrainComplete (pb : Fin 68)
  /-- PHASE_TURNAROUND_END (R90). The turnaround ends, and the bench is in FILL or WORK. -/
  | phaseTurnaroundEnd (pb : Fin 68)
  /-- TOKEN (R163). The TOKEN command only emits or awaits a token. -/
  | token (pb : Fin 68) (st : Fin 6)
  /-- PHASE (R88). The PHASE command stops issue to the other class and starts a switch to FILL or WORK. -/
  | phase (pb : Fin 68) (st : Fin 6)
  /-- END (R138). The END command ends its stream and discards the commands queued behind it. -/
  | endStream (pb : Fin 68) (st : Fin 6)
  /-- WSIG (R299). The WSIG command sends a signal of n to a Weir. -/
  | wsig (pb : Fin 68) (st : Fin 6)
  /-- WWAIT (R299). The WWAIT command sends a wait for a Weir target and holds stream 0 until the reply. -/
  | wwait (pb : Fin 68) (st : Fin 6)
  /-- WARRIVE (R301). The WARRIVE command sends a barrier arrival to a Weir. -/
  | warrive (pb : Fin 68) (st : Fin 6)
  /-- WRESET (R299). The WRESET command sends a reset of a Weir count to zero. -/
  | wreset (pb : Fin 68) (st : Fin 6)
  /-- MSEND (R165). The MSEND command sends an active message from Foreman data memory on VC3. -/
  | msend (pb : Fin 68) (st : Fin 6)
  /-- NTT (R166). The NTT command runs a forward negacyclic transform in gang or local mode. -/
  | ntt (pb : Fin 68) (st : Fin 6)
  /-- INTT (R166). The INTT command runs an inverse negacyclic transform in gang or local mode. -/
  | intt (pb : Fin 68) (st : Fin 6)
  /-- RADD (R170). The RADD command adds residues. -/
  | radd (pb : Fin 68) (st : Fin 6)
  /-- RSUB (R170). The RSUB command subtracts residues. -/
  | rsub (pb : Fin 68) (st : Fin 6)
  /-- RNEG (R170). The RNEG command negates residues. -/
  | rneg (pb : Fin 68) (st : Fin 6)
  /-- RMUL (R171). The RMUL command multiplies residues; a slab-by-slab product also writes its companion. -/
  | rmul (pb : Fin 68) (st : Fin 6)
  /-- RMAC (R170). The RMAC command multiplies and accumulates residues into its destination. -/
  | rmac (pb : Fin 68) (st : Fin 6)
  /-- RMULS (R170). The RMULS command multiplies residues by a scalar. -/
  | rmuls (pb : Fin 68) (st : Fin 6)
  /-- RSTEP (R98). The RSTEP command applies the rescale step in raw mode. -/
  | rstep (pb : Fin 68) (st : Fin 6)
  /-- RTAIL (R98). The RTAIL command applies the base-conversion tail in raw mode. -/
  | rtail (pb : Fin 68) (st : Fin 6)
  /-- DROP (R64). The DROP command drops limbs, writes only a descriptor and moves no data. -/
  | drop (pb : Fin 68) (st : Fin 6)
  /-- MOV (R170). The MOV command copies a slab or plaintext. -/
  | mov (pb : Fin 68) (st : Fin 6)
  /-- FADD (R267). The FADD command adds floats with one rounding. -/
  | fadd (pb : Fin 68) (st : Fin 6)
  /-- FMUL (R267). The FMUL command multiplies floats with one rounding. -/
  | fmul (pb : Fin 68) (st : Fin 6)
  /-- FFMA (R174). The FFMA command performs a fused multiply-add, optionally reduced over dimension 3 and scaled. -/
  | ffma (pb : Fin 68) (st : Fin 6)
  /-- FCMP (R172). The FCMP command writes a mask from a predicate. -/
  | fcmp (pb : Fin 68) (st : Fin 6)
  /-- FSEL (R172). The FSEL command copies the elements its mask selects. -/
  | fsel (pb : Fin 68) (st : Fin 6)
  /-- FMIN (R267). The FMIN command writes the elementwise minimum. -/
  | fmin (pb : Fin 68) (st : Fin 6)
  /-- FMAX (R267). The FMAX command writes the elementwise maximum. -/
  | fmax (pb : Fin 68) (st : Fin 6)
  /-- FCVT (R268). The FCVT command converts between bf16 and fp32. -/
  | fcvt (pb : Fin 68) (st : Fin 6)
  /-- FDRAIN (R172). The FDRAIN command scales and rounds a float chute tile into its destination. -/
  | fdrain (pb : Fin 68) (st : Fin 6)
  /-- FCONV (R50). The FCONV command converts fp32 elements into fold-form residues. -/
  | fconv (pb : Fin 68) (st : Fin 6)
  /-- RCONV (R51). The RCONV command reconstructs residues by CRT and converts them to fp32. -/
  | rconv (pb : Fin 68) (st : Fin 6)
  /-- MATMUL (R178). The MATMUL command computes matrix-product tiles into the chute. -/
  | matmul (pb : Fin 68) (st : Fin 6)
  /-- TRANSPOSE (R181). The TRANSPOSE command transposes 64 x 64 tiles on the Riffle. -/
  | transpose (pb : Fin 68) (st : Fin 6)
  /-- AUTOMORPH (R181). The AUTOMORPH command applies x to x^k on bench-local polynomials. -/
  | automorph (pb : Fin 68) (st : Fin 6)
  /-- PERMUTE (R181). The PERMUTE command applies programmed permutations to blocks. -/
  | permute (pb : Fin 68) (st : Fin 6)
  /-- COPY (R183). The COPY command starts a Sluice transfer, optionally with a memory-side adder. -/
  | copy (pb : Fin 68) (st : Fin 6)
  /-- TLOAD (R184). The TLOAD command loads bench tables through the Sluice. -/
  | tload (pb : Fin 68) (st : Fin 6)
  /-- RESUME (R185). The RESUME command restarts a halted Sluice transfer from its saved position. -/
  | resume (pb : Fin 68) (st : Fin 6)
  /-- KSW (R235). The KSW command runs one stage of a key switch. -/
  | ksw (pb : Fin 68) (st : Fin 6)
  /-- ROT (R237). The ROT command runs one stage of a rotation with key switch. -/
  | rot (pb : Fin 68) (st : Fin 6)
  /-- RESCALE (R192). The RESCALE command drops the last limb with the rescale step. -/
  | rescale (pb : Fin 68) (st : Fin 6)
  /-- FRESHET (R250). The FRESHET command runs one stage of a slab refresh. -/
  | freshet (pb : Fin 68) (st : Fin 6)
  /-- PBS (R254). The PBS command bootstraps a pebble array through a test polynomial. -/
  | pbs (pb : Fin 68) (st : Fin 6)
  /-- EXTRACT (R260). The EXTRACT command runs a stage that turns slab coefficients into pebbles. -/
  | extract (pb : Fin 68) (st : Fin 6)
  /-- PACK (R262). The PACK command runs a stage that packs pebbles into a one-limb slab. -/
  | pack (pb : Fin 68) (st : Fin 6)
  /-- MILLRACE_STREAM_START (R229). A Millrace starts a bench's pending key stream once its active stream has delivered its last byte, and marks the first chunk with the tag outcome. -/
  | millraceStreamStart (pb : Fin 68)
  /-- KEY_UNIT_DELIVER (R230). A key bus delivers a 512-byte unit into a bench's key operand buffer against a credit. -/
  | keyUnitDeliver (pb : Fin 68) (ecc : Ecc)
  /-- TAG_SEND (R329). The Sluice sends its next tag at its paced time, after translating a Hall page. -/
  | tagSend (pb : Fin 68)
  /-- TAG_RESPONSE (R329). A tag's response or acknowledgement returns to the Sluice, which writes data and frees the tag. -/
  | tagResponse (pb : Fin 68) (tag : Fin 512)
  /-- PEER_TAG_ARRIVAL (R309). A peer Sluice tag reaches a bench's stop and is served in a peer window when the bench is in FILL. -/
  | peerTagArrival (pb : Fin 68) (tag : Fin 512)
  /-- BASIN_ACCESS (R295). A Basin bank port serves a Sluice access or atomic add after the lease check. -/
  | basinAccess (pb : Fin 68) (tag : Fin 512) (ecc : Ecc)
  /-- HBM_CHANNEL_ACCESS (R315). An HBM channel serves a read, write or granule add after the page-owner check. -/
  | hbmChannelAccess (pb : Fin 68) (tag : Fin 512) (ecc : Ecc)
  /-- SLUICE_READY (R332). A write of READY to BENCH_SLUICE_FAULT resumes the halted command or posts the Foreman's FAULT_TAG token. -/
  | sluiceReady (vw : View) (b : BenchRef)
  /-- WEIR_OPERATION_ARRIVAL (R300). A Weir unit serves an arriving signal, wait, arrive or reset on one Weir. -/
  | weirOperationArrival (n : Nat)
  /-- WEIR_REPLY_ARRIVAL (R207). A Weir reply reaches the requester and completes its Weir command or instruction. -/
  | weirReplyArrival (n : Nat)
  /-- FOREMAN_INSTRUCTION (R195). The Foreman executes one RV64IMAC instruction with fixed timing, raising any exception. -/
  | foremanInstruction (pb : Fin 68)
  /-- FOREMAN_INTERRUPT (R212). An enabled pending MSG, TOK6 or MTIP interrupt is taken at an instruction boundary. -/
  | foremanInterrupt (pb : Fin 68)
  /-- STALLED_INSTRUCTION_RETIRE (R203). A stalled Xchotra instruction retires, taking effect, when its wait condition ends. -/
  | stalledInstructionRetire (pb : Fin 68)
  /-- XC_PUSH (R204). The xc.push instruction pushes a command into a Foreman-fed stream. -/
  | xcPush (pb : Fin 68)
  /-- XC_PUSHM (R204). The xc.pushm instruction pushes a command-memory entry into a stream. -/
  | xcPushm (pb : Fin 68)
  /-- XC_TW (R205). The xc.tw instruction writes a table doubleword. -/
  | xcTw (pb : Fin 68)
  /-- XC_TR (R205). The xc.tr instruction reads a table doubleword. -/
  | xcTr (pb : Fin 68)
  /-- XC_TKPOST (R206). The xc.tkpost instruction increments a token count. -/
  | xcTkpost (pb : Fin 68)
  /-- XC_TKWAIT (R206). The xc.tkwait instruction consumes a destination-6 token count. -/
  | xcTkwait (pb : Fin 68)
  /-- XC_TKPOLL (R206). The xc.tkpoll instruction returns a destination-6 token count. -/
  | xcTkpoll (pb : Fin 68)
  /-- XC_WSIG (R207). The xc.wsig instruction signals a Weir. -/
  | xcWsig (pb : Fin 68)
  /-- XC_WWAIT (R207). The xc.wwait instruction waits for a Weir target. -/
  | xcWwait (pb : Fin 68)
  /-- XC_WARRIVE (R207). The xc.warrive instruction arrives at a Weir barrier. -/
  | xcWarrive (pb : Fin 68)
  /-- XC_WRESET (R207). The xc.wreset instruction resets a Weir. -/
  | xcWreset (pb : Fin 68)
  /-- XC_WREAD (R207). The xc.wread instruction reads a Weir count. -/
  | xcWread (pb : Fin 68)
  /-- XC_SEND (R208). The xc.send instruction sends an active message with one route credit. -/
  | xcSend (pb : Fin 68)
  /-- XC_RFREE (R209). The xc.rfree instruction releases ring entries and returns credits. -/
  | xcRfree (pb : Fin 68)
  /-- MESSAGE_ARRIVAL (R216). An active message arrives at a bench and is written into its ring entry, advancing WR_COUNT. -/
  | messageArrival (n : Nat)
  /-- CREDIT_RETURN_ARRIVAL (R214). A credit return adds one to a route's AVAIL, capped at CREDITS. -/
  | creditReturnArrival (n : Nat)
  /-- ROUTE_WRITE (R213). A write to a route register in IDLE sets the route and sets AVAIL to CREDITS. -/
  | routeWrite (vw : View) (b : BenchRef) (r : Fin 256) (data : Reg64)
  /-- POOL_SCRUB_STEP (R288). A Pool scrub step falls due every PERIOD tclk, counting LAG if the previous step has not completed. -/
  | poolScrubStep (pb : Fin 68) (ecc : Ecc)
  /-- BASIN_SCRUB_STEP (R290). A Basin scrub step falls due every 1,024 tclk. -/
  | basinScrubStep (l : Fin 4) (ecc : Ecc)
  /-- FOREMAN_SCRUB_STEP (R290). A Foreman memory scrub step falls due. -/
  | foremanScrubStep (pb : Fin 68) (instr : Bool) (ecc : Ecc)
  /-- LEASE_TAKE (R296). A DEVCTL_LEASE_CMD write with TAKE checks and takes COUNT leases for the requester. -/
  | leaseTake (vw : View) (tenant : BitVec 5) (ledge : BitVec 2) (count : BitVec 13) (first : BitVec 12)
  /-- LEASE_FREE (R296). A DEVCTL_LEASE_CMD write with FREE checks leases and sends them to CLEARING. -/
  | leaseFree (vw : View) (tenant : BitVec 5) (ledge : BitVec 2) (count : BitVec 13) (first : BitVec 12)
  /-- LEASE_READ (R296). A DEVCTL_LEASE_CMD write with READ reports a lease's state and owner. -/
  | leaseRead (vw : View) (ledge : BitVec 2) (first : BitVec 12)
  /-- LEASE_CMD_COMPLETE (R297). A lease command completes after 16 tclk and sets DONE and RESULT. -/
  | leaseCmdComplete
  /-- LEASE_GRANULE_SWEPT (R297). The sweeper finishes zeroing a granule, and its lease turns FREE. -/
  | leaseGranuleSwept (l : Fin 4)
  /-- HBM_REMAP (R314). Matumon changes the active channel list or split while local HBM is quiet, leaving its contents unpredictable. -/
  | hbmRemap (active : BitVec 256) (split : BitVec 7)
  /-- HBM_TEMP_SAMPLE (R319). Every 100 µs each stack's temperature is read, setting HOT and refresh and posting throttle requests. -/
  | hbmTempSample (temps : List (BitVec 8))
  /-- HBM_PATROL_READ (R322). A channel patrol reads a word in free cycles and writes back a corrected word. -/
  | hbmPatrolRead (c : Fin 256) (word : BitVec 26) (ecc : Ecc)
  /-- TG_GO (R323). A MEMC_CH_TG_CTL write with GO starts a traffic-generator run on a channel in TEST. -/
  | tgGo (vw : View) (c : Fin 256) (data : Reg64)
  /-- TG_STOP (R323). A MEMC_CH_TG_CTL write with STOP ends a run at the next granule. -/
  | tgStop (vw : View) (c : Fin 256) (data : Reg64)
  /-- TG_RUN_COMPLETE (R323). A traffic-generator run ends and records DONE, FAIL and the first failing granule. -/
  | tgRunComplete (c : Fin 256) (fails : List (BitVec 22))
  /-- HBM_FILL_GO (R324). A DEVCTL_HBM_FILL write with GO starts zeroing COUNT pages, or is ignored with OVERRUN. -/
  | hbmFillGo (vw : View) (count : BitVec 18) (first : BitVec 18)
  /-- HBM_FILL_COMPLETE (R324). A fill completes and sets DONE. -/
  | hbmFillComplete
  /-- LINK_ENABLE (R339). A FAB_PORT_CTL write that sets ENABLE takes the link from DISABLED to DETECT. -/
  | linkEnable (vw : View) (lk : Fin 64) (data : Reg64)
  /-- LINK_DISABLE (R356). A FAB_PORT_CTL write that clears ENABLE takes the link to DISABLED at once and discards partial packets. -/
  | linkDisable (vw : View) (lk : Fin 64) (data : Reg64)
  /-- LINK_RETRAIN (R358). A FAB_PORT_CTL write with RETRAIN moves an ACTIVE link to RETRAIN or a DOWN link to DETECT. -/
  | linkRetrain (vw : View) (lk : Fin 64) (data : Reg64)
  /-- LL_RESET (R358). A FAB_PORT_CTL write with LL_RESET resets the link layer at both ends and keeps the PHY locked. -/
  | llReset (vw : View) (lk : Fin 64) (data : Reg64)
  /-- LL_RESET_COMPLETE (R358). The link layer resumes after LL_RESET with sequence numbers and credits reinitialised. -/
  | llResetComplete (lk : Fin 64)
  /-- LINK_DETECT_RETRY (R339). In DETECT, the partner search retries every 1 ms and counts TRAIN_ATTEMPTS. -/
  | linkDetectRetry (lk : Fin 64)
  /-- LINK_PARTNER_SEEN (R339). The partner is seen on all lanes but one, and the link enters EQUALISE. -/
  | linkPartnerSeen (lk : Fin 64) (lanes : BitVec 8)
  /-- LINK_EQUALISE_DONE (R339). Equalisation completes and the link enters MEASURE. -/
  | linkEqualiseDone (lk : Fin 64)
  /-- LINK_MEASURE_DONE (R340). Loss and round trip are measured and recorded, and the link enters EXCHANGE. -/
  | linkMeasureDone (lk : Fin 64) (rtt : BitVec 20) (losses : List (BitVec 8))
  /-- LINK_EXCHANGE_DONE (R341). Capability blocks are exchanged, and the link enters ACTIVE in the agreed mode or goes DOWN with a reason. -/
  | linkExchangeDone (lk : Fin 64) (cap : CapBlock)
  /-- LINK_STATE_TIMEOUT (R339). A training or RETRAIN state exceeds its limit and the link returns to DETECT. -/
  | linkStateTimeout (lk : Fin 64)
  /-- LINK_RETRAIN_DONE (R339). RETRAIN completes and the link returns to ACTIVE with its link-layer state kept. -/
  | linkRetrainDone (lk : Fin 64)
  /-- LANE_FAILURE (R343). A lane loses lock or exceeds its symbol limit, and the link retrains without it or goes down. -/
  | laneFailure (lk : Fin 64) (lane : Fin 8)
  /-- FLIT_SEND (R353). At each flit slot the egress chooses a VC flit, or sends a null flit, against credits. -/
  | flitSend (lk : Fin 64)
  /-- FLIT_RECEIVE (R344). A flit is received and checked, acknowledged or NAKed, its credits applied, and its packet routed or delivered. -/
  | flitReceive (lk : Fin 64) (flit : List Byte) (uncorrectable : Bool) (corrected : BitVec 16)
  /-- MODULE_PRESENCE_SAMPLE (R514). MODPRS_N is sampled at DETECT and every 100 ms into OPTICAL. -/
  | modulePresenceSample (pins : BitVec 64)
  /-- HALL_READ_REQUEST (R363). An RD_REQ reaches the target device and is answered through the export-window checks. -/
  | hallReadRequest (n : Nat)
  /-- HALL_WRITE_REQUEST (R363). A WR_REQ reaches the target device, is applied if permitted, and is acknowledged. -/
  | hallWriteRequest (n : Nat)
  /-- BULK_RECEIVE (R417). A BULK packet arrives, and Matumon copies its record or segment and answers with BULK_ACK. -/
  | bulkReceive (n : Nat)
  /-- MGMT_PACKET_RECEIVE (R354). A VC7 management packet arrives at Matumon's mailbox. -/
  | mgmtPacketReceive (n : Nat)
  /-- HALL_TBL_COMMIT (R366). A HALL_TBL_CMD write with COMMIT replaces one route or Hall-map entry with the staged value. -/
  | hallTblCommit (vw : View) (table : BitVec 2) (index : BitVec 10)
  /-- HALL_TBL_READ (R366). A HALL_TBL_CMD write with READ copies an entry into the stage registers. -/
  | hallTblRead (vw : View) (table : BitVec 2) (index : BitVec 10)
  /-- HEARTBEAT_SEND (R375). Every 50 µs a device sends a heartbeat CTRL packet to its watcher. -/
  | heartbeatSend
  /-- HEARTBEAT_RECEIVE (R376). A watcher accepts a heartbeat and records its time, generation, state and LAG_AVG against the lag policy. -/
  | heartbeatReceive (hb : Heartbeat)
  /-- HEARTBEAT_TICK (R376). At each 50 µs tick the watcher increments MISSES for slots that sent no heartbeat. -/
  | heartbeatTick
  /-- FENCE_REQUEST_RECEIVE (R379). The chief takes a fence request, picks a spare and sends a FENCE notice down the tree. -/
  | fenceRequestReceive (slot : BitVec 14)
  /-- FENCE_NOTICE_APPLY (R380). A device applies a FENCE notice indivisibly to its generation table and override route. -/
  | fenceNoticeApply (notice : FenceNotice)
  /-- FENCE_ACKS_COMPLETE (R379). The chief has every acknowledgement and sends ADMIT to the spare. -/
  | fenceAcksComplete
  /-- ADMIT_RECEIVE (R380). A spare receives ADMIT and takes the dead slot's id, generation and role. -/
  | admitReceive (slot : BitVec 14) (gen : BitVec 16) (role : BitVec 2)
  /-- SPARE_NOTICE_RECEIVE (R383). A rinsed quarantined device receives the chief's notice naming a vacant slot as SPARE. -/
  | spareNoticeReceive (slot : BitVec 14) (gen : BitVec 16)
  /-- TRIB_TABLE_RECEIVE (R426). An admitted headwater receives its tributary table from the chief and writes it. -/
  | tribTableReceive (slots : List (Option (BitVec 14)))
  /-- CFL_INSTALL (R387). A HALL_CFL_CMD write with INSTALL checks and installs a Confluence entry. -/
  | cflInstall (vw : View) (index : BitVec 6)
  /-- CFL_REMOVE (R387). A HALL_CFL_CMD write with REMOVE removes an entry that has no run in progress. -/
  | cflRemove (vw : View) (index : BitVec 6)
  /-- CFL_READ (R387). A HALL_CFL_CMD write with READ copies an entry into the stage registers. -/
  | cflRead (vw : View) (index : BitVec 6)
  /-- CFL_CMD_COMPLETE (R387). A Confluence command completes after 32 tclk and sets DONE and RESULT. -/
  | cflCmdComplete
  /-- COLL_PACKET_RECEIVE (R391). A collective packet arrives, and the node combines its inputs in fixed order when all have arrived and records lags. -/
  | collPacketReceive (p : CollPacket)
  /-- CFL_RUN_COMPLETE (R388). After its last OUT write, a Confluence run signals the DONE Weir. -/
  | cflRunComplete (index : Fin 64)
  /-- SNAP_GO (R393). A HALL_SNAP_CTL write with GO at the chief sends a SNAP marker with a cut time. -/
  | snapGo (vw : View) (lead : BitVec 16)
  /-- SNAP_MARKER_RECEIVE (R393). A device receives a SNAP marker, or reports LATE if it is past the cut. -/
  | snapMarkerReceive (epoch : BitVec 16) (cut : Reg64)
  /-- SNAP_CUT (R393). At the cut time a device latches its link sequence numbers, lag and time and reports up. -/
  | snapCut
  /-- SNAP_REPORT_RECEIVE (R393). A snapshot report arrives up the tree, and the chief completes or fails the snapshot. -/
  | snapReportReceive (late : Bool) (final : Bool)
  /-- FRESET_GO (R394). A HALL_FRESET write with GO at the chief sends a fabric RESET notice. -/
  | fresetGo (vw : View) (hall : Bool) (part : BitVec 4)
  /-- FRESET_NOTICE_RECEIVE (R394). A device forwards the RESET notice, stops injecting, ends multi-device jobs, removes Confluence entries and resets its links. -/
  | fresetNoticeReceive (hall : Bool) (part : BitVec 4)
  /-- FRESET_REPORT_RECEIVE (R395). A completion report arrives up the tree, and the chief sets DONE when the scope is complete. -/
  | fresetReportReceive (final : Bool)
  /-- TSYNC_EXCHANGE (R486). Every 100 µs a device exchanges TSYNC packets with its upstream. -/
  | tsyncExchange
  /-- TSYNC_PACKET_RECEIVE (R486). A timestamped TSYNC reply yields an offset, the servo slews or steps, and LOCKED updates. -/
  | tsyncPacketReceive (t1 : Reg64) (t2 : Reg64) (t3 : Reg64) (t4 : Reg64)
  /-- PPS_EDGE (R487). A PPS_IN rising edge at the chief latches device time and may load a pending SET. -/
  | ppsEdge
  /-- TIME_SET (R487). A CLKPWR_TIME_CTL write with SET at the chief loads CLKPWR_TIME_SET at the next PPS edge or at once. -/
  | timeSet (vw : View) (rate : BitVec 32)
  /-- PPS_TIMEOUT (R487). No PPS edge arrives for 1.5 s, so PPS_OK clears and the chief free-runs. -/
  | ppsTimeout
  /-- WATCHDOG_FEED (R399). A core's priority-0 task feeds its watchdog every 1 ms. -/
  | watchdogFeed (k : Fin 4)
  /-- WATCHDOG_EXPIRY (R399). A core's watchdog expires; the core resets, WATCHDOG is logged and the core restarts. -/
  | watchdogExpiry (k : Fin 4) (pc : BitVec 32)
  /-- CORE_RESTART_DONE (R398). A restarted core replays the journal and completes half-made changes. -/
  | coreRestartDone (k : Fin 4)
  /-- DRV_VERSION_OFFER (R404). A MGMT_DRV_VERSION write with OFFER is accepted or refused by major version. -/
  | drvVersionOffer (vw : View) (major : BitVec 8) (minor : BitVec 8)
  /-- TENANT_OPEN (R444). The TENANT_OPEN command unwraps a manifest and binds a tenant with its tag, gangs and budget. -/
  | tenantOpen (vw : View)
  /-- TENANT_CLOSE (R409). The TENANT_CLOSE command removes a jobless tenant's keys, fills its key pages and frees its key leases. -/
  | tenantClose (vw : View)
  /-- JOB_START (R410). The JOB_START command assigns gangs, loads each bench from the job image and writes START. -/
  | jobStart (vw : View)
  /-- JOB_KILL (R409). The JOB_KILL command ends a job with cause KILLED. -/
  | jobKill (vw : View)
  /-- JOB_RELEASE (R415). The JOB_RELEASE command ends KEPT and runs the clearing of R412. -/
  | jobRelease (vw : View)
  /-- DUMP_POOL (R416). The DUMP_POOL command resets a KEPT bench and copies its Pool to tenant-0 pages. -/
  | dumpPool (vw : View)
  /-- SERVICE_OPEN (R409). The SERVICE_OPEN command starts a job in service mode with its rings. -/
  | serviceOpen (vw : View)
  /-- SERVICE_CLOSE (R421). The SERVICE_CLOSE command closes intake with QUIESCE and drains the service. -/
  | serviceClose (vw : View)
  /-- KEY_LOAD (R422). The KEY_LOAD command copies key segments, checks their digests and installs the entries. -/
  | keyLoad (vw : View)
  /-- KEY_EVICT (R409). The KEY_EVICT command removes named key entries and frees their pages. -/
  | keyEvict (vw : View)
  /-- FW_STAGE (R402). The FW_STAGE command writes an image into the slot that is not booted. -/
  | fwStage (vw : View)
  /-- FW_STAGE_VERIFIED (R402). Verification of a staged slot completes, pointing the Ledger at it with TRIAL or logging FIRMWARE_AUTH_FAIL. -/
  | fwStageVerified (img : ImageCheck) (sealFault : Bool)
  /-- JOB_END (R411). Matumon ends a job on its first end cause, sends an end record and starts clearing or keeping its gangs. -/
  | jobEnd (t : Fin 17) (cause : BitVec 4)
  /-- KEEP_LIMIT_EXPIRY (R415). KEEP_LIMIT expires for KEPT gangs and release runs the clearing. -/
  | keepLimitExpiry (t : Fin 17)
  /-- BATCH_DISPATCH (R419). Matumon writes a batch record and signals the BATCH Weir. -/
  | batchDispatch (t : Fin 17)
  /-- BATCH_WAIT_EXPIRY (R419). The oldest request of a partial batch has waited BATCH_WAIT µs, so the batch is dispatched. -/
  | batchWaitExpiry (t : Fin 17)
  /-- DONE_POLL (R419). Every POLL_US Matumon reads DONE and writes result records for newly done batches. -/
  | donePoll (t : Fin 17)
  /-- INTAKE_STARVED (R421). The intake task has not run for 100 µs, so intake closes as STARVED. -/
  | intakeStarved (t : Fin 17)
  /-- SEAL_SINGLE_REQUEST (R435). A single Kwawekan request takes the engines or queues, answered BUSY or QUEUE_FULL. -/
  | sealSingleRequest (r : SealReq) (kind : SealKind)
  /-- SEAL_INIT (R435). An INIT opens a multi-part session and takes the engines, or queues. -/
  | sealInit (r : SealReq) (kind : SealKind)
  /-- SEAL_UPDATE (R435). An UPDATE feeds data into the owner's multi-part session. -/
  | sealUpdate (r : SealReq) (bytes : Nat)
  /-- SEAL_FINAL (R435). A FINAL completes the owner's multi-part session. -/
  | sealFinal (r : SealReq)
  /-- SEAL_ABORT (R437). An ABORT ends a session at once with zeroisation. -/
  | sealAbort (r : SealReq)
  /-- SEAL_OP_COMPLETE (R430). A Kwawekan operation completes at its fixed duration and the engines pass to the queue head. -/
  | sealOpComplete (outcome : SealOutcome)
  /-- SEAL_IDLE_TIMEOUT (R437). A multi-part session idle for IDLE_LIMIT ms is abandoned. -/
  | sealIdleTimeout
  /-- ENTROPY_HEALTH_FAIL (R434). An entropy health test fails, stopping DRBG output and restarting the source. -/
  | entropyHealthFail (adaptive : Bool)
  /-- ENTROPY_RESTART_DONE (R434). The entropy source finishes its start-up tests and DRBG output resumes. -/
  | entropyRestartDone
  /-- SPDM_REQUEST (R441). An SPDM request arrives over DOE and the responder answers it. -/
  | spdmRequest (code : SpdmCode) (session : Bool)
  /-- IDE_KEY_PROG (R443). An IDE_KM KEY_PROG programs a key set that is not in use. -/
  | ideKeyProg (stream : IdeStream) (kset : Bool)
  /-- IDE_K_SET_GO (R443). An IDE_KM K_SET_GO switches a stream's key set at a TLP boundary. -/
  | ideKSetGo (stream : IdeStream) (kset : Bool)
  /-- DEBUG_CHALLENGE_READ (R447). A read of the unlock challenge returns a fresh DRBG value valid for 1 s. -/
  | debugChallengeRead
  /-- DEBUG_UNLOCK (R447). A signed SCOPE write is verified and unlocks debug if the device state allows. -/
  | debugUnlock (scope : BitVec 2) (sig : List Byte)
  /-- BAR2_WRITE (R451). A BAR2 write reaches local HBM through the window, or is suppressed. -/
  | bar2Write (vw : View) (off : BitVec 36) (bytes : List (Option Byte))
  /-- BAR2_READ (R451). A BAR2 read returns HBM data, or zeros when suppressed. -/
  | bar2Read (vw : View) (off : BitVec 36) (len : BitVec 13)
  /-- DOORBELL_REQUEST (R454). A HIF_DB_GO write with KIND REQUEST starts reading request records from host memory into the service ring. -/
  | doorbellRequest (vw : View) (tag : BitVec 16) (count : BitVec 32)
  /-- DOORBELL_COPY_IN (R455). A HIF_DB_GO write with KIND COPY_IN starts copying words from host memory to local HBM. -/
  | doorbellCopyIn (vw : View) (tag : BitVec 16) (count : BitVec 32)
  /-- DOORBELL_COPY_OUT (R455). A HIF_DB_GO write with KIND COPY_OUT starts copying words from local HBM to host memory. -/
  | doorbellCopyOut (vw : View) (tag : BitVec 16) (count : BitVec 32)
  /-- DOORBELL_HOST_DATA (R456). Host read data arrives at an intake channel and is written to the ring or to HBM. -/
  | doorbellHostData (vw : View) (d : HostData)
  /-- DOORBELL_COMPLETE (R455). A doorbell completes with its RESULT and COUNT and interrupts. -/
  | doorbellComplete (vw : View)
  /-- MBOX_CFG_WRITE (R457). A HIF_MBOX_CFG write binds a mailbox to a source and releases any present result. -/
  | mboxCfgWrite (vw : View) (m : Fin 16) (badAck : Bool) (kind : BitVec 3) (tenant : BitVec 5)
  /-- MBOX_ACK (R459). A HIF_MBOX_ACK write consumes the present result, is ignored, or sets BAD_ACK. -/
  | mboxAck (vw : View) (m : Fin 16) (mseq : BitVec 32)
  /-- MBOX_RESULT_PRESENT (R458). A source's next result becomes present in its mailbox with the next MSEQ. -/
  | mboxResultPresent (vw : View) (m : Fin 16)
  /-- VF_BIND_WRITE (R449). A HIF_VF_BIND write binds a VF to a tenant, with the effect of an FLR of that VF. -/
  | vfBindWrite (vw : View) (v : Fin 16) (en : Bool) (tenant : BitVec 5)
  /-- MGMT_CMD_START (R462). A HIF_MGMT_CMD write with START begins a management command. -/
  | mgmtCmdStart (vw : View) (code : BitVec 8) (length : BitVec 32)
  /-- MGMT_CMD_ABORT (R462). A HIF_MGMT_CMD write with ABORT discards a command not yet passed to Matumon. -/
  | mgmtCmdAbort (vw : View)
  /-- MGMT_DATA_WRITE (R463). A HIF_MGMT_DATA write appends an argument word and passes the command on when complete. -/
  | mgmtDataWrite (vw : View) (data : Reg64)
  /-- MGMT_DATA_READ (R463). A HIF_MGMT_DATA read returns the next response word, or sets UNDERRUN. -/
  | mgmtDataRead (vw : View)
  /-- I3C_PRIVATE_WRITE (R464). An I3C private write frame carries an offset and words to the I3C register view. -/
  | i3cPrivateWrite (off : BitVec 32) (words : List Reg64)
  /-- I3C_PRIVATE_READ (R464). An I3C private read frame returns words from the offset written before it. -/
  | i3cPrivateRead (k : BitVec 6)
  /-- FUNCTION_LEVEL_RESET (R465). An FLR abandons the function's doorbell and commands and clears its HIF state. -/
  | functionLevelReset (f : Fin 16)
  /-- PWROK_RISE (R466). PWROK rises, the straps are latched and the root PLL starts locking. -/
  | pwrokRise (bootSrc : BitVec 2) (roleSel : BitVec 2)
  /-- ROOT_PLL_LOCK (R485). The root PLL locks, device time starts at 0 and the device enters CLEARING. -/
  | rootPllLock
  /-- PLL_LOCK_TIMEOUT (R470). The root PLL has not locked after 1 ms, so the device enters FAILED. -/
  | pllLockTimeout
  /-- PWROK_FALL (R467). PWROK falls, every activity stops and the device enters OFF. -/
  | pwrokFall (lowNs : Nat)
  /-- PERST_ASSERT (R476). PERST_N falls and the device is held in reset. -/
  | perstAssert
  /-- PERST_RELEASE (R477). PERST_N rises and the device runs warm CLEARING. -/
  | perstRelease
  /-- BOOT_IMAGE_VERIFIED (R439). The boot chain finishes authenticating the slot and releases M0-M3, or falls back or fails. -/
  | bootImageVerified (img : ImageCheck) (sealFault : Bool)
  /-- CLEARING_COMPLETE (R479). Boot completes and the device leaves CLEARING for HELD or READY. -/
  | clearingComplete
  /-- LEDGER_WRITE (R484). Matumon starts writing the non-current Ledger bank with the next SEQ. -/
  | ledgerWrite
  /-- LEDGER_WRITE_COMPLETE (R484). The Ledger write is read back and checked, and the bank becomes current, is retried, or fails. -/
  | ledgerWriteComplete (ok : Bool)
  /-- DIE_TEMP_SAMPLE (R491). Every 10 µs the die sensors are sampled, and the clock unit posts or releases its request at THW. -/
  | dieTempSample (temps : List (BitVec 16))
  /-- THERMAL_TRIP (R475). A die or stack reaches trip, clocks stop, THERMTRIP_N asserts and the device enters FAILED. -/
  | thermalTrip (sensor : BitVec 8) (celsius : BitVec 8)
  /-- RAIL_SAMPLE (R488). Every 100 µs the rail, current and reach power gauges take a sample. -/
  | railSample (rails : List (BitVec 16)) (currents : List (BitVec 16)) (powers : List (BitVec 16))
  /-- REACH_WARDEN_EVAL (R471). A reach warden posts, deepens or releases a throttle request from its temperature and power. -/
  | reachWardenEval (k : Fin 4)
  /-- THROTTLE_FLOOR_WRITE (R18). A write of CLKPWR_THROTTLE.HOST posts the physical function's floor request. -/
  | throttleFloorWrite (vw : View) (floor : BitVec 2)
  /-- THROTTLE_TARGET_CHANGE (R472). TARGET differs from STEP, so the clock unit raises VDD_CORE first if needed and sets HOLD. -/
  | throttleTargetChange
  /-- VCORE_ACK (R469). The regulator acknowledges an AVSBus setpoint, or a transaction fails and is counted. -/
  | vcoreAck (ok : Bool)
  /-- SWITCH_POINT (R472). At the first frame edge with no busy engine, every bench changes divider, HOLD clears and VDD_CORE may be lowered. -/
  | switchPoint
  /-- SPOIL_ENTRY_ARRIVAL (R493). An event arrives at the log unit and is written as an entry with the next SEQ. -/
  | spoilEntryArrival (n : Nat)
  /-- SPOIL_CLEAR (R495). A SPOIL_CTL write with CLEAR empties the log and restarts SEQ at 1. -/
  | spoilClear (vw : View)
  /-- SPOIL_DATA_READ (R497). A SPOIL_DATA read latches or returns a doubleword of the selected entry and advances SPOIL_SEL. -/
  | spoilDataRead (vw : View)
  /-- TRIG_IN_SNAPSHOT_EDGE (R515). An accepted TRIG_IN[0] edge at the chief acts as a snapshot GO. -/
  | trigInSnapshotEdge
  /-- TRIG_IN_HALT_EDGE (R515). An accepted TRIG_IN[1] edge under debug unlock halts every bench in FILL or WORK. -/
  | trigInHaltEdge
  /-- TRIG_OUT_SECOND (R516). At each whole second of device time TRIG_OUT[0] pulses high for 1 µs. -/
  | trigOutSecond
  /-- REFUSED_ACCESS (R501). A BAR0 or I3C register access that fails a judging check (width, view, unimplemented offset or register rule) reads as all ones, changes nothing and logs one HOST_ACCESS_ERROR. -/
  | refusedAccess (vw : View) (off : BitVec 26) (data : Option Reg64) (width : AccessWidth)
  /-- UNDEFINED_OPCODE (R125). A command word whose OPCODE is 0x00 or undefined, or a macro opcode absent from the store, reaches the head of its queue and is rejected as ILLEGAL_COMMAND, halting the bench. -/
  | undefinedOpcode (pb : Fin 68) (st : Fin 6)
  /-- HOST_COMPLETION_TIMEOUT (R455). A host read of an intake DMA channel times out, stopping the COPY_IN or REQUEST doorbell with HOST_ERROR and reporting it through AER. -/
  | hostCompletionTimeout (vw : View)
  /-- BULK_ACK_RECEIVE (R421). A BULK_ACK arrives at the producer's Matumon, confirming the record or refusing it with INTAKE_CLOSED so that the producer keeps it to retry. -/
  | bulkAckReceive (n : Nat)
  /-- PCIE_CONFIG_ACCESS (R470). A PCIe configuration request reaches the endpoint and is answered from configuration space, including SR-IOV and MSI-X capability settings, even in FAILED. -/
  | pcieConfigAccess (f : Fin 16) (off : BitVec 12) (data : Option (BitVec 32))
  /-- I3C_CCC (R464). An I3C common command code frame, such as ENTDAA dynamic address assignment, is received and acted on by the target. -/
  | i3cCcc (c : I3cCcc)
  deriving DecidableEq, Repr

end Sys2Proof
end

