-- ==== Sys2Proof/Decode.lean ====
section
/-! DEFINITION. The commands that a word spells. No row of spec/opcode_table.json gives its command any bits (every row's field
list is empty): a command of this block is an access, a bench command in a queue or an event, and is not encoded as a
word of the table. -/

namespace Sys2Proof

/-- The command that a word of the table's bits spells: none, for no row gives bits (log 14). -/
def decodeTableWord (_nbits _w : Nat) : Option Instr := none

end Sys2Proof
end

