-- ==== Sys2Proof/Machine/Bits.lean ====
section
/-! DEFINITION. Bit fields of words, sign extension, byte order (little-endian, R7) and the register-field types. -/

namespace Sys2Proof.Machine

/-- Bits hi down to lo of a natural number. -/
def bits (w hi lo : Nat) : Nat := (w >>> lo) % 2 ^ (hi + 1 - lo)

/-- One bit of a natural number. -/
def bit (w i : Nat) : Bool := (w >>> i) % 2 = 1

/-- A field of a register word as a number. -/
def getBits {n : Nat} (w : BitVec n) (hi lo : Nat) : Nat := bits w.toNat hi lo

/-- The word with ones in bits hi down to lo. -/
def fieldMask (n hi lo : Nat) : BitVec n := BitVec.ofNat n ((2 ^ (hi + 1 - lo) - 1) <<< lo)

/-- A register word with one field replaced; the value is taken modulo the field's size. -/
def putBits {n : Nat} (w : BitVec n) (hi lo v : Nat) : BitVec n :=
  (w &&& ~~~ fieldMask n hi lo) ||| BitVec.ofNat n ((v % 2 ^ (hi + 1 - lo)) <<< lo)

/-- A field of a register: the register's key and the field's bits. -/
structure Fld where
  key : Nat
  hi : Nat
  lo : Nat
  deriving DecidableEq, Repr

/-- The access codes of Table 0.3 (R4). -/
inductive Access | ro | rw | w1c | w1s | wo | rc
  deriving DecidableEq, Repr

/-- One field of a register table: bits, access code, reset value. -/
structure FieldSpec where
  hi : Nat
  lo : Nat
  acc : Access
  rst : Nat
  deriving DecidableEq, Repr

/-- One register, or one array of registers at a fixed stride. -/
structure RegSpec where
  name : String
  base : Nat
  stride : Nat
  first : Nat
  count : Nat
  fields : List FieldSpec
  deriving DecidableEq, Repr

/-- A number as a two's-complement integer of n bits. -/
def toSigned (n v : Nat) : Int := if 2 * (v % 2 ^ n) < 2 ^ n then (v % 2 ^ n : Nat) else (v % 2 ^ n : Nat) - (2 ^ n : Nat)

/-- An integer as n bits of two's complement. -/
def ofSigned (n : Nat) (v : Int) : Nat := (v % (2 ^ n : Nat)).toNat

/-- Sign extension of the low m bits of v to n bits. -/
def sext (m n v : Nat) : Nat := ofSigned n (toSigned m v)

/-- The bytes of a number, least significant first (R7). -/
def toBytes : Nat → Nat → List Nat
  | 0, _ => []
  | k + 1, v => v % 256 :: toBytes k (v / 256)

/-- The number that bytes spell, least significant first (R7). -/
def ofBytes : List Nat → Nat
  | [] => 0
  | b :: bs => b % 256 + 256 * ofBytes bs

/-- The number with the low k bits reversed (R43). -/
def brv (v k : Nat) : Nat := (List.range k).foldl (fun r i => r + (if bit v i then 2 ^ (k - 1 - i) else 0)) 0

/-- Quotient rounded up. -/
def cdiv (a b : Nat) : Nat := (a + b - 1) / b

/-- The number of set bits among the low k. -/
def popcount (v k : Nat) : Nat := ((List.range k).filter (bit v)).length

/-- The lowest set bit below k. -/
def lowestBit (v k : Nat) : Option Nat := (List.range k).find? (bit v)

/-- An exact logarithm, where the number is a power of two up to 2 ^ 64. -/
def log2? (v : Nat) : Option Nat := (List.range 65).find? (fun k => decide (2 ^ k = v))

end Sys2Proof.Machine
end

