-- ==== Sys2Proof/Machine/Float.lean ====
section
/-! DEFINITION. Float arithmetic: classification, one rounding to nearest even with results below the normal range flushed
after rounding, sums, products, the group addition of the Array engine and the conversions: R263-R274 of
spec/10_float_tensors.md, R50 and R51 of spec/02_residues.md. -/

namespace Sys2Proof.Machine

/-- The two storage formats. -/
inductive FFmt | fp32 | bf16
  deriving DecidableEq, Repr

/-- Significant bits of a format (R266). -/
def FFmt.prec : FFmt → Nat
  | .fp32 => 24
  | .bf16 => 8

/-- Bytes of an element. -/
def FFmt.size : FFmt → Nat
  | .fp32 => 4
  | .bf16 => 2

/-- A float operand as arithmetic reads it (R263, R264): a finite value is m * 2 ^ e with a sign. -/
inductive FVal
  | nan
  | inf (neg : Bool)
  | fin (neg : Bool) (m : Nat) (e : Int)
  deriving DecidableEq, Repr

/-- The result of one arithmetic operation: its bits, and whether it was flushed to zero (R276's counters). -/
structure FRes where
  bits : Nat
  flushed : Bool
  deriving DecidableEq, Repr

/-- The operand that bits spell; a subnormal counts as zero of its sign (R264). -/
def FFmt.read (f : FFmt) (b : Nat) : FVal :=
  let fr := f.prec - 1
  let frac := b % 2 ^ fr
  let ex := (b / 2 ^ fr) % 256
  let neg := bit b (fr + 8)
  if ex = 255 then (if frac = 0 then .inf neg else .nan)
  else if ex = 0 then .fin neg 0 0
  else .fin neg (2 ^ fr + frac) ((ex : Int) - 127 - fr)

/-- The canonical quiet NaN of a format (R265). -/
def FFmt.qnan (f : FFmt) : Nat := 255 * 2 ^ (f.prec - 1) + 2 ^ (f.prec - 2)

/-- The infinity of a sign. -/
def FFmt.infBits (f : FFmt) (neg : Bool) : Nat := (if neg then 2 ^ (f.prec + 7) else 0) + 255 * 2 ^ (f.prec - 1)

/-- The zero of a sign. -/
def FFmt.zeroBits (f : FFmt) (neg : Bool) : Nat := if neg then 2 ^ (f.prec + 7) else 0

/-- A magnitude shifted right by k bits, rounded to nearest, ties to even. -/
def rneShift (m k : Nat) : Nat :=
  let q := m / 2 ^ k
  let r := m % 2 ^ k
  if 2 * r > 2 ^ k ∨ (2 * r = 2 ^ k ∧ q % 2 = 1) then q + 1 else q

/-- One rounding of an exact value to a format (R266). -/
def FFmt.round (f : FFmt) : FVal → FRes
  | .nan => ⟨f.qnan, false⟩
  | .inf neg => ⟨f.infBits neg, false⟩
  | .fin neg m e =>
    if m = 0 then ⟨f.zeroBits neg, false⟩
    else
      let len := Nat.log2 m + 1
      let k := len - f.prec
      let q := if len < f.prec then m * 2 ^ (f.prec - len) else rneShift m k
      let e1 : Int := if len < f.prec then e - ((f.prec - len : Nat) : Int) else e + (k : Int)
      let up := decide (q = 2 ^ f.prec)
      let q2 := if up then q / 2 else q
      let e2 := if up then e1 + 1 else e1
      let ex := e2 + (f.prec - 1 : Nat)
      if ex > 127 then ⟨f.infBits neg, false⟩
      else if ex < -126 then ⟨f.zeroBits neg, true⟩
      else ⟨f.zeroBits neg + (ex + 127).toNat * 2 ^ (f.prec - 1) + (q2 - 2 ^ (f.prec - 1)), false⟩

/-- The exact product (R267, R269): 0 times infinity is NaN. -/
def FVal.mul : FVal → FVal → FVal
  | .nan, _ => .nan
  | _, .nan => .nan
  | .inf a, .inf b => .inf (a != b)
  | .inf a, .fin b m _ => if m = 0 then .nan else .inf (a != b)
  | .fin a m _, .inf b => if m = 0 then .nan else .inf (a != b)
  | .fin a m e, .fin b n f => .fin (a != b) (m * n) (e + f)

/-- A finite value as an integer multiple of 2 ^ e0, for e0 at or below its exponent. -/
def FVal.scaled (e0 : Int) : FVal → Int
  | .fin neg m e => (if neg then -1 else 1) * ((m * 2 ^ (e - e0).toNat : Nat) : Int)
  | _ => 0

/-- The exponent of a finite value. -/
def FVal.expo : FVal → Int
  | .fin _ _ e => e
  | _ => 0

/-- Whether a value is a zero of negative sign. -/
def FVal.isNegZero : FVal → Bool
  | .fin neg m _ => neg && decide (m = 0)
  | _ => false

/-- Whether a value is an infinity of a sign. -/
def FVal.isInf (neg : Bool) : FVal → Bool
  | .inf n => n == neg
  | _ => false

/-- An integer multiple of 2 ^ e as a value; a zero takes the sign given. -/
def FVal.ofInt (z : Int) (e : Int) (negZero : Bool) : FVal :=
  if z = 0 then .fin negZero 0 0 else .fin (decide (z < 0)) z.natAbs e

/-- The exact sum of addends under R266: a zero sum is negative only if every addend is negative zero. -/
def FVal.sum (l : List FVal) : FVal :=
  if l.any (fun x => decide (x = .nan)) then .nan
  else if l.any (FVal.isInf true) && l.any (FVal.isInf false) then .nan
  else if l.any (FVal.isInf true) then .inf true
  else if l.any (FVal.isInf false) then .inf false
  else
    let e0 := l.foldl (fun a x => min a x.expo) 0
    FVal.ofInt (l.foldl (fun a x => a + x.scaled e0) 0) e0 (l.all FVal.isNegZero)

/-- Comparison of two values that are not NaN: -1, 0 or 1; the zeros are equal. -/
def FVal.cmp (a b : FVal) : Int :=
  if a = b then 0 else
  match a, b with
  | .inf true, _ => -1
  | _, .inf true => 1
  | .inf false, _ => 1
  | _, .inf false => -1
  | a, b =>
    let e0 := min a.expo b.expo
    let d := a.scaled e0 - b.scaled e0
    if d < 0 then -1 else if d = 0 then 0 else 1

/-- FADD (Table 10.2). -/
def fAdd (out : FFmt) (a b : FVal) : FRes := out.round (FVal.sum [a, b])

/-- FMUL (Table 10.2). -/
def fMul (out : FFmt) (a b : FVal) : FRes := out.round (a.mul b)

/-- FFMA (Table 10.2): the product is one addend. -/
def fFma (out : FFmt) (a b d : FVal) : FRes := out.round (FVal.sum [a.mul b, d])

/-- FMIN and FMAX (Table 10.2): -0 lies below +0. -/
def fMinMax (out : FFmt) (isMax : Bool) (a b : FVal) : FRes :=
  if a = .nan ∨ b = .nan then ⟨out.qnan, false⟩
  else
    let c := a.cmp b
    let aLess := decide (c < 0) || (decide (c = 0) && a.isNegZero)
    out.round (if aLess != isMax then a else b)

/-- FCMP's predicate (R172): 0 equal, 1 less, 2 less or equal, 3 not equal; false with a NaN. -/
def fCmp (pred : Nat) (a b : FVal) : Bool :=
  if a = .nan ∨ b = .nan then false
  else
    let c := a.cmp b
    if pred = 0 then decide (c = 0) else if pred = 1 then decide (c < 0)
    else if pred = 2 then decide (c ≤ 0) else decide (c ≠ 0)

/-- The integer nearest to an exact value, ties to even, clamped (R50). -/
def fToInt (x : FVal) : Int :=
  let top : Int := 2 ^ 62 - 1
  match x with
  | .nan => 0
  | .inf neg => if neg then -top else top
  | .fin neg m e =>
    let a : Nat := if e ≥ 0 then m * 2 ^ (min e.toNat 128) else rneShift m (-e).toNat
    let z : Int := min (a : Int) top
    if neg then -z else z

/-- R51: the product of the centred integer v and the scale, rounded once to fp32. -/
def fFromInt (v : Int) (s : FVal) : FRes :=
  match s with
  | .fin _ m _ => if v = 0 ∧ m ≠ 0 then ⟨0, false⟩ else FFmt.fp32.round ((FVal.ofInt v 0 false).mul s)
  | _ => FFmt.fp32.round ((FVal.ofInt v 0 false).mul s)

/-- The fp32 value one (for conversions). -/
def fOneBits : Nat := 0x3F800000

/-- One product of the Array engine in the form of R269: sign, M, e; none for a zero product. -/
def prodTerm (a b : Nat) : FVal × Option (Bool × Nat × Int) :=
  let x := FFmt.bf16.read a
  let y := FFmt.bf16.read b
  let p := x.mul y
  match p with
  | .fin neg m e => (p, if m = 0 then none else some (neg, m, e + 14))
  | _ => (p, none)

/-- The aligned addend of one product below exponent top (R271). -/
def groupAddend (top : Int) (t : Bool × Nat × Int) : Int :=
  let d : Int := top - t.2.2 - 40
  let v : Nat := if d ≤ 0 then t.2.1 * 2 ^ (1 - d).toNat
    else (t.2.1 / 2 ^ d.toNat) * 2 + (if t.2.1 % 2 ^ d.toNat ≠ 0 then 1 else 0)
  if t.1 then -(v : Int) else v

/-- R271: one group of products added into an fp32 accumulator with one rounding. -/
def groupAdd (acc : Nat) (ps : List (FVal × Option (Bool × Nat × Int))) : FRes :=
  let a := FFmt.fp32.read acc
  if a = .nan ∨ ps.any (fun p => decide (p.1 = .nan)) then ⟨FFmt.fp32.qnan, false⟩
  else
    let pinf := ps.any (fun p => p.1.isInf false)
    let ninf := ps.any (fun p => p.1.isInf true)
    if pinf && ninf then ⟨FFmt.fp32.qnan, false⟩
    else if pinf || ninf then
      (if a.isInf (!ninf) then ⟨FFmt.fp32.qnan, false⟩ else ⟨FFmt.fp32.infBits ninf, false⟩)
    else if a.isInf true || a.isInf false then ⟨acc, false⟩
    else
      let ts := ps.filterMap Prod.snd
      match ts with
      | [] => ⟨acc, false⟩
      | t :: rest =>
        let top := rest.foldl (fun m x => max m x.2.2) t.2.2
        let s := ts.foldl (fun x y => x + groupAddend top y) 0
        FFmt.fp32.round (FVal.sum [a, FVal.ofInt s (top - 55) false])

/-- Whether result bits are a NaN of the format. -/
def FFmt.isNan (f : FFmt) (b : Nat) : Bool := decide (f.read b = .nan)
/-- Whether result bits are an infinity of the format. -/
def FFmt.isInfinite (f : FFmt) (b : Nat) : Bool := (f.read b).isInf true || (f.read b).isInf false

end Sys2Proof.Machine
end

