-- ==== Sys2Proof/Config.lean ====
section
/-! DEFINITION. What the spec leaves open. Every constant here is opaque: nothing in Lean can evaluate it or prove a value of
it. Each is named in a log entry (notes/assumptions). The first argument of a free constant is the number that the
step takes from State.fresh. -/

namespace Sys2Proof

/-- A byte of a memory whose contents the spec calls unpredictable, by content number and address (log 1). -/
opaque Config.freeByte : Nat → Nat → Byte

/-- A value the spec leaves undefined, by number (log 1). -/
opaque Config.freeWord : Nat → Reg64

/-- A choice the spec leaves open, by number (log 1). -/
opaque Config.freeBool : Nat → Bool

/-- DEVCTL_SERIAL, fused at manufacture (log 6). -/
opaque Config.serial : Reg64

/-- The fused AVS codes V4, V5, V6 and V8 of CLKPWR_VCORE, by divider code (log 7). -/
opaque Config.fusedVolt : Nat → BitVec 8

/-- The straps BOOT_SRC and ROLE_SEL as latched at power-on (log 8). -/
opaque Config.strap : Nat → BitVec 2

/-- CRC-32C of the flow key that some header fields form: how they are packed into bytes is not stated (log 21). -/
opaque Config.flowHash : List Nat → Nat

/-- The device's own Odyan link major version (log 22). -/
opaque Config.linkMajor : Nat

/-- The parameter set that a key entry of kind 3, 5 or 6 is sized for at its INSTALL, by the entry's doubleword 0: an entry
names none (log 24). -/
opaque Config.keySet : Nat → Nat

/-- The limb count of a FRESHET stage that Table 9.5 gives only as a range, by parameter set and stage (log 25). -/
opaque Config.freshetLimbs : Nat → Nat → Nat

/-- The plaintext of a wrapped manifest (bytes as in R444) under the device's manifest key; none where the key agreement or the
tag check fails (log 9). -/
opaque Config.unwrapManifest : List Byte → Option (List Byte)

/-- Which HBM stacks the package holds (log 29). -/
opaque Config.stackPresent : Nat → Bool

/-- The parameter sets with cycle-table entries in a macro image other than the shipped one, by version and register (log 16). -/
opaque Config.psetAvail : Nat → Nat → Reg64

/-- Whether a debug-unlock signature verifies: by the number of the challenge, SCOPE, and the signature (log 9). -/
opaque Config.debugSignatureOk : Nat → Nat → List Byte → Bool

end Sys2Proof
end

