-- ==== Sys2Proof/Machine/Store.lean ====
section
/-! DEFINITION. Sparse stores in one canonical form. A store is a list of (key, value) pairs with strictly rising keys and no
entry equal to what an unlisted key reads as, so that equal stores are equal lists. Byte memories are stores of
Host.Cell with a rule for unlisted addresses. -/

namespace Sys2Proof.Machine

/-- What key k holds; an unlisted key holds d k. -/
def Sparse.get {β : Type} (d : Nat → β) : List (Nat × β) → Nat → β
  | [], k => d k
  | (a, v) :: m, k => if k = a then v else Sparse.get d m k

/-- The store without key k. -/
def Sparse.erase {β : Type} : List (Nat × β) → Nat → List (Nat × β)
  | [], _ => []
  | (a, v) :: m, k => if k = a then Sparse.erase m k else (a, v) :: Sparse.erase m k

/-- An entry put in its place by key. -/
def Sparse.place {β : Type} : List (Nat × β) → Nat → β → List (Nat × β)
  | [], k, v => [(k, v)]
  | (a, w) :: m, k, v => if k < a then (k, v) :: (a, w) :: m else (a, w) :: Sparse.place m k v

/-- The store with key k holding v, in canonical form. -/
def Sparse.set {β : Type} [DecidableEq β] (d : Nat → β) (m : List (Nat × β)) (k : Nat) (v : β) : List (Nat × β) :=
  if v = d k then Sparse.erase m k else Sparse.place (Sparse.erase m k) k v

/-- The canonical form: keys strictly rising, no entry at its default. -/
def Sparse.wf {β : Type} [DecidableEq β] (d : Nat → β) : List (Nat × β) → Bool
  | [] => true
  | (a, v) :: m => decide (v ≠ d a) && m.all (fun p => decide (a < p.1)) && Sparse.wf d m

/-- The store restricted to the keys that satisfy p. -/
def Sparse.keep {β : Type} (m : List (Nat × β)) (p : Nat → Bool) : List (Nat × β) := m.filter (fun e => p e.1)

/-- A byte memory: its listed cells, and the number of the free contents that unlisted bytes show, none where
unlisted bytes read zero. -/
structure Mem where
  cells : List Host.Cell
  base : Option Nat
  deriving DecidableEq, Repr

/-- What an unlisted byte reads as: zero, or the free byte of a content the spec calls unpredictable. -/
def Mem.unlisted (m : Mem) (a : Nat) : Byte :=
  match m.base with
  | none => 0
  | some n => Config.freeByte n a

/-- Memory cleared to zero (R293). -/
def Mem.zero : Mem := ⟨[], none⟩

/-- Memory whose every byte is unpredictable. -/
def Mem.free (n : Nat) : Mem := ⟨[], some n⟩

/-- One byte read. -/
def Mem.readByte (m : Mem) (a : Nat) : Byte := Sparse.get m.unlisted m.cells a

/-- One byte written. -/
def Mem.writeByte (m : Mem) (a : Nat) (v : Byte) : Mem := { m with cells := Sparse.set m.unlisted m.cells a v }

/-- The canonical form of a byte memory. -/
def Mem.wf (m : Mem) : Bool := Sparse.wf m.unlisted m.cells

/-- n bytes from address a, lowest first. -/
def Mem.readBytes (m : Mem) (a : Nat) : Nat → List Byte
  | 0 => []
  | n + 1 => m.readByte a :: Mem.readBytes m (a + 1) n

/-- A little-endian number of n bytes at address a (R7). -/
def Mem.readLE (m : Mem) (a n : Nat) : Nat := ofBytes ((m.readBytes a n).map BitVec.toNat)

/-- Bytes written from address a up. -/
def Mem.writeBytes (m : Mem) (a : Nat) : List Byte → Mem
  | [] => m
  | b :: bs => Mem.writeBytes (m.writeByte a b) (a + 1) bs

/-- A little-endian number written as n bytes at address a (R7). -/
def Mem.writeLE (m : Mem) (a n v : Nat) : Mem := m.writeBytes a ((toBytes n v).map (BitVec.ofNat 8))

/-- n bytes from address a cleared to zero. -/
def Mem.clearRange (m : Mem) (a n : Nat) : Mem :=
  match m.base with
  | none => { m with cells := Sparse.keep m.cells (fun k => decide (k < a ∨ a + n ≤ k)) }
  | some _ => m.writeBytes a (List.replicate n 0)

end Sys2Proof.Machine
end

