-- ==== Sys2Proof/Machine/BenchState.lean ====
section
/-! DEFINITION. The state of one bench: Pool, tables, streams, commands in execution, tokens, chute, key operand buffer,
Foreman, Weirs and Sluice (spec/04_bench_engines.md, spec/05_command_model.md, spec/07_foreman.md,
spec/11_on_chip_memory.md, spec/12_hbm_and_sluice.md). -/

namespace Sys2Proof.Machine

/-- A byte memory with check bits: its bytes, and the 32-byte words that decode as uncorrectable (R285, R286). -/
structure EMem where
  mem : Mem
  bad : List Nat
  deriving DecidableEq, Repr

/-- A memory cleared with valid check bits (R293). -/
def EMem.zero : EMem := ⟨Mem.zero, []⟩

/-- The states of Table 4.6. -/
inductive BMode | idle | fill | work | halted | rinsing
  deriving DecidableEq, Repr

/-- A queued command: its word, the PC it was fetched from, 0x3FFF when the Foreman pushed it (R158), whether it has passed
stage 2 with its token consumed (R143), and whether its word decoded as uncorrectable (R286). -/
structure QCmd where
  word : CmdWord
  pc : Nat
  passed : Bool
  bad : Bool
  deriving DecidableEq, Repr

/-- One command stream (R134, R137-R139). -/
structure Stream where
  queue : List QCmd
  fetchPc : Nat
  fetching : Bool
  closed : Bool
  ended : Bool
  retired : Nat
  deriving DecidableEq, Repr

/-- A stream with no program (reset of BENCH_STREAM_STATUS). -/
def Stream.reset : Stream := ⟨[], 0, false, false, true, 0⟩

/-- A value as an engine carries it: its bits, and whether the spec leaves it unpredictable (R85, R105, R167, R178). -/
structure El where
  v : Nat
  bad : Bool
  deriving DecidableEq, Repr

/-- A finished accumulator tile: ring or float, its 4,096 values, its token (R105, R144). -/
structure Tile where
  float : Bool
  vals : List El
  token : Option Nat
  deriving DecidableEq, Repr

/-- A 512-byte unit of key data: its 128 residues, each with its mark if nothing determines it, the mark of a tag mismatch with
the entry's tag, and the poison mark with the memory and the address of the word (R230, R231, R233). -/
structure KUnit where
  vals : List El
  mismatch : Option Nat
  poison : Bool
  hbm : Bool
  addr : Nat
  deriving DecidableEq, Repr

/-- The share of one gang-mode exchange that a bench has posted: its number, the command's opcode and shape, the
quarters it offers, polynomial by polynomial, and the positions that have taken them (R167). -/
structure XPost where
  seq : Nat
  shape : List Nat
  data : List (List El)
  taken : List Nat
  deriving DecidableEq, Repr

/-- What a command in execution still waits for before it can retire. -/
inductive Todo
  /-- A VE command: chute tiles and key units it has still to take (R100). -/
  | feed (tiles units : Nat)
  /-- An AE command: tiles in the chute, of how many (R105). -/
  | drain (next total : Nat)
  /-- A gang-mode exchange, by its number on the bench (R167). -/
  | exchange (seq : Nat)
  /-- A macro stage: key units still to consume (R230, R247). -/
  | key (left : Nat)
  /-- A Weir reply (R299). -/
  | weir
  /-- A Sluice transfer: tags not sent or not returned (R329). -/
  | sluice
  /-- A phase switch (R88, R89). -/
  | phase
  deriving DecidableEq, Repr

/-- A command in execution: what it captured at issue (R130), its tracker intervals (R148), the entries it will write
(R140), the names it keeps in use (R33, R36, R223), what it waits for, what it has taken in, and how it will retire. -/
structure Exec where
  id : Nat
  stream : Nat
  word : CmdWord
  pc : Nat
  engines : Nat
  reads : List (Nat × Nat)
  writes : List (Nat × Nat)
  descs : List (List Nat)
  loop : List Nat
  results : List (Nat × List Nat)
  sbDesc : List Nat
  sbLoop : List Nat
  chains : List Nat
  primes : List Nat
  key : Option Nat
  todo : List Todo
  halt : Option Nat
  busy : Nat
  spent : Option Nat
  inherited : Bool
  tiles : List Tile
  keys : List KUnit
  gathered : List (List XPost)
  badWords : List Nat
  broken : Bool
  deriving DecidableEq, Repr

/-- Who waits for a Weir: the requesting bench, whether its Foreman, and the number of the request. -/
structure WeirReq where
  pb : Nat
  fore : Bool
  id : Nat
  deriving DecidableEq, Repr

/-- The operations of Table 11.4. -/
inductive WeirOp | signal | wait | arrive | reset | read
  deriving DecidableEq, Repr

/-- A held wait: Weir, target, requester (R300, R302). -/
structure HeldWait where
  weir : Nat
  target : Nat
  req : WeirReq
  deriving DecidableEq, Repr

/-- A Weir operation on its way to its unit (R300). -/
structure WeirMsg where
  bench : Nat
  weir : Nat
  op : WeirOp
  arg : Nat
  req : WeirReq
  deriving DecidableEq, Repr

/-- A reply on its way back: requester and count. -/
structure WeirReply where
  req : WeirReq
  count : Nat
  deriving DecidableEq, Repr

/-- The Foreman's state (Table 7 of BENCH_FM_STATUS). -/
inductive FState | stopped | running | wfi | stalled
  deriving DecidableEq, Repr

/-- The Foreman: registers, pc, CSRs, counters, reservation, the number of its outstanding Weir request, and the fclk count with
the count at which each register can be used (R194, R195, R200, R207, Table 7.4). -/
structure Foreman where
  st : FState
  stopCause : Nat
  regs : List (Nat × Reg64)
  pc : Nat
  mie : Reg64
  mpie : Bool
  mieBit : Bool
  mtvec : Reg64
  mscratch : Reg64
  mepc : Reg64
  mcause : Reg64
  mtval : Reg64
  mcycle : Reg64
  minstret : Reg64
  timecmp : Reg64
  msgen : Nat
  tokien : Nat
  xcmsg : Reg64
  fetched : Reg64
  reserved : Bool
  weirId : Nat
  weirReply : Option Nat
  clock : Nat
  ready : List (Nat × Nat)
  deriving DecidableEq, Repr

/-- The Foreman after a bench reset (R201). -/
def Foreman.reset : Foreman :=
  ⟨.stopped, 0, [], 0, 0, false, false, 0, 0, 0, 0, 0, 0, 0, 0, 0, 0, 0, 0, false, 0, none, 0, []⟩

/-- A Sluice tag in flight: its number, the words it carries (positions in the command's word sequence, the far
byte address of the first), whether the far side has served it, and the words returned or carried, each with its
poison mark, and whether the far side refused the access (R328, R329, R363). -/
structure Tag where
  id : Nat
  first : Nat
  count : Nat
  far : Nat
  data : List (Nat × Bool)
  served : Bool
  err : Bool
  deriving DecidableEq, Repr

/-- A Sluice transfer in progress: command, next word to send and words in all, tags out, whether it is halted or about to
halt with a fault's kind (R331), and whether its first suppressed access is logged (R295, R315). -/
structure SlJob where
  cmd : Nat
  next : Nat
  total : Nat
  tags : List Tag
  halted : Bool
  pending : Bool
  fault : Nat
  warned : Bool
  deriving DecidableEq, Repr

/-- A key stream of the Millrace for one bench: its key entry and the requester's tag, what it delivers (the macro's
opcode, stage and the shape fields of its order), whether the tags match, and the units delivered and in all
(R229-R231, R247). -/
structure KStream where
  entry : Nat
  tag : Nat
  shape : List Nat
  mismatch : Bool
  sent : Nat
  total : Nat
  deriving DecidableEq, Repr

/-- What the last macro stage on a scratch region was (R188, R238): the region's first byte, the opcode and the stage, and
for a ROT what its digits were made of: shape and data. -/
structure ChainStep where
  start : Nat
  op : Nat
  stage : Nat
  made : List Nat
  deriving DecidableEq, Repr

/-- A scrubber: its row pointer, and whether a step that fell due has not completed (R288, R290). -/
structure ScrubPtr where
  row : Nat
  busy : Bool
  deriving DecidableEq, Repr

/-- A scrubber after the clearing on wake. -/
def ScrubPtr.reset : ScrubPtr := ⟨0, false⟩

/-- One physical bench. -/
structure Bench where
  mode : BMode
  haltCause : Nat
  switching : Bool
  turnaround : Bool
  target : BMode
  phaseSwitches : Nat
  abandoning : Bool
  resetHeld : Bool
  failed : Bool
  passed : Bool
  pool : EMem
  cmdMem : EMem
  descTab : EMem
  loopTab : EMem
  slots : EMem
  streams : List (Nat × Stream)
  fetchRR : Nat
  tokens : List (Nat × Nat)
  execs : List Exec
  nextId : Nat
  chute : List Tile
  keyBuf : List KUnit
  credits : Nat
  route : List Nat
  xSeq : Nat
  xPosts : List XPost
  xBroken : Bool
  chainLog : List ChainStep
  kActive : Option KStream
  kPending : Option KStream
  kWait : List KStream
  sluice : List SlJob
  tagSeq : Nat
  epoch : Nat
  fm : Foreman
  imem : EMem
  dmem : EMem
  weirs : List (Nat × Nat)
  held : List HeldWait
  scrubs : List (Nat × ScrubPtr)
  deriving DecidableEq, Repr

/-- The bench after the clearing on wake, its self-test not yet run (R112, R293). -/
def Bench.reset : Bench where
  mode := .idle
  haltCause := 0
  switching := false
  turnaround := false
  target := .fill
  phaseSwitches := 0
  abandoning := false
  resetHeld := false
  failed := false
  passed := false
  pool := EMem.zero
  cmdMem := EMem.zero
  descTab := EMem.zero
  loopTab := EMem.zero
  slots := EMem.zero
  streams := []
  fetchRR := 5
  tokens := []
  execs := []
  nextId := 0
  chute := []
  keyBuf := []
  credits := 64
  route := []
  xSeq := 0
  xPosts := []
  xBroken := false
  chainLog := []
  kActive := none
  kPending := none
  kWait := []
  sluice := []
  tagSeq := 0
  epoch := 0
  fm := Foreman.reset
  imem := EMem.zero
  dmem := EMem.zero
  weirs := []
  held := []
  scrubs := []

end Sys2Proof.Machine
end

