-- ==== Sys2Proof/Machine/FabricState.lean ====
section
/-! DEFINITION. The state of the fabric: packets, links, messages, and what is on its way between units
(spec/13_odyan_links.md, spec/07_foreman.md, spec/11_on_chip_memory.md). The registers of a link are in State.regs. -/

namespace Sys2Proof.Machine

/-- A packet: the fields of Table 13.6 and the payload bytes, and the payload words that are marked as poisoned, a mark that
no field of a flit carries (log 20). -/
structure Packet where
  dest : Nat
  src : Nat
  gen : Nat
  kind : Nat
  bytes : Nat
  srcBench : Nat
  tenant : Nat
  tag : Nat
  epoch : Nat
  argA : Nat
  address : Nat
  argB : Nat
  payload : List Byte
  marks : List Nat
  deriving DecidableEq, Repr

/-- Credits to return for one channel and class. -/
structure CreditDue where
  vc : Nat
  cls : Nat
  count : Nat
  deriving DecidableEq, Repr

/-- A flit as the link layer handles it: the fields of Table 13.5 that belong to its packet, the credit return it
carries, and its body. -/
structure Flit where
  vc : Nat
  cls : Nat
  first : Bool
  last : Bool
  stomp : Bool
  credit : Option CreditDue
  body : List Byte
  deriving DecidableEq, Repr

/-- A packet waiting in an egress: its channel and class, its length in flits, the flits that have arrived and not
been sent, how many were sent, and the link it comes from with its class there, none for the device's own (R349). -/
structure EgPacket where
  vc : Nat
  cls : Nat
  len : Nat
  flits : List Flit
  sent : Nat
  source : Option Nat
  srcCls : Nat
  deriving DecidableEq, Repr

/-- What a receiver does with the packet whose flits are arriving. -/
inductive RxAction
  | deliver
  | forward (link : Nat)
  | drop
  deriving DecidableEq, Repr

/-- A packet that a link receives: its channel, its length by header, what has arrived, what becomes of it. -/
structure RxPacket where
  vc : Nat
  cls : Nat
  len : Nat
  bodies : List (List Byte)
  stomped : Bool
  action : RxAction
  deriving DecidableEq, Repr

/-- The link layer of one link and what training found (R339-R358). -/
structure Link where
  trained : Nat
  spareLane : Option Nat
  partnerAlloc : List Nat
  txSeq : Nat
  rxSeq : Nat
  nak : Bool
  replay : List (Nat × Flit)
  resend : Nat
  failSeq : Nat
  failCount : Nat
  egress : List EgPacket
  partials : List RxPacket
  due : List CreditDue
  slotsSinceVc0 : Nat
  slotsSinceVc6 : Nat
  turn : Nat
  deficits : List Nat
  replayWindow : Nat
  replayCount : Nat
  replayLogged : Bool
  symbolWindow : Nat
  symbolCount : Nat
  optical : Bool
  resetting : Bool
  deriving DecidableEq, Repr

/-- A link that has never trained. -/
def Link.reset : Link where
  trained := 0
  spareLane := none
  partnerAlloc := []
  txSeq := 0
  rxSeq := 0
  nak := false
  replay := []
  resend := 0
  failSeq := 0
  failCount := 0
  egress := []
  partials := []
  due := []
  slotsSinceVc0 := 49
  slotsSinceVc6 := 99
  turn := 0
  deficits := []
  replayWindow := 0
  replayCount := 0
  replayLogged := false
  symbolWindow := 0
  symbolCount := 0
  optical := false
  resetting := false

/-- An active message on its way to a bench, with the buffer it holds if it came by a link (R208, R216, R351). -/
structure Message where
  dest : Nat
  ring : Nat
  handler : Nat
  seq : Nat
  srcDev : Nat
  srcBench : Nat
  srcRoute : Nat
  tenant : Nat
  arg : Nat
  payload : List Byte
  link : Option Nat
  cls : Nat
  flits : Nat
  deriving DecidableEq, Repr

/-- A credit return on its way to a bench: bench, route, drop flag (R214, R215). -/
structure CreditReturn where
  bench : Nat
  route : Nat
  dropped : Bool
  deriving DecidableEq, Repr

/-- A packet delivered to this device, and the link it came by, none when it came from the device itself (R364). -/
structure Delivered where
  packet : Packet
  link : Option Nat
  deriving DecidableEq, Repr

/-- What is on its way inside the device: Weir operations and replies, messages, credit returns, delivered packets,
and packets whose injection a fabric reset holds (R394). -/
structure Net where
  weirOps : List WeirMsg
  weirReplies : List WeirReply
  messages : List Message
  credits : List CreditReturn
  inbox : List Delivered
  held : Bool
  waiting : List Packet
  deriving DecidableEq, Repr

/-- Nothing on its way. -/
def Net.reset : Net := ⟨[], [], [], [], [], false, []⟩

end Sys2Proof.Machine
end

