-- ==== Sys2Proof/Machine/ModArith.lean ====
section
/-! DEFINITION. Shaped primes, fold form, modular operations and the negacyclic transform: R27-R51 of
spec/02_residues.md. -/

namespace Sys2Proof.Machine

/-- An entry of the prime table: p, the three exponents and the three two-bit sign codes (R28), the root and VALID. -/
structure PrimeEnt where
  p : Nat
  e1 : Nat
  e2 : Nat
  e3 : Nat
  s1 : Nat
  s2 : Nat
  s3 : Nat
  root : Nat
  valid : Bool
  deriving DecidableEq, Repr

/-- An empty slot (R34). -/
def PrimeEnt.empty : PrimeEnt := ⟨0, 0, 0, 0, 0, 0, 0, 0, false⟩

/-- The integer of a sign code (R28); 0b10 is no sign and counts as zero here, since check 2 refuses it. -/
def signVal (code : Nat) : Int := if code = 1 then 1 else if code = 3 then -1 else 0

/-- c of R27. -/
def shapeC (e : PrimeEnt) : Int :=
  signVal e.s1 * 2 ^ e.e1 + signVal e.s2 * 2 ^ e.e2 + signVal e.s3 * 2 ^ e.e3 - 1

/-- b to the power e modulo p, the exponent taken bit by bit from below, for exponents below 2 ^ fuel. -/
def powModAux : Nat → Nat → Nat → Nat → Nat → Nat
  | 0, _, _, _, acc => acc
  | fuel + 1, b, e, p, acc => powModAux fuel (b * b % p) (e / 2) p (if e % 2 = 1 then acc * b % p else acc)

/-- b to the power e modulo p, for e below 2 ^ 64. -/
def powMod (b e p : Nat) : Nat := powModAux 64 (b % p) e p (1 % p)

/-- The largest r up to fuel with 2 ^ r dividing n. -/
def twoAdic : Nat → Nat → Nat
  | 0, _ => 0
  | fuel + 1, n => if n % 2 = 0 then twoAdic fuel (n / 2) + 1 else 0

/-- The strong-probable-prime test of odd n to base b (Table 2.1, condition 6). -/
def strongProbable (n b : Nat) : Bool :=
  let r := twoAdic 32 (n - 1)
  let x := powMod b ((n - 1) / 2 ^ r) n
  decide (x = 1) || (List.range r).any (fun i => decide (powMod x (2 ^ i) n = n - 1))

/-- The RESULT of the prime acceptance test on a staged entry (Table 2.1), given the slot's INUSE: the first
condition that fails, in the table's order. -/
def primeVerdict (inuse : Bool) (e : PrimeEnt) : Nat :=
  if inuse then 1
  else if e.s1 = 2 ∨ e.s2 = 2 ∨ e.s3 = 2 then 2
  else if ¬ (18 ≤ e.e3 ∧ e.e3 < e.e2 ∧ e.e2 < e.e1 ∧ e.e1 ≤ 29) then 3
  else if ¬ (0 < shapeC e ∧ shapeC e < 2 ^ 31) then 4
  else if (e.p : Int) ≠ 2 ^ 32 - shapeC e then 5
  else if ¬ (strongProbable e.p 2 ∧ strongProbable e.p 7 ∧ strongProbable e.p 61) then 6
  else if ¬ (e.root < e.p ∧ powMod e.root (2 ^ 17) e.p = e.p - 1) then 7
  else 0

/-- One fold of R38: the low 18 bits cleared by a multiple of p and shifted away. -/
def foldOnce (p y : Nat) : Nat :=
  let m := (2 ^ 18 - y % 2 ^ 18) % 2 ^ 18
  (y + m * p) / 2 ^ 18

/-- The fold reduction of R38: x * 2 ^ -54 modulo p. The multiple m*p that the shape gives by shifts is m times p,
since p = 2 ^ 32 - c (Table 2.1, condition 5). -/
def fold3 (p x : Nat) : Nat :=
  let y := foldOnce p (foldOnce p (foldOnce p x))
  if y < p then y else y - p

/-- 2 ^ 54 modulo p (DEVCTL_PRIME_ENT_FOLD). -/
def foldOne (p : Nat) : Nat := 2 ^ 54 % p
/-- 2 ^ 108 modulo p. -/
def foldSq (p : Nat) : Nat := 2 ^ 108 % p
/-- 2 ^ 162 modulo p. -/
def foldCube (p : Nat) : Nat := 2 ^ 162 % p

/-- A 32-bit word taken as a residue operand (R39). -/
def residue (p v : Nat) : Nat := if v < p then v else v - p

/-- Table 2.3, add. -/
def addMod (p a b : Nat) : Nat := if a + b < p then a + b else a + b - p
/-- Table 2.3, sub. -/
def subMod (p a b : Nat) : Nat := if b ≤ a then a - b else a + p - b
/-- Table 2.3, neg. -/
def negMod (p a : Nat) : Nat := subMod p 0 a
/-- Table 2.3, mul of fold-form operands. -/
def mulMod (p a b : Nat) : Nat := fold3 p (a * b)
/-- Table 2.3, mac. -/
def macMod (p acc a b : Nat) : Nat := addMod p acc (mulMod p a b)

/-- The fold form of any x below 2 ^ 64 (R38). -/
def toFold (p x : Nat) : Nat := fold3 p (fold3 p x * foldCube p)

/-- The fold form of an integer of magnitude below 2 ^ 62 (R50). -/
def toFoldInt (p : Nat) (z : Int) : Nat :=
  if z < 0 then negMod p (toFold p z.natAbs) else toFold p z.natAbs

/-- The modular inverse by Fermat's theorem. -/
def invMod (p a : Nat) : Nat := powMod a (p - 2) p

/-- psi of R42, a primitive 2N-th root of unity for N = 2 ^ k. -/
def psiOf (root k p : Nat) : Nat := powMod root (2 ^ (17 - k)) p

/-- One block of a forward stage of R43: the two halves and the twiddle. -/
def nttBlock (p w : Nat) (lo hi : List Nat) : List Nat :=
  let vs := hi.map (fun x => x * w % p)
  (List.zipWith (addMod p) lo vs) ++ (List.zipWith (subMod p) lo vs)

/-- The blocks i, i + 1, ... of a forward stage with m blocks of 2t elements (R43). -/
def nttBlocks (p psi k m t : Nat) : Nat → Nat → List Nat → List Nat
  | 0, _, _ => []
  | n + 1, i, a =>
    nttBlock p (powMod psi (brv (m + i) k) p) (a.take t) ((a.drop t).take t)
      ++ nttBlocks p psi k m t n (i + 1) (a.drop (2 * t))

/-- Stages j, j + 1, ..., of the forward transform of size 2 ^ k (R43). -/
def nttStages (p psi k : Nat) : Nat → Nat → List Nat → List Nat
  | 0, _, a => a
  | n + 1, j, a => nttStages p psi k n (j + 1) (nttBlocks p psi k (2 ^ j) (2 ^ k / 2 ^ (j + 1)) (2 ^ j) 0 a)

/-- The forward transform: natural order in, bit-reversed order out, no scaling (R43). The twiddles are ordinary
powers and the elements are in fold form, so an element times a twiddle stays in fold form. -/
def nttForward (p root k : Nat) (a : List Nat) : List Nat := nttStages p (psiOf root k p) k k 0 a

/-- One block of an inverse stage of R44. -/
def inttBlock (p w : Nat) (lo hi : List Nat) : List Nat :=
  (List.zipWith (addMod p) lo hi) ++ (List.zipWith (fun u v => subMod p u v * w % p) lo hi)

/-- The blocks of an inverse stage (R44). -/
def inttBlocks (p psiInv k m t : Nat) : Nat → Nat → List Nat → List Nat
  | 0, _, _ => []
  | n + 1, i, a =>
    inttBlock p (powMod psiInv (brv (m + i) k) p) (a.take t) ((a.drop t).take t)
      ++ inttBlocks p psiInv k m t n (i + 1) (a.drop (2 * t))

/-- Stages of the inverse transform, m from 2 ^ (n - 1) down to 1 (R44). -/
def inttStages (p psiInv k : Nat) : Nat → List Nat → List Nat
  | 0, a => a
  | n + 1, a => inttStages p psiInv k n (inttBlocks p psiInv k (2 ^ n) (2 ^ k / 2 ^ (n + 1)) (2 ^ n) 0 a)

/-- The inverse transform with the factor 1/N (R44). -/
def nttInverse (p root k : Nat) (a : List Nat) : List Nat :=
  (inttStages p (invMod p (psiOf root k p)) k k a).map (fun x => x * invMod p (2 ^ k % p) % p)

/-- The automorphism x to x^g of a polynomial of n coefficients modulo x^n + 1: coefficient i goes to position
i*g mod 2n, negated where that is n or more. -/
def automorph (p g : Nat) (a : List Nat) : List Nat :=
  let n := a.length
  let ginv := (List.range (2 * n)).find? (fun h => decide (h * g % (2 * n) = 1 % (2 * n)))
  match ginv with
  | none => a
  | some h => (List.range n).map (fun j =>
      let i := j * h % (2 * n)
      if i < n then a.getD i 0 else negMod p (a.getD (i - n) 0))

/-- Multiplication by x^d modulo x^n + 1. -/
def monomialMul (p d : Nat) (a : List Nat) : List Nat :=
  let n := a.length
  (List.range n).map (fun j =>
    let i := (j + 2 * n - d % (2 * n)) % (2 * n)
    if i < n then a.getD i 0 else negMod p (a.getD (i - n) 0))

/-- The product of two polynomials in transformed form, element by element. -/
def mulPoint (p : Nat) (a b : List Nat) : List Nat := List.zipWith (mulMod p) a b

/-- The element-wise sum. -/
def addPoly (p : Nat) (a b : List Nat) : List Nat := List.zipWith (addMod p) a b

/-- The element-wise difference. -/
def subPoly (p : Nat) (a b : List Nat) : List Nat := List.zipWith (subMod p) a b

end Sys2Proof.Machine
end

