-- ==== Sys2Proof/Machine/DeviceState.lean ====
section
/-! DEFINITION. The state that the benches share and the state of the units around them. What a register shows and
nothing else holds is in State.regs; the structures here hold the rest (spec/02, 08, 11, 12, 14-19). -/

namespace Sys2Proof.Machine

/-- A chain: valid, its counts of ordinary and special primes, its 80 slot indices (R35, R36). -/
structure ChainEnt where
  valid : Bool
  ord : Nat
  spc : Nat
  idx : List Nat
  deriving DecidableEq, Repr

/-- A chain that was never loaded. -/
def ChainEnt.empty : ChainEnt := ⟨false, 0, 0, []⟩

/-- The operation that the checker of the prime and chain tables runs, with what it latched: the target, whether it
was in use at the write, the staged values (R30, R31). -/
inductive CheckerOp
  | primeLoad (slot : Nat) (inUse : Bool) (stage root : Reg64)
  | primeDelete (slot : Nat) (inUse : Bool)
  | chainLoad (chain : Nat) (inUse : Bool) (ord spc : Nat) (stage : List Nat)
  | chainDelete (chain : Nat) (inUse : Bool)
  deriving DecidableEq, Repr

/-- The prime table, the chains and their shared checker (R30-R36). -/
structure PrimeTables where
  prime : List (Nat × PrimeEnt)
  chain : List (Nat × ChainEnt)
  op : Option CheckerOp
  deriving DecidableEq, Repr

/-- What the device sends out: read data, interrupts, flits, notices on the management tree, collective packets,
answers of Kwawekan, host transactions, pulses. -/
inductive Out
  | readData (vw : View) (off : Nat) (v : Reg64)
  | bar2Data (vw : View) (bytes : List Byte)
  | i3cData (words : List Reg64)
  | irq (f : Nat) (vector : Nat)
  | ibi (source : Nat)
  | flit (link : Nat) (bytes : List Byte)
  | heartbeat (dest : Nat) (hb : Heartbeat)
  | fenceRequest (dest slot : Nat)
  | fenceNotice (n : FenceNotice)
  | fenceBack (link : Nat) (n : FenceNotice)
  | admitSpare (spare slot gen role : Nat)
  | fenceAck (slot : Nat)
  | snapMarker (epoch cut : Nat)
  | snapReport (late : Bool)
  | resetNotice (hall : Bool) (part : Nat)
  | resetReport
  | tsync (link : Nat) (time : Nat)
  | coll (dest : Nat) (p : CollPacket)
  | bulkAck (dest : Nat) (closed : Bool)
  | mgmtEvent (code : Nat) (arg : Nat)
  | sealAnswer (r : SealReq) (status : Nat) (position : Nat)
  | spdmAnswer (code : SpdmCode) (answered : Bool)
  | hostRead (vw : View) (addr len : Nat)
  | hostWrite (vw : View) (addr : Nat) (bytes : List Byte)
  | aer (vw : View)
  | config (f off : Nat) (write : Bool) (v : Reg64)
  | challenge (bytes : List Byte)
  | unlock (ok : Bool)
  | avs (code : Nat)
  | trigSecond (time : Nat)
  deriving DecidableEq, Repr

/-- The states of a Basin lease (R294). -/
inductive LeaseSt | free | taken | clearing
  deriving DecidableEq, Repr

/-- A lease: state and owner (R294). -/
structure Lease where
  st : LeaseSt
  owner : Nat
  deriving DecidableEq, Repr

/-- A lease after the clearing on wake. -/
def Lease.reset : Lease := ⟨.free, 0⟩

/-- A lease command that runs: its verb (0 TAKE, 1 FREE, 2 READ), the requester, the leases it names (R296). -/
structure LeaseOp where
  verb : Nat
  tenant : Nat
  ledge : Nat
  count : Nat
  first : Nat
  deriving DecidableEq, Repr

/-- A key table operation that runs: KEY_CMD's bits and the stage as captured (R222). -/
structure KeyOp where
  verb : Nat
  index : Nat
  stage : List Reg64
  deriving DecidableEq, Repr

/-- Basins, leases, the key table (one copy per ledge, kept equal: R222), their operations, the granules that each ledge's
sweeper has still to zero, and the Basin scrubbers. -/
structure Ledges where
  basins : List (Nat × EMem)
  leases : List (Nat × Lease)
  leaseOp : Option LeaseOp
  sweep : List (Nat × List Nat)
  keys : List (Nat × List Reg64)
  keyOp : Option KeyOp
  scrub : List (Nat × ScrubPtr)
  deriving DecidableEq, Repr

/-- Ledges after the clearing on wake. -/
def Ledges.reset : Ledges := ⟨[], [], none, [], [], none, []⟩

/-- Why Matumon or software asked for a fill (R324, R412). -/
inductive FillFor
  | register
  | clearing (tenant : Nat)
  | quarantine
  deriving DecidableEq, Repr

/-- A fill: its pages and its purpose. -/
structure FillJob where
  pages : List Nat
  purpose : FillFor
  deriving DecidableEq, Repr

/-- A traffic-generator run: its operation and granules as captured (R323). -/
structure TgRun where
  op : Nat
  pattern : Nat
  first : Nat
  lines : Nat
  deriving DecidableEq, Repr

/-- Local HBM: bytes by channel and place in the channel (channel · 2^31 + byte), page owners, fills in order, the
traffic generators that run, uncorrectable events since cold reset, and per stack and threshold the device time since
which the stack has been 3 °C below it (R315, R320, R324, R325). -/
structure Hbm where
  mem : EMem
  owners : List (Nat × Nat)
  fills : List FillJob
  tg : List (Nat × TgRun)
  uncorr : List (Nat × Nat)
  patrol : List (Nat × Nat)
  coolSince : List (Nat × Nat)
  deriving DecidableEq, Repr

/-- Local HBM after the clearing on wake: contents unpredictable until the fill, every page of tenant 0. -/
def Hbm.reset : Hbm := ⟨⟨Mem.free 0, []⟩, [], [], [], [], [], []⟩

/-- A tributary entry (HALL_TRIB_DATA) with the device time of its last heartbeat, its run above EJECT_NS, and whether its last
heartbeat reported HELD, FAILED or QUARANTINE (R376, R386, R425). -/
structure Trib where
  valid : Bool
  st : Nat
  misses : Nat
  dev : Nat
  lagAvg : Nat
  gen : Nat
  lastBeat : Option Nat
  beatsOver : Nat
  condemned : Bool
  deriving DecidableEq, Repr

/-- A tributary entry that was never written. -/
def Trib.reset : Trib := ⟨false, 0, 0, 0, 0, 0, none, 0, false⟩

/-- One input of a collective at this node: the rank it comes from, the bytes that have arrived, whether it is whole,
the device time at which it became whole, and the lag it returns (R385, R391). -/
structure CollInput where
  rank : Nat
  bytes : List (Nat × Byte)
  whole : Bool
  time : Nat
  lag : Nat
  deriving DecidableEq, Repr

/-- A run of a Confluence entry in progress: what came up, what came down, the own value as read from IN and when, whether
the node's value went up, whether the result is in OUT, whether a suppressed access has been logged (R388-R391). -/
structure CollRun where
  inputs : List CollInput
  down : List CollInput
  own : List Nat
  ownTime : Nat
  sentUp : Bool
  done : Bool
  warned : Bool
  deriving DecidableEq, Repr

/-- A Confluence entry: its eight doublewords, the runs started, the run in progress, and the collective packets that
came before this member started (R387, R388). -/
structure CflEnt where
  dws : List Reg64
  started : Nat
  run : Option CollRun
  early : List CollPacket
  deriving DecidableEq, Repr

/-- A HALL_CFL_CMD operation that runs: verb, index, the stage as captured. -/
structure CflOp where
  verb : Nat
  index : Nat
  stage : List Reg64
  deriving DecidableEq, Repr

/-- The Hall unit: generation table (state · 2^16 + generation), tributary table, route and Hall-map tables,
Confluence, fence service, snapshot (R365-R394). -/
structure Hall where
  gens : List (Nat × Nat)
  tribs : List (Nat × Trib)
  routes : List (Nat × Reg64)
  mapLo : List (Nat × Reg64)
  mapHi : List (Nat × Reg64)
  cfl : List (Nat × CflEnt)
  cflOp : Option CflOp
  fenceQueue : List Nat
  fencing : Option (Nat × Nat)
  overrides : List Nat
  snapCut : Option Nat
  deriving DecidableEq, Repr

/-- The Hall unit after a cold reset. -/
def Hall.reset : Hall := ⟨[], [], [], [], [], [], none, [], none, [], none⟩

/-- A batch on its way through a service: its number, the request records it holds (R419). -/
structure Batch where
  number : Nat
  requests : List (List Reg64)
  deriving DecidableEq, Repr

/-- A service: its rings and limits as opened; the requests of the ring that no batch has taken, each with the device time of its
acceptance, an empty record for one that was answered as malformed; the number of batches dispatched and of batches seen
done; the batches not yet answered; the result records that wait for room in their ring; whether it is closing, and
whether the closing batch has been sent (R417-R421). -/
structure Service where
  reqBase : Nat
  reqLog : Nat
  resBase : Nat
  resLog : Nat
  batchBase : Nat
  batchLog : Nat
  batchMax : Nat
  batchWait : Nat
  sources : Nat
  accepted : List (List Reg64 × Nat)
  dispatched : Nat
  doneSeen : Nat
  batches : List Batch
  finished : List (List Reg64)
  quiesce : Bool
  finalSent : Bool
  deriving DecidableEq, Repr

/-- A job: its gangs, the view that started it, debug retention, its image, whether it is a service, and, once it has ended and
is kept, the device time of its end (R407-R415). -/
structure Job where
  gangs : Nat
  starter : Nat
  debugKeep : Bool
  image : Nat
  service : Bool
  ended : Option Nat
  deriving DecidableEq, Repr

/-- A tenant: the plaintext manifest and its tag while open, the job, its service rings with what is still to be written to them,
key pages and leases with the key entry that holds them, and the device time of its last job (R409, R414, R420, R422, R445). -/
structure Tenant where
  manifest : List Byte
  tag : Reg64
  job : Option Job
  svc : Option Service
  keyPages : List (Nat × Nat)
  keyLeases : List (Nat × Nat)
  lastUse : Nat
  deriving DecidableEq, Repr

/-- A tenant that is closed. -/
def Tenant.closed : Tenant := ⟨[], 0, none, none, [], [], 0⟩

/-- The management complex beside its registers: tenants, watchdog feeds and expiries (device times), the journal of changes
(R398), the clearings in progress (tenant, gangs, device time of the end: R412), the staging in progress (twice the view plus
the slot: R402), the SEAL_FAULTs of this boot, whether an image runs (R439), and whether a quarantined device has filled its
HBM (R383). -/
structure Mgmt where
  tenants : List (Nat × Tenant)
  fed : List (Nat × Nat)
  expiries : List Nat
  journal : List (Nat × Nat)
  clearing : List (Nat × Nat × Nat)
  staged : Option Nat
  bootFaults : Nat
  booted : Bool
  quarantineFilled : Bool
  deriving DecidableEq, Repr

/-- The management complex after a cold reset. -/
def Mgmt.reset : Mgmt := ⟨[], [], [], [], [], none, 0, false, false⟩

/-- A session or single operation of Kwawekan: requester, kind, whether multi-part, whether an operation of it runs,
whether FINAL was asked, device time of its last part (R435-R437). -/
structure SealSession where
  req : SealReq
  kind : SealKind
  multi : Bool
  busy : Bool
  final : Bool
  last : Nat
  deriving DecidableEq, Repr

/-- A queued request of Kwawekan. -/
structure SealWait where
  req : SealReq
  kind : SealKind
  multi : Bool
  deriving DecidableEq, Repr

/-- Kwawekan beside its registers: owner, queue, abandoned sessions, the fused SVN_FLOOR, ROLLBACK_LOCK of the booted image, the
device time of the last entropy failure, whether the source is given up, generate requests since the last reseed, SPDM
sessions, IDE key sets programmed, the challenge (the number of its free bytes) and its expiry (R427-R447). -/
structure Seal where
  owner : Option SealSession
  queue : List SealWait
  abandoned : List SealReq
  svnFloor : Nat
  rollback : Bool
  entropyFailed : Option Nat
  entropyDead : Bool
  generated : Nat
  sessions : Nat
  ideKeys : List (Nat × Bool)
  challenge : Option (Nat × Nat)
  deriving DecidableEq, Repr

/-- Kwawekan after a cold reset. -/
def Seal.reset : Seal := ⟨none, [], [], 0, false, none, false, 0, 0, [], none⟩

/-- A management command in a view's mailbox: code, length, the words so far, whether it has passed to Matumon (R462, R463). -/
structure MgmtCmd where
  code : Nat
  length : Nat
  words : List Reg64
  passed : Bool
  deriving DecidableEq, Repr

/-- A doorbell in progress: kind, tag, count asked, done so far, host and device addresses, result when it has
stopped, and bytes that have come and do not make a record or a word yet (R453-R456). -/
structure Doorbell where
  kind : Nat
  tag : Nat
  count : Nat
  moved : Nat
  host : Nat
  dev : Nat
  result : Option Nat
  rest : List Byte
  deriving DecidableEq, Repr

/-- A result mailbox: the sequence number last acknowledged, and the present result's eight words; a present result has the next
number (R458, R459). -/
structure Mbox where
  acked : Nat
  present : Option (List Reg64)
  deriving DecidableEq, Repr

/-- The host state of one view beside its registers: command, answer words, words in the data path that Matumon has not drained, a
version offer that waits for the end of CLEARING, doorbell, mailboxes, end records waiting, and where an I3C private read
goes on (R404, R453-R464, R479). -/
structure ViewState where
  cmd : Option MgmtCmd
  resp : List Reg64
  path : Nat
  offer : Bool
  doorbell : Option Doorbell
  mbox : List (Nat × Mbox)
  endRecords : List (List Reg64)
  i3cRead : Option Nat
  deriving DecidableEq, Repr

/-- A view after reset. -/
def ViewState.reset : ViewState := ⟨none, [], 0, false, none, [], [], none⟩

/-- The host interface: the views by number (PF 0, VF n n, I3C 16), the doorbells in the order of their GO writes, and
the dynamic I3C address with its in-band-interrupt enable (R456, R464). -/
structure HostIf where
  views : List (Nat × ViewState)
  order : List Nat
  i3cAddr : Option Nat
  i3cIbi : Bool
  deriving DecidableEq, Repr

/-- The host interface after reset. -/
def HostIf.reset : HostIf := ⟨[], [], none, true⟩

/-- Where the device stands with power and resets (Table 18.6 beside MGMT_STATUS.STATE). -/
inductive PowerSt | off | locking | held | running
  deriving DecidableEq, Repr

/-- What the device wants recorded in the Ledger: the fields of Table 18.7 that it changes, and the Hall identifier, zero where there
is no Hall identity. -/
structure LedgerData where
  subst : List Nat
  mapOut : Nat
  split : Nat
  role : Nat
  startMode : Nat
  partition : Nat
  deputy : Bool
  avsEn : Bool
  devId : Nat
  watcher : Nat
  gen : Nat
  hallIdent : Nat
  slot : Nat
  trial : Bool
  version : Nat
  deriving DecidableEq, Repr

/-- The defaults of R483. -/
def LedgerData.defaults : LedgerData where
  subst := [0x7F00, 0x7F00, 0x7F00, 0x7F00]
  mapOut := 0
  split := 0
  role := 0xFF
  startMode := 0
  partition := 0
  deputy := false
  avsEn := false
  devId := 0
  watcher := 0
  gen := 0
  hallIdent := 0
  slot := 0
  trial := false
  version := 0

/-- The Ledger write in progress: the bank, its SEQ, whether it is the retry, and what it writes (R484). -/
structure LedgerOp where
  bank : Nat
  seq : Nat
  retried : Bool
  data : LedgerData
  deriving DecidableEq, Repr

/-- Clocks, power, time and the Ledger beside their registers: device time and its fraction of R485 (in 10^-9 ns), root
clock cycles since the lock, the device time at which the present boot began, the NOR, the Ledger as Matumon holds it and its
write, THERMTRIP_N, the throttle sequence (its step, and whether it waits for the regulator), the device time of the request,
AVSBus tries and code, the last die temperatures, per threshold since when a quantity has been low, each warden's request
(twice the step for temperature, plus one for power), PPS and TSYNC history, and the correction the TSYNC servo has still to
slew (in 10^-9 ns). -/
structure Power where
  st : PowerSt
  time : Nat
  frac : Int
  root : Nat
  startTime : Nat
  nor : Mem
  ledger : LedgerData
  ledgerOp : Option LedgerOp
  thermtrip : Bool
  sequence : Option (Nat × Bool)
  requestTime : Nat
  avsTries : Nat
  avsCode : Nat
  temps : List (BitVec 16)
  coolSince : List (Nat × Nat)
  lowSince : List (Nat × Nat)
  wardens : List (Nat × Nat)
  setPending : Bool
  ppsLast : Nat
  good : Nat
  badRun : Nat
  stepped : Bool
  slew : Int
  deriving DecidableEq, Repr

/-- Power and clocks after a cold reset: PWROK has risen, the straps are latched, the root PLL is about to lock (R478). -/
def Power.reset : Power where
  st := .locking
  time := 0
  frac := 0
  root := 0
  startTime := 0
  nor := Mem.zero
  ledger := LedgerData.defaults
  ledgerOp := none
  thermtrip := false
  sequence := none
  requestTime := 0
  avsTries := 0
  avsCode := 0xA0
  temps := []
  coolSince := []
  lowSince := []
  wardens := []
  setPending := false
  ppsLast := 0
  good := 0
  badRun := 0
  stepped := false
  slew := 0

/-- An event on its way to the log unit (R492, R493). -/
structure SpoilEvent where
  time : Nat
  cls : Nat
  kind : Nat
  id : Nat
  logical : Nat
  tenant : Nat
  d0 : Nat
  d1 : Nat
  deriving DecidableEq, Repr

/-- An entry of the log: its SEQ and its four doublewords. -/
structure SpoilEntry where
  seq : Nat
  words : List Reg64
  deriving DecidableEq, Repr

/-- The Spoil log: events on their way, the ring (oldest first), the entry latched for SPOIL_DATA, and for each rate
limit the millisecond window in which it last let an entry pass (R493-R497, R527). -/
structure Spoil where
  inFlight : List SpoilEvent
  ring : List SpoilEntry
  latched : List Reg64
  limits : List (Nat × Nat)
  deriving DecidableEq, Repr

/-- The log after the clearing on wake. -/
def Spoil.reset : Spoil := ⟨[], [], [], []⟩

end Sys2Proof.Machine
end

