-- ==== Sys2Proof/Machine/RegMap.lean ====
section
/-! DEFINITION. The register map: the key of every register and the place of every field, from the register
tables of the feature chapters and Tables 20.1-20.12 of spec/20_register_map.md (R500, R502). A key is the BAR0
offset of the register in its physical block; registers of which every view has its own set (R448, R404) add the
number of the view times viewBit. -/

namespace Sys2Proof.Machine

/-- The step between the register sets of two views: BAR0 is 64 MiB (R500). -/
def viewBit : Nat := 0x4000000

def Reg.DEVCTL_ID : Nat := 0x0
def Reg.DEVCTL_SERIAL : Nat := 0x8
def Reg.DEVCTL_LEDGE_MAP (L : Nat) : Nat := 0x40 + 0x8 * L
def Reg.DEVCTL_GANG_AVAIL : Nat := 0x60
def Reg.DEVCTL_PRIME_STAGE : Nat := 0x100
def Reg.DEVCTL_PRIME_ROOT_STAGE : Nat := 0x108
def Reg.DEVCTL_PRIME_CMD : Nat := 0x110
def Reg.DEVCTL_PRIME_STATUS : Nat := 0x118
def Reg.DEVCTL_PRIME_ENT_SHAPE (i : Nat) : Nat := 0x1000 + 0x20 * i
def Reg.DEVCTL_PRIME_ENT_ROOT (i : Nat) : Nat := 0x1008 + 0x20 * i
def Reg.DEVCTL_PRIME_ENT_FOLD (i : Nat) : Nat := 0x1010 + 0x20 * i
def Reg.DEVCTL_PRIME_ENT_CUBE (i : Nat) : Nat := 0x1018 + 0x20 * i
def Reg.DEVCTL_CHAIN_STAGE (k : Nat) : Nat := 0x200 + 0x8 * k
def Reg.DEVCTL_CHAIN_CMD : Nat := 0x250
def Reg.DEVCTL_CHAIN_STATUS : Nat := 0x258
def Reg.DEVCTL_CHAIN_ENT_HDR (n : Nat) : Nat := 0x2000 + 0x80 * n
def Reg.BENCH_SPENT_COUNT (pb : Nat) : Nat := 0x100380 + 0x10000 * pb
def Reg.BENCH_STATE (pb : Nat) : Nat := 0x100200 + 0x10000 * pb
def Reg.BENCH_TE_STATUS (pb : Nat) : Nat := 0x100208 + 0x10000 * pb
def Reg.BENCH_VE_STATUS (pb : Nat) : Nat := 0x100210 + 0x10000 * pb
def Reg.BENCH_AE_STATUS (pb : Nat) : Nat := 0x100218 + 0x10000 * pb
def Reg.BENCH_RIFFLE_STATUS (pb : Nat) : Nat := 0x100220 + 0x10000 * pb
def Reg.BENCH_KEYBUF_STATUS (pb : Nat) : Nat := 0x100228 + 0x10000 * pb
def Reg.BENCH_PHASE_CYCLES (pb : Nat) : Nat := 0x100230 + 0x10000 * pb
def Reg.BENCH_CTL (pb : Nat) : Nat := 0x100000 + 0x10000 * pb
def Reg.BENCH_STREAM_PC (pb s : Nat) : Nat := 0x100010 + 0x10000 * pb + 0x8 * s
def Reg.BENCH_STREAM_STATUS (pb s : Nat) : Nat := 0x100040 + 0x10000 * pb + 0x8 * s
def Reg.BENCH_TBL_ADDR (pb : Nat) : Nat := 0x100080 + 0x10000 * pb
def Reg.BENCH_TBL_DATA (pb : Nat) : Nat := 0x100088 + 0x10000 * pb
def Reg.BENCH_MACRO_ID (pb : Nat) : Nat := 0x100090 + 0x10000 * pb
def Reg.BENCH_TOKEN (pb k : Nat) : Nat := 0x100100 + 0x10000 * pb + 0x8 * k
def Reg.BENCH_TRACKER_STATUS (pb : Nat) : Nat := 0x100238 + 0x10000 * pb
def Reg.BENCH_STALL_LIMIT (pb : Nat) : Nat := 0x100300 + 0x10000 * pb
def Reg.BENCH_STALL_COUNT (pb : Nat) : Nat := 0x100308 + 0x10000 * pb
def Reg.BENCH_STALL_SNAP0 (pb s : Nat) : Nat := 0x100310 + 0x10000 * pb + 0x10 * s
def Reg.BENCH_STALL_SNAP1 (pb s : Nat) : Nat := 0x100318 + 0x10000 * pb + 0x10 * s
def Reg.BENCH_FM_CTL (pb : Nat) : Nat := 0x100400 + 0x10000 * pb
def Reg.BENCH_FM_STATUS (pb : Nat) : Nat := 0x100408 + 0x10000 * pb
def Reg.BENCH_FM_FETCH (pb : Nat) : Nat := 0x100410 + 0x10000 * pb
def Reg.BENCH_FM_MEM_ADDR (pb : Nat) : Nat := 0x100418 + 0x10000 * pb
def Reg.BENCH_FM_MEM_DATA (pb : Nat) : Nat := 0x100420 + 0x10000 * pb
def Reg.BENCH_RING_CFG (pb i : Nat) : Nat := 0x100800 + 0x10000 * pb + 0x20 * i
def Reg.BENCH_RING_PTR (pb i : Nat) : Nat := 0x100808 + 0x10000 * pb + 0x20 * i
def Reg.BENCH_RING_HEAD0 (pb i : Nat) : Nat := 0x100810 + 0x10000 * pb + 0x20 * i
def Reg.BENCH_RING_HEAD1 (pb i : Nat) : Nat := 0x100818 + 0x10000 * pb + 0x20 * i
def Reg.BENCH_ROUTE (pb r : Nat) : Nat := 0x101000 + 0x10000 * pb + 0x8 * r
def Reg.BENCH_ROUTE_STAT (pb r : Nat) : Nat := 0x101800 + 0x10000 * pb + 0x8 * r
def Reg.BENCH_HANDLER (pb h : Nat) : Nat := 0x102000 + 0x10000 * pb + 0x8 * h
def Reg.DEVCTL_KEY_STAGE (k : Nat) : Nat := 0x4000 + 0x8 * k
def Reg.DEVCTL_KEY_CMD : Nat := 0x4040
def Reg.DEVCTL_KEY_STATUS : Nat := 0x4048
def Reg.DEVCTL_MILLRACE_STATUS (L : Nat) : Nat := 0x4080 + 0x8 * L
def Reg.DEVCTL_MILLRACE_BYTES (L : Nat) : Nat := 0x40A0 + 0x8 * L
def Reg.DEVCTL_PSET_AVAIL (k : Nat) : Nat := 0x4100 + 0x8 * k
def Reg.BENCH_FLOAT_EVENTS (pb : Nat) : Nat := 0x100240 + 0x10000 * pb
def Reg.BENCH_ECC_STATUS (pb : Nat) : Nat := 0x100A00 + 0x10000 * pb
def Reg.BENCH_ECC_ADDR (pb : Nat) : Nat := 0x100A08 + 0x10000 * pb
def Reg.BENCH_SCRUB_CFG (pb : Nat) : Nat := 0x100A10 + 0x10000 * pb
def Reg.BENCH_SCRUB_STATUS (pb : Nat) : Nat := 0x100A18 + 0x10000 * pb
def Reg.BENCH_CONFL_IDX (pb : Nat) : Nat := 0x100A20 + 0x10000 * pb
def Reg.BENCH_CONFL_DATA (pb : Nat) : Nat := 0x100A28 + 0x10000 * pb
def Reg.BENCH_WEIR_SEL (pb : Nat) : Nat := 0x100A40 + 0x10000 * pb
def Reg.BENCH_WEIR_DATA (pb : Nat) : Nat := 0x100A48 + 0x10000 * pb
def Reg.BENCH_WEIR_STATUS (pb : Nat) : Nat := 0x100A50 + 0x10000 * pb
def Reg.DEVCTL_LEASE_CMD : Nat := 0x5000
def Reg.DEVCTL_LEASE_STATUS : Nat := 0x5008
def Reg.DEVCTL_LEASE_COUNT (L : Nat) : Nat := 0x5010 + 0x8 * L
def Reg.DEVCTL_BASIN_ECC (L : Nat) : Nat := 0x5040 + 0x8 * L
def Reg.DEVCTL_BASIN_ECC_ADDR (L : Nat) : Nat := 0x5060 + 0x8 * L
def Reg.DEVCTL_BASIN_CONFL_IDX : Nat := 0x5080
def Reg.DEVCTL_BASIN_CONFL_DATA : Nat := 0x5088
def Reg.DEVCTL_HBM_CFG : Nat := 0x6000
def Reg.DEVCTL_HBM_ACT (k : Nat) : Nat := 0x6008 + 0x8 * k
def Reg.DEVCTL_HBM_THERM : Nat := 0x6030
def Reg.DEVCTL_HBM_STACK (x : Nat) : Nat := 0x6040 + 0x8 * x
def Reg.DEVCTL_HBM_PAGE_SEL : Nat := 0x6080
def Reg.DEVCTL_HBM_PAGE_DATA : Nat := 0x6088
def Reg.DEVCTL_HBM_FILL : Nat := 0x6090
def Reg.MEMC_CH_STATUS (c : Nat) : Nat := 0xC0000 + 0x100 * c
def Reg.MEMC_CH_ECC (c : Nat) : Nat := 0xC0008 + 0x100 * c
def Reg.MEMC_CH_ECC_ADDR (c : Nat) : Nat := 0xC0010 + 0x100 * c
def Reg.MEMC_CH_BYTES (c : Nat) : Nat := 0xC0018 + 0x100 * c
def Reg.MEMC_CH_TG_CTL (c : Nat) : Nat := 0xC0020 + 0x100 * c
def Reg.MEMC_CH_TG_RANGE (c : Nat) : Nat := 0xC0028 + 0x100 * c
def Reg.MEMC_CH_TG_STATUS (c : Nat) : Nat := 0xC0030 + 0x100 * c
def Reg.BENCH_SLUICE_STATUS (pb : Nat) : Nat := 0x100C00 + 0x10000 * pb
def Reg.BENCH_SLUICE_CTX (pb : Nat) : Nat := 0x100C08 + 0x10000 * pb
def Reg.BENCH_SLUICE_FAULT (pb : Nat) : Nat := 0x100C10 + 0x10000 * pb
def Reg.BENCH_SLUICE_CFG (pb : Nat) : Nat := 0x100C18 + 0x10000 * pb
def Reg.FAB_PORT_CTL (lk : Nat) : Nat := 0x80000 + 0x800 * lk
def Reg.FAB_PORT_STATUS (lk : Nat) : Nat := 0x80008 + 0x800 * lk
def Reg.FAB_PORT_MEAS (lk : Nat) : Nat := 0x80010 + 0x800 * lk
def Reg.FAB_PORT_LANE_LOSS (lk : Nat) : Nat := 0x80018 + 0x800 * lk
def Reg.FAB_PORT_PARTNER0 (lk : Nat) : Nat := 0x80020 + 0x800 * lk
def Reg.FAB_PORT_PARTNER1 (lk : Nat) : Nat := 0x80028 + 0x800 * lk
def Reg.FAB_PORT_CREDIT (lk v : Nat) : Nat := 0x80040 + 0x800 * lk + 0x8 * v
def Reg.FAB_PORT_ARB (lk : Nat) : Nat := 0x80080 + 0x800 * lk
def Reg.FAB_PORT_ERR (lk : Nat) : Nat := 0x80090 + 0x800 * lk
def Reg.FAB_PORT_FEC (lk : Nat) : Nat := 0x80098 + 0x800 * lk
def Reg.HALL_ID : Nat := 0xA0000
def Reg.HALL_EXPORT : Nat := 0xA0008
def Reg.HALL_LAG : Nat := 0xA0010
def Reg.HALL_LAG_POLICY : Nat := 0xA0018
def Reg.HALL_GEN_SEL : Nat := 0xA0020
def Reg.HALL_GEN_DATA : Nat := 0xA0028
def Reg.HALL_TRIB_SEL : Nat := 0xA0030
def Reg.HALL_TRIB_DATA : Nat := 0xA0038
def Reg.HALL_FENCE_STATUS : Nat := 0xA0040
def Reg.HALL_TBL_STAGE (k : Nat) : Nat := 0xA0100 + 0x8 * k
def Reg.HALL_TBL_CMD : Nat := 0xA0110
def Reg.HALL_TBL_STATUS : Nat := 0xA0118
def Reg.HALL_CFL_STAGE (k : Nat) : Nat := 0xA0200 + 0x8 * k
def Reg.HALL_CFL_CMD : Nat := 0xA0240
def Reg.HALL_CFL_STATUS : Nat := 0xA0248
def Reg.HALL_SNAP_CTL : Nat := 0xA0300
def Reg.HALL_FRESET : Nat := 0xA0308
def Reg.HALL_SNAP_LINK (x : Nat) : Nat := 0xA0400 + 0x8 * x
def Reg.HALL_RT_ENT (i : Nat) : Nat := 0xA8000 + 0x8 * i
def Reg.HALL_MAP_ENT_LO (i : Nat) : Nat := 0xAC000 + 0x10 * i
def Reg.HALL_MAP_ENT_HI (i : Nat) : Nat := 0xAC008 + 0x10 * i
def Reg.MGMT_STATUS : Nat := 0x60000
def Reg.MGMT_CFG : Nat := 0x60008
def Reg.MGMT_DRV_VERSION (vw : Nat) : Nat := 0x60010 + viewBit * vw
def Reg.MGMT_FW : Nat := 0x60018
def Reg.MGMT_WDOG (k : Nat) : Nat := 0x60040 + 0x8 * k
def Reg.MGMT_GANG (g : Nat) : Nat := 0x60100 + 0x8 * g
def Reg.MGMT_TENANT (t : Nat) : Nat := 0x60200 + 0x8 * t
def Reg.MGMT_TENANT_KEY (t : Nat) : Nat := 0x60300 + 0x8 * t
def Reg.MGMT_SVC_PTR (t : Nat) : Nat := 0x60400 + 0x8 * t
def Reg.SEAL_STATUS : Nat := 0x50000
def Reg.SEAL_CFG : Nat := 0x50008
def Reg.SEAL_BOOT : Nat := 0x50010
def Reg.SEAL_MEAS (k : Nat) : Nat := 0x50020 + 0x8 * k
def Reg.SEAL_ENTROPY : Nat := 0x50040
def Reg.SEAL_IDE : Nat := 0x50048
def Reg.SEAL_DEBUG : Nat := 0x50050
def Reg.HIF_FN_ID (vw : Nat) : Nat := 0x40000 + viewBit * vw
def Reg.HIF_BAR2_BASE (vw : Nat) : Nat := 0x40008 + viewBit * vw
def Reg.HIF_DB_HOST (vw : Nat) : Nat := 0x40010 + viewBit * vw
def Reg.HIF_DB_DEV (vw : Nat) : Nat := 0x40018 + viewBit * vw
def Reg.HIF_DB_GO (vw : Nat) : Nat := 0x40020 + viewBit * vw
def Reg.HIF_DB_STATUS (vw : Nat) : Nat := 0x40028 + viewBit * vw
def Reg.HIF_MGMT_CMD (vw : Nat) : Nat := 0x40030 + viewBit * vw
def Reg.HIF_MGMT_DATA (vw : Nat) : Nat := 0x40038 + viewBit * vw
def Reg.HIF_MGMT_STATUS (vw : Nat) : Nat := 0x40040 + viewBit * vw
def Reg.HIF_IRQ_MAP (vw k : Nat) : Nat := 0x40048 + viewBit * vw + 0x8 * k
def Reg.HIF_VF_BIND (vw v : Nat) : Nat := 0x40100 + viewBit * vw + 0x8 * v
def Reg.HIF_MBOX_CFG (vw m : Nat) : Nat := 0x41000 + viewBit * vw + 0x80 * m
def Reg.HIF_MBOX_ACK (vw m : Nat) : Nat := 0x41008 + viewBit * vw + 0x80 * m
def Reg.HIF_MBOX_STAT (vw m : Nat) : Nat := 0x41010 + viewBit * vw + 0x80 * m
def Reg.HIF_MBOX_PAY (vw m w : Nat) : Nat := 0x41018 + viewBit * vw + 0x80 * m + 0x8 * w
def Reg.CLKPWR_CLK : Nat := 0x10000
def Reg.CLKPWR_THROTTLE : Nat := 0x10008
def Reg.CLKPWR_THERM : Nat := 0x10010
def Reg.CLKPWR_VCORE : Nat := 0x10018
def Reg.CLKPWR_PCAP : Nat := 0x10020
def Reg.CLKPWR_RESET : Nat := 0x10028
def Reg.CLKPWR_LEDGER : Nat := 0x10030
def Reg.CLKPWR_TIME : Nat := 0x10040
def Reg.CLKPWR_TIME_CTL : Nat := 0x10048
def Reg.CLKPWR_TIME_SET : Nat := 0x10050
def Reg.CLKPWR_PPS : Nat := 0x10058
def Reg.CLKPWR_TSYNC : Nat := 0x10060
def Reg.GAUGE_RAIL (r : Nat) : Nat := 0x20000 + 0x8 * r
def Reg.GAUGE_CORE_I (d : Nat) : Nat := 0x20050 + 0x8 * d
def Reg.GAUGE_REACH (k : Nat) : Nat := 0x20060 + 0x8 * k
def Reg.GAUGE_STAMP : Nat := 0x20080
def Reg.GAUGE_TEMP_SEL : Nat := 0x20088
def Reg.GAUGE_TEMP_DATA : Nat := 0x20090
def Reg.SPOIL_CTL : Nat := 0x30000
def Reg.SPOIL_STATUS : Nat := 0x30008
def Reg.SPOIL_IRQ_EN : Nat := 0x30010
def Reg.SPOIL_SEL : Nat := 0x30018
def Reg.SPOIL_DATA : Nat := 0x30020
def Reg.SPOIL_PIN (w : Nat) : Nat := 0x30040 + 0x8 * w
def Reg.DEVCTL_CHAIN_ENT_IDX (n k : Nat) : Nat := 0x2008 + 0x80 * n + 0x8 * k

def Fld.DEVCTL_ID_PART : Fld := ⟨Reg.DEVCTL_ID, 63, 48⟩
def Fld.DEVCTL_ID_STEP_LETTER : Fld := ⟨Reg.DEVCTL_ID, 47, 44⟩
def Fld.DEVCTL_ID_STEP_DIGIT : Fld := ⟨Reg.DEVCTL_ID, 43, 40⟩
def Fld.DEVCTL_ID_IF_MAJOR : Fld := ⟨Reg.DEVCTL_ID, 31, 24⟩
def Fld.DEVCTL_ID_IF_MINOR : Fld := ⟨Reg.DEVCTL_ID, 23, 16⟩
def Fld.DEVCTL_ID_BENCH_PHYS : Fld := ⟨Reg.DEVCTL_ID, 15, 8⟩
def Fld.DEVCTL_ID_HBM_STACKS : Fld := ⟨Reg.DEVCTL_ID, 7, 0⟩
def Fld.DEVCTL_SERIAL_SERIAL : Fld := ⟨Reg.DEVCTL_SERIAL, 63, 0⟩
def Fld.DEVCTL_LEDGE_MAP_SUBST (L : Nat) : Fld := ⟨Reg.DEVCTL_LEDGE_MAP L, 63, 63⟩
def Fld.DEVCTL_LEDGE_MAP_SPARE_OK (L : Nat) : Fld := ⟨Reg.DEVCTL_LEDGE_MAP L, 62, 62⟩
def Fld.DEVCTL_LEDGE_MAP_SUB_SLOT (L : Nat) : Fld := ⟨Reg.DEVCTL_LEDGE_MAP L, 59, 56⟩
def Fld.DEVCTL_LEDGE_MAP_RETIRED_PB (L : Nat) : Fld := ⟨Reg.DEVCTL_LEDGE_MAP L, 54, 48⟩
def Fld.DEVCTL_LEDGE_MAP_SPARE_PB (L : Nat) : Fld := ⟨Reg.DEVCTL_LEDGE_MAP L, 46, 40⟩
def Fld.DEVCTL_GANG_AVAIL_GATED : Fld := ⟨Reg.DEVCTL_GANG_AVAIL, 31, 16⟩
def Fld.DEVCTL_GANG_AVAIL_AVAIL : Fld := ⟨Reg.DEVCTL_GANG_AVAIL, 15, 0⟩
def Fld.DEVCTL_PRIME_STAGE_P : Fld := ⟨Reg.DEVCTL_PRIME_STAGE, 63, 32⟩
def Fld.DEVCTL_PRIME_STAGE_E1 : Fld := ⟨Reg.DEVCTL_PRIME_STAGE, 28, 24⟩
def Fld.DEVCTL_PRIME_STAGE_E2 : Fld := ⟨Reg.DEVCTL_PRIME_STAGE, 20, 16⟩
def Fld.DEVCTL_PRIME_STAGE_E3 : Fld := ⟨Reg.DEVCTL_PRIME_STAGE, 12, 8⟩
def Fld.DEVCTL_PRIME_STAGE_S1 : Fld := ⟨Reg.DEVCTL_PRIME_STAGE, 5, 4⟩
def Fld.DEVCTL_PRIME_STAGE_S2 : Fld := ⟨Reg.DEVCTL_PRIME_STAGE, 3, 2⟩
def Fld.DEVCTL_PRIME_STAGE_S3 : Fld := ⟨Reg.DEVCTL_PRIME_STAGE, 1, 0⟩
def Fld.DEVCTL_PRIME_ROOT_STAGE_ROOT : Fld := ⟨Reg.DEVCTL_PRIME_ROOT_STAGE, 31, 0⟩
def Fld.DEVCTL_PRIME_CMD_LOAD : Fld := ⟨Reg.DEVCTL_PRIME_CMD, 63, 63⟩
def Fld.DEVCTL_PRIME_CMD_DELETE : Fld := ⟨Reg.DEVCTL_PRIME_CMD, 62, 62⟩
def Fld.DEVCTL_PRIME_CMD_INDEX : Fld := ⟨Reg.DEVCTL_PRIME_CMD, 6, 0⟩
def Fld.DEVCTL_PRIME_STATUS_BUSY : Fld := ⟨Reg.DEVCTL_PRIME_STATUS, 63, 63⟩
def Fld.DEVCTL_PRIME_STATUS_DONE : Fld := ⟨Reg.DEVCTL_PRIME_STATUS, 62, 62⟩
def Fld.DEVCTL_PRIME_STATUS_OVERRUN : Fld := ⟨Reg.DEVCTL_PRIME_STATUS, 61, 61⟩
def Fld.DEVCTL_PRIME_STATUS_INDEX : Fld := ⟨Reg.DEVCTL_PRIME_STATUS, 54, 48⟩
def Fld.DEVCTL_PRIME_STATUS_RESULT : Fld := ⟨Reg.DEVCTL_PRIME_STATUS, 35, 32⟩
def Fld.DEVCTL_PRIME_STATUS_VALID_COUNT : Fld := ⟨Reg.DEVCTL_PRIME_STATUS, 7, 0⟩
def Fld.DEVCTL_PRIME_ENT_SHAPE_P (i : Nat) : Fld := ⟨Reg.DEVCTL_PRIME_ENT_SHAPE i, 63, 32⟩
def Fld.DEVCTL_PRIME_ENT_SHAPE_VALID (i : Nat) : Fld := ⟨Reg.DEVCTL_PRIME_ENT_SHAPE i, 31, 31⟩
def Fld.DEVCTL_PRIME_ENT_SHAPE_INUSE (i : Nat) : Fld := ⟨Reg.DEVCTL_PRIME_ENT_SHAPE i, 30, 30⟩
def Fld.DEVCTL_PRIME_ENT_SHAPE_E1 (i : Nat) : Fld := ⟨Reg.DEVCTL_PRIME_ENT_SHAPE i, 28, 24⟩
def Fld.DEVCTL_PRIME_ENT_SHAPE_E2 (i : Nat) : Fld := ⟨Reg.DEVCTL_PRIME_ENT_SHAPE i, 20, 16⟩
def Fld.DEVCTL_PRIME_ENT_SHAPE_E3 (i : Nat) : Fld := ⟨Reg.DEVCTL_PRIME_ENT_SHAPE i, 12, 8⟩
def Fld.DEVCTL_PRIME_ENT_SHAPE_S1 (i : Nat) : Fld := ⟨Reg.DEVCTL_PRIME_ENT_SHAPE i, 5, 4⟩
def Fld.DEVCTL_PRIME_ENT_SHAPE_S2 (i : Nat) : Fld := ⟨Reg.DEVCTL_PRIME_ENT_SHAPE i, 3, 2⟩
def Fld.DEVCTL_PRIME_ENT_SHAPE_S3 (i : Nat) : Fld := ⟨Reg.DEVCTL_PRIME_ENT_SHAPE i, 1, 0⟩
def Fld.DEVCTL_PRIME_ENT_ROOT_ROOT (i : Nat) : Fld := ⟨Reg.DEVCTL_PRIME_ENT_ROOT i, 31, 0⟩
def Fld.DEVCTL_PRIME_ENT_FOLD_FOLD_SQ (i : Nat) : Fld := ⟨Reg.DEVCTL_PRIME_ENT_FOLD i, 63, 32⟩
def Fld.DEVCTL_PRIME_ENT_FOLD_FOLD_ONE (i : Nat) : Fld := ⟨Reg.DEVCTL_PRIME_ENT_FOLD i, 31, 0⟩
def Fld.DEVCTL_PRIME_ENT_CUBE_FOLD_CUBE (i : Nat) : Fld := ⟨Reg.DEVCTL_PRIME_ENT_CUBE i, 31, 0⟩
def Fld.DEVCTL_CHAIN_STAGE_IDX7 (k : Nat) : Fld := ⟨Reg.DEVCTL_CHAIN_STAGE k, 62, 56⟩
def Fld.DEVCTL_CHAIN_STAGE_IDX6 (k : Nat) : Fld := ⟨Reg.DEVCTL_CHAIN_STAGE k, 54, 48⟩
def Fld.DEVCTL_CHAIN_STAGE_IDX5 (k : Nat) : Fld := ⟨Reg.DEVCTL_CHAIN_STAGE k, 46, 40⟩
def Fld.DEVCTL_CHAIN_STAGE_IDX4 (k : Nat) : Fld := ⟨Reg.DEVCTL_CHAIN_STAGE k, 38, 32⟩
def Fld.DEVCTL_CHAIN_STAGE_IDX3 (k : Nat) : Fld := ⟨Reg.DEVCTL_CHAIN_STAGE k, 30, 24⟩
def Fld.DEVCTL_CHAIN_STAGE_IDX2 (k : Nat) : Fld := ⟨Reg.DEVCTL_CHAIN_STAGE k, 22, 16⟩
def Fld.DEVCTL_CHAIN_STAGE_IDX1 (k : Nat) : Fld := ⟨Reg.DEVCTL_CHAIN_STAGE k, 14, 8⟩
def Fld.DEVCTL_CHAIN_STAGE_IDX0 (k : Nat) : Fld := ⟨Reg.DEVCTL_CHAIN_STAGE k, 6, 0⟩
def Fld.DEVCTL_CHAIN_CMD_LOAD : Fld := ⟨Reg.DEVCTL_CHAIN_CMD, 63, 63⟩
def Fld.DEVCTL_CHAIN_CMD_DELETE : Fld := ⟨Reg.DEVCTL_CHAIN_CMD, 62, 62⟩
def Fld.DEVCTL_CHAIN_CMD_ORD_COUNT : Fld := ⟨Reg.DEVCTL_CHAIN_CMD, 22, 16⟩
def Fld.DEVCTL_CHAIN_CMD_SPC_COUNT : Fld := ⟨Reg.DEVCTL_CHAIN_CMD, 12, 8⟩
def Fld.DEVCTL_CHAIN_CMD_CHAIN : Fld := ⟨Reg.DEVCTL_CHAIN_CMD, 4, 0⟩
def Fld.DEVCTL_CHAIN_STATUS_BUSY : Fld := ⟨Reg.DEVCTL_CHAIN_STATUS, 63, 63⟩
def Fld.DEVCTL_CHAIN_STATUS_DONE : Fld := ⟨Reg.DEVCTL_CHAIN_STATUS, 62, 62⟩
def Fld.DEVCTL_CHAIN_STATUS_OVERRUN : Fld := ⟨Reg.DEVCTL_CHAIN_STATUS, 61, 61⟩
def Fld.DEVCTL_CHAIN_STATUS_CHAIN : Fld := ⟨Reg.DEVCTL_CHAIN_STATUS, 52, 48⟩
def Fld.DEVCTL_CHAIN_STATUS_RESULT : Fld := ⟨Reg.DEVCTL_CHAIN_STATUS, 35, 32⟩
def Fld.DEVCTL_CHAIN_STATUS_VALID : Fld := ⟨Reg.DEVCTL_CHAIN_STATUS, 31, 0⟩
def Fld.DEVCTL_CHAIN_ENT_HDR_VALID (n : Nat) : Fld := ⟨Reg.DEVCTL_CHAIN_ENT_HDR n, 63, 63⟩
def Fld.DEVCTL_CHAIN_ENT_HDR_INUSE (n : Nat) : Fld := ⟨Reg.DEVCTL_CHAIN_ENT_HDR n, 62, 62⟩
def Fld.DEVCTL_CHAIN_ENT_HDR_ORD_COUNT (n : Nat) : Fld := ⟨Reg.DEVCTL_CHAIN_ENT_HDR n, 22, 16⟩
def Fld.DEVCTL_CHAIN_ENT_HDR_SPC_COUNT (n : Nat) : Fld := ⟨Reg.DEVCTL_CHAIN_ENT_HDR n, 12, 8⟩
def Fld.BENCH_SPENT_COUNT_INHERITED (pb : Nat) : Fld := ⟨Reg.BENCH_SPENT_COUNT pb, 63, 32⟩
def Fld.BENCH_SPENT_COUNT_ORIGINATED (pb : Nat) : Fld := ⟨Reg.BENCH_SPENT_COUNT pb, 31, 0⟩
def Fld.BENCH_STATE_STATE (pb : Nat) : Fld := ⟨Reg.BENCH_STATE pb, 63, 61⟩
def Fld.BENCH_STATE_SWITCHING (pb : Nat) : Fld := ⟨Reg.BENCH_STATE pb, 60, 60⟩
def Fld.BENCH_STATE_SLUICE_HALT (pb : Nat) : Fld := ⟨Reg.BENCH_STATE pb, 59, 59⟩
def Fld.BENCH_STATE_HALT_CAUSE (pb : Nat) : Fld := ⟨Reg.BENCH_STATE pb, 55, 48⟩
def Fld.BENCH_STATE_PHASE_SWITCHES (pb : Nat) : Fld := ⟨Reg.BENCH_STATE pb, 31, 0⟩
def Fld.BENCH_TE_STATUS_BUSY (pb : Nat) : Fld := ⟨Reg.BENCH_TE_STATUS pb, 63, 63⟩
def Fld.BENCH_TE_STATUS_EXCHANGE (pb : Nat) : Fld := ⟨Reg.BENCH_TE_STATUS pb, 62, 62⟩
def Fld.BENCH_TE_STATUS_LONE_STAGES (pb : Nat) : Fld := ⟨Reg.BENCH_TE_STATUS pb, 31, 0⟩
def Fld.BENCH_VE_STATUS_BUSY (pb : Nat) : Fld := ⟨Reg.BENCH_VE_STATUS pb, 63, 63⟩
def Fld.BENCH_VE_STATUS_SLOT_PENDING (pb : Nat) : Fld := ⟨Reg.BENCH_VE_STATUS pb, 62, 59⟩
def Fld.BENCH_VE_STATUS_DEP_WAIT (pb : Nat) : Fld := ⟨Reg.BENCH_VE_STATUS pb, 31, 0⟩
def Fld.BENCH_AE_STATUS_BUSY (pb : Nat) : Fld := ⟨Reg.BENCH_AE_STATUS pb, 63, 63⟩
def Fld.BENCH_AE_STATUS_MODE (pb : Nat) : Fld := ⟨Reg.BENCH_AE_STATUS pb, 62, 62⟩
def Fld.BENCH_AE_STATUS_PACK (pb : Nat) : Fld := ⟨Reg.BENCH_AE_STATUS pb, 61, 60⟩
def Fld.BENCH_AE_STATUS_DRAIN_WAIT (pb : Nat) : Fld := ⟨Reg.BENCH_AE_STATUS pb, 59, 59⟩
def Fld.BENCH_AE_STATUS_CHUTE_COUNT (pb : Nat) : Fld := ⟨Reg.BENCH_AE_STATUS pb, 51, 48⟩
def Fld.BENCH_AE_STATUS_BUBBLES (pb : Nat) : Fld := ⟨Reg.BENCH_AE_STATUS pb, 31, 0⟩
def Fld.BENCH_RIFFLE_STATUS_BUSY (pb : Nat) : Fld := ⟨Reg.BENCH_RIFFLE_STATUS pb, 63, 63⟩
def Fld.BENCH_RIFFLE_STATUS_ROUTING (pb : Nat) : Fld := ⟨Reg.BENCH_RIFFLE_STATUS pb, 62, 62⟩
def Fld.BENCH_RIFFLE_STATUS_HALF_WINDOWS (pb : Nat) : Fld := ⟨Reg.BENCH_RIFFLE_STATUS pb, 31, 0⟩
def Fld.BENCH_KEYBUF_STATUS_LEVEL (pb : Nat) : Fld := ⟨Reg.BENCH_KEYBUF_STATUS pb, 62, 56⟩
def Fld.BENCH_KEYBUF_STATUS_CREDITS (pb : Nat) : Fld := ⟨Reg.BENCH_KEYBUF_STATUS pb, 54, 48⟩
def Fld.BENCH_KEYBUF_STATUS_STARVE (pb : Nat) : Fld := ⟨Reg.BENCH_KEYBUF_STATUS pb, 31, 0⟩
def Fld.BENCH_PHASE_CYCLES_FILL (pb : Nat) : Fld := ⟨Reg.BENCH_PHASE_CYCLES pb, 63, 32⟩
def Fld.BENCH_PHASE_CYCLES_WORK (pb : Nat) : Fld := ⟨Reg.BENCH_PHASE_CYCLES pb, 31, 0⟩
def Fld.BENCH_CTL_START (pb : Nat) : Fld := ⟨Reg.BENCH_CTL pb, 63, 63⟩
def Fld.BENCH_CTL_STOP (pb : Nat) : Fld := ⟨Reg.BENCH_CTL pb, 62, 62⟩
def Fld.BENCH_CTL_ISSUE_MODE (pb : Nat) : Fld := ⟨Reg.BENCH_CTL pb, 16, 16⟩
def Fld.BENCH_CTL_STREAM_SRC (pb : Nat) : Fld := ⟨Reg.BENCH_CTL pb, 13, 8⟩
def Fld.BENCH_CTL_STREAM_EN (pb : Nat) : Fld := ⟨Reg.BENCH_CTL pb, 5, 0⟩
def Fld.BENCH_STREAM_PC_PC (pb s : Nat) : Fld := ⟨Reg.BENCH_STREAM_PC pb s, 13, 0⟩
def Fld.BENCH_STREAM_STATUS_WAIT_KIND (pb s : Nat) : Fld := ⟨Reg.BENCH_STREAM_STATUS pb s, 63, 60⟩
def Fld.BENCH_STREAM_STATUS_ENDED (pb s : Nat) : Fld := ⟨Reg.BENCH_STREAM_STATUS pb s, 59, 59⟩
def Fld.BENCH_STREAM_STATUS_QUEUE_LEVEL (pb s : Nat) : Fld := ⟨Reg.BENCH_STREAM_STATUS pb s, 57, 48⟩
def Fld.BENCH_STREAM_STATUS_FETCH_PC (pb s : Nat) : Fld := ⟨Reg.BENCH_STREAM_STATUS pb s, 45, 32⟩
def Fld.BENCH_STREAM_STATUS_RETIRED (pb s : Nat) : Fld := ⟨Reg.BENCH_STREAM_STATUS pb s, 31, 0⟩
def Fld.BENCH_TBL_ADDR_TABLE (pb : Nat) : Fld := ⟨Reg.BENCH_TBL_ADDR pb, 63, 62⟩
def Fld.BENCH_TBL_ADDR_INDEX (pb : Nat) : Fld := ⟨Reg.BENCH_TBL_ADDR pb, 14, 0⟩
def Fld.BENCH_TBL_DATA_DATA (pb : Nat) : Fld := ⟨Reg.BENCH_TBL_DATA pb, 63, 0⟩
def Fld.BENCH_MACRO_ID_VALID (pb : Nat) : Fld := ⟨Reg.BENCH_MACRO_ID pb, 63, 63⟩
def Fld.BENCH_MACRO_ID_MACROS (pb : Nat) : Fld := ⟨Reg.BENCH_MACRO_ID pb, 55, 48⟩
def Fld.BENCH_MACRO_ID_VERSION (pb : Nat) : Fld := ⟨Reg.BENCH_MACRO_ID pb, 47, 32⟩
def Fld.BENCH_MACRO_ID_DIGEST (pb : Nat) : Fld := ⟨Reg.BENCH_MACRO_ID pb, 31, 0⟩
def Fld.BENCH_TOKEN_CNT (pb k j : Nat) : Fld := ⟨Reg.BENCH_TOKEN pb k, 8 * j + 7, 8 * j⟩
def Fld.BENCH_TRACKER_STATUS_INTERVALS (pb : Nat) : Fld := ⟨Reg.BENCH_TRACKER_STATUS pb, 63, 57⟩
def Fld.BENCH_TRACKER_STATUS_HAZARD_WAIT (pb : Nat) : Fld := ⟨Reg.BENCH_TRACKER_STATUS pb, 31, 0⟩
def Fld.BENCH_STALL_LIMIT_LIMIT (pb : Nat) : Fld := ⟨Reg.BENCH_STALL_LIMIT pb, 31, 0⟩
def Fld.BENCH_STALL_COUNT_COUNT (pb : Nat) : Fld := ⟨Reg.BENCH_STALL_COUNT pb, 31, 0⟩
def Fld.BENCH_STALL_SNAP0_WAIT_KIND (pb s : Nat) : Fld := ⟨Reg.BENCH_STALL_SNAP0 pb s, 63, 60⟩
def Fld.BENCH_STALL_SNAP0_TOKEN (pb s : Nat) : Fld := ⟨Reg.BENCH_STALL_SNAP0 pb s, 55, 48⟩
def Fld.BENCH_STALL_SNAP0_PC (pb s : Nat) : Fld := ⟨Reg.BENCH_STALL_SNAP0 pb s, 45, 32⟩
def Fld.BENCH_STALL_SNAP0_ARG (pb s : Nat) : Fld := ⟨Reg.BENCH_STALL_SNAP0 pb s, 31, 0⟩
def Fld.BENCH_STALL_SNAP1_WEIR_BENCH (pb s : Nat) : Fld := ⟨Reg.BENCH_STALL_SNAP1 pb s, 16, 11⟩
def Fld.BENCH_STALL_SNAP1_WEIR (pb s : Nat) : Fld := ⟨Reg.BENCH_STALL_SNAP1 pb s, 10, 0⟩
def Fld.BENCH_FM_CTL_ENTRY (pb : Nat) : Fld := ⟨Reg.BENCH_FM_CTL pb, 16, 0⟩
def Fld.BENCH_FM_STATUS_STATE (pb : Nat) : Fld := ⟨Reg.BENCH_FM_STATUS pb, 63, 62⟩
def Fld.BENCH_FM_STATUS_STOP_CAUSE (pb : Nat) : Fld := ⟨Reg.BENCH_FM_STATUS pb, 61, 59⟩
def Fld.BENCH_FM_STATUS_PC (pb : Nat) : Fld := ⟨Reg.BENCH_FM_STATUS pb, 16, 0⟩
def Fld.BENCH_FM_FETCH_FETCHED (pb : Nat) : Fld := ⟨Reg.BENCH_FM_FETCH pb, 63, 0⟩
def Fld.BENCH_FM_MEM_ADDR_SPACE (pb : Nat) : Fld := ⟨Reg.BENCH_FM_MEM_ADDR pb, 63, 63⟩
def Fld.BENCH_FM_MEM_ADDR_INDEX (pb : Nat) : Fld := ⟨Reg.BENCH_FM_MEM_ADDR pb, 14, 0⟩
def Fld.BENCH_FM_MEM_DATA_DATA (pb : Nat) : Fld := ⟨Reg.BENCH_FM_MEM_DATA pb, 63, 0⟩
def Fld.BENCH_RING_CFG_EN (pb i : Nat) : Fld := ⟨Reg.BENCH_RING_CFG pb i, 63, 63⟩
def Fld.BENCH_RING_CFG_LOG_ENTRIES (pb i : Nat) : Fld := ⟨Reg.BENCH_RING_CFG pb i, 51, 48⟩
def Fld.BENCH_RING_CFG_BASE (pb i : Nat) : Fld := ⟨Reg.BENCH_RING_CFG pb i, 17, 0⟩
def Fld.BENCH_RING_PTR_OCC (pb i : Nat) : Fld := ⟨Reg.BENCH_RING_PTR pb i, 56, 48⟩
def Fld.BENCH_RING_PTR_DROPPED (pb i : Nat) : Fld := ⟨Reg.BENCH_RING_PTR pb i, 47, 32⟩
def Fld.BENCH_RING_PTR_WR_COUNT (pb i : Nat) : Fld := ⟨Reg.BENCH_RING_PTR pb i, 31, 16⟩
def Fld.BENCH_RING_PTR_RD_COUNT (pb i : Nat) : Fld := ⟨Reg.BENCH_RING_PTR pb i, 15, 0⟩
def Fld.BENCH_RING_HEAD0_DW0 (pb i : Nat) : Fld := ⟨Reg.BENCH_RING_HEAD0 pb i, 63, 0⟩
def Fld.BENCH_RING_HEAD1_DW1 (pb i : Nat) : Fld := ⟨Reg.BENCH_RING_HEAD1 pb i, 63, 0⟩
def Fld.BENCH_ROUTE_VALID (pb r : Nat) : Fld := ⟨Reg.BENCH_ROUTE pb r, 63, 63⟩
def Fld.BENCH_ROUTE_DEV (pb r : Nat) : Fld := ⟨Reg.BENCH_ROUTE pb r, 59, 46⟩
def Fld.BENCH_ROUTE_BENCH (pb r : Nat) : Fld := ⟨Reg.BENCH_ROUTE pb r, 45, 40⟩
def Fld.BENCH_ROUTE_RING (pb r : Nat) : Fld := ⟨Reg.BENCH_ROUTE pb r, 39, 36⟩
def Fld.BENCH_ROUTE_CREDITS (pb r : Nat) : Fld := ⟨Reg.BENCH_ROUTE pb r, 31, 24⟩
def Fld.BENCH_ROUTE_STAT_AVAIL (pb r : Nat) : Fld := ⟨Reg.BENCH_ROUTE_STAT pb r, 63, 56⟩
def Fld.BENCH_ROUTE_STAT_SEQ (pb r : Nat) : Fld := ⟨Reg.BENCH_ROUTE_STAT pb r, 47, 32⟩
def Fld.BENCH_ROUTE_STAT_DROPPED (pb r : Nat) : Fld := ⟨Reg.BENCH_ROUTE_STAT pb r, 31, 0⟩
def Fld.BENCH_HANDLER_VALID (pb h : Nat) : Fld := ⟨Reg.BENCH_HANDLER pb h, 63, 63⟩
def Fld.BENCH_HANDLER_ADDR (pb h : Nat) : Fld := ⟨Reg.BENCH_HANDLER pb h, 16, 0⟩
def Fld.DEVCTL_KEY_STAGE_DW (k : Nat) : Fld := ⟨Reg.DEVCTL_KEY_STAGE k, 63, 0⟩
def Fld.DEVCTL_KEY_CMD_INSTALL : Fld := ⟨Reg.DEVCTL_KEY_CMD, 63, 63⟩
def Fld.DEVCTL_KEY_CMD_REMOVE : Fld := ⟨Reg.DEVCTL_KEY_CMD, 62, 62⟩
def Fld.DEVCTL_KEY_CMD_READ : Fld := ⟨Reg.DEVCTL_KEY_CMD, 61, 61⟩
def Fld.DEVCTL_KEY_CMD_INDEX : Fld := ⟨Reg.DEVCTL_KEY_CMD, 11, 0⟩
def Fld.DEVCTL_KEY_STATUS_BUSY : Fld := ⟨Reg.DEVCTL_KEY_STATUS, 63, 63⟩
def Fld.DEVCTL_KEY_STATUS_DONE : Fld := ⟨Reg.DEVCTL_KEY_STATUS, 62, 62⟩
def Fld.DEVCTL_KEY_STATUS_OVERRUN : Fld := ⟨Reg.DEVCTL_KEY_STATUS, 61, 61⟩
def Fld.DEVCTL_KEY_STATUS_INDEX : Fld := ⟨Reg.DEVCTL_KEY_STATUS, 43, 32⟩
def Fld.DEVCTL_KEY_STATUS_RESULT : Fld := ⟨Reg.DEVCTL_KEY_STATUS, 31, 28⟩
def Fld.DEVCTL_KEY_STATUS_VALID_COUNT : Fld := ⟨Reg.DEVCTL_KEY_STATUS, 12, 0⟩
def Fld.DEVCTL_MILLRACE_STATUS_BUSY (L : Nat) : Fld := ⟨Reg.DEVCTL_MILLRACE_STATUS L, 63, 63⟩
def Fld.DEVCTL_MILLRACE_STATUS_ACTIVE (L : Nat) : Fld := ⟨Reg.DEVCTL_MILLRACE_STATUS L, 52, 48⟩
def Fld.DEVCTL_MILLRACE_STATUS_PENDING (L : Nat) : Fld := ⟨Reg.DEVCTL_MILLRACE_STATUS L, 36, 32⟩
def Fld.DEVCTL_MILLRACE_STATUS_MISMATCHES (L : Nat) : Fld := ⟨Reg.DEVCTL_MILLRACE_STATUS L, 31, 0⟩
def Fld.DEVCTL_MILLRACE_BYTES_DELIVERED (L : Nat) : Fld := ⟨Reg.DEVCTL_MILLRACE_BYTES L, 63, 32⟩
def Fld.DEVCTL_MILLRACE_BYTES_STORED (L : Nat) : Fld := ⟨Reg.DEVCTL_MILLRACE_BYTES L, 31, 0⟩
def Fld.DEVCTL_PSET_AVAIL_AVAIL (k : Nat) : Fld := ⟨Reg.DEVCTL_PSET_AVAIL k, 63, 0⟩
def Fld.BENCH_FLOAT_EVENTS_NAN_TILES (pb : Nat) : Fld := ⟨Reg.BENCH_FLOAT_EVENTS pb, 63, 48⟩
def Fld.BENCH_FLOAT_EVENTS_INF_TILES (pb : Nat) : Fld := ⟨Reg.BENCH_FLOAT_EVENTS pb, 47, 32⟩
def Fld.BENCH_FLOAT_EVENTS_FLUSH_TILES (pb : Nat) : Fld := ⟨Reg.BENCH_FLOAT_EVENTS pb, 31, 16⟩
def Fld.BENCH_ECC_STATUS_POOL_CORR (pb : Nat) : Fld := ⟨Reg.BENCH_ECC_STATUS pb, 63, 48⟩
def Fld.BENCH_ECC_STATUS_FM_CORR (pb : Nat) : Fld := ⟨Reg.BENCH_ECC_STATUS pb, 47, 32⟩
def Fld.BENCH_ECC_STATUS_POOL_UNCORR (pb : Nat) : Fld := ⟨Reg.BENCH_ECC_STATUS pb, 31, 24⟩
def Fld.BENCH_ECC_STATUS_FM_UNCORR (pb : Nat) : Fld := ⟨Reg.BENCH_ECC_STATUS pb, 23, 16⟩
def Fld.BENCH_ECC_ADDR_VALID (pb : Nat) : Fld := ⟨Reg.BENCH_ECC_ADDR pb, 63, 63⟩
def Fld.BENCH_ECC_ADDR_WHERE (pb : Nat) : Fld := ⟨Reg.BENCH_ECC_ADDR pb, 62, 61⟩
def Fld.BENCH_ECC_ADDR_BY_SCRUB (pb : Nat) : Fld := ⟨Reg.BENCH_ECC_ADDR pb, 60, 60⟩
def Fld.BENCH_ECC_ADDR_ADDR (pb : Nat) : Fld := ⟨Reg.BENCH_ECC_ADDR pb, 25, 0⟩
def Fld.BENCH_SCRUB_CFG_PERIOD (pb : Nat) : Fld := ⟨Reg.BENCH_SCRUB_CFG pb, 15, 0⟩
def Fld.BENCH_SCRUB_STATUS_PASSES (pb : Nat) : Fld := ⟨Reg.BENCH_SCRUB_STATUS pb, 63, 32⟩
def Fld.BENCH_SCRUB_STATUS_ROW (pb : Nat) : Fld := ⟨Reg.BENCH_SCRUB_STATUS pb, 27, 16⟩
def Fld.BENCH_SCRUB_STATUS_LAG (pb : Nat) : Fld := ⟨Reg.BENCH_SCRUB_STATUS pb, 15, 0⟩
def Fld.BENCH_CONFL_IDX_GROUP (pb : Nat) : Fld := ⟨Reg.BENCH_CONFL_IDX pb, 6, 0⟩
def Fld.BENCH_CONFL_DATA_CNT (pb j : Nat) : Fld := ⟨Reg.BENCH_CONFL_DATA pb, 16 * j + 15, 16 * j⟩
def Fld.BENCH_WEIR_SEL_WEIR (pb : Nat) : Fld := ⟨Reg.BENCH_WEIR_SEL pb, 10, 0⟩
def Fld.BENCH_WEIR_DATA_COUNT (pb : Nat) : Fld := ⟨Reg.BENCH_WEIR_DATA pb, 31, 0⟩
def Fld.BENCH_WEIR_STATUS_HELD (pb : Nat) : Fld := ⟨Reg.BENCH_WEIR_STATUS pb, 63, 56⟩
def Fld.BENCH_WEIR_STATUS_OPS (pb : Nat) : Fld := ⟨Reg.BENCH_WEIR_STATUS pb, 31, 0⟩
def Fld.DEVCTL_LEASE_CMD_TAKE : Fld := ⟨Reg.DEVCTL_LEASE_CMD, 63, 63⟩
def Fld.DEVCTL_LEASE_CMD_FREE : Fld := ⟨Reg.DEVCTL_LEASE_CMD, 62, 62⟩
def Fld.DEVCTL_LEASE_CMD_READ : Fld := ⟨Reg.DEVCTL_LEASE_CMD, 61, 61⟩
def Fld.DEVCTL_LEASE_CMD_REQ_TENANT : Fld := ⟨Reg.DEVCTL_LEASE_CMD, 52, 48⟩
def Fld.DEVCTL_LEASE_CMD_LEDGE : Fld := ⟨Reg.DEVCTL_LEASE_CMD, 41, 40⟩
def Fld.DEVCTL_LEASE_CMD_COUNT : Fld := ⟨Reg.DEVCTL_LEASE_CMD, 28, 16⟩
def Fld.DEVCTL_LEASE_CMD_FIRST : Fld := ⟨Reg.DEVCTL_LEASE_CMD, 11, 0⟩
def Fld.DEVCTL_LEASE_STATUS_BUSY : Fld := ⟨Reg.DEVCTL_LEASE_STATUS, 63, 63⟩
def Fld.DEVCTL_LEASE_STATUS_DONE : Fld := ⟨Reg.DEVCTL_LEASE_STATUS, 62, 62⟩
def Fld.DEVCTL_LEASE_STATUS_OVERRUN : Fld := ⟨Reg.DEVCTL_LEASE_STATUS, 61, 61⟩
def Fld.DEVCTL_LEASE_STATUS_STATE : Fld := ⟨Reg.DEVCTL_LEASE_STATUS, 57, 56⟩
def Fld.DEVCTL_LEASE_STATUS_OWNER : Fld := ⟨Reg.DEVCTL_LEASE_STATUS, 52, 48⟩
def Fld.DEVCTL_LEASE_STATUS_LEDGE : Fld := ⟨Reg.DEVCTL_LEASE_STATUS, 41, 40⟩
def Fld.DEVCTL_LEASE_STATUS_RESULT : Fld := ⟨Reg.DEVCTL_LEASE_STATUS, 35, 32⟩
def Fld.DEVCTL_LEASE_STATUS_FAIL_LEASE : Fld := ⟨Reg.DEVCTL_LEASE_STATUS, 27, 16⟩
def Fld.DEVCTL_LEASE_STATUS_FIRST : Fld := ⟨Reg.DEVCTL_LEASE_STATUS, 11, 0⟩
def Fld.DEVCTL_LEASE_COUNT_FREE (L : Nat) : Fld := ⟨Reg.DEVCTL_LEASE_COUNT L, 60, 48⟩
def Fld.DEVCTL_LEASE_COUNT_HELD (L : Nat) : Fld := ⟨Reg.DEVCTL_LEASE_COUNT L, 44, 32⟩
def Fld.DEVCTL_LEASE_COUNT_CLEARING (L : Nat) : Fld := ⟨Reg.DEVCTL_LEASE_COUNT L, 28, 16⟩
def Fld.DEVCTL_BASIN_ECC_CORR (L : Nat) : Fld := ⟨Reg.DEVCTL_BASIN_ECC L, 63, 48⟩
def Fld.DEVCTL_BASIN_ECC_UNCORR (L : Nat) : Fld := ⟨Reg.DEVCTL_BASIN_ECC L, 47, 40⟩
def Fld.DEVCTL_BASIN_ECC_LAG (L : Nat) : Fld := ⟨Reg.DEVCTL_BASIN_ECC L, 39, 32⟩
def Fld.DEVCTL_BASIN_ECC_PASSES (L : Nat) : Fld := ⟨Reg.DEVCTL_BASIN_ECC L, 31, 0⟩
def Fld.DEVCTL_BASIN_ECC_ADDR_VALID (L : Nat) : Fld := ⟨Reg.DEVCTL_BASIN_ECC_ADDR L, 63, 63⟩
def Fld.DEVCTL_BASIN_ECC_ADDR_BY_SCRUB (L : Nat) : Fld := ⟨Reg.DEVCTL_BASIN_ECC_ADDR L, 62, 62⟩
def Fld.DEVCTL_BASIN_ECC_ADDR_ADDR (L : Nat) : Fld := ⟨Reg.DEVCTL_BASIN_ECC_ADDR L, 28, 0⟩
def Fld.DEVCTL_BASIN_CONFL_IDX_LEDGE : Fld := ⟨Reg.DEVCTL_BASIN_CONFL_IDX, 9, 8⟩
def Fld.DEVCTL_BASIN_CONFL_IDX_GROUP : Fld := ⟨Reg.DEVCTL_BASIN_CONFL_IDX, 5, 0⟩
def Fld.DEVCTL_BASIN_CONFL_DATA_CNT (j : Nat) : Fld := ⟨Reg.DEVCTL_BASIN_CONFL_DATA, 16 * j + 15, 16 * j⟩
def Fld.DEVCTL_HBM_CFG_ACTIVE : Fld := ⟨Reg.DEVCTL_HBM_CFG, 56, 48⟩
def Fld.DEVCTL_HBM_CFG_ACTIVE0 : Fld := ⟨Reg.DEVCTL_HBM_CFG, 40, 32⟩
def Fld.DEVCTL_HBM_CFG_ACTIVE1 : Fld := ⟨Reg.DEVCTL_HBM_CFG, 24, 16⟩
def Fld.DEVCTL_HBM_CFG_SPLIT : Fld := ⟨Reg.DEVCTL_HBM_CFG, 6, 0⟩
def Fld.DEVCTL_HBM_ACT_ACT (k : Nat) : Fld := ⟨Reg.DEVCTL_HBM_ACT k, 63, 0⟩
def Fld.DEVCTL_HBM_THERM_REQUEST : Fld := ⟨Reg.DEVCTL_HBM_THERM, 33, 32⟩
def Fld.DEVCTL_HBM_THERM_T5 : Fld := ⟨Reg.DEVCTL_HBM_THERM, 23, 16⟩
def Fld.DEVCTL_HBM_THERM_T6 : Fld := ⟨Reg.DEVCTL_HBM_THERM, 15, 8⟩
def Fld.DEVCTL_HBM_THERM_T8 : Fld := ⟨Reg.DEVCTL_HBM_THERM, 7, 0⟩
def Fld.DEVCTL_HBM_STACK_PRESENT (x : Nat) : Fld := ⟨Reg.DEVCTL_HBM_STACK x, 63, 63⟩
def Fld.DEVCTL_HBM_STACK_GIB (x : Nat) : Fld := ⟨Reg.DEVCTL_HBM_STACK x, 55, 48⟩
def Fld.DEVCTL_HBM_STACK_HOT (x : Nat) : Fld := ⟨Reg.DEVCTL_HBM_STACK x, 16, 16⟩
def Fld.DEVCTL_HBM_STACK_MAX_TEMP (x : Nat) : Fld := ⟨Reg.DEVCTL_HBM_STACK x, 15, 8⟩
def Fld.DEVCTL_HBM_STACK_TEMP (x : Nat) : Fld := ⟨Reg.DEVCTL_HBM_STACK x, 7, 0⟩
def Fld.DEVCTL_HBM_PAGE_SEL_PAGE : Fld := ⟨Reg.DEVCTL_HBM_PAGE_SEL, 17, 0⟩
def Fld.DEVCTL_HBM_PAGE_DATA_OWNER : Fld := ⟨Reg.DEVCTL_HBM_PAGE_DATA, 4, 0⟩
def Fld.DEVCTL_HBM_FILL_GO : Fld := ⟨Reg.DEVCTL_HBM_FILL, 63, 63⟩
def Fld.DEVCTL_HBM_FILL_BUSY : Fld := ⟨Reg.DEVCTL_HBM_FILL, 62, 62⟩
def Fld.DEVCTL_HBM_FILL_DONE : Fld := ⟨Reg.DEVCTL_HBM_FILL, 61, 61⟩
def Fld.DEVCTL_HBM_FILL_OVERRUN : Fld := ⟨Reg.DEVCTL_HBM_FILL, 60, 60⟩
def Fld.DEVCTL_HBM_FILL_COUNT : Fld := ⟨Reg.DEVCTL_HBM_FILL, 49, 32⟩
def Fld.DEVCTL_HBM_FILL_FIRST : Fld := ⟨Reg.DEVCTL_HBM_FILL, 17, 0⟩
def Fld.MEMC_CH_STATUS_STATE (c : Nat) : Fld := ⟨Reg.MEMC_CH_STATUS c, 63, 62⟩
def Fld.MEMC_CH_STATUS_PENDING (c : Nat) : Fld := ⟨Reg.MEMC_CH_STATUS c, 61, 61⟩
def Fld.MEMC_CH_STATUS_HOT (c : Nat) : Fld := ⟨Reg.MEMC_CH_STATUS c, 60, 60⟩
def Fld.MEMC_CH_ECC_CORR (c : Nat) : Fld := ⟨Reg.MEMC_CH_ECC c, 63, 48⟩
def Fld.MEMC_CH_ECC_UNCORR (c : Nat) : Fld := ⟨Reg.MEMC_CH_ECC c, 47, 40⟩
def Fld.MEMC_CH_ECC_PASSES (c : Nat) : Fld := ⟨Reg.MEMC_CH_ECC c, 31, 0⟩
def Fld.MEMC_CH_ECC_ADDR_VALID (c : Nat) : Fld := ⟨Reg.MEMC_CH_ECC_ADDR c, 63, 63⟩
def Fld.MEMC_CH_ECC_ADDR_BY_SCRUB (c : Nat) : Fld := ⟨Reg.MEMC_CH_ECC_ADDR c, 62, 62⟩
def Fld.MEMC_CH_ECC_ADDR_ADDR (c : Nat) : Fld := ⟨Reg.MEMC_CH_ECC_ADDR c, 30, 0⟩
def Fld.MEMC_CH_BYTES_RD (c : Nat) : Fld := ⟨Reg.MEMC_CH_BYTES c, 63, 32⟩
def Fld.MEMC_CH_BYTES_WR (c : Nat) : Fld := ⟨Reg.MEMC_CH_BYTES c, 31, 0⟩
def Fld.MEMC_CH_TG_CTL_GO (c : Nat) : Fld := ⟨Reg.MEMC_CH_TG_CTL c, 63, 63⟩
def Fld.MEMC_CH_TG_CTL_STOP (c : Nat) : Fld := ⟨Reg.MEMC_CH_TG_CTL c, 62, 62⟩
def Fld.MEMC_CH_TG_CTL_OP (c : Nat) : Fld := ⟨Reg.MEMC_CH_TG_CTL c, 61, 60⟩
def Fld.MEMC_CH_TG_CTL_PATTERN (c : Nat) : Fld := ⟨Reg.MEMC_CH_TG_CTL c, 59, 57⟩
def Fld.MEMC_CH_TG_CTL_SEED (c : Nat) : Fld := ⟨Reg.MEMC_CH_TG_CTL c, 31, 0⟩
def Fld.MEMC_CH_TG_RANGE_LINES (c : Nat) : Fld := ⟨Reg.MEMC_CH_TG_RANGE c, 54, 32⟩
def Fld.MEMC_CH_TG_RANGE_FIRST (c : Nat) : Fld := ⟨Reg.MEMC_CH_TG_RANGE c, 21, 0⟩
def Fld.MEMC_CH_TG_STATUS_BUSY (c : Nat) : Fld := ⟨Reg.MEMC_CH_TG_STATUS c, 63, 63⟩
def Fld.MEMC_CH_TG_STATUS_DONE (c : Nat) : Fld := ⟨Reg.MEMC_CH_TG_STATUS c, 62, 62⟩
def Fld.MEMC_CH_TG_STATUS_FAIL (c : Nat) : Fld := ⟨Reg.MEMC_CH_TG_STATUS c, 61, 61⟩
def Fld.MEMC_CH_TG_STATUS_FAIL_COUNT (c : Nat) : Fld := ⟨Reg.MEMC_CH_TG_STATUS c, 47, 32⟩
def Fld.MEMC_CH_TG_STATUS_FIRST_FAIL (c : Nat) : Fld := ⟨Reg.MEMC_CH_TG_STATUS c, 21, 0⟩
def Fld.BENCH_SLUICE_STATUS_BUSY (pb : Nat) : Fld := ⟨Reg.BENCH_SLUICE_STATUS pb, 63, 63⟩
def Fld.BENCH_SLUICE_STATUS_TAGS_OUT (pb : Nat) : Fld := ⟨Reg.BENCH_SLUICE_STATUS pb, 57, 48⟩
def Fld.BENCH_SLUICE_STATUS_FAULTS (pb : Nat) : Fld := ⟨Reg.BENCH_SLUICE_STATUS pb, 31, 0⟩
def Fld.BENCH_SLUICE_CTX_ITER (pb : Nat) : Fld := ⟨Reg.BENCH_SLUICE_CTX pb, 63, 32⟩
def Fld.BENCH_SLUICE_CTX_WORD (pb : Nat) : Fld := ⟨Reg.BENCH_SLUICE_CTX pb, 31, 0⟩
def Fld.BENCH_SLUICE_FAULT_PAGE (pb : Nat) : Fld := ⟨Reg.BENCH_SLUICE_FAULT pb, 63, 21⟩
def Fld.BENCH_SLUICE_FAULT_READY (pb : Nat) : Fld := ⟨Reg.BENCH_SLUICE_FAULT pb, 0, 0⟩
def Fld.BENCH_SLUICE_CFG_AUTO_RESUME (pb : Nat) : Fld := ⟨Reg.BENCH_SLUICE_CFG pb, 8, 8⟩
def Fld.BENCH_SLUICE_CFG_FAULT_TAG (pb : Nat) : Fld := ⟨Reg.BENCH_SLUICE_CFG pb, 4, 0⟩
def Fld.FAB_PORT_CTL_ENABLE (lk : Nat) : Fld := ⟨Reg.FAB_PORT_CTL lk, 63, 63⟩
def Fld.FAB_PORT_CTL_RETRAIN (lk : Nat) : Fld := ⟨Reg.FAB_PORT_CTL lk, 62, 62⟩
def Fld.FAB_PORT_CTL_LL_RESET (lk : Nat) : Fld := ⟨Reg.FAB_PORT_CTL lk, 61, 61⟩
def Fld.FAB_PORT_CTL_MODE_REQ (lk : Nat) : Fld := ⟨Reg.FAB_PORT_CTL lk, 57, 56⟩
def Fld.FAB_PORT_CTL_SPLIT (lk : Nat) : Fld := ⟨Reg.FAB_PORT_CTL lk, 48, 48⟩
def Fld.FAB_PORT_CTL_LANE_SYM_LIMIT (lk : Nat) : Fld := ⟨Reg.FAB_PORT_CTL lk, 31, 16⟩
def Fld.FAB_PORT_CTL_REPLAY_LIMIT (lk : Nat) : Fld := ⟨Reg.FAB_PORT_CTL lk, 15, 0⟩
def Fld.FAB_PORT_STATUS_STATE (lk : Nat) : Fld := ⟨Reg.FAB_PORT_STATUS lk, 63, 61⟩
def Fld.FAB_PORT_STATUS_MODE (lk : Nat) : Fld := ⟨Reg.FAB_PORT_STATUS lk, 60, 60⟩
def Fld.FAB_PORT_STATUS_OPTICAL (lk : Nat) : Fld := ⟨Reg.FAB_PORT_STATUS lk, 59, 59⟩
def Fld.FAB_PORT_STATUS_DOWN_REASON (lk : Nat) : Fld := ⟨Reg.FAB_PORT_STATUS lk, 58, 56⟩
def Fld.FAB_PORT_STATUS_LANES_UP (lk : Nat) : Fld := ⟨Reg.FAB_PORT_STATUS lk, 55, 48⟩
def Fld.FAB_PORT_STATUS_SPARED (lk : Nat) : Fld := ⟨Reg.FAB_PORT_STATUS lk, 47, 44⟩
def Fld.FAB_PORT_STATUS_TRAIN_ATTEMPTS (lk : Nat) : Fld := ⟨Reg.FAB_PORT_STATUS lk, 31, 16⟩
def Fld.FAB_PORT_STATUS_LINK_UPS (lk : Nat) : Fld := ⟨Reg.FAB_PORT_STATUS lk, 15, 0⟩
def Fld.FAB_PORT_MEAS_RTT (lk : Nat) : Fld := ⟨Reg.FAB_PORT_MEAS lk, 63, 44⟩
def Fld.FAB_PORT_MEAS_LENGTH (lk : Nat) : Fld := ⟨Reg.FAB_PORT_MEAS lk, 43, 28⟩
def Fld.FAB_PORT_MEAS_LOSS_MAX (lk : Nat) : Fld := ⟨Reg.FAB_PORT_MEAS lk, 7, 0⟩
def Fld.FAB_PORT_LANE_LOSS_LOSS (lk j : Nat) : Fld := ⟨Reg.FAB_PORT_LANE_LOSS lk, 8 * j + 7, 8 * j⟩
def Fld.FAB_PORT_PARTNER0_DEV (lk : Nat) : Fld := ⟨Reg.FAB_PORT_PARTNER0 lk, 63, 50⟩
def Fld.FAB_PORT_PARTNER0_GEN (lk : Nat) : Fld := ⟨Reg.FAB_PORT_PARTNER0 lk, 49, 34⟩
def Fld.FAB_PORT_PARTNER0_ROLE (lk : Nat) : Fld := ⟨Reg.FAB_PORT_PARTNER0 lk, 33, 32⟩
def Fld.FAB_PORT_PARTNER0_PORT (lk : Nat) : Fld := ⟨Reg.FAB_PORT_PARTNER0 lk, 31, 26⟩
def Fld.FAB_PORT_PARTNER0_HALF (lk : Nat) : Fld := ⟨Reg.FAB_PORT_PARTNER0 lk, 25, 25⟩
def Fld.FAB_PORT_PARTNER0_HALF_B (lk : Nat) : Fld := ⟨Reg.FAB_PORT_PARTNER0 lk, 24, 24⟩
def Fld.FAB_PORT_PARTNER0_LANES (lk : Nat) : Fld := ⟨Reg.FAB_PORT_PARTNER0 lk, 23, 16⟩
def Fld.FAB_PORT_PARTNER0_FEC_SR (lk : Nat) : Fld := ⟨Reg.FAB_PORT_PARTNER0 lk, 15, 15⟩
def Fld.FAB_PORT_PARTNER0_FEC_LR (lk : Nat) : Fld := ⟨Reg.FAB_PORT_PARTNER0 lk, 14, 14⟩
def Fld.FAB_PORT_PARTNER0_MODE_REQ (lk : Nat) : Fld := ⟨Reg.FAB_PORT_PARTNER0 lk, 13, 12⟩
def Fld.FAB_PORT_PARTNER0_VERSION (lk : Nat) : Fld := ⟨Reg.FAB_PORT_PARTNER0 lk, 7, 0⟩
def Fld.FAB_PORT_PARTNER1_SERIAL (lk : Nat) : Fld := ⟨Reg.FAB_PORT_PARTNER1 lk, 63, 0⟩
def Fld.FAB_PORT_CREDIT_ALLOC (lk v : Nat) : Fld := ⟨Reg.FAB_PORT_CREDIT lk v, 41, 32⟩
def Fld.FAB_PORT_CREDIT_AVAIL1 (lk v : Nat) : Fld := ⟨Reg.FAB_PORT_CREDIT lk v, 25, 16⟩
def Fld.FAB_PORT_CREDIT_AVAIL0 (lk v : Nat) : Fld := ⟨Reg.FAB_PORT_CREDIT lk v, 9, 0⟩
def Fld.FAB_PORT_ARB_W7 (lk : Nat) : Fld := ⟨Reg.FAB_PORT_ARB lk, 47, 40⟩
def Fld.FAB_PORT_ARB_W5 (lk : Nat) : Fld := ⟨Reg.FAB_PORT_ARB lk, 39, 32⟩
def Fld.FAB_PORT_ARB_W4 (lk : Nat) : Fld := ⟨Reg.FAB_PORT_ARB lk, 31, 24⟩
def Fld.FAB_PORT_ARB_W3 (lk : Nat) : Fld := ⟨Reg.FAB_PORT_ARB lk, 23, 16⟩
def Fld.FAB_PORT_ARB_W2 (lk : Nat) : Fld := ⟨Reg.FAB_PORT_ARB lk, 15, 8⟩
def Fld.FAB_PORT_ARB_W1 (lk : Nat) : Fld := ⟨Reg.FAB_PORT_ARB lk, 7, 0⟩
def Fld.FAB_PORT_ERR_FEC_UNCORR (lk : Nat) : Fld := ⟨Reg.FAB_PORT_ERR lk, 63, 48⟩
def Fld.FAB_PORT_ERR_REPLAYS (lk : Nat) : Fld := ⟨Reg.FAB_PORT_ERR lk, 47, 32⟩
def Fld.FAB_PORT_ERR_STOMPED (lk : Nat) : Fld := ⟨Reg.FAB_PORT_ERR lk, 31, 24⟩
def Fld.FAB_PORT_ERR_PARTIAL (lk : Nat) : Fld := ⟨Reg.FAB_PORT_ERR lk, 23, 16⟩
def Fld.FAB_PORT_ERR_STALE_RESP (lk : Nat) : Fld := ⟨Reg.FAB_PORT_ERR lk, 15, 8⟩
def Fld.FAB_PORT_ERR_BAD_PACKET (lk : Nat) : Fld := ⟨Reg.FAB_PORT_ERR lk, 7, 0⟩
def Fld.FAB_PORT_FEC_CORR_SYMBOLS (lk : Nat) : Fld := ⟨Reg.FAB_PORT_FEC lk, 63, 32⟩
def Fld.FAB_PORT_FEC_FLITS (lk : Nat) : Fld := ⟨Reg.FAB_PORT_FEC lk, 31, 0⟩
def Fld.HALL_ID_DEV_ID : Fld := ⟨Reg.HALL_ID, 63, 50⟩
def Fld.HALL_ID_GEN : Fld := ⟨Reg.HALL_ID, 49, 34⟩
def Fld.HALL_ID_ROLE : Fld := ⟨Reg.HALL_ID, 33, 32⟩
def Fld.HALL_ID_PARTITION : Fld := ⟨Reg.HALL_ID, 31, 28⟩
def Fld.HALL_ID_STATE : Fld := ⟨Reg.HALL_ID, 27, 26⟩
def Fld.HALL_ID_DEPUTY : Fld := ⟨Reg.HALL_ID, 25, 25⟩
def Fld.HALL_ID_HEADWATER : Fld := ⟨Reg.HALL_ID, 23, 10⟩
def Fld.HALL_EXPORT_EN : Fld := ⟨Reg.HALL_EXPORT, 63, 63⟩
def Fld.HALL_EXPORT_PAGES : Fld := ⟨Reg.HALL_EXPORT, 62, 44⟩
def Fld.HALL_EXPORT_BASE_PAGE : Fld := ⟨Reg.HALL_EXPORT, 38, 21⟩
def Fld.HALL_LAG_LAG_AVG : Fld := ⟨Reg.HALL_LAG, 63, 48⟩
def Fld.HALL_LAG_LAG_MAX : Fld := ⟨Reg.HALL_LAG, 47, 32⟩
def Fld.HALL_LAG_RUNS : Fld := ⟨Reg.HALL_LAG, 31, 0⟩
def Fld.HALL_LAG_POLICY_WARN_NS : Fld := ⟨Reg.HALL_LAG_POLICY, 63, 48⟩
def Fld.HALL_LAG_POLICY_EJECT_NS : Fld := ⟨Reg.HALL_LAG_POLICY, 47, 32⟩
def Fld.HALL_LAG_POLICY_EJECT_BEATS : Fld := ⟨Reg.HALL_LAG_POLICY, 7, 0⟩
def Fld.HALL_GEN_SEL_SLOT : Fld := ⟨Reg.HALL_GEN_SEL, 13, 0⟩
def Fld.HALL_GEN_DATA_STATE : Fld := ⟨Reg.HALL_GEN_DATA, 63, 62⟩
def Fld.HALL_GEN_DATA_GEN : Fld := ⟨Reg.HALL_GEN_DATA, 15, 0⟩
def Fld.HALL_TRIB_SEL_ENTRY : Fld := ⟨Reg.HALL_TRIB_SEL, 6, 0⟩
def Fld.HALL_TRIB_DATA_VALID : Fld := ⟨Reg.HALL_TRIB_DATA, 63, 63⟩
def Fld.HALL_TRIB_DATA_STATE : Fld := ⟨Reg.HALL_TRIB_DATA, 62, 61⟩
def Fld.HALL_TRIB_DATA_MISSES : Fld := ⟨Reg.HALL_TRIB_DATA, 60, 58⟩
def Fld.HALL_TRIB_DATA_DEV : Fld := ⟨Reg.HALL_TRIB_DATA, 57, 44⟩
def Fld.HALL_TRIB_DATA_LAG_AVG : Fld := ⟨Reg.HALL_TRIB_DATA, 43, 28⟩
def Fld.HALL_TRIB_DATA_GEN : Fld := ⟨Reg.HALL_TRIB_DATA, 15, 0⟩
def Fld.HALL_FENCE_STATUS_FENCES : Fld := ⟨Reg.HALL_FENCE_STATUS, 63, 48⟩
def Fld.HALL_FENCE_STATUS_LAST_SLOT : Fld := ⟨Reg.HALL_FENCE_STATUS, 45, 32⟩
def Fld.HALL_FENCE_STATUS_STALE_DROPS : Fld := ⟨Reg.HALL_FENCE_STATUS, 31, 0⟩
def Fld.HALL_TBL_STAGE_DW (k : Nat) : Fld := ⟨Reg.HALL_TBL_STAGE k, 63, 0⟩
def Fld.HALL_TBL_CMD_COMMIT : Fld := ⟨Reg.HALL_TBL_CMD, 63, 63⟩
def Fld.HALL_TBL_CMD_READ : Fld := ⟨Reg.HALL_TBL_CMD, 62, 62⟩
def Fld.HALL_TBL_CMD_TABLE : Fld := ⟨Reg.HALL_TBL_CMD, 61, 60⟩
def Fld.HALL_TBL_CMD_INDEX : Fld := ⟨Reg.HALL_TBL_CMD, 9, 0⟩
def Fld.HALL_TBL_STATUS_BUSY : Fld := ⟨Reg.HALL_TBL_STATUS, 63, 63⟩
def Fld.HALL_TBL_STATUS_DONE : Fld := ⟨Reg.HALL_TBL_STATUS, 62, 62⟩
def Fld.HALL_TBL_STATUS_OVERRUN : Fld := ⟨Reg.HALL_TBL_STATUS, 61, 61⟩
def Fld.HALL_TBL_STATUS_INDEX : Fld := ⟨Reg.HALL_TBL_STATUS, 41, 32⟩
def Fld.HALL_TBL_STATUS_ROUTE_MISSES : Fld := ⟨Reg.HALL_TBL_STATUS, 31, 0⟩
def Fld.HALL_CFL_STAGE_DW (k : Nat) : Fld := ⟨Reg.HALL_CFL_STAGE k, 63, 0⟩
def Fld.HALL_CFL_CMD_INSTALL : Fld := ⟨Reg.HALL_CFL_CMD, 63, 63⟩
def Fld.HALL_CFL_CMD_REMOVE : Fld := ⟨Reg.HALL_CFL_CMD, 62, 62⟩
def Fld.HALL_CFL_CMD_READ : Fld := ⟨Reg.HALL_CFL_CMD, 61, 61⟩
def Fld.HALL_CFL_CMD_INDEX : Fld := ⟨Reg.HALL_CFL_CMD, 5, 0⟩
def Fld.HALL_CFL_STATUS_BUSY : Fld := ⟨Reg.HALL_CFL_STATUS, 63, 63⟩
def Fld.HALL_CFL_STATUS_DONE : Fld := ⟨Reg.HALL_CFL_STATUS, 62, 62⟩
def Fld.HALL_CFL_STATUS_OVERRUN : Fld := ⟨Reg.HALL_CFL_STATUS, 61, 61⟩
def Fld.HALL_CFL_STATUS_INDEX : Fld := ⟨Reg.HALL_CFL_STATUS, 37, 32⟩
def Fld.HALL_CFL_STATUS_RESULT : Fld := ⟨Reg.HALL_CFL_STATUS, 31, 28⟩
def Fld.HALL_CFL_STATUS_RUNNING : Fld := ⟨Reg.HALL_CFL_STATUS, 6, 0⟩
def Fld.HALL_SNAP_CTL_GO : Fld := ⟨Reg.HALL_SNAP_CTL, 63, 63⟩
def Fld.HALL_SNAP_CTL_BUSY : Fld := ⟨Reg.HALL_SNAP_CTL, 62, 62⟩
def Fld.HALL_SNAP_CTL_DONE : Fld := ⟨Reg.HALL_SNAP_CTL, 61, 61⟩
def Fld.HALL_SNAP_CTL_FAILED : Fld := ⟨Reg.HALL_SNAP_CTL, 60, 60⟩
def Fld.HALL_SNAP_CTL_EPOCH : Fld := ⟨Reg.HALL_SNAP_CTL, 47, 32⟩
def Fld.HALL_SNAP_CTL_LEAD : Fld := ⟨Reg.HALL_SNAP_CTL, 15, 0⟩
def Fld.HALL_FRESET_GO : Fld := ⟨Reg.HALL_FRESET, 63, 63⟩
def Fld.HALL_FRESET_BUSY : Fld := ⟨Reg.HALL_FRESET, 62, 62⟩
def Fld.HALL_FRESET_DONE : Fld := ⟨Reg.HALL_FRESET, 61, 61⟩
def Fld.HALL_FRESET_HALL : Fld := ⟨Reg.HALL_FRESET, 60, 60⟩
def Fld.HALL_FRESET_PART : Fld := ⟨Reg.HALL_FRESET, 3, 0⟩
def Fld.HALL_SNAP_LINK_TX_SEQ (x : Nat) : Fld := ⟨Reg.HALL_SNAP_LINK x, 63, 52⟩
def Fld.HALL_SNAP_LINK_RX_SEQ (x : Nat) : Fld := ⟨Reg.HALL_SNAP_LINK x, 51, 40⟩
def Fld.HALL_RT_ENT_VALID (i : Nat) : Fld := ⟨Reg.HALL_RT_ENT i, 63, 63⟩
def Fld.HALL_RT_ENT_CLASS_UP (i : Nat) : Fld := ⟨Reg.HALL_RT_ENT i, 62, 62⟩
def Fld.HALL_RT_ENT_PRIORITY (i : Nat) : Fld := ⟨Reg.HALL_RT_ENT i, 59, 56⟩
def Fld.HALL_RT_ENT_DEV_HI (i : Nat) : Fld := ⟨Reg.HALL_RT_ENT i, 55, 42⟩
def Fld.HALL_RT_ENT_DEV_LO (i : Nat) : Fld := ⟨Reg.HALL_RT_ENT i, 41, 28⟩
def Fld.HALL_RT_ENT_NLINKS (i : Nat) : Fld := ⟨Reg.HALL_RT_ENT i, 25, 24⟩
def Fld.HALL_RT_ENT_LINK3 (i : Nat) : Fld := ⟨Reg.HALL_RT_ENT i, 23, 18⟩
def Fld.HALL_RT_ENT_LINK2 (i : Nat) : Fld := ⟨Reg.HALL_RT_ENT i, 17, 12⟩
def Fld.HALL_RT_ENT_LINK1 (i : Nat) : Fld := ⟨Reg.HALL_RT_ENT i, 11, 6⟩
def Fld.HALL_RT_ENT_LINK0 (i : Nat) : Fld := ⟨Reg.HALL_RT_ENT i, 5, 0⟩
def Fld.HALL_MAP_ENT_LO_VALID (i : Nat) : Fld := ⟨Reg.HALL_MAP_ENT_LO i, 63, 63⟩
def Fld.HALL_MAP_ENT_LO_PRESENT (i : Nat) : Fld := ⟨Reg.HALL_MAP_ENT_LO i, 62, 62⟩
def Fld.HALL_MAP_ENT_LO_WRITE (i : Nat) : Fld := ⟨Reg.HALL_MAP_ENT_LO i, 61, 61⟩
def Fld.HALL_MAP_ENT_LO_READ (i : Nat) : Fld := ⟨Reg.HALL_MAP_ENT_LO i, 60, 60⟩
def Fld.HALL_MAP_ENT_LO_PRIORITY (i : Nat) : Fld := ⟨Reg.HALL_MAP_ENT_LO i, 59, 56⟩
def Fld.HALL_MAP_ENT_LO_TENANT (i : Nat) : Fld := ⟨Reg.HALL_MAP_ENT_LO i, 52, 48⟩
def Fld.HALL_MAP_ENT_LO_FIRST (i : Nat) : Fld := ⟨Reg.HALL_MAP_ENT_LO i, 42, 0⟩
def Fld.HALL_MAP_ENT_HI_LAST (i : Nat) : Fld := ⟨Reg.HALL_MAP_ENT_HI i, 42, 0⟩
def Fld.MGMT_STATUS_STATE : Fld := ⟨Reg.MGMT_STATUS, 63, 61⟩
def Fld.MGMT_STATUS_HELD_CAUSE : Fld := ⟨Reg.MGMT_STATUS, 60, 57⟩
def Fld.MGMT_STATUS_HOSTLESS : Fld := ⟨Reg.MGMT_STATUS, 56, 56⟩
def Fld.MGMT_STATUS_CORE_UP : Fld := ⟨Reg.MGMT_STATUS, 55, 52⟩
def Fld.MGMT_STATUS_RESTRICTED : Fld := ⟨Reg.MGMT_STATUS, 51, 48⟩
def Fld.MGMT_STATUS_JOBS : Fld := ⟨Reg.MGMT_STATUS, 23, 16⟩
def Fld.MGMT_CFG_KEEP_LIMIT : Fld := ⟨Reg.MGMT_CFG, 63, 48⟩
def Fld.MGMT_CFG_POLL_US : Fld := ⟨Reg.MGMT_CFG, 39, 32⟩
def Fld.MGMT_CFG_INTAKE_HIGH : Fld := ⟨Reg.MGMT_CFG, 31, 16⟩
def Fld.MGMT_CFG_INTAKE_LOW : Fld := ⟨Reg.MGMT_CFG, 15, 0⟩
def Fld.MGMT_DRV_VERSION_OFFER (vw : Nat) : Fld := ⟨Reg.MGMT_DRV_VERSION vw, 63, 63⟩
def Fld.MGMT_DRV_VERSION_RESULT (vw : Nat) : Fld := ⟨Reg.MGMT_DRV_VERSION vw, 62, 61⟩
def Fld.MGMT_DRV_VERSION_DEV_MAJOR (vw : Nat) : Fld := ⟨Reg.MGMT_DRV_VERSION vw, 47, 40⟩
def Fld.MGMT_DRV_VERSION_NEG_MINOR (vw : Nat) : Fld := ⟨Reg.MGMT_DRV_VERSION vw, 39, 32⟩
def Fld.MGMT_DRV_VERSION_DRV_MAJOR (vw : Nat) : Fld := ⟨Reg.MGMT_DRV_VERSION vw, 15, 8⟩
def Fld.MGMT_DRV_VERSION_DRV_MINOR (vw : Nat) : Fld := ⟨Reg.MGMT_DRV_VERSION vw, 7, 0⟩
def Fld.MGMT_FW_TRIAL : Fld := ⟨Reg.MGMT_FW, 63, 63⟩
def Fld.MGMT_FW_FALLBACK : Fld := ⟨Reg.MGMT_FW, 62, 62⟩
def Fld.MGMT_FW_SLOT : Fld := ⟨Reg.MGMT_FW, 61, 61⟩
def Fld.MGMT_FW_STAGING : Fld := ⟨Reg.MGMT_FW, 60, 60⟩
def Fld.MGMT_FW_STAGE_RESULT : Fld := ⟨Reg.MGMT_FW, 59, 58⟩
def Fld.MGMT_FW_VERSION : Fld := ⟨Reg.MGMT_FW, 47, 32⟩
def Fld.MGMT_FW_OTHER_VERSION : Fld := ⟨Reg.MGMT_FW, 31, 16⟩
def Fld.MGMT_WDOG_TIMEOUT_US (k : Nat) : Fld := ⟨Reg.MGMT_WDOG k, 63, 48⟩
def Fld.MGMT_WDOG_EXPIRIES (k : Nat) : Fld := ⟨Reg.MGMT_WDOG k, 47, 40⟩
def Fld.MGMT_WDOG_RESTARTING (k : Nat) : Fld := ⟨Reg.MGMT_WDOG k, 39, 39⟩
def Fld.MGMT_WDOG_LAST_PC (k : Nat) : Fld := ⟨Reg.MGMT_WDOG k, 31, 0⟩
def Fld.MGMT_GANG_STATE (g : Nat) : Fld := ⟨Reg.MGMT_GANG g, 63, 61⟩
def Fld.MGMT_GANG_TENANT (g : Nat) : Fld := ⟨Reg.MGMT_GANG g, 52, 48⟩
def Fld.MGMT_GANG_LAST_CLEAR_US (g : Nat) : Fld := ⟨Reg.MGMT_GANG g, 31, 0⟩
def Fld.MGMT_TENANT_STATE (t : Nat) : Fld := ⟨Reg.MGMT_TENANT t, 63, 62⟩
def Fld.MGMT_TENANT_SERVICE (t : Nat) : Fld := ⟨Reg.MGMT_TENANT t, 61, 61⟩
def Fld.MGMT_TENANT_DEBUG_KEEP (t : Nat) : Fld := ⟨Reg.MGMT_TENANT t, 60, 60⟩
def Fld.MGMT_TENANT_DEBUG_OK (t : Nat) : Fld := ⟨Reg.MGMT_TENANT t, 59, 59⟩
def Fld.MGMT_TENANT_INTAKE (t : Nat) : Fld := ⟨Reg.MGMT_TENANT t, 58, 57⟩
def Fld.MGMT_TENANT_CLOSE_REASON (t : Nat) : Fld := ⟨Reg.MGMT_TENANT t, 56, 54⟩
def Fld.MGMT_TENANT_GANG_ALLOW (t : Nat) : Fld := ⟨Reg.MGMT_TENANT t, 47, 32⟩
def Fld.MGMT_TENANT_GANGS (t : Nat) : Fld := ⟨Reg.MGMT_TENANT t, 31, 16⟩
def Fld.MGMT_TENANT_LAST_END (t : Nat) : Fld := ⟨Reg.MGMT_TENANT t, 15, 12⟩
def Fld.MGMT_TENANT_KEY_BUDGET (t : Nat) : Fld := ⟨Reg.MGMT_TENANT_KEY t, 63, 46⟩
def Fld.MGMT_TENANT_KEY_USED (t : Nat) : Fld := ⟨Reg.MGMT_TENANT_KEY t, 45, 28⟩
def Fld.MGMT_TENANT_KEY_LEASES (t : Nat) : Fld := ⟨Reg.MGMT_TENANT_KEY t, 27, 13⟩
def Fld.MGMT_TENANT_KEY_ENTRIES (t : Nat) : Fld := ⟨Reg.MGMT_TENANT_KEY t, 11, 0⟩
def Fld.MGMT_SVC_PTR_REQ_TAIL (t : Nat) : Fld := ⟨Reg.MGMT_SVC_PTR t, 63, 48⟩
def Fld.MGMT_SVC_PTR_REQ_HEAD (t : Nat) : Fld := ⟨Reg.MGMT_SVC_PTR t, 47, 32⟩
def Fld.MGMT_SVC_PTR_RES_TAIL (t : Nat) : Fld := ⟨Reg.MGMT_SVC_PTR t, 31, 16⟩
def Fld.MGMT_SVC_PTR_RES_HEAD (t : Nat) : Fld := ⟨Reg.MGMT_SVC_PTR t, 15, 0⟩
def Fld.SEAL_STATUS_STATE : Fld := ⟨Reg.SEAL_STATUS, 63, 61⟩
def Fld.SEAL_STATUS_OWNER : Fld := ⟨Reg.SEAL_STATUS, 60, 58⟩
def Fld.SEAL_STATUS_QUEUED : Fld := ⟨Reg.SEAL_STATUS, 57, 55⟩
def Fld.SEAL_STATUS_MULTIPART : Fld := ⟨Reg.SEAL_STATUS, 54, 54⟩
def Fld.SEAL_STATUS_ENTROPY_OK : Fld := ⟨Reg.SEAL_STATUS, 53, 53⟩
def Fld.SEAL_STATUS_DEBUG_UNLOCKED : Fld := ⟨Reg.SEAL_STATUS, 52, 52⟩
def Fld.SEAL_STATUS_FAULTS : Fld := ⟨Reg.SEAL_STATUS, 47, 40⟩
def Fld.SEAL_STATUS_REFUSED : Fld := ⟨Reg.SEAL_STATUS, 31, 0⟩
def Fld.SEAL_CFG_IDLE_LIMIT : Fld := ⟨Reg.SEAL_CFG, 15, 0⟩
def Fld.SEAL_BOOT_SLOT : Fld := ⟨Reg.SEAL_BOOT, 63, 63⟩
def Fld.SEAL_BOOT_RESULT : Fld := ⟨Reg.SEAL_BOOT, 62, 61⟩
def Fld.SEAL_BOOT_RETRIED : Fld := ⟨Reg.SEAL_BOOT, 60, 60⟩
def Fld.SEAL_BOOT_IMAGE_SVN : Fld := ⟨Reg.SEAL_BOOT, 47, 32⟩
def Fld.SEAL_BOOT_SVN_FLOOR : Fld := ⟨Reg.SEAL_BOOT, 31, 16⟩
def Fld.SEAL_BOOT_VERSION : Fld := ⟨Reg.SEAL_BOOT, 15, 0⟩
def Fld.SEAL_MEAS_DIGEST (k : Nat) : Fld := ⟨Reg.SEAL_MEAS k, 63, 0⟩
def Fld.SEAL_ENTROPY_OK : Fld := ⟨Reg.SEAL_ENTROPY, 63, 63⟩
def Fld.SEAL_ENTROPY_RCT_FAILS : Fld := ⟨Reg.SEAL_ENTROPY, 47, 32⟩
def Fld.SEAL_ENTROPY_APT_FAILS : Fld := ⟨Reg.SEAL_ENTROPY, 31, 16⟩
def Fld.SEAL_ENTROPY_RESEEDS : Fld := ⟨Reg.SEAL_ENTROPY, 15, 0⟩
def Fld.SEAL_IDE_LINK_EN : Fld := ⟨Reg.SEAL_IDE, 63, 63⟩
def Fld.SEAL_IDE_LINK_KSET : Fld := ⟨Reg.SEAL_IDE, 62, 62⟩
def Fld.SEAL_IDE_SEL_EN : Fld := ⟨Reg.SEAL_IDE, 61, 61⟩
def Fld.SEAL_IDE_SEL_KSET : Fld := ⟨Reg.SEAL_IDE, 60, 60⟩
def Fld.SEAL_IDE_KEY_UPDATES : Fld := ⟨Reg.SEAL_IDE, 31, 0⟩
def Fld.SEAL_DEBUG_UNLOCKED : Fld := ⟨Reg.SEAL_DEBUG, 63, 63⟩
def Fld.SEAL_DEBUG_SCOPE : Fld := ⟨Reg.SEAL_DEBUG, 62, 61⟩
def Fld.SEAL_DEBUG_ATTEMPTS : Fld := ⟨Reg.SEAL_DEBUG, 47, 32⟩
def Fld.HIF_FN_ID_FUNCTION (vw : Nat) : Fld := ⟨Reg.HIF_FN_ID vw, 63, 60⟩
def Fld.HIF_FN_ID_I3C (vw : Nat) : Fld := ⟨Reg.HIF_FN_ID vw, 59, 59⟩
def Fld.HIF_FN_ID_TENANT (vw : Nat) : Fld := ⟨Reg.HIF_FN_ID vw, 52, 48⟩
def Fld.HIF_FN_ID_HANDSHAKE (vw : Nat) : Fld := ⟨Reg.HIF_FN_ID vw, 47, 47⟩
def Fld.HIF_BAR2_BASE_BASE (vw : Nat) : Fld := ⟨Reg.HIF_BAR2_BASE vw, 38, 30⟩
def Fld.HIF_DB_HOST_HOST (vw : Nat) : Fld := ⟨Reg.HIF_DB_HOST vw, 63, 0⟩
def Fld.HIF_DB_DEV_DEV (vw : Nat) : Fld := ⟨Reg.HIF_DB_DEV vw, 38, 0⟩
def Fld.HIF_DB_GO_GO (vw : Nat) : Fld := ⟨Reg.HIF_DB_GO vw, 63, 63⟩
def Fld.HIF_DB_GO_KIND (vw : Nat) : Fld := ⟨Reg.HIF_DB_GO vw, 62, 61⟩
def Fld.HIF_DB_GO_TAG (vw : Nat) : Fld := ⟨Reg.HIF_DB_GO vw, 47, 32⟩
def Fld.HIF_DB_GO_COUNT (vw : Nat) : Fld := ⟨Reg.HIF_DB_GO vw, 31, 0⟩
def Fld.HIF_DB_STATUS_BUSY (vw : Nat) : Fld := ⟨Reg.HIF_DB_STATUS vw, 63, 63⟩
def Fld.HIF_DB_STATUS_DONE (vw : Nat) : Fld := ⟨Reg.HIF_DB_STATUS vw, 62, 62⟩
def Fld.HIF_DB_STATUS_OVERRUN (vw : Nat) : Fld := ⟨Reg.HIF_DB_STATUS vw, 61, 61⟩
def Fld.HIF_DB_STATUS_RESULT (vw : Nat) : Fld := ⟨Reg.HIF_DB_STATUS vw, 60, 57⟩
def Fld.HIF_DB_STATUS_TAG (vw : Nat) : Fld := ⟨Reg.HIF_DB_STATUS vw, 47, 32⟩
def Fld.HIF_DB_STATUS_COUNT (vw : Nat) : Fld := ⟨Reg.HIF_DB_STATUS vw, 31, 0⟩
def Fld.HIF_MGMT_CMD_START (vw : Nat) : Fld := ⟨Reg.HIF_MGMT_CMD vw, 63, 63⟩
def Fld.HIF_MGMT_CMD_ABORT (vw : Nat) : Fld := ⟨Reg.HIF_MGMT_CMD vw, 62, 62⟩
def Fld.HIF_MGMT_CMD_CODE (vw : Nat) : Fld := ⟨Reg.HIF_MGMT_CMD vw, 55, 48⟩
def Fld.HIF_MGMT_CMD_LENGTH (vw : Nat) : Fld := ⟨Reg.HIF_MGMT_CMD vw, 31, 0⟩
def Fld.HIF_MGMT_DATA_DATA (vw : Nat) : Fld := ⟨Reg.HIF_MGMT_DATA vw, 63, 0⟩
def Fld.HIF_MGMT_STATUS_BUSY (vw : Nat) : Fld := ⟨Reg.HIF_MGMT_STATUS vw, 63, 63⟩
def Fld.HIF_MGMT_STATUS_DONE (vw : Nat) : Fld := ⟨Reg.HIF_MGMT_STATUS vw, 62, 62⟩
def Fld.HIF_MGMT_STATUS_OVERFLOW (vw : Nat) : Fld := ⟨Reg.HIF_MGMT_STATUS vw, 61, 61⟩
def Fld.HIF_MGMT_STATUS_UNDERRUN (vw : Nat) : Fld := ⟨Reg.HIF_MGMT_STATUS vw, 60, 60⟩
def Fld.HIF_MGMT_STATUS_STATUS (vw : Nat) : Fld := ⟨Reg.HIF_MGMT_STATUS vw, 55, 48⟩
def Fld.HIF_MGMT_STATUS_SPACE (vw : Nat) : Fld := ⟨Reg.HIF_MGMT_STATUS vw, 41, 32⟩
def Fld.HIF_MGMT_STATUS_RESP_LEFT (vw : Nat) : Fld := ⟨Reg.HIF_MGMT_STATUS vw, 31, 0⟩
def Fld.HIF_IRQ_MAP_SRC (vw k j : Nat) : Fld := ⟨Reg.HIF_IRQ_MAP vw k, 8 * j + 7, 8 * j⟩
def Fld.HIF_VF_BIND_EN (vw v : Nat) : Fld := ⟨Reg.HIF_VF_BIND vw v, 63, 63⟩
def Fld.HIF_VF_BIND_TENANT (vw v : Nat) : Fld := ⟨Reg.HIF_VF_BIND vw v, 52, 48⟩
def Fld.HIF_MBOX_CFG_BAD_ACK (vw m : Nat) : Fld := ⟨Reg.HIF_MBOX_CFG vw m, 63, 63⟩
def Fld.HIF_MBOX_CFG_KIND (vw m : Nat) : Fld := ⟨Reg.HIF_MBOX_CFG vw m, 62, 60⟩
def Fld.HIF_MBOX_CFG_TENANT (vw m : Nat) : Fld := ⟨Reg.HIF_MBOX_CFG vw m, 52, 48⟩
def Fld.HIF_MBOX_ACK_MSEQ (vw m : Nat) : Fld := ⟨Reg.HIF_MBOX_ACK vw m, 31, 0⟩
def Fld.HIF_MBOX_STAT_VALID (vw m : Nat) : Fld := ⟨Reg.HIF_MBOX_STAT vw m, 63, 63⟩
def Fld.HIF_MBOX_STAT_KIND (vw m : Nat) : Fld := ⟨Reg.HIF_MBOX_STAT vw m, 62, 60⟩
def Fld.HIF_MBOX_STAT_MSEQ (vw m : Nat) : Fld := ⟨Reg.HIF_MBOX_STAT vw m, 31, 0⟩
def Fld.HIF_MBOX_PAY_PAY (vw m w : Nat) : Fld := ⟨Reg.HIF_MBOX_PAY vw m w, 63, 0⟩
def Fld.CLKPWR_CLK_STEP : Fld := ⟨Reg.CLKPWR_CLK, 63, 62⟩
def Fld.CLKPWR_CLK_HOLD : Fld := ⟨Reg.CLKPWR_CLK, 61, 61⟩
def Fld.CLKPWR_CLK_ROOT_LOCK : Fld := ⟨Reg.CLKPWR_CLK, 60, 60⟩
def Fld.CLKPWR_CLK_SER_LOCK : Fld := ⟨Reg.CLKPWR_CLK, 59, 59⟩
def Fld.CLKPWR_CLK_PCIE_LOCK : Fld := ⟨Reg.CLKPWR_CLK, 58, 58⟩
def Fld.CLKPWR_CLK_LAST_LATENCY_US : Fld := ⟨Reg.CLKPWR_CLK, 47, 32⟩
def Fld.CLKPWR_CLK_SWITCHES : Fld := ⟨Reg.CLKPWR_CLK, 31, 0⟩
def Fld.CLKPWR_THROTTLE_TARGET : Fld := ⟨Reg.CLKPWR_THROTTLE, 63, 62⟩
def Fld.CLKPWR_THROTTLE_HOST : Fld := ⟨Reg.CLKPWR_THROTTLE, 47, 46⟩
def Fld.CLKPWR_THROTTLE_HW : Fld := ⟨Reg.CLKPWR_THROTTLE, 45, 44⟩
def Fld.CLKPWR_THROTTLE_HBM : Fld := ⟨Reg.CLKPWR_THROTTLE, 43, 42⟩
def Fld.CLKPWR_THROTTLE_RCH3 : Fld := ⟨Reg.CLKPWR_THROTTLE, 39, 38⟩
def Fld.CLKPWR_THROTTLE_RCH2 : Fld := ⟨Reg.CLKPWR_THROTTLE, 37, 36⟩
def Fld.CLKPWR_THROTTLE_RCH1 : Fld := ⟨Reg.CLKPWR_THROTTLE, 35, 34⟩
def Fld.CLKPWR_THROTTLE_RCH0 : Fld := ⟨Reg.CLKPWR_THROTTLE, 33, 32⟩
def Fld.CLKPWR_THROTTLE_HOLD_US : Fld := ⟨Reg.CLKPWR_THROTTLE, 31, 0⟩
def Fld.CLKPWR_THERM_TRIP : Fld := ⟨Reg.CLKPWR_THERM, 63, 56⟩
def Fld.CLKPWR_THERM_THW : Fld := ⟨Reg.CLKPWR_THERM, 55, 48⟩
def Fld.CLKPWR_THERM_HBM_TRIP : Fld := ⟨Reg.CLKPWR_THERM, 39, 32⟩
def Fld.CLKPWR_THERM_T5 : Fld := ⟨Reg.CLKPWR_THERM, 23, 16⟩
def Fld.CLKPWR_THERM_T6 : Fld := ⟨Reg.CLKPWR_THERM, 15, 8⟩
def Fld.CLKPWR_THERM_T8 : Fld := ⟨Reg.CLKPWR_THERM, 7, 0⟩
def Fld.CLKPWR_VCORE_V4 : Fld := ⟨Reg.CLKPWR_VCORE, 63, 56⟩
def Fld.CLKPWR_VCORE_V5 : Fld := ⟨Reg.CLKPWR_VCORE, 55, 48⟩
def Fld.CLKPWR_VCORE_V6 : Fld := ⟨Reg.CLKPWR_VCORE, 47, 40⟩
def Fld.CLKPWR_VCORE_V8 : Fld := ⟨Reg.CLKPWR_VCORE, 39, 32⟩
def Fld.CLKPWR_VCORE_SETPOINT : Fld := ⟨Reg.CLKPWR_VCORE, 31, 24⟩
def Fld.CLKPWR_VCORE_AVS_EN : Fld := ⟨Reg.CLKPWR_VCORE, 23, 23⟩
def Fld.CLKPWR_VCORE_PGOOD : Fld := ⟨Reg.CLKPWR_VCORE, 22, 22⟩
def Fld.CLKPWR_VCORE_AVS_ERRORS : Fld := ⟨Reg.CLKPWR_VCORE, 15, 0⟩
def Fld.CLKPWR_PCAP_REACH_CAP : Fld := ⟨Reg.CLKPWR_PCAP, 15, 0⟩
def Fld.CLKPWR_RESET_LAST : Fld := ⟨Reg.CLKPWR_RESET, 63, 63⟩
def Fld.CLKPWR_RESET_BOOT_SRC : Fld := ⟨Reg.CLKPWR_RESET, 62, 61⟩
def Fld.CLKPWR_RESET_ROLE_SEL : Fld := ⟨Reg.CLKPWR_RESET, 60, 59⟩
def Fld.CLKPWR_RESET_FAIL_CAUSE : Fld := ⟨Reg.CLKPWR_RESET, 58, 55⟩
def Fld.CLKPWR_RESET_WARM_COUNT : Fld := ⟨Reg.CLKPWR_RESET, 47, 32⟩
def Fld.CLKPWR_RESET_CLEAR_US : Fld := ⟨Reg.CLKPWR_RESET, 31, 0⟩
def Fld.CLKPWR_LEDGER_BANK : Fld := ⟨Reg.CLKPWR_LEDGER, 63, 62⟩
def Fld.CLKPWR_LEDGER_VALID_A : Fld := ⟨Reg.CLKPWR_LEDGER, 61, 61⟩
def Fld.CLKPWR_LEDGER_VALID_B : Fld := ⟨Reg.CLKPWR_LEDGER, 60, 60⟩
def Fld.CLKPWR_LEDGER_WRITING : Fld := ⟨Reg.CLKPWR_LEDGER, 59, 59⟩
def Fld.CLKPWR_LEDGER_LAST_WRITE : Fld := ⟨Reg.CLKPWR_LEDGER, 58, 57⟩
def Fld.CLKPWR_LEDGER_WRITES : Fld := ⟨Reg.CLKPWR_LEDGER, 47, 32⟩
def Fld.CLKPWR_LEDGER_SEQ : Fld := ⟨Reg.CLKPWR_LEDGER, 31, 0⟩
def Fld.CLKPWR_TIME_TIME : Fld := ⟨Reg.CLKPWR_TIME, 63, 0⟩
def Fld.CLKPWR_TIME_CTL_SET : Fld := ⟨Reg.CLKPWR_TIME_CTL, 63, 63⟩
def Fld.CLKPWR_TIME_CTL_RATE_PPB : Fld := ⟨Reg.CLKPWR_TIME_CTL, 31, 0⟩
def Fld.CLKPWR_TIME_SET_VALUE : Fld := ⟨Reg.CLKPWR_TIME_SET, 63, 0⟩
def Fld.CLKPWR_PPS_CAPTURE : Fld := ⟨Reg.CLKPWR_PPS, 63, 0⟩
def Fld.CLKPWR_TSYNC_LOCKED : Fld := ⟨Reg.CLKPWR_TSYNC, 63, 63⟩
def Fld.CLKPWR_TSYNC_PPS_OK : Fld := ⟨Reg.CLKPWR_TSYNC, 62, 62⟩
def Fld.CLKPWR_TSYNC_SOURCE : Fld := ⟨Reg.CLKPWR_TSYNC, 61, 61⟩
def Fld.CLKPWR_TSYNC_LINK : Fld := ⟨Reg.CLKPWR_TSYNC, 53, 48⟩
def Fld.CLKPWR_TSYNC_OFFSET_PS : Fld := ⟨Reg.CLKPWR_TSYNC, 31, 0⟩
def Fld.GAUGE_RAIL_MAX (r : Nat) : Fld := ⟨Reg.GAUGE_RAIL r, 63, 48⟩
def Fld.GAUGE_RAIL_MIN (r : Nat) : Fld := ⟨Reg.GAUGE_RAIL r, 47, 32⟩
def Fld.GAUGE_RAIL_LATEST (r : Nat) : Fld := ⟨Reg.GAUGE_RAIL r, 15, 0⟩
def Fld.GAUGE_CORE_I_MAX (d : Nat) : Fld := ⟨Reg.GAUGE_CORE_I d, 63, 48⟩
def Fld.GAUGE_CORE_I_LATEST (d : Nat) : Fld := ⟨Reg.GAUGE_CORE_I d, 15, 0⟩
def Fld.GAUGE_REACH_POWER (k : Nat) : Fld := ⟨Reg.GAUGE_REACH k, 63, 48⟩
def Fld.GAUGE_REACH_HOT_TEMP (k : Nat) : Fld := ⟨Reg.GAUGE_REACH k, 47, 40⟩
def Fld.GAUGE_REACH_HOT_SENSOR (k : Nat) : Fld := ⟨Reg.GAUGE_REACH k, 39, 32⟩
def Fld.GAUGE_REACH_POWER_MAX (k : Nat) : Fld := ⟨Reg.GAUGE_REACH k, 15, 0⟩
def Fld.GAUGE_STAMP_TIME : Fld := ⟨Reg.GAUGE_STAMP, 63, 0⟩
def Fld.GAUGE_TEMP_SEL_SENSOR : Fld := ⟨Reg.GAUGE_TEMP_SEL, 6, 0⟩
def Fld.GAUGE_TEMP_DATA_MAX : Fld := ⟨Reg.GAUGE_TEMP_DATA, 63, 48⟩
def Fld.GAUGE_TEMP_DATA_LATEST : Fld := ⟨Reg.GAUGE_TEMP_DATA, 15, 0⟩
def Fld.SPOIL_CTL_CLEAR : Fld := ⟨Reg.SPOIL_CTL, 63, 63⟩
def Fld.SPOIL_STATUS_PENDING : Fld := ⟨Reg.SPOIL_STATUS, 63, 63⟩
def Fld.SPOIL_STATUS_PINNED : Fld := ⟨Reg.SPOIL_STATUS, 62, 62⟩
def Fld.SPOIL_STATUS_OVERFLOW : Fld := ⟨Reg.SPOIL_STATUS, 61, 32⟩
def Fld.SPOIL_STATUS_NEXT_SEQ : Fld := ⟨Reg.SPOIL_STATUS, 31, 0⟩
def Fld.SPOIL_IRQ_EN_EN : Fld := ⟨Reg.SPOIL_IRQ_EN, 31, 0⟩
def Fld.SPOIL_SEL_WORD : Fld := ⟨Reg.SPOIL_SEL, 33, 32⟩
def Fld.SPOIL_SEL_SEQ : Fld := ⟨Reg.SPOIL_SEL, 31, 0⟩
def Fld.SPOIL_DATA_DATA : Fld := ⟨Reg.SPOIL_DATA, 63, 0⟩
def Fld.SPOIL_PIN_DW (w : Nat) : Fld := ⟨Reg.SPOIL_PIN w, 63, 0⟩

end Sys2Proof.Machine
end

