-- ==== Sys2Proof/Machine/RegTable.lean ====
section
/-! DEFINITION. The field table of every register: access code and reset value (Table 0.3, R4, R503 of
spec/00_scope.md and spec/20_register_map.md), one row per register array. A row names offsets in canonical form: bench
blocks, link sets, channel sets, chains and mailboxes are brought to their first instance. -/

namespace Sys2Proof.Machine


/-- Registers of DEVCTL, as their tables list them. -/
def regTableDevctl0 : List RegSpec := [
  ⟨"DEVCTL_ID", 0x0, 0x0, 0, 1, [⟨63, 48, .ro, 0x2416⟩, ⟨47, 44, .ro, 0x0⟩, ⟨43, 40, .ro, 0x1⟩, ⟨31, 24, .ro, 0x1⟩, ⟨23, 16, .ro, 0x0⟩, ⟨15, 8, .ro, 0x44⟩, ⟨7, 0, .ro, 0x8⟩]⟩,
  ⟨"DEVCTL_SERIAL", 0x8, 0x0, 0, 1, [⟨63, 0, .ro, 0x0⟩]⟩,
  ⟨"DEVCTL_LEDGE_MAP", 0x40, 0x8, 0, 4, [⟨63, 63, .ro, 0x0⟩, ⟨62, 62, .ro, 0x0⟩, ⟨59, 56, .ro, 0x0⟩, ⟨54, 48, .ro, 0x7F⟩, ⟨46, 40, .ro, 0x0⟩]⟩,
  ⟨"DEVCTL_GANG_AVAIL", 0x60, 0x0, 0, 1, [⟨31, 16, .ro, 0x0⟩, ⟨15, 0, .ro, 0x0⟩]⟩,
  ⟨"DEVCTL_PRIME_STAGE", 0x100, 0x0, 0, 1, [⟨63, 32, .rw, 0x0⟩, ⟨28, 24, .rw, 0x0⟩, ⟨20, 16, .rw, 0x0⟩, ⟨12, 8, .rw, 0x0⟩, ⟨5, 4, .rw, 0x0⟩, ⟨3, 2, .rw, 0x0⟩, ⟨1, 0, .rw, 0x0⟩]⟩,
  ⟨"DEVCTL_PRIME_ROOT_STAGE", 0x108, 0x0, 0, 1, [⟨31, 0, .rw, 0x0⟩]⟩,
  ⟨"DEVCTL_PRIME_CMD", 0x110, 0x0, 0, 1, [⟨63, 63, .wo, 0x0⟩, ⟨62, 62, .wo, 0x0⟩, ⟨6, 0, .rw, 0x0⟩]⟩,
  ⟨"DEVCTL_PRIME_STATUS", 0x118, 0x0, 0, 1, [⟨63, 63, .ro, 0x0⟩, ⟨62, 62, .w1c, 0x0⟩, ⟨61, 61, .w1c, 0x0⟩, ⟨54, 48, .ro, 0x0⟩, ⟨35, 32, .ro, 0x0⟩, ⟨7, 0, .ro, 0x0⟩]⟩,
  ⟨"DEVCTL_PRIME_ENT_SHAPE", 0x1000, 0x20, 0, 128, [⟨63, 32, .ro, 0x0⟩, ⟨31, 31, .ro, 0x0⟩, ⟨30, 30, .ro, 0x0⟩, ⟨28, 24, .ro, 0x0⟩, ⟨20, 16, .ro, 0x0⟩, ⟨12, 8, .ro, 0x0⟩, ⟨5, 4, .ro, 0x0⟩, ⟨3, 2, .ro, 0x0⟩, ⟨1, 0, .ro, 0x0⟩]⟩,
  ⟨"DEVCTL_PRIME_ENT_ROOT", 0x1008, 0x20, 0, 128, [⟨31, 0, .ro, 0x0⟩]⟩,
  ⟨"DEVCTL_PRIME_ENT_FOLD", 0x1010, 0x20, 0, 128, [⟨63, 32, .ro, 0x0⟩, ⟨31, 0, .ro, 0x0⟩]⟩,
  ⟨"DEVCTL_PRIME_ENT_CUBE", 0x1018, 0x20, 0, 128, [⟨31, 0, .ro, 0x0⟩]⟩]

/-- Registers of DEVCTL, as their tables list them. -/
def regTableDevctl1 : List RegSpec := [
  ⟨"DEVCTL_CHAIN_STAGE", 0x200, 0x8, 0, 10, [⟨62, 56, .rw, 0x0⟩, ⟨54, 48, .rw, 0x0⟩, ⟨46, 40, .rw, 0x0⟩, ⟨38, 32, .rw, 0x0⟩, ⟨30, 24, .rw, 0x0⟩, ⟨22, 16, .rw, 0x0⟩, ⟨14, 8, .rw, 0x0⟩, ⟨6, 0, .rw, 0x0⟩]⟩,
  ⟨"DEVCTL_CHAIN_CMD", 0x250, 0x0, 0, 1, [⟨63, 63, .wo, 0x0⟩, ⟨62, 62, .wo, 0x0⟩, ⟨22, 16, .rw, 0x0⟩, ⟨12, 8, .rw, 0x0⟩, ⟨4, 0, .rw, 0x0⟩]⟩,
  ⟨"DEVCTL_CHAIN_STATUS", 0x258, 0x0, 0, 1, [⟨63, 63, .ro, 0x0⟩, ⟨62, 62, .w1c, 0x0⟩, ⟨61, 61, .w1c, 0x0⟩, ⟨52, 48, .ro, 0x0⟩, ⟨35, 32, .ro, 0x0⟩, ⟨31, 0, .ro, 0x0⟩]⟩,
  ⟨"DEVCTL_CHAIN_ENT_HDR", 0x2000, 0x0, 0, 1, [⟨63, 63, .ro, 0x0⟩, ⟨62, 62, .ro, 0x0⟩, ⟨22, 16, .ro, 0x0⟩, ⟨12, 8, .ro, 0x0⟩]⟩,
  ⟨"DEVCTL_KEY_STAGE", 0x4000, 0x8, 0, 8, [⟨63, 0, .rw, 0x0⟩]⟩,
  ⟨"DEVCTL_KEY_CMD", 0x4040, 0x0, 0, 1, [⟨63, 63, .wo, 0x0⟩, ⟨62, 62, .wo, 0x0⟩, ⟨61, 61, .wo, 0x0⟩, ⟨11, 0, .rw, 0x0⟩]⟩,
  ⟨"DEVCTL_KEY_STATUS", 0x4048, 0x0, 0, 1, [⟨63, 63, .ro, 0x0⟩, ⟨62, 62, .w1c, 0x0⟩, ⟨61, 61, .w1c, 0x0⟩, ⟨43, 32, .ro, 0x0⟩, ⟨31, 28, .ro, 0x0⟩, ⟨12, 0, .ro, 0x0⟩]⟩,
  ⟨"DEVCTL_MILLRACE_STATUS", 0x4080, 0x8, 0, 4, [⟨63, 63, .ro, 0x0⟩, ⟨52, 48, .ro, 0x0⟩, ⟨36, 32, .ro, 0x0⟩, ⟨31, 0, .rc, 0x0⟩]⟩,
  ⟨"DEVCTL_MILLRACE_BYTES", 0x40A0, 0x8, 0, 4, [⟨63, 32, .rc, 0x0⟩, ⟨31, 0, .rc, 0x0⟩]⟩,
  ⟨"DEVCTL_PSET_AVAIL", 0x4100, 0x8, 0, 4, [⟨63, 0, .ro, 0x0⟩]⟩,
  ⟨"DEVCTL_LEASE_CMD", 0x5000, 0x0, 0, 1, [⟨63, 63, .wo, 0x0⟩, ⟨62, 62, .wo, 0x0⟩, ⟨61, 61, .wo, 0x0⟩, ⟨52, 48, .rw, 0x0⟩, ⟨41, 40, .rw, 0x0⟩, ⟨28, 16, .rw, 0x0⟩, ⟨11, 0, .rw, 0x0⟩]⟩,
  ⟨"DEVCTL_LEASE_STATUS", 0x5008, 0x0, 0, 1, [⟨63, 63, .ro, 0x0⟩, ⟨62, 62, .w1c, 0x0⟩, ⟨61, 61, .w1c, 0x0⟩, ⟨57, 56, .ro, 0x0⟩, ⟨52, 48, .ro, 0x0⟩, ⟨41, 40, .ro, 0x0⟩, ⟨35, 32, .ro, 0x0⟩, ⟨27, 16, .ro, 0x0⟩, ⟨11, 0, .ro, 0x0⟩]⟩]

/-- Registers of DEVCTL, as their tables list them. -/
def regTableDevctl2 : List RegSpec := [
  ⟨"DEVCTL_LEASE_COUNT", 0x5010, 0x8, 0, 4, [⟨60, 48, .ro, 0x1000⟩, ⟨44, 32, .ro, 0x0⟩, ⟨28, 16, .ro, 0x0⟩]⟩,
  ⟨"DEVCTL_BASIN_ECC", 0x5040, 0x8, 0, 4, [⟨63, 48, .rc, 0x0⟩, ⟨47, 40, .rc, 0x0⟩, ⟨39, 32, .rc, 0x0⟩, ⟨31, 0, .ro, 0x0⟩]⟩,
  ⟨"DEVCTL_BASIN_ECC_ADDR", 0x5060, 0x8, 0, 4, [⟨63, 63, .w1c, 0x0⟩, ⟨62, 62, .ro, 0x0⟩, ⟨28, 0, .ro, 0x0⟩]⟩,
  ⟨"DEVCTL_BASIN_CONFL_IDX", 0x5080, 0x0, 0, 1, [⟨9, 8, .rw, 0x0⟩, ⟨5, 0, .rw, 0x0⟩]⟩,
  ⟨"DEVCTL_BASIN_CONFL_DATA", 0x5088, 0x0, 0, 1, [⟨63, 48, .rc, 0x0⟩, ⟨47, 32, .rc, 0x0⟩, ⟨31, 16, .rc, 0x0⟩, ⟨15, 0, .rc, 0x0⟩]⟩,
  ⟨"DEVCTL_HBM_CFG", 0x6000, 0x0, 0, 1, [⟨56, 48, .ro, 0x100⟩, ⟨40, 32, .ro, 0x80⟩, ⟨24, 16, .ro, 0x80⟩, ⟨6, 0, .ro, 0x0⟩]⟩,
  ⟨"DEVCTL_HBM_ACT", 0x6008, 0x8, 0, 4, [⟨63, 0, .ro, 0xFFFFFFFFFFFFFFFF⟩]⟩,
  ⟨"DEVCTL_HBM_THERM", 0x6030, 0x0, 0, 1, [⟨33, 32, .ro, 0x0⟩, ⟨23, 16, .rw, 0x5A⟩, ⟨15, 8, .rw, 0x5D⟩, ⟨7, 0, .rw, 0x60⟩]⟩,
  ⟨"DEVCTL_HBM_STACK", 0x6040, 0x8, 0, 8, [⟨63, 63, .ro, 0x0⟩, ⟨55, 48, .ro, 0x0⟩, ⟨16, 16, .ro, 0x0⟩, ⟨15, 8, .rc, 0x0⟩, ⟨7, 0, .ro, 0x0⟩]⟩,
  ⟨"DEVCTL_HBM_PAGE_SEL", 0x6080, 0x0, 0, 1, [⟨17, 0, .rw, 0x0⟩]⟩,
  ⟨"DEVCTL_HBM_PAGE_DATA", 0x6088, 0x0, 0, 1, [⟨4, 0, .rw, 0x0⟩]⟩,
  ⟨"DEVCTL_HBM_FILL", 0x6090, 0x0, 0, 1, [⟨63, 63, .wo, 0x0⟩, ⟨62, 62, .ro, 0x0⟩, ⟨61, 61, .w1c, 0x0⟩, ⟨60, 60, .w1c, 0x0⟩, ⟨49, 32, .rw, 0x0⟩, ⟨17, 0, .rw, 0x0⟩]⟩]

/-- Registers of DEVCTL, as their tables list them. -/
def regTableDevctl3 : List RegSpec := [
  ⟨"DEVCTL_CHAIN_ENT_IDX", 0x2008, 0x8, 0, 10, [⟨62, 56, .ro, 0x0⟩, ⟨54, 48, .ro, 0x0⟩, ⟨46, 40, .ro, 0x0⟩, ⟨38, 32, .ro, 0x0⟩, ⟨30, 24, .ro, 0x0⟩, ⟨22, 16, .ro, 0x0⟩, ⟨14, 8, .ro, 0x0⟩, ⟨6, 0, .ro, 0x0⟩]⟩]

/-- Registers of BENCH, as their tables list them. -/
def regTableBench0 : List RegSpec := [
  ⟨"BENCH_SPENT_COUNT", 0x100380, 0x0, 0, 1, [⟨63, 32, .rc, 0x0⟩, ⟨31, 0, .rc, 0x0⟩]⟩,
  ⟨"BENCH_STATE", 0x100200, 0x0, 0, 1, [⟨63, 61, .ro, 0x0⟩, ⟨60, 60, .ro, 0x0⟩, ⟨59, 59, .ro, 0x0⟩, ⟨55, 48, .ro, 0x0⟩, ⟨31, 0, .ro, 0x0⟩]⟩,
  ⟨"BENCH_TE_STATUS", 0x100208, 0x0, 0, 1, [⟨63, 63, .ro, 0x0⟩, ⟨62, 62, .ro, 0x0⟩, ⟨31, 0, .rc, 0x0⟩]⟩,
  ⟨"BENCH_VE_STATUS", 0x100210, 0x0, 0, 1, [⟨63, 63, .ro, 0x0⟩, ⟨62, 59, .ro, 0x0⟩, ⟨31, 0, .rc, 0x0⟩]⟩,
  ⟨"BENCH_AE_STATUS", 0x100218, 0x0, 0, 1, [⟨63, 63, .ro, 0x0⟩, ⟨62, 62, .ro, 0x0⟩, ⟨61, 60, .ro, 0x0⟩, ⟨59, 59, .ro, 0x0⟩, ⟨51, 48, .ro, 0x0⟩, ⟨31, 0, .rc, 0x0⟩]⟩,
  ⟨"BENCH_RIFFLE_STATUS", 0x100220, 0x0, 0, 1, [⟨63, 63, .ro, 0x0⟩, ⟨62, 62, .ro, 0x0⟩, ⟨31, 0, .rc, 0x0⟩]⟩,
  ⟨"BENCH_KEYBUF_STATUS", 0x100228, 0x0, 0, 1, [⟨62, 56, .ro, 0x0⟩, ⟨54, 48, .ro, 0x40⟩, ⟨31, 0, .rc, 0x0⟩]⟩,
  ⟨"BENCH_PHASE_CYCLES", 0x100230, 0x0, 0, 1, [⟨63, 32, .rc, 0x0⟩, ⟨31, 0, .rc, 0x0⟩]⟩,
  ⟨"BENCH_CTL", 0x100000, 0x0, 0, 1, [⟨63, 63, .wo, 0x0⟩, ⟨62, 62, .wo, 0x0⟩, ⟨16, 16, .rw, 0x0⟩, ⟨13, 8, .rw, 0x0⟩, ⟨5, 0, .rw, 0x3F⟩]⟩,
  ⟨"BENCH_STREAM_PC", 0x100010, 0x8, 0, 6, [⟨13, 0, .rw, 0x0⟩]⟩,
  ⟨"BENCH_STREAM_STATUS", 0x100040, 0x8, 0, 6, [⟨63, 60, .ro, 0xC⟩, ⟨59, 59, .ro, 0x1⟩, ⟨57, 48, .ro, 0x0⟩, ⟨45, 32, .ro, 0x0⟩, ⟨31, 0, .ro, 0x0⟩]⟩,
  ⟨"BENCH_TBL_ADDR", 0x100080, 0x0, 0, 1, [⟨63, 62, .rw, 0x0⟩, ⟨14, 0, .rw, 0x0⟩]⟩]

/-- Registers of BENCH, as their tables list them. -/
def regTableBench1 : List RegSpec := [
  ⟨"BENCH_TBL_DATA", 0x100088, 0x0, 0, 1, [⟨63, 0, .rw, 0x0⟩]⟩,
  ⟨"BENCH_MACRO_ID", 0x100090, 0x0, 0, 1, [⟨63, 63, .ro, 0x0⟩, ⟨55, 48, .ro, 0x0⟩, ⟨47, 32, .ro, 0x0⟩, ⟨31, 0, .ro, 0x0⟩]⟩,
  ⟨"BENCH_TOKEN", 0x100100, 0x8, 0, 28, [⟨63, 56, .ro, 0x0⟩, ⟨55, 48, .ro, 0x0⟩, ⟨47, 40, .ro, 0x0⟩, ⟨39, 32, .ro, 0x0⟩, ⟨31, 24, .ro, 0x0⟩, ⟨23, 16, .ro, 0x0⟩, ⟨15, 8, .ro, 0x0⟩, ⟨7, 0, .ro, 0x0⟩]⟩,
  ⟨"BENCH_TRACKER_STATUS", 0x100238, 0x0, 0, 1, [⟨63, 57, .ro, 0x0⟩, ⟨31, 0, .rc, 0x0⟩]⟩,
  ⟨"BENCH_STALL_LIMIT", 0x100300, 0x0, 0, 1, [⟨31, 0, .rw, 0x1000000⟩]⟩,
  ⟨"BENCH_STALL_COUNT", 0x100308, 0x0, 0, 1, [⟨31, 0, .ro, 0x0⟩]⟩,
  ⟨"BENCH_STALL_SNAP0", 0x100310, 0x10, 0, 6, [⟨63, 60, .ro, 0x0⟩, ⟨55, 48, .ro, 0x0⟩, ⟨45, 32, .ro, 0x0⟩, ⟨31, 0, .ro, 0x0⟩]⟩,
  ⟨"BENCH_STALL_SNAP1", 0x100318, 0x10, 0, 6, [⟨16, 11, .ro, 0x0⟩, ⟨10, 0, .ro, 0x0⟩]⟩,
  ⟨"BENCH_FM_CTL", 0x100400, 0x0, 0, 1, [⟨16, 0, .rw, 0x0⟩]⟩,
  ⟨"BENCH_FM_STATUS", 0x100408, 0x0, 0, 1, [⟨63, 62, .ro, 0x0⟩, ⟨61, 59, .ro, 0x0⟩, ⟨16, 0, .ro, 0x0⟩]⟩,
  ⟨"BENCH_FM_FETCH", 0x100410, 0x0, 0, 1, [⟨63, 0, .ro, 0x0⟩]⟩,
  ⟨"BENCH_FM_MEM_ADDR", 0x100418, 0x0, 0, 1, [⟨63, 63, .rw, 0x0⟩, ⟨14, 0, .rw, 0x0⟩]⟩]

/-- Registers of BENCH, as their tables list them. -/
def regTableBench2 : List RegSpec := [
  ⟨"BENCH_FM_MEM_DATA", 0x100420, 0x0, 0, 1, [⟨63, 0, .rw, 0x0⟩]⟩,
  ⟨"BENCH_RING_CFG", 0x100800, 0x20, 0, 16, [⟨63, 63, .rw, 0x0⟩, ⟨51, 48, .rw, 0x0⟩, ⟨17, 0, .rw, 0x0⟩]⟩,
  ⟨"BENCH_RING_PTR", 0x100808, 0x20, 0, 16, [⟨56, 48, .ro, 0x0⟩, ⟨47, 32, .rc, 0x0⟩, ⟨31, 16, .ro, 0x0⟩, ⟨15, 0, .ro, 0x0⟩]⟩,
  ⟨"BENCH_RING_HEAD0", 0x100810, 0x20, 0, 16, [⟨63, 0, .ro, 0x0⟩]⟩,
  ⟨"BENCH_RING_HEAD1", 0x100818, 0x20, 0, 16, [⟨63, 0, .ro, 0x0⟩]⟩,
  ⟨"BENCH_ROUTE", 0x101000, 0x8, 0, 256, [⟨63, 63, .rw, 0x0⟩, ⟨59, 46, .rw, 0x0⟩, ⟨45, 40, .rw, 0x0⟩, ⟨39, 36, .rw, 0x0⟩, ⟨31, 24, .rw, 0x0⟩]⟩,
  ⟨"BENCH_ROUTE_STAT", 0x101800, 0x8, 0, 256, [⟨63, 56, .ro, 0x0⟩, ⟨47, 32, .ro, 0x0⟩, ⟨31, 0, .rc, 0x0⟩]⟩,
  ⟨"BENCH_HANDLER", 0x102000, 0x8, 0, 256, [⟨63, 63, .rw, 0x0⟩, ⟨16, 0, .rw, 0x0⟩]⟩,
  ⟨"BENCH_FLOAT_EVENTS", 0x100240, 0x0, 0, 1, [⟨63, 48, .rc, 0x0⟩, ⟨47, 32, .rc, 0x0⟩, ⟨31, 16, .rc, 0x0⟩]⟩,
  ⟨"BENCH_ECC_STATUS", 0x100A00, 0x0, 0, 1, [⟨63, 48, .rc, 0x0⟩, ⟨47, 32, .rc, 0x0⟩, ⟨31, 24, .rc, 0x0⟩, ⟨23, 16, .rc, 0x0⟩]⟩,
  ⟨"BENCH_ECC_ADDR", 0x100A08, 0x0, 0, 1, [⟨63, 63, .w1c, 0x0⟩, ⟨62, 61, .ro, 0x0⟩, ⟨60, 60, .ro, 0x0⟩, ⟨25, 0, .ro, 0x0⟩]⟩,
  ⟨"BENCH_SCRUB_CFG", 0x100A10, 0x0, 0, 1, [⟨15, 0, .rw, 0x8000⟩]⟩]

/-- Registers of BENCH, as their tables list them. -/
def regTableBench3 : List RegSpec := [
  ⟨"BENCH_SCRUB_STATUS", 0x100A18, 0x0, 0, 1, [⟨63, 32, .ro, 0x0⟩, ⟨27, 16, .ro, 0x0⟩, ⟨15, 0, .rc, 0x0⟩]⟩,
  ⟨"BENCH_CONFL_IDX", 0x100A20, 0x0, 0, 1, [⟨6, 0, .rw, 0x0⟩]⟩,
  ⟨"BENCH_CONFL_DATA", 0x100A28, 0x0, 0, 1, [⟨63, 48, .rc, 0x0⟩, ⟨47, 32, .rc, 0x0⟩, ⟨31, 16, .rc, 0x0⟩, ⟨15, 0, .rc, 0x0⟩]⟩,
  ⟨"BENCH_WEIR_SEL", 0x100A40, 0x0, 0, 1, [⟨10, 0, .rw, 0x0⟩]⟩,
  ⟨"BENCH_WEIR_DATA", 0x100A48, 0x0, 0, 1, [⟨31, 0, .rw, 0x0⟩]⟩,
  ⟨"BENCH_WEIR_STATUS", 0x100A50, 0x0, 0, 1, [⟨63, 56, .ro, 0x0⟩, ⟨31, 0, .rc, 0x0⟩]⟩,
  ⟨"BENCH_SLUICE_STATUS", 0x100C00, 0x0, 0, 1, [⟨63, 63, .ro, 0x0⟩, ⟨57, 48, .ro, 0x0⟩, ⟨31, 0, .rc, 0x0⟩]⟩,
  ⟨"BENCH_SLUICE_CTX", 0x100C08, 0x0, 0, 1, [⟨63, 32, .ro, 0x0⟩, ⟨31, 0, .ro, 0x0⟩]⟩,
  ⟨"BENCH_SLUICE_FAULT", 0x100C10, 0x0, 0, 1, [⟨63, 21, .ro, 0x0⟩, ⟨0, 0, .wo, 0x0⟩]⟩,
  ⟨"BENCH_SLUICE_CFG", 0x100C18, 0x0, 0, 1, [⟨8, 8, .rw, 0x0⟩, ⟨4, 0, .rw, 0x0⟩]⟩]

/-- Registers of MEMC, as their tables list them. -/
def regTableMemc0 : List RegSpec := [
  ⟨"MEMC_CH_STATUS", 0xC0000, 0x0, 0, 1, [⟨63, 62, .ro, 0x0⟩, ⟨61, 61, .ro, 0x0⟩, ⟨60, 60, .ro, 0x0⟩]⟩,
  ⟨"MEMC_CH_ECC", 0xC0008, 0x0, 0, 1, [⟨63, 48, .rc, 0x0⟩, ⟨47, 40, .rc, 0x0⟩, ⟨31, 0, .ro, 0x0⟩]⟩,
  ⟨"MEMC_CH_ECC_ADDR", 0xC0010, 0x0, 0, 1, [⟨63, 63, .w1c, 0x0⟩, ⟨62, 62, .ro, 0x0⟩, ⟨30, 0, .ro, 0x0⟩]⟩,
  ⟨"MEMC_CH_BYTES", 0xC0018, 0x0, 0, 1, [⟨63, 32, .rc, 0x0⟩, ⟨31, 0, .rc, 0x0⟩]⟩,
  ⟨"MEMC_CH_TG_CTL", 0xC0020, 0x0, 0, 1, [⟨63, 63, .wo, 0x0⟩, ⟨62, 62, .wo, 0x0⟩, ⟨61, 60, .rw, 0x0⟩, ⟨59, 57, .rw, 0x0⟩, ⟨31, 0, .rw, 0x0⟩]⟩,
  ⟨"MEMC_CH_TG_RANGE", 0xC0028, 0x0, 0, 1, [⟨54, 32, .rw, 0x400000⟩, ⟨21, 0, .rw, 0x0⟩]⟩,
  ⟨"MEMC_CH_TG_STATUS", 0xC0030, 0x0, 0, 1, [⟨63, 63, .ro, 0x0⟩, ⟨62, 62, .w1c, 0x0⟩, ⟨61, 61, .w1c, 0x0⟩, ⟨47, 32, .rc, 0x0⟩, ⟨21, 0, .ro, 0x0⟩]⟩]

/-- Registers of FAB, as their tables list them. -/
def regTableFab0 : List RegSpec := [
  ⟨"FAB_PORT_CTL", 0x80000, 0x0, 0, 1, [⟨63, 63, .rw, 0x0⟩, ⟨62, 62, .wo, 0x0⟩, ⟨61, 61, .wo, 0x0⟩, ⟨57, 56, .rw, 0x0⟩, ⟨48, 48, .rw, 0x0⟩, ⟨31, 16, .rw, 0x4000⟩, ⟨15, 0, .rw, 0x40⟩]⟩,
  ⟨"FAB_PORT_STATUS", 0x80008, 0x0, 0, 1, [⟨63, 61, .ro, 0x0⟩, ⟨60, 60, .ro, 0x0⟩, ⟨59, 59, .ro, 0x0⟩, ⟨58, 56, .ro, 0x0⟩, ⟨55, 48, .ro, 0x0⟩, ⟨47, 44, .ro, 0xF⟩, ⟨31, 16, .rc, 0x0⟩, ⟨15, 0, .ro, 0x0⟩]⟩,
  ⟨"FAB_PORT_MEAS", 0x80010, 0x0, 0, 1, [⟨63, 44, .ro, 0x0⟩, ⟨43, 28, .ro, 0x0⟩, ⟨7, 0, .ro, 0x0⟩]⟩,
  ⟨"FAB_PORT_LANE_LOSS", 0x80018, 0x0, 0, 1, [⟨63, 56, .ro, 0xFF⟩, ⟨55, 48, .ro, 0xFF⟩, ⟨47, 40, .ro, 0xFF⟩, ⟨39, 32, .ro, 0xFF⟩, ⟨31, 24, .ro, 0xFF⟩, ⟨23, 16, .ro, 0xFF⟩, ⟨15, 8, .ro, 0xFF⟩, ⟨7, 0, .ro, 0xFF⟩]⟩,
  ⟨"FAB_PORT_PARTNER0", 0x80020, 0x0, 0, 1, [⟨63, 50, .ro, 0x0⟩, ⟨49, 34, .ro, 0x0⟩, ⟨33, 32, .ro, 0x3⟩, ⟨31, 26, .ro, 0x0⟩, ⟨25, 25, .ro, 0x0⟩, ⟨24, 24, .ro, 0x0⟩, ⟨23, 16, .ro, 0x0⟩, ⟨15, 15, .ro, 0x0⟩, ⟨14, 14, .ro, 0x0⟩, ⟨13, 12, .ro, 0x0⟩, ⟨7, 0, .ro, 0x0⟩]⟩,
  ⟨"FAB_PORT_PARTNER1", 0x80028, 0x0, 0, 1, [⟨63, 0, .ro, 0x0⟩]⟩,
  ⟨"FAB_PORT_CREDIT", 0x80040, 0x8, 0, 8, [⟨41, 32, .rw, 0x0⟩, ⟨25, 16, .ro, 0x0⟩, ⟨9, 0, .ro, 0x0⟩]⟩,
  ⟨"FAB_PORT_ARB", 0x80080, 0x0, 0, 1, [⟨47, 40, .rw, 0x1⟩, ⟨39, 32, .rw, 0x4⟩, ⟨31, 24, .rw, 0x4⟩, ⟨23, 16, .rw, 0x2⟩, ⟨15, 8, .rw, 0x1⟩, ⟨7, 0, .rw, 0x4⟩]⟩,
  ⟨"FAB_PORT_ERR", 0x80090, 0x0, 0, 1, [⟨63, 48, .rc, 0x0⟩, ⟨47, 32, .rc, 0x0⟩, ⟨31, 24, .rc, 0x0⟩, ⟨23, 16, .rc, 0x0⟩, ⟨15, 8, .rc, 0x0⟩, ⟨7, 0, .rc, 0x0⟩]⟩,
  ⟨"FAB_PORT_FEC", 0x80098, 0x0, 0, 1, [⟨63, 32, .rc, 0x0⟩, ⟨31, 0, .rc, 0x0⟩]⟩]

/-- Registers of HALL, as their tables list them. -/
def regTableHall0 : List RegSpec := [
  ⟨"HALL_ID", 0xA0000, 0x0, 0, 1, [⟨63, 50, .ro, 0x0⟩, ⟨49, 34, .ro, 0x0⟩, ⟨33, 32, .ro, 0x0⟩, ⟨31, 28, .ro, 0x0⟩, ⟨27, 26, .ro, 0x0⟩, ⟨25, 25, .ro, 0x0⟩, ⟨23, 10, .ro, 0x0⟩]⟩,
  ⟨"HALL_EXPORT", 0xA0008, 0x0, 0, 1, [⟨63, 63, .rw, 0x0⟩, ⟨62, 44, .rw, 0x0⟩, ⟨38, 21, .rw, 0x0⟩]⟩,
  ⟨"HALL_LAG", 0xA0010, 0x0, 0, 1, [⟨63, 48, .ro, 0x0⟩, ⟨47, 32, .rc, 0x0⟩, ⟨31, 0, .rc, 0x0⟩]⟩,
  ⟨"HALL_LAG_POLICY", 0xA0018, 0x0, 0, 1, [⟨63, 48, .rw, 0x3E8⟩, ⟨47, 32, .rw, 0x2710⟩, ⟨7, 0, .rw, 0x14⟩]⟩,
  ⟨"HALL_GEN_SEL", 0xA0020, 0x0, 0, 1, [⟨13, 0, .rw, 0x0⟩]⟩,
  ⟨"HALL_GEN_DATA", 0xA0028, 0x0, 0, 1, [⟨63, 62, .rw, 0x0⟩, ⟨15, 0, .rw, 0x0⟩]⟩,
  ⟨"HALL_TRIB_SEL", 0xA0030, 0x0, 0, 1, [⟨6, 0, .rw, 0x0⟩]⟩,
  ⟨"HALL_TRIB_DATA", 0xA0038, 0x0, 0, 1, [⟨63, 63, .rw, 0x0⟩, ⟨62, 61, .ro, 0x0⟩, ⟨60, 58, .ro, 0x0⟩, ⟨57, 44, .rw, 0x0⟩, ⟨43, 28, .ro, 0x0⟩, ⟨15, 0, .ro, 0x0⟩]⟩,
  ⟨"HALL_FENCE_STATUS", 0xA0040, 0x0, 0, 1, [⟨63, 48, .ro, 0x0⟩, ⟨45, 32, .ro, 0x0⟩, ⟨31, 0, .rc, 0x0⟩]⟩,
  ⟨"HALL_TBL_STAGE", 0xA0100, 0x8, 0, 2, [⟨63, 0, .rw, 0x0⟩]⟩,
  ⟨"HALL_TBL_CMD", 0xA0110, 0x0, 0, 1, [⟨63, 63, .wo, 0x0⟩, ⟨62, 62, .wo, 0x0⟩, ⟨61, 60, .rw, 0x0⟩, ⟨9, 0, .rw, 0x0⟩]⟩,
  ⟨"HALL_TBL_STATUS", 0xA0118, 0x0, 0, 1, [⟨63, 63, .ro, 0x0⟩, ⟨62, 62, .w1c, 0x0⟩, ⟨61, 61, .w1c, 0x0⟩, ⟨41, 32, .ro, 0x0⟩, ⟨31, 0, .rc, 0x0⟩]⟩]

/-- Registers of HALL, as their tables list them. -/
def regTableHall1 : List RegSpec := [
  ⟨"HALL_CFL_STAGE", 0xA0200, 0x8, 0, 8, [⟨63, 0, .rw, 0x0⟩]⟩,
  ⟨"HALL_CFL_CMD", 0xA0240, 0x0, 0, 1, [⟨63, 63, .wo, 0x0⟩, ⟨62, 62, .wo, 0x0⟩, ⟨61, 61, .wo, 0x0⟩, ⟨5, 0, .rw, 0x0⟩]⟩,
  ⟨"HALL_CFL_STATUS", 0xA0248, 0x0, 0, 1, [⟨63, 63, .ro, 0x0⟩, ⟨62, 62, .w1c, 0x0⟩, ⟨61, 61, .w1c, 0x0⟩, ⟨37, 32, .ro, 0x0⟩, ⟨31, 28, .ro, 0x0⟩, ⟨6, 0, .ro, 0x0⟩]⟩,
  ⟨"HALL_SNAP_CTL", 0xA0300, 0x0, 0, 1, [⟨63, 63, .wo, 0x0⟩, ⟨62, 62, .ro, 0x0⟩, ⟨61, 61, .w1c, 0x0⟩, ⟨60, 60, .w1c, 0x0⟩, ⟨47, 32, .ro, 0x0⟩, ⟨15, 0, .rw, 0x7D0⟩]⟩,
  ⟨"HALL_FRESET", 0xA0308, 0x0, 0, 1, [⟨63, 63, .wo, 0x0⟩, ⟨62, 62, .ro, 0x0⟩, ⟨61, 61, .w1c, 0x0⟩, ⟨60, 60, .rw, 0x0⟩, ⟨3, 0, .rw, 0x0⟩]⟩,
  ⟨"HALL_SNAP_LINK", 0xA0400, 0x8, 0, 64, [⟨63, 52, .ro, 0x0⟩, ⟨51, 40, .ro, 0x0⟩]⟩,
  ⟨"HALL_RT_ENT", 0xA8000, 0x8, 0, 1024, [⟨63, 63, .ro, 0x0⟩, ⟨62, 62, .ro, 0x0⟩, ⟨59, 56, .ro, 0x0⟩, ⟨55, 42, .ro, 0x0⟩, ⟨41, 28, .ro, 0x0⟩, ⟨25, 24, .ro, 0x0⟩, ⟨23, 18, .ro, 0x0⟩, ⟨17, 12, .ro, 0x0⟩, ⟨11, 6, .ro, 0x0⟩, ⟨5, 0, .ro, 0x0⟩]⟩,
  ⟨"HALL_MAP_ENT_LO", 0xAC000, 0x10, 0, 1024, [⟨63, 63, .ro, 0x0⟩, ⟨62, 62, .ro, 0x0⟩, ⟨61, 61, .ro, 0x0⟩, ⟨60, 60, .ro, 0x0⟩, ⟨59, 56, .ro, 0x0⟩, ⟨52, 48, .ro, 0x0⟩, ⟨42, 0, .ro, 0x0⟩]⟩,
  ⟨"HALL_MAP_ENT_HI", 0xAC008, 0x10, 0, 1024, [⟨42, 0, .ro, 0x0⟩]⟩]

/-- Registers of MGMT, as their tables list them. -/
def regTableMgmt0 : List RegSpec := [
  ⟨"MGMT_STATUS", 0x60000, 0x0, 0, 1, [⟨63, 61, .ro, 0x1⟩, ⟨60, 57, .ro, 0x0⟩, ⟨56, 56, .ro, 0x0⟩, ⟨55, 52, .ro, 0x0⟩, ⟨51, 48, .ro, 0x0⟩, ⟨23, 16, .ro, 0x0⟩]⟩,
  ⟨"MGMT_CFG", 0x60008, 0x0, 0, 1, [⟨63, 48, .rw, 0x258⟩, ⟨39, 32, .rw, 0x2⟩, ⟨31, 16, .rw, 0x1000⟩, ⟨15, 0, .rw, 0xC00⟩]⟩,
  ⟨"MGMT_DRV_VERSION", 0x60010, 0x0, 0, 1, [⟨63, 63, .wo, 0x0⟩, ⟨62, 61, .ro, 0x0⟩, ⟨47, 40, .ro, 0x1⟩, ⟨39, 32, .ro, 0x0⟩, ⟨15, 8, .rw, 0x0⟩, ⟨7, 0, .rw, 0x0⟩]⟩,
  ⟨"MGMT_FW", 0x60018, 0x0, 0, 1, [⟨63, 63, .ro, 0x0⟩, ⟨62, 62, .ro, 0x0⟩, ⟨61, 61, .ro, 0x0⟩, ⟨60, 60, .ro, 0x0⟩, ⟨59, 58, .ro, 0x0⟩, ⟨47, 32, .ro, 0x0⟩, ⟨31, 16, .ro, 0x0⟩]⟩,
  ⟨"MGMT_WDOG", 0x60040, 0x8, 0, 4, [⟨63, 48, .ro, 0x2710⟩, ⟨47, 40, .ro, 0x0⟩, ⟨39, 39, .ro, 0x0⟩, ⟨31, 0, .ro, 0x0⟩]⟩,
  ⟨"MGMT_GANG", 0x60100, 0x8, 0, 16, [⟨63, 61, .ro, 0x4⟩, ⟨52, 48, .ro, 0x0⟩, ⟨31, 0, .ro, 0x0⟩]⟩,
  ⟨"MGMT_TENANT", 0x60200, 0x8, 1, 16, [⟨63, 62, .ro, 0x0⟩, ⟨61, 61, .ro, 0x0⟩, ⟨60, 60, .ro, 0x0⟩, ⟨59, 59, .ro, 0x0⟩, ⟨58, 57, .ro, 0x0⟩, ⟨56, 54, .ro, 0x0⟩, ⟨47, 32, .ro, 0x0⟩, ⟨31, 16, .ro, 0x0⟩, ⟨15, 12, .ro, 0x0⟩]⟩,
  ⟨"MGMT_TENANT_KEY", 0x60300, 0x8, 1, 16, [⟨63, 46, .ro, 0x0⟩, ⟨45, 28, .ro, 0x0⟩, ⟨27, 13, .ro, 0x0⟩, ⟨11, 0, .ro, 0x0⟩]⟩,
  ⟨"MGMT_SVC_PTR", 0x60400, 0x8, 1, 16, [⟨63, 48, .ro, 0x0⟩, ⟨47, 32, .ro, 0x0⟩, ⟨31, 16, .ro, 0x0⟩, ⟨15, 0, .ro, 0x0⟩]⟩]

/-- Registers of SEAL, as their tables list them. -/
def regTableSeal0 : List RegSpec := [
  ⟨"SEAL_STATUS", 0x50000, 0x0, 0, 1, [⟨63, 61, .ro, 0x0⟩, ⟨60, 58, .ro, 0x0⟩, ⟨57, 55, .ro, 0x0⟩, ⟨54, 54, .ro, 0x0⟩, ⟨53, 53, .ro, 0x0⟩, ⟨52, 52, .ro, 0x0⟩, ⟨47, 40, .ro, 0x0⟩, ⟨31, 0, .rc, 0x0⟩]⟩,
  ⟨"SEAL_CFG", 0x50008, 0x0, 0, 1, [⟨15, 0, .rw, 0xA⟩]⟩,
  ⟨"SEAL_BOOT", 0x50010, 0x0, 0, 1, [⟨63, 63, .ro, 0x0⟩, ⟨62, 61, .ro, 0x0⟩, ⟨60, 60, .ro, 0x0⟩, ⟨47, 32, .ro, 0x0⟩, ⟨31, 16, .ro, 0x0⟩, ⟨15, 0, .ro, 0x0⟩]⟩,
  ⟨"SEAL_MEAS", 0x50020, 0x8, 0, 4, [⟨63, 0, .ro, 0x0⟩]⟩,
  ⟨"SEAL_ENTROPY", 0x50040, 0x0, 0, 1, [⟨63, 63, .ro, 0x0⟩, ⟨47, 32, .rc, 0x0⟩, ⟨31, 16, .rc, 0x0⟩, ⟨15, 0, .rc, 0x0⟩]⟩,
  ⟨"SEAL_IDE", 0x50048, 0x0, 0, 1, [⟨63, 63, .ro, 0x0⟩, ⟨62, 62, .ro, 0x0⟩, ⟨61, 61, .ro, 0x0⟩, ⟨60, 60, .ro, 0x0⟩, ⟨31, 0, .rc, 0x0⟩]⟩,
  ⟨"SEAL_DEBUG", 0x50050, 0x0, 0, 1, [⟨63, 63, .ro, 0x0⟩, ⟨62, 61, .ro, 0x0⟩, ⟨47, 32, .rc, 0x0⟩]⟩]

/-- Registers of HIF, as their tables list them. -/
def regTableHif0 : List RegSpec := [
  ⟨"HIF_FN_ID", 0x40000, 0x0, 0, 1, [⟨63, 60, .ro, 0x0⟩, ⟨59, 59, .ro, 0x0⟩, ⟨52, 48, .ro, 0x0⟩, ⟨47, 47, .ro, 0x0⟩]⟩,
  ⟨"HIF_BAR2_BASE", 0x40008, 0x0, 0, 1, [⟨38, 30, .rw, 0x0⟩]⟩,
  ⟨"HIF_DB_HOST", 0x40010, 0x0, 0, 1, [⟨63, 0, .rw, 0x0⟩]⟩,
  ⟨"HIF_DB_DEV", 0x40018, 0x0, 0, 1, [⟨38, 0, .rw, 0x0⟩]⟩,
  ⟨"HIF_DB_GO", 0x40020, 0x0, 0, 1, [⟨63, 63, .wo, 0x0⟩, ⟨62, 61, .wo, 0x0⟩, ⟨47, 32, .wo, 0x0⟩, ⟨31, 0, .wo, 0x0⟩]⟩,
  ⟨"HIF_DB_STATUS", 0x40028, 0x0, 0, 1, [⟨63, 63, .ro, 0x0⟩, ⟨62, 62, .w1c, 0x0⟩, ⟨61, 61, .w1c, 0x0⟩, ⟨60, 57, .ro, 0x0⟩, ⟨47, 32, .ro, 0x0⟩, ⟨31, 0, .ro, 0x0⟩]⟩,
  ⟨"HIF_MGMT_CMD", 0x40030, 0x0, 0, 1, [⟨63, 63, .wo, 0x0⟩, ⟨62, 62, .wo, 0x0⟩, ⟨55, 48, .wo, 0x0⟩, ⟨31, 0, .wo, 0x0⟩]⟩,
  ⟨"HIF_MGMT_DATA", 0x40038, 0x0, 0, 1, [⟨63, 0, .rw, 0x0⟩]⟩,
  ⟨"HIF_MGMT_STATUS", 0x40040, 0x0, 0, 1, [⟨63, 63, .ro, 0x0⟩, ⟨62, 62, .w1c, 0x0⟩, ⟨61, 61, .w1c, 0x0⟩, ⟨60, 60, .w1c, 0x0⟩, ⟨55, 48, .ro, 0x0⟩, ⟨41, 32, .ro, 0x200⟩, ⟨31, 0, .ro, 0x0⟩]⟩,
  ⟨"HIF_IRQ_MAP", 0x40048, 0x8, 0, 3, [⟨63, 56, .rw, 0x0⟩, ⟨55, 48, .rw, 0x0⟩, ⟨47, 40, .rw, 0x0⟩, ⟨39, 32, .rw, 0x0⟩, ⟨31, 24, .rw, 0x0⟩, ⟨23, 16, .rw, 0x0⟩, ⟨15, 8, .rw, 0x0⟩, ⟨7, 0, .rw, 0x0⟩]⟩,
  ⟨"HIF_VF_BIND", 0x40100, 0x8, 1, 15, [⟨63, 63, .rw, 0x0⟩, ⟨52, 48, .rw, 0x0⟩]⟩,
  ⟨"HIF_MBOX_CFG", 0x41000, 0x0, 0, 1, [⟨63, 63, .w1c, 0x0⟩, ⟨62, 60, .rw, 0x0⟩, ⟨52, 48, .rw, 0x0⟩]⟩]

/-- Registers of HIF, as their tables list them. -/
def regTableHif1 : List RegSpec := [
  ⟨"HIF_MBOX_ACK", 0x41008, 0x0, 0, 1, [⟨31, 0, .wo, 0x0⟩]⟩,
  ⟨"HIF_MBOX_STAT", 0x41010, 0x0, 0, 1, [⟨63, 63, .ro, 0x0⟩, ⟨62, 60, .ro, 0x0⟩, ⟨31, 0, .ro, 0x0⟩]⟩,
  ⟨"HIF_MBOX_PAY", 0x41018, 0x8, 0, 8, [⟨63, 0, .ro, 0x0⟩]⟩]

/-- Registers of CLKPWR, as their tables list them. -/
def regTableClkpwr0 : List RegSpec := [
  ⟨"CLKPWR_CLK", 0x10000, 0x0, 0, 1, [⟨63, 62, .ro, 0x0⟩, ⟨61, 61, .ro, 0x0⟩, ⟨60, 60, .ro, 0x0⟩, ⟨59, 59, .ro, 0x0⟩, ⟨58, 58, .ro, 0x0⟩, ⟨47, 32, .ro, 0x0⟩, ⟨31, 0, .ro, 0x0⟩]⟩,
  ⟨"CLKPWR_THROTTLE", 0x10008, 0x0, 0, 1, [⟨63, 62, .ro, 0x0⟩, ⟨47, 46, .rw, 0x0⟩, ⟨45, 44, .ro, 0x0⟩, ⟨43, 42, .ro, 0x0⟩, ⟨39, 38, .rw, 0x0⟩, ⟨37, 36, .rw, 0x0⟩, ⟨35, 34, .rw, 0x0⟩, ⟨33, 32, .rw, 0x0⟩, ⟨31, 0, .rc, 0x0⟩]⟩,
  ⟨"CLKPWR_THERM", 0x10010, 0x0, 0, 1, [⟨63, 56, .ro, 0x73⟩, ⟨55, 48, .ro, 0x6E⟩, ⟨39, 32, .ro, 0x69⟩, ⟨23, 16, .rw, 0x5F⟩, ⟨15, 8, .rw, 0x64⟩, ⟨7, 0, .rw, 0x69⟩]⟩,
  ⟨"CLKPWR_VCORE", 0x10018, 0x0, 0, 1, [⟨63, 56, .ro, 0x0⟩, ⟨55, 48, .ro, 0x0⟩, ⟨47, 40, .ro, 0x0⟩, ⟨39, 32, .ro, 0x0⟩, ⟨31, 24, .ro, 0xA0⟩, ⟨23, 23, .ro, 0x0⟩, ⟨22, 22, .ro, 0x0⟩, ⟨15, 0, .rc, 0x0⟩]⟩,
  ⟨"CLKPWR_PCAP", 0x10020, 0x0, 0, 1, [⟨15, 0, .rw, 0xB4⟩]⟩,
  ⟨"CLKPWR_RESET", 0x10028, 0x0, 0, 1, [⟨63, 63, .ro, 0x0⟩, ⟨62, 61, .ro, 0x0⟩, ⟨60, 59, .ro, 0x0⟩, ⟨58, 55, .ro, 0x0⟩, ⟨47, 32, .ro, 0x0⟩, ⟨31, 0, .ro, 0x0⟩]⟩,
  ⟨"CLKPWR_LEDGER", 0x10030, 0x0, 0, 1, [⟨63, 62, .ro, 0x0⟩, ⟨61, 61, .ro, 0x0⟩, ⟨60, 60, .ro, 0x0⟩, ⟨59, 59, .ro, 0x0⟩, ⟨58, 57, .ro, 0x0⟩, ⟨47, 32, .ro, 0x0⟩, ⟨31, 0, .ro, 0x0⟩]⟩,
  ⟨"CLKPWR_TIME", 0x10040, 0x0, 0, 1, [⟨63, 0, .ro, 0x0⟩]⟩,
  ⟨"CLKPWR_TIME_CTL", 0x10048, 0x0, 0, 1, [⟨63, 63, .wo, 0x0⟩, ⟨31, 0, .rw, 0x0⟩]⟩,
  ⟨"CLKPWR_TIME_SET", 0x10050, 0x0, 0, 1, [⟨63, 0, .rw, 0x0⟩]⟩,
  ⟨"CLKPWR_PPS", 0x10058, 0x0, 0, 1, [⟨63, 0, .ro, 0x0⟩]⟩,
  ⟨"CLKPWR_TSYNC", 0x10060, 0x0, 0, 1, [⟨63, 63, .ro, 0x0⟩, ⟨62, 62, .ro, 0x0⟩, ⟨61, 61, .ro, 0x0⟩, ⟨53, 48, .ro, 0x0⟩, ⟨31, 0, .ro, 0x0⟩]⟩]

/-- Registers of GAUGE, as their tables list them. -/
def regTableGauge0 : List RegSpec := [
  ⟨"GAUGE_RAIL", 0x20000, 0x8, 0, 9, [⟨63, 48, .rc, 0x0⟩, ⟨47, 32, .rc, 0x0⟩, ⟨15, 0, .ro, 0x0⟩]⟩,
  ⟨"GAUGE_CORE_I", 0x20050, 0x8, 0, 2, [⟨63, 48, .rc, 0x0⟩, ⟨15, 0, .ro, 0x0⟩]⟩,
  ⟨"GAUGE_REACH", 0x20060, 0x8, 0, 4, [⟨63, 48, .ro, 0x0⟩, ⟨47, 40, .ro, 0x0⟩, ⟨39, 32, .ro, 0x0⟩, ⟨15, 0, .rc, 0x0⟩]⟩,
  ⟨"GAUGE_STAMP", 0x20080, 0x0, 0, 1, [⟨63, 0, .ro, 0x0⟩]⟩,
  ⟨"GAUGE_TEMP_SEL", 0x20088, 0x0, 0, 1, [⟨6, 0, .rw, 0x0⟩]⟩,
  ⟨"GAUGE_TEMP_DATA", 0x20090, 0x0, 0, 1, [⟨63, 48, .rc, 0x0⟩, ⟨15, 0, .ro, 0x0⟩]⟩]

/-- Registers of SPOIL, as their tables list them. -/
def regTableSpoil0 : List RegSpec := [
  ⟨"SPOIL_CTL", 0x30000, 0x0, 0, 1, [⟨63, 63, .wo, 0x0⟩]⟩,
  ⟨"SPOIL_STATUS", 0x30008, 0x0, 0, 1, [⟨63, 63, .w1c, 0x0⟩, ⟨62, 62, .ro, 0x0⟩, ⟨61, 32, .ro, 0x0⟩, ⟨31, 0, .ro, 0x1⟩]⟩,
  ⟨"SPOIL_IRQ_EN", 0x30010, 0x0, 0, 1, [⟨31, 0, .rw, 0x9DEBC64⟩]⟩,
  ⟨"SPOIL_SEL", 0x30018, 0x0, 0, 1, [⟨33, 32, .rw, 0x0⟩, ⟨31, 0, .rw, 0x1⟩]⟩,
  ⟨"SPOIL_DATA", 0x30020, 0x0, 0, 1, [⟨63, 0, .ro, 0x0⟩]⟩,
  ⟨"SPOIL_PIN", 0x30040, 0x8, 0, 4, [⟨63, 0, .ro, 0x0⟩]⟩]

/-- Every register of the device (R502). -/
def regTable : List RegSpec :=
  regTableDevctl0 ++ regTableDevctl1 ++ regTableDevctl2 ++ regTableDevctl3 ++ regTableBench0 ++ regTableBench1 ++ regTableBench2 ++ regTableBench3 ++ regTableMemc0 ++ regTableFab0 ++ regTableHall0 ++ regTableHall1 ++ regTableMgmt0 ++ regTableSeal0 ++ regTableHif0 ++ regTableHif1 ++ regTableClkpwr0 ++ regTableGauge0 ++ regTableSpoil0

end Sys2Proof.Machine
end

