-- ==== Sys2Proof/Machine/State.lean ====
section
/-! DEFINITION. The state of the device: the queue of commands that wait, the register file, the benches, the tables and
memories that they share, the links, the Hall, the management complex, Kwawekan, the host interface, clocks and
power, and the Spoil log. Every field is plain data. -/

namespace Sys2Proof.Machine

/-- Why a step stops with a fault. -/
inductive Fault
  /-- The command's operands are not well-formed (Instr.wellFormed): no access, packet or frame of the hardware has
  such a shape. Raised by exec alone. Safe: the model stops where no hardware behaviour exists. -/
  | illFormed
  deriving DecidableEq, Repr

/-- Why a step is refused. -/
inductive Refusal
  /-- The row has no meaning in the model yet. Raised by an arm of exec alone. Safe: nothing is claimed of it. -/
  | notModelled (mnemonic : String)
  deriving DecidableEq, Repr

/-- The whole device. -/
structure State where
  /-- Commands waiting, first in, first out. -/
  pending : List Instr
  /-- The number of the next free value (the model's own field). -/
  fresh : Nat
  /-- What the block has sent out since reset, oldest first (the model's own field). -/
  out : List Out
  /-- The register file: words that differ from their reset value. -/
  regs : List (Nat × Reg64)
  /-- RC fields, by key and lowest bit: the count in the unit of the quantity itself (R526). -/
  rc : List (Nat × Nat)
  /-- The physical benches that differ from their reset state. -/
  benches : List (Nat × Bench)
  /-- The prime and chain tables. -/
  primes : PrimeTables
  /-- Basins, leases and the key table. -/
  ledges : Ledges
  /-- Local HBM. -/
  hbm : Hbm
  /-- Weir operations, replies, messages and credits on their way. -/
  net : Net
  /-- The fabric links that differ from their reset state. -/
  links : List (Nat × Link)
  /-- The Hall unit. -/
  hall : Hall
  /-- The management complex. -/
  mgmt : Mgmt
  /-- Kwawekan. -/
  kwa : Seal
  /-- The host interface. -/
  host : HostIf
  /-- Power, clocks and reset. -/
  power : Power
  /-- The Spoil log. -/
  spoil : Spoil
  deriving DecidableEq, Repr

/-- The device in a cold reset as PWROK rises: the straps are latched and the root PLL is about to lock; ROOT_PLL_LOCK starts
device time and CLEARING (R466, R480, R485; log 5). -/
def State.reset : State where
  pending := []
  fresh := 0
  out := []
  regs := []
  rc := []
  benches := []
  primes := ⟨[], [], none⟩
  ledges := Ledges.reset
  hbm := Hbm.reset
  net := Net.reset
  links := []
  hall := Hall.reset
  mgmt := Mgmt.reset
  kwa := Seal.reset
  host := HostIf.reset
  power := Power.reset
  spoil := Spoil.reset

end Sys2Proof.Machine
end

