-- ==== Sys2Proof/Machine/RegFile.lean ====
section
/-! DEFINITION. The register file: the one place that reads and writes registers and their fields (R3-R6, R502, R503,
R526 of spec/00_scope.md and spec/20_register_map.md). -/

namespace Sys2Proof.Machine

/-- The offset of a register in the first instance of its block, as the register table lists it. -/
def canon (k : Nat) : Nat :=
  let o := k % viewBit
  if 0x100000 ≤ o ∧ o < 0x540000 then 0x100000 + o % 0x10000
  else if 0x80000 ≤ o ∧ o < 0xA0000 then 0x80000 + o % 0x800
  else if 0xC0000 ≤ o ∧ o < 0xD0000 then 0xC0000 + o % 0x100
  else if 0x2000 ≤ o ∧ o < 0x3000 then 0x2000 + o % 0x80
  else if 0x41000 ≤ o ∧ o < 0x41800 then 0x41000 + o % 0x80
  else o

/-- The part of the register table that a canonical offset can lie in. -/
def regTableAt (c : Nat) : List RegSpec :=
  if c < 0x10000 then regTableDevctl0 ++ regTableDevctl1 ++ regTableDevctl2 ++ regTableDevctl3
  else if c < 0x20000 then regTableClkpwr0
  else if c < 0x30000 then regTableGauge0
  else if c < 0x40000 then regTableSpoil0
  else if c < 0x50000 then regTableHif0 ++ regTableHif1
  else if c < 0x60000 then regTableSeal0
  else if c < 0x80000 then regTableMgmt0
  else if c < 0xA0000 then regTableFab0
  else if c < 0xC0000 then regTableHall0 ++ regTableHall1
  else if c < 0x100000 then regTableMemc0
  else regTableBench0 ++ regTableBench1 ++ regTableBench2 ++ regTableBench3

/-- Whether a canonical offset is one of a row's registers. -/
def RegSpec.covers (r : RegSpec) (c : Nat) : Bool :=
  if r.stride = 0 then decide (c = r.base)
  else decide (r.base ≤ c) && decide ((c - r.base) % r.stride = 0) &&
    decide (r.first ≤ (c - r.base) / r.stride) && decide ((c - r.base) / r.stride < r.first + r.count)

/-- The register at a key, if the key is an implemented offset (R502). -/
def regSpecOf (k : Nat) : Option RegSpec := (regTableAt (canon k)).find? (fun r => r.covers (canon k))

/-- The fields of the register at a key. -/
def regFields (k : Nat) : List FieldSpec :=
  match regSpecOf k with
  | some r => r.fields
  | none => []

/-- The default ALLOC of a channel, whole port or half-port (Table 13.8). -/
def allocDefault (half : Bool) (v : Nat) : Nat :=
  (if half then [16, 96, 32, 48, 96, 208, 8, 8] else [16, 192, 64, 96, 192, 440, 8, 16]).getD v 0

/-- What a register reads as after a cold reset beyond its table: device serial, spare numbers, credit allocations, view
identity, fused voltages, straps. -/
def regResetExtra (k : Nat) : Reg64 :=
  let o := k % viewBit
  if o = Reg.DEVCTL_SERIAL then Config.serial
  else if 0x40 ≤ o ∧ o < 0x60 then BitVec.ofNat 64 ((17 * ((o - 0x40) / 8) + 16) <<< 40)
  else if 0x80000 ≤ o ∧ o < 0xA0000 ∧ 0x40 ≤ o % 0x800 ∧ o % 0x800 < 0x80 then
    BitVec.ofNat 64 (allocDefault (decide ((o / 0x800) % 2 = 1)) ((o % 0x800 - 0x40) / 8) <<< 32)
  else if o = 0x40000 then
    BitVec.ofNat 64 (if k / viewBit < 16 then (k / viewBit) <<< 60 else 1 <<< 59)
  else if o = Reg.CLKPWR_VCORE then
    BitVec.ofNat 64 (((Config.fusedVolt 0).toNat <<< 56) + ((Config.fusedVolt 1).toNat <<< 48) +
      ((Config.fusedVolt 2).toNat <<< 40) + ((Config.fusedVolt 3).toNat <<< 32))
  else if o = Reg.CLKPWR_RESET then
    BitVec.ofNat 64 (((Config.strap 0).toNat <<< 61) + ((Config.strap 1).toNat <<< 59))
  else 0

/-- What a register holds after a cold reset (R509). -/
def regReset (k : Nat) : Reg64 :=
  (regFields k).foldl (fun w f => w ||| BitVec.ofNat 64 (f.rst <<< f.lo)) (regResetExtra k)

/-- A stored register word. -/
def State.reg (s : State) (k : Nat) : Reg64 := Sparse.get regReset s.regs k

/-- A register word stored. -/
def State.setReg (s : State) (k : Nat) (v : Reg64) : State := { s with regs := Sparse.set regReset s.regs k v }

/-- A field of a register. -/
def State.rd (s : State) (f : Fld) : Nat := getBits (s.reg f.key) f.hi f.lo

/-- A one-bit field of a register. -/
def State.flag (s : State) (f : Fld) : Bool := decide (s.rd f ≠ 0)

/-- A field of a register written by the device. -/
def State.wr (s : State) (f : Fld) (v : Nat) : State := s.setReg f.key (putBits (s.reg f.key) f.hi f.lo v)

/-- A one-bit field written by the device. -/
def State.wrB (s : State) (f : Fld) (v : Bool) : State := s.wr f (if v then 1 else 0)

/-- The store key of an RC field: its register and its lowest bit. -/
def Fld.rcKey (f : Fld) : Nat := f.key * 64 + f.lo

/-- The count that an RC field holds, in the unit of the quantity itself (R526). -/
def State.cnt (s : State) (f : Fld) : Nat := Sparse.get (fun _ => 0) s.rc f.rcKey

/-- An RC field's count stored. -/
def State.setCnt (s : State) (f : Fld) (v : Nat) : State := { s with rc := Sparse.set (fun _ => 0) s.rc f.rcKey v }

/-- How many of the quantity make one unit of an RC field: bytes per KiB, ns per µs, flits per 1,024, else one
(R526). -/
def rcUnit (k lo : Nat) : Nat :=
  let c := canon k
  if c = 0xC0018 then 1024
  else if 0x40A0 ≤ c ∧ c < 0x40C0 then 1024
  else if c = 0x10008 then 1000
  else if c = 0x80098 ∧ lo = 0 then 1024
  else 1

/-- The largest value of a field. -/
def Fld.top (f : Fld) : Nat := 2 ^ (f.hi + 1 - f.lo) - 1

/-- An RC count raised by n: an event count saturates, a count kept in a smaller unit does not (R526). -/
def State.bump (s : State) (f : Fld) (n : Nat) : State :=
  if rcUnit f.key f.lo = 1 then s.setCnt f (min f.top (s.cnt f + n)) else s.setCnt f (s.cnt f + n)

/-- A wrapping count kept in a register raised by one. -/
def State.wrapInc (s : State) (f : Fld) : State := s.wr f (s.rd f + 1)

/-- A saturating count kept in a register raised by one. -/
def State.satInc (s : State) (f : Fld) : State := s.wr f (min f.top (s.rd f + 1))

/-- What an RC field shows: whole units, saturated (R526). -/
def State.rcShown (s : State) (f : Fld) : Nat := min f.top (s.cnt f / rcUnit f.key f.lo)

/-- Whether an extreme that an RC field keeps has seen a sample since the last read (R491). -/
def Fld.armedKey (f : Fld) : Nat := f.rcKey + 1

/-- An RC field cleared by a read: whole units go, the remainder stays; a field that keeps an extreme restarts at the next
sample (R526, R491). -/
def State.rcClear (s : State) (f : Fld) : State :=
  let s := s.setCnt f (s.cnt f % rcUnit f.key f.lo)
  { s with rc := Sparse.set (fun _ => 0) s.rc f.armedKey 0 }

/-- A sample taken into an RC field that keeps an extreme; better says when a new sample replaces the old one (R491). -/
def State.extreme (s : State) (f : Fld) (better : Nat → Nat → Bool) (v : Nat) : State :=
  let seen := Sparse.get (fun _ => 0) s.rc f.armedKey
  let s := if seen = 0 ∨ better v (s.cnt f) then s.setCnt f v else s
  { s with rc := Sparse.set (fun _ => 0) s.rc f.armedKey 1 }

/-- The key of entry i of an array that stands behind a data register (R505). -/
def behind (k i : Nat) : Nat := k + viewBit * (100 + i)

/-- The RC fields of the register at a key. -/
def rcFields (k : Nat) : List Fld :=
  ((regFields k).filter (fun f => decide (f.acc = .rc))).map (fun f => ⟨k, f.hi, f.lo⟩)

/-- A register word as its own fields show it: stored bits, RC counts in their places, WO fields zero. -/
def State.plain (s : State) (k : Nat) : Reg64 :=
  let w := (rcFields k).foldl (fun w f => putBits w f.hi f.lo (s.rcShown f)) (s.reg k)
  ((regFields k).filter (fun f => decide (f.acc = .wo))).foldl (fun w f => putBits w f.hi f.lo 0) w

/-- Every RC field of a register cleared (R4). -/
def State.clearRc (s : State) (k : Nat) : State := (rcFields k).foldl (fun s f => s.rcClear f) s

/-- A write of software to a register by its access codes: RW fields are set, a one in a W1C field clears it, a one in a
W1S field sets it, the rest is unchanged (R503). -/
def accWrite (fs : List FieldSpec) (old data : Reg64) : Reg64 :=
  fs.foldl (fun w f =>
    match f.acc with
    | .rw => putBits w f.hi f.lo (getBits data f.hi f.lo)
    | .w1c => w &&& ~~~ (data &&& fieldMask 64 f.hi f.lo)
    | .w1s => w ||| (data &&& fieldMask 64 f.hi f.lo)
    | .ro => w
    | .wo => w
    | .rc => w) old

/-- A register write by access codes alone. -/
def State.soft (s : State) (k : Nat) (data : Reg64) : State := s.setReg k (accWrite (regFields k) (s.reg k) data)

/-- The registers and counts that satisfy p returned to their reset values. -/
def State.resetRegs (s : State) (p : Nat → Bool) : State :=
  { s with regs := Sparse.keep s.regs (fun k => !p k), rc := Sparse.keep s.rc (fun k => !p (k / 64)) }

end Sys2Proof.Machine
end

