-- ==== Sys2Proof/Machine/Words.lean ====
section
/-! DEFINITION. Words and elements in the bench memories: 32-byte words with their poison marks (R285-R287), residues and
floats in words (R7, R49, R275), the bank map (R81) and windows (R83). -/

namespace Sys2Proof.Machine

/-- The 32-byte word at a word-aligned address and whether it decodes as uncorrectable. -/
def EMem.readWord (m : EMem) (a : Nat) : Nat × Bool := (m.mem.readLE a 32, m.bad.contains (a / 32))

/-- A whole word written, with fresh check bits or the poison pattern (R286). -/
def EMem.writeWord (m : EMem) (a v : Nat) (poison : Bool) : EMem :=
  { mem := m.mem.writeLE a 32 v
    bad := (m.bad.filter (fun w => decide (w ≠ a / 32))) ++ (if poison then [a / 32] else []) }

/-- Part of a word written and merged; a bad word stays poisoned (R287). -/
def EMem.mergeLE (m : EMem) (a n v : Nat) : EMem := { m with mem := m.mem.writeLE a n v }

/-- A doubleword by index. -/
def EMem.dword (m : EMem) (i : Nat) : Reg64 := BitVec.ofNat 64 (m.mem.readLE (8 * i) 8)

/-- A doubleword written by index. -/
def EMem.setDword (m : EMem) (i : Nat) (v : Reg64) : EMem := m.mergeLE (8 * i) 8 v.toNat

/-- n elements of k bytes from address a. -/
def EMem.elems (m : EMem) (a k : Nat) : Nat → List Nat
  | 0 => []
  | n + 1 => m.mem.readLE a k :: EMem.elems m (a + k) k n

/-- Elements of k bytes written from address a; the whole words they cover take fresh check bits. -/
def EMem.writeElems (m : EMem) (a k : Nat) : List Nat → EMem
  | [] => m
  | v :: vs => EMem.writeElems { mem := m.mem.writeLE a k v, bad := m.bad.filter (fun w => decide (w ≠ a / 32)) } (a + k) k vs

/-- The k-byte elements of a word, lowest first. -/
def wordElems (k w : Nat) : List Nat := (List.range (32 / k)).map (fun i => w / 2 ^ (8 * k * i) % 2 ^ (8 * k))

/-- The word that k-byte elements form. -/
def elemsWord (k : Nat) : List Nat → Nat
  | [] => 0
  | v :: vs => v % 2 ^ (8 * k) + 2 ^ (8 * k) * elemsWord k vs

/-- A list cut into runs of n. -/
def chunksFuel {α : Type} (n : Nat) : Nat → List α → List (List α)
  | 0, _ => []
  | fuel + 1, l => if l.isEmpty then [] else l.take n :: chunksFuel n fuel (l.drop n)

/-- A list cut into runs of n elements, the last one shorter where the length is no multiple. -/
def chunksOf {α : Type} (n : Nat) (l : List α) : List (List α) := chunksFuel n l.length l

/-- The bank of a Pool word (R81). -/
def poolBank (w : Nat) : Nat := (w % 512) ^^^ ((w / 512) % 512)

/-- The bank of a Basin word (R281). -/
def basinBank (w : Nat) : Nat := (w % 256) ^^^ ((w / 256) % 256)

/-- m of R83: the largest number of a window's words that fall in one bank; at least one. -/
def windowM (words : List Nat) : Nat :=
  let bs := words.map poolBank
  (bs.map (fun b => bs.count b)).foldl max 1

/-- The time of a sequence of words packed into windows of 512 on a port with k slots: the sum of 8m/k (R83). -/
def windowsTime (k : Nat) (words : List Nat) : Nat :=
  ((chunksOf 512 words).map (fun w => 8 * windowM w / k)).foldl (· + ·) 0

end Sys2Proof.Machine
end

