-- ==== Sys2Proof/Machine/Ops.lean ====
section
/-! DEFINITION. The operations that the commands share: benches and the bench map (R8-R25), tenants (R408), free values,
device time (R485), events for the Spoil log (R492, R527), interrupts (R461) and device states (R480). A block takes no
exception; raising an interrupt source or an error flag is an effect of the command. -/

namespace Sys2Proof.Machine

/-- The state with one more thing sent out. -/
def State.emit (s : State) (o : Out) : State := { s with out := s.out ++ [o] }

/-- The state after one free number has been used. -/
def State.skip (s : State) : State := { s with fresh := s.fresh + 1 }

/-- A physical bench. -/
def State.bench (s : State) (pb : Nat) : Bench := Sparse.get (fun _ => Bench.reset) s.benches pb

/-- A physical bench stored. -/
def State.setBench (s : State) (pb : Nat) (b : Bench) : State :=
  { s with benches := Sparse.set (fun _ => Bench.reset) s.benches pb b }

/-- A physical bench changed. -/
def State.onBench (s : State) (pb : Nat) (f : Bench → Bench) : State := s.setBench pb (f (s.bench pb))

/-- A fabric link. -/
def State.link (s : State) (lk : Nat) : Link := Sparse.get (fun _ => Link.reset) s.links lk

/-- A fabric link stored. -/
def State.setLink (s : State) (lk : Nat) (l : Link) : State :=
  { s with links := Sparse.set (fun _ => Link.reset) s.links lk l }

/-- A fabric link changed. -/
def State.onLink (s : State) (lk : Nat) (f : Link → Link) : State := s.setLink lk (f (s.link lk))

/-- The number of a view: PF 0, VF n n, I3C 16, Matumon 17. -/
def viewNum : View → Nat
  | .fn n => n.val
  | .i3c => 16
  | .matumon => 17

/-- The host state of a view. -/
def State.view (s : State) (n : Nat) : ViewState := Sparse.get (fun _ => ViewState.reset) s.host.views n

/-- The host state of a view stored. -/
def State.setView (s : State) (n : Nat) (v : ViewState) : State :=
  { s with host := { s.host with views := Sparse.set (fun _ => ViewState.reset) s.host.views n v } }

/-- A tenant's record. -/
def State.tenant (s : State) (t : Nat) : Tenant := Sparse.get (fun _ => Tenant.closed) s.mgmt.tenants t

/-- A tenant's record stored. -/
def State.setTenant (s : State) (t : Nat) (v : Tenant) : State :=
  { s with mgmt := { s.mgmt with tenants := Sparse.set (fun _ => Tenant.closed) s.mgmt.tenants t v } }

/-- The physical bench of logical bench m under the bench map (R9, R22). -/
def State.physOf (s : State) (m : Nat) : Nat :=
  let l := m / 16
  if s.flag (Fld.DEVCTL_LEDGE_MAP_SUBST l) ∧ s.rd (Fld.DEVCTL_LEDGE_MAP_SUB_SLOT l) = m % 16 then 17 * l + 16
  else 17 * l + m % 16

/-- The logical bench of a physical bench; none for a retired bench and for an idle spare (R9, R24). -/
def State.logicalOf (s : State) (pb : Nat) : Option Nat :=
  let l := pb / 17
  let r := pb % 17
  let sub := s.flag (Fld.DEVCTL_LEDGE_MAP_SUBST l)
  let slot := s.rd (Fld.DEVCTL_LEDGE_MAP_SUB_SLOT l)
  if r = 16 then (if sub then some (16 * l + slot) else none)
  else if sub ∧ slot = r then none else some (16 * l + r)

/-- The physical bench a reference names (R506). -/
def State.physRef (s : State) : BenchRef → Nat
  | .phys n => n.val
  | .logical m => s.physOf m.val

/-- Whether gang g is in service (R25). -/
def State.gangAvail (s : State) (g : Nat) : Bool := bit (s.rd Fld.DEVCTL_GANG_AVAIL_AVAIL) g

/-- The physical benches of gang g, by position. -/
def State.gangBenches (s : State) (g : Nat) : List Nat := (List.range 4).map (fun i => s.physOf (4 * g + i))

/-- The gang of a physical bench. -/
def State.gangOf (s : State) (pb : Nat) : Option Nat := (s.logicalOf pb).map (· / 4)

/-- The gang states of Table 15.3. -/
def gangFree : Nat := 0
def gangAssigned : Nat := 1
def gangKept : Nat := 2
def gangRinsing : Nat := 3
def gangOut : Nat := 4

/-- The assigned tenant of a gang: the tenant while ASSIGNED, else 0 (Table 15.3). -/
def State.gangTenant (s : State) (g : Nat) : Nat :=
  if s.rd (Fld.MGMT_GANG_STATE g) = gangAssigned then s.rd (Fld.MGMT_GANG_TENANT g) else 0

/-- The assigned tenant of a bench, 0 for a bench of no gang (R408). -/
def State.benchTenant (s : State) (pb : Nat) : Nat :=
  match s.gangOf pb with
  | some g => s.gangTenant g
  | none => 0

/-- The ledge of a physical bench. -/
def ledgeOf (pb : Nat) : Nat := pb / 17

/-- The bclk divider (Table 1.6). -/
def State.divider (s : State) : Nat := [4, 5, 6, 8].getD (s.rd Fld.CLKPWR_CLK_STEP) 4

/-- A duration of n ns in bclk, rounded up, at the divider in force (R329): the root clock has 6.4 cycles a ns. -/
def State.nsToBclk (s : State) (n : Nat) : Nat := cdiv (n * 64) (10 * s.divider)

/-- The millisecond window of device time (R527). -/
def State.window (s : State) : Nat := s.power.time / 1000000

/-- An event raised for the Spoil log, at the present device time (R492). -/
def State.log (s : State) (cls kind id logical tenant d0 d1 : Nat) : State :=
  { s with spoil := { s.spoil with
      inFlight := s.spoil.inFlight ++ [⟨s.power.time, cls, kind, id, logical, tenant, d0 % 2 ^ 64, d1 % 2 ^ 64⟩] } }

/-- An event of a bench (SRC_KIND 4). -/
def State.logBench (s : State) (pb cls d0 d1 : Nat) : State :=
  s.log cls 4 pb ((s.logicalOf pb).getD 0x3F) (s.benchTenant pb) d0 d1

/-- An event that concerns no bench and no tenant. -/
def State.logAt (s : State) (cls kind id d0 d1 : Nat) : State := s.log cls kind id 0x3F 0 d0 d1

/-- Whether the limit named by a key lets an entry pass in the present window (R527). -/
def State.mayLog (s : State) (key : Nat) : Bool :=
  decide (Sparse.get (fun _ => 0) s.spoil.limits key ≠ s.window + 1)

/-- The limit named by a key used up for the present window. -/
def State.markLog (s : State) (key : Nat) : State :=
  { s with spoil := { s.spoil with limits := Sparse.set (fun _ => 0) s.spoil.limits key (s.window + 1) } }

/-- An event logged at most once a window under the limit named by a key. -/
def State.logOnce (s : State) (key : Nat) (f : State → State) : State :=
  if s.mayLog key then f (s.markLog key) else s

/-- One occurrence of an interrupt source of a view: a message on its vector if the source is enabled, an in-band
interrupt for the sources that I3C carries (R461, R464). -/
def State.irq (s : State) (view src : Nat) : State :=
  if view < 16 then
    let byte := getBits (s.reg (Reg.HIF_IRQ_MAP view (src / 8))) (8 * (src % 8) + 7) (8 * (src % 8))
    if bit byte 7 then s.emit (.irq view (byte % 64)) else s
  else if view = 16 ∧ s.host.i3cIbi then s.emit (.ibi src) else s

/-- One occurrence of a source of the PF that I3C carries too (sources 18 and 19). -/
def State.irqDevice (s : State) (src : Nat) : State := (s.irq 0 src).irq 16 src

/-- The codes of MGMT_STATUS.STATE. -/
def devClearing : Nat := 1
def devHeld : Nat := 2
def devReady : Nat := 3
def devActive : Nat := 4
def devQuarantine : Nat := 5
def devFailed : Nat := 6

/-- The device state. -/
def State.devState (s : State) : Nat := s.rd Fld.MGMT_STATUS_STATE

/-- The device state and HELD_CAUSE set; a change is one occurrence of source 19 (R461, R480). -/
def State.setDev (s : State) (st cause : Nat) : State :=
  let changed := decide (s.devState ≠ st)
  let s := (s.wr Fld.MGMT_STATUS_STATE st).wr Fld.MGMT_STATUS_HELD_CAUSE cause
  if changed then s.irqDevice 19 else s

/-- READY or ACTIVE by whether a gang is ASSIGNED or KEPT (R406). -/
def State.settleActive (s : State) : State :=
  let busy := (List.range 16).any (fun g =>
    decide (s.rd (Fld.MGMT_GANG_STATE g) = gangAssigned) || decide (s.rd (Fld.MGMT_GANG_STATE g) = gangKept))
  if s.devState = devReady ∧ busy then s.setDev devActive 0
  else if s.devState = devActive ∧ ¬ busy then s.setDev devReady 0
  else s

/-- Whether the device runs: powered, out of reset, root clock locked (R467, R476). -/
def State.running (s : State) : Bool := decide (s.power.st = .running)

/-- The levels of TRIG_OUT[3:1]; TRIG_OUT[0] is a pulse (R516, Table 21.5). -/
def State.trigOut (s : State) (i : Nat) : Bool :=
  if s.power.st = .off then false
  else if s.devState = devFailed then decide (i = 3)
  else if i = 1 then s.flag Fld.SPOIL_STATUS_PENDING
  else if i = 2 then decide (s.rd Fld.CLKPWR_CLK_STEP ≠ 0)
  else if i = 3 then decide (s.devState = devHeld) || decide (s.devState = devQuarantine)
  else false

/-- A Matumon event for firmware (R386, R393). -/
def State.mgmtEvent (s : State) (code arg : Nat) : State := s.emit (.mgmtEvent code arg)

/-- A change recorded in the journal before it takes effect (R398). -/
def State.journal (s : State) (code arg : Nat) : State :=
  { s with mgmt := { s.mgmt with journal := s.mgmt.journal ++ [(code, arg)] } }

/-- The role of the device (HALL_ID.ROLE): 2 is the chief. -/
def State.isChief (s : State) : Bool := decide (s.rd Fld.HALL_ID_ROLE = 2)

/-- A fold over a list of numbers. -/
def State.each (s : State) (l : List Nat) (f : State → Nat → State) : State := l.foldl f s

end Sys2Proof.Machine
end

