-- ==== Sys2Proof/Machine/Operands.lean ====
section
/-! DEFINITION. The operand forms of a command: the command word (Table 5.2), descriptors and loop entries (R117-R133 of
spec/05_command_model.md), slabs, plaintexts and pebble arrays (R52-R80 of spec/03_slabs_pebbles.md), the issue checks
on them, and the words they name. -/

namespace Sys2Proof.Machine

/-- OPCODE. -/
def opcodeOf (w : CmdWord) : Nat := getBits w 127 120
/-- The class, bits [127:125] (Table 5.3). -/
def classOf (w : CmdWord) : Nat := getBits w 127 125
/-- FLAGS.EMIT_EN. -/
def emitEn (w : CmdWord) : Bool := w.getLsbD 119
/-- FLAGS.AWAIT_EN. -/
def awaitEn (w : CmdWord) : Bool := w.getLsbD 118
/-- FLAGS.END. -/
def endFlag (w : CmdWord) : Bool := w.getLsbD 117
/-- FLAGS.CFLAGS. -/
def cflagsOf (w : CmdWord) : Nat := getBits w 115 112
/-- EMIT. -/
def emitOf (w : CmdWord) : Nat := getBits w 111 104
/-- AWAIT. -/
def awaitOf (w : CmdWord) : Nat := getBits w 103 96
/-- The operand descriptor index of slot 0, 1 or 2. -/
def opIdx (w : CmdWord) (o : Nat) : Nat := getBits w (95 - 9 * o) (87 - 9 * o)
/-- LOOP. -/
def loopIdx (w : CmdWord) : Nat := getBits w 68 61
/-- SUBOP. -/
def subopOf (w : CmdWord) : Nat := getBits w 55 48
/-- IMM. -/
def immOf (w : CmdWord) : Nat := getBits w 47 0
/-- A field of SUBOP. -/
def subop (w : CmdWord) (hi lo : Nat) : Nat := bits (subopOf w) hi lo
/-- A field of IMM. -/
def imm (w : CmdWord) (hi lo : Nat) : Nat := bits (immOf w) hi lo

/-- The null descriptor (R118). -/
def nullDesc : List Nat := List.replicate 8 0

/-- The unit loop: four counts of 1, every increment 0 (R118). -/
def unitLoop : List Nat := [0x0001000100010001, 0, 0, 0, 0, 0, 0, 0]

/-- Descriptor entry i as a command reads it; entry 0 reads as zero (R118). -/
def Bench.desc (b : Bench) (i : Nat) : List Nat :=
  if i = 0 then nullDesc else (List.range 8).map (fun k => (b.descTab.dword (8 * i + k)).toNat)

/-- Loop entry i as a command reads it; entry 0 is the unit loop (R118). -/
def Bench.loopEnt (b : Bench) (i : Nat) : List Nat :=
  if i = 0 then unitLoop else (List.range 8).map (fun k => (b.loopTab.dword (8 * i + k)).toNat)

/-- A field of doubleword i of an entry. -/
def dw (d : List Nat) (i hi lo : Nat) : Nat := bits (d.getD i 0) hi lo

/-- The iteration count of a loop level (Table 5.6). -/
def loopCount (lp : List Nat) (l : Nat) : Nat := dw lp 0 (16 * l + 15) (16 * l)

/-- The increment of operand slot o at a level (Table 5.6). -/
def loopInc (lp : List Nat) (o l : Nat) : Int :=
  toSigned 32 (dw lp (1 + 2 * o + l / 2) (32 * (l % 2) + 31) (32 * (l % 2)))

/-- The iterations of a loop, level 0 fastest (R132). -/
def loopIters (lp : List Nat) : List (List Nat) :=
  (List.range (loopCount lp 3)).flatMap (fun j3 =>
    (List.range (loopCount lp 2)).flatMap (fun j2 =>
      (List.range (loopCount lp 1)).flatMap (fun j1 =>
        (List.range (loopCount lp 0)).map (fun j0 => [j0, j1, j2, j3]))))

/-- The number of iterations. -/
def loopTrips (lp : List Nat) : Nat := loopCount lp 0 * loopCount lp 1 * loopCount lp 2 * loopCount lp 3

/-- The offset of slot o in an iteration (R132). -/
def loopOff (lp : List Nat) (o : Nat) (j : List Nat) : Int :=
  (List.range 4).foldl (fun a l => a + (j.getD l 0 : Int) * loopInc lp o l) 0

/-- The offsets of slot o, iteration by iteration. -/
def loopOffs (lp : List Nat) (o : Nat) : List Int := (loopIters lp).map (loopOff lp o)

/-- The lowest and the highest of count values spaced by step from 0. -/
def spanOf (count : Nat) (step : Int) : Int × Int := (min 0 ((count - 1 : Nat) * step), max 0 ((count - 1 : Nat) * step))

/-- The span of slot o's offsets over a loop with at least one iteration. -/
def loopSpan (lp : List Nat) (o : Nat) : Int × Int :=
  (List.range 4).foldl (fun a l => let r := spanOf (loopCount lp l) (loopInc lp o l); (a.1 + r.1, a.2 + r.2)) (0, 0)

/-- The KIND of a descriptor (R52, R126). -/
def kindOf (d : List Nat) : Nat := dw d 0 63 60

/-- COUNTk of an address descriptor (Table 5.5). -/
def adCount (d : List Nat) (k : Nat) : Nat := dw d 1 (16 * k + 15) (16 * k)
/-- STRIDEk. -/
def adStride (d : List Nat) (k : Nat) : Int := toSigned 64 (d.getD (4 + k) 0)
/-- SPACE of an address descriptor. -/
def adSpace (d : List Nat) : Nat := dw d 0 3 2
/-- LEDGE of an address descriptor. -/
def adLedge (d : List Nat) : Nat := dw d 0 9 8
/-- IND_EN. -/
def adInd (d : List Nat) : Bool := decide (dw d 0 59 59 = 1)
/-- IND_DIM. -/
def adIndDim (d : List Nat) : Nat := dw d 0 58 57
/-- Bytes of an index entry (IND_W). -/
def adIndBytes (d : List Nat) : Nat := if dw d 0 56 56 = 1 then 4 else 2
/-- IND_SHIFT. -/
def adIndShift (d : List Nat) : Nat := dw d 0 55 52
/-- IDX_LIMIT. -/
def adLimit (d : List Nat) : Nat := dw d 2 63 32
/-- IDX_BASE. -/
def adIdxBase (d : List Nat) : Nat := dw d 2 25 0
/-- START. -/
def adStart (d : List Nat) : Nat := d.getD 3 0

/-- The words an address descriptor names in one iteration. -/
def adPerIter (d : List Nat) : Nat := adCount d 0 * adCount d 1 * adCount d 2 * adCount d 3

/-- Index offset i of R128. -/
def adIndexOff (pool : EMem) (d : List Nat) (i : Nat) : Nat :=
  pool.mem.readLE (adIdxBase d + i * adIndBytes d) (adIndBytes d) * 2 ^ adIndShift d

/-- Whether an index offset suppresses its access (R86, R128). -/
def adOffBad (d : List Nat) (off : Nat) : Bool := decide (off % 32 ≠ 0) || decide (adLimit d ≤ off)

/-- The offsets of dimension k in order; none where the access is suppressed (R127, R128). -/
def adOffs (pool : EMem) (d : List Nat) (k : Nat) : List (Option Int) :=
  if adInd d ∧ k = adIndDim d then
    (List.range (adCount d k)).map (fun i =>
      let off := adIndexOff pool d i
      if adOffBad d off then none else some (off : Int))
  else (List.range (adCount d k)).map (fun (i : Nat) => some ((i : Int) * adStride d k))

/-- The sum of two offsets, none if either is suppressed. -/
def addOff : Option Int → Option Int → Option Int
  | some a, some b => some (a + b)
  | _, _ => none

/-- The byte addresses of the words that an address descriptor names in an iteration with a loop offset, in R127 order; none
for a suppressed access. -/
def adWords (pool : EMem) (d : List Nat) (loopOffset : Int) : List (Option Nat) :=
  (adOffs pool d 3).flatMap (fun a3 =>
    (adOffs pool d 2).flatMap (fun a2 =>
      (adOffs pool d 1).flatMap (fun a1 =>
        (adOffs pool d 0).map (fun a0 =>
          (addOff (addOff a3 a2) (addOff a1 a0)).map (fun x => (adStart d + loopOffset + x).toNat)))))

/-- The words of slot o over all iterations. -/
def adAll (pool : EMem) (d lp : List Nat) (o : Nat) : List (Option Nat) :=
  (loopOffs lp o).flatMap (adWords pool d)

/-- The first index offset that suppresses an access: KIND 1 for a misaligned offset, 2 for one at or beyond the limit,
and the offset (R86, R128). -/
def adFault (pool : EMem) (d lp : List Nat) : Option (Nat × Nat) :=
  if adInd d ∧ adPerIter d * loopTrips lp ≠ 0 then
    (((List.range (adCount d (adIndDim d))).map (adIndexOff pool d)).find? (adOffBad d)).map
      (fun off => (if off % 32 ≠ 0 then 1 else 2, off))
  else none

/-- The span of dimension k: an indirect dimension spans the offsets from 0 to below IDX_LIMIT (R129). -/
def adDimSpan (d : List Nat) (k : Nat) : Int × Int :=
  if adInd d ∧ k = adIndDim d then (0, (adLimit d - 32 : Nat)) else spanOf (adCount d k) (adStride d k)

/-- The lowest and highest byte address of a word over all iterations; none where no word is named (R129). -/
def adExtent (d lp : List Nat) (o : Nat) : Option (Int × Int) :=
  if adPerIter d * loopTrips lp = 0 then none
  else
    let r := (List.range 4).foldl (fun a k => let s := adDimSpan d k; (a.1 + s.1, a.2 + s.2)) (loopSpan lp o)
    some ((adStart d : Int) + r.1, (adStart d : Int) + r.2)

/-- The bytes of the index array. -/
def adIdxBytes (d : List Nat) : Nat := adCount d (adIndDim d) * adIndBytes d

/-- The words of the index array, by word number. -/
def adIdxWords (d : List Nat) : List Nat :=
  if adInd d ∧ adIdxBytes d ≠ 0 then
    (List.range ((adIdxBase d + adIdxBytes d - 1) / 32 + 1 - adIdxBase d / 32)).map (· + adIdxBase d / 32)
  else []

/-- How often the index array is read: once for each combination of the dimensions above IND_DIM, in every iteration
(R128). -/
def adIdxReads (d lp : List Nat) : Nat :=
  if adInd d then
    ((List.range 4).filter (fun k => decide (adIndDim d < k))).foldl (fun a k => a * adCount d k) (loopTrips lp)
  else 0

/-- The time of the index windows of a descriptor on a port with k slots (R128). -/
def adIdxTime (k : Nat) (d lp : List Nat) : Nat := adIdxReads d lp * windowsTime k (adIdxWords d)

/-- Why a command does not execute: the HALT_CAUSE it leaves, the stage, the operand slot (3 for none), and the value that
the log holds (R158, R162). -/
structure Reject where
  cause : Nat
  stage : Nat
  slot : Nat
  value : Nat
  deriving DecidableEq, Repr

/-- ILLEGAL_COMMAND at stage 5. -/
def illegal (slot : Nat) : Reject := ⟨3, 5, slot, 0⟩
/-- ALIGN_FAULT at stage 5. -/
def misaligned (slot : Nat) (v : Int) : Reject := ⟨4, 5, slot, ofSigned 64 v⟩

/-- A check that must hold. -/
def must (c : Bool) (r : Reject) : Except Reject Unit := if c then .ok () else .error r

/-- Checks in order: the first failure decides (R528). -/
def mustAll : List (Bool × Reject) → Except Reject Unit
  | [] => .ok ()
  | (c, r) :: rest => if c then mustAll rest else .error r

/-- Whether a number is a multiple of 32. -/
def mul32 (z : Int) : Bool := decide (z % 32 = 0)

/-- Bytes of the Pool (R81). -/
def poolBytes : Nat := 2 ^ 26

/-- The size of a space in bytes: Pool, Basin of a ledge (R280), local HBM under the active channels (R314), Hall. -/
def State.spaceBytes (s : State) (sp : Nat) : Nat :=
  if sp = 0 then poolBytes else if sp = 1 then 2 ^ 29
  else if sp = 2 then s.rd Fld.DEVCTL_HBM_CFG_ACTIVE * 2 ^ 31 else 2 ^ 64

/-- The first value of a list that is no multiple of 32. -/
def firstOdd (l : List Int) : Option Int := l.find? (fun z => !mul32 z)

/-- The addresses, strides and increments that check 3 of R129 looks at. -/
def adAligned (d lp : List Nat) (o : Nat) : List Int :=
  (adStart d : Int) ::
    (((List.range 4).filter (fun k => decide (1 < adCount d k))).map (adStride d)) ++
    ((List.range 4).map (loopInc lp o)) ++ [(adIdxBase d : Int)] ++
    (if adInd d then [(adLimit d : Int)] else [])

/-- The issue checks on an address descriptor (R129), in their order. -/
def adCheck (s : State) (spaces : List Nat) (d lp : List Nat) (o : Nat) : Except Reject Unit := do
  must (decide (kindOf d = 4)) (illegal o)
  must (spaces.contains (adSpace d)) (illegal o)
  match firstOdd (adAligned d lp o) with
  | some v => .error (misaligned o v)
  | none => must (!adInd d || decide (32 ≤ adLimit d)) (misaligned o (adLimit d))
  match adExtent d lp o with
  | none => .ok ()
  | some (lo, hi) =>
    must (decide (0 ≤ lo) && decide (hi + 32 ≤ (s.spaceBytes (adSpace d) : Int)) &&
      (!adInd d || decide (adIdxBase d + adIdxBytes d ≤ poolBytes))) (illegal o)

/-- The intervals of words that a Pool address descriptor names, its index array among them (R148). -/
def adIntervals (d lp : List Nat) (o : Nat) : List (Nat × Nat) :=
  match adExtent d lp o with
  | none => []
  | some (lo, hi) => if adSpace d = 0 then [(lo.toNat / 32, hi.toNat / 32)] else []

/-- The interval of the index array. -/
def adIdxInterval (d : List Nat) : List (Nat × Nat) :=
  if adInd d ∧ adIdxBytes d ≠ 0 then [(adIdxBase d / 32, (adIdxBase d + adIdxBytes d - 1) / 32)] else []

/-- A slab or plaintext descriptor (Table 3.1). -/
structure Obj where
  kind : Nat
  domain : Nat
  spent : Bool
  compat : Bool
  logN : Nat
  chain : Nat
  level : Nat
  limbs : Nat
  lfirst : Nat
  lcount : Nat
  spc : Nat
  scale : Nat
  mask : Nat
  logSlots : Nat
  ledge : Nat
  space : Nat
  tag : Nat
  base : Nat
  cause : Nat
  tcount : Nat
  tspc : Nat
  tlimbs : Nat
  deriving DecidableEq, Repr

/-- The fields of a slab or plaintext descriptor. -/
def Obj.ofDesc (d : List Nat) : Obj where
  kind := kindOf d
  domain := dw d 0 59 59
  spent := decide (dw d 0 58 58 = 1)
  compat := decide (dw d 0 57 57 = 1)
  logN := dw d 0 52 48
  chain := dw d 0 44 40
  level := dw d 0 39 32
  limbs := dw d 0 30 24
  lfirst := dw d 0 21 16
  lcount := dw d 0 14 8
  spc := dw d 0 4 0
  scale := dw d 1 63 32
  mask := dw d 1 31 16
  logSlots := dw d 1 15 11
  ledge := dw d 1 9 8
  space := dw d 1 3 2
  tag := d.getD 2 0
  base := d.getD 3 0
  cause := dw d 4 63 60
  tcount := dw d 4 54 48
  tspc := dw d 4 44 40
  tlimbs := dw d 4 38 32

/-- A flag as a bit. -/
def b2n (b : Bool) : Nat := if b then 1 else 0

/-- The eight doublewords of a result descriptor; reserved fields are written as zero (R53). -/
def Obj.toDesc (o : Obj) : List Nat :=
  [o.kind * 2 ^ 60 + o.domain * 2 ^ 59 + b2n o.spent * 2 ^ 58 + b2n o.compat * 2 ^ 57 + o.logN * 2 ^ 48 +
      o.chain * 2 ^ 40 + o.level * 2 ^ 32 + o.limbs * 2 ^ 24 + o.lfirst * 2 ^ 16 + o.lcount * 2 ^ 8 + o.spc,
    o.scale * 2 ^ 32 + o.mask * 2 ^ 16 + o.logSlots * 2 ^ 11 + o.ledge * 2 ^ 8 + o.space * 2 ^ 2,
    o.tag, o.base,
    o.cause * 2 ^ 60 + o.tcount * 2 ^ 48 + o.tspc * 2 ^ 40 + o.tlimbs * 2 ^ 32, 0, 0, 0]

/-- N. -/
def Obj.n (o : Obj) : Nat := 2 ^ o.logN
/-- Polynomials per limb (Table 6.2). -/
def Obj.polys (o : Obj) : Nat := if o.kind = 1 then 2 else 1
/-- R of R60. -/
def Obj.region (o : Obj) : Nat := max o.n 16384
/-- The gangs of GANG_MASK, in order. -/
def gangsOf (mask : Nat) : List Nat := (List.range 16).filter (bit mask)
/-- The local indices a command is timed by (R61). -/
def Obj.total (o : Obj) : Nat := o.tcount + o.tspc

/-- The chain position of a local index (R59). -/
def Obj.position (o : Obj) (j : Nat) : Nat := if j < o.tcount then o.lfirst + j else 64 + (j - o.tcount)

/-- The limbs that R59 places in a gang: chain position and slot. -/
def Obj.limbsIn (o : Obj) (g : Nat) : List (Nat × Nat) :=
  let gs := gangsOf o.mask
  ((List.range o.total).filter (fun j => decide (gs[j % gs.length]? = some g))).map
    (fun j => (o.position j, j / gs.length))

/-- The slot of a chain position in a gang. -/
def Obj.slotOf (o : Obj) (g pos : Nat) : Option Nat := ((o.limbsIn g).find? (fun x => decide (x.1 = pos))).map Prod.snd

/-- The Pool address of polynomial b of a slot (R60, R76). -/
def Obj.polyAddr (o : Obj) (k b : Nat) : Nat := o.base + (o.polys * k + b) * o.region

/-- Bytes from BASE to the end of the last quarter of the object in any gang (R60, R76). -/
def Obj.poolSpan (o : Obj) : Nat :=
  let g := (gangsOf o.mask).length
  if o.total = 0 ∨ g = 0 then 0 else (o.polys * ((o.total - 1) / g) + o.polys - 1) * o.region + o.n

/-- Whether an object with a loop over slot o lies inside the Pool and starts on a word in every iteration (check 7 of Table
3.2, R58). -/
def Obj.inPool (ob : Obj) (lp : List Nat) (o : Nat) : Bool :=
  mul32 ob.base &&
    (decide (loopTrips lp = 0) ||
      ((List.range 4).all (fun l => decide (loopCount lp l ≤ 1) || mul32 (loopInc lp o l)) &&
        decide (0 ≤ (ob.base : Int) + (loopSpan lp o).1) &&
        decide ((ob.base : Int) + (loopSpan lp o).2 + ob.poolSpan ≤ (poolBytes : Int))))

/-- The tracker intervals of an object in the Pool of a bench of gang g: every word that R59, R60 and R76 place there
(R148). -/
def Obj.intervals (ob : Obj) (g : Nat) (lp : List Nat) (o : Nat) : List (Nat × Nat) :=
  if loopTrips lp = 0 then []
  else
    let r := loopSpan lp o
    (ob.limbsIn g).flatMap (fun x => (List.range ob.polys).map (fun b =>
      let a : Int := ob.polyAddr x.2 b
      ((a + r.1).toNat / 32, ((a + r.2).toNat + ob.n - 1) / 32)))

/-- A chain. -/
def State.chainEnt (s : State) (c : Nat) : ChainEnt := Sparse.get (fun _ => ChainEnt.empty) s.primes.chain c

/-- An entry of the prime table. -/
def State.primeEnt (s : State) (slot : Nat) : PrimeEnt := Sparse.get (fun _ => PrimeEnt.empty) s.primes.prime slot

/-- The prime-table slot of a chain position. -/
def State.chainSlot (s : State) (c pos : Nat) : Nat := (s.chainEnt c).idx.getD pos 0

/-- The prime at a chain position. -/
def State.chainPrime (s : State) (c pos : Nat) : Nat := (s.primeEnt (s.chainSlot c pos)).p

/-- Check 4 of Table 3.2. -/
def Obj.countsOk (o : Obj) (ord spc : Nat) : Bool :=
  if o.spent then
    decide (o.limbs = 0) && decide (o.lcount = 0) && decide (o.spc = 0) && decide (o.tlimbs ≤ ord) &&
      (if o.lfirst < o.tlimbs then decide (o.tcount ≤ o.tlimbs - o.lfirst) else decide (o.tcount = 0)) &&
      decide (o.tspc ≤ spc)
  else
    decide (1 ≤ o.limbs) &&
      (if o.lfirst < o.limbs then decide (1 ≤ o.lcount) && decide (o.lcount ≤ o.limbs - o.lfirst)
        else decide (o.lcount = 0)) &&
      decide (o.tlimbs = o.limbs) && decide (o.tcount = o.lcount) && decide (o.tspc = o.spc)

/-- Check 1 of Table 3.2 on a plaintext (R76). -/
def Obj.plainOk (o : Obj) : Bool :=
  decide (o.kind ≠ 2) || (!o.spent && !o.compat && decide (o.level = 0) && decide (o.tag = 0) && decide (o.cause = 0) &&
    decide (o.spc = 0))

/-- Whether a mask names only gangs assigned to the tenant of a bench and the bench's own gang among them (check 6). -/
def State.maskOk (s : State) (pb mask : Nat) : Bool :=
  match s.gangOf pb with
  | none => false
  | some g => bit mask g && (gangsOf mask).all (fun h => decide (s.gangTenant h = s.gangTenant g))

/-- Table 3.2 on one operand: the kinds and the domain that the command accepts (2: either), and the operands checked before
it. -/
def objCheck (s : State) (pb : Nat) (kinds : List Nat) (domain : Nat) (before : List Obj) (lp : List Nat) (slot : Nat)
    (o : Obj) : Except Reject Unit :=
  let ch := s.chainEnt o.chain
  mustAll [
    (kinds.contains o.kind && o.plainOk && decide (o.space = 0), illegal slot),
    (decide (10 ≤ o.logN) && decide (o.logN ≤ 17) &&
      before.all (fun b => decide (b.logN = o.logN) && decide (b.chain = o.chain)), illegal slot),
    (ch.valid && decide (o.limbs ≤ ch.ord) && decide (o.spc ≤ ch.spc), illegal slot),
    (o.countsOk ch.ord ch.spc, illegal slot),
    (decide (o.logSlots + 1 ≤ o.logN), illegal slot),
    (s.maskOk pb o.mask, illegal slot),
    (o.inPool lp slot, illegal slot),
    (decide (domain = 2) || decide (o.domain = domain), illegal slot),
    (decide (o.kind ≠ 1) || before.all (fun b => decide (b.kind ≠ 1) ||
      (decide (b.compat = o.compat) && decide (b.lfirst = o.lfirst))), illegal slot),
    (!o.compat || o.spent || decide (o.level + 1 ≤ o.limbs), illegal slot)]

/-- A pebble array descriptor (Table 3.5). -/
structure Peb where
  kind : Nat
  spent : Bool
  msgBits : Nat
  pad : Bool
  prime : Nat
  dim : Nat
  count : Nat
  stride : Nat
  ledge : Nat
  space : Nat
  tag : Nat
  base : Nat
  cause : Nat
  deriving DecidableEq, Repr

/-- The fields of a pebble array descriptor. -/
def Peb.ofDesc (d : List Nat) : Peb where
  kind := kindOf d
  spent := decide (dw d 0 58 58 = 1)
  msgBits := dw d 0 55 52
  pad := decide (dw d 0 51 51 = 1)
  prime := dw d 0 38 32
  dim := dw d 0 28 16
  count := dw d 0 15 0
  stride := dw d 1 63 32
  ledge := dw d 1 9 8
  space := dw d 1 3 2
  tag := d.getD 2 0
  base := d.getD 3 0
  cause := dw d 4 63 60

/-- The eight doublewords of a pebble result. -/
def Peb.toDesc (p : Peb) : List Nat :=
  [p.kind * 2 ^ 60 + b2n p.spent * 2 ^ 58 + p.msgBits * 2 ^ 52 + b2n p.pad * 2 ^ 51 + p.prime * 2 ^ 32 +
      p.dim * 2 ^ 16 + p.count,
    p.stride * 2 ^ 32 + p.ledge * 2 ^ 8 + p.space * 2 ^ 2, p.tag, p.base, p.cause * 2 ^ 60, 0, 0, 0]

/-- Bytes of a pebble record (R78). -/
def pebRecord (dim : Nat) : Nat := 32 * cdiv (dim + 1) 8

/-- Bytes from BASE to the end of the last record. -/
def Peb.span (p : Peb) : Nat := if p.count = 0 then 0 else (p.count - 1) * p.stride + pebRecord p.dim

/-- The issue checks of R80, after the kind. A macro works on the issuing bench's Pool. -/
def pebCheck (s : State) (slot : Nat) (p : Peb) : Except Reject Unit :=
  mustAll [
    (decide (p.kind = 3) && decide (p.space = 0), illegal slot),
    ((s.primeEnt p.prime).valid, illegal slot),
    (decide (256 ≤ p.dim) && decide (p.dim ≤ 4096) && decide (p.dim % 64 = 0) && decide (1 ≤ p.msgBits) &&
      decide (p.msgBits ≤ 8) && decide (1 ≤ p.count), illegal slot),
    (decide (pebRecord p.dim ≤ p.stride) && decide (p.stride % 32 = 0), illegal slot),
    (decide (p.base % 32 = 0), illegal slot),
    (decide (p.base + p.span ≤ poolBytes), illegal slot)]

/-- The tracker interval of a pebble array. -/
def Peb.intervals (p : Peb) : List (Nat × Nat) :=
  if p.span = 0 then [] else [(p.base / 32, (p.base + p.span - 1) / 32)]

/-- The element words of n bytes from an address, by word number. -/
def wordsFrom (addr n : Nat) : List Nat := (List.range (cdiv n 32)).map (· + addr / 32)

/-- An element of the Pool or of the slots with its mark: it is unpredictable where its word is in the list of words that
were read as uncorrectable or decodes so (R85). -/
def readEl (m : EMem) (badWords : List Nat) (k addr : Nat) : El :=
  ⟨m.mem.readLE addr k, m.bad.contains (addr / 32) || badWords.contains (addr / 32)⟩

/-- n elements of k bytes from an address. -/
def readEls (m : EMem) (badWords : List Nat) (k addr n : Nat) : List El :=
  (List.range n).map (fun i => readEl m badWords k (addr + k * i))

/-- The elements of a word that a descriptor names: zeros for a suppressed read (R86). -/
def readWordEls (m : EMem) (badWords : List Nat) (k : Nat) : Option Nat → List El
  | none => List.replicate (32 / k) ⟨0, false⟩
  | some a => readEls m badWords k a (32 / k)

/-- The elements of a run of words. -/
def readRun (m : EMem) (badWords : List Nat) (k : Nat) (ws : List (Option Nat)) : List El :=
  ws.flatMap (readWordEls m badWords k)

/-- An operation on one value. -/
def El.map (f : Nat → Nat) (a : El) : El := ⟨f a.v, a.bad⟩
/-- An operation on two values. -/
def El.map2 (f : Nat → Nat → Nat) (a b : El) : El := ⟨f a.v b.v, a.bad || b.bad⟩
/-- An operation on three values. -/
def El.map3 (f : Nat → Nat → Nat → Nat) (a b c : El) : El := ⟨f a.v b.v c.v, a.bad || b.bad || c.bad⟩
/-- A value that nothing determines. -/
def El.free : El := ⟨0, true⟩
/-- A known value. -/
def El.known (v : Nat) : El := ⟨v, false⟩
/-- A whole polynomial transformed: every coefficient derives from every one (R85). -/
def elsWhole (f : List Nat → List Nat) (l : List El) : List El :=
  (f (l.map El.v)).map (fun v => ⟨v, l.any El.bad⟩)

end Sys2Proof.Machine
end

