-- ==== Sys2Proof/Machine/BenchOps.lean ====
section
/-! DEFINITION. What happens to a bench as a whole: its streams, tokens and halts (R112-R116 of spec/04_bench_engines.md,
R134-R146 of spec/05_command_model.md), and the Foreman's stops (R200 of spec/07_foreman.md). -/

namespace Sys2Proof.Machine

/-- A stream of a bench. -/
def Bench.stream (b : Bench) (i : Nat) : Stream := Sparse.get (fun _ => Stream.reset) b.streams i

/-- A stream stored. -/
def Bench.setStream (b : Bench) (i : Nat) (x : Stream) : Bench :=
  { b with streams := Sparse.set (fun _ => Stream.reset) b.streams i x }

/-- A stream changed. -/
def Bench.onStream (b : Bench) (i : Nat) (f : Stream → Stream) : Bench := b.setStream i (f (b.stream i))

/-- The token count of a destination and tag, by token number (R143). -/
def Bench.token (b : Bench) (tok : Nat) : Nat := Sparse.get (fun _ => 0) b.tokens tok

/-- A token count stored. -/
def Bench.setToken (b : Bench) (tok n : Nat) : Bench := { b with tokens := Sparse.set (fun _ => 0) b.tokens tok n }

/-- The bench is in FILL or WORK. -/
def Bench.active (b : Bench) : Bool := decide (b.mode = .fill) || decide (b.mode = .work)

/-- The Foreman stopped with a cause; a stalled instruction is abandoned (R200). -/
def Foreman.stop (f : Foreman) (cause : Nat) : Foreman :=
  if f.st = .stopped then f else { f with st := .stopped, stopCause := cause, weirReply := none, weirId := f.weirId + 1 }

/-- The number of ISSUE_MODE. -/
def State.lockstep (s : State) (pb : Nat) : Bool := s.flag (Fld.BENCH_CTL_ISSUE_MODE pb)

/-- The stream that holds Sluice commands (R185). -/
def State.sluiceStream (s : State) (pb : Nat) : Nat := if s.lockstep pb then 0 else 5

/-- A bench in FILL or WORK halts with a cause; a phase switch in progress ends, since HALTED leaves only by Rinse or reset
(R113, Table 4.6). A bench that is HALTED already keeps its cause. -/
def Bench.halt (b : Bench) (cause : Nat) : Bench :=
  if b.active then
    { b with
      mode := .halted
      haltCause := cause
      switching := false
      turnaround := false
      execs := b.execs.map (fun e => if e.todo.contains .phase then { e with todo := [] } else e)
      fm := b.fm.stop 2 }
  else b

/-- A progress bclk of a bench in FILL or WORK: the stall count starts again (R155). -/
def State.progress (s : State) (pb : Nat) : State :=
  if (s.bench pb).active then s.setReg (Reg.BENCH_STALL_COUNT pb) 0 else s

/-- A halting fault of a bench (R113). -/
def State.haltBench (s : State) (pb cause : Nat) : State := s.onBench pb (·.halt cause)

/-- The command header of the log (Table 19.5): opcode, stream, PC. -/
def cmdHeader (w : CmdWord) (stream pc : Nat) : Nat := opcodeOf w * 2 ^ 56 + stream * 2 ^ 53 + pc % 2 ^ 14 * 2 ^ 32

/-- TOKEN_ERROR: logged, and the bench halts with cause 0x05 (R145). -/
def State.tokenError (s : State) (pb : Nat) (w : CmdWord) (stream pc tok chute kind : Nat) : State :=
  (s.logBench pb 0x0A (cmdHeader w stream pc + tok * 2 ^ 8 + chute) (kind * 2 ^ 60)).haltBench pb 5

/-- A token emitted to a count; a count at 255 stays and raises TOKEN_ERROR (R143, R145). -/
def State.postToken (s : State) (pb : Nat) (w : CmdWord) (stream pc tok : Nat) : State :=
  let n := (s.bench pb).token tok
  if n = 255 then s.tokenError pb w stream pc tok 0 1 else s.onBench pb (·.setToken tok (n + 1))

/-- Every engine and the Sluice are idle and no command is in execution. -/
def Bench.quiet (b : Bench) : Bool := b.execs.isEmpty && b.sluice.isEmpty

/-- The streams that a program runs: six in decoupled mode, stream 0 in lockstep (R134, R135). -/
def State.streamsOf (s : State) (pb : Nat) : List Nat := if s.lockstep pb then [0] else [0, 1, 2, 3, 4, 5]

/-- PROGRAM_COMPLETE: in FILL or WORK, with every stream ended and every engine idle, the bench enters IDLE and the Foreman
stops (Table 4.6, R200). -/
def State.checkComplete (s : State) (pb : Nat) : State :=
  let b := s.bench pb
  if b.active ∧ b.quiet ∧ (s.streamsOf pb).all (fun i => (b.stream i).ended) then
    s.setBench pb { b with mode := .idle, switching := false, turnaround := false, fm := b.fm.stop 1 }
  else s

/-- A command in execution by number. -/
def Bench.exec (b : Bench) (id : Nat) : Option Exec := b.execs.find? (fun e => decide (e.id = id))

/-- A command in execution changed. -/
def Bench.onExec (b : Bench) (id : Nat) (f : Exec → Exec) : Bench :=
  { b with execs := b.execs.map (fun e => if e.id = id then f e else e) }

/-- The engine sets: TE, VE, AE, Riffle, Sluice, control (Tables 5.3 and 6.8). -/
def engTE : Nat := 1
def engVE : Nat := 2
def engAE : Nat := 4
def engRF : Nat := 8
def engSL : Nat := 16
def engCT : Nat := 32

/-- Whether two engine sets meet. -/
def engMeet (a b : Nat) : Bool := decide (a &&& b ≠ 0)

/-- Whether a command is a macro (R152). -/
def isMacro (w : CmdWord) : Bool := decide (classOf w = 7)

/-- Whether a command in execution has fed its last input, so that its engine accepts the next one (Table 5.10): a VE
command that holds all its tiles and key data, an AE command with at most its last tile outside the chute, a TE command
whose exchanges are over. -/
def Exec.fed (e : Exec) : Bool :=
  match e.todo with
  | [] => true
  | [.drain n t] => decide (t ≤ n + 1)
  | _ => false

/-- Whether an engine set accepts a command that is no macro: no macro holds one of its engines, and the last command on it
has fed its last input (Table 5.7, stage 7). The control unit takes one command at a time. -/
def Bench.accepts (b : Bench) (engines : Nat) : Bool :=
  b.execs.all (fun e => !engMeet e.engines engines || (!isMacro e.word && e.fed && decide (e.engines ≠ engCT)))

/-- Whether a macro may start: no engine of its set has a command in execution, and no macro runs (R153). -/
def Bench.acceptsMacro (b : Bench) (engines : Nat) : Bool :=
  b.execs.all (fun e => !engMeet e.engines engines && !isMacro e.word)

/-- Whether two closed intervals overlap. -/
def overlaps (a b : Nat × Nat) : Bool := decide (a.1 ≤ b.2) && decide (b.1 ≤ a.2)

/-- Whether any interval of one list overlaps any of the other. -/
def anyOverlap (a b : List (Nat × Nat)) : Bool := a.any (fun x => b.any (overlaps x))

/-- The earliest command in execution that conflicts with a command's intervals (R149). -/
def Bench.conflict (b : Bench) (reads writes : List (Nat × Nat)) : Option Exec :=
  b.execs.find? (fun e => anyOverlap reads e.writes || anyOverlap writes e.writes || anyOverlap writes e.reads)

/-- Whether some bench executes a command whose operands name a chain (R36). -/
def State.chainInUse (s : State) (c : Nat) : Bool := s.benches.any (fun p => p.2.execs.any (fun e => e.chains.contains c))

/-- Whether a prime slot is in use: named by a valid chain's used positions, or by a command in execution (R33). -/
def State.primeInUse (s : State) (slot : Nat) : Bool :=
  s.primes.chain.any (fun c => c.2.valid &&
    ((c.2.idx.take c.2.ord).contains slot || ((c.2.idx.drop 64).take c.2.spc).contains slot)) ||
  s.benches.any (fun p => p.2.execs.any (fun e => e.primes.contains slot))

/-- Whether a key entry is in use (R223). -/
def State.keyInUse (s : State) (k : Nat) : Bool := s.benches.any (fun p => p.2.execs.any (fun e => decide (e.key = some k)))

/-- The free value that stands for an unpredictable element: its number starts from the state's. -/
def freeNat (fresh i k : Nat) : Nat := (Config.freeWord (fresh + i)).toNat % 2 ^ (8 * k)

/-- The numbers that elements come to: free values for unpredictable ones. -/
def settleEls (fresh k : Nat) (l : List El) : List Nat :=
  l.zipIdx.map (fun p => if p.1.bad then freeNat fresh p.2 k else p.1.v)

/-- A run of elements to write: into the Pool or the tile slots, from an address. -/
structure WRun where
  slots : Bool
  addr : Nat
  k : Nat
  els : List El
  deriving DecidableEq, Repr

/-- A run written into a bench with free values for unpredictable elements. -/
def Bench.writeRun (b : Bench) (fresh : Nat) (r : WRun) : Bench :=
  let vals := settleEls fresh r.k r.els
  if r.slots then { b with slots := b.slots.writeElems r.addr r.k vals }
  else { b with pool := b.pool.writeElems r.addr r.k vals }

/-- Runs written in order; a later run overwrites an earlier one (R277). -/
def State.writeRuns (s : State) (pb : Nat) : List WRun → State
  | [] => s
  | r :: rs =>
    State.writeRuns { s.onBench pb (·.writeRun s.fresh r) with fresh := s.fresh + r.els.length } pb rs

/-- What a command does when it completes: the runs it writes, the tiles it counts in BENCH_FLOAT_EVENTS (NaN, infinity,
flushed), and an index offset that suppressed an access, with its slot, KIND and value. -/
structure Effect where
  runs : List WRun
  nan : Nat
  inf : Nat
  flush : Nat
  align : Option (Nat × Nat × Nat)
  deriving DecidableEq, Repr

/-- No effect. -/
def Effect.none : Effect := ⟨[], 0, 0, 0, Option.none⟩

/-- Writes alone. -/
def Effect.ofRuns (rs : List WRun) : Effect := ⟨rs, 0, 0, 0, Option.none⟩

/-- The runs of a SPENT result: zeros over every word that would have been written (R70). -/
def Effect.zeroed (e : Effect) : Effect :=
  { Effect.none with runs := e.runs.map (fun r => { r with els := r.els.map (fun _ => El.known 0) }), align := e.align }

/-- The runs of a result that is unpredictable throughout. -/
def Effect.freed (e : Effect) : Effect :=
  { Effect.none with runs := e.runs.map (fun r => { r with els := r.els.map (fun _ => El.free) }), align := e.align }

/-- What the issue stages know of a command: the state, the bench, the stream, the command, its captured entries, the gang
and the bench's position in it. -/
structure Ctx where
  s : State
  pb : Nat
  st : Nat
  q : QCmd
  d0 : List Nat
  d1 : List Nat
  d2 : List Nat
  lp : List Nat
  gang : Nat
  pos : Nat
  deriving DecidableEq, Repr

/-- The command word. -/
def Ctx.w (c : Ctx) : CmdWord := c.q.word

/-- The context of a command at the head of a stream. -/
def State.ctx (s : State) (pb st : Nat) (q : QCmd) : Ctx :=
  let b := s.bench pb
  let m := (s.logicalOf pb).getD 0
  ⟨s, pb, st, q, b.desc (opIdx q.word 0), b.desc (opIdx q.word 1), b.desc (opIdx q.word 2), b.loopEnt (loopIdx q.word),
    m / 4, m % 4⟩

/-- A command in execution with nothing but what it captured. -/
def Ctx.exec (c : Ctx) (engines : Nat) : Exec where
  id := (c.s.bench c.pb).nextId
  stream := c.st
  word := c.w
  pc := c.q.pc
  engines := engines
  reads := []
  writes := []
  descs := [c.d0, c.d1, c.d2]
  loop := c.lp
  results := []
  sbDesc := []
  sbLoop := []
  chains := []
  primes := []
  key := none
  todo := []
  halt := none
  busy := 1
  spent := none
  inherited := false
  tiles := []
  keys := []
  gathered := []
  badWords := []
  broken := false

/-- A plan: the command in execution as it starts, and what issuing it does beyond that. -/
structure Plan where
  ex : Exec
  start : State → State

/-- A plan without further action. -/
def Plan.of (e : Exec) : Plan := ⟨e, id⟩

/-- The k-th captured descriptor. -/
def Exec.d (e : Exec) (k : Nat) : List Nat := e.descs.getD k nullDesc

/-- The position of a physical bench in its gang. -/
def State.posOf (s : State) (pb : Nat) : Nat := (s.logicalOf pb).getD 0 % 4

/-- The gang of a physical bench, 0 for a bench of no gang. -/
def State.gangIdx (s : State) (pb : Nat) : Nat := (s.logicalOf pb).getD 0 / 4

/-- Intervals around the words of a list, suppressed ones left out. -/
def wordsOf (l : List (Option Nat)) : List Nat := l.filterMap (Option.map (· / 32))

end Sys2Proof.Machine
end

