-- ==== Sys2Proof/Machine/Timing.lean ====
section
/-! DEFINITION. Busy times: the symbols of Table 6.2 and the cycle formulas of spec/06_command_reference.md (R160-R186),
spec/08_key_switching.md (R236-R239) and spec/09_refresh_and_switching.md (R250, R258, R260, R262), in bclk. -/

namespace Sys2Proof.Machine

/-- The crossbar transit in bclk (Table 6.2). -/
def State.tau (s : State) : Nat := [5, 4, 3, 3].getD (s.rd Fld.CLKPWR_CLK_STEP) 5

/-- C of Table 6.2. -/
def tC (logN : Nat) : Nat := cdiv (2 ^ logN * logN) 4096
/-- X of Table 6.2. -/
def tX (logN : Nat) : Nat := cdiv (3 * 2 ^ logN) 4096
/-- q of Table 6.2. -/
def tQ (logN : Nat) : Nat := cdiv (2 ^ logN) 16384
/-- S of Table 8.1. -/
def tS (logN : Nat) : Nat := max (2 * tC logN) (16 * tQ logN)

/-- A sum. -/
def sumN (l : List Nat) : Nat := l.foldl (· + ·) 0

/-- The largest of a list. -/
def maxN (l : List Nat) : Nat := l.foldl max 0

/-- m of the window that consecutive words from a byte address form. -/
def runM (addr n : Nat) : Nat := windowM (wordsFrom addr n)

/-- m of each tile of a quarter of n bytes from an address. -/
def quarterMs (addr n : Nat) : List Nat :=
  (List.range (cdiv n 16384)).map (fun t => runM (addr + 16384 * t) (min 16384 (n - 16384 * t)))

/-- T of R168 in gang mode: the load and store windows of each polynomial by their m, two polynomials a pair. -/
def teGangTime (tau logN : Nat) (loads stores : List (List Nat)) : Nat :=
  if loads.isEmpty then 1
  else
    let pair := fun (x : List (List Nat) × List (List Nat)) =>
      max (2 * tC logN) (max (sumN (x.1.map (fun ms => 8 * sumN ms))) (sumN (x.2.map (fun ms => 8 * sumN ms))))
    24 + (8 * (loads.getD 0 []).getD 0 1 + 3) +
      sumN (((chunksOf 2 loads).zip (chunksOf 2 stores)).map pair) + 2 * (2 * tX logN + tau) +
      8 * ((stores.getLastD []).getLastD 1)

/-- T of R168 in local mode. -/
def teLocalTime (logN : Nat) (loads stores : List (List Nat)) : Nat :=
  if loads.isEmpty then 1
  else
    let pair := fun (x : List (List Nat) × List (List Nat)) =>
      max (2 * cdiv (2 ^ logN * logN) 1024)
        (max (sumN (x.1.map (fun ms => 8 * sumN ms))) (sumN (x.2.map (fun ms => 8 * sumN ms))))
    24 + (8 * (loads.getD 0 []).getD 0 1 + 3) +
      sumN (((chunksOf 2 loads).zip (chunksOf 2 stores)).map pair) + 8 * ((stores.getLastD []).getLastD 1)

/-- The windows of one polynomial in local mode: its tiles, and for N above 2^12 the column pass as well, whose tiles gather
equal places of every row of 4,096 (R48). -/
def localMs (words : List (Option Nat)) : List Nat :=
  let ws := wordsOf words
  let rows := chunksOf 512 ws
  let rowMs := rows.map windowM
  if ws.length ≤ 512 then rowMs
  else
    let n1 := rows.length
    let per := 512 / n1
    rowMs ++ (List.range n1).map (fun t => windowM (rows.flatMap (fun r => (r.drop (per * t)).take per)))

/-- T of R175 over the output tiles: m of the source windows and of the destination windows of each, E times o, and the
pipeline depth. -/
def veTime (d eo : Nat) (tiles : List (List Nat × List Nat)) : Nat :=
  let alpha := match tiles with
    | [] => 0
    | (src, _) :: _ => if src.isEmpty then 0 else 4 * sumN src + 3
  alpha + d + sumN (tiles.map (fun x => max (4 * sumN x.1) (max eo (8 * sumN x.2))))

/-- T of R175 with ACC = 1: for each output tile the source windows of its steps, whether INIT reads a Pool destination, and
the destination windows. -/
def veAccTime (d e : Nat) (tiles : List (List (List Nat) × Option Nat × List Nat)) : Nat :=
  let alpha := match tiles with
    | [] => 0
    | (steps, _, _) :: _ => match steps with
      | [] => 0
      | s :: _ => if s.isEmpty then 0 else 4 * sumN s + 3
  alpha + d + sumN (tiles.map (fun x =>
    max (sumN (x.1.map (fun s => max (4 * sumN s) e)) + 4 * x.2.1.getD 0) (max (8 * sumN x.2.2) e)))

/-- T of R182. -/
def riffleTime (idx : Nat) (windows : List (Nat × Nat)) : Nat :=
  64 * idx + sumN (windows.map (fun w => 8 * w.1 * w.2)) + 21

/-- The first term of R186 for b bytes, m, and a round trip. -/
def sluiceTime (m b rt : Nat) : Nat := max (4 * m * cdiv b 16384) (cdiv b 262144 * rt) + rt

/-- The symbols of Table 8.1 for one bench. -/
structure KShape where
  logN : Nat
  gangs : Nat
  lo : Nat
  ls : Nat
  alpha : Nat
  limbs : Nat
  spc : Nat
  tau : Nat
  deriving DecidableEq, Repr

/-- D. -/
def KShape.digits (k : KShape) : Nat := if k.alpha = 0 then 0 else cdiv k.limbs k.alpha
/-- a_d. -/
def KShape.ad (k : KShape) (d : Nat) : Nat :=
  if d + 1 = k.digits then k.limbs - (k.digits - 1) * k.alpha else k.alpha
/-- t_d. -/
def KShape.td (k : KShape) (d : Nat) : Nat := k.limbs + k.spc - k.ad d
/-- c. -/
def KShape.c (k : KShape) : Nat := 2 ^ k.logN / (4 * k.gangs)
/-- n2. -/
def KShape.n2 (k : KShape) : Nat := k.lo * (k.digits - 1) + k.ls * k.digits

/-- T0 of R236. -/
def KShape.t0 (k : KShape) : Nat :=
  if k.lo = 0 then 1 else 35 + cdiv k.lo 2 * tS k.logN + 2 * (2 * tX k.logN + k.tau) + 8

/-- T1 of R236. -/
def KShape.t1 (k : KShape) : Nat :=
  64 + cdiv (k.c * sumN ((List.range k.digits).map (fun d => cdiv (k.td d) 16))) 16

/-- T2 of R236. -/
def KShape.t2 (k : KShape) : Nat :=
  if k.lo + k.ls = 0 then 1
  else 35 + (cdiv k.n2 2 + k.ls) * tS k.logN + 4 * (2 * tX k.logN + k.tau) + 8 + tQ k.logN * (8 * k.digits + 16)

/-- T3 of R236. -/
def KShape.t3 (k : KShape) : Nat :=
  if k.lo = 0 then 1
  else
    let a := 2 ^ k.logN / 64 * cdiv k.lo 16
    64 + a + max a (k.lo * tS k.logN) + 2 * (2 * tX k.logN + k.tau) + 8 + 8 * tQ k.logN

/-- The stage-2 busy time of ROT (R237). -/
def KShape.t2rot (k : KShape) : Nat :=
  if k.lo + k.ls = 0 then 1
  else k.t2 + (k.digits * (k.lo + k.ls) + k.lo) * (8 * tQ k.logN + tX k.logN) + k.tau + 21

/-- RESCALE (R239). -/
def rescaleTime (tau logN lo domain : Nat) : Nat :=
  if lo = 0 then 1
  else if domain = 1 then 35 + lo * tS logN + 2 * (2 * tX logN + tau) + 8 + 10 + 8 * tQ logN
  else 21 + 16 * lo * tQ logN

/-- PBS (R258) for a count of pebbles, a dimension, a ring of 2^12, and the two gadget lengths. -/
def pbsTime (count n l lks : Nat) : Nat := 96 + count * (n * (2 * l + 2) * 48 + cdiv (4096 * lks * (n + 1)) 1024)

/-- EXTRACT stage 0 (R260). -/
def extract0Time (tau logN : Nat) : Nat :=
  200 + (2 + 1 + 2) * tS logN + 6 * (2 * tX logN + tau) + 2 ^ logN / 32 + 8 * tQ logN

/-- EXTRACT stage 1 (R260). -/
def extract1Time (count n : Nat) : Nat := 43 + count * (12 * cdiv (n + 1) 1024 + 8)

/-- PACK stage 0 (R262). -/
def pack0Time (count n : Nat) : Nat := 43 + 12 * cdiv count 64 * cdiv (n + 1) 64

/-- PACK stage 1 (R262). -/
def pack1Time (tau logN n : Nat) : Nat :=
  99 + (cdiv (3 * n) 2 + 3) * tS logN + 4 * (2 * tX logN + tau) + 2 ^ logN / 64 + 8 * tQ logN

end Sys2Proof.Machine
end

