-- ==== Sys2Proof/Machine/Te.lean ====
section
/-! DEFINITION. The Transform engine: NTT and INTT in gang mode and local mode, their checks, busy time, exchanges and
results (R42-R48 of spec/02_residues.md, R93-R95 of spec/04_bench_engines.md, R166-R168 of
spec/06_command_reference.md). -/

namespace Sys2Proof.Machine

/-- The fields of a result that depend on whether it is SPENT (R70, R75): the counts come from the TIMED fields, LEVEL is 0
without COMPAT and in a SPENT result. -/
def Obj.finish (o : Obj) (spent : Option Nat) : Obj :=
  match spent with
  | none => { o with
      spent := false, cause := 0, limbs := o.tlimbs, lcount := o.tcount, spc := o.tspc
      level := if o.compat then o.level else 0 }
  | some c => { o with spent := true, cause := c, limbs := 0, lcount := 0, spc := 0, level := 0 }

/-- A result descriptor as it is written: as planned, or SPENT with a cause. -/
def finishDesc (d : List Nat) (spent : Option Nat) : List Nat :=
  if kindOf d = 3 then
    let p := Peb.ofDesc d
    match spent with
    | none => { p with spent := false, cause := 0 }.toDesc
    | some c => { p with spent := true, cause := c }.toDesc
  else ((Obj.ofDesc d).finish spent).toDesc

/-- The inherited cause of a list of operands: that of the first SPENT one (R70). -/
def spentOf (l : List Obj) : Option Nat := (l.find? (·.spent)).map (·.cause)

/-- The number of polynomials of a command on an object in a gang, over every iteration. -/
def Obj.polyCount (o : Obj) (g : Nat) (lp : List Nat) : Nat := (o.limbsIn g).length * o.polys * loopTrips lp

/-- The polynomials that a command processes on an object in a gang: iteration offset, chain position, slot and polynomial. -/
def Obj.polyList (o : Obj) (g : Nat) (lp : List Nat) (slot : Nat) : List (Int × Nat × Nat × Nat) :=
  (loopOffs lp slot).flatMap (fun off =>
    (o.limbsIn g).flatMap (fun x => (List.range o.polys).map (fun b => (off, x.1, x.2, b))))

/-- The Pool address of a polynomial quarter in an iteration. -/
def Obj.quarterAddr (o : Obj) (x : Int × Nat × Nat × Nat) : Nat := ((o.polyAddr x.2.2.1 x.2.2.2 : Int) + x.1).toNat

/-- The quarter of N/4 residues at an address, each below p (R39). -/
def readQuarter (b : Bench) (badWords : List Nat) (p addr logN : Nat) : List El :=
  (readEls b.pool badWords 4 addr (2 ^ logN / 4)).map (El.map (residue p))

/-- A polynomial transformed: forward or inverse, then the fused integer factor (R43, R44, R166). -/
def transform (inverse : Bool) (p root logN factor : Nat) (a : List Nat) : List Nat :=
  (if inverse then nttInverse p root logN a else nttForward p root logN a).map (fun v => v * (factor % p) % p)

/-- The fused factor: IMM[31:0] with CFLAGS[0] = 1, else 1 (R166). -/
def teFactor (w : CmdWord) : Nat := if bit (cflagsOf w) 0 then imm w 31 0 else 1

/-- The result descriptor of a transform in gang mode (R166). -/
def teResult (o0 o2 : Obj) : Obj := { o0 with domain := 1 - o0.domain, base := o2.base }

/-- The checks on the words of a transform (R166, R529). -/
def teWordChecks (w : CmdWord) : List (Bool × Reject) :=
  let loc := bit (subopOf w) 0
  [(decide (subopOf w / 2 = 0), illegal 3),
   (decide (cflagsOf w / 2 = 0), illegal 3),
   (!loc || (decide (10 ≤ imm w 44 40) && decide (imm w 44 40 ≤ 17)), illegal 3),
   (if loc then decide (imm w 47 45 = 0) && decide (imm w 39 39 = 0) else decide (imm w 47 32 = 0), illegal 3),
   (bit (cflagsOf w) 0 || decide (imm w 31 0 = 0), illegal 3)]

/-- The polynomials of a local-mode operand: runs of N/8 words over all iterations. -/
def localPolys (b : Bench) (d lp : List Nat) (slot logN : Nat) : List (List (Option Nat)) :=
  chunksOf (2 ^ logN / 8) (adAll b.pool d lp slot)

/-- A transform at stage 5 in gang mode. -/
def planTeGang (c : Ctx) (inverse : Bool) : Except Reject Plan := do
  let o0 := Obj.ofDesc c.d0
  let r := teResult o0 (Obj.ofDesc c.d2)
  objCheck c.s c.pb [1, 2] (if inverse then 1 else 0) [] c.lp 0 o0
  must (r.inPool c.lp 2) (illegal 2)
  let b := c.s.bench c.pb
  let src := o0.polyList c.gang c.lp 0
  let dst := r.polyList c.gang c.lp 2
  let e := c.exec engTE
  let posts := !src.isEmpty
  let post : XPost := ⟨b.xSeq, [opcodeOf c.w, o0.logN, src.length], src.map (fun x =>
    readQuarter b [] (c.s.chainPrime o0.chain x.2.1) (o0.quarterAddr x) o0.logN), []⟩
  .ok ⟨{ e with
      reads := o0.intervals c.gang c.lp 0
      writes := r.intervals c.gang c.lp 2
      results := [(opIdx c.w 2, r.toDesc)]
      sbDesc := [opIdx c.w 2]
      chains := [o0.chain]
      todo := if posts then [.exchange b.xSeq] else []
      busy := teGangTime c.s.tau o0.logN (src.map (fun x => quarterMs (o0.quarterAddr x) o0.n))
        (dst.map (fun x => quarterMs (r.quarterAddr x) r.n))
      spent := spentOf [o0]
      inherited := o0.spent },
    fun s => if posts then s.onBench c.pb (fun b => { b with xSeq := b.xSeq + 1, xPosts := b.xPosts ++ [post] }) else s⟩

/-- A transform at stage 5 in local mode. -/
def planTeLocal (c : Ctx) : Except Reject Plan := do
  adCheck c.s [0] c.d0 c.lp 0
  adCheck c.s [0] c.d2 c.lp 2
  let logN := imm c.w 44 40
  must (decide (adPerIter c.d0 % (2 ^ logN / 8) = 0)) (illegal 0)
  must (decide (adPerIter c.d2 = adPerIter c.d0)) (illegal 2)
  must (c.s.primeEnt (imm c.w 38 32)).valid (illegal 3)
  let b := c.s.bench c.pb
  let src := localPolys b c.d0 c.lp 0 logN
  let dst := localPolys b c.d2 c.lp 2 logN
  let e := c.exec engTE
  .ok (Plan.of { e with
      reads := adIntervals c.d0 c.lp 0 ++ adIdxInterval c.d0 ++ adIdxInterval c.d2
      writes := adIntervals c.d2 c.lp 2
      primes := [imm c.w 38 32]
      busy := teLocalTime logN (src.map localMs) (dst.map localMs) + adIdxTime 1 c.d0 c.lp + adIdxTime 1 c.d2 c.lp })

/-- NTT and INTT at stage 5. -/
def planTe (inverse : Bool) (c : Ctx) : Except Reject Plan := do
  mustAll (teWordChecks c.w)
  if bit (subopOf c.w) 0 then planTeLocal c else planTeGang c inverse

/-- The runs that words take, word by word; a suppressed word is not written (R86). -/
def runsAt (ws : List (Option Nat)) (k : Nat) (els : List El) : List WRun :=
  (ws.zip (chunksOf (32 / k) els)).filterMap (fun x => x.1.map (fun a => ⟨false, a, k, x.2⟩))

/-- The whole polynomial that four posted quarters form. -/
def gatherPoly (posts : List XPost) (i : Nat) : List El := posts.flatMap (fun p => p.data.getD i [])

/-- What a gang-mode transform writes: the bench's quarter of each transformed polynomial. -/
def effectTeGang (s : State) (pb : Nat) (inverse : Bool) (e : Exec) : Effect :=
  let o0 := Obj.ofDesc (e.d 0)
  let r := teResult o0 (Obj.ofDesc (e.d 2))
  let g := s.gangIdx pb
  let quarter := o0.n / 4
  let posts := e.gathered.getD 0 []
  Effect.ofRuns (((o0.polyList g e.loop 0).zip (r.polyList g e.loop 2)).zipIdx.map (fun x =>
    let pos := x.1.1.2.1
    let pe := s.primeEnt (s.chainSlot o0.chain pos)
    let whole := elsWhole (transform inverse pe.p pe.root o0.logN (teFactor e.word)) (gatherPoly posts x.2)
    let a := o0.quarterAddr x.1.1
    let hit := e.badWords.any (fun w => decide (a / 32 ≤ w) && decide (w < (a + o0.n) / 32)) || e.broken
    ⟨false, r.quarterAddr x.1.2, 4,
      ((whole.drop (quarter * s.posOf pb)).take quarter).map (fun v => ⟨v.v, v.bad || hit⟩)⟩))

/-- What a local-mode transform writes for one polynomial. -/
def effectTePoly (inverse : Bool) (e : Exec) (src dst : List (Option Nat)) (s : State) (pb : Nat) : Effect :=
  let pe := s.primeEnt (imm e.word 38 32)
  let els := (readRun (s.bench pb).pool e.badWords 4 src).map (El.map (residue pe.p))
  let out := elsWhole (transform inverse pe.p pe.root (imm e.word 44 40) (teFactor e.word)) els
  Effect.ofRuns (runsAt dst 4 out)

/-- The first suppressed access of an address-descriptor operand, with its slot (R86, R128). -/
def alignOf (b : Bench) (e : Exec) (slots : List Nat) : Effect :=
  { Effect.none with align := slots.findSome? (fun o => (adFault b.pool (e.d o) e.loop).map (fun f => (o, f))) }

/-- What NTT or INTT does when it completes, step by step: all polynomials at once in gang mode, one by one in local mode. -/
def stepsTe (inverse : Bool) (s : State) (pb : Nat) (e : Exec) : List (State → Effect) :=
  if bit (subopOf e.word) 0 then
    let b := s.bench pb
    let logN := imm e.word 44 40
    (fun _ => alignOf b e [0, 2]) ::
      ((localPolys b (e.d 0) e.loop 0 logN).zip (localPolys b (e.d 2) e.loop 2 logN)).map
        (fun x => fun s => effectTePoly inverse e x.1 x.2 s pb)
  else [fun s => effectTeGang s pb inverse e]

/-- Tile stages that ran without a partner (R94): the stages of a lone last polynomial. -/
def loneStages (s : State) (pb : Nat) (e : Exec) : Nat :=
  if bit (subopOf e.word) 0 then
    let logN := imm e.word 44 40
    if (localPolys (s.bench pb) (e.d 0) e.loop 0 logN).length % 2 = 1 then cdiv (2 ^ logN) 4096 * logN else 0
  else
    let o0 := Obj.ofDesc (e.d 0)
    if o0.polyCount (s.gangIdx pb) e.loop % 2 = 1 then tQ o0.logN * o0.logN else 0

end Sys2Proof.Machine
end

