-- ==== Sys2Proof/Machine/Ve.lean ====
section
/-! DEFINITION. The Vector engine: the operand forms of Table 6.5, the ring commands of Table 6.6 on objects and in raw mode,
the float commands, FCONV and RCONV: checks, busy times, results (R96-R100 of spec/04_bench_engines.md, R169-R176 of
spec/06_command_reference.md, R50 and R51 of spec/02_residues.md, R264-R276 of spec/10_float_tensors.md). -/

namespace Sys2Proof.Machine

/-- SRC0: 0 descriptor, 1 chute head, 2 key operand buffer, 3 tile slot (Table 6.5). -/
def src0 (w : CmdWord) : Nat := subop w 5 4
/-- SRC1. -/
def src1 (w : CmdWord) : Nat := subop w 7 6
/-- DST: the result goes to a tile slot. -/
def dstSlot (w : CmdWord) : Bool := bit (subopOf w) 3
/-- Whether a command is of the VE float class. -/
def isFloat (w : CmdWord) : Bool := decide (classOf w = 3)
/-- RAW, of the ring class. -/
def isRaw (w : CmdWord) : Bool := bit (subopOf w) 2
/-- FMT's input format. -/
def fmtIn (w : CmdWord) : FFmt := if subop w 2 1 = 1 ∨ subop w 2 1 = 2 then .bf16 else .fp32
/-- FMT's output format. -/
def fmtOut (w : CmdWord) : FFmt := if subop w 2 1 = 1 ∨ subop w 2 1 = 3 then .bf16 else .fp32
/-- ARG. -/
def argOf (w : CmdWord) : Nat := imm w 31 0
/-- PRIME. -/
def primeOf (w : CmdWord) : Nat := imm w 38 32
/-- ACC. -/
def accOf (w : CmdWord) : Bool := bit (cflagsOf w) 0
/-- INIT. -/
def initOf (w : CmdWord) : Bool := bit (cflagsOf w) 1

/-- Whether an opcode takes one source only (R169). -/
def veUnary (op : Nat) : Bool := [0x43, 0x46, 0x49, 0x4A, 0x68, 0x69].contains op

/-- Whether an opcode reads its destination as well: RMAC, FFMA, FSEL (Table 6.1). -/
def veReadsDst (op : Nat) : Bool := [0x45, 0x63, 0x65].contains op

/-- Whether a command reads the chute (R144). -/
def readsChute (w : CmdWord) : Bool :=
  (decide (classOf w = 2) || isFloat w) && !([0x6A, 0x6B].contains (opcodeOf w)) &&
    (decide (src0 w = 1) || (!veUnary (opcodeOf w) && decide (src1 w = 1)))

/-- The rules on the fields of a VE command word that hold in both classes (R169, R529). -/
def veCommonChecks (w : CmdWord) : List (Bool × Reject) :=
  let op := opcodeOf w
  let un := veUnary op
  [(!un || decide (src1 w = 0), illegal 3),
   (un || !(decide (src0 w = 1) && decide (src1 w = 1)), illegal 3),
   (un || !(decide (src0 w = 2) && decide (src1 w = 2)), illegal 3),
   (!accOf w || decide (op = 0x45) || decide (op = 0x63), illegal 3),
   (!initOf w || accOf w, illegal 3),
   (decide (cflagsOf w / 4 = 0), illegal 3)]

/-- Slot and half fields must be zero where no slot is named (R529). -/
def veSlotChecks (w : CmdWord) : List (Bool × Reject) :=
  [(decide (src0 w = 3) || decide (imm w 47 46 = 0), illegal 3),
   (decide (src1 w = 3) || decide (imm w 45 44 = 0), illegal 3),
   (dstSlot w || decide (imm w 43 42 = 0), illegal 3)]

/-- The word checks of a ring command (R169-R171, R529). -/
def ringWordChecks (w : CmdWord) : List (Bool × Reject) :=
  let op := opcodeOf w
  [(decide (subop w 1 0 = 0), illegal 3)] ++ veCommonChecks w ++
  [(isRaw w || decide (subopOf w / 8 = 0), illegal 3),
   (isRaw w || decide (primeOf w = 0), illegal 3),
   (decide (op ≠ 0x49) || !isRaw w, illegal 3),
   ((decide (op ≠ 0x47) && decide (op ≠ 0x48)) || isRaw w, illegal 3),
   (!accOf w || isRaw w, illegal 3)] ++
  (if op = 0x47 then
    [(decide (src0 w = 0) && decide (src1 w = 0) && !dstSlot w, illegal 3),
     (decide (imm w 40 39 = 0), illegal 3)]
  else veSlotChecks w ++ [(decide (imm w 41 39 = 0), illegal 3)]) ++
  [(decide (op ≠ 0x49) || (decide (argOf w / 128 = 0) && decide (1 ≤ argOf w) && decide (argOf w ≤ 64)), illegal 3),
   ([0x46, 0x47, 0x48, 0x49].contains op || (decide (op = 0x44) && !isRaw w && decide (argOf w / 2 ^ 26 = 0)) ||
      decide (argOf w = 0), illegal 3)]

/-- The check of a named prime slot, made after the operands since it reads a table: an invalid slot rejects the command (R186
of Table 6.7 for RSTEP; DEDUCED for the others, log 32). -/
def primeCheck (s : State) (slot : Nat) : Bool × Reject := ((s.primeEnt slot).valid, illegal 3)

/-- The slots that a ring command names directly (R33). -/
def ringPrimes (w : CmdWord) : List Nat :=
  if !isRaw w then [] else if opcodeOf w = 0x47 then [primeOf w, imm w 47 41] else [primeOf w]

/-- Saturating addition and subtraction of SCALE (R66). -/
def scaleAdd (a b : Nat) : Nat := min (2 ^ 32 - 1) (a + b)

/-- Counts lowered to a number of limbs (R64). -/
def Obj.lower (o : Obj) (limbs : Nat) : Obj :=
  { o with tlimbs := limbs, tcount := if limbs ≤ o.lfirst then 0 else min o.tcount (limbs - o.lfirst) }

/-- The ciphertexts among operands. -/
def slabsOf (l : List Obj) : List Obj := l.filter (fun o => decide (o.kind = 1))

/-- The smallest LEVEL of the slabs (R73). -/
def minLevel (l : List Obj) : Nat := (slabsOf l).foldl (fun a o => min a o.level) ((slabsOf l).headD (Obj.ofDesc nullDesc)).level

/-- The result of an object-mode ring command before SPENT is applied (Table 3.3, R54, R64, R66, R73). -/
def ringResult (w : CmdWord) (o0 o1 o2 : Obj) : Obj :=
  let op := opcodeOf w
  let r := { o0 with base := o2.base }
  if op = 0x41 ∨ op = 0x42 then
    if o1.kind = 1 then { r.lower (min o0.tlimbs o1.tlimbs) with level := minLevel [o0, o1] } else r
  else if op = 0x44 then
    { r.lower (min o0.tlimbs o1.tlimbs) with scale := scaleAdd o0.scale o1.scale, level := minLevel [o0, o1] }
  else if op = 0x45 then
    { r.lower (min (min o0.tlimbs o1.tlimbs) o2.tlimbs) with
      scale := scaleAdd o0.scale o1.scale, level := minLevel [o0, o2] }
  else if op = 0x49 then { r.lower (o0.tlimbs - argOf w) with level := o0.level - argOf w }
  else r

/-- The companion of a slab product as an object: a plaintext layout at ARG[25:0] with the result's limbs (R171). -/
def companionObj (w : CmdWord) (r : Obj) : Obj := { r with kind := 2, base := argOf w % 2 ^ 26 }

/-- The operands that a ring command reads in object mode. -/
def ringSources (w : CmdWord) (o0 o1 o2 : Obj) : List (Nat × Obj) :=
  let op := opcodeOf w
  if veUnary op then [(0, o0)] else if op = 0x45 then [(0, o0), (1, o1), (2, o2)] else [(0, o0), (1, o1)]

/-- The addresses of the windows of one tile position: for each operand its polynomials at the limb of a chain position; an
operand that does not hold the limb counts as a window with m = 1. -/
def tileMs (g pos t : Nat) (off : Int) (o : Obj) : List Nat :=
  (List.range o.polys).map (fun b =>
    match o.slotOf g pos with
    | none => 1
    | some k => (quarterMs ((o.polyAddr k b : Int) + off).toNat o.n).getD t 1)

/-- The tile positions of an object-mode command with the m of their windows (R170, R175). -/
def ringTiles (w : CmdWord) (g : Nat) (lp : List Nat) (srcs : List (Nat × Obj)) (dsts : List Obj) (r : Obj) :
    List (List Nat × List Nat) :=
  (loopIters lp).flatMap (fun j =>
    (r.limbsIn g).flatMap (fun x =>
      (List.range (tQ r.logN)).map (fun t =>
        (srcs.flatMap (fun so =>
            let ms := tileMs g x.1 t (loopOff lp so.1 j) so.2
            if (opcodeOf w = 0x41 ∨ opcodeOf w = 0x42) ∧ so.1 = 1 ∧ so.2.kind = 2 then ms.take 1 else ms),
         dsts.flatMap (fun d => tileMs g x.1 t (loopOff lp 2 j) d)))))

/-- The kinds that slot 0 and slot 1 of an object-mode ring command accept (Table 6.6). -/
def ringKinds (op slot : Nat) : List Nat :=
  if slot = 0 then (if veUnary op then [1, 2] else [1])
  else if slot = 1 then (if op = 0x45 then [2] else [1, 2]) else [1]

/-- The domain that slot 0 of an object-mode ring command accepts; 2 for either (R171). -/
def ringDomain (op : Nat) : Nat := if op = 0x44 ∨ op = 0x45 ∨ op = 0x46 then 1 else 2

/-- The level check (R73, R74): LEVEL would fall by d. -/
def levelCheck (o : Obj) (slot d : Nat) : Except Reject Unit :=
  must (!o.compat || o.spent || decide (d ≤ o.level)) ⟨1, 5, slot, o.level⟩

/-- A differing key-set tag among ciphertexts: the first tag and the tag that differs (R67, R68). -/
def tagMismatch (l : List Obj) : Option (Nat × Nat) :=
  match l with
  | [] => none
  | o :: rest => ((rest.find? (fun x => decide (x.tag ≠ o.tag))).map (fun x => (o.tag, x.tag)))

/-- KEY_MISMATCH logged (R68). -/
def logMismatch (pb : Nat) (m : Option (Nat × Nat)) (s : State) : State :=
  match m with
  | none => s
  | some (a, b) => s.logBench pb 0x04 a b

/-- The cause of a SPENT result: an operand's, else a mismatch, else exhaustion (R69, R70). -/
def spentCause (ops : List Obj) (mismatch exhausted : Bool) : Option Nat :=
  (spentOf ops).orElse (fun _ => if mismatch then some 2 else if exhausted then some 1 else none)

/-- A ring command on objects at stage 5. -/
def planRingObj (c : Ctx) : Except Reject Plan := do
  let op := opcodeOf c.w
  let o0 := Obj.ofDesc c.d0
  let o1 := Obj.ofDesc c.d1
  let o2 := Obj.ofDesc c.d2
  objCheck c.s c.pb (ringKinds op 0) (ringDomain op) [] c.lp 0 o0
  if !veUnary op then
    objCheck c.s c.pb (ringKinds op 1) (if op = 0x41 ∨ op = 0x42 then o0.domain else 1) [o0] c.lp 1 o1
  if op = 0x45 then objCheck c.s c.pb [1] 1 [o0, o1] c.lp 2 o2
  let r := ringResult c.w o0 o1 o2
  must (r.inPool c.lp 2) (illegal 2)
  let prod := decide (op = 0x44) && decide (o1.kind = 1)
  let comp := companionObj c.w r
  must (!(decide (op = 0x44) && decide (o1.kind ≠ 1)) || decide (argOf c.w = 0)) (illegal 3)
  must (!prod || decide (argOf c.w % 32 = 0)) (misaligned 3 (argOf c.w))
  must (!prod || comp.inPool c.lp 2) (illegal 3)
  if op = 0x49 then levelCheck o0 0 (argOf c.w)
  let srcs := ringSources c.w o0 o1 o2
  let slabs := slabsOf (srcs.map Prod.snd)
  let mm := tagMismatch slabs
  let exhausted := decide (op = 0x49) && decide (o0.kind = 1) && !o0.compat && decide (o0.tlimbs ≤ argOf c.w)
  let dsts := if prod then [r, comp] else [r]
  let tiles := ringTiles c.w c.gang c.lp srcs dsts r
  let moves := decide (op ≠ 0x49)
  let e := c.exec engVE
  .ok ⟨{ e with
      reads := if moves then srcs.flatMap (fun so => so.2.intervals c.gang c.lp so.1) else []
      writes := if moves then dsts.flatMap (fun d => d.intervals c.gang c.lp 2) else []
      results := [(opIdx c.w 2, r.toDesc)]
      sbDesc := [opIdx c.w 2]
      chains := [o0.chain]
      busy := if moves then veTime 6 (4 * (sumN (dsts.map Obj.polys))) tiles else 2
      spent := spentCause slabs mm.isSome exhausted
      inherited := slabs.any (·.spent) },
    logMismatch c.pb mm⟩

/-- The quarter of a limb of an operand: none where the operand does not hold the chain position; values that nothing
determines where R59 places the limb in another gang. -/
def operandQuarter (b : Bench) (bad : List Nat) (g p pos poly : Nat) (off : Int) (o : Obj) : Option (List El) :=
  if (List.range o.total).any (fun j => decide (o.position j = pos)) then
    some (match o.slotOf g pos with
      | none => List.replicate (o.n / 4) El.free
      | some k => readQuarter b bad p ((o.polyAddr k poly : Int) + off).toNat o.logN)
  else none

/-- One limb of an object-mode ring command: the polynomials it writes, the companion last (Table 6.6, R76, R171). -/
def ringLimb (w : CmdWord) (p n4 : Nat) (a b d : Nat → Option (List El)) (k1 k2 : Nat) : List (List El) :=
  let op := opcodeOf w
  let free := List.replicate n4 El.free
  let zero := List.replicate n4 (El.known 0)
  let af := fun i => (a i).getD free
  let bf := fun i => (b i).getD free
  let z2 := fun (f : Nat → Nat → Nat) (x y : List El) => List.zipWith (El.map2 f) x y
  if op = 0x41 ∨ op = 0x42 then
    let f := if op = 0x41 then addMod p else subMod p
    if k2 = 1 then [z2 f (af 0) (bf 0), z2 f (af 1) (bf 1)] else [z2 f (af 0) ((b 0).getD zero), af 1]
  else if op = 0x43 then (List.range k1).map (fun i => (af i).map (El.map (negMod p)))
  else if op = 0x44 then
    if k2 = 1 then
      [z2 (mulMod p) (af 0) (bf 0), z2 (addMod p) (z2 (mulMod p) (af 0) (bf 1)) (z2 (mulMod p) (af 1) (bf 0)),
        z2 (mulMod p) (af 1) (bf 1)]
    else [z2 (mulMod p) (af 0) (bf 0), z2 (mulMod p) (af 1) (bf 0)]
  else if op = 0x45 then
    (List.range 2).map (fun i => z2 (addMod p) ((d i).getD free) (z2 (mulMod p) (af i) (bf 0)))
  else if op = 0x46 then
    (List.range k1).map (fun i => (af i).map (El.map (fun v => mulMod p v (toFold p (argOf w)))))
  else (List.range k1).map af

/-- What a ring command on objects does when it completes, limb by limb and iteration by iteration. -/
def stepsRingObj (s : State) (pb : Nat) (e : Exec) : List (State → Effect) :=
  let w := e.word
  let o0 := Obj.ofDesc (e.d 0)
  let o1 := Obj.ofDesc (e.d 1)
  let o2 := Obj.ofDesc (e.d 2)
  let r := ringResult w o0 o1 o2
  let g := s.gangIdx pb
  if opcodeOf w = 0x49 then []
  else
    (loopIters e.loop).flatMap (fun j =>
      (r.limbsIn g).map (fun x => fun s =>
        let b := s.bench pb
        let p := s.chainPrime o0.chain x.1
        let get := fun (slot : Nat) (o : Obj) (i : Nat) =>
          operandQuarter b e.badWords g p x.1 i (loopOff e.loop slot j) o
        let outs := ringLimb w p (r.n / 4) (get 0 o0) (get 1 o1) (get 2 o2) o0.polys o1.kind
        Effect.ofRuns (outs.zipIdx.map (fun y =>
          if y.2 < r.polys then
            ⟨false, ((r.polyAddr x.2 y.2 : Int) + loopOff e.loop 2 j).toNat, 4, y.1⟩
          else ⟨false, (((companionObj w r).polyAddr x.2 0 : Int) + loopOff e.loop 2 j).toNat, 4, y.1⟩))))

end Sys2Proof.Machine
end

