-- ==== Sys2Proof/Machine/VeTile.lean ====
section
/-! DEFINITION. The Vector engine tile by tile: ring commands in raw mode, float commands, FDRAIN, FCONV and RCONV (R172-R176 of
spec/06_command_reference.md, R98-R100 and R105 of spec/04_bench_engines.md, R264-R276 of
spec/10_float_tensors.md). -/

namespace Sys2Proof.Machine

/-- Words of a tile of 4,096 elements of k bytes (R173). -/
def tileWords (k : Nat) : Nat := 128 * k

/-- The element size of a source of a VE command. -/
def srcSize (w : CmdWord) : Nat := if isFloat w then (fmtIn w).size else 4
/-- The element size of the destination of a VE command. -/
def dstSize (w : CmdWord) : Nat := if isFloat w then (fmtOut w).size else 4

/-- Whether source slot i takes a descriptor. -/
def srcDesc (w : CmdWord) (i : Nat) : Bool := if i = 0 then decide (src0 w = 0) else !veUnary (opcodeOf w) && decide (src1 w = 0)

/-- The source selector of slot i. -/
def srcSel (w : CmdWord) (i : Nat) : Nat := if i = 0 then src0 w else src1 w

/-- The sources a command has. -/
def srcSlots (w : CmdWord) : List Nat := if veUnary (opcodeOf w) then [0] else [0, 1]

/-- The steps of a reduction: COUNT3 of the first source that is a descriptor (R174). -/
def veRho (w : CmdWord) (d0 d1 : List Nat) : Nat :=
  if accOf w then (if srcDesc w 0 then adCount d0 3 else if srcDesc w 1 then adCount d1 3 else 0) else 1

/-- Output tiles of one iteration, from the destination, or from the first source where a slot is the destination
(R173, R174). -/
def veTilesPerIter (w : CmdWord) (d0 d1 d2 : List Nat) : Nat :=
  let per := fun (d : List Nat) => (if accOf w then adCount d 0 * adCount d 1 * adCount d 2 else adPerIter d) / tileWords (srcSize w)
  if !dstSlot w then adPerIter d2 / tileWords (dstSize w)
  else if srcDesc w 0 then per d0
  else if srcDesc w 1 then per d1
  else 1

/-- Key units of one source tile (R100). -/
def unitsPerTile (w : CmdWord) : Nat := if srcSize w = 2 then 16 else 32

/-- The word checks of a float command (R169, R172, R268, R529). -/
def floatWordChecks (w : CmdWord) : List (Bool × Reject) :=
  let op := opcodeOf w
  [(!(bit (subopOf w) 0), illegal 3)] ++ veCommonChecks w ++ veSlotChecks w ++
  [(decide (primeOf w = 0), illegal 3),
   (decide (imm w 41 41 = 0) || (decide (src0 w = 3) && decide (fmtIn w = .bf16)), illegal 3),
   (decide (imm w 40 40 = 0) || (decide (src1 w = 3) && decide (fmtIn w = .bf16)), illegal 3),
   (decide (imm w 39 39 = 0) || (dstSlot w && decide (fmtOut w = .bf16)), illegal 3),
   (decide (op ≠ 0x64) || decide (argOf w < 4), illegal 3),
   (decide (op ≠ 0x69) || decide (src0 w = 1), illegal 3),
   (decide (op ≠ 0x68) || decide (2 ≤ subop w 2 1), illegal 3),
   (decide (op ≠ 0x65) || decide (subop w 2 1 ≤ 1), illegal 3),
   (decide (op = 0x64) || decide (op = 0x69) || (decide (op = 0x63) && accOf w) || decide (argOf w = 0), illegal 3)]

/-- Whether a descriptor names the words that source tiles need in an iteration (R173, R174). -/
def srcCountOk (w : CmdWord) (t rho : Nat) (d : List Nat) : Bool :=
  if accOf w then
    decide (adCount d 3 = rho) && (decide (rho = 0) ||
      decide (adCount d 0 * adCount d 1 * adCount d 2 = t * tileWords (srcSize w)))
  else decide (adPerIter d = t * tileWords (srcSize w))

/-- The tiles of a descriptor operand, iteration by iteration. -/
def adTiles (b : Bench) (d lp : List Nat) (slot words : Nat) : List (List (List (Option Nat))) :=
  (loopOffs lp slot).map (fun off => chunksOf words (adWords b.pool d off))

/-- The timing tiles of a VE command on descriptors (R175). -/
def veTimeTiles (w : CmdWord) (rho t : Nat) (srcs : List (List (List (List (Option Nat)))))
    (dst : Option (List (List (List (Option Nat))))) (trips : Nat) :
    List (List (List Nat) × Option Nat × List Nat) :=
  let ms := fun (x : List (List (List (Option Nat)))) (it k : Nat) =>
    match (x.getD it [])[k]? with
    | none => []
    | some ws => [windowM (wordsOf ws)]
  (List.range trips).flatMap (fun it => (List.range t).map (fun m =>
    let dms := match dst with
      | none => []
      | some x => ms x it m
    ((List.range rho).map (fun j => srcs.flatMap (fun x => ms x it (j * t + m))),
      if initOf w then dms.head? else none, dms)))

/-- A ring command in raw mode, or a float command, at stage 5. -/
def planVeTiles (primes : List Nat) (c : Ctx) : Except Reject Plan := do
  let w := c.w
  let op := opcodeOf w
  if srcDesc w 0 then adCheck c.s [0] c.d0 c.lp 0
  if srcDesc w 1 then adCheck c.s [0] c.d1 c.lp 1
  if !dstSlot w then adCheck c.s [0] c.d2 c.lp 2
  let rho := veRho w c.d0 c.d1
  let t := veTilesPerIter w c.d0 c.d1 c.d2
  must (!srcDesc w 0 || srcCountOk w t rho c.d0) (illegal 0)
  must (!srcDesc w 1 || srcCountOk w t rho c.d1) (illegal 1)
  must (dstSlot w || decide (adPerIter c.d2 = t * tileWords (dstSize w))) (illegal 2)
  mustAll (primes.map (primeCheck c.s))
  let b := c.s.bench c.pb
  let trips := loopTrips c.lp
  let n := t * trips * rho
  let dsc := fun i => if i = 0 then c.d0 else c.d1
  let srcIdx := (srcSlots w).filter (srcDesc w)
  let srcs := srcIdx.map (fun i => adTiles b (dsc i) c.lp i (tileWords (srcSize w)))
  let dst := if dstSlot w then none else some (adTiles b c.d2 c.lp 2 (tileWords (dstSize w)))
  let dd := if op = 0x47 ∨ op = 0x48 then 10 else if isFloat w then 4 else 6
  let ee := if dstSize w = 2 then 2 else 4
  let tt := veTimeTiles w rho t srcs dst trips
  let plainTiles := tt.map (fun x =>
    (x.1.flatten ++ (if veReadsDst op then x.2.2 else []), x.2.2))
  let idx := sumN (srcIdx.map (fun i => adIdxTime 2 (dsc i) c.lp)) + (if dstSlot w then 0 else adIdxTime 2 c.d2 c.lp)
  let uses := fun k => (srcSlots w).any (fun i => decide (srcSel w i = k))
  let e := c.exec engVE
  .ok (Plan.of { e with
      reads := srcIdx.flatMap (fun i => adIntervals (dsc i) c.lp i ++ adIdxInterval (dsc i)) ++
        (if dstSlot w then [] else adIdxInterval c.d2)
      writes := if dstSlot w then [] else adIntervals c.d2 c.lp 2
      primes := primes
      todo := if uses 1 ∨ uses 2 then
          [.feed (if uses 1 then n else 0) (if uses 2 then n * unitsPerTile w else 0)] else []
      busy := (if accOf w then veAccTime dd ee tt else veTime dd ee plainTiles) + idx })

/-- A ring command at stage 5. -/
def planRing (c : Ctx) : Except Reject Plan := do
  mustAll (ringWordChecks c.w)
  if isRaw c.w then planVeTiles (ringPrimes c.w) c else planRingObj c

/-- A float command at stage 5. -/
def planFloat (c : Ctx) : Except Reject Plan := do
  mustAll (floatWordChecks c.w)
  planVeTiles [] c

/-- The key elements of k bytes of a run of units (R230, R233). -/
def keyEls (k : Nat) (us : List KUnit) : List El :=
  us.flatMap (fun u => u.vals.flatMap (fun x =>
    if k = 2 then [⟨x.v % 65536, x.bad || u.poison⟩, ⟨x.v / 65536 % 65536, x.bad || u.poison⟩]
    else [⟨x.v, x.bad || u.poison⟩]))

/-- The address of a tile in the slot memory. -/
def slotAddr (slot half : Nat) : Nat := slot * 16384 + half * 8192

/-- Source i of a tile step: the elements, and whether they are the fp32 values of a chute tile. n counts the source tiles
of the command from 0, ws are the words where a descriptor names them (R96, R100, R105). -/
def veSource (b : Bench) (e : Exec) (i n : Nat) (ws : List (Option Nat)) : List El × Bool :=
  let w := e.word
  let k := srcSize w
  if srcSel w i = 0 then (readRun b.pool e.badWords k ws, false)
  else if srcSel w i = 1 then
    match e.tiles[n]? with
    | none => (List.replicate 4096 El.free, true)
    | some tl => (if tl.float = isFloat w then tl.vals else tl.vals.map (fun _ => El.free), true)
  else if srcSel w i = 2 then
    (keyEls k ((e.keys.drop (n * unitsPerTile w)).take (unitsPerTile w)), false)
  else
    let slot := if i = 0 then imm w 47 46 else imm w 45 44
    let half := if i = 0 then imm w 41 41 else imm w 40 40
    (readEls b.slots [] k (slotAddr slot half) 4096, false)

/-- A float result with its mark. -/
structure FEl where
  r : FRes
  bad : Bool
  deriving DecidableEq, Repr

/-- The value of a float element: fp32 if it comes from the chute, else in the input format. -/
def fval (w : CmdWord) (chute : Bool) (v : Nat) : FVal := (if chute then FFmt.fp32 else fmtIn w).read v

/-- One float result (Table 10.2, R172): a, b, and the destination's old bits. -/
def floatOp (w : CmdWord) (ca cb : Bool) (a b d : El) : FEl :=
  let op := opcodeOf w
  let out := fmtOut w
  let x := fval w ca a.v
  let y := fval w cb b.v
  let ones : Nat := 2 ^ (8 * out.size) - 1
  if op = 0x61 then ⟨fAdd out x y, a.bad || b.bad⟩
  else if op = 0x62 then ⟨fMul out x y, a.bad || b.bad⟩
  else if op = 0x63 then ⟨fFma out x y (out.read d.v), a.bad || b.bad || d.bad⟩
  else if op = 0x64 then ⟨⟨if fCmp (argOf w) x y then ones else 0, false⟩, a.bad || b.bad⟩
  else if op = 0x65 then
    let top := bit b.v (8 * out.size - 1)
    ⟨⟨if top then a.v else d.v, false⟩, b.bad || (if top then a.bad else d.bad)⟩
  else if op = 0x66 then ⟨fMinMax out false x y, a.bad || b.bad⟩
  else if op = 0x67 then ⟨fMinMax out true x y, a.bad || b.bad⟩
  else ⟨out.round x, a.bad⟩

/-- FDRAIN of one value: the scale of ARG times the accumulator, rounded once; any FMT but 0 and 3 leaves the value open
(R172, R274). -/
def drainOp (w : CmdWord) (a : El) : FEl :=
  ⟨(fmtOut w).round ((FFmt.fp32.read (argOf w)).mul (FFmt.fp32.read a.v)), a.bad || decide (subop w 2 1 = 1) || decide (subop w 2 1 = 2)⟩

/-- The three float counts of a tile: whether it holds a NaN, an infinity, a flushed result. FCMP and FSEL count in none
(BENCH_FLOAT_EVENTS). -/
def floatCounts (f : FFmt) (l : List FEl) : Nat × Nat × Nat :=
  (b2n (l.any (fun x => f.isNan x.r.bits)), b2n (l.any (fun x => f.isInfinite x.r.bits)), b2n (l.any (fun x => x.r.flushed)))

/-- Where output tile m of an iteration goes. -/
def veDest (w : CmdWord) (ws : List (Option Nat)) (els : List El) : List WRun :=
  let k := dstSize w
  if dstSlot w then [⟨true, slotAddr (imm w 43 42) (imm w 39 39), k, els⟩] else runsAt ws k els

/-- The old elements of the destination of an output tile. -/
def veOld (b : Bench) (e : Exec) (ws : List (Option Nat)) : List El :=
  let w := e.word
  let k := dstSize w
  if dstSlot w then readEls b.slots [] k (slotAddr (imm w 43 42) (imm w 39 39)) 4096
  else readRun b.pool e.badWords k ws

/-- A reduction step of RMAC. -/
def ringAcc (p : Nat) (acc a b : List El) : List El :=
  List.zipWith (fun x y => El.map2 (addMod p) x y) acc (List.zipWith (El.map2 (mulMod p)) a b)

/-- A reduction step of FFMA: one fp32 rounding (R174). -/
def floatAcc (w : CmdWord) (ca cb : Bool) (acc a b : List El) : List El :=
  List.zipWith (fun (x : El) (y : El × El) =>
    ⟨(fFma .fp32 (fval w ca y.1.v) (fval w cb y.2.v) (FFmt.fp32.read x.v)).bits, x.bad || y.1.bad || y.2.bad⟩)
    acc (a.zip b)

/-- One ring result in raw mode (Table 6.6, R98). -/
def ringOp (s : State) (w : CmdWord) (p : Nat) (a b d : El) : El :=
  let op := opcodeOf w
  let kinv := residue p (argOf w)
  if op = 0x41 then El.map2 (addMod p) a b
  else if op = 0x42 then El.map2 (subMod p) a b
  else if op = 0x43 then a.map (negMod p)
  else if op = 0x44 then El.map2 (mulMod p) a b
  else if op = 0x45 then El.map3 (macMod p) d a b
  else if op = 0x46 then a.map (fun v => mulMod p v (toFold p (argOf w)))
  else if op = 0x47 then
    let pl := (s.primeEnt (imm w 47 41)).p
    El.map2 (fun x y => mulMod p (subMod p x (fold3 p (fold3 pl (residue pl y) * foldSq p))) kinv) a b
  else if op = 0x48 then El.map2 (fun x y => mulMod p (subMod p x (residue p y)) kinv) a b
  else a

/-- One output tile of a VE command on tiles. n is the number of its first source tile; srcs gives, for each step and each
source, the words that a descriptor names. -/
def veTileEffect (e : Exec) (n t rho : Nat) (srcs : Nat → Nat → List (Option Nat)) (dst : List (Option Nat)) (s : State)
    (pb : Nat) : Effect :=
  let w := e.word
  let op := opcodeOf w
  let b := s.bench pb
  let p := (s.primeEnt (primeOf w)).p
  let red := fun (l : List El) => l.map (El.map (residue p))
  let src := fun i j => veSource b e i (n + j * t) (srcs i j)
  let two := !veUnary op
  let size := 4096
  if isFloat w then
    let out := fmtOut w
    if accOf w then
      let acc0 := if initOf w then (veOld b e dst).map (fun x => (⟨(FFmt.fp32.round (out.read x.v)).bits, x.bad⟩ : El))
        else List.replicate size (El.known 0)
      let acc := (List.range rho).foldl (fun acc j =>
        let x := src 0 j
        let y := src 1 j
        floatAcc w x.2 y.2 acc x.1 y.1) acc0
      let res := acc.map (fun x => (⟨out.round ((FFmt.fp32.read (argOf w)).mul (FFmt.fp32.read x.v)), x.bad⟩ : FEl))
      let c := floatCounts out res
      ⟨veDest w dst (res.map (fun x => ⟨x.r.bits, x.bad⟩)), c.1, c.2.1, c.2.2, none⟩
    else
      let x := src 0 0
      let y := if two then src 1 0 else x
      let old := if veReadsDst op then veOld b e dst else x.1
      let res := if op = 0x69 then x.1.map (drainOp w)
        else List.zipWith (fun (a : El) (bd : El × El) => floatOp w x.2 y.2 a bd.1 bd.2) x.1 (y.1.zip old)
      let c := if op = 0x64 ∨ op = 0x65 then (0, 0, 0) else floatCounts out res
      ⟨veDest w dst (res.map (fun x => ⟨x.r.bits, x.bad⟩)), c.1, c.2.1, c.2.2, none⟩
  else if accOf w then
    let acc0 := if initOf w then red (veOld b e dst) else List.replicate size (El.known 0)
    Effect.ofRuns (veDest w dst ((List.range rho).foldl (fun acc j =>
      ringAcc p acc (red (src 0 j).1) (red (src 1 j).1)) acc0))
  else
    let x := red (src 0 0).1
    let y := if op = 0x47 then (src 1 0).1 else if two then red (src 1 0).1 else x
    let old := if veReadsDst op then red (veOld b e dst) else x
    Effect.ofRuns (veDest w dst (List.zipWith (fun (a : El) (bd : El × El) => ringOp s w p a bd.1 bd.2) x (y.zip old)))

/-- What a VE command on tiles does when it completes, output tile by output tile. -/
def stepsVeTiles (s : State) (pb : Nat) (e : Exec) : List (State → Effect) :=
  let w := e.word
  let b := s.bench pb
  let rho := veRho w (e.d 0) (e.d 1)
  let t := veTilesPerIter w (e.d 0) (e.d 1) (e.d 2)
  let src := fun i => if srcDesc w i then adTiles b (e.d i) e.loop i (tileWords (srcSize w)) else []
  let s0 := src 0
  let s1 := src 1
  let dst := if dstSlot w then [] else adTiles b (e.d 2) e.loop 2 (tileWords (dstSize w))
  let aligns := (srcSlots w).filter (srcDesc w) ++ (if dstSlot w then [] else [2])
  (fun _ => alignOf b e aligns) ::
    (List.range (loopTrips e.loop)).flatMap (fun it => (List.range t).map (fun m => fun s =>
      veTileEffect e (it * t * rho + m) t rho
        (fun i j => ((if i = 0 then s0 else s1).getD it []).getD (j * t + m) [])
        ((dst.getD it []).getD m []) s pb))

/-- What a ring command does when it completes. -/
def stepsRing (s : State) (pb : Nat) (e : Exec) : List (State → Effect) :=
  if isRaw e.word then stepsVeTiles s pb e else stepsRingObj s pb e

/-- Whether a chain position is used (R35). -/
def ChainEnt.uses (c : ChainEnt) (pos : Nat) : Bool :=
  c.valid && (decide (pos < c.ord) || (decide (64 ≤ pos) && decide (pos < 64 + c.spc)))

/-- CHAIN, FIRST and LCOUNT of FCONV and RCONV (R176). -/
def cvChain (w : CmdWord) : Nat := subop w 4 0
def cvFirst (w : CmdWord) : Nat := imm w 38 32
def cvCount (w : CmdWord) : Nat := imm w 46 40

/-- FCONV and RCONV at stage 5: toRing for FCONV (R51, R176). -/
def planConv (toRing : Bool) (c : Ctx) : Except Reject Plan := do
  let w := c.w
  let n := cvCount w
  mustAll [
    (decide (subop w 7 5 = 0), illegal 3),
    (decide (imm w 47 47 = 0) && decide (imm w 39 39 = 0) && decide (cflagsOf w = 0), illegal 3),
    (if toRing then decide (1 ≤ n) && decide (n ≤ 80) else decide (1 ≤ n) && decide (n ≤ 2), illegal 3)]
  adCheck c.s [0] c.d0 c.lp 0
  adCheck c.s [0] c.d2 c.lp 2
  must ((List.range n).all (fun i => (c.s.chainEnt (cvChain w)).uses (cvFirst w + i))) (illegal 3)
  let big := if toRing then c.d2 else c.d0
  let small := if toRing then c.d0 else c.d2
  must (decide (adPerIter big = n * adPerIter small)) (illegal (if toRing then 2 else 0))
  let b := c.s.bench c.pb
  let ms := fun (d : List Nat) (slot : Nat) =>
    (loopOffs c.lp slot).flatMap (fun off => (chunksOf 512 (adWords b.pool d off)).map (fun x => windowM (wordsOf x)))
  let sm := ms c.d0 0
  let dm := ms c.d2 2
  let tiles := if toRing then sm.length else dm.length
  let perTile := fun (l : List Nat) (i : Nat) => (List.range n).map (fun k => l.getD (i + k * tiles) 1)
  let e := c.exec engVE
  .ok (Plan.of { e with
      reads := adIntervals c.d0 c.lp 0 ++ adIdxInterval c.d0 ++ adIdxInterval c.d2
      writes := adIntervals c.d2 c.lp 2
      chains := [cvChain w]
      busy := (if toRing then 4 * sm.headD 1 + 3 + 10 + sumN (dm.map (8 * ·))
        else 4 * sumN (perTile sm 0) + 3 + 10 +
          sumN ((List.range tiles).map (fun i => max (4 * sumN (perTile sm i)) (8 * dm.getD i 1)))) +
        adIdxTime 2 c.d0 c.lp + adIdxTime 2 c.d2 c.lp })

/-- The integer that one or two ordinary residues stand for, centred (R51). -/
def crtCentred : List (Nat × Nat) → Int
  | [] => 0
  | [(p, a)] => if a ≥ (p + 1) / 2 then (a : Int) - p else a
  | (p, a) :: (q, b) :: _ =>
    let v := a + p * ((b + q - a % q) % q * invMod q (p % q) % q)
    if v ≥ (p * q + 1) / 2 then (v : Int) - (p * q : Nat) else v

/-- FCONV of one iteration (R50). -/
def fconvIter (e : Exec) (src dst : List (Option Nat)) (s : State) (pb : Nat) : Effect :=
  let w := e.word
  let scale := FFmt.fp32.read (argOf w)
  let zs := (readRun (s.bench pb).pool e.badWords 4 src).map (fun x =>
    ((fToInt ((FFmt.fp32.read x.v).mul scale), x.bad) : Int × Bool))
  Effect.ofRuns (runsAt dst 4 ((List.range (cvCount w)).flatMap (fun i =>
    let p := s.chainPrime (cvChain w) (cvFirst w + i)
    zs.map (fun z => ⟨toFoldInt p z.1, z.2⟩))))

/-- RCONV of one iteration (R51). -/
def rconvIter (e : Exec) (src dst : List (Option Nat)) (s : State) (pb : Nat) : Effect :=
  let w := e.word
  let n := cvCount w
  let scale := FFmt.fp32.read (argOf w)
  let els := readRun (s.bench pb).pool e.badWords 4 src
  let m := els.length / n
  let ps := (List.range n).map (fun i => s.chainPrime (cvChain w) (cvFirst w + i))
  let res : List FEl := (List.range m).map (fun i =>
    let xs := ps.zipIdx.map (fun q => (q.1, els.getD (q.2 * m + i) El.free))
    ⟨fFromInt (crtCentred (xs.map (fun x => (x.1, fold3 x.1 (residue x.1 x.2.v))))) scale, xs.any (fun x => x.2.bad)⟩)
  let counts := (chunksOf 4096 res).map (floatCounts .fp32)
  ⟨runsAt dst 4 (res.map (fun x => ⟨x.r.bits, x.bad⟩)), sumN (counts.map (·.1)), sumN (counts.map (·.2.1)),
    sumN (counts.map (·.2.2)), none⟩

/-- What FCONV or RCONV does when it completes. -/
def stepsConv (toRing : Bool) (s : State) (pb : Nat) (e : Exec) : List (State → Effect) :=
  let b := s.bench pb
  (fun _ => alignOf b e [0, 2]) ::
    (loopIters e.loop).map (fun j => fun s =>
      let src := adWords b.pool (e.d 0) (loopOff e.loop 0 j)
      let dst := adWords b.pool (e.d 2) (loopOff e.loop 2 j)
      if toRing then fconvIter e src dst s pb else rconvIter e src dst s pb)

end Sys2Proof.Machine
end

