-- ==== Sys2Proof/Machine/Ae.lean ====
section
/-! DEFINITION. The Array engine: MATMUL (R101-R105 of spec/04_bench_engines.md, R177-R180 of spec/06_command_reference.md,
R269-R273 of spec/10_float_tensors.md). -/

namespace Sys2Proof.Machine

/-- MODE: float. -/
def aeFloat (w : CmdWord) : Bool := bit (subopOf w) 7
/-- PACK. -/
def aePack (w : CmdWord) : Nat := subop w 6 5
/-- INIT. -/
def aeInit (w : CmdWord) : Bool := bit (subopOf w) 4
/-- Input columns per pass. -/
def aeCols (w : CmdWord) : Nat := imm w 45 40 + 1
/-- Passes per output tile. -/
def aePasses (w : CmdWord) : Nat := imm w 39 28
/-- The address of the row-prime vector. -/
def aeRowp (w : CmdWord) : Nat := imm w 25 0
/-- The width of a sub-array. -/
def aeWidth (w : CmdWord) : Nat := [64, 32, 16].getD (aePack w) 64
/-- Elements of an input column, over all sub-arrays (R178). -/
def aeColLen (w : CmdWord) : Nat := [64, 128, 256].getD (aePack w) 64
/-- The element size of weights and inputs. -/
def aeSize (w : CmdWord) : Nat := if aeFloat w then 2 else 4
/-- Words of a weight tile. -/
def aeWeightWords (w : CmdWord) : Nat := tileWords (aeSize w)
/-- Words of an input column. -/
def aeColWords (w : CmdWord) : Nat := aeColLen w * aeSize w / 32

/-- The words of one pass in the order of R84: the weight tile unless the last pass read the same one, the input columns, the
initial tile at the first pass; and the fewest bclk the pass feeds for. -/
structure AePass where
  words : List Nat
  feed : Nat
  deriving DecidableEq, Repr

/-- The passes of one output tile. -/
def aeTilePasses (w : CmdWord) (w0 x0 z0 : List (Option Nat)) : List AePass :=
  let wt := chunksOf (aeWeightWords w) w0
  let xs := chunksOf (aeCols w * aeColWords w) x0
  let feed := cdiv (aeCols w) (if !aeFloat w then 1 else if aePack w = 2 then 2 else 4)
  if aePasses w = 0 then [⟨wordsOf z0, 4⟩]
  else (List.range (aePasses w)).map (fun p =>
    let this := wt.getD p []
    let again := decide (0 < p) && decide ((wt.getD (p - 1) []).head? = this.head?)
    ⟨(if again then [] else wordsOf this) ++ wordsOf (xs.getD p []) ++ (if p = 0 then wordsOf z0 else []), feed⟩)

/-- T of R180 over the passes of a command. -/
def aeTime (rowWindow : Nat) (ps : List AePass) : Nat :=
  let wt := fun (p : AePass) => windowsTime 1 p.words
  let next := (ps.drop 1).map wt ++ [0]
  rowWindow + (match ps with
    | [] => 0
    | p :: _ => wt p) + sumN ((ps.zip next).map (fun x => max x.1.feed x.2)) + 12

/-- The words of the three operands in an iteration. -/
def aeWords (b : Bench) (d0 d1 d2 lp : List Nat) (initial : Bool) (j : List Nat) :
    List (Option Nat) × List (Option Nat) × List (Option Nat) :=
  (adWords b.pool d0 (loopOff lp 0 j), adWords b.pool d1 (loopOff lp 1 j),
    if initial then adWords b.pool d2 (loopOff lp 2 j) else [])

/-- MATMUL at stage 5. -/
def planMatmul (c : Ctx) : Except Reject Plan := do
  let w := c.w
  mustAll [
    (decide (subop w 3 0 = 0) && decide (imm w 47 46 = 0) && decide (imm w 27 26 = 0) && decide (cflagsOf w = 0), illegal 3),
    (decide (aePack w ≠ 3), illegal 3),
    (decide (aeCols w ≤ aeWidth w), illegal 3),
    (!aeFloat w || decide (aeRowp w = 0), illegal 3),
    (decide (aeRowp w % 32 = 0), misaligned 3 (aeRowp w)),
    (decide (aeRowp w + 64 ≤ poolBytes), illegal 3)]
  adCheck c.s [0] c.d0 c.lp 0
  adCheck c.s [0] c.d1 c.lp 1
  if aeInit w then adCheck c.s [0] c.d2 c.lp 2
  must (decide (adPerIter c.d0 = aePasses w * aeWeightWords w)) (illegal 0)
  must (decide (adPerIter c.d1 = aePasses w * aeCols w * aeColWords w)) (illegal 1)
  must (!aeInit w || decide (adPerIter c.d2 = 512)) (illegal 2)
  let b := c.s.bench c.pb
  let passes := (loopIters c.lp).flatMap (fun j =>
    let x := aeWords b c.d0 c.d1 c.d2 c.lp (aeInit w) j
    aeTilePasses w x.1 x.2.1 x.2.2)
  let row := if aeFloat w then [] else [(aeRowp w / 32, (aeRowp w + 63) / 32)]
  let n := loopTrips c.lp
  let e := c.exec engAE
  .ok ⟨{ e with
      reads := adIntervals c.d0 c.lp 0 ++ adIdxInterval c.d0 ++ adIntervals c.d1 c.lp 1 ++ adIdxInterval c.d1 ++
        (if aeInit w then adIntervals c.d2 c.lp 2 ++ adIdxInterval c.d2 else []) ++ row
      primes := if aeFloat w then [] else (List.range 64).map (fun r => b.pool.mem.readLE (aeRowp w + r) 1)
      todo := if n = 0 then [] else [.drain 0 n]
      busy := aeTime (if aeFloat w then 0 else 8 * runM (aeRowp w) 64) passes +
        adIdxTime 1 c.d0 c.lp + adIdxTime 1 c.d1 c.lp + (if aeInit w then adIdxTime 1 c.d2 c.lp else 0) },
    fun s => (s.wrB (Fld.BENCH_AE_STATUS_MODE c.pb) (aeFloat w)).wr (Fld.BENCH_AE_STATUS_PACK c.pb) (aePack w)⟩

/-- The row and column of element i of the 64 x 64 tile. -/
def rowCol (i : Nat) : Nat × Nat := (i / 64, i % 64)

/-- The reduction of one ring element over one pass (R101). -/
def ringDot (p : Nat) (ws xs : List El) : El :=
  List.foldl (fun acc x => El.map2 (addMod p) acc (El.map2 (mulMod p) (x.1.map (residue p)) (x.2.map (residue p))))
    (El.known 0) (ws.zip xs)

/-- The weights and inputs that meet in element (r, c) of the tile in one pass: the sub-array of block row r / width and
block column c / width takes its own block of the weight tile and its own part of input column c mod width (R103,
R178); none where the column is not fed (R179). -/
def aeOperands (w : CmdWord) (wt x : List El) (r c : Nat) : Option (List El × List El) :=
  let bs := aeWidth w
  let nb := 64 / bs
  let col := c % bs
  let sub := (r / bs) * nb + c / bs
  if col < aeCols w then
    some ((wt.drop (64 * r + bs * (c / bs))).take bs, (x.drop (col * aeColLen w + sub * bs)).take bs)
  else none

/-- One float accumulator over its passes, in order (R270, R271). -/
def aeFloatAcc (acc : El) (groups : List (List El × List El)) : FEl :=
  groups.foldl (fun a g =>
    let r := groupAdd a.r.bits ((g.1.zip g.2).map (fun x => prodTerm x.1.v x.2.v))
    ⟨⟨r.bits, a.r.flushed || r.flushed⟩, a.bad || g.1.any El.bad || g.2.any El.bad⟩) ⟨⟨acc.v, false⟩, acc.bad⟩

/-- Output tile n of a MATMUL, and its float counts (R178, R179). -/
def aeTile (s : State) (pb : Nat) (e : Exec) (n : Nat) : Tile × (Nat × Nat × Nat) :=
  let w := e.word
  let b := s.bench pb
  let x := aeWords b (e.d 0) (e.d 1) (e.d 2) e.loop (aeInit w) ((loopIters e.loop).getD n [])
  let k := aeSize w
  let wts := (chunksOf (aeWeightWords w) x.1).map (readRun b.pool e.badWords k)
  let ins := (chunksOf (aeCols w * aeColWords w) x.2.1).map (readRun b.pool e.badWords k)
  let initial := readRun b.pool e.badWords 4 x.2.2
  let ps := List.range (aePasses w)
  let token := if emitEn w then some (emitOf w) else none
  let groups := fun (i : Nat) =>
    ps.filterMap (fun p => aeOperands w (wts.getD p []) (ins.getD p []) (rowCol i).1 (rowCol i).2)
  let start := fun (i : Nat) => initial.getD i (El.known 0)
  if aeFloat w then
    let res := (List.range 4096).map (fun i => (aeFloatAcc (start i) (groups i), !(groups i).isEmpty))
    (⟨true, res.map (fun r => ⟨r.1.r.bits, r.1.bad⟩), token⟩,
      floatCounts .fp32 ((res.filter Prod.snd).map Prod.fst))
  else
    let res := (List.range 4096).map (fun i =>
      let pe := s.primeEnt (e.primes.getD (rowCol i).1 128)
      let gs := groups i
      if gs.isEmpty then start i
      else if !pe.valid then El.free
      else gs.foldl (fun acc g => El.map2 (addMod pe.p) acc (ringDot pe.p g.1 g.2)) ((start i).map (residue pe.p)))
    (⟨false, res, token⟩, (0, 0, 0))

end Sys2Proof.Machine
end

