-- ==== Sys2Proof/Machine/Ecc.lean ====
section
/-! DEFINITION. Check codes and the memories outside the benches: events of the error-correcting codes (R285-R291), the local
HBM address (R311-R315 of spec/12_hbm_and_sluice.md), Basins and leases (R281, R294, R295 of
spec/11_on_chip_memory.md). -/

namespace Sys2Proof.Machine

/-- The MEMORY codes of ECC_CORRECTED (Table 19.5). -/
def memPool : Nat := 0
def memData : Nat := 1
def memInstr : Nat := 2
def memTable : Nat := 3
def memBasin : Nat := 4
def memHbm : Nat := 5

/-- The READER codes of ECC_CORRECTED (Table 19.5). -/
def rdEngine : Nat := 0
def rdSluice : Nat := 1
def rdMillrace : Nat := 2
def rdAtomic : Nat := 3
def rdForeman : Nat := 4
def rdRing : Nat := 5
def rdWindow : Nat := 6
def rdScrub : Nat := 7

/-- D0 of an error event. -/
def eccWord (mem reader ch addr : Nat) : Nat := mem * 2 ^ 60 + reader * 2 ^ 56 + ch * 2 ^ 40 + addr

/-- A corrected error of a bench memory: counted, and logged if it is the first since the count was cleared (R291). -/
def State.benchCorrected (s : State) (pb mem reader addr : Nat) : State :=
  let f := if mem = memPool then Fld.BENCH_ECC_STATUS_POOL_CORR pb else Fld.BENCH_ECC_STATUS_FM_CORR pb
  let first := decide (s.cnt f = 0)
  let s := s.bump f 1
  if first then s.logBench pb 0x01 (eccWord mem reader 0 addr) 1 else s

/-- An uncorrectable error of a bench memory: counted, recorded if the address register is armed, logged (R291). -/
def State.benchUncorrectable (s : State) (pb mem reader addr header : Nat) : State :=
  let f := if mem = memPool then Fld.BENCH_ECC_STATUS_POOL_UNCORR pb else Fld.BENCH_ECC_STATUS_FM_UNCORR pb
  let s := s.bump f 1
  let s := if s.flag (Fld.BENCH_ECC_ADDR_VALID pb) then s
    else (((s.wrB (Fld.BENCH_ECC_ADDR_VALID pb) true).wr (Fld.BENCH_ECC_ADDR_WHERE pb) mem).wrB
      (Fld.BENCH_ECC_ADDR_BY_SCRUB pb) (decide (reader = rdScrub))).wr (Fld.BENCH_ECC_ADDR_ADDR pb) addr
  s.logBench pb 0x02 (eccWord mem reader 0 addr) header

/-- A corrected error of a Basin. -/
def State.basinCorrected (s : State) (l reader addr : Nat) : State :=
  let f := Fld.DEVCTL_BASIN_ECC_CORR l
  let first := decide (s.cnt f = 0)
  let s := s.bump f 1
  if first then s.logAt 0x01 2 l (eccWord memBasin reader 0 addr) 1 else s

/-- An uncorrectable error of a Basin; tenant is whom it concerns. -/
def State.basinUncorrectable (s : State) (l reader addr tenant header : Nat) : State :=
  let s := s.bump (Fld.DEVCTL_BASIN_ECC_UNCORR l) 1
  let s := if s.flag (Fld.DEVCTL_BASIN_ECC_ADDR_VALID l) then s
    else ((s.wrB (Fld.DEVCTL_BASIN_ECC_ADDR_VALID l) true).wrB (Fld.DEVCTL_BASIN_ECC_ADDR_BY_SCRUB l)
      (decide (reader = rdScrub))).wr (Fld.DEVCTL_BASIN_ECC_ADDR_ADDR l) addr
  s.log 0x02 2 l 0x3F tenant (eccWord memBasin reader 0 addr) header

/-- A corrected error of an HBM channel (R291, R322). -/
def State.hbmCorrected (s : State) (c reader addr : Nat) : State :=
  let f := Fld.MEMC_CH_ECC_CORR c
  let first := decide (s.cnt f = 0)
  let s := s.bump f 1
  if first then s.logAt 0x01 5 c (eccWord memHbm reader c addr) 1 else s

/-- A channel marked for map-out with a cause (R325): PENDING, the Ledger's list, the log. -/
def State.markMapOut (s : State) (c cause count : Nat) : State :=
  if s.flag (Fld.MEMC_CH_STATUS_PENDING c) then s
  else
    let s := s.wrB (Fld.MEMC_CH_STATUS_PENDING c) true
    let s := { s with power := { s.power with ledger := { s.power.ledger with
      mapOut := s.power.ledger.mapOut ||| 2 ^ c } } }
    s.logAt 0x17 5 c (cause * 2 ^ 60 + count % 65536) 0

/-- An uncorrectable error of an HBM channel: counted, recorded, logged; the sixteenth since the cold reset marks the
channel (R321, R325). -/
def State.hbmUncorrectable (s : State) (c reader addr tenant header : Nat) : State :=
  let s := s.bump (Fld.MEMC_CH_ECC_UNCORR c) 1
  let n := Sparse.get (fun _ => 0) s.hbm.uncorr c + 1
  let s := { s with hbm := { s.hbm with uncorr := Sparse.set (fun _ => 0) s.hbm.uncorr c n } }
  let s := if s.flag (Fld.MEMC_CH_ECC_ADDR_VALID c) then s
    else ((s.wrB (Fld.MEMC_CH_ECC_ADDR_VALID c) true).wrB (Fld.MEMC_CH_ECC_ADDR_BY_SCRUB c)
      (decide (reader = rdScrub))).wr (Fld.MEMC_CH_ECC_ADDR_ADDR c) addr
  let s := s.log 0x02 5 c 0x3F tenant (eccWord memHbm reader c addr) header
  if 16 ≤ n then s.markMapOut c 2 n else s

/-- Whether a channel is active (DEVCTL_HBM_ACT). -/
def State.chanActive (s : State) (c : Nat) : Bool := bit (s.rd (Fld.DEVCTL_HBM_ACT_ACT (c / 64))) (c % 64)

/-- The active channels from number lo, n of them, in order. -/
def State.actList (s : State) (lo n : Nat) : List Nat := ((List.range n).map (· + lo)).filter s.chanActive

/-- A place in local HBM: channel, granule within the channel, byte within the granule. -/
structure HbmLoc where
  ch : Nat
  granule : Nat
  byte : Nat
  deriving DecidableEq, Repr

/-- The hash of R313 in a region with a base, an active list and a first granule. -/
def hbmHash (act : List Nat) (g0 rel : Nat) : HbmLoc :=
  let g := rel / 512
  let line := g / act.length
  let f := line % 256 + line / 256 % 256 + line / 65536 % 64
  ⟨act.getD ((g % act.length + f) % act.length) 0, g0 + line, rel % 512⟩

/-- The place of a local HBM address; none beyond the space (R312, R313). -/
def State.hbmLoc (s : State) (a : Nat) : Option HbmLoc :=
  let split := s.rd Fld.DEVCTL_HBM_CFG_SPLIT
  let all := s.actList 0 256
  let die0 := s.actList 0 128
  let die1 := s.actList 128 128
  let g0 := 2 ^ 22 - 65536 * split
  let r0 := all.length * g0 * 512
  let r1 := die0.length * 65536 * split * 512
  let r2 := die1.length * 65536 * split * 512
  if a < r0 then some (hbmHash all 0 a)
  else if a < r0 + r1 then some (hbmHash die0 g0 (a - r0))
  else if a < r0 + r1 + r2 then some (hbmHash die1 g0 (a - r0 - r1))
  else none

/-- The store address of a place: channel by channel, 2 GiB each. -/
def HbmLoc.key (l : HbmLoc) : Nat := l.ch * 2 ^ 31 + l.granule * 512 + l.byte

/-- The byte address within the channel, as the error registers hold it. -/
def HbmLoc.inChannel (l : HbmLoc) : Nat := l.granule * 512 + l.byte

/-- The owner of the 2 MiB page of an address (R315). -/
def State.pageOwner (s : State) (a : Nat) : Nat := Sparse.get (fun _ => 0) s.hbm.owners (a / 2 ^ 21)

/-- The owner of a page set. -/
def State.setPageOwner (s : State) (page t : Nat) : State :=
  { s with hbm := { s.hbm with owners := Sparse.set (fun _ => 0) s.hbm.owners page t } }

/-- The 32-byte word of local HBM at an address and whether it is marked; zeros beyond the space. -/
def State.hbmWord (s : State) (a : Nat) : Nat × Bool :=
  match s.hbmLoc a with
  | none => (0, false)
  | some l => s.hbm.mem.readWord l.key

/-- A 32-byte word of local HBM written. -/
def State.setHbmWord (s : State) (a v : Nat) (poison : Bool) : State :=
  match s.hbmLoc a with
  | none => s
  | some l => { s with hbm := { s.hbm with mem := s.hbm.mem.writeWord l.key v poison } }

/-- One byte of local HBM written, the rest of its word kept (R451). -/
def State.setHbmByte (s : State) (a : Nat) (v : Byte) : State :=
  match s.hbmLoc a with
  | none => s
  | some l => { s with hbm := { s.hbm with mem := { s.hbm.mem with mem := s.hbm.mem.mem.writeByte l.key v } } }

/-- One byte of local HBM. -/
def State.hbmByte (s : State) (a : Nat) : Byte :=
  match s.hbmLoc a with
  | none => 0
  | some l => s.hbm.mem.mem.readByte l.key

/-- Bytes of local HBM from an address. -/
def State.hbmBytes (s : State) (a n : Nat) : List Byte := (List.range n).map (fun i => s.hbmByte (a + i))

/-- Whole words of local HBM from their bytes, 32 at a time, with fresh check bits. -/
def State.setHbmBytes (s : State) (a : Nat) (l : List Byte) : State :=
  (chunksOf 32 l).zipIdx.foldl (fun s c => s.setHbmWord (a + 32 * c.2) (ofBytes (c.1.map BitVec.toNat)) false) s

/-- A doubleword of local HBM. -/
def State.hbmDword (s : State) (a : Nat) : Reg64 := BitVec.ofNat 64 (ofBytes ((s.hbmBytes a 8).map BitVec.toNat))

/-- Doublewords written to local HBM. -/
def State.setHbmDwords (s : State) (a : Nat) (l : List Reg64) : State :=
  s.setHbmBytes a (l.flatMap (fun w => (toBytes 8 w.toNat).map (BitVec.ofNat 8)))

/-- Pages of local HBM zeroed with valid check bits (R324): the granules of every page in their channels. -/
def State.zeroPages (s : State) (pages : List Nat) : State :=
  let locs := pages.flatMap (fun p => (List.range 4096).filterMap (fun i => s.hbmLoc (p * 2 ^ 21 + 512 * i)))
  locs.foldl (fun s l => { s with hbm := { s.hbm with mem :=
    { mem := s.hbm.mem.mem.clearRange l.key 512
      bad := s.hbm.mem.bad.filter (fun w => decide (w < l.key / 32 ∨ l.key / 32 + 16 ≤ w)) } } }) s

/-- The pages of local HBM. -/
def State.hbmPages (s : State) : Nat := s.spaceBytes 2 / 2 ^ 21

/-- All of local HBM zeroed. -/
def State.zeroHbm (s : State) : State := { s with hbm := { s.hbm with mem := EMem.zero } }

/-- The Basin of a ledge. -/
def State.basin (s : State) (l : Nat) : EMem := Sparse.get (fun _ => EMem.zero) s.ledges.basins l

/-- The Basin of a ledge stored. -/
def State.setBasin (s : State) (l : Nat) (m : EMem) : State :=
  { s with ledges := { s.ledges with basins := Sparse.set (fun _ => EMem.zero) s.ledges.basins l m } }

/-- Lease n of ledge l (R294). -/
def State.lease (s : State) (l n : Nat) : Lease := Sparse.get (fun _ => Lease.reset) s.ledges.leases (4096 * l + n)

/-- A lease stored. -/
def State.setLease (s : State) (l n : Nat) (v : Lease) : State :=
  { s with ledges := { s.ledges with leases := Sparse.set (fun _ => Lease.reset) s.ledges.leases (4096 * l + n) v } }

/-- Whether a tenant may access a Basin address: it holds the lease, or it is Matumon (R295). -/
def State.leaseOk (s : State) (l a tenant : Nat) : Bool :=
  let x := s.lease l (a / 2 ^ 17)
  decide (tenant = 0) || (decide (x.st = .taken) && decide (x.owner = tenant))

/-- Whether a tenant may access a local HBM address (R315). -/
def State.pageOk (s : State) (a tenant : Nat) : Bool := decide (tenant = 0) || decide (s.pageOwner a = tenant)

/-- The sum of a word added into another by the element rules of Table 12.3, with the prime of a residue add. -/
def wordAdd (sub p dst src : Nat) : Nat :=
  let k := if sub = 1 then 2 else 4
  let f := fun (a b : Nat) =>
    if sub = 1 then (fAdd .bf16 (FFmt.bf16.read a) (FFmt.bf16.read b)).bits
    else if sub = 2 then (fAdd .fp32 (FFmt.fp32.read a) (FFmt.fp32.read b)).bits
    else if sub = 3 then (a + b) % 2 ^ 32
    else addMod p (residue p a) (residue p b)
  elemsWord k (List.zipWith f (wordElems k dst) (wordElems k src))

end Sys2Proof.Machine
end

