-- ==== Sys2Proof/Machine/Keccak.lean ====
section
/-! DEFINITION. The Keccak permutation with SHAKE128 and the SHA-3 hashes, as FIPS 202 gives them (R227, R244 and the digests of
spec/15_matumon.md). -/

namespace Sys2Proof.Machine

/-- A lane rotated left. -/
def rotl64 (x n : Nat) : Nat := (x * 2 ^ n % 2 ^ 64) ||| (x / 2 ^ (64 - n))

/-- The rotation of lane (x, y), by index x + 5y. -/
def keccakRot : List Nat :=
  [0, 1, 62, 28, 27, 36, 44, 6, 55, 20, 3, 10, 43, 25, 39, 41, 45, 15, 21, 8, 18, 2, 61, 56, 14]

/-- The round constants. -/
def keccakRc : List Nat :=
  [0x0000000000000001, 0x0000000000008082, 0x800000000000808A, 0x8000000080008000, 0x000000000000808B, 0x0000000080000001,
   0x8000000080008081, 0x8000000000008009, 0x000000000000008A, 0x0000000000000088, 0x0000000080008009, 0x000000008000000A,
   0x000000008000808B, 0x800000000000008B, 0x8000000000008089, 0x8000000000008003, 0x8000000000008002, 0x8000000000000080,
   0x000000000000800A, 0x800000008000000A, 0x8000000080008081, 0x8000000000008080, 0x0000000080000001, 0x8000000080008008]

/-- One round on 25 lanes, lane (x, y) at index x + 5y. -/
def keccakRound (a : List Nat) (rc : Nat) : List Nat :=
  let l := fun (i : Nat) => a.getD i 0
  let c := (List.range 5).map (fun x => l x ^^^ l (x + 5) ^^^ l (x + 10) ^^^ l (x + 15) ^^^ l (x + 20))
  let d := (List.range 5).map (fun x => c.getD ((x + 4) % 5) 0 ^^^ rotl64 (c.getD ((x + 1) % 5) 0) 1)
  let t := (List.range 25).map (fun i => l i ^^^ d.getD (i % 5) 0)
  let b := (List.range 25).map (fun i =>
    let x := i % 5
    let y := i / 5
    let src := (x + 3 * y) % 5 + 5 * x
    rotl64 (t.getD src 0) (keccakRot.getD src 0))
  let m := 2 ^ 64 - 1
  (List.range 25).map (fun i =>
    let x := i % 5
    let y := 5 * (i / 5)
    let v := b.getD i 0 ^^^ ((m ^^^ b.getD ((x + 1) % 5 + y) 0) &&& b.getD ((x + 2) % 5 + y) 0)
    if i = 0 then v ^^^ rc else v)

/-- Keccak-f[1600]. -/
def keccakF (a : List Nat) : List Nat := keccakRc.foldl keccakRound a

/-- A list cut into blocks of n, at most fuel of them. -/
def blocksOf (n : Nat) : Nat → List Nat → List (List Nat)
  | 0, _ => []
  | fuel + 1, l => if l.isEmpty then [] else l.take n :: blocksOf n fuel (l.drop n)

/-- The padded message: the domain byte, zeros, and the last bit of the rate. -/
def keccakPad (rate domain : Nat) (msg : List Nat) : List Nat :=
  let k := rate - msg.length % rate
  if k = 1 then msg ++ [domain + 128] else msg ++ [domain] ++ List.replicate (k - 2) 0 ++ [128]

/-- One block absorbed. -/
def absorb (a block : List Nat) : List Nat :=
  keccakF ((List.range 25).map (fun i => a.getD i 0 ^^^ ofBytes ((block.drop (8 * i)).take 8)))

/-- Output blocks of a rate squeezed. -/
def squeeze (rate : Nat) : Nat → List Nat → List Nat
  | 0, _ => []
  | n + 1, a => (a.flatMap (toBytes 8)).take rate ++ squeeze rate n (keccakF a)

/-- The sponge: a rate and a domain byte, a message, n bytes out. -/
def sponge (rate domain n : Nat) (msg : List Nat) : List Nat :=
  let padded := keccakPad rate domain msg
  let st := (blocksOf rate padded.length padded).foldl absorb (List.replicate 25 0)
  (squeeze rate (cdiv n rate) st).take n

/-- SHAKE128. -/
def shake128 (msg : List Nat) (n : Nat) : List Nat := sponge 168 0x1F n msg

/-- SHA3-256. -/
def sha3_256 (msg : List Nat) : List Nat := sponge 136 0x06 32 msg

end Sys2Proof.Machine
end

