-- ==== Sys2Proof/Machine/KeyStore.lean ====
section
/-! DEFINITION. The key table, the layouts of key segments and what the Millrace delivers from them (R220-R233 of
spec/08_key_switching.md, R240-R247 of spec/09_refresh_and_switching.md). -/

namespace Sys2Proof.Machine

/-- A pebble parameter set (Table 9.1). -/
structure PSet where
  n : Nat
  l : Nat
  beta : Nat
  lks : Nat
  betaKs : Nat
  msg : Nat
  deriving DecidableEq, Repr

/-- The pebble sets of Table 9.1, by PSET. -/
def psetOf (k : Nat) : Option PSet :=
  if k = 1 then some ⟨960, 2, 10, 4, 4, 4⟩
  else if k = 2 then some ⟨1024, 3, 8, 5, 4, 6⟩
  else if k = 3 then some ⟨1024, 4, 7, 6, 4, 8⟩
  else none

/-- The ring dimension and the prime of every pebble set. -/
def psetN : Nat := 4096
def psetPrime : Nat := 0xFFF00001

/-- An entry of the key table; an entry that is not installed is all zeros. -/
def State.keyEnt (s : State) (k : Nat) : List Reg64 := Sparse.get (fun _ => []) s.ledges.keys k

/-- A field of a key entry (Table 8.2). -/
def keyFld (e : List Reg64) (i hi lo : Nat) : Nat := getBits (e.getD i 0) hi lo

def keyKind (e : List Reg64) : Nat := keyFld e 0 63 60
def keySeeded (e : List Reg64) : Bool := decide (keyFld e 0 59 59 = 1)
def keySpace (e : List Reg64) : Nat := keyFld e 0 57 56
def keyTenant (e : List Reg64) : Nat := keyFld e 0 52 48
def keyLogN (e : List Reg64) : Nat := keyFld e 0 44 40
def keyChain (e : List Reg64) : Nat := keyFld e 0 36 32
def keyAlpha (e : List Reg64) : Nat := keyFld e 0 29 24
def keyOrd (e : List Reg64) : Nat := keyFld e 0 22 16
def keyMask (e : List Reg64) : Nat := keyFld e 1 63 48
def keyGalois (e : List Reg64) : Nat := keyFld e 1 17 0
def keyTag (e : List Reg64) : Nat := keyFld e 2 63 0
def keySeg (e : List Reg64) (l : Nat) : Nat := keyFld e (3 + l) 63 0
def keySeed (e : List Reg64) : Nat := keyFld e 7 63 0
/-- N of a key. -/
def keyN (e : List Reg64) : Nat := 2 ^ keyLogN e
/-- Stored polynomials of a key pair: 2 - SEEDED. -/
def keyHalves (e : List Reg64) : Nat := if keySeeded e then 1 else 2

/-- The chain positions that a layout of ord ordinary and spc special limbs places in a gang, in local-index order (R59,
R225). -/
def layoutSlots (mask ord spc g : Nat) : List Nat :=
  let gs := gangsOf mask
  ((List.range (ord + spc)).filter (fun j => decide (gs[j % gs.length]? = some g))).map
    (fun j => if j < ord then j else 64 + (j - ord))

/-- The slots of a key's bench stream in a gang (R225, R245). -/
def State.keySlots (s : State) (e : List Reg64) (g : Nat) : List Nat :=
  if keyKind e = 4 ∨ keyKind e = 5 then (if bit (keyMask e) g then [0, 64, 65] else [])
  else layoutSlots (keyMask e) (keyOrd e) (s.chainEnt (keyChain e)).spc g

/-- Digits of a key: ⌈KORD / ALPHA⌉. -/
def keyDigits (e : List Reg64) : Nat := if keyAlpha e = 0 then 0 else cdiv (keyOrd e) (keyAlpha e)

/-- The limb counts of the levels that have constant planes, and the number of sub-keys (R246). -/
def planeLevels (spateS : Bool) : List Nat := if spateS then [48, 47, 40, 39] else [48, 47, 46, 39, 38, 37]
def subKeys (spateS : Bool) : Nat := if spateS then 49 else 74

/-- Bytes of one key's bench stream in a gang (R226, R245). -/
def State.keyBenchBytes (s : State) (e : List Reg64) (n g : Nat) : Nat :=
  if keyKind e = 5 then (if bit (keyMask e) g then n * 3 * keyN e * keyHalves e else 0)
  else keyDigits e * (s.keySlots e g).length * keyN e * keyHalves e

/-- Bytes of part 1 of a bootstrapping key (R243). -/
def bskPart1 (e : List Reg64) (p : PSet) : Nat := p.n * (2 * p.l) * (4 * psetN) * keyHalves e

/-- Bytes of part 2 of a bootstrapping key (R243). -/
def bskPart2 (e : List Reg64) (p : PSet) : Nat :=
  if keySeeded e then 32 * cdiv (psetN * p.lks) 8 else psetN * p.lks * pebRecord p.n

/-- Bytes of the constant planes of a Freshet group for one bench of a gang (R246). -/
def planeBytes (e : List Reg64) (spateS : Bool) (g : Nat) : Nat :=
  ((planeLevels spateS).map (fun l => 12 * (layoutSlots (keyMask e) l 8 g).length * keyN e)).foldl (· + ·) 0

/-- Bytes of the segment of ledge l, for a parameter set (R226, R243, R245, R246). -/
def State.segBytes (s : State) (e : List Reg64) (set l : Nat) : Nat :=
  let gangs := (List.range 4).map (fun i => 4 * l + i)
  if keyKind e = 3 then
    match psetOf (set % 3 + 1) with
    | none => 0
    | some p => bskPart1 e p + bskPart2 e p
  else
    let n := ((psetOf (set % 3 + 1)).map PSet.n).getD 0
    let spateS := decide (set % 2 = 1)
    (gangs.map (fun g =>
      4 * (if keyKind e = 6 then subKeys spateS * s.keyBenchBytes e n g + planeBytes e spateS g
        else s.keyBenchBytes e n g))).foldl (· + ·) 0

/-- Bytes of the seeds. -/
def seedBytes (e : List Reg64) (set : Nat) : Nat := if keyKind e = 6 then 32 * subKeys (decide (set % 2 = 1)) else 32

/-- Condition 4 of Table 8.3 with the ranges of Table 9.3. -/
def State.keyShapeOk (s : State) (e : List Reg64) : Bool :=
  let ch := s.chainEnt (keyChain e)
  let kind := keyKind e
  let one := decide (popcount (keyMask e) 16 = 1)
  ch.valid && decide (10 ≤ keyLogN e) && decide (keyLogN e ≤ 17) &&
  (if kind ≤ 2 then
    decide (1 ≤ keyAlpha e) && decide (keyAlpha e ≤ 16) && decide (keyAlpha e ≤ ch.spc) && decide (1 ≤ keyOrd e) &&
      decide (keyOrd e ≤ ch.ord) && decide (keyDigits e ≤ 8) &&
      (decide (kind ≠ 2) || (decide (keyGalois e % 2 = 1) && decide (keyGalois e < 2 * keyN e)))
  else
    decide (keyGalois e = 0) &&
    (if kind = 3 then
      decide (keySpace e = 1) && decide (keyLogN e = 12) && decide (s.chainPrime (keyChain e) 0 = psetPrime) &&
        decide (keyAlpha e = 1) && decide (keyOrd e = 1) && decide (keyMask e = 0)
    else if kind = 6 then
      decide (keySpace e = 2) && decide (keyLogN e = 16) && decide (keyAlpha e = 8) && decide (keyOrd e = 48) &&
        decide (ch.spc = 8) && decide (48 ≤ ch.ord)
    else
      (decide (keySpace e = 1) || decide (keySpace e = 2)) && decide (keyAlpha e = 1) && decide (keyOrd e = 1) && one &&
        decide (2 ≤ ch.spc)))

/-- Condition 5 of Table 8.3. -/
def State.keyAddrOk (s : State) (e : List Reg64) : Bool :=
  let set := Config.keySet (e.getD 0 0).toNat
  (decide (keySpace e = 1) || decide (keySpace e = 2)) &&
  (List.range 4).all (fun l => decide (keySeg e l % 32 = 0) &&
    decide (keySeg e l + s.segBytes e set l ≤ s.spaceBytes (keySpace e))) &&
  (!keySeeded e || (decide (keySeed e % 32 = 0) && decide (keySeed e + seedBytes e set ≤ s.spaceBytes 2)))

/-- The RESULT of an INSTALL (Table 8.3). -/
def State.keyVerdict (s : State) (index : Nat) (inUse : Bool) (e : List Reg64) : Nat :=
  if index = 0 then 6
  else if inUse then 1
  else if ¬ (1 ≤ keyKind e ∧ keyKind e ≤ 6) then 2
  else if ¬ s.keyShapeOk e then 3
  else if ¬ s.keyAddrOk e then 5
  else 0

/-- A run of residues of a key stream: stored at an address, regenerated from a seed, zeros, or of no known value. -/
inductive KPiece
  | stored (addr len : Nat)
  | regen (seed : Nat) (pre post : List Nat) (first len p : Nat)
  | zeros (len : Nat)
  | unknown (len : Nat)
  deriving DecidableEq, Repr

/-- Residues of a piece. -/
def KPiece.len : KPiece → Nat
  | .stored _ n => n
  | .regen _ _ _ _ n _ => n
  | .zeros n => n
  | .unknown n => n

/-- A residue on its way: the value, whether it was stored and at which address, and its poison mark. -/
structure KRes where
  el : El
  stored : Bool
  poison : Bool
  addr : Nat
  deriving DecidableEq, Repr

/-- The word of a key segment that holds a byte address. -/
def State.segWord (s : State) (space l a : Nat) : Nat × Bool :=
  if space = 1 then (s.basin l).readWord (a / 32 * 32) else s.hbmWord (a / 32 * 32)

/-- A stored residue. -/
def State.segRes (s : State) (space l a : Nat) : KRes :=
  let w := s.segWord space l a
  ⟨El.known (w.1 / 2 ^ (8 * (a % 32)) % 2 ^ 32), true, w.2, a⟩

/-- Regenerated residues first, first + 1, ... of a polynomial: block blk is SHAKE128 of the seed, the prefix, blk and the
suffix (R227, R244). -/
def regenVals (seed pre post : List Nat) (p first n : Nat) : List Nat :=
  let b0 := first / 1024
  let blocks := (List.range ((first + n + 1023) / 1024 - b0)).map (· + b0)
  let all := blocks.flatMap (fun blk =>
    let out := shake128 (seed ++ pre ++ [blk] ++ post) 8192
    (List.range 1024).map (fun t => fold3 p (ofBytes ((out.drop (8 * t)).take 8))))
  (all.drop (first - 1024 * b0)).take n

/-- Part of a piece. -/
def State.pieceVals (s : State) (space l : Nat) (pc : KPiece) (off n : Nat) : List KRes :=
  match pc with
  | .stored a _ => (List.range n).map (fun i => s.segRes space l (a + 4 * (off + i)))
  | .regen seed pre post first _ p =>
    (regenVals ((s.hbmBytes seed 32).map BitVec.toNat) pre post p (first + off) n).map (fun v => ⟨El.known v, false, false, 0⟩)
  | .zeros _ => List.replicate n ⟨El.known 0, false, false, 0⟩
  | .unknown _ => List.replicate n ⟨El.free, false, false, 0⟩

/-- n residues from an offset of a stream. -/
def State.streamVals (s : State) (space l : Nat) : List KPiece → Nat → Nat → List KRes
  | [], _, _ => []
  | pc :: rest, off, n =>
    if pc.len ≤ off then s.streamVals space l rest (off - pc.len) n
    else
      let k := min n (pc.len - off)
      s.pieceVals space l pc off k ++ s.streamVals space l rest 0 (n - k)

/-- Where the bench stream of a bench begins in its ledge's segment (R225). -/
def State.benchStream (s : State) (e : List Reg64) (n g pos : Nat) : Nat :=
  let l := g / 4
  keySeg e l + ((List.range (g % 4)).map (fun i => 4 * s.keyBenchBytes e n (4 * l + i))).foldl (· + ·) 0 +
    pos * s.keyBenchBytes e n g

/-- The pieces of a key pair's quarters in a bench stream at an address: digit d at a chain position (R225, R227, R230). -/
def State.pairAt (s : State) (e : List Reg64) (seed base g pos d cp : Nat) : List KPiece :=
  let n := keyN e
  let slots := s.keySlots e g
  let q := n / 4
  let regen : KPiece := .regen seed [d, cp] [0x4B] (pos * q) q (s.chainPrime (keyChain e) cp)
  match slots.findIdx? (fun x => decide (x = cp)) with
  | none => [.unknown q, if keySeeded e then regen else .unknown q]
  | some i =>
    let a := base + (d * slots.length + i) * n * keyHalves e
    [.stored a q, if keySeeded e then regen else .stored (a + n) q]

/-- The pieces of a key pair's quarters of a key of kind 1, 2 or 4. -/
def State.pairPieces (s : State) (e : List Reg64) (g pos d cp : Nat) : List KPiece :=
  s.pairAt e (keySeed e) (s.benchStream e 0 g pos) g pos d cp

/-- A sum over the gangs of a ledge of a figure for one bench, four benches a gang. -/
def ledgeSum (l : Nat) (f : Nat → Nat) : Nat := ((List.range 4).map (fun i => 4 * f (4 * l + i))).foldl (· + ·) 0

/-- Bytes of one constant plane for one bench of a gang at a limb count. -/
def planeBench (e : List Reg64) (limbs g : Nat) : Nat := (layoutSlots (keyMask e) limbs 8 g).length * keyN e

/-- The piece of a constant plane: level and diagonal, for a chain position (R246). -/
def planePiece (e : List Reg64) (spateS : Bool) (subLen lvl diag g pos cp : Nat) : KPiece :=
  let l := g / 4
  let limbs := (planeLevels spateS).getD lvl 0
  let plane := fun (x : Nat) => ledgeSum l (planeBench e x)
  let base := keySeg e l + subKeys spateS * subLen +
    (((planeLevels spateS).take lvl).map (fun x => 12 * plane x)).foldl (· + ·) 0 + diag * plane limbs +
    ((List.range (g % 4)).map (fun i => 4 * planeBench e limbs (4 * l + i))).foldl (· + ·) 0 + pos * planeBench e limbs g
  match (layoutSlots (keyMask e) limbs 8 g).findIdx? (fun x => decide (x = cp)) with
  | none => .unknown (keyN e / 4)
  | some i => .stored (base + i * keyN e) (keyN e / 4)

/-- The pieces of a FRESHET I stage (R246, R247): the set, the sub-key, the level and diagonal of its plane (level 99 for a
plane that the spec does not place), the digits, the chain positions in stream order. -/
def State.freshetPieces (s : State) (e : List Reg64) (g pos : Nat) (shape : List Nat) : List KPiece :=
  match shape with
  | set :: k :: lvl :: diag :: nd :: cps =>
    let spateS := decide (set = 0x11)
    let subLen := ledgeSum (g / 4) (s.keyBenchBytes e 0)
    cps.flatMap (fun cp =>
      (List.range nd).flatMap (fun d =>
        s.pairAt e (keySeed e + 32 * k) (s.benchStream e 0 g pos + k * subLen) g pos d cp) ++
      [if lvl = 99 then .unknown (keyN e / 4) else planePiece e spateS subLen lvl diag g pos cp])
  | _ => []

/-- The pieces of a bootstrapping key in stream order (R243, R244, R247). -/
def bskPieces (e : List Reg64) (p : PSet) (l : Nat) : List KPiece :=
  let base := keySeg e l
  let n := psetN
  let base2 := base + bskPart1 e p
  let le16 := fun (i : Nat) => [i % 256, i / 256]
  (List.range p.n).flatMap (fun i => (List.range (2 * p.l)).flatMap (fun r =>
    let a := base + (i * (2 * p.l) + r) * (4 * n) * keyHalves e
    [KPiece.stored a n,
      if keySeeded e then .regen (keySeed e) (le16 i ++ [r]) [0x43] 0 n psetPrime else .stored (a + 4 * n) n])) ++
  (List.range n).flatMap (fun j => (List.range p.lks).flatMap (fun u =>
    let k := j * p.lks + u
    let pad := KPiece.zeros (pebRecord p.n / 4 - (p.n + 1))
    if keySeeded e then
      [.regen (keySeed e) (le16 j ++ [u]) [0x4C] 0 p.n psetPrime, .stored (base2 + 4 * k) 1, pad]
    else [.stored (base2 + k * pebRecord p.n) (p.n + 1), pad]))

/-- The pieces of a packing key in stream order (R244, R245, R247). -/
def State.packPieces (s : State) (e : List Reg64) (n g pos : Nat) : List KPiece :=
  let base := s.benchStream e n g pos
  let q := keyN e / 4
  (List.range n).flatMap (fun i => (List.range 3).flatMap (fun k =>
    let a := base + (i * 3 + k) * keyN e * keyHalves e
    [KPiece.stored a q,
      if keySeeded e then .regen (keySeed e) [i % 256, i / 256, k] [0x45] (pos * q) q
        (s.chainPrime (keyChain e) ([0, 64, 65].getD k 0))
      else .stored (a + keyN e) q]))

/-- The pieces of a stream (R230, R247). The shape lists the macro's opcode, then: for KSW, ROT and EXTRACT the digits and the
chain positions in stream order; for PBS the parameter set; for PACK the dimension; for FRESHET what
freshetPieces takes. -/
def State.streamPieces (s : State) (pb : Nat) (k : KStream) : List KPiece :=
  let e := s.keyEnt k.entry
  let g := s.gangIdx pb
  let pos := s.posOf pb
  match k.shape with
  | op :: x :: rest =>
    if op = 0xE5 then
      match psetOf x with
      | none => []
      | some p => bskPieces e p (ledgeOf pb)
    else if op = 0xE7 then s.packPieces e x g pos
    else if op = 0xE4 then s.freshetPieces e g pos (x :: rest)
    else rest.flatMap (fun cp => (List.range x).flatMap (fun d => s.pairPieces e g pos d cp))
  | _ => []

/-- The units of a stream: 128 residues each. -/
def unitsOf (ps : List KPiece) : Nat := cdiv ((ps.map KPiece.len).foldl (· + ·) 0) 128

/-- Unit u of a stream. -/
def State.streamUnit (s : State) (pb : Nat) (k : KStream) (u : Nat) : List KRes :=
  s.streamVals (keySpace (s.keyEnt k.entry)) (ledgeOf pb) (s.streamPieces pb k) (128 * u) 128

end Sys2Proof.Machine
end

