-- ==== Sys2Proof/Machine/Riffle.lean ====
section
/-! DEFINITION. The Riffle: TRANSPOSE, AUTOMORPH and PERMUTE (R106-R109 of spec/04_bench_engines.md, R181 and R182 of
spec/06_command_reference.md, R279 of spec/10_float_tensors.md). -/

namespace Sys2Proof.Machine

/-- Words of a block of 1,024 residues (R106). -/
def blockWords : Nat := 128

/-- Element size of a TRANSPOSE. -/
def trSize (w : CmdWord) : Nat := if bit (subopOf w) 0 then 2 else 4

/-- LOG_N and k of an AUTOMORPH. -/
def amLogN (w : CmdWord) : Nat := imm w 22 18
def amK (w : CmdWord) : Nat := imm w 17 0

/-- The word checks of a Riffle command (R181, R529). -/
def riffleWordChecks (w : CmdWord) : List (Bool × Reject) :=
  let op := opcodeOf w
  [(decide (cflagsOf w = 0), illegal 3)] ++
  (if op = 0xA2 then
    [(decide (subopOf w / 2 = 0) && decide (imm w 47 39 = 0) && decide (imm w 31 23 = 0), illegal 3),
     (decide (10 ≤ amLogN w) && decide (amLogN w ≤ 12), illegal 3),
     (decide (amK w % 2 = 1) && decide (amK w < 2 ^ (amLogN w + 1)), illegal 3)]
  else if op = 0xA1 then [(decide (subopOf w / 2 = 0) && decide (immOf w = 0), illegal 3)]
  else [(decide (subopOf w = 0) && decide (immOf w = 0), illegal 3)])

/-- The words of one unit that a command moves as a whole: a tile, a polynomial, a block. -/
def riffleUnit (w : CmdWord) : Nat :=
  let op := opcodeOf w
  if op = 0xA1 then tileWords (trSize w) else if op = 0xA2 then 2 ^ amLogN w / 8 else blockWords

/-- m and h of each four-block window of a command (R108, R182). -/
def riffleWindows (src dst : List (Option Nat)) : List (Nat × Nat) :=
  ((chunksOf 512 src).zip (chunksOf 512 dst)).map (fun x =>
    let heads := ((chunksOf blockWords x.1) ++ (chunksOf blockWords x.2)).filterMap (fun b => b.head?.join)
    (max (windowM (wordsOf x.1)) (windowM (wordsOf x.2)), if heads.all (fun a => decide (a % 256 = 0)) then 1 else 2))

/-- The distinct index-block addresses of a PERMUTE. -/
def indexBlocks (ws : List (Option Nat)) : Nat :=
  ((chunksOf 64 ws).filterMap (fun b => b.head?)).eraseDups.length

/-- A Riffle command at stage 5. -/
def planRiffle (c : Ctx) : Except Reject Plan := do
  let w := c.w
  let perm := decide (opcodeOf w = 0xA3)
  mustAll (riffleWordChecks w)
  adCheck c.s [0] c.d0 c.lp 0
  if perm then adCheck c.s [0] c.d1 c.lp 1
  adCheck c.s [0] c.d2 c.lp 2
  must (decide (adPerIter c.d0 % blockWords = 0) && decide (adPerIter c.d0 % riffleUnit w = 0)) (illegal 0)
  must (!perm || decide (adPerIter c.d1 = adPerIter c.d0 / 2)) (illegal 1)
  must (decide (adPerIter c.d2 = adPerIter c.d0)) (illegal 2)
  must (decide (opcodeOf w ≠ 0xA2) || (c.s.primeEnt (imm w 38 32)).valid) (illegal 3)
  let b := c.s.bench c.pb
  let src := adAll b.pool c.d0 c.lp 0
  let dst := adAll b.pool c.d2 c.lp 2
  let e := c.exec engRF
  .ok (Plan.of { e with
      reads := adIntervals c.d0 c.lp 0 ++ adIdxInterval c.d0 ++
        (if perm then adIntervals c.d1 c.lp 1 ++ adIdxInterval c.d1 else []) ++ adIdxInterval c.d2
      writes := adIntervals c.d2 c.lp 2
      primes := if opcodeOf w = 0xA2 then [imm w 38 32] else []
      busy := riffleTime (if perm then indexBlocks (adAll b.pool c.d1 c.lp 1) else 0) (riffleWindows src dst) +
        adIdxTime 1 c.d0 c.lp + (if perm then adIdxTime 1 c.d1 c.lp else 0) + adIdxTime 1 c.d2 c.lp })

/-- A 64 x 64 tile transposed. -/
def transposeTile (l : List El) : List El := (List.range 4096).map (fun i => l.getD (64 * (i % 64) + i / 64) El.free)

/-- An automorphism with its marks: out-position j takes in-position src j, negated or not. -/
def moveEls (l : List El) (src : Nat → Nat × Bool) (neg : Nat → Nat) : List El :=
  (List.range l.length).map (fun j =>
    let x := l.getD (src j).1 El.free
    if (src j).2 then x.map neg else x)

/-- Where output coefficient j of x to x^k comes from: the index i with i*k = j or j + N modulo 2N (R107). -/
def autoCoeff (n k : Nat) (j : Nat) : Nat × Bool :=
  match (List.range n).find? (fun i => decide (i * k % n = j)) with
  | none => (j, false)
  | some i => (i, decide (i * k % (2 * n) ≠ j))

/-- Where output slot j comes from in NTT form: slot j stands for the power 2 brv(j) + 1 of psi (R43). -/
def autoSlot (logN k : Nat) (j : Nat) : Nat :=
  brv (((2 * brv j logN + 1) * k % 2 ^ (logN + 1)) / 2) logN

/-- One polynomial of an AUTOMORPH. -/
def automorphEls (w : CmdWord) (p : Nat) (l : List El) : List El :=
  let l := l.map (El.map (residue p))
  if bit (subopOf w) 0 then moveEls l (fun j => (autoSlot (amLogN w) (amK w) j, false)) id
  else moveEls l (autoCoeff (2 ^ amLogN w) (amK w)) (negMod p)

/-- Whether 1,024 indices form a permutation. -/
def isPerm (idx : List Nat) : Bool := (List.range 1024).all idx.contains

/-- One block of a PERMUTE. -/
def permuteBlock (idx : List El) (l : List El) : List El :=
  let ix := idx.map (fun x => x.v % 1024)
  if isPerm ix then (List.range 1024).map (fun i =>
    let x := l.getD (ix.getD i 0) El.free
    ⟨x.v, x.bad || (idx.getD i El.free).bad⟩)
  else l.map (fun _ => El.free)

/-- One unit of a Riffle command. -/
def riffleStep (e : Exec) (src idx dst : List (Option Nat)) (s : State) (pb : Nat) : Effect :=
  let w := e.word
  let op := opcodeOf w
  let b := s.bench pb
  let k := if op = 0xA1 then trSize w else 4
  let els := readRun b.pool e.badWords k src
  let pe := s.primeEnt (imm w 38 32)
  let out := if op = 0xA1 then transposeTile els
    else if op = 0xA2 then
      automorphEls w pe.p els
    else permuteBlock (readRun b.pool e.badWords 2 idx) els
  Effect.ofRuns (runsAt dst k out)

/-- What a Riffle command does when it completes, unit by unit. -/
def stepsRiffle (s : State) (pb : Nat) (e : Exec) : List (State → Effect) :=
  let w := e.word
  let b := s.bench pb
  let perm := decide (opcodeOf w = 0xA3)
  let src := chunksOf (riffleUnit w) (adAll b.pool (e.d 0) e.loop 0)
  let idx := if perm then chunksOf 64 (adAll b.pool (e.d 1) e.loop 1) else []
  let dst := chunksOf (riffleUnit w) (adAll b.pool (e.d 2) e.loop 2)
  (fun _ => alignOf b e (if perm then [0, 1, 2] else [0, 2])) ::
    (src.zip dst).zipIdx.map (fun x => fun s => riffleStep e x.1.1 (idx.getD x.2 []) x.1.2 s pb)

/-- Half windows of a completed Riffle command (R108). -/
def halfWindows (s : State) (pb : Nat) (e : Exec) : Nat :=
  let b := s.bench pb
  ((riffleWindows (adAll b.pool (e.d 0) e.loop 0) (adAll b.pool (e.d 2) e.loop 2)).filter (fun x => decide (x.2 = 2))).length

end Sys2Proof.Machine
end

