-- ==== Sys2Proof/Machine/Macro.lean ====
section
/-! DEFINITION. The slab macros KSW, ROT and RESCALE (R187-R192 of spec/06_command_reference.md, R234-R239 of
spec/08_key_switching.md): checks, busy times, what their exchanges carry, and what each stage writes. -/

namespace Sys2Proof.Machine

/-- STAGE. -/
def stageOf (w : CmdWord) : Nat := subopOf w
/-- KEY. -/
def keyOf (w : CmdWord) : Nat := imm w 15 0
/-- PSET. -/
def psetField (w : CmdWord) : Nat := imm w 23 16
/-- RELIN of a KSW, HOIST of a ROT: IMM[45]. -/
def macroBit (w : CmdWord) : Bool := bit (immOf w) 45
/-- The Galois element of a ROT. -/
def rotK (w : CmdWord) : Nat := imm w 41 24
/-- The companion's Pool address of a KSW. -/
def relinAddr (w : CmdWord) : Nat := imm w 44 24 * 32

/-- Stages of a macro (Table 6.8, Table 9.2). -/
def stageCount (w : CmdWord) : Nat :=
  let op := opcodeOf w
  if op = 0xE1 ∨ op = 0xE2 then 4
  else if op = 0xE4 then (if psetField w = 0x10 then 245 else if psetField w = 0x11 then 137 else 0)
  else if op = 0xE6 ∨ op = 0xE7 then 2 else 1

/-- IMM[47:24] as the macro's own argument allows it (Table 6.8, R529). -/
def macroArgOk (w : CmdWord) : Bool :=
  let op := opcodeOf w
  if op = 0xE1 then decide (imm w 47 46 = 0) && (macroBit w || decide (imm w 44 24 = 0))
  else if op = 0xE2 then decide (imm w 47 46 = 0) && decide (imm w 44 42 = 0)
  else if op = 0xE6 then decide (imm w 47 41 = 0)
  else decide (imm w 47 24 = 0)

/-- The word checks of every macro (R152, R187, R189, R529). -/
def macroWordChecks (w : CmdWord) : List (Bool × Reject) :=
  let op := opcodeOf w
  [(decide (cflagsOf w = 0), illegal 3),
   (decide (loopIdx w = 0), illegal 3),
   (!([0xE1, 0xE2, 0xE3].contains op) || decide (psetField w = 0), illegal 3),
   (decide (op ≠ 0xE4) || decide (psetField w = 0x10) || decide (psetField w = 0x11), illegal 3),
   (!([0xE5, 0xE6, 0xE7].contains op) || (psetOf (psetField w)).isSome, illegal 3),
   (decide (stageOf w < stageCount w), illegal 3),
   (macroArgOk w, illegal 3),
   (decide (op ≠ 0xE3) || decide (keyOf w = 0), illegal 3)]

/-- Whether KEY names an installed entry of a kind whose tenant is the bench's (R189, R220, R224). -/
def keyOk (s : State) (pb : Nat) (w : CmdWord) (kind : Nat) : Bool :=
  let e := s.keyEnt (keyOf w)
  decide (keyOf w < 4096) && decide (keyKind e ≠ 0) && decide (keyKind e = kind) && decide (keyTenant e = s.benchTenant pb)

/-- The special primes of a chain, multiplied. -/
def State.specialProduct (s : State) (c n : Nat) : Nat :=
  ((List.range n).map (fun i => s.chainPrime c (64 + i))).foldl (· * ·) 1

/-- A product of the listed numbers but one. -/
def productBut (l : List Nat) (i : Nat) : Nat := (l.eraseIdx i).foldl (· * ·) 1

/-- The words of a scratch region, in order. -/
def scratchWords (pool : EMem) (d : List Nat) : List (Option Nat) := adWords pool d 0

/-- The address of residue i of a scratch region. -/
def scratchAddr (ws : List (Option Nat)) (i : Nat) : Option Nat := (ws.getD (i / 8) none).map (· + 4 * (i % 8))

/-- n residues of a scratch region from an offset; zeros for a suppressed word. -/
def readScratch (pool : EMem) (ws : List (Option Nat)) (off n : Nat) : List El :=
  (List.range n).map (fun i =>
    match scratchAddr ws (off + i) with
    | none => El.known 0
    | some a => readEl pool [] 4 a)

/-- Residues written to a scratch region from an offset. -/
def scratchRuns (ws : List (Option Nat)) (off : Nat) (els : List El) : List WRun :=
  els.zipIdx.filterMap (fun x => (scratchAddr ws (off + x.2)).map (fun a => ⟨false, a, 4, [x.1]⟩))

/-- The whole of a scratch region with one value in every residue. -/
def scratchAll (ws : List (Option Nat)) (v : El) : List WRun := ws.filterMap (fun w => w.map (fun a => ⟨false, a, 4, List.replicate 8 v⟩))

/-- What a key switch works with: the slab as ModUp leaves it, the key, the gang and position, and the scratch words. -/
structure KCtx where
  o : Obj
  e : List Reg64
  spc : Nat
  gang : Nat
  pos : Nat
  ws : List (Option Nat)
  deriving DecidableEq, Repr

/-- The key-switch context of a slab descriptor under a key on a bench. -/
def State.kctx (s : State) (pb : Nat) (o : Obj) (e : List Reg64) (d1 : List Nat) : KCtx :=
  ⟨o, e, (s.chainEnt o.chain).spc, s.gangIdx pb, s.posOf pb, scratchWords (s.bench pb).pool d1⟩

/-- The shape in the symbols of Table 8.1. -/
def KCtx.shape (k : KCtx) (tau : Nat) : KShape :=
  let up := { k.o with tspc := k.spc }
  let ls := up.limbsIn k.gang
  ⟨k.o.logN, (gangsOf k.o.mask).length, (ls.filter (fun x => decide (x.1 < 64))).length,
    (ls.filter (fun x => decide (64 ≤ x.1))).length, keyAlpha k.e, k.o.tlimbs, k.spc, tau⟩

/-- The local slots after ModUp: chain position and slot, ordinary ones first. -/
def KCtx.slots (k : KCtx) : List (Nat × Nat) := { k.o with tspc := k.spc }.limbsIn k.gang
/-- The ordinary ones. -/
def KCtx.ordinary (k : KCtx) : List (Nat × Nat) := k.slots.filter (fun x => decide (x.1 < 64))
/-- The special ones. -/
def KCtx.special (k : KCtx) : List (Nat × Nat) := k.slots.filter (fun x => decide (64 ≤ x.1))
/-- N/4. -/
def KCtx.q (k : KCtx) : Nat := k.o.n / 4
/-- D. -/
def KCtx.digits (k : KCtx) : Nat := (k.shape 0).digits
/-- c. -/
def KCtx.c (k : KCtx) : Nat := (k.shape 0).c
/-- The chain positions of digit d. -/
def KCtx.digit (k : KCtx) (d : Nat) : List Nat := (List.range ((k.shape 0).ad d)).map (· + d * keyAlpha k.e)
/-- The digit of an ordinary position. -/
def KCtx.digitOf (k : KCtx) (pos : Nat) : Nat := if keyAlpha k.e = 0 then 0 else pos / keyAlpha k.e
/-- The targets of digit d in chain order. -/
def KCtx.targets (k : KCtx) (d : Nat) : List Nat :=
  ((List.range k.o.tlimbs).filter (fun p => !(k.digit d).contains p)) ++ (List.range k.spc).map (· + 64)
/-- The raised digit limbs of this bench: slot by slot, each digit that does not contain it (Table 8.4, A3). -/
def KCtx.raised (k : KCtx) : List (Nat × Nat) :=
  k.slots.flatMap (fun x => ((List.range k.digits).filter (fun d => !(k.digit d).contains x.1)).map (fun d => (x.1, d)))

/-- The offsets of the areas of Table 8.4, in residues. -/
def KCtx.a1 (k : KCtx) : Nat := k.ordinary.length * k.q
def KCtx.a2 (k : KCtx) : Nat := k.a1 + k.o.tlimbs * k.c
def KCtx.a3 (k : KCtx) : Nat := k.a2 + ((List.range k.digits).map (fun d => (k.targets d).length * k.c)).foldl (· + ·) 0
def KCtx.a4 (k : KCtx) : Nat := k.a3 + k.raised.length * k.q
def KCtx.areaEnd (k : KCtx) : Nat := k.a4 + 2 * k.spc * k.q

/-- The prime-table entry of a chain position. -/
def State.posPrime (s : State) (k : KCtx) (pos : Nat) : PrimeEnt := s.primeEnt (s.chainSlot k.o.chain pos)

/-- A quarter of a polynomial of OP0's limb. -/
def KCtx.quarter (k : KCtx) (s : State) (b : Bench) (slot poly : Nat) (pos : Nat) : List El :=
  readQuarter b [] (s.posPrime k pos).p (k.o.polyAddr slot poly) k.o.logN

/-- The quarter that a key switch switches: polynomial 1, or the companion with RELIN (R235). -/
def KCtx.switched (k : KCtx) (s : State) (b : Bench) (w : CmdWord) (x : Nat × Nat) : List El :=
  if opcodeOf w = 0xE1 ∧ macroBit w then
    readQuarter b [] (s.posPrime k x.1).p ({ k.o with kind := 2, base := relinAddr w }.polyAddr x.2 0) k.o.logN
  else k.quarter s b x.2 1 x.1

/-- The quarter of the raised limb number i in A3. -/
def KCtx.a3Quarter (k : KCtx) (b : Bench) (i : Nat) : List El := readScratch b.pool k.ws (k.a3 + i * k.q) k.q

/-- The quarter of polynomial b of special position 64 + i in A4. -/
def KCtx.a4Quarter (k : KCtx) (bn : Bench) (i b : Nat) : List El := readScratch bn.pool k.ws (k.a4 + (2 * i + b) * k.q) k.q

/-- The sum Σ y_j (q̂_j mod p) mod p in fold form, where y_j are fold-form values modulo the primes ps (R235). -/
def convSum (ps : List Nat) (p : Nat) (ys : List El) : El :=
  let terms := ps.zipIdx.map (fun q => fold3 q.1 (residue q.1 (ys.getD q.2 El.free).v) * (productBut ps q.2 % p))
  ⟨toFold p (terms.foldl (· + ·) 0 % p), ys.any El.bad⟩

/-- A constant in fold form modulo p. -/
def foldConst (p c : Nat) : Nat := toFold p (c % p)

/-- The values of stage 3's conversion of one polynomial to the prime of an ordinary position (R235): each special value times
the inverse of the other special primes, then the sum (log 26). -/
def KCtx.modDown (k : KCtx) (s : State) (b : Bench) (pos poly : Nat) : List El :=
  let ps := (List.range k.spc).map (fun i => (s.posPrime k (64 + i)).p)
  let qs := ps.zipIdx.map (fun x =>
    let inv := foldConst x.1 (invMod x.1 (productBut ps x.2 % x.1))
    (k.a4Quarter b x.2 poly).map (El.map (fun v => mulMod x.1 (residue x.1 v) inv)))
  (List.range k.q).map (fun i => convSum ps (s.posPrime k pos).p (qs.map (fun l => l.getD i El.free)))

/-- The key quarter of slot number i, digit d, half h, as a stream delivered it (R230). -/
def Exec.keyQuarter (e : Exec) (q nd i d h : Nat) : List El :=
  ((e.keys.flatMap (fun u => u.vals.map (fun x => (⟨x.v, x.bad || u.poison⟩ : El)))).drop (((i * nd + d) * 2 + h) * q)).take q

/-- The order of slots in a stream: specials first, then ordinary ones in chain order (R230). -/
def KCtx.streamSlots (k : KCtx) : List (Nat × Nat) := k.special ++ k.ordinary

/-- A polynomial permuted by the automorphism of a ROT in NTT form; unchanged for a KSW (R237). -/
def rotEls (w : CmdWord) (logN : Nat) (l : List El) : List El :=
  if opcodeOf w = 0xE2 then (List.range l.length).map (fun j => l.getD (autoSlot logN (rotK w) j) El.free) else l

/-- The bench's quarter of a whole polynomial. -/
def ownQuarter (pos q : Nat) (l : List El) : List El := (l.drop (pos * q)).take q

/-- The accumulators of stage 2 on this bench, slot by slot in stream order, both polynomials (R235, R237). The first exchange
carried the raised limbs of A3, and for a ROT polynomial 1 and polynomial 0 of every ordinary limb. -/
def kswAccs (s : State) (pb : Nat) (e : Exec) : List (List El × List El) :=
  let k := s.kctx pb (Obj.ofDesc (e.d 0)) (s.keyEnt (keyOf e.word)) (e.d 1)
  let b := s.bench pb
  let posts := e.gathered.getD 0 []
  let raised := k.raised
  let rot := decide (opcodeOf e.word = 0xE2)
  let relin := decide (opcodeOf e.word = 0xE1) && macroBit e.word
  let nr := raised.length
  let no := k.ordinary.length
  let bigP := s.specialProduct k.o.chain k.spc
  k.streamSlots.zipIdx.map (fun x =>
    let cp := x.1.1
    let pe := s.posPrime k cp
    let oi := (k.ordinary.findIdx? (fun y => decide (y.1 = cp))).getD 0
    let ext := fun (d : Nat) =>
      match raised.findIdx? (fun r => decide (r = (cp, d))) with
      | some i => ownQuarter k.pos k.q (rotEls e.word k.o.logN
          (elsWhole (nttForward pe.p pe.root k.o.logN) ((gatherPoly posts i).map (El.map (residue pe.p)))))
      | none =>
        if rot then ownQuarter k.pos k.q (rotEls e.word k.o.logN (gatherPoly posts (nr + oi)))
        else k.switched s b e.word x.1
    let init0 : List El :=
      if cp < 64 then
        let c0 := if rot then ownQuarter k.pos k.q (rotEls e.word k.o.logN (gatherPoly posts (nr + no + oi)))
          else k.quarter s b x.1.2 0 cp
        c0.map (El.map (fun v => mulMod pe.p v (foldConst pe.p bigP)))
      else List.replicate k.q (El.known 0)
    let init1 : List El :=
      if cp < 64 ∧ relin then (k.quarter s b x.1.2 1 cp).map (El.map (fun v => mulMod pe.p v (foldConst pe.p bigP)))
      else List.replicate k.q (El.known 0)
    let mac := fun (h : Nat) (acc : List El) =>
      (List.range k.digits).foldl (fun acc d => ringAcc pe.p acc (ext d)
        ((e.keyQuarter k.q k.digits x.2 d h).map (El.map (residue pe.p)))) acc
    (mac 0 init0, mac 1 init1))

/-- What a key-switch stage puts into its exchange number n on this bench. -/
def kswPost (s : State) (pb : Nat) (e : Exec) (n : Nat) : List (List El) :=
  let k := s.kctx pb (Obj.ofDesc (e.d 0)) (s.keyEnt (keyOf e.word)) (e.d 1)
  let b := s.bench pb
  let st := stageOf e.word
  if st = 0 then k.ordinary.map (k.switched s b e.word)
  else if st = 2 ∧ n = 0 then
    (List.range k.raised.length).map (k.a3Quarter b) ++
      (if opcodeOf e.word = 0xE2 then
        k.ordinary.map (k.switched s b e.word) ++ k.ordinary.map (fun x => k.quarter s b x.2 0 x.1)
      else [])
  else if st = 2 then
    ((kswAccs s pb e).take k.special.length).flatMap (fun x => [x.1, x.2])
  else if st = 3 then k.ordinary.flatMap (fun x => [k.modDown s b x.1 0, k.modDown s b x.1 1])
  else []

/-- The result descriptor of a key-switch stage (R54, R235). -/
def kswResult (s : State) (w : CmdWord) (o0 o2 : Obj) : Obj :=
  if stageOf w ≤ 1 then o0
  else if stageOf w = 2 then { o0 with base := o2.base, tspc := (s.chainEnt o0.chain).spc }
  else { o0 with base := o2.base, tspc := 0, domain := 1 }

/-- Stage 0: A0 (R235). -/
def kswStage0 (s : State) (pb : Nat) (e : Exec) : List WRun :=
  let k := s.kctx pb (Obj.ofDesc (e.d 0)) (s.keyEnt (keyOf e.word)) (e.d 1)
  let posts := e.gathered.getD 0 []
  k.ordinary.zipIdx.flatMap (fun x =>
    let cp := x.1.1
    let pe := s.posPrime k cp
    let ds := (k.digit (k.digitOf cp)).map (fun p => (s.posPrime k p).p)
    let qhat := productBut ds (cp - k.digitOf cp * keyAlpha k.e)
    let whole := elsWhole (transform true pe.p pe.root k.o.logN (invMod pe.p (qhat % pe.p))) (gatherPoly posts x.2)
    scratchRuns k.ws (x.2 * k.q) (ownQuarter k.pos k.q whole))

/-- Stage 1: A2 (R235). -/
def kswStage1 (s : State) (pb : Nat) (e : Exec) : List WRun :=
  let k := s.kctx pb (Obj.ofDesc (e.d 0)) (s.keyEnt (keyOf e.word)) (e.d 1)
  let b := s.bench pb
  let rows := (List.range k.digits).flatMap (fun d => (k.targets d).map (fun t => (d, t)))
  rows.zipIdx.flatMap (fun x =>
    let ds := k.digit x.1.1
    let ps := ds.map (fun p => (s.posPrime k p).p)
    let ys := ds.map (fun p => readScratch b.pool k.ws (k.a1 + p * k.c) k.c)
    scratchRuns k.ws (k.a2 + x.2 * k.c) ((List.range k.c).map (fun i =>
      convSum ps (s.posPrime k x.1.2).p (ys.map (fun l => l.getD i El.free)))))

/-- Stage 2: the accumulators, the special ones in coefficient form (R235). -/
def kswStage2 (s : State) (pb : Nat) (e : Exec) : List WRun :=
  let k := s.kctx pb (Obj.ofDesc (e.d 0)) (s.keyEnt (keyOf e.word)) (e.d 1)
  let r := kswResult s e.word (Obj.ofDesc (e.d 0)) (Obj.ofDesc (e.d 2))
  let posts := e.gathered.getD 1 []
  let accs := kswAccs s pb e
  let ns := k.special.length
  (k.streamSlots.zip accs).zipIdx.flatMap (fun x =>
    let pe := s.posPrime k x.1.1.1
    let outs := if x.2 < ns then
        (List.range 2).map (fun h => ownQuarter k.pos k.q
          (elsWhole (nttInverse pe.p pe.root k.o.logN) (gatherPoly posts (2 * x.2 + h))))
      else [x.1.2.1, x.1.2.2]
    outs.zipIdx.map (fun y => ⟨false, r.polyAddr x.1.1.2 y.2, 4, y.1⟩))

/-- Stage 3: ModDown (R235). -/
def kswStage3 (s : State) (pb : Nat) (e : Exec) : List WRun :=
  let k := s.kctx pb (Obj.ofDesc (e.d 0)) (s.keyEnt (keyOf e.word)) (e.d 1)
  let r := kswResult s e.word (Obj.ofDesc (e.d 0)) (Obj.ofDesc (e.d 2))
  let b := s.bench pb
  let posts := e.gathered.getD 0 []
  let bigP := s.specialProduct k.o.chain k.spc
  k.ordinary.zipIdx.flatMap (fun x =>
    let pe := s.posPrime k x.1.1
    let kinv := foldConst pe.p (invMod pe.p (bigP % pe.p))
    (List.range 2).map (fun h =>
      let conv := ownQuarter k.pos k.q
        (elsWhole (nttForward pe.p pe.root k.o.logN) (gatherPoly posts (2 * x.2 + h)))
      ⟨false, r.polyAddr x.1.2 h, 4,
        List.zipWith (El.map2 (fun a t => mulMod pe.p (subMod pe.p a t) kinv)) (k.quarter s b x.1.2 h x.1.1) conv⟩))

/-- What ROT's digits were made of (R238): shape, key shape and the data of polynomial 1. -/
def rotMade (s : State) (pb : Nat) (o : Obj) (e : List Reg64) (d1 : List Nat) : List Nat :=
  let k := s.kctx pb o e d1
  [o.tlimbs, o.tcount, o.lfirst, o.logN, o.chain, o.mask, keyAlpha e, keyOrd e] ++
    (k.ordinary.flatMap (fun x => k.quarter s (s.bench pb) x.2 1 x.1)).map El.v

/-- The stage that must have run before a stage on its scratch region, none for the first (R188, R238). -/
def stageBefore (w : CmdWord) : Option Nat :=
  let st := stageOf w
  if st = 0 then none
  else if opcodeOf w = 0xE2 ∧ macroBit w ∧ st = 2 then some 0
  else some (st - 1)

/-- Whether a macro stage keeps its sequence (R188): its predecessor was the last stage on its scratch region; a hoisted inner
product also needs the digits that the last full ROT made there of the same data (R238). -/
def Bench.inSequence (b : Bench) (w : CmdWord) (start : Nat) (made : List Nat) : Bool :=
  match stageBefore w with
  | none => true
  | some st =>
    (b.chainLog.find? (fun x => decide (x.start = start))).any (fun x =>
      decide (x.op = opcodeOf w) && decide (x.stage = st) &&
        (!(decide (opcodeOf w = 0xE2) && macroBit w && decide (st = 0)) || decide (x.made = made)))

/-- A macro stage noted on its scratch region: a hoisted stage keeps what the last full ROT made. -/
def Bench.noteStage (b : Bench) (w : CmdWord) (start : Nat) (made : List Nat) : Bench :=
  let old := b.chainLog.find? (fun x => decide (x.start = start))
  let kept := match old with
    | none => []
    | some x => if x.op = opcodeOf w then x.made else []
  let hoist := decide (opcodeOf w = 0xE2) && macroBit w
  let now := if opcodeOf w = 0xE2 ∧ stageOf w = 2 ∧ !hoist then made else kept
  { b with chainLog := (b.chainLog.filter (fun x => decide (x.start ≠ start))) ++ [⟨start, opcodeOf w, stageOf w, now⟩] }

/-- Everything a macro stage with a key needs of its key switch at issue: the exchanges and key units of its stages. -/
def kswTodo (b : Bench) (k : KCtx) (w : CmdWord) : List Todo :=
  let lo := k.ordinary.length
  let ls := k.special.length
  let hoist := decide (opcodeOf w = 0xE2) && macroBit w
  let st := stageOf w
  if st = 0 then (if lo = 0 || hoist then [] else [.exchange b.xSeq])
  else if st = 1 then []
  else if st = 2 then
    if lo + ls = 0 then []
    else [.exchange b.xSeq, .key (2 * k.digits * (lo + ls) * k.o.n / 512)] ++ (if ls = 0 then [] else [.exchange (b.xSeq + 1)])
  else if lo = 0 then [] else [.exchange b.xSeq]

/-- Exchanges among what a command waits for. -/
def exchangesIn (l : List Todo) : Nat :=
  (l.filter (fun t => match t with
    | .exchange _ => true
    | _ => false)).length

/-- A bench opens an exchange of a command: it posts what it offers. -/
def State.postExchange (s : State) (pb seq : Nat) (shape : List Nat) (data : List (List El)) : State :=
  s.onBench pb (fun b => { b with xPosts := b.xPosts ++ [⟨seq, shape, data, []⟩] })

/-- KSW and ROT at stage 5 (R187, R189, R224, R234, R236). -/
def planKsw (c : Ctx) : Except Reject Plan := do
  let w := c.w
  mustAll (macroWordChecks w)
  let o0 := Obj.ofDesc c.d0
  let rot := decide (opcodeOf w = 0xE2)
  objCheck c.s c.pb [1] 1 [] c.lp 0 o0
  adCheck c.s [0] c.d1 c.lp 1
  let r := kswResult c.s w o0 (Obj.ofDesc c.d2)
  must (decide ((Obj.ofDesc c.d2).base % 32 = 0) && r.inPool c.lp 2) (illegal 2)
  must (keyOk c.s c.pb w (if rot then 2 else 1)) (illegal 3)
  let e := c.s.keyEnt (keyOf w)
  let k := c.s.kctx c.pb o0 e c.d1
  let ch := c.s.chainEnt o0.chain
  must (decide (keyLogN e = o0.logN) && decide (keyChain e = o0.chain) && decide (keyMask e = o0.mask)) (illegal 3)
  must (decide (o0.tlimbs ≤ keyOrd e)) (illegal 3)
  must (decide (o0.tspc = (if stageOf w = 3 then ch.spc else 0))) (illegal 3)
  must (decide (k.digits ≤ 8) && decide (1 ≤ keyAlpha e) && decide (keyAlpha e ≤ 16) && decide (keyAlpha e ≤ ch.spc)) (illegal 3)
  must (!rot || decide (rotK w = keyGalois e)) (illegal 3)
  must (decide (k.areaEnd ≤ 8 * adPerIter c.d1)) (illegal 1)
  let comp : Obj := { o0 with kind := 2, base := relinAddr w }
  let relin := !rot && macroBit w
  must (!relin || comp.inPool c.lp 0) (illegal 3)
  let b := c.s.bench c.pb
  let sh := k.shape c.s.tau
  let st := stageOf w
  let todo := kswTodo b k w
  let x := c.exec (if rot then engTE + engVE + engAE + engRF else engTE + engVE + engAE)
  let made := if rot then rotMade c.s c.pb o0 e c.d1 else []
  let ex := { x with
    reads := o0.intervals c.gang c.lp 0 ++ adIntervals c.d1 c.lp 1 ++ adIdxInterval c.d1 ++
      (if relin then comp.intervals c.gang c.lp 0 else [])
    writes := adIntervals c.d1 c.lp 1 ++ (if st ≤ 1 then [] else r.intervals c.gang c.lp 2)
    results := [(opIdx w 2, r.toDesc)]
    sbDesc := [opIdx w 2]
    chains := [o0.chain]
    key := some (keyOf w)
    todo := todo
    busy := if st = 0 then sh.t0 else if st = 1 then sh.t1 else if st = 3 then sh.t3 else if rot then sh.t2rot else sh.t2
    spent := spentOf [o0]
    inherited := o0.spent
    broken := !b.inSequence w (adStart c.d1) made }
  .ok ⟨ex, fun s =>
    let s := s.onBench c.pb (fun b =>
      { (b.noteStage w (adStart c.d1) made) with xSeq := b.xSeq + exchangesIn todo })
    match todo with
    | .exchange seq :: _ => s.postExchange c.pb seq [opcodeOf w, st, o0.logN, k.ordinary.length, k.special.length]
        (kswPost c.s c.pb ex 0)
    | _ => s⟩

/-- What a KSW or ROT stage writes when it completes. -/
def stepsKsw (s : State) (pb : Nat) (e : Exec) : List (State → Effect) :=
  let st := stageOf e.word
  let hoist := decide (opcodeOf e.word = 0xE2) && macroBit e.word
  let run := if st = 0 then (if hoist then [] else kswStage0 s pb e)
    else if st = 1 then kswStage1 s pb e
    else if st = 2 then kswStage2 s pb e
    else kswStage3 s pb e
  [fun _ => alignOf (s.bench pb) e [1], fun _ => Effect.ofRuns run]

/-- λ of R65: the integer nearest to 65,536 times the binary logarithm of p. -/
def lambdaOf (p : Nat) : Nat := (Nat.log2 (p ^ 131072) + 1) / 2

/-- The result of a RESCALE (R64, R66, R192). -/
def rescaleResult (s : State) (o0 o2 : Obj) : Obj :=
  { o0.lower (o0.tlimbs - 1) with
    base := o2.base, level := o0.level - 1, scale := o0.scale - lambdaOf (s.chainPrime o0.chain (o0.tlimbs - 1)) }

/-- RESCALE at stage 5 (R192, R239). -/
def planRescale (c : Ctx) : Except Reject Plan := do
  let w := c.w
  mustAll (macroWordChecks w)
  let o0 := Obj.ofDesc c.d0
  objCheck c.s c.pb [1] 2 [] c.lp 0 o0
  adCheck c.s [0] c.d1 c.lp 1
  let r := rescaleResult c.s o0 (Obj.ofDesc c.d2)
  must (r.inPool c.lp 2) (illegal 2)
  must (decide (adPerIter c.d1 = o0.n / 16)) (illegal 1)
  levelCheck o0 0 1
  let b := c.s.bench c.pb
  let lo := ((r.limbsIn c.gang).filter (fun x => decide (x.1 < 64))).length
  let exhausted := !o0.compat && decide (o0.tlimbs ≤ 1)
  let todo : List Todo := if lo = 0 ∨ o0.domain = 0 then [] else [.exchange b.xSeq]
  let x := c.exec (engTE + engVE)
  let ws := scratchWords b.pool c.d1
  let q := o0.n / 4
  .ok ⟨{ x with
      reads := o0.intervals c.gang c.lp 0 ++ adIntervals c.d1 c.lp 1 ++ adIdxInterval c.d1
      writes := r.intervals c.gang c.lp 2
      results := [(opIdx w 2, r.toDesc)]
      sbDesc := [opIdx w 2]
      chains := [o0.chain]
      todo := todo
      busy := rescaleTime c.s.tau o0.logN lo o0.domain
      spent := spentCause [o0] false exhausted
      inherited := o0.spent },
    fun s =>
      if todo.isEmpty then s
      else (s.onBench c.pb (fun b => { b with xSeq := b.xSeq + 1 })).postExchange c.pb b.xSeq [opcodeOf w, o0.logN, lo]
        [readScratch b.pool ws 0 q, readScratch b.pool ws q q]⟩

/-- What a RESCALE writes when it completes: the rescale step on every local limb that remains (R98, R192). -/
def stepsRescale (s : State) (pb : Nat) (e : Exec) : List (State → Effect) :=
  let o0 := Obj.ofDesc (e.d 0)
  let r := rescaleResult s o0 (Obj.ofDesc (e.d 2))
  let b := s.bench pb
  let g := s.gangIdx pb
  let pos := s.posOf pb
  let q := o0.n / 4
  let ws := scratchWords b.pool (e.d 1)
  let posts := e.gathered.getD 0 []
  let pl := s.chainPrime o0.chain (o0.tlimbs - 1)
  (fun _ => alignOf b e [1]) :: ((r.limbsIn g).filter (fun x => decide (x.1 < 64))).map (fun x => fun s =>
    let b := s.bench pb
    let pe := s.primeEnt (s.chainSlot o0.chain x.1)
    let kinv := foldConst pe.p (invMod pe.p (pl % pe.p))
    let conv := fun (y : Nat) => fold3 pe.p (fold3 pl (residue pl y) * foldSq pe.p)
    Effect.ofRuns ((List.range 2).map (fun h =>
      let d := if o0.domain = 0 then (readScratch b.pool ws (h * q) q).map (El.map conv)
        else ownQuarter pos q (elsWhole (nttForward pe.p pe.root o0.logN) ((gatherPoly posts h).map (El.map conv)))
      let a := match o0.slotOf g x.1 with
        | none => List.replicate q El.free
        | some k => readQuarter b e.badWords pe.p (o0.polyAddr k h) o0.logN
      ⟨false, r.polyAddr x.2 h, 4, List.zipWith (El.map2 (fun a t => mulMod pe.p (subMod pe.p a t) kinv)) a d⟩)))

end Sys2Proof.Machine
end

