-- ==== Sys2Proof/Machine/Refresh.lean ====
section
/-! DEFINITION. The macros PBS, EXTRACT, PACK and FRESHET (R193 of spec/06_command_reference.md, R240-R262 of
spec/09_refresh_and_switching.md): checks, busy times, exchanges, key streams, and what each stage writes. -/

namespace Sys2Proof.Machine

/-- x modulo p as a centred integer (R255, R262). -/
def centred (p x : Nat) : Int := if x > p / 2 then (x : Int) - p else x

/-- ms of R254: x·2N/p rounded half up, modulo 2N. -/
def modSwitch2N (p n x : Nat) : Nat := (x * 4 * n + p) / (2 * p) % (2 * n)

/-- The digits of y from the lowest position up, put before acc (R255). -/
def digitsOf (beta : Nat) : Nat → Int → List Int → List Int
  | 0, _, acc => acc
  | k + 1, y, acc =>
    let r0 := y % (2 ^ beta : Nat)
    let r := if r0 ≥ (2 ^ (beta - 1) : Nat) then r0 - (2 ^ beta : Nat) else r0
    digitsOf beta k ((y - r) / (2 ^ beta : Nat)) (r :: acc)

/-- The l signed digits of base 2^beta of a residue, digit 0 first (R255). -/
def decompose (p l beta x : Nat) : List Int :=
  digitsOf beta l ((centred p x * (2 ^ (beta * l) * 2 : Nat) + p) / (2 * p : Nat)) []

/-- An integer modulo p. -/
def intMod (p : Nat) (z : Int) : Nat := (z % (p : Int)).toNat

/-- Digit r of every coefficient of a polynomial, modulo p. -/
def digitPoly (p l beta r : Nat) (a : List Nat) : List Nat := a.map (fun x => intMod p ((decompose p l beta x).getD r 0))

/-- The sum of products, element by element, in ordinary form. -/
def dotPolys (p n : Nat) (xs : List (List Nat × List Nat)) : List Nat :=
  xs.foldl (fun acc x => List.zipWith (addMod p) acc (List.zipWith (fun u v => u * v % p) x.1 x.2)) (List.replicate n 0)

/-- One blind-rotation step on (acc.a, acc.b) with the mask element e switched to 2N (R254): rows below l decompose acc.a, the
others acc.b. -/
def rotateStep (ps : PSet) (p root : Nat) (bsk : Nat → List Nat × List Nat) (e : Nat) (acc : List Nat × List Nat) :
    List Nat × List Nat :=
  let diff := fun (x : List Nat) => List.zipWith (subMod p) (monomialMul p e x) x
  let ta := diff acc.1
  let tb := diff acc.2
  let digs := (List.range (2 * ps.l)).map (fun r =>
    nttForward p root 12 (if r < ps.l then digitPoly p ps.l ps.beta r ta else digitPoly p ps.l ps.beta (r - ps.l) tb))
  let back := fun (f : List Nat × List Nat → List Nat) =>
    nttInverse p root 12 (dotPolys p psetN (digs.zipIdx.map (fun x => (x.1, f (bsk x.2)))))
  (List.zipWith (addMod p) acc.1 (back Prod.snd), List.zipWith (addMod p) acc.2 (back Prod.fst))

/-- The bootstrap of one pebble (R254): the mask and body, the test polynomial, the blind-rotation key by step and row (b and
a), the key-switching records by coefficient and level; everything in ordinary form. -/
def pbsOne (ps : PSet) (p root : Nat) (v mask : List Nat) (body : Nat) (bsk : Nat → Nat → List Nat × List Nat)
    (ksk : Nat → Nat → List Nat) : List Nat :=
  let n := psetN
  let zero := List.replicate n 0
  let acc0 := (zero, monomialMul p ((2 * n - modSwitch2N p n body) % (2 * n)) v)
  let acc := (List.range ps.n).foldl (fun acc i => rotateStep ps p root (bsk i) (modSwitch2N p n (mask.getD i 0)) acc) acc0
  let am := (List.range n).map (fun j => if j = 0 then negMod p (acc.1.getD 0 0) else acc.1.getD (n - j) 0)
  let start := List.replicate ps.n 0 ++ [acc.2.getD 0 0]
  am.zipIdx.foldl (fun out x =>
    (decompose p ps.lks ps.betaKs x.1).zipIdx.foldl (fun out d =>
      List.zipWith (fun o k => subMod p o (intMod p d.1 * k % p)) out (ksk x.2 d.2)) out) start

/-- The residues that a stream delivered, in order; a poisoned unit determines nothing. -/
def Exec.keyRes (e : Exec) : List El := e.keys.flatMap (fun u => u.vals.map (fun x => (⟨x.v, x.bad || u.poison⟩ : El)))

/-- A pebble record of the Pool: its mask and body in ordinary form with their marks. -/
def readPebble (b : Bench) (p addr n : Nat) : List El :=
  (readEls b.pool [] 4 addr (n + 1)).map (El.map (fun v => fold3 p (residue p v)))

/-- A pebble record to write: values in ordinary form, zeros in the unused elements (R78). -/
def pebbleRun (p addr n : Nat) (els : List El) : WRun :=
  ⟨false, addr, 4, els.map (El.map (fun v => toFold p v)) ++ List.replicate (pebRecord n / 4 - (n + 1)) (El.known 0)⟩

/-- The word intervals of the records of a pebble array. -/
def Peb.records (p : Peb) : List (Nat × Nat) :=
  (List.range p.count).map (fun k =>
    ((p.base + k * p.stride) / 32, (p.base + k * p.stride + pebRecord p.dim - 1) / 32))

/-- The undefined rest of a scratch region from a residue on. -/
def scratchRest (ws : List (Option Nat)) (off : Nat) : List WRun :=
  scratchRuns ws off (List.replicate (8 * ws.length - off) El.free)

/-- The result descriptor of a PBS (R257). -/
def pbsResult (p0 p2 : Peb) : Peb := { p2 with count := p0.count, dim := p0.dim, prime := p0.prime, tag := p0.tag, ledge := 0, space := 0 }

/-- PBS at stage 5 (R193, R256). -/
def planPbs (c : Ctx) : Except Reject Plan := do
  let w := c.w
  mustAll (macroWordChecks w)
  let ps := (psetOf (psetField w)).getD ⟨0, 0, 0, 0, 0, 0⟩
  let p0 := Peb.ofDesc c.d0
  let p2 := Peb.ofDesc c.d2
  pebCheck c.s 0 p0
  adCheck c.s [0] c.d1 c.lp 1
  pebCheck c.s 2 p2
  must (keyOk c.s c.pb w 3) (illegal 3)
  let e := c.s.keyEnt (keyOf w)
  mustAll [
    (decide (p2.count = p0.count), illegal 2),
    (decide (adPerIter c.d1 = psetN / 8 * (1 + p0.count * (2 + 2 * ps.l))), illegal 1),
    (decide (p0.dim = ps.n) && p0.pad && decide (p0.msgBits ≤ ps.msg), illegal 0),
    (decide (p2.dim = ps.n) && p2.pad && decide (p2.msgBits ≤ ps.msg), illegal 2),
    (decide ((c.s.primeEnt p0.prime).p = psetPrime), illegal 0),
    (decide ((c.s.primeEnt p2.prime).p = psetPrime), illegal 2),
    (decide (keyLogN e = 12) && decide (c.s.chainPrime (keyChain e) 0 = psetPrime), illegal 3)]
  let r := pbsResult p0 p2
  let b := c.s.bench c.pb
  let scratch := (wordsOf (adAll b.pool c.d1 c.lp 1)).map (fun x => (x, x))
  let same := decide (p0.base = r.base) && decide (p0.stride = r.stride)
  let bad := (!same && anyOverlap p0.records r.records) || anyOverlap scratch p0.records || anyOverlap scratch r.records
  .ok (Plan.of { c.exec (engTE + engVE) with
    reads := p0.intervals ++ adIntervals c.d1 c.lp 1 ++ adIdxInterval c.d1
    writes := adIntervals c.d1 c.lp 1 ++ r.intervals
    results := [(opIdx w 2, r.toDesc)]
    sbDesc := [opIdx w 2]
    primes := [p0.prime]
    key := some (keyOf w)
    todo := [.key (unitsOf (bskPieces e ps (ledgeOf c.pb)))]
    busy := pbsTime p0.count ps.n ps.l ps.lks
    spent := if p0.spent then some p0.cause else none
    inherited := p0.spent
    broken := bad })

/-- What a PBS writes when it completes: the pebbles, and a working area of no stated contents. -/
def effectPbs (s : State) (pb : Nat) (e : Exec) : Effect :=
  let ps := (psetOf (psetField e.word)).getD ⟨0, 0, 0, 0, 0, 0⟩
  let p0 := Peb.ofDesc (e.d 0)
  let r := pbsResult p0 (Peb.ofDesc (e.d 2))
  let b := s.bench pb
  let pe := s.primeEnt p0.prime
  let p := pe.p
  let ws := scratchWords b.pool (e.d 1)
  let test := (readScratch b.pool ws 0 psetN).map (El.map (fun v => fold3 p (residue p v)))
  let keys := e.keyRes.map (El.map (fun v => fold3 p (residue p v)))
  let part := fun (off n : Nat) => ((keys.drop off).take n).map El.v
  let bsk := fun (i row : Nat) =>
    let off := (i * (2 * ps.l) + row) * (2 * psetN)
    (part off psetN, part (off + psetN) psetN)
  let ksk := fun (j u : Nat) => part (ps.n * (2 * ps.l) * (2 * psetN) + (j * ps.lks + u) * (pebRecord ps.n / 4)) (ps.n + 1)
  let bad := test.any El.bad || keys.any El.bad
  let outs := (List.range p0.count).map (fun k =>
    let rec0 := readPebble b p (p0.base + k * p0.stride) ps.n
    (pbsOne ps p pe.root (test.map El.v) ((rec0.take ps.n).map El.v) (rec0.getD ps.n El.free).v bsk ksk).map
      (fun v => (⟨v, bad || rec0.any El.bad⟩ : El)))
  Effect.ofRuns (scratchRest ws psetN ++
    outs.zipIdx.map (fun x => pebbleRun p (r.base + x.2 * r.stride) ps.n x.1))

/-- The steps of a PBS. -/
def stepsPbs (s : State) (pb : Nat) (e : Exec) : List (State → Effect) :=
  [fun _ => alignOf (s.bench pb) e [1], fun s => effectPbs s pb e]

/-- Rounding from one prime to another (R260): ⌊(2x·q + p)/(2p)⌋ modulo q. -/
def modSwitch (p q x : Nat) : Nat := (2 * x * q + p) / (2 * p) % q

/-- The two specials and position 0 in the order of an EXTRACT stream (R247). -/
def extractSlots : List Nat := [64, 65, 0]

/-- The prime-table entry of a chain position. -/
def State.entOf (s : State) (chain pos : Nat) : PrimeEnt := s.primeEnt (s.chainSlot chain pos)

/-- The product of the primes at positions 64 and 65. -/
def State.twoSpecials (s : State) (chain : Nat) : Nat := (s.entOf chain 64).p * (s.entOf chain 65).p

/-- The conversion of a pair of special accumulators in coefficient form to position 0 (R235, R262). -/
def State.downTwo (s : State) (chain : Nat) (x y : List El) : List El :=
  let p4 := (s.entOf chain 64).p
  let p5 := (s.entOf chain 65).p
  let i4 := foldConst p4 (invMod p4 (p5 % p4))
  let i5 := foldConst p5 (invMod p5 (p4 % p5))
  List.zipWith (fun a b => convSum [p4, p5] (s.entOf chain 0).p
    [a.map (fun v => mulMod p4 (residue p4 v) i4), b.map (fun v => mulMod p5 (residue p5 v) i5)]) x y

/-- ModDown of an accumulator at position 0 (R235). -/
def State.downEls (s : State) (chain : Nat) (acc conv : List El) : List El :=
  let p := (s.entOf chain 0).p
  let inv := foldConst p (invMod p (s.twoSpecials chain % p))
  List.zipWith (El.map2 (fun a t => mulMod p (subMod p a t) inv)) acc conv

/-- A transform of residues of position pos of a chain. -/
def State.ntt (s : State) (chain pos logN : Nat) (l : List El) : List El :=
  elsWhole (nttForward (s.entOf chain pos).p (s.entOf chain pos).root logN) l
/-- An inverse transform. -/
def State.intt (s : State) (chain pos logN : Nat) (l : List El) : List El :=
  elsWhole (nttInverse (s.entOf chain pos).p (s.entOf chain pos).root logN) l

/-- The bench's quarters of the two polynomials of a one-limb slab. -/
def limbQuarters (s : State) (pb : Nat) (o : Obj) : List (List El) :=
  (List.range 2).map (fun h => readQuarter (s.bench pb) [] (s.entOf o.chain 0).p (o.polyAddr 0 h) o.logN)

/-- The accumulators of EXTRACT stage 0 on this bench, in stream order, both polynomials (R235, R260). -/
def extractAccs (s : State) (pb : Nat) (e : Exec) : List (List (List El)) :=
  let o := Obj.ofDesc (e.d 0)
  let q := o.n / 4
  let pos := s.posOf pb
  let posts := e.gathered.getD 0 []
  let p0 := (s.entOf o.chain 0).p
  let nttForm := fun (h : Nat) => if o.domain = 1 then gatherPoly posts h else s.ntt o.chain 0 o.logN (gatherPoly posts h)
  let c1 := if o.domain = 1 then s.intt o.chain 0 o.logN (gatherPoly posts 1) else gatherPoly posts 1
  extractSlots.zipIdx.map (fun x =>
    let p := (s.entOf o.chain x.1).p
    let ext := ownQuarter pos q (if x.1 = 0 then nttForm 1
      else s.ntt o.chain x.1 o.logN (c1.map (fun v => convSum [p0] p [v])))
    let init := if x.1 = 0 then
        (ownQuarter pos q (nttForm 0)).map (El.map (fun v => mulMod p v (foldConst p (s.twoSpecials o.chain))))
      else List.replicate q (El.known 0)
    (List.range 2).map (fun h =>
      ringAcc p (if h = 0 then init else List.replicate q (El.known 0)) ext
        ((e.keyQuarter q 1 x.2 0 h).map (El.map (residue p)))))

/-- What EXTRACT stage 0 writes: the quarters of both switched polynomials in coefficient form at the start of OP1. -/
def effectExtract0 (s : State) (pb : Nat) (e : Exec) : Effect :=
  let o := Obj.ofDesc (e.d 0)
  let q := o.n / 4
  let ws := scratchWords (s.bench pb).pool (e.d 1)
  let posts := e.gathered.getD 1 []
  let acc := fun (slot h : Nat) =>
    s.intt o.chain (extractSlots.getD slot 0) o.logN (gatherPoly posts (2 * slot + h))
  if (o.limbsIn (s.gangIdx pb)).isEmpty then Effect.none
  else Effect.ofRuns ((List.range 2).flatMap (fun h =>
    scratchRuns ws (h * q) (ownQuarter (s.posOf pb) q
      (s.downEls o.chain (acc 2 h) (s.downTwo o.chain (acc 0 h) (acc 1 h))))) ++ scratchRest ws (2 * q))

/-- The pebble result of EXTRACT (R260). -/
def extractResult (o0 : Obj) (p2 : Peb) : Peb := { p2 with tag := o0.tag, ledge := 0, space := 0 }

/-- What EXTRACT stage 1 writes: COUNT pebbles from the whole switched polynomials in OP1 (R260). -/
def effectExtract1 (s : State) (pb : Nat) (e : Exec) : Effect :=
  let o := Obj.ofDesc (e.d 0)
  let r := extractResult o (Peb.ofDesc (e.d 2))
  let b := s.bench pb
  let ws := scratchWords b.pool (e.d 1)
  let p0 := (s.entOf o.chain 0).p
  let n := r.dim
  let poly := fun (h : Nat) => (readScratch b.pool ws (h * o.n) o.n).map (El.map (fun v => fold3 p0 (residue p0 v)))
  let c0 := poly 0
  let c1 := poly 1
  Effect.ofRuns (scratchRest ws 0 ++ (List.range r.count).map (fun k =>
    let c := imm e.word 40 24 + k
    let mask := (List.range n).map (fun i =>
      let t := c + 1 + i
      let x := if n ≤ t then c1.getD (t - n) El.free else (c1.getD (o.n + t - n) El.free).map (negMod p0)
      x.map (fun v => negMod psetPrime (modSwitch p0 psetPrime v)))
    pebbleRun psetPrime (r.base + k * r.stride) n (mask ++ [(c0.getD c El.free).map (modSwitch p0 psetPrime)])))

/-- EXTRACT at stage 5 (R193, R259). -/
def planExtract (c : Ctx) : Except Reject Plan := do
  let w := c.w
  mustAll (macroWordChecks w)
  let ps := (psetOf (psetField w)).getD ⟨0, 0, 0, 0, 0, 0⟩
  let o0 := Obj.ofDesc c.d0
  let p2 := Peb.ofDesc c.d2
  objCheck c.s c.pb [1] 2 [] c.lp 0 o0
  adCheck c.s [0] c.d1 c.lp 1
  pebCheck c.s 2 p2
  must (keyOk c.s c.pb w 4) (illegal 3)
  let e := c.s.keyEnt (keyOf w)
  mustAll [
    (decide (o0.tlimbs = 1) && decide (o0.tcount = 1) && decide (popcount o0.mask 16 = 1), illegal 0),
    (decide (keyChain e = o0.chain) && decide (keyLogN e = o0.logN), illegal 3),
    (decide (imm w 40 24 + p2.count ≤ o0.n), illegal 3),
    (decide ((c.s.primeEnt p2.prime).p = psetPrime) && decide (p2.dim = ps.n), illegal 2),
    (decide (o0.n / 2 ≤ adPerIter c.d1), illegal 1)]
  let b := c.s.bench c.pb
  let st := stageOf w
  let has := !(o0.limbsIn c.gang).isEmpty
  let r := extractResult o0 p2
  let todo : List Todo := if st = 0 ∧ has then
      [.exchange b.xSeq, .key (unitsOf (extractSlots.flatMap (fun cp => c.s.pairPieces e c.gang c.pos 0 cp))), .exchange (b.xSeq + 1)]
    else []
  let ex := { c.exec (engTE + engVE + engAE) with
    reads := o0.intervals c.gang c.lp 0 ++ adIntervals c.d1 c.lp 1 ++ adIdxInterval c.d1
    writes := adIntervals c.d1 c.lp 1 ++ (if st = 0 then [] else r.intervals)
    results := [(opIdx w 2, if st = 0 then o0.toDesc else r.toDesc)]
    sbDesc := [opIdx w 2]
    chains := [o0.chain]
    primes := [p2.prime]
    key := some (keyOf w)
    todo := todo
    busy := if st = 1 then extract1Time p2.count ps.n else if has then extract0Time c.s.tau o0.logN else 1
    spent := spentOf [o0]
    inherited := o0.spent
    broken := !b.inSequence w (adStart c.d1) [] }
  .ok ⟨ex, fun s =>
    let s := s.onBench c.pb (fun b => { (b.noteStage w (adStart c.d1) []) with xSeq := b.xSeq + exchangesIn todo })
    if todo.isEmpty then s else s.postExchange c.pb b.xSeq [opcodeOf w, st, o0.logN] (limbQuarters c.s c.pb o0)⟩

/-- The steps of an EXTRACT stage. -/
def stepsExtract (s : State) (pb : Nat) (e : Exec) : List (State → Effect) :=
  [fun _ => alignOf (s.bench pb) e [1],
   fun s => if stageOf e.word = 0 then effectExtract0 s pb e else effectExtract1 s pb e]

/-- The slab result of PACK (R262). -/
def packResult (p0 : Peb) (o2 : Obj) : Obj :=
  { Obj.ofDesc nullDesc with
    kind := 1, domain := 1, logN := o2.logN, chain := o2.chain, limbs := 1, lcount := 1, tlimbs := 1, tcount := 1
    scale := o2.scale, mask := o2.mask, logSlots := o2.logSlots, tag := p0.tag, base := o2.base }

/-- PACK at stage 5 (R261). -/
def planPack (c : Ctx) : Except Reject Plan := do
  let w := c.w
  mustAll (macroWordChecks w)
  let ps := (psetOf (psetField w)).getD ⟨0, 0, 0, 0, 0, 0⟩
  let p0 := Peb.ofDesc c.d0
  let o2 := Obj.ofDesc c.d2
  pebCheck c.s 0 p0
  adCheck c.s [0] c.d1 c.lp 1
  must (keyOk c.s c.pb w 5) (illegal 3)
  let e := c.s.keyEnt (keyOf w)
  let n := keyN e
  let r := packResult p0 o2
  mustAll [
    (decide (p0.count ≤ min (n / 4) 4096) && decide (p0.dim = ps.n), illegal 0),
    (decide (o2.kind = 1) && decide (o2.logN = keyLogN e) && decide (o2.chain = keyChain e) && decide (o2.mask = keyMask e),
      illegal 2),
    (decide ((ps.n + 1) * p0.count + 3 * n ≤ 8 * adPerIter c.d1), illegal 1),
    (decide (o2.base % 32 = 0) && r.inPool c.lp 2, illegal 2)]
  let b := c.s.bench c.pb
  let st := stageOf w
  let has := bit r.mask c.gang
  let todo : List Todo := if st = 1 ∧ has then
      [.exchange b.xSeq, .key (unitsOf (c.s.packPieces e ps.n c.gang c.pos)), .exchange (b.xSeq + 1)] else []
  let ws := scratchWords b.pool c.d1
  let data : List (List El) := if c.pos = 0 then
      (List.range (ps.n + 1)).map (fun i => readScratch b.pool ws (i * p0.count) p0.count)
    else []
  .ok ⟨{ c.exec (engTE + engVE + engAE + engRF) with
    reads := (if st = 0 then p0.intervals else []) ++ adIntervals c.d1 c.lp 1 ++ adIdxInterval c.d1
    writes := adIntervals c.d1 c.lp 1 ++ (if st = 0 then [] else r.intervals c.gang c.lp 2)
    results := [(opIdx w 2, if st = 0 then p0.toDesc else r.toDesc)]
    sbDesc := [opIdx w 2]
    chains := [o2.chain]
    primes := [p0.prime]
    key := some (keyOf w)
    todo := todo
    busy := if st = 0 then pack0Time p0.count ps.n else if has then pack1Time c.s.tau o2.logN ps.n else 1
    spent := if p0.spent then some p0.cause else none
    inherited := p0.spent
    broken := !b.inSequence w (adStart c.d1) [] },
  fun s =>
    let s := s.onBench c.pb (fun b => { (b.noteStage w (adStart c.d1) []) with xSeq := b.xSeq + exchangesIn todo })
    if todo.isEmpty then s else s.postExchange c.pb b.xSeq [opcodeOf w, st, o2.logN] data⟩

/-- What PACK stage 0 writes: A_0 to A_{n-1} and B, COUNT residues each, from the start of OP1 (R262). -/
def effectPack0 (s : State) (pb : Nat) (e : Exec) : Effect :=
  let p0 := Peb.ofDesc (e.d 0)
  let o2 := Obj.ofDesc (e.d 2)
  let b := s.bench pb
  let ws := scratchWords b.pool (e.d 1)
  let q := (s.entOf o2.chain 0).p
  let recs := (List.range p0.count).map (fun k => readPebble b psetPrime (p0.base + k * p0.stride) p0.dim)
  let out := (List.range (p0.dim + 1)).flatMap (fun i =>
    recs.map (fun r => (r.getD i El.free).map (fun v => toFold q (modSwitch psetPrime q v))))
  Effect.ofRuns (scratchRuns ws 0 out ++ scratchRest ws out.length)

/-- A polynomial of COUNT residues of position 0 placed, centred, in the prime of a position, and transformed (R262). -/
def State.packPoly (s : State) (o : Obj) (cp : Nat) (l : List El) : List El :=
  let p0 := (s.entOf o.chain 0).p
  let p := (s.entOf o.chain cp).p
  s.ntt o.chain cp o.logN ((l ++ List.replicate (o.n - l.length) (El.known 0)).map
    (El.map (fun v => toFold p (intMod p (centred p0 (fold3 p0 (residue p0 v)))))))

/-- The accumulators of PACK stage 1 on this bench: position 0 and the two specials, both polynomials (R262). -/
def packAccs (s : State) (pb : Nat) (e : Exec) : List (List (List El)) :=
  let o := packResult (Peb.ofDesc (e.d 0)) (Obj.ofDesc (e.d 2))
  let n := (Peb.ofDesc (e.d 0)).dim
  let q := o.n / 4
  let pos := s.posOf pb
  let posts := e.gathered.getD 0 []
  let keys := e.keyRes
  [0, 64, 65].zipIdx.map (fun x =>
    let p := (s.entOf o.chain x.1).p
    let init := if x.1 = 0 then (ownQuarter pos q (s.packPoly o 0 (gatherPoly posts n))).map
        (El.map (fun v => mulMod p v (foldConst p (s.twoSpecials o.chain))))
      else List.replicate q (El.known 0)
    (List.range 2).map (fun h =>
      (List.range n).foldl (fun acc i =>
        ringAcc p acc (ownQuarter pos q (s.packPoly o x.1 (gatherPoly posts i)))
          (((keys.drop (((i * 3 + x.2) * 2 + h) * q)).take q).map (El.map (residue p))))
        (if h = 0 then init else List.replicate q (El.known 0))))

/-- What PACK stage 1 writes: the bench's quarter of the slab (R262). -/
def effectPack1 (s : State) (pb : Nat) (e : Exec) : Effect :=
  let o := packResult (Peb.ofDesc (e.d 0)) (Obj.ofDesc (e.d 2))
  let q := o.n / 4
  let ws := scratchWords (s.bench pb).pool (e.d 1)
  let posts := e.gathered.getD 1 []
  let accs := packAccs s pb e
  if !bit o.mask (s.gangIdx pb) then Effect.none
  else Effect.ofRuns (scratchRest ws 0 ++ (List.range 2).map (fun h =>
    let conv := s.downTwo o.chain (s.intt o.chain 64 o.logN (gatherPoly posts h))
      (s.intt o.chain 65 o.logN (gatherPoly posts (2 + h)))
    ⟨false, o.polyAddr 0 h, 4, s.downEls o.chain ((accs.getD 0 []).getD h [])
      (ownQuarter (s.posOf pb) q (s.ntt o.chain 0 o.logN conv))⟩))

/-- The steps of a PACK stage. -/
def stepsPack (s : State) (pb : Nat) (e : Exec) : List (State → Effect) :=
  [fun _ => alignOf (s.bench pb) e [1],
   fun s => if stageOf e.word = 0 then effectPack0 s pb e else effectPack1 s pb e]

/-- The stage types of Table 9.4. -/
inductive FType | l0 | l1 | u0 | u1 | u2 | i | c | m | p | k | z
  deriving DecidableEq, Repr

/-- The stages of one hoisted level, and of one EvalMod part (Table 9.5). -/
def levelTypes : List FType := [.u0, .u1, .u2] ++ List.replicate 12 .i ++ [.c, .m]
def evalTypes : List FType :=
  (List.range 9).flatMap (fun _ => [FType.p, .u0, .u1, .u2, .i, .c, .m]) ++ List.replicate 3 .p

/-- The stages of a set in order, each with its LIMBS; none where Table 9.5 gives a range only. -/
def freshetSchedule (spateS : Bool) : List (FType × Option Nat) :=
  let lev := fun (l : List Nat) => l.flatMap (fun n => levelTypes.map (fun t => (t, some n)))
  let ev := evalTypes.map (fun t => (t, (none : Option Nat)))
  let head : List (FType × Option Nat) := [(.l0, some 1), (.l1, some 48)]
  if spateS then head ++ lev [48, 47] ++ ev ++ lev [40, 39] ++ [(.z, some 38)]
  else head ++ lev [48, 47, 46] ++ ([.u0, .u1, .u2, .i, .c, .m, .k] : List FType).map (fun t => (t, some 45)) ++ ev ++ ev ++
    [(.k, some 39)] ++ lev [39, 38, 37] ++ [(.z, some 36)]

/-- The type of a stage. -/
def freshetType (spateS : Bool) (st : Nat) : FType := ((freshetSchedule spateS).getD st (.z, none)).1

/-- LIMBS of a stage: for an EvalMod stage a constant of the macro image within the range of Table 9.5 (log 25). -/
def freshetLimbs (spateS : Bool) (st : Nat) : Nat :=
  match ((freshetSchedule spateS).getD st (.z, none)).2 with
  | some n => n
  | none =>
    if spateS then 40 + Config.freshetLimbs 0x11 st % 7 else 39 + Config.freshetLimbs 0x10 st % 7

/-- The I stages before a stage. -/
def freshetIs (spateS : Bool) (st : Nat) : Nat :=
  (((freshetSchedule spateS).take st).filter (fun x => decide (x.1 = .i))).length

/-- The sub-key, and the level and diagonal of the plane, of an I stage (R247); level 99 where no plane is placed. -/
def freshetKey (spateS : Bool) (st : Nat) : Nat × Nat × Nat :=
  let i := freshetIs spateS st
  if spateS then
    if i < 24 then (1 + i, i / 12, i % 12)
    else if i < 33 then (0, 99, 0)
    else (25 + (i - 33), 2 + (i - 33) / 12, (i - 33) % 12)
  else
    if i < 36 then (2 + i, i / 12, i % 12)
    else if i = 36 then (1, 99, 0)
    else if i < 55 then (0, 99, 0)
    else (38 + (i - 55), 3 + (i - 55) / 12, (i - 55) % 12)

/-- Whether an I stage permutes: a rotation or the conjugation. -/
def freshetRot (spateS : Bool) (st : Nat) : Bool := decide ((freshetKey spateS st).1 ≠ 0)

/-- A slab with a stage's LIMBS, as its key switch raises it. -/
def freshetObj (o : Obj) (limbs : Nat) : Obj := { o with lfirst := 0, tlimbs := limbs, tcount := limbs, tspc := 8 }

/-- The symbols of Table 8.1 at a stage. -/
def freshetShape (o : Obj) (limbs gang tau : Nat) : KShape :=
  let ls := (freshetObj o limbs).limbsIn gang
  ⟨o.logN, (gangsOf o.mask).length, (ls.filter (fun x => decide (x.1 < 64))).length,
    (ls.filter (fun x => decide (64 ≤ x.1))).length, 8, limbs, 8, tau⟩

/-- Whether position 0 lies in a gang. -/
def holdsZero (o : Obj) (gang : Nat) : Bool := (o.limbsIn gang).any (fun x => decide (x.1 = 0))

/-- The busy time of a FRESHET stage (R250, Table 9.4). -/
def freshetTime (ty : FType) (rot holds : Bool) (k : KShape) (loads stores : List (List Nat)) : Nat :=
  let ex := 2 * (2 * tX k.logN + k.tau)
  let q := tQ k.logN
  match ty with
  | .l0 => if holds then teGangTime k.tau k.logN loads stores else 1
  | .l1 => if k.lo = 0 then 1 else 45 + k.lo * tS k.logN + ex + 8 * q
  | .u0 => k.t0
  | .u1 => k.t1
  | .u2 => if k.lo + k.ls = 0 then 1 else 35 + cdiv k.n2 2 * tS k.logN + ex + 8
  | .i =>
    if k.lo + k.ls = 0 then 1
    else 21 + q * (8 * k.digits + 24) +
      (if rot then (k.digits * (k.lo + k.ls) + k.lo) * (8 * q + tX k.logN) + k.tau else 0)
  | .c => if k.ls = 0 then 1 else 35 + k.ls * tS k.logN + ex + 8
  | .m => if k.lo = 0 then 1 else k.t3 + 10 + 8 * q
  | .p => if k.lo = 0 then 1 else 21 + 40 * q * k.lo
  | .k => if k.lo = 0 then 1 else 21 + 24 * q * k.lo
  | .z => if k.lo = 0 then 1 else 21 + 8 * q * k.lo

/-- The result of a FRESHET stage (R249): the stages that raise digits leave the slab as it is; I and C write accumulators with
specials; the last writes the refreshed slab. -/
def freshetResult (spateS : Bool) (st : Nat) (o0 o2 : Obj) : Obj :=
  let ty := freshetType spateS st
  let last := (freshetSchedule spateS).length - 1
  if ty = .u0 ∨ ty = .u1 ∨ ty = .u2 then o0
  else
    let n := if st = 0 then 1 else if st = last then freshetLimbs spateS st else freshetLimbs spateS (st + 1)
    { o0 with
      base := o2.base, lfirst := 0, tlimbs := n, tcount := n, tspc := if ty = .i ∨ ty = .c then 8 else 0
      domain := if st = 0 then 0 else 1, level := n - 1, scale := if st = last then 0x200000 else o0.scale }

/-- Whether a stage's OP0 carries special limbs: an accumulator of an I or C stage. -/
def freshetSpcIn (spateS : Bool) (st : Nat) : Bool :=
  decide (0 < st) && (decide (freshetType spateS (st - 1) = .i) || decide (freshetType spateS (st - 1) = .c))

/-- What a FRESHET stage offers in its exchange: the quarters for the stages whose data Table 9.4 determines. -/
def freshetPost (s : State) (pb : Nat) (ty : FType) (o : Obj) (e : List Reg64) (d1 : List Nat) : List (List El) :=
  let k := s.kctx pb o e d1
  let b := s.bench pb
  if ty = .u0 then k.ordinary.map (fun x => k.quarter s b x.2 1 x.1)
  else if ty = .u2 then (List.range k.raised.length).map (k.a3Quarter b)
  else []

/-- FRESHET at stage 5 (R248). -/
def planFreshet (c : Ctx) : Except Reject Plan := do
  let w := c.w
  mustAll (macroWordChecks w)
  let sp := decide (psetField w = 0x11)
  let st := stageOf w
  let ty := freshetType sp st
  let o0 := Obj.ofDesc c.d0
  objCheck c.s c.pb [1] 2 [] c.lp 0 o0
  adCheck c.s [0] c.d1 c.lp 1
  must (keyOk c.s c.pb w 6) (illegal 3)
  let e := c.s.keyEnt (keyOf w)
  let ch := c.s.chainEnt o0.chain
  let r := freshetResult sp st o0 (Obj.ofDesc c.d2)
  mustAll [
    (decide (o0.logN = 16), illegal 0),
    (decide (keyChain e = o0.chain) && decide (keyMask e = o0.mask), illegal 3),
    (decide (48 ≤ ch.ord) && decide (ch.spc = 8), illegal 0),
    (decide (o0.lfirst = 0) && decide (o0.lcount = o0.limbs), illegal 0),
    (decide (o0.spc = 0) || freshetSpcIn sp st, illegal 0),
    (if sp then decide (o0.logSlots ≤ 12) else decide (o0.logSlots = 15), illegal 0),
    (decide ((if sp then 131072 else 163840) ≤ adPerIter c.d1), illegal 1),
    (decide ((Obj.ofDesc c.d2).base % 32 = 0) && r.inPool c.lp 2, illegal 2)]
  let b := c.s.bench c.pb
  let k := freshetShape o0 (freshetLimbs sp st) c.gang c.s.tau
  let rot := freshetRot sp st
  let holds := holdsZero o0 c.gang
  let x : List Todo := [.exchange b.xSeq]
  let keyUnits := (2 * k.digits + 1) * (k.lo + k.ls) * o0.n / 512
  let todo : List Todo :=
    if ty = .l0 then (if holds && decide (o0.domain = 1) then x else [])
    else if ty = .l1 ∨ ty = .u0 ∨ ty = .m then (if k.lo = 0 then [] else x)
    else if ty = .u2 then (if k.lo + k.ls = 0 then [] else x)
    else if ty = .i then (if k.lo + k.ls = 0 then [] else (if rot then x else []) ++ [.key keyUnits])
    else if ty = .c then (if k.ls = 0 then [] else x)
    else []
  let ms := fun (o : Obj) => (List.range 2).map (fun h => quarterMs (o.polyAddr 0 h) o.n)
  let ex := { c.exec (engTE + engVE + engAE + engRF) with
    reads := o0.intervals c.gang c.lp 0 ++ adIntervals c.d1 c.lp 1 ++ adIdxInterval c.d1
    writes := adIntervals c.d1 c.lp 1 ++
      (if ty = .u0 ∨ ty = .u1 ∨ ty = .u2 then [] else r.intervals c.gang c.lp 2)
    results := [(opIdx w 2, r.toDesc)]
    sbDesc := [opIdx w 2]
    chains := [o0.chain]
    key := some (keyOf w)
    todo := todo
    busy := freshetTime ty rot holds k (ms o0) (ms r)
    spent := spentOf [o0]
    inherited := o0.spent
    broken := !b.inSequence w (adStart c.d1) [] }
  .ok ⟨ex, fun s =>
    let s := s.onBench c.pb (fun b => { (b.noteStage w (adStart c.d1) []) with xSeq := b.xSeq + exchangesIn todo })
    match todo with
    | .exchange seq :: _ => s.postExchange c.pb seq [opcodeOf w, st, k.lo, k.ls] (freshetPost c.s c.pb ty o0 e c.d1)
    | _ => s⟩

/-- U2: the raised digits in A3 transformed (Table 9.4). -/
def freshetU2 (s : State) (pb : Nat) (e : Exec) : List WRun :=
  let k := s.kctx pb (Obj.ofDesc (e.d 0)) (s.keyEnt (keyOf e.word)) (e.d 1)
  let posts := e.gathered.getD 0 []
  k.raised.zipIdx.flatMap (fun x =>
    let pe := s.posPrime k x.1.1
    scratchRuns k.ws (k.a3 + x.2 * k.q) (ownQuarter k.pos k.q
      (elsWhole (nttForward pe.p pe.root k.o.logN) ((gatherPoly posts x.2).map (El.map (residue pe.p))))))

/-- What a FRESHET stage writes: the digit stages as Table 9.4 says; for the others the values depend on the constants of the
macro image and are open (log 16). -/
def effectFreshet (s : State) (pb : Nat) (e : Exec) : Effect :=
  let sp := decide (psetField e.word = 0x11)
  let st := stageOf e.word
  let ty := freshetType sp st
  let r := freshetResult sp st (Obj.ofDesc (e.d 0)) (Obj.ofDesc (e.d 2))
  let ws := scratchWords (s.bench pb).pool (e.d 1)
  if ty = .u0 then Effect.ofRuns (kswStage0 s pb e)
  else if ty = .u1 then Effect.ofRuns (kswStage1 s pb e)
  else if ty = .u2 then Effect.ofRuns (freshetU2 s pb e)
  else Effect.ofRuns (scratchRest ws 0 ++ (r.limbsIn (s.gangIdx pb)).flatMap (fun x =>
    (List.range 2).map (fun h => ⟨false, r.polyAddr x.2 h, 4, List.replicate (r.n / 4) El.free⟩)))

/-- The steps of a FRESHET stage. -/
def stepsFreshet (s : State) (pb : Nat) (e : Exec) : List (State → Effect) :=
  [fun _ => alignOf (s.bench pb) e [1], fun s => effectFreshet s pb e]

/-- The shape of the key stream that a macro stage requests (R229, R247); none where it streams nothing. -/
def streamShape (s : State) (pb : Nat) (w : CmdWord) (d0 d1 : List Nat) : Option (List Nat) :=
  let op := opcodeOf w
  let st := stageOf w
  let o := Obj.ofDesc d0
  let e := s.keyEnt (keyOf w)
  if keyKind e = 0 then none
  else if (op = 0xE1 ∨ op = 0xE2) ∧ st = 2 then
    let k := s.kctx pb o e d1
    if k.streamSlots.isEmpty then none else some (op :: k.digits :: k.streamSlots.map Prod.fst)
  else if op = 0xE5 then some [op, psetField w]
  else if op = 0xE6 ∧ st = 0 then (if (o.limbsIn (s.gangIdx pb)).isEmpty then none else some (op :: 1 :: extractSlots))
  else if op = 0xE7 ∧ st = 1 then
    (if bit (keyMask e) (s.gangIdx pb) then some [op, ((psetOf (psetField w)).map PSet.n).getD 0] else none)
  else if op = 0xE4 then
    let sp := decide (psetField w = 0x11)
    let limbs := freshetLimbs sp st
    let ls := (freshetObj o limbs).limbsIn (s.gangIdx pb)
    let slots := ls.filter (fun x => decide (64 ≤ x.1)) ++ ls.filter (fun x => decide (x.1 < 64))
    let key := freshetKey sp st
    if freshetType sp st = .i ∧ !slots.isEmpty then
      some ([op, psetField w, key.1, key.2.1, key.2.2, cdiv limbs 8] ++ slots.map Prod.fst)
    else none
  else none

/-- The key stream that a macro stage requests. -/
def streamOf (s : State) (pb : Nat) (w : CmdWord) (d0 d1 : List Nat) : Option KStream :=
  (streamShape s pb w d0 d1).map (fun sh =>
    let k : KStream := ⟨keyOf w, d0.getD 2 0, sh, false, 0, 0⟩
    { k with total := unitsOf (s.streamPieces pb k) })

/-- What a macro in execution offers in its second exchange. -/
def macroPost (s : State) (pb : Nat) (e : Exec) : List (List El) :=
  let op := opcodeOf e.word
  if op = 0xE1 ∨ op = 0xE2 then kswPost s pb e e.gathered.length
  else if op = 0xE6 then (extractAccs s pb e).flatten
  else if op = 0xE7 then ((packAccs s pb e).drop 1).flatten
  else []

end Sys2Proof.Machine
end

