-- ==== Sys2Proof/Machine/Packets.lean ====
section
/-! DEFINITION. Packets and flits as bytes: CRC-32C, Table 13.5, Table 13.6 and Table 13.7 (R346-R348 of
spec/13_odyan_links.md). -/

namespace Sys2Proof.Machine

/-- One bit of the CRC-32C register, least significant bit first (log 23). -/
def crcBit (c : Nat) : Nat := if c % 2 = 1 then (c / 2) ^^^ 0x82F63B78 else c / 2

/-- One byte of the CRC-32C register. -/
def crcByte (c b : Nat) : Nat := crcBit (crcBit (crcBit (crcBit (crcBit (crcBit (crcBit (crcBit (c ^^^ b))))))))

/-- CRC-32C. -/
def crc32c (l : List Nat) : Nat := (l.foldl crcByte 0xFFFFFFFF) ^^^ 0xFFFFFFFF

/-- Bytes as numbers. -/
def natBytes (l : List Byte) : List Nat := l.map BitVec.toNat

/-- Numbers as bytes. -/
def byteList (l : List Nat) : List Byte := l.map (BitVec.ofNat 8)

/-- A list brought to a length with zeros. -/
def padTo (n : Nat) (l : List Nat) : List Nat := (l ++ List.replicate (n - l.length) 0).take n

/-- The kinds of Table 13.7. -/
def kRdReq : Nat := 1
def kRdResp : Nat := 2
def kWrReq : Nat := 3
def kWrAck : Nat := 4
def kMsg : Nat := 5
def kMsgCredit : Nat := 6
def kColl : Nat := 7
def kBulk : Nat := 8
def kBulkAck : Nat := 9
def kCtrl : Nat := 10
def kTsync : Nat := 11
def kMgmt : Nat := 12

/-- The channel of a kind and the most flits it takes (Table 13.7); channel 8 for an undefined kind. -/
def kindRow (k : Nat) : Nat × Nat :=
  [(8, 0), (2, 1), (1, 3), (5, 3), (1, 1), (3, 2), (1, 1), (4, 4), (5, 4), (1, 1), (0, 1), (6, 1), (7, 4)].getD k (8, 0)

/-- The payload bytes that a header announces: none for RD_REQ, whose BYTES counts the bytes requested. -/
def payloadLen (kind bytes : Nat) : Nat := if kind = kRdReq then 0 else bytes

/-- The flits that a packet with n payload bytes takes (R347). -/
def flitsFor (n : Nat) : Nat := cdiv (36 + n) 244

/-- The number of flits of a packet. -/
def Packet.len (p : Packet) : Nat := flitsFor p.payload.length

/-- The header (Table 13.6). -/
def Packet.header (p : Packet) : List Nat :=
  toBytes 8 (p.dest * 2 ^ 50 + p.src * 2 ^ 36 + p.gen * 2 ^ 20 + p.kind * 2 ^ 15 + (p.len - 1) * 2 ^ 10 + p.bytes) ++
  toBytes 8 (p.srcBench * 2 ^ 58 + p.tenant * 2 ^ 53 + p.tag * 2 ^ 44 + p.epoch * 2 ^ 36 + p.argA) ++
  toBytes 8 p.address ++ toBytes 8 p.argB

/-- Header, payload, PCRC and zeros to the end of the last flit (R347). -/
def Packet.stream (p : Packet) : List Nat :=
  let hp := p.header ++ natBytes p.payload
  padTo (244 * p.len) (hp ++ toBytes 4 (crc32c hp))

/-- The flits of a packet in a class. -/
def Packet.toFlits (p : Packet) (cls : Nat) : List Flit :=
  let n := p.len
  (chunksOf 244 p.stream).zipIdx.map (fun b =>
    ⟨(kindRow p.kind).1, cls, decide (b.2 = 0), decide (b.2 + 1 = n), false, none, byteList b.1⟩)

/-- The packet that a header and payload bytes spell. -/
def Packet.ofStream (l : List Nat) : Packet :=
  let h := fun k => ofBytes ((l.drop (8 * k)).take 8)
  let kind := bits (h 0) 19 15
  let bytes := bits (h 0) 9 0
  ⟨bits (h 0) 63 50, bits (h 0) 49 36, bits (h 0) 35 20, kind, bytes, bits (h 1) 63 58, bits (h 1) 57 53, bits (h 1) 52 44,
    bits (h 1) 43 36, bits (h 1) 31 0, h 2, h 3, byteList ((l.drop 32).take (payloadLen kind bytes)), []⟩

/-- LEN of a header, in flits. -/
def headerLen (l : List Nat) : Nat := bits (ofBytes (l.take 8)) 11 10 + 1

/-- Whether a header keeps R348 on a channel: a defined kind on its own channel, LEN as BYTES asks. -/
def headerOk (l : List Nat) (vc : Nat) : Bool :=
  let p := Packet.ofStream l
  let row := kindRow p.kind
  decide (row.1 = vc) && decide (headerLen l = flitsFor (payloadLen p.kind p.bytes)) && decide (headerLen l ≤ row.2)

/-- Whether the PCRC of a received packet checks. -/
def pcrcOk (l : List Nat) : Bool :=
  let p := Packet.ofStream l
  let n := 32 + payloadLen p.kind p.bytes
  decide (ofBytes ((l.drop n).take 4) = crc32c (l.take n))

/-- Link flags as a flit carries them: NULL, NAK, SEQ, ACK. -/
structure FlitCtl where
  null : Bool
  nak : Bool
  seq : Nat
  ack : Nat
  deriving DecidableEq, Repr

/-- A flit as 256 bytes (Table 13.5). -/
def Flit.encode (f : Flit) (c : FlitCtl) : List Nat :=
  let cr := match f.credit with
    | none => 0
    | some d => 2 ^ 30 + d.vc * 2 ^ 27 + d.cls * 2 ^ 26 + d.count % 1024 * 2 ^ 16
  let h := f.vc * 2 ^ 61 + f.cls * 2 ^ 60 + b2n f.first * 2 ^ 59 + b2n f.last * 2 ^ 58 + b2n f.stomp * 2 ^ 57 +
    b2n c.null * 2 ^ 56 + b2n c.nak * 2 ^ 55 + c.seq * 2 ^ 43 + c.ack * 2 ^ 31 + cr
  let body := toBytes 8 h ++ padTo 244 (natBytes f.body)
  body ++ toBytes 4 (crc32c body)

/-- The flit that 256 bytes spell. -/
def Flit.decode (l : List Nat) : Flit × FlitCtl :=
  let h := ofBytes (l.take 8)
  (⟨bits h 63 61, bits h 60 60, bit h 59, bit h 58, bit h 57,
    if bit h 30 then some ⟨bits h 29 27, bits h 26 26, bits h 25 16⟩ else none, byteList ((l.drop 8).take 244)⟩,
   ⟨bit h 56, bit h 55, bits h 54 43, bits h 42 31⟩)

/-- Whether the CRC of a flit checks. -/
def flitCrcOk (l : List Nat) : Bool := decide (ofBytes ((l.drop 252).take 4) = crc32c (l.take 252))

/-- A null flit with a credit return. -/
def Flit.idle (cr : Option CreditDue) : Flit := ⟨0, 0, false, false, false, cr, []⟩

end Sys2Proof.Machine
end

