-- ==== Sys2Proof/Machine/Routing.lean ====
section
/-! DEFINITION. How a packet finds its way: the route table (R367-R371), the generation check (R377, R378), injection
(R349, R359) and delivery on this device (R348, R357 of spec/13_odyan_links.md and spec/14_hall.md). -/

namespace Sys2Proof.Machine

/-- The link states of Table 13.4. -/
def lkDisabled : Nat := 0
def lkDetect : Nat := 1
def lkEqualise : Nat := 2
def lkMeasure : Nat := 3
def lkExchange : Nat := 4
def lkActive : Nat := 5
def lkRetrain : Nat := 6
def lkDown : Nat := 7

/-- The state of a link. -/
def State.linkState (s : State) (lk : Nat) : Nat := s.rd (Fld.FAB_PORT_STATUS_STATE lk)

/-- A link that carries packets: ACTIVE or RETRAIN. -/
def State.linkUp (s : State) (lk : Nat) : Bool := decide (s.linkState lk = lkActive) || decide (s.linkState lk = lkRetrain)

/-- Whether a link number names a link: a whole port's half B does not exist (R360). -/
def State.linkExists (s : State) (lk : Nat) : Bool := decide (lk % 2 = 0) || s.flag (Fld.FAB_PORT_CTL_SPLIT (lk - 1))

/-- The device's own id. -/
def State.devId (s : State) : Nat := s.rd Fld.HALL_ID_DEV_ID

/-- HALL_ID.STATE reads FENCED. -/
def State.fenced (s : State) : Bool := decide (s.rd Fld.HALL_ID_STATE = 3)

/-- The generation table's entry of a slot: state and generation (R377). -/
def State.genEntry (s : State) (slot : Nat) : Nat × Nat :=
  let v := Sparse.get (fun _ => 0) s.hall.gens slot
  (v / 65536, v % 65536)

/-- A generation-table entry set. -/
def State.setGen (s : State) (slot st gen : Nat) : State :=
  { s with hall := { s.hall with gens := Sparse.set (fun _ => 0) s.hall.gens slot (st * 65536 + gen % 65536) } }

/-- A route entry. -/
def State.routeEnt (s : State) (i : Nat) : Reg64 := Sparse.get (fun _ => 0) s.hall.routes i

/-- A route entry set. -/
def State.setRouteEnt (s : State) (i : Nat) (v : Reg64) : State :=
  { s with hall := { s.hall with routes := Sparse.set (fun _ => 0) s.hall.routes i v } }

/-- Whether a route entry matches a destination (R367). -/
def routeMatches (e : Reg64) (dest : Nat) : Bool :=
  e.getLsbD 63 && decide (getBits e 41 28 ≤ dest) && decide (dest ≤ getBits e 55 42)

/-- The better of two entries by priority, the earlier on equal priority (R365, R367). -/
def better {α : Type} (prio : α → Nat) (best : Option α) (x : α) : Option α :=
  match best with
  | none => some x
  | some b => if prio b < prio x then some x else some b

/-- The winning route entry for a destination. The listed entries stand in index order. -/
def State.routeFor (s : State) (dest : Nat) : Option Reg64 :=
  ((s.hall.routes.map Prod.snd).filter (routeMatches · dest)).foldl (better (getBits · 59 56)) none

/-- The links of a route entry, in order. -/
def routeLinks (e : Reg64) : List Nat := (List.range (getBits e 25 24 + 1)).map (fun k => getBits e (6 * k + 5) (6 * k))

/-- The flow key's fields (R368). -/
def flowKey (p : Packet) : List Nat :=
  if p.kind = kMsg ∨ p.kind = kMsgCredit then [p.src, p.srcBench, p.dest, bits p.address 63 54]
  else if p.kind = kColl then [bits p.address 5 0, p.src]
  else [p.src, p.srcBench, p.dest, bits p.address 49 21]

/-- The link that a packet leaves by under a route entry (R368). -/
def State.pickLink (s : State) (e : Reg64) (p : Packet) : Option Nat :=
  let ls := routeLinks e
  let i := Config.flowHash (flowKey p) % ls.length
  (ls.drop i ++ ls.take i).find? s.linkUp

/-- ROUTE_MISS counted and logged, at most once a window (R369). -/
def State.routeMiss (s : State) (p : Packet) (ingress : Nat) : State :=
  let s := s.bump Fld.HALL_TBL_STATUS_ROUTE_MISSES 1
  s.logOnce 0x100 (fun s => s.logAt 0x10 6 ingress
    (p.dest * 2 ^ 50 + p.src * 2 ^ 36 + p.kind * 2 ^ 15 + ingress) 0)

/-- Where a packet goes next: to this device, on a link (with the entry's CLASS_UP), or nowhere. -/
inductive Hop
  | here
  | link (lk : Nat) (up : Bool)
  | miss
  | lost
  deriving DecidableEq, Repr

/-- The next hop of a packet (R367, R368). -/
def State.nextHop (s : State) (p : Packet) : Hop :=
  if p.dest = s.devId then .here
  else
    match s.routeFor p.dest with
    | none => .miss
    | some e =>
      match s.pickLink e p with
      | none => .lost
      | some lk => .link lk (e.getLsbD 62)

/-- Credits owed to the partner of a link, if a link is named. -/
def State.oweCredit (s : State) (lk : Option Nat) (vc cls n : Nat) : State :=
  match lk with
  | none => s
  | some k => if n = 0 then s else s.onLink k (fun l => { l with due := l.due ++ [⟨vc, cls, n⟩] })

/-- The Sluice tag of a bench by its number changed. -/
def Bench.onTag (b : Bench) (id : Nat) (f : Tag → Tag) : Bench :=
  { b with sluice := b.sluice.map (fun j => { j with tags := j.tags.map (fun t => if t.id = id then f t else t) }) }

/-- The words of a payload with their marks. -/
def payloadWords (l : List Byte) (marks : List Nat) : List (Nat × Bool) :=
  (chunksOf 32 l).zipIdx.map (fun c => (ofBytes (natBytes c.1), marks.contains c.2))

/-- A response taken by the Sluice that asked: one of an older epoch is dropped and counted at the link it came by (R357); any
other brings the words of its tag, and its refusal (R363). -/
def State.takeResponse (s : State) (p : Packet) (link : Option Nat) : State :=
  let pb := s.physOf p.srcBench
  if p.epoch ≠ (s.bench pb).epoch then
    match link with
    | none => s
    | some lk => s.bump (Fld.FAB_PORT_ERR_STALE_RESP lk) 1
  else s.onBench pb (·.onTag p.tag (fun t =>
    { t with served := true, err := bit p.argB 0, data := if p.kind = kRdResp then payloadWords p.payload p.marks else t.data }))

/-- A packet delivered on this device, with the class and the link by which it came (R348, R351). A message keeps its receive
buffer until its ring takes it. -/
def State.deliver (s : State) (p : Packet) (link : Option Nat) (cls : Nat) : State :=
  let free := s.oweCredit link (kindRow p.kind).1 cls p.len
  if p.kind = kMsg then
    { s with net := { s.net with messages := s.net.messages ++ [{
      dest := bits p.address 63 58, ring := bits p.address 57 54, handler := bits p.argA 23 16, seq := bits p.argA 15 0
      srcDev := p.src, srcBench := p.srcBench, srcRoute := bits p.argA 31 24, tenant := p.tenant, arg := p.argB
      payload := p.payload, link := link, cls := cls, flits := p.len }] } }
  else if p.kind = kMsgCredit then
    { free with net := { free.net with credits := free.net.credits ++
      [⟨bits p.address 63 58, bits p.argA 31 24, bit p.argA 0⟩] } }
  else if p.kind = kRdResp ∨ p.kind = kWrAck then free.takeResponse p link
  else if p.kind = kRdReq ∨ p.kind = kWrReq ∨ p.kind = kBulk ∨ p.kind = kBulkAck ∨ p.kind = kMgmt then
    { free with net := { free.net with inbox := free.net.inbox ++ [⟨p, link⟩] } }
  else free

/-- A packet put into the egress of a link as a whole (R349). -/
def State.enqueue (s : State) (lk : Nat) (p : Packet) (cls : Nat) : State :=
  s.onLink lk (fun l => { l with egress := l.egress ++
    [⟨(kindRow p.kind).1, cls, p.len, p.toFlits cls, 0, none, 0⟩] })

/-- A packet of this device sent on its way, outside any hold: delivered here, put on its link, or discarded (R359, R367,
R369, R370). -/
def State.route (s : State) (p : Packet) : State :=
  match s.nextHop p with
  | .here => s.deliver p none 0
  | .miss => s.routeMiss p 0x3F
  | .lost => s
  | .link lk up => s.enqueue lk p (b2n up)

/-- Whether a fenced device may still send a packet: management packets to its headwater only (R382). -/
def State.maySend (s : State) (p : Packet) : Bool :=
  !s.fenced || decide (p.dest = s.devId) || (decide (p.kind = kMgmt) && decide (p.dest = s.rd Fld.HALL_ID_HEADWATER))

/-- A packet injected by this device; while a fabric reset holds injection it waits (R394). -/
def State.inject (s : State) (p : Packet) : State :=
  if !s.maySend p then s
  else if s.net.held ∧ p.dest ≠ s.devId then { s with net := { s.net with waiting := s.net.waiting ++ [p] } }
  else s.route p

/-- A packet of this device with its identity filled in: own slot and generation, payload and BYTES. -/
def State.packet (s : State) (kind dest srcBench tenant tag epoch argA address argB : Nat) (payload : List Byte) : Packet :=
  ⟨dest, s.devId, s.rd Fld.HALL_ID_GEN, kind, payload.length, srcBench, tenant, tag, epoch, argA, address, argB, payload, []⟩

/-- A FENCE notice with a slot's present entry sent back over a link (R378, R382). -/
def State.fenceBack (s : State) (lk slot : Nat) : State :=
  let e := s.genEntry slot
  s.emit (.fenceBack lk ⟨BitVec.ofNat 14 slot, BitVec.ofNat 16 e.2, BitVec.ofNat 2 e.1, none⟩)

/-- Whether the generation check passes (R378): link-management packets are exempt. -/
def State.genOk (s : State) (p : Packet) : Bool :=
  let e := s.genEntry p.src
  decide (p.kind = kCtrl) || decide (p.kind = kTsync) ||
    ((decide (e.1 = 1) || decide (e.1 = 2)) && decide (e.2 = p.gen))

/-- What a failed generation check leaves: the count, the log once per slot and window, the notice (R378). -/
def State.staleDrop (s : State) (p : Packet) (lk : Nat) : State :=
  let e := s.genEntry p.src
  let s := s.bump Fld.HALL_FENCE_STATUS_STALE_DROPS 1
  let s := s.logOnce (0x10000 + p.src) (fun s => s.logAt 0x0F 6 lk
    (p.src * 2 ^ 50 + p.gen * 2 ^ 32 + e.2 * 2 ^ 16 + e.1 * 2 ^ 14) p.kind)
  s.fenceBack lk p.src

/-- An entry of the Hall map as it stands: its two doublewords and its index. -/
structure MapEnt where
  index : Nat
  lo : Reg64
  hi : Reg64
  deriving DecidableEq, Repr

/-- The winning entry of the Hall map for a page and a tenant (R365). -/
def State.mapFor (s : State) (page tenant : Nat) : Option MapEnt :=
  let es := s.hall.mapLo.map (fun e => (⟨e.1, e.2, Sparse.get (fun _ => 0) s.hall.mapHi e.1⟩ : MapEnt))
  (es.filter (fun e => e.lo.getLsbD 63 && decide (getBits e.lo 52 48 = tenant) && decide (getBits e.lo 42 0 ≤ page) &&
    decide (page ≤ getBits e.hi 42 0))).foldl (better (fun e => getBits e.lo 59 56)) none

/-- What the Hall map says of a page: none to go on, else the fault's KIND (R365). -/
def State.hallTranslate (s : State) (page tenant : Nat) (write : Bool) : Option Nat :=
  match s.mapFor page tenant with
  | none => some 0
  | some e =>
    if !e.lo.getLsbD 62 then some 0
    else if write then (if e.lo.getLsbD 61 then none else some 1)
    else if e.lo.getLsbD 60 then none else some 1

end Sys2Proof.Machine
end

