-- ==== Sys2Proof/Machine/Sluice.lean ====
section
/-! DEFINITION. The Sluice: COPY, TLOAD and RESUME (R183-R186 of spec/06_command_reference.md, R309 of
spec/11_on_chip_memory.md, R326-R333 of spec/12_hbm_and_sluice.md, R363 and R364 of spec/14_hall.md): checks, tags, the accesses
at the far sides, responses, page faults. -/

namespace Sys2Proof.Machine

/-- The far sides of Table 12.5, and the own Pool as a TLOAD's source. -/
inductive FarSide | peer | basin | hbm | hall | own
  deriving DecidableEq, Repr

/-- Whether a Sluice command is a TLOAD. -/
def isTload (w : CmdWord) : Bool := decide (opcodeOf w = 0xC2)
/-- PEER_SIDE (R327). -/
def peerSide (w : CmdWord) : Nat := if isTload w then 0 else subop w 4 3
/-- The adder of a COPY, 0 for none (R183). -/
def adderOf (w : CmdWord) : Nat := if isTload w then 0 else subop w 2 0

/-- The operand slot of the far side (R326). -/
def farSlot (w : CmdWord) (d0 : List Nat) : Nat :=
  if isTload w then 0 else if peerSide w = 1 then 0 else if peerSide w = 2 then 2
  else if adSpace d0 = 0 then 2 else 0

/-- The far side of a command whose far descriptor is d. -/
def farSide (w : CmdWord) (d : List Nat) : FarSide :=
  if peerSide w ≠ 0 then .peer
  else if adSpace d = 1 then .basin else if adSpace d = 2 then .hbm else if adSpace d = 3 then .hall else .own

/-- The round trip of a far side in ns (Table 12.6). -/
def FarSide.ns : FarSide → Nat
  | .own => 10 | .peer => 80 | .basin => 100 | .hbm => 600 | .hall => 2000

/-- Doublewords of a table: command memory, descriptor table, loop table (Table 5.1). -/
def tableSize (t : Nat) : Nat := if t = 0 then 32768 else if t = 1 then 4096 else if t = 2 then 2048 else 0

/-- The table that a TLOAD fills and the doubleword at which it begins (R184). -/
def tlTable (w : CmdWord) : Nat := imm w 47 46
def tlStart (w : CmdWord) : Nat := imm w 14 0

/-- The word checks of COPY, TLOAD and RESUME (R183, R184, R326, R327, R529). -/
def sluiceWordChecks (s : State) (pb : Nat) (w : CmdWord) : List (Bool × Reject) :=
  let peer := imm w 45 40
  [(decide (cflagsOf w = 0), illegal 3)] ++
  (if opcodeOf w = 0xC3 then [(decide (subopOf w = 0) && decide (immOf w = 0), illegal 3)]
  else if isTload w then
    [(decide (subopOf w = 0) && decide (imm w 45 15 = 0), illegal 3), (decide (tlTable w ≠ 3), illegal 3)]
  else
    [(decide (subop w 7 5 = 0) && decide (subop w 2 0 ≤ 4) && decide (peerSide w ≠ 3), illegal 3),
     (decide (imm w 47 46 = 0) && decide (imm w 39 39 = 0) && decide (imm w 31 0 = 0), illegal 3),
     (decide (adderOf w = 4) || decide (imm w 38 32 = 0), illegal 3),
     (decide (peerSide w ≠ 0) || decide (peer = 0), illegal 3),
     (decide (peerSide w = 0) || (decide (some peer ≠ s.logicalOf pb) &&
        decide (s.rd (Fld.MGMT_GANG_STATE (peer / 4)) = gangAssigned) &&
        decide (s.gangTenant (peer / 4) = s.benchTenant pb)), illegal 3)])

/-- R129 on an operand of the Sluice; for the Hall, only that all words carry one device id (R326). -/
def slAdCheck (s : State) (spaces : List Nat) (d lp : List Nat) (o : Nat) : Except Reject Unit := do
  adCheck s spaces d lp o
  match adExtent d lp o with
  | none => .ok ()
  | some (lo, hi) => must (decide (adSpace d ≠ 3) || decide (lo / (2 ^ 50 : Int) = hi / (2 ^ 50 : Int))) (illegal o)

/-- The combination of sides that Table 12.5 allows. -/
def sidesOk (w : CmdWord) (d0 d2 : List Nat) : Bool :=
  let a := adSpace d0
  let b := adSpace d2
  (if peerSide w ≠ 0 then decide (a = 0) && decide (b = 0) else (decide (a = 0) != decide (b = 0))) &&
    (decide (adderOf w = 0) || (decide (peerSide w = 0) && decide (a = 0) && (decide (b = 1) || decide (b = 2))))

/-- The far words of a Sluice command in order; none for a suppressed access. -/
def slFar (pool : EMem) (w : CmdWord) (d0 d2 lp : List Nat) : List (Option Nat) :=
  if farSlot w d0 = 0 then adAll pool d0 lp 0 else adAll pool d2 lp 2

/-- The own-Pool words of a COPY in order. -/
def slOwn (pool : EMem) (w : CmdWord) (d0 d2 lp : List Nat) : List (Option Nat) :=
  if isTload w then [] else if farSlot w d0 = 0 then adAll pool d2 lp 2 else adAll pool d0 lp 0

/-- The length of the tag that begins a list of far words: up to 16 words at consecutive addresses of one aligned granule
(R328). -/
def tagLen : Nat → List (Option Nat) → Nat
  | 0, _ => 0
  | fuel + 1, l =>
    match l with
    | some a :: some b :: rest => if b = a + 32 ∧ a / 512 = b / 512 then 1 + tagLen fuel (some b :: rest) else 1
    | some _ :: _ => 1
    | _ => 0

/-- The tags of a command: positions and lengths (R328). -/
def tagsOf : Nat → Nat → List (Option Nat) → List (Nat × Nat)
  | 0, _, _ => []
  | fuel + 1, i, l =>
    match l with
    | [] => []
    | none :: rest => tagsOf fuel (i + 1) rest
    | some _ :: _ => let n := tagLen 16 l; (i, n) :: tagsOf fuel (i + n) (l.drop n)

/-- The busy time of a Sluice command (R329): the own-Pool windows hold the words of up to 32 tags each. -/
def slTime (rt : Nat) (far own : List (Option Nat)) : Nat :=
  let tags := tagsOf far.length 0 far
  let windows := (chunksOf 32 tags).map (fun ts =>
    4 * windowM (wordsOf (ts.flatMap (fun t => (own.drop t.1).take t.2))))
  max (if own.isEmpty then 0 else sumN windows) (cdiv tags.length 512 * rt) + rt

/-- The entries of a table that a TLOAD writes (R184). -/
def tlEntries (w : CmdWord) (words : Nat) : List Nat :=
  if words = 0 then []
  else (List.range ((tlStart w + 4 * words - 1) / 8 + 1 - tlStart w / 8)).map (· + tlStart w / 8)

/-- A Sluice command at stage 5. -/
def planSluice (c : Ctx) : Except Reject Plan := do
  let w := c.w
  mustAll (sluiceWordChecks c.s c.pb w)
  let e := c.exec engSL
  if opcodeOf w = 0xC3 then
    return Plan.of { c.exec 0 with todo := [] }
  let b := c.s.bench c.pb
  slAdCheck c.s [0, 1, 2, 3] c.d0 c.lp 0
  if !isTload w then
    slAdCheck c.s [0, 1, 2, 3] c.d2 c.lp 2
    must (decide (adPerIter c.d2 = adPerIter c.d0)) (illegal 2)
    must (sidesOk w c.d0 c.d2) (illegal 3)
    must (decide (adderOf w ≠ 4) || (c.s.primeEnt (imm w 38 32)).valid) (illegal 3)
  let words := adPerIter c.d0 * loopTrips c.lp
  must (!isTload w || decide (tlStart w + 4 * words ≤ tableSize (tlTable w))) (illegal 3)
  let far := slFar b.pool w c.d0 c.d2 c.lp
  let own := slOwn b.pool w c.d0 c.d2 c.lp
  let fs := farSlot w c.d0
  let side := farSide w (if fs = 0 then c.d0 else c.d2)
  let idx := adIdxInterval c.d0 ++ (if isTload w then [] else adIdxInterval c.d2)
  let ownIn := decide (fs = 2) || decide (side = .own)
  .ok ⟨{ e with
      reads := idx ++ (if isTload w then (if ownIn then adIntervals c.d0 c.lp 0 else [])
        else if fs = 2 then adIntervals c.d0 c.lp 0 else [])
      writes := if isTload w then [] else if fs = 0 then adIntervals c.d2 c.lp 2 else []
      sbDesc := if isTload w ∧ tlTable w = 1 then tlEntries w words else []
      sbLoop := if isTload w ∧ tlTable w = 2 then tlEntries w words else []
      primes := if adderOf w = 4 then [imm w 38 32] else []
      todo := [.sluice]
      busy := slTime (c.s.nsToBclk side.ns) far (if side = .own then far else own) +
        adIdxTime 2 c.d0 c.lp + (if isTload w then 0 else adIdxTime 2 c.d2 c.lp) },
    fun s => s.onBench c.pb (fun b => { b with sluice := b.sluice ++ [⟨e.id, 0, words, [], false, false, 0, false⟩] })⟩

/-- The command of a transfer. -/
def Bench.slExec (b : Bench) (j : SlJob) : Option Exec := b.exec j.cmd

/-- A transfer changed. -/
def Bench.onJob (b : Bench) (cmd : Nat) (f : SlJob → SlJob) : Bench :=
  { b with sluice := b.sluice.map (fun j => if j.cmd = cmd then f j else j) }

/-- The far words of a command in execution. -/
def Bench.farOf (b : Bench) (e : Exec) : List (Option Nat) := slFar b.pool e.word (e.d 0) (e.d 2) e.loop
/-- The own words of a command in execution. -/
def Bench.ownOf (b : Bench) (e : Exec) : List (Option Nat) := slOwn b.pool e.word (e.d 0) (e.d 2) e.loop
/-- The far descriptor. -/
def Exec.farDesc (e : Exec) : List Nat := if farSlot e.word (e.d 0) = 0 then e.d 0 else e.d 2
/-- The far side of a command in execution. -/
def Exec.side (e : Exec) : FarSide := farSide e.word e.farDesc
/-- Whether the far side is the destination. -/
def Exec.outward (e : Exec) : Bool := decide (farSlot e.word (e.d 0) = 2)

/-- The header of a command in execution for the log. -/
def Exec.header (e : Exec) : Nat := cmdHeader e.word e.stream e.pc

/-- A command's halt at retirement set (R85, Table 11.2). -/
def Bench.markHalt (b : Bench) (id cause : Nat) : Bench := b.onExec id (fun e => { e with halt := some cause })

/-- One doubleword of a table written; descriptor and loop entry 0 take no write (R118). -/
def Bench.tableWrite (b : Bench) (t i : Nat) (v : Reg64) : Bench :=
  if t = 0 then { b with cmdMem := b.cmdMem.setDword i v }
  else if i < 8 then b
  else if t = 1 then { b with descTab := b.descTab.setDword i v }
  else if t = 2 then { b with loopTab := b.loopTab.setDword i v } else b

/-- A table. -/
def Bench.table (b : Bench) (t : Nat) : EMem := if t = 0 then b.cmdMem else if t = 1 then b.descTab else b.loopTab

/-- The marks of the words of a table set or cleared. -/
def Bench.tableMark (b : Bench) (t w : Nat) (poison : Bool) : Bench :=
  let f := fun (m : EMem) => { m with bad := m.bad.filter (fun x => decide (x ≠ w)) ++ (if poison then [w] else []) }
  if t = 0 then { b with cmdMem := f b.cmdMem } else if t = 1 then { b with descTab := f b.descTab }
  else { b with loopTab := f b.loopTab }

/-- One word of a TLOAD written: four doublewords, and the mark of the table words that receive it (R184, R286, R287). -/
def Bench.tlWrite (b : Bench) (w : CmdWord) (pos v : Nat) (poison : Bool) : Bench :=
  let t := tlTable w
  let i := tlStart w + 4 * pos
  let b := (List.range 4).foldl (fun b k => b.tableWrite t (i + k) (BitVec.ofNat 64 (v / 2 ^ (64 * k)))) b
  let ws := (if i % 4 = 0 then [i / 4] else [i / 4, i / 4 + 1]).filter (fun x => decide (t = 0) || decide (2 ≤ x))
  ws.foldl (fun b x => if i % 4 = 0 then b.tableMark t x poison else if poison then b.tableMark t x true else b) b

/-- One word brought to the own side of a command: into its Pool word, or into its table; a suppressed own access discards it
(R328). -/
def Bench.bring (b : Bench) (e : Exec) (own : List (Option Nat)) (pos v : Nat) (poison : Bool) : Bench :=
  if isTload e.word then b.tlWrite e.word pos v poison
  else
    match (own.getD pos none) with
    | none => b
    | some a => { b with pool := b.pool.writeWord a v poison }

/-- Suppressed far accesses passed over: zero words at the own side where the far side is read (R328). -/
def slSkip (e : Exec) (far own : List (Option Nat)) : Nat → Nat → Bench → Nat × Bench
  | 0, i, b => (i, b)
  | fuel + 1, i, b =>
    match far[i]? with
    | some none => slSkip e far own fuel (i + 1) (if e.outward then b else b.bring e own i 0 false)
    | _ => (i, b)

/-- A transfer with every word sent and every tag returned is over: its command can retire (R141). -/
def Bench.slFinish (b : Bench) (cmd : Nat) : Bench :=
  match b.sluice.find? (fun j => decide (j.cmd = cmd)) with
  | none => b
  | some j =>
    if j.total ≤ j.next ∧ j.tags.isEmpty then
      { (b.onExec cmd (fun e => { e with todo := [] })) with sluice := b.sluice.filter (fun x => decide (x.cmd ≠ cmd)) }
    else b

/-- Suppressed accesses at the head of a transfer passed over, and the transfer ended if nothing is left. -/
def State.slAdvance (s : State) (pb cmd : Nat) : State :=
  s.onBench pb (fun b =>
    match b.sluice.find? (fun j => decide (j.cmd = cmd)), b.exec cmd with
    | some j, some e =>
      let r := slSkip e (b.farOf e) (b.ownOf e) j.total j.next b
      (r.2.onJob cmd (fun j => { j with next := r.1 })).slFinish cmd
    | _, _ => b)

/-- The loop iteration and the word of a position (BENCH_SLUICE_CTX). -/
def slPosition (e : Exec) (pos : Nat) : Nat × Nat :=
  let per := adPerIter e.farDesc
  if per = 0 then (0, 0) else (pos / per, pos % per)

/-- A transfer halts on its page (R331): the position and the page are saved, the fault is logged. -/
def State.slHalt (s : State) (pb cmd : Nat) : State :=
  let b := s.bench pb
  match b.sluice.find? (fun j => decide (j.cmd = cmd)), b.exec cmd with
  | some j, some e =>
    let a := ((b.farOf e).getD j.next none).getD 0
    let p := slPosition e j.next
    let s := s.setBench pb (b.onJob cmd (fun j => { j with halted := true, pending := false }))
    let s := ((s.wr (Fld.BENCH_SLUICE_CTX_ITER pb) p.1).wr (Fld.BENCH_SLUICE_CTX_WORD pb) p.2).wr
      (Fld.BENCH_SLUICE_FAULT_PAGE pb) (a / 2 ^ 21)
    let s := s.bump (Fld.BENCH_SLUICE_STATUS_FAULTS pb) 1
    s.logBench pb 0x09 a (j.fault * 2 ^ 60 + b2n e.outward * 2 ^ 59 + e.pc % 2 ^ 14 * 2 ^ 32)
  | _, _ => s

/-- A transfer that is about to halt does so once no tag is out (R331). -/
def State.slSettle (s : State) (pb : Nat) : State :=
  let b := s.bench pb
  match b.sluice.find? (·.pending) with
  | none => s
  | some j => if b.sluice.all (fun x => x.tags.isEmpty) then s.slHalt pb j.cmd else s

/-- The words that a tag carries out of the Pool, with their marks; a suppressed own access sends zeros (R328). -/
def slData (b : Bench) (e : Exec) (own : List (Option Nat)) (first n : Nat) : List (Nat × Bool) :=
  ((own.drop first).take n).map (fun x =>
    match x with
    | none => (0, false)
    | some a => let w := b.pool.readWord a; (w.1, w.2 || e.badWords.contains (a / 32)))

/-- The bytes of words. -/
def wordsBytes (l : List (Nat × Bool)) : List Byte := l.flatMap (fun w => byteList (toBytes 32 w.1))

/-- The positions of the marked words of a list. -/
def markedAt (l : List (Nat × Bool)) : List Nat := (l.zipIdx.filter (fun w => w.1.2)).map Prod.snd

/-- The next tag of a transfer sent (R328, R329): to the Hall as a packet; the own Pool answers a TLOAD at once. -/
def State.slSend (s : State) (pb : Nat) (j : SlJob) (e : Exec) : State :=
  let b := s.bench pb
  let far := b.farOf e
  let own := b.ownOf e
  let a := (far.getD j.next none).getD 0
  let n := tagLen 16 (far.drop j.next)
  let id := b.tagSeq % 512
  let data := if e.outward then slData b e own j.next n
    else if e.side = .own then ((far.drop j.next).take n).map (fun x =>
      match x with
      | none => (0, false)
      | some a => let w := b.pool.readWord a; (w.1, w.2 || e.badWords.contains (a / 32)))
    else []
  let tag : Tag := ⟨id, j.next, n, a, data, decide (e.side = .own), false⟩
  let bad := markedAt data
  let b := b.onJob j.cmd (fun x => { x with next := x.next + n, tags := x.tags ++ [tag] })
  let b := { (if bad.isEmpty then b else b.markHalt j.cmd 6) with tagSeq := b.tagSeq + 1 }
  let s := s.setBench pb b
  let src := if e.outward then own else far
  let s := bad.foldl (fun s k =>
    let x := (src.getD (j.next + k) none).getD 0
    if e.badWords.contains (x / 32) then s else s.benchUncorrectable pb memPool rdSluice x e.header) s
  let s := if e.side = .hall then
      let m := (s.logicalOf pb).getD 0
      let p := s.packet (if e.outward then kWrReq else kRdReq) (a / 2 ^ 50) m (s.benchTenant pb) id b.epoch 0 a 0
        (if e.outward then wordsBytes data else [])
      s.inject { p with bytes := 32 * n, marks := markedAt data }
    else s
  s.slAdvance pb j.cmd

/-- TAG_SEND: the first transfer with words left sends its next tag, if a tag number is free and no halt stands; a Hall page is
translated first (R329, R331). -/
def State.tagSend (s : State) (pb : Nat) : State :=
  let b := s.bench pb
  let used := b.sluice.any (fun j => j.tags.any (fun t => decide (t.id = b.tagSeq % 512)))
  match b.sluice.find? (fun j => decide (j.next < j.total)) with
  | none => s
  | some j =>
    if used || j.halted || j.pending then s
    else
      match b.exec j.cmd with
      | none => s
      | some e =>
        let a := ((b.farOf e).getD j.next none).getD 0
        if e.side = .hall then
          match s.hallTranslate (a / 2 ^ 21) (s.benchTenant pb) e.outward with
          | none => s.slSend pb j e
          | some kind =>
            (s.setBench pb (b.onJob j.cmd (fun j => { j with pending := true, fault := kind }))).slSettle pb
        else s.slSend pb j e

/-- A tag by number, with its transfer and command. -/
def Bench.findTag (b : Bench) (id : Nat) : Option (SlJob × Tag × Exec) :=
  (b.sluice.findSome? (fun j => (j.tags.find? (fun t => decide (t.id = id))).map (fun t => (j, t)))).bind
    (fun x => (b.exec x.1.cmd).map (fun e => (x.1, x.2, e)))

/-- The addresses of a tag's words. -/
def Tag.addrs (t : Tag) : List Nat := (List.range t.count).map (fun i => t.far + 32 * i)

/-- A tag served with data. -/
def State.serveTag (s : State) (pb id : Nat) (data : List (Nat × Bool)) : State :=
  s.onBench pb (·.onTag id (fun t => { t with served := true, data := data }))

/-- The first suppressed access of a command noted; f logs it (R295, R315). -/
def State.warnOnce (s : State) (pb : Nat) (j : SlJob) (f : State → State) : State :=
  if ((s.bench pb).sluice.find? (fun x => decide (x.cmd = j.cmd))).any (·.warned) then s
  else f (s.onBench pb (·.onJob j.cmd (fun x => { x with warned := true })))

/-- PAGE_FAULT of kind OWNER (R315, R363). -/
def State.ownerFault (s : State) (pb : Nat) (j : SlJob) (e : Exec) (a owner : Nat) : State :=
  s.warnOnce pb j (fun s =>
    (s.bump (Fld.BENCH_SLUICE_STATUS_FAULTS pb) 1).logBench pb 0x09 a
      (2 * 2 ^ 60 + b2n e.outward * 2 ^ 59 + owner * 2 ^ 48 + e.pc % 2 ^ 14 * 2 ^ 32))

/-- The prime of a residue adder. -/
def State.addPrime (s : State) (e : Exec) : Nat := (s.primeEnt (imm e.word 38 32)).p

/-- One word written or added at a far side: the new word and its mark (R316, R317, R286). -/
def farWord (e : Exec) (p : Nat) (old new : Nat × Bool) (oldBad : Bool) : Nat × Bool :=
  if adderOf e.word = 0 then new else (wordAdd (adderOf e.word) p old.1 new.1, old.2 || new.2 || oldBad)

/-- The wait of a plain request for a port of its Basin bank, counted: how long it was, only contention says (R292). -/
def State.basinWait (s : State) (l a : Nat) : State :=
  let bank := a / 32 % 256
  s.skip.bump ⟨behind Reg.DEVCTL_BASIN_CONFL_DATA (64 * l + bank / 4), 16 * (bank % 4) + 15, 16 * (bank % 4)⟩
    ((Config.freeWord s.fresh).toNat % 65536)

/-- BASIN_ACCESS: the words of a tag served by a Basin after the lease check (R295). The outcome of the check code is that of
the tag's first word. -/
def State.basinAccess (s : State) (pb id : Nat) (ecc : Ecc) : State :=
  match (s.bench pb).findTag id with
  | none => s
  | some (j, t, e) =>
    if t.served || decide (e.side ≠ .basin) then s
    else
      let l := adLedge e.farDesc
      let tenant := s.benchTenant pb
      let s := if adderOf e.word = 0 then s.basinWait l t.far else s
      if s.leaseOk l t.far tenant then
        let m := s.basin l
        let old := t.addrs.map m.readWord
        let reads := !e.outward || decide (adderOf e.word ≠ 0)
        let hit := reads && decide (ecc = .uncorrectable)
        let seen := old.zipIdx.map (fun w => (w.1.1, w.1.2 || (hit && decide (w.2 = 0))))
        let reader := if e.outward then rdAtomic else rdSluice
        let s := if reads ∧ ecc = .corrected then s.basinCorrected l reader t.far else s
        let s := if reads then (markedAt seen).foldl (fun s k =>
            s.basinUncorrectable l reader (t.far + 32 * k) tenant e.header) s else s
        if e.outward then
          let p := s.addPrime e
          let m := ((t.addrs.zip seen).zip t.data).foldl (fun m x =>
            let w := farWord e p x.1.2 x.2 false; m.writeWord x.1.1 w.1 w.2) m
          (s.setBasin l m).serveTag pb id t.data
        else s.serveTag pb id seen
      else
        let n := t.far / 2 ^ 17
        let s := s.warnOnce pb j (fun s => s.log 0x08 2 l 0x3F tenant
          (2 ^ 60 + l * 2 ^ 56 + tenant * 2 ^ 48 + (s.lease l n).owner * 2 ^ 40 + n * 2 ^ 16) t.far)
        s.serveTag pb id (if e.outward then t.data else List.replicate t.count (0, false))

/-- Bytes counted at a channel. -/
def State.countHbm (s : State) (a n : Nat) (write : Bool) : State :=
  match s.hbmLoc a with
  | none => s
  | some l => s.bump (if write then Fld.MEMC_CH_BYTES_WR l.ch else Fld.MEMC_CH_BYTES_RD l.ch) n

/-- HBM_CHANNEL_ACCESS: the words of a tag served by the channel of their granule after the page check (R315, R317, R321). -/
def State.hbmAccess (s : State) (pb id : Nat) (ecc : Ecc) : State :=
  match (s.bench pb).findTag id with
  | none => s
  | some (j, t, e) =>
    if t.served || decide (e.side ≠ .hbm) then s
    else
      let tenant := s.benchTenant pb
      if s.pageOk t.far tenant then
        let old := t.addrs.map s.hbmWord
        let reads := !e.outward || decide (adderOf e.word ≠ 0)
        let hit := reads && decide (ecc = .uncorrectable)
        let seen := old.zipIdx.map (fun w => (w.1.1, w.1.2 || (hit && decide (w.2 = 0))))
        let loc := (s.hbmLoc t.far).getD ⟨0, 0, 0⟩
        let reader := if e.outward then rdAtomic else rdSluice
        let s := if reads ∧ ecc = .corrected then s.hbmCorrected loc.ch reader loc.inChannel else s
        let s := if reads then (markedAt seen).foldl (fun s k =>
            s.hbmUncorrectable loc.ch reader (loc.inChannel + 32 * k) tenant e.header) s else s
        let s := s.countHbm t.far (32 * t.count) e.outward
        if e.outward then
          let p := s.addPrime e
          let s := ((t.addrs.zip seen).zip t.data).foldl (fun s x =>
            let w := farWord e p x.1.2 x.2 false; s.setHbmWord x.1.1 w.1 w.2) s
          s.serveTag pb id t.data
        else s.serveTag pb id seen
      else
        let s := s.ownerFault pb j e t.far (s.pageOwner t.far)
        s.serveTag pb id (if e.outward then t.data else List.replicate t.count (0, false))

/-- PEER_TAG_ARRIVAL: the words of a tag served by another bench's Pool while that bench is in FILL; discarded there in
RINSING; waiting otherwise (R309). -/
def State.peerArrival (s : State) (pb id : Nat) : State :=
  match (s.bench pb).findTag id with
  | none => s
  | some (_, t, e) =>
    let p2 := s.physOf (imm e.word 45 40)
    let peer := s.bench p2
    if t.served || decide (e.side ≠ .peer) then s
    else if peer.mode = .rinsing then
      s.serveTag pb id (if e.outward then t.data else List.replicate t.count (0, false))
    else if peer.mode = .fill then
      if e.outward then
        let pool := (t.addrs.zip t.data).foldl (fun m x => m.writeWord x.1 x.2.1 x.2.2) peer.pool
        (s.setBench p2 { peer with pool := pool }).serveTag pb id t.data
      else
        let data := t.addrs.map peer.pool.readWord
        let s := (markedAt data).foldl (fun s k =>
          s.benchUncorrectable p2 memPool rdSluice (t.far + 32 * k) e.header) s
        s.serveTag pb id data
    else s

/-- TAG_RESPONSE: a tag that its far side has served returns; words read go to the own side (R329). -/
def State.tagResponse (s : State) (pb id : Nat) : State :=
  match (s.bench pb).findTag id with
  | none => s
  | some (j, t, e) =>
    if !t.served then s
    else
      let s := if t.err then s.ownerFault pb j e t.far 0 else s
      let b := s.bench pb
      let own := b.ownOf e
      let bad := !e.outward && t.data.any Prod.snd
      let b := if e.outward then b
        else (t.data.zipIdx).foldl (fun b x => b.bring e own (t.first + x.2) x.1.1 x.1.2) b
      let b := b.onJob j.cmd (fun x => { x with tags := x.tags.filter (fun y => decide (y.id ≠ id)) })
      let b := (if bad then b.markHalt j.cmd 6 else b).slFinish j.cmd
      (s.setBench pb b).slSettle pb

/-- The halted transfer goes on from its saved position (R185, R332). -/
def State.slResume (s : State) (pb : Nat) : State :=
  s.onBench pb (fun b => { b with sluice := b.sluice.map (fun j => { j with halted := false }) })

/-- SLUICE_HALT. -/
def Bench.sluiceHalted (b : Bench) : Bool := b.sluice.any (·.halted)

/-- READY written to BENCH_SLUICE_FAULT (R332): ignored without a halt; resumes the command, or posts FAULT_TAG to the
Foreman. The halted command's place is what a TOKEN_ERROR names. -/
def State.sluiceReadyNow (s : State) (pb : Nat) : State :=
  let b := s.bench pb
  if !b.sluiceHalted then s
  else if s.flag (Fld.BENCH_SLUICE_CFG_AUTO_RESUME pb) then s.slResume pb
  else
    match (b.sluice.find? (·.halted)).bind b.slExec with
    | none => s
    | some e => s.postToken pb e.word e.stream e.pc (192 + s.rd (Fld.BENCH_SLUICE_CFG_FAULT_TAG pb))

end Sys2Proof.Machine
end

