-- ==== Sys2Proof/Machine/Links.lean ====
section
/-! DEFINITION. The link layer and the training machine of a link (R334-R360 of spec/13_odyan_links.md). -/

namespace Sys2Proof.Machine

/-- Lanes of a link: eight, or four for a half-port (R334). -/
def State.lanesOf (s : State) (lk : Nat) : Nat := if s.flag (Fld.FAB_PORT_CTL_SPLIT (lk - lk % 2)) then 4 else 8

/-- Whether a link is a half-port. -/
def State.isHalf (s : State) (lk : Nat) : Bool := s.flag (Fld.FAB_PORT_CTL_SPLIT (lk - lk % 2))

/-- The state of a link set. -/
def State.setLinkState (s : State) (lk st : Nat) : State := s.wr (Fld.FAB_PORT_STATUS_STATE lk) st

/-- Credits held for a channel and class. -/
def availFld (lk vc cls : Nat) : Fld := if cls = 1 then Fld.FAB_PORT_CREDIT_AVAIL1 lk vc else Fld.FAB_PORT_CREDIT_AVAIL0 lk vc

/-- The credits that a partner's allocation gives (R351): a two-class channel splits them equally. -/
def State.initCredits (s : State) (lk : Nat) (alloc : List Nat) : State :=
  s.each (List.range 8) (fun s vc =>
    let a := alloc.getD vc 0
    if vc = 0 ∨ vc = 6 then (s.wr (Fld.FAB_PORT_CREDIT_AVAIL0 lk vc) a).wr (Fld.FAB_PORT_CREDIT_AVAIL1 lk vc) 0
    else (s.wr (Fld.FAB_PORT_CREDIT_AVAIL0 lk vc) (a / 2)).wr (Fld.FAB_PORT_CREDIT_AVAIL1 lk vc) (a / 2))

/-- The filler flits that complete a truncated packet: the bytes that came, zeros, and the bitwise inverse of a valid PCRC
(R356). -/
def fillers (vc cls len : Nat) (bodies : List (List Byte)) : List Flit :=
  let got := (bodies.map natBytes).flatten
  let p := Packet.ofStream (padTo (244 * len) got)
  let n := 32 + payloadLen p.kind p.bytes
  let hp := padTo n got
  let all := padTo (244 * len) (hp ++ toBytes 4 (0xFFFFFFFF - crc32c hp))
  ((chunksOf 244 all).zipIdx.drop bodies.length).map (fun b =>
    ⟨vc, cls, decide (b.2 = 0), decide (b.2 + 1 = len), true, none, byteList b.1⟩)

/-- The egress packet that forwards what link src receives on a channel completed with filler. -/
def Link.stompFrom (l : Link) (src vc : Nat) (r : RxPacket) : Link :=
  { l with egress := l.egress.map (fun e =>
      if e.source = some src ∧ e.vc = vc ∧ e.sent + e.flits.length < e.len then
        { e with flits := e.flits ++ fillers vc e.cls e.len r.bodies }
      else e) }

/-- Every packet of which a link holds fewer flits than LEN discarded; those it was forwarding are completed with filler
(R356). -/
def State.dropPartials (s : State) (lk : Nat) : State :=
  let ps := (s.link lk).partials
  let s := s.bump (Fld.FAB_PORT_ERR_PARTIAL lk) ps.length
  let s := ps.foldl (fun s r =>
    match r.action with
    | .forward l2 => s.onLink l2 (·.stompFrom lk r.vc r)
    | _ => s) s
  s.onLink lk (fun l => { l with partials := [] })

/-- The receive buffers that packets waiting in an egress hold on other links, given back. -/
def State.freeEgress (s : State) (es : List EgPacket) : State :=
  es.foldl (fun s e => s.oweCredit e.source e.vc e.srcCls e.flits.length) s

/-- A link's layer lost: partial packets discarded, queued and unacknowledged packets lost, sequence numbers at 0
(R356, Table 13.9). -/
def State.loseLink (s : State) (lk : Nat) : State :=
  let s := s.dropPartials lk
  let s := s.freeEgress (s.link lk).egress
  s.onLink lk (fun l => { l with
    txSeq := 0, rxSeq := 0, nak := false, replay := [], resend := 0, failSeq := 0, failCount := 0, egress := []
    due := [], spareLane := none, resetting := false })

/-- LINK_DOWN logged (R345): the new state and reason, the lanes up before, the partner. -/
def State.logDown (s : State) (lk st reason : Nat) : State :=
  s.logAt 0x0D 6 lk
    (st * 2 ^ 53 + reason * 2 ^ 48 + s.rd (Fld.FAB_PORT_STATUS_LANES_UP lk) * 2 ^ 40 + s.rd (Fld.FAB_PORT_STATUS_LINK_UPS lk))
    (s.rd (Fld.FAB_PORT_PARTNER0_DEV lk) * 2 ^ 50)

/-- The upstream link leaves ACTIVE and RETRAIN: LOCKED clears (R486). -/
def State.tsyncLost (s : State) (lk : Nat) : State :=
  if s.rd Fld.CLKPWR_TSYNC_LINK = lk ∧ s.flag Fld.CLKPWR_TSYNC_LOCKED then
    { s.wrB Fld.CLKPWR_TSYNC_LOCKED false with power := { s.power with good := 0, badRun := 0 } }
  else s

/-- A link leaves for a state; from ACTIVE or RETRAIN its layer is lost, and the log says so unless it was ordered (R345). -/
def State.leaveLink (s : State) (lk st reason : Nat) (ordered : Bool) : State :=
  let up := s.linkUp lk
  let s := if up && !ordered then s.logDown lk st reason else s
  let s := if up then (s.loseLink lk).tsyncLost lk else s
  let s := if st = lkDetect then s.bump (Fld.FAB_PORT_STATUS_TRAIN_ATTEMPTS lk) 1 else s
  (((s.setLinkState lk st).wr (Fld.FAB_PORT_STATUS_DOWN_REASON lk) reason).wr (Fld.FAB_PORT_STATUS_LANES_UP lk) 0)

/-- ENABLE written as one to a DISABLED link (Table 13.4). -/
def State.linkEnableNow (s : State) (lk : Nat) : State :=
  if s.linkState lk = lkDisabled then s.setLinkState lk lkDetect else s

/-- ENABLE cleared: DISABLED at once (R356). -/
def State.linkDisableNow (s : State) (lk : Nat) : State :=
  if s.linkState lk = lkDisabled then s else s.leaveLink lk lkDisabled 0 true

/-- RETRAIN written (Table 13.4, R358). -/
def State.linkRetrainNow (s : State) (lk : Nat) : State :=
  if s.linkState lk = lkActive then s.setLinkState lk lkRetrain
  else if s.linkState lk = lkDown then s.leaveLink lk lkDetect 0 true
  else s

/-- LL_RESET written to an ACTIVE link (R358): partials discarded, begun packets abandoned, the replay buffer cleared. -/
def State.llResetNow (s : State) (lk : Nat) : State :=
  if s.linkState lk = lkActive ∧ ¬ (s.link lk).resetting then
    let s := s.dropPartials lk
    let begun := (s.link lk).egress.filter (fun e => decide (0 < e.sent))
    let s := s.freeEgress begun
    s.onLink lk (fun l => { l with
      egress := l.egress.filter (fun e => decide (e.sent = 0))
      txSeq := 0, rxSeq := 0, nak := false, replay := [], resend := 0, failSeq := 0, failCount := 0, due := []
      resetting := true })
  else s

/-- The link layer resumes (R358): credits return to the partner's allocation. -/
def State.llResetEnd (s : State) (lk : Nat) : State :=
  if (s.link lk).resetting then
    (s.initCredits lk (s.link lk).partnerAlloc).onLink lk (fun l => { l with resetting := false })
  else s

/-- The partner search of DETECT repeated (R339). -/
def State.detectRetry (s : State) (lk : Nat) : State :=
  if s.linkState lk = lkDetect then s.bump (Fld.FAB_PORT_STATUS_TRAIN_ATTEMPTS lk) 1 else s

/-- The partner seen on a set of lanes (R339). A new EQUALISE forgets the measurements (R340). -/
def State.partnerSeen (s : State) (lk lanes : Nat) : State :=
  let n := s.lanesOf lk
  if s.linkState lk = lkDetect ∧ n ≤ popcount lanes n + 1 then
    let s := (s.setLinkState lk lkEqualise).onLink lk (fun l => { l with trained := lanes % 2 ^ n })
    (s.setReg (Reg.FAB_PORT_MEAS lk) 0).setReg (Reg.FAB_PORT_LANE_LOSS lk) (BitVec.allOnes 64)
  else s

/-- Equalisation complete (R339). -/
def State.equaliseDone (s : State) (lk : Nat) : State :=
  if s.linkState lk = lkEqualise then s.setLinkState lk lkMeasure else s

/-- The losses of the trained lanes; 0xFF for a lane that was not measured. -/
def State.lossWord (s : State) (lk : Nat) (losses : List Nat) : List Nat :=
  (List.range 8).map (fun i => if i < s.lanesOf lk ∧ bit (s.link lk).trained i then losses.getD i 0xFF else 0xFF)

/-- MEASURE complete (R340): RTT in units of 10 ps is a tenth of LENGTH in cm. -/
def State.measureDone (s : State) (lk rtt : Nat) (losses : List Nat) : State :=
  if s.linkState lk = lkMeasure then
    let ls := s.lossWord lk losses
    let seen := (List.range 8).filter (fun i => decide (i < s.lanesOf lk) && bit (s.link lk).trained i)
    let s := ((s.wr (Fld.FAB_PORT_MEAS_RTT lk) rtt).wr (Fld.FAB_PORT_MEAS_LENGTH lk) ((rtt + 5) / 10)).wr
      (Fld.FAB_PORT_MEAS_LOSS_MAX lk) ((seen.map (fun i => ls.getD i 0)).foldl max 0)
    let s := s.each (List.range 8) (fun s j => s.wr (Fld.FAB_PORT_LANE_LOSS_LOSS lk j) (ls.getD j 0xFF))
    s.setLinkState lk lkExchange
  else s

/-- The capability block of the partner shown (R341). -/
def State.showPartner (s : State) (lk : Nat) (c : CapBlock) : State :=
  let w := c.dev.toNat * 2 ^ 50 + c.gen.toNat * 2 ^ 34 + c.role.toNat * 2 ^ 32 + c.port.toNat * 2 ^ 26 + b2n c.half * 2 ^ 25 +
    b2n c.halfB * 2 ^ 24 + c.lanes.toNat * 2 ^ 16 + b2n c.fecSr * 2 ^ 15 + b2n c.fecLr * 2 ^ 14 + c.modeReq.toNat * 2 ^ 12 +
    c.version.toNat
  (s.setReg (Reg.FAB_PORT_PARTNER0 lk) (BitVec.ofNat 64 w)).setReg (Reg.FAB_PORT_PARTNER1 lk) c.serial

/-- The mode that both sides agree on: LR by the rule of R341. -/
def State.agreeLr (s : State) (lk : Nat) (c : CapBlock) : Bool :=
  decide (s.rd (Fld.FAB_PORT_CTL_MODE_REQ lk) = 2) || decide (c.modeReq.toNat = 2) || !c.fecSr ||
    s.flag (Fld.FAB_PORT_STATUS_OPTICAL lk) || c.optical || decide (80 < s.rd (Fld.FAB_PORT_MEAS_LOSS_MAX lk)) ||
    decide (80 < c.worstLoss.toNat)

/-- The DOWN_REASON of the first condition of R342 that holds, 0 for none. -/
def State.downReason (s : State) (lk : Nat) (c : CapBlock) : Nat :=
  let n := s.lanesOf lk
  let lanes := (s.link lk).trained &&& c.lanes.toNat
  let lr := s.agreeLr lk c
  if popcount lanes n + 1 < n then 1
  else if c.version.toNat / 16 ≠ Config.linkMajor then 2
  else if c.serial = s.reg Reg.DEVCTL_SERIAL then 3
  else if c.half ≠ s.isHalf lk then 4
  else if lr ∧ (s.rd (Fld.FAB_PORT_CTL_MODE_REQ lk) = 1 ∨ c.modeReq.toNat = 1) then 5
  else if 50000 < s.rd (Fld.FAB_PORT_MEAS_RTT lk) then 6
  else 0

/-- EXCHANGE complete: ACTIVE in the agreed mode, or DOWN (R341, R342). A partner whose generation differs from this
device's table is told so (R382). -/
def State.exchangeDone (s : State) (lk : Nat) (c : CapBlock) : State :=
  if s.linkState lk = lkExchange then
    let reason := s.downReason lk c
    let lr := s.agreeLr lk c
    let n := s.lanesOf lk
    let lanes := ((s.link lk).trained &&& c.lanes.toNat) % 2 ^ n
    let alloc := c.alloc.map BitVec.toNat
    let s := s.showPartner lk c
    if reason ≠ 0 then (s.setLinkState lk lkDown).wr (Fld.FAB_PORT_STATUS_DOWN_REASON lk) reason
    else
      let s := ((s.setLinkState lk lkActive).wr (Fld.FAB_PORT_STATUS_DOWN_REASON lk) 0).wrB (Fld.FAB_PORT_STATUS_MODE lk) lr
      let s := (s.wr (Fld.FAB_PORT_STATUS_LANES_UP lk) lanes).wr (Fld.FAB_PORT_STATUS_SPARED lk)
        (((List.range n).find? (fun i => !bit lanes i)).getD 0xF)
      let s := (s.wrapInc (Fld.FAB_PORT_STATUS_LINK_UPS lk)).initCredits lk alloc
      let s := s.onLink lk (fun l => { l with partnerAlloc := alloc })
      if (s.genEntry c.dev.toNat).2 ≠ c.gen.toNat then s.fenceBack lk c.dev.toNat else s
  else s

/-- A training state or RETRAIN exceeds its limit (Table 13.4). -/
def State.linkTimeout (s : State) (lk : Nat) : State :=
  let st := s.linkState lk
  if st = lkEqualise ∨ st = lkMeasure ∨ st = lkExchange ∨ st = lkRetrain then s.leaveLink lk lkDetect 0 false else s

/-- RETRAIN complete: ACTIVE with the link layer kept; a lane that failed is spared and logged (R343). -/
def State.retrainDone (s : State) (lk : Nat) : State :=
  if s.linkState lk = lkRetrain then
    let s := (s.setLinkState lk lkActive).wrapInc (Fld.FAB_PORT_STATUS_LINK_UPS lk)
    match (s.link lk).spareLane with
    | none => s
    | some lane =>
      let up := s.rd (Fld.FAB_PORT_STATUS_LANES_UP lk)
      let s := (s.wr (Fld.FAB_PORT_STATUS_SPARED lk) lane).wr (Fld.FAB_PORT_STATUS_LANES_UP lk)
        (if bit up lane then up - 2 ^ lane else up)
      let s := s.onLink lk (fun l => { l with spareLane := none })
      s.logAt 0x0E 6 lk (lane * 2 ^ 32) 0
  else s

/-- A lane fails (R343): the first one sends the link to RETRAIN without it, a second one ends the link. -/
def State.laneFails (s : State) (lk lane : Nat) : State :=
  if s.linkUp lk && bit (s.rd (Fld.FAB_PORT_STATUS_LANES_UP lk)) lane then
    if s.linkState lk = lkActive ∧ s.rd (Fld.FAB_PORT_STATUS_SPARED lk) = 0xF ∧ (s.link lk).spareLane = none then
      (s.setLinkState lk lkRetrain).onLink lk (fun l => { l with spareLane := some lane })
    else s.leaveLink lk lkDown 1 false
  else s

/-- Channels of the deficit round-robin, in order (R353). -/
def drrOrder : List Nat := [1, 2, 3, 4, 5, 7]

/-- The weight of a channel. -/
def State.vcWeight (s : State) (lk vc : Nat) : Nat :=
  max 1 (if vc = 7 then s.rd (Fld.FAB_PORT_ARB_W7 lk) else if vc = 5 then s.rd (Fld.FAB_PORT_ARB_W5 lk)
    else if vc = 4 then s.rd (Fld.FAB_PORT_ARB_W4 lk) else if vc = 3 then s.rd (Fld.FAB_PORT_ARB_W3 lk)
    else if vc = 2 then s.rd (Fld.FAB_PORT_ARB_W2 lk) else s.rd (Fld.FAB_PORT_ARB_W1 lk))

/-- The place in the egress of the packet whose next flit a channel can send: the packet begun, else the first with a flit and
a credit (R349, R351). -/
def State.ready (s : State) (lk vc : Nat) : Option Nat :=
  let es := (s.link lk).egress.zipIdx.filter (fun e => decide (e.1.vc = vc))
  let can := fun (e : EgPacket) => !e.flits.isEmpty && decide (0 < s.rd (availFld lk vc e.cls))
  match es.find? (fun e => decide (0 < e.1.sent)) with
  | some e => if can e.1 then some e.2 else none
  | none => (es.find? (fun e => can e.1)).map Prod.snd

/-- Whether a place of the egress holds a packet that has begun. -/
def Link.begun (l : Link) (i : Nat) : Bool :=
  match l.egress[i]? with
  | none => false
  | some e => decide (0 < e.sent)

/-- The length of the packet at a place of the egress. -/
def Link.lenAt (l : Link) (i : Nat) : Nat :=
  match l.egress[i]? with
  | none => 0
  | some e => e.len

/-- One round-robin decision: the turn, the deficits, and the place chosen. -/
structure Pick where
  turn : Nat
  deficits : List Nat
  place : Option Nat
  deriving DecidableEq, Repr

/-- The deficit round-robin over whole packets (R353): the channel whose turn it is goes on with a packet it has begun and
starts one that its deficit covers; else the turn passes on, and the next channel's deficit grows by its weight. -/
def State.drr (s : State) (lk : Nat) : Nat → Nat → List Nat → Pick
  | 0, turn, def_ => ⟨turn, def_, none⟩
  | fuel + 1, turn, def_ =>
    let vc := drrOrder.getD (turn % 6) 1
    let l := s.link lk
    let next := (turn + 1) % 6
    let nvc := drrOrder.getD next 1
    let grow := fun (d : List Nat) =>
      (padTo 8 d).set nvc (if (s.ready lk nvc).isSome then (padTo 8 d).getD nvc 0 + s.vcWeight lk nvc else 0)
    match s.ready lk vc with
    | none => s.drr lk fuel next (grow def_)
    | some i =>
      if l.begun i then ⟨turn, def_, some i⟩
      else if l.lenAt i ≤ (padTo 8 def_).getD vc 0 then
        ⟨turn, (padTo 8 def_).set vc ((padTo 8 def_).getD vc 0 - l.lenAt i), some i⟩
      else s.drr lk fuel next (grow def_)

/-- The choice of a flit slot (R353): the place in the egress, with the turn and deficits as they stand then, and whether the
flit took priority. -/
def State.choose (s : State) (lk : Nat) : Pick × Nat :=
  let l := s.link lk
  let keep := fun (i : Option Nat) => (⟨l.turn, l.deficits, i⟩ : Pick)
  let v0 := s.ready lk 0
  let v6 := s.ready lk 6
  if v0.isSome ∧ 49 ≤ l.slotsSinceVc0 then (keep v0, 1)
  else if v6.isSome ∧ 99 ≤ l.slotsSinceVc6 then (keep v6, 2)
  else
    let p := s.drr lk 40 l.turn l.deficits
    if p.place.isSome then (p, 0)
    else if v0.isSome then (keep v0, 0)
    else (keep v6, 0)

/-- The first credit return that is due, taken out. -/
def Link.takeDue (l : Link) : Option CreditDue × List CreditDue :=
  match l.due with
  | [] => (none, [])
  | d :: rest => (some { d with count := min d.count 1023 },
      if 1023 < d.count then { d with count := d.count - 1023 } :: rest else rest)

/-- The next sequence number of 12 bits. -/
def nextSeq (n : Nat) : Nat := (n + 1) % 4096

/-- A flit sent on a link: its bytes go out (R346). -/
def State.putFlit (s : State) (lk : Nat) (f : Flit) (null : Bool) (seq : Nat) : State :=
  let l := s.link lk
  let bytes := f.encode ⟨null, l.nak, seq, l.rxSeq⟩
  (s.emit (.flit lk (byteList bytes))).onLink lk (fun l => { l with
    slotsSinceVc0 := l.slotsSinceVc0 + 1, slotsSinceVc6 := l.slotsSinceVc6 + 1 })

/-- A replayed flit counted, in its window too (R344, R345). -/
def State.countReplay (s : State) (lk : Nat) : State :=
  let w := s.window
  let limit := s.rd (Fld.FAB_PORT_CTL_REPLAY_LIMIT lk)
  let s := s.bump (Fld.FAB_PORT_ERR_REPLAYS lk) 1
  let s := s.onLink lk (fun l =>
    if l.replayWindow = w then { l with replayCount := l.replayCount + 1 }
    else { l with
      replayWindow := w, replayCount := 1
      replayLogged := l.replayLogged && !(decide (2 * l.replayCount < limit) || decide (l.replayWindow + 1 < w)) })
  let l := s.link lk
  if limit ≤ l.replayCount ∧ !l.replayLogged then
    (s.onLink lk (fun l => { l with replayLogged := true })).logAt 0x0E 6 lk (2 ^ 60 + l.replayCount) 0
  else s

/-- One flit slot of an egress (R344, R346, R353). -/
def State.flitSlot (s : State) (lk : Nat) : State :=
  let l := s.link lk
  if s.linkState lk ≠ lkActive ∨ l.resetting then s
  else if l.resend ≠ 0 then
    match l.replay[l.replay.length - l.resend]? with
    | none => s.onLink lk (fun l => { l with resend := 0 })
    | some (seq, f) => ((s.putFlit lk f false seq).onLink lk (fun l => { l with resend := l.resend - 1 })).countReplay lk
  else
    let d := l.takeDue
    let c := s.choose lk
    let room := decide (l.replay.length < 512)
    match (if room then c.1.place else none).bind (fun i => (l.egress[i]?).map (fun e => (i, e))) with
    | none => (s.putFlit lk (Flit.idle d.1) true 0).onLink lk (fun l => { l with due := d.2 })
    | some (i, e) =>
      match e.flits with
      | [] => s
      | f :: rest =>
        let seq := nextSeq l.txSeq
        let f := { f with cls := e.cls, credit := d.1 }
        let s := s.putFlit lk f false seq
        let done := decide (e.sent + 1 = e.len)
        let s := s.onLink lk (fun l => { l with
          txSeq := seq
          replay := l.replay ++ [(seq, f)]
          due := d.2
          turn := c.1.turn
          deficits := c.1.deficits
          slotsSinceVc0 := if c.2 = 1 then 0 else l.slotsSinceVc0
          slotsSinceVc6 := if c.2 = 2 then 0 else l.slotsSinceVc6
          egress := if done then l.egress.eraseIdx i else l.egress.set i { e with flits := rest, sent := e.sent + 1 } })
        let s := s.wr (availFld lk e.vc e.cls) (s.rd (availFld lk e.vc e.cls) - 1)
        s.oweCredit e.source e.vc e.srcCls 1

/-- The acknowledgement and the credit return of a flit applied (R344, R351). -/
def State.applyControl (s : State) (lk : Nat) (f : Flit) (c : FlitCtl) : State :=
  let s : State := match f.credit with
    | none => s
    | some d => s.wr (availFld lk d.vc d.cls) (min 1023 (s.rd (availFld lk d.vc d.cls) + d.count))
  let l := s.link lk
  let acked := (l.replay.zipIdx.find? (fun x => decide (x.1.1 = c.ack))).map Prod.snd
  let rest := match acked with
    | none => l.replay
    | some i => l.replay.drop (i + 1)
  let s := s.onLink lk (fun l => { l with replay := rest, resend := min l.resend rest.length })
  if c.nak ∧ (s.link lk).resend = 0 then
    match rest with
    | [] => s
    | (seq, _) :: _ =>
      let n := if l.failSeq = seq ∧ l.failCount ≠ 0 then l.failCount + 1 else 1
      let s := s.onLink lk (fun l => { l with resend := rest.length, failSeq := seq, failCount := n })
      if 16 ≤ n then (s.setLinkState lk lkRetrain).onLink lk (fun l => { l with failCount := 0 }) else s
  else s

/-- What becomes of a packet whose first flit arrives: checked, then delivered, forwarded or dropped (R348, R367, R378). -/
def State.admitFlit (s : State) (lk : Nat) (f : Flit) : State × RxPacket :=
  let h := natBytes f.body
  let p := Packet.ofStream h
  let rx := fun (a : RxAction) => (⟨f.vc, f.cls, headerLen h, [], false, a⟩ : RxPacket)
  if !headerOk h f.vc then (s.bump (Fld.FAB_PORT_ERR_BAD_PACKET lk) 1, rx .drop)
  else if p.kind = kCtrl ∨ p.kind = kTsync then (s, rx .deliver)
  else if !s.genOk p then (s.staleDrop p lk, rx .drop)
  else
    match s.nextHop p with
    | .here => (s, rx .deliver)
    | .miss => (s.routeMiss p lk, rx .drop)
    | .lost => (s, rx .drop)
    | .link l2 up =>
      let cls := if up then 1 else f.cls
      (s.onLink l2 (fun l => { l with egress := l.egress ++ [⟨f.vc, cls, headerLen h, [], 0, some lk, f.cls⟩] }),
        rx (.forward l2))

/-- One flit handed to the egress that forwards its packet. -/
def Link.passOn (l : Link) (src vc : Nat) (f : Flit) : Link :=
  match (l.egress.zipIdx.find? (fun e => decide (e.1.source = some src) && decide (e.1.vc = vc) &&
    decide (e.1.sent + e.1.flits.length < e.1.len))) with
  | none => l
  | some (e, i) => { l with egress := l.egress.set i { e with flits := e.flits ++ [f] } }

/-- A flit of a packet taken in order (R349, R356). -/
def State.takeFlit (s : State) (lk : Nat) (f : Flit) : State :=
  let old := (s.link lk).partials.find? (fun r => decide (r.vc = f.vc))
  let others := (s.link lk).partials.filter (fun r => decide (r.vc ≠ f.vc))
  let start := if f.first then some (s.admitFlit lk f) else old.map (fun r => (s, r))
  match start with
  | none => s.oweCredit (some lk) f.vc f.cls 1
  | some (s, r) =>
    let r := { r with bodies := r.bodies ++ [f.body], stomped := r.stomped || f.stomp }
    let bad := f.last && decide (r.bodies.length ≠ r.len)
    let s := s.onLink lk (fun l => { l with partials := if f.last then others else others ++ [r] })
    match r.action with
    | .drop => s.oweCredit (some lk) f.vc f.cls 1
    | .forward l2 =>
      if s.linkUp l2 then s.onLink l2 (·.passOn lk f.vc { f with credit := none }) else s.oweCredit (some lk) f.vc f.cls 1
    | .deliver =>
      if !f.last then s
      else
        let stream := (r.bodies.map natBytes).flatten
        if bad || r.stomped || !pcrcOk stream then
          (s.bump (Fld.FAB_PORT_ERR_STOMPED lk) 1).oweCredit (some lk) f.vc f.cls r.bodies.length
        else s.deliver (Packet.ofStream stream) (some lk) f.cls

/-- A flit received (R344): a bad one and everything after it is refused until the replay; a good one is acknowledged, its
credits are applied and its packet goes on. -/
def State.flitIn (s : State) (lk : Nat) (bytes : List Nat) (uncorrectable : Bool) (corrected : Nat) : State :=
  if s.linkState lk ≠ lkActive ∨ (s.link lk).resetting then s
  else
    let s := s.bump (Fld.FAB_PORT_FEC_CORR_SYMBOLS lk) corrected
    let s := if uncorrectable then s.bump (Fld.FAB_PORT_ERR_FEC_UNCORR lk) 1 else s
    if uncorrectable || !flitCrcOk bytes then s.onLink lk (fun l => { l with nak := true })
    else
      let (f, c) := Flit.decode bytes
      if c.null then s.applyControl lk f c
      else if c.seq ≠ nextSeq (s.link lk).rxSeq then s.onLink lk (fun l => { l with nak := true })
      else
        let s := (s.bump (Fld.FAB_PORT_FEC_FLITS lk) 1).onLink lk (fun l => { l with rxSeq := c.seq, nak := false })
        (s.applyControl lk f c).takeFlit lk f

/-- The module pins sampled (R514): a whole port uses the pin of its half A. -/
def State.modulePins (s : State) (pins : Nat) : State :=
  s.each (List.range 64) (fun s lk =>
    if s.linkExists lk then s.wrB (Fld.FAB_PORT_STATUS_OPTICAL lk) (!bit pins lk) else s)

end Sys2Proof.Machine
end

