-- ==== Sys2Proof/Machine/Messages.lean ====
section
/-! DEFINITION. Active messages: routes, rings, credits (R165 of spec/06_command_reference.md, R208-R219 of
spec/07_foreman.md). -/

namespace Sys2Proof.Machine

/-- Whether a route is configured (R213). -/
def State.routeOk (s : State) (pb r : Nat) : Bool :=
  s.flag (Fld.BENCH_ROUTE_VALID pb r) && decide (1 ≤ s.rd (Fld.BENCH_ROUTE_CREDITS pb r))

/-- The Foreman data memory in bytes. -/
def dataBytes : Nat := 2 ^ 18

/-- Whether a payload fits the data memory (R165, R208). -/
def payloadOk (addr len : Nat) : Bool := decide (len ≤ 8) && decide (addr % 32 = 0) && decide (addr + 32 * len ≤ dataBytes)

/-- Words of the Foreman data memory that decode as uncorrectable are logged as they are read (R291). -/
def State.logBadData (s : State) (pb addr len reader : Nat) : State :=
  (((List.range len).map (fun i => addr + 32 * i)).filter (fun a => (s.bench pb).dmem.bad.contains (a / 32))).foldl
    (fun s a => s.benchUncorrectable pb memData reader a 0) s

/-- A message sent on a route that has a credit: the credit is used and SEQ taken (R165, R208, R214). -/
def State.sendMessage (s : State) (pb r handler len addr arg : Nat) : State :=
  let seq := s.rd (Fld.BENCH_ROUTE_STAT_SEQ pb r)
  let src := (s.logicalOf pb).getD 0
  let p := s.packet kMsg (s.rd (Fld.BENCH_ROUTE_DEV pb r)) src (s.benchTenant pb) 0 0
    (r * 2 ^ 24 + handler * 2 ^ 16 + seq)
    (s.rd (Fld.BENCH_ROUTE_BENCH pb r) * 2 ^ 58 + s.rd (Fld.BENCH_ROUTE_RING pb r) * 2 ^ 54) arg
    ((s.bench pb).dmem.mem.readBytes addr (32 * len))
  let s := s.logBadData pb addr len rdForeman
  let s := s.wr (Fld.BENCH_ROUTE_STAT_AVAIL pb r) (s.rd (Fld.BENCH_ROUTE_STAT_AVAIL pb r) - 1)
  (s.wr (Fld.BENCH_ROUTE_STAT_SEQ pb r) (seq + 1)).inject p

/-- A credit return sent from a bench to a route of a bench of a device (R209, R215). -/
def State.sendCredit (s : State) (pb dev bench route : Nat) (dropped : Bool) : State :=
  s.inject (s.packet kMsgCredit dev ((s.logicalOf pb).getD 0) (s.benchTenant pb) 0 0 (route * 2 ^ 24 + b2n dropped)
    (bench * 2 ^ 58) 0 [])

/-- Entries that a ring holds (R217). -/
def State.ringOcc (s : State) (pb i : Nat) : Nat :=
  (s.rd (Fld.BENCH_RING_PTR_WR_COUNT pb i) + 65536 - s.rd (Fld.BENCH_RING_PTR_RD_COUNT pb i)) % 65536

/-- Entries of a ring. -/
def State.ringSize (s : State) (pb i : Nat) : Nat := 2 ^ s.rd (Fld.BENCH_RING_CFG_LOG_ENTRIES pb i)

/-- The data-memory address of the entry that a count names (R216). -/
def State.ringEntry (s : State) (pb i count : Nat) : Nat :=
  s.rd (Fld.BENCH_RING_CFG_BASE pb i) + count % s.ringSize pb i * 288

/-- Header DW0 or DW1 of the head entry, zero when the ring is empty (R218). -/
def State.ringHead (s : State) (pb i k : Nat) : Reg64 :=
  if s.ringOcc pb i = 0 then 0
  else (s.bench pb).dmem.dword (s.ringEntry pb i (s.rd (Fld.BENCH_RING_PTR_RD_COUNT pb i)) / 8 + k)

/-- Header DW0 of Table 7.5. -/
def Message.header (m : Message) : Nat :=
  m.srcDev * 2 ^ 50 + m.srcBench * 2 ^ 44 + m.srcRoute * 2 ^ 36 + m.handler * 2 ^ 28 + m.payload.length / 32 * 2 ^ 24 +
    m.tenant * 2 ^ 16 + m.seq

/-- A message written into an entry (Table 7.5). -/
def writeEntry (mem : EMem) (a : Nat) (m : Message) : EMem :=
  (chunksOf 32 m.payload).zipIdx.foldl (fun mm w => mm.writeWord (a + 32 + 32 * w.2) (ofBytes (w.1.map BitVec.toNat)) false)
    (mem.writeWord a (m.header % 2 ^ 64 + m.arg % 2 ^ 64 * 2 ^ 64) false)

/-- Whether an arriving message is dropped (R215). -/
def State.dropsMessage (s : State) (pb : Nat) (m : Message) : Bool :=
  !s.flag (Fld.BENCH_RING_CFG_EN pb m.ring) || decide (s.ringSize pb m.ring ≤ s.ringOcc pb m.ring) ||
    decide (m.tenant ≠ s.benchTenant pb) || decide ((s.bench pb).mode = .rinsing)

/-- The first message of a list position taken out of the way. -/
def State.messageArrives (s : State) (n : Nat) : State :=
  match s.net.messages[n]? with
  | none => s
  | some m =>
    let pb := s.physOf m.dest
    let s := { s with net := { s.net with messages := s.net.messages.eraseIdx n } }
    let s := s.oweCredit m.link 3 m.cls m.flits
    if s.dropsMessage pb m then
      (s.bump (Fld.BENCH_RING_PTR_DROPPED pb m.ring) 1).sendCredit pb m.srcDev m.srcBench m.srcRoute true
    else
      let wr := s.rd (Fld.BENCH_RING_PTR_WR_COUNT pb m.ring)
      let a := s.ringEntry pb m.ring wr
      (s.onBench pb (fun b => { b with dmem := writeEntry b.dmem a m })).wr (Fld.BENCH_RING_PTR_WR_COUNT pb m.ring) (wr + 1)

/-- A credit return reaches its route: AVAIL rises by one, never above CREDITS; one for a route that is not configured is
discarded (R202, R214, R215). -/
def State.creditArrives (s : State) (n : Nat) : State :=
  match s.net.credits[n]? with
  | none => s
  | some c =>
    let pb := s.physOf c.bench
    let s := { s with net := { s.net with credits := s.net.credits.eraseIdx n } }
    if s.routeOk pb c.route then
      let s := s.wr (Fld.BENCH_ROUTE_STAT_AVAIL pb c.route)
        (min (s.rd (Fld.BENCH_ROUTE_CREDITS pb c.route)) (s.rd (Fld.BENCH_ROUTE_STAT_AVAIL pb c.route) + 1))
      if c.dropped then s.bump (Fld.BENCH_ROUTE_STAT_DROPPED pb c.route) 1 else s
    else s

/-- Entries released from the head of a ring, a credit return for each (R209). -/
def State.ringRelease (s : State) (pb i : Nat) : Nat → State
  | 0 => s
  | n + 1 =>
    let h := (s.ringHead pb i 0).toNat
    let s := s.wr (Fld.BENCH_RING_PTR_RD_COUNT pb i) (s.rd (Fld.BENCH_RING_PTR_RD_COUNT pb i) + 1)
    State.ringRelease (s.sendCredit pb (bits h 63 50) (bits h 49 44) (bits h 43 36) false) pb i n

end Sys2Proof.Machine
end

