-- ==== Sys2Proof/Machine/Confluence.lean ====
section
/-! DEFINITION. Confluence collectives: runs, their tree, what a node combines, lags (R385-R392 of spec/14_hall.md). -/

namespace Sys2Proof.Machine

/-- A field of an entry (Table 14.9). -/
def CflEnt.f (e : CflEnt) (i hi lo : Nat) : Nat := getBits (e.dws.getD i 0) hi lo

def CflEnt.valid (e : CflEnt) : Bool := decide (e.f 0 63 63 = 1)
def CflEnt.op (e : CflEnt) : Nat := e.f 0 62 60
def CflEnt.type (e : CflEnt) : Nat := e.f 0 59 57
def CflEnt.logK (e : CflEnt) : Nat := e.f 0 56 54
def CflEnt.tenant (e : CflEnt) : Nat := e.f 0 52 48
def CflEnt.first (e : CflEnt) : Nat := e.f 0 45 32
def CflEnt.size (e : CflEnt) : Nat := e.f 0 30 16
def CflEnt.root (e : CflEnt) : Nat := e.f 0 13 0
def CflEnt.count (e : CflEnt) : Nat := e.f 1 63 32
def CflEnt.chain (e : CflEnt) : Nat := e.f 1 28 24
def CflEnt.pos (e : CflEnt) : Nat := e.f 1 22 16
def CflEnt.lcount (e : CflEnt) : Nat := e.f 1 14 8
def CflEnt.src (e : CflEnt) : Nat := e.f 2 38 0
def CflEnt.dst (e : CflEnt) : Nat := e.f 3 38 0
def CflEnt.startBench (e : CflEnt) : Nat := e.f 4 63 58
def CflEnt.startWeir (e : CflEnt) : Nat := e.f 4 54 44
def CflEnt.startTarget (e : CflEnt) : Nat := e.f 4 31 0
def CflEnt.doneBench (e : CflEnt) : Nat := e.f 5 63 58
def CflEnt.doneWeir (e : CflEnt) : Nat := e.f 5 54 44
def CflEnt.stepBy (e : CflEnt) : Nat := e.f 5 31 0

/-- An entry that is not installed. -/
def CflEnt.empty : CflEnt := ⟨[], 0, none, []⟩

/-- Entry i of the Confluence table. -/
def State.cfl (s : State) (i : Nat) : CflEnt := Sparse.get (fun _ => CflEnt.empty) s.hall.cfl i

/-- An entry stored. -/
def State.setCfl (s : State) (i : Nat) (e : CflEnt) : State :=
  { s with hall := { s.hall with cfl := Sparse.set (fun _ => CflEnt.empty) s.hall.cfl i e } }

/-- The run of an entry changed. -/
def State.onRun (s : State) (i : Nat) (f : CollRun → CollRun) : State :=
  let e := s.cfl i
  s.setCfl i { e with run := e.run.map f }

/-- The rank of a slot: the root has rank 0 (R389). -/
def CflEnt.rankOf (e : CflEnt) (id : Nat) : Nat := (id - e.first + e.size - e.root) % e.size

/-- The slot of a rank. -/
def CflEnt.slotOf (e : CflEnt) (r : Nat) : Nat := e.first + (r + e.root) % e.size

/-- The children of rank r from the level whose ranks lie kl apart up (R389). -/
def childrenFrom (k size r : Nat) : Nat → Nat → List Nat
  | 0, _ => []
  | fuel + 1, kl =>
    if size ≤ kl ∨ r % (kl * k) ≠ 0 then []
    else ((List.range (k - 1)).map (fun j => r + (j + 1) * kl)).filter (fun c => decide (c < size)) ++
      childrenFrom k size r fuel (kl * k)

/-- The children of a rank, in increasing order. -/
def CflEnt.children (e : CflEnt) (r : Nat) : List Nat := childrenFrom (2 ^ e.logK) e.size r 15 1

/-- The parent of a rank from a level up (R389). -/
def parentFrom (k r : Nat) : Nat → Nat → Nat
  | 0, _ => 0
  | fuel + 1, kl => if r % kl ≠ 0 then r / kl * kl else parentFrom k r fuel (kl * k)

/-- The parent of a rank other than 0. -/
def CflEnt.parent (e : CflEnt) (r : Nat) : Nat := parentFrom (2 ^ e.logK) r 15 (2 ^ e.logK)

/-- Elements of the value that a member gives and takes. -/
def CflEnt.elems (e : CflEnt) : Nat := if e.type = 1 then e.count * e.lcount else e.count

/-- Bytes of an element in memory. -/
def CflEnt.size1 (e : CflEnt) : Nat := if e.type = 3 then 2 else 4

/-- Bytes as elements of k bytes. -/
def elemsOf (k : Nat) (l : List Byte) : List Nat := (chunksOf k l).map (fun c => ofBytes (c.map BitVec.toNat))

/-- Elements as bytes. -/
def bytesOf (k : Nat) (l : List Nat) : List Byte := l.flatMap (fun v => (toBytes k v).map (BitVec.ofNat 8))

/-- A suppressed access of a run logged, the first of the run, for the bench of its START Weir (R315; log 27). -/
def State.cflFault (s : State) (i a : Nat) (write : Bool) : State :=
  let e := s.cfl i
  match e.run with
  | none => s
  | some r =>
    if r.warned then s
    else (s.onRun i (fun r => { r with warned := true })).logBench (s.physOf e.startBench) 0x09 a
      (2 * 2 ^ 60 + b2n write * 2 ^ 59 + s.pageOwner a * 2 ^ 48)

/-- Whether all of a range of local HBM belongs to a tenant: the first page that does not. -/
def State.foreignPage (s : State) (t a n : Nat) : Option Nat :=
  ((List.range (cdiv n 32)).map (fun k => a + 32 * k)).find? (fun x => !s.pageOk x t)

/-- n bytes that a run reads; zeros in the words of pages that the tenant does not own (R315, R388). -/
def State.cflRead (s : State) (t a n : Nat) : List Byte :=
  (List.range n).map (fun k => if s.pageOk (a + k) t then s.hbmByte (a + k) else 0)

/-- Bytes that a run writes; words of pages that the tenant does not own are not written. -/
def State.cflWrite (s : State) (t a : Nat) (l : List Byte) : State :=
  (chunksOf 32 l).zipIdx.foldl (fun s c =>
    let x := a + 32 * c.2
    if !s.pageOk x t then s
    else if c.1.length = 32 then s.setHbmWord x (ofBytes (c.1.map BitVec.toNat)) false
    else c.1.zipIdx.foldl (fun s b => s.setHbmByte (x + b.2) b.1) s) s

/-- Bytes written to OUT, with the log of a suppressed write. -/
def State.cflOut (s : State) (i off : Nat) (l : List Byte) : State :=
  let e := s.cfl i
  let s1 := match s.foreignPage e.tenant (e.dst + off) l.length with
    | none => s
    | some a => s.cflFault i a true
  s1.cflWrite e.tenant (e.dst + off) l

/-- A value sent to another member in packets of up to 940 bytes (R390). -/
def State.cflSend (s : State) (i dest rank : Nat) (up : Bool) (lag : Nat) (l : List Byte) : State :=
  if s.fenced then s
  else
    let cs := if l.isEmpty then [[]] else chunksOf 940 l
    cs.zipIdx.foldl (fun s c => s.emit (.coll dest
      ⟨Fin.ofNat 64 i, BitVec.ofNat 14 rank, up, BitVec.ofNat 39 (940 * c.2), decide (c.2 + 1 = cs.length),
        BitVec.ofNat 16 lag, c.1⟩)) s

/-- The sum of two elements of a value by TYPE; index k fixes the prime of a residue (R390). -/
def State.cflAdd (s : State) (e : CflEnt) (k a b : Nat) : Nat :=
  if e.type = 0 then (a + b) % 2 ^ 32
  else if e.type = 1 then
    let p := s.chainPrime e.chain (e.pos + k / max 1 e.count)
    addMod p (residue p a) (residue p b)
  else (fAdd .fp32 (FFmt.fp32.read a) (FFmt.fp32.read b)).bits

/-- The elements of IN as they enter the tree: bf16 inputs widened exactly (R391). -/
def CflEnt.widen (e : CflEnt) (l : List Nat) : List Nat := if e.type = 3 then l.map (· * 2 ^ 16) else l

/-- The result as it goes to OUT: bf16 rounded once at the root (R391). -/
def CflEnt.narrow (e : CflEnt) (l : List Nat) : List Nat :=
  if e.type = 3 then l.map (fun v => (FFmt.bf16.round (FFmt.fp32.read v)).bits) else l

/-- The bytes of an input, in order. -/
def CollInput.value (c : CollInput) (n : Nat) : List Byte := (List.range n).map (Sparse.get (fun _ => 0) c.bytes)

/-- LAG_AVG, LAG_MAX and the count of collectives updated by a lag of this device (R385). -/
def State.recordLag (s : State) (lag : Nat) : State :=
  let avg : Int := s.rd Fld.HALL_LAG_LAG_AVG
  let new := min 0xFFFF (avg + ((lag : Int) - avg) / 16)
  let s := s.wr Fld.HALL_LAG_LAG_AVG new.toNat
  (s.extreme Fld.HALL_LAG_LAG_MAX (fun new old => decide (old < new)) (min 0xFFFF lag)).bump Fld.HALL_LAG_RUNS 1

/-- The lag of an input of a run: its time minus the earliest at the node (R385). -/
def CollRun.lagOf (r : CollRun) (t : Nat) : Nat := min 0xFFFF (t - (r.inputs.map (·.time)).foldl min r.ownTime)

/-- The result reaches this member: OUT is written, and the children get it with the lag of each (R385, R390). -/
def State.cflResult (s : State) (i : Nat) (l : List Byte) : State :=
  let e := s.cfl i
  match e.run with
  | none => s
  | some r =>
    let rank := e.rankOf s.devId
    let s := s.cflOut i 0 l
    let s := (e.children rank).foldl (fun s c =>
      let lag := match r.inputs.find? (fun x => decide (x.rank = c)) with
        | none => 0
        | some x => r.lagOf x.time
      s.cflSend i (e.slotOf c) rank false lag l) s
    s.onRun i (fun r => { r with done := true })

/-- The inputs that a node waits for: its children on the way up, every other rank in an ALLTOALL. -/
def CflEnt.awaited (e : CflEnt) (rank : Nat) : List Nat :=
  if e.op = 3 then (List.range e.size).filter (fun c => decide (c ≠ rank))
  else if e.op = 1 then [] else e.children rank

/-- A run goes on with what it has: the node combines when every input is whole (R391). -/
def State.cflAdvance (s : State) (i : Nat) : State :=
  let e := s.cfl i
  match e.run with
  | none => s
  | some r =>
    let rank := e.rankOf s.devId
    let ready := (e.awaited rank).all (fun c => r.inputs.any (fun x => decide (x.rank = c) && x.whole))
    if r.done || r.sentUp || !ready then s
    else if e.op = 3 then
      let s := r.inputs.foldl (fun s x => s.cflOut i (x.rank * e.count) (x.value e.count)) s
      let s := s.cflOut i (rank * e.count) (bytesOf 1 r.own)
      s.onRun i (fun r => { r with done := true })
    else if e.op = 1 then
      if rank = 0 then (s.onRun i (fun r => { r with sentUp := true })).cflResult i (bytesOf e.size1 r.own) else s
    else
      let n := if e.op = 0 then 0 else e.elems
      let vals := (e.children rank).map (fun c =>
        match r.inputs.find? (fun x => decide (x.rank = c)) with
        | none => []
        | some x => elemsOf 4 (x.value (4 * n)))
      let sum := vals.foldl (fun acc v => (acc.zip v).zipIdx.map (fun x => s.cflAdd e x.2 x.1.1 x.1.2)) r.own
      let s := s.onRun i (fun r => { r with sentUp := true })
      if rank = 0 then (s.recordLag (r.lagOf r.ownTime)).cflResult i (bytesOf e.size1 (e.narrow sum))
      else s.cflSend i (e.slotOf (e.parent rank)) rank true 0 (bytesOf 4 sum)

/-- A packet added to an input. -/
def CollInput.add (c : CollInput) (p : CollPacket) (now : Nat) : CollInput :=
  { c with
    bytes := p.bytes.zipIdx.foldl (fun m b => Sparse.set (fun _ => 0) m (p.offset.toNat + b.2) b.1) c.bytes
    whole := p.last
    time := if p.last then now else c.time
    lag := p.lag.toNat }

/-- The input of a rank with a packet added, new if there is none. -/
def addInput (l : List CollInput) (p : CollPacket) (now : Nat) : List CollInput :=
  if l.any (fun x => decide (x.rank = p.rank.toNat)) then
    l.map (fun x => if x.rank = p.rank.toNat then x.add p now else x)
  else l ++ [CollInput.add ⟨p.rank.toNat, [], false, 0, 0⟩ p now]

/-- A packet of a collective: it joins the run in progress, or waits for the member's next run (R390, R391). A packet from a
rank that sends this node nothing is dropped. -/
def State.cflPacket (s : State) (p : CollPacket) : State :=
  let i := p.index.val
  let e := s.cfl i
  let rank := e.rankOf s.devId
  let wanted := if p.up then (e.awaited rank).contains p.rank.toNat
    else decide (e.op ≠ 3) && decide (rank ≠ 0) && decide (p.rank.toNat = e.parent rank)
  if !e.valid || !wanted then s
  else
    let wait := s.setCfl i { e with early := e.early ++ [p] }
    match e.run with
    | none => wait
    | some r =>
      let side := if p.up then r.inputs else r.down
      if side.any (fun x => decide (x.rank = p.rank.toNat) && x.whole) then wait
      else
        let now := s.power.time
        let s := s.onRun i (fun r =>
          if p.up then { r with inputs := addInput r.inputs p now } else { r with down := addInput r.down p now })
        if !p.last then s
        else if p.up then s.cflAdvance i
        else
          let s := if e.op = 1 then s else s.recordLag p.lag.toNat
          match (addInput r.down p now).find? (fun x => decide (x.rank = p.rank.toNat)) with
          | none => s
          | some x => s.cflResult i (x.value (if e.op = 0 then 0 else e.elems * e.size1))

/-- A run starts: the member reads IN and takes what has come already (R388). -/
def State.cflStart (s : State) (i : Nat) : State :=
  let e := s.cfl i
  let rank := e.rankOf s.devId
  let bytes := e.elems * e.size1
  let need := if e.op = 0 then 0 else if e.op = 1 then (if rank = 0 then bytes else 0)
    else if e.op = 2 then bytes else e.size * e.count
  let data := s.cflRead e.tenant e.src need
  let own := if e.op = 2 then e.widen (elemsOf e.size1 data)
    else if e.op = 1 then elemsOf e.size1 data
    else ((data.drop (rank * e.count)).take e.count).map BitVec.toNat
  let early := e.early
  let s := s.setCfl i { e with run := some ⟨[], [], own, s.power.time, false, false, false⟩, early := [] }
  let s := match s.foreignPage e.tenant e.src need with
    | none => s
    | some a => s.cflFault i a false
  let s := if e.op = 3 then
      (e.awaited rank).foldl (fun s c => s.cflSend i (e.slotOf c) rank true 0 ((data.drop (c * e.count)).take e.count)) s
    else s
  (early.foldl State.cflPacket s).cflAdvance i

/-- Whether the next run of an entry may start at a count of its START Weir (R388). -/
def CflEnt.due (e : CflEnt) (count : Nat) : Bool :=
  e.valid && e.run.isNone && decide (e.startTarget + e.started * e.stepBy ≤ count)

/-- The count of a Weir that changed is passed to Confluence: the runs that it starts (R388). -/
def State.cflWatch (s : State) (bench weir count : Nat) : State :=
  (List.range 64).foldl (fun s i =>
    let e := s.cfl i
    if e.due count ∧ e.startBench = bench ∧ e.startWeir = weir then s.cflStart i else s) s

/-- The number that stands for no requester. -/
def noBench : Nat := 68

/-- A run that has written OUT ends: DONE is signalled with +1, and the next run starts if its target is met already (R388). -/
def State.cflComplete (s : State) (i : Nat) : State :=
  let e := s.cfl i
  match e.run with
  | none => s
  | some r =>
    if !r.done then s
    else
      let s := s.setCfl i { e with run := none, started := e.started + 1 }
      let s := { s with net := { s.net with weirOps := s.net.weirOps ++
        ([{ bench := e.doneBench, weir := e.doneWeir, op := .signal, arg := 1, req := ⟨noBench, false, 0⟩ }] : List WeirMsg) } }
      let count := Sparse.get (fun _ => 0) (s.bench (s.physOf e.startBench)).weirs e.startWeir
      if (s.cfl i).due count then s.cflStart i else s

/-- Entries with a run in progress. -/
def State.cflRunning (s : State) : Nat := (s.hall.cfl.filter (fun x => x.2.run.isSome)).length

end Sys2Proof.Machine
end

