-- ==== Sys2Proof/Machine/Weirs.lean ====
section
/-! DEFINITION. Weirs: the operations of Table 11.4, held waits, replies (R299-R304 of spec/11_on_chip_memory.md). -/

namespace Sys2Proof.Machine

/-- The count of a Weir. -/
def Bench.weir (b : Bench) (w : Nat) : Nat := Sparse.get (fun _ => 0) b.weirs w

/-- A Weir operation put on its way to its unit. -/
def State.sendWeir (s : State) (bench weir : Nat) (op : WeirOp) (arg : Nat) (req : WeirReq) : State :=
  { s with net := { s.net with weirOps := s.net.weirOps ++ [⟨bench, weir, op, arg, req⟩] } }

/-- A reply put on its way to its requester. -/
def State.replyWeir (s : State) (req : WeirReq) (count : Nat) : State :=
  if req.pb = noBench then s
  else { s with net := { s.net with weirReplies := s.net.weirReplies ++ [⟨req, count⟩] } }

/-- A count changed: the held waits whose target it meets reply in the order in which they were held, and Confluence is told
(R300, R302, R388). -/
def State.setWeir (s : State) (pb w count : Nat) : State :=
  let b := s.bench pb
  let free := fun (h : HeldWait) => decide (h.weir = w) && decide (h.target ≤ count)
  let s := s.setBench pb { b with
    weirs := Sparse.set (fun _ => 0) b.weirs w count, held := b.held.filter (fun h => !free h) }
  let s := (b.held.filter free).foldl (fun s h => s.replyWeir h.req count) s
  match s.logicalOf pb with
  | none => s
  | some m => s.cflWatch m w count

/-- The count after an arrival: epoch in [31:16], arrivals in [15:0] (R301). -/
def arriveCount (c size : Nat) : Nat :=
  let n := c % 65536 + 1
  if size ≤ n then (c / 65536 + 1) % 65536 * 65536 else c / 65536 * 65536 + n

/-- An operation served by the unit of its bench (R299-R301, R304). -/
def State.serveWeir (s : State) (m : WeirMsg) : State :=
  let pb := s.physOf m.bench
  let b := s.bench pb
  let c := b.weir m.weir
  if b.mode = .rinsing then s.replyWeir m.req c
  else
    let s := s.bump (Fld.BENCH_WEIR_STATUS_OPS pb) 1
    match m.op with
    | .signal => let n := min (c + m.arg) 0xFFFFFFFF
                 (s.replyWeir m.req n).setWeir pb m.weir n
    | .wait => if m.arg ≤ c then s.replyWeir m.req c
               else s.onBench pb (fun b => { b with held := b.held ++ [⟨m.weir, m.arg, m.req⟩] })
    | .arrive => let n := arriveCount c m.arg
                 (s.replyWeir m.req n).setWeir pb m.weir n
    | .reset => (s.replyWeir m.req 0).setWeir pb m.weir 0
    | .read => s.replyWeir m.req c

/-- The operation that reaches its unit, by its place on the way (R300). -/
def State.weirArrives (s : State) (n : Nat) : State :=
  match s.net.weirOps[n]? with
  | none => s
  | some m => { s with net := { s.net with weirOps := s.net.weirOps.eraseIdx n } }.serveWeir m

/-- A reply that reaches its requester: the Weir command goes on, or the Foreman's stalled instruction may retire; a reply that
nobody waits for is discarded (R207, R210, R303). -/
def State.weirReplyArrives (s : State) (n : Nat) : State :=
  match s.net.weirReplies[n]? with
  | none => s
  | some r =>
    let s := { s with net := { s.net with weirReplies := s.net.weirReplies.eraseIdx n } }
    if r.req.fore then
      s.onBench r.req.pb (fun b =>
        if b.fm.st = .stalled ∧ b.fm.weirId = r.req.id then { b with fm := { b.fm with weirReply := some r.count } } else b)
    else
      s.onBench r.req.pb (·.onExec r.req.id (fun e =>
        match e.todo with
        | .weir :: rest => { e with todo := rest }
        | _ => e))

/-- The waits of a requester abandoned everywhere: its held entries are released and its operations on the way reply to nobody
(R303). -/
def State.abandonWaits (s : State) (pb : Nat) : State :=
  let s := (s.benches.map Prod.fst).foldl (fun s k =>
    s.onBench k (fun b => { b with held := b.held.filter (fun (h : HeldWait) => decide (h.req.pb ≠ pb)) })) s
  let ops := s.net.weirOps.map (fun (m : WeirMsg) => if m.req.pb = pb then { m with req := ⟨noBench, false, 0⟩ } else m)
  let replies := s.net.weirReplies.filter (fun (r : WeirReply) => decide (r.req.pb ≠ pb))
  { s with net := { s.net with weirOps := ops, weirReplies := replies } }

/-- Every wait held at a bench released with a reply, and its counts zeroed (R303, R304). -/
def State.rinseWeirs (s : State) (pb : Nat) : State :=
  let b := s.bench pb
  let s := s.setBench pb { b with weirs := [], held := [] }
  b.held.foldl (fun s h => s.replyWeir h.req 0) s

end Sys2Proof.Machine
end

