-- ==== Sys2Proof/Machine/Retire.lean ====
section
/-! DEFINITION. Commands in execution: what they take in while they run, and how they retire (R83-R85, R100, R105, R113 of
spec/04_bench_engines.md, R141-R145 of spec/05_command_model.md, R68-R71 of spec/03_slabs_pebbles.md, R162, R165 and R167
of spec/06_command_reference.md, R231 and R233 of spec/08_key_switching.md). -/

namespace Sys2Proof.Machine

/-- What a command writes, in order: each step sees the state that the steps before it left. -/
def stepsOf (s : State) (pb : Nat) (e : Exec) : List (State → Effect) :=
  let op := opcodeOf e.word
  let c := classOf e.word
  if op = 0x21 then stepsTe false s pb e
  else if op = 0x22 then stepsTe true s pb e
  else if c = 2 then stepsRing s pb e
  else if op = 0x6A then stepsConv true s pb e
  else if op = 0x6B then stepsConv false s pb e
  else if c = 3 then stepsVeTiles s pb e
  else if c = 4 then [fun s => alignOf (s.bench pb) e (if aeInit e.word then [0, 1, 2] else [0, 1])]
  else if c = 5 then stepsRiffle s pb e
  else if op = 0xE1 ∨ op = 0xE2 then stepsKsw s pb e
  else if op = 0xE3 then stepsRescale s pb e
  else if op = 0xE4 then stepsFreshet s pb e
  else if op = 0xE5 then stepsPbs s pb e
  else if op = 0xE6 then stepsExtract s pb e
  else if op = 0xE7 then stepsPack s pb e
  else []

/-- The state while a command writes, its float counts, and the first suppressed access. -/
structure Written where
  s : State
  nan : Nat
  inf : Nat
  flush : Nat
  align : Option (Nat × Nat × Nat)

/-- One step of a command made: zeros for a SPENT result, values that nothing determines for a broken one (R70, R85, R167). -/
def Written.step (pb : Nat) (e : Exec) (w : Written) (f : State → Effect) : Written :=
  let eff := f w.s
  let eff := if e.spent.isSome then eff.zeroed else if e.broken then eff.freed else eff
  { s := w.s.writeRuns pb eff.runs
    nan := w.nan + eff.nan
    inf := w.inf + eff.inf
    flush := w.flush + eff.flush
    align := w.align.orElse (fun _ => eff.align) }

/-- A result descriptor written whole, with fresh check bits; entry 0 takes none (R53, R54, R118). -/
def Bench.writeDesc (b : Bench) (idx : Nat) (d : List Nat) : Bench :=
  if idx = 0 then b
  else
    let t := b.descTab.writeWord (64 * idx) (elemsWord 8 (d.take 4)) false
    { b with descTab := t.writeWord (64 * idx + 32) (elemsWord 8 (d.drop 4)) false }

/-- Words of the Pool that decode as uncorrectable and that a command read (R85, R286): inside its read intervals, and named by
an operand where every operand in Pool space is an address descriptor. -/
def Bench.badReads (b : Bench) (e : Exec) : List Nat :=
  let named := (List.range 3).flatMap (fun o =>
    if kindOf (e.d o) = 4 then wordsOf (adAll b.pool (e.d o) e.loop o) ++ adIdxWords (e.d o) else [])
  let plain := (List.range 3).all (fun o => decide (kindOf (e.d o) = 4) || decide (kindOf (e.d o) = 0)) && !isMacro e.word
  b.pool.bad.filter (fun w => e.reads.any (fun r => decide (r.1 ≤ w) && decide (w ≤ r.2)) && !e.badWords.contains w &&
    (!plain || named.contains w || decide (opcodeOf e.word = 0x81)))

/-- The words of a command's Pool reads that decode as uncorrectable are logged, and it will halt the bench (R85). -/
def State.meetBad (s : State) (pb : Nat) (e : Exec) : State :=
  if classOf e.word = 0 ∨ classOf e.word = 6 then s
  else
    let bad := (s.bench pb).badReads e
    if bad.isEmpty then s
    else bad.foldl (fun s w => s.benchUncorrectable pb memPool rdEngine (32 * w) e.header)
      (s.onBench pb (·.markHalt e.id 6))

/-- ALIGN_FAULT of an index offset, at retirement (R86, R162). -/
def State.logAlign (s : State) (pb : Nat) (e : Exec) (a : Option (Nat × Nat × Nat)) : State :=
  match a with
  | none => s
  | some (slot, kind, v) => s.logBench pb 0x0C (e.header + slot * 2 ^ 30 + kind) v

/-- SPENT results counted, and an exhausted slab logged (R69, R70, BENCH_SPENT_COUNT). -/
def State.countSpent (s : State) (pb : Nat) (e : Exec) : State :=
  match e.spent with
  | none => s
  | some c =>
    if e.results.isEmpty then s
    else if e.inherited then s.bump (Fld.BENCH_SPENT_COUNT_INHERITED pb) 1
    else
      let s := s.bump (Fld.BENCH_SPENT_COUNT_ORIGINATED pb) 1
      if c = 1 then
        s.logBench pb 0x03 (e.header + opIdx e.word 2 * 2 ^ 16 + (if isMacro e.word then stageOf e.word else 0)) 0
      else s

/-- Lone tile stages and half windows counted (R94, R108). -/
def State.countShape (s : State) (pb : Nat) (e : Exec) : State :=
  if classOf e.word = 1 then s.bump (Fld.BENCH_TE_STATUS_LONE_STAGES pb) (loneStages s pb e)
  else if classOf e.word = 5 then s.bump (Fld.BENCH_RIFFLE_STATUS_HALF_WINDOWS pb) (halfWindows s pb e)
  else s

/-- BENCH_FLOAT_EVENTS raised. -/
def State.countFloat (s : State) (pb nan inf flush : Nat) : State :=
  ((s.bump (Fld.BENCH_FLOAT_EVENTS_NAN_TILES pb) nan).bump (Fld.BENCH_FLOAT_EVENTS_INF_TILES pb) inf).bump
    (Fld.BENCH_FLOAT_EVENTS_FLUSH_TILES pb) flush

/-- A macro's second exchange opened once its key data is in. -/
def State.openExchange (s : State) (pb : Nat) (e : Exec) : State :=
  match e.todo with
  | .exchange seq :: _ =>
    if isMacro e.word then s.postExchange pb seq [opcodeOf e.word, stageOf e.word, e.gathered.length] (macroPost s pb e) else s
  | _ => s

/-- The command that waits for chute tiles or key units, the oldest first. -/
def Bench.feeder (b : Bench) : Option Exec :=
  b.execs.find? (fun e => match e.todo with
    | .feed _ _ :: _ => true
    | .key _ :: _ => true
    | _ => false)

/-- KEY_MISMATCH found at the first chunk of a macro's stream (R68, R191, R231). -/
def State.keyVerdictAt (s : State) (pb : Nat) (e : Exec) (us : List KUnit) : State × Option Nat :=
  match us with
  | u :: _ =>
    match u.mismatch with
    | some tag =>
      if isMacro e.word ∧ e.keys.isEmpty then
        (s.logBench pb 0x04 ((e.d 0).getD 2 0) tag, e.spent.orElse (fun _ => some 2))
      else (s, e.spent)
    | none => (s, e.spent)
  | [] => (s, e.spent)

/-- A marked key word met: logged with the command that consumes it (R233). -/
def State.keyPoison (s : State) (pb : Nat) (e : Exec) (u : KUnit) : State :=
  if !u.poison then s
  else if u.hbm then
    match s.hbmLoc u.addr with
    | none => s
    | some l => s.hbmUncorrectable l.ch rdMillrace l.inChannel (s.benchTenant pb) e.header
  else s.basinUncorrectable (ledgeOf pb) rdMillrace u.addr (s.benchTenant pb) e.header

/-- The oldest command that waits takes what the chute and the key operand buffer hold for it; each unit returns a credit
(R92, R100). -/
def State.feedOnce (s : State) (pb : Nat) : State :=
  let b := s.bench pb
  match b.feeder with
  | none => s
  | some e =>
    let want := match e.todo with
      | .feed t u :: _ => (t, u)
      | .key u :: _ => (0, u)
      | _ => (0, 0)
    let nt := min want.1 b.chute.length
    let nu := min want.2 b.keyBuf.length
    let us := b.keyBuf.take nu
    let v := s.keyVerdictAt pb e us
    let left : List Todo := if want = (nt, nu) then e.todo.drop 1
      else match e.todo with
        | .key u :: r => .key (u - nu) :: r
        | _ :: r => .feed (want.1 - nt) (want.2 - nu) :: r
        | [] => []
    let e2 := { e with
      todo := left, tiles := e.tiles ++ b.chute.take nt, keys := e.keys ++ us, spent := v.2
      halt := if us.any (·.poison) then some 6 else e.halt }
    let s := v.1.setBench pb { (b.onExec e.id (fun _ => e2)) with
      chute := b.chute.drop nt, keyBuf := b.keyBuf.drop nu, credits := b.credits + nu }
    let s := us.foldl (fun s u => s.keyPoison pb e u) s
    match e.todo with
    | .key _ :: _ => if want = (nt, nu) then s.openExchange pb e2 else s
    | _ => s

/-- Feeding repeated. -/
def State.feedLoop (s : State) (pb : Nat) : Nat → State
  | 0 => s
  | n + 1 => State.feedLoop (s.feedOnce pb) pb n

/-- Every command that waits for the chute or the key operand buffer is fed, in order. -/
def State.feed (s : State) (pb : Nat) : State := s.feedLoop pb ((s.bench pb).execs.length + 1)

/-- A command's END: its stream has ended (R138). -/
def endsStream (w : CmdWord) : Bool := endFlag w || decide (opcodeOf w = 3)

/-- Whether a command may retire: nothing is left to wait for, every earlier command of its engines has retired, and an MSEND
has a credit of its route (R141, R165). -/
def State.canRetire (s : State) (pb : Nat) (e : Exec) : Bool :=
  let b := s.bench pb
  e.todo.isEmpty && !b.abandoning && b.execs.all (fun x => decide (e.id ≤ x.id) || decide (x.engines &&& e.engines &&& 15 = 0)) &&
    (decide (opcodeOf e.word ≠ 8) || decide (1 ≤ s.rd (Fld.BENCH_ROUTE_STAT_AVAIL pb (imm e.word 47 40))))

/-- The writes of a retiring command made visible, with what they count. -/
def State.finishWrites (s : State) (pb : Nat) (e : Exec) : State × Option (Nat × Nat × Nat) :=
  let s := s.meetBad pb e
  let w := (stepsOf s pb e).foldl (Written.step pb e) ⟨s, 0, 0, 0, none⟩
  let s := w.s.onBench pb (fun b => e.results.foldl (fun b r => b.writeDesc r.1 (finishDesc r.2 e.spent)) b)
  let s := s.countFloat pb w.nan w.inf w.flush
  ((s.countShape pb e).countSpent pb e, w.align)

/-- The waits that the order of a command's operations costs are counted: how many, the formulas of its busy time do not say
(R97, R104). -/
def State.shapeWaits (s : State) (pb : Nat) (w : CmdWord) : State :=
  let n := (Config.freeWord s.fresh).toNat % 2 ^ 32
  if classOf w = 2 ∨ classOf w = 3 then s.skip.bump (Fld.BENCH_VE_STATUS_DEP_WAIT pb) n
  else if classOf w = 4 then s.skip.bump (Fld.BENCH_AE_STATUS_BUBBLES pb) n
  else s

/-- A command retires: its results are visible, its intervals and names are released, its token is emitted, its stream counts
it, and a fault met in execution halts the bench (R54, R113, R141, R143, R162). -/
def State.retireNow (s : State) (pb id : Nat) : State :=
  match (s.bench pb).exec id with
  | none => s
  | some e0 =>
    let r := s.finishWrites pb e0
    let s := r.1.logAlign pb e0 r.2
    let e := ((s.bench pb).exec id).getD e0
    let w := e.word
    let s := if opcodeOf w = 8 then
        s.sendMessage pb (imm w 47 40) (imm w 39 32) (imm w 27 24) (imm w 17 0) 0 else s
    let s := s.onBench pb (fun b =>
      let b : Bench := { b with execs := b.execs.filter (fun x => decide (x.id ≠ id)) }
      b.onStream e.stream (fun x => { x with retired := (x.retired + 1) % 2 ^ 32, ended := x.ended || endsStream w }))
    let s := (s.progress pb).shapeWaits pb w
    let s := if emitEn w ∧ classOf w ≠ 4 then s.postToken pb w e.stream e.pc (emitOf w) else s
    let s := if r.2.isSome then s.haltBench pb 4 else s
    let s := match e.halt with
      | none => s
      | some c => s.haltBench pb c
    s.checkComplete pb

/-- COMMAND_RETIRE (R141). -/
def State.retire (s : State) (pb id : Nat) : State :=
  match (s.bench pb).exec id with
  | none => s
  | some e => if s.canRetire pb e then s.retireNow pb id else s

/-- AE_TILE_ENTER_CHUTE: the next tile of the oldest AE command enters the chute if it has room (R105). -/
def State.enterChute (s : State) (pb : Nat) : State :=
  let b := s.bench pb
  match b.execs.find? (fun e => decide (classOf e.word = 4)) with
  | none => s
  | some e =>
    match e.todo with
    | .drain n t :: rest =>
      if b.abandoning ∨ 8 ≤ b.chute.length then s
      else
        let r := aeTile s pb e n
        let todo : List Todo := if n + 1 = t then rest else .drain (n + 1) t :: rest
        let s := s.setBench pb { (b.onExec e.id (fun e => { e with todo := todo })) with chute := b.chute ++ [r.1] }
        (s.countFloat pb r.2.1 r.2.2.1 r.2.2.2).feed pb
    | _ => s

/-- The numbers of the exchanges that a command waits for or has made. -/
def Exec.seqs (e : Exec) (pos : Nat) : List Nat :=
  e.todo.filterMap (fun t => match t with
    | .exchange q => some q
    | _ => none) ++ e.gathered.filterMap (fun g => (g[pos]?).map (·.seq))

/-- The command at the head of a bench's exchanges. -/
def Bench.exchanger (b : Bench) : Option (Exec × Nat) :=
  b.execs.findSome? (fun e => match e.todo with
    | .exchange q :: _ => some (e, q)
    | _ => none)

/-- A post taken by a position; gone once all four have it. -/
def Bench.takePost (b : Bench) (seq pos : Nat) : Bench :=
  let took : List XPost := b.xPosts.map (fun p => if p.seq = seq then { p with taken := p.taken ++ [pos] } else p)
  { b with xPosts := took.filter (fun p => decide (p.seq ≠ seq) || decide (p.taken.length < 4)) }

/-- A bench's commands broken by exchanges of different shape (R167). -/
def Bench.breakExchange (b : Bench) (seq : Nat) : Bench :=
  { b with xBroken := true, execs := b.execs.map (fun e => if (e.seqs 0).contains seq then { e with broken := true } else e) }

/-- EXCHANGE_DATA_ARRIVAL: the quarters of the four benches of the gang reach the command that waits for them (R167). -/
def State.exchange (s : State) (pb : Nat) : State :=
  match (s.bench pb).exchanger with
  | none => s
  | some (e, q) =>
    let pbs := s.gangBenches (s.gangIdx pb)
    let posts := pbs.filterMap (fun x => (s.bench x).xPosts.find? (fun p => decide (p.seq = q)))
    if posts.length < 4 then s
    else
      let same := posts.all (fun p => decide (p.shape = (posts.headD ⟨0, [], [], []⟩).shape))
      let pos := s.posOf pb
      let s := pbs.foldl (fun s x => s.onBench x (·.takePost q pos)) s
      let s := s.onBench pb (·.onExec e.id (fun e => { e with todo := e.todo.drop 1, gathered := e.gathered ++ [posts] }))
      let s := if same then s else pbs.foldl (fun s x => s.onBench x (·.breakExchange q)) s
      s.feed pb

/-- Bank conflicts of a window counted (R292). -/
def State.countConflicts (s : State) (pb : Nat) (words : List Nat) : State :=
  let bs := words.map poolBank
  bs.eraseDups.foldl (fun s k =>
    let j := bs.count k
    if j ≤ 1 then s
    else
      let key := behind (Reg.BENCH_CONFL_DATA pb) k
      s.setReg key (BitVec.ofNat 64 (min 0xFFFF ((s.reg key).toNat + (j - 1))))) s

/-- A bad word noted with a command: it will halt the bench, and so will the commands of partners that share its exchange. -/
def Bench.noteBad (b : Bench) (p : Exec → Bool) (w : Nat) : Bench :=
  { b with execs := b.execs.map (fun e => if p e then { e with badWords := e.badWords ++ [w], halt := some 6 } else e) }

/-- POOL_WINDOW_COMPLETE: conflicts counted; a corrected word counted; an uncorrectable word stays so, is logged, and halts the
bench when its command retires (R83, R85, R286, R291, R292). -/
def State.poolWindow (s : State) (pb cmd : Nat) (port : PoolPort) (words : List Nat) (corr bad : Option Nat) : State :=
  let s := s.countConflicts pb words
  let reader := if port = .compute then rdEngine else rdSluice
  let s := match corr with
    | none => s
    | some w => s.benchCorrected pb memPool reader (32 * w)
  match bad with
  | none => s
  | some w =>
    let e := (s.bench pb).exec cmd
    let s := s.benchUncorrectable pb memPool reader (32 * w) ((e.map Exec.header).getD 0)
    let s := s.onBench pb (fun b => { b with pool := { b.pool with bad := b.pool.bad.filter (fun x => decide (x ≠ w)) ++ [w] } })
    match e with
    | none => s
    | some e =>
      let s := s.onBench pb (·.noteBad (fun x => decide (x.id = cmd)) w)
      let seqs := e.seqs (s.posOf pb)
      if port = .compute ∧ !seqs.isEmpty then
        ((s.gangBenches (s.gangIdx pb)).filter (fun x => decide (x ≠ pb))).foldl (fun s x =>
          s.onBench x (fun b =>
            { b with execs := b.execs.map (fun y =>
              if (y.seqs (s.posOf x)).any seqs.contains then { y with badWords := y.badWords ++ [w] } else y) })) s
      else s

end Sys2Proof.Machine
end

