-- ==== Sys2Proof/Machine/Control.lean ====
section
/-! DEFINITION. The control commands at stage 5 (R163-R165 and Table 6.4 of spec/06_command_reference.md, R88-R90 of
spec/04_bench_engines.md, R299-R301 of spec/11_on_chip_memory.md). A control command acts once whatever its LOOP names
(log 28). -/

namespace Sys2Proof.Machine

/-- TOKEN and END at stage 5: SUBOP, IMM and CFLAGS are zero. -/
def planToken (c : Ctx) : Except Reject Plan := do
  mustAll [(decide (subopOf c.w = 0), illegal 3), (decide (immOf c.w = 0), illegal 3), (decide (cflagsOf c.w = 0), illegal 3)]
  .ok (Plan.of (c.exec engCT))

/-- The phase that a PHASE command names. -/
def phaseTo (w : CmdWord) : BMode := if bit (subopOf w) 0 then .work else .fill

/-- PHASE at stage 5: a switch to the phase that the bench is in completes at once (R90). -/
def planPhase (c : Ctx) : Except Reject Plan := do
  mustAll [(decide (subopOf c.w ≤ 1), illegal 3), (decide (immOf c.w = 0), illegal 3), (decide (cflagsOf c.w = 0), illegal 3)]
  if (c.s.bench c.pb).mode = phaseTo c.w then .ok (Plan.of (c.exec engCT))
  else .ok ⟨{ c.exec engCT with todo := [.phase], busy := 8 },
    fun s => s.onBench c.pb (fun b => { b with switching := true, turnaround := false, target := phaseTo c.w })⟩

/-- The logical bench, the Weir and the number that a Weir command names (Table 6.4). -/
def weirBenchOf (w : CmdWord) : Nat := subop w 5 0
def weirNumOf (w : CmdWord) : Nat := imm w 42 32
def weirArgOf (w : CmdWord) : Nat := imm w 31 0

/-- The Weir round trip to a bench (R164). -/
def State.weirTime (s : State) (pb target : Nat) : Nat :=
  if s.physOf target = pb then 4
  else 4 + cdiv (3 * (40 + 24 * b2n (decide (target / 32 ≠ pb / 34)))) s.divider

/-- Whether a bench may reach the Weirs of another: the assigned tenant of that bench's gang is its own (R164, R408). -/
def State.weirAllowed (s : State) (pb target : Nat) : Bool := decide (s.gangTenant (target / 4) = s.benchTenant pb)

/-- A Weir command at stage 5: the operation leaves for its unit, and the command waits for the reply. -/
def planWeir (op : WeirOp) (c : Ctx) : Except Reject Plan := do
  let w := c.w
  mustAll [
    (decide (subop w 7 6 = 0), illegal 3),
    (decide (imm w 47 43 = 0) && (decide (op ≠ .reset) || decide (weirArgOf w = 0)), illegal 3),
    (decide (cflagsOf w = 0), illegal 3),
    (c.s.weirAllowed c.pb (weirBenchOf w), illegal 3),
    (decide (op ≠ .arrive) || (decide (1 ≤ weirArgOf w) && decide (weirArgOf w ≤ 65535)), illegal 3)]
  let e := c.exec engCT
  .ok ⟨{ e with todo := [.weir], busy := c.s.weirTime c.pb (weirBenchOf w) },
    fun s => s.sendWeir (weirBenchOf w) (weirNumOf w) op (weirArgOf w) ⟨c.pb, false, e.id⟩⟩

/-- MSEND at stage 5 (R165). The message leaves when the command retires, once its route has a credit. -/
def planMsend (c : Ctx) : Except Reject Plan := do
  let w := c.w
  let addr := imm w 17 0
  let len := imm w 27 24
  mustAll [
    (decide (subopOf w = 0), illegal 3),
    (decide (imm w 31 28 = 0) && decide (imm w 23 18 = 0), illegal 3),
    (decide (cflagsOf w = 0), illegal 3),
    (decide (len ≤ 8), illegal 3),
    (decide (addr % 32 = 0), misaligned 3 addr),
    (payloadOk addr len, illegal 3),
    (c.s.routeOk c.pb (imm w 47 40), illegal 3)]
  .ok (Plan.of { c.exec engCT with busy := 6 + len })

end Sys2Proof.Machine
end

