-- ==== Sys2Proof/Machine/Issue.lean ====
section
/-! DEFINITION. The issue of the command at the head of a stream: the stages of Table 5.7 (R125, R139-R145, R149, R153 of
spec/05_command_model.md, R158 and R528 of spec/06_command_reference.md, R85, R86 and R286). -/

namespace Sys2Proof.Machine

/-- The opcodes of Table 6.1. -/
def opcodeList : List Nat :=
  [1, 2, 3, 4, 5, 6, 7, 8, 0x21, 0x22, 0x41, 0x42, 0x43, 0x44, 0x45, 0x46, 0x47, 0x48, 0x49, 0x4A,
   0x61, 0x62, 0x63, 0x64, 0x65, 0x66, 0x67, 0x68, 0x69, 0x6A, 0x6B, 0x81, 0xA1, 0xA2, 0xA3,
   0xC1, 0xC2, 0xC3, 0xE1, 0xE2, 0xE3, 0xE4, 0xE5, 0xE6, 0xE7]

/-- Whether an opcode is defined, and, for a macro, in the macro store (R125, R151, R161). -/
def State.opcodeOk (s : State) (pb op : Nat) : Bool :=
  opcodeList.contains op && (decide (op < 0xE0) || s.flag (Fld.BENCH_MACRO_ID_VALID pb))

/-- The stream of a class (Table 5.3). -/
def classStream (c : Nat) : Nat :=
  if c = 1 then 1 else if c = 2 ∨ c = 3 then 2 else if c = 4 then 3 else if c = 5 then 4 else if c = 6 then 5 else 0

/-- Whether a command uses operand slot 0, 1 or 2 (Table 6.1, R161). -/
def usesSlot (w : CmdWord) (o : Nat) : Bool :=
  let op := opcodeOf w
  let c := classOf w
  let tiles := decide (c = 2) && isRaw w || (decide (c = 3) && !([0x6A, 0x6B].contains op))
  if c = 0 ∨ op = 0xC3 then false
  else if op = 0xC2 then decide (o = 0)
  else if o = 0 then !tiles || decide (src0 w = 0)
  else if o = 1 then
    if c = 1 ∨ op = 0xC1 ∨ op = 0xA1 ∨ op = 0xA2 ∨ op = 0x6A ∨ op = 0x6B then false
    else if (c = 2 ∨ c = 3) ∧ veUnary op then false
    else !tiles || decide (src1 w = 0)
  else if c = 4 then aeInit w
  else !tiles || !dstSlot w

/-- The first unused slot that does not name entry 0. -/
def badSlot (w : CmdWord) : Option Nat := [0, 1, 2].find? (fun o => !usesSlot w o && decide (opIdx w o ≠ 0))

/-- The checks of R142 on the token fields. -/
def tokensOk (w : CmdWord) : Bool :=
  let c := classOf w
  (!emitEn w || (decide (emitOf w / 32 ≠ 7) && (decide (c ≠ 4) || decide (emitOf w / 32 = 2)))) &&
    (!awaitEn w || decide (awaitOf w / 32 = classStream c))

/-- The checks of R125 in their order: none where the command passes, else the slot at fault (3 for none). -/
def State.stage1 (s : State) (pb st : Nat) (w : CmdWord) : Option Nat :=
  if !s.opcodeOk pb (opcodeOf w) then some 3
  else if getBits w 60 56 ≠ 0 ∨ w.getLsbD 116 then some 3
  else if !s.lockstep pb && decide (classStream (classOf w) ≠ st) then some 3
  else if (badSlot w).isSome then badSlot w
  else if (!emitEn w && decide (emitOf w ≠ 0)) || (!awaitEn w && decide (awaitOf w ≠ 0)) then some 3
  else if !tokensOk w then some 3
  else none

/-- What each opcode does at stage 5. -/
def planOf (op : Nat) (c : Ctx) : Except Reject Plan :=
  if op = 0x01 ∨ op = 0x03 then planToken c
  else if op = 0x02 then planPhase c
  else if op = 0x04 then planWeir .signal c
  else if op = 0x05 then planWeir .wait c
  else if op = 0x06 then planWeir .arrive c
  else if op = 0x07 then planWeir .reset c
  else if op = 0x08 then planMsend c
  else if op = 0x21 then planTe false c
  else if op = 0x22 then planTe true c
  else if op = 0x6A then planConv true c
  else if op = 0x6B then planConv false c
  else if op / 32 = 2 then planRing c
  else if op / 32 = 3 then planFloat c
  else if op / 32 = 4 then planMatmul c
  else if op / 32 = 5 then planRiffle c
  else if op / 32 = 6 then planSluice c
  else if op = 0xE1 ∨ op = 0xE2 then planKsw c
  else if op = 0xE3 then planRescale c
  else if op = 0xE4 then planFreshet c
  else if op = 0xE5 then planPbs c
  else if op = 0xE6 then planExtract c
  else planPack c

/-- A WWAIT in execution in a stream: its target. -/
def Bench.weirWait (b : Bench) (st : Nat) : Option Exec :=
  b.execs.find? (fun e => decide (e.stream = st) && decide (opcodeOf e.word = 5) && e.todo.contains .weir)

/-- Whether a command is a RESUME that the Foreman pushed. -/
def pushedResume (q : QCmd) : Bool := decide (opcodeOf q.word = 0xC3) && decide (q.pc = 0x3FFF)

/-- Whether a stream of a bench moves its head at all: the bench runs, the stream is open, no WWAIT of it waits, and no halted
Sluice holds it (R88, R114, R138, R163, R185). -/
def State.mayMove (s : State) (pb st : Nat) (q : QCmd) : Bool :=
  let b := s.bench pb
  b.active && !b.abandoning && !(b.stream st).closed && !(b.stream st).ended && (s.streamsOf pb).contains st &&
    (b.weirWait st).isNone && (!b.sluiceHalted || decide (st ≠ s.sluiceStream pb) || pushedResume q)

/-- Stage 2 (R143, R144): none while the command waits, else whether its token matches. -/
def Bench.stage2 (b : Bench) (q : QCmd) : Option Bool :=
  if q.passed || !awaitEn q.word then some true
  else if readsChute q.word then (b.chute.head?).map (fun t => decide (t.token = some (awaitOf q.word)))
  else if 1 ≤ b.token (awaitOf q.word) then some true else none

/-- Stage 3 (R87-R89): engines and macros in WORK, the Sluice in FILL, none during a switch; a pushed RESUME passes during the
switch that waits for its transfer (R110). -/
def Bench.stage3 (b : Bench) (q : QCmd) : Bool :=
  let c := classOf q.word
  if c = 0 then true
  else if c = 6 then decide (b.mode = .fill) && (!b.switching || pushedResume q)
  else decide (b.mode = .work) && !b.switching

/-- Stage 4 (R140): the entry that the stream's own commands still write. -/
def Bench.stage4 (b : Bench) (st : Nat) (w : CmdWord) : Option Nat :=
  let own := b.execs.filter (fun e => decide (e.stream = st))
  let d := ([0, 1, 2].map (opIdx w)).find? (fun i => decide (i ≠ 0) && own.any (fun e => e.sbDesc.contains i))
  match d with
  | some i => some i
  | none => if loopIdx w ≠ 0 ∧ own.any (fun e => e.sbLoop.contains (loopIdx w)) then some (loopIdx w) else none

/-- The table words that stage 5 reads: descriptor entries of the used slots and the loop entry, as table and word. -/
def entryWords (w : CmdWord) : List (Nat × Nat) :=
  ((([0, 1, 2].filter (usesSlot w)).map (opIdx w)).filter (fun i => decide (i ≠ 0))).flatMap
      (fun i => [(1, 2 * i), (1, 2 * i + 1)]) ++
    (if loopIdx w = 0 then [] else [(2, 2 * loopIdx w), (2, 2 * loopIdx w + 1)])

/-- The first word that stage 5 reads and that decodes as uncorrectable (Table 11.2). -/
def Bench.badEntry (b : Bench) (w : CmdWord) : Option (Nat × Nat) :=
  (entryWords w).find? (fun x => (b.table x.1).bad.contains x.2)

/-- Stage 7 (R141, R153): the engine set of the command is free for it; a macro also waits for every other macro. -/
def Bench.stage7 (b : Bench) (w : CmdWord) (engines : Nat) : Bool :=
  if isMacro w then b.acceptsMacro engines else b.accepts engines

/-- Where a command at the head of a stream stands: rejected at stage 1, waiting at a stage with a kind and an argument, a
token mismatch, a bad table word, rejected at stage 5, or ready. -/
inductive Verdict
  | stage1 (slot : Nat)
  | wait (kind arg : Nat)
  | mismatch (chute : Nat)
  | badWord (table word : Nat)
  | reject (r : Reject)
  | ready (p : Plan)

/-- Stages 3 to 7 of a command that has passed stage 2; HOLD lets no command past stage 7 (R472). -/
def State.lateVerdict (s : State) (pb st : Nat) (q : QCmd) : Verdict :=
  let b := s.bench pb
  let w := q.word
  if !b.stage3 q then .wait 4 0
  else
    match b.stage4 st w with
    | some i => .wait 5 i
    | none =>
      match b.badEntry w with
      | some x => .badWord x.1 x.2
      | none =>
        match planOf (opcodeOf w) (s.ctx pb st q) with
        | .error r => .reject r
        | .ok p =>
          match b.conflict p.ex.reads p.ex.writes with
          | some e => .wait 6 e.stream
          | none =>
            if s.flag Fld.CLKPWR_CLK_HOLD then .wait 7 0
            else if b.stage7 w p.ex.engines then .ready p
            else if b.execs.any (fun e => isMacro e.word && engMeet e.engines p.ex.engines) then .wait 8 0
            else .wait 7 0

/-- Where the head of a stream stands. -/
def State.verdict (s : State) (pb st : Nat) (q : QCmd) : Verdict :=
  let b := s.bench pb
  match s.stage1 pb st q.word with
  | some slot => .stage1 slot
  | none =>
    match b.stage2 q with
    | none => .wait (if readsChute q.word then 3 else 2) 0
    | some false => .mismatch (((b.chute.head?).bind Tile.token).getD 0)
    | some true => s.lateVerdict pb st q

/-- WAIT_KIND and ARG of a stream (Table 5.9). -/
def State.waitInfo (s : State) (pb st : Nat) : Nat × Nat :=
  let b := s.bench pb
  let x := b.stream st
  if x.ended then (0xC, 0)
  else if b.sluiceHalted ∧ st = s.sluiceStream pb then (0xB, 0)
  else
    match b.weirWait st with
    | some e => (9, weirArgOf e.word)
    | none =>
      if b.execs.any (fun e => decide (e.stream = st) && e.todo.any (fun t => match t with
          | .feed _ u => decide (0 < u)
          | .key _ => true
          | _ => false)) then (0xA, 0)
      else
        match x.queue with
        | [] => (1, 0)
        | q :: _ =>
          if q.bad then (0, 0)
          else match s.verdict pb st q with
            | .wait k a => (k, a)
            | _ => (0, 0)

/-- The head of a stream changed. -/
def Stream.setHead (x : Stream) (f : QCmd → QCmd) : Stream :=
  match x.queue with
  | [] => x
  | q :: r => { x with queue := f q :: r }

/-- A command rejected at issue: logged, and the bench halts (R158). -/
def State.rejectCmd (s : State) (pb st : Nat) (q : QCmd) (r : Reject) : State :=
  let w := q.word
  let place := st * 2 ^ 53 + q.pc % 2 ^ 14 * 2 ^ 32
  let s :=
    if r.cause = 1 then s.logBench pb 0x05 (cmdHeader w st q.pc + opIdx w r.slot * 2 ^ 16 + r.value % 256) 0
    else if r.cause = 4 then s.logBench pb 0x0C (cmdHeader w st q.pc + r.slot * 2 ^ 30) r.value
    else s.logBench pb 0x0B (getBits w 127 64) (place + r.slot * 2 ^ 30 + r.stage)
  s.haltBench pb r.cause

/-- A macro's key request posted as it passes stage 2 (R229): pending, or waiting to be posted. -/
def State.postStream (s : State) (pb : Nat) (w : CmdWord) : State :=
  if !isMacro w then s
  else
    let b := s.bench pb
    match streamOf s pb w (b.desc (opIdx w 0)) (b.desc (opIdx w 1)) with
    | none => s
    | some k =>
      s.setBench pb (if b.kPending.isNone then { b with kPending := some k } else { b with kWait := b.kWait ++ [k] })

/-- Stage 2 left: the token is consumed, the stage is not entered again, a macro's key stream is requested. -/
def State.passAwait (s : State) (pb st : Nat) (q : QCmd) : State :=
  if q.passed then s
  else
    let w := q.word
    let s := s.onBench pb (fun b =>
      let b := b.onStream st (·.setHead (fun q => { q with passed := true }))
      if awaitEn w && !readsChute w then b.setToken (awaitOf w) (b.token (awaitOf w) - 1) else b)
    s.postStream pb w

/-- A command that makes exchanges. -/
def Exec.exchanges (e : Exec) : Bool := e.todo.any (fun t => match t with
  | .exchange _ => true
  | _ => false)

/-- Whether the operation that the checker runs will change a slot or chain that a command names: it may use the old or the
new contents (R31). -/
def State.checkerTouches (s : State) (e : Exec) : Bool :=
  match s.primes.op with
  | none => false
  | some (.primeLoad slot _ _ _) => e.primes.contains slot
  | some (.primeDelete slot _) => e.primes.contains slot
  | some (.chainLoad c _ _ _ _) => e.chains.contains c
  | some (.chainDelete c _) => e.chains.contains c

/-- Stage 8: the command leaves its queue and is in execution; END closes its stream and discards what stands behind it; a
command of later gang-mode exchanges after a broken one is broken too; what completes at once retires (R90, R138, R141, R167,
R185). -/
def State.issueNow (s : State) (pb st : Nat) (q : QCmd) (p : Plan) : State :=
  let w := q.word
  let s := s.onBench pb (fun b =>
    let e := { p.ex with broken := p.ex.broken || (b.xBroken && p.ex.exchanges) || s.checkerTouches p.ex }
    let b : Bench := { b with execs := b.execs ++ [e], nextId := b.nextId + 1 }
    b.onStream st (fun x =>
      if endsStream w then { x with queue := [], closed := true, fetching := false } else { x with queue := x.queue.drop 1 }))
  let s := (p.start s).progress pb
  let s := if classOf w = 6 ∧ opcodeOf w ≠ 0xC3 then s.slAdvance pb p.ex.id else s
  let s := s.feed pb
  if opcodeOf w = 0xC3 then (s.slResume pb).retireNow pb p.ex.id
  else if opcodeOf w = 2 ∧ p.ex.todo.isEmpty then s.retireNow pb p.ex.id
  else s

/-- One attempt of the command at the head of a stream to pass the stages of Table 5.7. -/
def State.tryIssue (s : State) (pb st : Nat) (q : QCmd) : State :=
  if !s.mayMove pb st q then s
  else if q.bad then
    (s.benchUncorrectable pb memTable rdEngine (q.pc / 2 * 32) (cmdHeader q.word st q.pc)).haltBench pb 6
  else
    match s.stage1 pb st q.word with
    | some slot => s.rejectCmd pb st q ⟨3, 1, slot, 0⟩
    | none =>
      match (s.bench pb).stage2 q with
      | none => s
      | some false => s.tokenError pb q.word st q.pc (awaitOf q.word) ((((s.bench pb).chute.head?).bind Tile.token).getD 0) 0
      | some true =>
        let s := s.passAwait pb st q
        match s.lateVerdict pb st q with
        | .reject r => s.rejectCmd pb st q r
        | .badWord _ x =>
          (s.benchUncorrectable pb memTable rdEngine (32 * x) (cmdHeader q.word st q.pc)).haltBench pb 6
        | .ready p => s.issueNow pb st q p
        | _ => s

/-- The command at the head of a stream, if it has the opcode of a row. -/
def State.issueOp (s : State) (pb st op : Nat) : State :=
  match ((s.bench pb).stream st).queue with
  | [] => s
  | q :: _ => if opcodeOf q.word = op then s.tryIssue pb st q else s

/-- The command at the head of a stream, if its opcode is undefined or absent from the macro store (R122, R125). -/
def State.issueUndefined (s : State) (pb st : Nat) : State :=
  match ((s.bench pb).stream st).queue with
  | [] => s
  | q :: _ => if s.opcodeOk pb (opcodeOf q.word) then s else s.tryIssue pb st q

end Sys2Proof.Machine
end

