-- ==== Sys2Proof/Machine/Clock.lean ====
section
/-! DEFINITION. What happens with the passage of time when no command waits: one cycle of tclk (R485 of
spec/18_power_clock_reset.md): device time, and the counters that count cycles (R155, R210, R472 and the register tables of
spec/04_bench_engines.md, spec/05_command_model.md and spec/18_power_clock_reset.md). -/

namespace Sys2Proof.Machine

/-- Waits of a command that are no busy cycles of its engine (R111, R155). -/
def Exec.waits (e : Exec) : Bool := e.todo.any (fun t => match t with
  | .feed _ _ => true
  | .drain _ _ => false
  | .exchange _ => true
  | .key _ => true
  | .weir => true
  | .sluice => false
  | .phase => true)

/-- Whether a command waits for key data (BENCH_KEYBUF_STATUS.STARVE). -/
def Exec.starves (e : Exec) : Bool := e.todo.any (fun t => match t with
  | .feed _ u => decide (0 < u)
  | .key _ => true
  | _ => false)

/-- The bclk cycles that begin in one cycle of tclk from a root count (Table 1.6). -/
def bclksFrom (root div : Nat) : Nat := (root + 64) / div - root / div

/-- The Foreman's clocks after one tclk: eight cycles of fclk (R195, Table 7.4). -/
def Foreman.ticked (f : Foreman) : Foreman :=
  if f.st = .wfi ∨ f.st = .stalled then { f with clock := f.clock + 8, mcycle := f.mcycle + 8 } else f

/-- One bench after n cycles of bclk: commands spend busy cycles, the phase, stall, starvation and hazard counters count. -/
def State.benchTick (s : State) (n pb : Nat) : State :=
  let b := s.bench pb
  if b.abandoning ∨ ¬ b.active then s
  else
    let work := b.execs.any (fun e => !e.waits && decide (0 < e.busy) && decide (e.engines ≠ engCT))
    let starve := b.execs.any Exec.starves
    let hazards := ((s.streamsOf pb).filter (fun i => decide ((s.waitInfo pb i).1 = 6))).length
    let open_ := (s.streamsOf pb).any (fun i => !(b.stream i).ended)
    let hold := b.sluiceHalted || s.flag Fld.CLKPWR_CLK_HOLD
    let count := s.rd (Fld.BENCH_STALL_COUNT_COUNT pb)
    let s := s.bump (if b.mode = .fill then Fld.BENCH_PHASE_CYCLES_FILL pb else Fld.BENCH_PHASE_CYCLES_WORK pb) n
    let s := if starve then s.bump (Fld.BENCH_KEYBUF_STATUS_STARVE pb) n else s
    let s := s.bump (Fld.BENCH_TRACKER_STATUS_HAZARD_WAIT pb) (n * hazards)
    let s := if work then s.progress pb
      else if hold ∨ ¬ open_ then s
      else s.wr (Fld.BENCH_STALL_COUNT_COUNT pb) (min (2 ^ 32 - 1) (count + n))
    s.onBench pb (fun b => { b with
      execs := b.execs.map (fun e => if e.waits then e else { e with busy := e.busy - n }), fm := b.fm.ticked })

/-- Device time after one tclk: ten nanoseconds, RATE_PPB and what the TSYNC servo slews through the fractional accumulator, at
most 100 ppm together (R485, R486). -/
def Power.ticked (p : Power) (rate : Int) : Power :=
  let adj := max (-1000000) (min 1000000 (10 * rate + p.slew))
  let f := p.frac + adj
  { p with
    time := (p.time + (10 + f / 1000000000).toNat) % 2 ^ 64, frac := f % 1000000000, slew := p.slew - (adj - 10 * rate)
    root := p.root + 64 }

/-- RATE_PPB as a signed number. -/
def State.ratePpb (s : State) : Int := toSigned 32 (s.rd Fld.CLKPWR_TIME_CTL_RATE_PPB)

/-- One cycle of tclk. -/
def State.tick (s : State) : State :=
  if s.running then
    let n := bclksFrom s.power.root s.divider
    let s := (s.benches.map Prod.fst).foldl (fun s pb => s.benchTick n pb) s
    let s := if s.flag Fld.CLKPWR_CLK_HOLD then s.bump Fld.CLKPWR_THROTTLE_HOLD_US 10 else s
    { s with power := s.power.ticked s.ratePpb }
  else s

end Sys2Proof.Machine
end

