-- ==== Sys2Proof/Machine/BenchEvents.lean ====
section
/-! DEFINITION. The events of a bench's life: fetch, start, stop, reset, Rinse, hardware failure, phase switches, the stall
detector, key streams, self-test, gating, spares (R15-R25 of spec/01_architecture.md, R88-R90 and R112-R116 of
spec/04_bench_engines.md, R136-R138, R155-R157 of spec/05_command_model.md, R200-R202 of spec/07_foreman.md, R229-R232 of
spec/08_key_switching.md). -/

namespace Sys2Proof.Machine

/-- A command of command memory; an index past the end gives the all-zero command (R138). -/
def Bench.fetchCmd (b : Bench) (i : Nat) : QCmd :=
  if 16384 ≤ i then ⟨0, i % 16384, false, false⟩
  else ⟨BitVec.ofNat 128 (b.cmdMem.mem.readLE (16 * i) 16), i, false, b.cmdMem.bad.contains (i / 2)⟩

/-- Whether a stream takes a line: it fetches, has not ended and has four free entries (R138). -/
def Stream.wantsLine (x : Stream) : Bool := x.fetching && !x.closed && !x.ended && decide (x.queue.length + 4 ≤ 512)

/-- FETCH_LINE: the next stream in round-robin order takes the rest of its line of four (R138). -/
def State.fetchLine (s : State) (pb : Nat) : State :=
  let b := s.bench pb
  let order := (List.range 6).map (fun i => (b.fetchRR + 1 + i) % 6)
  match (if b.active && !b.abandoning then order.find? (fun i => (b.stream i).wantsLine) else none) with
  | none => s
  | some i =>
    s.setBench pb { (b.onStream i (fun x =>
      { x with
        queue := x.queue ++ (List.range (4 - x.fetchPc % 4)).map (fun k => b.fetchCmd (x.fetchPc + k))
        fetchPc := x.fetchPc + (4 - x.fetchPc % 4) })) with fetchRR := i }

/-- The Foreman as a program starts (R200). -/
def Foreman.start (f : Foreman) (entry : Nat) : Foreman :=
  { f with
    st := .running, regs := [], pc := entry, mieBit := false, mie := 0, msgen := 0, tokien := 0
    mcycle := 0, minstret := 0, fetched := 0, weirReply := none, weirId := f.weirId + 1 }

/-- The stall snapshot cleared (R156). -/
def State.clearSnap (s : State) (pb : Nat) : State :=
  (List.range 6).foldl (fun s i => (s.setReg (Reg.BENCH_STALL_SNAP0 pb i) 0).setReg (Reg.BENCH_STALL_SNAP1 pb i) 0)
    (s.setReg (Reg.BENCH_STALL_COUNT pb) 0)

/-- A stream as a program starts: enabled or ended, fetching from its PC or fed (R137). -/
def startStream (en fed : Bool) (pc : Nat) : Stream := ⟨[], pc, en && !fed, false, !en, 0⟩

/-- START of an IDLE bench (R137): queues, tokens, scoreboards and tracker are empty, RETIRED is zero, the bench enters FILL, its
streams fetch, its Foreman runs. -/
def State.startBench (s : State) (pb : Nat) : State :=
  let b := s.bench pb
  let lock := s.lockstep pb
  let en := fun i => bit (s.rd (Fld.BENCH_CTL_STREAM_EN pb)) i && (!lock || decide (i = 0))
  let fed := fun i => bit (s.rd (Fld.BENCH_CTL_STREAM_SRC pb)) i
  let b : Bench := { b with
    mode := .fill, haltCause := 0, switching := false, turnaround := false, tokens := [], execs := [], streams := []
    xSeq := 0, xPosts := [], xBroken := false, fm := b.fm.start (s.rd (Fld.BENCH_FM_CTL_ENTRY pb)) }
  let b := [0, 1, 2, 3, 4, 5].foldl (fun b i =>
    b.setStream i (startStream (en i) (fed i) (s.rd (Fld.BENCH_STREAM_PC_PC pb i)))) b
  ((s.setBench pb b).clearSnap pb).checkComplete pb

/-- A stop ordered by Matumon or written as STOP (R115). -/
def State.stopBench (s : State) (pb : Nat) : State :=
  let b := s.bench pb
  if b.mode = .idle then s.setBench pb { b with mode := .halted, haltCause := 8 }
  else if b.active then s.haltBench pb 8
  else s

/-- The key streams of a bench ended, the buffer empty, all credits back (R92, R232). -/
def Bench.dropKeys (b : Bench) : Bench :=
  { b with keyBuf := [], credits := 64, kActive := none, kPending := none, kWait := [] }

/-- Elements written where the choice that the spec leaves open falls on their word (R114). -/
def State.writeMaybe (base : Nat) (s : State) (pb : Nat) (r : WRun) : State :=
  if r.slots then s
  else
    let vals := settleEls s.fresh r.k r.els
    let s : State := { s with fresh := s.fresh + r.els.length }
    let put := vals.zipIdx.filter (fun v => Config.freeBool (base + (r.addr + r.k * v.2) / 32))
    s.onBench pb (fun b =>
      let pool := put.foldl (fun m v => m.writeElems (r.addr + r.k * v.2) r.k [v.1]) b.pool
      { b with pool := pool })

/-- A command abandoned: each destination word keeps its old value or takes one the command wrote; what a command had taken in
only part would have written is free (R114). -/
def State.abandonExec (base : Nat) (s : State) (pb : Nat) (e : Exec) : State :=
  (stepsOf s pb e).foldl (fun s f =>
    let eff := f s
    let eff := if e.spent.isSome then eff.zeroed else if e.broken || !e.todo.isEmpty then eff.freed else eff
    eff.runs.foldl (fun s r => s.writeMaybe base pb r) s) s

/-- The tags of a transfer that its far side has not served, word by word. -/
def splitTags (l : List Tag) : List Tag :=
  l.flatMap (fun t =>
    if t.served then [t]
    else (List.range t.count).map (fun i => ⟨1024 * (t.id + 1) + i, t.first + i, 1, t.far + 32 * i, (t.data.drop i).take 1, false, t.err⟩))

/-- The far side serves a tag. -/
def State.serveNow (s : State) (pb : Nat) (side : FarSide) (id : Nat) : State :=
  match side with
  | .basin => s.basinAccess pb id .clean
  | .hbm => s.hbmAccess pb id .clean
  | .peer => s.peerArrival pb id
  | _ => s

/-- A transfer abandoned: words that were sent land where keep says; words that were asked for land in the Pool where the open
choice falls on them (R114, R116, R333). -/
def State.abandonJob (base : Nat) (land : Nat → Bool) (inward : Bool) (s : State) (pb : Nat) (j : SlJob) : State :=
  match (s.bench pb).exec j.cmd with
  | none => s
  | some e =>
    let s := s.onBench pb (·.onJob j.cmd (fun j => { j with tags := splitTags j.tags }))
    let tags := splitTags j.tags
    if e.outward then
      (tags.filter (fun t => !t.served && land (base + t.first))).foldl (fun s t => s.serveNow pb e.side t.id) s
    else if !inward then s
    else
      let s := tags.foldl (fun s t => if t.served then s else s.serveNow pb e.side t.id) s
      let b := s.bench pb
      let got := ((b.sluice.find? (fun x => decide (x.cmd = j.cmd))).map SlJob.tags).getD []
      let own := b.ownOf e
      let words := got.flatMap (fun t => (List.range t.count).map (fun i => (t.first + i, t.data[i]?)))
      let s := words.foldl (fun s w =>
        if land (base + w.1) then
          match w.2 with
          | some x => s.onBench pb (fun b => b.bring e own w.1 x.1 x.2)
          | none => { s.onBench pb (fun b => b.bring e own w.1
              (elemsWord 4 ((List.range 8).map (fun i => freeNat s.fresh i 4))) false) with fresh := s.fresh + 8 }
        else s) s
      s

/-- A bench without a program: no queue, no token, no command in execution, no exchange, no tag (R114, R116, R357). -/
def Bench.emptied (b : Bench) : Bench :=
  { b.dropKeys with
    haltCause := 0, switching := false, turnaround := false, phaseSwitches := 0, abandoning := false
    slots := EMem.zero, streams := [], tokens := [], execs := [], chute := [], xSeq := 0, xPosts := [], xBroken := false
    chainLog := [], sluice := [], epoch := (b.epoch + 1) % 256 }

/-- BENCH_SLUICE_CTX and the snapshot cleared (R156, R333). -/
def State.clearCtx (s : State) (pb : Nat) : State := (s.setReg (Reg.BENCH_SLUICE_CTX pb) 0).clearSnap pb

/-- A bench reset arrives: issue, the Foreman and the key streams stop at once; in RINSING it is held (R114, R201, R232). -/
def State.benchReset (s : State) (pb : Nat) : State :=
  let b := s.bench pb
  if b.mode = .rinsing then s.setBench pb { b with resetHeld := true }
  else
    let f := b.fm.stop 3
    s.setBench pb { b.dropKeys with
      abandoning := true, fm := { Foreman.reset with st := .stopped, stopCause := f.stopCause, weirId := f.weirId } }

/-- Abandonment is complete: the queues and the engine stores are cleared and the bench enters IDLE (R114). -/
def State.benchResetDone (s : State) (pb : Nat) : State :=
  let b := s.bench pb
  if !b.abandoning then s
  else
    let base := s.fresh
    let s := { s with fresh := s.fresh + 2 ^ 22 }
    let s := b.execs.foldl (fun s e => s.abandonExec base pb e) s
    let s := b.sluice.foldl (fun s j => s.abandonJob (base + 2 ^ 21) Config.freeBool true pb j) s
    let s := s.abandonWaits pb
    (s.onBench pb (fun b => { b.emptied with mode := .idle })).clearCtx pb

/-- A Rinse arrives: issue stops, commands in execution are abandoned, writes already sent complete, the Foreman stops, the
streams of key data end (R116, R202, R303, R304). -/
def State.rinse (s : State) (pb : Nat) : State :=
  let b := s.bench pb
  if b.mode = .rinsing then s
  else
    let s := b.sluice.foldl (fun s j => s.abandonJob 0 (fun _ => true) false pb j) s
    let s := (s.abandonWaits pb).onBench pb (fun b =>
      { b.emptied with mode := .rinsing, fm := { Foreman.reset with stopCause := (b.fm.stop 4).stopCause, weirId := b.fm.weirId + 1 } })
    (s.clearCtx pb).rinseWeirs pb

/-- Rings disabled with zero counters, routes unconfigured with no credit, handlers zero (R202). -/
def State.rinseMessages (s : State) (pb : Nat) : State :=
  let s := (List.range 16).foldl (fun s i =>
    ((s.wrB (Fld.BENCH_RING_CFG_EN pb i) false).setReg (Reg.BENCH_RING_PTR pb i) 0).setCnt (Fld.BENCH_RING_PTR_DROPPED pb i) 0) s
  (List.range 256).foldl (fun s r =>
    ((s.setReg (Reg.BENCH_ROUTE pb r) 0).wr (Fld.BENCH_ROUTE_STAT_AVAIL pb r) 0).setReg (Reg.BENCH_HANDLER pb r) 0) s

/-- Zeroisation ends: every store of the bench is zero and the bench enters IDLE (R116, R121, R202). -/
def State.rinseComplete (s : State) (pb : Nat) : State :=
  let b := s.bench pb
  if b.mode ≠ .rinsing then s
  else
    (s.setBench pb { b.emptied with
      mode := .idle, epoch := b.epoch, resetHeld := false, pool := EMem.zero, cmdMem := EMem.zero, descTab := EMem.zero
      loopTab := EMem.zero, route := [], imem := EMem.zero, dmem := EMem.zero }).rinseMessages pb

/-- The far words of a transfer made unpredictable (R113). -/
def State.freeFar (s : State) (pb : Nat) (e : Exec) : State :=
  let addrs := ((s.bench pb).farOf e).filterMap id
  let word := fun (s : State) => elemsWord 4 ((List.range 8).map (fun i => freeNat s.fresh i 4))
  match e.side with
  | .basin => addrs.foldl (fun s a => { s.setBasin (adLedge e.farDesc) ((s.basin (adLedge e.farDesc)).writeWord a (word s) false) with
      fresh := s.fresh + 8 }) s
  | .hbm => addrs.foldl (fun s a => { s.setHbmWord a (word s) false with fresh := s.fresh + 8 }) s
  | _ => s

/-- The table entries that a command writes made unpredictable (R113). -/
def State.freeEntries (s : State) (pb : Nat) (e : Exec) : State :=
  let ds := e.sbDesc.map (fun i => ((1, i) : Nat × Nat)) ++ e.sbLoop.map (fun i => (2, i))
  let ws := ds.flatMap (fun x => (List.range 8).map (fun k => (x.1, 8 * x.2 + k)))
  let ws := if isTload e.word ∧ tlTable e.word = 0 then
      (List.range (4 * (adPerIter (e.d 0) * loopTrips e.loop))).map (fun k => ((0, tlStart e.word + k) : Nat × Nat)) else ws
  ws.foldl (fun s x => { s.onBench pb (·.tableWrite x.1 x.2 (Config.freeWord s.fresh)) with fresh := s.fresh + 1 }) s

/-- A hardware failure of the bench: it stops at once, and its Pool and every destination of its commands are unpredictable
(R113). -/
def State.benchHwFailure (s : State) (pb : Nat) : State :=
  let b := s.bench pb
  let s := b.execs.foldl (fun s e =>
    let s := s.freeEntries pb e
    if classOf e.word = 6 ∧ e.outward then s.freeFar pb e else s) s
  let b := s.bench pb
  let slots := b.execs.any (fun e => (decide (classOf e.word = 2) || decide (classOf e.word = 3)) && dstSlot e.word)
  let ae := b.execs.any (fun e => decide (classOf e.word = 4))
  let n := s.fresh
  let b : Bench := { b with
    pool := ⟨Mem.free n, []⟩
    slots := if slots then ⟨Mem.free (n + 1), []⟩ else b.slots
    chute := if ae then b.chute.map (fun t => { t with vals := t.vals.map (fun _ => El.free) }) else b.chute }
  let b : Bench := if b.active then { (b.halt 7) with execs := [], sluice := [], passed := false } else { b with passed := false }
  { (s.setBench pb b).abandonWaits pb with fresh := n + 2 }

/-- PHASE_DRAIN_COMPLETE: the outgoing phase has nothing in execution (R88, R89). -/
def State.phaseDrained (s : State) (pb : Nat) : State :=
  let b := s.bench pb
  let busy := if b.target = .fill then b.execs.any (fun e => decide (e.engines &&& 15 ≠ 0))
    else b.execs.any (fun e => decide (e.engines &&& engSL ≠ 0))
  if b.switching && !b.turnaround && b.active && !busy then s.setBench pb { b with turnaround := true } else s

/-- PHASE_TURNAROUND_END: the bench is in the other phase, the switch is counted and its command retires (R88-R90). -/
def State.phaseDone (s : State) (pb : Nat) : State :=
  let b := s.bench pb
  if b.switching && b.turnaround && b.active then
    let s := s.setBench pb { b with
      mode := b.target, switching := false, turnaround := false, phaseSwitches := (b.phaseSwitches + 1) % 2 ^ 32 }
    match b.execs.find? (fun e => e.todo.contains .phase) with
    | none => s
    | some e => (s.onBench pb (·.onExec e.id (fun e => { e with todo := [] }))).retireNow pb e.id
  else s

/-- The snapshot of one stream (R156): wait kind, token, PC, argument, and the Weir that a WWAIT waits for. -/
def State.snapStream (s : State) (pb i : Nat) : Nat × Nat × Nat × Nat × Nat × Nat :=
  let b := s.bench pb
  let w := s.waitInfo pb i
  let q := (b.stream i).queue.head?
  let tok := if w.1 = 2 ∨ w.1 = 3 then (q.map (fun q => awaitOf q.word)).getD 0 else 0
  match (if w.1 = 9 then b.weirWait i else none) with
  | some e => (w.1, 0, e.pc % 16384, w.2, weirBenchOf e.word, weirNumOf e.word)
  | none => (w.1, tok, ((q.map QCmd.pc).getD 0) % 16384, w.2, 0, 0)

/-- STALL_LIMIT_REACHED: the heads are captured, QUEUE_STALL is logged, the bench halts (R155-R157). -/
def State.stallReached (s : State) (pb : Nat) : State :=
  let b := s.bench pb
  let limit := s.rd (Fld.BENCH_STALL_LIMIT_LIMIT pb)
  let open_ := (s.streamsOf pb).any (fun i => !(b.stream i).ended)
  if limit = 0 ∨ ¬ b.active ∨ b.abandoning ∨ ¬ open_ ∨ b.sluiceHalted then s
  else
    let snaps := (List.range 6).map (s.snapStream pb)
    let s := s.wr (Fld.BENCH_STALL_COUNT_COUNT pb) limit
    let s := snaps.zipIdx.foldl (fun s x =>
      (s.setReg (Reg.BENCH_STALL_SNAP0 pb x.2)
        (BitVec.ofNat 64 (x.1.1 * 2 ^ 60 + x.1.2.1 * 2 ^ 48 + x.1.2.2.1 * 2 ^ 32 + x.1.2.2.2.1 % 2 ^ 32))).setReg
        (Reg.BENCH_STALL_SNAP1 pb x.2) (BitVec.ofNat 64 (x.1.2.2.2.2.1 * 2 ^ 11 + x.1.2.2.2.2.2))) s
    let code := fun i => let x := snaps.getD i (0, 0, 0, 0, 0, 0); x.1 * 256 + x.2.1
    let w := (snaps.find? (fun x => decide (x.1 = 9))).getD (0, 0, 0, 0, 0, 0)
    let d0 := (List.range 5).foldl (fun a i => a + code i * 2 ^ (12 * i)) 0
    (s.logBench pb 0x06 d0 (limit * 2 ^ 32 + w.2.2.2.2.1 * 2 ^ 23 + w.2.2.2.2.2 * 2 ^ 12 + code 5)).haltBench pb 2

/-- MILLRACE_STREAM_START: the pending stream becomes active once the active one has delivered its last byte; the tags are
compared (R229, R231). -/
def State.streamStart (s : State) (pb : Nat) : State :=
  let b := s.bench pb
  match b.kActive, b.kPending with
  | none, some k =>
    let bad := decide (keyTag (s.keyEnt k.entry) ≠ k.tag)
    let s := s.setBench pb { b with
      kActive := if k.total = 0 then none else some { k with mismatch := bad }
      kPending := b.kWait.head?, kWait := b.kWait.drop 1 }
    if bad then s.bump (Fld.DEVCTL_MILLRACE_STATUS_MISMATCHES (ledgeOf pb)) 1 else s
  | _, _ => s

/-- KEY_UNIT_DELIVER: the next 512 bytes of the active stream enter the key operand buffer against a credit; what its stored words'
check codes say goes with it (R92, R230, R231, R233). -/
def State.unitDeliver (s : State) (pb : Nat) (ecc : Ecc) : State :=
  let b := s.bench pb
  match b.kActive with
  | none => s
  | some k =>
    if b.credits = 0 ∨ b.mode = .rinsing then s
    else
      let l := ledgeOf pb
      let rs := s.streamUnit pb k k.sent
      let hbm := decide (keySpace (s.keyEnt k.entry) = 2)
      let stored := rs.filter (·.stored)
      let hit := decide (ecc = .uncorrectable) && !stored.isEmpty
      let poison := hit || rs.any (·.poison)
      let at_ := match rs.find? (·.poison) with
        | some r => r.addr
        | none => (stored.map (·.addr)).headD 0
      let at_ := at_ / 32 * 32
      let u : KUnit := ⟨rs.map (·.el), if k.mismatch ∧ k.sent < 8 then some (keyTag (s.keyEnt k.entry)) else none,
        poison, hbm, at_⟩
      let s := if ecc = .corrected ∧ ¬ stored.isEmpty then
          (if hbm then match s.hbmLoc at_ with
            | some p => s.hbmCorrected p.ch rdMillrace p.inChannel
            | none => s
          else s.basinCorrected l rdMillrace at_) else s
      let s := s.setBench pb { b with
        keyBuf := b.keyBuf ++ [u], credits := b.credits - 1
        kActive := if k.total ≤ k.sent + 1 then none else some { k with sent := k.sent + 1 } }
      let s := (s.bump (Fld.DEVCTL_MILLRACE_BYTES_DELIVERED l) 512).bump (Fld.DEVCTL_MILLRACE_BYTES_STORED l) (4 * stored.length)
      s.feed pb

/-- Whether all four benches of a gang have passed their self-test and the gang is not gated (R25). -/
def State.gangPasses (s : State) (g : Nat) : Bool :=
  (s.gangBenches g).all (fun pb => (s.bench pb).passed) && !bit (s.rd Fld.DEVCTL_GANG_AVAIL_GATED) g

/-- AVAIL and the gang's state brought in step outside CLEARING: OUT while AVAIL is 0, FREE when it returns (R25, Table 15.3); in restricted
mode every gang stays OUT (R400). -/
def State.settleAvail (s : State) (g : Nat) : State :=
  if s.devState = devClearing ∨ s.rd Fld.MGMT_STATUS_RESTRICTED ≠ 0 then s
  else
    let ok := s.gangPasses g
    let a := s.rd Fld.DEVCTL_GANG_AVAIL_AVAIL
    let s := s.wr Fld.DEVCTL_GANG_AVAIL_AVAIL (if ok then a ||| 2 ^ g else a - (if bit a g then 2 ^ g else 0))
    let st := s.rd (Fld.MGMT_GANG_STATE g)
    if ok ∧ st = gangOut then s.wr (Fld.MGMT_GANG_STATE g) gangFree
    else if ¬ ok ∧ st = gangFree then s.wr (Fld.MGMT_GANG_STATE g) gangOut
    else s

/-- BENCH_SELF_TEST_DONE: the outcome, the spare's SPARE_OK, and the gang's AVAIL (R17, R21, R25). -/
def State.selfTestDone (s : State) (pb : Nat) (pass : Bool) : State :=
  let s := s.onBench pb (fun b => { b with passed := pass })
  let l := ledgeOf pb
  let s := if pb % 17 = 16 then s.wrB (Fld.DEVCTL_LEDGE_MAP_SPARE_OK l) (pass && !s.flag (Fld.DEVCTL_LEDGE_MAP_SUBST l)) else s
  match s.gangOf pb with
  | none => s
  | some g => s.settleAvail g

/-- Whether a gang holds no assigned tenant and has completed Rinse (R17, R22). -/
def State.gangIdle (s : State) (g : Nat) : Bool :=
  decide (s.rd (Fld.MGMT_GANG_STATE g) = gangFree) || decide (s.rd (Fld.MGMT_GANG_STATE g) = gangOut)

/-- GANG_GATE_OFF (R17): the gang reads as out of service; its benches have their self-test still to pass. -/
def State.gateOff (s : State) (g : Nat) : State :=
  if !s.gangIdle g || bit (s.rd Fld.DEVCTL_GANG_AVAIL_GATED) g then s
  else
    let s := s.wr Fld.DEVCTL_GANG_AVAIL_GATED (s.rd Fld.DEVCTL_GANG_AVAIL_GATED ||| 2 ^ g)
    ((s.gangBenches g).foldl (fun s pb => s.onBench pb (fun b => { b with passed := false })) s).settleAvail g

/-- GANG_GATE_ON (R17): ungated; in service again once its benches pass. -/
def State.gateOn (s : State) (g : Nat) : State :=
  let a := s.rd Fld.DEVCTL_GANG_AVAIL_GATED
  if bit a g then s.wr Fld.DEVCTL_GANG_AVAIL_GATED (a - 2 ^ g) else s

/-- SPARE_SUBSTITUTE: the spare of a ledge takes the place of a failed bench if it passes; the map goes to the Ledger and BENCH_SPARED
is logged; else the gang is out of service (R21, R22). -/
def State.substitute (s : State) (l slot : Nat) (pass : Bool) : State :=
  let g := 4 * l + slot / 4
  let pb := 17 * l + slot
  let spare := 17 * l + 16
  if !s.gangIdle g then s
  else if s.flag (Fld.DEVCTL_LEDGE_MAP_SUBST l) then
    (s.onBench (s.physOf (16 * l + slot)) (fun b => { b with passed := false })).settleAvail g
  else
    let d0 := fun (b : Bool) => b2n b * 2 ^ 63 + pb * 2 ^ 48 + spare * 2 ^ 40 + (16 * l + slot) * 2 ^ 34 + g * 2 ^ 30
    let s := s.onBench spare (fun b => { b with passed := pass })
    let s := s.wrB (Fld.DEVCTL_LEDGE_MAP_SPARE_OK l) false
    if pass then
      let s := ((s.wrB (Fld.DEVCTL_LEDGE_MAP_SUBST l) true).wr (Fld.DEVCTL_LEDGE_MAP_SUB_SLOT l) slot).wr
        (Fld.DEVCTL_LEDGE_MAP_RETIRED_PB l) pb
      let s := { s with power := { s.power with ledger := { s.power.ledger with
        subst := s.power.ledger.subst.set l (0x80 + slot + 256 * pb) } } }
      (s.log 0x18 2 l (16 * l + slot) 0 (d0 true) 0).settleAvail g
    else
      ((s.onBench pb (fun b => { b with passed := false })).log 0x18 2 l (16 * l + slot) 0 (d0 false) 0).settleAvail g

end Sys2Proof.Machine
end

