-- ==== Sys2Proof/Machine/Rv64.lean ====
section
/-! DEFINITION. The Foreman's RV64IMAC core as a function of its registers, its data memory and an instruction (R194-R196 of
spec/07_foreman.md): expansion of compressed instructions, arithmetic, loads and stores, atomics, CSRs, timing. The encodings and the
meanings of the standard instructions are those of the RISC-V ISA that R194 names (log 30). -/

namespace Sys2Proof.Machine

/-- Register x of the Foreman. -/
def Foreman.x (f : Foreman) (r : Nat) : Nat := if r = 0 then 0 else (Sparse.get (fun _ => 0) f.regs r).toNat

/-- Register x written; x0 takes no write. -/
def Foreman.setX (f : Foreman) (r v : Nat) : Foreman :=
  if r = 0 then f else { f with regs := Sparse.set (fun _ => 0) f.regs r (BitVec.ofNat 64 v) }

/-- R-type word. -/
def encR (op f3 f7 rd rs1 rs2 : Nat) : Nat := op + rd * 2 ^ 7 + f3 * 2 ^ 12 + rs1 * 2 ^ 15 + rs2 * 2 ^ 20 + f7 * 2 ^ 25
/-- I-type word. -/
def encI (op f3 rd rs1 imm : Nat) : Nat := op + rd * 2 ^ 7 + f3 * 2 ^ 12 + rs1 * 2 ^ 15 + imm % 4096 * 2 ^ 20
/-- S-type word. -/
def encS (op f3 rs1 rs2 imm : Nat) : Nat :=
  op + imm % 32 * 2 ^ 7 + f3 * 2 ^ 12 + rs1 * 2 ^ 15 + rs2 * 2 ^ 20 + imm / 32 % 128 * 2 ^ 25
/-- B-type word. -/
def encB (f3 rs1 rs2 imm : Nat) : Nat :=
  0x63 + bits imm 11 11 * 2 ^ 7 + bits imm 4 1 * 2 ^ 8 + f3 * 2 ^ 12 + rs1 * 2 ^ 15 + rs2 * 2 ^ 20 + bits imm 10 5 * 2 ^ 25 +
    bits imm 12 12 * 2 ^ 31
/-- J-type word. -/
def encJ (rd imm : Nat) : Nat :=
  0x6F + rd * 2 ^ 7 + bits imm 19 12 * 2 ^ 12 + bits imm 11 11 * 2 ^ 20 + bits imm 10 1 * 2 ^ 21 + bits imm 20 20 * 2 ^ 31

/-- Quadrant 0 of the compressed instructions. -/
def expandQ0 (h : Nat) : Option Nat :=
  let rd := 8 + bits h 4 2
  let rs := 8 + bits h 9 7
  let w := bits h 5 5 * 64 + bits h 12 10 * 8 + bits h 6 6 * 4
  let d := bits h 6 5 * 64 + bits h 12 10 * 8
  let sp := bits h 10 7 * 64 + bits h 12 11 * 16 + bits h 5 5 * 8 + bits h 6 6 * 4
  let f := bits h 15 13
  if f = 0 then (if sp = 0 then none else some (encI 0x13 0 rd 2 sp))
  else if f = 2 then some (encI 0x03 2 rd rs w)
  else if f = 3 then some (encI 0x03 3 rd rs d)
  else if f = 6 then some (encS 0x23 2 rs rd w)
  else if f = 7 then some (encS 0x23 3 rs rd d)
  else none

/-- Quadrant 1 of the compressed instructions. -/
def expandQ1 (h : Nat) : Option Nat :=
  let rd := bits h 11 7
  let r1 := 8 + bits h 9 7
  let r2 := 8 + bits h 4 2
  let sh := bits h 12 12 * 32 + bits h 6 2
  let im := sext 6 12 sh
  let f := bits h 15 13
  let j := sext 12 21 (bits h 12 12 * 2048 + bits h 8 8 * 1024 + bits h 10 9 * 256 + bits h 6 6 * 128 + bits h 7 7 * 64 +
    bits h 2 2 * 32 + bits h 11 11 * 16 + bits h 5 3 * 2)
  let br := sext 9 13 (bits h 12 12 * 256 + bits h 6 5 * 64 + bits h 2 2 * 32 + bits h 11 10 * 8 + bits h 4 3 * 2)
  if f = 0 then some (encI 0x13 0 rd rd im)
  else if f = 1 then (if rd = 0 then none else some (encI 0x1B 0 rd rd im))
  else if f = 2 then some (encI 0x13 0 rd 0 im)
  else if f = 3 then
    if sh = 0 then none
    else if rd = 2 then
      some (encI 0x13 0 2 2 (sext 10 12 (bits h 12 12 * 512 + bits h 4 3 * 128 + bits h 5 5 * 64 + bits h 2 2 * 32 + bits h 6 6 * 16)))
    else some (0x37 + rd * 2 ^ 7 + sext 6 20 sh * 2 ^ 12)
  else if f = 4 then
    let k := bits h 11 10
    if k = 0 then some (encI 0x13 5 r1 r1 sh)
    else if k = 1 then some (encI 0x13 5 r1 r1 (0x400 + sh))
    else if k = 2 then some (encI 0x13 7 r1 r1 im)
    else
      let g := bits h 6 5
      if bits h 12 12 = 0 then
        some (if g = 0 then encR 0x33 0 0x20 r1 r1 r2 else encR 0x33 (if g = 1 then 4 else if g = 2 then 6 else 7) 0 r1 r1 r2)
      else if g = 0 then some (encR 0x3B 0 0x20 r1 r1 r2)
      else if g = 1 then some (encR 0x3B 0 0 r1 r1 r2)
      else none
  else if f = 5 then some (encJ 0 j)
  else if f = 6 then some (encB 0 r1 0 br)
  else some (encB 1 r1 0 br)

/-- Quadrant 2 of the compressed instructions. -/
def expandQ2 (h : Nat) : Option Nat :=
  let rd := bits h 11 7
  let r2 := bits h 6 2
  let sh := bits h 12 12 * 32 + r2
  let f := bits h 15 13
  if f = 0 then some (encI 0x13 1 rd rd sh)
  else if f = 2 then
    if rd = 0 then none else some (encI 0x03 2 rd 2 (bits h 3 2 * 64 + bits h 12 12 * 32 + bits h 6 4 * 4))
  else if f = 3 then
    if rd = 0 then none else some (encI 0x03 3 rd 2 (bits h 4 2 * 64 + bits h 12 12 * 32 + bits h 6 5 * 8))
  else if f = 4 then
    if bits h 12 12 = 0 then
      if r2 = 0 then (if rd = 0 then none else some (encI 0x67 0 0 rd 0)) else some (encR 0x33 0 0 rd 0 r2)
    else if r2 = 0 then (if rd = 0 then some 0x00100073 else some (encI 0x67 0 1 rd 0))
    else some (encR 0x33 0 0 rd rd r2)
  else if f = 6 then some (encS 0x23 2 2 r2 (bits h 8 7 * 64 + bits h 12 9 * 4))
  else if f = 7 then some (encS 0x23 3 2 r2 (bits h 9 7 * 64 + bits h 12 10 * 8))
  else none

/-- The 32-bit instruction that a compressed one stands for; none where it is illegal. -/
def expandC (h : Nat) : Option Nat :=
  if h % 4 = 0 then expandQ0 h else if h % 4 = 1 then expandQ1 h else expandQ2 h

/-- Fields of an instruction. -/
def rvOp (w : Nat) : Nat := bits w 6 0
def rvRd (w : Nat) : Nat := bits w 11 7
def rvF3 (w : Nat) : Nat := bits w 14 12
def rvRs1 (w : Nat) : Nat := bits w 19 15
def rvRs2 (w : Nat) : Nat := bits w 24 20
def rvF7 (w : Nat) : Nat := bits w 31 25
/-- Immediates, sign-extended to 64 bits. -/
def immI (w : Nat) : Nat := sext 12 64 (bits w 31 20)
def immS (w : Nat) : Nat := sext 12 64 (bits w 31 25 * 32 + bits w 11 7)
def immB (w : Nat) : Nat := sext 13 64 (bits w 31 31 * 4096 + bits w 7 7 * 2048 + bits w 30 25 * 32 + bits w 11 8 * 2)
def immU (w : Nat) : Nat := sext 32 64 (bits w 31 12 * 4096)
def immJ (w : Nat) : Nat := sext 21 64 (bits w 31 31 * 2 ^ 20 + bits w 19 12 * 4096 + bits w 20 20 * 2048 + bits w 30 21 * 2)

/-- Addition modulo 2^64. -/
def add64 (a b : Nat) : Nat := (a + b) % 2 ^ 64

/-- A number as a signed 64-bit integer. -/
def s64 (a : Nat) : Int := toSigned 64 a

/-- The register operations of RV64I on 64 bits. -/
def alu64 (f3 : Nat) (alt : Bool) (a b : Nat) : Nat :=
  if f3 = 0 then (if alt then (a + 2 ^ 64 - b) % 2 ^ 64 else add64 a b)
  else if f3 = 1 then a * 2 ^ (b % 64) % 2 ^ 64
  else if f3 = 2 then (if s64 a < s64 b then 1 else 0)
  else if f3 = 3 then (if a < b then 1 else 0)
  else if f3 = 4 then a ^^^ b
  else if f3 = 5 then (if alt then ofSigned 64 (s64 a / (2 ^ (b % 64) : Nat)) else a / 2 ^ (b % 64))
  else if f3 = 6 then a ||| b
  else a &&& b

/-- The register operations of RV64I on 32 bits. -/
def alu32 (f3 : Nat) (alt : Bool) (a b : Nat) : Nat :=
  let x := a % 2 ^ 32
  let y := b % 2 ^ 32
  sext 32 64 (
    if f3 = 0 then (if alt then (x + 2 ^ 32 - y) % 2 ^ 32 else (x + y) % 2 ^ 32)
    else if f3 = 1 then x * 2 ^ (b % 32) % 2 ^ 32
    else if alt then ofSigned 32 (toSigned 32 x / (2 ^ (b % 32) : Nat)) else x / 2 ^ (b % 32))

/-- Signed division of n-bit numbers: by zero all ones; overflow gives the dividend. -/
def divS (n a b : Nat) : Nat := if b = 0 then 2 ^ n - 1 else ofSigned n (Int.tdiv (toSigned n a) (toSigned n b))
/-- Signed remainder of n-bit numbers: by zero the dividend. -/
def remS (n a b : Nat) : Nat := if b = 0 then a else ofSigned n (Int.tmod (toSigned n a) (toSigned n b))

/-- The operations of the M extension on 64 bits. -/
def mul64 (f3 a b : Nat) : Nat :=
  if f3 = 0 then a * b % 2 ^ 64
  else if f3 = 1 then ofSigned 64 (s64 a * s64 b / (2 ^ 64 : Nat))
  else if f3 = 2 then ofSigned 64 (s64 a * (b : Int) / (2 ^ 64 : Nat))
  else if f3 = 3 then a * b / 2 ^ 64
  else if f3 = 4 then divS 64 a b
  else if f3 = 5 then (if b = 0 then 2 ^ 64 - 1 else a / b)
  else if f3 = 6 then remS 64 a b
  else (if b = 0 then a else a % b)

/-- The operations of the M extension on 32 bits. -/
def mulW (f3 a b : Nat) : Nat :=
  let x := a % 2 ^ 32
  let y := b % 2 ^ 32
  sext 32 64 (
    if f3 = 0 then x * y % 2 ^ 32
    else if f3 = 4 then divS 32 x y
    else if f3 = 5 then (if y = 0 then 2 ^ 32 - 1 else x / y)
    else if f3 = 6 then remS 32 x y
    else (if y = 0 then x else x % y))

/-- Whether a branch is taken; none for an undefined condition. -/
def branchTaken (f3 a b : Nat) : Option Bool :=
  if f3 = 0 then some (decide (a = b)) else if f3 = 1 then some (decide (a ≠ b))
  else if f3 = 4 then some (decide (s64 a < s64 b)) else if f3 = 5 then some (decide (s64 b ≤ s64 a))
  else if f3 = 6 then some (decide (a < b)) else if f3 = 7 then some (decide (b ≤ a)) else none

/-- The atomic operation of a function code on n bits; none where it is undefined. -/
def amoOp (fn n a b : Nat) : Option Nat :=
  let lt := fun (x y : Nat) => decide (toSigned n x < toSigned n y)
  if fn = 0 then some ((a + b) % 2 ^ n) else if fn = 1 then some b else if fn = 4 then some (a ^^^ b)
  else if fn = 0xC then some (a &&& b) else if fn = 8 then some (a ||| b)
  else if fn = 0x10 then some (if lt a b then a else b) else if fn = 0x14 then some (if lt b a then a else b)
  else if fn = 0x18 then some (min a b) else if fn = 0x1C then some (max a b) else none

/-- What an instruction sees beside registers and memory: logical bench, device time, the interrupts pending. -/
structure FmEnv where
  hart : Nat
  time : Nat
  mip : Nat

/-- mstatus: MIE, MPIE, and MPP fixed at machine mode. -/
def Foreman.mstatus (f : Foreman) : Nat := (if f.mieBit then 8 else 0) + (if f.mpie then 0x80 else 0) + 0x1800

/-- misa: RV64 with I, M, A, C. -/
def misaValue : Nat := 0x8000000000001105

/-- A CSR read; none where the address raises an illegal-instruction exception (R194, Table 7.4). -/
def Foreman.csr (f : Foreman) (v : FmEnv) (a : Nat) : Option Nat :=
  if a = 0x300 then some f.mstatus
  else if a = 0x301 then some misaValue
  else if a = 0x304 then some f.mie.toNat
  else if a = 0x305 then some f.mtvec.toNat
  else if a = 0x340 then some f.mscratch.toNat
  else if a = 0x341 then some f.mepc.toNat
  else if a = 0x342 then some f.mcause.toNat
  else if a = 0x343 then some f.mtval.toNat
  else if a = 0x344 then some v.mip
  else if a = 0xB00 ∨ a = 0xC00 then some f.mcycle.toNat
  else if a = 0xB02 ∨ a = 0xC02 then some f.minstret.toNat
  else if a = 0xF14 then some v.hart
  else if a = 0x7C0 then some f.timecmp.toNat
  else if a = 0x7C1 then some f.msgen
  else if a = 0x7C2 then some f.tokien
  else if a = 0xFC0 then some f.fetched.toNat
  else if a = 0xFC1 then some v.time
  else if a = 0xFC2 then some f.xcmsg.toNat
  else none

/-- The bits of mie that name an interrupt of Table 7.3. -/
def mieMask : Nat := 2 ^ 7 + 2 ^ 16 + 2 ^ 17

/-- A CSR write. -/
def Foreman.setCsr (f : Foreman) (a v : Nat) : Foreman :=
  let w := BitVec.ofNat 64 v
  if a = 0x300 then { f with mieBit := bit v 3, mpie := bit v 7 }
  else if a = 0x304 then { f with mie := BitVec.ofNat 64 (v &&& mieMask) }
  else if a = 0x305 then { f with mtvec := BitVec.ofNat 64 (v / 4 * 4) }
  else if a = 0x340 then { f with mscratch := w }
  else if a = 0x341 then { f with mepc := BitVec.ofNat 64 (v / 2 * 2) }
  else if a = 0x342 then { f with mcause := w }
  else if a = 0x343 then { f with mtval := w }
  else if a = 0xB00 then { f with mcycle := w }
  else if a = 0xB02 then { f with minstret := w }
  else if a = 0x7C0 then { f with timecmp := w }
  else if a = 0x7C1 then { f with msgen := v % 2 ^ 16 }
  else if a = 0x7C2 then { f with tokien := v % 2 ^ 32 }
  else f

/-- How an instruction ends: done, with the next pc and whether it jumped; an exception with its cause and mtval (none where the spec
gives none); an access that met an uncorrectable word; WFI. -/
inductive FmOut
  | done (f : Foreman) (mem : EMem) (pc : Nat) (jumped : Bool)
  | trap (cause : Nat) (tval : Option Nat)
  | bad (cause addr : Nat)
  | wfi

/-- Bytes of the data memory (R196). -/
def fmDataBytes : Nat := 2 ^ 18

/-- An access to the data memory: misaligned, outside, uncorrectable, or none of these. -/
def dataFault (mem : EMem) (a n : Nat) (store reads : Bool) : Option FmOut :=
  let k := if store then 2 else 0
  if a % n ≠ 0 then some (.trap (4 + k) (some a))
  else if fmDataBytes < a + n then some (.trap (5 + k) (some a))
  else if reads ∧ mem.bad.contains (a / 32) then some (.bad (5 + k) a)
  else none

/-- A load. -/
def fmLoad (f : Foreman) (mem : EMem) (w next : Nat) : FmOut :=
  let a := add64 (f.x (rvRs1 w)) (immI w)
  let k := rvF3 w
  if k = 7 then .trap 2 none
  else
    let n := 2 ^ (k % 4)
    match dataFault mem a n false true with
    | some o => o
    | none =>
      let v := mem.mem.readLE a n
      .done (f.setX (rvRd w) (if k < 4 then sext (8 * n) 64 v else v)) mem next false

/-- A store. -/
def fmStore (f : Foreman) (mem : EMem) (w next : Nat) : FmOut :=
  let a := add64 (f.x (rvRs1 w)) (immS w)
  if 4 ≤ rvF3 w then .trap 2 none
  else
    let n := 2 ^ rvF3 w
    match dataFault mem a n true false with
    | some o => o
    | none => .done f (mem.mergeLE a n (f.x (rvRs2 w))) next false

/-- LR, SC and the AMOs. -/
def fmAtomic (f : Foreman) (mem : EMem) (w next : Nat) : FmOut :=
  let a := f.x (rvRs1 w)
  let fn := bits w 31 27
  let n := 2 ^ rvF3 w
  let b := f.x (rvRs2 w) % 2 ^ (8 * n)
  if rvF3 w ≠ 2 ∧ rvF3 w ≠ 3 then .trap 2 none
  else if fn = 2 then
    if rvRs2 w ≠ 0 then .trap 2 none
    else
      match dataFault mem a n false true with
      | some o => o
      | none => .done ({ f with reserved := true }.setX (rvRd w) (sext (8 * n) 64 (mem.mem.readLE a n))) mem next false
  else if fn = 3 then
    match dataFault mem a n true false with
    | some o => o
    | none =>
      if f.reserved then .done (f.setX (rvRd w) 0) (mem.mergeLE a n b) next false
      else .done (f.setX (rvRd w) 1) mem next false
  else
    match amoOp fn (8 * n) 0 0 with
    | none => .trap 2 none
    | some _ =>
      match dataFault mem a n true true with
      | some o => o
      | none =>
        let old := mem.mem.readLE a n
        .done (f.setX (rvRd w) (sext (8 * n) 64 old)) (mem.mergeLE a n ((amoOp fn (8 * n) old b).getD 0)) next false

/-- ECALL, EBREAK, MRET, WFI and the CSR instructions. -/
def fmSystem (f : Foreman) (mem : EMem) (v : FmEnv) (w next : Nat) : FmOut :=
  let k := rvF3 w
  if k = 0 then
    if w = 0x00000073 then .trap 11 (some 0)
    else if w = 0x00100073 then .trap 3 none
    else if w = 0x30200073 then .done { f with mieBit := f.mpie, mpie := true } mem f.mepc.toNat true
    else if w = 0x10500073 then .wfi
    else .trap 2 none
  else if k = 4 then .trap 2 none
  else
    let a := bits w 31 20
    let src := if 4 ≤ k then rvRs1 w else f.x (rvRs1 w)
    let writes := decide (k % 4 = 1) || decide (rvRs1 w ≠ 0)
    match f.csr v a with
    | none => .trap 2 none
    | some old =>
      if writes ∧ bits a 11 10 = 3 then .trap 2 none
      else
        let new := if k % 4 = 1 then src else if k % 4 = 2 then old ||| src else old &&& (2 ^ 64 - 1 - src)
        let f := if writes then f.setCsr a new else f
        .done (f.setX (rvRd w) old) mem next false

/-- One 32-bit instruction of RV64IMA, or a compressed one expanded; len is its length in memory. Custom-0 instructions that are no
instruction of Table 7.2 end here as illegal. -/
def fmExec (f : Foreman) (mem : EMem) (v : FmEnv) (w len : Nat) : FmOut :=
  let pc := f.pc
  let next := add64 pc len
  let a := f.x (rvRs1 w)
  let b := f.x (rvRs2 w)
  let k := rvF3 w
  let g := rvF7 w
  let op := rvOp w
  let ok := fun (x : Nat) => FmOut.done (f.setX (rvRd w) x) mem next false
  if op = 0x37 then ok (immU w)
  else if op = 0x17 then ok (add64 pc (immU w))
  else if op = 0x6F then .done (f.setX (rvRd w) next) mem (add64 pc (immJ w)) true
  else if op = 0x67 then
    if k = 0 then .done (f.setX (rvRd w) next) mem (add64 a (immI w) / 2 * 2) true else .trap 2 none
  else if op = 0x63 then
    match branchTaken k a b with
    | none => .trap 2 none
    | some t => .done f mem (if t then add64 pc (immB w) else next) t
  else if op = 0x03 then fmLoad f mem w next
  else if op = 0x23 then fmStore f mem w next
  else if op = 0x13 then
    if k = 1 then (if bits w 31 26 = 0 then ok (alu64 1 false a (bits w 25 20)) else .trap 2 none)
    else if k = 5 then
      (if bits w 31 26 = 0 ∨ bits w 31 26 = 0x10 then ok (alu64 5 (decide (bits w 31 26 ≠ 0)) a (bits w 25 20)) else .trap 2 none)
    else ok (alu64 k false a (immI w))
  else if op = 0x1B then
    if k = 0 then ok (alu32 0 false a (immI w))
    else if (k = 1 ∧ g = 0) ∨ (k = 5 ∧ (g = 0 ∨ g = 0x20)) then ok (alu32 k (decide (g ≠ 0)) a (rvRs2 w))
    else .trap 2 none
  else if op = 0x33 then
    if g = 1 then ok (mul64 k a b)
    else if g = 0 ∨ (g = 0x20 ∧ (k = 0 ∨ k = 5)) then ok (alu64 k (decide (g ≠ 0)) a b)
    else .trap 2 none
  else if op = 0x3B then
    if g = 1 ∧ (k = 0 ∨ 4 ≤ k) then ok (mulW k a b)
    else if (g = 0 ∧ (k = 0 ∨ k = 1 ∨ k = 5)) ∨ (g = 0x20 ∧ (k = 0 ∨ k = 5)) then ok (alu32 k (decide (g ≠ 0)) a b)
    else .trap 2 none
  else if op = 0x0F then (if k ≤ 1 then .done f mem next false else .trap 2 none)
  else if op = 0x2F then fmAtomic f mem w next
  else if op = 0x73 then fmSystem f mem v w next
  else .trap 2 none

/-- The registers that an instruction reads. -/
def fmSources (w : Nat) : List Nat :=
  let op := rvOp w
  if op = 0x37 ∨ op = 0x17 ∨ op = 0x6F ∨ op = 0x0F then []
  else if op = 0x33 ∨ op = 0x3B ∨ op = 0x63 ∨ op = 0x23 ∨ op = 0x2F ∨ op = 0x0B then [rvRs1 w, rvRs2 w]
  else if op = 0x73 ∧ 4 ≤ rvF3 w then []
  else [rvRs1 w]

/-- The fclk that an instruction occupies the pipeline, and after which its result can be used (Table 7.1). -/
def fmCost (w : Nat) (jumped : Bool) : Nat × Nat :=
  let op := rvOp w
  if jumped then (3, 3)
  else if op = 0x03 then (1, 2)
  else if op = 0x2F then (3, 3)
  else if (op = 0x33 ∨ op = 0x3B) ∧ rvF7 w = 1 then (if rvF3 w < 4 then (1, 3) else (34, 34))
  else (1, 1)

/-- Time passes for the Foreman: mcycle counts fclk. -/
def Foreman.pass (f : Foreman) (n : Nat) : Foreman := { f with clock := f.clock + n, mcycle := f.mcycle + BitVec.ofNat 64 n }

/-- The wait for the results that an instruction reads (Table 7.1). -/
def Foreman.await (f : Foreman) (srcs : List Nat) : Foreman :=
  f.pass ((srcs.map (fun r => Sparse.get (fun _ => 0) f.ready r - f.clock)).foldl max 0)

/-- An instruction retired: its time passes, its result has its latency, minstret and the fetch counter count it, and the
two instructions fetched behind a jump are discarded (R195, R211). -/
def Foreman.retire (f : Foreman) (rd occ lat pc : Nat) (jumped wroteInstret : Bool) : Foreman :=
  let ready := if rd = 0 then f.ready else Sparse.set (fun _ => 0) f.ready rd (f.clock + lat)
  { (f.pass occ) with
    ready := ready, pc := pc
    minstret := if wroteInstret then f.minstret else f.minstret + 1
    fetched := f.fetched + (if jumped then 3 else 1) }

/-- A trap taken: mepc, mcause, mtval, the interrupt-enable stack, the reservation broken (R195, R212). -/
def Foreman.trap (f : Foreman) (cause tval target : Nat) : Foreman :=
  { f with
    mepc := BitVec.ofNat 64 f.pc, mcause := BitVec.ofNat 64 cause, mtval := BitVec.ofNat 64 tval
    mpie := f.mieBit, mieBit := false, pc := target, reserved := false, st := .running }

end Sys2Proof.Machine
end

