-- ==== Sys2Proof/Machine/Foreman.lean ====
section
/-! DEFINITION. The Foreman at work: instructions, the Xchotra instructions, stalls, interrupts (R194-R212 of
spec/07_foreman.md, R119 and R120 of spec/05_command_model.md, R286 of spec/11_on_chip_memory.md). -/

namespace Sys2Proof.Machine

/-- The Foreman's state changed. -/
def State.onFm (s : State) (pb : Nat) (f : Foreman → Foreman) : State := s.onBench pb (fun b => { b with fm := f b.fm })

/-- The rings that make MSG pending, lowest first (Table 7.3). -/
def State.msgRing (s : State) (pb : Nat) : Option Nat :=
  (List.range 16).find? (fun i => s.flag (Fld.BENCH_RING_CFG_EN pb i) && bit (s.bench pb).fm.msgen i && decide (1 ≤ s.ringOcc pb i))

/-- mip (Table 7.3). -/
def State.mip (s : State) (pb : Nat) : Nat :=
  let b := s.bench pb
  let tok := (List.range 32).any (fun t => bit b.fm.tokien t && decide (1 ≤ b.token (192 + t)))
  (if (s.msgRing pb).isSome then 2 ^ 16 else 0) + (if tok then 2 ^ 17 else 0) +
    (if b.fm.timecmp.toNat ≤ s.power.time then 2 ^ 7 else 0)

/-- What the Foreman's instructions see beside registers and memory. -/
def State.fmEnv (s : State) (pb : Nat) : FmEnv := ⟨(s.logicalOf pb).getD 0, s.power.time % 2 ^ 64, s.mip pb⟩

/-- The outcome of a fetch: an instruction word with its length, a trap, or an uncorrectable word at an address (R196). -/
inductive Fetched
  | instr (w len : Nat)
  | trap (cause : Nat) (tval : Option Nat)
  | bad (addr : Nat)

/-- Bytes of the instruction memory (R196). -/
def fmInstrBytes : Nat := 2 ^ 17

/-- The fetch at an address (R194, R196, Table 11.2). -/
def fetchAt (m : EMem) (pc : Nat) : Fetched :=
  if fmInstrBytes < pc + 2 then .trap 1 (some pc)
  else if m.bad.contains (pc / 32) then .bad pc
  else
    let h := m.mem.readLE pc 2
    if h % 4 ≠ 3 then
      match expandC h with
      | some w => .instr w 2
      | none => .trap 2 none
    else if fmInstrBytes < pc + 4 then .trap 1 (some (pc + 2))
    else if m.bad.contains ((pc + 2) / 32) then .bad (pc + 2)
    else .instr (m.mem.readLE pc 4) 4

/-- An exception of the Foreman: it enters at mtvec; mtval is free where the spec gives none (R194). The entry takes the time that
an interrupt's takes (log 31). -/
def State.fmTrap (s : State) (pb cause : Nat) (tval : Option Nat) : State :=
  let v := tval.getD (Config.freeWord s.fresh).toNat
  { s.onFm pb (fun f => ({ (f.pass 4) with fetched := f.fetched + 1 }).trap cause v f.mtvec.toNat) with
    fresh := s.fresh + b2n tval.isNone }

/-- An access that meets an uncorrectable word: logged, and an access fault with its address (Table 11.2). -/
def State.fmBad (s : State) (pb mem cause addr : Nat) : State :=
  (s.benchUncorrectable pb mem rdForeman (addr / 32 * 32) 0).fmTrap pb cause (some addr)

/-- The Xchotra instructions (Table 7.2). -/
inductive XcOp
  | push | pushm | tw | tr | tkpost | tkwait | tkpoll | wsig | wwait | warrive | wreset | wread | send | rfree
  deriving DecidableEq, Repr

/-- The Xchotra instruction that a word spells; none where Table 7.2 has none. -/
def xcOf (w : Nat) : Option XcOp :=
  let k := rvF3 w
  let g := rvF7 w
  if rvOp w ≠ 0x0B then none
  else if k = 0 then (if g / 8 = 0 then some .push else if g / 8 = 8 then some .pushm else none)
  else if k = 1 then (if g = 0 then some .tw else if g = 1 then some .tr else none)
  else if k = 2 then (if g = 0 then some .tkpost else if g = 1 then some .tkwait else if g = 2 then some .tkpoll else none)
  else if k = 3 then [XcOp.wsig, .wwait, .warrive, .wreset, .wread][g]?
  else if k = 4 then (if g = 0 then some .send else if g = 1 then some .rfree else none)
  else none

/-- Whether a Foreman may run an instruction: its bench is in FILL or WORK and is not being reset (R200). -/
def Bench.fmLive (b : Bench) : Bool := b.active && !b.abandoning

/-- The instruction at the Foreman's pc, where it runs. -/
def State.fmFetch (s : State) (pb : Nat) (st : FState) : Option Fetched :=
  let b := s.bench pb
  if b.fmLive && decide (b.fm.st = st) then some (fetchAt b.imem b.fm.pc) else none

/-- FOREMAN_INSTRUCTION: one instruction that is no Xchotra instruction (R195). -/
def State.fmInstr (s : State) (pb : Nat) : State :=
  let b := s.bench pb
  match s.fmFetch pb .running with
  | none => s
  | some (.trap c t) => s.fmTrap pb c t
  | some (.bad a) => s.fmBad pb memInstr 1 a
  | some (.instr w len) =>
    if len = 4 ∧ (xcOf w).isSome then s
    else
      let f := b.fm.await (fmSources w)
      match fmExec f b.dmem (s.fmEnv pb) w len with
      | .trap c t => s.fmTrap pb c t
      | .bad c a => s.fmBad pb memData c a
      | .wfi => s.onFm pb (fun _ => { f with st := .wfi })
      | .done f2 mem pc jumped =>
        let c := fmCost w jumped
        let wrote := decide (rvOp w = 0x73) && decide (rvF3 w ≠ 0) && decide (bits w 31 20 = 0xB02)
        s.setBench pb { b with dmem := mem, fm := f2.retire (rvRd w) c.1 c.2 pc jumped wrote }

/-- What an Xchotra instruction makes of the state: illegal, stalled, or retired with a result and its time. -/
inductive XcOut
  | illegal
  | stall (s : State)
  | fault (mem cause addr : Nat)
  | retire (s : State) (rd : Option Nat) (cost : Nat)

/-- The operands of an Xchotra instruction: the values of rs1 and rs2. -/
structure XcArgs where
  w : Nat
  a : Nat
  b : Nat

/-- Whether the fields that Table 7.2 does not name are zero: rd where the instruction gives no result, rs2 where it takes
none, the bits of rs1 beyond its fields. -/
def XcArgs.clean (x : XcArgs) (rd rs2 : Bool) (mask : Nat) : Bool :=
  (rd || decide (rvRd x.w = 0)) && (rs2 || decide (rvRs2 x.w = 0)) && decide (x.a &&& mask = x.a)

/-- A command put at the tail of a stream's queue, or, for RESUME, ahead of its head; a stream that has closed discards it
(R138, R204). -/
def Bench.enqueue (b : Bench) (st : Nat) (front : Bool) (q : QCmd) : Bench :=
  b.onStream st (fun x =>
    if x.closed || x.ended then x else { x with queue := if front then q :: x.queue else x.queue ++ [q] })

/-- xc.push and xc.pushm (R204). -/
def State.xcPush (s : State) (pb : Nat) (x : XcArgs) (mem : Bool) : XcOut :=
  let b := s.bench pb
  let st := bits x.w 27 25
  let word : CmdWord := if mem then BitVec.ofNat 128 (b.cmdMem.mem.readLE (16 * x.a) 16)
    else BitVec.ofNat 128 (x.a * 2 ^ 64 + x.b)
  let q : QCmd := ⟨word, 0x3FFF, false, mem && b.cmdMem.bad.contains (x.a / 2)⟩
  let resume := decide (opcodeOf word = 0xC3) && decide (st = 5)
  let dst := if resume then s.sluiceStream pb else st
  if !(if mem then x.clean false false 0x3FFF else x.clean false true (2 ^ 64 - 1)) then .illegal
  else if !resume && !(decide (st ≤ 5) && bit (s.rd (Fld.BENCH_CTL_STREAM_SRC pb)) st && (!s.lockstep pb || decide (st = 0))) then .illegal
  else if !resume && decide (512 ≤ (b.stream dst).queue.length) then .stall s
  else .retire (s.setBench pb (b.enqueue dst resume q)) none (if mem then 2 else 1)

/-- A doubleword of a table as it reads (R118, R119). -/
def Bench.tableRead (b : Bench) (t i : Nat) : Nat :=
  if t = 1 ∧ i < 8 then 0 else if t = 2 ∧ i < 8 then unitLoop.getD i 0 else ((b.table t).dword i).toNat

/-- xc.tw and xc.tr (R205). -/
def State.xcTable (s : State) (pb : Nat) (x : XcArgs) (write : Bool) : XcOut :=
  let b := s.bench pb
  let t := bits x.a 63 62
  let i := x.a % 2 ^ 15
  if !x.clean (!write) write (2 ^ 63 + 2 ^ 62 + 0x7FFF) || decide (tableSize t ≤ i) then .illegal
  else if write then .retire (s.setBench pb (b.tableWrite t i (BitVec.ofNat 64 x.b))) none 2
  else if (b.table t).bad.contains (i / 4) ∧ ¬ (1 ≤ t ∧ i < 8) then .fault memTable 5 (8 * i)
  else .retire s (some (b.tableRead t i)) 3

/-- xc.tkpost (R206). -/
def State.xcTkpost (s : State) (pb : Nat) (x : XcArgs) : XcOut :=
  if !x.clean false false 0xFF || decide (6 ≤ x.a / 32) then .illegal
  else .retire (s.postToken pb 0 0 0x3FFF x.a) none 1

/-- xc.tkwait and xc.tkpoll (R143, R206). -/
def State.xcTk (s : State) (pb : Nat) (x : XcArgs) (wait : Bool) : XcOut :=
  let b := s.bench pb
  let n := b.token (192 + x.a)
  if !x.clean true false 0x1F then .illegal
  else if !wait then .retire s (some n) 2
  else if n = 0 then .stall s
  else .retire (s.setBench pb (b.setToken (192 + x.a) (n - 1))) (some n) 2

/-- The Weir instructions (R207): the operation leaves for its unit, and the instruction retires with the reply. -/
def State.xcWeir (s : State) (pb : Nat) (x : XcArgs) (op : WeirOp) : XcOut :=
  let b := s.bench pb
  let target := bits x.a 21 16
  let named := decide (op = .signal) || decide (op = .wait) || decide (op = .arrive)
  if !x.clean (decide (op = .read)) true 0x3F07FF then .illegal
  else if !(if named then decide (x.b < 2 ^ 32) else decide (x.b = 0)) then .illegal
  else if !s.weirAllowed pb target || (decide (op = .arrive) && !(decide (1 ≤ x.b) && decide (x.b ≤ 65535))) then .illegal
  else if b.fm.st = .stalled then
    match b.fm.weirReply with
    | none => .stall s
    | some c => .retire (s.onFm pb (fun f => { f with weirReply := none })) (if op = .read then some c else none) 1
  else
    let s := s.onFm pb (fun f => { f with weirId := f.weirId + 1, weirReply := none })
    .stall (s.sendWeir target (x.a % 2048) op x.b ⟨pb, true, (s.bench pb).fm.weirId⟩)

/-- xc.send (R208). -/
def State.xcSend (s : State) (pb : Nat) (x : XcArgs) : XcOut :=
  let r := bits x.a 7 0
  let len := bits x.a 19 16
  let addr := bits x.a 49 32
  if !x.clean true true 0x0003FFFF000FFFFF || !s.routeOk pb r || !payloadOk addr len then .illegal
  else if s.rd (Fld.BENCH_ROUTE_STAT_AVAIL pb r) = 0 then .stall s
  else .retire (s.sendMessage pb r (bits x.a 15 8) len addr x.b) (some (s.rd (Fld.BENCH_ROUTE_STAT_SEQ pb r))) (1 + len)

/-- xc.rfree (R209). -/
def State.xcRfree (s : State) (pb : Nat) (x : XcArgs) : XcOut :=
  if !x.clean true true 0xF then .illegal
  else
    let n := min x.b (s.ringOcc pb x.a)
    let s := s.ringRelease pb x.a n
    .retire s (some (s.ringOcc pb x.a)) 2

/-- An Xchotra instruction. -/
def State.xcRun (s : State) (pb : Nat) (op : XcOp) (x : XcArgs) : XcOut :=
  match op with
  | .push => s.xcPush pb x false
  | .pushm => s.xcPush pb x true
  | .tw => s.xcTable pb x true
  | .tr => s.xcTable pb x false
  | .tkpost => s.xcTkpost pb x
  | .tkwait => s.xcTk pb x true
  | .tkpoll => s.xcTk pb x false
  | .wsig => s.xcWeir pb x .signal
  | .wwait => s.xcWeir pb x .wait
  | .warrive => s.xcWeir pb x .arrive
  | .wreset => s.xcWeir pb x .reset
  | .wread => s.xcWeir pb x .read
  | .send => s.xcSend pb x
  | .rfree => s.xcRfree pb x

/-- An Xchotra instruction at the pc carried as far as it goes; it retires, stalls without effect, or raises its exception (R203).
A post that halts the bench retires before the Foreman stops. -/
def State.xcStep (s : State) (pb : Nat) (op : XcOp) (w : Nat) : State :=
  let f0 := (s.bench pb).fm.await [rvRs1 w, rvRs2 w]
  match s.xcRun pb op ⟨w, f0.x (rvRs1 w), f0.x (rvRs2 w)⟩ with
  | .illegal => s.fmTrap pb 2 none
  | .fault mem cause addr => s.fmBad pb mem cause addr
  | .stall t => t.onFm pb (fun f => { f with st := .stalled })
  | .retire t rd cost =>
    t.onFm pb (fun f =>
      let f := f.await [rvRs1 w, rvRs2 w]
      let g := (match rd with
        | some v => f.setX (rvRd w) v
        | none => f).retire (rvRd w) cost cost (add64 f.pc 4) false false
      { g with st := if f.st = .stopped then .stopped else .running })

/-- The row of one Xchotra instruction: it acts where that instruction is the one at the pc of a running Foreman. -/
def State.xcRow (s : State) (pb : Nat) (op : XcOp) : State :=
  match s.fmFetch pb .running with
  | some (.instr w len) => if len = 4 ∧ xcOf w = some op then s.xcStep pb op w else s
  | _ => s

/-- STALLED_INSTRUCTION_RETIRE: a stalled instruction is tried again, and a WFI retires once an enabled interrupt is pending
(R203, Table 7.1). -/
def State.fmRetry (s : State) (pb : Nat) : State :=
  let b := s.bench pb
  match s.fmFetch pb .stalled with
  | some (.instr w _) =>
    match xcOf w with
    | some op => s.xcStep pb op w
    | none => s
  | some _ => s
  | none =>
    if b.fmLive && decide (b.fm.st = .wfi) && decide (s.mip pb &&& b.fm.mie.toNat ≠ 0) then
      s.onFm pb (fun f => { (f.retire 0 1 1 (add64 f.pc 4) false false) with st := .running })
    else s

/-- Whether the instruction at the pc can be left by an interrupt: none is stalled, or it is a WFI or one of R210's. -/
def State.fmLeaves (s : State) (pb : Nat) : Bool :=
  match s.fmFetch pb .stalled with
  | some (.instr w _) => [some XcOp.push, some .pushm, some .tkwait, some .wwait, some .send].contains (xcOf w)
  | some _ => true
  | none => true

/-- Entry into an interrupt: mtval reads zero, the reservation is broken, a stalled instruction is abandoned (R210, R212). -/
def State.fmEnter (s : State) (pb code target : Nat) : State :=
  s.onFm pb (fun f => ({ (f.pass 4) with weirReply := none, weirId := f.weirId + 1 }).trap (2 ^ 63 + code) 0 target)

/-- FOREMAN_INTERRUPT (R212): MSG, then TOK6, then MTIP. -/
def State.fmInterrupt (s : State) (pb : Nat) : State :=
  let b := s.bench pb
  let on := s.mip pb &&& b.fm.mie.toNat
  if !b.fmLive || decide (b.fm.st = .stopped) || !b.fm.mieBit || decide (on = 0) || !s.fmLeaves pb then s
  else if bit on 16 then
    match s.msgRing pb with
    | none => s
    | some i =>
      let rd := s.rd (Fld.BENCH_RING_PTR_RD_COUNT pb i)
      let h := getBits (s.ringHead pb i 0) 35 28
      let target := if s.flag (Fld.BENCH_HANDLER_VALID pb h) then s.rd (Fld.BENCH_HANDLER_ADDR pb h) else b.fm.mtvec.toNat
      (s.onFm pb (fun f => { f with xcmsg := BitVec.ofNat 64 (i * 2 ^ 60 + rd * 2 ^ 32 + s.ringEntry pb i rd) })).fmEnter pb 16 target
  else if bit on 17 then s.fmEnter pb 17 b.fm.mtvec.toNat
  else s.fmEnter pb 7 b.fm.mtvec.toNat

end Sys2Proof.Machine
end

