-- ==== Sys2Proof/Machine/Leases.lean ====
section
/-! DEFINITION. Leases and their sweeper, scrubbers (R288-R291, R294-R298 of spec/11_on_chip_memory.md). -/

namespace Sys2Proof.Machine

/-- The first lease of a command that fails a check. -/
def State.firstLease (s : State) (op : LeaseOp) (bad : Lease → Bool) : Option Nat :=
  ((List.range op.count).map (· + op.first)).find? (fun n => bad (s.lease op.ledge n))

/-- The checks of Table 11.3, check by check over all leases (R296): RESULT and FAIL_LEASE. -/
def State.leaseCheck (s : State) (op : LeaseOp) : Nat × Nat :=
  if op.count = 0 ∨ 4096 < op.first + op.count then (4, op.first)
  else if 16 < op.tenant then (5, op.first)
  else if op.verb = 0 then
    match s.firstLease op (fun x => decide (x.st ≠ .free)) with
    | some n => (1, n)
    | none => (0, 0)
  else if op.verb = 1 then
    match s.firstLease op (fun x => decide (x.st ≠ .taken)) with
    | some n => (2, n)
    | none =>
      match s.firstLease op (fun x => decide (x.owner ≠ op.tenant) && decide (op.tenant ≠ 0)) with
      | some n => (3, n)
      | none => (0, 0)
  else (0, 0)

/-- The entry that a failed FREE leaves in the log (Table 19.5). -/
def State.leaseLog (s : State) (op : LeaseOp) (r : Nat × Nat) : State :=
  let d0 := op.ledge * 2 ^ 56 + op.tenant % 32 * 2 ^ 48 + (s.lease op.ledge r.2).owner * 2 ^ 40 + r.2 * 2 ^ 16 + op.first
  if r.1 = 2 then s.log 0x07 2 op.ledge 0x3F op.tenant d0 op.count
  else if r.1 = 3 then s.log 0x08 2 op.ledge 0x3F op.tenant d0 op.count
  else s

/-- Leases sent to CLEARING: the sweeper will zero their granules (R297). -/
def State.clearLeases (s : State) (l : Nat) (ns : List Nat) : State :=
  let s := ns.foldl (fun s n => s.setLease l n { s.lease l n with st := .clearing }) s
  let q := Sparse.get (fun _ => []) s.ledges.sweep l
  { s with ledges := { s.ledges with sweep := Sparse.set (fun _ => []) s.ledges.sweep l (q ++ ns) } }

/-- The leases that a command names. -/
def LeaseOp.leases (op : LeaseOp) : List Nat := (List.range op.count).map (· + op.first)

/-- LEASE_CMD_COMPLETE: the checks, the effect, the status (R296, R297). -/
def State.leaseComplete (s : State) : State :=
  match s.ledges.leaseOp with
  | none => s
  | some op =>
    let r := s.leaseCheck op
    let s := (s.leaseLog op r).wrB Fld.DEVCTL_LEASE_STATUS_BUSY false
    let s := { s with ledges := { s.ledges with leaseOp := none } }
    let s := (((s.wrB Fld.DEVCTL_LEASE_STATUS_DONE true).wr Fld.DEVCTL_LEASE_STATUS_LEDGE op.ledge).wr
      Fld.DEVCTL_LEASE_STATUS_RESULT r.1).wr Fld.DEVCTL_LEASE_STATUS_FIRST op.first
    let s := s.wr Fld.DEVCTL_LEASE_STATUS_FAIL_LEASE (if r.1 = 0 then 0 else r.2)
    if r.1 ≠ 0 then s
    else if op.verb = 0 then
      op.leases.foldl (fun s n => s.setLease op.ledge n ⟨.taken, op.tenant⟩) s
    else if op.verb = 1 then s.clearLeases op.ledge op.leases
    else
      let x := s.lease op.ledge op.first
      (s.wr Fld.DEVCTL_LEASE_STATUS_STATE (match x.st with
        | .free => 0
        | .taken => 1
        | .clearing => 2)).wr Fld.DEVCTL_LEASE_STATUS_OWNER x.owner

/-- A write to DEVCTL_LEASE_CMD by a requester: started, or ignored with OVERRUN (R296, R297, DEVCTL_LEASE_CMD). -/
def State.leaseStart (s : State) (tenant : Nat) (data : Reg64) : State :=
  let verbs := [63, 62, 61].filter (fun i => data.getLsbD i)
  if verbs.isEmpty then s.soft Reg.DEVCTL_LEASE_CMD data
  else if verbs.length ≠ 1 ∨ s.ledges.leaseOp.isSome then s.wrB Fld.DEVCTL_LEASE_STATUS_OVERRUN true
  else
    let op : LeaseOp := ⟨63 - verbs.headD 63, tenant, getBits data 41 40, getBits data 28 16, getBits data 11 0⟩
    let s := s.soft Reg.DEVCTL_LEASE_CMD data
    { s with ledges := { s.ledges with leaseOp := some op } }.wrB Fld.DEVCTL_LEASE_STATUS_BUSY true

/-- LEASE_GRANULE_SWEPT: the sweeper of a ledge finishes its next granule (R297). -/
def State.granuleSwept (s : State) (l : Nat) : State :=
  match Sparse.get (fun _ => []) s.ledges.sweep l with
  | [] => s
  | n :: rest =>
    let m := s.basin l
    let w0 := n * 4096
    let m : EMem := ⟨m.mem.clearRange (n * 2 ^ 17) (2 ^ 17), m.bad.filter (fun w => decide (w < w0 ∨ w0 + 4096 ≤ w))⟩
    let s := (s.setBasin l m).setLease l n Lease.reset
    { s with ledges := { s.ledges with sweep := Sparse.set (fun _ => []) s.ledges.sweep l rest } }

/-- Every lease of a tenant in a Basin. -/
def State.leasesOf (s : State) (l t : Nat) : List Nat :=
  (s.ledges.leases.filter (fun x => decide (x.1 / 4096 = l) && decide (x.2.st = .taken) && decide (x.2.owner = t))).map (fun x => x.1 % 4096)

/-- The leases of a tenant freed in all Basins as if by tenant 0 (R298). -/
def State.freeTenantLeases (s : State) (t : Nat) : State :=
  [0, 1, 2, 3].foldl (fun s l => s.clearLeases l (s.leasesOf l t)) s

/-- The number of leases of a Basin in a state (DEVCTL_LEASE_COUNT). -/
def State.leaseNum (s : State) (l : Nat) (st : LeaseSt) : Nat :=
  if st = .free then 4096 - (s.ledges.leases.filter (fun x => decide (x.1 / 4096 = l) && decide (x.2.st ≠ .free))).length
  else (s.ledges.leases.filter (fun x => decide (x.1 / 4096 = l) && decide (x.2.st = st))).length

/-- A scrub step falls due: whether it counts LAG, whether it completes before the next one, and the pointer after it (R288,
R290). -/
def ScrubPtr.due (p : ScrubPtr) (rows : Nat) (completes : Bool) : Bool × ScrubPtr :=
  (p.busy, if completes then ⟨(p.row + 1) % rows, false⟩ else ⟨p.row, true⟩)

/-- The words of a memory that decode as uncorrectable in a range, and the first word of the range where this step meets a new
uncorrectable error. -/
def scrubBad (bad : List Nat) (first count : Nat) (ecc : Ecc) : List Nat :=
  let old := bad.filter (fun w => decide (first ≤ w) && decide (w < first + count))
  if ecc = .uncorrectable ∧ ¬ old.contains first then first :: old else old

/-- A scrubber of a bench memory. -/
def Bench.scrub (b : Bench) (k : Nat) : ScrubPtr := Sparse.get (fun _ => ScrubPtr.reset) b.scrubs k

/-- A scrubber of a bench memory stored. -/
def Bench.setScrub (b : Bench) (k : Nat) (p : ScrubPtr) : Bench :=
  { b with scrubs := Sparse.set (fun _ => ScrubPtr.reset) b.scrubs k p }

/-- A scrub step of a bench memory (code as in Table 19.5): words of the row checked if the step completes. The outcome
given is that of the row's first word. -/
def State.benchScrub (s : State) (pb mem rows rowWords : Nat) (completes : Bool) (ecc : Ecc) : State :=
  let b := s.bench pb
  let p := b.scrub mem
  let r := p.due rows completes
  let s := s.setBench pb (b.setScrub mem r.2)
  let s := if r.1 then s.bump (Fld.BENCH_SCRUB_STATUS_LAG pb) 1 else s
  if !completes then s
  else
    let m := if mem = memPool then b.pool else if mem = memData then b.dmem else b.imem
    let first := p.row * rowWords
    let s := if ecc = .corrected then s.benchCorrected pb mem rdScrub (32 * first) else s
    let found := scrubBad m.bad first rowWords ecc
    let s := s.onBench pb (fun b =>
      let fix := fun (m : EMem) => { m with bad := m.bad ++ found.filter (fun w => !m.bad.contains w) }
      if mem = memPool then { b with pool := fix b.pool } else if mem = memData then { b with dmem := fix b.dmem }
      else { b with imem := fix b.imem })
    found.foldl (fun s w => s.benchUncorrectable pb mem rdScrub (32 * w) 0) s

/-- Whether a step that competes with other traffic completes before the next one: at once where nothing else uses the
memory, not at all in RINSING, as the free slots allow otherwise (R288, R290; the choice is free). -/
def State.scrubTime (s : State) (idle never : Bool) : Bool × State :=
  if idle then (true, s) else if never then (false, s) else (Config.freeBool s.fresh, s.skip)

/-- POOL_SCRUB_STEP (R288): a completed step advances ROW, a completed pass PASSES. -/
def State.poolScrub (s : State) (pb : Nat) (ecc : Ecc) : State :=
  let b := s.bench pb
  let t := s.scrubTime (decide (b.mode = .idle) || decide (b.mode = .halted)) (decide (b.mode = .rinsing))
  let s := t.2.benchScrub pb memPool 4096 512 t.1 ecc
  let row := ((s.bench pb).scrub memPool).row
  let s := s.wr (Fld.BENCH_SCRUB_STATUS_ROW pb) row
  if t.1 ∧ row = 0 then s.wrapInc (Fld.BENCH_SCRUB_STATUS_PASSES pb) else s

/-- FOREMAN_SCRUB_STEP (R290): a step covers one word of each of the eight banks. -/
def State.fmScrub (s : State) (pb : Nat) (instr : Bool) (ecc : Ecc) : State :=
  let b := s.bench pb
  let t := s.scrubTime (decide (b.fm.st = .stopped) && decide (b.mode ≠ .rinsing)) (decide (b.mode = .rinsing))
  if instr then t.2.benchScrub pb memInstr 512 8 t.1 ecc else t.2.benchScrub pb memData 1024 8 t.1 ecc

/-- BASIN_SCRUB_STEP (R290): a step covers one row of all 256 banks. -/
def State.basinScrub (s : State) (l : Nat) (ecc : Ecc) : State :=
  let p := Sparse.get (fun _ => ScrubPtr.reset) s.ledges.scrub l
  let t := s.scrubTime false false
  let r := p.due 65536 t.1
  let s := t.2
  let s := { s with ledges := { s.ledges with scrub := Sparse.set (fun _ => ScrubPtr.reset) s.ledges.scrub l r.2 } }
  let s := if r.1 then s.bump (Fld.DEVCTL_BASIN_ECC_LAG l) 1 else s
  if !t.1 then s
  else
    let first := p.row * 256
    let s := if ecc = .corrected then s.basinCorrected l rdScrub (32 * first) else s
    let found := scrubBad (s.basin l).bad first 256 ecc
    let m := s.basin l
    let s := s.setBasin l { m with bad := m.bad ++ found.filter (fun w => !m.bad.contains w) }
    let s := found.foldl (fun s w => s.basinUncorrectable l rdScrub (32 * w) 0 0) s
    if r.2.row = 0 then s.wrapInc (Fld.DEVCTL_BASIN_ECC_PASSES l) else s

end Sys2Proof.Machine
end

