-- ==== Sys2Proof/Machine/Tables.lean ====
section
/-! DEFINITION. The operations on the prime table, the chains and the key table (R29-R36 of spec/02_residues.md, R222 and R223 of
spec/08_key_switching.md). -/

namespace Sys2Proof.Machine

/-- The entry that the latched stage registers spell (DEVCTL_PRIME_STAGE, DEVCTL_PRIME_ROOT_STAGE). -/
def stagedPrime (stage root : Reg64) : PrimeEnt :=
  ⟨getBits stage 63 32, getBits stage 28 24, getBits stage 20 16, getBits stage 12 8, getBits stage 5 4, getBits stage 3 2,
    getBits stage 1 0, getBits root 31 0, true⟩

/-- A prime slot stored. -/
def State.setPrime (s : State) (slot : Nat) (e : PrimeEnt) : State :=
  { s with primes := { s.primes with prime := Sparse.set (fun _ => PrimeEnt.empty) s.primes.prime slot e } }

/-- A chain stored. -/
def State.setChain (s : State) (c : Nat) (e : ChainEnt) : State :=
  { s with primes := { s.primes with chain := Sparse.set (fun _ => ChainEnt.empty) s.primes.chain c e } }

/-- The checker's operation set or ended; BUSY shows it. -/
def State.setChecker (s : State) (op : Option CheckerOp) : State := { s with primes := { s.primes with op := op } }

/-- A write of DEVCTL_PRIME_CMD (R30-R32). -/
def State.primeCmd (s : State) (data : Reg64) : State :=
  let load := data.getLsbD 63
  let del := data.getLsbD 62
  let slot := getBits data 6 0
  if !load && !del then s.soft Reg.DEVCTL_PRIME_CMD data
  else if (load && del) || s.primes.op.isSome then s.wrB Fld.DEVCTL_PRIME_STATUS_OVERRUN true
  else
    let op : CheckerOp := if load then
        .primeLoad slot (s.primeInUse slot) (s.reg Reg.DEVCTL_PRIME_STAGE) (s.reg Reg.DEVCTL_PRIME_ROOT_STAGE)
      else .primeDelete slot (s.primeInUse slot)
    (s.soft Reg.DEVCTL_PRIME_CMD data).setChecker (some op)

/-- The slots that the latched chain stage registers name. -/
def State.chainStage (s : State) : List Nat :=
  (List.range 80).map (fun i => getBits (s.reg (Reg.DEVCTL_CHAIN_STAGE (i / 8))) (8 * (i % 8) + 6) (8 * (i % 8)))

/-- A write of DEVCTL_CHAIN_CMD (R31, R32, R35, R36). -/
def State.chainCmd (s : State) (data : Reg64) : State :=
  let load := data.getLsbD 63
  let del := data.getLsbD 62
  let c := getBits data 4 0
  if !load && !del then s.soft Reg.DEVCTL_CHAIN_CMD data
  else if (load && del) || s.primes.op.isSome then s.wrB Fld.DEVCTL_CHAIN_STATUS_OVERRUN true
  else
    let op : CheckerOp := if load then .chainLoad c (s.chainInUse c) (getBits data 22 16) (getBits data 12 8) s.chainStage
      else .chainDelete c (s.chainInUse c)
    (s.soft Reg.DEVCTL_CHAIN_CMD data).setChecker (some op)

/-- The RESULT of a chain LOAD (R35). -/
def State.chainVerdict (s : State) (inUse : Bool) (ord spc : Nat) (idx : List Nat) : Nat :=
  let used := idx.take ord ++ (idx.drop 64).take spc
  let ps := used.map (fun i => (s.primeEnt i).p)
  if inUse then 1
  else if ¬ (1 ≤ ord ∧ ord ≤ 64 ∧ spc ≤ 16) then 8
  else if ¬ used.all (fun i => (s.primeEnt i).valid) then 9
  else if ps.eraseDups.length ≠ ps.length then 0xA
  else 0

/-- The status of a completed prime operation. -/
def State.primeDone (s : State) (slot r : Nat) : State :=
  ((s.wrB Fld.DEVCTL_PRIME_STATUS_DONE true).wr Fld.DEVCTL_PRIME_STATUS_INDEX slot).wr Fld.DEVCTL_PRIME_STATUS_RESULT r

/-- The status of a completed chain operation. -/
def State.chainDone (s : State) (c r : Nat) : State :=
  ((s.wrB Fld.DEVCTL_CHAIN_STATUS_DONE true).wr Fld.DEVCTL_CHAIN_STATUS_CHAIN c).wr Fld.DEVCTL_CHAIN_STATUS_RESULT r

/-- PRIME_OP_COMPLETE (R30, R31, R33). -/
def State.primeComplete (s : State) : State :=
  match s.primes.op with
  | some (.primeLoad slot inUse stage root) =>
    let e := stagedPrime stage root
    let r := primeVerdict inUse e
    let s := s.setChecker none
    (if r = 0 then s.setPrime slot e else s).primeDone slot r
  | some (.primeDelete slot inUse) =>
    let s := s.setChecker none
    (if inUse then s else s.setPrime slot { s.primeEnt slot with valid := false }).primeDone slot (if inUse then 1 else 0)
  | _ => s

/-- CHAIN_OP_COMPLETE (R31, R35, R36). -/
def State.chainComplete (s : State) : State :=
  match s.primes.op with
  | some (.chainLoad c inUse ord spc idx) =>
    let r := s.chainVerdict inUse ord spc idx
    let s := s.setChecker none
    (if r = 0 then s.setChain c ⟨true, ord, spc, idx⟩ else s).chainDone c r
  | some (.chainDelete c inUse) =>
    let s := s.setChecker none
    (if inUse then s else s.setChain c { s.chainEnt c with valid := false }).chainDone c (if inUse then 1 else 0)
  | _ => s

/-- A key entry stored, in all four tables at once (R222). -/
def State.setKey (s : State) (k : Nat) (e : List Reg64) : State :=
  { s with ledges := { s.ledges with keys := Sparse.set (fun _ => []) s.ledges.keys k e } }

/-- The staged key entry. -/
def State.keyStage (s : State) : List Reg64 := (List.range 8).map (fun k => s.reg (Reg.DEVCTL_KEY_STAGE k))

/-- A write of DEVCTL_KEY_CMD (R222). -/
def State.keyCmd (s : State) (data : Reg64) : State :=
  let verbs := [63, 62, 61].filter (fun i => data.getLsbD i)
  if verbs.isEmpty then s.soft Reg.DEVCTL_KEY_CMD data
  else if verbs.length ≠ 1 ∨ s.ledges.keyOp.isSome then s.wrB Fld.DEVCTL_KEY_STATUS_OVERRUN true
  else
    let op : KeyOp := ⟨63 - verbs.headD 63, getBits data 11 0, s.keyStage⟩
    let s := s.soft Reg.DEVCTL_KEY_CMD data
    { s with ledges := { s.ledges with keyOp := some op } }.wrB Fld.DEVCTL_KEY_STATUS_BUSY true

/-- KEY_OP_COMPLETE: INSTALL, REMOVE or READ (R222, R223, Table 8.3). -/
def State.keyComplete (s : State) : State :=
  match s.ledges.keyOp with
  | none => s
  | some op =>
    let s := { s with ledges := { s.ledges with keyOp := none } }.wrB Fld.DEVCTL_KEY_STATUS_BUSY false
    let used := s.keyInUse op.index
    let r := if op.verb = 0 then s.keyVerdict op.index used op.stage else if op.verb = 1 ∧ used then 1 else 0
    let s := if r ≠ 0 then s
      else if op.verb = 0 then s.setKey op.index op.stage
      else if op.verb = 1 then s.setKey op.index []
      else
        let e := s.keyEnt op.index
        (List.range 8).foldl (fun s k => s.setReg (Reg.DEVCTL_KEY_STAGE k) (e.getD k 0)) s
    ((s.wrB Fld.DEVCTL_KEY_STATUS_DONE true).wr Fld.DEVCTL_KEY_STATUS_INDEX op.index).wr Fld.DEVCTL_KEY_STATUS_RESULT r

end Sys2Proof.Machine
end

