-- ==== Sys2Proof/Machine/BenchRegs.lean ====
section
/-! DEFINITION. The writes of a bench's registers, with the conditions that each one states (R115, R119, R136, R137, R157 of
spec/05_command_model.md, R197, R213, R216 of spec/07_foreman.md, R288 and R300 of spec/11_on_chip_memory.md, R332 of
spec/12_hbm_and_sluice.md). The writer is the physical function or Matumon. -/

namespace Sys2Proof.Machine

/-- A bench in IDLE that no reset is clearing. -/
def State.benchIdle (s : State) (pb : Nat) : Bool := decide ((s.bench pb).mode = .idle) && !(s.bench pb).abandoning

/-- A write of BENCH_CTL; none where it is refused (R115, R136, R137). -/
def State.ctlWrite (s : State) (pb : Nat) (data : Reg64) : Option State :=
  let idle := s.benchIdle pb
  let start := data.getLsbD 63
  let stop := data.getLsbD 62
  let new := accWrite (regFields (Reg.BENCH_CTL pb)) (s.reg (Reg.BENCH_CTL pb)) data
  if start && stop then none
  else if !idle && (start || decide (new ≠ s.reg (Reg.BENCH_CTL pb))) then none
  else
    let s := s.setReg (Reg.BENCH_CTL pb) new
    some (if start then s.startBench pb else if stop then s.stopBench pb else s)

/-- A write of BENCH_STREAM_PC (R136). -/
def State.streamPcWrite (s : State) (pb i : Nat) (data : Reg64) : Option State :=
  let s' := s.soft (Reg.BENCH_STREAM_PC pb i) data
  if s.benchIdle pb || decide (s'.reg (Reg.BENCH_STREAM_PC pb i) = s.reg (Reg.BENCH_STREAM_PC pb i)) then some s' else none

/-- A write of BENCH_STALL_LIMIT (R157). -/
def State.stallLimitWrite (s : State) (pb : Nat) (data : Reg64) : Option State :=
  let v := getBits data 31 0
  some (s.wr (Fld.BENCH_STALL_LIMIT_LIMIT pb) (if v = 0 then 0 else max 4096 v))

/-- A write of BENCH_FM_CTL. -/
def State.fmCtlWrite (s : State) (pb : Nat) (data : Reg64) : Option State :=
  if s.benchIdle pb && !data.getLsbD 0 then some (s.soft (Reg.BENCH_FM_CTL pb) data) else none

/-- A write of BENCH_RING_CFG (R216). -/
def State.ringWrite (s : State) (pb i : Nat) (data : Reg64) : Option State :=
  let log := getBits data 51 48
  let base := getBits data 17 0
  if s.benchIdle pb ∧ log ≤ 8 ∧ base % 32 = 0 ∧ base + 288 * 2 ^ log ≤ dataBytes then
    some (s.soft (Reg.BENCH_RING_CFG pb i) data)
  else none

/-- A write of BENCH_ROUTE: AVAIL takes the value of CREDITS (R213). -/
def State.routeWrite (s : State) (pb r : Nat) (data : Reg64) : Option State :=
  if s.benchIdle pb then
    some ((s.soft (Reg.BENCH_ROUTE pb r) data).wr (Fld.BENCH_ROUTE_STAT_AVAIL pb r) (getBits data 31 24))
  else none

/-- A write of BENCH_HANDLER. -/
def State.handlerWrite (s : State) (pb h : Nat) (data : Reg64) : Option State :=
  if s.benchIdle pb && !data.getLsbD 0 then some (s.soft (Reg.BENCH_HANDLER pb h) data) else none

/-- A write of BENCH_SCRUB_CFG. -/
def State.scrubCfgWrite (s : State) (pb : Nat) (data : Reg64) : Option State :=
  some (s.wr (Fld.BENCH_SCRUB_CFG_PERIOD pb) (min 48828 (max 4096 (getBits data 15 0))))

/-- A write of BENCH_SLUICE_CFG. -/
def State.sluiceCfgWrite (s : State) (pb : Nat) (data : Reg64) : Option State :=
  if s.benchIdle pb then some (s.soft (Reg.BENCH_SLUICE_CFG pb) data) else none

/-- The doubleword index that a table address names, and the one after it (BENCH_TBL_ADDR). -/
def State.tblIndex (s : State) (pb : Nat) : Nat :=
  s.rd (Fld.BENCH_TBL_ADDR_INDEX pb) % max 1 (tableSize (s.rd (Fld.BENCH_TBL_ADDR_TABLE pb)))

/-- BENCH_TBL_ADDR.INDEX advanced; it wraps within the table. -/
def State.tblNext (s : State) (pb : Nat) : State :=
  s.wr (Fld.BENCH_TBL_ADDR_INDEX pb) ((s.tblIndex pb + 1) % max 1 (tableSize (s.rd (Fld.BENCH_TBL_ADDR_TABLE pb))))

/-- Whether the debug rule lets a HALTED bench's tables and memories be read: its gang is KEPT (R416). -/
def State.debugReads (s : State) (pb : Nat) : Bool :=
  match s.gangOf pb with
  | some g => decide ((s.bench pb).mode = .halted) && decide (s.rd (Fld.MGMT_GANG_STATE g) = gangKept)
  | none => false

/-- A write of BENCH_TBL_DATA (R119). -/
def State.tblWrite (s : State) (pb : Nat) (data : Reg64) : Option State :=
  let t := s.rd (Fld.BENCH_TBL_ADDR_TABLE pb)
  if s.benchIdle pb ∧ t ≠ 3 then
    some ((s.onBench pb (fun b => b.tableWrite t (s.tblIndex pb) data)).tblNext pb)
  else none

/-- A read of BENCH_TBL_DATA (R119, R416): the doubleword and the state after it. -/
def State.tblRead (s : State) (pb : Nat) : Option (Reg64 × State) :=
  let t := s.rd (Fld.BENCH_TBL_ADDR_TABLE pb)
  if (s.benchIdle pb || s.debugReads pb) ∧ t ≠ 3 then
    some (BitVec.ofNat 64 ((s.bench pb).tableRead t (s.tblIndex pb)), s.tblNext pb)
  else none

/-- Doublewords of the space that BENCH_FM_MEM_ADDR selects, and the index in it. -/
def State.fmMemSize (s : State) (pb : Nat) : Nat := if s.flag (Fld.BENCH_FM_MEM_ADDR_SPACE pb) then 16384 else 32768
def State.fmMemIndex (s : State) (pb : Nat) : Nat := s.rd (Fld.BENCH_FM_MEM_ADDR_INDEX pb) % s.fmMemSize pb

/-- BENCH_FM_MEM_ADDR.INDEX advanced; it wraps within the space. -/
def State.fmMemNext (s : State) (pb : Nat) : State :=
  s.wr (Fld.BENCH_FM_MEM_ADDR_INDEX pb) ((s.fmMemIndex pb + 1) % s.fmMemSize pb)

/-- A write of BENCH_FM_MEM_DATA (R197). -/
def State.fmMemWrite (s : State) (pb : Nat) (data : Reg64) : Option State :=
  if s.benchIdle pb then
    let i := s.fmMemIndex pb
    let instr := s.flag (Fld.BENCH_FM_MEM_ADDR_SPACE pb)
    some ((s.onBench pb (fun b =>
      if instr then { b with imem := b.imem.setDword i data } else { b with dmem := b.dmem.setDword i data })).fmMemNext pb)
  else none

/-- A read of BENCH_FM_MEM_DATA (R197, R416); a word that decodes as uncorrectable is logged (R291). -/
def State.fmMemRead (s : State) (pb : Nat) : Option (Reg64 × State) :=
  if s.benchIdle pb || s.debugReads pb then
    let i := s.fmMemIndex pb
    let instr := s.flag (Fld.BENCH_FM_MEM_ADDR_SPACE pb)
    let m := if instr then (s.bench pb).imem else (s.bench pb).dmem
    let s := if m.bad.contains (i / 4) then
        s.benchUncorrectable pb (if instr then memInstr else memData) rdWindow (i / 4 * 32) 0
      else s
    some (m.dword i, s.fmMemNext pb)
  else none

/-- BENCH_WEIR_SEL advanced after an access. -/
def State.weirNext (s : State) (pb : Nat) : State := s.wr (Fld.BENCH_WEIR_SEL_WEIR pb) (s.rd (Fld.BENCH_WEIR_SEL_WEIR pb) + 1)

/-- A write of BENCH_WEIR_DATA: the count is set and the held waits that it meets are released (R300). -/
def State.weirDataWrite (s : State) (pb : Nat) (data : Reg64) : Option State :=
  if s.benchIdle pb then some ((s.setWeir pb (s.rd (Fld.BENCH_WEIR_SEL_WEIR pb)) (getBits data 31 0)).weirNext pb) else none

/-- The index of an offset in an array of registers. -/
def inArray (o base stride count : Nat) : Option Nat :=
  if base ≤ o ∧ (o - base) % stride = 0 ∧ (o - base) / stride < count then some ((o - base) / stride) else none

/-- A write at an offset of a bench block by the physical function or Matumon; none where the register refuses it. -/
def State.benchWrite (s : State) (pb o : Nat) (data : Reg64) : Option State :=
  if o = 0 then s.ctlWrite pb data
  else if o = 0x88 then s.tblWrite pb data
  else if o = 0x300 then s.stallLimitWrite pb data
  else if o = 0x400 then s.fmCtlWrite pb data
  else if o = 0x420 then s.fmMemWrite pb data
  else if o = 0xA10 then s.scrubCfgWrite pb data
  else if o = 0xA48 then s.weirDataWrite pb data
  else if o = 0xC10 then
    let s := s.soft (Reg.BENCH_SLUICE_FAULT pb) data
    some (if data.getLsbD 0 then s.sluiceReadyNow pb else s)
  else if o = 0xC18 then s.sluiceCfgWrite pb data
  else
    match inArray o 0x10 8 6, inArray o 0x800 0x20 16, inArray o 0x1000 8 256, inArray o 0x2000 8 256 with
    | some i, _, _, _ => s.streamPcWrite pb i data
    | _, some i, _, _ => s.ringWrite pb i data
    | _, _, some r, _ => s.routeWrite pb r data
    | _, _, _, some h => s.handlerWrite pb h data
    | _, _, _, _ => some (s.soft (0x100000 + 0x10000 * pb + o) data)

end Sys2Proof.Machine
end

