-- ==== Sys2Proof/Machine/HbmOps.lean ====
section
/-! DEFINITION. Local HBM as a unit: fills, map-out, temperatures, patrol, traffic generators (R314, R319-R325 of
spec/12_hbm_and_sluice.md). -/

namespace Sys2Proof.Machine

/-- The fills in progress stored; BUSY shows whether one runs. -/
def State.setFills (s : State) (l : List FillJob) : State :=
  { s with hbm := { s.hbm with fills := l } }.wrB Fld.DEVCTL_HBM_FILL_BUSY (!l.isEmpty)

/-- A fill queued; fills run in the order in which they were asked for. -/
def State.addFill (s : State) (pages : List Nat) (f : FillFor) : State := s.setFills (s.hbm.fills ++ [⟨pages, f⟩])

/-- A write of DEVCTL_HBM_FILL (R324): with GO a fill starts, or OVERRUN is set while one runs or beyond the last page. -/
def State.fillStart (s : State) (data : Reg64) : State :=
  let s := s.soft Reg.DEVCTL_HBM_FILL data
  if !data.getLsbD 63 then s
  else
    let first := getBits data 17 0
    let count := getBits data 49 32 + 1
    if s.hbm.fills ≠ [] ∨ s.hbmPages < first + count then s.wrB Fld.DEVCTL_HBM_FILL_OVERRUN true
    else s.addFill ((List.range count).map (· + first)) .register

/-- Bytes counted as written to or read from a channel (MEMC_CH_BYTES). -/
def State.hbmMoved (s : State) (c n : Nat) (write : Bool) : State :=
  s.bump (if write then Fld.MEMC_CH_BYTES_WR c else Fld.MEMC_CH_BYTES_RD c) n

/-- Pages zeroed and counted; a fill of every page zeroes whole channels. -/
def State.fillPages (s : State) (pages : List Nat) : State :=
  if s.hbmPages ≤ pages.length then (s.actList 0 256).foldl (fun s c => s.hbmMoved c (2 ^ 31) true) s.zeroHbm
  else
    let locs := pages.flatMap (fun p => (List.range 4096).filterMap (fun i => s.hbmLoc (p * 2 ^ 21 + 512 * i)))
    locs.foldl (fun s l => s.hbmMoved l.ch 512 true) (s.zeroPages pages)

/-- The fill at the head completes: its pages are zero and DONE is set (R324). -/
def State.fillHead (s : State) : State :=
  match s.hbm.fills with
  | [] => s
  | j :: rest => ((s.fillPages j.pages).setFills rest).wrB Fld.DEVCTL_HBM_FILL_DONE true

/-- Whether no Sluice, Millrace, host-window or Confluence access to local HBM is in flight (R314). -/
def State.hbmQuiet (s : State) : Bool :=
  s.benches.all (fun b => b.2.sluice.isEmpty && b.2.kActive.isNone && b.2.kPending.isNone && b.2.kWait.isEmpty) &&
  s.host.views.all (fun v => v.2.doorbell.isNone) && s.hall.cfl.all (fun e => e.2.run.isNone) && s.hbm.fills.isEmpty

/-- Whether a gang is ASSIGNED. -/
def State.anyAssigned (s : State) : Bool := (List.range 16).any (fun g => decide (s.rd (Fld.MGMT_GANG_STATE g) = gangAssigned))

/-- Why a channel was marked for map-out (Table 19.5): stack absent, UNCORR limit, checker. -/
def State.mapOutCause (s : State) (c : Nat) : Nat :=
  if ¬ s.flag (Fld.DEVCTL_HBM_STACK_PRESENT (c / 32)) then 1
  else if 16 ≤ Sparse.get (fun _ => 0) s.hbm.uncorr c then 2 else 0

/-- The active list and the split set, with the counts and states that follow (R312, R325). -/
def State.setActive (s : State) (active split : Nat) : State :=
  let n0 := popcount active 128
  let n1 := popcount (active / 2 ^ 128) 128
  let s := [0, 1, 2, 3].foldl (fun s k => s.wr (Fld.DEVCTL_HBM_ACT_ACT k) (active / 2 ^ (64 * k) % 2 ^ 64)) s
  let s := (((s.wr Fld.DEVCTL_HBM_CFG_ACTIVE (n0 + n1)).wr Fld.DEVCTL_HBM_CFG_ACTIVE0 n0).wr
    Fld.DEVCTL_HBM_CFG_ACTIVE1 n1).wr Fld.DEVCTL_HBM_CFG_SPLIT split
  (List.range 256).foldl (fun s c =>
    if bit active c then
      if s.rd (Fld.MEMC_CH_STATUS_STATE c) = 2 then s.wr (Fld.MEMC_CH_STATUS_STATE c) 0 else s
    else if s.rd (Fld.MEMC_CH_STATUS_STATE c) = 2 then s
    else (s.wr (Fld.MEMC_CH_STATUS_STATE c) 2).logAt 0x17 5 c
      (s.mapOutCause c * 2 ^ 60 + 2 ^ 59 + Sparse.get (fun _ => 0) s.hbm.uncorr c % 65536) 0) s

/-- Every word of local HBM unpredictable (R314). -/
def State.freeHbm (s : State) : State :=
  { s.skip with hbm := { s.hbm with mem := ⟨Mem.free s.fresh, []⟩ } }

/-- HBM_REMAP (R314): where the device is not quiet Matumon makes no change; else the new list and split are in force, the
contents are unpredictable, and a fill of all of local HBM starts. -/
def State.hbmRemap (s : State) (active split : Nat) : State :=
  if s.anyAssigned ∨ ¬ s.hbmQuiet ∨ 64 < split then s
  else
    let s := (s.setActive active split).freeHbm
    let s := { s with power := { s.power with ledger := { s.power.ledger with split := split } } }
    s.addFill (List.range s.hbmPages) .register

/-- Time records per threshold: since when a quantity has been low, none if it is not (stored plus one). -/
def coolMark (l : List (Nat × Nat)) (k : Nat) (low : Bool) (now : Nat) : List (Nat × Nat) :=
  if ¬ low then Sparse.set (fun _ => 0) l k 0
  else if Sparse.get (fun _ => 0) l k = 0 then Sparse.set (fun _ => 0) l k (now + 1) else l

/-- Whether a quantity has been low for a time. -/
def coolFor (l : List (Nat × Nat)) (k now ns : Nat) : Bool :=
  let t := Sparse.get (fun _ => 0) l k
  decide (t ≠ 0) && decide (t - 1 + ns ≤ now)

/-- The request that follows from a temperature, the one in force and the cooling records: the deepest step whose threshold is
reached, or that is in force and not yet released (R320, R471). -/
def thermRequest (cool : List (Nat × Nat)) (base now hot cur : Nat) (th : List Nat) : Nat :=
  [1, 2, 3].foldl (fun r j =>
    if th.getD (j - 1) 0 ≤ hot ∨ (j ≤ cur ∧ ¬ coolFor cool (base + j) now 1000000) then j else r) 0

/-- The largest of a list with its position. -/
def hottest (l : List Nat) : Nat × Nat := l.zipIdx.foldl (fun m x => if m.1 < x.1 then x else m) (0, 0)

/-- TARGET is the deepest posted request (R472). -/
def State.settleTarget (s : State) : State :=
  let l := [s.rd Fld.CLKPWR_THROTTLE_HOST, s.rd Fld.CLKPWR_THROTTLE_HW, s.rd Fld.DEVCTL_HBM_THERM_REQUEST,
    s.rd Fld.CLKPWR_THROTTLE_RCH0, s.rd Fld.CLKPWR_THROTTLE_RCH1, s.rd Fld.CLKPWR_THROTTLE_RCH2, s.rd Fld.CLKPWR_THROTTLE_RCH3]
  let t := l.foldl max 0
  if t = s.rd Fld.CLKPWR_THROTTLE_TARGET then s
  else { s.wr Fld.CLKPWR_THROTTLE_TARGET t with power := { s.power with requestTime := s.power.time } }

/-- The temperature of one stack taken in (R319). -/
def State.stackTemp (s : State) (x t : Nat) : State :=
  let s := (s.wr (Fld.DEVCTL_HBM_STACK_TEMP x) t).extreme (Fld.DEVCTL_HBM_STACK_MAX_TEMP x) (fun a b => decide (b < a)) t
  let hot := decide (85 ≤ t) || (s.flag (Fld.DEVCTL_HBM_STACK_HOT x) && decide (82 ≤ t))
  s.wrB (Fld.DEVCTL_HBM_STACK_HOT x) hot

/-- HBM_TEMP_SAMPLE: temperatures, HOT, and the throttle request of the hottest stack (R319, R320). -/
def State.hbmTempSample (s : State) (temps : List Nat) : State :=
  let here := fun x => s.flag (Fld.DEVCTL_HBM_STACK_PRESENT x)
  let ts := (List.range 8).map (fun x => if here x then temps.getD x 0 else 0)
  let s := (List.range 8).foldl (fun s x => if s.flag (Fld.DEVCTL_HBM_STACK_PRESENT x) then s.stackTemp x (ts.getD x 0) else s) s
  let hot := hottest ts
  let th := [s.rd Fld.DEVCTL_HBM_THERM_T5, s.rd Fld.DEVCTL_HBM_THERM_T6, s.rd Fld.DEVCTL_HBM_THERM_T8]
  let cool := [1, 2, 3].foldl (fun l j => coolMark l j (decide (hot.1 + 3 ≤ th.getD (j - 1) 0)) s.power.time) s.hbm.coolSince
  let cur := s.rd Fld.DEVCTL_HBM_THERM_REQUEST
  let r := thermRequest cool 0 s.power.time hot.1 cur th
  let s := { s with hbm := { s.hbm with coolSince := cool } }.wr Fld.DEVCTL_HBM_THERM_REQUEST r
  let s := if cur < r then
      s.logAt 0x16 5 (0xF8 + hot.2) (2 * 2 ^ 60 + hot.2 * 2 ^ 48 + hot.1 * 2 ^ 40 + r * 2 ^ 32) 0
    else s
  s.settleTarget

/-- HBM_PATROL_READ: the patrol of a channel reads a word; every 2^26 words a pass ends (R322). -/
def State.hbmPatrol (s : State) (c word : Nat) (ecc : Ecc) : State :=
  let idx := c * 2 ^ 26 + word
  let old := s.hbm.mem.bad.contains idx
  let s := if ecc = .corrected ∧ ¬ old then s.hbmCorrected c rdScrub (32 * word) else s
  let s := if ecc = .uncorrectable ∧ ¬ old then
      { s with hbm := { s.hbm with mem := { s.hbm.mem with bad := s.hbm.mem.bad ++ [idx] } } }
    else s
  let s := if ecc = .uncorrectable ∨ old then s.hbmUncorrectable c rdScrub (32 * word) 0 0 else s
  let n := (Sparse.get (fun _ => 0) s.hbm.patrol c + 1) % 2 ^ 26
  let s := { s with hbm := { s.hbm with patrol := Sparse.set (fun _ => 0) s.hbm.patrol c n } }
  if n = 0 then s.wrapInc (Fld.MEMC_CH_ECC_PASSES c) else s

/-- Whether a GO of a channel's traffic generator is accepted (R323, MEMC_CH_TG_CTL, MEMC_CH_TG_RANGE). -/
def State.tgAccepts (s : State) (c : Nat) (data : Reg64) : Bool :=
  decide (getBits data 61 60 ≤ 2) && decide (getBits data 59 57 ≤ 4) &&
  (!data.getLsbD 63 || (decide (s.rd (Fld.MEMC_CH_STATUS_STATE c) = 1) &&
    decide (s.rd (Fld.MEMC_CH_TG_RANGE_FIRST c) + s.rd (Fld.MEMC_CH_TG_RANGE_LINES c) ≤ 2 ^ 22)))

/-- A run of a channel's traffic generator, if one is in progress. -/
def State.tgRun (s : State) (c : Nat) : Option TgRun := (s.hbm.tg.find? (fun x => decide (x.1 = c))).map Prod.snd

/-- A run stored or ended; BUSY shows it. -/
def State.setTg (s : State) (c : Nat) (r : Option TgRun) : State :=
  let rest := Sparse.erase s.hbm.tg c
  let tg := match r with
    | some x => Sparse.place rest c x
    | none => rest
  { s with hbm := { s.hbm with tg := tg } }.wrB (Fld.MEMC_CH_TG_STATUS_BUSY c) r.isSome

/-- An accepted write of MEMC_CH_TG_CTL (R323): GO starts a run unless one is in progress; STOP ends the run at a granule that
nothing here fixes. -/
def State.tgWrite (s : State) (c : Nat) (data : Reg64) : State :=
  let s := s.soft (Reg.MEMC_CH_TG_CTL c) data
  match s.tgRun c with
  | some r =>
    if data.getLsbD 62 then
      (s.skip).setTg c (some { r with lines := min r.lines ((Config.freeWord s.fresh).toNat % (r.lines + 1)) })
    else s
  | none =>
    if data.getLsbD 63 then
      s.setTg c (some ⟨getBits data 61 60, getBits data 59 57, s.rd (Fld.MEMC_CH_TG_RANGE_FIRST c),
        s.rd (Fld.MEMC_CH_TG_RANGE_LINES c)⟩)
    else s

/-- A granule of a pattern: zeros and ones are exact, the layout of the others is not stated. -/
def tgGranule (pattern fresh key : Nat) : List Byte :=
  if pattern = 0 then List.replicate 512 0
  else if pattern = 1 then List.replicate 512 0xFF
  else (List.range 512).map (fun i => Config.freeByte fresh (key + i))

/-- The granules of a run written with its pattern and valid check bits. -/
def State.tgWritten (s : State) (c : Nat) (r : TgRun) : State :=
  let m := (List.range r.lines).foldl (fun (m : EMem) i =>
    let key := c * 2 ^ 31 + (r.first + i) * 512
    ⟨m.mem.writeBytes key (tgGranule r.pattern s.fresh key), m.bad.filter (fun w => decide (w < key / 32 ∨ key / 32 + 16 ≤ w))⟩) s.hbm.mem
  { s.skip with hbm := { s.hbm with mem := m } }

/-- The granules of a reading run that cannot match a pattern of zeros or ones. -/
def State.tgMismatch (s : State) (c : Nat) (r : TgRun) : List Nat :=
  if r.op ≠ 1 ∨ 1 < r.pattern then []
  else ((List.range r.lines).map (· + r.first)).filter (fun g =>
    decide (s.hbm.mem.mem.readBytes (c * 2 ^ 31 + g * 512) 512 ≠ tgGranule r.pattern 0 0))

/-- TG_RUN_COMPLETE: DONE, FAIL, the count and the first failing granule; in the self-test of CLEARING a failure marks the channel
(R323, R325). -/
def State.tgComplete (s : State) (c : Nat) (fails : List Nat) : State :=
  match s.tgRun c with
  | none => s
  | some r =>
    let must := s.tgMismatch c r
    let bad := ((List.range r.lines).map (· + r.first)).filter (fun g =>
      decide (r.op ≠ 0) && (fails.contains g || must.contains g))
    let s := if r.op = 1 then s else (s.tgWritten c r).hbmMoved c (512 * r.lines) true
    let s := if r.op = 0 then s else s.hbmMoved c (512 * r.lines) false
    let s := (s.setTg c none).wrB (Fld.MEMC_CH_TG_STATUS_DONE c) true
    match bad with
    | [] => s
    | g :: _ =>
      let s := ((s.wrB (Fld.MEMC_CH_TG_STATUS_FAIL c) true).bump (Fld.MEMC_CH_TG_STATUS_FAIL_COUNT c) bad.length).wr
        (Fld.MEMC_CH_TG_STATUS_FIRST_FAIL c) g
      if s.devState = devClearing then s.markMapOut c 0 bad.length else s

end Sys2Proof.Machine
end

