-- ==== Sys2Proof/Machine/Throttle.lean ====
section
/-! DEFINITION. Gauges and throttling: samples (R488-R491 of spec/19_gauges_and_spoil.md), the requests of the reach wardens and of
the clock unit, and the sequence that changes bclk (R18, R469, R471-R474 of spec/18_power_clock_reset.md). -/

namespace Sys2Proof.Machine

/-- A die temperature sample in units of 0.125 °C, signed. -/
def dieTemp (v : BitVec 16) : Int := toSigned 16 v.toNat

/-- The sensors of a reach: the benches mapped into gangs k, 4 + k, 8 + k and 12 + k (R15, R491). -/
def State.reachSensors (s : State) (k : Nat) : List Nat := [k, 4 + k, 8 + k, 12 + k].flatMap s.gangBenches

/-- The hottest of a set of sensors: its reading and its number; no reading, no sensor. -/
def hottestOf (temps : List (BitVec 16)) (sensors : List Nat) : Option (Int × Nat) :=
  sensors.foldl (fun m i =>
    match temps[i]? with
    | none => m
    | some v => match m with
      | none => some (dieTemp v, i)
      | some x => if x.1 < dieTemp v then some (dieTemp v, i) else m) none

/-- A reading in whole °C, not below zero. -/
def celsius (t : Int) : Nat := (t / 8).toNat

/-- The larger of two signed 16-bit samples wins. -/
def hotter (a b : Nat) : Bool := decide (toSigned 16 b < toSigned 16 a)

/-- The register field that keeps the highest sample of a sensor (GAUGE_TEMP_DATA.MAX). -/
def sensorMax (i : Nat) : Fld := ⟨behind Reg.GAUGE_TEMP_DATA i, 63, 48⟩

/-- DIE_TEMP_SAMPLE: the samples are taken in, and the clock unit posts ÷8 when a sensor reaches THW and releases it when all are
3 °C below (R471, R491). -/
def State.dieTempSample (s : State) (temps : List (BitVec 16)) : State :=
  let temps := (List.range 80).map (fun i => temps.getD i 0)
  let s := temps.zipIdx.foldl (fun s x => s.extreme (sensorMax x.2) (fun old new => hotter new old) x.1.toNat) s
  let s := { s with power := { s.power with temps := temps } }
  match hottestOf temps (List.range 80) with
  | none => s
  | some h =>
    let thw : Int := 8 * s.rd Fld.CLKPWR_THERM_THW
    let cur := s.rd Fld.CLKPWR_THROTTLE_HW
    let s := if thw ≤ h.1 ∧ cur ≠ 3 then
        (s.wr Fld.CLKPWR_THROTTLE_HW 3).logAt 0x16 0 0 (3 * 2 ^ 60 + h.2 * 2 ^ 48 + celsius h.1 % 256 * 2 ^ 40 + 3 * 2 ^ 32) 0
      else if h.1 ≤ thw - 24 then s.wr Fld.CLKPWR_THROTTLE_HW 0 else s
    s.settleTarget

/-- RAIL_SAMPLE: nine sense points, two currents, four reach powers with the hottest sensor of each reach (R488-R490). -/
def State.railSample (s : State) (rails currents powers : List (BitVec 16)) : State :=
  let s := (List.range 9).foldl (fun s r =>
    let v := (rails.getD r 0).toNat
    ((s.wr (Fld.GAUGE_RAIL_LATEST r) v).extreme (Fld.GAUGE_RAIL_MAX r) (fun old new => decide (old < new)) v).extreme
      (Fld.GAUGE_RAIL_MIN r) (fun old new => decide (new < old)) v) s
  let s := [0, 1].foldl (fun s d =>
    let v := (currents.getD d 0).toNat
    (s.wr (Fld.GAUGE_CORE_I_LATEST d) v).extreme (Fld.GAUGE_CORE_I_MAX d) (fun old new => decide (old < new)) v) s
  let s := [0, 1, 2, 3].foldl (fun s k =>
    let v := (powers.getD k 0).toNat
    let s := (s.wr (Fld.GAUGE_REACH_POWER k) v).extreme (Fld.GAUGE_REACH_POWER_MAX k) (fun old new => decide (old < new)) v
    match hottestOf s.power.temps (s.reachSensors k) with
    | none => s
    | some h => (s.wr (Fld.GAUGE_REACH_HOT_TEMP k) (celsius h.1)).wr (Fld.GAUGE_REACH_HOT_SENSOR k) h.2) s
  s.setReg Reg.GAUGE_STAMP (BitVec.ofNat 64 s.power.time)

/-- The request field of a reach. -/
def reachRequest (k : Nat) : Fld :=
  if k = 0 then Fld.CLKPWR_THROTTLE_RCH0 else if k = 1 then Fld.CLKPWR_THROTTLE_RCH1
  else if k = 2 then Fld.CLKPWR_THROTTLE_RCH2 else Fld.CLKPWR_THROTTLE_RCH3

/-- REACH_WARDEN_EVAL: the request of a reach from its hottest sensor and its power (R471). -/
def State.wardenEval (s : State) (k : Nat) : State :=
  let now := s.power.time
  let th := [s.rd Fld.CLKPWR_THERM_T5, s.rd Fld.CLKPWR_THERM_T6, s.rd Fld.CLKPWR_THERM_T8]
  let hot := hottestOf s.power.temps (s.reachSensors k)
  let deg := (hot.map (fun h => celsius h.1)).getD 0
  let cool := [1, 2, 3].foldl (fun l j => coolMark l (16 * k + j)
    (decide ((hot.map Prod.fst).getD 0 + 24 ≤ (8 * th.getD (j - 1) 0 : Nat))) now) s.power.coolSince
  let old := Sparse.get (fun _ => 0) s.power.wardens k
  let base := thermRequest cool (16 * k) now deg (old / 2) th
  let cap := s.rd Fld.CLKPWR_PCAP_REACH_CAP
  let watt := s.rd (Fld.GAUGE_REACH_POWER k)
  let low := coolMark s.power.lowSince k (decide (watt < 9 * cap)) now
  let extra := decide (10 * cap < watt) || (decide (old % 2 = 1) && !coolFor low k now 10000000)
  let req := min 3 (base + b2n extra)
  let s := { s with power := { s.power with
    coolSince := cool, lowSince := low, wardens := Sparse.set (fun _ => 0) s.power.wardens k (2 * base + b2n extra) } }
  let d0 := fun (source : Nat) => source * 2 ^ 60 + ((hot.map Prod.snd).getD 0) * 2 ^ 48 + deg % 256 * 2 ^ 40 + req * 2 ^ 32
  let s := if old / 2 < base then s.logAt 0x16 1 k (d0 0) watt else s
  let s := if extra ∧ old % 2 = 0 then s.logAt 0x16 1 k (d0 1) watt else s
  (s.wr (reachRequest k) req).settleTarget

/-- The setpoint code of a divider step (CLKPWR_VCORE). -/
def State.setpointOf (s : State) (step : Nat) : Nat :=
  if step = 0 then s.rd Fld.CLKPWR_VCORE_V4 else if step = 1 then s.rd Fld.CLKPWR_VCORE_V5
  else if step = 2 then s.rd Fld.CLKPWR_VCORE_V6 else s.rd Fld.CLKPWR_VCORE_V8

/-- A setpoint sent to the regulator. -/
def State.askVcore (s : State) (code : Nat) : State :=
  { s with power := { s.power with avsCode := code, avsTries := 0 } }.emit (.avs code)

/-- The throttle sequence stored. -/
def State.setSequence (s : State) (x : Option (Nat × Bool)) : State := { s with power := { s.power with sequence := x } }

/-- Issue held for a switch to a step (R472). -/
def State.holdFor (s : State) (step : Nat) : State := (s.setSequence (some (step, false))).wrB Fld.CLKPWR_CLK_HOLD true

/-- THROTTLE_TARGET_CHANGE: a sequence starts when TARGET differs from STEP and none runs: to a faster step VDD_CORE first, where the
device sets it (R469, R472). -/
def State.targetChange (s : State) : State :=
  let step := s.rd Fld.CLKPWR_CLK_STEP
  let target := s.rd Fld.CLKPWR_THROTTLE_TARGET
  if target = step ∨ s.power.sequence.isSome then s
  else if target < step ∧ s.flag Fld.CLKPWR_VCORE_AVS_EN then
    (s.setSequence (some (target, true))).askVcore (s.setpointOf target)
  else s.holdFor target

/-- The fastest step, not beyond a target, that the acknowledged setpoint supports (R469). -/
def State.supported (s : State) (target : Nat) : Nat :=
  (([0, 1, 2, 3].filter (fun j => decide (target ≤ j) && decide (s.setpointOf j ≤ s.rd Fld.CLKPWR_VCORE_SETPOINT))).head?).getD
    (s.rd Fld.CLKPWR_CLK_STEP)

/-- VCORE_ACK: the regulator acknowledges the setpoint and the sequence goes on; a transaction that fails is tried three times,
then counted, and the setpoint last acknowledged stands (R469, R472). -/
def State.vcoreAck (s : State) (ok : Bool) : State :=
  match s.power.sequence with
  | some (step, true) =>
    let faster := decide (step < s.rd Fld.CLKPWR_CLK_STEP)
    if ok then
      let s := (s.wr Fld.CLKPWR_VCORE_SETPOINT s.power.avsCode).wrB Fld.CLKPWR_VCORE_PGOOD true
      if faster then s.holdFor step else s.setSequence none
    else if s.power.avsTries < 2 then
      { s with power := { s.power with avsTries := s.power.avsTries + 1 } }.emit (.avs s.power.avsCode)
    else
      let s := (s.bump Fld.CLKPWR_VCORE_AVS_ERRORS 1).wrB Fld.CLKPWR_VCORE_PGOOD false
      let j := s.supported step
      if faster ∧ j < s.rd Fld.CLKPWR_CLK_STEP then s.holdFor j else s.setSequence none
  | _ => s

/-- SWITCH_POINT: every bench changes its divider, HOLD clears, and to a slower step VDD_CORE is lowered (R472). -/
def State.switchPoint (s : State) : State :=
  match s.power.sequence with
  | some (step, false) =>
    let slower := decide (s.rd Fld.CLKPWR_CLK_STEP < step)
    let us := (s.power.time - s.power.requestTime) / 1000
    let s := ((s.wr Fld.CLKPWR_CLK_STEP step).wrB Fld.CLKPWR_CLK_HOLD false).wrapInc Fld.CLKPWR_CLK_SWITCHES
    let s := s.wr Fld.CLKPWR_CLK_LAST_LATENCY_US (min 0xFFFF us)
    if slower ∧ s.flag Fld.CLKPWR_VCORE_AVS_EN then
      (s.setSequence (some (step, true))).askVcore (s.setpointOf step)
    else s.setSequence none
  | _ => s

/-- A write of CLKPWR_THROTTLE: the floor of the physical function, and the wardens' requests where Matumon writes (R18). -/
def State.throttleWrite (s : State) (matumon : Bool) (data : Reg64) : State :=
  let s := s.wr Fld.CLKPWR_THROTTLE_HOST (getBits data 47 46)
  let s := if matumon then
      [0, 1, 2, 3].foldl (fun s k => s.wr (reachRequest k) (getBits data (33 + 2 * k) (32 + 2 * k))) s
    else s
  s.settleTarget

end Sys2Proof.Machine
end

