-- ==== Sys2Proof/Machine/Kwawekan.lean ====
section
/-! DEFINITION. Kwawekan: ownership of the engines, the input gate, faults, entropy, SPDM, IDE keys and debug unlock
(R427-R447 of spec/16_kwawekan.md). -/

namespace Sys2Proof.Machine

/-- The statuses that Kwawekan answers with, by the model's own numbers (log 9). -/
def seOk : Nat := 0
def seBusy : Nat := 1
def seFull : Nat := 2
def seSequence : Nat := 3
def seAbandoned : Nat := 4
def seRefused : Nat := 5
def seFault : Nat := 6

/-- SEAL_STATUS.OWNER's code of a requester. -/
def sealCode : SealReq → Nat
  | .boot => 1
  | .matumon => 2
  | .spdm => 3
  | .debug => 4

/-- The owner's code, 0 for none. -/
def State.sealOwner (s : State) : Nat := (s.kwa.owner.map (fun o => sealCode o.req)).getD 0

/-- Kwawekan is LOCKED (R433). -/
def State.sealLocked (s : State) : Bool := decide (s.rd Fld.SEAL_STATUS_STATE = 2)

/-- An answer of Kwawekan. -/
def State.sealAnswer (s : State) (r : SealReq) (status pos : Nat) : State := s.emit (.sealAnswer r status pos)

/-- Block 4 of the measurements changes with the security state; how the state is laid out for hashing is not stated
(Table 16.4). -/
def State.remeasure (s : State) : State := s.skip.setReg (Reg.SEAL_MEAS 3) (Config.freeWord s.fresh)

/-- SEAL_FAULT: counted, logged, and the eighth since the cold reset locks Kwawekan (R433, R434). -/
def State.sealFault (s : State) (cause : Nat) : State :=
  let boot := decide (s.rd Fld.SEAL_STATUS_STATE = 0)
  let n := s.rd Fld.SEAL_STATUS_FAULTS + 1
  let locks := decide (8 ≤ n)
  let s := s.satInc Fld.SEAL_STATUS_FAULTS
  let s := s.logAt 0x14 8 0 (cause * 2 ^ 60 + s.sealOwner * 2 ^ 56 + min 255 n * 2 ^ 40 + b2n locks * 2 ^ 39 + b2n boot * 2 ^ 38) 0
  if locks ∧ ¬ s.sealLocked then (s.wr Fld.SEAL_STATUS_STATE 2).remeasure else s

/-- An input refused at the gate: counted and logged with its role, its value and the requester (R432). -/
def State.sealRefusal (s : State) (role value req : Nat) : State :=
  (s.bump Fld.SEAL_STATUS_REFUSED 1).logAt 0x15 8 0 (role * 2 ^ 60 + value * 2 ^ 56 + req * 2 ^ 53) 0

/-- The state of Kwawekan stored. -/
def State.setSeal (s : State) (k : Seal) : State := { s with kwa := k }

/-- The engines given to a request: an INIT opens its session, a single operation runs. -/
def State.sealGrant (s : State) (w : SealWait) : State :=
  let s := s.setSeal { s.kwa with
    owner := some ⟨w.req, w.kind, w.multi, !w.multi, false, s.power.time⟩, abandoned := s.kwa.abandoned.filter (· ≠ w.req) }
  if w.multi then s.sealAnswer w.req seOk 0 else s

/-- The engines released: they pass to the head of the queue (R436). -/
def State.sealRelease (s : State) : State :=
  let s := s.setSeal { s.kwa with owner := none }
  match s.kwa.queue with
  | [] => s
  | w :: rest => (s.setSeal { s.kwa with queue := rest }).sealGrant w

/-- A single request or an INIT (R435, R436). -/
def State.sealAsk (s : State) (r : SealReq) (kind : SealKind) (multi : Bool) : State :=
  let w : SealWait := ⟨r, kind, multi⟩
  match s.kwa.owner with
  | none => s.sealGrant w
  | some o =>
    if o.req = r ∨ s.kwa.queue.any (fun q => decide (q.req = r)) then s.sealAnswer r seSequence 0
    else if 4 ≤ s.kwa.queue.length then s.sealAnswer r seFull 0
    else (s.setSeal { s.kwa with queue := s.kwa.queue ++ [w] }).sealAnswer r seBusy (s.kwa.queue.length + 1)

/-- A request on a session by one that does not own it: ABANDONED once after an abandonment, else BAD_SEQUENCE (R436, R437). -/
def State.sealStray (s : State) (r : SealReq) : State :=
  if s.kwa.abandoned.contains r then
    (s.setSeal { s.kwa with abandoned := s.kwa.abandoned.filter (· ≠ r) }).sealAnswer r seAbandoned 0
  else s.sealAnswer r seSequence 0

/-- An UPDATE (last = false) or a FINAL of the owner's session. -/
def State.sealFeed (s : State) (r : SealReq) (last : Bool) : State :=
  match s.kwa.owner with
  | none => s.sealStray r
  | some o =>
    if o.req ≠ r then s.sealStray r
    else if !o.multi || o.final then s.sealAnswer r seSequence 0
    else s.setSeal { s.kwa with owner := some { o with busy := true, final := last, last := s.power.time } }

/-- An ABORT: the session ends at once (R437). -/
def State.sealAbortNow (s : State) (r : SealReq) : State :=
  match s.kwa.owner with
  | none => s.sealStray r
  | some o =>
    if o.req ≠ r then s.sealStray r
    else if !o.multi then s.sealAnswer r seSequence 0
    else (s.sealAnswer r seOk 0).sealRelease

/-- Operations of the public-key firmware, which alone pass the input gate and use the wide multiplier (R431, R432). -/
def kindPublicKey : SealKind → Bool
  | .sign | .verify | .ecdh | .keyGen => true
  | _ => false

/-- Operations that take random bits (R434). -/
def kindRandom : SealKind → Bool
  | .random | .sign | .keyGen => true
  | _ => false

/-- A generate request of the DRBG: after 65,536 it is reseeded (R434). -/
def State.sealGenerate (s : State) : State :=
  let n := s.kwa.generated + 1
  if 65536 ≤ n then (s.setSeal { s.kwa with generated := 0 }).bump Fld.SEAL_ENTROPY_RESEEDS 1
  else s.setSeal { s.kwa with generated := n }

/-- SEAL_OP_COMPLETE: what runs completes, is answered, and the engines go on (R430-R437). -/
def State.sealComplete (s : State) (out : SealOutcome) : State :=
  match s.kwa.owner with
  | none => s
  | some o =>
    let entropy := s.flag Fld.SEAL_ENTROPY_OK
    if !o.busy then s
    else if s.sealLocked then (s.sealAnswer o.req seFault 0).sealRelease
    else if kindRandom o.kind ∧ ¬ entropy then
      if s.kwa.entropyDead then (s.sealAnswer o.req seFault 0).sealRelease else s
    else
      let s := if kindRandom o.kind then s.sealGenerate else s
      match (if kindPublicKey o.kind then out else .ok) with
      | .refused role value => ((s.sealRefusal role.toNat value.toNat (sealCode o.req)).sealAnswer o.req seRefused 0).sealRelease
      | .mismatch => ((s.sealFault 1).sealAnswer o.req seFault 0).sealRelease
      | .ok =>
        if o.multi ∧ ¬ o.final then
          (s.setSeal { s.kwa with owner := some { o with busy := false } }).sealAnswer o.req seOk 0
        else (s.sealAnswer o.req seOk 0).sealRelease

/-- SEAL_IDLE_TIMEOUT: a session that waits for its next part is abandoned (R437). -/
def State.sealIdle (s : State) : State :=
  match s.kwa.owner with
  | none => s
  | some o =>
    if o.multi ∧ ¬ o.final then
      (s.setSeal { s.kwa with abandoned := s.kwa.abandoned.filter (· ≠ o.req) ++ [o.req] }).sealRelease
    else s

/-- ENTROPY_HEALTH_FAIL (R434). -/
def State.entropyFails (s : State) (adaptive : Bool) : State :=
  let s := s.bump (if adaptive then Fld.SEAL_ENTROPY_APT_FAILS else Fld.SEAL_ENTROPY_RCT_FAILS) 1
  let again := match s.kwa.entropyFailed with
    | none => false
    | some t => decide (s.power.time ≤ t + 1000000000)
  let s := s.setSeal { s.kwa with entropyFailed := some s.power.time, entropyDead := s.kwa.entropyDead || again }
  (s.wrB Fld.SEAL_ENTROPY_OK false).sealFault 2

/-- ENTROPY_RESTART_DONE: the start-up tests have passed and the DRBG is seeded (R434). -/
def State.entropyUp (s : State) : State :=
  if s.flag Fld.SEAL_ENTROPY_OK ∨ s.kwa.entropyDead then s
  else (s.wrB Fld.SEAL_ENTROPY_OK true).bump Fld.SEAL_ENTROPY_RESEEDS 1

/-- Whether the responder has a request with the engines or in the queue. -/
def State.spdmWaits (s : State) : Bool :=
  decide (s.sealOwner = 3) || s.kwa.queue.any (fun q => decide (q.req = .spdm))

/-- SPDM_REQUEST (R441): a request that needs a signature goes to the engines, and its answer comes with RESPOND_IF_READY if they are
not free; at most two sessions; what belongs to a session is answered in one. -/
def State.spdm (s : State) (code : SpdmCode) (session : Bool) : State :=
  let say := fun (s : State) (ok : Bool) => s.emit (.spdmAnswer code ok)
  match code with
  | .unsupported => say s false
  | .respondIfReady => say s (!s.spdmWaits)
  | .challenge | .getMeasurements =>
    if s.spdmWaits then say s false
    else let free := s.kwa.owner.isNone; say (s.sealAsk .spdm .sign false) free
  | .keyExchange =>
    if s.spdmWaits ∨ 2 ≤ s.kwa.sessions then say s false
    else
      let free := s.kwa.owner.isNone
      let s := s.sealAsk .spdm .sign false
      say (s.setSeal { s.kwa with sessions := s.kwa.sessions + 1 }) free
  | .endSession =>
    if session ∧ 0 < s.kwa.sessions then say (s.setSeal { s.kwa with sessions := s.kwa.sessions - 1 }) true else say s false
  | .finish | .heartbeat | .keyUpdate => say s (session && decide (0 < s.kwa.sessions))
  | .getVersion | .getCapabilities | .negotiateAlgorithms | .getDigests | .getCertificate => say s true

/-- EN and KSET of a stream, and its number. -/
def ideEn : IdeStream → Fld
  | .link => Fld.SEAL_IDE_LINK_EN
  | .selective => Fld.SEAL_IDE_SEL_EN
def ideSet : IdeStream → Fld
  | .link => Fld.SEAL_IDE_LINK_KSET
  | .selective => Fld.SEAL_IDE_SEL_KSET
def ideNum : IdeStream → Nat
  | .link => 0
  | .selective => 1

/-- IDE_KEY_PROG: a key set that is not in use is programmed, in a secured session (R443). -/
def State.ideProg (s : State) (st : IdeStream) (kset : Bool) : State :=
  let used := s.flag (ideEn st) && (s.flag (ideSet st) == kset)
  if used ∨ s.kwa.sessions = 0 then s.sealAnswer .spdm seRefused 0
  else
    let k := (2 * ideNum st + b2n kset, true)
    (s.setSeal { s.kwa with ideKeys := s.kwa.ideKeys.filter (· ≠ k) ++ [k] }).sealAnswer .spdm seOk 0

/-- IDE_K_SET_GO: the stream switches to a programmed key set (R443). -/
def State.ideGo (s : State) (st : IdeStream) (kset : Bool) : State :=
  if s.kwa.ideKeys.contains (2 * ideNum st + b2n kset, true) ∧ s.kwa.sessions ≠ 0 then
    ((((s.wrB (ideEn st) true).wrB (ideSet st) kset).bump Fld.SEAL_IDE_KEY_UPDATES 1)).sealAnswer .spdm seOk 0
  else s.sealAnswer .spdm seRefused 0

/-- DEBUG_CHALLENGE_READ: a fresh challenge of 32 bytes, good for one second (R447). -/
def State.challengeRead (s : State) : State :=
  if s.sealLocked ∨ s.kwa.entropyDead then s.sealAnswer .debug seFault 0
  else if ¬ s.flag Fld.SEAL_ENTROPY_OK then s
  else
    let n := s.fresh
    let s := s.skip.sealGenerate
    (s.setSeal { s.kwa with challenge := some (n, s.power.time + 1000000000) }).emit
      (.challenge ((List.range 32).map (Config.freeByte n)))

/-- Every tenant is CLOSED. -/
def State.allClosed (s : State) : Bool := (List.range 16).all (fun t => decide (s.rd (Fld.MGMT_TENANT_STATE (t + 1)) = 0))

/-- DEBUG_UNLOCK: each attempt uses up its challenge; debug opens for a good signature on a HELD or READY device without tenants
(R447). -/
def State.debugTry (s : State) (scope : Nat) (sig : List Byte) : State :=
  let good := match s.kwa.challenge with
    | none => false
    | some c => decide (s.power.time ≤ c.2) && Config.debugSignatureOk c.1 scope sig
  let place := decide (s.devState = devHeld) || decide (s.devState = devReady)
  let ok := good && place && s.allClosed && !s.sealLocked
  let s := (s.bump Fld.SEAL_DEBUG_ATTEMPTS 1).setSeal { s.kwa with challenge := none }
  let s := if ok then ((s.wrB Fld.SEAL_DEBUG_UNLOCKED true).wr Fld.SEAL_DEBUG_SCOPE scope).remeasure else s
  s.emit (.unlock ok)

/-- What a reset of the PF's function ends: SPDM sessions and IDE streams (R429). -/
def State.sealFlr (s : State) : State :=
  let s := s.setSeal { s.kwa with sessions := 0, ideKeys := [] }
  ((s.wrB Fld.SEAL_IDE_LINK_EN false).wrB Fld.SEAL_IDE_SEL_EN false)

/-- The field prime of P-384 and the constant of its curve (log 9). -/
def p384 : Nat := 2 ^ 384 - 2 ^ 128 - 2 ^ 96 + 2 ^ 32 - 1
def p384B : Nat :=
  0xb3312fa7e23ee7e4988e056be3f82d19181d9c6efe8141120314088f5013875ac656398d8a2ed19d2a85c8edd3ec2aef

/-- A big-endian number. -/
def ofBytesBE (l : List Byte) : Nat := l.foldl (fun n b => 256 * n + b.toNat) 0

/-- What the input gate says of a coordinate: none to go on, else VALUE (R432). -/
def gateCoordinate (v : Nat) : Option Nat := if v = 0 then some 0 else if v = 1 then some 1 else if p384 ≤ v then some 2 else none

/-- What the input gate says of an uncompressed public key: ROLE and VALUE of the refusal (R432). -/
def gatePublicKey (l : List Byte) : Option (Nat × Nat) :=
  let x := ofBytesBE ((l.drop 1).take 48)
  let y := ofBytesBE ((l.drop 49).take 48)
  match gateCoordinate x, gateCoordinate y with
  | some v, _ => some (0, v)
  | _, some v => some (0, v)
  | none, none =>
    if l.head? = some 4 ∧ y * y % p384 = (x * x * x + (p384 - 3) * x + p384B) % p384 then none else some (3, 3)

end Sys2Proof.Machine
end

