-- ==== Sys2Proof/Machine/Mailbox.lean ====
section
/-! DEFINITION. The management mailbox of a view and how Matumon takes its commands (R405, R409 of spec/15_matumon.md, R462, R463 of
spec/17_host_interface.md). -/

namespace Sys2Proof.Machine

/-- The statuses of R409. -/
def stOk : Nat := 0
def stNotPermitted : Nat := 1
def stBadState : Nat := 2
def stBadArgument : Nat := 3
def stNoResource : Nat := 4
def stAuthFail : Nat := 5

/-- The codes of Table 15.4. -/
def cmdCodes : List Nat := [0x10, 0x11, 0x20, 0x21, 0x22, 0x23, 0x30, 0x31, 0x40, 0x41, 0x50]

/-- Whether core M0, which serves the mailbox, runs. -/
def State.coreRuns (s : State) (k : Nat) : Bool :=
  bit (s.rd Fld.MGMT_STATUS_CORE_UP) k && !s.flag (Fld.MGMT_WDOG_RESTARTING k)

/-- HELD with HELD_CAUSE WATCHDOG: the cores run in restricted mode (R400). -/
def State.restrictedMode (s : State) : Bool := decide (s.rd Fld.MGMT_STATUS_RESTRICTED ≠ 0)

/-- A view's handshake is accepted (R404). -/
def State.shaken (s : State) (vw : Nat) : Bool := decide (s.rd (Fld.MGMT_DRV_VERSION_RESULT vw) = 1)

/-- The tenant that a view acts for: 0 for the PF, the I3C view and an unbound VF (R449). -/
def State.boundTenant (s : State) (vw : Nat) : Nat :=
  if 1 ≤ vw ∧ vw ≤ 15 ∧ s.flag (Fld.HIF_VF_BIND_EN 0 vw) then s.rd (Fld.HIF_VF_BIND_TENANT 0 vw) else 0

/-- HOST_ACCESS_ERROR of a view (Table 19.5): whether it was a write, the width, the reason, the BAR, the offset or address. The
log names no source number for an access of Matumon: it is free (log 10). -/
def State.accessError (s : State) (vw : Nat) (write : Bool) (width reason bar d1 : Nat) : State :=
  let d0 := b2n write * 2 ^ 63 + width * 2 ^ 60 + reason * 2 ^ 56 + bar * 2 ^ 52
  if vw ≤ 16 then s.log 0x19 9 vw 0x3F (s.boundTenant vw) d0 d1
  else s.skip.log 0x19 9 ((Config.freeWord s.fresh).toNat % 256) 0x3F 0 d0 d1

/-- A management command answered: DONE, STATUS, the response words, source 17 (R461, R462). -/
def State.mgmtAnswer (s : State) (vw st : Nat) (resp : List Reg64) : State :=
  let s := s.setView vw { s.view vw with cmd := none, resp := resp }
  ((s.wr (Fld.HIF_MGMT_STATUS_STATUS vw) st).wrB (Fld.HIF_MGMT_STATUS_DONE vw) true).irq vw 17

/-- A whole command passes to Matumon; one whose code names no command is answered at once. -/
def State.cmdPass (s : State) (vw : Nat) (c : MgmtCmd) : State :=
  let s := s.setView vw { s.view vw with cmd := some { c with passed := true } }
  if cmdCodes.contains c.code then s
  else s.mgmtAnswer vw (if vw = 16 ∨ ¬ s.shaken vw then stNotPermitted else stBadArgument) []

/-- A write of HIF_MGMT_CMD with START (R462). -/
def State.cmdStart (s : State) (vw code length : Nat) : State :=
  if (s.view vw).cmd.isSome then s.wrB (Fld.HIF_MGMT_STATUS_OVERFLOW vw) true
  else
    let c : MgmtCmd := ⟨code, length, [], false⟩
    let s := s.setView vw { s.view vw with cmd := some c, resp := [] }
    if length % 8 ≠ 0 then s.mgmtAnswer vw stBadArgument []
    else if length = 0 then s.cmdPass vw c
    else s

/-- A write of HIF_MGMT_CMD with ABORT: a command that has not passed is discarded (R462). -/
def State.cmdAbort (s : State) (vw : Nat) : State :=
  match (s.view vw).cmd with
  | none => s
  | some c => if c.passed then s else s.setView vw { s.view vw with cmd := none }

/-- A write of HIF_MGMT_CMD. An ABORT acts on the command that was in progress before the write. -/
def State.mgmtCmdWrite (s : State) (vw : Nat) (data : Reg64) : State :=
  let old := (s.view vw).cmd
  let s := if data.getLsbD 63 then s.cmdStart vw (getBits data 55 48) (getBits data 31 0) else s
  if data.getLsbD 62 ∧ old.isSome then s.cmdAbort vw else s

/-- A write of HIF_MGMT_DATA appends a word (R462, R463). -/
def State.dataWrite (s : State) (vw : Nat) (w : Reg64) : State :=
  let v := s.view vw
  let full := s.wrB (Fld.HIF_MGMT_STATUS_OVERFLOW vw) true
  match v.cmd with
  | none => full
  | some c =>
    if c.passed then full
    else if 512 ≤ v.path then full.mgmtAnswer vw stBadArgument []
    else
      let c := { c with words := c.words ++ [w] }
      let s := s.setView vw { v with cmd := some c, path := v.path + 1 }
      if c.length ≤ 8 * c.words.length then s.cmdPass vw c else s

/-- A read of HIF_MGMT_DATA: the next response word, or zero with UNDERRUN (R463). -/
def State.dataRead (s : State) (vw : Nat) : Reg64 × State :=
  let v := s.view vw
  match v.resp with
  | [] => (0, s.wrB (Fld.HIF_MGMT_STATUS_UNDERRUN vw) true)
  | w :: rest => (w, s.setView vw { v with resp := rest })

/-- What Matumon makes of a command: the state, the status and the response words. -/
structure Reply where
  s : State
  st : Nat
  resp : List Reg64
  deriving DecidableEq, Repr

/-- A refused command changes nothing (R409). -/
def State.refuse (s : State) (st : Nat) : Reply := ⟨s, st, []⟩

/-- A command that succeeds without response words. -/
def State.accept (s : State) : Reply := ⟨s, stOk, []⟩

/-- Matumon runs the command of a code that has passed in a view: handshake, issuer, then the command's own checks in order; in
restricted mode no command is served (R400, R405, R409). -/
def State.runCmd (s : State) (vw code : Nat) (issuer : List Reg64 → Bool) (body : State → List Reg64 → Reply) : State :=
  match (s.view vw).cmd with
  | none => s
  | some c =>
    if !c.passed ∨ c.code ≠ code ∨ ¬ s.coreRuns 0 then s
    else
      let r := if vw = 16 ∧ code ≠ 0x50 ∨ vw ≠ 16 ∧ ¬ s.shaken vw then s.refuse stNotPermitted
        else if !issuer c.words then s.refuse stNotPermitted
        else if s.restrictedMode then s.refuse stBadState
        else body s c.words
      r.s.mgmtAnswer vw r.st r.resp

/-- A command of the physical function. -/
def issuerPf (vw : Nat) (_ : List Reg64) : Bool := decide (vw = 0)

/-- The tenant that word 0 names. -/
def argTenant (ws : List Reg64) : Nat := getBits (ws.getD 0 0) 4 0

/-- A command of the physical function or of the tenant's VF. -/
def State.issuerOwn (s : State) (vw : Nat) (ws : List Reg64) : Bool :=
  decide (vw = 0) || (decide (vw < 16) && decide (s.boundTenant vw ≠ 0) && decide (s.boundTenant vw = argTenant ws))

/-- Whether a number names a tenant. -/
def isTenant (t : Nat) : Bool := decide (1 ≤ t) && decide (t ≤ 16)

/-- The codes of MGMT_TENANT.STATE. -/
def tnClosed : Nat := 0
def tnOpen : Nat := 1
def tnJob : Nat := 2
def tnKept : Nat := 3

/-- A tenant's state. -/
def State.tnState (s : State) (t : Nat) : Nat := s.rd (Fld.MGMT_TENANT_STATE t)

/-- READY or ACTIVE. -/
def State.devOpen (s : State) : Bool := decide (s.devState = devReady) || decide (s.devState = devActive)

/-- Whether n bytes from a lie in local HBM in pages of one owner (R315). -/
def State.ownsRange (s : State) (t a n : Nat) : Bool :=
  decide (a + n ≤ s.spaceBytes 2) &&
    (List.range ((a + n + 2 ^ 21 - 1) / 2 ^ 21 - a / 2 ^ 21)).all (fun i => decide (s.pageOwner (a + 2 ^ 21 * i) = t))

end Sys2Proof.Machine
end

