-- ==== Sys2Proof/Machine/Tenants.lean ====
section
/-! DEFINITION. Tenants and the key cache: TENANT_OPEN, TENANT_CLOSE, KEY_LOAD, KEY_EVICT (R409, R414, R422, R423 of
spec/15_matumon.md, R444-R446 of spec/16_kwawekan.md). -/

namespace Sys2Proof.Machine

/-- A little-endian field of a manifest. -/
def mfield (m : List Byte) (at_ n : Nat) : Nat := ofBytes (((m.drop at_).take n).map BitVec.toNat)

/-- Whether a plaintext manifest has its form (Table 16.5). -/
def manifestOk (m : List Byte) : Bool := decide (mfield m 0 2 = 1) && decide (32 + 40 * mfield m 16 2 ≤ m.length)

/-- The key-set tag (R445). -/
def manifestTag (m : List Byte) : Reg64 := BitVec.ofNat 64 (ofBytes ((sha3_256 (m.map BitVec.toNat)).take 8))

/-- The bytes that argument words carry. -/
def wordBytes (ws : List Reg64) : List Byte := ws.flatMap (fun w => (toBytes 8 w.toNat).map (BitVec.ofNat 8))

/-- TENANT_OPEN (R444-R446). -/
def State.tenantOpenCmd (s : State) (ws : List Reg64) : Reply :=
  let t := argTenant ws
  let w := wordBytes (ws.drop 1)
  if !isTenant t then s.refuse stBadArgument
  else if s.tnState t ≠ tnClosed then s.refuse stBadState
  else if w.length < 126 ∨ 65536 + 134 ≤ w.length then s.refuse stBadArgument
  else if s.flag Fld.SEAL_DEBUG_UNLOCKED ∨ s.sealLocked ∨ w.head? ≠ some 1 then s.refuse stAuthFail
  else
    match gatePublicKey ((w.drop 1).take 97) with
    | some r => (s.sealRefusal r.1 r.2 2).refuse stAuthFail
    | none =>
      match Config.unwrapManifest w with
      | none => s.refuse stAuthFail
      | some m =>
        if !manifestOk m then s.refuse stAuthFail
        else
          let tag := manifestTag m
          let s := (s.journal 0x10 t).setTenant t { s.tenant t with manifest := m, tag := tag }
          let s := ((s.wr (Fld.MGMT_TENANT_STATE t) tnOpen).wrB (Fld.MGMT_TENANT_DEBUG_OK t) (decide (mfield m 8 1 % 2 = 1))).wr
            (Fld.MGMT_TENANT_GANG_ALLOW t) (mfield m 2 2)
          ⟨s.wr (Fld.MGMT_TENANT_KEY_BUDGET t) (min 0x3FFFF (mfield m 4 4)), stOk, [tag]⟩

/-- The index of a key table entry with the pages and leases that its segments hold. -/
structure Holding where
  index : Nat
  pages : List Nat
  leases : List (Nat × Nat)
  deriving DecidableEq, Repr

/-- What a tenant's entry holds. -/
def State.holding (s : State) (t k : Nat) : Holding :=
  let x := s.tenant t
  ⟨k, (x.keyPages.filter (fun p => decide (p.1 = k))).map Prod.snd, (x.keyLeases.filter (fun p => decide (p.1 = k))).map (fun p => (p.2 / 4096, p.2 % 4096))⟩

/-- The installed entries of a tenant. -/
def State.tenantKeys (s : State) (t : Nat) : List Nat :=
  (s.ledges.keys.filter (fun e => decide (keyTenant e.2 = t))).map Prod.fst

/-- MGMT_TENANT_KEY brought in step. -/
def State.settleKeyRegs (s : State) (t : Nat) : State :=
  let x := s.tenant t
  ((s.wr (Fld.MGMT_TENANT_KEY_USED t) x.keyPages.length).wr (Fld.MGMT_TENANT_KEY_LEASES t) x.keyLeases.length).wr
    (Fld.MGMT_TENANT_KEY_ENTRIES t) (s.tenantKeys t).length

/-- An entry of a tenant removed: the entry goes, its pages are filled, its leases freed (R423). -/
def State.dropKey (s : State) (t k : Nat) : State :=
  let h := s.holding t k
  let s := (s.setKey k []).fillPages h.pages
  let s := [0, 1, 2, 3].foldl (fun s l => s.clearLeases l ((h.leases.filter (fun x => decide (x.1 = l))).map Prod.snd)) s
  let x := s.tenant t
  (s.setTenant t { x with
    keyPages := x.keyPages.filter (fun p => decide (p.1 ≠ k)), keyLeases := x.keyLeases.filter (fun p => decide (p.1 ≠ k)) }).settleKeyRegs t

/-- TENANT_CLOSE (R409, R445): keys, key pages and key leases go, the plaintext manifest is zeroised. Results that no one has
acknowledged stay (Table 15.8). -/
def State.tenantCloseCmd (s : State) (ws : List Reg64) : Reply :=
  let t := argTenant ws
  if ws.length ≠ 1 ∨ !isTenant t then s.refuse stBadArgument
  else if s.tnState t ≠ tnOpen then s.refuse stBadState
  else
    let s := (s.tenantKeys t).foldl (fun s k => s.dropKey t k) (s.journal 0x11 t)
    let s := s.setTenant t { Tenant.closed with svc := (s.tenant t).svc }
    (((s.setReg (Reg.MGMT_TENANT t) (BitVec.ofNat 64 (s.rd (Fld.MGMT_TENANT_LAST_END t) * 2 ^ 12))).setReg
      (Reg.MGMT_TENANT_KEY t) 0)).accept

/-- One entry of a KEY_LOAD: index, the key entry's doublewords, four manifest digest indices. -/
structure KeyReq where
  index : Nat
  dws : List Reg64
  digests : List Nat
  deriving DecidableEq, Repr

/-- The entries that a KEY_LOAD's argument words spell. -/
def keyReqs (ws : List Reg64) : List KeyReq :=
  (chunksOf 10 (ws.drop 1)).map (fun c =>
    ⟨getBits (c.getD 0 0) 11 0, (c.drop 1).take 8, (List.range 4).map (fun l => getBits (c.getD 9 0) (16 * l + 15) (16 * l))⟩)

/-- The set by which an entry's segments are sized (log 24). -/
def keySetOf (e : List Reg64) : Nat := Config.keySet (e.getD 0 0).toNat

/-- The key pages of every tenant. -/
def State.allKeyPages (s : State) : List Nat := s.mgmt.tenants.flatMap (fun x => x.2.keyPages.map Prod.snd)

/-- The pages of the die-local region of a die, wholly inside it (R313). -/
def State.diePages (s : State) (die : Nat) : List Nat :=
  let split := s.rd Fld.DEVCTL_HBM_CFG_SPLIT
  let all := s.actList 0 256
  let d0 := s.actList 0 128
  let d1 := s.actList 128 128
  let r0 := all.length * (2 ^ 22 - 65536 * split) * 512
  let r1 := d0.length * 65536 * split * 512
  let r2 := d1.length * 65536 * split * 512
  let lo := if die = 0 then r0 else r0 + r1
  let hi := if die = 0 then r0 + r1 else r0 + r1 + r2
  let first := cdiv lo (2 ^ 21)
  (List.range (hi / 2 ^ 21 - first)).map (· + first)

/-- The first run of n consecutive numbers of a rising list. -/
def findRun (n : Nat) : List Nat → List Nat → Option (List Nat)
  | _, [] => none
  | run, p :: rest =>
    let run := match run.getLast? with
      | none => [p]
      | some q => if p = q + 1 then run ++ [p] else [p]
    if run.length = n then some run else findRun n run rest

/-- Where the copied segments of an entry go: its pages or leases per ledge, and the entry with its addresses. -/
structure Placing where
  req : KeyReq
  entry : List Reg64
  parts : List (List Nat)
  bytes : List Nat
  lease : Bool
  deriving DecidableEq, Repr

/-- The bytes of ledge l's copied segment: the segment, and after ledge 0's the seeds. Seeds of a kind 3 entry lie in HBM beside
it. -/
def State.partBytes (s : State) (e : List Reg64) (l : Nat) : Nat :=
  s.segBytes e (keySetOf e) l + (if l = 0 ∧ keySeeded e ∧ keyKind e ≠ 3 then cdiv (seedBytes e (keySetOf e)) 32 * 32 else 0)

/-- A run of free key pages per ledge: free are pages of tenant 0 that hold no key and are not named already. -/
def State.placePages (s : State) (e : List Reg64) (taken : List Nat) : Option (List (List Nat)) :=
  [0, 1, 2, 3].foldl (fun acc l =>
    match acc with
    | none => none
    | some parts =>
      let n := cdiv (s.partBytes e l) (2 ^ 21)
      let used := taken ++ parts.flatten ++ s.allKeyPages
      let free := (s.diePages (l / 2)).filter (fun p => decide (s.pageOwner (p * 2 ^ 21) = 0) && !used.contains p)
      if n = 0 then some (parts ++ [[]]) else (findRun n [] free).map (fun r => parts ++ [r])) (some [])

/-- A run of FREE leases per Basin. -/
def State.placeLeases (s : State) (e : List Reg64) (taken : List Nat) : Option (List (List Nat)) :=
  [0, 1, 2, 3].foldl (fun acc l =>
    match acc with
    | none => none
    | some parts =>
      let n := cdiv (s.segBytes e (keySetOf e) l) (2 ^ 17)
      let free := (List.range 4096).filter (fun i => decide ((s.lease l i).st = .free) && !taken.contains (4096 * l + i))
      if n = 0 then some (parts ++ [[]]) else (findRun n [] free).map (fun r => parts ++ [r])) (some [])

/-- The entry that is installed: TENANT, KEY_TAG and the new addresses (R422). A seed goes behind ledge 0's segment; a kind 3
entry's seed keeps the place it names. -/
def State.placedEntry (s : State) (t : Nat) (tag : Reg64) (e : List Reg64) (parts : List (List Nat)) (lease : Bool) : List Reg64 :=
  let unit := if lease then 2 ^ 17 else 2 ^ 21
  let at_ := fun l => ((parts.getD l []).headD 0) * unit
  let seed := at_ 0 + s.segBytes e (keySetOf e) 0
  let e0 := putBits (putBits (e.getD 0 0) 52 48 t) 57 56 (if lease then 1 else 2)
  [e0, e.getD 1 0, tag] ++ (List.range 4).map (fun l => BitVec.ofNat 64 (at_ l)) ++
    [if keySeeded e ∧ ¬ lease then BitVec.ofNat 64 seed else e.getD 7 0]

/-- An entry placed beside those placed before it. -/
def State.placeKey (s : State) (t : Nat) (tag : Reg64) (done : List Placing) (r : KeyReq) : Option Placing :=
  let lease := decide (keyKind r.dws = 3)
  let taken := (done.filter (fun p => decide (p.lease = lease))).flatMap (fun p =>
    if lease then (p.parts.zipIdx.map (fun x => x.1.map (· + 4096 * x.2))).flatten else p.parts.flatten)
  let parts := if lease then s.placeLeases r.dws taken else s.placePages r.dws taken
  parts.map (fun ps => ⟨r, s.placedEntry t tag r.dws ps lease, ps, (List.range 4).map (s.segBytes r.dws (keySetOf r.dws)), lease⟩)

/-- Every entry of a load placed, or none. -/
def State.placeAll (s : State) (t : Nat) (tag : Reg64) (rs : List KeyReq) : Option (List Placing) :=
  rs.foldl (fun acc r =>
    match acc with
    | none => none
    | some done => (s.placeKey t tag done r).map (fun p => done ++ [p])) (some [])

/-- The pages that placed entries take. -/
def placedPages (ps : List Placing) : Nat := ((ps.filter (fun p => !p.lease)).map (fun p => p.parts.flatten.length)).foldl (· + ·) 0

/-- The leases that placed entries take. -/
def placedLeases (ps : List Placing) : Nat := ((ps.filter (fun p => p.lease)).map (fun p => p.parts.flatten.length)).foldl (· + ·) 0

/-- The tenants whose keys may be evicted: those without a job, the least recently used first (R423). -/
def State.evictable (s : State) (t : Nat) : List Nat :=
  let l := ((List.range 16).map (· + 1)).filter (fun u =>
    decide (u ≠ t) && decide (s.tnState u = tnOpen) && !(s.tenantKeys u).isEmpty)
  (l.mergeSort (fun a b => decide ((s.tenant a).lastUse ≤ (s.tenant b).lastUse)))

/-- A placing found, evicting key sets one tenant after another as needed; none if that is not enough. -/
def State.placeEvicting (s : State) (t : Nat) (tag : Reg64) (rs : List KeyReq) : List Nat → Option (State × List Placing)
  | [] => (s.placeAll t tag rs).map (fun ps => (s, ps))
  | u :: rest =>
    match s.placeAll t tag rs with
    | some ps => some (s, ps)
    | none =>
      let s := (s.tenantKeys u).foldl (fun s k => s.dropKey u k) s
      s.placeEvicting t tag rs rest

/-- The staged bytes of ledge l's segment. -/
def State.stagedSeg (s : State) (r : KeyReq) (l : Nat) : List Byte :=
  s.hbmBytes (keySeg r.dws l) (s.segBytes r.dws (keySetOf r.dws) l)

/-- The digest that a manifest holds at an index (Table 16.5). -/
def manifestDigest (m : List Byte) (i : Nat) : Option (List Byte) :=
  if i < mfield m 16 2 then some ((m.drop (32 + 40 * i + 8)).take 32) else none

/-- Kwawekan's check of an entry's digests. -/
def State.digestsOk (s : State) (m : List Byte) (r : KeyReq) : Bool :=
  (List.range 4).all (fun l =>
    match manifestDigest m (r.digests.getD l 0) with
    | none => false
    | some d => decide ((sha3_256 ((s.stagedSeg r l).map BitVec.toNat)).map (BitVec.ofNat 8) = d))

/-- The seeds that an entry names, staged. -/
def State.stagedSeed (s : State) (r : KeyReq) : List Byte :=
  if keySeeded r.dws ∧ keyKind r.dws ≠ 3 then s.hbmBytes (keySeed r.dws) (seedBytes r.dws (keySetOf r.dws)) else []

/-- A placed entry copied and installed. -/
def State.installKey (s : State) (t : Nat) (p : Placing) : State :=
  let segs := (List.range 4).map (fun l => s.stagedSeg p.req l)
  let seed := s.stagedSeed p.req
  let s := if p.lease then
      (List.range 4).foldl (fun s l =>
        let ns := p.parts.getD l []
        let s := ns.foldl (fun s n => s.setLease l n ⟨.taken, 0⟩) s
        let m := s.basin l
        let words := (chunksOf 32 (segs.getD l [])).zipIdx
        s.setBasin l (words.foldl (fun m w => m.writeWord (ns.headD 0 * 2 ^ 17 + 32 * w.2) (ofBytes (w.1.map BitVec.toNat)) false) m)) s
    else
      let s := (List.range 4).foldl (fun s l => s.setHbmBytes (keySeg p.entry l) (segs.getD l [])) s
      s.setHbmBytes (keySeed p.entry) seed
  let x := s.tenant t
  let k := p.req.index
  let s := s.setTenant t (if p.lease then
      { x with keyLeases := x.keyLeases ++ (p.parts.zipIdx.flatMap (fun y => y.1.map (fun n => (k, 4096 * y.2 + n)))) }
    else { x with keyPages := x.keyPages ++ p.parts.flatten.map (fun n => (k, n)) })
  (s.setKey k p.entry).settleKeyRegs t

/-- What stops an entry of a KEY_LOAD as an argument: its form, a segment or seed outside the tenant's pages, an entry of another
tenant at its index. -/
def State.keyReqOk (s : State) (t : Nat) (r : KeyReq) : Bool :=
  let e := r.dws
  let old := s.keyEnt r.index
  let staged := putBits (e.getD 0 0) 57 56 2
  decide (r.index ≠ 0) && decide (1 ≤ keyKind e) && decide (keyKind e ≤ 6) &&
    s.keyShapeOk ([if keyKind e = 3 then putBits staged 57 56 1 else staged] ++ e.drop 1) &&
    (List.range 4).all (fun l => decide (keySeg e l % 32 = 0) && s.ownsRange t (keySeg e l) (s.segBytes e (keySetOf e) l)) &&
    (!keySeeded e || (decide (keySeed e % 32 = 0) && s.ownsRange t (keySeed e) (seedBytes e (keySetOf e)))) &&
    (old.isEmpty || decide (keyTenant old = t))

/-- KEY_LOAD (R422, R423): checks, room by eviction, digests, copy and installation. Sixteen leases count as a page of the
budget. An entry that is replaced goes only once the new one is in place. -/
def State.keyLoadCmd (s : State) (ws : List Reg64) : Reply :=
  let t := argTenant ws
  let k := getBits (ws.getD 0 0) 47 32
  let rs := keyReqs ws
  if !isTenant t then s.refuse stBadArgument
  else if s.tnState t = tnClosed ∨ rs.any (fun r => s.keyInUse r.index) then s.refuse stBadState
  else if ws.length ≠ 1 + 10 * k ∨ k = 0 ∨ (rs.map KeyReq.index).eraseDups.length ≠ k ∨ !rs.all (s.keyReqOk t) then
    s.refuse stBadArgument
  else
    let m := (s.tenant t).manifest
    let tag := (s.tenant t).tag
    let fresh := fun (k : Nat) => !(rs.map KeyReq.index).contains k
    let kept := (s.tenant t).keyPages.filter (fun p => fresh p.1)
    let keptLeases := (s.tenant t).keyLeases.filter (fun p => fresh p.1)
    let budget := s.rd (Fld.MGMT_TENANT_KEY_BUDGET t)
    match s.placeEvicting t tag rs (s.evictable t) with
    | none => s.refuse stNoResource
    | some (s2, ps) =>
      let need := kept.length + placedPages ps + cdiv (keptLeases.length + placedLeases ps) 16
      if budget ≠ 0x3FFFF ∧ budget < need then s.refuse stNoResource
      else if s.sealLocked ∨ !rs.all (s.digestsOk m) then
        (s2.fillPages (ps.flatMap (fun p => if p.lease then [] else p.parts.flatten))).refuse stAuthFail
      else
        let s3 := (rs.filter (fun r => !(s.keyEnt r.index).isEmpty)).foldl (fun s r => s.dropKey t r.index) (s2.journal 0x40 t)
        ⟨ps.foldl (fun s p => s.installKey t p) s3, stOk, [BitVec.ofNat 64 k]⟩

/-- KEY_EVICT: named entries of the tenant removed, their pages freed (R409, R423). -/
def State.keyEvictCmd (s : State) (ws : List Reg64) : Reply :=
  let t := argTenant ws
  let k := getBits (ws.getD 0 0) 47 32
  let idx := (List.range k).map (fun i => getBits (ws.getD (1 + i / 4) 0) (16 * (i % 4) + 11) (16 * (i % 4)))
  if !isTenant t then s.refuse stBadArgument
  else if s.tnState t = tnClosed ∨ idx.any (fun i => s.keyInUse i) then s.refuse stBadState
  else if ws.length ≠ 1 + cdiv k 4 ∨ !idx.all (fun i => decide (keyTenant (s.keyEnt i) = t)) then s.refuse stBadArgument
  else (idx.foldl (fun s i => s.dropKey t i) (s.journal 0x41 t)).accept

end Sys2Proof.Machine
end

