-- ==== Sys2Proof/Machine/Services.lean ====
section
/-! DEFINITION. Service mode: intake, batches, results (R417-R421 of spec/15_matumon.md). -/

namespace Sys2Proof.Machine

/-- The gangs of a tenant's job in order. -/
def Job.list (j : Job) : List Nat := gangsOf j.gangs

/-- The service of a tenant changed. -/
def State.onSvc (s : State) (t : Nat) (f : Service → Service) : State :=
  s.setTenant t { s.tenant t with svc := (s.tenant t).svc.map f }

/-- The codes of MGMT_TENANT.INTAKE. -/
def inOpen : Nat := 1
def inClosed : Nat := 2

/-- Accepted requests that no batch has taken (R421). -/
def Service.backlog (v : Service) : Nat := (v.accepted.filter (fun x => !x.1.isEmpty)).length

/-- Intake closed for a reason: logged once per closure; a service that is closing or has ended keeps the later reason
(R421). -/
def State.closeIntake (s : State) (t reason : Nat) : State :=
  let x := s.tenant t
  let backlog := (x.svc.map Service.backlog).getD 0
  let gang := ((x.job.map Job.list).getD []).headD 0
  if s.rd (Fld.MGMT_TENANT_INTAKE t) = inOpen then
    ((s.wr (Fld.MGMT_TENANT_INTAKE t) inClosed).wr (Fld.MGMT_TENANT_CLOSE_REASON t) reason).log 0x1A 3 gang 0x3F t
      (reason * 2 ^ 56 + backlog) 0
  else if s.rd (Fld.MGMT_TENANT_INTAKE t) = inClosed ∧ s.rd (Fld.MGMT_TENANT_CLOSE_REASON t) < reason ∧ 3 ≤ reason then
    s.wr (Fld.MGMT_TENANT_CLOSE_REASON t) reason
  else s

/-- Intake opened again: closed as BACKLOG or STARVED, the backlog below INTAKE_LOW (R421). -/
def State.reopenIntake (s : State) (t : Nat) : State :=
  let backlog := ((s.tenant t).svc.map Service.backlog).getD 0
  if s.rd (Fld.MGMT_TENANT_INTAKE t) = inClosed ∧ s.rd (Fld.MGMT_TENANT_CLOSE_REASON t) ≤ 2 ∧ backlog < s.rd Fld.MGMT_CFG_INTAKE_LOW ∧
      s.coreRuns 1 then
    (s.wr (Fld.MGMT_TENANT_INTAKE t) inOpen).wr (Fld.MGMT_TENANT_CLOSE_REASON t) 0
  else s

/-- Records that the result ring holds. -/
def State.resOcc (s : State) (t : Nat) : Nat :=
  (s.rd (Fld.MGMT_SVC_PTR_RES_TAIL t) + 65536 - s.rd (Fld.MGMT_SVC_PTR_RES_HEAD t)) % 65536

/-- Requests that the request ring holds. -/
def State.reqOcc (s : State) (t : Nat) : Nat :=
  (s.rd (Fld.MGMT_SVC_PTR_REQ_TAIL t) + 65536 - s.rd (Fld.MGMT_SVC_PTR_REQ_HEAD t)) % 65536

/-- One result record written at RES_TAIL. -/
def State.putResult (s : State) (t : Nat) (v : Service) (r : List Reg64) : State :=
  let tail := s.rd (Fld.MGMT_SVC_PTR_RES_TAIL t)
  (s.setHbmDwords (v.resBase + tail % 2 ^ v.resLog * 128) r).wr (Fld.MGMT_SVC_PTR_RES_TAIL t) (tail + 1)

/-- Finished results written while their ring has room; a record is never overwritten (R420). -/
def State.flushResults (s : State) (t : Nat) : State :=
  match (s.tenant t).svc with
  | none => s
  | some v =>
    let n := min v.finished.length (2 ^ v.resLog - s.resOcc t)
    let s := (v.finished.take n).foldl (fun s r => s.putResult t v r) s
    s.onSvc t (fun v => { v with finished := v.finished.drop n })

/-- A result record (Table 15.9). -/
def resultRecord (req : List Reg64) (status time : Nat) (out : List Reg64) : List Reg64 :=
  let d := req.getD 0 0
  let outs := (List.range 5).map (fun i => out.getD i 0)
  [BitVec.ofNat 64 (getBits d 63 32 * 2 ^ 32 + status * 2 ^ 24 + getBits d 15 8 * 2 ^ 8), req.getD 1 0, BitVec.ofNat 64 time,
    0, 0, 0, 0, 0] ++ outs ++ [0, 0, 0]

/-- Results made for requests. -/
def State.finish (s : State) (t status : Nat) (reqs : List (List Reg64)) : State :=
  (s.onSvc t (fun v => { v with
    finished := v.finished ++ reqs.map (fun r => resultRecord r status s.power.time []) })).flushResults t

/-- REQ_HEAD moved past requests that are answered already. -/
def State.skipAnswered (s : State) (t : Nat) : State :=
  match (s.tenant t).svc with
  | none => s
  | some v =>
    let n := (v.accepted.takeWhile (fun x => x.1.isEmpty)).length
    (s.onSvc t (fun v => { v with accepted := v.accepted.drop n })).wr (Fld.MGMT_SVC_PTR_REQ_HEAD t)
      (s.rd (Fld.MGMT_SVC_PTR_REQ_HEAD t) + n)

/-- The bytes of an object that lies packed outside the Pools (R62, R78). -/
def packedBytes (d : List Nat) : Nat :=
  if kindOf d = 3 then (Peb.ofDesc d).span else (Obj.ofDesc d).total * (Obj.ofDesc d).polys * (4 * (Obj.ofDesc d).n)

/-- The shape check of an input descriptor (R418). -/
def State.requestOk (s : State) (t : Nat) (r : List Reg64) : Bool :=
  let d := (r.drop 8).map BitVec.toNat
  let space := dw d 1 3 2
  decide (1 ≤ kindOf d) && decide (kindOf d ≤ 3) && decide (space = 2) && s.ownsRange t (d.getD 3 0) (packedBytes d)

/-- A request record accepted into the ring (R417, R418, R421, R454). -/
def State.acceptRecord (s : State) (t : Nat) (r : List Reg64) : State :=
  match (s.tenant t).svc with
  | none => s
  | some v =>
    let tail := s.rd (Fld.MGMT_SVC_PTR_REQ_TAIL t)
    let s := (s.setHbmDwords (v.reqBase + tail % 2 ^ v.reqLog * 128) r).wr (Fld.MGMT_SVC_PTR_REQ_TAIL t) (tail + 1)
    if s.requestOk t r then
      let s := s.onSvc t (fun v => { v with accepted := v.accepted ++ [(r, s.power.time)] })
      if s.rd Fld.MGMT_CFG_INTAKE_HIGH ≤ v.backlog + 1 then s.closeIntake t 1 else s
    else
      ((s.onSvc t (fun v => { v with accepted := v.accepted ++ [([], s.power.time)] })).finish t 2 [r]).skipAnswered t

/-- Whether a tenant's service runs. -/
def State.svcRuns (s : State) (t : Nat) : Bool :=
  match (s.tenant t).job with
  | some j => j.service && j.ended.isNone
  | none => false

/-- The MODEL of a request. -/
def modelOf (r : List Reg64) : Nat := getBits (r.getD 0 0) 15 8

/-- The batch that the oldest requests form: how many entries of the ring it spans, and its requests (R419). -/
def takeBatch (max : Nat) : List (List Reg64 × Nat) → Nat → List (List Reg64) → Nat × List (List Reg64)
  | [], n, got => (n, got)
  | x :: rest, n, got =>
    if x.1.isEmpty then takeBatch max rest (n + 1) got
    else if max ≤ got.length ∨ (got ≠ [] ∧ modelOf (got.headD []) ≠ modelOf x.1) then (n, got)
    else takeBatch max rest (n + 1) (got ++ [x.1])

/-- The lowest logical bench of a job, whose Weirs 0x7FE and 0x7FF serve the hand-off. -/
def Job.firstBench (j : Job) : Nat := 4 * (j.list.headD 0)

/-- Where the record of batch k lies. -/
def Service.recordAt (v : Service) (k : Nat) : Nat := v.batchBase + (k - 1) % 2 ^ v.batchLog * (64 + 128 * v.batchMax)

/-- A batch written and signalled (R419). -/
def State.writeBatch (s : State) (t : Nat) (j : Job) (v : Service) (span : Nat) (reqs : List (List Reg64)) : State :=
  let k := v.dispatched + 1
  let a := v.recordAt k
  let dw0 := k % 2 ^ 32 * 2 ^ 32 + modelOf (reqs.headD []) * 2 ^ 24 + reqs.length % 256 * 2 ^ 16
  let s := s.setHbmDwords a [BitVec.ofNat 64 dw0, 0, 0, 0, 0, 0, 0, 0]
  let s := reqs.zipIdx.foldl (fun s r => s.setHbmDwords (a + 64 + 128 * r.2) (r.1.drop 8)) s
  let s := s.wr (Fld.MGMT_SVC_PTR_REQ_HEAD t) (s.rd (Fld.MGMT_SVC_PTR_REQ_HEAD t) + span)
  let s := s.onSvc t (fun v => { v with
    accepted := v.accepted.drop span, dispatched := k, batches := v.batches ++ [⟨k, reqs⟩], finalSent := v.finalSent || reqs.isEmpty })
  (s.reopenIntake t).sendWeir j.firstBench 0x7FE .signal 1 ⟨noBench, false, 0⟩

/-- A batch dispatched if there is a place for it and, unless all that waits is due, it is full (R419-R421). -/
def State.dispatch (s : State) (t : Nat) (due : Bool) : State :=
  match (s.tenant t).job, (s.tenant t).svc with
  | some j, some v =>
    let b := takeBatch v.batchMax v.accepted 0 []
    if !s.svcRuns t ∨ ¬ s.coreRuns 1 ∨ v.finished ≠ [] ∨ 2 ^ v.batchLog ≤ v.dispatched - v.doneSeen ∨ v.finalSent then s
    else if b.2.isEmpty then
      (if v.quiesce ∧ v.batches.isEmpty then s.writeBatch t j v b.1 [] else s)
    else if due ∨ v.quiesce ∨ v.batchMax ≤ b.2.length then s.writeBatch t j v b.1 b.2
    else s
  | _, _ => s

/-- The result records of a done batch: the output descriptors as the program wrote them. -/
def State.batchResults (s : State) (v : Service) (b : Batch) : List (List Reg64) :=
  b.requests.zipIdx.map (fun r =>
    let a := v.recordAt b.number + 64 + 128 * r.2 + 64
    resultRecord r.1 0 s.power.time ((List.range 5).map (fun i => s.hbmDword (a + 8 * i))))

/-- DONE read: results of every newly done batch (R419, R420). -/
def State.donePollNow (s : State) (t : Nat) : State :=
  match (s.tenant t).job, (s.tenant t).svc with
  | some j, some v =>
    if !s.svcRuns t ∨ ¬ s.coreRuns 1 then s
    else
      let count := (s.bench (s.physOf j.firstBench)).weir 0x7FF
      let n := min count v.dispatched
      let done := v.batches.filter (fun b => decide (b.number ≤ n))
      let out := done.flatMap (s.batchResults v)
      (s.onSvc t (fun v => { v with
        doneSeen := max v.doneSeen n, batches := v.batches.filter (fun b => decide (n < b.number)), finished := v.finished ++ out })).flushResults t
  | _, _ => s

/-- INTAKE_STARVED (R421). -/
def State.starveIntake (s : State) (t : Nat) : State := if s.svcRuns t then s.closeIntake t 2 else s

/-- Every accepted request that has no answer, oldest first. -/
def Service.unanswered (v : Service) : List (List Reg64) :=
  v.batches.flatMap Batch.requests ++ (v.accepted.map Prod.fst).filter (fun r => !r.isEmpty)

/-- The end of a service: intake is closed, and what has no answer is answered KILLED (R421). -/
def State.endService (s : State) (t : Nat) : State :=
  match (s.tenant t).svc with
  | none => s
  | some v =>
    let s := s.closeIntake t 4
    let s := s.wr (Fld.MGMT_SVC_PTR_REQ_HEAD t) (s.rd (Fld.MGMT_SVC_PTR_REQ_HEAD t) + v.accepted.length)
    (s.onSvc t (fun v => { v with accepted := [], batches := [] })).finish t 1 v.unanswered

/-- SERVICE_CLOSE (R421). -/
def State.serviceCloseCmd (s : State) (ws : List Reg64) : Reply :=
  let t := argTenant ws
  if ws.length ≠ 1 ∨ !isTenant t then s.refuse stBadArgument
  else if !s.svcRuns t then s.refuse stBadState
  else (((s.journal 0x31 t).closeIntake t 3).onSvc t (fun v => { v with quiesce := true })).accept

end Sys2Proof.Machine
end

