-- ==== Sys2Proof/Machine/Jobs.lean ====
section
/-! DEFINITION. Jobs: start from an image, end, clearing, debug retention, the Pool dump (R407-R416 of spec/15_matumon.md). -/

namespace Sys2Proof.Machine

/-- The physical benches of a set of gangs, in increasing logical order. -/
def State.maskBenches (s : State) (gangs : Nat) : List Nat := (gangsOf gangs).flatMap s.gangBenches

/-- A doubleword of a bench's record in a job image (Table 15.6). -/
def State.imageDw (s : State) (image i k : Nat) : Reg64 := s.hbmDword (image + 0x40 + 128 * i + 8 * k)

/-- The sizes of the targets of the eight sections, in bytes. -/
def sectionLimits : List Nat := [262144, 32768, 16384, 131072, 262144, 128, 2048, 2048]

/-- A section: its address and its length. -/
def State.section_ (s : State) (image i k : Nat) : Nat × Nat :=
  let d := s.imageDw image i k
  (image + 32 * getBits d 63 32, getBits d 31 0)

/-- Whether a section fits its target and lies in the tenant's pages. -/
def State.sectionOk (s : State) (t image i k : Nat) : Bool :=
  let x := s.section_ image i k
  decide (x.2 = 0) || (decide (x.2 ≤ sectionLimits.getD k 0) && s.ownsRange t x.1 x.2)

/-- The checks on a job image (Tables 15.5 and 15.6). -/
def State.imageOk (s : State) (t image gangs : Nat) : Bool :=
  let n := 4 * popcount gangs 16
  let dw0 := s.hbmDword image
  decide (image % 4096 = 0) && s.ownsRange t image (0x40 + 128 * n) && decide (getBits dw0 63 48 = 1) && decide (getBits dw0 47 40 = n) &&
    (List.range n).all (fun i => (List.range 8).all (fun k => s.sectionOk t image i k))

/-- The bytes of a section. -/
def State.sectionBytes (s : State) (image i k : Nat) : List Byte :=
  let x := s.section_ image i k
  s.hbmBytes x.1 x.2

/-- A memory that holds a section from its start and zeros behind it. -/
def loadedMem (l : List Byte) : EMem := ⟨Mem.zero.writeBytes 0 l, []⟩

/-- A table that holds a section; its entry 0 is not written (R118). -/
def loadedTable (l : List Byte) : EMem := ⟨Mem.zero.writeBytes 64 (l.drop 64), []⟩

/-- Doubleword j of a section, zero where the section does not reach. -/
def sectionDw (l : List Byte) (j : Nat) : Reg64 := BitVec.ofNat 64 (ofBytes (((l.drop (8 * j)).take 8).map BitVec.toNat))

/-- A register write that is dropped where its register refuses it. -/
def State.tryWrite (s : State) (f : State → Option State) : State := (f s).getD s

/-- One bench loaded from its record (R410). -/
def State.loadBench (s : State) (image i pb : Nat) : State :=
  let sec := fun k => s.sectionBytes image i k
  let d := fun k => s.imageDw image i k
  let rings := sec 5
  let routes := sec 6
  let hands := sec 7
  let s := s.onBench pb (fun b => { b with
    cmdMem := loadedMem (sec 0), descTab := loadedTable (sec 1), loopTab := loadedTable (sec 2), imem := loadedMem (sec 3)
    dmem := loadedMem (sec 4) })
  let s := s.rinseMessages pb
  let s := (List.range 16).foldl (fun s j => s.tryWrite (·.ringWrite pb j (sectionDw rings j))) s
  let s := (List.range 256).foldl (fun s j =>
    (s.tryWrite (·.routeWrite pb j (sectionDw routes j))).tryWrite (·.handlerWrite pb j (sectionDw hands j))) s
  let ctl : Reg64 := d 8 &&& 0x3FFFFFFFFFFFFFFF
  let s := s.tryWrite (·.ctlWrite pb ctl)
  let s := s.tryWrite (·.stallLimitWrite pb (BitVec.ofNat 64 (getBits (d 9) 63 32)))
  let s := s.tryWrite (·.fmCtlWrite pb (BitVec.ofNat 64 (getBits (d 9) 16 0)))
  (List.range 6).foldl (fun s j =>
    s.tryWrite (·.streamPcWrite pb j (BitVec.ofNat 64 (getBits (d (10 + j / 4)) (16 * (j % 4) + 15) (16 * (j % 4)))))) s

/-- MGMT_STATUS.JOBS and READY or ACTIVE brought in step (R406). -/
def State.settleJobs (s : State) : State :=
  let n := ((List.range 16).filter (fun t => (s.tenant (t + 1)).job.isSome)).length
  (s.wr Fld.MGMT_STATUS_JOBS n).settleActive

/-- Gangs put in a state. -/
def State.setGangs (s : State) (gangs st : Nat) : State := (gangsOf gangs).foldl (fun s g => s.wr (Fld.MGMT_GANG_STATE g) st) s

/-- The checks of JOB_START and SERVICE_OPEN up to the rings (Table 15.5): a status, 0 to go on. -/
def State.startVerdict (s : State) (ws : List Reg64) : Nat :=
  let t := argTenant ws
  let gangs := getBits (ws.getD 0 0) 31 16
  let image := (ws.getD 1 0).toNat
  if !isTenant t then stBadArgument
  else if s.tnState t ≠ tnOpen ∨ ¬ s.devOpen ∨ (gangsOf gangs).any (fun g => decide (s.rd (Fld.MGMT_GANG_STATE g) ≠ gangFree)) then
    stBadState
  else if gangs = 0 ∨ gangs &&& s.rd (Fld.MGMT_TENANT_GANG_ALLOW t) ≠ gangs ∨ ¬ s.imageOk t image gangs ∨
      ((ws.getD 0 0).getLsbD 8 ∧ ¬ s.flag (Fld.MGMT_TENANT_DEBUG_OK t)) then stBadArgument
  else stOk

/-- The gangs assigned, every bench loaded and started (R410). -/
def State.startJob (s : State) (vw : Nat) (ws : List Reg64) (service : Bool) : State :=
  let t := argTenant ws
  let keep := (ws.getD 0 0).getLsbD 8
  let gangs := getBits (ws.getD 0 0) 31 16
  let image := (ws.getD 1 0).toNat
  let s := s.setTenant t { s.tenant t with job := some ⟨gangs, vw, keep, image, service, none⟩, lastUse := s.power.time }
  let s := (s.wr (Fld.MGMT_TENANT_STATE t) tnJob).wrB (Fld.MGMT_TENANT_SERVICE t) service
  let s := (s.wrB (Fld.MGMT_TENANT_DEBUG_KEEP t) keep).wr (Fld.MGMT_TENANT_GANGS t) gangs
  let s := (gangsOf gangs).foldl (fun s g => s.wr (Fld.MGMT_GANG_TENANT g) t) (s.setGangs gangs gangAssigned)
  let s := s.settleJobs
  let benches := s.maskBenches gangs
  let s := benches.zipIdx.foldl (fun s x => s.loadBench image x.2 x.1) s
  benches.foldl (fun s pb =>
    match s.ctlWrite pb (s.reg (Reg.BENCH_CTL pb) ||| 0x8000000000000000) with
    | some s' => s'
    | none => s.accessError 17 true 0 1 0 (Reg.BENCH_CTL pb)) s

/-- JOB_START (R409, R410, R460). -/
def State.jobStartCmd (vw : Nat) (s : State) (ws : List Reg64) : Reply :=
  let v := s.startVerdict ws
  if v ≠ stOk then s.refuse v
  else if ws.length ≠ 2 then s.refuse stBadArgument
  else if 16 ≤ (s.view vw).endRecords.length then s.refuse stNoResource
  else ((s.journal 0x20 (argTenant ws)).startJob vw ws false).accept

/-- A ring argument: its base and its log. -/
def ringArg (w : Reg64) : Nat × Nat := (w.toNat / 2 ^ 21 * 2 ^ 21, getBits w 3 0)

/-- The service that the argument words describe (Tables 15.5 and 17.6). -/
def serviceOf (ws : List Reg64) : Service where
  reqBase := (ringArg (ws.getD 2 0)).1
  reqLog := (ringArg (ws.getD 2 0)).2
  resBase := (ringArg (ws.getD 3 0)).1
  resLog := (ringArg (ws.getD 3 0)).2
  batchBase := (ringArg (ws.getD 4 0)).1
  batchLog := (ringArg (ws.getD 4 0)).2
  batchMax := getBits (ws.getD 5 0) 8 0
  batchWait := getBits (ws.getD 5 0) 31 16
  sources := getBits (ws.getD 5 0) 48 32
  accepted := []
  dispatched := 0
  doneSeen := 0
  batches := []
  finished := []
  quiesce := false
  finalSent := false

/-- The checks on the service arguments (Table 15.5). -/
def State.serviceOk (s : State) (t : Nat) (v : Service) : Bool :=
  decide (1 ≤ v.reqLog) && decide (v.reqLog ≤ 15) && s.ownsRange 0 v.reqBase (128 * 2 ^ v.reqLog) &&
  decide (1 ≤ v.resLog) && decide (v.resLog ≤ 15) && s.ownsRange 0 v.resBase (128 * 2 ^ v.resLog) &&
  decide (1 ≤ v.batchMax) && decide (v.batchMax ≤ 256) && decide (1 ≤ v.batchWait) && decide (v.sources ≠ 0) &&
  decide (1 ≤ v.batchLog) && decide (v.batchLog ≤ 8) && s.ownsRange t v.batchBase (2 ^ v.batchLog * (64 + 128 * v.batchMax))

/-- SERVICE_OPEN: a job in service mode, its intake open (R409, R417, R460). -/
def State.serviceOpenCmd (vw : Nat) (s : State) (ws : List Reg64) : Reply :=
  let t := argTenant ws
  let v := s.startVerdict ws
  if v ≠ stOk then s.refuse v
  else if ws.length ≠ 6 ∨ ¬ s.serviceOk t (serviceOf ws) then s.refuse stBadArgument
  else if 16 ≤ (s.view vw).endRecords.length then s.refuse stNoResource
  else
    let s := (s.journal 0x30 t).setTenant t { s.tenant t with svc := some (serviceOf ws) }
    let s := (s.setReg (Reg.MGMT_SVC_PTR t) 0).startJob vw ws true
    ((s.wr (Fld.MGMT_TENANT_INTAKE t) inOpen).wr (Fld.MGMT_TENANT_CLOSE_REASON t) 0).accept

/-- The pages that a tenant owns. -/
def State.pagesOf (s : State) (t : Nat) : List Nat := (s.hbm.owners.filter (fun x => decide (x.2 = t))).map Prod.fst

/-- A Confluence entry or a Hall-map entry removed. -/
def State.dropTenantHall (s : State) (t : Nat) : State :=
  let mine := (s.hall.mapLo.filter (fun x => decide (getBits x.2 52 48 = t))).map Prod.fst
  { s with hall := { s.hall with
      cfl := s.hall.cfl.filter (fun x => decide (x.2.tenant ≠ t))
      mapLo := Sparse.keep s.hall.mapLo (fun k => !mine.contains k), mapHi := Sparse.keep s.hall.mapHi (fun k => !mine.contains k) } }

/-- Clearings that are done: every bench rinsed and the fill complete; the gangs become FREE, or OUT where they are not in service
(R412, R21). In restricted mode every gang stays OUT (R400). -/
def State.settleClearing (s : State) : State :=
  let done := fun (c : Nat × Nat × Nat) =>
    (s.maskBenches c.2.1).all (fun pb => decide ((s.bench pb).mode ≠ .rinsing)) &&
      s.hbm.fills.all (fun f => decide (f.purpose ≠ .clearing c.1))
  let now := s.power.time
  let s1 := { s with mgmt := { s.mgmt with clearing := s.mgmt.clearing.filter (fun c => !done c) } }
  (s.mgmt.clearing.filter done).foldl (fun s c =>
    (gangsOf c.2.1).foldl (fun s g =>
      let s := s.wr (Fld.MGMT_GANG_LAST_CLEAR_US g) (min (2 ^ 32 - 1) ((now - c.2.2) / 1000))
      if s.restrictedMode then s.wr (Fld.MGMT_GANG_STATE g) gangOut
      else (s.wr (Fld.MGMT_GANG_STATE g) gangFree).settleAvail g) s) s1

/-- What an ended job leaves, cleared step by step (R412). -/
def State.clearJob (s : State) (t gangs ended : Nat) : State :=
  let s := s.setGangs gangs gangRinsing
  let s := (s.maskBenches gangs).foldl (fun s pb => s.rinse pb) s
  let s := (s.freeTenantLeases t).dropTenantHall t
  let pages := s.pagesOf t
  let s := if pages.isEmpty then s else s.addFill pages (.clearing t)
  { s with mgmt := { s.mgmt with clearing := s.mgmt.clearing ++ [(t, gangs, ended)] } }.settleClearing

/-- A tenant without a job again. -/
def State.freeTenantJob (s : State) (t : Nat) : State :=
  let s := s.setTenant t { s.tenant t with job := none, lastUse := s.power.time }
  (((s.wr (Fld.MGMT_TENANT_STATE t) tnOpen).wrB (Fld.MGMT_TENANT_SERVICE t) false).wrB (Fld.MGMT_TENANT_DEBUG_KEEP t) false).wr
    (Fld.MGMT_TENANT_GANGS t) 0

/-- The lowest halted bench of a set of gangs: its logical number and HALT_CAUSE. -/
def State.haltedIn (s : State) (gangs : Nat) : Option (Nat × Nat) :=
  let ms := (gangsOf gangs).flatMap (fun g => (List.range 4).map (· + 4 * g))
  (ms.find? (fun m => decide ((s.bench (s.physOf m)).mode = .halted))).map (fun m => (m, (s.bench (s.physOf m)).haltCause))

/-- An end record (Table 17.5, KIND 2). -/
def State.endRecord (s : State) (t cause gangs : Nat) : List Reg64 :=
  let h := if cause = 3 ∨ cause = 4 then (s.haltedIn gangs).getD (0, 0) else (0, 0)
  [BitVec.ofNat 64 (cause * 2 ^ 60 + gangs * 2 ^ 32 + h.1 * 2 ^ 24 + h.2 * 2 ^ 16 + t), BitVec.ofNat 64 s.power.time, 0, 0, 0, 0, 0, 0]

/-- A job ends: the end record, the answers of a service, then retention or clearing (R411, R412, R415, R421). -/
def State.endJob (s : State) (t cause : Nat) : State :=
  match (s.tenant t).job with
  | none => s
  | some j =>
    if j.ended.isSome then s
    else
      let rec_ := s.endRecord t cause j.gangs
      let v := s.view j.starter
      let s := (s.journal 0x60 t).setView j.starter { v with endRecords := v.endRecords ++ [rec_] }
      let s := s.wr (Fld.MGMT_TENANT_LAST_END t) cause
      let s := if j.service then s.endService t else s
      let now := s.power.time
      if j.debugKeep then
        let s := s.setTenant t { s.tenant t with job := some { j with ended := some now } }
        let s := (s.wr (Fld.MGMT_TENANT_STATE t) tnKept).setGangs j.gangs gangKept
        ((s.maskBenches j.gangs).foldl (fun s pb => s.stopBench pb) s).settleJobs
      else ((s.freeTenantJob t).clearJob t j.gangs now).settleJobs

/-- JOB_END: Matumon acts on a cause that holds: every bench IDLE, a bench HALTED, a bench failed, a Hall order, a device held
(R411). -/
def State.jobEndNow (s : State) (t cause : Nat) : State :=
  match (s.tenant t).job with
  | none => s
  | some j =>
    let bs := s.maskBenches j.gangs
    let halted := fun (c : Nat → Bool) => bs.any (fun pb => decide ((s.bench pb).mode = .halted) && c (s.bench pb).haltCause)
    let holds := if cause = 0 then bs.all s.benchIdle
      else if cause = 3 then halted (fun c => decide (c ≠ 7))
      else if cause = 4 then halted (fun c => decide (c = 7))
      else if cause = 5 then true
      else if cause = 6 then s.restrictedMode
      else false
    if holds ∧ s.coreRuns 3 then s.endJob t cause else s

/-- JOB_KILL (R409). -/
def State.jobKillCmd (vw : Nat) (s : State) (ws : List Reg64) : Reply :=
  let t := argTenant ws
  if !isTenant t then s.refuse stBadArgument
  else if s.tnState t ≠ tnJob then s.refuse stBadState
  else if ws.length ≠ 1 then s.refuse stBadArgument
  else ((s.journal 0x21 t).endJob t (if vw = 0 then 2 else 1)).accept

/-- KEPT gangs released: the clearing runs (R415). -/
def State.releaseKept (s : State) (t : Nat) : State :=
  match (s.tenant t).job with
  | none => s
  | some j =>
    match j.ended with
    | none => s
    | some at_ => ((s.freeTenantJob t).clearJob t j.gangs at_).settleJobs

/-- JOB_RELEASE (R409, R415). -/
def State.jobReleaseCmd (s : State) (ws : List Reg64) : Reply :=
  let t := argTenant ws
  if !isTenant t then s.refuse stBadArgument
  else if s.tnState t ≠ tnKept then s.refuse stBadState
  else if ws.length ≠ 1 then s.refuse stBadArgument
  else ((s.journal 0x22 t).releaseKept t).accept

/-- The words of a Pool copied to pages, each with its mark. -/
def State.copyPool (s : State) (pb page : Nat) : State :=
  let pool := (s.bench pb).pool
  (List.range (2 ^ 21)).foldl (fun s i =>
    let w := pool.readWord (32 * i)
    s.setHbmWord (page * 2 ^ 21 + 32 * i) w.1 w.2) s

/-- DUMP_POOL (R416): the bench is reset, the dump program overwrites its tables with what is not stated, the Pool is copied. -/
def State.dumpPoolCmd (s : State) (ws : List Reg64) : Reply :=
  let m := getBits (ws.getD 0 0) 5 0
  let page := (ws.getD 1 0).toNat
  if s.rd (Fld.MGMT_GANG_STATE (m / 4)) ≠ gangKept then s.refuse stBadState
  else if ws.length ≠ 2 ∨ ¬ s.ownsRange 0 (page * 2 ^ 21) (2 ^ 26) then s.refuse stBadArgument
  else
    let pb := s.physOf m
    let s := ((s.journal 0x23 m).benchReset pb).benchResetDone pb
    let n := s.fresh
    let s := s.onBench pb (fun b => { b with
      cmdMem := ⟨Mem.free n, []⟩, descTab := ⟨Mem.free (n + 1), []⟩, loopTab := ⟨Mem.free (n + 2), []⟩ })
    ({ s with fresh := n + 3 }.copyPool pb page).accept

/-- HBM_FILL_COMPLETE: the fill at the head completes; the pages of a clearing get owner 0, a quarantined device notes that its HBM is
filled (R324, R383, R412). -/
def State.fillDone (s : State) : State :=
  match s.hbm.fills with
  | [] => s
  | j :: _ =>
    let s := s.fillHead
    match j.purpose with
    | .register => s
    | .clearing _ => (j.pages.foldl (fun s p => s.setPageOwner p 0) s).settleClearing
    | .quarantine => { s with mgmt := { s.mgmt with quarantineFilled := true } }

/-- RINSE_COMPLETE: the bench is IDLE, and a reset that waited for the end of the Rinse is already met (R114, R116). -/
def State.rinseDone (s : State) (pb : Nat) : State := (s.rinseComplete pb).settleClearing

end Sys2Proof.Machine
end

