-- ==== Sys2Proof/Machine/Firmware.lean ====
section
/-! DEFINITION. Matumon's firmware: watchdogs and restricted mode (R399, R400), staging (R402, R440), the driver handshake (R404,
R406), the first READY (R403, R440) of spec/15_matumon.md and spec/16_kwawekan.md. -/

namespace Sys2Proof.Machine

/-- A bit of CORE_UP set or cleared. -/
def State.setCoreUp (s : State) (k : Nat) (up : Bool) : State :=
  let u := s.rd Fld.MGMT_STATUS_CORE_UP
  s.wr Fld.MGMT_STATUS_CORE_UP (if up then u ||| 2 ^ k else u - (if bit u k then 2 ^ k else 0))

/-- A watchdog fed (R399). -/
def State.fedNow (s : State) (k : Nat) : State :=
  { s with mgmt := { s.mgmt with fed := Sparse.set (fun _ => 0) s.mgmt.fed k s.power.time } }

/-- WATCHDOG_FEED: the priority-0 task of a core that runs (R399). -/
def State.watchdogFeed (s : State) (k : Nat) : State := if s.coreRuns k then s.fedNow k else s

/-- The Ledger's data changed. -/
def State.onLedger (s : State) (f : LedgerData → LedgerData) : State :=
  { s with power := { s.power with ledger := f s.power.ledger } }

/-- The device held by the third watchdog expiry: every bench stopped, then rinsed; every core restarts in restricted mode; a TRIAL
image that has not reached READY loses the pointer (R400, R403). -/
def State.watchdogHold (s : State) : State :=
  let s := s.setDev devHeld 3
  let s := (List.range 68).foldl (fun s pb => s.stopBench pb) s
  let s := (List.range 68).foldl (fun s pb => s.rinse pb) s
  let s := (s.wr Fld.MGMT_STATUS_RESTRICTED 15).wr Fld.MGMT_STATUS_CORE_UP 0
  let s := [0, 1, 2, 3].foldl (fun s k => s.wrB (Fld.MGMT_WDOG_RESTARTING k) true) s
  if s.flag Fld.MGMT_FW_TRIAL then
    let other := s.rd Fld.MGMT_FW_OTHER_VERSION
    s.onLedger (fun d => { d with slot := 1 - d.slot, trial := false, version := other })
  else s

/-- The expiries of the last 600 s, the present one among them, by device time (R400). -/
def State.recentExpiries (s : State) : List Nat :=
  s.mgmt.expiries.filter (fun t => decide (s.power.time < t + 600 * 10 ^ 9)) ++ [s.power.time]

/-- The expiries kept. -/
def State.setExpiries (s : State) (l : List Nat) : State := { s with mgmt := { s.mgmt with expiries := l } }

/-- WATCHDOG_EXPIRY: the core resets and restarts, WATCHDOG is logged; a third expiry within 600 s holds the device (R399, R400). -/
def State.watchdogExpiry (s : State) (k pc : Nat) : State :=
  if !s.coreRuns k then s
  else
    let recent := s.recentExpiries
    let s := s.setExpiries recent
    let s := ((s.satInc (Fld.MGMT_WDOG_EXPIRIES k)).wr (Fld.MGMT_WDOG_LAST_PC k) pc).wrB (Fld.MGMT_WDOG_RESTARTING k) true
    let s := (s.setCoreUp k false).logAt 0x11 7 k (min 255 recent.length * 2 ^ 40 + pc) 0
    if 3 ≤ recent.length ∧ ¬ s.restrictedMode ∧ (s.devState = devHeld ∨ s.devOpen) then s.watchdogHold else s

/-- What a restricted M3 does (R400): every job ends, every lease is freed, all of local HBM is filled, every gang is OUT. -/
def State.restrictedDuties (s : State) : State :=
  let tenants := (List.range 16).map (· + 1)
  let s := tenants.foldl (fun s t => (s.endJob t 6).releaseKept t) s
  let s := [0, 1, 2, 3].foldl (fun s l =>
    s.clearLeases l ((s.ledges.leases.filter (fun x => decide (x.1 / 4096 = l) && decide (x.2.st = .taken))).map (fun x => x.1 % 4096))) s
  let s := s.addFill (List.range s.hbmPages) .register
  let s := (List.range 16).foldl (fun s g =>
    if s.rd (Fld.MGMT_GANG_STATE g) = gangRinsing then s else s.wr (Fld.MGMT_GANG_STATE g) gangOut) s
  (s.wr Fld.DEVCTL_GANG_AVAIL_AVAIL 0).settleJobs

/-- SVN_FLOOR raised at the first READY if the image locks rollback (R440). -/
def State.raiseFloor (s : State) : State :=
  let svn := s.rd Fld.SEAL_BOOT_IMAGE_SVN
  if s.kwa.rollback ∧ s.kwa.svnFloor < svn then { s with kwa := { s.kwa with svnFloor := svn } }.remeasure else s

/-- A TRIAL image confirmed at the first READY (R403). -/
def State.confirmTrial (s : State) : State :=
  if s.flag Fld.MGMT_FW_TRIAL then
    ((s.wrB Fld.MGMT_FW_TRIAL false).onLedger (fun d => { d with trial := false })).remeasure
  else s

/-- READY is reached. -/
def State.reachReady (s : State) : State := ((s.setDev devReady 0).settleActive).confirmTrial.raiseFloor

/-- Matumon answers a version offer (R404, R406). -/
def State.answerOffer (s : State) (vw : Nat) : State :=
  let s := s.setView vw { s.view vw with offer := false }
  let major := s.rd (Fld.MGMT_DRV_VERSION_DRV_MAJOR vw)
  let minor := s.rd (Fld.MGMT_DRV_VERSION_DRV_MINOR vw)
  let dev := s.rd Fld.DEVCTL_ID_IF_MAJOR
  let held := decide (vw = 0) && decide (s.devState = devHeld)
  let cause := s.rd Fld.MGMT_STATUS_HELD_CAUSE
  if major = dev then
    let s := (s.wr (Fld.MGMT_DRV_VERSION_RESULT vw) 1).wr (Fld.MGMT_DRV_VERSION_NEG_MINOR vw)
      (min minor (s.rd Fld.DEVCTL_ID_IF_MINOR))
    if held ∧ (cause = 1 ∨ cause = 2) then s.reachReady else s
  else
    let s := (s.wr (Fld.MGMT_DRV_VERSION_RESULT vw) 2).log 0x12 9 vw 0x3F (s.boundTenant vw) (major * 2 ^ 8 + dev) minor
    if held ∧ cause = 1 then s.setDev devHeld 2 else s

/-- Whether Matumon answers offers at present: out of CLEARING and FAILED, M0 running and not restricted (R400, R479). -/
def State.offersOpen (s : State) : Bool :=
  s.coreRuns 0 && !s.restrictedMode && !decide (s.devState = devClearing) && !decide (s.devState = devFailed)

/-- A version offered by a view: answered, or kept until Matumon answers (R404, R479). -/
def State.offerVersion (s : State) (vw : Nat) : State :=
  if s.offersOpen then s.answerOffer vw else s.setView vw { s.view vw with offer := true }

/-- The offers that wait are answered. -/
def State.answerOffers (s : State) : State :=
  if s.offersOpen then
    ((s.host.views.filter (fun v => v.2.offer)).map Prod.fst).foldl (fun s vw => s.answerOffer vw) s
  else s

/-- CORE_RESTART_DONE: the core runs again; changes are atomic here, so the journal holds nothing half-made (R398-R400). -/
def State.coreRestarted (s : State) (k : Nat) : State :=
  if !s.flag (Fld.MGMT_WDOG_RESTARTING k) then s
  else
    let s := ((s.wrB (Fld.MGMT_WDOG_RESTARTING k) false).setCoreUp k true).fedNow k
    let s := { s with mgmt := { s.mgmt with journal := [] } }
    if s.restrictedMode then (if k = 3 then s.restrictedDuties else s)
    else if k = 0 then s.answerOffers else s

/-- The check of R438 that an image fails, with its section; none where it authenticates. -/
def State.imageFault (s : State) (img : ImageCheck) : Option (Nat × Nat) :=
  let low := decide (img.svn.toNat < s.kwa.svnFloor)
  match img.failed with
  | none => if low then some (3, 0) else none
  | some c => if low ∧ 3 ≤ c.1.toNat then some (3, 0) else some (c.1.toNat, c.2.toNat)

/-- FIRMWARE_AUTH_FAIL (Table 19.5). -/
def State.authFail (s : State) (slot : Nat) (staging : Bool) (f : Nat × Nat) (img : ImageCheck) : State :=
  s.logAt 0x13 0 0 (slot * 2 ^ 63 + b2n staging * 2 ^ 62 + f.1 * 2 ^ 56 + f.2 * 2 ^ 48 + img.version.toNat * 2 ^ 32 +
    img.svn.toNat * 2 ^ 16 + s.kwa.svnFloor) 0

/-- The NOR address of an image slot (Table 18.7). -/
def slotBase (slot : Nat) : Nat := 0x1000000 * (1 + slot)

/-- FW_STAGE (R402, R409, R464): the image goes into the slot that is not booted; the answer waits for the verification. -/
def State.stageFirmware (s : State) (vw : Nat) : State :=
  match (s.view vw).cmd with
  | none => s
  | some c =>
    if !c.passed ∨ c.code ≠ 0x50 ∨ ¬ s.coreRuns 0 ∨ (s.mgmt.staged.map (· / 2)) = some vw then s
    else if (vw ≠ 0 ∧ vw ≠ 16) ∨ (vw = 0 ∧ ¬ s.shaken 0) then s.mgmtAnswer vw stNotPermitted []
    else if s.restrictedMode ∨ s.mgmt.staged.isSome then s.mgmtAnswer vw stBadState []
    else if 2 ^ 24 < c.length then s.mgmtAnswer vw stBadArgument []
    else
      let slot := 1 - s.rd Fld.MGMT_FW_SLOT
      let bytes := c.words.flatMap (fun w => (toBytes 8 w.toNat).map (BitVec.ofNat 8))
      let s := { s with power := { s.power with nor := s.power.nor.writeBytes (slotBase slot) bytes } }
      let s := { s with mgmt := { s.mgmt with staged := some (2 * vw + slot) } }
      ((s.wrB Fld.MGMT_FW_STAGING true).wr Fld.MGMT_FW_STAGE_RESULT 0).wr Fld.MGMT_FW_OTHER_VERSION 0

/-- The answer to a staging; none where a reset of its function has discarded it (R465). -/
def State.answerStage (s : State) (vw st : Nat) : State := if vw ≤ 16 then s.mgmtAnswer vw st [] else s

/-- FW_STAGE_VERIFIED: the Ledger points at the new slot with TRIAL, or FIRMWARE_AUTH_FAIL is logged (R402, R440). A fault of
Kwawekan is a signature that did not verify. -/
def State.stageVerified (s : State) (img : ImageCheck) (fault : Bool) : State :=
  match s.mgmt.staged with
  | none => s
  | some v =>
    let slot := v % 2
    let s := { s with mgmt := { s.mgmt with staged := none } }.wrB Fld.MGMT_FW_STAGING false
    let broken := fault || s.sealLocked
    let s := if fault ∧ ¬ s.sealLocked then s.sealFault 1 else s
    match (if broken then some (2, 0) else s.imageFault img) with
    | none =>
      let s := s.onLedger (fun d => { d with slot := slot, trial := true, version := img.version.toNat })
      ((s.wr Fld.MGMT_FW_STAGE_RESULT 1).wr Fld.MGMT_FW_OTHER_VERSION img.version.toNat).answerStage (v / 2) stOk
    | some f => ((s.authFail slot true f img).wr Fld.MGMT_FW_STAGE_RESULT 2).answerStage (v / 2) stAuthFail

end Sys2Proof.Machine
end

