-- ==== Sys2Proof/Machine/Ledger.lean ====
section
/-! DEFINITION. The Ledger in the QSPI NOR (R481-R484 of spec/18_power_clock_reset.md). -/

namespace Sys2Proof.Machine

/-- The NOR address of a bank: 1 is A, 2 is B. -/
def bankBase (bank : Nat) : Nat := if bank = 2 then 0x40000 else 0

/-- Bytes of a bank. -/
def bankBytes : Nat := 0x40000

/-- A field of a bank. -/
def Mem.bankField (m : Mem) (bank off n : Nat) : Nat := m.readLE (bankBase bank + off) n

/-- The CRC-32C of a bank over all but its last four bytes. -/
def Mem.bankCrc (m : Mem) (bank : Nat) : Nat := crc32c (natBytes (m.readBytes (bankBase bank) (bankBytes - 4)))

/-- A bank is valid by MAGIC, FORMAT and CRC-32C (R482). -/
def Mem.bankValid (m : Mem) (bank : Nat) : Bool :=
  if m.bankField bank 0 4 ≠ 0x4C454447 then false
  else if m.bankField bank 4 2 ≠ 1 then false
  else decide (m.bankField bank (bankBytes - 4) 4 = m.bankCrc bank)

/-- The bank that the device takes: 0 none, 1 A, 2 B (R482). -/
def Mem.currentBank (m : Mem) : Nat :=
  let a := m.bankValid 1
  let b := m.bankValid 2
  let d := (m.bankField 2 8 4 + 2 ^ 32 - m.bankField 1 8 4) % 2 ^ 32
  if a && b then (if 1 ≤ d ∧ d < 2 ^ 31 then 2 else 1) else if a then 1 else if b then 2 else 0

/-- What a bank records (Table 18.7). -/
def Mem.readBank (m : Mem) (bank : Nat) : LedgerData where
  subst := (List.range 4).map (fun l => m.bankField bank (0x10 + 8 * l) 2)
  mapOut := m.bankField bank 0x40 32
  split := m.bankField bank 0x60 1
  role := m.bankField bank 0x80 1
  startMode := m.bankField bank 0x81 1
  partition := m.bankField bank 0x82 1
  deputy := decide (m.bankField bank 0x83 1 % 2 = 1)
  avsEn := decide (m.bankField bank 0x84 1 ≠ 0)
  devId := m.bankField bank 0x90 2
  watcher := m.bankField bank 0x92 2
  gen := m.bankField bank 0x94 2
  hallIdent := m.bankField bank 0x98 8
  slot := m.bankField bank 0xA0 1 % 2
  trial := decide (m.bankField bank 0xA1 1 ≠ 0)
  version := m.bankField bank 0xA2 2

/-- The fields of a bank with their places and sizes. -/
def ledgerFields (d : LedgerData) (seq : Nat) : List (Nat × Nat × Nat) :=
  [(0, 4, 0x4C454447), (4, 2, 1), (8, 4, seq), (0x40, 32, d.mapOut), (0x60, 1, d.split), (0x80, 1, d.role), (0x81, 1, d.startMode),
    (0x82, 1, d.partition), (0x83, 1, b2n d.deputy), (0x84, 1, b2n d.avsEn), (0x90, 2, d.devId), (0x92, 2, d.watcher),
    (0x94, 2, d.gen), (0x98, 8, d.hallIdent), (0xA0, 1, d.slot), (0xA1, 1, b2n d.trial), (0xA2, 2, d.version)] ++
    (List.range 4).map (fun l => (0x10 + 8 * l, 2, d.subst.getD l 0x7F00))

/-- A bank erased: no MAGIC is left. -/
def Mem.eraseBank (m : Mem) (bank : Nat) : Mem := m.clearRange (bankBase bank) bankBytes

/-- A run of bytes copied from one bank to another. -/
def Mem.copyBank (m : Mem) (src dst off n : Nat) : Mem :=
  m.writeBytes (bankBase dst + off) (m.readBytes (bankBase src + off) n)

/-- A bank written whole: the fields, the topology record and the lane calibration of the current bank, the CRC-32C (R481, R484). -/
def Mem.writeBank (m : Mem) (bank seq : Nat) (d : LedgerData) : Mem :=
  let cur := m.currentBank
  let m := m.eraseBank bank
  let m := (ledgerFields d seq).foldl (fun m f => m.writeLE (bankBase bank + f.1) f.2.1 f.2.2) m
  let m := if cur = 0 ∨ cur = bank then m else (m.copyBank cur bank 0x100 528).copyBank cur bank 0x1000 16384
  m.writeLE (bankBase bank + bankBytes - 4) 4 (m.bankCrc bank)

/-- The NOR stored. -/
def State.setNor (s : State) (m : Mem) : State := { s with power := { s.power with nor := m } }

/-- The Ledger's write stored. -/
def State.setLedgerOp (s : State) (op : Option LedgerOp) : State :=
  { s with power := { s.power with ledgerOp := op } }.wrB Fld.CLKPWR_LEDGER_WRITING op.isSome

/-- CLKPWR_LEDGER brought in step with the NOR (R482). -/
def State.showLedger (s : State) : State :=
  let m := s.power.nor
  let cur := m.currentBank
  let s := ((s.wr Fld.CLKPWR_LEDGER_BANK cur).wrB Fld.CLKPWR_LEDGER_VALID_A (m.bankValid 1)).wrB Fld.CLKPWR_LEDGER_VALID_B (m.bankValid 2)
  s.wr Fld.CLKPWR_LEDGER_SEQ (if cur = 0 then 0 else m.bankField cur 8 4)

/-- The Ledger read at a cold boot (R478, R482, R483). -/
def State.readLedger (s : State) : State :=
  let cur := s.power.nor.currentBank
  if s.rd Fld.CLKPWR_RESET_BOOT_SRC = 1 ∨ cur = 0 then
    (s.showLedger.wr Fld.CLKPWR_LEDGER_BANK 0).onLedger (fun _ => LedgerData.defaults)
  else s.showLedger.onLedger (fun _ => s.power.nor.readBank cur)

/-- The SEQ of the next write (R484). -/
def Mem.nextSeq (m : Mem) : Nat :=
  let seqs := ([1, 2].filter m.bankValid).map (fun b => m.bankField b 8 4)
  match seqs with
  | [] => 1
  | x :: rest => (rest.foldl max x + 1) % 2 ^ 32

/-- LEDGER_WRITE: the bank that is not current is erased and its write begins, one at a time (R484). -/
def State.ledgerWrite (s : State) : State :=
  if s.power.ledgerOp.isSome ∨ ¬ s.coreRuns 0 then s
  else
    let m := s.power.nor
    let bank := if m.currentBank = 1 then 2 else 1
    let op : LedgerOp := ⟨bank, m.nextSeq, false, s.power.ledger⟩
    let s := (s.setNor (m.eraseBank bank)).setLedgerOp (some op)
    s.wrB (if bank = 1 then Fld.CLKPWR_LEDGER_VALID_A else Fld.CLKPWR_LEDGER_VALID_B) false

/-- LEDGER_WRITE_COMPLETE: a bank that reads back right becomes current; a failed check is retried once (R484). -/
def State.ledgerDone (s : State) (ok : Bool) : State :=
  match s.power.ledgerOp with
  | none => s
  | some op =>
    if ok then
      let s := (s.setNor (s.power.nor.writeBank op.bank op.seq op.data)).setLedgerOp none
      let s := (s.wr Fld.CLKPWR_LEDGER_BANK op.bank).wr Fld.CLKPWR_LEDGER_SEQ op.seq
      let s := s.wrB (if op.bank = 1 then Fld.CLKPWR_LEDGER_VALID_A else Fld.CLKPWR_LEDGER_VALID_B) true
      (s.wr Fld.CLKPWR_LEDGER_LAST_WRITE 1).wrapInc Fld.CLKPWR_LEDGER_WRITES
    else if op.retried then (s.setLedgerOp none).wr Fld.CLKPWR_LEDGER_LAST_WRITE 2
    else s.setLedgerOp (some { op with retried := true })

/-- A power event cuts a write short: the bank is left complete or invalid (R484). -/
def State.ledgerCut (s : State) : State :=
  match s.power.ledgerOp with
  | none => s
  | some op =>
    let s1 := (s.skip).setLedgerOp none
    if Config.freeBool s.fresh then s1.setNor (s.power.nor.writeBank op.bank op.seq op.data) else s1

end Sys2Proof.Machine
end

