-- ==== Sys2Proof/Machine/Boot.lean ====
section
/-! DEFINITION. Power-up, boot, CLEARING, resets, the thermal trip (R403, R439 of spec/15_matumon.md and spec/16_kwawekan.md, R466-R480
of spec/18_power_clock_reset.md, R522 of spec/21_package_electrical.md). -/

namespace Sys2Proof.Machine

/-- Where the device stands with power stored. -/
def State.setPower (s : State) (st : PowerSt) : State := { s with power := { s.power with st := st } }

/-- FAILED with a cause (R480). -/
def State.fail (s : State) (cause : Nat) : State := (s.setDev devFailed 0).wr Fld.CLKPWR_RESET_FAIL_CAUSE cause

/-- HBM training shows which stacks are there; the channels of an absent one are marked for map-out (R325). -/
def State.trainHbm (s : State) : State :=
  (List.range 8).foldl (fun s x =>
    let here := Config.stackPresent x
    let s := s.wrB (Fld.DEVCTL_HBM_STACK_PRESENT x) here
    if here then s else (List.range 32).foldl (fun s c => s.markMapOut (32 * x + c) 1 0) s) s

/-- The boot of a device whose root clock runs: BOOT_SRC, the Ledger, HBM training (R478, Table 18.5). -/
def State.startBoot (s : State) (cold : Bool) : State :=
  if 2 ≤ s.rd Fld.CLKPWR_RESET_BOOT_SRC then s.fail 2
  else (if cold then s.readLedger else s.showLedger).trainHbm

/-- Device time starts and every PLL is locked (R485). -/
def State.clocksUp (s : State) : State :=
  let s := { s with power := { s.power with time := 0, frac := 0, root := 0, startTime := 0 } }
  ((s.wrB Fld.CLKPWR_CLK_ROOT_LOCK true).wrB Fld.CLKPWR_CLK_SER_LOCK true).wrB Fld.CLKPWR_CLK_PCIE_LOCK true

/-- ROOT_PLL_LOCK: device time starts and the device is in CLEARING, unless PERST_N holds it (R470, R476, R485). -/
def State.rootLock (s : State) : State :=
  if s.flag Fld.CLKPWR_CLK_ROOT_LOCK ∨ s.devState = devFailed then s
  else if s.power.st = .locking then (s.clocksUp.setPower .running).startBoot true
  else if s.power.st = .held then s.clocksUp
  else s

/-- PLL_LOCK_TIMEOUT (R470). -/
def State.lockTimeout (s : State) : State :=
  if s.power.st = .locking ∧ s.devState ≠ devFailed then s.fail 1 else s

/-- What an authenticated image sets: the seal, the running firmware, the cores, the macro stores of every bench (R151, R439). -/
def State.imageBooted (s : State) (img : ImageCheck) : State :=
  let slot := s.power.ledger.slot
  let fallback := s.flag Fld.MGMT_FW_FALLBACK
  let d := fun i => img.digests.getD i 0
  let s := (s.wr Fld.SEAL_BOOT_SLOT slot).wr Fld.SEAL_BOOT_RESULT (if fallback then 2 else 1)
  let s := (s.wr Fld.SEAL_BOOT_IMAGE_SVN img.svn.toNat).wr Fld.SEAL_BOOT_VERSION img.version.toNat
  let s := if s.sealLocked then s else s.wr Fld.SEAL_STATUS_STATE 1
  let s := [0, 1, 2].foldl (fun s k => s.setReg (Reg.SEAL_MEAS k) (d k)) s
  let s := ((s.wr Fld.MGMT_FW_SLOT slot).wrB Fld.MGMT_FW_TRIAL s.power.ledger.trial).wr Fld.MGMT_FW_VERSION img.version.toNat
  let s := if s.kwa.entropyDead then s else (s.wrB Fld.SEAL_ENTROPY_OK true).bump Fld.SEAL_ENTROPY_RESEEDS 1
  let s := { s with kwa := { s.kwa with rollback := img.rollbackLock }, mgmt := { s.mgmt with booted := true } }
  let s := [0, 1, 2, 3].foldl (fun s k => (s.setCoreUp k true).fedNow k) s
  let id : Reg64 := BitVec.ofNat 64 (2 ^ 63 + img.macroSlots.toNat * 2 ^ 48 + img.macroVersion.toNat * 2 ^ 32 + getBits (d 3) 31 0)
  ((List.range 68).foldl (fun s pb => s.setReg (Reg.BENCH_MACRO_ID pb) id) s).remeasure

/-- BOOT_IMAGE_VERIFIED: the image boots, or the other slot is tried, or the device fails (R403, R439). -/
def State.bootVerified (s : State) (img : ImageCheck) (fault : Bool) : State :=
  if !s.running ∨ s.devState ≠ devClearing ∨ s.mgmt.booted then s
  else if s.sealLocked then (s.wr Fld.SEAL_BOOT_RESULT 3).fail 4
  else if fault then
    let again := decide (s.mgmt.bootFaults ≠ 0)
    let s := s.sealFault 1
    let s := { s with mgmt := { s.mgmt with bootFaults := s.mgmt.bootFaults + 1 } }
    if again then (s.wr Fld.SEAL_BOOT_RESULT 3).fail 4 else s.wrB Fld.SEAL_BOOT_RETRIED true
  else
    match s.imageFault img with
    | none => s.imageBooted img
    | some f =>
      let slot := s.power.ledger.slot
      let s := s.authFail slot false f img
      if s.flag Fld.MGMT_FW_FALLBACK then (s.wr Fld.SEAL_BOOT_RESULT 3).fail 3
      else
        let s := (s.wrB Fld.MGMT_FW_FALLBACK true).wr Fld.SEAL_BOOT_SLOT (1 - slot)
        s.onLedger (fun d => { d with slot := 1 - slot, trial := false })

/-- The bench map that the Ledger records is applied (R23). -/
def State.applyMap (s : State) : State :=
  [0, 1, 2, 3].foldl (fun s l =>
    let v := s.power.ledger.subst.getD l 0x7F00
    let sub := bit v 7
    let s := (s.wrB (Fld.DEVCTL_LEDGE_MAP_SUBST l) sub).wr (Fld.DEVCTL_LEDGE_MAP_SUB_SLOT l) (if sub then v % 16 else 0)
    let s := s.wr (Fld.DEVCTL_LEDGE_MAP_RETIRED_PB l) (if sub then v / 256 % 128 else 0x7F)
    s.wrB (Fld.DEVCTL_LEDGE_MAP_SPARE_OK l) (!sub && (s.bench (17 * l + 16)).passed)) s

/-- The channels that serve: their stack is there, and neither the map-out list nor the self-test takes them out (R325). -/
def State.goodChannels (s : State) : Nat :=
  ((List.range 256).filter (fun c => s.flag (Fld.DEVCTL_HBM_STACK_PRESENT (c / 32)) && !bit s.power.ledger.mapOut c &&
    !s.flag (Fld.MEMC_CH_STATUS_PENDING c))).foldl (fun a c => a + 2 ^ c) 0

/-- Role, Hall identity and AVS_EN as the Ledger gives them (R361, R373, R469). -/
def State.applyIdentity (s : State) : State :=
  let d := s.power.ledger
  let sel := s.rd Fld.CLKPWR_RESET_ROLE_SEL
  let role := if d.role ≤ 2 then d.role else if sel = 3 then 0 else sel
  let here := decide (d.hallIdent ≠ 0)
  let s := ((s.wr Fld.HALL_ID_ROLE role).wr Fld.HALL_ID_PARTITION d.partition).wrB Fld.HALL_ID_DEPUTY d.deputy
  let s := if here then
      (((s.wr Fld.HALL_ID_DEV_ID d.devId).wr Fld.HALL_ID_GEN d.gen).wr Fld.HALL_ID_HEADWATER d.watcher).wr Fld.HALL_ID_STATE 2
    else s.wr Fld.HALL_ID_STATE 0
  let s := (s.wrB Fld.CLKPWR_VCORE_AVS_EN d.avsEn).wrB Fld.CLKPWR_TSYNC_SOURCE (decide (role = 2))
  if here ∧ role ≠ 2 then s.skip.wr Fld.CLKPWR_TSYNC_LINK (Config.freeWord s.fresh).toNat else s

/-- Whether a register counts errors or conflicts, or holds the address of one (R293). -/
def eccReg (k : Nat) : Bool :=
  let c := canon k
  decide (c = 0x100A00) || decide (c = 0x100A08) || decide (c = 0x100A28) || (decide (0x5040 ≤ c) && decide (c < 0x5080)) ||
    decide (c = 0x5088) || decide (c = 0xC0008) || decide (c = 0xC0010)

/-- The fabric ports are enabled. -/
def State.enablePorts (s : State) : State :=
  (List.range 64).foldl (fun s lk =>
    if s.linkExists lk then (s.wrB (Fld.FAB_PORT_CTL_ENABLE lk) true).linkEnableNow lk else s) s

/-- What CLEARING has done to the memories by its end: every bench rinsed, HBM filled, the counters zero (R293, R477). -/
def State.clearedMemories (s : State) : State :=
  let s := ((s.benches.filter (fun b => decide (b.2.mode = .rinsing))).map Prod.fst).foldl (fun s pb => s.rinseComplete pb) s
  ({ s with hbm := { s.hbm with mem := EMem.zero, owners := [], tg := [] } }.setFills []).resetRegs eccReg

/-- CLEARING_COMPLETE: Matumon has applied the Ledger; the device is HELD or READY, and offers are answered (R406, R479,
Table 18.5). -/
def State.clearingDone (s : State) : State :=
  if !s.running ∨ s.devState ≠ devClearing ∨ ¬ s.mgmt.booted then s
  else
    let s := s.clearedMemories.applyMap
    let s := (s.setActive s.goodChannels s.power.ledger.split).applyIdentity.enablePorts
    let hostless := decide (s.power.ledger.startMode = 1)
    let s := (s.wrB Fld.MGMT_STATUS_HOSTLESS hostless).wr Fld.CLKPWR_RESET_CLEAR_US ((s.power.time - s.power.startTime) / 1000)
    let s := if hostless then s.reachReady else s.setDev devHeld 1
    ((List.range 16).foldl (fun s g => s.settleAvail g) s).answerOffers

/-- The device without power: only the NOR and the fuses keep what they hold (Table 18.4). -/
def State.powerOff (s : State) : State :=
  let s := s.ledgerCut
  { State.reset with
    pending := s.pending, fresh := s.fresh, out := s.out
    power := { Power.reset with st := .off, nor := s.power.nor }
    kwa := { Seal.reset with svnFloor := s.kwa.svnFloor } }

/-- PWROK_FALL: a pulse under 100 ns is ignored, one of 1 µs or more is a fall, one between is either (R467, R522). -/
def State.pwrokFall (s : State) (ns : Nat) : State :=
  if s.power.st = .off ∨ ns < 100 then s
  else if 1000 ≤ ns then s.powerOff
  else if Config.freeBool s.fresh then s.skip.powerOff
  else s.skip

/-- PWROK_RISE: the straps are latched and the root PLL starts locking (R466, R478). -/
def State.pwrokRise (s : State) (bootSrc roleSel : Nat) : State :=
  if s.power.st ≠ .off then s
  else ((s.setPower .locking).wr Fld.CLKPWR_RESET_BOOT_SRC bootSrc).wr Fld.CLKPWR_RESET_ROLE_SEL roleSel

/-- A bench stopped by a reset or a trip, as by a hardware failure (R475, R476). -/
def State.killBench (s : State) (pb : Nat) : State :=
  let ok := (s.bench pb).passed
  (s.benchHwFailure pb).onBench pb (fun b => { b with passed := ok })

/-- Registers of the host views, whose state ends with the PCIe link (R465, R476). -/
def hostReg (k : Nat) : Bool :=
  let o := k % viewBit
  (decide (0x40000 ≤ o) && decide (o < 0x50000)) || decide (o = 0x60010)

/-- PERST_ASSERT: held in reset (R437, R476, R484). -/
def State.perstLow (s : State) : State :=
  if s.devState = devFailed then s
  else if s.power.st = .locking then s.setPower .held
  else if s.power.st ≠ .running then s
  else
    let s := (List.range 68).foldl (fun s pb => s.killBench pb) s.ledgerCut
    let s := (List.range 64).foldl (fun s lk =>
      if s.linkState lk = lkDisabled then s else s.leaveLink lk lkDetect 0 true) s
    let s := { s with
      host := HostIf.reset, net := Net.reset, primes := { s.primes with op := none }, kwa := { s.kwa with
        owner := none, queue := [], abandoned := [], entropyFailed := none, generated := 0, sessions := 0, ideKeys := [], challenge := none } }
    let s := ((s.wr Fld.MGMT_STATUS_CORE_UP 0).wrB Fld.CLKPWR_CLK_PCIE_LOCK false).resetRegs hostReg
    s.setPower .held

/-- The registers whose state a warm reset empties (R477, R509): error counters, keys, leases, tenants, gangs, tables of the Hall,
Kwawekan beside its counts since the cold reset, the firmware as it boots again. -/
def warmReg (k : Nat) : Bool :=
  let o := k % viewBit
  eccReg k || (decide (0x4000 ≤ o) && decide (o < 0x4080)) || (decide (0x5000 ≤ o) && decide (o < 0x5040)) ||
    (decide (0x60100 ≤ o) && decide (o < 0x60500)) || decide (o = 0x60000) || decide (o = 0x60018) ||
    (decide (0xA0100 ≤ o) && decide (o < 0xA0400)) || decide (o = 0xA0000) || decide (o = 0xA0020) || decide (o = 0xA0028) ||
    decide (o = 0x50010) || (decide (0x50020 ≤ o) && decide (o < 0x50040)) || decide (o = 0x50048) || decide (o = 0x60)

/-- PERST_RELEASE: a warm CLEARING (R429, R434, R477). -/
def State.perstHigh (s : State) : State :=
  if s.power.st ≠ .held then s
  else if ¬ s.flag Fld.CLKPWR_CLK_ROOT_LOCK then s.setPower .locking
  else
    let s := s.resetRegs warmReg
    let s := (List.range 68).foldl (fun s pb => s.rinse pb) s
    let s := { s with
      ledges := Ledges.reset
      hall := { Hall.reset with tribs := s.hall.tribs }
      mgmt := { Mgmt.reset with expiries := s.mgmt.expiries }
      hbm := { Hbm.reset with mem := s.hbm.mem, uncorr := s.hbm.uncorr }
      power := { s.power with st := .running, startTime := s.power.time, setPending := false, good := 0, badRun := 0 } }
    let s := (s.wrB Fld.CLKPWR_RESET_LAST true).wrapInc Fld.CLKPWR_RESET_WARM_COUNT
    let s := (s.wr Fld.CLKPWR_RESET_CLEAR_US 0).wrB Fld.CLKPWR_CLK_PCIE_LOCK true
    let s := if s.sealLocked then s else s.wr Fld.SEAL_STATUS_STATE 0
    let s := [0, 1, 2, 3].foldl (fun s k => s.wrB (Fld.MGMT_WDOG_RESTARTING k) false) s
    (((s.wrB Fld.SEAL_ENTROPY_OK false).wrB Fld.CLKPWR_TSYNC_LOCKED false).setFills []).startBoot false

/-- THERMAL_TRIP: every clock stops, every memory is unpredictable, THERMTRIP_N is low, the device has FAILED (R475). -/
def State.thermalTrip (s : State) (sensor deg : Nat) : State :=
  if s.power.thermtrip ∨ s.power.st = .off ∨ s.power.st = .locking then s
  else
    let s := s.logAt 0x16 0 0 (2 ^ 63 + 4 * 2 ^ 60 + sensor * 2 ^ 48 + deg * 2 ^ 40) 0
    let s := (List.range 68).foldl (fun s pb => s.benchHwFailure pb) s.ledgerCut
    let s := (List.range 68).foldl (fun s pb =>
      let n := s.fresh
      { s.onBench pb (fun b => { b with
          cmdMem := ⟨Mem.free n, []⟩, descTab := ⟨Mem.free (n + 1), []⟩, loopTab := ⟨Mem.free (n + 2), []⟩
          imem := ⟨Mem.free (n + 3), []⟩, dmem := ⟨Mem.free (n + 4), []⟩, slots := ⟨Mem.free (n + 5), []⟩ }) with fresh := n + 6 }) s
    let s := [0, 1, 2, 3].foldl (fun s l => s.skip.setBasin l ⟨Mem.free s.fresh, []⟩) s.freeHbm
    let s := (List.range 64).foldl (fun s lk => if s.linkState lk = lkDisabled then s else s.leaveLink lk lkDetect 0 true) s
    let s := { s with power := { s.power with thermtrip := true }, host := HostIf.reset }
    (s.wrB Fld.CLKPWR_CLK_PCIE_LOCK false).fail 5

end Sys2Proof.Machine
end

