-- ==== Sys2Proof/Machine/TimeSync.lean ====
section
/-! DEFINITION. Device time beyond its own clock: TSYNC, PPS, SET (R486, R487 of spec/18_power_clock_reset.md), and the pulse of each
whole second (R516 of spec/21_package_electrical.md). -/

namespace Sys2Proof.Machine

/-- Whether the device has an upstream on the management tree. -/
def State.hasUpstream (s : State) : Bool := !s.isChief && decide (s.rd Fld.HALL_ID_STATE ≠ 0)

/-- TSYNC_EXCHANGE: a TSYNC packet goes to the upstream device (R486). -/
def State.tsyncSend (s : State) : State :=
  let lk := s.rd Fld.CLKPWR_TSYNC_LINK
  if s.hasUpstream ∧ s.linkUp lk then s.emit (.tsync lk s.power.time) else s

/-- The offset of an exchange in ps (R486). -/
def tsyncOffset (t1 t2 t3 t4 : Nat) : Int := ((t2 : Int) - t1 - ((t4 : Int) - t3)) * 500

/-- OFFSET_PS; an offset beyond its 32 bits shows what the spec does not state. -/
def State.showOffset (s : State) (ps : Int) : State :=
  if -(2 ^ 31) ≤ ps ∧ ps < 2 ^ 31 then s.wr Fld.CLKPWR_TSYNC_OFFSET_PS (ofSigned 32 ps)
  else s.skip.wr Fld.CLKPWR_TSYNC_OFFSET_PS (Config.freeWord s.fresh).toNat

/-- The runs of exchanges within and outside ±5 ns, and LOCKED (R486). -/
def State.countExchange (s : State) (ps : Int) : State :=
  let near := decide (-5000 ≤ ps) && decide (ps ≤ 5000)
  let good := if near then s.power.good + 1 else 0
  let bad := if near then 0 else s.power.badRun + 1
  let s := { s with power := { s.power with good := good, badRun := bad } }
  if 16 ≤ good then s.wrB Fld.CLKPWR_TSYNC_LOCKED true
  else if 4 ≤ bad then s.wrB Fld.CLKPWR_TSYNC_LOCKED false
  else s

/-- Device time set by a step (R487). -/
def State.stepTime (s : State) (t : Nat) : State := { s with power := { s.power with time := t % 2 ^ 64, slew := 0 } }

/-- The correction that the servo slews: toward the upstream, by an amount that its law, which is not stated, decides (R486). -/
def State.slewTo (s : State) (ps : Int) : State :=
  let size := (Config.freeWord s.fresh).toNat % (ps.natAbs + 1)
  let amount : Int := if ps < 0 then -(size : Int) else size
  { s.skip with power := { s.power with slew := amount * 1000000, stepped := s.power.stepped && decide (1000000 < ps.natAbs) } }

/-- TSYNC_PACKET_RECEIVE: the offset, LOCKED, then one step beyond 1 µs, else the servo (R486, R487). -/
def State.tsyncReply (s : State) (t1 t2 t3 t4 : Nat) : State :=
  if !s.hasUpstream then s
  else
    let ps := tsyncOffset t1 t2 t3 t4
    let s := (s.showOffset ps).countExchange ps
    if 1000000 < ps.natAbs ∧ ¬ s.power.stepped then
      let s := s.stepTime ((s.power.time : Int) + ps / 1000).toNat
      { s with power := { s.power with stepped := true } }
    else s.slewTo ps

/-- RATE_PPB clamped to ±100,000. -/
def clampRate (w : Nat) : Nat := ofSigned 32 (max (-100000) (min 100000 (toSigned 32 w)))

/-- CLKPWR_TIME_SET taken over. -/
def State.loadTime (s : State) : State :=
  let s := s.stepTime (s.rd Fld.CLKPWR_TIME_SET_VALUE)
  { s with power := { s.power with setPending := false, ppsLast := if s.power.ppsLast = 0 then 0 else s.power.time + 1 } }

/-- PPS_EDGE: at the chief device time is captured, Matumon's servo sets RATE_PPB by a law that is not stated, a SET that waits takes
effect; an edge within half a second of the last one is ignored (R487). -/
def State.ppsRise (s : State) : State :=
  if !s.isChief ∨ (s.power.ppsLast ≠ 0 ∧ s.power.time + 1 < s.power.ppsLast + 500000000) then s
  else
    let s := (s.setReg Reg.CLKPWR_PPS (BitVec.ofNat 64 s.power.time)).wrB Fld.CLKPWR_TSYNC_PPS_OK true
    let s := { s with power := { s.power with ppsLast := s.power.time + 1 } }
    let s := s.skip.wr Fld.CLKPWR_TIME_CTL_RATE_PPB (clampRate ((Config.freeWord s.fresh).toNat % 2 ^ 32))
    if s.power.setPending then s.loadTime else s

/-- A SET at the chief: at the next PPS edge while PPS_OK is 1, else at once (R487). -/
def State.setTime (s : State) : State :=
  if !s.isChief then s
  else if s.flag Fld.CLKPWR_TSYNC_PPS_OK then { s with power := { s.power with setPending := true } }
  else s.loadTime

/-- A write of CLKPWR_TIME_CTL by Matumon. -/
def State.timeCtlWrite (s : State) (data : Reg64) : State :=
  let s := s.wr Fld.CLKPWR_TIME_CTL_RATE_PPB (clampRate (getBits data 31 0))
  if data.getLsbD 63 then s.setTime else s

/-- PPS_TIMEOUT: the chief free-runs; a SET that waits takes effect (R487). -/
def State.ppsLost (s : State) : State :=
  if !s.isChief ∨ ¬ s.flag Fld.CLKPWR_TSYNC_PPS_OK then s
  else
    let s := s.wrB Fld.CLKPWR_TSYNC_PPS_OK false
    if s.power.setPending then s.loadTime else s

/-- TRIG_OUT_SECOND: TRIG_OUT[0] pulses, but in OFF and FAILED (R516). -/
def State.secondPulse (s : State) : State :=
  if s.power.st = .off ∨ s.devState = devFailed then s else s.emit (.trigSecond s.power.time)

end Sys2Proof.Machine
end

