-- ==== Sys2Proof/Machine/Hall.lean ====
section
/-! DEFINITION. The Hall unit: heartbeats, fencing, admission, quarantine, the route and Hall-map tables, Confluence installs,
snapshots and the fabric reset (R361-R395, R425, R426 of spec/14_hall.md and spec/15_matumon.md). -/

namespace Sys2Proof.Machine

/-- The words of a register's fields; reserved bits are zero. -/
def fieldsOnly (k : Nat) (w : Reg64) : Reg64 :=
  (regFields k).foldl (fun a f => a ||| (w &&& fieldMask 64 f.hi f.lo)) 0

/-- A command register of the Hall tables (R366): COMMIT and READ act at once. -/
def State.tblCmd (s : State) (data : Reg64) : State :=
  let commit := data.getLsbD 63
  let read := data.getLsbD 62
  let i := getBits data 9 0
  let map := decide (getBits data 61 60 = 1)
  if commit && read then s.wrB Fld.HALL_TBL_STATUS_OVERRUN true
  else
    let s := s.soft Reg.HALL_TBL_CMD data
    let st0 := s.reg (Reg.HALL_TBL_STAGE 0)
    let st1 := s.reg (Reg.HALL_TBL_STAGE 1)
    let done := fun (s : State) => (s.wrB Fld.HALL_TBL_STATUS_DONE true).wr Fld.HALL_TBL_STATUS_INDEX i
    let lo := Sparse.get (fun _ => (0 : Reg64)) s.hall.mapLo i
    let hi := Sparse.get (fun _ => (0 : Reg64)) s.hall.mapHi i
    if commit then
      if map then
        done { s with hall := { s.hall with
          mapLo := Sparse.set (fun _ => 0) s.hall.mapLo i (fieldsOnly (Reg.HALL_MAP_ENT_LO 0) st0)
          mapHi := Sparse.set (fun _ => 0) s.hall.mapHi i (fieldsOnly (Reg.HALL_MAP_ENT_HI 0) st1) } }
      else done (s.setRouteEnt i (fieldsOnly (Reg.HALL_RT_ENT 0) st0))
    else if read then
      if map then done ((s.setReg (Reg.HALL_TBL_STAGE 0) lo).setReg (Reg.HALL_TBL_STAGE 1) hi)
      else done (s.setReg (Reg.HALL_TBL_STAGE 0) (s.routeEnt i))
    else s

/-- The number of the tributary entry that watches a slot. -/
def State.tribOf (s : State) (slot : Nat) : Option Nat :=
  (s.hall.tribs.find? (fun t => t.2.valid && decide (t.2.dev = slot))).map Prod.fst

/-- A tributary entry. -/
def State.trib (s : State) (i : Nat) : Trib := Sparse.get (fun _ => Trib.reset) s.hall.tribs i

/-- A tributary entry stored. -/
def State.setTrib (s : State) (i : Nat) (t : Trib) : State :=
  { s with hall := { s.hall with tribs := Sparse.set (fun _ => Trib.reset) s.hall.tribs i t } }

/-- HEARTBEAT_SEND (R375): a device of a Hall tells its watcher its state and LAG_AVG. -/
def State.heartbeat (s : State) : State :=
  if s.rd Fld.HALL_ID_STATE = 0 then s
  else s.emit (.heartbeat (s.rd Fld.HALL_ID_HEADWATER)
    ⟨BitVec.ofNat 14 s.devId, BitVec.ofNat 16 (s.rd Fld.HALL_ID_GEN), BitVec.ofNat 3 s.devState,
      BitVec.ofNat 16 (s.rd Fld.HALL_LAG_LAG_AVG)⟩)

/-- The events that firmware receives about a tributary (R386) and at the cut of a snapshot (R393), by the model's own codes. -/
def evLate : Nat := 1
def evEject : Nat := 2
def evEnded : Nat := 3
def evTable : Nat := 4
def evCut : Nat := 5

/-- An accepted heartbeat taken into its entry (R376, R386, R425). -/
def State.takeBeat (s : State) (i : Nat) (hb : Heartbeat) : State :=
  let t := s.trib i
  let lag := hb.lagAvg.toNat
  let late := decide (s.rd Fld.HALL_LAG_POLICY_WARN_NS < lag)
  let lagged := if s.rd Fld.HALL_LAG_POLICY_EJECT_NS < lag then t.beatsOver + 1 else 0
  let st := hb.state.toNat
  let s := s.setTrib i { t with
    st := if late then 1 else 0, misses := 0, lagAvg := lag, gen := hb.gen.toNat, lastBeat := some s.power.time, beatsOver := lagged
    condemned := decide (st = devHeld) || decide (st = devFailed) || decide (st = devQuarantine) }
  let s := if late ∧ t.st ≠ 1 then s.mgmtEvent evLate hb.src.toNat else s
  if lagged ≠ 0 ∧ lagged = s.rd Fld.HALL_LAG_POLICY_EJECT_BEATS then s.mgmtEvent evEject hb.src.toNat else s

/-- HEARTBEAT_RECEIVE: of a slot this device watches; one of a stale generation is dropped (R376, R378). The link it came by is not
named: it is free. -/
def State.heartbeatIn (s : State) (hb : Heartbeat) : State :=
  let e := s.genEntry hb.src.toNat
  if !((e.1 = 1 || e.1 = 2) && e.2 = hb.gen.toNat) then
    let p : Packet := ⟨0, hb.src.toNat, hb.gen.toNat, kCtrl, 0, 0, 0, 0, 0, 0, 0, 0, [], []⟩
    s.skip.staleDrop p ((Config.freeWord s.fresh).toNat % 64)
  else
    match s.tribOf hb.src.toNat with
    | none => s
    | some i => s.takeBeat i hb

/-- The slots that a tenant's job names, as ranges: its Hall map, its Confluence entries, the message routes of its benches. -/
def State.slotRanges (s : State) (t : Nat) : List (Nat × Nat) :=
  match (s.tenant t).job with
  | none => []
  | some j =>
    ((s.hall.mapLo.filter (fun e => e.2.getLsbD 63 && decide (getBits e.2 52 48 = t))).map (fun e =>
      (getBits e.2 42 29, getBits (Sparse.get (fun _ => (0 : Reg64)) s.hall.mapHi e.1) 42 29))) ++
    ((s.hall.cfl.filter (fun e => e.2.valid && decide (e.2.tenant = t))).map (fun e => (e.2.first, e.2.first + e.2.size - 1))) ++
    ((s.maskBenches j.gangs).flatMap (fun pb =>
      ((List.range 256).filter (fun r => s.flag (Fld.BENCH_ROUTE_VALID pb r))).map (fun r =>
        (s.rd (Fld.BENCH_ROUTE_DEV pb r), s.rd (Fld.BENCH_ROUTE_DEV pb r)))))

/-- Whether a tenant's job spans a slot (R379). -/
def State.spans (s : State) (t slot : Nat) : Bool := (s.slotRanges t).any (fun r => decide (r.1 ≤ slot) && decide (slot ≤ r.2))

/-- The jobs that satisfy p end by an order of the Hall (end cause 5). -/
def State.endJobs (s : State) (p : Nat → Bool) : State :=
  (((List.range 16).map (· + 1)).filter p).foldl (fun s t => s.endJob t 5) s

/-- A tributary entry marked dead. -/
def State.markTrib (s : State) (slot : Nat) : State :=
  match s.tribOf slot with
  | none => s
  | some i => s.setTrib i { s.trib i with st := 2 }

/-- The lowest SPARE slot (R379). -/
def State.spareSlot (s : State) : Option Nat := (s.hall.gens.find? (fun g => decide (g.2 / 65536 = 1))).map Prod.fst

/-- A free override index; which one is not stated where none is free (R371, R379). -/
def State.freeOverride (s : State) : Nat :=
  ((List.range 64).find? (fun j => !(s.routeEnt j).getLsbD 63)).getD ((Config.freeWord s.fresh).toNat % 64)

/-- The override entry that sends packets for a slot where packets for a spare went (R380). -/
def overrideEntry (slot : Nat) (e : Reg64) : Reg64 :=
  BitVec.ofNat 64 (2 ^ 63 + b2n (e.getLsbD 62) * 2 ^ 62 + 15 * 2 ^ 56 + slot * 2 ^ 42 + slot * 2 ^ 28 + getBits e 25 0)

/-- The generation of a slot raised by one: VACANT, or DEAD for good where it would pass 0xFFFF (R377, R380). -/
def State.vacate (s : State) (slot : Nat) : State :=
  let g := (s.genEntry slot).2
  if g = 0xFFFF then s.setGen slot 3 g else s.setGen slot 0 (g + 1)

/-- A FENCE notice applied as one change (R380). -/
def State.applyFence (s : State) (slot gen spare index : Nat) : State :=
  let e := s.routeFor spare
  let s := (s.setGen slot 2 gen).vacate spare
  let s := match e with
    | none => s
    | some e => s.setRouteEnt index (overrideEntry slot e)
  (s.wrapInc Fld.HALL_FENCE_STATUS_FENCES).wr Fld.HALL_FENCE_STATUS_LAST_SLOT slot

/-- QUARANTINE (R382, R383): every bench stops, every job ends, every gang is rinsed, all of local HBM is filled. -/
def State.quarantine (s : State) : State :=
  if s.devState = devHeld ∨ s.devOpen then
    let s := (s.setDev devQuarantine 0).wr Fld.HALL_ID_STATE 3
    let s := (List.range 68).foldl (fun s pb => s.stopBench pb) s
    let s := ((List.range 16).map (· + 1)).foldl (fun s t => (s.endJob t 5).releaseKept t) s
    let s := (List.range 64).foldl (fun s m => s.rinse (s.physOf m)) s
    { s with mgmt := { s.mgmt with quarantineFilled := false } }.addFill (List.range s.hbmPages) .quarantine
  else s

/-- A fence request at the chief: the pool, the notice to every device, its own change; it serves one at a time (R379). -/
def State.serveFence (s : State) : Nat → State
  | 0 => s
  | fuel + 1 =>
    match s.hall.fencing, s.hall.fenceQueue with
    | some _, _ => s
    | none, [] => s
    | none, slot :: rest =>
      let s := { s with hall := { s.hall with fenceQueue := rest } }
      let g := (s.genEntry slot).2
      let s := s.setGen slot 3 g
      if g = 0xFFFF then s.serveFence fuel
      else
        match s.spareSlot with
        | none =>
          (s.logAt 0x1B 0 0 (s.rd Fld.HALL_ID_PARTITION * 2 ^ 60 + slot * 2 ^ 32 + g) 0).serveFence fuel
        | some x =>
          let j := s.freeOverride
          let s := s.skip.emit (.fenceNotice
            ⟨BitVec.ofNat 14 slot, BitVec.ofNat 16 (g + 1), 2, some (BitVec.ofNat 14 x, BitVec.ofNat 6 j)⟩)
          let s := { s with hall := { s.hall with fencing := some (slot, x), overrides := s.hall.overrides ++ [j] } }
          s.applyFence slot (g + 1) x j

/-- FENCE_REQUEST_RECEIVE: the chief queues up to 16 requests (R379). -/
def State.fenceAsked (s : State) (slot : Nat) : State :=
  if !s.isChief ∨ 16 ≤ s.hall.fenceQueue.length then s
  else { s with hall := { s.hall with fenceQueue := s.hall.fenceQueue ++ [slot] } }.serveFence 17

/-- A watched slot declared dead: its entry, its jobs, the request to the chief; the deputy takes over from a dead chief (R379,
R383). -/
def State.declareDead (s : State) (slot : Nat) : State :=
  let s := (s.markTrib slot).setGen slot 3 (s.genEntry slot).2
  let s := s.endJobs (fun t => s.spans t slot)
  let s := s.mgmtEvent evEnded slot
  let heir := s.flag Fld.HALL_ID_DEPUTY && decide (slot = s.rd Fld.HALL_ID_HEADWATER) && !s.isChief
  let s := if heir then
      ((s.wr Fld.HALL_ID_ROLE 2).wrB Fld.HALL_ID_DEPUTY false).wrB Fld.CLKPWR_TSYNC_SOURCE true
    else s
  if s.isChief then s.fenceAsked slot else s.emit (.fenceRequest (s.rd Fld.HALL_ID_HEADWATER) slot)

/-- One entry at a tick (R376, R425). -/
def State.tickTrib (s : State) (i : Nat) : State :=
  let t := s.trib i
  if !t.valid ∨ 2 ≤ t.st then s
  else if t.condemned then s.declareDead t.dev
  else
    let recent := match t.lastBeat with
      | none => false
      | some b => decide (s.power.time ≤ b + 50000)
    if recent then s
    else
      let s := s.setTrib i { t with misses := min 7 (t.misses + 1) }
      if 4 ≤ t.misses + 1 then s.declareDead t.dev else s

/-- HEARTBEAT_TICK (R376). -/
def State.heartbeatTick (s : State) : State := (s.hall.tribs.map Prod.fst).eraseDups.foldl (fun s i => s.tickTrib i) s

/-- FENCE_NOTICE_APPLY: the table and the override change where the notice moves the generation on; a device whose own slot has
another generation is fenced; the change is acknowledged (R379, R380, R382). -/
def State.fenceNotice (s : State) (n : FenceNotice) : State :=
  let slot := n.slot.toNat
  let gen := n.gen.toNat
  let self := decide (slot = s.devId) && decide (s.rd Fld.HALL_ID_STATE ≠ 0) && decide (gen ≠ s.rd Fld.HALL_ID_GEN)
  let s := match n.spare with
    | none => s
    | some x =>
      let s := if (s.genEntry slot).2 < gen then s.applyFence slot gen x.1.toNat x.2.toNat else s
      s.emit (.fenceAck slot)
  if self then s.quarantine else s

/-- FENCE_ACKS_COMPLETE: the chief admits the spare, as a headwater where the slot is one of those it watches, and serves the next
request (R379, R426). -/
def State.fenceAcked (s : State) : State :=
  match s.hall.fencing with
  | none => s
  | some (slot, x) =>
    let head := (s.tribOf slot).isSome
    let s := s.emit (.admitSpare x slot (s.genEntry slot).2 (b2n head))
    let s := if head then s.mgmtEvent evTable slot else s
    { s with hall := { s.hall with fencing := none } }.serveFence 17

/-- Every entry of the tributary table starts afresh (R376). -/
def State.freshTribs (s : State) : State :=
  (s.hall.tribs.map Prod.fst).foldl (fun s i => s.setTrib i { s.trib i with misses := 0, lastBeat := some s.power.time }) s

/-- The device's own slot, generation, role and Hall state set, and recorded for the Ledger. -/
def State.takeSlot (s : State) (slot gen role st : Nat) : State :=
  let s := ((s.wr Fld.HALL_ID_DEV_ID slot).wr Fld.HALL_ID_GEN gen).wr Fld.HALL_ID_ROLE role
  let s := (s.wr Fld.HALL_ID_STATE st).wrB Fld.CLKPWR_TSYNC_SOURCE (decide (role = 2))
  s.onLedger (fun d => { d with devId := slot, gen := gen, role := role })

/-- ADMIT_RECEIVE: a spare takes the dead slot's id, generation and role (R380). -/
def State.admitted (s : State) (slot gen role : Nat) : State :=
  if s.rd Fld.HALL_ID_STATE ≠ 1 then s else ((s.takeSlot slot gen role 2).setGen slot 2 gen).freshTribs

/-- SPARE_NOTICE_RECEIVE: a quarantined device whose gangs are rinsed and whose HBM is filled becomes a spare (R383). -/
def State.spareNotice (s : State) (slot gen : Nat) : State :=
  let rinsed := (List.range 64).all (fun m => decide ((s.bench (s.physOf m)).mode = .idle))
  if s.devState ≠ devQuarantine ∨ ¬ rinsed ∨ ¬ s.mgmt.quarantineFilled then s
  else
    let s := (s.takeSlot slot gen 0 1).setGen slot 1 gen
    { s with mgmt := { s.mgmt with quarantineFilled := false } }.reachReady

/-- TRIB_TABLE_RECEIVE: an admitted headwater writes the table it gets, MISSES at zero (R376, R426). -/
def State.tribTable (s : State) (slots : List (Option Nat)) : State :=
  if s.rd Fld.HALL_ID_ROLE = 0 ∨ s.rd Fld.HALL_ID_STATE ≠ 2 then s
  else
    ((slots.take 128).zipIdx).foldl (fun s x =>
      s.setTrib x.2 (match x.1 with
        | none => Trib.reset
        | some d => { Trib.reset with valid := true, dev := d, lastBeat := some s.power.time })) s

/-- The staged Confluence entry. -/
def State.cflStage (s : State) : List Reg64 := (List.range 8).map (fun k => s.reg (Reg.HALL_CFL_STAGE k))

/-- A write of HALL_CFL_CMD (R387): one verb starts an operation, more than one or one while another runs sets OVERRUN. -/
def State.cflCmd (s : State) (data : Reg64) : State :=
  let verbs := [63, 62, 61].filter (fun i => data.getLsbD i)
  if verbs.isEmpty then s.soft Reg.HALL_CFL_CMD data
  else if verbs.length ≠ 1 ∨ s.hall.cflOp.isSome then s.wrB Fld.HALL_CFL_STATUS_OVERRUN true
  else
    let op : CflOp := ⟨63 - verbs.headD 63, getBits data 5 0, s.cflStage⟩
    let s := s.soft Reg.HALL_CFL_CMD data
    { s with hall := { s.hall with cflOp := some op } }.wrB Fld.HALL_CFL_STATUS_BUSY true

/-- The bytes of an entry's IN and OUT buffers (Table 14.5). -/
def CflEnt.buffer (e : CflEnt) : Nat :=
  if e.op = 0 then 0 else if e.op = 3 then e.size * e.count else e.elems * e.size1

/-- Check 2 of Table 14.4. -/
def State.cflOpOk (s : State) (e : CflEnt) : Bool :=
  decide (e.op ≤ 3) && decide (e.type ≤ 3) && decide (1 ≤ e.logK) && decide (e.logK ≤ 5) &&
    (decide (e.type ≠ 1) || ((s.chainEnt e.chain).valid && decide (1 ≤ e.lcount) &&
      decide (e.pos + e.lcount ≤ (s.chainEnt e.chain).ord + (s.chainEnt e.chain).spc))) &&
    (decide (e.op ≠ 3) || decide (e.count % 32 = 0))

/-- The first check of Table 14.4 that a staged entry fails, 0 for none. -/
def State.cflVerdict (s : State) (i : Nat) (e : CflEnt) : Nat :=
  let size := e.buffer
  let assigned := fun (m : Nat) => decide (s.gangTenant (m / 4) = e.tenant) && decide (s.rd (Fld.MGMT_GANG_STATE (m / 4)) = gangAssigned)
  if (s.cfl i).run.isSome then 1
  else if !s.cflOpOk e then 2
  else if e.size = 0 ∨ 16384 < e.first + e.size ∨ s.devId < e.first ∨ e.first + e.size ≤ s.devId ∨ e.size ≤ e.root then 3
  else if e.src % 32 ≠ 0 ∨ e.dst % 32 ≠ 0 ∨ s.spaceBytes 2 < e.src + size ∨ s.spaceBytes 2 < e.dst + size then 4
  else if !assigned e.startBench ∨ !assigned e.doneBench then 5
  else 0

/-- CFL_CMD_COMPLETE (R387, R388). -/
def State.cflCmdDone (s : State) : State :=
  match s.hall.cflOp with
  | none => s
  | some op =>
    let s := { s with hall := { s.hall with cflOp := none } }.wrB Fld.HALL_CFL_STATUS_BUSY false
    let old := s.cfl op.index
    let dws := (putBits (op.stage.getD 0 0) 63 63 1) :: op.stage.drop 1
    let new : CflEnt := ⟨dws, 0, none, []⟩
    let r := if op.verb = 0 then s.cflVerdict op.index new else if op.verb = 1 ∧ old.run.isSome then 1 else 0
    let s := if r ≠ 0 then s
      else if op.verb = 0 then s.setCfl op.index new
      else if op.verb = 1 then s.setCfl op.index CflEnt.empty
      else (List.range 8).foldl (fun s k => s.setReg (Reg.HALL_CFL_STAGE k) (old.dws.getD k 0)) s
    ((s.wrB Fld.HALL_CFL_STATUS_DONE true).wr Fld.HALL_CFL_STATUS_INDEX op.index).wr Fld.HALL_CFL_STATUS_RESULT r

/-- A snapshot starts at the chief, unless one is in progress (R393, R515). -/
def State.snapStart (s : State) : State :=
  if !s.isChief ∨ s.flag Fld.HALL_SNAP_CTL_BUSY then s
  else
    let s := (s.wrapInc Fld.HALL_SNAP_CTL_EPOCH).wrB Fld.HALL_SNAP_CTL_BUSY true
    let cut := s.power.time + s.rd Fld.HALL_SNAP_CTL_LEAD
    { s with hall := { s.hall with snapCut := some cut } }.emit (.snapMarker (s.rd Fld.HALL_SNAP_CTL_EPOCH) cut)

/-- A write of HALL_SNAP_CTL. -/
def State.snapWrite (s : State) (data : Reg64) : State :=
  let s := s.soft Reg.HALL_SNAP_CTL data
  if data.getLsbD 63 then s.snapStart else s

/-- SNAP_MARKER_RECEIVE: passed down the tree; a marker past its cut is reported LATE (R393). -/
def State.snapMarked (s : State) (epoch cut : Nat) : State :=
  let s := (s.wr Fld.HALL_SNAP_CTL_EPOCH epoch).emit (.snapMarker epoch cut)
  if cut < s.power.time then s.emit (.snapReport true)
  else { s with hall := { s.hall with snapCut := some cut } }.wrB Fld.HALL_SNAP_CTL_BUSY true

/-- SNAP_CUT: the sequence numbers of every link are latched, firmware learns LAG_AVG and the time, the report goes up (R393). -/
def State.snapCutNow (s : State) : State :=
  if s.hall.snapCut.isNone then s
  else
    let s := (List.range 64).foldl (fun s x =>
      (s.wr (Fld.HALL_SNAP_LINK_TX_SEQ x) (s.link x).txSeq).wr (Fld.HALL_SNAP_LINK_RX_SEQ x) (s.link x).rxSeq) s
    let s := { s with hall := { s.hall with snapCut := none } }.mgmtEvent evCut
      (s.rd Fld.HALL_LAG_LAG_AVG * 2 ^ 64 + s.power.time)
    if s.isChief then s
    else ((s.wrB Fld.HALL_SNAP_CTL_BUSY false).wrB Fld.HALL_SNAP_CTL_DONE true).emit (.snapReport false)

/-- SNAP_REPORT_RECEIVE: passed up by a headwater; at the chief a late one fails the snapshot, the last one completes it (R393). -/
def State.snapReported (s : State) (late final : Bool) : State :=
  if !s.isChief then s.emit (.snapReport late)
  else if ¬ s.flag Fld.HALL_SNAP_CTL_BUSY then s
  else if late then (s.wrB Fld.HALL_SNAP_CTL_BUSY false).wrB Fld.HALL_SNAP_CTL_FAILED true
  else if final then (s.wrB Fld.HALL_SNAP_CTL_BUSY false).wrB Fld.HALL_SNAP_CTL_DONE true
  else s

/-- Whether a tenant's job spans more than this device. -/
def State.spansOthers (s : State) (t : Nat) : Bool :=
  (s.slotRanges t).any (fun r => decide (r.1 ≠ s.devId) || decide (r.2 ≠ s.devId))

/-- The benches of a job that a fabric reset ends: halted, their tags retired, their EPOCH advanced (R357, R394). -/
def State.haltJob (s : State) (t : Nat) : State :=
  match (s.tenant t).job with
  | none => s
  | some j => (s.maskBenches j.gangs).foldl (fun s pb =>
      (s.stopBench pb).onBench pb (fun b => { b with sluice := [], epoch := (b.epoch + 1) % 256 })) s

/-- AVAIL = CREDITS in every route register that names another device (R394). -/
def State.refillRoutes (s : State) : State :=
  (List.range 68).foldl (fun s pb => (List.range 256).foldl (fun s r =>
    if s.flag (Fld.BENCH_ROUTE_VALID pb r) ∧ s.rd (Fld.BENCH_ROUTE_DEV pb r) ≠ s.devId then
      s.wr (Fld.BENCH_ROUTE_STAT_AVAIL pb r) (s.rd (Fld.BENCH_ROUTE_CREDITS pb r))
    else s) s) s

/-- Injection goes on once no link resets: a member is done and reports; the chief waits for the reports (R394). -/
def State.fresetSettle (s : State) : State :=
  if !s.net.held ∨ s.links.any (fun l => l.2.resetting) then s
  else
    let ps := s.net.waiting
    let s := { s with net := { s.net with held := false, waiting := [] } }
    let s := ps.foldl (fun s p => s.inject p) s
    if s.isChief then s
    else ((s.wrB Fld.HALL_FRESET_BUSY false).wrB Fld.HALL_FRESET_DONE true).emit .resetReport

/-- What a fabric reset does on a device in scope (R394). Which partners are in the scope of a partition's reset is not shown by any
register: for each link it is free. -/
def State.fresetHere (s : State) (hall : Bool) : State :=
  let s := { s.wrB Fld.HALL_FRESET_BUSY true with net := { s.net with held := true } }
  let ts := ((List.range 16).map (· + 1)).filter s.spansOthers
  let s := ts.foldl (fun s t => (s.haltJob t).endJob t 5) s
  let s := { s with hall := { s.hall with cfl := [] } }.refillRoutes
  let s := (List.range 64).foldl (fun s lk =>
    if hall then s.llResetNow lk
    else if Config.freeBool s.fresh then s.skip.llResetNow lk
    else s.skip) s
  s.fresetSettle

/-- Whether this device is in the scope of a fabric reset. -/
def State.inScope (s : State) (hall : Bool) (part : Nat) : Bool := hall || decide (part = s.rd Fld.HALL_ID_PARTITION)

/-- A write of HALL_FRESET: GO at the chief sends the notice and acts (R394). -/
def State.fresetWrite (s : State) (data : Reg64) : State :=
  let busy := s.flag Fld.HALL_FRESET_BUSY
  let s := s.soft Reg.HALL_FRESET data
  if !data.getLsbD 63 ∨ !s.isChief ∨ busy then s
  else
    let hall := data.getLsbD 60
    let part := getBits data 3 0
    let s := (s.wrB Fld.HALL_FRESET_BUSY true).emit (.resetNotice hall part)
    if s.inScope hall part then s.fresetHere hall else s

/-- FRESET_NOTICE_RECEIVE: forwarded, then acted on (R394). -/
def State.fresetNotice (s : State) (hall : Bool) (part : Nat) : State :=
  let s := s.emit (.resetNotice hall part)
  if s.inScope hall part then s.fresetHere hall else s

/-- FRESET_REPORT_RECEIVE: passed up by a headwater; at the chief the last report completes the reset (R394, R395). -/
def State.fresetReported (s : State) (final : Bool) : State :=
  if !s.isChief then (if final then s.emit .resetReport else s)
  else if final ∧ s.flag Fld.HALL_FRESET_BUSY then
    (s.wrB Fld.HALL_FRESET_BUSY false).wrB Fld.HALL_FRESET_DONE true
  else s

end Sys2Proof.Machine
end

