-- ==== Sys2Proof/Machine/Spoil.lean ====
section
/-! DEFINITION. The Spoil log: arrival, the ring, the pin, the interrupt, clearing and reading (R492-R499 of
spec/19_gauges_and_spoil.md). -/

namespace Sys2Proof.Machine

/-- Entries that the ring holds (R492). -/
def spoilSize : Nat := 8192

/-- The number after a SEQ (R492). -/
def seqAfter (n : Nat) : Nat := if n = 0xFFFFFFFF then 1 else n + 1

/-- The doublewords of an entry (Table 19.3). -/
def SpoilEvent.words (e : SpoilEvent) (seq : Nat) : List Reg64 :=
  [BitVec.ofNat 64 e.time,
    BitVec.ofNat 64 (e.cls % 256 * 2 ^ 56 + e.kind % 16 * 2 ^ 52 + e.id % 256 * 2 ^ 44 + e.logical % 64 * 2 ^ 38 +
      e.tenant % 32 * 2 ^ 32 + seq % 2 ^ 32),
    BitVec.ofNat 64 e.d0, BitVec.ofNat 64 e.d1]

/-- The log stored. -/
def State.setSpoil (s : State) (l : Spoil) : State := { s with spoil := l }

/-- The source of an event. -/
def SpoilEvent.source (e : SpoilEvent) : Nat × Nat := (e.kind, e.id)

/-- The place of the event that arrives when place n is named: events of one source arrive in the order in which it raised them
(R493). -/
def arrivalPlace (l : List SpoilEvent) (n : Nat) : Option Nat :=
  match l[n]? with
  | none => none
  | some e => l.findIdx? (fun x => decide (x.source = e.source))

/-- An entry written: the next SEQ, the ring, the pin of the first one (R492, R494). -/
def State.writeEntry (s : State) (e : SpoilEvent) : State :=
  let seq := s.rd Fld.SPOIL_STATUS_NEXT_SEQ
  let ws := e.words seq
  let ring := s.spoil.ring
  let full := decide (spoilSize ≤ ring.length)
  let s := s.setSpoil { s.spoil with ring := (if full then ring.drop 1 else ring) ++ [⟨seq, ws⟩] }
  let s := if full then s.satInc Fld.SPOIL_STATUS_OVERFLOW else s
  let s := s.wr Fld.SPOIL_STATUS_NEXT_SEQ (seqAfter seq)
  if s.flag Fld.SPOIL_STATUS_PINNED then s
  else
    let s := [0, 1, 2, 3].foldl (fun s w => s.setReg (Reg.SPOIL_PIN w) (ws.getD w 0)) s
    s.wrB Fld.SPOIL_STATUS_PINNED true

/-- PENDING for an entry of an enabled class; its rise is one occurrence of source 18 (R499). -/
def State.spoilPending (s : State) (cls : Nat) : State :=
  if ¬ bit (s.rd Fld.SPOIL_IRQ_EN_EN) cls ∨ s.flag Fld.SPOIL_STATUS_PENDING then s
  else (s.wrB Fld.SPOIL_STATUS_PENDING true).irqDevice 18

/-- SPOIL_ENTRY_ARRIVAL. -/
def State.spoilArrive (s : State) (n : Nat) : State :=
  match arrivalPlace s.spoil.inFlight n with
  | none => s
  | some i =>
    match s.spoil.inFlight[i]? with
    | none => s
    | some e =>
      ((s.setSpoil { s.spoil with inFlight := s.spoil.inFlight.eraseIdx i }).writeEntry e).spoilPending e.cls

/-- A write of SPOIL_CTL with CLEAR (R495). -/
def State.spoilClear (s : State) : State :=
  let s := s.setSpoil { s.spoil with ring := [], latched := [] }
  let s := [0, 1, 2, 3].foldl (fun s w => s.setReg (Reg.SPOIL_PIN w) 0) s
  s.setReg Reg.SPOIL_STATUS (BitVec.ofNat 64 1)

/-- The entry of a SEQ in the ring; none for a SEQ of 0. -/
def State.spoilEntry (s : State) (seq : Nat) : List Reg64 :=
  ((s.spoil.ring.find? (fun e => decide (e.seq = seq))).map SpoilEntry.words).getD []

/-- What SPOIL_DATA shows, and the latch after the read (R497). -/
def State.spoilWord (s : State) : Reg64 × List Reg64 :=
  let w := s.rd Fld.SPOIL_SEL_WORD
  let latched := if w = 0 then s.spoilEntry (s.rd Fld.SPOIL_SEL_SEQ) else s.spoil.latched
  (latched.getD w 0, latched)

/-- A read of SPOIL_DATA: the latch, then SPOIL_SEL advances (R497). -/
def State.spoilRead (s : State) : Reg64 × State :=
  let x := s.spoilWord
  let w := s.rd Fld.SPOIL_SEL_WORD
  let s := (s.setSpoil { s.spoil with latched := x.2 }).wr Fld.SPOIL_SEL_WORD (w + 1)
  (x.1, if w = 3 then s.wr Fld.SPOIL_SEL_SEQ (seqAfter (s.rd Fld.SPOIL_SEL_SEQ)) else s)

end Sys2Proof.Machine
end

