-- ==== Sys2Proof/Machine/Window.lean ====
section
/-! DEFINITION. The host's window onto local HBM (R451, R452 of spec/17_host_interface.md), the packets that ask this device for its
memory or its service (R363, R364 of spec/14_hall.md, R417, R421 of spec/15_matumon.md). -/

namespace Sys2Proof.Machine

/-- Whether the PCIe link carries requests (R470, R475, R476). -/
def State.pcieUp (s : State) : Bool :=
  (decide (s.power.st = .running) || decide (s.power.st = .locking)) && !s.power.thermtrip

/-- The local HBM address of an offset in a view's window (R451). -/
def State.windowAt (s : State) (vw off : Nat) : Nat := s.rd (Fld.HIF_BAR2_BASE_BASE vw) * 2 ^ 30 + off

/-- Whether a view may reach a byte of local HBM (R451): the PF any, a VF those of its tenant's pages. -/
def State.mayReach (s : State) (vw a : Nat) : Bool :=
  decide (a < s.spaceBytes 2) && (decide (vw = 0) || (decide (s.boundTenant vw ≠ 0) && decide (s.pageOwner a = s.boundTenant vw)))

/-- The WIDTH code of an access by its bytes (Table 19.5). -/
def widthCode (n : Nat) : Nat := if n = 8 then 0 else if n = 4 then 1 else if n = 2 then 2 else if n = 1 then 3 else 4

/-- A suppressed access, logged once a window (R451, R527). -/
def State.suppressed (s : State) (vw : Nat) (write : Bool) (n a : Nat) : State :=
  s.logOnce 0x300 (fun s => s.accessError vw write (widthCode n) 2 2 a)

/-- A local HBM word read through a window: counted, and logged where it is bad (R286, Table 11.2). -/
def State.windowBad (s : State) (vw a : Nat) : State :=
  let s := s.countHbm a 32 false
  if (s.hbmWord (a / 32 * 32)).2 then
    match s.hbmLoc (a / 32 * 32) with
    | none => s
    | some l => s.hbmUncorrectable l.ch rdWindow l.inChannel (s.boundTenant vw) 0
  else s

/-- The word addresses that n bytes from a touch. -/
def touchedWords (a n : Nat) : List Nat := (List.range ((a + n + 31) / 32 - a / 32)).map (fun i => a / 32 * 32 + 32 * i)

/-- A byte of a list by the address of its first. -/
def byteAt (l : List (Option Byte)) (a x : Nat) : Option Byte := if x < a then none else (l.getD (x - a) none)

/-- One word of a window write: a whole word takes fresh check bits, a part is merged (R287, R452). -/
def State.writeWordPart (s : State) (a w : Nat) (l : List (Option Byte)) : State :=
  let bs := (List.range 32).map (fun i => byteAt l a (w + i))
  let s := s.countHbm w (bs.filter Option.isSome).length true
  if bs.all Option.isSome then s.setHbmWord w (ofBytes (bs.map (fun b => (b.getD 0).toNat))) false
  else bs.zipIdx.foldl (fun s b => match b.1 with
    | none => s
    | some v => s.setHbmByte (w + b.2) v) s

/-- The size of a function's BAR2 (Table 17.2). -/
def bar2Size (vw : Nat) : Nat := if vw = 0 then 2 ^ 36 else 2 ^ 34

/-- BAR2_WRITE (R451, R452). -/
def State.bar2Write (s : State) (vw off : Nat) (l : List (Option Byte)) : State :=
  if !s.pcieUp ∨ 15 < vw ∨ bar2Size vw < off + l.length then s
  else
    let a := s.windowAt vw off
    let l1 := l.zipIdx.map (fun b => if s.mayReach vw (a + b.2) then b.1 else none)
    let s1 : State := (touchedWords a l.length).foldl (fun s w => s.writeWordPart a w l1) s
    match (l.zipIdx.find? (fun b => b.1.isSome && !s.mayReach vw (a + b.2))) with
    | none => s1
    | some b => s1.suppressed vw true l.length (a + b.2)

/-- BAR2_READ (R451). -/
def State.bar2Read (s : State) (vw off n : Nat) : State :=
  if !s.pcieUp ∨ 15 < vw ∨ bar2Size vw < off + n then s
  else
    let a := s.windowAt vw off
    let l := (List.range n).map (fun i => if s.mayReach vw (a + i) then s.hbmByte (a + i) else 0)
    let s1 : State := ((touchedWords a n).filter (fun w => s.mayReach vw w)).foldl (fun s w => s.windowBad vw w) s
    let s1 : State := match ((List.range n).find? (fun i => !s.mayReach vw (a + i))) with
      | none => s1
      | some i => s1.suppressed vw false n (a + i)
    s1.emit (.bar2Data (.fn (Fin.ofNat 16 vw)) l)

/-- A packet taken from those delivered, by its place, if it is of a kind. -/
def State.takeInbox (s : State) (n kind : Nat) : Option (Packet × State) :=
  match s.net.inbox[n]? with
  | none => none
  | some d => if d.packet.kind = kind then some (d.packet, { s with net := { s.net with inbox := s.net.inbox.eraseIdx n } }) else none

/-- The local address that a Hall address names, if the checks of R363 pass. -/
def State.exportAt (s : State) (p : Packet) : Option Nat :=
  let o := p.address % 2 ^ 50
  let a := s.rd Fld.HALL_EXPORT_BASE_PAGE * 2 ^ 21 + o
  if s.flag Fld.HALL_EXPORT_EN ∧ o / 2 ^ 21 < s.rd Fld.HALL_EXPORT_PAGES ∧ a < s.spaceBytes 2 ∧ s.pageOwner a = p.tenant then some a
  else none

/-- The answer to a request, with the requester's identity (R357, R363). -/
def State.answerRequest (s : State) (p : Packet) (kind : Nat) (err : Bool) (l : List Byte) (marks : List Nat) : State :=
  let q := s.packet kind p.src p.srcBench p.tenant p.tag p.epoch 0 p.address (b2n err) l
  s.inject { q with marks := marks }

/-- HALL_READ_REQUEST (R363, R364). -/
def State.hallRead (s : State) (n : Nat) : State :=
  match s.takeInbox n kRdReq with
  | none => s
  | some (p, s) =>
    match s.exportAt p with
    | none => s.answerRequest p kRdResp true (List.replicate p.bytes 0) []
    | some a =>
      let ws := (List.range (cdiv p.bytes 32)).map (fun i => s.hbmWord (a + 32 * i))
      let bad := markedAt ws
      let s := bad.foldl (fun s k =>
        match s.hbmLoc (a + 32 * k) with
        | none => s
        | some l => s.hbmUncorrectable l.ch rdSluice l.inChannel p.tenant 0) s
      (s.countHbm a p.bytes false).answerRequest p kRdResp false ((wordsBytes ws).take p.bytes) bad

/-- HALL_WRITE_REQUEST (R349, R363, R364). -/
def State.hallWrite (s : State) (n : Nat) : State :=
  match s.takeInbox n kWrReq with
  | none => s
  | some (p, s) =>
    match s.exportAt p with
    | none => s.answerRequest p kWrAck true [] []
    | some a =>
      let ws := payloadWords p.payload p.marks
      let s := ws.zipIdx.foldl (fun s w => s.setHbmWord (a + 32 * w.2) w.1.1 w.1.2) s
      (s.countHbm a p.payload.length true).answerRequest p kWrAck false [] []

/-- A record of 16 doublewords from its bytes. -/
def recordOf (l : List Byte) : List Reg64 := (chunksOf 8 l).map (fun c => BitVec.ofNat 64 (ofBytes (c.map BitVec.toNat)))

/-- Whether a tenant's service takes one more record: 0, or the doorbell result that refuses it (R421, R454). -/
def State.intakeVerdict (s : State) (t : Nat) : Nat :=
  match (s.tenant t).svc with
  | none => 1
  | some v => if s.rd (Fld.MGMT_TENANT_INTAKE t) ≠ inOpen then 1 else if 2 ^ v.reqLog ≤ s.reqOcc t then 2 else 0

/-- BULK_RECEIVE: a request record for a service that admits the fabric goes into its ring, a segment into the tenant's pages; BULK_ACK
says whether it was taken (R417, R421, Table 15.5). -/
def State.bulkIn (s : State) (n : Nat) : State :=
  match s.takeInbox n kBulk with
  | none => s
  | some (p, s) =>
    let t := p.tenant
    let fabric : Bool := match (s.tenant t).svc with
      | none => false
      | some v => bit v.sources 16
    if p.payload.length = 128 ∧ s.svcRuns t then
      if fabric = true ∧ s.intakeVerdict t = 0 then (s.acceptRecord t (recordOf p.payload)).answerRequest p kBulkAck false [] []
      else s.answerRequest p kBulkAck true [] []
    else
      let a := p.address % 2 ^ 39
      if s.ownsRange t a p.payload.length then (s.setHbmBytes a p.payload).answerRequest p kBulkAck false [] []
      else s.answerRequest p kBulkAck true [] []

/-- BULK_ACK_RECEIVE: the producer's Matumon learns whether its record was taken (R421). -/
def State.bulkAckIn (s : State) (n : Nat) : State :=
  match s.takeInbox n kBulkAck with
  | none => s
  | some (p, s) => s.emit (.bulkAck p.src (bit p.argB 0))

/-- The event that tells firmware of a management packet, by the model's own code. -/
def evPacket : Nat := 6

/-- MGMT_PACKET_RECEIVE: a management packet reaches Matumon's mailbox (R354). -/
def State.mgmtPacketIn (s : State) (n : Nat) : State :=
  match s.takeInbox n kMgmt with
  | none => s
  | some (p, s) => s.mgmtEvent evPacket p.src

end Sys2Proof.Machine
end

