-- ==== Sys2Proof/Machine/Host.lean ====
section
/-! DEFINITION. Doorbells, result mailboxes, the binding of virtual functions and function-level resets (R449, R453-R460, R465 of
spec/17_host_interface.md). -/

namespace Sys2Proof.Machine

/-- The results of a doorbell (HIF_DB_STATUS.RESULT). -/
def dbOk : Nat := 0
def dbNotPermitted : Nat := 3
def dbPage : Nat := 4
def dbHostError : Nat := 5
def dbBadArgument : Nat := 6

/-- The view whose number belongs to a function or to I3C. -/
def viewOf (vw : Nat) : View := if vw = 16 then .i3c else .fn (Fin.ofNat 16 vw)

/-- A doorbell of a view stored. -/
def State.setBell (s : State) (vw : Nat) (d : Option Doorbell) : State := s.setView vw { s.view vw with doorbell := d }

/-- A doorbell that has come to its result. -/
def State.bellResult (s : State) (vw : Nat) (d : Doorbell) (r : Nat) : State := s.setBell vw (some { d with result := some r })

/-- The checks of Table 17.4. -/
def Doorbell.fieldsOk (d : Doorbell) : Bool :=
  if d.kind = 0 then decide (1 ≤ d.count) && decide (d.count ≤ 256) && decide (d.host % 128 = 0)
  else decide (d.kind ≤ 2) && decide (1 ≤ d.count) && decide (d.host % 32 = 0) && decide (d.dev % 32 = 0)

/-- Whether a REQUEST doorbell of a view may start (R454). -/
def State.requestAllowed (s : State) (vw : Nat) : Bool :=
  let t := s.boundTenant vw
  let open_ : Bool := match (s.tenant t).svc with
    | none => false
    | some v => bit v.sources vw
  decide (t ≠ 0) && s.shaken vw && s.svcRuns t && open_

/-- The words of a copy that a function reaches before the first one that it does not (R455). -/
def State.reachable (s : State) (vw dev count : Nat) : Nat :=
  ((List.range count).takeWhile (fun i => s.mayReach vw (dev + 32 * i))).length

/-- The next record of a REQUEST doorbell: intake is checked, then the record is read (R454). -/
def State.nextRecord (s : State) (vw : Nat) (d : Doorbell) : State :=
  let v := s.intakeVerdict (s.boundTenant vw)
  if v ≠ 0 then s.bellResult vw d v
  else (s.setBell vw (some d)).emit (.hostRead (viewOf vw) ((d.host + 128 * d.moved) % 2 ^ 64) 128)

/-- A channel takes up a doorbell (R454-R456). -/
def State.serveBell (s : State) (vw : Nat) : State :=
  match (s.view vw).doorbell with
  | none => s
  | some d =>
    if d.kind = 0 then
      if s.requestAllowed vw then s.nextRecord vw d else s.bellResult vw d dbNotPermitted
    else if d.kind = 1 then s.emit (.hostRead (viewOf vw) d.host (32 * d.count))
    else
      let n := s.reachable vw d.dev d.count
      let as := (List.range n).map (fun i => d.dev + 32 * i)
      let bytes := as.flatMap (fun a => s.hbmBytes a 32)
      let s := as.foldl (fun s a => s.windowBad vw a) s
      let s := if n = 0 then s else s.emit (.hostWrite (viewOf vw) d.host bytes)
      s.bellResult vw { d with moved := n } (if n = d.count then dbOk else dbPage)

/-- The doorbells that the four channels serve. -/
def State.servedBells (s : State) : List Nat := s.host.order.take 4

/-- The order of doorbells stored; one that comes among the first four is taken up (R456). -/
def State.setOrder (s : State) (l : List Nat) : State :=
  let old := s.servedBells
  let s := { s with host := { s.host with order := l } }
  (s.servedBells.filter (fun vw => !old.contains vw)).foldl (fun s vw => s.serveBell vw) s

/-- A doorbell completed: its status, source 16 (R453, R461). -/
def State.bellDone (s : State) (vw result count : Nat) : State :=
  let s := (s.wr (Fld.HIF_DB_STATUS_RESULT vw) result).wr (Fld.HIF_DB_STATUS_COUNT vw) count
  (s.wrB (Fld.HIF_DB_STATUS_DONE vw) true).irq vw 16

/-- A write of HIF_DB_GO with GO (R453). -/
def State.ringBell (s : State) (vw kind tag count : Nat) : State :=
  if (s.view vw).doorbell.isSome then s.wrB (Fld.HIF_DB_STATUS_OVERRUN vw) true
  else
    let d : Doorbell := ⟨kind, tag, count, 0, s.rd (Fld.HIF_DB_HOST_HOST vw), s.rd (Fld.HIF_DB_DEV_DEV vw), none, []⟩
    let s := ((s.wr (Fld.HIF_DB_STATUS_TAG vw) tag).wr (Fld.HIF_DB_STATUS_RESULT vw) 0).wr (Fld.HIF_DB_STATUS_COUNT vw) 0
    if d.fieldsOk then (s.setBell vw (some d)).setOrder (s.host.order ++ [vw])
    else s.bellDone vw dbBadArgument 0

/-- A write of HIF_DB_GO. -/
def State.bellWrite (s : State) (vw : Nat) (data : Reg64) : State :=
  if data.getLsbD 63 then s.ringBell vw (getBits data 62 61) (getBits data 47 32) (getBits data 31 0) else s

/-- The records that have arrived, taken one by one (R454). -/
def State.takeRecords (vw : Nat) : Nat → State → Doorbell → State × Doorbell
  | 0, s, d => (s, d)
  | fuel + 1, s, d =>
    let t := s.boundTenant vw
    if d.result.isSome ∨ d.rest.length < 128 then (s, d)
    else
      let v := s.intakeVerdict t
      if v ≠ 0 then (s, { d with result := some v })
      else
        let s := s.acceptRecord t (recordOf (d.rest.take 128))
        let d := { d with moved := d.moved + 1, rest := d.rest.drop 128 }
        State.takeRecords vw fuel s (if d.moved = d.count then { d with result := some dbOk } else d)

/-- The words that have arrived for a COPY_IN, written one by one (R455). -/
def State.takeWords (vw : Nat) : Nat → State → Doorbell → State × Doorbell
  | 0, s, d => (s, d)
  | fuel + 1, s, d =>
    let a := d.dev + 32 * d.moved
    if d.result.isSome ∨ d.rest.length < 32 then (s, d)
    else if !s.mayReach vw a then (s, { d with result := some dbPage })
    else
      let s := (s.setHbmBytes a (d.rest.take 32)).countHbm a 32 true
      let d := { d with moved := d.moved + 1, rest := d.rest.drop 32 }
      State.takeWords vw fuel s (if d.moved = d.count then { d with result := some dbOk } else d)

/-- A read of host memory that failed: the doorbell stops with HOST_ERROR, reported through AER (R455). -/
def State.bellFault (s : State) (vw : Nat) : State :=
  match (s.view vw).doorbell with
  | none => s
  | some d =>
    if s.servedBells.contains vw ∧ d.kind ≤ 1 ∧ d.result = none then (s.bellResult vw d dbHostError).emit (.aer (viewOf vw)) else s

/-- DOORBELL_HOST_DATA (R454-R456). -/
def State.bellData (s : State) (vw : Nat) (l : List Byte) : State :=
  match (s.view vw).doorbell with
  | none => s
  | some d =>
    if !s.servedBells.contains vw ∨ 2 ≤ d.kind ∨ d.result.isSome then s
    else
      let d := { d with rest := d.rest ++ l }
      if d.kind = 0 then
        let x := State.takeRecords vw d.rest.length s d
        if x.2.result.isSome ∨ x.2.moved = d.moved then x.1.setBell vw (some x.2) else x.1.nextRecord vw x.2
      else
        let x := State.takeWords vw d.rest.length s d
        x.1.setBell vw (some x.2)

/-- What arrives at an intake channel. -/
def State.hostData (s : State) (vw : Nat) : HostData → State
  | .data l => s.bellData vw l
  | .error => s.bellFault vw

/-- DOORBELL_COMPLETE: a doorbell that has its result completes and the channel takes up the next one (R455, R456). -/
def State.bellComplete (s : State) (vw : Nat) : State :=
  match (s.view vw).doorbell with
  | none => s
  | some d =>
    match d.result with
    | none => s
    | some r => ((s.setBell vw none).bellDone vw r d.moved).setOrder (s.host.order.filter (fun x => decide (x ≠ vw)))

/-- A mailbox of a view. -/
def State.mbox (s : State) (vw m : Nat) : Mbox := Sparse.get (fun _ => ⟨0, none⟩) (s.view vw).mbox m

/-- A mailbox stored. -/
def State.setMbox (s : State) (vw m : Nat) (b : Mbox) : State :=
  s.setView vw { s.view vw with mbox := Sparse.set (fun _ => ⟨0, none⟩) (s.view vw).mbox m b }

/-- The MSEQ that a mailbox shows (R458). -/
def Mbox.shown (b : Mbox) : Nat := if b.present.isSome then seqAfter b.acked else b.acked

/-- Whether a mailbox of a view is bound to a source: service results of a tenant, or the view's end records. -/
def State.boundTo (s : State) (vw m kind tenant : Nat) : Bool :=
  decide (s.rd (Fld.HIF_MBOX_CFG_KIND vw m) = kind) && (decide (kind ≠ 1) || decide (s.rd (Fld.HIF_MBOX_CFG_TENANT vw m) = tenant))

/-- Whether another mailbox has the source: of any function for service results, of the same one for end records. -/
def State.boundElsewhere (s : State) (vw m kind tenant : Nat) : Bool :=
  (List.range 16).any (fun u => (List.range 16).any (fun n =>
    !(decide (u = vw) && decide (n = m)) && (decide (kind = 1) || decide (u = vw)) && s.boundTo u n kind tenant))

/-- A write of HIF_MBOX_CFG; none where it is refused (R457). -/
def State.mboxCfg (s : State) (vw m : Nat) (data : Reg64) : Option State :=
  let kind := getBits data 62 60
  let t := getBits data 52 48
  if 2 < kind ∨ (kind = 1 ∧ (!isTenant t ∨ (vw ≠ 0 ∧ s.boundTenant vw ≠ t))) ∨ (kind ≠ 0 ∧ s.boundElsewhere vw m kind t) then none
  else some ((s.soft (Reg.HIF_MBOX_CFG vw m) data).setMbox vw m ⟨0, none⟩)

/-- A result consumed from its source (R459). -/
def State.consume (s : State) (vw m : Nat) : State :=
  let t := s.rd (Fld.HIF_MBOX_CFG_TENANT vw m)
  let kind := s.rd (Fld.HIF_MBOX_CFG_KIND vw m)
  if kind = 1 then
    if s.resOcc t = 0 then s
    else (s.wr (Fld.MGMT_SVC_PTR_RES_HEAD t) (s.rd (Fld.MGMT_SVC_PTR_RES_HEAD t) + 1)).flushResults t
  else if kind = 2 then s.setView vw { s.view vw with endRecords := (s.view vw).endRecords.drop 1 }
  else s

/-- A write of HIF_MBOX_ACK (R459). -/
def State.mboxAck (s : State) (vw m mseq : Nat) : State :=
  let b := s.mbox vw m
  if b.present.isSome ∧ mseq = seqAfter b.acked then (s.setMbox vw m ⟨mseq, none⟩).consume vw m
  else if mseq = b.acked then s
  else s.wrB (Fld.HIF_MBOX_CFG_BAD_ACK vw m) true

/-- The payload of the result at the head of a mailbox's source (Table 17.5). -/
def State.mboxHead (s : State) (vw m : Nat) : Option (List Reg64) :=
  let t := s.rd (Fld.HIF_MBOX_CFG_TENANT vw m)
  let kind := s.rd (Fld.HIF_MBOX_CFG_KIND vw m)
  if kind = 1 then
    match (s.tenant t).svc with
    | none => none
    | some v =>
      if s.resOcc t = 0 then none
      else
        let a := v.resBase + s.rd (Fld.MGMT_SVC_PTR_RES_HEAD t) % 2 ^ v.resLog * 128
        some ([0, 1, 2, 8, 9, 10, 11, 12].map (fun i => s.hbmDword (a + 8 * i)))
  else if kind = 2 then (s.view vw).endRecords.head?
  else none

/-- MBOX_RESULT_PRESENT (R458, R461). -/
def State.mboxPresent (s : State) (vw m : Nat) : State :=
  let b := s.mbox vw m
  match b.present, s.mboxHead vw m with
  | none, some p => (s.setMbox vw m { b with present := some p }).irq vw m
  | _, _ => s

/-- The registers of a view that a function-level reset clears: its HIF set and its MGMT_DRV_VERSION (R465). -/
def viewReg (vw k : Nat) : Bool := decide (k / viewBit = vw) && hostReg k

/-- What a function-level reset leaves of a function's host state: the end records that wait (R465). -/
def ViewState.afterFlr (v : ViewState) : ViewState := { ViewState.reset with endRecords := v.endRecords }

/-- A staging of a view goes on without an answer (R465). -/
def State.dropStaging (s : State) (vw : Nat) : State :=
  match s.mgmt.staged with
  | none => s
  | some v => if v / 2 = vw then { s with mgmt := { s.mgmt with staged := some (2 * 31 + v % 2) } } else s

/-- The function-level reset of one function (R465). -/
def State.flrOne (s : State) (vw : Nat) : State :=
  let order := s.host.order.filter (fun x => decide (x ≠ vw))
  (((s.setView vw (s.view vw).afterFlr).resetRegs (viewReg vw)).dropStaging vw).setOrder order

/-- FUNCTION_LEVEL_RESET: the PF's resets every VF as well and ends what Kwawekan holds for it (R429, R465). -/
def State.flr (s : State) (f : Nat) : State :=
  if f = 0 then ((List.range 16).foldl (fun (s : State) vw => s.flrOne vw) { s with host := { s.host with order := [] } }).sealFlr else s.flrOne f

/-- A write of HIF_VF_BIND by the PF; none where it is refused (R449). -/
def State.vfBind (s : State) (v : Nat) (data : Reg64) : Option State :=
  let en := data.getLsbD 63
  let t := getBits data 52 48
  if en ∧ (!isTenant t ∨ (List.range 16).any (fun u => decide (u ≠ v) && decide (s.boundTenant u = t))) then none
  else
    let old := s.boundTenant v
    let s := s.soft (Reg.HIF_VF_BIND 0 v) data
    some (if s.boundTenant v = old then s else s.flrOne v)

/-- PCIE_CONFIG_ACCESS: a write goes to the endpoint's configuration space, a read is answered from it with a value that the Base
Specification gives and this one does not (R448, R470). -/
def State.configAccess (s : State) (f off : Nat) (data : Option (BitVec 32)) : State :=
  if s.power.st = .off ∨ s.power.st = .held ∨ s.power.thermtrip then s
  else
    match data with
    | some v => s.emit (.config f off true (BitVec.ofNat 64 v.toNat))
    | none =>
      let v := (Config.freeWord s.fresh).toNat % 2 ^ 32
      s.skip.emit (.config f off false (BitVec.ofNat 64 v))

/-- An I3C common command code (R464). -/
def State.i3cCode (s : State) (c : I3cCcc) : State :=
  if s.power.st = .off then s
  else
    let h := s.host
    match c with
    | .entdaa a => if h.i3cAddr.isSome then s else { s with host := { h with i3cAddr := some a.toNat } }
    | .setdasa a => if h.i3cAddr.isSome then s else { s with host := { h with i3cAddr := some a.toNat } }
    | .rstdaa => { s with host := { h with i3cAddr := none } }
    | .enec ibi => if ibi then { s with host := { h with i3cIbi := true } } else s
    | .disec ibi => if ibi then { s with host := { h with i3cIbi := false } } else s
    | .other _ => s

end Sys2Proof.Machine
end

