-- ==== Sys2Proof/Machine/Flags.lean ====
section
/-! DEFINITION. The status flags and counts that registers show of state held elsewhere: what a read returns (R24, R33, R36, R112,
R155, R217, R218, R294, R458, R462 and the register tables of every chapter). -/

namespace Sys2Proof.Machine

/-- A field's place in a word given a value. -/
def fieldAt (hi lo v : Nat) : Nat := v % 2 ^ (hi + 1 - lo) * 2 ^ lo

/-- A register word with a field replaced. -/
def Fld.put (f : Fld) (w : Reg64) (v : Nat) : Reg64 := putBits w f.hi f.lo v

/-- A register word with a bit replaced. -/
def Fld.putB (f : Fld) (w : Reg64) (v : Bool) : Reg64 := f.put w (b2n v)

/-- The entries of a list that satisfy a test, counted. -/
def count {α : Type} (l : List α) (p : α → Bool) : Nat := (l.filter p).length

/-- The code of a bench's state (BENCH_STATE). -/
def modeCode : BMode → Nat
  | .idle => 0 | .fill => 1 | .work => 2 | .halted => 3 | .rinsing => 4

/-- The code of the Foreman's state (BENCH_FM_STATUS). -/
def foremanCode : FState → Nat
  | .stopped => 0 | .running => 1 | .wfi => 2 | .stalled => 2

/-- Whether a command of an engine is in execution on a bench. -/
def Bench.engineBusy (b : Bench) (eng : Nat) : Bool := b.execs.any (fun e => engMeet e.engines eng)

/-- BENCH_STATE. -/
def Bench.stateWord (b : Bench) : Nat :=
  fieldAt 63 61 (modeCode b.mode) + fieldAt 60 60 (b2n b.switching) + fieldAt 59 59 (b2n b.sluiceHalted) + fieldAt 55 48 b.haltCause +
    fieldAt 31 0 b.phaseSwitches

/-- BENCH_STREAM_STATUS. -/
def State.streamWord (s : State) (pb st : Nat) : Nat :=
  let x := (s.bench pb).stream st
  fieldAt 63 60 (s.waitInfo pb st).1 + fieldAt 59 59 (b2n x.ended) + fieldAt 57 48 x.queue.length + fieldAt 45 32 x.fetchPc +
    fieldAt 31 0 x.retired

/-- Eight token counts from a token number, lowest byte first (BENCH_TOKEN). -/
def Bench.tokenWord (b : Bench) (tok : Nat) : Nat := ofBytes ((List.range 8).map (fun j => b.token (tok + j)))

/-- A crossbar exchange is in progress (BENCH_TE_STATUS). -/
def Bench.exchanging (b : Bench) : Bool :=
  b.execs.any (fun e => e.todo.any (fun t => match t with
    | .exchange _ => true
    | _ => false))

/-- A finished tile waits for room in the chute (BENCH_AE_STATUS). -/
def Bench.drainWaits (b : Bench) : Bool :=
  decide (8 ≤ b.chute.length) && b.execs.any (fun e => e.todo.any (fun t => match t with
    | .drain _ _ => true
    | _ => false))

/-- What the pipelines of a bench hold in a bclk that nothing here fixes (BENCH_VE_STATUS, BENCH_RIFFLE_STATUS): a free value while
the engine is busy, else zero (log 1). -/
def State.pipe (s : State) (busy : Bool) : Nat := if busy then (Config.freeWord s.fresh).toNat else 0

/-- What a register of a bench block shows. -/
def State.benchShown (s : State) (pb o : Nat) (w : Reg64) : Reg64 :=
  let b := s.bench pb
  if 0x40 ≤ o ∧ o < 0x70 then BitVec.ofNat 64 (s.streamWord pb ((o - 0x40) / 8))
  else if 0x100 ≤ o ∧ o < 0x1E0 then BitVec.ofNat 64 (b.tokenWord (o - 0x100))
  else if o = 0x200 then BitVec.ofNat 64 b.stateWord
  else if o = 0x208 then
    (Fld.BENCH_TE_STATUS_EXCHANGE pb).putB ((Fld.BENCH_TE_STATUS_BUSY pb).putB w (b.engineBusy engTE)) b.exchanging
  else if o = 0x210 then
    (Fld.BENCH_VE_STATUS_SLOT_PENDING pb).put ((Fld.BENCH_VE_STATUS_BUSY pb).putB w (b.engineBusy engVE)) (s.pipe (b.engineBusy engVE))
  else if o = 0x218 then
    (Fld.BENCH_AE_STATUS_CHUTE_COUNT pb).put ((Fld.BENCH_AE_STATUS_DRAIN_WAIT pb).putB
      ((Fld.BENCH_AE_STATUS_BUSY pb).putB w (b.engineBusy engAE)) b.drainWaits) b.chute.length
  else if o = 0x220 then
    (Fld.BENCH_RIFFLE_STATUS_ROUTING pb).put ((Fld.BENCH_RIFFLE_STATUS_BUSY pb).putB w (b.engineBusy engRF))
      (s.pipe (b.engineBusy engRF))
  else if o = 0x228 then
    (Fld.BENCH_KEYBUF_STATUS_CREDITS pb).put ((Fld.BENCH_KEYBUF_STATUS_LEVEL pb).put w b.keyBuf.length) b.credits
  else if o = 0x238 then
    (Fld.BENCH_TRACKER_STATUS_INTERVALS pb).put w ((b.execs.map (fun e => e.reads.length + e.writes.length)).foldl (· + ·) 0)
  else if o = 0x408 then
    BitVec.ofNat 64 (fieldAt 63 62 (foremanCode b.fm.st) + fieldAt 61 59 b.fm.stopCause + fieldAt 16 0 b.fm.pc)
  else if o = 0x410 then b.fm.fetched
  else if o = 0xA48 then BitVec.ofNat 64 (b.weir (s.rd (Fld.BENCH_WEIR_SEL_WEIR pb)))
  else if o = 0xA50 then (Fld.BENCH_WEIR_STATUS_HELD pb).put w b.held.length
  else if o = 0xC00 then
    (Fld.BENCH_SLUICE_STATUS_TAGS_OUT pb).put ((Fld.BENCH_SLUICE_STATUS_BUSY pb).putB w (!b.sluice.isEmpty))
      ((b.sluice.map (fun j => j.tags.length)).foldl (· + ·) 0)
  else
    match inArray o 0x808 0x20 16, inArray o 0x810 0x20 16, inArray o 0x818 0x20 16 with
    | some i, _, _ => (Fld.BENCH_RING_PTR_OCC pb i).put w (s.ringOcc pb i)
    | _, some i, _ => s.ringHead pb i 0
    | _, _, some i => s.ringHead pb i 1
    | _, _, _ => w

/-- The prime-table word k of slot i (DEVCTL_PRIME_ENT_*). -/
def State.primeWord (s : State) (i k : Nat) : Nat :=
  let e := s.primeEnt i
  if k = 0 then
    fieldAt 63 32 e.p + fieldAt 31 31 (b2n e.valid) + fieldAt 30 30 (b2n (s.primeInUse i)) + fieldAt 28 24 e.e1 + fieldAt 20 16 e.e2 +
      fieldAt 12 8 e.e3 + fieldAt 5 4 e.s1 + fieldAt 3 2 e.s2 + fieldAt 1 0 e.s3
  else if k = 1 then e.root
  else if e.p = 0 then 0
  else if k = 2 then fieldAt 63 32 (foldSq e.p) + foldOne e.p
  else foldCube e.p

/-- The chain word k of chain c (DEVCTL_CHAIN_ENT_*). -/
def State.chainWord (s : State) (c k : Nat) : Nat :=
  let e := s.chainEnt c
  if k = 0 then
    fieldAt 63 63 (b2n e.valid) + fieldAt 62 62 (b2n (s.chainInUse c)) + fieldAt 22 16 e.ord + fieldAt 12 8 e.spc
  else ofBytes ((List.range 8).map (fun j => e.idx.getD (8 * (k - 1) + j) 0))

/-- The leases of a ledge that are in a state. -/
def State.leaseCount (s : State) (l : Nat) (st : LeaseSt) : Nat :=
  count s.ledges.leases (fun x => decide (x.1 / 4096 = l) && decide (x.2.st = st))

/-- Benches of a ledge that satisfy a test. -/
def State.ledgeBenches (s : State) (l : Nat) (p : Bench → Bool) : Nat :=
  count s.benches (fun x => decide (ledgeOf x.1 = l) && p x.2)

/-- The checker runs an operation of the prime table, or of the chains (R30). -/
def State.primeBusy (s : State) : Bool := match s.primes.op with
  | some (.primeLoad _ _ _ _) => true
  | some (.primeDelete _ _) => true
  | _ => false

def State.chainBusy (s : State) : Bool := match s.primes.op with
  | some (.chainLoad _ _ _ _ _) => true
  | some (.chainDelete _ _) => true
  | _ => false

/-- DEVCTL_PSET_AVAIL (R241). -/
def State.psetWord (s : State) (k : Nat) : Reg64 :=
  let v := s.rd (Fld.BENCH_MACRO_ID_VERSION 0)
  if ¬ s.flag (Fld.BENCH_MACRO_ID_VALID 0) then 0
  else if v = 0x100 then (if k = 0 then 0x3000E else 0)
  else Config.psetAvail v k

/-- What a register of DEVCTL shows. -/
def State.devctlShown (s : State) (o : Nat) (w : Reg64) : Reg64 :=
  if o = Reg.DEVCTL_PRIME_STATUS then
    Fld.DEVCTL_PRIME_STATUS_VALID_COUNT.put (Fld.DEVCTL_PRIME_STATUS_BUSY.putB w s.primeBusy) (count s.primes.prime (fun x => x.2.valid))
  else if o = Reg.DEVCTL_CHAIN_STATUS then
    Fld.DEVCTL_CHAIN_STATUS_VALID.put (Fld.DEVCTL_CHAIN_STATUS_BUSY.putB w s.chainBusy)
      ((s.primes.chain.filter (fun x => x.2.valid)).map (fun x => 2 ^ x.1)).sum
  else if 0x1000 ≤ o ∧ o < 0x2000 then BitVec.ofNat 64 (s.primeWord ((o - 0x1000) / 32) (o % 32 / 8))
  else if 0x2000 ≤ o ∧ o < 0x3000 then BitVec.ofNat 64 (s.chainWord ((o - 0x2000) / 128) (o % 128 / 8))
  else if o = Reg.DEVCTL_KEY_STATUS then Fld.DEVCTL_KEY_STATUS_VALID_COUNT.put w (count s.ledges.keys (fun x => !x.2.isEmpty))
  else if 0x4080 ≤ o ∧ o < 0x40A0 then
    let l := (o - 0x4080) / 8
    let act := s.ledgeBenches l (fun b => b.kActive.isSome)
    (Fld.DEVCTL_MILLRACE_STATUS_PENDING l).put ((Fld.DEVCTL_MILLRACE_STATUS_ACTIVE l).put
      ((Fld.DEVCTL_MILLRACE_STATUS_BUSY l).putB w (decide (act ≠ 0))) act) (s.ledgeBenches l (fun b => b.kPending.isSome))
  else if 0x4100 ≤ o ∧ o < 0x4120 then s.psetWord ((o - 0x4100) / 8)
  else if 0x5010 ≤ o ∧ o < 0x5030 then
    let l := (o - 0x5010) / 8
    let held := s.leaseCount l .taken
    let clr := s.leaseCount l .clearing
    BitVec.ofNat 64 (fieldAt 60 48 (4096 - held - clr) + fieldAt 44 32 held + fieldAt 28 16 clr)
  else if 0x6040 ≤ o ∧ o < 0x6080 then
    let x := (o - 0x6040) / 8
    (Fld.DEVCTL_HBM_STACK_GIB x).put w (if s.flag (Fld.DEVCTL_HBM_STACK_PRESENT x) then 0x40 else 0)
  else if o = Reg.DEVCTL_HBM_PAGE_DATA then BitVec.ofNat 64 (s.pageOwner (s.rd Fld.DEVCTL_HBM_PAGE_SEL_PAGE * 2 ^ 21))
  else w

/-- The sensor that GAUGE_TEMP_SEL selects. -/
def State.tempSel (s : State) : Nat := s.rd Fld.GAUGE_TEMP_SEL_SENSOR % 80

/-- What a register of CLKPWR, GAUGE or SPOIL shows. -/
def State.gaugeShown (s : State) (o : Nat) (w : Reg64) : Reg64 :=
  if o = Reg.CLKPWR_THROTTLE then Fld.CLKPWR_THROTTLE_HBM.put w (s.rd Fld.DEVCTL_HBM_THERM_REQUEST)
  else if o = Reg.CLKPWR_TIME then BitVec.ofNat 64 s.power.time
  else if o = Reg.GAUGE_TEMP_DATA then
    BitVec.ofNat 64 (fieldAt 63 48 (s.rcShown (sensorMax s.tempSel)) + (s.power.temps.getD s.tempSel 0).toNat)
  else if o = Reg.SPOIL_DATA then s.spoilWord.1
  else w

/-- What a register of Kwawekan shows. -/
def State.sealShown (s : State) (o : Nat) (w : Reg64) : Reg64 :=
  if o = Reg.SEAL_STATUS then
    let own := match s.kwa.owner with
      | none => (0, false)
      | some x => (sealCode x.req, x.multi)
    Fld.SEAL_STATUS_DEBUG_UNLOCKED.put (Fld.SEAL_STATUS_ENTROPY_OK.put (Fld.SEAL_STATUS_MULTIPART.putB (Fld.SEAL_STATUS_QUEUED.put
      (Fld.SEAL_STATUS_OWNER.put w own.1) s.kwa.queue.length) own.2) (s.rd Fld.SEAL_ENTROPY_OK)) (s.rd Fld.SEAL_DEBUG_UNLOCKED)
  else if o = Reg.SEAL_BOOT then Fld.SEAL_BOOT_SVN_FLOOR.put w s.kwa.svnFloor
  else w

/-- Entry i of the tributary table as HALL_TRIB_DATA shows it. -/
def State.tribWord (s : State) (i : Nat) : Nat :=
  let t := s.trib i
  fieldAt 63 63 (b2n t.valid) + fieldAt 62 61 t.st + fieldAt 60 58 t.misses + fieldAt 57 44 t.dev + fieldAt 43 28 t.lagAvg + fieldAt 15 0 t.gen

/-- What a register of HALL shows. -/
def State.hallShown (s : State) (o : Nat) (w : Reg64) : Reg64 :=
  if o = Reg.HALL_GEN_DATA then
    let g := s.genEntry (s.rd Fld.HALL_GEN_SEL_SLOT)
    BitVec.ofNat 64 (fieldAt 63 62 g.1 + fieldAt 15 0 g.2)
  else if o = Reg.HALL_TRIB_DATA then BitVec.ofNat 64 (s.tribWord (s.rd Fld.HALL_TRIB_SEL_ENTRY))
  else if o = Reg.HALL_CFL_STATUS then Fld.HALL_CFL_STATUS_RUNNING.put w s.cflRunning
  else if 0xA8000 ≤ o ∧ o < 0xAA000 then s.routeEnt ((o - 0xA8000) / 8)
  else if 0xAC000 ≤ o ∧ o < 0xB0000 then
    let i := (o - 0xAC000) / 16
    if o % 16 = 0 then Sparse.get (fun _ => 0) s.hall.mapLo i else Sparse.get (fun _ => 0) s.hall.mapHi i
  else w

/-- What mailbox m of a view shows at offset j of its set (R458). -/
def State.mboxShown (s : State) (vw m j : Nat) (w : Reg64) : Reg64 :=
  let b := s.mbox vw m
  if j = 0x10 then
    BitVec.ofNat 64 (fieldAt 63 63 (b2n b.present.isSome) + fieldAt 62 60 (if b.present.isSome then s.rd (Fld.HIF_MBOX_CFG_KIND vw m) else 0) +
      fieldAt 31 0 b.shown)
  else if 0x18 ≤ j ∧ j < 0x58 then (b.present.getD []).getD ((j - 0x18) / 8) 0
  else w

/-- What a register of a view's HIF set shows. -/
def State.hifShown (s : State) (vw o : Nat) (w : Reg64) : Reg64 :=
  let v := s.view vw
  if o = 0x40000 then (Fld.HIF_FN_ID_HANDSHAKE vw).putB ((Fld.HIF_FN_ID_TENANT vw).put w (s.boundTenant vw)) (s.shaken vw)
  else if o = 0x40028 then (Fld.HIF_DB_STATUS_BUSY vw).putB w v.doorbell.isSome
  else if o = 0x40038 then v.resp.headD 0
  else if o = 0x40040 then
    (Fld.HIF_MGMT_STATUS_RESP_LEFT vw).put ((Fld.HIF_MGMT_STATUS_SPACE vw).put ((Fld.HIF_MGMT_STATUS_BUSY vw).putB w v.cmd.isSome)
      (512 - v.path)) v.resp.length
  else if 0x41000 ≤ o ∧ o < 0x41800 then s.mboxShown vw ((o - 0x41000) / 0x80) (o % 0x80) w
  else w

/-- What a register of a channel set shows. -/
def State.memcShown (s : State) (o : Nat) (w : Reg64) : Reg64 :=
  let c := (o - 0xC0000) / 0x100
  if o % 0x100 = 0 then (Fld.MEMC_CH_STATUS_HOT c).put w (s.rd (Fld.DEVCTL_HBM_STACK_HOT (c / 32))) else w

/-- The view whose own register set an offset belongs to: HIF and MGMT_DRV_VERSION have one per view; the I3C view reads
MGMT_DRV_VERSION as the PF's view, Matumon's accesses find that of the PF (R450, R464; log 17). -/
def ownView (vw o : Nat) : Nat :=
  if 0x40000 ≤ o ∧ o < 0x50000 then vw else if o = 0x60010 ∧ vw < 16 then vw else 0

/-- The key of a register: its offset, in the set of its view. -/
def regKey (vw o : Nat) : Nat := o + viewBit * ownView vw o

/-- What a register at a resolved offset shows to a view. -/
def State.shown (s : State) (vw o : Nat) : Reg64 :=
  let w := s.plain (regKey vw o)
  if o < 0x10000 then s.devctlShown o w
  else if o < 0x40000 then s.gaugeShown o w
  else if o < 0x50000 then s.hifShown vw o w
  else if o < 0x60000 then s.sealShown o w
  else if o < 0xA0000 then w
  else if o < 0xB0000 then s.hallShown o w
  else if o < 0x100000 then s.memcShown o w
  else s.benchShown ((o - 0x100000) / 0x10000) (o % 0x10000) w

end Sys2Proof.Machine
end

