-- ==== Sys2Proof/Machine/Access.lean ====
section
/-! DEFINITION. How a register access is judged and what a read and a write do (R3-R6, R24, R29, R296, R360, R450, R500-R508 of
spec/20_register_map.md and the chapters that define the registers). -/

namespace Sys2Proof.Machine

/-- Whether a view is a virtual function. -/
def isVf (vw : Nat) : Bool := decide (1 ≤ vw) && decide (vw ≤ 15)

/-- The logical bench of an offset in the logical views. -/
def logicalAt (o : Nat) : Option Nat := if 0x600000 ≤ o ∧ o < 0xA00000 then some ((o - 0x600000) / 0x10000) else none

/-- Whether a VF may reach a logical bench: one of a gang assigned to its tenant (Table 17.3). -/
def State.vfBench (s : State) (vw o : Nat) : Bool :=
  match logicalAt o with
  | none => false
  | some m => decide (s.boundTenant vw ≠ 0) && decide (s.gangTenant (m / 4) = s.boundTenant vw)

/-- Check 2 of R501 for a read (Table 17.3, R464). Matumon has no set of its own in HIF (log 17). -/
def State.mayReadAt (s : State) (vw o : Nat) : Bool :=
  if 0x40000 ≤ o ∧ o < 0x50000 then decide (vw ≤ 16) && (decide (vw = 0) || !(decide (0x40100 ≤ o) && decide (o < 0x40180)))
  else if isVf vw then decide (o < 0x10000) || (decide (0x50000 ≤ o) && decide (o < 0x70000)) || s.vfBench vw o
  else true

/-- Check 2 of R501 for a write. -/
def State.mayWriteAt (s : State) (vw o : Nat) : Bool :=
  let hif := decide (0x40000 ≤ o) && decide (o < 0x50000)
  if vw = 16 then decide (o = 0x40030) || decide (o = 0x40038) || decide (o = 0x40040)
  else if hif then s.mayReadAt vw o
  else if isVf vw then (decide (o = Reg.DEVCTL_LEASE_CMD) && decide (s.boundTenant vw ≠ 0)) || decide (o = 0x60010)
  else decide (vw ≠ 17) || decide (o ≠ 0x60010)

/-- The offset behind the bench map: a logical view stands for a physical bench; a retired bench, an idle spare and a gang out of
service answer no access (R24, R506). -/
def State.resolve (s : State) (o : Nat) : Option Nat :=
  match logicalAt o with
  | some m => if s.gangAvail (m / 4) then some (0x100000 + 0x10000 * s.physOf m + o % 0x10000) else none
  | none =>
    if 0x100000 ≤ o ∧ o < 0x540000 ∧ s.logicalOf ((o - 0x100000) / 0x10000) = none then none else some o

/-- Whether an offset is implemented (R502). -/
def implemented (o : Nat) : Bool :=
  let o := if (logicalAt o).isSome then 0x100000 + o % 0x10000 else o
  decide (o % 8 = 0) && decide (o < viewBit) && (regSpecOf o).isSome

/-- Whether an offset lies in the half-B set of an unsplit port (R360). -/
def State.deadHalf (s : State) (o : Nat) : Bool :=
  decide (0x80000 ≤ o) && decide (o < 0xA0000) && decide (o % 0x1000 ≥ 0x800) &&
    !s.flag (Fld.FAB_PORT_CTL_SPLIT (2 * ((o - 0x80000) / 0x1000)))

/-- The tenant whose MGMT registers an offset is. -/
def mgmtTenantAt (o : Nat) : Option Nat :=
  if 0x60200 ≤ o ∧ o < 0x60500 then some (o % 0x100 / 8) else none

/-- A value read, and the state after the read. -/
structure Got where
  val : Reg64
  after : State
  deriving DecidableEq, Repr

/-- Four conflict counters at a key read and cleared. -/
def State.takeCounters (s : State) (f : Nat → Fld) : Got :=
  let v := ofBytes ((List.range 4).flatMap (fun j => toBytes 2 (s.rcShown (f j))))
  ⟨BitVec.ofNat 64 v, (List.range 4).foldl (fun s j => s.rcClear (f j)) s⟩

/-- BENCH_CONFL_DATA (R292). -/
def State.readConfl (s : State) (pb : Nat) : Got :=
  let g := s.rd (Fld.BENCH_CONFL_IDX_GROUP pb)
  let keys := (List.range 4).map (fun j => behind (Reg.BENCH_CONFL_DATA pb) (4 * g + j))
  let v := ofBytes (keys.flatMap (fun k => toBytes 2 (s.reg k).toNat))
  ⟨BitVec.ofNat 64 v, (keys.foldl (fun s k => s.setReg k 0) s).wr (Fld.BENCH_CONFL_IDX_GROUP pb) (g + 1)⟩

/-- DEVCTL_BASIN_CONFL_DATA (R292). -/
def State.readBasinConfl (s : State) : Got :=
  let g := s.rd Fld.DEVCTL_BASIN_CONFL_IDX_GROUP
  let k := behind Reg.DEVCTL_BASIN_CONFL_DATA (64 * s.rd Fld.DEVCTL_BASIN_CONFL_IDX_LEDGE + g)
  let r := s.takeCounters (fun j => ⟨k, 16 * j + 15, 16 * j⟩)
  ⟨r.val, r.after.wr Fld.DEVCTL_BASIN_CONFL_IDX_GROUP (g + 1)⟩

/-- GAUGE_TEMP_DATA (R505). -/
def State.readTemp (s : State) : Got :=
  let i := s.tempSel
  ⟨s.shown 0 Reg.GAUGE_TEMP_DATA, (s.rcClear (sensorMax i)).wr Fld.GAUGE_TEMP_SEL_SENSOR ((i + 1) % 80)⟩

/-- An index register advanced after an access to its data register. -/
def State.advance (s : State) (f : Fld) : State := s.wr f (s.rd f + 1)

/-- A read of a bench register by a view; none where the register refuses it (R119, R197, R416). -/
def State.readBench (s : State) (vw pb o : Nat) : Option Got :=
  let k := 0x100000 + 0x10000 * pb + o
  let halted := decide ((s.bench pb).mode = .halted)
  if o = 0x88 then if isVf vw && halted then none else (s.tblRead pb).map (fun r => ⟨r.1, r.2⟩)
  else if o = 0x420 then if isVf vw && halted then none else (s.fmMemRead pb).map (fun r => ⟨r.1, r.2⟩)
  else if o = 0xA28 then some (s.readConfl pb)
  else if o = 0xA48 then some ⟨s.shown vw k, s.weirNext pb⟩
  else if o = 0x210 ∨ o = 0x220 then some ⟨s.shown vw k, (s.clearRc k).skip⟩
  else some ⟨s.shown vw k, s.clearRc k⟩

/-- A read at a resolved offset; none where its register refuses it. -/
def State.readReg (s : State) (vw o : Nat) : Option Got :=
  let v := s.shown vw o
  if 0x100000 ≤ o then s.readBench vw ((o - 0x100000) / 0x10000) (o % 0x10000)
  else if s.deadHalf o then none
  else if o = Reg.DEVCTL_BASIN_CONFL_DATA then some s.readBasinConfl
  else if o = Reg.DEVCTL_HBM_PAGE_DATA then some ⟨v, s.advance Fld.DEVCTL_HBM_PAGE_SEL_PAGE⟩
  else if o = Reg.GAUGE_TEMP_DATA then some s.readTemp
  else if o = Reg.SPOIL_DATA then some ⟨s.spoilRead.1, s.spoilRead.2⟩
  else if o = 0x40038 then some ⟨(s.dataRead vw).1, (s.dataRead vw).2⟩
  else if o = Reg.HALL_GEN_DATA then some ⟨v, s.advance Fld.HALL_GEN_SEL_SLOT⟩
  else if o = Reg.HALL_TRIB_DATA then some ⟨v, s.advance Fld.HALL_TRIB_SEL_ENTRY⟩
  else
    match mgmtTenantAt o with
    | some t => if isVf vw ∧ t ≠ s.boundTenant vw then some ⟨0, s⟩ else some ⟨v, s⟩
    | none => some ⟨v, s.clearRc (regKey vw o)⟩

/-- A write to a DEVCTL register; none where it is refused (R29, R296, R315, R324). -/
def State.writeDevctl (s : State) (vw o : Nat) (data : Reg64) : Option State :=
  if o = Reg.DEVCTL_PRIME_CMD then some (s.primeCmd data)
  else if o = Reg.DEVCTL_CHAIN_CMD then some (s.chainCmd data)
  else if o = Reg.DEVCTL_KEY_CMD then some (s.keyCmd data)
  else if o = Reg.DEVCTL_LEASE_CMD then some (s.leaseStart (if isVf vw then s.boundTenant vw else getBits data 52 48) data)
  else if o = Reg.DEVCTL_HBM_THERM then
    let t5 := getBits data 23 16
    let t6 := getBits data 15 8
    let t8 := getBits data 7 0
    if 70 ≤ t5 ∧ t5 < t6 ∧ t6 < t8 ∧ t8 ≤ 100 then some (s.soft o data) else none
  else if o = Reg.DEVCTL_HBM_PAGE_DATA then
    if vw = 17 then some ((s.setPageOwner (s.rd Fld.DEVCTL_HBM_PAGE_SEL_PAGE) (getBits data 4 0)).advance Fld.DEVCTL_HBM_PAGE_SEL_PAGE)
    else none
  else if o = Reg.DEVCTL_HBM_FILL then if vw = 17 then some (s.fillStart data) else none
  else some (s.soft o data)

/-- A write to a register of CLKPWR, GAUGE or SPOIL. -/
def State.writeGauge (s : State) (vw o : Nat) (data : Reg64) : Option State :=
  if o = Reg.CLKPWR_THROTTLE then some (s.throttleWrite (decide (vw = 17)) data)
  else if o = Reg.CLKPWR_THERM then
    let t5 := getBits data 23 16
    let t6 := getBits data 15 8
    let t8 := getBits data 7 0
    if 80 ≤ t5 ∧ t5 < t6 ∧ t6 < t8 ∧ t8 < s.rd Fld.CLKPWR_THERM_THW then some (s.soft o data) else none
  else if o = Reg.CLKPWR_TIME_CTL then if vw = 17 then some (s.timeCtlWrite data) else none
  else if o = Reg.CLKPWR_TIME_SET then if vw = 17 then some (s.soft o data) else none
  else if o = Reg.SPOIL_CTL then some (if data.getLsbD 63 then s.spoilClear else s)
  else if o = Reg.SPOIL_IRQ_EN then some (s.soft o (data &&& 0x0FFFFFFE))
  else some (s.soft o data)

/-- Whether a write of HIF_IRQ_MAP is accepted: no enabled source names a vector beyond the function's table, no source of the PF
alone is mapped in a VF's view (R461). Bit 6 of a byte is reserved and sources 20 to 23 read zero. -/
def irqMapOk (vw k : Nat) (data : Reg64) : Bool :=
  (List.range 8).all (fun j =>
    let byte := getBits data (8 * j + 7) (8 * j)
    let src := 8 * k + j
    (decide (byte % 64 < if vw = 0 then 64 else 8)) && (!isVf vw || !(decide (src = 18) || decide (src = 19)) || decide (byte = 0)))

/-- The bits of HIF_IRQ_MAP that are kept. -/
def irqMapMask (k : Nat) : Reg64 := if k = 2 then 0x00000000BFBFBFBF else 0xBFBFBFBFBFBFBFBF

/-- A write to a register of a view's HIF set. -/
def State.writeHif (s : State) (vw o : Nat) (data : Reg64) : Option State :=
  if o = 0x40020 then some (s.bellWrite vw data)
  else if o = 0x40030 then some (s.mgmtCmdWrite vw data)
  else if o = 0x40038 then some (s.dataWrite vw data)
  else
    match inArray o 0x40048 8 3, inArray o 0x40100 8 16 with
    | some k, _ => if irqMapOk vw k data then some (s.soft (regKey vw o) (data &&& irqMapMask k)) else none
    | _, some v => s.vfBind v data
    | none, none =>
      if 0x41000 ≤ o ∧ o < 0x41800 then
        let m := (o - 0x41000) / 0x80
        if o % 0x80 = 0 then s.mboxCfg vw m data
        else if o % 0x80 = 8 then some (s.mboxAck vw m (getBits data 31 0))
        else some s
      else some (s.soft (regKey vw o) data)

/-- A write to a register of MGMT. -/
def State.writeMgmt (s : State) (vw o : Nat) (data : Reg64) : Option State :=
  if o = Reg.MGMT_CFG then if getBits data 15 0 < getBits data 31 16 then some (s.soft o data) else none
  else if o = 0x60010 then
    let s := s.soft (regKey vw o) data
    some (if data.getLsbD 63 then s.offerVersion vw else s)
  else some (s.soft o data)

/-- The default allocations of a link set, as its port is split or not (Table 13.8). -/
def State.defaultAlloc (s : State) (lk : Nat) (half : Bool) : State :=
  (List.range 8).foldl (fun s v => s.wr (Fld.FAB_PORT_CREDIT_ALLOC lk v) (allocDefault half v)) s

/-- A write of FAB_PORT_CTL (R335, R339, R356, R358): the RW fields, then what ENABLE, RETRAIN and LL_RESET do. -/
def State.writePortCtl (s : State) (lk : Nat) (data : Reg64) : Option State :=
  let even := lk - lk % 2
  let old := s.flag (Fld.FAB_PORT_CTL_SPLIT even)
  let data := if lk % 2 = 1 then data &&& ~~~ (1#64 <<< 48) else data
  let change := decide (lk % 2 = 0) && decide (data.getLsbD 48 ≠ old)
  let quiet := decide (s.linkState even = lkDisabled) && decide (s.linkState (even + 1) = lkDisabled)
  if getBits data 57 56 = 3 ∨ (change ∧ ¬ quiet) then none
  else
    let was := s.flag (Fld.FAB_PORT_CTL_ENABLE lk)
    let s := s.soft (Reg.FAB_PORT_CTL lk) data
    let s := if change then (s.defaultAlloc even (data.getLsbD 48)).defaultAlloc (even + 1) true else s
    let s := if data.getLsbD 63 then (if was then s else s.linkEnableNow lk) else (if was then s.linkDisableNow lk else s)
    let s := if data.getLsbD 62 then s.linkRetrainNow lk else s
    some (if data.getLsbD 61 then s.llResetNow lk else s)

/-- A write of FAB_PORT_CREDIT (R352). The total may stay below the buffer while its registers are written one by one, never above. -/
def State.writeCredit (s : State) (lk v : Nat) (data : Reg64) : Option State :=
  let a := getBits data 41 32
  let old := s.rd (Fld.FAB_PORT_CREDIT_ALLOC lk v)
  let total := ((List.range 8).map (fun i => if i = v then a else s.rd (Fld.FAB_PORT_CREDIT_ALLOC lk i))).foldl (· + ·) 0
  let room := if s.isHalf lk then 512 else 1024
  if v = 0 ∨ v = 6 ∨ a = old then some s
  else if s.linkState lk ≠ lkDisabled ∨ a % 2 ≠ 0 ∨ a < 8 ∨ room < total then none
  else some (s.wr (Fld.FAB_PORT_CREDIT_ALLOC lk v) a)

/-- A write to a register of FAB. -/
def State.writeFab (s : State) (o : Nat) (data : Reg64) : Option State :=
  let lk := (o - 0x80000) / 0x800
  let r := o % 0x800
  if s.deadHalf o then none
  else if r = 0 then s.writePortCtl lk data
  else if 0x40 ≤ r ∧ r < 0x80 then s.writeCredit lk ((r - 0x40) / 8) data
  else some (s.soft o data)

/-- The bits of a staged Confluence word that are not reserved (Table 14.9). -/
def cflMask (k : Nat) : Reg64 :=
  if k = 0 then 0x7FDF3FFF7FFF3FFF else if k = 1 then 0xFFFFFFFF1F7F7F00 else if k ≤ 3 then 0x7FFFFFFFFF
  else if k ≤ 5 then 0xFC7FF000FFFFFFFF else 0

/-- A tributary entry written: VALID and DEV (R376). A slot that comes under watch counts as heard now. -/
def State.writeTrib (s : State) (data : Reg64) : State :=
  let i := s.rd Fld.HALL_TRIB_SEL_ENTRY
  let t := s.trib i
  let valid := data.getLsbD 63
  let dev := getBits data 57 44
  let new := valid && (!t.valid || decide (t.dev ≠ dev))
  let s := s.setTrib i { t with valid := valid, dev := dev, lastBeat := if new then some s.power.time else t.lastBeat }
  s.advance Fld.HALL_TRIB_SEL_ENTRY

/-- A write to a register of HALL (R366, R371, R377). -/
def State.writeHall (s : State) (vw o : Nat) (data : Reg64) : Option State :=
  if o = Reg.HALL_GEN_DATA then
    if vw = 17 then
      some ((s.setGen (s.rd Fld.HALL_GEN_SEL_SLOT) (getBits data 63 62) (getBits data 15 0)).advance Fld.HALL_GEN_SEL_SLOT)
    else none
  else if o = Reg.HALL_TRIB_DATA then some (s.writeTrib data)
  else if o = Reg.HALL_TBL_CMD then
    let t := getBits data 61 60
    if 2 ≤ t ∨ (vw ≠ 17 ∧ t = 0 ∧ data.getLsbD 63 ∧ !data.getLsbD 62 ∧ getBits data 9 0 < 64) then none else some (s.tblCmd data)
  else if 0xA0200 ≤ o ∧ o < 0xA0240 then
    let k := (o - 0xA0200) / 8
    let keep := s.reg o &&& ~~~ (cflMask k)
    some (s.setReg o (keep ||| (data &&& cflMask k)))
  else if o = Reg.HALL_CFL_CMD then some (s.cflCmd data)
  else if o = Reg.HALL_SNAP_CTL then some (s.snapWrite data)
  else if o = Reg.HALL_FRESET then some (s.fresetWrite data)
  else some (s.soft o data)

/-- Matumon puts a channel into TEST or takes it out (R323). -/
def State.testChannel (s : State) (c st : Nat) : State :=
  let active := bit (s.rd (Fld.DEVCTL_HBM_ACT_ACT (c / 64))) (c % 64)
  let may := decide (s.devState = devClearing) || decide (s.devState = devHeld) || !active
  if st = 1 then if may then s.wr (Fld.MEMC_CH_STATUS_STATE c) 1 else s
  else s.wr (Fld.MEMC_CH_STATUS_STATE c) (if active then 0 else 2)

/-- A write to a register of a channel set. -/
def State.writeMemc (s : State) (vw o : Nat) (data : Reg64) : Option State :=
  let c := (o - 0xC0000) / 0x100
  let r := o % 0x100
  if r = 0 then some (if vw = 17 then s.testChannel c (getBits data 63 62) else s)
  else if r = 0x20 then if s.tgAccepts c data then some (s.tgWrite c data) else none
  else some (s.soft o data)

/-- A write at a resolved offset; none where its register refuses it. -/
def State.writeReg (s : State) (vw o : Nat) (data : Reg64) : Option State :=
  if o < 0x10000 then s.writeDevctl vw o data
  else if o < 0x40000 then s.writeGauge vw o data
  else if o < 0x50000 then s.writeHif vw o data
  else if o < 0x60000 then some (s.soft o data)
  else if o < 0x80000 then s.writeMgmt vw o data
  else if o < 0xA0000 then s.writeFab o data
  else if o < 0xC0000 then s.writeHall vw o data
  else if o < 0x100000 then s.writeMemc vw o data
  else s.benchWrite ((o - 0x100000) / 0x10000) (o % 0x10000) data

/-- A read judged by R501. -/
def State.judgedRead (s : State) (vw o : Nat) : Option Got :=
  if s.mayReadAt vw o && implemented o then
    match s.resolve o with
    | none => none
    | some p => s.readReg vw p
  else none

/-- A write judged by R501. -/
def State.judgedWrite (s : State) (vw o : Nat) (data : Reg64) : Option State :=
  if s.mayWriteAt vw o && implemented o then
    match s.resolve o with
    | none => none
    | some p => s.writeReg vw p data
  else none

/-- Whether an access of a view reaches the registers: power is up, and for a function the PCIe link is up; before the root PLL locks
they answer reads alone (R470, R475, R476). -/
def State.reaches (s : State) (vw : Nat) (write : Bool) : Bool :=
  let alive := decide (s.power.st = .running) || (decide (s.power.st = .locking) && !write)
  alive && (decide (16 ≤ vw) || !s.power.thermtrip)

/-- The value of a read that is refused. -/
def allOnes : Reg64 := BitVec.allOnes 64

/-- A refused access: logged (R501). -/
def State.refuseAccess (s : State) (vw : Nat) (write : Bool) (o : Nat) : State := s.accessError vw write 0 1 0 o

/-- A 64-bit register read: the value and the state after it (R501, R505). -/
def State.regRead (s : State) (vw o : Nat) : Got :=
  match s.judgedRead vw o with
  | some g => g
  | none => ⟨allOnes, s.refuseAccess vw false o⟩

/-- A 64-bit register write (R501, R503). -/
def State.regWrite (s : State) (vw o : Nat) (data : Reg64) : State :=
  match s.judgedWrite vw o data with
  | some s' => s'
  | none => s.refuseAccess vw true o

/-- A register read by a sender: its value goes back to it. -/
def State.busRead (s : State) (v : View) (o : Nat) : State :=
  if s.reaches (viewNum v) false then
    let g := s.regRead (viewNum v) o
    g.after.emit (.readData v o g.val)
  else s

/-- A register write by a sender. -/
def State.busWrite (s : State) (v : View) (o : Nat) (data : Reg64) : State :=
  if s.reaches (viewNum v) true then s.regWrite (viewNum v) o data else s

/-- An access of another width than 64 bits: refused (R3, R501). -/
def State.badWidth (s : State) (v : View) (o : Nat) (write : Bool) (width : Nat) : State :=
  if s.reaches (viewNum v) write then
    let s := s.accessError (viewNum v) write width 0 0 o
    if write then s else s.emit (.readData v o allOnes)
  else s

/-- The offset of a bench block (R500). -/
def benchOffset : BenchRef → Nat
  | .phys n => 0x100000 + 0x10000 * n.val
  | .logical m => 0x600000 + 0x10000 * m.val

/-- Words of an I3C private read from an offset: a data register advances once a word, other registers follow one another
(R464). -/
def isDataReg (o : Nat) : Bool :=
  o = Reg.DEVCTL_BASIN_CONFL_DATA || o = Reg.DEVCTL_HBM_PAGE_DATA || o = Reg.GAUGE_TEMP_DATA || o = Reg.SPOIL_DATA || o = 0x40038 ||
    o = Reg.HALL_GEN_DATA || o = Reg.HALL_TRIB_DATA ||
    (decide (0x100000 ≤ o) && (decide (o % 0x10000 = 0x88) || decide (o % 0x10000 = 0x420) || decide (o % 0x10000 = 0xA28) ||
      decide (o % 0x10000 = 0xA48)))

/-- k words read one after another by I3C. -/
def State.i3cWords : Nat → State → Nat → List Reg64 → List Reg64 × State
  | 0, s, _, ws => (ws, s)
  | k + 1, s, o, ws =>
    let g := s.regRead 16 o
    State.i3cWords k g.after (if isDataReg o then o else o + 8) (ws ++ [g.val])

/-- I3C_PRIVATE_READ (R464). -/
def State.i3cRead (s : State) (k : Nat) : State :=
  match (s.view 16).i3cRead with
  | none => s
  | some o =>
    if s.reaches 16 false then
      let r := State.i3cWords k (s.setView 16 { s.view 16 with i3cRead := none }) o []
      r.2.emit (.i3cData r.1)
    else s

/-- I3C_PRIVATE_WRITE: an offset alone is for the read that follows; more words than one only at a data register (R464). -/
def State.i3cWrite (s : State) (o : Nat) (ws : List Reg64) : State :=
  if ws.isEmpty then
    if s.power.st = .off then s else s.setView 16 { s.view 16 with i3cRead := some o }
  else if s.reaches 16 true then
    if 1 < ws.length ∧ !isDataReg o then s.refuseAccess 16 true o
    else ws.foldl (fun s w => s.regWrite 16 o w) s
  else s

end Sys2Proof.Machine
end

