-- ==== Sys2Proof/WellFormed.lean ====
section
/-! DEFINITION. Which commands are well-formed: the shapes that the hardware's accesses, frames, flits and samples can have.
An operand's value is never a question of form. -/

namespace Sys2Proof

/-- An intake channel delivers between one byte and 4,096 bytes at a time, or an error. -/
def HostData.wellFormed : HostData → Bool
  | .data bytes => decide (1 ≤ bytes.length) && decide (bytes.length ≤ 4096)
  | .error => true

/-- The device finds the checks 1, 2 and 4 of an image to fail or not; check 3 is its own comparison. Four digest words. -/
def ImageCheck.wellFormed (img : ImageCheck) : Bool :=
  decide (img.digests.length = 4) &&
    match img.failed with
    | none => true
    | some c => decide (c.1 = 1) || decide (c.1 = 2) || decide (c.1 = 4)

/-- Whether a command is well-formed: the byte counts of BAR2 accesses, I3C frames and flits, and the number of values in
a sample or report. -/
def Instr.wellFormed (i : Instr) : Bool :=
  match i with
  | .registerWrite _ _ _ => true
  | .rcFieldRead _ _ => true
  | .tblDataAccess _ _ _ => true
  | .fmMemDataAccess _ _ _ => true
  | .weirDataAccess _ _ _ => true
  | .conflDataRead _ _ => true
  | .basinConflDataRead _ => true
  | .hbmPageDataAccess _ _ => true
  | .tempDataRead _ => true
  | .hallGenDataAccess _ _ => true
  | .hallTribDataAccess _ _ => true
  | .primeLoad _ _ => true
  | .primeDelete _ _ => true
  | .primeOpComplete => true
  | .chainLoad _ _ _ _ => true
  | .chainDelete _ _ _ _ => true
  | .chainOpComplete => true
  | .keyInstall _ _ => true
  | .keyRemove _ _ => true
  | .keyRead _ _ => true
  | .keyOpComplete => true
  | .start _ _ _ => true
  | .stop _ _ _ => true
  | .benchReset _ => true
  | .benchResetDone _ => true
  | .rinse _ => true
  | .rinseComplete _ => true
  | .benchHwFailure _ => true
  | .benchSelfTestDone _ _ => true
  | .gangGateOff _ => true
  | .gangGateOn _ => true
  | .spareSubstitute _ _ _ => true
  | .fetchLine _ => true
  | .poolWindowComplete _ _ _ words _ _ => decide (words.length ≤ 512)
  | .exchangeDataArrival _ => true
  | .aeTileEnterChute _ => true
  | .commandRetire _ _ => true
  | .stallLimitReached _ => true
  | .phaseDrainComplete _ => true
  | .phaseTurnaroundEnd _ => true
  | .token _ _ => true
  | .phase _ _ => true
  | .endStream _ _ => true
  | .wsig _ _ => true
  | .wwait _ _ => true
  | .warrive _ _ => true
  | .wreset _ _ => true
  | .msend _ _ => true
  | .ntt _ _ => true
  | .intt _ _ => true
  | .radd _ _ => true
  | .rsub _ _ => true
  | .rneg _ _ => true
  | .rmul _ _ => true
  | .rmac _ _ => true
  | .rmuls _ _ => true
  | .rstep _ _ => true
  | .rtail _ _ => true
  | .drop _ _ => true
  | .mov _ _ => true
  | .fadd _ _ => true
  | .fmul _ _ => true
  | .ffma _ _ => true
  | .fcmp _ _ => true
  | .fsel _ _ => true
  | .fmin _ _ => true
  | .fmax _ _ => true
  | .fcvt _ _ => true
  | .fdrain _ _ => true
  | .fconv _ _ => true
  | .rconv _ _ => true
  | .matmul _ _ => true
  | .transpose _ _ => true
  | .automorph _ _ => true
  | .permute _ _ => true
  | .copy _ _ => true
  | .tload _ _ => true
  | .resume _ _ => true
  | .ksw _ _ => true
  | .rot _ _ => true
  | .rescale _ _ => true
  | .freshet _ _ => true
  | .pbs _ _ => true
  | .extract _ _ => true
  | .pack _ _ => true
  | .millraceStreamStart _ => true
  | .keyUnitDeliver _ _ => true
  | .tagSend _ => true
  | .tagResponse _ _ => true
  | .peerTagArrival _ _ => true
  | .basinAccess _ _ _ => true
  | .hbmChannelAccess _ _ _ => true
  | .sluiceReady _ _ => true
  | .weirOperationArrival _ => true
  | .weirReplyArrival _ => true
  | .foremanInstruction _ => true
  | .foremanInterrupt _ => true
  | .stalledInstructionRetire _ => true
  | .xcPush _ => true
  | .xcPushm _ => true
  | .xcTw _ => true
  | .xcTr _ => true
  | .xcTkpost _ => true
  | .xcTkwait _ => true
  | .xcTkpoll _ => true
  | .xcWsig _ => true
  | .xcWwait _ => true
  | .xcWarrive _ => true
  | .xcWreset _ => true
  | .xcWread _ => true
  | .xcSend _ => true
  | .xcRfree _ => true
  | .messageArrival _ => true
  | .creditReturnArrival _ => true
  | .routeWrite _ _ _ _ => true
  | .poolScrubStep _ _ => true
  | .basinScrubStep _ _ => true
  | .foremanScrubStep _ _ _ => true
  | .leaseTake _ _ _ _ _ => true
  | .leaseFree _ _ _ _ _ => true
  | .leaseRead _ _ _ => true
  | .leaseCmdComplete => true
  | .leaseGranuleSwept _ => true
  | .hbmRemap _ _ => true
  | .hbmTempSample temps => decide (temps.length = 8)
  | .hbmPatrolRead _ _ _ => true
  | .tgGo _ _ _ => true
  | .tgStop _ _ _ => true
  | .tgRunComplete _ _ => true
  | .hbmFillGo _ _ _ => true
  | .hbmFillComplete => true
  | .linkEnable _ _ _ => true
  | .linkDisable _ _ _ => true
  | .linkRetrain _ _ _ => true
  | .llReset _ _ _ => true
  | .llResetComplete _ => true
  | .linkDetectRetry _ => true
  | .linkPartnerSeen _ _ => true
  | .linkEqualiseDone _ => true
  | .linkMeasureDone _ _ losses => decide (losses.length = 8)
  | .linkExchangeDone _ cap => decide (cap.alloc.length = 8)
  | .linkStateTimeout _ => true
  | .linkRetrainDone _ => true
  | .laneFailure _ _ => true
  | .flitSend _ => true
  | .flitReceive _ flit _ _ => decide (flit.length = 256)
  | .modulePresenceSample _ => true
  | .hallReadRequest _ => true
  | .hallWriteRequest _ => true
  | .bulkReceive _ => true
  | .mgmtPacketReceive _ => true
  | .hallTblCommit _ _ _ => true
  | .hallTblRead _ _ _ => true
  | .heartbeatSend => true
  | .heartbeatReceive _ => true
  | .heartbeatTick => true
  | .fenceRequestReceive _ => true
  | .fenceNoticeApply _ => true
  | .fenceAcksComplete => true
  | .admitReceive _ _ _ => true
  | .spareNoticeReceive _ _ => true
  | .tribTableReceive _ => true
  | .cflInstall _ _ => true
  | .cflRemove _ _ => true
  | .cflRead _ _ => true
  | .cflCmdComplete => true
  | .collPacketReceive p => decide (p.bytes.length ≤ 4096)
  | .cflRunComplete _ => true
  | .snapGo _ _ => true
  | .snapMarkerReceive _ _ => true
  | .snapCut => true
  | .snapReportReceive _ _ => true
  | .fresetGo _ _ _ => true
  | .fresetNoticeReceive _ _ => true
  | .fresetReportReceive _ => true
  | .tsyncExchange => true
  | .tsyncPacketReceive _ _ _ _ => true
  | .ppsEdge => true
  | .timeSet _ _ => true
  | .ppsTimeout => true
  | .watchdogFeed _ => true
  | .watchdogExpiry _ _ => true
  | .coreRestartDone _ => true
  | .drvVersionOffer _ _ _ => true
  | .tenantOpen _ => true
  | .tenantClose _ => true
  | .jobStart _ => true
  | .jobKill _ => true
  | .jobRelease _ => true
  | .dumpPool _ => true
  | .serviceOpen _ => true
  | .serviceClose _ => true
  | .keyLoad _ => true
  | .keyEvict _ => true
  | .fwStage _ => true
  | .fwStageVerified img _ => img.wellFormed
  | .jobEnd _ _ => true
  | .keepLimitExpiry _ => true
  | .batchDispatch _ => true
  | .batchWaitExpiry _ => true
  | .donePoll _ => true
  | .intakeStarved _ => true
  | .sealSingleRequest _ _ => true
  | .sealInit _ _ => true
  | .sealUpdate _ _ => true
  | .sealFinal _ => true
  | .sealAbort _ => true
  | .sealOpComplete _ => true
  | .sealIdleTimeout => true
  | .entropyHealthFail _ => true
  | .entropyRestartDone => true
  | .spdmRequest _ _ => true
  | .ideKeyProg _ _ => true
  | .ideKSetGo _ _ => true
  | .debugChallengeRead => true
  | .debugUnlock _ _ => true
  | .bar2Write _ _ bytes => decide (1 ≤ bytes.length) && decide (bytes.length ≤ 4096)
  | .bar2Read _ _ len => decide (1 ≤ len.toNat) && decide (len.toNat ≤ 4096)
  | .doorbellRequest _ _ _ => true
  | .doorbellCopyIn _ _ _ => true
  | .doorbellCopyOut _ _ _ => true
  | .doorbellHostData _ d => d.wellFormed
  | .doorbellComplete _ => true
  | .mboxCfgWrite _ _ _ _ _ => true
  | .mboxAck _ _ _ => true
  | .mboxResultPresent _ _ => true
  | .vfBindWrite _ _ _ _ => true
  | .mgmtCmdStart _ _ _ => true
  | .mgmtCmdAbort _ => true
  | .mgmtDataWrite _ _ => true
  | .mgmtDataRead _ => true
  | .i3cPrivateWrite _ words => decide (words.length ≤ 32)
  | .i3cPrivateRead k => decide (1 ≤ k.toNat) && decide (k.toNat ≤ 32)
  | .functionLevelReset _ => true
  | .pwrokRise _ _ => true
  | .rootPllLock => true
  | .pllLockTimeout => true
  | .pwrokFall _ => true
  | .perstAssert => true
  | .perstRelease => true
  | .bootImageVerified img _ => img.wellFormed
  | .clearingComplete => true
  | .ledgerWrite => true
  | .ledgerWriteComplete _ => true
  | .dieTempSample temps => decide (temps.length = 80)
  | .thermalTrip _ _ => true
  | .railSample rails currents powers => decide (rails.length = 9) && decide (currents.length = 2) && decide (powers.length = 4)
  | .reachWardenEval _ => true
  | .throttleFloorWrite _ _ => true
  | .throttleTargetChange => true
  | .vcoreAck _ => true
  | .switchPoint => true
  | .spoilEntryArrival _ => true
  | .spoilClear _ => true
  | .spoilDataRead _ => true
  | .trigInSnapshotEdge => true
  | .trigInHaltEdge => true
  | .trigOutSecond => true
  | .refusedAccess _ _ _ _ => true
  | .undefinedOpcode _ _ => true
  | .hostCompletionTimeout _ => true
  | .bulkAckReceive _ => true
  | .pcieConfigAccess _ _ _ => true
  | .i3cCcc _ => true

end Sys2Proof
end

