-- ==== Sys2Proof/Machine/Idle.lean ====
section
/-! DEFINITION. What the rows share (when a command reaches the device at all, the words that a row's fields make), and what the
device does when no command waits (log 2): one cycle of tclk passes, Matumon drains the mailboxes' data paths and opens the
intakes that it may open again (R421, R463, R485). -/

namespace Sys2Proof.Machine

/-- What a command answers. -/
abbrev Result := Host.Outcome State Fault Refusal

/-- A command whose operands have the shape that the hardware gives them, else a fault. -/
def formed (ok : Bool) (s : State) : Result := if ok then .next s else .fault .illFormed

/-- An event of a unit: nothing happens in a device that is off, held in reset, or without its root clock (log 4). -/
def State.live (s : State) (f : State → State) : State := if s.running then f s else s

/-- A register word from values at their lowest bits. -/
def word (l : List (Nat × Nat)) : Reg64 := BitVec.ofNat 64 (l.foldl (fun n x => n + x.2 * 2 ^ x.1) 0)

/-- Matumon drains the data path of every mailbox (R463). -/
def State.drainPaths (s : State) : State :=
  (s.host.views.map Prod.fst).foldl (fun s vw =>
    if (s.view vw).path = 0 then s else s.setView vw { s.view vw with path := 0 }) s

/-- The intake task opens what it may open again (R421). -/
def State.reopenAll (s : State) : State :=
  (s.mgmt.tenants.map Prod.fst).foldl (fun s t => s.reopenIntake t) s

/-- One cycle of tclk with no command waiting. In reset by PERST_N device time goes on alone (R476). -/
def State.idle (s : State) : State :=
  if s.running then
    let s := s.tick
    if s.coreRuns 0 then s.drainPaths.reopenAll else s.reopenAll
  else if s.power.st = .held ∧ s.flag Fld.CLKPWR_CLK_ROOT_LOCK then { s with power := s.power.ticked s.ratePpb }
  else s

end Sys2Proof.Machine
end

