-- ==== Sys2Proof/Machine/AccessRows.lean ====
section
/-! DEFINITION. The rows of the register interface: accesses of any register and of the data registers behind which an array stands
(R119, R197, R292, R300, R315, R376, R377, R497, R501, R503, R505, R526). Matumon, the functions and I3C are judged alike by R501. -/

namespace Sys2Proof.Machine

/-- An access of a data register: a write of w, or a read. -/
def State.dataAccess (s : State) (v : View) (o : Nat) (w : Option Reg64) : State :=
  match w with
  | some d => s.busWrite v o d
  | none => s.busRead v o

/-- The code of an access width (Table 19.5). -/
def widthOf : AccessWidth → Nat
  | .w64 => 0
  | .w32 => 1
  | .w16 => 2
  | .w8 => 3
  | .other => 4

/-- REGISTER_WRITE: judged, then RW fields set and W1C and W1S fields acted on (R501, R503). -/
def execRegisterWrite (vw : View) (off : BitVec 26) (data : Reg64) (s : State) : Result :=
  .next (s.busWrite vw off.toNat data)

/-- RC_FIELD_READ: whole units returned and removed (R505, R526). -/
def execRcFieldRead (vw : View) (off : BitVec 26) (s : State) : Result :=
  .next (s.busRead vw off.toNat)

/-- TBL_DATA_ACCESS: one table doubleword, INDEX advanced (R119). -/
def execTblDataAccess (vw : View) (b : BenchRef) (w : Option Reg64) (s : State) : Result :=
  .next (s.dataAccess vw (benchOffset b + 0x88) w)

/-- FM_MEM_DATA_ACCESS: one doubleword of Foreman memory, INDEX advanced (R197). -/
def execFmMemDataAccess (vw : View) (b : BenchRef) (w : Option Reg64) (s : State) : Result :=
  .next (s.dataAccess vw (benchOffset b + 0x420) w)

/-- WEIR_DATA_ACCESS: the selected Weir, WEIR advanced (R300). -/
def execWeirDataAccess (vw : View) (b : BenchRef) (w : Option Reg64) (s : State) : Result :=
  .next (s.dataAccess vw (benchOffset b + 0xA48) w)

/-- CONFL_DATA_READ: four Pool bank conflict counters returned and cleared (R292). -/
def execConflDataRead (vw : View) (b : BenchRef) (s : State) : Result :=
  .next (s.busRead vw (benchOffset b + 0xA28))

/-- BASIN_CONFL_DATA_READ: four Basin bank wait counters returned and cleared (R292). -/
def execBasinConflDataRead (vw : View) (s : State) : Result :=
  .next (s.busRead vw Reg.DEVCTL_BASIN_CONFL_DATA)

/-- HBM_PAGE_DATA_ACCESS: the owner of the selected page, PAGE advanced (R315). -/
def execHbmPageDataAccess (vw : View) (w : Option Reg64) (s : State) : Result :=
  .next (s.dataAccess vw Reg.DEVCTL_HBM_PAGE_DATA w)

/-- TEMP_DATA_READ: the selected sensor, its MAX cleared, SENSOR advanced (R505). -/
def execTempDataRead (vw : View) (s : State) : Result :=
  .next (s.busRead vw Reg.GAUGE_TEMP_DATA)

/-- HALL_GEN_DATA_ACCESS: a generation-table entry, SLOT advanced (R377). -/
def execHallGenDataAccess (vw : View) (w : Option Reg64) (s : State) : Result :=
  .next (s.dataAccess vw Reg.HALL_GEN_DATA w)

/-- HALL_TRIB_DATA_ACCESS: a tributary entry, ENTRY advanced (R376). -/
def execHallTribDataAccess (vw : View) (w : Option Reg64) (s : State) : Result :=
  .next (s.dataAccess vw Reg.HALL_TRIB_DATA w)

/-- SPOIL_DATA_READ: a doubleword of the selected log entry, SPOIL_SEL advanced (R497). -/
def execSpoilDataRead (vw : View) (s : State) : Result :=
  .next (s.busRead vw Reg.SPOIL_DATA)

/-- REFUSED_ACCESS: an access of 64 bits is judged as any other, one of another width is refused (R3, R501). -/
def execRefusedAccess (vw : View) (off : BitVec 26) (data : Option Reg64) (width : AccessWidth) (s : State) : Result :=
  match width with
  | .w64 => .next (s.dataAccess vw off.toNat data)
  | .w32 => .next (s.badWidth vw off.toNat data.isSome (widthOf .w32))
  | .w16 => .next (s.badWidth vw off.toNat data.isSome (widthOf .w16))
  | .w8 => .next (s.badWidth vw off.toNat data.isSome (widthOf .w8))
  | .other => .next (s.badWidth vw off.toNat data.isSome (widthOf .other))

end Sys2Proof.Machine
end

