-- ==== Sys2Proof/Machine/BenchRows.lean ====
section
/-! DEFINITION. The rows of a bench: START and STOP, reset, Rinse, failure, self-test, gating, substitution, phases, retirement (R17, R22, R83, R88-R90, R105, R113-R116, R137-R141, R156, R167). -/

namespace Sys2Proof.Machine

/-- START: an IDLE bench enters FILL (R137). -/
def execStart (vw : View) (b : BenchRef) (data : Reg64) (s : State) : Result :=
  .next (s.busWrite vw (benchOffset b) ((data ||| word [(63, 1)]) &&& ~~~ (word [(62, 1)])))

/-- STOP: the bench goes to HALTED with cause 0x08 (R115). -/
def execStop (vw : View) (b : BenchRef) (data : Reg64) (s : State) : Result :=
  .next (s.busWrite vw (benchOffset b) ((data ||| word [(62, 1)]) &&& ~~~ (word [(63, 1)])))

/-- BENCH_RESET: issue and the Foreman stop (R114). -/
def execBenchReset (pb : Fin 68) (s : State) : Result :=
  .next (s.live (fun s => s.benchReset pb.val))

/-- BENCH_RESET_DONE: the bench reads IDLE (R114). -/
def execBenchResetDone (pb : Fin 68) (s : State) : Result :=
  .next (s.live (fun s => s.benchResetDone pb.val))

/-- RINSE: the bench enters RINSING (R116). -/
def execRinse (pb : Fin 68) (s : State) : Result :=
  .next (s.live (fun s => s.rinse pb.val))

/-- RINSE_COMPLETE: Pool and stores are zero, the bench IDLE, and a clearing that waited for it goes on (R116, R412). -/
def execRinseComplete (pb : Fin 68) (s : State) : Result :=
  .next (s.live (fun s => s.rinseDone pb.val))

/-- BENCH_HW_FAILURE: the bench stops at once (R113). -/
def execBenchHwFailure (pb : Fin 68) (s : State) : Result :=
  .next (s.live (fun s => s.benchHwFailure pb.val))

/-- BENCH_SELF_TEST_DONE: AVAIL and the ledge map follow (R17). -/
def execBenchSelfTestDone (pb : Fin 68) (pass : Bool) (s : State) : Result :=
  .next (s.live (fun s => s.selfTestDone pb.val pass))

/-- GANG_GATE_OFF: an idle, rinsed gang is out of service (R17). -/
def execGangGateOff (g : Fin 16) (s : State) : Result :=
  .next (s.live (fun s => s.gateOff g.val))

/-- GANG_GATE_ON: a gated gang is tested (R17). -/
def execGangGateOn (g : Fin 16) (s : State) : Result :=
  .next (s.live (fun s => s.gateOn g.val))

/-- SPARE_SUBSTITUTE: the spare takes a logical position (R22). -/
def execSpareSubstitute (l : Fin 4) (slot : Fin 16) (pass : Bool) (s : State) : Result :=
  .next (s.live (fun s => s.substitute l.val slot.val pass))

/-- FETCH_LINE: four commands for the next eligible stream (R138). -/
def execFetchLine (pb : Fin 68) (s : State) : Result :=
  .next (s.live (fun s => s.fetchLine pb.val))

/-- EXCHANGE_DATA_ARRIVAL: the exchange bubbles end (R167). -/
def execExchangeDataArrival (pb : Fin 68) (s : State) : Result :=
  .next (s.live (fun s => s.exchange pb.val))

/-- AE_TILE_ENTER_CHUTE: a finished tile drains with its token (R105). -/
def execAeTileEnterChute (pb : Fin 68) (s : State) : Result :=
  .next (s.live (fun s => s.enterChute pb.val))

/-- STALL_LIMIT_REACHED: QUEUE_STALL, the bench halts (R156). -/
def execStallLimitReached (pb : Fin 68) (s : State) : Result :=
  .next (s.live (fun s => s.stallReached pb.val))

/-- PHASE_DRAIN_COMPLETE: the turnaround begins (R88). -/
def execPhaseDrainComplete (pb : Fin 68) (s : State) : Result :=
  .next (s.live (fun s => s.phaseDrained pb.val))

/-- PHASE_TURNAROUND_END: the bench is in FILL or WORK (R90). -/
def execPhaseTurnaroundEnd (pb : Fin 68) (s : State) : Result :=
  .next (s.live (fun s => s.phaseDone pb.val))

/-- POOL_WINDOW_COMPLETE: bank conflicts are counted, bad words are met (R83, R285, R286, R292). -/
def execPoolWindowComplete (pb : Fin 68) (cmd : Nat) (port : PoolPort) (words : List (BitVec 21)) (corr : Option (BitVec 21)) (bad : Option (BitVec 21))
    (s : State) : Result :=
  formed (decide (words.length ≤ 512)) (s.live (fun s => s.poolWindow pb.val cmd port (words.map BitVec.toNat) (corr.map BitVec.toNat) (bad.map BitVec.toNat)))

/-- COMMAND_RETIRE: the last write, the result descriptor, the scoreboard (R141). -/
def execCommandRetire (pb : Fin 68) (cmd : Nat) (s : State) : Result :=
  .next (s.live (fun s => s.retire pb.val cmd))

end Sys2Proof.Machine
end

