-- ==== Sys2Proof/Machine/CommandRows.lean ====
section
/-! DEFINITION. The rows of the bench commands: each takes effect where it is the command at the head of its stream and may move through the
stages of R122-R143; what a command does is the plan that the shared checks make of it, by the rules of its row. -/

namespace Sys2Proof.Machine

/-- TOKEN: opcode 0x01: only emits or awaits a token (R163). -/
def execToken (pb : Fin 68) (st : Fin 6) (s : State) : Result :=
  .next (s.live (fun s => s.issueOp pb.val st.val 0x01))

/-- PHASE: opcode 0x02: stops issue to the other class and starts a switch to FILL or WORK (R88). -/
def execPhase (pb : Fin 68) (st : Fin 6) (s : State) : Result :=
  .next (s.live (fun s => s.issueOp pb.val st.val 0x02))

/-- END: opcode 0x03: ends its stream and discards the commands queued behind it (R138). -/
def execEnd (pb : Fin 68) (st : Fin 6) (s : State) : Result :=
  .next (s.live (fun s => s.issueOp pb.val st.val 0x03))

/-- WSIG: opcode 0x04: sends a signal of n to a Weir (R299). -/
def execWsig (pb : Fin 68) (st : Fin 6) (s : State) : Result :=
  .next (s.live (fun s => s.issueOp pb.val st.val 0x04))

/-- WWAIT: opcode 0x05: sends a wait for a Weir target and holds stream 0 until the reply (R299). -/
def execWwait (pb : Fin 68) (st : Fin 6) (s : State) : Result :=
  .next (s.live (fun s => s.issueOp pb.val st.val 0x05))

/-- WARRIVE: opcode 0x06: sends a barrier arrival to a Weir (R301). -/
def execWarrive (pb : Fin 68) (st : Fin 6) (s : State) : Result :=
  .next (s.live (fun s => s.issueOp pb.val st.val 0x06))

/-- WRESET: opcode 0x07: sends a reset of a Weir count to zero (R299). -/
def execWreset (pb : Fin 68) (st : Fin 6) (s : State) : Result :=
  .next (s.live (fun s => s.issueOp pb.val st.val 0x07))

/-- MSEND: opcode 0x08: sends an active message from Foreman data memory on VC3 (R165). -/
def execMsend (pb : Fin 68) (st : Fin 6) (s : State) : Result :=
  .next (s.live (fun s => s.issueOp pb.val st.val 0x08))

/-- NTT: opcode 0x21: runs a forward negacyclic transform in gang or local mode (R166). -/
def execNtt (pb : Fin 68) (st : Fin 6) (s : State) : Result :=
  .next (s.live (fun s => s.issueOp pb.val st.val 0x21))

/-- INTT: opcode 0x22: runs an inverse negacyclic transform in gang or local mode (R166). -/
def execIntt (pb : Fin 68) (st : Fin 6) (s : State) : Result :=
  .next (s.live (fun s => s.issueOp pb.val st.val 0x22))

/-- RADD: opcode 0x41: adds residues (R170). -/
def execRadd (pb : Fin 68) (st : Fin 6) (s : State) : Result :=
  .next (s.live (fun s => s.issueOp pb.val st.val 0x41))

/-- RSUB: opcode 0x42: subtracts residues (R170). -/
def execRsub (pb : Fin 68) (st : Fin 6) (s : State) : Result :=
  .next (s.live (fun s => s.issueOp pb.val st.val 0x42))

/-- RNEG: opcode 0x43: negates residues (R170). -/
def execRneg (pb : Fin 68) (st : Fin 6) (s : State) : Result :=
  .next (s.live (fun s => s.issueOp pb.val st.val 0x43))

/-- RMUL: opcode 0x44: multiplies residues; a slab-by-slab product also writes its companion (R171). -/
def execRmul (pb : Fin 68) (st : Fin 6) (s : State) : Result :=
  .next (s.live (fun s => s.issueOp pb.val st.val 0x44))

/-- RMAC: opcode 0x45: multiplies and accumulates residues into its destination (R170). -/
def execRmac (pb : Fin 68) (st : Fin 6) (s : State) : Result :=
  .next (s.live (fun s => s.issueOp pb.val st.val 0x45))

/-- RMULS: opcode 0x46: multiplies residues by a scalar (R170). -/
def execRmuls (pb : Fin 68) (st : Fin 6) (s : State) : Result :=
  .next (s.live (fun s => s.issueOp pb.val st.val 0x46))

/-- RSTEP: opcode 0x47: applies the rescale step in raw mode (R98). -/
def execRstep (pb : Fin 68) (st : Fin 6) (s : State) : Result :=
  .next (s.live (fun s => s.issueOp pb.val st.val 0x47))

/-- RTAIL: opcode 0x48: applies the base-conversion tail in raw mode (R98). -/
def execRtail (pb : Fin 68) (st : Fin 6) (s : State) : Result :=
  .next (s.live (fun s => s.issueOp pb.val st.val 0x48))

/-- DROP: opcode 0x49: drops limbs, writes only a descriptor and moves no data (R64). -/
def execDrop (pb : Fin 68) (st : Fin 6) (s : State) : Result :=
  .next (s.live (fun s => s.issueOp pb.val st.val 0x49))

/-- MOV: opcode 0x4A: copies a slab or plaintext (R170). -/
def execMov (pb : Fin 68) (st : Fin 6) (s : State) : Result :=
  .next (s.live (fun s => s.issueOp pb.val st.val 0x4A))

/-- FADD: opcode 0x61: adds floats with one rounding (R267). -/
def execFadd (pb : Fin 68) (st : Fin 6) (s : State) : Result :=
  .next (s.live (fun s => s.issueOp pb.val st.val 0x61))

/-- FMUL: opcode 0x62: multiplies floats with one rounding (R267). -/
def execFmul (pb : Fin 68) (st : Fin 6) (s : State) : Result :=
  .next (s.live (fun s => s.issueOp pb.val st.val 0x62))

/-- FFMA: opcode 0x63: performs a fused multiply-add, optionally reduced over dimension 3 and scaled (R174). -/
def execFfma (pb : Fin 68) (st : Fin 6) (s : State) : Result :=
  .next (s.live (fun s => s.issueOp pb.val st.val 0x63))

/-- FCMP: opcode 0x64: writes a mask from a predicate (R172). -/
def execFcmp (pb : Fin 68) (st : Fin 6) (s : State) : Result :=
  .next (s.live (fun s => s.issueOp pb.val st.val 0x64))

/-- FSEL: opcode 0x65: copies the elements its mask selects (R172). -/
def execFsel (pb : Fin 68) (st : Fin 6) (s : State) : Result :=
  .next (s.live (fun s => s.issueOp pb.val st.val 0x65))

/-- FMIN: opcode 0x66: writes the elementwise minimum (R267). -/
def execFmin (pb : Fin 68) (st : Fin 6) (s : State) : Result :=
  .next (s.live (fun s => s.issueOp pb.val st.val 0x66))

/-- FMAX: opcode 0x67: writes the elementwise maximum (R267). -/
def execFmax (pb : Fin 68) (st : Fin 6) (s : State) : Result :=
  .next (s.live (fun s => s.issueOp pb.val st.val 0x67))

/-- FCVT: opcode 0x68: converts between bf16 and fp32 (R268). -/
def execFcvt (pb : Fin 68) (st : Fin 6) (s : State) : Result :=
  .next (s.live (fun s => s.issueOp pb.val st.val 0x68))

/-- FDRAIN: opcode 0x69: scales and rounds a float chute tile into its destination (R172). -/
def execFdrain (pb : Fin 68) (st : Fin 6) (s : State) : Result :=
  .next (s.live (fun s => s.issueOp pb.val st.val 0x69))

/-- FCONV: opcode 0x6A: converts fp32 elements into fold-form residues (R50). -/
def execFconv (pb : Fin 68) (st : Fin 6) (s : State) : Result :=
  .next (s.live (fun s => s.issueOp pb.val st.val 0x6A))

/-- RCONV: opcode 0x6B: reconstructs residues by CRT and converts them to fp32 (R51). -/
def execRconv (pb : Fin 68) (st : Fin 6) (s : State) : Result :=
  .next (s.live (fun s => s.issueOp pb.val st.val 0x6B))

/-- MATMUL: opcode 0x81: computes matrix-product tiles into the chute (R178). -/
def execMatmul (pb : Fin 68) (st : Fin 6) (s : State) : Result :=
  .next (s.live (fun s => s.issueOp pb.val st.val 0x81))

/-- TRANSPOSE: opcode 0xA1: transposes 64 x 64 tiles on the Riffle (R181). -/
def execTranspose (pb : Fin 68) (st : Fin 6) (s : State) : Result :=
  .next (s.live (fun s => s.issueOp pb.val st.val 0xA1))

/-- AUTOMORPH: opcode 0xA2: applies x to x^k on bench-local polynomials (R181). -/
def execAutomorph (pb : Fin 68) (st : Fin 6) (s : State) : Result :=
  .next (s.live (fun s => s.issueOp pb.val st.val 0xA2))

/-- PERMUTE: opcode 0xA3: applies programmed permutations to blocks (R181). -/
def execPermute (pb : Fin 68) (st : Fin 6) (s : State) : Result :=
  .next (s.live (fun s => s.issueOp pb.val st.val 0xA3))

/-- COPY: opcode 0xC1: starts a Sluice transfer, optionally with a memory-side adder (R183). -/
def execCopy (pb : Fin 68) (st : Fin 6) (s : State) : Result :=
  .next (s.live (fun s => s.issueOp pb.val st.val 0xC1))

/-- TLOAD: opcode 0xC2: loads bench tables through the Sluice (R184). -/
def execTload (pb : Fin 68) (st : Fin 6) (s : State) : Result :=
  .next (s.live (fun s => s.issueOp pb.val st.val 0xC2))

/-- RESUME: opcode 0xC3: restarts a halted Sluice transfer from its saved position (R185). -/
def execResume (pb : Fin 68) (st : Fin 6) (s : State) : Result :=
  .next (s.live (fun s => s.issueOp pb.val st.val 0xC3))

/-- KSW: opcode 0xE1: runs one stage of a key switch (R235). -/
def execKsw (pb : Fin 68) (st : Fin 6) (s : State) : Result :=
  .next (s.live (fun s => s.issueOp pb.val st.val 0xE1))

/-- ROT: opcode 0xE2: runs one stage of a rotation with key switch (R237). -/
def execRot (pb : Fin 68) (st : Fin 6) (s : State) : Result :=
  .next (s.live (fun s => s.issueOp pb.val st.val 0xE2))

/-- RESCALE: opcode 0xE3: drops the last limb with the rescale step (R192). -/
def execRescale (pb : Fin 68) (st : Fin 6) (s : State) : Result :=
  .next (s.live (fun s => s.issueOp pb.val st.val 0xE3))

/-- FRESHET: opcode 0xE4: runs one stage of a slab refresh (R250). -/
def execFreshet (pb : Fin 68) (st : Fin 6) (s : State) : Result :=
  .next (s.live (fun s => s.issueOp pb.val st.val 0xE4))

/-- PBS: opcode 0xE5: bootstraps a pebble array through a test polynomial (R254). -/
def execPbs (pb : Fin 68) (st : Fin 6) (s : State) : Result :=
  .next (s.live (fun s => s.issueOp pb.val st.val 0xE5))

/-- EXTRACT: opcode 0xE6: runs a stage that turns slab coefficients into pebbles (R260). -/
def execExtract (pb : Fin 68) (st : Fin 6) (s : State) : Result :=
  .next (s.live (fun s => s.issueOp pb.val st.val 0xE6))

/-- PACK: opcode 0xE7: runs a stage that packs pebbles into a one-limb slab (R262). -/
def execPack (pb : Fin 68) (st : Fin 6) (s : State) : Result :=
  .next (s.live (fun s => s.issueOp pb.val st.val 0xE7))

/-- UNDEFINED_OPCODE: ILLEGAL_COMMAND, the bench halts (R125). -/
def execUndefinedOpcode (pb : Fin 68) (st : Fin 6) (s : State) : Result :=
  .next (s.live (fun s => s.issueUndefined pb.val st.val))

end Sys2Proof.Machine
end

