-- ==== Sys2Proof/Machine/ForemanRows.lean ====
section
/-! DEFINITION. The rows of the Foremen, their messages, credits and routes, and of the Weirs (R194-R217, R299-R302). -/

namespace Sys2Proof.Machine

/-- WEIR_OPERATION_ARRIVAL: a Weir unit serves one operation (R300). -/
def execWeirOperationArrival (n : Nat) (s : State) : Result :=
  .next (s.live (fun s => s.weirArrives n))

/-- WEIR_REPLY_ARRIVAL: the requester goes on (R207, R301). -/
def execWeirReplyArrival (n : Nat) (s : State) : Result :=
  .next (s.live (fun s => s.weirReplyArrives n))

/-- FOREMAN_INSTRUCTION: one RV64IMAC instruction (R195). -/
def execForemanInstruction (pb : Fin 68) (s : State) : Result :=
  .next (s.live (fun s => s.fmInstr pb.val))

/-- FOREMAN_INTERRUPT: MSG, TOK6 or MTIP is taken (R212). -/
def execForemanInterrupt (pb : Fin 68) (s : State) : Result :=
  .next (s.live (fun s => s.fmInterrupt pb.val))

/-- STALLED_INSTRUCTION_RETIRE: a stalled instruction takes effect (R203). -/
def execStalledInstructionRetire (pb : Fin 68) (s : State) : Result :=
  .next (s.live (fun s => s.fmRetry pb.val))

/-- XC_PUSH: pushes a command into a Foreman-fed stream (R204). -/
def execXcPush (pb : Fin 68) (s : State) : Result :=
  .next (s.live (fun s => s.xcRow pb.val .push))

/-- XC_PUSHM: pushes a command-memory entry into a stream (R204). -/
def execXcPushm (pb : Fin 68) (s : State) : Result :=
  .next (s.live (fun s => s.xcRow pb.val .pushm))

/-- XC_TW: writes a table doubleword (R205). -/
def execXcTw (pb : Fin 68) (s : State) : Result :=
  .next (s.live (fun s => s.xcRow pb.val .tw))

/-- XC_TR: reads a table doubleword (R205). -/
def execXcTr (pb : Fin 68) (s : State) : Result :=
  .next (s.live (fun s => s.xcRow pb.val .tr))

/-- XC_TKPOST: increments a token count (R206). -/
def execXcTkpost (pb : Fin 68) (s : State) : Result :=
  .next (s.live (fun s => s.xcRow pb.val .tkpost))

/-- XC_TKWAIT: consumes a destination-6 token count (R206). -/
def execXcTkwait (pb : Fin 68) (s : State) : Result :=
  .next (s.live (fun s => s.xcRow pb.val .tkwait))

/-- XC_TKPOLL: returns a destination-6 token count (R206). -/
def execXcTkpoll (pb : Fin 68) (s : State) : Result :=
  .next (s.live (fun s => s.xcRow pb.val .tkpoll))

/-- XC_WSIG: signals a Weir (R207). -/
def execXcWsig (pb : Fin 68) (s : State) : Result :=
  .next (s.live (fun s => s.xcRow pb.val .wsig))

/-- XC_WWAIT: waits for a Weir target (R207). -/
def execXcWwait (pb : Fin 68) (s : State) : Result :=
  .next (s.live (fun s => s.xcRow pb.val .wwait))

/-- XC_WARRIVE: arrives at a Weir barrier (R207). -/
def execXcWarrive (pb : Fin 68) (s : State) : Result :=
  .next (s.live (fun s => s.xcRow pb.val .warrive))

/-- XC_WRESET: resets a Weir (R207). -/
def execXcWreset (pb : Fin 68) (s : State) : Result :=
  .next (s.live (fun s => s.xcRow pb.val .wreset))

/-- XC_WREAD: reads a Weir count (R207). -/
def execXcWread (pb : Fin 68) (s : State) : Result :=
  .next (s.live (fun s => s.xcRow pb.val .wread))

/-- XC_SEND: sends an active message with one route credit (R208). -/
def execXcSend (pb : Fin 68) (s : State) : Result :=
  .next (s.live (fun s => s.xcRow pb.val .send))

/-- XC_RFREE: releases ring entries and returns credits (R209). -/
def execXcRfree (pb : Fin 68) (s : State) : Result :=
  .next (s.live (fun s => s.xcRow pb.val .rfree))

/-- MESSAGE_ARRIVAL: a message enters its ring (R216). -/
def execMessageArrival (n : Nat) (s : State) : Result :=
  .next (s.live (fun s => s.messageArrives n))

/-- CREDIT_RETURN_ARRIVAL: AVAIL of a route rises, at most to CREDITS (R214). -/
def execCreditReturnArrival (n : Nat) (s : State) : Result :=
  .next (s.live (fun s => s.creditArrives n))

/-- ROUTE_WRITE: the route is set, AVAIL is CREDITS (R213). -/
def execRouteWrite (vw : View) (b : BenchRef) (r : Fin 256) (data : Reg64) (s : State) : Result :=
  .next (s.busWrite vw (benchOffset b + 0x1000 + 8 * r.val) data)

end Sys2Proof.Machine
end

