-- ==== Sys2Proof/Machine/HallRows.lean ====
section
/-! DEFINITION. The rows of the Hall: tables, heartbeats, fencing, admission, the Confluence, snapshots, fabric reset, time (R366, R375-R395, R426, R486, R487, R515). -/

namespace Sys2Proof.Machine

/-- HALL_TBL_COMMIT: one entry replaced by the stage (R366). -/
def execHallTblCommit (vw : View) (table : BitVec 2) (index : BitVec 10) (s : State) : Result :=
  .next (s.busWrite vw Reg.HALL_TBL_CMD (word [(63, 1), (60, table.toNat), (0, index.toNat)]))

/-- HALL_TBL_READ: one entry copied to the stage (R366). -/
def execHallTblRead (vw : View) (table : BitVec 2) (index : BitVec 10) (s : State) : Result :=
  .next (s.busWrite vw Reg.HALL_TBL_CMD (word [(62, 1), (60, table.toNat), (0, index.toNat)]))

/-- HEARTBEAT_SEND: to the watcher (R375). -/
def execHeartbeatSend (s : State) : Result :=
  .next (s.live (fun s => s.heartbeat))

/-- HEARTBEAT_RECEIVE: time, generation, state and LAG_AVG recorded (R376, R425). -/
def execHeartbeatReceive (hb : Heartbeat) (s : State) : Result :=
  .next (s.live (fun s => s.heartbeatIn hb))

/-- HEARTBEAT_TICK: MISSES count (R376). -/
def execHeartbeatTick (s : State) : Result :=
  .next (s.live (fun s => s.heartbeatTick))

/-- FENCE_REQUEST_RECEIVE: the chief picks a spare and sends a notice (R379). -/
def execFenceRequestReceive (slot : BitVec 14) (s : State) : Result :=
  .next (s.live (fun s => s.fenceAsked slot.toNat))

/-- FENCE_NOTICE_APPLY: generation table and override at once (R380). -/
def execFenceNoticeApply (notice : FenceNotice) (s : State) : Result :=
  .next (s.live (fun s => s.fenceNotice notice))

/-- FENCE_ACKS_COMPLETE: ADMIT to the spare (R379). -/
def execFenceAcksComplete (s : State) : Result :=
  .next (s.live (fun s => s.fenceAcked))

/-- ADMIT_RECEIVE: the dead slot, its generation and role are taken (R380). -/
def execAdmitReceive (slot : BitVec 14) (gen : BitVec 16) (role : BitVec 2) (s : State) : Result :=
  .next (s.live (fun s => s.admitted slot.toNat gen.toNat role.toNat))

/-- SPARE_NOTICE_RECEIVE: a rinsed quarantined device is a spare (R383). -/
def execSpareNoticeReceive (slot : BitVec 14) (gen : BitVec 16) (s : State) : Result :=
  .next (s.live (fun s => s.spareNotice slot.toNat gen.toNat))

/-- TRIB_TABLE_RECEIVE: the tributary table is written (R426). -/
def execTribTableReceive (slots : List (Option (BitVec 14))) (s : State) : Result :=
  .next (s.live (fun s => s.tribTable (slots.map (fun x => x.map BitVec.toNat))))

/-- CFL_INSTALL: an entry is checked and installed (R387). -/
def execCflInstall (vw : View) (index : BitVec 6) (s : State) : Result :=
  .next (s.busWrite vw Reg.HALL_CFL_CMD (word [(63, 1), (0, index.toNat)]))

/-- CFL_REMOVE: an entry without a run is removed (R387). -/
def execCflRemove (vw : View) (index : BitVec 6) (s : State) : Result :=
  .next (s.busWrite vw Reg.HALL_CFL_CMD (word [(62, 1), (0, index.toNat)]))

/-- CFL_READ: an entry is copied to the stage (R387). -/
def execCflRead (vw : View) (index : BitVec 6) (s : State) : Result :=
  .next (s.busWrite vw Reg.HALL_CFL_CMD (word [(61, 1), (0, index.toNat)]))

/-- CFL_CMD_COMPLETE: DONE and RESULT (R387). -/
def execCflCmdComplete (s : State) : Result :=
  .next (s.live (fun s => s.cflCmdDone))

/-- COLL_PACKET_RECEIVE: combined in fixed order once all inputs have come (R385, R391). -/
def execCollPacketReceive (p : CollPacket) (s : State) : Result :=
  formed (decide (p.bytes.length ≤ 4096)) (s.live (fun s => s.cflPacket p))

/-- CFL_RUN_COMPLETE: the DONE Weir is signalled (R388). -/
def execCflRunComplete (index : Fin 64) (s : State) : Result :=
  .next (s.live (fun s => s.cflComplete index.val))

/-- SNAP_GO: a marker with a cut time (R393). -/
def execSnapGo (vw : View) (lead : BitVec 16) (s : State) : Result :=
  .next (s.busWrite vw Reg.HALL_SNAP_CTL (word [(63, 1), (0, lead.toNat)]))

/-- SNAP_MARKER_RECEIVE: passed on, or LATE (R393). -/
def execSnapMarkerReceive (epoch : BitVec 16) (cut : Reg64) (s : State) : Result :=
  .next (s.live (fun s => s.snapMarked epoch.toNat cut.toNat))

/-- SNAP_CUT: sequence numbers latched, report sent (R393). -/
def execSnapCut (s : State) : Result :=
  .next (s.live (fun s => s.snapCutNow))

/-- SNAP_REPORT_RECEIVE: passed up; the chief completes (R393). -/
def execSnapReportReceive (late : Bool) (final : Bool) (s : State) : Result :=
  .next (s.live (fun s => s.snapReported late final))

/-- FRESET_GO: a RESET notice (R394). -/
def execFresetGo (vw : View) (hall : Bool) (part : BitVec 4) (s : State) : Result :=
  .next (s.busWrite vw Reg.HALL_FRESET (word [(63, 1), (60, b2n hall), (0, part.toNat)]))

/-- FRESET_NOTICE_RECEIVE: jobs end, entries go, links reset (R394). -/
def execFresetNoticeReceive (hall : Bool) (part : BitVec 4) (s : State) : Result :=
  .next (s.live (fun s => s.fresetNotice hall part.toNat))

/-- FRESET_REPORT_RECEIVE: passed up; the chief sets DONE (R395). -/
def execFresetReportReceive (final : Bool) (s : State) : Result :=
  .next (s.live (fun s => s.fresetReported final))

/-- TSYNC_EXCHANGE: a TSYNC packet upstream (R486). -/
def execTsyncExchange (s : State) : Result :=
  .next (s.live (fun s => s.tsyncSend))

/-- TSYNC_PACKET_RECEIVE: the offset, the servo, LOCKED (R486). -/
def execTsyncPacketReceive (t1 : Reg64) (t2 : Reg64) (t3 : Reg64) (t4 : Reg64) (s : State) : Result :=
  .next (s.live (fun s => s.tsyncReply t1.toNat t2.toNat t3.toNat t4.toNat))

/-- PPS_EDGE: device time latched, a pending SET loaded (R487). -/
def execPpsEdge (s : State) : Result :=
  .next (s.live (fun s => s.ppsRise))

/-- TIME_SET: CLKPWR_TIME_SET is loaded at the next edge or at once (R487). -/
def execTimeSet (vw : View) (rate : BitVec 32) (s : State) : Result :=
  .next (s.busWrite vw Reg.CLKPWR_TIME_CTL (word [(63, 1), (0, rate.toNat)]))

/-- PPS_TIMEOUT: PPS_OK clears (R487). -/
def execPpsTimeout (s : State) : Result :=
  .next (s.live (fun s => s.ppsLost))

/-- TRIG_IN_SNAPSHOT_EDGE: a snapshot GO at the chief (R515). -/
def execTrigInSnapshotEdge (s : State) : Result :=
  .next (s.live (fun s => s.snapStart))

/-- TRIG_OUT_SECOND: TRIG_OUT[0] pulses (R516). -/
def execTrigOutSecond (s : State) : Result :=
  .next (s.live (fun s => s.secondPulse))

end Sys2Proof.Machine
end

