-- ==== Sys2Proof/Machine/HostRows.lean ====
section
/-! DEFINITION. The rows of the host interface: BAR2, doorbells, mailboxes, VF binding, commands, I3C, function-level reset (R448-R465). -/

namespace Sys2Proof.Machine

/-- A row of the PCIe side: nothing arrives while the link is down (R470, R475, R476). -/
def State.onPcie (s : State) (f : State → State) : State := if s.pcieUp then s.live f else s

/-- BAR2_WRITE: local HBM through the window, or suppressed (R451, R452). -/
def execBar2Write (vw : View) (off : BitVec 36) (bytes : List (Option Byte)) (s : State) : Result :=
  formed (decide (1 ≤ bytes.length) && decide (bytes.length ≤ 4096)) (s.onPcie (fun s => s.bar2Write (viewNum vw) off.toNat bytes))

/-- BAR2_READ: local HBM through the window, or zeros (R451, R452). -/
def execBar2Read (vw : View) (off : BitVec 36) (len : BitVec 13) (s : State) : Result :=
  formed (decide (1 ≤ len.toNat) && decide (len.toNat ≤ 4096)) (s.onPcie (fun s => s.bar2Read (viewNum vw) off.toNat len.toNat))

/-- DOORBELL_REQUEST: request records are read into the service ring (R454). -/
def execDoorbellRequest (vw : View) (tag : BitVec 16) (count : BitVec 32) (s : State) : Result :=
  .next (s.busWrite vw 0x40020 (word [(63, 1), (61, 0), (32, tag.toNat), (0, count.toNat)]))

/-- DOORBELL_COPY_IN: words from host memory to local HBM (R455). -/
def execDoorbellCopyIn (vw : View) (tag : BitVec 16) (count : BitVec 32) (s : State) : Result :=
  .next (s.busWrite vw 0x40020 (word [(63, 1), (61, 1), (32, tag.toNat), (0, count.toNat)]))

/-- DOORBELL_COPY_OUT: words from local HBM to host memory (R455). -/
def execDoorbellCopyOut (vw : View) (tag : BitVec 16) (count : BitVec 32) (s : State) : Result :=
  .next (s.busWrite vw 0x40020 (word [(63, 1), (61, 2), (32, tag.toNat), (0, count.toNat)]))

/-- DOORBELL_HOST_DATA: to the ring or to HBM (R454-R456). -/
def execDoorbellHostData (vw : View) (d : HostData) (s : State) : Result :=
  formed (d.wellFormed) (s.onPcie (fun s => s.hostData (viewNum vw) d))

/-- DOORBELL_COMPLETE: RESULT, COUNT and an interrupt (R453, R455). -/
def execDoorbellComplete (vw : View) (s : State) : Result :=
  .next (s.onPcie (fun s => s.bellComplete (viewNum vw)))

/-- HOST_COMPLETION_TIMEOUT: HOST_ERROR, reported through AER (R455). -/
def execHostCompletionTimeout (vw : View) (s : State) : Result :=
  .next (s.onPcie (fun s => s.bellFault (viewNum vw)))

/-- MBOX_CFG_WRITE: bound to a source (R457). -/
def execMboxCfgWrite (vw : View) (m : Fin 16) (badAck : Bool) (kind : BitVec 3) (tenant : BitVec 5) (s : State) : Result :=
  .next (s.busWrite vw (0x41000 + 0x80 * m.val) (word [(63, b2n badAck), (60, kind.toNat), (48, tenant.toNat)]))

/-- MBOX_ACK: the present result is consumed, or BAD_ACK (R459). -/
def execMboxAck (vw : View) (m : Fin 16) (mseq : BitVec 32) (s : State) : Result :=
  .next (s.busWrite vw (0x41008 + 0x80 * m.val) (word [(0, mseq.toNat)]))

/-- MBOX_RESULT_PRESENT: the next result with the next MSEQ (R458). -/
def execMboxResultPresent (vw : View) (m : Fin 16) (s : State) : Result :=
  .next (s.onPcie (fun s => s.mboxPresent (viewNum vw) m.val))

/-- VF_BIND_WRITE: a VF belongs to a tenant (R449). -/
def execVfBindWrite (vw : View) (v : Fin 16) (en : Bool) (tenant : BitVec 5) (s : State) : Result :=
  .next (s.busWrite vw (0x40100 + 8 * v.val) (word [(63, b2n en), (48, tenant.toNat)]))

/-- MGMT_CMD_START: a management command begins (R462). -/
def execMgmtCmdStart (vw : View) (code : BitVec 8) (length : BitVec 32) (s : State) : Result :=
  .next (s.busWrite vw 0x40030 (word [(63, 1), (48, code.toNat), (0, length.toNat)]))

/-- MGMT_CMD_ABORT: a command that has not passed is discarded (R462). -/
def execMgmtCmdAbort (vw : View) (s : State) : Result :=
  .next (s.busWrite vw 0x40030 (word [(62, 1)]))

/-- MGMT_DATA_WRITE: an argument word (R463). -/
def execMgmtDataWrite (vw : View) (data : Reg64) (s : State) : Result :=
  .next (s.busWrite vw 0x40038 data)

/-- MGMT_DATA_READ: the next response word, or UNDERRUN (R463). -/
def execMgmtDataRead (vw : View) (s : State) : Result :=
  .next (s.busRead vw 0x40038)

/-- I3C_PRIVATE_WRITE: an offset and words for the I3C view (R464). -/
def execI3cPrivateWrite (off : BitVec 32) (words : List Reg64) (s : State) : Result :=
  formed (decide (words.length ≤ 32)) (s.i3cWrite off.toNat words)

/-- I3C_PRIVATE_READ: words from the offset written before (R464). -/
def execI3cPrivateRead (k : BitVec 6) (s : State) : Result :=
  formed (decide (1 ≤ k.toNat) && decide (k.toNat ≤ 32)) (s.i3cRead k.toNat)

/-- FUNCTION_LEVEL_RESET: doorbell and commands abandoned, HIF state cleared (R465). -/
def execFunctionLevelReset (f : Fin 16) (s : State) : Result :=
  .next (s.onPcie (fun s => s.flr f.val))

/-- PCIE_CONFIG_ACCESS: configuration space answers (R470). -/
def execPcieConfigAccess (f : Fin 16) (off : BitVec 12) (data : Option (BitVec 32)) (s : State) : Result :=
  .next (s.configAccess f.val off.toNat data)

/-- I3C_CCC: dynamic address and in-band interrupts (R464). -/
def execI3cCcc (c : I3cCcc) (s : State) : Result :=
  .next (s.i3cCode c)

end Sys2Proof.Machine
end

