-- ==== Sys2Proof/Machine/LinkRows.lean ====
section
/-! DEFINITION. The rows of the fabric links and of the packets that they bring (R339-R358, R363, R417, R421, R514). -/

namespace Sys2Proof.Machine

/-- The offset of FAB_PORT_CTL of a link: its port's set, or the half-B set (R360). -/
def portCtl (lk : Fin 64) : Nat := 0x80000 + 0x800 * lk.val

/-- A row of the links: nothing moves on a lane that a thermal trip has idled (R475). -/
def State.onLane (s : State) (f : State → State) : State := if s.power.thermtrip then s else s.live f

/-- LINK_ENABLE: DISABLED to DETECT (R339). -/
def execLinkEnable (vw : View) (lk : Fin 64) (data : Reg64) (s : State) : Result :=
  .next (s.busWrite vw (portCtl lk) ((data ||| word [(63, 1)]) &&& ~~~ (word [(62, 1), (61, 1)])))

/-- LINK_DISABLE: to DISABLED at once (R356). -/
def execLinkDisable (vw : View) (lk : Fin 64) (data : Reg64) (s : State) : Result :=
  .next (s.busWrite vw (portCtl lk) (data &&& ~~~ (word [(63, 1), (62, 1), (61, 1)])))

/-- LINK_RETRAIN: ACTIVE to RETRAIN, DOWN to DETECT (R358). -/
def execLinkRetrain (vw : View) (lk : Fin 64) (data : Reg64) (s : State) : Result :=
  .next (s.busWrite vw (portCtl lk) ((data ||| word [(63, 1), (62, 1)]) &&& ~~~ (word [(61, 1)])))

/-- LL_RESET: the link layer starts again (R358). -/
def execLlReset (vw : View) (lk : Fin 64) (data : Reg64) (s : State) : Result :=
  .next (s.busWrite vw (portCtl lk) ((data ||| word [(63, 1), (61, 1)]) &&& ~~~ (word [(62, 1)])))

/-- LL_RESET_COMPLETE: sequence numbers and credits are as after training, and a fabric reset that waited for it goes on (R358, R394). -/
def execLlResetComplete (lk : Fin 64) (s : State) : Result :=
  .next (s.onLane (fun s => (s.llResetEnd lk.val).fresetSettle))

/-- LINK_DETECT_RETRY: TRAIN_ATTEMPTS counts (R339). -/
def execLinkDetectRetry (lk : Fin 64) (s : State) : Result :=
  .next (s.onLane (fun s => s.detectRetry lk.val))

/-- LINK_PARTNER_SEEN: to EQUALISE (R339). -/
def execLinkPartnerSeen (lk : Fin 64) (lanes : BitVec 8) (s : State) : Result :=
  .next (s.onLane (fun s => s.partnerSeen lk.val lanes.toNat))

/-- LINK_EQUALISE_DONE: to MEASURE (R339). -/
def execLinkEqualiseDone (lk : Fin 64) (s : State) : Result :=
  .next (s.onLane (fun s => s.equaliseDone lk.val))

/-- LINK_STATE_TIMEOUT: back to DETECT (R339). -/
def execLinkStateTimeout (lk : Fin 64) (s : State) : Result :=
  .next (s.onLane (fun s => s.linkTimeout lk.val))

/-- LINK_RETRAIN_DONE: back to ACTIVE, the link layer kept (R339). -/
def execLinkRetrainDone (lk : Fin 64) (s : State) : Result :=
  .next (s.onLane (fun s => s.retrainDone lk.val))

/-- LANE_FAILURE: retrained without the lane, or down (R343). -/
def execLaneFailure (lk : Fin 64) (lane : Fin 8) (s : State) : Result :=
  .next (s.onLane (fun s => s.laneFails lk.val lane.val))

/-- FLIT_SEND: a flit of a channel, or a null flit (R353). -/
def execFlitSend (lk : Fin 64) (s : State) : Result :=
  .next (s.onLane (fun s => s.flitSlot lk.val))

/-- MODULE_PRESENCE_SAMPLE: OPTICAL follows the pins (R514). -/
def execModulePresenceSample (pins : BitVec 64) (s : State) : Result :=
  .next (s.onLane (fun s => s.modulePins pins.toNat))

/-- LINK_MEASURE_DONE: loss and round trip recorded, to EXCHANGE (R340). -/
def execLinkMeasureDone (lk : Fin 64) (rtt : BitVec 20) (losses : List (BitVec 8)) (s : State) : Result :=
  formed (decide (losses.length = 8)) (s.onLane (fun s => s.measureDone lk.val rtt.toNat (losses.map BitVec.toNat)))

/-- LINK_EXCHANGE_DONE: to ACTIVE in the agreed mode, or DOWN with a reason (R341, R342). -/
def execLinkExchangeDone (lk : Fin 64) (cap : CapBlock) (s : State) : Result :=
  formed (decide (cap.alloc.length = 8)) (s.onLane (fun s => s.exchangeDone lk.val cap))

/-- FLIT_RECEIVE: checked, acknowledged or refused, its packet taken on (R344-R350). -/
def execFlitReceive (lk : Fin 64) (flit : List Byte) (uncorrectable : Bool) (corrected : BitVec 16) (s : State) : Result :=
  formed (decide (flit.length = 256)) (s.onLane (fun s => s.flitIn lk.val (natBytes flit) uncorrectable corrected.toNat))

/-- HALL_READ_REQUEST: answered through the export window (R363). -/
def execHallReadRequest (n : Nat) (s : State) : Result :=
  .next (s.live (fun s => s.hallRead n))

/-- HALL_WRITE_REQUEST: applied if permitted, and acknowledged (R363). -/
def execHallWriteRequest (n : Nat) (s : State) : Result :=
  .next (s.live (fun s => s.hallWrite n))

/-- BULK_RECEIVE: a record or segment, answered with BULK_ACK (R417). -/
def execBulkReceive (n : Nat) (s : State) : Result :=
  .next (s.live (fun s => s.bulkIn n))

/-- BULK_ACK_RECEIVE: the producer learns what became of its record (R421). -/
def execBulkAckReceive (n : Nat) (s : State) : Result :=
  .next (s.live (fun s => s.bulkAckIn n))

/-- MGMT_PACKET_RECEIVE: to firmware (R354). -/
def execMgmtPacketReceive (n : Nat) (s : State) : Result :=
  .next (s.live (fun s => s.mgmtPacketIn n))

end Sys2Proof.Machine
end

