-- ==== Sys2Proof/Machine/MatumonRows.lean ====
section
/-! DEFINITION. The rows of Matumon: watchdogs, versions, tenants, jobs, services, keys, firmware (R398-R422, R444). -/

namespace Sys2Proof.Machine

/-- WATCHDOG_FEED: the watchdog of a core is fed (R399). -/
def execWatchdogFeed (k : Fin 4) (s : State) : Result :=
  .next (s.live (fun s => s.watchdogFeed k.val))

/-- WATCHDOG_EXPIRY: the core resets, WATCHDOG is logged (R399, R400). -/
def execWatchdogExpiry (k : Fin 4) (pc : BitVec 32) (s : State) : Result :=
  .next (s.live (fun s => s.watchdogExpiry k.val pc.toNat))

/-- CORE_RESTART_DONE: the journal is replayed (R398). -/
def execCoreRestartDone (k : Fin 4) (s : State) : Result :=
  .next (s.live (fun s => s.coreRestarted k.val))

/-- DRV_VERSION_OFFER: accepted or refused by its major version (R404). -/
def execDrvVersionOffer (vw : View) (major : BitVec 8) (minor : BitVec 8) (s : State) : Result :=
  .next (s.busWrite vw 0x60010 (word [(63, 1), (8, major.toNat), (0, minor.toNat)]))

/-- TENANT_OPEN: a manifest is unwrapped, the tenant bound (R444). -/
def execTenantOpen (vw : View) (s : State) : Result :=
  .next (s.live (fun s => s.runCmd (viewNum vw) 0x10 (issuerPf (viewNum vw)) State.tenantOpenCmd))

/-- TENANT_CLOSE: keys, key pages and key leases go (R409). -/
def execTenantClose (vw : View) (s : State) : Result :=
  .next (s.live (fun s => s.runCmd (viewNum vw) 0x11 (issuerPf (viewNum vw)) State.tenantCloseCmd))

/-- JOB_START: gangs assigned, benches loaded and started (R410). -/
def execJobStart (vw : View) (s : State) : Result :=
  .next (s.live (fun s => s.runCmd (viewNum vw) 0x20 (s.issuerOwn (viewNum vw)) (State.jobStartCmd (viewNum vw))))

/-- JOB_KILL: the job ends as KILLED (R409). -/
def execJobKill (vw : View) (s : State) : Result :=
  .next (s.live (fun s => s.runCmd (viewNum vw) 0x21 (s.issuerOwn (viewNum vw)) (State.jobKillCmd (viewNum vw))))

/-- JOB_RELEASE: KEPT ends (R415). -/
def execJobRelease (vw : View) (s : State) : Result :=
  .next (s.live (fun s => s.runCmd (viewNum vw) 0x22 (issuerPf (viewNum vw)) State.jobReleaseCmd))

/-- DUMP_POOL: the Pool of a KEPT bench is copied (R416). -/
def execDumpPool (vw : View) (s : State) : Result :=
  .next (s.live (fun s => s.runCmd (viewNum vw) 0x23 (issuerPf (viewNum vw)) State.dumpPoolCmd))

/-- SERVICE_OPEN: a job in service mode (R409). -/
def execServiceOpen (vw : View) (s : State) : Result :=
  .next (s.live (fun s => s.runCmd (viewNum vw) 0x30 (s.issuerOwn (viewNum vw)) (State.serviceOpenCmd (viewNum vw))))

/-- SERVICE_CLOSE: intake closes, the service drains (R421). -/
def execServiceClose (vw : View) (s : State) : Result :=
  .next (s.live (fun s => s.runCmd (viewNum vw) 0x31 (s.issuerOwn (viewNum vw)) State.serviceCloseCmd))

/-- KEY_LOAD: segments copied, digests checked, entries installed (R422). -/
def execKeyLoad (vw : View) (s : State) : Result :=
  .next (s.live (fun s => s.runCmd (viewNum vw) 0x40 (s.issuerOwn (viewNum vw)) State.keyLoadCmd))

/-- KEY_EVICT: entries and their pages go (R409). -/
def execKeyEvict (vw : View) (s : State) : Result :=
  .next (s.live (fun s => s.runCmd (viewNum vw) 0x41 (s.issuerOwn (viewNum vw)) State.keyEvictCmd))

/-- FW_STAGE: an image goes into the slot that is not booted (R402). -/
def execFwStage (vw : View) (s : State) : Result :=
  .next (s.live (fun s => s.stageFirmware (viewNum vw)))

/-- FW_STAGE_VERIFIED: the Ledger points at the slot, or FIRMWARE_AUTH_FAIL (R402). -/
def execFwStageVerified (img : ImageCheck) (sealFault : Bool) (s : State) : Result :=
  formed (img.wellFormed) (s.live (fun s => s.stageVerified img sealFault))

/-- JOB_END: end record, clearing or keeping (R411-R413). -/
def execJobEnd (t : Fin 17) (cause : BitVec 4) (s : State) : Result :=
  .next (s.live (fun s => s.jobEndNow t.val cause.toNat))

/-- KEEP_LIMIT_EXPIRY: the clearing of kept gangs starts (R415). -/
def execKeepLimitExpiry (t : Fin 17) (s : State) : Result :=
  .next (s.live (fun s => s.releaseKept t.val))

/-- BATCH_DISPATCH: a full batch, its record and signal (R419). -/
def execBatchDispatch (t : Fin 17) (s : State) : Result :=
  .next (s.live (fun s => s.dispatch t.val false))

/-- BATCH_WAIT_EXPIRY: a partial batch whose oldest request has waited (R419). -/
def execBatchWaitExpiry (t : Fin 17) (s : State) : Result :=
  .next (s.live (fun s => s.dispatch t.val true))

/-- DONE_POLL: results of batches that are done (R419). -/
def execDonePoll (t : Fin 17) (s : State) : Result :=
  .next (s.live (fun s => s.donePollNow t.val))

/-- INTAKE_STARVED: intake closes as STARVED (R421). -/
def execIntakeStarved (t : Fin 17) (s : State) : Result :=
  .next (s.live (fun s => s.starveIntake t.val))

end Sys2Proof.Machine
end

