-- ==== Sys2Proof/Machine/MemRows.lean ====
section
/-! DEFINITION. The rows of the scrubbers and of local HBM (R288-R290, R314, R319, R322, R323). -/

namespace Sys2Proof.Machine

/-- POOL_SCRUB_STEP: a row of the Pool is scrubbed, or LAG counts (R288). -/
def execPoolScrubStep (pb : Fin 68) (ecc : Ecc) (s : State) : Result :=
  .next (s.live (fun s => s.poolScrub pb.val ecc))

/-- BASIN_SCRUB_STEP: a row of a Basin is scrubbed (R290). -/
def execBasinScrubStep (l : Fin 4) (ecc : Ecc) (s : State) : Result :=
  .next (s.live (fun s => s.basinScrub l.val ecc))

/-- FOREMAN_SCRUB_STEP: a row of Foreman memory is scrubbed (R290). -/
def execForemanScrubStep (pb : Fin 68) (instr : Bool) (ecc : Ecc) (s : State) : Result :=
  .next (s.live (fun s => s.fmScrub pb.val instr ecc))

/-- HBM_REMAP: the active list or the split changes, contents are unpredictable (R314). -/
def execHbmRemap (active : BitVec 256) (split : BitVec 7) (s : State) : Result :=
  .next (s.live (fun s => s.hbmRemap active.toNat split.toNat))

/-- HBM_TEMP_SAMPLE: HOT, refresh and throttle requests of the stacks (R319, R320). -/
def execHbmTempSample (temps : List (BitVec 8)) (s : State) : Result :=
  formed (decide (temps.length = 8)) (s.live (fun s => s.hbmTempSample (temps.map BitVec.toNat)))

/-- HBM_PATROL_READ: a channel reads a word and writes it back corrected (R322). -/
def execHbmPatrolRead (c : Fin 256) (word : BitVec 26) (ecc : Ecc) (s : State) : Result :=
  .next (s.live (fun s => s.hbmPatrol c.val word.toNat ecc))

/-- TG_GO: a traffic-generator run starts (R323). -/
def execTgGo (vw : View) (c : Fin 256) (data : Reg64) (s : State) : Result :=
  .next (s.busWrite vw (0xC0020 + 0x100 * c.val) ((data ||| word [(63, 1)]) &&& ~~~ (word [(62, 1)])))

/-- TG_STOP: the run ends at the next granule (R323). -/
def execTgStop (vw : View) (c : Fin 256) (data : Reg64) (s : State) : Result :=
  .next (s.busWrite vw (0xC0020 + 0x100 * c.val) ((data ||| word [(62, 1)]) &&& ~~~ (word [(63, 1)])))

/-- TG_RUN_COMPLETE: DONE, FAIL and the first failing granule (R323). -/
def execTgRunComplete (c : Fin 256) (fails : List (BitVec 22)) (s : State) : Result :=
  .next (s.live (fun s => s.tgComplete c.val (fails.map BitVec.toNat)))

end Sys2Proof.Machine
end

