-- ==== Sys2Proof/Machine/PowerRows.lean ====
section
/-! DEFINITION. The rows of power, reset, boot, the Ledger, the gauges, throttling and the Spoil log (R18, R399, R439, R466-R480, R484-R495). -/

namespace Sys2Proof.Machine

/-- PWROK_RISE: straps latched, the root PLL starts (R466). -/
def execPwrokRise (bootSrc : BitVec 2) (roleSel : BitVec 2) (s : State) : Result :=
  .next (s.pwrokRise bootSrc.toNat roleSel.toNat)

/-- ROOT_PLL_LOCK: device time starts, CLEARING (R485). -/
def execRootPllLock (s : State) : Result :=
  .next (s.rootLock)

/-- PLL_LOCK_TIMEOUT: FAILED (R470). -/
def execPllLockTimeout (s : State) : Result :=
  .next (s.lockTimeout)

/-- PWROK_FALL: OFF (R467, R522). -/
def execPwrokFall (lowNs : Nat) (s : State) : Result :=
  .next (s.pwrokFall lowNs)

/-- PERST_ASSERT: held in reset (R476). -/
def execPerstAssert (s : State) : Result :=
  .next (s.perstLow)

/-- PERST_RELEASE: a warm CLEARING (R477). -/
def execPerstRelease (s : State) : Result :=
  .next (s.perstHigh)

/-- BOOT_IMAGE_VERIFIED: the image boots, the other slot is tried, or the device fails (R403, R439). -/
def execBootImageVerified (img : ImageCheck) (sealFault : Bool) (s : State) : Result :=
  formed (img.wellFormed) (s.live (fun s => s.bootVerified img sealFault))

/-- CLEARING_COMPLETE: HELD or READY (R479). -/
def execClearingComplete (s : State) : Result :=
  .next (s.live (fun s => s.clearingDone))

/-- LEDGER_WRITE: the bank that is not current, with the next SEQ (R484). -/
def execLedgerWrite (s : State) : Result :=
  .next (s.live (fun s => s.ledgerWrite))

/-- LEDGER_WRITE_COMPLETE: current, tried again, or failed (R484). -/
def execLedgerWriteComplete (ok : Bool) (s : State) : Result :=
  .next (s.live (fun s => s.ledgerDone ok))

/-- DIE_TEMP_SAMPLE: MAX, and the request at THW (R471, R491). -/
def execDieTempSample (temps : List (BitVec 16)) (s : State) : Result :=
  formed (decide (temps.length = 80)) (s.live (fun s => s.dieTempSample temps))

/-- THERMAL_TRIP: clocks stop, THERMTRIP_N, FAILED (R475). -/
def execThermalTrip (sensor : BitVec 8) (celsius : BitVec 8) (s : State) : Result :=
  .next (s.thermalTrip sensor.toNat celsius.toNat)

/-- RAIL_SAMPLE: the rail, current and power gauges (R488). -/
def execRailSample (rails : List (BitVec 16)) (currents : List (BitVec 16)) (powers : List (BitVec 16)) (s : State) : Result :=
  formed (decide (rails.length = 9) && decide (currents.length = 2) && decide (powers.length = 4)) (s.live (fun s => s.railSample rails currents powers))

/-- REACH_WARDEN_EVAL: a request is posted, deepened or released (R471). -/
def execReachWardenEval (k : Fin 4) (s : State) : Result :=
  .next (s.live (fun s => s.wardenEval k.val))

/-- THROTTLE_FLOOR_WRITE: the floor of the physical function (R18). -/
def execThrottleFloorWrite (vw : View) (floor : BitVec 2) (s : State) : Result :=
  .next (s.busWrite vw Reg.CLKPWR_THROTTLE (putBits (s.reg Reg.CLKPWR_THROTTLE) 47 46 floor.toNat))

/-- THROTTLE_TARGET_CHANGE: VDD_CORE first if it must rise, then HOLD (R472). -/
def execThrottleTargetChange (s : State) : Result :=
  .next (s.live (fun s => s.targetChange))

/-- VCORE_ACK: the setpoint is acknowledged, or the failure counts (R469). -/
def execVcoreAck (ok : Bool) (s : State) : Result :=
  .next (s.live (fun s => s.vcoreAck ok))

/-- SWITCH_POINT: every bench changes its divider (R472). -/
def execSwitchPoint (s : State) : Result :=
  .next (s.live (fun s => s.switchPoint))

/-- SPOIL_ENTRY_ARRIVAL: an entry with the next SEQ (R493). -/
def execSpoilEntryArrival (n : Nat) (s : State) : Result :=
  .next (s.live (fun s => s.spoilArrive n))

/-- SPOIL_CLEAR: the log is empty, SEQ starts at 1 (R495). -/
def execSpoilClear (vw : View) (s : State) : Result :=
  .next (s.busWrite vw Reg.SPOIL_CTL (word [(63, 1)]))

end Sys2Proof.Machine
end

