-- ==== Sys2Proof/Machine/SealRows.lean ====
section
/-! DEFINITION. The rows of Kwawekan: operations, sessions, entropy, SPDM, IDE, debug (R429-R447). -/

namespace Sys2Proof.Machine

/-- TRIG_IN[1] under debug unlock (R515). -/
def State.trigHalt (s : State) : State :=
  if s.flag Fld.SEAL_DEBUG_UNLOCKED && bit (s.rd Fld.SEAL_DEBUG_SCOPE) 0 then
    (List.range 68).foldl (fun s pb => if (s.bench pb).active then s.haltBench pb 8 else s) s
  else s

/-- SEAL_SINGLE_REQUEST: served, queued, or answered BUSY or QUEUE_FULL (R435). -/
def execSealSingleRequest (r : SealReq) (kind : SealKind) (s : State) : Result :=
  .next (s.live (fun s => s.sealAsk r kind false))

/-- SEAL_INIT: a session opens or queues (R435). -/
def execSealInit (r : SealReq) (kind : SealKind) (s : State) : Result :=
  .next (s.live (fun s => s.sealAsk r kind true))

/-- SEAL_UPDATE: data for the session (R435). -/
def execSealUpdate (r : SealReq) (_bytes : Nat) (s : State) : Result :=
  .next (s.live (fun s => s.sealFeed r false))

/-- SEAL_FINAL: the session completes (R435). -/
def execSealFinal (r : SealReq) (s : State) : Result :=
  .next (s.live (fun s => s.sealFeed r true))

/-- SEAL_ABORT: the session ends with zeroisation (R437). -/
def execSealAbort (r : SealReq) (s : State) : Result :=
  .next (s.live (fun s => s.sealAbortNow r))

/-- SEAL_OP_COMPLETE: answered; the engines pass on (R430, R432, R433). -/
def execSealOpComplete (outcome : SealOutcome) (s : State) : Result :=
  .next (s.live (fun s => s.sealComplete outcome))

/-- SEAL_IDLE_TIMEOUT: an idle session is abandoned (R437). -/
def execSealIdleTimeout (s : State) : Result :=
  .next (s.live (fun s => s.sealIdle))

/-- ENTROPY_HEALTH_FAIL: DRBG output stops (R434). -/
def execEntropyHealthFail (adaptive : Bool) (s : State) : Result :=
  .next (s.live (fun s => s.entropyFails adaptive))

/-- ENTROPY_RESTART_DONE: DRBG output resumes (R434). -/
def execEntropyRestartDone (s : State) : Result :=
  .next (s.live (fun s => s.entropyUp))

/-- SPDM_REQUEST: answered by the responder (R441). -/
def execSpdmRequest (code : SpdmCode) (session : Bool) (s : State) : Result :=
  .next (s.live (fun s => s.spdm code session))

/-- IDE_KEY_PROG: a key set that is not in use (R443). -/
def execIdeKeyProg (stream : IdeStream) (kset : Bool) (s : State) : Result :=
  .next (s.live (fun s => s.ideProg stream kset))

/-- IDE_K_SET_GO: the stream changes its key set (R443). -/
def execIdeKSetGo (stream : IdeStream) (kset : Bool) (s : State) : Result :=
  .next (s.live (fun s => s.ideGo stream kset))

/-- DEBUG_CHALLENGE_READ: a fresh value, valid for 1 s (R447). -/
def execDebugChallengeRead (s : State) : Result :=
  .next (s.live (fun s => s.challengeRead))

/-- DEBUG_UNLOCK: verified once (R447). -/
def execDebugUnlock (scope : BitVec 2) (sig : List Byte) (s : State) : Result :=
  .next (s.live (fun s => s.debugTry scope.toNat sig))

/-- TRIG_IN_HALT_EDGE: under debug unlock every bench in FILL or WORK halts (R515). -/
def execTrigInHaltEdge (s : State) : Result :=
  .next (s.live (fun s => s.trigHalt))

end Sys2Proof.Machine
end

