-- ==== Sys2Proof/Machine/SluiceRows.lean ====
section
/-! DEFINITION. The rows of the Millraces, the key buses, the Sluices and the memories that serve them (R229, R230, R295, R309, R315, R329, R332). -/

namespace Sys2Proof.Machine

/-- MILLRACE_STREAM_START: the pending key stream starts (R229). -/
def execMillraceStreamStart (pb : Fin 68) (s : State) : Result :=
  .next (s.live (fun s => s.streamStart pb.val))

/-- KEY_UNIT_DELIVER: a unit of 512 bytes for a credit (R230). -/
def execKeyUnitDeliver (pb : Fin 68) (ecc : Ecc) (s : State) : Result :=
  .next (s.live (fun s => s.unitDeliver pb.val ecc))

/-- TAG_SEND: the next tag is sent (R329). -/
def execTagSend (pb : Fin 68) (s : State) : Result :=
  .next (s.live (fun s => s.tagSend pb.val))

/-- TAG_RESPONSE: data written, the tag free (R329). -/
def execTagResponse (pb : Fin 68) (tag : Fin 512) (s : State) : Result :=
  .next (s.live (fun s => s.tagResponse pb.val tag.val))

/-- PEER_TAG_ARRIVAL: a peer tag is served in FILL (R309). -/
def execPeerTagArrival (pb : Fin 68) (tag : Fin 512) (s : State) : Result :=
  .next (s.live (fun s => s.peerArrival pb.val tag.val))

/-- BASIN_ACCESS: a Basin bank serves a tag after the lease check (R295). -/
def execBasinAccess (pb : Fin 68) (tag : Fin 512) (ecc : Ecc) (s : State) : Result :=
  .next (s.live (fun s => s.basinAccess pb.val tag.val ecc))

/-- HBM_CHANNEL_ACCESS: a channel serves a tag after the page-owner check (R315). -/
def execHbmChannelAccess (pb : Fin 68) (tag : Fin 512) (ecc : Ecc) (s : State) : Result :=
  .next (s.live (fun s => s.hbmAccess pb.val tag.val ecc))

/-- SLUICE_READY: the halted transfer goes on (R332). -/
def execSluiceReady (vw : View) (b : BenchRef) (s : State) : Result :=
  .next (s.busWrite vw (benchOffset b + 0xC10) (word [(0, 1)]))

end Sys2Proof.Machine
end

