-- ==== Sys2Proof/Machine/TableRows.lean ====
section
/-! DEFINITION. The rows of the prime, chain, key and lease tables and of the HBM fill (R30-R36, R222, R223, R296, R297, R324). -/

namespace Sys2Proof.Machine

/-- PRIME_LOAD: the staged prime is tested, or OVERRUN (R30). -/
def execPrimeLoad (vw : View) (index : BitVec 7) (s : State) : Result :=
  .next (s.busWrite vw Reg.DEVCTL_PRIME_CMD (word [(63, 1), (0, index.toNat)]))

/-- PRIME_DELETE: a prime that is not in use is invalidated (R33). -/
def execPrimeDelete (vw : View) (index : BitVec 7) (s : State) : Result :=
  .next (s.busWrite vw Reg.DEVCTL_PRIME_CMD (word [(62, 1), (0, index.toNat)]))

/-- PRIME_OP_COMPLETE: the slot, DONE, INDEX and RESULT (R31, R33). -/
def execPrimeOpComplete (s : State) : Result :=
  .next (s.live (fun s => s.primeComplete))

/-- CHAIN_LOAD: the staged chain is checked (R35). -/
def execChainLoad (vw : View) (ord : BitVec 7) (spc : BitVec 5) (chain : BitVec 5) (s : State) : Result :=
  .next (s.busWrite vw Reg.DEVCTL_CHAIN_CMD (word [(63, 1), (16, ord.toNat), (8, spc.toNat), (0, chain.toNat)]))

/-- CHAIN_DELETE: a chain that is not in use is invalidated (R36). -/
def execChainDelete (vw : View) (ord : BitVec 7) (spc : BitVec 5) (chain : BitVec 5) (s : State) : Result :=
  .next (s.busWrite vw Reg.DEVCTL_CHAIN_CMD (word [(62, 1), (16, ord.toNat), (8, spc.toNat), (0, chain.toNat)]))

/-- CHAIN_OP_COMPLETE: the chain, INUSE of its slots, DONE and RESULT (R35, R36). -/
def execChainOpComplete (s : State) : Result :=
  .next (s.live (fun s => s.chainComplete))

/-- KEY_INSTALL: the staged key entry is checked against Table 8.3 (R222). -/
def execKeyInstall (vw : View) (index : BitVec 12) (s : State) : Result :=
  .next (s.busWrite vw Reg.DEVCTL_KEY_CMD (word [(63, 1), (0, index.toNat)]))

/-- KEY_REMOVE: a key entry that is not in use is invalidated (R223). -/
def execKeyRemove (vw : View) (index : BitVec 12) (s : State) : Result :=
  .next (s.busWrite vw Reg.DEVCTL_KEY_CMD (word [(62, 1), (0, index.toNat)]))

/-- KEY_READ: a key entry is copied to the stage (R222). -/
def execKeyRead (vw : View) (index : BitVec 12) (s : State) : Result :=
  .next (s.busWrite vw Reg.DEVCTL_KEY_CMD (word [(61, 1), (0, index.toNat)]))

/-- KEY_OP_COMPLETE: all four key tables at once, DONE and RESULT (R222). -/
def execKeyOpComplete (s : State) : Result :=
  .next (s.live (fun s => s.keyComplete))

/-- LEASE_TAKE: leases are taken for the requester (R296). -/
def execLeaseTake (vw : View) (tenant : BitVec 5) (ledge : BitVec 2) (count : BitVec 13) (first : BitVec 12)
    (s : State) : Result :=
  .next (s.busWrite vw Reg.DEVCTL_LEASE_CMD (word [(63, 1), (48, tenant.toNat), (40, ledge.toNat), (16, count.toNat), (0, first.toNat)]))

/-- LEASE_FREE: leases are sent to CLEARING (R296). -/
def execLeaseFree (vw : View) (tenant : BitVec 5) (ledge : BitVec 2) (count : BitVec 13) (first : BitVec 12)
    (s : State) : Result :=
  .next (s.busWrite vw Reg.DEVCTL_LEASE_CMD (word [(62, 1), (48, tenant.toNat), (40, ledge.toNat), (16, count.toNat), (0, first.toNat)]))

/-- LEASE_READ: state and owner of a lease (R296). -/
def execLeaseRead (vw : View) (ledge : BitVec 2) (first : BitVec 12) (s : State) : Result :=
  .next (s.busWrite vw Reg.DEVCTL_LEASE_CMD (word [(61, 1), (40, ledge.toNat), (0, first.toNat)]))

/-- LEASE_CMD_COMPLETE: DONE and RESULT (R297). -/
def execLeaseCmdComplete (s : State) : Result :=
  .next (s.live (fun s => s.leaseComplete))

/-- LEASE_GRANULE_SWEPT: a granule is zero, its lease FREE (R297). -/
def execLeaseGranuleSwept (l : Fin 4) (s : State) : Result :=
  .next (s.live (fun s => s.granuleSwept l.val))

/-- HBM_FILL_GO: a fill starts, or OVERRUN (R324). -/
def execHbmFillGo (vw : View) (count : BitVec 18) (first : BitVec 18) (s : State) : Result :=
  .next (s.busWrite vw Reg.DEVCTL_HBM_FILL (word [(63, 1), (32, count.toNat), (0, first.toNat)]))

/-- HBM_FILL_COMPLETE: the pages are zero, DONE (R324). -/
def execHbmFillComplete (s : State) : Result :=
  .next (s.live (fun s => s.fillDone))

end Sys2Proof.Machine
end

