-- ==== Sys2Proof/Machine/Dispatch.lean ====
section
/-! DEFINITION. What each command does, one arm per constructor. -/

namespace Sys2Proof.Machine

/-- A command's effect on everything but the queue. -/
def exec (i : Instr) (s : State) : Host.Outcome State Fault Refusal :=
  match i with
  | .registerWrite vw off data => Sys2Proof.Machine.execRegisterWrite vw off data s
  | .rcFieldRead vw off => Sys2Proof.Machine.execRcFieldRead vw off s
  | .tblDataAccess vw b w => Sys2Proof.Machine.execTblDataAccess vw b w s
  | .fmMemDataAccess vw b w => Sys2Proof.Machine.execFmMemDataAccess vw b w s
  | .weirDataAccess vw b w => Sys2Proof.Machine.execWeirDataAccess vw b w s
  | .conflDataRead vw b => Sys2Proof.Machine.execConflDataRead vw b s
  | .basinConflDataRead vw => Sys2Proof.Machine.execBasinConflDataRead vw s
  | .hbmPageDataAccess vw w => Sys2Proof.Machine.execHbmPageDataAccess vw w s
  | .tempDataRead vw => Sys2Proof.Machine.execTempDataRead vw s
  | .hallGenDataAccess vw w => Sys2Proof.Machine.execHallGenDataAccess vw w s
  | .hallTribDataAccess vw w => Sys2Proof.Machine.execHallTribDataAccess vw w s
  | .primeLoad vw index => Sys2Proof.Machine.execPrimeLoad vw index s
  | .primeDelete vw index => Sys2Proof.Machine.execPrimeDelete vw index s
  | .primeOpComplete => Sys2Proof.Machine.execPrimeOpComplete s
  | .chainLoad vw ord spc chain => Sys2Proof.Machine.execChainLoad vw ord spc chain s
  | .chainDelete vw ord spc chain => Sys2Proof.Machine.execChainDelete vw ord spc chain s
  | .chainOpComplete => Sys2Proof.Machine.execChainOpComplete s
  | .keyInstall vw index => Sys2Proof.Machine.execKeyInstall vw index s
  | .keyRemove vw index => Sys2Proof.Machine.execKeyRemove vw index s
  | .keyRead vw index => Sys2Proof.Machine.execKeyRead vw index s
  | .keyOpComplete => Sys2Proof.Machine.execKeyOpComplete s
  | .start vw b data => Sys2Proof.Machine.execStart vw b data s
  | .stop vw b data => Sys2Proof.Machine.execStop vw b data s
  | .benchReset pb => Sys2Proof.Machine.execBenchReset pb s
  | .benchResetDone pb => Sys2Proof.Machine.execBenchResetDone pb s
  | .rinse pb => Sys2Proof.Machine.execRinse pb s
  | .rinseComplete pb => Sys2Proof.Machine.execRinseComplete pb s
  | .benchHwFailure pb => Sys2Proof.Machine.execBenchHwFailure pb s
  | .benchSelfTestDone pb pass => Sys2Proof.Machine.execBenchSelfTestDone pb pass s
  | .gangGateOff g => Sys2Proof.Machine.execGangGateOff g s
  | .gangGateOn g => Sys2Proof.Machine.execGangGateOn g s
  | .spareSubstitute l slot pass => Sys2Proof.Machine.execSpareSubstitute l slot pass s
  | .fetchLine pb => Sys2Proof.Machine.execFetchLine pb s
  | .poolWindowComplete pb cmd port words corr bad => Sys2Proof.Machine.execPoolWindowComplete pb cmd port words corr bad s
  | .exchangeDataArrival pb => Sys2Proof.Machine.execExchangeDataArrival pb s
  | .aeTileEnterChute pb => Sys2Proof.Machine.execAeTileEnterChute pb s
  | .commandRetire pb cmd => Sys2Proof.Machine.execCommandRetire pb cmd s
  | .stallLimitReached pb => Sys2Proof.Machine.execStallLimitReached pb s
  | .phaseDrainComplete pb => Sys2Proof.Machine.execPhaseDrainComplete pb s
  | .phaseTurnaroundEnd pb => Sys2Proof.Machine.execPhaseTurnaroundEnd pb s
  | .token pb st => Sys2Proof.Machine.execToken pb st s
  | .phase pb st => Sys2Proof.Machine.execPhase pb st s
  | .endStream pb st => Sys2Proof.Machine.execEnd pb st s
  | .wsig pb st => Sys2Proof.Machine.execWsig pb st s
  | .wwait pb st => Sys2Proof.Machine.execWwait pb st s
  | .warrive pb st => Sys2Proof.Machine.execWarrive pb st s
  | .wreset pb st => Sys2Proof.Machine.execWreset pb st s
  | .msend pb st => Sys2Proof.Machine.execMsend pb st s
  | .ntt pb st => Sys2Proof.Machine.execNtt pb st s
  | .intt pb st => Sys2Proof.Machine.execIntt pb st s
  | .radd pb st => Sys2Proof.Machine.execRadd pb st s
  | .rsub pb st => Sys2Proof.Machine.execRsub pb st s
  | .rneg pb st => Sys2Proof.Machine.execRneg pb st s
  | .rmul pb st => Sys2Proof.Machine.execRmul pb st s
  | .rmac pb st => Sys2Proof.Machine.execRmac pb st s
  | .rmuls pb st => Sys2Proof.Machine.execRmuls pb st s
  | .rstep pb st => Sys2Proof.Machine.execRstep pb st s
  | .rtail pb st => Sys2Proof.Machine.execRtail pb st s
  | .drop pb st => Sys2Proof.Machine.execDrop pb st s
  | .mov pb st => Sys2Proof.Machine.execMov pb st s
  | .fadd pb st => Sys2Proof.Machine.execFadd pb st s
  | .fmul pb st => Sys2Proof.Machine.execFmul pb st s
  | .ffma pb st => Sys2Proof.Machine.execFfma pb st s
  | .fcmp pb st => Sys2Proof.Machine.execFcmp pb st s
  | .fsel pb st => Sys2Proof.Machine.execFsel pb st s
  | .fmin pb st => Sys2Proof.Machine.execFmin pb st s
  | .fmax pb st => Sys2Proof.Machine.execFmax pb st s
  | .fcvt pb st => Sys2Proof.Machine.execFcvt pb st s
  | .fdrain pb st => Sys2Proof.Machine.execFdrain pb st s
  | .fconv pb st => Sys2Proof.Machine.execFconv pb st s
  | .rconv pb st => Sys2Proof.Machine.execRconv pb st s
  | .matmul pb st => Sys2Proof.Machine.execMatmul pb st s
  | .transpose pb st => Sys2Proof.Machine.execTranspose pb st s
  | .automorph pb st => Sys2Proof.Machine.execAutomorph pb st s
  | .permute pb st => Sys2Proof.Machine.execPermute pb st s
  | .copy pb st => Sys2Proof.Machine.execCopy pb st s
  | .tload pb st => Sys2Proof.Machine.execTload pb st s
  | .resume pb st => Sys2Proof.Machine.execResume pb st s
  | .ksw pb st => Sys2Proof.Machine.execKsw pb st s
  | .rot pb st => Sys2Proof.Machine.execRot pb st s
  | .rescale pb st => Sys2Proof.Machine.execRescale pb st s
  | .freshet pb st => Sys2Proof.Machine.execFreshet pb st s
  | .pbs pb st => Sys2Proof.Machine.execPbs pb st s
  | .extract pb st => Sys2Proof.Machine.execExtract pb st s
  | .pack pb st => Sys2Proof.Machine.execPack pb st s
  | .millraceStreamStart pb => Sys2Proof.Machine.execMillraceStreamStart pb s
  | .keyUnitDeliver pb ecc => Sys2Proof.Machine.execKeyUnitDeliver pb ecc s
  | .tagSend pb => Sys2Proof.Machine.execTagSend pb s
  | .tagResponse pb tag => Sys2Proof.Machine.execTagResponse pb tag s
  | .peerTagArrival pb tag => Sys2Proof.Machine.execPeerTagArrival pb tag s
  | .basinAccess pb tag ecc => Sys2Proof.Machine.execBasinAccess pb tag ecc s
  | .hbmChannelAccess pb tag ecc => Sys2Proof.Machine.execHbmChannelAccess pb tag ecc s
  | .sluiceReady vw b => Sys2Proof.Machine.execSluiceReady vw b s
  | .weirOperationArrival n => Sys2Proof.Machine.execWeirOperationArrival n s
  | .weirReplyArrival n => Sys2Proof.Machine.execWeirReplyArrival n s
  | .foremanInstruction pb => Sys2Proof.Machine.execForemanInstruction pb s
  | .foremanInterrupt pb => Sys2Proof.Machine.execForemanInterrupt pb s
  | .stalledInstructionRetire pb => Sys2Proof.Machine.execStalledInstructionRetire pb s
  | .xcPush pb => Sys2Proof.Machine.execXcPush pb s
  | .xcPushm pb => Sys2Proof.Machine.execXcPushm pb s
  | .xcTw pb => Sys2Proof.Machine.execXcTw pb s
  | .xcTr pb => Sys2Proof.Machine.execXcTr pb s
  | .xcTkpost pb => Sys2Proof.Machine.execXcTkpost pb s
  | .xcTkwait pb => Sys2Proof.Machine.execXcTkwait pb s
  | .xcTkpoll pb => Sys2Proof.Machine.execXcTkpoll pb s
  | .xcWsig pb => Sys2Proof.Machine.execXcWsig pb s
  | .xcWwait pb => Sys2Proof.Machine.execXcWwait pb s
  | .xcWarrive pb => Sys2Proof.Machine.execXcWarrive pb s
  | .xcWreset pb => Sys2Proof.Machine.execXcWreset pb s
  | .xcWread pb => Sys2Proof.Machine.execXcWread pb s
  | .xcSend pb => Sys2Proof.Machine.execXcSend pb s
  | .xcRfree pb => Sys2Proof.Machine.execXcRfree pb s
  | .messageArrival n => Sys2Proof.Machine.execMessageArrival n s
  | .creditReturnArrival n => Sys2Proof.Machine.execCreditReturnArrival n s
  | .routeWrite vw b r data => Sys2Proof.Machine.execRouteWrite vw b r data s
  | .poolScrubStep pb ecc => Sys2Proof.Machine.execPoolScrubStep pb ecc s
  | .basinScrubStep l ecc => Sys2Proof.Machine.execBasinScrubStep l ecc s
  | .foremanScrubStep pb instr ecc => Sys2Proof.Machine.execForemanScrubStep pb instr ecc s
  | .leaseTake vw tenant ledge count first => Sys2Proof.Machine.execLeaseTake vw tenant ledge count first s
  | .leaseFree vw tenant ledge count first => Sys2Proof.Machine.execLeaseFree vw tenant ledge count first s
  | .leaseRead vw ledge first => Sys2Proof.Machine.execLeaseRead vw ledge first s
  | .leaseCmdComplete => Sys2Proof.Machine.execLeaseCmdComplete s
  | .leaseGranuleSwept l => Sys2Proof.Machine.execLeaseGranuleSwept l s
  | .hbmRemap active split => Sys2Proof.Machine.execHbmRemap active split s
  | .hbmTempSample temps => Sys2Proof.Machine.execHbmTempSample temps s
  | .hbmPatrolRead c word ecc => Sys2Proof.Machine.execHbmPatrolRead c word ecc s
  | .tgGo vw c data => Sys2Proof.Machine.execTgGo vw c data s
  | .tgStop vw c data => Sys2Proof.Machine.execTgStop vw c data s
  | .tgRunComplete c fails => Sys2Proof.Machine.execTgRunComplete c fails s
  | .hbmFillGo vw count first => Sys2Proof.Machine.execHbmFillGo vw count first s
  | .hbmFillComplete => Sys2Proof.Machine.execHbmFillComplete s
  | .linkEnable vw lk data => Sys2Proof.Machine.execLinkEnable vw lk data s
  | .linkDisable vw lk data => Sys2Proof.Machine.execLinkDisable vw lk data s
  | .linkRetrain vw lk data => Sys2Proof.Machine.execLinkRetrain vw lk data s
  | .llReset vw lk data => Sys2Proof.Machine.execLlReset vw lk data s
  | .llResetComplete lk => Sys2Proof.Machine.execLlResetComplete lk s
  | .linkDetectRetry lk => Sys2Proof.Machine.execLinkDetectRetry lk s
  | .linkPartnerSeen lk lanes => Sys2Proof.Machine.execLinkPartnerSeen lk lanes s
  | .linkEqualiseDone lk => Sys2Proof.Machine.execLinkEqualiseDone lk s
  | .linkMeasureDone lk rtt losses => Sys2Proof.Machine.execLinkMeasureDone lk rtt losses s
  | .linkExchangeDone lk cap => Sys2Proof.Machine.execLinkExchangeDone lk cap s
  | .linkStateTimeout lk => Sys2Proof.Machine.execLinkStateTimeout lk s
  | .linkRetrainDone lk => Sys2Proof.Machine.execLinkRetrainDone lk s
  | .laneFailure lk lane => Sys2Proof.Machine.execLaneFailure lk lane s
  | .flitSend lk => Sys2Proof.Machine.execFlitSend lk s
  | .flitReceive lk flit uncorrectable corrected => Sys2Proof.Machine.execFlitReceive lk flit uncorrectable corrected s
  | .modulePresenceSample pins => Sys2Proof.Machine.execModulePresenceSample pins s
  | .hallReadRequest n => Sys2Proof.Machine.execHallReadRequest n s
  | .hallWriteRequest n => Sys2Proof.Machine.execHallWriteRequest n s
  | .bulkReceive n => Sys2Proof.Machine.execBulkReceive n s
  | .mgmtPacketReceive n => Sys2Proof.Machine.execMgmtPacketReceive n s
  | .hallTblCommit vw table index => Sys2Proof.Machine.execHallTblCommit vw table index s
  | .hallTblRead vw table index => Sys2Proof.Machine.execHallTblRead vw table index s
  | .heartbeatSend => Sys2Proof.Machine.execHeartbeatSend s
  | .heartbeatReceive hb => Sys2Proof.Machine.execHeartbeatReceive hb s
  | .heartbeatTick => Sys2Proof.Machine.execHeartbeatTick s
  | .fenceRequestReceive slot => Sys2Proof.Machine.execFenceRequestReceive slot s
  | .fenceNoticeApply notice => Sys2Proof.Machine.execFenceNoticeApply notice s
  | .fenceAcksComplete => Sys2Proof.Machine.execFenceAcksComplete s
  | .admitReceive slot gen role => Sys2Proof.Machine.execAdmitReceive slot gen role s
  | .spareNoticeReceive slot gen => Sys2Proof.Machine.execSpareNoticeReceive slot gen s
  | .tribTableReceive slots => Sys2Proof.Machine.execTribTableReceive slots s
  | .cflInstall vw index => Sys2Proof.Machine.execCflInstall vw index s
  | .cflRemove vw index => Sys2Proof.Machine.execCflRemove vw index s
  | .cflRead vw index => Sys2Proof.Machine.execCflRead vw index s
  | .cflCmdComplete => Sys2Proof.Machine.execCflCmdComplete s
  | .collPacketReceive p => Sys2Proof.Machine.execCollPacketReceive p s
  | .cflRunComplete index => Sys2Proof.Machine.execCflRunComplete index s
  | .snapGo vw lead => Sys2Proof.Machine.execSnapGo vw lead s
  | .snapMarkerReceive epoch cut => Sys2Proof.Machine.execSnapMarkerReceive epoch cut s
  | .snapCut => Sys2Proof.Machine.execSnapCut s
  | .snapReportReceive late final => Sys2Proof.Machine.execSnapReportReceive late final s
  | .fresetGo vw hall part => Sys2Proof.Machine.execFresetGo vw hall part s
  | .fresetNoticeReceive hall part => Sys2Proof.Machine.execFresetNoticeReceive hall part s
  | .fresetReportReceive final => Sys2Proof.Machine.execFresetReportReceive final s
  | .tsyncExchange => Sys2Proof.Machine.execTsyncExchange s
  | .tsyncPacketReceive t1 t2 t3 t4 => Sys2Proof.Machine.execTsyncPacketReceive t1 t2 t3 t4 s
  | .ppsEdge => Sys2Proof.Machine.execPpsEdge s
  | .timeSet vw rate => Sys2Proof.Machine.execTimeSet vw rate s
  | .ppsTimeout => Sys2Proof.Machine.execPpsTimeout s
  | .watchdogFeed k => Sys2Proof.Machine.execWatchdogFeed k s
  | .watchdogExpiry k pc => Sys2Proof.Machine.execWatchdogExpiry k pc s
  | .coreRestartDone k => Sys2Proof.Machine.execCoreRestartDone k s
  | .drvVersionOffer vw major minor => Sys2Proof.Machine.execDrvVersionOffer vw major minor s
  | .tenantOpen vw => Sys2Proof.Machine.execTenantOpen vw s
  | .tenantClose vw => Sys2Proof.Machine.execTenantClose vw s
  | .jobStart vw => Sys2Proof.Machine.execJobStart vw s
  | .jobKill vw => Sys2Proof.Machine.execJobKill vw s
  | .jobRelease vw => Sys2Proof.Machine.execJobRelease vw s
  | .dumpPool vw => Sys2Proof.Machine.execDumpPool vw s
  | .serviceOpen vw => Sys2Proof.Machine.execServiceOpen vw s
  | .serviceClose vw => Sys2Proof.Machine.execServiceClose vw s
  | .keyLoad vw => Sys2Proof.Machine.execKeyLoad vw s
  | .keyEvict vw => Sys2Proof.Machine.execKeyEvict vw s
  | .fwStage vw => Sys2Proof.Machine.execFwStage vw s
  | .fwStageVerified img sealFault => Sys2Proof.Machine.execFwStageVerified img sealFault s
  | .jobEnd t cause => Sys2Proof.Machine.execJobEnd t cause s
  | .keepLimitExpiry t => Sys2Proof.Machine.execKeepLimitExpiry t s
  | .batchDispatch t => Sys2Proof.Machine.execBatchDispatch t s
  | .batchWaitExpiry t => Sys2Proof.Machine.execBatchWaitExpiry t s
  | .donePoll t => Sys2Proof.Machine.execDonePoll t s
  | .intakeStarved t => Sys2Proof.Machine.execIntakeStarved t s
  | .sealSingleRequest r kind => Sys2Proof.Machine.execSealSingleRequest r kind s
  | .sealInit r kind => Sys2Proof.Machine.execSealInit r kind s
  | .sealUpdate r bytes => Sys2Proof.Machine.execSealUpdate r bytes s
  | .sealFinal r => Sys2Proof.Machine.execSealFinal r s
  | .sealAbort r => Sys2Proof.Machine.execSealAbort r s
  | .sealOpComplete outcome => Sys2Proof.Machine.execSealOpComplete outcome s
  | .sealIdleTimeout => Sys2Proof.Machine.execSealIdleTimeout s
  | .entropyHealthFail adaptive => Sys2Proof.Machine.execEntropyHealthFail adaptive s
  | .entropyRestartDone => Sys2Proof.Machine.execEntropyRestartDone s
  | .spdmRequest code session => Sys2Proof.Machine.execSpdmRequest code session s
  | .ideKeyProg stream kset => Sys2Proof.Machine.execIdeKeyProg stream kset s
  | .ideKSetGo stream kset => Sys2Proof.Machine.execIdeKSetGo stream kset s
  | .debugChallengeRead => Sys2Proof.Machine.execDebugChallengeRead s
  | .debugUnlock scope sig => Sys2Proof.Machine.execDebugUnlock scope sig s
  | .bar2Write vw off bytes => Sys2Proof.Machine.execBar2Write vw off bytes s
  | .bar2Read vw off len => Sys2Proof.Machine.execBar2Read vw off len s
  | .doorbellRequest vw tag count => Sys2Proof.Machine.execDoorbellRequest vw tag count s
  | .doorbellCopyIn vw tag count => Sys2Proof.Machine.execDoorbellCopyIn vw tag count s
  | .doorbellCopyOut vw tag count => Sys2Proof.Machine.execDoorbellCopyOut vw tag count s
  | .doorbellHostData vw d => Sys2Proof.Machine.execDoorbellHostData vw d s
  | .doorbellComplete vw => Sys2Proof.Machine.execDoorbellComplete vw s
  | .mboxCfgWrite vw m badAck kind tenant => Sys2Proof.Machine.execMboxCfgWrite vw m badAck kind tenant s
  | .mboxAck vw m mseq => Sys2Proof.Machine.execMboxAck vw m mseq s
  | .mboxResultPresent vw m => Sys2Proof.Machine.execMboxResultPresent vw m s
  | .vfBindWrite vw v en tenant => Sys2Proof.Machine.execVfBindWrite vw v en tenant s
  | .mgmtCmdStart vw code length => Sys2Proof.Machine.execMgmtCmdStart vw code length s
  | .mgmtCmdAbort vw => Sys2Proof.Machine.execMgmtCmdAbort vw s
  | .mgmtDataWrite vw data => Sys2Proof.Machine.execMgmtDataWrite vw data s
  | .mgmtDataRead vw => Sys2Proof.Machine.execMgmtDataRead vw s
  | .i3cPrivateWrite off words => Sys2Proof.Machine.execI3cPrivateWrite off words s
  | .i3cPrivateRead k => Sys2Proof.Machine.execI3cPrivateRead k s
  | .functionLevelReset f => Sys2Proof.Machine.execFunctionLevelReset f s
  | .pwrokRise bootSrc roleSel => Sys2Proof.Machine.execPwrokRise bootSrc roleSel s
  | .rootPllLock => Sys2Proof.Machine.execRootPllLock s
  | .pllLockTimeout => Sys2Proof.Machine.execPllLockTimeout s
  | .pwrokFall lowNs => Sys2Proof.Machine.execPwrokFall lowNs s
  | .perstAssert => Sys2Proof.Machine.execPerstAssert s
  | .perstRelease => Sys2Proof.Machine.execPerstRelease s
  | .bootImageVerified img sealFault => Sys2Proof.Machine.execBootImageVerified img sealFault s
  | .clearingComplete => Sys2Proof.Machine.execClearingComplete s
  | .ledgerWrite => Sys2Proof.Machine.execLedgerWrite s
  | .ledgerWriteComplete ok => Sys2Proof.Machine.execLedgerWriteComplete ok s
  | .dieTempSample temps => Sys2Proof.Machine.execDieTempSample temps s
  | .thermalTrip sensor celsius => Sys2Proof.Machine.execThermalTrip sensor celsius s
  | .railSample rails currents powers => Sys2Proof.Machine.execRailSample rails currents powers s
  | .reachWardenEval k => Sys2Proof.Machine.execReachWardenEval k s
  | .throttleFloorWrite vw floor => Sys2Proof.Machine.execThrottleFloorWrite vw floor s
  | .throttleTargetChange => Sys2Proof.Machine.execThrottleTargetChange s
  | .vcoreAck ok => Sys2Proof.Machine.execVcoreAck ok s
  | .switchPoint => Sys2Proof.Machine.execSwitchPoint s
  | .spoilEntryArrival n => Sys2Proof.Machine.execSpoilEntryArrival n s
  | .spoilClear vw => Sys2Proof.Machine.execSpoilClear vw s
  | .spoilDataRead vw => Sys2Proof.Machine.execSpoilDataRead vw s
  | .trigInSnapshotEdge => Sys2Proof.Machine.execTrigInSnapshotEdge s
  | .trigInHaltEdge => Sys2Proof.Machine.execTrigInHaltEdge s
  | .trigOutSecond => Sys2Proof.Machine.execTrigOutSecond s
  | .refusedAccess vw off data width => Sys2Proof.Machine.execRefusedAccess vw off data width s
  | .undefinedOpcode pb st => Sys2Proof.Machine.execUndefinedOpcode pb st s
  | .hostCompletionTimeout vw => Sys2Proof.Machine.execHostCompletionTimeout vw s
  | .bulkAckReceive n => Sys2Proof.Machine.execBulkAckReceive n s
  | .pcieConfigAccess f off data => Sys2Proof.Machine.execPcieConfigAccess f off data s
  | .i3cCcc c => Sys2Proof.Machine.execI3cCcc c s

end Sys2Proof.Machine
end

