-- ==== Sys2Proof/Safety.lean ====
section
/-! DEFINITION. What claims about the device are stated in: the canonical form of its stores, which commands reach a device in which
state, and the shapes that several rows share. -/

namespace Sys2Proof.Machine

/-- The stores of a state are canonical: equal contents are equal data. Registers, RC counts, benches, links, views and tenants list only
what differs from reset; the bytes and page owners of local HBM only what differs from an unlisted one. -/
structure State.Canonical (s : State) : Prop where
  regs : Sparse.wf regReset s.regs = true
  rc : Sparse.wf (fun _ => 0) s.rc = true
  benches : Sparse.wf (fun _ => Bench.reset) s.benches = true
  links : Sparse.wf (fun _ => Link.reset) s.links = true
  views : Sparse.wf (fun _ => ViewState.reset) s.host.views = true
  tenants : Sparse.wf (fun _ => Tenant.closed) s.mgmt.tenants = true
  hbm : s.hbm.mem.mem.wf = true
  owners : Sparse.wf (fun _ => 0) s.hbm.owners = true

/-- A register write of a view that comes through to the register's own rules: the device answers, the view may write there, and the
offset is implemented (checks 1 to 3 of R501). -/
def State.writable (s : State) (vw : View) (o : Nat) : Bool :=
  s.reaches (viewNum vw) true && s.mayWriteAt (viewNum vw) o && implemented o

/-- The same for a register read. -/
def State.readable (s : State) (vw : View) (o : Nat) : Bool :=
  s.reaches (viewNum vw) false && s.mayReadAt (viewNum vw) o && implemented o

/-- A write of a view to a register of a bench block that comes through to physical bench pb. -/
def State.benchWritable (s : State) (vw : View) (b : BenchRef) (o pb : Nat) : Prop :=
  s.writable vw (benchOffset b + o) = true ∧ s.resolve (benchOffset b + o) = some (0x100000 + 0x10000 * pb + o) ∧ pb < 68

/-- The same for a read. -/
def State.benchReadable (s : State) (vw : View) (b : BenchRef) (o pb : Nat) : Prop :=
  s.readable vw (benchOffset b + o) = true ∧ s.resolve (benchOffset b + o) = some (0x100000 + 0x10000 * pb + o) ∧ pb < 68

/-- Every register but the listed ones is as before. -/
def RegsApart (s t : State) (ks : List Nat) : Prop := ∀ k, k ∉ ks → t.reg k = s.reg k

/-- Every bench but one is as before. -/
def BenchesApart (s t : State) (pb : Nat) : Prop := ∀ q, q ≠ pb → t.bench q = s.bench q

/-- Every link but one is as before. -/
def LinksApart (s t : State) (lk : Nat) : Prop := ∀ q, q ≠ lk → t.link q = s.link q

/-- Every view of the host interface but one is as before. -/
def ViewsApart (s t : State) (vw : Nat) : Prop := ∀ v, v ≠ vw → t.view v = s.view v

/-- Every tenant but one is as before. -/
def TenantsApart (s t : State) (n : Nat) : Prop := ∀ m, m ≠ n → t.tenant m = s.tenant m

end Sys2Proof.Machine
end

