-- ==== Sys2Proof/Certificates/Slice0/Obligations.lean ====
section
/-! DEFINITION. The statements about the model of the CH2416 block: the step and its invariants, then one group of statements for each
family of commands and each kind of state. A clause of the form "exec answers a next state" is the completion of the commands it
names, under conditions on the state and the operands alone. -/

open Sys2Proof Sys2Proof.Machine

/-! ### The step, reset, and what every command keeps -/

/-- A step takes the command at the front of the queue and runs it with the queue's rest. -/
def Obligations.StepRunsFrontCommand : Prop :=
  ∀ (s : State) (c : Instr) (rest : List Instr), s.pending = c :: rest → step s = exec c { s with pending := rest }

/-- On an empty queue one tclk passes (the model's choice, log 2): nothing changes in OFF, while the root PLL is locking and in FAILED;
under PERST_N, with the root clock locked, device time alone goes on (R476); and with RATE_PPB zero and nothing to slew one tclk is 10 ns
of device time (R485). -/
def Obligations.EmptyQueueStepPassesOneCycle : Prop :=
  (∀ s : State, s.pending = [] → ∃ t, step s = .next t ∧
    (s.running = false → (s.power.st = .held → s.flag Fld.CLKPWR_CLK_ROOT_LOCK = false) → t = s) ∧
    (s.power.st = .held → s.flag Fld.CLKPWR_CLK_ROOT_LOCK = true → t = { s with power := s.power.ticked s.ratePpb }) ∧
    (s.running = true → s.benches = [] → s.host.views = [] → s.mgmt.tenants = [] → t.power = s.power.ticked s.ratePpb)) ∧
  (∀ p : Power, p.slew = 0 → 0 ≤ p.frac → p.frac < 1000000000 → (p.ticked 0).time = (p.time + 10) % 2 ^ 64 ∧ (p.ticked 0).frac = p.frac)

/-- What a cold reset leaves: the identity of the part, empty tables, gangs out of service, an unjoined Hall identity, no log entry and a
first SEQ of 1, no binding, an idle bench, memories that read zero, and no command in the queue. -/
def Obligations.ResetLeavesSpecValues : Prop :=
  State.reset.pending = [] ∧ State.reset.shown 0 Reg.DEVCTL_ID = 0x2416010001004408 ∧
  State.reset.primes = ⟨[], [], none⟩ ∧ (∀ i, State.reset.primeEnt i = PrimeEnt.empty) ∧ (∀ k, State.reset.keyEnt k = []) ∧
  (∀ l n, State.reset.lease l n = ⟨.free, 0⟩) ∧ (∀ pb, (State.reset.bench pb).mode = .idle ∧ (State.reset.bench pb).pool = EMem.zero) ∧
  (∀ g, g < 16 → State.reset.rd (Fld.MGMT_GANG_STATE g) = gangOut) ∧ State.reset.devState = devClearing ∧
  State.reset.rd Fld.HALL_ID_STATE = 0 ∧ State.reset.rd Fld.SPOIL_STATUS_NEXT_SEQ = 1 ∧ State.reset.spoil.ring = [] ∧
  (∀ lk, State.reset.link lk = Link.reset) ∧ State.reset.rd Fld.HALL_LAG_POLICY_WARN_NS = 1000

/-- The stores of the reset state are canonical. -/
def Obligations.ResetIsCanonical : Prop := State.reset.Canonical

/-- Every step keeps the stores canonical. -/
def Obligations.StepKeepsStoresCanonical : Prop := ∀ s t : State, s.Canonical → step s = .next t → t.Canonical

/-- No step takes back what was sent, no step lowers the security-version floor, a free value is never used twice, and a step takes from
the queue nothing but its front command. -/
def Obligations.StepTakesNothingBack : Prop :=
  ∀ s t : State, step s = .next t →
    t.pending = s.pending.tail ∧ s.out <+: t.out ∧ s.kwa.svnFloor ≤ t.kwa.svnFloor ∧ s.fresh ≤ t.fresh

/-- Every command whose operands have the shape that the hardware gives them completes in every state, and no command is refused. -/
def Obligations.EveryWellFormedCommandCompletes : Prop :=
  ∀ (c : Instr) (s : State),
    (c.wellFormed = true → ∃ t, exec c s = .next t) ∧ (c.wellFormed = false → exec c s = .fault .illFormed)

/-- In OFF every well-formed command but PWROK_RISE changes nothing. -/
def Obligations.OffIgnoresEveryCommand : Prop :=
  ∀ (c : Instr) (s : State), s.power.st = .off → c.wellFormed = true → (∀ b r, c ≠ .pwrokRise b r) → exec c s = .next s

/-! ### Register accesses -/

namespace Sys2Proof.Machine

/-- Whether a register at a resolved offset outside the host interface is written by its access codes alone: it starts nothing, and none
of its values is refused. -/
def plainOffset (o : Nat) : Bool :=
  if o < 0x10000 then
    !([Reg.DEVCTL_PRIME_CMD, Reg.DEVCTL_CHAIN_CMD, Reg.DEVCTL_KEY_CMD, Reg.DEVCTL_LEASE_CMD, Reg.DEVCTL_HBM_THERM,
      Reg.DEVCTL_HBM_PAGE_DATA, Reg.DEVCTL_HBM_FILL].contains o)
  else if o < 0x40000 then
    !([Reg.CLKPWR_THROTTLE, Reg.CLKPWR_THERM, Reg.CLKPWR_TIME_CTL, Reg.CLKPWR_TIME_SET, Reg.SPOIL_CTL, Reg.SPOIL_IRQ_EN].contains o)
  else if o < 0x50000 then false
  else if o < 0x60000 then true
  else if o < 0x80000 then !([Reg.MGMT_CFG, 0x60010].contains o)
  else if o < 0xA0000 then decide (0x80 ≤ o % 0x800) || (decide (0 < o % 0x800) && decide (o % 0x800 < 0x40))
  else if o < 0xC0000 then
    !([Reg.HALL_GEN_DATA, Reg.HALL_TRIB_DATA, Reg.HALL_TBL_CMD, Reg.HALL_CFL_CMD, Reg.HALL_SNAP_CTL, Reg.HALL_FRESET].contains o ||
      (decide (0xA0200 ≤ o) && decide (o < 0xA0240)))
  else if o < 0x100000 then decide (o % 0x100 ≠ 0) && decide (o % 0x100 ≠ 0x20)
  else
    let r := o % 0x10000
    !([0, 0x88, 0x300, 0x400, 0x420, 0xA10, 0xA48, 0xC10, 0xC18].contains r) &&
      (inArray r 0x10 8 6).isNone && (inArray r 0x800 0x20 16).isNone && (inArray r 0x1000 8 256).isNone &&
      (inArray r 0x2000 8 256).isNone

/-- Whether an access of 64 bits fails check 2, 3 or the bench part of check 4 of R501. -/
def State.turnedAway (s : State) (vw o : Nat) (write : Bool) : Prop :=
  (if write then s.mayWriteAt vw o else s.mayReadAt vw o) = false ∨ implemented o = false ∨ s.resolve o = none

end Sys2Proof.Machine

/-- A write to a register that starts nothing and refuses no value changes that register by its access codes and nothing else. Field by field:
an RW field takes the data, a one clears a bit of a W1C field and sets one of a W1S field, RO, RC and WO fields and the bits of no field stay. -/
def Obligations.RegisterWritesFollowAccessCodes : Prop :=
  (∀ (s : State) (vw : View) (off : BitVec 26) (data : Reg64) (p : Nat),
     s.writable vw off.toNat = true → s.resolve off.toNat = some p → plainOffset p = true → s.deadHalf p = false → p < 0x540000 →
     exec (.registerWrite vw off data) s = .next (s.setReg p (accWrite (regFields p) (s.reg p) data))) ∧
  (∀ (k : Nat) (old data : Reg64),
     (∀ f, f ∈ regFields k → getBits (accWrite (regFields k) old data) f.hi f.lo =
       match f.acc with
       | .rw => getBits data f.hi f.lo
       | .w1c => getBits (old &&& ~~~ data) f.hi f.lo
       | .w1s => getBits (old ||| data) f.hi f.lo
       | .ro => getBits old f.hi f.lo
       | .rc => getBits old f.hi f.lo
       | .wo => getBits old f.hi f.lo) ∧
     (∀ i, (∀ f, f ∈ regFields k → i < f.lo ∨ f.hi < i) → (accWrite (regFields k) old data).getLsbD i = old.getLsbD i))

/-- A refused access by a function or I3C, of another width than 64 bits or to an offset that its checks turn away, logs one
HOST_ACCESS_ERROR that names the view, the width and the offset; a read answers all ones; nothing else changes. -/
def Obligations.RefusedAccessLogsAndChangesNothing : Prop :=
  (∀ (s : State) (vw : View) (off : BitVec 26) (data : Option Reg64) (width : AccessWidth),
    width ≠ .w64 → viewNum vw ≤ 16 → s.reaches (viewNum vw) data.isSome = true →
    exec (.refusedAccess vw off data width) s =
      .next { s with
        spoil := { s.spoil with inFlight := s.spoil.inFlight ++ [⟨s.power.time, 0x19, 9, viewNum vw, 0x3F, s.boundTenant (viewNum vw),
          b2n data.isSome * 2 ^ 63 + widthOf width * 2 ^ 60, off.toNat⟩] }
        out := if data.isSome then s.out else s.out ++ [.readData vw off.toNat allOnes] }) ∧
  (∀ (s : State) (vw : View) (off : BitVec 26) (data : Option Reg64),
    viewNum vw ≤ 16 → s.reaches (viewNum vw) data.isSome = true → s.turnedAway (viewNum vw) off.toNat data.isSome →
    exec (.refusedAccess vw off data .w64) s =
      .next { s with
        spoil := { s.spoil with inFlight := s.spoil.inFlight ++ [⟨s.power.time, 0x19, 9, viewNum vw, 0x3F, s.boundTenant (viewNum vw),
          b2n data.isSome * 2 ^ 63 + 2 ^ 56, off.toNat⟩] }
        out := if data.isSome then s.out else s.out ++ [.readData vw off.toNat allOnes] })

/-- RC_FIELD_READ: the register's word is answered with the whole units of each RC field, saturated at the field's largest value, and the
fields keep the remainders below one unit; until a new event the count then shows none of the units taken. A field counts in the unit of its
quantity; one that counts events saturates and clears to zero. The word that a register shows holds each RC field's units in the field's
place, and the clear takes every RC field of the register. -/
def Obligations.RcReadTakesWholeUnits : Prop :=
  (∀ (s : State) (vw : View) (off : BitVec 26) (p : Nat),
    s.readable vw off.toNat = true → s.resolve off.toNat = some p → p < 0x100000 → isDataReg p = false → mgmtTenantAt p = none →
    s.deadHalf p = false →
    exec (.rcFieldRead vw off) s =
      .next ((s.clearRc (regKey (viewNum vw) p)).emit (.readData vw off.toNat (s.shown (viewNum vw) p)))) ∧
  (∀ (s : State) (vw : View) (off : BitVec 26) (pb o : Nat),
    s.readable vw off.toNat = true → s.resolve off.toNat = some (0x100000 + 0x10000 * pb + o) → pb < 68 → o < 0x10000 →
    [0x88, 0x210, 0x220, 0x420, 0xA28, 0xA48].contains o = false →
    exec (.rcFieldRead vw off) s = .next ((s.clearRc (0x100000 + 0x10000 * pb + o)).emit
      (.readData vw off.toNat (s.shown (viewNum vw) (0x100000 + 0x10000 * pb + o))))) ∧
  (∀ (s : State) (f : Fld) (n : Nat), s.rcShown f = min f.top (s.cnt f / rcUnit f.key f.lo) ∧
    (s.rcClear f).cnt f = s.cnt f % rcUnit f.key f.lo ∧ (s.rcClear f).rcShown f = 0 ∧
    (rcUnit f.key f.lo ≠ 1 → (s.bump f n).cnt f = s.cnt f + n) ∧
    (rcUnit f.key f.lo = 1 → (s.bump f n).cnt f = min f.top (s.cnt f + n) ∧ (s.rcClear f).cnt f = 0)) ∧
  (∀ (s : State) (vw p : Nat) (f : Fld), p < 0x540000 → p ≠ Reg.GAUGE_TEMP_DATA → f ∈ rcFields (regKey vw p) →
    getBits (s.shown vw p) f.hi f.lo = s.rcShown f ∧ (s.clearRc (regKey vw p)).cnt f = s.cnt f % rcUnit f.key f.lo)

/-- The data registers. Of a bench: each access reads or writes one doubleword and advances its index, which wraps at the table's end. Conflict
counters: a read answers the four counters of the selected group, clears them and advances GROUP. Table windows: a read answers the selected
entry and advances the selector; Matumon's write sets it. SPOIL_DATA: WORD 0 latches the entry that SEQ names (zeros where the ring has none), words 1
to 3 answer from the latch; each read advances WORD, and after WORD 3 SEQ, from 0xFFFFFFFF to 1. -/
def Obligations.DataRegistersReadAndAdvance : Prop :=
  (∀ (s : State) (vw : View) (b : BenchRef) (pb : Nat),
     (∀ tb, tb = s.rd (Fld.BENCH_TBL_ADDR_TABLE pb) → tb ≠ 3 → s.benchIdle pb = true →
       (s.benchReadable vw b 0x88 pb → exec (.tblDataAccess vw b none) s =
         .next ((s.wr (Fld.BENCH_TBL_ADDR_INDEX pb) ((s.tblIndex pb + 1) % max 1 (tableSize tb))).emit
           (.readData vw (benchOffset b + 0x88) (BitVec.ofNat 64 ((s.bench pb).tableRead tb (s.tblIndex pb)))))) ∧
       (∀ d, s.benchWritable vw b 0x88 pb → exec (.tblDataAccess vw b (some d)) s =
         .next ((s.onBench pb (fun x => x.tableWrite tb (s.tblIndex pb) d)).wr (Fld.BENCH_TBL_ADDR_INDEX pb)
           ((s.tblIndex pb + 1) % max 1 (tableSize tb))))) ∧
     (s.benchIdle pb = true →
       (s.benchReadable vw b 0x420 pb → s.flag (Fld.BENCH_FM_MEM_ADDR_SPACE pb) = false → (s.bench pb).dmem.bad = [] →
         exec (.fmMemDataAccess vw b none) s =
           .next ((s.wr (Fld.BENCH_FM_MEM_ADDR_INDEX pb) ((s.fmMemIndex pb + 1) % 32768)).emit
             (.readData vw (benchOffset b + 0x420) ((s.bench pb).dmem.dword (s.fmMemIndex pb))))) ∧
       (∀ d, s.benchWritable vw b 0x420 pb → exec (.fmMemDataAccess vw b (some d)) s =
         .next ((s.onBench pb (fun x => if s.flag (Fld.BENCH_FM_MEM_ADDR_SPACE pb) then { x with imem := x.imem.setDword (s.fmMemIndex pb) d }
           else { x with dmem := x.dmem.setDword (s.fmMemIndex pb) d })).wr (Fld.BENCH_FM_MEM_ADDR_INDEX pb)
             ((s.fmMemIndex pb + 1) % s.fmMemSize pb)))) ∧
     (s.benchReadable vw b 0xA48 pb → exec (.weirDataAccess vw b none) s =
       .next ((s.wr (Fld.BENCH_WEIR_SEL_WEIR pb) (s.rd (Fld.BENCH_WEIR_SEL_WEIR pb) + 1)).emit
         (.readData vw (benchOffset b + 0xA48) (BitVec.ofNat 64 ((s.bench pb).weir (s.rd (Fld.BENCH_WEIR_SEL_WEIR pb))))))) ∧
     (∀ d, s.benchWritable vw b 0xA48 pb → s.benchIdle pb = true → (s.bench pb).held = [] → (∀ i, (s.cfl i).due (getBits d 31 0) = false) →
       exec (.weirDataAccess vw b (some d)) s =
         .next ((s.onBench pb (fun x => { x with
           weirs := Sparse.set (fun _ => 0) x.weirs (s.rd (Fld.BENCH_WEIR_SEL_WEIR pb)) (getBits d 31 0) })).wr
           (Fld.BENCH_WEIR_SEL_WEIR pb) (s.rd (Fld.BENCH_WEIR_SEL_WEIR pb) + 1)))) ∧
  ((∀ (s : State) (vw : View) (b : BenchRef) (pb g : Nat), s.benchReadable vw b 0xA28 pb → g = s.rd (Fld.BENCH_CONFL_IDX_GROUP pb) →
     ∃ t v, exec (.conflDataRead vw b) s = .next t ∧ t.out = s.out ++ [.readData vw (benchOffset b + 0xA28) v] ∧
       t = { s with regs := t.regs, out := t.out } ∧ t.rd (Fld.BENCH_CONFL_IDX_GROUP pb) = (g + 1) % 128 ∧
       (∀ j, j < 4 → getBits v (16 * j + 15) (16 * j) = (s.reg (behind (Reg.BENCH_CONFL_DATA pb) (4 * g + j))).toNat % 65536 ∧
         t.reg (behind (Reg.BENCH_CONFL_DATA pb) (4 * g + j)) = 0) ∧
       RegsApart s t (Reg.BENCH_CONFL_IDX pb :: (List.range 4).map (fun j => behind (Reg.BENCH_CONFL_DATA pb) (4 * g + j)))) ∧
   (∀ (s : State) (vw : View) (g k : Nat), s.readable vw Reg.DEVCTL_BASIN_CONFL_DATA = true → g = s.rd Fld.DEVCTL_BASIN_CONFL_IDX_GROUP →
     k = behind Reg.DEVCTL_BASIN_CONFL_DATA (64 * s.rd Fld.DEVCTL_BASIN_CONFL_IDX_LEDGE + g) →
     ∃ t v, exec (.basinConflDataRead vw) s = .next t ∧ t.out = s.out ++ [.readData vw Reg.DEVCTL_BASIN_CONFL_DATA v] ∧
       t = { s with regs := t.regs, rc := t.rc, out := t.out } ∧ t.rd Fld.DEVCTL_BASIN_CONFL_IDX_GROUP = (g + 1) % 64 ∧
       (∀ j, j < 4 → getBits v (16 * j + 15) (16 * j) = min 65535 (s.cnt ⟨k, 16 * j + 15, 16 * j⟩) ∧
         t.cnt ⟨k, 16 * j + 15, 16 * j⟩ = 0) ∧
       RegsApart s t [Reg.DEVCTL_BASIN_CONFL_IDX])) ∧
  ((∀ (s : State) (vw : View), s.readable vw Reg.DEVCTL_HBM_PAGE_DATA = true →
     exec (.hbmPageDataAccess vw none) s =
       .next ((s.wr Fld.DEVCTL_HBM_PAGE_SEL_PAGE (s.rd Fld.DEVCTL_HBM_PAGE_SEL_PAGE + 1)).emit
         (.readData vw Reg.DEVCTL_HBM_PAGE_DATA (BitVec.ofNat 64 (s.pageOwner (s.rd Fld.DEVCTL_HBM_PAGE_SEL_PAGE * 2 ^ 21)))))) ∧
   (∀ (s : State) (d : Reg64), s.writable .matumon Reg.DEVCTL_HBM_PAGE_DATA = true →
     exec (.hbmPageDataAccess .matumon (some d)) s =
       .next ((s.setPageOwner (s.rd Fld.DEVCTL_HBM_PAGE_SEL_PAGE) (getBits d 4 0)).wr Fld.DEVCTL_HBM_PAGE_SEL_PAGE
         (s.rd Fld.DEVCTL_HBM_PAGE_SEL_PAGE + 1))) ∧
   (∀ (s : State) (vw : View), s.readable vw Reg.HALL_GEN_DATA = true →
     exec (.hallGenDataAccess vw none) s =
       .next ((s.wr Fld.HALL_GEN_SEL_SLOT (s.rd Fld.HALL_GEN_SEL_SLOT + 1)).emit (.readData vw Reg.HALL_GEN_DATA
         (BitVec.ofNat 64 ((s.genEntry (s.rd Fld.HALL_GEN_SEL_SLOT)).1 % 4 * 2 ^ 62 +
           (s.genEntry (s.rd Fld.HALL_GEN_SEL_SLOT)).2 % 2 ^ 16))))) ∧
   (∀ (s : State) (d : Reg64), s.writable .matumon Reg.HALL_GEN_DATA = true →
     exec (.hallGenDataAccess .matumon (some d)) s =
       .next ((s.setGen (s.rd Fld.HALL_GEN_SEL_SLOT) (getBits d 63 62) (getBits d 15 0)).wr Fld.HALL_GEN_SEL_SLOT
         (s.rd Fld.HALL_GEN_SEL_SLOT + 1))) ∧
   (∀ (s : State) (vw : View), s.readable vw Reg.HALL_TRIB_DATA = true →
     exec (.hallTribDataAccess vw none) s =
       .next ((s.wr Fld.HALL_TRIB_SEL_ENTRY (s.rd Fld.HALL_TRIB_SEL_ENTRY + 1)).emit
         (.readData vw Reg.HALL_TRIB_DATA (BitVec.ofNat 64 (s.tribWord (s.rd Fld.HALL_TRIB_SEL_ENTRY)))))) ∧
   (∀ (s : State) (vw : View) (d : Reg64) (i : Nat), s.writable vw Reg.HALL_TRIB_DATA = true → i = s.rd Fld.HALL_TRIB_SEL_ENTRY →
     ∃ t, exec (.hallTribDataAccess vw (some d)) s = .next t ∧ t = { s with regs := t.regs, hall := t.hall } ∧
       (t.trib i).valid = d.getLsbD 63 ∧ (t.trib i).dev = getBits d 57 44 ∧ (t.trib i).st = (s.trib i).st ∧
       (t.trib i).misses = (s.trib i).misses ∧ (∀ j, j ≠ i → t.trib j = s.trib j) ∧
       t.rd Fld.HALL_TRIB_SEL_ENTRY = (i + 1) % 128 ∧ RegsApart s t [Reg.HALL_TRIB_SEL]) ∧
   (∀ (s : State) (vw : View), s.readable vw Reg.GAUGE_TEMP_DATA = true →
     exec (.tempDataRead vw) s =
       .next (((s.rcClear (sensorMax s.tempSel)).wr Fld.GAUGE_TEMP_SEL_SENSOR ((s.tempSel + 1) % 80)).emit (.readData vw Reg.GAUGE_TEMP_DATA
         (BitVec.ofNat 64 (s.rcShown (sensorMax s.tempSel) % 2 ^ 16 * 2 ^ 48 + (s.power.temps.getD s.tempSel 0).toNat)))))) ∧
  (∀ (s : State) (vw : View) (w seq : Nat) (e : List Reg64), s.readable vw Reg.SPOIL_DATA = true →
     w = s.rd Fld.SPOIL_SEL_WORD → seq = s.rd Fld.SPOIL_SEL_SEQ → e = (if w = 0 then s.spoilEntry seq else s.spoil.latched) →
     ∃ t, exec (.spoilDataRead vw) s = .next t ∧
       t = { s with regs := t.regs, spoil := { s.spoil with latched := e }, out := s.out ++ [.readData vw Reg.SPOIL_DATA (e.getD w 0)] } ∧
       t.rd Fld.SPOIL_SEL_WORD = (w + 1) % 4 ∧
       t.rd Fld.SPOIL_SEL_SEQ = (if w = 3 then (if seq = 0xFFFFFFFF then 1 else seq + 1) else seq) ∧ RegsApart s t [Reg.SPOIL_SEL])
/-! ### The prime, chain, key and lease tables, and the HBM fill -/

/-- PRIME_LOAD, PRIME_DELETE, CHAIN_LOAD and CHAIN_DELETE with the checker idle: the target, its INUSE and the stage registers are latched
as they stand, and until the operation completes the tables keep their contents. -/
def Obligations.CheckerOperationsLatchTheirStage : Prop :=
  (∀ (s : State) (vw : View) (i : BitVec 7), s.writable vw Reg.DEVCTL_PRIME_CMD = true → s.primes.op = none →
    (∃ t, exec (.primeLoad vw i) s = .next t ∧ t = { s with regs := t.regs, primes := t.primes } ∧
      t.primes = { s.primes with op := some (.primeLoad i.toNat (s.primeInUse i.toNat) (s.reg Reg.DEVCTL_PRIME_STAGE)
        (s.reg Reg.DEVCTL_PRIME_ROOT_STAGE)) } ∧ RegsApart s t [Reg.DEVCTL_PRIME_CMD]) ∧
    (∃ t, exec (.primeDelete vw i) s = .next t ∧ t = { s with regs := t.regs, primes := t.primes } ∧
      t.primes = { s.primes with op := some (.primeDelete i.toNat (s.primeInUse i.toNat)) } ∧
      RegsApart s t [Reg.DEVCTL_PRIME_CMD])) ∧
  (∀ (s : State) (vw : View) (ord : BitVec 7) (spc c : BitVec 5), s.writable vw Reg.DEVCTL_CHAIN_CMD = true → s.primes.op = none →
    (∃ t, exec (.chainLoad vw ord spc c) s = .next t ∧ t = { s with regs := t.regs, primes := t.primes } ∧
      t.primes = { s.primes with op := some (.chainLoad c.toNat (s.chainInUse c.toNat) ord.toNat spc.toNat s.chainStage) } ∧
      RegsApart s t [Reg.DEVCTL_CHAIN_CMD]) ∧
    (∃ t, exec (.chainDelete vw ord spc c) s = .next t ∧ t = { s with regs := t.regs, primes := t.primes } ∧
      t.primes = { s.primes with op := some (.chainDelete c.toNat (s.chainInUse c.toNat)) } ∧
      RegsApart s t [Reg.DEVCTL_CHAIN_CMD]))

/-- While the checker is busy a LOAD or DELETE of either table is ignored and sets OVERRUN in its own status register, and so is a write
with LOAD and DELETE both set at any time. -/
def Obligations.CheckerBusySetsOverrunOnly : Prop :=
  (∀ (s : State) (vw : View) (i : BitVec 7), s.writable vw Reg.DEVCTL_PRIME_CMD = true → s.primes.op.isSome = true →
    exec (.primeLoad vw i) s = .next (s.wr Fld.DEVCTL_PRIME_STATUS_OVERRUN 1) ∧
    exec (.primeDelete vw i) s = .next (s.wr Fld.DEVCTL_PRIME_STATUS_OVERRUN 1)) ∧
  (∀ (s : State) (vw : View) (ord : BitVec 7) (spc c : BitVec 5), s.writable vw Reg.DEVCTL_CHAIN_CMD = true → s.primes.op.isSome = true →
    exec (.chainLoad vw ord spc c) s = .next (s.wr Fld.DEVCTL_CHAIN_STATUS_OVERRUN 1) ∧
    exec (.chainDelete vw ord spc c) s = .next (s.wr Fld.DEVCTL_CHAIN_STATUS_OVERRUN 1)) ∧
  (∀ (s : State) (vw : View) (d : Reg64), d.getLsbD 63 = true → d.getLsbD 62 = true →
    (s.writable vw Reg.DEVCTL_PRIME_CMD = true →
      exec (.registerWrite vw (BitVec.ofNat 26 Reg.DEVCTL_PRIME_CMD) d) s = .next (s.wr Fld.DEVCTL_PRIME_STATUS_OVERRUN 1)) ∧
    (s.writable vw Reg.DEVCTL_CHAIN_CMD = true →
      exec (.registerWrite vw (BitVec.ofNat 26 Reg.DEVCTL_CHAIN_CMD) d) s = .next (s.wr Fld.DEVCTL_CHAIN_STATUS_OVERRUN 1)))

/-- A staged prime that passes the acceptance test was not in use, has the shape of Table 2.1, is 1 modulo 2 ^ 18, lies between 2 ^ 31 and
2 ^ 32, and its root to the power 2 ^ 17 is -1. -/
def Obligations.AcceptedPrimeHasShapeAndRoot : Prop :=
  ∀ (u : Bool) (e : PrimeEnt), primeVerdict u e = 0 →
    u = false ∧ 18 ≤ e.e3 ∧ e.e3 < e.e2 ∧ e.e2 < e.e1 ∧ e.e1 ≤ 29 ∧ e.p % 2 ^ 18 = 1 ∧ 2 ^ 31 < e.p ∧ e.p < 2 ^ 32 ∧
    e.root < e.p ∧ e.root ^ (2 ^ 17) % e.p = e.p - 1

/-- The fold reduction takes x to x * 2 ^ -54 modulo p, below p, for every 64-bit x and every p that is 1 modulo 2 ^ 18 and above
2 ^ 31. -/
def Obligations.FoldReductionIsExact : Prop :=
  ∀ p x : Nat, p % 2 ^ 18 = 1 → 2 ^ 31 < p → p < 2 ^ 32 → x < 2 ^ 64 → fold3 p x < p ∧ fold3 p x * 2 ^ 54 % p = x % p

/-- PRIME_OP_COMPLETE and CHAIN_OP_COMPLETE. A prime LOAD that passes Table 2.1 gives the slot the latched values with VALID, one that fails leaves it
as it was; a DELETE clears VALID, one of a slot in use returns IN_USE. For a chain the conditions in their order decide RESULT (IN_USE, BAD_COUNT,
INVALID_ENTRY, REPEATED_PRIME); on acceptance it takes the latched values; a DELETE clears VALID unless it was in use. DONE, index and RESULT follow,
the checker is free, and no other entry changes. -/
def Obligations.CheckerCompletionsFillOrRefuse : Prop :=
  ((∀ (s : State) (i : Nat) (u : Bool) (stage root : Reg64) (r : Nat), s.running = true → i < 128 →
     s.primes.op = some (.primeLoad i u stage root) → r = primeVerdict u (stagedPrime stage root) →
     ∃ t, exec .primeOpComplete s = .next t ∧ t = { s with regs := t.regs, primes := t.primes } ∧
       t.primes.op = none ∧ t.primes.chain = s.primes.chain ∧
       t.primeEnt i = (if r = 0 then stagedPrime stage root else s.primeEnt i) ∧ (∀ j, j ≠ i → t.primeEnt j = s.primeEnt j) ∧
       t.flag Fld.DEVCTL_PRIME_STATUS_DONE = true ∧ t.rd Fld.DEVCTL_PRIME_STATUS_INDEX = i ∧ t.rd Fld.DEVCTL_PRIME_STATUS_RESULT = r ∧
       RegsApart s t [Reg.DEVCTL_PRIME_STATUS]) ∧
   (∀ (s : State) (i : Nat) (u : Bool), s.running = true → i < 128 → s.primes.op = some (.primeDelete i u) →
     ∃ t, exec .primeOpComplete s = .next t ∧ t = { s with regs := t.regs, primes := t.primes } ∧
       t.primes.op = none ∧ t.primes.chain = s.primes.chain ∧
       t.primeEnt i = (if u then s.primeEnt i else { s.primeEnt i with valid := false }) ∧ (∀ j, j ≠ i → t.primeEnt j = s.primeEnt j) ∧
       t.flag Fld.DEVCTL_PRIME_STATUS_DONE = true ∧ t.rd Fld.DEVCTL_PRIME_STATUS_INDEX = i ∧
       t.rd Fld.DEVCTL_PRIME_STATUS_RESULT = (if u then 1 else 0) ∧ RegsApart s t [Reg.DEVCTL_PRIME_STATUS])) ∧
  ((∀ (s : State) (c : Nat) (u : Bool) (ord spc : Nat) (idx used : List Nat), s.running = true → c < 32 →
     s.primes.op = some (.chainLoad c u ord spc idx) → used = idx.take ord ++ (idx.drop 64).take spc →
     ∃ t r, exec .chainOpComplete s = .next t ∧ t = { s with regs := t.regs, primes := t.primes } ∧ t.primes.op = none ∧
       t.primes.prime = s.primes.prime ∧
       r = (if u then 1 else if ¬ (1 ≤ ord ∧ ord ≤ 64 ∧ spc ≤ 16) then 8 else if ∃ i ∈ used, (s.primeEnt i).valid = false then 9
         else if ¬ (used.map (fun i => (s.primeEnt i).p)).Nodup then 0xA else 0) ∧
       t.chainEnt c = (if r = 0 then ⟨true, ord, spc, idx⟩ else s.chainEnt c) ∧ (∀ d, d ≠ c → t.chainEnt d = s.chainEnt d) ∧
       t.flag Fld.DEVCTL_CHAIN_STATUS_DONE = true ∧ t.rd Fld.DEVCTL_CHAIN_STATUS_CHAIN = c ∧ t.rd Fld.DEVCTL_CHAIN_STATUS_RESULT = r ∧
       RegsApart s t [Reg.DEVCTL_CHAIN_STATUS]) ∧
   (∀ (s : State) (c : Nat) (u : Bool), s.running = true → c < 32 → s.primes.op = some (.chainDelete c u) →
     ∃ t, exec .chainOpComplete s = .next t ∧ t = { s with regs := t.regs, primes := t.primes } ∧ t.primes.op = none ∧
       t.primes.prime = s.primes.prime ∧ t.chainEnt c = (if u then s.chainEnt c else { s.chainEnt c with valid := false }) ∧
       (∀ d, d ≠ c → t.chainEnt d = s.chainEnt d) ∧ t.flag Fld.DEVCTL_CHAIN_STATUS_DONE = true ∧
       t.rd Fld.DEVCTL_CHAIN_STATUS_RESULT = (if u then 1 else 0) ∧ RegsApart s t [Reg.DEVCTL_CHAIN_STATUS]))

/-- The key table: INSTALL, REMOVE and READ capture the stage and set BUSY, or only OVERRUN while one runs; at completion INSTALL writes the
entry if Table 8.3 passes, REMOVE empties it unless it is in use, READ copies it to the stage registers. -/
def Obligations.KeyCommandsRunToTheirResult : Prop :=
  (∀ (s : State) (vw : View) (i : BitVec 12) (v : Nat) (c : Instr), s.writable vw Reg.DEVCTL_KEY_CMD = true →
    (v = 0 ∧ c = .keyInstall vw i ∨ v = 1 ∧ c = .keyRemove vw i ∨ v = 2 ∧ c = .keyRead vw i) →
    (s.ledges.keyOp = none → ∃ t, exec c s = .next t ∧ t = { s with regs := t.regs, ledges := t.ledges } ∧
      t.ledges = { s.ledges with keyOp := some ⟨v, i.toNat, s.keyStage⟩ } ∧ t.flag Fld.DEVCTL_KEY_STATUS_BUSY = true ∧
      RegsApart s t [Reg.DEVCTL_KEY_CMD, Reg.DEVCTL_KEY_STATUS]) ∧
    (s.ledges.keyOp.isSome = true → exec c s = .next (s.wr Fld.DEVCTL_KEY_STATUS_OVERRUN 1))) ∧
  (∀ (s : State) (op : KeyOp), s.running = true → s.ledges.keyOp = some op → op.verb < 3 → op.index < 4096 →
    ∃ t r, exec .keyOpComplete s = .next t ∧ t = { s with regs := t.regs, ledges := t.ledges } ∧ t.ledges.keyOp = none ∧
      r = (if op.verb = 0 then s.keyVerdict op.index (s.keyInUse op.index) op.stage
        else if op.verb = 1 ∧ s.keyInUse op.index = true then 1 else 0) ∧
      t.keyEnt op.index = (if r = 0 ∧ op.verb = 0 then op.stage else if r = 0 ∧ op.verb = 1 then [] else s.keyEnt op.index) ∧
      (∀ j, j ≠ op.index → t.keyEnt j = s.keyEnt j) ∧ (∀ l n, t.lease l n = s.lease l n) ∧
      (op.verb = 2 → ∀ k, k < 8 → t.reg (Reg.DEVCTL_KEY_STAGE k) = (s.keyEnt op.index).getD k 0) ∧
      t.flag Fld.DEVCTL_KEY_STATUS_BUSY = false ∧ t.flag Fld.DEVCTL_KEY_STATUS_DONE = true ∧
      t.rd Fld.DEVCTL_KEY_STATUS_INDEX = op.index ∧ t.rd Fld.DEVCTL_KEY_STATUS_RESULT = r)

/-- Leases. LEASE_TAKE, LEASE_FREE and LEASE_READ are captured with the requester's tenant (REQ_TENANT for Matumon and the PF, the bound tenant for
a VF), or only OVERRUN is set while one runs. At completion a TAKE that passes its checks gives every named lease to the requester, a FREE
sends every named lease to CLEARING and to the sweeper, and a command that any lease fails changes none and names the check. A swept
granule's lease turns FREE, its 128 KiB read zero with good check bits, and no other lease or byte changes. -/
def Obligations.LeasesMoveAndClear : Prop :=
  (∀ (s : State) (vw : View) (tn : BitVec 5) (l : BitVec 2) (n : BitVec 13) (f : BitVec 12) (op : LeaseOp) (c : Instr),
     s.writable vw Reg.DEVCTL_LEASE_CMD = true →
     (op = ⟨0, if isVf (viewNum vw) then s.boundTenant (viewNum vw) else tn.toNat, l.toNat, n.toNat, f.toNat⟩ ∧ c = .leaseTake vw tn l n f ∨
       op = ⟨1, if isVf (viewNum vw) then s.boundTenant (viewNum vw) else tn.toNat, l.toNat, n.toNat, f.toNat⟩ ∧ c = .leaseFree vw tn l n f ∨
       op = ⟨2, if isVf (viewNum vw) then s.boundTenant (viewNum vw) else 0, l.toNat, 0, f.toNat⟩ ∧ c = .leaseRead vw l f) →
     (s.ledges.leaseOp = none → ∃ t, exec c s = .next t ∧ t = { s with regs := t.regs, ledges := t.ledges } ∧
       t.ledges = { s.ledges with leaseOp := some op } ∧ t.flag Fld.DEVCTL_LEASE_STATUS_BUSY = true ∧
       RegsApart s t [Reg.DEVCTL_LEASE_CMD, Reg.DEVCTL_LEASE_STATUS]) ∧
     (s.ledges.leaseOp.isSome = true → exec c s = .next (s.wr Fld.DEVCTL_LEASE_STATUS_OVERRUN 1))) ∧
  (∀ (s : State) (op : LeaseOp), s.running = true → s.ledges.leaseOp = some op → op.verb < 2 → op.ledge < 4 → op.first < 4096 →
     ∃ t r, exec .leaseCmdComplete s = .next t ∧ t = { s with regs := t.regs, ledges := t.ledges, spoil := t.spoil } ∧
       t.ledges.leaseOp = none ∧ t.ledges.basins = s.ledges.basins ∧ t.ledges.keys = s.ledges.keys ∧
       t.flag Fld.DEVCTL_LEASE_STATUS_BUSY = false ∧ t.flag Fld.DEVCTL_LEASE_STATUS_DONE = true ∧
       t.rd Fld.DEVCTL_LEASE_STATUS_RESULT = r ∧ RegsApart s t [Reg.DEVCTL_LEASE_STATUS] ∧
       (r = 0 ↔ 1 ≤ op.count ∧ op.first + op.count ≤ 4096 ∧ op.tenant ≤ 16 ∧
         (op.verb = 0 → ∀ n, op.first ≤ n → n < op.first + op.count → (s.lease op.ledge n).st = .free) ∧
         (op.verb = 1 → ∀ n, op.first ≤ n → n < op.first + op.count → (s.lease op.ledge n).st = .taken ∧
           (op.tenant = 0 ∨ (s.lease op.ledge n).owner = op.tenant))) ∧
       (r ≠ 0 → ∀ l n, t.lease l n = s.lease l n) ∧
       (r = 0 → ∀ l n, l < 4 → n < 4096 → t.lease l n =
         (if l = op.ledge ∧ op.first ≤ n ∧ n < op.first + op.count then
           (if op.verb = 0 then ⟨.taken, op.tenant⟩ else { s.lease l n with st := .clearing }) else s.lease l n))) ∧
  (∀ (s : State) (l : Fin 4) (n : Nat) (rest : List Nat), s.running = true → Sparse.get (fun _ => []) s.ledges.sweep l.val = n :: rest →
     n < 4096 → (s.basin l.val).mem.base = none →
     ∃ t, exec (.leaseGranuleSwept l) s = .next t ∧ t = { s with ledges := t.ledges } ∧ t.lease l.val n = ⟨.free, 0⟩ ∧
       (∀ m k, m < 4 → k < 4096 → (m ≠ l.val ∨ k ≠ n) → t.lease m k = s.lease m k) ∧
       (∀ a, (t.basin l.val).mem.readByte a = if n * 2 ^ 17 ≤ a ∧ a < (n + 1) * 2 ^ 17 then 0 else (s.basin l.val).mem.readByte a) ∧
       (∀ m, m ≠ l.val → t.basin m = s.basin m) ∧ (∀ w, n * 4096 ≤ w → w < (n + 1) * 4096 → w ∉ (t.basin l.val).bad) ∧
       Sparse.get (fun _ => []) t.ledges.sweep l.val = rest)

/-- The prime table and the chains are empty after a cold reset; PERST_N and its release, a function-level reset, a fabric reset and a bench
reset leave both unchanged. -/
def Obligations.PrimeTablesSurviveEveryWarmReset : Prop :=
  (∀ i, State.reset.primeEnt i = PrimeEnt.empty ∧ State.reset.chainEnt i = ChainEnt.empty) ∧
  ∀ (s t : State) (c : Instr) (vw : View) (pb : Fin 68) (f : Fin 16) (hall : Bool) (part : BitVec 4),
    (c = .perstAssert ∨ c = .perstRelease ∨ c = .functionLevelReset f ∨ c = .fresetGo vw hall part ∨ c = .fresetNoticeReceive hall part ∨
      c = .benchReset pb ∨ c = .benchResetDone pb) → exec c s = .next t →
    t.primes.prime = s.primes.prime ∧ t.primes.chain = s.primes.chain

/-! ### The life of a bench -/

/-- START of an IDLE bench: queues, tokens and commands are empty, each stream stands at its PC with RETIRED zero, the Foreman runs from its entry,
the bench is in FILL unless every stream has ended already; memories, Weirs and the chute stay. STOP of a bench in FILL or WORK, and of an IDLE one,
halts it with cause 0x08. BENCH_RESET stops the Foreman and the key streams, frees every key credit and begins abandoning, or is held while the bench
is RINSING; BENCH_RESET_DONE of a bench with nothing in execution leaves it IDLE with empty queues, tokens, chute and Sluice; its Pool and memories
stay. Other benches do not change. -/
def Obligations.BenchesStartStopAndReset : Prop :=
  ((∀ (s : State) (vw : View) (b : BenchRef) (pb : Nat) (d ctl : Reg64), s.benchWritable vw b 0 pb → s.benchIdle pb = true →
     ctl = accWrite (regFields (Reg.BENCH_CTL pb)) (s.reg (Reg.BENCH_CTL pb)) ((d ||| word [(63, 1)]) &&& ~~~ (word [(62, 1)])) →
     (∃ i, i < 6 ∧ getBits ctl 16 16 = 0 ∧ bit (getBits ctl 5 0) i = true) →
     ∃ t, exec (.start vw b d) s = .next t ∧ t = { s with regs := t.regs, benches := t.benches } ∧ BenchesApart s t pb ∧
       t.reg (Reg.BENCH_CTL pb) = ctl ∧ t.rd (Fld.BENCH_STALL_COUNT_COUNT pb) = 0 ∧
       (t.bench pb).mode = .fill ∧ (t.bench pb).haltCause = 0 ∧ (t.bench pb).tokens = [] ∧ (t.bench pb).execs = [] ∧
       (∀ i, i < 6 → ((t.bench pb).stream i).queue = [] ∧ ((t.bench pb).stream i).retired = 0 ∧
         ((t.bench pb).stream i).ended = !(bit (getBits ctl 5 0) i) ∧
         ((t.bench pb).stream i).fetchPc = s.rd (Fld.BENCH_STREAM_PC_PC pb i)) ∧
       (t.bench pb).fm.st = .running ∧ (t.bench pb).fm.pc = s.rd (Fld.BENCH_FM_CTL_ENTRY pb) ∧
       (t.bench pb).pool = (s.bench pb).pool ∧ (t.bench pb).cmdMem = (s.bench pb).cmdMem ∧ (t.bench pb).dmem = (s.bench pb).dmem ∧
       (t.bench pb).weirs = (s.bench pb).weirs ∧ (t.bench pb).chute = (s.bench pb).chute) ∧
   (∀ (s : State) (vw : View) (b : BenchRef) (pb : Nat), s.benchWritable vw b 0 pb →
     (s.bench pb).active = true ∨ s.benchIdle pb = true →
     ∃ t, exec (.stop vw b (s.reg (Reg.BENCH_CTL pb))) s = .next t ∧ t = { s with regs := t.regs, benches := t.benches } ∧
       BenchesApart s t pb ∧ (t.bench pb).mode = .halted ∧ (t.bench pb).haltCause = 8 ∧ (t.bench pb).pool = (s.bench pb).pool ∧
       (t.bench pb).streams = (s.bench pb).streams ∧ RegsApart s t [Reg.BENCH_CTL pb])) ∧
  ((∀ (s : State) (pb : Fin 68), s.running = true → (s.bench pb).mode ≠ .rinsing →
     ∃ t, exec (.benchReset pb) s = .next t ∧ t = { s with benches := t.benches } ∧ BenchesApart s t pb ∧
       (t.bench pb).abandoning = true ∧ (t.bench pb).mode = (s.bench pb).mode ∧ (t.bench pb).fm.st = .stopped ∧
       (t.bench pb).keyBuf = [] ∧ (t.bench pb).credits = 64 ∧ (t.bench pb).kActive = none ∧ (t.bench pb).kPending = none ∧
       (t.bench pb).execs = (s.bench pb).execs ∧ (t.bench pb).pool = (s.bench pb).pool) ∧
   (∀ (s : State) (pb : Fin 68), s.running = true → (s.bench pb).mode = .rinsing →
     exec (.benchReset pb) s = .next (s.onBench pb (fun b => { b with resetHeld := true }))) ∧
   (∀ (s : State) (pb : Fin 68), s.running = true → (s.bench pb).abandoning = true → (s.bench pb).execs = [] → (s.bench pb).sluice = [] →
     ∃ t, exec (.benchResetDone pb) s = .next t ∧ (t.bench pb).mode = .idle ∧ (t.bench pb).abandoning = false ∧
       (t.bench pb).streams = [] ∧ (t.bench pb).tokens = [] ∧ (t.bench pb).chute = [] ∧ (t.bench pb).slots = EMem.zero ∧
       (t.bench pb).pool = (s.bench pb).pool ∧ (t.bench pb).cmdMem = (s.bench pb).cmdMem ∧ (t.bench pb).dmem = (s.bench pb).dmem ∧
       (t.bench pb).weirs = (s.bench pb).weirs ∧ t.reg (Reg.BENCH_SLUICE_CTX pb) = 0 ∧
       (∀ q, q ≠ pb.val → (t.bench q).pool = (s.bench q).pool ∧ (t.bench q).mode = (s.bench q).mode) ∧ t.hbm = s.hbm))

/-- RINSE with no Sluice transfer in flight: the bench is RINSING with nothing queued, in execution or streaming, its Weirs are zero and its
Foreman is stopped, in every mode. RINSE_COMPLETE: the bench is IDLE, and Pool, tables, Foreman memories, routes and
credits are zero. -/
def Obligations.RinseLeavesNothingOfTheTenant : Prop :=
  (∀ (s : State) (pb : Fin 68), s.running = true → (s.bench pb).mode ≠ .rinsing → (s.bench pb).sluice = [] →
    ∃ t, exec (.rinse pb) s = .next t ∧ (t.bench pb).mode = .rinsing ∧ (t.bench pb).streams = [] ∧ (t.bench pb).execs = [] ∧
      (t.bench pb).tokens = [] ∧ (t.bench pb).chute = [] ∧ (t.bench pb).kActive = none ∧ (t.bench pb).keyBuf = [] ∧
      (t.bench pb).weirs = [] ∧ (t.bench pb).held = [] ∧ (t.bench pb).fm.st = .stopped ∧ (t.bench pb).fm.regs = [] ∧
      (∀ q, q ≠ pb.val → (t.bench q).pool = (s.bench q).pool ∧ (t.bench q).mode = (s.bench q).mode) ∧ t.hbm = s.hbm) ∧
  (∀ (s : State) (pb : Fin 68), s.running = true → (s.bench pb).mode = .rinsing →
    ∃ t, exec (.rinseComplete pb) s = .next t ∧ (t.bench pb).mode = .idle ∧ (t.bench pb).pool = EMem.zero ∧
      (t.bench pb).cmdMem = EMem.zero ∧ (t.bench pb).descTab = EMem.zero ∧ (t.bench pb).loopTab = EMem.zero ∧
      (t.bench pb).slots = EMem.zero ∧ (t.bench pb).imem = EMem.zero ∧ (t.bench pb).dmem = EMem.zero ∧
      (∀ r, r < 256 → t.reg (Reg.BENCH_ROUTE pb r) = 0 ∧ t.reg (Reg.BENCH_HANDLER pb r) = 0 ∧
        t.rd (Fld.BENCH_ROUTE_STAT_AVAIL pb r) = 0) ∧
      (∀ i, i < 16 → t.flag (Fld.BENCH_RING_CFG_EN pb i) = false ∧ t.reg (Reg.BENCH_RING_PTR pb i) = 0) ∧ BenchesApart s t pb)

/-- Failures and the service of benches. A hardware failure of a bench with nothing in execution makes its Pool unpredictable, fails its
self-test, and halts it with cause 0x07 if it was in FILL or WORK. Outside CLEARING a self-test outcome decides AVAIL of its gang and its
gang's FREE or OUT; gating off an idle gang clears its AVAIL bit and its benches' self-tests, gating on clears GATED; a spare that passes
takes the logical position of the retired bench and BENCH_SPARED is logged. -/
def Obligations.BenchServiceFollowsItsTests : Prop :=
  (∀ (s : State) (pb : Fin 68), s.running = true → (s.bench pb).execs = [] →
    ∃ t, exec (.benchHwFailure pb) s = .next t ∧ (t.bench pb).pool = ⟨Mem.free s.fresh, []⟩ ∧ (t.bench pb).passed = false ∧
      t.fresh = s.fresh + 2 ∧ t.regs = s.regs ∧
      (if (s.bench pb).active then (t.bench pb).mode = .halted ∧ (t.bench pb).haltCause = 7 else (t.bench pb).mode = (s.bench pb).mode) ∧
      (∀ q, q ≠ pb.val → (t.bench q).pool = (s.bench q).pool ∧ (t.bench q).mode = (s.bench q).mode)) ∧
  (∀ (s : State) (pb : Fin 68) (pass : Bool) (g : Nat), s.running = true → s.gangOf pb = some g → pb.val % 17 ≠ 16 → g < 16 →
    s.devState ≠ devClearing → s.rd Fld.MGMT_STATUS_RESTRICTED = 0 →
    ∃ t, exec (.benchSelfTestDone pb pass) s = .next t ∧ t = { s with regs := t.regs, benches := t.benches } ∧ BenchesApart s t pb ∧
      t.bench pb = { s.bench pb with passed := pass } ∧ bit (t.rd Fld.DEVCTL_GANG_AVAIL_AVAIL) g = t.gangPasses g ∧
      (t.gangPasses g = false → s.rd (Fld.MGMT_GANG_STATE g) = gangFree → t.rd (Fld.MGMT_GANG_STATE g) = gangOut) ∧
      (t.gangPasses g = true → s.rd (Fld.MGMT_GANG_STATE g) = gangOut → t.rd (Fld.MGMT_GANG_STATE g) = gangFree) ∧
      (∀ h, h < 16 → h ≠ g → bit (t.rd Fld.DEVCTL_GANG_AVAIL_AVAIL) h = bit (s.rd Fld.DEVCTL_GANG_AVAIL_AVAIL) h ∧
        t.rd (Fld.MGMT_GANG_STATE h) = s.rd (Fld.MGMT_GANG_STATE h))) ∧
  (∀ (s : State) (g : Fin 16), s.running = true → s.gangIdle g = true → bit (s.rd Fld.DEVCTL_GANG_AVAIL_GATED) g = false →
    s.devState ≠ devClearing → s.rd Fld.MGMT_STATUS_RESTRICTED = 0 →
    ∃ t, exec (.gangGateOff g) s = .next t ∧ t = { s with regs := t.regs, benches := t.benches } ∧
      bit (t.rd Fld.DEVCTL_GANG_AVAIL_GATED) g = true ∧ bit (t.rd Fld.DEVCTL_GANG_AVAIL_AVAIL) g = false ∧
      (∀ pb, pb ∈ s.gangBenches g → (t.bench pb).passed = false)) ∧
  (∀ (s : State) (g : Fin 16), s.running = true → bit (s.rd Fld.DEVCTL_GANG_AVAIL_GATED) g = true →
    exec (.gangGateOn g) s = .next (s.wr Fld.DEVCTL_GANG_AVAIL_GATED (s.rd Fld.DEVCTL_GANG_AVAIL_GATED - 2 ^ g.val))) ∧
  (∀ (s : State) (l : Fin 4) (slot : Fin 16), s.running = true → s.gangIdle (4 * l.val + slot.val / 4) = true →
    s.flag (Fld.DEVCTL_LEDGE_MAP_SUBST l) = false →
    ∃ t, exec (.spareSubstitute l slot true) s = .next t ∧ t.physOf (16 * l.val + slot.val) = 17 * l.val + 16 ∧
      (t.bench (17 * l.val + 16)).passed = true ∧ t.rd (Fld.DEVCTL_LEDGE_MAP_RETIRED_PB l) = 17 * l.val + slot.val ∧
      t.flag (Fld.DEVCTL_LEDGE_MAP_SPARE_OK l) = false ∧ t.spoil.inFlight.length = s.spoil.inFlight.length + 1 ∧
      (t.spoil.inFlight.getLast?).map (·.cls) = some 0x18 ∧ BenchesApart s t (17 * l.val + 16))

/-- FETCH_LINE of a running bench: the next eligible stream after the one served last takes the rest of its line of four commands of
command memory; a phase whose outgoing commands have retired begins its turnaround, and at its end the bench is in the other phase; a
bench whose stall count reaches the limit halts with cause 0x02 and logs QUEUE_STALL. -/
def Obligations.FetchPhaseAndStallMoveABench : Prop :=
  (∀ (s : State) (pb : Fin 68) (i : Nat), s.running = true → (s.bench pb).active = true → (s.bench pb).abandoning = false →
    ((List.range 6).map (fun k => ((s.bench pb).fetchRR + 1 + k) % 6)).find? (fun k => ((s.bench pb).stream k).wantsLine) = some i →
    ∃ t, exec (.fetchLine pb) s = .next t ∧ t = { s with benches := t.benches } ∧ BenchesApart s t pb ∧ (t.bench pb).fetchRR = i ∧
      ((t.bench pb).stream i).queue = ((s.bench pb).stream i).queue ++
        (List.range (4 - ((s.bench pb).stream i).fetchPc % 4)).map (fun k => (s.bench pb).fetchCmd (((s.bench pb).stream i).fetchPc + k)) ∧
      ((t.bench pb).stream i).fetchPc = ((s.bench pb).stream i).fetchPc / 4 * 4 + 4 ∧
      (∀ j, j ≠ i → (t.bench pb).stream j = (s.bench pb).stream j)) ∧
  (∀ (s : State) (pb : Fin 68), s.running = true → (s.bench pb).switching = true → (s.bench pb).turnaround = false →
    (s.bench pb).active = true →
    ((s.bench pb).target = .fill → ∀ e ∈ (s.bench pb).execs, e.engines &&& 15 = 0) →
    ((s.bench pb).target ≠ .fill → ∀ e ∈ (s.bench pb).execs, e.engines &&& engSL = 0) →
    exec (.phaseDrainComplete pb) s = .next (s.onBench pb (fun b => { b with turnaround := true }))) ∧
  (∀ (s : State) (pb : Fin 68), s.running = true → (s.bench pb).switching = true → (s.bench pb).turnaround = true →
    (s.bench pb).active = true → (∀ e ∈ (s.bench pb).execs, Todo.phase ∉ e.todo) →
    exec (.phaseTurnaroundEnd pb) s = .next (s.onBench pb (fun b => { b with
      mode := b.target, switching := false, turnaround := false, phaseSwitches := (b.phaseSwitches + 1) % 2 ^ 32 }))) ∧
  (∀ (s : State) (pb : Fin 68), s.running = true → (s.bench pb).active = true → (s.bench pb).abandoning = false →
    (s.bench pb).sluiceHalted = false → s.rd (Fld.BENCH_STALL_LIMIT_LIMIT pb) ≠ 0 →
    (∃ i ∈ s.streamsOf pb, ((s.bench pb).stream i).ended = false) →
    ∃ t, exec (.stallLimitReached pb) s = .next t ∧ t = { s with regs := t.regs, benches := t.benches, spoil := t.spoil } ∧
      BenchesApart s t pb ∧ (t.bench pb).mode = .halted ∧ (t.bench pb).haltCause = 2 ∧
      t.rd (Fld.BENCH_STALL_COUNT_COUNT pb) = s.rd (Fld.BENCH_STALL_LIMIT_LIMIT pb) ∧
      (t.spoil.inFlight.getLast?).map (·.cls) = some 0x06 ∧
      (∀ i, i < 6 → getBits (t.reg (Reg.BENCH_STALL_SNAP0 pb i)) 63 60 = (s.waitInfo pb i).1 % 16))

/-- Events inside a running command. POOL_WINDOW_COMPLETE without an error adds to the counter of every bank that k > 1 words of the window
meet the k - 1 conflicts, saturating; EXCHANGE_DATA_ARRIVAL with all four posts of one shape ends the exchange the command waits for and
hands it the posts; AE_TILE_ENTER_CHUTE puts the next tile into a chute that has room. -/
def Obligations.EngineEventsFeedTheirCommand : Prop :=
  (∀ (s : State) (pb : Fin 68) (cmd : Nat) (port : PoolPort) (words : List (BitVec 21)), s.running = true → words.length ≤ 512 →
    ∃ t, exec (.poolWindowComplete pb cmd port words none none) s = .next t ∧ t = { s with regs := t.regs } ∧
      (∀ k, k < 512 → t.reg (behind (Reg.BENCH_CONFL_DATA pb) k) =
        (if (words.map (fun w => poolBank w.toNat)).count k ≤ 1 then s.reg (behind (Reg.BENCH_CONFL_DATA pb) k)
         else BitVec.ofNat 64 (min 0xFFFF ((s.reg (behind (Reg.BENCH_CONFL_DATA pb) k)).toNat +
           ((words.map (fun w => poolBank w.toNat)).count k - 1))))) ∧
      RegsApart s t ((List.range 512).map (behind (Reg.BENCH_CONFL_DATA pb)))) ∧
  (∀ (s : State) (pb : Fin 68) (cmd w : Nat) (port : PoolPort) (bad : BitVec 21), s.running = true → w = bad.toNat →
    ∃ t, exec (.poolWindowComplete pb cmd port [] none (some bad)) s = .next t ∧ w ∈ (t.bench pb).pool.bad ∧
      (t.bench pb).pool.mem = (s.bench pb).pool.mem ∧
      (∀ e ∈ (t.bench pb).execs, e.id = cmd → e.halt = some 6 ∧ w ∈ e.badWords)) ∧
  (∀ (s : State) (pb : Fin 68) (e : Exec) (q : Nat) (rest : List Todo) (posts : List XPost), s.running = true →
    (s.bench pb).execs = [e] → e.todo = .exchange q :: rest →
    posts = (s.gangBenches (s.gangIdx pb)).filterMap (fun x => (s.bench x).xPosts.find? (fun p => decide (p.seq = q))) →
    posts.length = 4 → (∀ p ∈ posts, p.shape = (posts.headD ⟨0, [], [], []⟩).shape) → rest = [] →
    ∃ t e', exec (.exchangeDataArrival pb) s = .next t ∧ (t.bench pb).execs = [e'] ∧ e'.id = e.id ∧ e'.word = e.word ∧ e'.todo = [] ∧
      e'.gathered = e.gathered ++ [posts] ∧ e'.broken = e.broken ∧ (t.bench pb).pool = (s.bench pb).pool ∧ t.regs = s.regs) ∧
  (∀ (s : State) (pb : Fin 68) (e : Exec) (n tot : Nat), s.running = true → (s.bench pb).execs = [e] → classOf e.word = 4 →
    e.todo = [.drain n tot] → (s.bench pb).abandoning = false → (s.bench pb).chute.length < 8 →
    ∃ t e', exec (.aeTileEnterChute pb) s = .next t ∧ (t.bench pb).chute = (s.bench pb).chute ++ [(aeTile s pb e n).1] ∧
      (t.bench pb).execs = [e'] ∧ e'.todo = (if n + 1 = tot then [] else [.drain (n + 1) tot]) ∧
      (t.bench pb).pool = (s.bench pb).pool ∧ BenchesApart s t pb)

/-- COMMAND_RETIRE of a command that waits for nothing, that no older command of its engines precedes: its results are in the Pool as its
steps write them, it is no longer in execution, its stream counts it and, at its END, has ended, and its token is posted. -/
def Obligations.RetiredCommandLeavesItsResults : Prop :=
  ∀ (s : State) (pb : Fin 68) (id : Nat) (e : Exec), s.running = true → (s.bench pb).exec id = some e → s.canRetire pb e = true →
    (s.bench pb).pool.bad = [] → opcodeOf e.word ≠ 8 →
    ∃ t, exec (.commandRetire pb id) s = .next t ∧
      (t.bench pb).pool = (((stepsOf s pb e).foldl (Written.step pb e) ⟨s, 0, 0, 0, none⟩).s.bench pb).pool ∧
      (∀ x ∈ (t.bench pb).execs, x.id ≠ id) ∧
      ((t.bench pb).stream e.stream).retired = (((s.bench pb).stream e.stream).retired + 1) % 2 ^ 32 ∧
      ((t.bench pb).stream e.stream).ended = (((s.bench pb).stream e.stream).ended || endsStream e.word) ∧
      (∀ i, i ≠ e.stream → (t.bench pb).stream i = (s.bench pb).stream i) ∧
      (emitEn e.word = true → classOf e.word ≠ 4 → (s.bench pb).token (emitOf e.word) < 255 →
        (t.bench pb).token (emitOf e.word) = (s.bench pb).token (emitOf e.word) + 1) ∧
      (∀ d, d ∈ e.halt → (s.bench pb).active = true → (t.bench pb).mode = .halted) ∧
      (∀ q, q ≠ pb.val → t.bench q = s.bench q)

/-! ### The bench commands -/

namespace Sys2Proof.Machine

/-- The control and transform commands by opcode, at the head of stream st of bench pb. -/
def controlCommands (pb : Fin 68) (st : Fin 6) : List (Nat × Instr) :=
  [(0x01, Instr.token pb st), (0x02, Instr.phase pb st), (0x03, Instr.endStream pb st), (0x04, Instr.wsig pb st),
   (0x05, Instr.wwait pb st), (0x06, Instr.warrive pb st), (0x07, Instr.wreset pb st), (0x08, Instr.msend pb st),
   (0x21, Instr.ntt pb st), (0x22, Instr.intt pb st)]

/-- The ring commands. -/
def ringCommands (pb : Fin 68) (st : Fin 6) : List (Nat × Instr) :=
  [(0x41, Instr.radd pb st), (0x42, Instr.rsub pb st), (0x43, Instr.rneg pb st), (0x44, Instr.rmul pb st), (0x45, Instr.rmac pb st),
   (0x46, Instr.rmuls pb st), (0x47, Instr.rstep pb st), (0x48, Instr.rtail pb st), (0x49, Instr.drop pb st),
   (0x4A, Instr.mov pb st)]

/-- The float commands and the conversions. -/
def floatCommands (pb : Fin 68) (st : Fin 6) : List (Nat × Instr) :=
  [(0x61, Instr.fadd pb st), (0x62, Instr.fmul pb st), (0x63, Instr.ffma pb st), (0x64, Instr.fcmp pb st), (0x65, Instr.fsel pb st),
   (0x66, Instr.fmin pb st), (0x67, Instr.fmax pb st), (0x68, Instr.fcvt pb st), (0x69, Instr.fdrain pb st),
   (0x6A, Instr.fconv pb st), (0x6B, Instr.rconv pb st)]

/-- The commands of the Array engine, the Riffle and the Sluice. -/
def dataCommands (pb : Fin 68) (st : Fin 6) : List (Nat × Instr) :=
  [(0x81, Instr.matmul pb st), (0xA1, Instr.transpose pb st), (0xA2, Instr.automorph pb st), (0xA3, Instr.permute pb st),
   (0xC1, Instr.copy pb st), (0xC2, Instr.tload pb st), (0xC3, Instr.resume pb st)]

/-- The macros. -/
def macroCommands (pb : Fin 68) (st : Fin 6) : List (Nat × Instr) :=
  [(0xE1, Instr.ksw pb st), (0xE2, Instr.rot pb st), (0xE3, Instr.rescale pb st), (0xE4, Instr.freshet pb st),
   (0xE5, Instr.pbs pb st), (0xE6, Instr.extract pb st), (0xE7, Instr.pack pb st)]

/-- The commands of Table 6.1. -/
def benchCommands (pb : Fin 68) (st : Fin 6) : List (Nat × Instr) :=
  controlCommands pb st ++ (ringCommands pb st ++ (floatCommands pb st ++ (dataCommands pb st ++ macroCommands pb st)))

/-- Stream st of a running bench has command q at its head, free to move, with the stages up to 4 open to it, its intervals free of
conflict and its engines ready: stage 5 gives plan p (Table 5.7). -/
structure State.readyAt (s : State) (pb : Fin 68) (st : Fin 6) (q : QCmd) (rest : List QCmd) (p : Plan) : Prop where
  running : s.running = true
  head : ((s.bench pb).stream st).queue = q :: rest
  moves : s.mayMove pb st q = true
  good : q.bad = false
  first : s.stage1 pb st q.word = none
  second : (s.bench pb).stage2 q = some true
  late : (s.passAwait pb st q).lateVerdict pb st q = .ready p

end Sys2Proof.Machine

/-- The head of a stream. One that every stage lets through leaves its queue (END discards what stands behind it), consumes its token, and is in
execution under the plan that its opcode's checks give; PHASE and RESUME, which need no execution, aside. One clause for all 45 opcodes. A command
whose opcode is not the row's and a stream that may not move change nothing; a command that fails the first checks, an undefined opcode among
them, is logged as ILLEGAL_COMMAND and halts the bench with cause 0x03; one whose token has not come stays at the head. -/
def Obligations.HeadsEnterExecutionOrStay : Prop :=
  (∀ (s : State) (pb : Fin 68) (st : Fin 6) (q : QCmd) (rest : List QCmd) (p : Plan) (op : Nat) (c : Instr),
     (op, c) ∈ benchCommands pb st → opcodeOf q.word = op → s.readyAt pb st q rest p →
     planOf op ((s.passAwait pb st q).ctx pb st q) = .ok p ∧
     exec c s = .next ((s.passAwait pb st q).issueNow pb st q p) ∧
     (op ≠ 0x02 → op ≠ 0xC3 → ∃ t, exec c s = .next t ∧
       ((t.bench pb).stream st).queue = (if endsStream q.word then [] else rest) ∧
       (endsStream q.word = true → ((t.bench pb).stream st).closed = true) ∧
       (∃ e ∈ (t.bench pb).execs, e.id = p.ex.id ∧ ((∀ x ∈ (s.bench pb).execs, x.id ≠ p.ex.id) →
         e.word = p.ex.word ∧ e.stream = p.ex.stream ∧ e.writes = p.ex.writes ∧ e.results = p.ex.results)) ∧
       (q.passed = false → awaitEn q.word = true → readsChute q.word = false →
         (t.bench pb).token (awaitOf q.word) = (s.bench pb).token (awaitOf q.word) - 1))) ∧
  ((∀ (s : State) (pb : Fin 68) (st : Fin 6) (op : Nat) (c : Instr) (q : QCmd) (rest : List QCmd), (op, c) ∈ benchCommands pb st →
     s.running = true → ((s.bench pb).stream st).queue = q :: rest →
     (opcodeOf q.word ≠ op ∨ s.mayMove pb st q = false ∨
       (q.bad = false ∧ s.stage1 pb st q.word = none ∧ (s.bench pb).stage2 q = none)) → exec c s = .next s) ∧
   (∀ (s : State) (pb : Fin 68) (st : Fin 6) (q : QCmd) (rest : List QCmd) (slot : Nat), s.running = true →
     ((s.bench pb).stream st).queue = q :: rest → s.opcodeOk pb (opcodeOf q.word) = false → s.mayMove pb st q = true → q.bad = false →
     s.stage1 pb st q.word = some slot →
     ∃ t, exec (.undefinedOpcode pb st) s = .next t ∧ t = { s with benches := t.benches, spoil := t.spoil } ∧
       BenchesApart s t pb ∧ (t.bench pb).mode = .halted ∧ (t.bench pb).haltCause = 3 ∧ slot = 3 ∧
       ((t.bench pb).stream st).queue = q :: rest ∧ (t.bench pb).pool = (s.bench pb).pool ∧
       t.spoil.inFlight.length = s.spoil.inFlight.length + 1 ∧ (t.spoil.inFlight.getLast?).map (·.cls) = some 0x0B))

/-- What the control commands ask for: TOKEN and END nothing but their tokens; PHASE to the other phase starts a switch and holds the
command until it is over, PHASE to the present one nothing; the Weir commands send their operation with their number and wait for the
reply; MSEND a message of its length. -/
def Obligations.ControlCommandsPlanTheirEffect : Prop :=
  (∀ (c : Ctx) (p : Plan), planOf 0x01 c = .ok p ∨ planOf 0x03 c = .ok p →
    p = Plan.of (c.exec engCT) ∧ subopOf c.w = 0 ∧ immOf c.w = 0 ∧ cflagsOf c.w = 0) ∧
  (∀ (c : Ctx) (p : Plan), planOf 0x02 c = .ok p → ((c.s.bench c.pb).mode = phaseTo c.w → p = Plan.of (c.exec engCT)) ∧
    ((c.s.bench c.pb).mode ≠ phaseTo c.w → p.ex.todo = [.phase] ∧
      ∀ s : State, p.start s = s.onBench c.pb (fun b => { b with switching := true, turnaround := false, target := phaseTo c.w }))) ∧
  (∀ (c : Ctx) (p : Plan) (n : Nat) (op : WeirOp),
    (n, op) ∈ [(0x04, WeirOp.signal), (0x05, WeirOp.wait), (0x06, WeirOp.arrive), (0x07, WeirOp.reset)] → planOf n c = .ok p →
    p.ex.todo = [.weir] ∧ c.s.weirAllowed c.pb (weirBenchOf c.w) = true ∧
    ∀ s : State, p.start s = { s with net := { s.net with
      weirOps := s.net.weirOps ++ [⟨weirBenchOf c.w, weirNumOf c.w, op, weirArgOf c.w, ⟨c.pb, false, (c.s.bench c.pb).nextId⟩⟩] } }) ∧
  (∀ (c : Ctx) (p : Plan), planOf 0x08 c = .ok p → p.ex.todo = [] ∧ p.start = id ∧ imm c.w 27 24 ≤ 8 ∧ imm c.w 17 0 % 32 = 0)

/-- The residue operations on operands below p are exact modulo p, and their results are below p; a product carries the factor 2 ^ -54
of the fold form. -/
def Obligations.ResidueOperationsAreExact : Prop :=
  ∀ p a b : Nat, p % 2 ^ 18 = 1 → 2 ^ 31 < p → p < 2 ^ 32 → a < p → b < p →
    addMod p a b = (a + b) % p ∧ subMod p a b = (a + (p - b)) % p ∧ negMod p a = (p - a) % p ∧
    mulMod p a b < p ∧ mulMod p a b * 2 ^ 54 % p = a * b % p ∧ (∀ x, x < 2 ^ 64 → toFold p x < p ∧ toFold p x % p = x * 2 ^ 54 % p)

namespace Sys2Proof.Machine

/-- Operands of a limb whose values are all known. -/
def knownPolys (f : Nat → List Nat) (i : Nat) : Option (List El) := some ((f i).map El.known)

/-- The limbs that a ring command writes for known operands: n elements each, k1 polynomials in operand 0, operand 1 of kind k2. -/
def ringOut (w : CmdWord) (p n : Nat) (a b d : Nat → List Nat) (k1 k2 : Nat) : List (List El) :=
  ringLimb w p n (knownPolys a) (knownPolys b) (knownPolys d) k1 k2

/-- A limb of known values. -/
def knownLimb (l : List Nat) : List El := l.map El.known

end Sys2Proof.Machine

/-- What the ring commands write, limb by limb: RADD and RSUB add and subtract polynomial by polynomial, RNEG negates, RMUL of two slabs gives the
three products of the tensor, RMUL by a plaintext and RMAC multiply every polynomial by it, RMULS multiplies by the scalar in fold form, MOV
copies. The forward transform of a sum of two polynomials is the sum of their transforms, element by element modulo p. -/
def Obligations.RingCommandsComputeTheirLimbs : Prop :=
  (∀ (w : CmdWord) (p n : Nat) (a b d : Nat → List Nat) (k : Nat),
     (∀ i, (a i).length = n ∧ (b i).length = n ∧ (d i).length = n) →
     (opcodeOf w = 0x41 → ringOut w p n a b d k 1 = [knownLimb (addPoly p (a 0) (b 0)), knownLimb (addPoly p (a 1) (b 1))] ∧
       ringOut w p n a b d k 2 = [knownLimb (addPoly p (a 0) (b 0)), knownLimb (a 1)]) ∧
     (opcodeOf w = 0x42 → ringOut w p n a b d k 1 = [knownLimb (subPoly p (a 0) (b 0)), knownLimb (subPoly p (a 1) (b 1))] ∧
       ringOut w p n a b d k 2 = [knownLimb (subPoly p (a 0) (b 0)), knownLimb (a 1)]) ∧
     (opcodeOf w = 0x43 → ringOut w p n a b d k 1 = (List.range k).map (fun i => knownLimb ((a i).map (negMod p)))) ∧
     (opcodeOf w = 0x44 → ringOut w p n a b d k 1 = [knownLimb (mulPoint p (a 0) (b 0)),
         knownLimb (addPoly p (mulPoint p (a 0) (b 1)) (mulPoint p (a 1) (b 0))), knownLimb (mulPoint p (a 1) (b 1))] ∧
       ringOut w p n a b d k 2 = [knownLimb (mulPoint p (a 0) (b 0)), knownLimb (mulPoint p (a 1) (b 0))]) ∧
     (opcodeOf w = 0x45 → ringOut w p n a b d k 2 = [knownLimb (addPoly p (d 0) (mulPoint p (a 0) (b 0))), knownLimb (addPoly p (d 1) (mulPoint p (a 1) (b 0)))]) ∧
     (opcodeOf w = 0x46 → ringOut w p n a b d k 1 = (List.range k).map (fun i => knownLimb ((a i).map (fun v => mulMod p v (toFold p (argOf w)))))) ∧
     (opcodeOf w = 0x4A → ringOut w p n a b d k 1 = (List.range k).map (fun i => knownLimb (a i)))) ∧
  (∀ (p root k : Nat) (a b : List Nat), 0 < p → a.length = 2 ^ k → b.length = 2 ^ k → (∀ x ∈ a, x < p) → (∀ x ∈ b, x < p) →
     nttForward p root k (addPoly p a b) = addPoly p (nttForward p root k a) (nttForward p root k b) ∧
     (nttForward p root k a).length = 2 ^ k ∧ (∀ x ∈ nttForward p root k a, x < p))

/-- Float arithmetic: an exactly representable normal value rounds to itself, subnormal operands count as zero, a NaN operand or the sum
of unlike infinities gives the quiet NaN, zero times infinity does, sums and products do not depend on the order of their operands. -/
def Obligations.FloatOperationsRoundOnce : Prop :=
  (∀ (f : FFmt) (b : Nat), b < 2 ^ (f.prec + 8) → 1 ≤ b / 2 ^ (f.prec - 1) % 256 → b / 2 ^ (f.prec - 1) % 256 ≤ 254 →
    f.round (f.read b) = ⟨b, false⟩) ∧
  (∀ (f : FFmt) (b : Nat), b / 2 ^ (f.prec - 1) % 256 = 0 → f.read b = .fin (bit b (f.prec + 7)) 0 0) ∧
  (∀ (f : FFmt) (a b d : FVal), fAdd f a b = fAdd f b a ∧ fMul f a b = fMul f b a ∧ fFma f a b d = fFma f b a d ∧
    (fAdd f .nan a).bits = f.qnan ∧ (fMul f .nan a).bits = f.qnan ∧ (fFma f a b .nan).bits = f.qnan ∧
    (∀ m, fMinMax f m .nan a = ⟨f.qnan, false⟩ ∧ fMinMax f m a .nan = ⟨f.qnan, false⟩) ∧ (∀ q, fCmp q .nan a = false)) ∧
  (∀ (f : FFmt) (n : Bool) (e : Int), (fAdd f (.inf true) (.inf false)).bits = f.qnan ∧
    (fMul f (.inf n) (.fin false 0 e)).bits = f.qnan ∧ (fAdd f (.inf n) (.inf n)).bits = f.infBits n)

/-! ### Key streams and the Sluice -/

/-- MILLRACE_STREAM_START: with no active stream the pending one becomes active, the next one waiting becomes pending, and tags that do not
match are counted. KEY_UNIT_DELIVER: against a credit the next 512-byte unit of the active stream enters the key operand buffer, the credit
is taken, 512 bytes are counted, and the stream ends with its last unit; without a stream or a credit nothing changes. -/
def Obligations.KeyStreamsStartAndDeliver : Prop :=
  (∀ (s : State) (pb : Fin 68) (k : KStream) (bad : Bool), s.running = true → (s.bench pb).kActive = none → (s.bench pb).kPending = some k →
    k.total ≠ 0 → bad = decide (keyTag (s.keyEnt k.entry) ≠ k.tag) →
    ∃ t, exec (.millraceStreamStart pb) s = .next t ∧ t = { s with benches := t.benches, rc := t.rc } ∧ BenchesApart s t pb ∧
      t.bench pb = { s.bench pb with
        kActive := some { k with mismatch := bad }, kPending := (s.bench pb).kWait.head?, kWait := (s.bench pb).kWait.drop 1 } ∧
      t.cnt (Fld.DEVCTL_MILLRACE_STATUS_MISMATCHES (ledgeOf pb)) =
        (if bad then min 0xFFFFFFFF (s.cnt (Fld.DEVCTL_MILLRACE_STATUS_MISMATCHES (ledgeOf pb)) + 1)
         else s.cnt (Fld.DEVCTL_MILLRACE_STATUS_MISMATCHES (ledgeOf pb)))) ∧
  (∀ (s : State) (pb : Fin 68) (ecc : Ecc) (k : KStream), s.running = true → (s.bench pb).kActive = some k → (s.bench pb).credits ≠ 0 →
    (s.bench pb).mode ≠ .rinsing → (s.bench pb).execs = [] →
    ∃ t u, exec (.keyUnitDeliver pb ecc) s = .next t ∧ BenchesApart s t pb ∧
      t.bench pb = { s.bench pb with
        keyBuf := (s.bench pb).keyBuf ++ [u], credits := (s.bench pb).credits - 1
        kActive := if k.total ≤ k.sent + 1 then none else some { k with sent := k.sent + 1 } } ∧
      u.vals = (s.streamUnit pb k k.sent).map (·.el) ∧
      (k.mismatch = false → u.mismatch = none) ∧
      (ecc = .clean → t = { s with benches := t.benches, rc := t.rc } ∧
        t.cnt (Fld.DEVCTL_MILLRACE_BYTES_DELIVERED (ledgeOf pb)) = s.cnt (Fld.DEVCTL_MILLRACE_BYTES_DELIVERED (ledgeOf pb)) + 512)) ∧
  (∀ (s : State) (pb : Fin 68) (ecc : Ecc), s.running = true → ((s.bench pb).kActive = none ∨ (s.bench pb).credits = 0) →
    exec (.keyUnitDeliver pb ecc) s = .next s)

namespace Sys2Proof.Machine

/-- Bench pb has tag g of transfer j of command e in flight, not served yet, with side as its far side. -/
structure State.tagOut (s : State) (pb : Fin 68) (id : Fin 512) (side : FarSide) (j : SlJob) (g : Tag) (e : Exec) : Prop where
  running : s.running = true
  found : (s.bench pb).findTag id = some (j, g, e)
  waits : g.served = false
  far : e.side = side
  sized : g.data.length = (if e.outward then g.count else 0)

/-- The tag is served, with data, in t; the bench changed in nothing else. -/
def TagServed (s t : State) (pb : Fin 68) (id : Fin 512) (data : List (Nat × Bool)) : Prop :=
  t.bench pb = (s.bench pb).onTag id (fun x => { x with served := true, data := data })

/-- A memory with the words of a tag written in order. -/
def wordsWritten (m : EMem) (g : Tag) : EMem := (g.addrs.zip g.data).foldl (fun m x => m.writeWord x.1 x.2.1 x.2.2) m

end Sys2Proof.Machine

/-- Sluice tags. TAG_SEND takes the next words of one granule as the next tag and moves the transfer past them; a Hall page that does not translate
halts the transfer with no tag out and saves its page. A Basin serves a tag if the tenant holds the lease, else nothing is written and a read
returns zeros; local HBM does if the tenant owns the page; a peer's Pool does in FILL, discards it in RINSING and lets it wait in any other mode.
TAG_RESPONSE of a served tag writes the words that were read into the Pool, frees the tag and, with the last one, ends the transfer. READY
without a halt is ignored; with AUTO_RESUME it lets the transfer go on, else it posts FAULT_TAG. -/
def Obligations.TagsAreSentServedAndCollected : Prop :=
  ((∀ (s : State) (pb : Fin 68) (id : Fin 512) (j : SlJob) (g : Tag) (e : Exec), s.tagOut pb id .basin j g e → adderOf e.word = 0 →
     (s.leaseOk (adLedge e.farDesc) g.far (s.benchTenant pb) = true →
       ∃ t, exec (.basinAccess pb id .clean) s = .next t ∧ BenchesApart s t pb ∧
         (e.outward = true → t = { s with benches := t.benches, rc := t.rc, fresh := t.fresh, ledges := t.ledges } ∧
           TagServed s t pb id g.data ∧ t.basin (adLedge e.farDesc) = wordsWritten (s.basin (adLedge e.farDesc)) g ∧
           (∀ l, l ≠ adLedge e.farDesc → t.basin l = s.basin l)) ∧
         (e.outward = false → (∀ l, t.basin l = s.basin l) ∧
           TagServed s t pb id (g.addrs.map (s.basin (adLedge e.farDesc)).readWord))) ∧
     (∀ ecc, s.leaseOk (adLedge e.farDesc) g.far (s.benchTenant pb) = false → j.warned = false → (s.bench pb).sluice = [j] →
       ∃ t, exec (.basinAccess pb id ecc) s = .next t ∧
         t = { s with benches := t.benches, rc := t.rc, fresh := t.fresh, spoil := t.spoil } ∧
         (t.spoil.inFlight.getLast?).map (·.cls) = some 0x08 ∧
         (∃ j', (t.bench pb).sluice = [j'] ∧ j'.warned = true ∧
           j'.tags = j.tags.map (fun x => if x.id = id.val then
             { x with served := true, data := if e.outward then g.data else List.replicate g.count (0, false) } else x)))) ∧
   (∀ (s : State) (pb : Fin 68) (id : Fin 512) (j : SlJob) (g : Tag) (e : Exec), s.tagOut pb id .hbm j g e → adderOf e.word = 0 →
     s.pageOk g.far (s.benchTenant pb) = true →
     ∃ t, exec (.hbmChannelAccess pb id .clean) s = .next t ∧ BenchesApart s t pb ∧
       (e.outward = true → t = { s with benches := t.benches, rc := t.rc, hbm := t.hbm } ∧ TagServed s t pb id g.data ∧
         t.hbm = { s.hbm with mem := (g.addrs.zip g.data).foldl (fun m x => match s.hbmLoc x.1 with
           | some p => m.writeWord p.key x.2.1 x.2.2 | none => m) s.hbm.mem }) ∧
       (e.outward = false → t.hbm.mem = s.hbm.mem ∧ TagServed s t pb id (g.addrs.map s.hbmWord))) ∧
   (∀ (s : State) (pb : Fin 68) (id : Fin 512) (j : SlJob) (g : Tag) (e : Exec) (p2 : Nat), s.tagOut pb id .peer j g e →
     p2 = s.physOf (imm e.word 45 40) → p2 ≠ pb.val →
     ((s.bench p2).mode = .fill → e.outward = true → ∃ t, exec (.peerTagArrival pb id) s = .next t ∧
       t = { s with benches := t.benches } ∧ TagServed s t pb id g.data ∧
       t.bench p2 = { s.bench p2 with pool := wordsWritten (s.bench p2).pool g } ∧ (∀ q, q ≠ pb.val → q ≠ p2 → t.bench q = s.bench q)) ∧
     ((s.bench p2).mode = .fill → e.outward = false → (s.bench p2).pool.bad = [] → ∃ t, exec (.peerTagArrival pb id) s = .next t ∧
       t = { s with benches := t.benches } ∧ BenchesApart s t pb ∧ TagServed s t pb id (g.addrs.map (s.bench p2).pool.readWord)) ∧
     ((s.bench p2).mode = .rinsing → ∃ t, exec (.peerTagArrival pb id) s = .next t ∧ t = { s with benches := t.benches } ∧
       BenchesApart s t pb ∧ TagServed s t pb id (if e.outward then g.data else List.replicate g.count (0, false))) ∧
     ((s.bench p2).mode ≠ .fill → (s.bench p2).mode ≠ .rinsing → exec (.peerTagArrival pb id) s = .next s))) ∧
  ((∀ (s : State) (pb : Fin 68) (j : SlJob) (e : Exec) (a : Nat), s.running = true → (s.bench pb).sluice = [j] → j.next < j.total →
     (s.bench pb).exec j.cmd = some e → (∀ g ∈ j.tags, g.id ≠ (s.bench pb).tagSeq % 512) → j.halted = false → j.pending = false →
     ((s.bench pb).farOf e)[j.next]? = some (some a) →
     (e.side ≠ .hall → (s.bench pb).pool.bad = [] → e.badWords = [] →
       ∃ t g j', exec (.tagSend pb) s = .next t ∧ t = { s with benches := t.benches } ∧ BenchesApart s t pb ∧
         (t.bench pb).sluice = [j'] ∧ j'.tags = j.tags ++ [g] ∧ j'.cmd = j.cmd ∧ j.next + g.count ≤ j'.next ∧
         g.id = (s.bench pb).tagSeq % 512 ∧ g.first = j.next ∧ g.far = a ∧ 1 ≤ g.count ∧ g.count ≤ 16 ∧
         a / 512 = (a + 32 * (g.count - 1)) / 512 ∧ g.served = decide (e.side = .own) ∧ g.err = false ∧
         (t.bench pb).tagSeq = (s.bench pb).tagSeq + 1 ∧ (e.outward = true → (t.bench pb).pool = (s.bench pb).pool ∧
           g.data = slData (s.bench pb) e ((s.bench pb).ownOf e) j.next g.count)) ∧
     (∀ kind, e.side = .hall → s.hallTranslate (a / 2 ^ 21) (s.benchTenant pb) e.outward = some kind → j.tags = [] →
       ∃ t, exec (.tagSend pb) s = .next t ∧ BenchesApart s t pb ∧ (t.bench pb).sluice = [{ j with halted := true, pending := false, fault := kind }] ∧
         (t.bench pb).pool = (s.bench pb).pool ∧ t.rd (Fld.BENCH_SLUICE_FAULT_PAGE pb) = a / 2 ^ 21 % 2 ^ 43 ∧
         t.cnt (Fld.BENCH_SLUICE_STATUS_FAULTS pb) = min 0xFFFFFFFF (s.cnt (Fld.BENCH_SLUICE_STATUS_FAULTS pb) + 1) ∧
         (t.spoil.inFlight.getLast?).map (·.cls) = some 0x09)) ∧
   (∀ (s : State) (pb : Fin 68) (id : Fin 512) (j : SlJob) (g : Tag) (e : Exec), s.running = true → (s.bench pb).sluice = [j] →
     j.tags = [g] → g.id = id.val → (s.bench pb).exec j.cmd = some e → g.served = true → g.err = false → j.total ≤ j.next →
     j.pending = false → isTload e.word = false → (∀ x ∈ g.data, x.2 = false) →
     ∃ t, exec (.tagResponse pb id) s = .next t ∧ t = { s with benches := t.benches } ∧ BenchesApart s t pb ∧ (t.bench pb).sluice = [] ∧
       (∀ x ∈ (t.bench pb).execs, x.id = j.cmd → x.todo = []) ∧
       (t.bench pb).pool = (if e.outward then (s.bench pb).pool else
         g.data.zipIdx.foldl (fun m x => match ((s.bench pb).ownOf e).getD (g.first + x.2) none with
           | some a => m.writeWord a x.1.1 x.1.2 | none => m) (s.bench pb).pool)) ∧
   (∀ (s : State) (vw : View) (b : BenchRef) (pb : Nat), s.benchWritable vw b 0xC10 pb →
     ∃ t, exec (.sluiceReady vw b) s = .next t ∧ RegsApart s t [] ∧ BenchesApart s t pb ∧
       ((s.bench pb).sluiceHalted = false → t.bench pb = s.bench pb) ∧
       ((s.bench pb).sluiceHalted = true → s.flag (Fld.BENCH_SLUICE_CFG_AUTO_RESUME pb) = true →
         (t.bench pb).sluice = (s.bench pb).sluice.map (fun j => { j with halted := false })) ∧
       (∀ e, ((s.bench pb).sluice.find? (·.halted)).bind (s.bench pb).slExec = some e →
         s.flag (Fld.BENCH_SLUICE_CFG_AUTO_RESUME pb) = false →
         (s.bench pb).token (192 + s.rd (Fld.BENCH_SLUICE_CFG_FAULT_TAG pb)) < 255 →
         t.bench pb = (s.bench pb).setToken (192 + s.rd (Fld.BENCH_SLUICE_CFG_FAULT_TAG pb))
           ((s.bench pb).token (192 + s.rd (Fld.BENCH_SLUICE_CFG_FAULT_TAG pb)) + 1))))
/-! ### Weirs, the Foreman and messages -/

namespace Sys2Proof.Machine

/-- The count that an operation of Table 11.4 leaves. -/
def weirAfter (op : WeirOp) (c arg : Nat) : Nat :=
  match op with
  | .signal => min (c + arg) 0xFFFFFFFF
  | .arrive => if arg ≤ c % 65536 + 1 then (c / 65536 + 1) % 65536 * 65536 else c + 1
  | .reset => 0
  | .wait => c
  | .read => c

/-- Weir operation m stands at place n of those on their way to bench pb, which is not in RINSING and whose Weir no Confluence entry
watches; everyone who waits can be answered. -/
structure State.weirDue (s : State) (n : Nat) (m : WeirMsg) (pb : Nat) : Prop where
  running : s.running = true
  next : s.net.weirOps[n]? = some m
  unit : pb = s.physOf m.bench
  mode : (s.bench pb).mode ≠ .rinsing
  asker : m.req.pb ≠ noBench
  holders : ∀ h ∈ (s.bench pb).held, h.req.pb ≠ noBench
  watch : ∀ i l, i < 64 → s.logicalOf pb = some l → (s.cfl i).startBench ≠ l ∨ (s.cfl i).startWeir ≠ m.weir

end Sys2Proof.Machine

/-- A Weir operation at its unit: SIGNAL adds and saturates, ARRIVE counts an arrival and the last of its epoch starts the next, RESET
zeroes, each with the new count as its reply, after which the held waits that the count meets get theirs in order; READ and a WAIT that is
met reply with the count; a WAIT that is not met is held. A reply that arrives lets its Weir command go on, or the Foreman that is stalled
on it retire. -/
def Obligations.WeirsServeTheirOperations : Prop :=
  (∀ (s : State) (n : Nat) (m : WeirMsg) (pb c : Nat), s.weirDue n m pb → c = weirAfter m.op ((s.bench pb).weir m.weir) m.arg →
    ∃ t, exec (.weirOperationArrival n) s = .next t ∧ t = { s with benches := t.benches, net := t.net, rc := t.rc } ∧
      BenchesApart s t pb ∧ t.net = { s.net with weirOps := s.net.weirOps.eraseIdx n, weirReplies := t.net.weirReplies } ∧
      t.cnt (Fld.BENCH_WEIR_STATUS_OPS pb) = min 0xFFFFFFFF (s.cnt (Fld.BENCH_WEIR_STATUS_OPS pb) + 1) ∧
      (m.op = .signal ∨ m.op = .arrive ∨ m.op = .reset →
        t.bench pb = { s.bench pb with
          weirs := (t.bench pb).weirs, held := (s.bench pb).held.filter (fun h => !(decide (h.weir = m.weir) && decide (h.target ≤ c))) } ∧
        (t.bench pb).weir m.weir = c ∧ (∀ w, w ≠ m.weir → (t.bench pb).weir w = (s.bench pb).weir w) ∧
        t.net.weirReplies = s.net.weirReplies ++ (⟨m.req, c⟩ ::
          (((s.bench pb).held.filter (fun h => decide (h.weir = m.weir) && decide (h.target ≤ c))).map (fun h => ⟨h.req, c⟩)))) ∧
      (m.op = .read ∨ (m.op = .wait ∧ m.arg ≤ c) → t.bench pb = s.bench pb ∧ t.net.weirReplies = s.net.weirReplies ++ [⟨m.req, c⟩]) ∧
      (m.op = .wait → c < m.arg → t.net.weirReplies = s.net.weirReplies ∧
        t.bench pb = { s.bench pb with held := (s.bench pb).held ++ [⟨m.weir, m.arg, m.req⟩] })) ∧
  (∀ (s : State) (n : Nat) (r : WeirReply), s.running = true → s.net.weirReplies[n]? = some r →
    (r.req.fore = true → (s.bench r.req.pb).fm.st = .stalled → (s.bench r.req.pb).fm.weirId = r.req.id →
      ∃ t, exec (.weirReplyArrival n) s = .next t ∧ t = { s with benches := t.benches, net := t.net } ∧ BenchesApart s t r.req.pb ∧
        t.net = { s.net with weirReplies := s.net.weirReplies.eraseIdx n } ∧
        t.bench r.req.pb = { s.bench r.req.pb with fm := { (s.bench r.req.pb).fm with weirReply := some r.count } }) ∧
    (∀ e rest, r.req.fore = false → (s.bench r.req.pb).execs = [e] → e.id = r.req.id → e.todo = .weir :: rest →
      ∃ t, exec (.weirReplyArrival n) s = .next t ∧ t = { s with benches := t.benches, net := t.net } ∧ BenchesApart s t r.req.pb ∧
        t.bench r.req.pb = { s.bench r.req.pb with execs := [{ e with todo := rest }] }))

namespace Sys2Proof.Machine

/-- The Foreman of a bench stands before one word of an instruction in state st. -/
structure State.fmAt (s : State) (pb : Fin 68) (st : FState) (w len : Nat) : Prop where
  running : s.running = true
  fetch : s.fmFetch pb st = some (.instr w len)

/-- The Foreman of bench pb before an Xchotra instruction with its operands. -/
structure State.xcAt (s : State) (pb : Fin 68) (op : XcOp) (x : XcArgs) : Prop where
  at_ : s.fmAt pb .running x.w 4
  kind : xcOf x.w = some op
  a : x.a = (s.bench pb).fm.x (rvRs1 x.w)
  b : x.b = (s.bench pb).fm.x (rvRs2 x.w)

/-- The Foreman has retired a word of len bytes: its pc stands behind it, it runs, and of its registers only rd has changed, to v. -/
def FmRetired (f g : Foreman) (w len : Nat) (v : Option Nat) : Prop :=
  g.pc = (f.pc + len) % 2 ^ 64 ∧ g.st = .running ∧
    ∀ r, g.x r = (match v with | some n => if r = rvRd w ∧ r ≠ 0 then n % 2 ^ 64 else f.x r | none => f.x r)

/-- Of one bench only the Foreman and what is listed has changed, of the rest nothing. -/
def BenchOnly (s t : State) (pb : Fin 68) (b : Bench) : Prop :=
  t = { s with benches := t.benches } ∧ BenchesApart s t pb ∧ t.bench pb = { b with fm := (t.bench pb).fm }

end Sys2Proof.Machine

/-- The Xchotra instructions. xc.push and xc.pushm put a command at the tail of a stream, xc.tw and xc.tr write and read a doubleword of a table,
xc.tkpost posts a token, xc.tkwait takes one and xc.tkpoll reads the count. The five Weir instructions send their operation and stall until
its reply, which STALLED_INSTRUCTION_RETIRE lets retire, xc.wread with the count; xc.send takes a credit of its route and the next SEQ; xc.rfree
releases entries from the head of its ring. -/
def Obligations.XchotraInstructionsAct : Prop :=
  ((∀ (s : State) (pb : Fin 68) (x : XcArgs) (st : Nat) (word : CmdWord) (bad : Bool) (mem : Bool) (c : Instr),
     (mem = false ∧ c = .xcPush pb ∧ s.xcAt pb .push x ∧ word = BitVec.ofNat 128 (x.a * 2 ^ 64 + x.b) ∧ bad = false) ∨
       (mem = true ∧ c = .xcPushm pb ∧ s.xcAt pb .pushm x ∧ x.a < 16384 ∧ rvRs2 x.w = 0 ∧
         word = BitVec.ofNat 128 ((s.bench pb).cmdMem.mem.readLE (16 * x.a) 16) ∧ bad = (s.bench pb).cmdMem.bad.contains (x.a / 2)) →
     st = bits x.w 27 25 → st ≤ 5 → rvRd x.w = 0 → bit (s.rd (Fld.BENCH_CTL_STREAM_SRC pb)) st = true → s.lockstep pb = false →
     ¬ (opcodeOf word = 0xC3 ∧ st = 5) → ((s.bench pb).stream st).queue.length < 512 → ((s.bench pb).stream st).closed = false →
     ((s.bench pb).stream st).ended = false →
     ∃ t, exec c s = .next t ∧ t = { s with benches := t.benches } ∧ BenchesApart s t pb ∧
       FmRetired (s.bench pb).fm (t.bench pb).fm x.w 4 none ∧
       (t.bench pb).stream st = { (s.bench pb).stream st with queue := ((s.bench pb).stream st).queue ++ [⟨word, 0x3FFF, false, bad⟩] } ∧
       (∀ i, i ≠ st → (t.bench pb).stream i = (s.bench pb).stream i)) ∧
   (∀ (s : State) (pb : Fin 68) (x : XcArgs) (tb i : Nat), tb < 3 → i < tableSize tb → x.a = tb * 2 ^ 62 + i →
     (s.xcAt pb .tw x → rvRd x.w = 0 → ∃ t, exec (.xcTw pb) s = .next t ∧ FmRetired (s.bench pb).fm (t.bench pb).fm x.w 4 none ∧
       BenchOnly s t pb ((s.bench pb).tableWrite tb i (BitVec.ofNat 64 x.b)) ∧
       (tb = 0 ∨ 8 ≤ i → ((t.bench pb).table tb).dword i = BitVec.ofNat 64 x.b) ∧
       (tb ≠ 0 → i < 8 → (t.bench pb).table tb = (s.bench pb).table tb)) ∧
     (s.xcAt pb .tr x → rvRs2 x.w = 0 → ((s.bench pb).table tb).bad = [] →
       ∃ t, exec (.xcTr pb) s = .next t ∧ BenchOnly s t pb (s.bench pb) ∧
         FmRetired (s.bench pb).fm (t.bench pb).fm x.w 4 (some (if tb = 1 ∧ i < 8 then 0 else if tb = 2 ∧ i < 8 then unitLoop.getD i 0
           else (((s.bench pb).table tb).dword i).toNat)))) ∧
   (∀ (s : State) (pb : Fin 68) (x : XcArgs), s.xcAt pb .tkpost x → rvRd x.w = 0 → rvRs2 x.w = 0 → x.a < 192 → (s.bench pb).token x.a < 255 →
     ∃ t, exec (.xcTkpost pb) s = .next t ∧ FmRetired (s.bench pb).fm (t.bench pb).fm x.w 4 none ∧
       BenchOnly s t pb ((s.bench pb).setToken x.a ((s.bench pb).token x.a + 1))) ∧
   (∀ (s : State) (pb : Fin 68) (x : XcArgs), rvRs2 x.w = 0 → x.a < 32 →
     (s.xcAt pb .tkwait x → 0 < (s.bench pb).token (192 + x.a) → ∃ t, exec (.xcTkwait pb) s = .next t ∧
       FmRetired (s.bench pb).fm (t.bench pb).fm x.w 4 (some ((s.bench pb).token (192 + x.a))) ∧
       BenchOnly s t pb ((s.bench pb).setToken (192 + x.a) ((s.bench pb).token (192 + x.a) - 1))) ∧
     (s.xcAt pb .tkwait x → (s.bench pb).token (192 + x.a) = 0 → ∃ t, exec (.xcTkwait pb) s = .next t ∧
       t.bench pb = { s.bench pb with fm := { (s.bench pb).fm with st := .stalled } }) ∧
     (s.xcAt pb .tkpoll x → ∃ t, exec (.xcTkpoll pb) s = .next t ∧
       FmRetired (s.bench pb).fm (t.bench pb).fm x.w 4 (some ((s.bench pb).token (192 + x.a))) ∧ BenchOnly s t pb (s.bench pb)))) ∧
  ((∀ (s : State) (pb : Fin 68) (x : XcArgs) (op : XcOp) (wop : WeirOp) (c : Instr) (b n : Nat),
     (op, wop, c) ∈ [(XcOp.wsig, WeirOp.signal, Instr.xcWsig pb), (.wwait, .wait, .xcWwait pb), (.warrive, .arrive, .xcWarrive pb),
       (.wreset, .reset, .xcWreset pb), (.wread, .read, .xcWread pb)] →
     b < 64 → n < 2048 → x.a = b * 2 ^ 16 + n → (op ≠ .wread → rvRd x.w = 0) →
     (if op = .wreset ∨ op = .wread then x.b = 0 else x.b < 2 ^ 32) → (op = .warrive → 1 ≤ x.b ∧ x.b ≤ 65535) → s.weirAllowed pb b = true →
     (s.xcAt pb op x → ∃ t, exec c s = .next t ∧ t = { s with benches := t.benches, net := t.net } ∧ BenchesApart s t pb ∧
       t.bench pb = { s.bench pb with fm := { (s.bench pb).fm with
         st := .stalled, weirId := (s.bench pb).fm.weirId + 1, weirReply := none } } ∧
       t.net = { s.net with weirOps := s.net.weirOps ++ [⟨b, n, wop, x.b, ⟨pb, true, (s.bench pb).fm.weirId + 1⟩⟩] }) ∧
     (∀ v, s.fmAt pb .stalled x.w 4 → xcOf x.w = some op → x.a = (s.bench pb).fm.x (rvRs1 x.w) → x.b = (s.bench pb).fm.x (rvRs2 x.w) →
       (s.bench pb).fm.weirReply = some v → ∃ t, exec (.stalledInstructionRetire pb) s = .next t ∧ BenchOnly s t pb (s.bench pb) ∧
         FmRetired (s.bench pb).fm (t.bench pb).fm x.w 4 (if op = .wread then some v else none) ∧ (t.bench pb).fm.weirReply = none)) ∧
   (∀ (s : State) (pb : Fin 68) (x : XcArgs) (r h len addr : Nat), s.xcAt pb .send x → r < 256 → h < 256 →
     x.a = addr * 2 ^ 32 + len * 2 ^ 16 + h * 2 ^ 8 + r → s.routeOk pb r = true → len ≤ 8 → addr % 32 = 0 → addr < 2 ^ 18 → addr + 32 * len ≤ 2 ^ 18 →
     1 ≤ s.rd (Fld.BENCH_ROUTE_STAT_AVAIL pb r) → (s.bench pb).dmem.bad = [] → s.rd (Fld.BENCH_ROUTE_DEV pb r) = s.devId →
     ∃ t m, exec (.xcSend pb) s = .next t ∧ t = { s with benches := t.benches, net := t.net, regs := t.regs } ∧
       t.rd (Fld.BENCH_ROUTE_STAT_AVAIL pb r) = s.rd (Fld.BENCH_ROUTE_STAT_AVAIL pb r) - 1 ∧
       t.rd (Fld.BENCH_ROUTE_STAT_SEQ pb r) = (s.rd (Fld.BENCH_ROUTE_STAT_SEQ pb r) + 1) % 65536 ∧
       RegsApart s t [Reg.BENCH_ROUTE_STAT pb r] ∧ BenchesApart s t pb ∧
       FmRetired (s.bench pb).fm (t.bench pb).fm x.w 4 (some (s.rd (Fld.BENCH_ROUTE_STAT_SEQ pb r))) ∧
       t.net = { s.net with messages := s.net.messages ++ [m] } ∧ m.dest = s.rd (Fld.BENCH_ROUTE_BENCH pb r) ∧
       m.ring = s.rd (Fld.BENCH_ROUTE_RING pb r) ∧ m.handler = h ∧ m.seq = s.rd (Fld.BENCH_ROUTE_STAT_SEQ pb r) ∧ m.srcRoute = r ∧
       m.tenant = s.benchTenant pb ∧ m.arg = x.b ∧ m.payload = (s.bench pb).dmem.mem.readBytes addr (32 * len)) ∧
   (∀ (s : State) (pb : Fin 68) (x : XcArgs), s.xcAt pb .rfree x → x.a < 16 →
     ∃ t, exec (.xcRfree pb) s = .next t ∧ BenchesApart s t pb ∧
       t.rd (Fld.BENCH_RING_PTR_RD_COUNT pb x.a) = (s.rd (Fld.BENCH_RING_PTR_RD_COUNT pb x.a) + min x.b (s.ringOcc pb x.a)) % 65536 ∧
       RegsApart s t [Reg.BENCH_RING_PTR pb x.a] ∧ (t.bench pb).dmem = (s.bench pb).dmem ∧
       FmRetired (s.bench pb).fm (t.bench pb).fm x.w 4 (some (s.ringOcc pb x.a - min x.b (s.ringOcc pb x.a)))))

/-- The Foreman's RV64 instructions, for one of each kind (the encodings are those of the RISC-V ISA, log 30): LUI, ADDI, ADD and SUB write
rd, SD stores its eight bytes and nothing else, LD loads them, JAL jumps and links, ECALL enters mtvec with cause 11, WFI waits. An
enabled interrupt enters with the return address saved and interrupts off: MSG first, at its handler, then TOK6, then the timer. -/
def Obligations.ForemanRunsRv64AndTakesInterrupts : Prop :=
  (∀ (s : State) (pb : Fin 68) (w len : Nat) (f : Foreman), s.fmAt pb .running w len → f = (s.bench pb).fm → w < 2 ^ 32 → xcOf w = none →
    (∀ v, (rvOp w = 0x37 ∧ v = sext 32 64 (bits w 31 12 * 4096)) ∨
        (rvOp w = 0x13 ∧ rvF3 w = 0 ∧ v = (f.x (rvRs1 w) + sext 12 64 (bits w 31 20)) % 2 ^ 64) ∨
        (rvOp w = 0x33 ∧ rvF3 w = 0 ∧ rvF7 w = 0 ∧ v = (f.x (rvRs1 w) + f.x (rvRs2 w)) % 2 ^ 64) ∨
        (rvOp w = 0x33 ∧ rvF3 w = 0 ∧ rvF7 w = 0x20 ∧ v = (f.x (rvRs1 w) + 2 ^ 64 - f.x (rvRs2 w)) % 2 ^ 64) →
      ∃ t, exec (.foremanInstruction pb) s = .next t ∧ BenchOnly s t pb (s.bench pb) ∧ FmRetired f (t.bench pb).fm w len (some v)) ∧
    (∀ a, rvOp w = 0x23 → rvF3 w = 3 → a = (f.x (rvRs1 w) + immS w) % 2 ^ 64 → a % 8 = 0 → a + 8 ≤ 2 ^ 18 →
      ∃ t, exec (.foremanInstruction pb) s = .next t ∧ FmRetired f (t.bench pb).fm w len none ∧
        BenchOnly s t pb { s.bench pb with dmem := (t.bench pb).dmem } ∧
        (t.bench pb).dmem.mem.readLE a 8 = f.x (rvRs2 w) ∧ (t.bench pb).dmem.bad = (s.bench pb).dmem.bad ∧
        (∀ k, k < a ∨ a + 8 ≤ k → (t.bench pb).dmem.mem.readByte k = (s.bench pb).dmem.mem.readByte k)) ∧
    (∀ a, rvOp w = 0x03 → rvF3 w = 3 → a = (f.x (rvRs1 w) + immI w) % 2 ^ 64 → a % 8 = 0 → a + 8 ≤ 2 ^ 18 → (s.bench pb).dmem.bad = [] →
      ∃ t, exec (.foremanInstruction pb) s = .next t ∧ BenchOnly s t pb (s.bench pb) ∧
        FmRetired f (t.bench pb).fm w len (some ((s.bench pb).dmem.mem.readLE a 8))) ∧
    (rvOp w = 0x6F → ∃ t, exec (.foremanInstruction pb) s = .next t ∧ BenchOnly s t pb (s.bench pb) ∧
      (t.bench pb).fm.pc = (f.pc + immJ w) % 2 ^ 64 ∧ (rvRd w ≠ 0 → (t.bench pb).fm.x (rvRd w) = (f.pc + len) % 2 ^ 64)) ∧
    (w = 0x73 → ∃ t, exec (.foremanInstruction pb) s = .next t ∧ BenchOnly s t pb (s.bench pb) ∧ (t.bench pb).fm.pc = f.mtvec.toNat ∧
      (t.bench pb).fm.mepc = BitVec.ofNat 64 f.pc ∧ (t.bench pb).fm.mcause = 11 ∧ (t.bench pb).fm.mieBit = false ∧
      (t.bench pb).fm.mpie = f.mieBit ∧ (t.bench pb).fm.regs = f.regs) ∧
    (w = 0x10500073 → ∃ t, exec (.foremanInstruction pb) s = .next t ∧ BenchOnly s t pb (s.bench pb) ∧ (t.bench pb).fm.st = .wfi ∧
      (t.bench pb).fm.pc = f.pc ∧ (t.bench pb).fm.regs = f.regs)) ∧
  (∀ (s : State) (pb : Fin 68) (on code target : Nat), s.running = true → (s.bench pb).fmLive = true →
    ((s.bench pb).fm.st = .running ∨ (s.bench pb).fm.st = .wfi) → (s.bench pb).fm.mieBit = true →
    on = s.mip pb &&& (s.bench pb).fm.mie.toNat → on ≠ 0 →
    code = (if bit on 16 then 16 else if bit on 17 then 17 else 7) →
    (∀ i h, s.msgRing pb = some i → bit on 16 = true → h = getBits (s.ringHead pb i 0) 35 28 →
      target = if s.flag (Fld.BENCH_HANDLER_VALID pb h) then s.rd (Fld.BENCH_HANDLER_ADDR pb h) else (s.bench pb).fm.mtvec.toNat) →
    (bit on 16 = false → target = (s.bench pb).fm.mtvec.toNat) →
    ∃ t, exec (.foremanInterrupt pb) s = .next t ∧ BenchOnly s t pb (s.bench pb) ∧ (t.bench pb).fm.st = .running ∧
      (t.bench pb).fm.mcause = BitVec.ofNat 64 (2 ^ 63 + code) ∧ (t.bench pb).fm.mepc = BitVec.ofNat 64 (s.bench pb).fm.pc ∧
      (t.bench pb).fm.mtval = 0 ∧ (t.bench pb).fm.mieBit = false ∧ (t.bench pb).fm.mpie = true ∧
      (t.bench pb).fm.pc = target ∧ (t.bench pb).fm.reserved = false ∧ (t.bench pb).fm.regs = (s.bench pb).fm.regs)

/-- Messages and credits: a message whose ring is enabled, has a free entry and is of the bench's tenant is written at the entry of WR_COUNT,
which rises; any other is counted as dropped and stores nothing. A credit return raises AVAIL of a configured route by one, at most to
CREDITS. Writing a route of an IDLE bench sets AVAIL to its CREDITS. -/
def Obligations.MessagesAndCreditsMove : Prop :=
  (∀ (s : State) (n : Nat) (m : Message) (pb a : Nat), s.running = true → s.net.messages[n]? = some m → pb = s.physOf m.dest → m.ring < 16 →
    a = s.ringEntry pb m.ring (s.rd (Fld.BENCH_RING_PTR_WR_COUNT pb m.ring)) →
    (s.dropsMessage pb m = false → ∃ t, exec (.messageArrival n) s = .next t ∧
      t = { s with benches := t.benches, regs := t.regs, net := t.net, links := t.links } ∧ BenchesApart s t pb ∧
      (m.link = none → t.links = s.links) ∧
      (∀ k, m.link = some k → m.flits ≠ 0 → (t.link k).due = (s.link k).due ++ [⟨3, m.cls, m.flits⟩]) ∧
      t.net = { s.net with messages := s.net.messages.eraseIdx n } ∧ RegsApart s t [Reg.BENCH_RING_PTR pb m.ring] ∧
      t.rd (Fld.BENCH_RING_PTR_WR_COUNT pb m.ring) = (s.rd (Fld.BENCH_RING_PTR_WR_COUNT pb m.ring) + 1) % 65536 ∧
      t.rd (Fld.BENCH_RING_PTR_RD_COUNT pb m.ring) = s.rd (Fld.BENCH_RING_PTR_RD_COUNT pb m.ring) ∧
      t.bench pb = { s.bench pb with dmem := writeEntry (s.bench pb).dmem a m } ∧
      (m.payload.length ≤ 256 → ∀ k, k < a ∨ a + 288 ≤ k → (t.bench pb).dmem.mem.readByte k = (s.bench pb).dmem.mem.readByte k)) ∧
    (s.dropsMessage pb m = true → ∃ t, exec (.messageArrival n) s = .next t ∧ t.benches = s.benches ∧
      t.cnt (Fld.BENCH_RING_PTR_DROPPED pb m.ring) = min 65535 (s.cnt (Fld.BENCH_RING_PTR_DROPPED pb m.ring) + 1) ∧
      t.regs = s.regs ∧ t.net.messages = s.net.messages.eraseIdx n)) ∧
  (∀ (s : State) (n : Nat) (c : CreditReturn) (pb : Nat), s.running = true → s.net.credits[n]? = some c → pb = s.physOf c.bench →
    c.route < 256 →
    (s.routeOk pb c.route = true → ∃ t, exec (.creditReturnArrival n) s = .next t ∧ t = { s with regs := t.regs, rc := t.rc, net := t.net } ∧
      t.net = { s.net with credits := s.net.credits.eraseIdx n } ∧ RegsApart s t [Reg.BENCH_ROUTE_STAT pb c.route] ∧
      t.rd (Fld.BENCH_ROUTE_STAT_AVAIL pb c.route) =
        min (s.rd (Fld.BENCH_ROUTE_CREDITS pb c.route)) (s.rd (Fld.BENCH_ROUTE_STAT_AVAIL pb c.route) + 1)) ∧
    (s.routeOk pb c.route = false →
      exec (.creditReturnArrival n) s = .next { s with net := { s.net with credits := s.net.credits.eraseIdx n } })) ∧
  (∀ (s : State) (vw : View) (b : BenchRef) (pb : Nat) (r : Fin 256) (d : Reg64), s.benchWritable vw b (0x1000 + 8 * r.val) pb →
    s.benchIdle pb = true → ∃ t, exec (.routeWrite vw b r d) s = .next t ∧ t = { s with regs := t.regs } ∧
      RegsApart s t [Reg.BENCH_ROUTE pb r, Reg.BENCH_ROUTE_STAT pb r] ∧
      t.reg (Reg.BENCH_ROUTE pb r) = accWrite (regFields (Reg.BENCH_ROUTE pb r)) (s.reg (Reg.BENCH_ROUTE pb r)) d ∧
      t.rd (Fld.BENCH_ROUTE_STAT_AVAIL pb r) = getBits d 31 24)

/-! ### Scrubbers, patrol and local HBM -/

/-- Scrub steps. A Pool scrubber of an IDLE or HALTED bench completes its row: ROW advances, PASSES counts a full pass, LAG counts a step
that was still waiting, and nothing else changes where no word is bad; a new uncorrectable word is marked and counted; in RINSING the step
waits. A Foreman memory of a stopped Foreman is scrubbed likewise; whether a Basin's step finds its slot is open. A patrol read counts
passes, and its uncorrectable word is marked and counted. -/
def Obligations.ScrubbersStepAndReport : Prop :=
  (∀ (s : State) (pb : Fin 68) (p : ScrubPtr), s.running = true → p = (s.bench pb).scrub memPool → p.row < 4096 →
    ((s.bench pb).mode = .idle ∨ (s.bench pb).mode = .halted → (s.bench pb).pool.bad = [] →
      (∃ t, exec (.poolScrubStep pb .clean) s = .next t ∧ t = { s with benches := t.benches, regs := t.regs, rc := t.rc } ∧
        BenchesApart s t pb ∧ t.bench pb = (s.bench pb).setScrub memPool ⟨(p.row + 1) % 4096, false⟩ ∧
        RegsApart s t [Reg.BENCH_SCRUB_STATUS pb] ∧ t.rd (Fld.BENCH_SCRUB_STATUS_ROW pb) = (p.row + 1) % 4096 ∧
        t.rd (Fld.BENCH_SCRUB_STATUS_PASSES pb) =
          (if p.row = 4095 then (s.rd (Fld.BENCH_SCRUB_STATUS_PASSES pb) + 1) % 2 ^ 32 else s.rd (Fld.BENCH_SCRUB_STATUS_PASSES pb)) ∧
        t.cnt (Fld.BENCH_SCRUB_STATUS_LAG pb) = (if p.busy then min 65535 (s.cnt (Fld.BENCH_SCRUB_STATUS_LAG pb) + 1)
          else s.cnt (Fld.BENCH_SCRUB_STATUS_LAG pb))) ∧
      (∃ t, exec (.poolScrubStep pb .uncorrectable) s = .next t ∧ (t.bench pb).pool.bad = [512 * p.row] ∧
        (t.bench pb).pool.mem = (s.bench pb).pool.mem ∧ (t.spoil.inFlight.getLast?).map (·.cls) = some 0x02 ∧
        t.cnt (Fld.BENCH_ECC_STATUS_POOL_UNCORR pb) = min 255 (s.cnt (Fld.BENCH_ECC_STATUS_POOL_UNCORR pb) + 1))) ∧
    (∀ ecc, (s.bench pb).mode = .rinsing → ∃ t, exec (.poolScrubStep pb ecc) s = .next t ∧
      t.bench pb = (s.bench pb).setScrub memPool ⟨p.row, true⟩)) ∧
  (∀ (s : State) (pb : Fin 68) (instr : Bool) (k rows : Nat) (p : ScrubPtr), s.running = true → (s.bench pb).fm.st = .stopped →
    (s.bench pb).mode ≠ .rinsing → (k = memInstr ∧ rows = 512 ∧ instr = true ∨ k = memData ∧ rows = 1024 ∧ instr = false) →
    p = (s.bench pb).scrub k → (s.bench pb).imem.bad = [] → (s.bench pb).dmem.bad = [] →
    ∃ t, exec (.foremanScrubStep pb instr .clean) s = .next t ∧ t = { s with benches := t.benches, rc := t.rc } ∧ BenchesApart s t pb ∧
      t.bench pb = (s.bench pb).setScrub k ⟨(p.row + 1) % rows, false⟩) ∧
  (∀ (s : State) (l : Fin 4) (p : ScrubPtr), s.running = true → p = Sparse.get (fun _ => ScrubPtr.reset) s.ledges.scrub l.val →
    (s.basin l.val).bad = [] →
    ∃ (t : State) (done : Bool), exec (.basinScrubStep l .clean) s = .next t ∧ t.fresh = s.fresh + 1 ∧ (∀ m, t.basin m = s.basin m) ∧
      Sparse.get (fun _ => ScrubPtr.reset) t.ledges.scrub l.val = (if done then ⟨(p.row + 1) % 65536, false⟩ else ⟨p.row, true⟩) ∧
      t.cnt (Fld.DEVCTL_BASIN_ECC_LAG l) = (if p.busy then min 255 (s.cnt (Fld.DEVCTL_BASIN_ECC_LAG l) + 1)
        else s.cnt (Fld.DEVCTL_BASIN_ECC_LAG l)) ∧ (∀ m n, t.lease m n = s.lease m n)) ∧
  (∀ (s : State) (c : Fin 256) (w : BitVec 26) (n : Nat), s.running = true → s.hbm.mem.bad = [] →
    n = (Sparse.get (fun _ => 0) s.hbm.patrol c.val + 1) % 2 ^ 26 →
    (∃ t, exec (.hbmPatrolRead c w .clean) s = .next t ∧ t = { s with hbm := t.hbm, regs := t.regs } ∧ t.hbm.mem = s.hbm.mem ∧
      Sparse.get (fun _ => 0) t.hbm.patrol c.val = n ∧ RegsApart s t [Reg.MEMC_CH_ECC c] ∧
      t.rd (Fld.MEMC_CH_ECC_PASSES c) = (if n = 0 then (s.rd (Fld.MEMC_CH_ECC_PASSES c) + 1) % 2 ^ 32 else s.rd (Fld.MEMC_CH_ECC_PASSES c))) ∧
    (∃ t, exec (.hbmPatrolRead c w .uncorrectable) s = .next t ∧ t.hbm.mem = { s.hbm.mem with bad := [c.val * 2 ^ 26 + w.toNat] } ∧
      t.cnt (Fld.MEMC_CH_ECC_UNCORR c) = min 255 (s.cnt (Fld.MEMC_CH_ECC_UNCORR c) + 1) ∧
      (15 ≤ Sparse.get (fun _ => 0) s.hbm.uncorr c.val → t.flag (Fld.MEMC_CH_STATUS_PENDING c) = true)))

/-- Local HBM as a unit. HBM_FILL_GO by Matumon starts a fill of COUNT + 1 pages from FIRST, or only sets OVERRUN while one runs or beyond the last
page; at HBM_FILL_COMPLETE its pages read zero and DONE is set. HBM_REMAP of a quiet device with no gang assigned sets the active list
and the split, leaves every word unpredictable and starts a fill of all pages; otherwise it changes nothing. A temperature sample sets TEMP
and HOT of every stack present and raises the request to the deepest step whose threshold the hottest stack reaches; TARGET is the deepest
posted request. -/
def Obligations.HbmFillsRemapsAndThrottles : Prop :=
  ((∀ (s : State) (n f : BitVec 18), s.writable .matumon Reg.DEVCTL_HBM_FILL = true →
     ∃ t, exec (.hbmFillGo .matumon n f) s = .next t ∧ t = { s with regs := t.regs, hbm := t.hbm } ∧
       RegsApart s t [Reg.DEVCTL_HBM_FILL] ∧ t.hbm.mem = s.hbm.mem ∧
       (s.hbm.fills ≠ [] ∨ s.hbmPages < f.toNat + n.toNat + 1 →
         t.hbm = s.hbm ∧ t.flag Fld.DEVCTL_HBM_FILL_OVERRUN = true) ∧
       (s.hbm.fills = [] → f.toNat + n.toNat + 1 ≤ s.hbmPages →
         t.hbm.fills = [⟨(List.range (n.toNat + 1)).map (· + f.toNat), .register⟩] ∧ t.flag Fld.DEVCTL_HBM_FILL_BUSY = true)) ∧
   (∀ (s : State) (j : FillJob), s.running = true → s.hbm.fills = [j] → j.purpose = .register →
     ∃ t, exec .hbmFillComplete s = .next t ∧ t.hbm.fills = [] ∧ t.flag Fld.DEVCTL_HBM_FILL_DONE = true ∧
       t.flag Fld.DEVCTL_HBM_FILL_BUSY = false ∧ (∀ pb, t.bench pb = s.bench pb) ∧ t.ledges = s.ledges ∧ t.primes = s.primes)) ∧
  ((∀ (s : State) (act : BitVec 256) (split : BitVec 7), s.running = true →
     (s.anyAssigned = false → s.hbmQuiet = true → split.toNat ≤ 64 →
       ∃ t, exec (.hbmRemap act split) s = .next t ∧
         t = { s with regs := t.regs, hbm := t.hbm, fresh := s.fresh + 1, power := t.power, spoil := t.spoil } ∧
         t.hbm = { s.hbm with mem := ⟨Mem.free s.fresh, []⟩, fills := [⟨List.range t.hbmPages, .register⟩] } ∧
         (∀ k, k < 4 → t.rd (Fld.DEVCTL_HBM_ACT_ACT k) = act.toNat / 2 ^ (64 * k) % 2 ^ 64) ∧
         t.rd Fld.DEVCTL_HBM_CFG_SPLIT = split.toNat ∧
         t.rd Fld.DEVCTL_HBM_CFG_ACTIVE = ((List.range 256).filter (fun c => act.getLsbD c)).length ∧
         t.flag Fld.DEVCTL_HBM_FILL_BUSY = true ∧
         t.power = { s.power with ledger := { s.power.ledger with split := split.toNat } }) ∧
     (s.anyAssigned = true ∨ s.hbmQuiet = false → exec (.hbmRemap act split) s = .next s)) ∧
   (∀ (s : State) (temps : List (BitVec 8)), s.running = true → temps.length = 8 →
     ∃ t, exec (.hbmTempSample temps) s = .next t ∧
       (∀ x, x < 8 → s.flag (Fld.DEVCTL_HBM_STACK_PRESENT x) = true →
         t.rd (Fld.DEVCTL_HBM_STACK_TEMP x) = (temps.getD x 0).toNat ∧
         t.flag (Fld.DEVCTL_HBM_STACK_HOT x) = (decide (85 ≤ (temps.getD x 0).toNat) ||
           (s.flag (Fld.DEVCTL_HBM_STACK_HOT x) && decide (82 ≤ (temps.getD x 0).toNat))) ∧
         (s.rd Fld.DEVCTL_HBM_THERM_T5 ≤ (temps.getD x 0).toNat → 1 ≤ t.rd Fld.DEVCTL_HBM_THERM_REQUEST) ∧
         (s.rd Fld.DEVCTL_HBM_THERM_T6 ≤ (temps.getD x 0).toNat → 2 ≤ t.rd Fld.DEVCTL_HBM_THERM_REQUEST) ∧
         (s.rd Fld.DEVCTL_HBM_THERM_T8 ≤ (temps.getD x 0).toNat → t.rd Fld.DEVCTL_HBM_THERM_REQUEST = 3)) ∧
       (s.rd Fld.DEVCTL_HBM_THERM_REQUEST < t.rd Fld.DEVCTL_HBM_THERM_REQUEST → (t.spoil.inFlight.getLast?).map (·.cls) = some 0x16) ∧
       t.rd Fld.DEVCTL_HBM_THERM_REQUEST ≤ t.rd Fld.CLKPWR_THROTTLE_TARGET ∧ t.hbm.mem = s.hbm.mem ∧ t.benches = s.benches))

/-- The traffic generator of a channel in TEST: GO starts a run of the operation, pattern and range that stand, STOP ends it no later than
its range would, and at completion BUSY is clear and DONE set; a write of zeros leaves zeros in its granules and touches no other byte; a
reading run that fails sets FAIL, the count and the first failing granule. -/
def Obligations.TrafficGeneratorRuns : Prop :=
  (∀ (s : State) (vw : View) (c : Fin 256) (d : Reg64), s.writable vw (Reg.MEMC_CH_TG_CTL c) = true → getBits d 61 60 ≤ 2 → getBits d 59 57 ≤ 4 →
    (s.rd (Fld.MEMC_CH_STATUS_STATE c) = 1 → s.rd (Fld.MEMC_CH_TG_RANGE_FIRST c) + s.rd (Fld.MEMC_CH_TG_RANGE_LINES c) ≤ 2 ^ 22 →
      s.tgRun c = none →
      ∃ t, exec (.tgGo vw c d) s = .next t ∧ t = { s with regs := t.regs, hbm := t.hbm } ∧ t.hbm = { s.hbm with tg := t.hbm.tg } ∧
        t.tgRun c = some ⟨getBits d 61 60, getBits d 59 57, s.rd (Fld.MEMC_CH_TG_RANGE_FIRST c), s.rd (Fld.MEMC_CH_TG_RANGE_LINES c)⟩ ∧
        t.flag (Fld.MEMC_CH_TG_STATUS_BUSY c) = true ∧ RegsApart s t [Reg.MEMC_CH_TG_CTL c, Reg.MEMC_CH_TG_STATUS c]) ∧
    (∀ r, s.tgRun c = some r → ∃ t n, exec (.tgStop vw c d) s = .next t ∧
      t = { s with regs := t.regs, hbm := t.hbm, fresh := s.fresh + 1 } ∧ n ≤ r.lines ∧ t.tgRun c = some { r with lines := n } ∧
      t.hbm.mem = s.hbm.mem)) ∧
  (∀ (s : State) (c : Fin 256) (fails : List (BitVec 22)) (r : TgRun), s.running = true → s.tgRun c = some r →
    (r.op = 0 → r.pattern = 0 → ∃ t, exec (.tgRunComplete c fails) s = .next t ∧ t.tgRun c = none ∧
      t.flag (Fld.MEMC_CH_TG_STATUS_BUSY c) = false ∧ t.flag (Fld.MEMC_CH_TG_STATUS_DONE c) = true ∧
      t.flag (Fld.MEMC_CH_TG_STATUS_FAIL c) = s.flag (Fld.MEMC_CH_TG_STATUS_FAIL c) ∧
      (∀ a, t.hbm.mem.mem.readByte a = (if c.val * 2 ^ 31 + r.first * 512 ≤ a ∧ a < c.val * 2 ^ 31 + (r.first + r.lines) * 512 then 0
        else s.hbm.mem.mem.readByte a))) ∧
    (∀ g rest, r.op = 1 → 2 ≤ r.pattern → s.devState ≠ devClearing →
      ((List.range r.lines).map (· + r.first)).filter (fun x => (fails.map BitVec.toNat).contains x) = g :: rest →
      ∃ t, exec (.tgRunComplete c fails) s = .next t ∧ t = { s with regs := t.regs, rc := t.rc, hbm := t.hbm } ∧ t.tgRun c = none ∧
        t.hbm.mem = s.hbm.mem ∧ t.flag (Fld.MEMC_CH_TG_STATUS_DONE c) = true ∧ t.flag (Fld.MEMC_CH_TG_STATUS_FAIL c) = true ∧
        t.rd (Fld.MEMC_CH_TG_STATUS_FIRST_FAIL c) = g % 2 ^ 22 ∧
        t.cnt (Fld.MEMC_CH_TG_STATUS_FAIL_COUNT c) =
          min 65535 (s.cnt (Fld.MEMC_CH_TG_STATUS_FAIL_COUNT c) + (rest.length + 1))))

/-! ### The fabric links -/

namespace Sys2Proof.Machine

/-- The register of a link's port control is open to a view, its half exists, and nothing that the write of d must not carry is in it. -/
structure State.portWritable (s : State) (vw : View) (lk : Fin 64) (d : Reg64) : Prop where
  writable : s.writable vw (Reg.FAB_PORT_CTL lk) = true
  exists_ : s.linkExists lk = true
  mode : getBits d 57 56 ≠ 3
  split : lk.val % 2 = 1 ∨ d.getLsbD 48 = s.flag (Fld.FAB_PORT_CTL_SPLIT lk)

/-- A lane event reaches the device: it runs, and no thermal trip has idled its lanes. -/
def State.laneOk (s : State) : Prop := s.running = true ∧ s.power.thermtrip = false

/-- Only registers of one link's port have changed. -/
def PortOnly (s t : State) (lk : Fin 64) : Prop :=
  t = { s with regs := t.regs } ∧ ∀ k, (k < 0x80000 + 0x800 * lk.val ∨ 0x80800 + 0x800 * lk.val ≤ k) → t.reg k = s.reg k

/-- The link layer of a link as a loss leaves it: no sequence, nothing to replay, to send or to return. -/
def LayerLost (l : Link) : Prop :=
  l.txSeq = 0 ∧ l.rxSeq = 0 ∧ l.nak = false ∧ l.replay = [] ∧ l.egress = [] ∧ l.due = [] ∧ l.partials = []

end Sys2Proof.Machine

/-- Link states. ENABLE takes a DISABLED link to DETECT, clearing it takes any link to DISABLED with its layer lost, RETRAIN takes an ACTIVE link to
RETRAIN and a DOWN one to DETECT, LL_RESET clears the replay buffer and sequence numbers until LL_RESET_COMPLETE restores the credits. DETECT
leaves for EQUALISE when all lanes but at most one see the partner; EQUALISE goes to MEASURE, MEASURE to EXCHANGE, EXCHANGE to ACTIVE with the
partner's credits or to DOWN with the first reason that holds; a limit sends a training link back to DETECT; RETRAIN ends in ACTIVE with the layer
kept; the first lane that fails sends the link to RETRAIN, the second to DOWN with reason 1. -/
def Obligations.LinksTrainAndObeyTheirPorts : Prop :=
  ((∀ (s : State) (vw : View) (lk : Fin 64) (d : Reg64), s.portWritable vw lk d →
     (s.flag (Fld.FAB_PORT_CTL_ENABLE lk) = false → s.linkState lk = lkDisabled → ∃ t, exec (.linkEnable vw lk d) s = .next t ∧
       PortOnly s t lk ∧ t.linkState lk = lkDetect ∧ t.flag (Fld.FAB_PORT_CTL_ENABLE lk) = true) ∧
     (s.flag (Fld.FAB_PORT_CTL_ENABLE lk) = true → s.linkState lk ≠ lkDisabled → ∃ t, exec (.linkDisable vw lk d) s = .next t ∧
       t.linkState lk = lkDisabled ∧ t.flag (Fld.FAB_PORT_CTL_ENABLE lk) = false ∧ t.rd (Fld.FAB_PORT_STATUS_LANES_UP lk) = 0 ∧
       t.spoil = s.spoil ∧ t.benches = s.benches ∧ t.hbm = s.hbm ∧ (s.linkUp lk = true → LayerLost (t.link lk)) ∧
       (s.linkUp lk = false → PortOnly s t lk)) ∧
     (s.linkState lk = lkActive → ∃ t, exec (.linkRetrain vw lk d) s = .next t ∧ PortOnly s t lk ∧ t.linkState lk = lkRetrain) ∧
     (s.linkState lk = lkDown → ∃ t, exec (.linkRetrain vw lk d) s = .next t ∧ t.linkState lk = lkDetect ∧
       t.cnt (Fld.FAB_PORT_STATUS_TRAIN_ATTEMPTS lk) = min 65535 (s.cnt (Fld.FAB_PORT_STATUS_TRAIN_ATTEMPTS lk) + 1) ∧
       t.links = s.links ∧ t.spoil = s.spoil) ∧
     (s.linkState lk = lkActive → (s.link lk).resetting = false → ∃ t, exec (.llReset vw lk d) s = .next t ∧
       t.linkState lk = lkActive ∧ (t.link lk).resetting = true ∧ (t.link lk).replay = [] ∧ (t.link lk).txSeq = 0 ∧
       (t.link lk).rxSeq = 0 ∧ (t.link lk).due = [] ∧ (t.link lk).partials = [] ∧ (∀ e ∈ (t.link lk).egress, e.sent = 0) ∧
       t.benches = s.benches ∧ t.spoil = s.spoil)) ∧
   (∀ (s : State) (lk : Fin 64), s.laneOk → (s.link lk).resetting = true → s.net.held = false →
     ∃ t, exec (.llResetComplete lk) s = .next t ∧ t = { s with regs := t.regs, links := t.links } ∧ LinksApart s t lk ∧
       t.link lk = { s.link lk with resetting := false } ∧
       (∀ vc, vc < 8 → t.rd (Fld.FAB_PORT_CREDIT_AVAIL0 lk vc) =
         (if vc = 0 ∨ vc = 6 then (s.link lk).partnerAlloc.getD vc 0 else (s.link lk).partnerAlloc.getD vc 0 / 2) % 1024 ∧
         t.rd (Fld.FAB_PORT_CREDIT_AVAIL1 lk vc) =
           (if vc = 0 ∨ vc = 6 then 0 else (s.link lk).partnerAlloc.getD vc 0 / 2) % 1024))) ∧
  ((∀ (s : State) (lk : Fin 64), s.laneOk →
     (s.linkState lk = lkDetect → ∃ t, exec (.linkDetectRetry lk) s = .next t ∧ t = { s with rc := t.rc } ∧
       t.cnt (Fld.FAB_PORT_STATUS_TRAIN_ATTEMPTS lk) = min 65535 (s.cnt (Fld.FAB_PORT_STATUS_TRAIN_ATTEMPTS lk) + 1)) ∧
     (∀ lanes : BitVec 8, s.linkState lk = lkDetect →
       (s.lanesOf lk ≤ popcount lanes.toNat (s.lanesOf lk) + 1 → ∃ t, exec (.linkPartnerSeen lk lanes) s = .next t ∧
         t = { s with regs := t.regs, links := t.links } ∧ t.linkState lk = lkEqualise ∧ LinksApart s t lk ∧
         (t.link lk).trained = lanes.toNat % 2 ^ s.lanesOf lk ∧ t.reg (Reg.FAB_PORT_MEAS lk) = 0 ∧
         t.reg (Reg.FAB_PORT_LANE_LOSS lk) = BitVec.allOnes 64) ∧
       (popcount lanes.toNat (s.lanesOf lk) + 1 < s.lanesOf lk → exec (.linkPartnerSeen lk lanes) s = .next s)) ∧
     (s.linkState lk = lkEqualise → ∃ t, exec (.linkEqualiseDone lk) s = .next t ∧ PortOnly s t lk ∧ t.linkState lk = lkMeasure) ∧
     (∀ (rtt : BitVec 20) (ls : List (BitVec 8)), s.linkState lk = lkMeasure → ls.length = 8 →
       ∃ t, exec (.linkMeasureDone lk rtt ls) s = .next t ∧ PortOnly s t lk ∧ t.linkState lk = lkExchange ∧
         t.rd (Fld.FAB_PORT_MEAS_RTT lk) = rtt.toNat ∧ t.rd (Fld.FAB_PORT_MEAS_LENGTH lk) = (rtt.toNat + 5) / 10 % 65536 ∧
         (∀ i, i < 8 → t.rd (Fld.FAB_PORT_LANE_LOSS_LOSS lk i) =
           (if i < s.lanesOf lk ∧ bit (s.link lk).trained i = true then (ls.getD i 0xFF).toNat else 0xFF))) ∧
     (s.linkState lk = lkEqualise ∨ s.linkState lk = lkMeasure ∨ s.linkState lk = lkExchange → ∃ t, exec (.linkStateTimeout lk) s = .next t ∧
       t.linkState lk = lkDetect ∧ t.links = s.links ∧ t.spoil = s.spoil ∧
       t.cnt (Fld.FAB_PORT_STATUS_TRAIN_ATTEMPTS lk) = min 65535 (s.cnt (Fld.FAB_PORT_STATUS_TRAIN_ATTEMPTS lk) + 1)) ∧
     (s.linkState lk = lkRetrain → ∃ t, exec (.linkStateTimeout lk) s = .next t ∧ t.linkState lk = lkDetect ∧ LayerLost (t.link lk) ∧
       (t.spoil.inFlight.getLast?).map (·.cls) = some 0x0D) ∧
     (s.linkState lk = lkRetrain → (s.link lk).spareLane = none → ∃ t, exec (.linkRetrainDone lk) s = .next t ∧ PortOnly s t lk ∧
       t.linkState lk = lkActive ∧ t.rd (Fld.FAB_PORT_STATUS_LINK_UPS lk) = (s.rd (Fld.FAB_PORT_STATUS_LINK_UPS lk) + 1) % 65536) ∧
     (∀ lane : Fin 8, s.linkState lk = lkRetrain → (s.link lk).spareLane = some lane.val →
       bit (s.rd (Fld.FAB_PORT_STATUS_LANES_UP lk)) lane = true → ∃ t, exec (.linkRetrainDone lk) s = .next t ∧
       t.linkState lk = lkActive ∧ t.rd (Fld.FAB_PORT_STATUS_SPARED lk) = lane.val ∧
       t.rd (Fld.FAB_PORT_STATUS_LANES_UP lk) = s.rd (Fld.FAB_PORT_STATUS_LANES_UP lk) - 2 ^ lane.val ∧
       t.link lk = { s.link lk with spareLane := none } ∧ (t.spoil.inFlight.getLast?).map (·.cls) = some 0x0E) ∧
     (∀ lane : Fin 8, s.linkState lk = lkActive → bit (s.rd (Fld.FAB_PORT_STATUS_LANES_UP lk)) lane = true → (s.link lk).spareLane = none →
       (s.rd (Fld.FAB_PORT_STATUS_SPARED lk) = 0xF → ∃ t, exec (.laneFailure lk lane) s = .next t ∧ t.linkState lk = lkRetrain ∧
         t.link lk = { s.link lk with spareLane := some lane.val } ∧ LinksApart s t lk ∧ t.spoil = s.spoil) ∧
       (s.rd (Fld.FAB_PORT_STATUS_SPARED lk) ≠ 0xF → ∃ t, exec (.laneFailure lk lane) s = .next t ∧ t.linkState lk = lkDown ∧
         t.rd (Fld.FAB_PORT_STATUS_DOWN_REASON lk) = 1 ∧ LayerLost (t.link lk) ∧
         (t.spoil.inFlight.getLast?).map (·.cls) = some 0x0D))) ∧
   (∀ (s : State) (lk : Fin 64) (c : CapBlock) (r n lanes : Nat), s.laneOk → s.linkState lk = lkExchange → c.alloc.length = 8 →
     n = s.lanesOf lk → lanes = (s.link lk).trained &&& c.lanes.toNat →
     r = (if popcount lanes n + 1 < n then 1 else if c.version.toNat / 16 ≠ Config.linkMajor then 2
       else if c.serial = s.reg Reg.DEVCTL_SERIAL then 3 else if c.half ≠ s.isHalf lk then 4
       else if s.agreeLr lk c = true ∧ (s.rd (Fld.FAB_PORT_CTL_MODE_REQ lk) = 1 ∨ c.modeReq.toNat = 1) then 5
       else if 50000 < s.rd (Fld.FAB_PORT_MEAS_RTT lk) then 6 else 0) →
     ∃ t, exec (.linkExchangeDone lk c) s = .next t ∧ t.linkState lk = (if r = 0 then lkActive else lkDown) ∧
       t.rd (Fld.FAB_PORT_STATUS_DOWN_REASON lk) = r ∧ t.rd (Fld.FAB_PORT_PARTNER0_DEV lk) = c.dev.toNat ∧
       t.reg (Reg.FAB_PORT_PARTNER1 lk) = c.serial ∧ LinksApart s t lk ∧
       (r = 0 → t.flag (Fld.FAB_PORT_STATUS_MODE lk) = s.agreeLr lk c ∧ t.rd (Fld.FAB_PORT_STATUS_LANES_UP lk) = lanes % 2 ^ n ∧
         t.rd (Fld.FAB_PORT_STATUS_LINK_UPS lk) = (s.rd (Fld.FAB_PORT_STATUS_LINK_UPS lk) + 1) % 65536 ∧
         t.rd (Fld.FAB_PORT_CREDIT_AVAIL0 lk 0) = (c.alloc.getD 0 0).toNat % 1024 ∧
         t.rd (Fld.FAB_PORT_CREDIT_AVAIL1 lk 1) = (c.alloc.getD 1 0).toNat / 2 % 1024)))

/-- Flits. A slot of an ACTIVE link with nothing to send carries a null flit with the credit return that is due; else the flit chosen goes
out, takes the next sequence number and one credit of its class, and stays in the replay buffer. A flit that fails FEC or its CRC, or one
out of sequence, is refused and NAK goes back; a good one in sequence is acknowledged. OPTICAL follows the module pins of the links that
exist. -/
def Obligations.FlitsAreSentAndChecked : Prop :=
  (∀ (s : State) (lk : Fin 64), s.laneOk → s.linkState lk = lkActive → (s.link lk).resetting = false → (s.link lk).resend = 0 →
    ((s.link lk).egress = [] → ∃ t bytes, exec (.flitSend lk) s = .next t ∧ t = { s with links := t.links, out := t.out } ∧
      t.out = s.out ++ [.flit lk bytes] ∧ LinksApart s t lk ∧ (t.link lk).txSeq = (s.link lk).txSeq ∧
      (t.link lk).replay = (s.link lk).replay ∧ bytes.length = 256 ∧
      (∀ d rest, (s.link lk).due = d :: rest → d.count < 1024 → (t.link lk).due = rest)) ∧
    (∀ i e f rest, (s.choose lk).1.place = some i → (s.link lk).egress[i]? = some e → e.flits = f :: rest → e.source = none →
      (s.link lk).replay.length < 512 →
      ∃ t bytes g, exec (.flitSend lk) s = .next t ∧ t = { s with regs := t.regs, links := t.links, out := t.out } ∧
        t.out = s.out ++ [.flit lk bytes] ∧ LinksApart s t lk ∧ (t.link lk).txSeq = ((s.link lk).txSeq + 1) % 4096 ∧
        (t.link lk).replay = (s.link lk).replay ++ [(((s.link lk).txSeq + 1) % 4096, g)] ∧ g.body = f.body ∧ g.vc = f.vc ∧
        t.rd (availFld lk e.vc e.cls) = s.rd (availFld lk e.vc e.cls) - 1)) ∧
  (∀ (s : State) (lk : Fin 64) (flit : List Byte) (unc : Bool) (corr : BitVec 16), s.laneOk → s.linkState lk = lkActive →
    (s.link lk).resetting = false → flit.length = 256 →
    (unc = true ∨ flitCrcOk (natBytes flit) = false ∨ ((Flit.decode (natBytes flit)).2.null = false ∧
        (Flit.decode (natBytes flit)).2.seq ≠ nextSeq (s.link lk).rxSeq) →
      ∃ t, exec (.flitReceive lk flit unc corr) s = .next t ∧ t = { s with links := t.links, rc := t.rc } ∧ LinksApart s t lk ∧
        t.link lk = { s.link lk with nak := true }) ∧
    (unc = false → flitCrcOk (natBytes flit) = true → (Flit.decode (natBytes flit)).2.null = false →
      (Flit.decode (natBytes flit)).2.seq = nextSeq (s.link lk).rxSeq →
      ∃ t, exec (.flitReceive lk flit unc corr) s = .next t ∧ (t.link lk).rxSeq = ((s.link lk).rxSeq + 1) % 4096 ∧
        (t.link lk).nak = false ∧ (t.link lk).txSeq = (s.link lk).txSeq ∧ t.hbm = s.hbm)) ∧
  (∀ (s : State) (pins : BitVec 64), s.laneOk → ∃ t, exec (.modulePresenceSample pins) s = .next t ∧ t = { s with regs := t.regs } ∧
    ∀ lk : Fin 64, t.flag (Fld.FAB_PORT_STATUS_OPTICAL lk) =
      (if s.linkExists lk = true then !pins.getLsbD lk.val else s.flag (Fld.FAB_PORT_STATUS_OPTICAL lk)) ∧
      t.linkState lk = s.linkState lk)

namespace Sys2Proof.Machine

/-- Packet p of a kind stands at place n of those delivered, and the answers of this device go out on link lk in class cls. -/
structure State.asked (s : State) (n kind : Nat) (p : Packet) (lk cls : Nat) : Prop where
  running : s.running = true
  there : ∃ from_, s.net.inbox[n]? = some ⟨p, from_⟩
  kind : p.kind = kind
  free : s.fenced = false ∧ s.net.held = false
  way : ∀ q : Packet, q.dest = p.src → q.src = s.devId → ∃ up, s.nextHop q = .link lk up ∧ b2n up = cls

/-- An answer of a kind to p with a payload stands last in the egress of link lk, with the requester's identity. -/
def Answered (s t : State) (p : Packet) (lk cls kind : Nat) (err : Bool) (payload : List Byte) : Prop :=
  ∃ q : Packet, q.dest = p.src ∧ q.src = s.devId ∧ q.gen = s.rd Fld.HALL_ID_GEN ∧ q.kind = kind ∧ q.srcBench = p.srcBench ∧
    q.tenant = p.tenant ∧ q.tag = p.tag ∧ q.epoch = p.epoch ∧ q.payload = payload ∧ q.argB = (if err then 1 else 0) ∧
    (t.link lk).egress = (s.link lk).egress ++ [⟨(kindRow kind).1, cls, q.len, q.toFlits cls, 0, none, 0⟩]

end Sys2Proof.Machine

/-- Packets for this device. A read of an exported page of the requester's tenant is answered with the words that stand there, a write puts
its words there and is acknowledged, and any other read or write is answered with an error, zeros for a read, and changes no memory. A request record enters the
ring of a running service that admits the fabric and whose intake is open, else it is refused; a bulk segment is stored if the tenant owns
its pages, else refused; an acknowledgement and a management packet reach firmware. -/
def Obligations.DeliveredPacketsAreAnswered : Prop :=
  (∀ (s : State) (n : Nat) (p : Packet) (lk cls : Nat), s.asked n kRdReq p lk cls →
    (s.exportAt p = none → ∃ t, exec (.hallReadRequest n) s = .next t ∧ t = { s with net := t.net, links := t.links } ∧
      t.net = { s.net with inbox := s.net.inbox.eraseIdx n } ∧ Answered s t p lk cls kRdResp true (List.replicate p.bytes 0)) ∧
    (∀ a, s.exportAt p = some a → s.hbm.mem.bad = [] → ∃ t, exec (.hallReadRequest n) s = .next t ∧
      t = { s with net := t.net, links := t.links, rc := t.rc } ∧ Answered s t p lk cls kRdResp false
        ((wordsBytes ((List.range ((p.bytes + 31) / 32)).map (fun i => s.hbmWord (a + 32 * i)))).take p.bytes))) ∧
  (∀ (s : State) (n : Nat) (p : Packet) (lk cls : Nat), s.asked n kWrReq p lk cls →
    (s.exportAt p = none → ∃ t, exec (.hallWriteRequest n) s = .next t ∧ t.hbm = s.hbm ∧ Answered s t p lk cls kWrAck true []) ∧
    (∀ a, s.exportAt p = some a → ∃ t, exec (.hallWriteRequest n) s = .next t ∧
      t = { s with net := t.net, links := t.links, rc := t.rc, hbm := t.hbm } ∧ Answered s t p lk cls kWrAck false [] ∧
      t.hbm = { s.hbm with mem := (payloadWords p.payload p.marks).zipIdx.foldl (fun m w => match s.hbmLoc (a + 32 * w.2) with
        | some l => m.writeWord l.key w.1.1 w.1.2 | none => m) s.hbm.mem })) ∧
  (∀ (s : State) (n : Nat) (p : Packet) (lk cls : Nat), s.asked n kBulk p lk cls → p.payload.length ≠ 128 →
    (s.ownsRange p.tenant (p.address % 2 ^ 39) p.payload.length = false → ∃ t, exec (.bulkReceive n) s = .next t ∧ t.hbm = s.hbm ∧
      Answered s t p lk cls kBulkAck true []) ∧
    (s.ownsRange p.tenant (p.address % 2 ^ 39) p.payload.length = true → ∃ t, exec (.bulkReceive n) s = .next t ∧
      t.hbm = (s.setHbmBytes (p.address % 2 ^ 39) p.payload).hbm ∧ Answered s t p lk cls kBulkAck false [])) ∧
  (∀ (s : State) (n : Nat) (p : Packet) (lk cls : Nat) (v : Service), s.asked n kBulk p lk cls → p.payload.length = 128 → p.tenant < 17 →
    s.svcRuns p.tenant = true → (s.tenant p.tenant).svc = some v →
    (bit v.sources 16 = false ∨ s.rd (Fld.MGMT_TENANT_INTAKE p.tenant) ≠ inOpen ∨ 2 ^ v.reqLog ≤ s.reqOcc p.tenant →
      ∃ t, exec (.bulkReceive n) s = .next t ∧ t.hbm = s.hbm ∧ t.mgmt = s.mgmt ∧ Answered s t p lk cls kBulkAck true []) ∧
    (bit v.sources 16 = true → s.rd (Fld.MGMT_TENANT_INTAKE p.tenant) = inOpen → s.reqOcc p.tenant < 2 ^ v.reqLog →
      ∃ t, exec (.bulkReceive n) s = .next t ∧ Answered s t p lk cls kBulkAck false [] ∧
        t.rd (Fld.MGMT_SVC_PTR_REQ_TAIL p.tenant) = (s.rd (Fld.MGMT_SVC_PTR_REQ_TAIL p.tenant) + 1) % 65536)) ∧
  (∀ (s : State) (n : Nat) (p : Packet) (from_ : Option Nat), s.running = true → s.net.inbox[n]? = some ⟨p, from_⟩ →
    (p.kind = kBulkAck → exec (.bulkAckReceive n) s = .next { s with
      net := { s.net with inbox := s.net.inbox.eraseIdx n }, out := s.out ++ [.bulkAck p.src (bit p.argB 0)] }) ∧
    (p.kind = kMgmt → exec (.mgmtPacketReceive n) s = .next { s with
      net := { s.net with inbox := s.net.inbox.eraseIdx n }, out := s.out ++ [.mgmtEvent evPacket p.src] }))

/-! ### The Hall -/

/-- The Hall tables and the Confluence table. COMMIT replaces one route or map entry by the stage and READ copies one to it, at once. A
Confluence verb captures index and stage and sets BUSY, or only OVERRUN while one runs; at completion INSTALL writes the entry if every
check passes, REMOVE empties it and READ shows it, unless a run is in progress for the first two. -/
def Obligations.HallTablesTakeCommitsAndInstalls : Prop :=
  (∀ (s : State) (vw : View) (i : BitVec 10), s.writable vw Reg.HALL_TBL_CMD = true →
    (viewNum vw = 17 ∨ 64 ≤ i.toNat → ∃ t, exec (.hallTblCommit vw 0 i) s = .next t ∧ t = { s with regs := t.regs, hall := t.hall } ∧
      t.hall = { s.hall with routes := t.hall.routes } ∧ t.routeEnt i.toNat = fieldsOnly (Reg.HALL_RT_ENT 0) (s.reg (Reg.HALL_TBL_STAGE 0)) ∧
      (∀ j, j ≠ i.toNat → t.routeEnt j = s.routeEnt j) ∧ t.flag Fld.HALL_TBL_STATUS_DONE = true ∧ t.rd Fld.HALL_TBL_STATUS_INDEX = i.toNat) ∧
    (∃ t, exec (.hallTblCommit vw 1 i) s = .next t ∧ t = { s with regs := t.regs, hall := t.hall } ∧
      t.hall = { s.hall with mapLo := t.hall.mapLo, mapHi := t.hall.mapHi } ∧
      Sparse.get (fun _ => (0 : Reg64)) t.hall.mapLo i.toNat = fieldsOnly (Reg.HALL_MAP_ENT_LO 0) (s.reg (Reg.HALL_TBL_STAGE 0)) ∧
      Sparse.get (fun _ => (0 : Reg64)) t.hall.mapHi i.toNat = fieldsOnly (Reg.HALL_MAP_ENT_HI 0) (s.reg (Reg.HALL_TBL_STAGE 1)) ∧
      t.flag Fld.HALL_TBL_STATUS_DONE = true) ∧
    (∃ t, exec (.hallTblRead vw 0 i) s = .next t ∧ t = { s with regs := t.regs } ∧
      t.reg (Reg.HALL_TBL_STAGE 0) = s.routeEnt i.toNat ∧ t.rd Fld.HALL_TBL_STATUS_INDEX = i.toNat ∧
      RegsApart s t [Reg.HALL_TBL_STAGE 0, Reg.HALL_TBL_STATUS, Reg.HALL_TBL_CMD]) ∧
    (∃ t, exec (.hallTblRead vw 1 i) s = .next t ∧ t = { s with regs := t.regs } ∧
      t.reg (Reg.HALL_TBL_STAGE 0) = Sparse.get (fun _ => (0 : Reg64)) s.hall.mapLo i.toNat ∧
      t.reg (Reg.HALL_TBL_STAGE 1) = Sparse.get (fun _ => (0 : Reg64)) s.hall.mapHi i.toNat)) ∧
  (∀ (s : State) (vw : View) (i : BitVec 6) (v : Nat) (c : Instr), s.writable vw Reg.HALL_CFL_CMD = true →
    (v = 0 ∧ c = .cflInstall vw i ∨ v = 1 ∧ c = .cflRemove vw i ∨ v = 2 ∧ c = .cflRead vw i) →
    (s.hall.cflOp = none → ∃ t, exec c s = .next t ∧ t = { s with regs := t.regs, hall := t.hall } ∧
      t.hall = { s.hall with cflOp := some ⟨v, i.toNat, s.cflStage⟩ } ∧ t.flag Fld.HALL_CFL_STATUS_BUSY = true ∧
      RegsApart s t [Reg.HALL_CFL_CMD, Reg.HALL_CFL_STATUS]) ∧
    (s.hall.cflOp.isSome = true → exec c s = .next (s.wr Fld.HALL_CFL_STATUS_OVERRUN 1))) ∧
  (∀ (s : State) (op : CflOp) (new : CflEnt) (r : Nat), s.running = true → s.hall.cflOp = some op → op.index < 64 → op.verb < 3 →
    new = ⟨(putBits (op.stage.getD 0 0) 63 63 1) :: op.stage.drop 1, 0, none, []⟩ →
    r = (if op.verb = 2 then 0 else if (s.cfl op.index).run.isSome = true then 1 else if op.verb = 1 then 0
      else if s.cflOpOk new = false then 2
      else if new.size = 0 ∨ 16384 < new.first + new.size ∨ ¬ (new.first ≤ s.devId ∧ s.devId < new.first + new.size) ∨ new.size ≤ new.root then 3
      else if new.src % 32 ≠ 0 ∨ new.dst % 32 ≠ 0 ∨ s.spaceBytes 2 < new.src + new.buffer ∨ s.spaceBytes 2 < new.dst + new.buffer then 4
      else if ∃ m ∈ [new.startBench, new.doneBench],
        s.gangTenant (m / 4) ≠ new.tenant ∨ s.rd (Fld.MGMT_GANG_STATE (m / 4)) ≠ gangAssigned then 5 else 0) →
    ∃ t, exec .cflCmdComplete s = .next t ∧ t = { s with regs := t.regs, hall := t.hall } ∧ t.hall.cflOp = none ∧
      t.cfl op.index = (if r = 0 ∧ op.verb = 0 then new else if r = 0 ∧ op.verb = 1 then CflEnt.empty else s.cfl op.index) ∧
      (∀ j, j ≠ op.index → t.cfl j = s.cfl j) ∧ t.hall.routes = s.hall.routes ∧ t.hall.gens = s.hall.gens ∧
      (op.verb = 2 → ∀ k, k < 8 → t.reg (Reg.HALL_CFL_STAGE k) = (s.cfl op.index).dws.getD k 0) ∧
      t.flag Fld.HALL_CFL_STATUS_BUSY = false ∧ t.flag Fld.HALL_CFL_STATUS_DONE = true ∧
      t.rd Fld.HALL_CFL_STATUS_INDEX = op.index ∧ t.rd Fld.HALL_CFL_STATUS_RESULT = r)

/-- Heartbeats and fencing. A device of a Hall reports to its headwater; an accepted heartbeat clears MISSES and records state, generation
and lag, one of a stale generation is dropped; a tick counts a miss of every slot not heard for 50 µs and declares one dead at its fourth
miss. The chief serves a fence request by giving the dead slot the next generation, a spare and an override entry, or logs that there is
none; a notice that moves a generation on is applied and acknowledged, one that retires this device's own generation fences it; the
acknowledgements admit the spare, which takes slot, generation and role; a quarantined device that is clean becomes a spare; an admitted
headwater takes its tributary table. -/
def Obligations.HeartbeatsFenceAndAdmit : Prop :=
  (∀ s : State, s.running = true → exec .heartbeatSend s = .next (if s.rd Fld.HALL_ID_STATE = 0 then s else { s with out := s.out ++
    [.heartbeat (s.rd Fld.HALL_ID_HEADWATER) ⟨BitVec.ofNat 14 s.devId, BitVec.ofNat 16 (s.rd Fld.HALL_ID_GEN), BitVec.ofNat 3 s.devState,
      BitVec.ofNat 16 (s.rd Fld.HALL_LAG_LAG_AVG)⟩] })) ∧
  (∀ (s : State) (hb : Heartbeat), s.running = true →
    (∀ i, ((s.genEntry hb.src.toNat).1 = 1 ∨ (s.genEntry hb.src.toNat).1 = 2) → (s.genEntry hb.src.toNat).2 = hb.gen.toNat →
      s.tribOf hb.src.toNat = some i → ∃ t x, exec (.heartbeatReceive hb) s = .next t ∧ t = { s with hall := t.hall, out := t.out } ∧
        t.hall = { s.hall with tribs := t.hall.tribs } ∧ t.trib i = x ∧ (∀ j, j ≠ i → t.trib j = s.trib j) ∧ x.misses = 0 ∧
        x.dev = (s.trib i).dev ∧ x.valid = (s.trib i).valid ∧ x.gen = hb.gen.toNat ∧ x.lagAvg = hb.lagAvg.toNat ∧
        x.lastBeat = some s.power.time ∧ x.st = (if s.rd Fld.HALL_LAG_POLICY_WARN_NS < hb.lagAvg.toNat then 1 else 0)) ∧
    ((s.genEntry hb.src.toNat).2 ≠ hb.gen.toNat → ∃ t, exec (.heartbeatReceive hb) s = .next t ∧ t.hall = s.hall ∧ t.regs = s.regs ∧
      t.cnt Fld.HALL_FENCE_STATUS_STALE_DROPS = min 0xFFFFFFFF (s.cnt Fld.HALL_FENCE_STATUS_STALE_DROPS + 1))) ∧
  (∀ s : State, s.running = true →
    (∀ i, (s.trib i).valid = true → (s.trib i).st < 2 ∧ (s.trib i).condemned = false ∧ (s.trib i).misses < 3) →
    ∃ t, exec .heartbeatTick s = .next t ∧ t = { s with hall := t.hall } ∧ t.hall = { s.hall with tribs := t.hall.tribs } ∧
      ∀ i, t.trib i = (if (s.trib i).valid = true ∧ ∀ b, (s.trib i).lastBeat = some b → b + 50000 < s.power.time
        then { s.trib i with misses := (s.trib i).misses + 1 } else s.trib i)) ∧
  (∀ (s : State) (i : Nat) (x : Trib), s.running = true → s.hall.tribs = [(i, x)] → x.valid = true → x.st < 2 → x.misses = 3 →
    (∀ b, x.lastBeat = some b → b + 50000 < s.power.time) → s.isChief = false → s.flag Fld.HALL_ID_DEPUTY = false →
    ∃ t, exec .heartbeatTick s = .next t ∧ (t.trib i).st = 2 ∧ t.genEntry x.dev = (3, (s.genEntry x.dev).2) ∧
      t.out.getLast? = some (.fenceRequest (s.rd Fld.HALL_ID_HEADWATER) x.dev)) ∧
  (∀ (s : State) (slot : BitVec 14) (g : Nat), s.running = true → s.isChief = true → s.hall.fencing = none → s.hall.fenceQueue = [] →
    g = (s.genEntry slot.toNat).2 → g < 0xFFFF →
    (∀ x, (s.setGen slot.toNat 3 g).spareSlot = some x → x < 16384 → x ≠ slot.toNat →
      ∃ t, exec (.fenceRequestReceive slot) s = .next t ∧ ∃ j, t.out = s.out ++ [.fenceNotice ⟨slot, BitVec.ofNat 16 (g + 1), 2,
          some (BitVec.ofNat 14 x, BitVec.ofNat 6 j)⟩] ∧ j < 64 ∧ t.hall.fencing = some (slot.toNat, x) ∧
        t.genEntry slot.toNat = (2, g + 1) ∧ t.rd Fld.HALL_FENCE_STATUS_LAST_SLOT = slot.toNat ∧
        (∀ e, s.routeFor x = some e → t.routeEnt j = overrideEntry slot.toNat e)) ∧
    ((s.setGen slot.toNat 3 g).spareSlot = none → ∃ t, exec (.fenceRequestReceive slot) s = .next t ∧
      t.genEntry slot.toNat = (3, g) ∧ t.hall.fencing = none ∧ t.out = s.out ∧ (t.spoil.inFlight.getLast?).map (·.cls) = some 0x1B)) ∧
  (∀ (s : State) (n : FenceNotice) (x : BitVec 14) (j : BitVec 6), s.running = true → n.spare = some (x, j) → x ≠ n.slot →
    n.slot.toNat ≠ s.devId → (s.genEntry n.slot.toNat).2 < n.gen.toNat →
    ∃ t, exec (.fenceNoticeApply n) s = .next t ∧ t = { s with regs := t.regs, hall := t.hall, out := t.out } ∧
      t.out = s.out ++ [.fenceAck n.slot.toNat] ∧ t.genEntry n.slot.toNat = (2, n.gen.toNat) ∧
      t.genEntry x.toNat = (if (s.genEntry x.toNat).2 = 0xFFFF then (3, 0xFFFF) else (0, (s.genEntry x.toNat).2 + 1)) ∧
      (∀ k, k ≠ n.slot.toNat → k ≠ x.toNat → t.genEntry k = s.genEntry k) ∧
      (∀ e, s.routeFor x.toNat = some e → t.routeEnt j.toNat = overrideEntry n.slot.toNat e) ∧
      t.rd Fld.HALL_FENCE_STATUS_FENCES = (s.rd Fld.HALL_FENCE_STATUS_FENCES + 1) % 65536 ∧ RegsApart s t [Reg.HALL_FENCE_STATUS]) ∧
  (∀ (s : State) (n : FenceNotice), s.running = true → n.spare = none → n.slot.toNat = s.devId → s.rd Fld.HALL_ID_STATE ≠ 0 →
    n.gen.toNat ≠ s.rd Fld.HALL_ID_GEN → (s.devState = devHeld ∨ s.devOpen = true) →
    ∃ t, exec (.fenceNoticeApply n) s = .next t ∧ t.fenced = true ∧ t.devState = devQuarantine ∧ t.hbm.fills ≠ []) ∧
  (∀ (s : State) (slot x : Nat), s.running = true → s.hall.fencing = some (slot, x) → s.hall.fenceQueue = [] → s.tribOf slot = none →
    exec .fenceAcksComplete s = .next { s with
      hall := { s.hall with fencing := none }, out := s.out ++ [.admitSpare x slot (s.genEntry slot).2 0] }) ∧
  (∀ (s : State) (slot : BitVec 14) (g : BitVec 16) (role : BitVec 2), s.running = true → s.rd Fld.HALL_ID_STATE = 1 →
    ∃ t, exec (.admitReceive slot g role) s = .next t ∧ t = { s with regs := t.regs, hall := t.hall, power := t.power } ∧
      t.devId = slot.toNat ∧ t.rd Fld.HALL_ID_GEN = g.toNat ∧ t.rd Fld.HALL_ID_ROLE = role.toNat ∧ t.rd Fld.HALL_ID_STATE = 2 ∧
      t.genEntry slot.toNat = (2, g.toNat) ∧ t.power.ledger.devId = slot.toNat) ∧
  (∀ (s : State) (slot : BitVec 14) (g : BitVec 16), s.running = true → s.devState = devQuarantine → s.mgmt.quarantineFilled = true →
    (∀ m, m < 64 → (s.bench (s.physOf m)).mode = .idle) → ∃ t, exec (.spareNoticeReceive slot g) s = .next t ∧
      t.devId = slot.toNat ∧ t.rd Fld.HALL_ID_GEN = g.toNat ∧ t.rd Fld.HALL_ID_STATE = 1 ∧ t.rd Fld.HALL_ID_ROLE = 0 ∧
      t.genEntry slot.toNat = (1, g.toNat) ∧ t.devOpen = true) ∧
  (∀ (s : State) (l : List (Option (BitVec 14))), s.running = true → s.rd Fld.HALL_ID_ROLE ≠ 0 → s.rd Fld.HALL_ID_STATE = 2 →
    ∃ t, exec (.tribTableReceive l) s = .next t ∧ t = { s with hall := t.hall } ∧ t.hall = { s.hall with tribs := t.hall.tribs } ∧
      ∀ i, t.trib i = (if 128 ≤ i then s.trib i else match l[i]? with
        | none => s.trib i
        | some none => Trib.reset
        | some (some d) => { Trib.reset with valid := true, dev := d.toNat, lastBeat := some s.power.time }))

/-- Collectives, snapshots and the fabric reset. A signal that meets the target of an entry's START Weir starts its run (a broadcast away from
the root waits for its value). A packet that an entry without a run awaits is kept, one it does not await is dropped; a
run whose result is in OUT ends with a signal to its DONE Weir. GO at the chief sends a marker with its cut time, a marker is passed on or
reported late, the cut latches the sequence numbers of every link, the reports complete or fail the snapshot. A fabric reset GO at the chief
sends the notice; in its scope Confluence entries go and ACTIVE links reset; the reports set DONE. -/
def Obligations.CollectivesSnapshotsAndResetsSpread : Prop :=
  (∀ (s : State) (p : CollPacket) (e : CflEnt), s.running = true → p.bytes.length ≤ 4096 → e = s.cfl p.index.val →
    (e.valid = true → e.run = none → p.up = true → p.rank.toNat ∈ e.awaited (e.rankOf s.devId) →
      ∃ t, exec (.collPacketReceive p) s = .next t ∧ t = { s with hall := t.hall } ∧ t.hall = { s.hall with cfl := t.hall.cfl } ∧
        t.cfl p.index.val = { e with early := e.early ++ [p] } ∧ (∀ j, j ≠ p.index.val → t.cfl j = s.cfl j)) ∧
    (∀ r, e.valid = true → e.run = some r → p.up = true → p.rank.toNat ∈ e.awaited (e.rankOf s.devId) → p.last = false →
      (∀ x ∈ r.inputs, x.rank = p.rank.toNat → x.whole = false) →
      ∃ t, exec (.collPacketReceive p) s = .next t ∧ t = { s with hall := t.hall } ∧
        t.cfl p.index.val = { e with run := some { r with inputs := addInput r.inputs p s.power.time } }) ∧
    (e.valid = false ∨ (p.up = true ∧ p.rank.toNat ∉ e.awaited (e.rankOf s.devId)) → exec (.collPacketReceive p) s = .next s)) ∧
  (∀ (s : State) (n : Nat) (m : WeirMsg) (pb i : Nat) (e : CflEnt), s.running = true → s.net.weirOps[n]? = some m → m.op = .signal →
    pb = s.physOf m.bench → (s.bench pb).mode ≠ .rinsing → (s.bench pb).held = [] → i < 64 → e = s.cfl i →
    s.logicalOf pb = some e.startBench → e.startWeir = m.weir → e.op = 1 → e.rankOf s.devId ≠ 0 → e.early = [] →
    e.due (min ((s.bench pb).weir m.weir + m.arg) 0xFFFFFFFF) = true →
    (∀ k, k < 64 → k ≠ i → (s.cfl k).startBench ≠ e.startBench ∨ (s.cfl k).startWeir ≠ m.weir) →
    ∃ t, exec (.weirOperationArrival n) s = .next t ∧ t.cfl i = { e with run := some ⟨[], [], [], s.power.time, false, false, false⟩ }) ∧
  (∀ (s : State) (i : Fin 64) (e : CflEnt) (r : CollRun), s.running = true → e = s.cfl i → e.run = some r → r.done = true →
    Sparse.get (fun _ => 0) (s.bench (s.physOf e.startBench)).weirs e.startWeir < e.startTarget + (e.started + 1) * e.stepBy →
    ∃ t, exec (.cflRunComplete i) s = .next t ∧ t = { s with hall := t.hall, net := t.net } ∧
      t.cfl i = { e with run := none, started := e.started + 1 } ∧ (∀ j, j ≠ i.val → t.cfl j = s.cfl j) ∧
      t.net = { s.net with weirOps := s.net.weirOps ++ [⟨e.doneBench, e.doneWeir, .signal, 1, ⟨noBench, false, 0⟩⟩] }) ∧
  (∀ (s : State) (cut : Nat), s.isChief = true → s.flag Fld.HALL_SNAP_CTL_BUSY = false →
    (∀ (vw : View) (lead : BitVec 16), s.writable vw Reg.HALL_SNAP_CTL = true → cut = s.power.time + lead.toNat →
      ∃ t, exec (.snapGo vw lead) s = .next t ∧ t = { s with regs := t.regs, hall := t.hall, out := t.out } ∧
        t.hall = { s.hall with snapCut := some cut } ∧ t.rd Fld.HALL_SNAP_CTL_EPOCH = (s.rd Fld.HALL_SNAP_CTL_EPOCH + 1) % 65536 ∧
        t.flag Fld.HALL_SNAP_CTL_BUSY = true ∧ t.out = s.out ++ [.snapMarker (t.rd Fld.HALL_SNAP_CTL_EPOCH) cut] ∧
        RegsApart s t [Reg.HALL_SNAP_CTL]) ∧
    (s.running = true → cut = s.power.time + s.rd Fld.HALL_SNAP_CTL_LEAD →
      ∃ t, exec .trigInSnapshotEdge s = .next t ∧ t = { s with regs := t.regs, hall := t.hall, out := t.out } ∧
        t.hall = { s.hall with snapCut := some cut } ∧ t.flag Fld.HALL_SNAP_CTL_BUSY = true ∧
        t.out = s.out ++ [.snapMarker (t.rd Fld.HALL_SNAP_CTL_EPOCH) cut])) ∧
  (∀ (s : State) (ep : BitVec 16) (cut : Reg64), s.running = true →
    ∃ t, exec (.snapMarkerReceive ep cut) s = .next t ∧ t = { s with regs := t.regs, hall := t.hall, out := t.out } ∧
      t.rd Fld.HALL_SNAP_CTL_EPOCH = ep.toNat ∧
      (if cut.toNat < s.power.time then t.hall = s.hall ∧ t.out = s.out ++ [.snapMarker ep.toNat cut.toNat, .snapReport true]
       else t.hall = { s.hall with snapCut := some cut.toNat } ∧ t.out = s.out ++ [.snapMarker ep.toNat cut.toNat])) ∧
  (∀ s : State, s.running = true → s.hall.snapCut.isSome = true → ∃ t, exec .snapCut s = .next t ∧
    t = { s with regs := t.regs, hall := t.hall, out := t.out } ∧ t.hall = { s.hall with snapCut := none } ∧
    (∀ x, x < 64 → t.rd (Fld.HALL_SNAP_LINK_TX_SEQ x) = (s.link x).txSeq % 4096 ∧ t.rd (Fld.HALL_SNAP_LINK_RX_SEQ x) = (s.link x).rxSeq % 4096) ∧
    (s.isChief = false → t.flag Fld.HALL_SNAP_CTL_DONE = true ∧ t.flag Fld.HALL_SNAP_CTL_BUSY = false ∧
      t.out.getLast? = some (.snapReport false))) ∧
  (∀ (s : State) (late final : Bool), s.running = true →
    (s.isChief = false → exec (.snapReportReceive late final) s = .next { s with out := s.out ++ [.snapReport late] }) ∧
    (s.isChief = true → s.flag Fld.HALL_SNAP_CTL_BUSY = true → ∃ t, exec (.snapReportReceive late final) s = .next t ∧
      t = { s with regs := t.regs } ∧ (late = true → t.flag Fld.HALL_SNAP_CTL_FAILED = true ∧ t.flag Fld.HALL_SNAP_CTL_BUSY = false) ∧
      (late = false → final = true → t.flag Fld.HALL_SNAP_CTL_DONE = true ∧ t.flag Fld.HALL_SNAP_CTL_BUSY = false))) ∧
  (∀ (s : State) (vw : View) (part : BitVec 4), s.writable vw Reg.HALL_FRESET = true → s.isChief = true → s.flag Fld.HALL_FRESET_BUSY = false →
    (part.toNat ≠ s.rd Fld.HALL_ID_PARTITION → ∃ t, exec (.fresetGo vw false part) s = .next t ∧ t = { s with regs := t.regs, out := t.out } ∧
      t.flag Fld.HALL_FRESET_BUSY = true ∧ t.out = s.out ++ [.resetNotice false part.toNat]) ∧
    (∃ t, exec (.fresetGo vw true part) s = .next t ∧ t.flag Fld.HALL_FRESET_BUSY = true ∧ t.hall.cfl = [] ∧
      .resetNotice true part.toNat ∈ t.out ∧ ∀ lk : Fin 64, s.linkState lk = lkActive → (t.link lk).resetting = true)) ∧
  (∀ (s : State) (part : BitVec 4), s.running = true →
    (part.toNat ≠ s.rd Fld.HALL_ID_PARTITION →
      exec (.fresetNoticeReceive false part) s = .next { s with out := s.out ++ [.resetNotice false part.toNat] }) ∧
    (∃ t, exec (.fresetNoticeReceive true part) s = .next t ∧ t.hall.cfl = [] ∧
      ∀ lk : Fin 64, s.linkState lk = lkActive → (t.link lk).resetting = true)) ∧
  (∀ s : State, s.running = true →
    (s.isChief = true → s.flag Fld.HALL_FRESET_BUSY = true → ∃ t, exec (.fresetReportReceive true) s = .next t ∧ t = { s with regs := t.regs } ∧
      t.flag Fld.HALL_FRESET_DONE = true ∧ t.flag Fld.HALL_FRESET_BUSY = false ∧ RegsApart s t [Reg.HALL_FRESET]) ∧
    (s.isChief = false → exec (.fresetReportReceive true) s = .next { s with out := s.out ++ [.resetReport] }))

/-- Device time. A device with an upstream asks it for the time; its answer gives the offset ((T2 - T1) - (T4 - T3)) * 500 ps, LOCKED at the
sixteenth offset in a row within 5 ns, a slew no larger than the offset, and one step where the first offset exceeds 1 µs. At the chief a PPS
edge latches device time and sets PPS_OK, SET loads CLKPWR_TIME_SET at once or, while PPS_OK is 1, at the next edge, a missing edge clears
PPS_OK. A whole second pulses TRIG_OUT[0]. -/
def Obligations.DeviceTimeFollowsItsSources : Prop :=
  (∀ s : State, s.running = true → s.hasUpstream = true → s.linkUp (s.rd Fld.CLKPWR_TSYNC_LINK) = true →
    exec .tsyncExchange s = .next { s with out := s.out ++ [.tsync (s.rd Fld.CLKPWR_TSYNC_LINK) s.power.time] }) ∧
  (∀ (s : State) (t1 t2 t3 t4 : Reg64) (ps : Int), s.running = true → s.hasUpstream = true →
    ps = (((t2.toNat : Int) - t1.toNat) - ((t4.toNat : Int) - t3.toNat)) * 500 →
    (-1000000 ≤ ps → ps ≤ 1000000 → ∃ t, exec (.tsyncPacketReceive t1 t2 t3 t4) s = .next t ∧
      t = { s with regs := t.regs, power := t.power, fresh := s.fresh + 1 } ∧ t.power.time = s.power.time ∧
      toSigned 32 (t.rd Fld.CLKPWR_TSYNC_OFFSET_PS) = ps ∧ t.power.slew.natAbs ≤ ps.natAbs * 1000000 ∧
      (-5000 ≤ ps → ps ≤ 5000 → t.power.good = s.power.good + 1 ∧ t.power.badRun = 0 ∧
        (15 ≤ s.power.good → t.flag Fld.CLKPWR_TSYNC_LOCKED = true)) ∧
      (ps < -5000 ∨ 5000 < ps → t.power.good = 0 ∧ t.power.badRun = s.power.badRun + 1 ∧ (3 ≤ s.power.badRun → t.flag Fld.CLKPWR_TSYNC_LOCKED = false))) ∧
    (1000000 < ps → ps < 2 ^ 31 → s.power.stepped = false → ∃ t, exec (.tsyncPacketReceive t1 t2 t3 t4) s = .next t ∧
      t.power.time = (((s.power.time : Int) + ps / 1000).toNat) % 2 ^ 64 ∧ t.power.stepped = true ∧ t.power.slew = 0)) ∧
  (∀ s : State, s.running = true → s.isChief = true →
    (s.power.ppsLast = 0 ∨ s.power.ppsLast + 500000000 ≤ s.power.time + 1 → ∃ t, exec .ppsEdge s = .next t ∧
      t = { s with regs := t.regs, power := t.power, fresh := s.fresh + 1 } ∧
      t.reg Reg.CLKPWR_PPS = BitVec.ofNat 64 s.power.time ∧ t.flag Fld.CLKPWR_TSYNC_PPS_OK = true ∧
      -100000 ≤ t.ratePpb ∧ t.ratePpb ≤ 100000 ∧
      t.power.time = (if s.power.setPending then s.rd Fld.CLKPWR_TIME_SET_VALUE else s.power.time) ∧ t.power.setPending = false) ∧
    (s.flag Fld.CLKPWR_TSYNC_PPS_OK = true → ∃ t, exec .ppsTimeout s = .next t ∧ t = { s with regs := t.regs, power := t.power } ∧
      t.flag Fld.CLKPWR_TSYNC_PPS_OK = false ∧ RegsApart s t [Reg.CLKPWR_TSYNC])) ∧
  (∀ (s : State) (rate : BitVec 32), s.writable .matumon Reg.CLKPWR_TIME_CTL = true → s.isChief = true →
    ∃ t, exec (.timeSet .matumon rate) s = .next t ∧ t = { s with regs := t.regs, power := t.power } ∧
      RegsApart s t [Reg.CLKPWR_TIME_CTL] ∧ t.ratePpb = max (-100000) (min 100000 (toSigned 32 rate.toNat)) ∧
      (s.flag Fld.CLKPWR_TSYNC_PPS_OK = true → t.power = { s.power with setPending := true }) ∧
      (s.flag Fld.CLKPWR_TSYNC_PPS_OK = false → t.power.time = s.rd Fld.CLKPWR_TIME_SET_VALUE ∧ t.power.setPending = false)) ∧
  (∀ s : State, s.running = true → s.devState ≠ devFailed →
    exec .trigOutSecond s = .next { s with out := s.out ++ [.trigSecond s.power.time] })

/-! ### Matumon -/

namespace Sys2Proof.Machine

/-- A management command of a view has passed whole to Matumon, whose core M0 runs. -/
def State.cmdWaits (s : State) (vw code : Nat) (ws : List Reg64) : Prop :=
  s.running = true ∧ s.coreRuns 0 = true ∧ ∃ n, (s.view vw).cmd = some ⟨code, n, ws, true⟩

/-- The command of a view is answered with a status and response words. -/
def CmdAnswered (t : State) (vw st : Nat) (resp : List Reg64) : Prop :=
  (t.view vw).cmd = none ∧ (t.view vw).resp = resp ∧ t.rd (Fld.HIF_MGMT_STATUS_STATUS vw) = st ∧
    t.flag (Fld.HIF_MGMT_STATUS_DONE vw) = true

/-- From s to t nothing changes but the mailbox of one view and what is sent. -/
def OnlyMailbox (s t : State) (vw : Nat) : Prop :=
  t = { s with regs := t.regs, host := t.host, out := t.out } ∧ t.host = { s.host with views := t.host.views } ∧ ViewsApart s t vw ∧
    RegsApart s t [Reg.HIF_MGMT_STATUS vw]

/-- The rows of Matumon's commands that run to their answer at once, with their view and code. -/
def mgmtRow : Instr → Option (View × Nat)
  | .tenantOpen vw => some (vw, 0x10)
  | .tenantClose vw => some (vw, 0x11)
  | .jobStart vw => some (vw, 0x20)
  | .jobKill vw => some (vw, 0x21)
  | .jobRelease vw => some (vw, 0x22)
  | .dumpPool vw => some (vw, 0x23)
  | .serviceOpen vw => some (vw, 0x30)
  | .serviceClose vw => some (vw, 0x31)
  | .keyLoad vw => some (vw, 0x40)
  | .keyEvict vw => some (vw, 0x41)
  | _ => none

/-- Whether a view may issue a command: the PF for every one, a VF for its tenant's jobs, services and keys. -/
def State.mayIssue (s : State) (vw code : Nat) (ws : List Reg64) : Bool :=
  if [0x10, 0x11, 0x22, 0x23].contains code then decide (vw = 0) else s.issuerOwn vw ws

/-- A command of a view waits, its handshake is accepted, the view may issue it, the device is not restricted. -/
def State.cmdServed (s : State) (vw code : Nat) (ws : List Reg64) : Prop :=
  s.cmdWaits vw code ws ∧ vw ≠ 16 ∧ s.shaken vw = true ∧ s.mayIssue vw code ws = true ∧ s.restrictedMode = false

/-- What JOB_START and SERVICE_OPEN ask of their first two words. -/
def State.startable (s : State) (ws : List Reg64) : Prop :=
  let t := argTenant ws
  let gangs := getBits (ws.getD 0 0) 31 16
  1 ≤ t ∧ t ≤ 16 ∧ s.tnState t = tnOpen ∧ s.devOpen = true ∧ gangs ≠ 0 ∧
    (∀ g, g < 16 → bit gangs g = true → s.rd (Fld.MGMT_GANG_STATE g) = gangFree ∧ bit (s.rd (Fld.MGMT_TENANT_GANG_ALLOW t)) g = true) ∧
    s.imageOk t (ws.getD 1 0).toNat gangs = true ∧ ((ws.getD 0 0).getLsbD 8 = true → s.flag (Fld.MGMT_TENANT_DEBUG_OK t) = true)

/-- A tenant's job has started on its gangs. -/
def JobStarted (s t : State) (vw : Nat) (ws : List Reg64) (service : Bool) : Prop :=
  let n := argTenant ws
  let gangs := getBits (ws.getD 0 0) 31 16
  CmdAnswered t vw 0 [] ∧ t.tnState n = tnJob ∧ t.devState = devActive ∧ t.rd (Fld.MGMT_TENANT_GANGS n) = gangs ∧
    t.flag (Fld.MGMT_TENANT_SERVICE n) = service ∧ TenantsApart s t n ∧
    (t.tenant n).job = some ⟨gangs, vw, (ws.getD 0 0).getLsbD 8, (ws.getD 1 0).toNat, service, none⟩ ∧
    ∀ g, g < 16 → if bit gangs g = true then t.rd (Fld.MGMT_GANG_STATE g) = gangAssigned ∧ t.rd (Fld.MGMT_GANG_TENANT g) = n
      else t.reg (Reg.MGMT_GANG g) = s.reg (Reg.MGMT_GANG g)

/-- A tenant's job has ended: its end record waits for the view that started it; with debug retention its gangs are KEPT, without it they
are RINSING with their benches, and the tenant is OPEN. -/
def JobEnded (s t : State) (n : Nat) (j : Job) (cause : Nat) : Prop :=
  t.rd (Fld.MGMT_TENANT_LAST_END n) = cause ∧
    (t.view j.starter).endRecords = (s.view j.starter).endRecords ++ [s.endRecord n cause j.gangs] ∧
    (if j.debugKeep = true then t.tnState n = tnKept ∧ (t.tenant n).job = some { j with ended := some s.power.time } ∧
        ∀ g, g < 16 → bit j.gangs g = true → t.rd (Fld.MGMT_GANG_STATE g) = gangKept
      else t.tnState n = tnOpen ∧ (t.tenant n).job = none ∧ t.rd (Fld.MGMT_TENANT_GANGS n) = 0 ∧
        (∀ pb ∈ s.maskBenches j.gangs, (t.bench pb).mode = .rinsing) ∧
        ∀ g, g < 16 → bit j.gangs g = true → t.rd (Fld.MGMT_GANG_STATE g) = gangRinsing)

/-- The conditions under which JOB_END's causes hold: all benches idle, a bench halted by its program, one halted by a hardware error, an
order of the Hall, a held device. -/
def State.causeHolds (s : State) (j : Job) (cause : Nat) : Prop :=
  (cause = 0 ∧ ∀ pb ∈ s.maskBenches j.gangs, s.benchIdle pb = true) ∨
  (cause = 3 ∧ ∃ pb ∈ s.maskBenches j.gangs, (s.bench pb).mode = .halted ∧ (s.bench pb).haltCause ≠ 7) ∨
  (cause = 4 ∧ ∃ pb ∈ s.maskBenches j.gangs, (s.bench pb).mode = .halted ∧ (s.bench pb).haltCause = 7) ∨
  cause = 5 ∨ (cause = 6 ∧ s.restrictedMode = true)

/-- The largest number of records a service's result ring has room for. -/
def State.resRoom (s : State) (t : Nat) (v : Service) : Nat := 2 ^ v.resLog - s.resOcc t

end Sys2Proof.Machine

/-- Watchdogs: a running core feeds its own; an expiry restarts the core, counts, keeps the PC and logs class 0x11; the third within 600 s holds the
device in restricted mode with every bench rinsing; a restarted core runs again with an empty journal, and in restricted mode M3 takes every gang
out of service. An offer of the device's major version is accepted with the smaller minor version, another is refused and logged (0x12); of the PF
it takes a held device to READY or to VERSION_MISMATCH. FW_STAGE writes the image into the slot that is not booted; a verified image takes the
Ledger's pointer with TRIAL, another fails with FIRMWARE_AUTH_FAIL (0x13). -/
def Obligations.WatchdogsVersionsAndFirmware : Prop :=
  ((∀ (s : State) (k : Fin 4), s.running = true → s.coreRuns k.val = true → ∃ t, exec (.watchdogFeed k) s = .next t ∧
     t = { s with mgmt := { s.mgmt with fed := t.mgmt.fed } } ∧
     ∀ i, Sparse.get (fun _ => 0) t.mgmt.fed i = (if i = k.val then s.power.time else Sparse.get (fun _ => 0) s.mgmt.fed i)) ∧
   (∀ (s : State) (k : Fin 4) (pc : BitVec 32) (recent : List Nat), s.running = true → s.coreRuns k.val = true →
     recent = s.mgmt.expiries.filter (fun x => decide (s.power.time < x + 600000000000)) ++ [s.power.time] →
     (recent.length < 3 ∨ s.restrictedMode = true → ∃ t, exec (.watchdogExpiry k pc) s = .next t ∧
       t = { s with regs := t.regs, mgmt := t.mgmt, spoil := t.spoil } ∧ t.mgmt = { s.mgmt with expiries := recent } ∧
       t.rd (Fld.MGMT_WDOG_EXPIRIES k.val) = min 255 (s.rd (Fld.MGMT_WDOG_EXPIRIES k.val) + 1) ∧
       t.rd (Fld.MGMT_WDOG_LAST_PC k.val) = pc.toNat ∧ t.coreRuns k.val = false ∧ t.flag (Fld.MGMT_WDOG_RESTARTING k.val) = true ∧
       bit (t.rd Fld.MGMT_STATUS_CORE_UP) k.val = false ∧ (t.spoil.inFlight.getLast?).map (·.cls) = some 0x11 ∧
       RegsApart s t [Reg.MGMT_WDOG k.val, Reg.MGMT_STATUS]) ∧
     (3 ≤ recent.length → s.restrictedMode = false → s.devState = devHeld ∨ s.devOpen = true →
       ∃ t, exec (.watchdogExpiry k pc) s = .next t ∧ t.devState = devHeld ∧ t.rd Fld.MGMT_STATUS_HELD_CAUSE = 3 ∧
         t.restrictedMode = true ∧ (∀ i, t.coreRuns i = false) ∧ ∀ pb, pb < 68 → (t.bench pb).mode = .rinsing)) ∧
   (∀ (s : State) (k : Fin 4), s.running = true → s.flag (Fld.MGMT_WDOG_RESTARTING k.val) = true →
     ∃ t, exec (.coreRestartDone k) s = .next t ∧ t.coreRuns k.val = true ∧
       (s.restrictedMode = false → t.mgmt.journal = [] ∧ Sparse.get (fun _ => 0) t.mgmt.fed k.val = s.power.time) ∧
       (s.restrictedMode = false → k ≠ 0 → t = { s with regs := t.regs, mgmt := t.mgmt } ∧
         RegsApart s t [Reg.MGMT_WDOG k.val, Reg.MGMT_STATUS]) ∧
       (s.restrictedMode = true → k = 3 → t.rd Fld.DEVCTL_GANG_AVAIL_AVAIL = 0))) ∧
  ((∀ (s : State) (vw : View) (major minor : BitVec 8), s.writable vw 0x60010 = true → s.coreRuns 0 = true → s.restrictedMode = false →
     s.devState ≠ devClearing → s.devState ≠ devFailed → ∃ t, exec (.drvVersionOffer vw major minor) s = .next t ∧
     t.rd (Fld.MGMT_DRV_VERSION_DRV_MAJOR (viewNum vw)) = major.toNat ∧ t.rd (Fld.MGMT_DRV_VERSION_DRV_MINOR (viewNum vw)) = minor.toNat ∧
     (major.toNat = s.rd Fld.DEVCTL_ID_IF_MAJOR → t.rd (Fld.MGMT_DRV_VERSION_RESULT (viewNum vw)) = 1 ∧
       t.rd (Fld.MGMT_DRV_VERSION_NEG_MINOR (viewNum vw)) = min minor.toNat (s.rd Fld.DEVCTL_ID_IF_MINOR) ∧ t.spoil = s.spoil ∧
       (vw = .fn 0 → s.devState = devHeld → s.rd Fld.MGMT_STATUS_HELD_CAUSE < 3 → 1 ≤ s.rd Fld.MGMT_STATUS_HELD_CAUSE → t.devOpen = true) ∧
       (vw ≠ .fn 0 ∨ s.devState ≠ devHeld → t.devState = s.devState)) ∧
     (major.toNat ≠ s.rd Fld.DEVCTL_ID_IF_MAJOR → t.rd (Fld.MGMT_DRV_VERSION_RESULT (viewNum vw)) = 2 ∧
       (t.spoil.inFlight.getLast?).map (·.cls) = some 0x12 ∧ t.shaken (viewNum vw) = false ∧
       (vw = .fn 0 → s.devState = devHeld → s.rd Fld.MGMT_STATUS_HELD_CAUSE = 1 → t.devState = devHeld ∧ t.rd Fld.MGMT_STATUS_HELD_CAUSE = 2))) ∧
   (∀ (s : State) (vw : View) (ws : List Reg64) (n slot : Nat), s.running = true → s.coreRuns 0 = true → s.restrictedMode = false →
     (s.view (viewNum vw)).cmd = some ⟨0x50, n, ws, true⟩ → (vw = .fn 0 ∧ s.shaken 0 = true ∨ vw = .i3c) → s.mgmt.staged = none →
     n ≤ 2 ^ 24 → slot = 1 - s.rd Fld.MGMT_FW_SLOT → ∃ t, exec (.fwStage vw) s = .next t ∧
       t = { s with regs := t.regs, power := t.power, mgmt := t.mgmt } ∧ t.mgmt = { s.mgmt with staged := some (2 * viewNum vw + slot) } ∧
       t.power = { s.power with nor := s.power.nor.writeBytes (slotBase slot) (wordBytes ws) } ∧
       t.flag Fld.MGMT_FW_STAGING = true ∧ t.rd Fld.MGMT_FW_STAGE_RESULT = 0 ∧ RegsApart s t [Reg.MGMT_FW]) ∧
   (∀ (s : State) (img : ImageCheck) (v : Nat), s.running = true → img.wellFormed = true → s.mgmt.staged = some v → s.sealLocked = false →
     (img.failed = none → s.kwa.svnFloor ≤ img.svn.toNat → ∃ t, exec (.fwStageVerified img false) s = .next t ∧
       t = { s with regs := t.regs, power := t.power, mgmt := t.mgmt, host := t.host, out := t.out } ∧
       t.mgmt = { s.mgmt with staged := none } ∧ t.flag Fld.MGMT_FW_STAGING = false ∧ t.rd Fld.MGMT_FW_STAGE_RESULT = 1 ∧
       t.rd Fld.MGMT_FW_OTHER_VERSION = img.version.toNat ∧
       t.power.ledger = { s.power.ledger with slot := v % 2, trial := true, version := img.version.toNat } ∧
       (v / 2 ≤ 16 → CmdAnswered t (v / 2) 0 [])) ∧
     (img.failed.isSome = true ∨ img.svn.toNat < s.kwa.svnFloor → ∃ t, exec (.fwStageVerified img false) s = .next t ∧
       t = { s with regs := t.regs, mgmt := t.mgmt, host := t.host, spoil := t.spoil, out := t.out } ∧ t.mgmt = { s.mgmt with staged := none } ∧
       t.rd Fld.MGMT_FW_STAGE_RESULT = 2 ∧ (t.spoil.inFlight.getLast?).map (·.cls) = some 0x13 ∧
       (v / 2 ≤ 16 → CmdAnswered t (v / 2) 5 []))))

/-- Tenants and keys. Every command is refused to a view without a handshake or without the right to it, and in restricted mode, and a refusal
changes nothing but its mailbox. TENANT_OPEN opens a tenant with what its manifest grants and answers the key-set tag; TENANT_CLOSE takes keys
and manifest; KEY_LOAD installs every entry that it names if every digest is right; KEY_EVICT removes entries. What
Kwawekan unwraps is open here (log 9), so both its outcomes are stated. -/
def Obligations.TenantAndKeyCommandsAnswer : Prop :=
  (∀ (s : State) (c : Instr) (vw : View) (code : Nat) (ws : List Reg64), mgmtRow c = some (vw, code) →
    (s.running = true → (s.view (viewNum vw)).cmd = none → exec c s = .next s) ∧
    (s.cmdWaits (viewNum vw) code ws →
      (viewNum vw = 16 ∨ s.shaken (viewNum vw) = false ∨ s.mayIssue (viewNum vw) code ws = false →
        ∃ t, exec c s = .next t ∧ CmdAnswered t (viewNum vw) 1 [] ∧ OnlyMailbox s t (viewNum vw)) ∧
      (viewNum vw ≠ 16 → s.shaken (viewNum vw) = true → s.mayIssue (viewNum vw) code ws = true → s.restrictedMode = true →
        ∃ t, exec c s = .next t ∧ CmdAnswered t (viewNum vw) 2 [] ∧ OnlyMailbox s t (viewNum vw)))) ∧
  (∀ (s : State) (ws : List Reg64) (n : Nat) (w : List Byte), s.cmdServed 0 0x10 ws → n = argTenant ws → 1 ≤ n → n ≤ 16 →
    s.tnState n = tnClosed → w = wordBytes (ws.drop 1) → 126 ≤ w.length → w.length < 65670 → w.head? = some 1 →
    s.flag Fld.SEAL_DEBUG_UNLOCKED = false → s.sealLocked = false → gatePublicKey ((w.drop 1).take 97) = none →
    ∃ t, exec (.tenantOpen (.fn 0)) s = .next t ∧
      match Config.unwrapManifest w with
      | none => CmdAnswered t 0 5 [] ∧ OnlyMailbox s t 0
      | some m => if manifestOk m = true then
          CmdAnswered t 0 0 [manifestTag m] ∧ t.tnState n = tnOpen ∧ t.tenant n = { s.tenant n with manifest := m, tag := manifestTag m } ∧
          t.flag (Fld.MGMT_TENANT_DEBUG_OK n) = decide (mfield m 8 1 % 2 = 1) ∧ t.rd (Fld.MGMT_TENANT_GANG_ALLOW n) = mfield m 2 2 ∧
          t.rd (Fld.MGMT_TENANT_KEY_BUDGET n) = min 0x3FFFF (mfield m 4 4) ∧ TenantsApart s t n ∧
          RegsApart s t [Reg.MGMT_TENANT n, Reg.MGMT_TENANT_KEY n, Reg.HIF_MGMT_STATUS 0]
        else CmdAnswered t 0 5 [] ∧ OnlyMailbox s t 0) ∧
  (∀ (s : State) (ws : List Reg64) (n : Nat), s.cmdServed 0 0x11 ws → n = argTenant ws → 1 ≤ n → n ≤ 16 → ws.length = 1 →
    s.tnState n = tnOpen → ∃ t, exec (.tenantClose (.fn 0)) s = .next t ∧ CmdAnswered t 0 0 [] ∧ t.tnState n = tnClosed ∧
      (∀ k, keyTenant (t.keyEnt k) ≠ n) ∧ (∀ k, (∀ x ∈ s.ledges.keys, x.1 = k → keyTenant x.2 ≠ n) → t.keyEnt k = s.keyEnt k) ∧
      t.tenant n = { Tenant.closed with svc := (s.tenant n).svc } ∧ t.reg (Reg.MGMT_TENANT_KEY n) = 0 ∧
      t.rd (Fld.MGMT_TENANT_LAST_END n) = s.rd (Fld.MGMT_TENANT_LAST_END n) ∧ TenantsApart s t n) ∧
  (∀ (s : State) (vw : View) (ws : List Reg64) (n k : Nat) (rs : List KeyReq) (ps : List Placing), s.cmdServed (viewNum vw) 0x40 ws →
    n = argTenant ws → 1 ≤ n → n ≤ 16 → s.tnState n ≠ tnClosed → k = getBits (ws.getD 0 0) 47 32 → k ≠ 0 → ws.length = 1 + 10 * k →
    rs = keyReqs ws → (rs.map KeyReq.index).Nodup → (∀ r ∈ rs, s.keyReqOk n r = true ∧ s.keyInUse r.index = false) →
    s.placeAll n (s.tenant n).tag rs = some ps → s.rd (Fld.MGMT_TENANT_KEY_BUDGET n) = 0x3FFFF →
    ∃ t, exec (.keyLoad vw) s = .next t ∧
      if s.sealLocked = false ∧ ∀ r ∈ rs, s.digestsOk (s.tenant n).manifest r = true then
        CmdAnswered t (viewNum vw) 0 [BitVec.ofNat 64 k] ∧ (∀ p ∈ ps, t.keyEnt p.req.index = p.entry) ∧
        ∀ i, i ∉ rs.map KeyReq.index → t.keyEnt i = s.keyEnt i
      else CmdAnswered t (viewNum vw) 5 [] ∧ ∀ i, t.keyEnt i = s.keyEnt i) ∧
  (∀ (s : State) (vw : View) (ws : List Reg64) (n k : Nat) (idx : List Nat), s.cmdServed (viewNum vw) 0x41 ws → n = argTenant ws →
    1 ≤ n → n ≤ 16 → s.tnState n ≠ tnClosed → k = getBits (ws.getD 0 0) 47 32 → ws.length = 1 + cdiv k 4 →
    idx = (List.range k).map (fun i => getBits (ws.getD (1 + i / 4) 0) (16 * (i % 4) + 11) (16 * (i % 4))) →
    (∀ i ∈ idx, s.keyInUse i = false ∧ keyTenant (s.keyEnt i) = n) →
    ∃ t, exec (.keyEvict vw) s = .next t ∧ CmdAnswered t (viewNum vw) 0 [] ∧ (∀ i ∈ idx, t.keyEnt i = []) ∧
      (∀ i, i ∉ idx → t.keyEnt i = s.keyEnt i) ∧ (∀ p ∈ (t.tenant n).keyPages, p.1 ∉ idx) ∧ TenantsApart s t n)

/-- Jobs. JOB_START assigns gangs to a tenant and starts its benches, SERVICE_OPEN the same with an open intake; JOB_KILL and JOB_END end
a job with an end record and clear or keep its gangs; JOB_RELEASE and the keep limit clear kept gangs; DUMP_POOL copies a kept Pool to HBM. -/
def Obligations.JobsStartEndAndClear : Prop :=
  (∀ (s : State) (vw : View) (ws : List Reg64), s.cmdServed (viewNum vw) 0x20 ws → s.startable ws → ws.length = 2 →
    (s.view (viewNum vw)).endRecords.length < 16 → ∃ t, exec (.jobStart vw) s = .next t ∧ JobStarted s t (viewNum vw) ws false) ∧
  (∀ (s : State) (vw : View) (ws : List Reg64) (n : Nat), s.cmdServed (viewNum vw) 0x30 ws → s.startable ws → ws.length = 6 →
    n = argTenant ws → s.serviceOk n (serviceOf ws) = true → (s.view (viewNum vw)).endRecords.length < 16 →
    ∃ t, exec (.serviceOpen vw) s = .next t ∧ JobStarted s t (viewNum vw) ws true ∧ (t.tenant n).svc = some (serviceOf ws) ∧
      t.rd (Fld.MGMT_TENANT_INTAKE n) = inOpen ∧ t.rd (Fld.MGMT_TENANT_CLOSE_REASON n) = 0 ∧ t.reg (Reg.MGMT_SVC_PTR n) = 0) ∧
  (∀ (s : State) (vw : View) (ws : List Reg64) (n : Nat) (j : Job), s.cmdServed (viewNum vw) 0x21 ws → ws.length = 1 → n = argTenant ws →
    1 ≤ n → n ≤ 16 → s.tnState n = tnJob → (s.tenant n).job = some j → j.ended = none → s.mgmt.clearing = [] →
    ∃ t, exec (.jobKill vw) s = .next t ∧ CmdAnswered t (viewNum vw) 0 [] ∧ JobEnded s t n j (if vw = .fn 0 then 2 else 1)) ∧
  (∀ (s : State) (n : Fin 17) (cause : BitVec 4) (j : Job), s.running = true → s.coreRuns 3 = true → (s.tenant n.val).job = some j →
    j.ended = none → s.mgmt.clearing = [] → s.causeHolds j cause.toNat →
    ∃ t, exec (.jobEnd n cause) s = .next t ∧ JobEnded s t n.val j cause.toNat) ∧
  (∀ (s : State) (ws : List Reg64) (n at_ : Nat) (j : Job), n = argTenant ws → (s.tenant n).job = some j → j.ended = some at_ →
    s.mgmt.clearing = [] →
    (s.cmdServed 0 0x22 ws → ws.length = 1 → 1 ≤ n → n ≤ 16 → s.tnState n = tnKept → ∃ t, exec (.jobRelease (.fn 0)) s = .next t ∧
      CmdAnswered t 0 0 [] ∧ t.tnState n = tnOpen ∧ (t.tenant n).job = none ∧
      ∀ pb ∈ s.maskBenches j.gangs, (t.bench pb).mode = .rinsing)) ∧
  (∀ (s : State) (n : Fin 17) (at_ : Nat) (j : Job), s.running = true → (s.tenant n.val).job = some j → j.ended = some at_ →
    s.mgmt.clearing = [] → ∃ t, exec (.keepLimitExpiry n) s = .next t ∧ t.tnState n.val = tnOpen ∧ (t.tenant n.val).job = none ∧
      (∀ pb ∈ s.maskBenches j.gangs, (t.bench pb).mode = .rinsing) ∧
      ∀ g, g < 16 → bit j.gangs g = true → t.rd (Fld.MGMT_GANG_STATE g) = gangRinsing) ∧
  (∀ (s : State) (ws : List Reg64) (m page : Nat), s.cmdServed 0 0x23 ws → ws.length = 2 → m = getBits (ws.getD 0 0) 5 0 →
    page = (ws.getD 1 0).toNat → s.rd (Fld.MGMT_GANG_STATE (m / 4)) = gangKept → (s.bench (s.physOf m)).mode ≠ .rinsing →
    s.ownsRange 0 (page * 2 ^ 21) (2 ^ 26) = true →
    ∃ t, exec (.dumpPool (.fn 0)) s = .next t ∧ CmdAnswered t 0 0 [] ∧ s.fresh + 3 ≤ t.fresh ∧ (t.bench (s.physOf m)).mode = .idle ∧
      t.hbm = (((s.benchReset (s.physOf m)).benchResetDone (s.physOf m)).copyPool (s.physOf m) page).hbm)

/-- Services. A batch of the oldest requests of one model goes out when it is full, or when the oldest has waited, its record in HBM and a
signal on Weir 0x7FE of the lowest bench; what the program has done is answered in the result ring; intake closes as STARVED or for QUIESCE. -/
def Obligations.ServicesBatchAndAnswer : Prop :=
  (∀ (s : State) (n : Fin 17) (j : Job) (v : Service) (b : Nat × List (List Reg64)) (c : Instr), s.running = true →
    (s.tenant n.val).job = some j → j.service = true → j.ended = none → (s.tenant n.val).svc = some v → s.coreRuns 1 = true →
    v.finished = [] → v.dispatched - v.doneSeen < 2 ^ v.batchLog → v.finalSent = false → v.quiesce = false →
    b = takeBatch v.batchMax v.accepted 0 [] → b.2 ≠ [] →
    (c = .batchDispatch n ∧ v.batchMax ≤ b.2.length ∨ c = .batchWaitExpiry n) →
    ∃ t, exec c s = .next t ∧ t = { s with regs := t.regs, mgmt := t.mgmt, hbm := t.hbm, net := t.net } ∧
      (t.tenant n.val).svc = some { v with
        accepted := v.accepted.drop b.1, dispatched := v.dispatched + 1, batches := v.batches ++ [⟨v.dispatched + 1, b.2⟩] } ∧ TenantsApart s t n.val ∧
      t.rd (Fld.MGMT_SVC_PTR_REQ_HEAD n.val) = (s.rd (Fld.MGMT_SVC_PTR_REQ_HEAD n.val) + b.1) % 65536 ∧
      t.net = { s.net with weirOps := s.net.weirOps ++ [⟨j.firstBench, 0x7FE, .signal, 1, ⟨noBench, false, 0⟩⟩] } ∧
      RegsApart s t [Reg.MGMT_SVC_PTR n.val, Reg.MGMT_TENANT n.val]) ∧
  (∀ (s : State) (n : Fin 17) (j : Job) (v : Service), s.running = true → (s.tenant n.val).job = some j → j.service = true →
    j.ended = none → (s.tenant n.val).svc = some v → v.quiesce = false → v.accepted = [] → exec (.batchDispatch n) s = .next s) ∧
  (∀ (s : State) (n : Fin 17) (j : Job) (v : Service) (d : Nat) (out : Nat), s.running = true → (s.tenant n.val).job = some j →
    j.service = true → j.ended = none → (s.tenant n.val).svc = some v → s.coreRuns 1 = true → v.finished = [] →
    d = min ((s.bench (s.physOf j.firstBench)).weir 0x7FF) v.dispatched →
    out = (((v.batches.filter (fun b => decide (b.number ≤ d))).map (fun b => b.requests.length)).sum) → out ≤ s.resRoom n.val v →
    ∃ t, exec (.donePoll n) s = .next t ∧ t = { s with regs := t.regs, mgmt := t.mgmt, hbm := t.hbm } ∧
      (t.tenant n.val).svc = some { v with doneSeen := max v.doneSeen d, batches := v.batches.filter (fun b => decide (d < b.number)) } ∧
      t.rd (Fld.MGMT_SVC_PTR_RES_TAIL n.val) = (s.rd (Fld.MGMT_SVC_PTR_RES_TAIL n.val) + out) % 65536 ∧
      TenantsApart s t n.val ∧ RegsApart s t [Reg.MGMT_SVC_PTR n.val]) ∧
  (∀ (s : State) (n : Fin 17) (j : Job), s.running = true → (s.tenant n.val).job = some j → j.service = true → j.ended = none →
    s.rd (Fld.MGMT_TENANT_INTAKE n.val) = inOpen →
    ∃ t, exec (.intakeStarved n) s = .next t ∧ t = { s with regs := t.regs, spoil := t.spoil } ∧
      t.rd (Fld.MGMT_TENANT_INTAKE n.val) = inClosed ∧ t.rd (Fld.MGMT_TENANT_CLOSE_REASON n.val) = 2 ∧
      (t.spoil.inFlight.getLast?).map (·.cls) = some 0x1A ∧ RegsApart s t [Reg.MGMT_TENANT n.val]) ∧
  (∀ (s : State) (vw : View) (ws : List Reg64) (n : Nat) (j : Job) (v : Service), s.cmdServed (viewNum vw) 0x31 ws → ws.length = 1 →
    n = argTenant ws → 1 ≤ n → n ≤ 16 → (s.tenant n).job = some j → j.service = true → j.ended = none → (s.tenant n).svc = some v →
    s.rd (Fld.MGMT_TENANT_INTAKE n) = inOpen → ∃ t, exec (.serviceClose vw) s = .next t ∧ CmdAnswered t (viewNum vw) 0 [] ∧
      t.rd (Fld.MGMT_TENANT_INTAKE n) = inClosed ∧ t.rd (Fld.MGMT_TENANT_CLOSE_REASON n) = 3 ∧
      (t.tenant n).svc = some { v with quiesce := true } ∧ TenantsApart s t n)

/-! ### Kwawekan -/

/-- Kwawekan's engines have one owner. A request or an INIT gets free engines, or waits as one of at most four with its position, or is
told that the queue is full or that it is out of turn; the owner of a session updates, ends or aborts it; a completion answers and passes the
engines on; a refused input is counted and logged (0x15), a mismatch of results is a SEAL_FAULT (0x14), whose eighth locks Kwawekan;
a session that idles is abandoned, and its owner hears of that once. The status numbers are the model's (log 9). -/
def Obligations.KwawekanServesOneOwner : Prop :=
  (∀ (s : State) (r : SealReq) (k : SealKind) (multi : Bool) (c : Instr), s.running = true →
    (multi = false ∧ c = .sealSingleRequest r k ∨ multi = true ∧ c = .sealInit r k) →
    (s.kwa.owner = none → ∃ t, exec c s = .next t ∧ t = { s with kwa := t.kwa, out := t.out } ∧
      t.kwa = { s.kwa with owner := some ⟨r, k, multi, !multi, false, s.power.time⟩, abandoned := s.kwa.abandoned.filter (· ≠ r) } ∧
      t.out = (if multi = true then s.out ++ [.sealAnswer r seOk 0] else s.out)) ∧
    (∀ o, s.kwa.owner = some o → o.req ≠ r → (∀ q ∈ s.kwa.queue, q.req ≠ r) →
      (s.kwa.queue.length < 4 → exec c s = .next { s with
        kwa := { s.kwa with queue := s.kwa.queue ++ [⟨r, k, multi⟩] }, out := s.out ++ [.sealAnswer r seBusy (s.kwa.queue.length + 1)] }) ∧
      (4 ≤ s.kwa.queue.length → exec c s = .next { s with out := s.out ++ [.sealAnswer r seFull 0] })) ∧
    (∀ o, s.kwa.owner = some o → (o.req = r ∨ ∃ q ∈ s.kwa.queue, q.req = r) →
      exec c s = .next { s with out := s.out ++ [.sealAnswer r seSequence 0] })) ∧
  (∀ (s : State) (r : SealReq) (bytes : Nat) (o : SealSession), s.running = true → s.kwa.owner = some o → o.req = r →
    (o.multi = true → o.final = false →
      exec (.sealUpdate r bytes) s = .next { s with
        kwa := { s.kwa with owner := some { o with busy := true, final := false, last := s.power.time } } } ∧
      exec (.sealFinal r) s = .next { s with
        kwa := { s.kwa with owner := some { o with busy := true, final := true, last := s.power.time } } }) ∧
    (o.multi = true → s.kwa.queue = [] → exec (.sealAbort r) s = .next { s with
      kwa := { s.kwa with owner := none }, out := s.out ++ [.sealAnswer r seOk 0] })) ∧
  (∀ (s : State) (r : SealReq) (bytes : Nat), s.running = true → s.kwa.owner = none →
    (r ∈ s.kwa.abandoned → exec (.sealUpdate r bytes) s = .next { s with
      kwa := { s.kwa with abandoned := s.kwa.abandoned.filter (· ≠ r) }, out := s.out ++ [.sealAnswer r seAbandoned 0] }) ∧
    (r ∉ s.kwa.abandoned → exec (.sealUpdate r bytes) s = .next { s with out := s.out ++ [.sealAnswer r seSequence 0] })) ∧
  (∀ (s : State) (o : SealSession) (out : SealOutcome), s.running = true → s.kwa.owner = some o → o.busy = true → s.sealLocked = false →
    kindRandom o.kind = false →
    (out = .ok ∨ kindPublicKey o.kind = false →
      (o.multi = true → o.final = false → exec (.sealOpComplete out) s = .next { s with
        kwa := { s.kwa with owner := some { o with busy := false } }, out := s.out ++ [.sealAnswer o.req seOk 0] }) ∧
      (o.multi = false ∨ o.final = true → s.kwa.queue = [] → exec (.sealOpComplete out) s = .next { s with
        kwa := { s.kwa with owner := none }, out := s.out ++ [.sealAnswer o.req seOk 0] }) ∧
      (∀ w rest, o.multi = false ∨ o.final = true → s.kwa.queue = w :: rest → ∃ t, exec (.sealOpComplete out) s = .next t ∧
        t = { s with kwa := t.kwa, out := t.out } ∧ t.kwa.queue = rest ∧
        t.kwa.owner = some ⟨w.req, w.kind, w.multi, !w.multi, false, s.power.time⟩)) ∧
    (∀ role value, out = .refused role value → kindPublicKey o.kind = true → s.kwa.queue = [] →
      ∃ t, exec (.sealOpComplete out) s = .next t ∧ t = { s with rc := t.rc, kwa := t.kwa, out := t.out, spoil := t.spoil } ∧
        t.kwa.owner = none ∧ t.out = s.out ++ [.sealAnswer o.req seRefused 0] ∧ (t.spoil.inFlight.getLast?).map (·.cls) = some 0x15 ∧
        t.cnt Fld.SEAL_STATUS_REFUSED = min Fld.SEAL_STATUS_REFUSED.top (s.cnt Fld.SEAL_STATUS_REFUSED + 1)) ∧
    (out = .mismatch → kindPublicKey o.kind = true → s.kwa.queue = [] →
      ∃ t, exec (.sealOpComplete out) s = .next t ∧ t.kwa.owner = none ∧ t.out = s.out ++ [.sealAnswer o.req seFault 0] ∧
        (t.spoil.inFlight.getLast?).map (·.cls) = some 0x14 ∧
        t.rd Fld.SEAL_STATUS_FAULTS = min Fld.SEAL_STATUS_FAULTS.top (s.rd Fld.SEAL_STATUS_FAULTS + 1) ∧
        (t.sealLocked = true ↔ 7 ≤ s.rd Fld.SEAL_STATUS_FAULTS))) ∧
  (∀ (s : State) (o : SealSession), s.running = true → s.kwa.owner = some o → o.multi = true → o.final = false → s.kwa.queue = [] →
    exec .sealIdleTimeout s = .next { s with
      kwa := { s.kwa with owner := none, abandoned := s.kwa.abandoned.filter (· ≠ o.req) ++ [o.req] } })

/-- Entropy, SPDM, IDE and debug. A health failure stops the DRBG and is a fault, a second within a second for good; the restart
reseeds it. The responder answers what it can, asks the engines for a signature, and holds at most two sessions. A key set that is not in
use is programmed in a session, and a stream goes to a programmed set. A challenge is fresh and good for one second and one attempt; a right
answer on a held or ready device without tenants unlocks debug. What counts as a right signature is open (log 9), so both its
outcomes are stated. With debug unlocked for it, TRIG_IN[1] halts every bench that works. -/
def Obligations.EntropySpdmIdeAndDebug : Prop :=
  (∀ (s : State) (adaptive : Bool), s.running = true → ∃ t, exec (.entropyHealthFail adaptive) s = .next t ∧
    t.flag Fld.SEAL_ENTROPY_OK = false ∧ (t.spoil.inFlight.getLast?).map (·.cls) = some 0x14 ∧ t.kwa.entropyFailed = some s.power.time ∧
    (t.kwa.entropyDead = true ↔ s.kwa.entropyDead = true ∨ ∃ x, s.kwa.entropyFailed = some x ∧ s.power.time ≤ x + 1000000000) ∧
    t.cnt (if adaptive then Fld.SEAL_ENTROPY_APT_FAILS else Fld.SEAL_ENTROPY_RCT_FAILS) =
      min (if adaptive then Fld.SEAL_ENTROPY_APT_FAILS else Fld.SEAL_ENTROPY_RCT_FAILS).top
        (s.cnt (if adaptive then Fld.SEAL_ENTROPY_APT_FAILS else Fld.SEAL_ENTROPY_RCT_FAILS) + 1)) ∧
  (∀ s : State, s.running = true → s.flag Fld.SEAL_ENTROPY_OK = false →
    (s.kwa.entropyDead = false → ∃ t, exec .entropyRestartDone s = .next t ∧ t = { s with regs := t.regs, rc := t.rc } ∧
      t.flag Fld.SEAL_ENTROPY_OK = true ∧ RegsApart s t [Reg.SEAL_ENTROPY] ∧
      t.cnt Fld.SEAL_ENTROPY_RESEEDS = min Fld.SEAL_ENTROPY_RESEEDS.top (s.cnt Fld.SEAL_ENTROPY_RESEEDS + 1)) ∧
    (s.kwa.entropyDead = true → exec .entropyRestartDone s = .next s)) ∧
  (∀ (s : State) (session : Bool), s.running = true →
    (∀ c, c = .getVersion ∨ c = .getCapabilities ∨ c = .negotiateAlgorithms ∨ c = .getDigests ∨ c = .getCertificate →
      exec (.spdmRequest c session) s = .next { s with out := s.out ++ [.spdmAnswer c true] }) ∧
    exec (.spdmRequest .unsupported session) s = .next { s with out := s.out ++ [.spdmAnswer .unsupported false] } ∧
    (∀ c, c = .finish ∨ c = .heartbeat ∨ c = .keyUpdate → exec (.spdmRequest c session) s =
      .next { s with out := s.out ++ [.spdmAnswer c (session && decide (0 < s.kwa.sessions))] }) ∧
    (s.kwa.owner = none → s.kwa.queue = [] → ∀ c, c = .challenge ∨ c = .getMeasurements ∨ (c = .keyExchange ∧ s.kwa.sessions < 2) →
      ∃ t, exec (.spdmRequest c session) s = .next t ∧ t = { s with kwa := t.kwa, out := s.out ++ [.spdmAnswer c true] } ∧
        t.kwa.owner = some ⟨.spdm, .sign, false, true, false, s.power.time⟩ ∧
        t.kwa.sessions = (if c = .keyExchange then s.kwa.sessions + 1 else s.kwa.sessions)) ∧
    (2 ≤ s.kwa.sessions → exec (.spdmRequest .keyExchange session) s = .next { s with out := s.out ++ [.spdmAnswer .keyExchange false] }) ∧
    (session = true → 0 < s.kwa.sessions → exec (.spdmRequest .endSession session) s = .next { s with
      kwa := { s.kwa with sessions := s.kwa.sessions - 1 }, out := s.out ++ [.spdmAnswer .endSession true] })) ∧
  (∀ (s : State) (st : IdeStream) (kset : Bool), s.running = true →
    (s.kwa.sessions ≠ 0 → s.flag (ideEn st) = false ∨ s.flag (ideSet st) ≠ kset → ∃ t, exec (.ideKeyProg st kset) s = .next t ∧
      t = { s with kwa := t.kwa, out := s.out ++ [.sealAnswer .spdm seOk 0] } ∧ (2 * ideNum st + b2n kset, true) ∈ t.kwa.ideKeys) ∧
    (s.flag (ideEn st) = true → s.flag (ideSet st) = kset →
      exec (.ideKeyProg st kset) s = .next { s with out := s.out ++ [.sealAnswer .spdm seRefused 0] }) ∧
    (s.kwa.sessions ≠ 0 → (2 * ideNum st + b2n kset, true) ∈ s.kwa.ideKeys → ∃ t, exec (.ideKSetGo st kset) s = .next t ∧
      t = { s with regs := t.regs, rc := t.rc, out := s.out ++ [.sealAnswer .spdm seOk 0] } ∧ t.flag (ideEn st) = true ∧
      t.flag (ideSet st) = kset ∧ RegsApart s t [Reg.SEAL_IDE])) ∧
  (∀ s : State, s.running = true → s.sealLocked = false → s.kwa.entropyDead = false → s.flag Fld.SEAL_ENTROPY_OK = true →
    ∃ t, exec .debugChallengeRead s = .next t ∧ t.fresh = s.fresh + 1 ∧ t.regs = s.regs ∧
      t.kwa.challenge = some (s.fresh, s.power.time + 1000000000) ∧
      t.out = s.out ++ [.challenge ((List.range 32).map (Config.freeByte s.fresh))]) ∧
  (∀ (s : State) (scope : BitVec 2) (sig : List Byte) (n limit : Nat) (ok : Bool), s.running = true →
    s.kwa.challenge = some (n, limit) →
    ok = (decide (s.power.time ≤ limit) && Config.debugSignatureOk n scope.toNat sig &&
      (decide (s.devState = devHeld) || decide (s.devState = devReady)) && s.allClosed && !s.sealLocked) →
    ∃ t, exec (.debugUnlock scope sig) s = .next t ∧ t.kwa = { s.kwa with challenge := none } ∧ t.out = s.out ++ [.unlock ok] ∧
      t.cnt Fld.SEAL_DEBUG_ATTEMPTS = min Fld.SEAL_DEBUG_ATTEMPTS.top (s.cnt Fld.SEAL_DEBUG_ATTEMPTS + 1) ∧
      (ok = true → t.flag Fld.SEAL_DEBUG_UNLOCKED = true ∧ t.rd Fld.SEAL_DEBUG_SCOPE = scope.toNat) ∧ (ok = false → t.regs = s.regs)) ∧
  (∀ s : State, s.running = true →
    (s.flag Fld.SEAL_DEBUG_UNLOCKED = true → bit (s.rd Fld.SEAL_DEBUG_SCOPE) 0 = true → ∃ t, exec .trigInHaltEdge s = .next t ∧
      t = { s with benches := t.benches } ∧ ∀ pb, t.bench pb = (if pb < 68 then (s.bench pb).halt 8 else s.bench pb)) ∧
    (s.flag Fld.SEAL_DEBUG_UNLOCKED = false ∨ bit (s.rd Fld.SEAL_DEBUG_SCOPE) 0 = false → exec .trigInHaltEdge s = .next s))

/-! ### The host interface -/

namespace Sys2Proof.Machine

/-- The place of an address in the store of local HBM. -/
def State.hbmKey (s : State) (a : Nat) : Option Nat := (s.hbmLoc a).map HbmLoc.key

/-- A doorbell as a GO write rings it. -/
def State.newBell (s : State) (vw kind : Nat) (tag : BitVec 16) (count : BitVec 32) : Doorbell :=
  ⟨kind, tag.toNat, count.toNat, 0, s.rd (Fld.HIF_DB_HOST_HOST vw), s.rd (Fld.HIF_DB_DEV_DEV vw), none, []⟩

/-- The GO write of a kind of doorbell. -/
def bellGo (vw : View) (kind : Nat) (tag : BitVec 16) (count : BitVec 32) : Instr :=
  if kind = 0 then .doorbellRequest vw tag count else if kind = 1 then .doorbellCopyIn vw tag count else .doorbellCopyOut vw tag count

/-- The doorbell status of a view after a completion. -/
def BellDone (t : State) (vw result count : Nat) : Prop :=
  t.rd (Fld.HIF_DB_STATUS_RESULT vw) = result ∧ t.rd (Fld.HIF_DB_STATUS_COUNT vw) = count ∧ t.flag (Fld.HIF_DB_STATUS_DONE vw) = true

end Sys2Proof.Machine

/-- BAR2: a write stores the bytes that the function may reach and no others, and every other byte of local HBM keeps its value; a read answers those
bytes and zeros elsewhere and changes no memory. Doorbells: a GO write rings one doorbell of a function, or sets OVERRUN; fields that fail their
checks complete it at once as BAD_ARGUMENT; beyond four it waits in order; a channel that takes up a copy or a request reads or writes host memory.
Host data goes to HBM or, record by record, into the request ring; an error or a timeout stops the doorbell with HOST_ERROR; completion reports
RESULT and COUNT. -/
def Obligations.HostWindowAndDoorbellsMoveData : Prop :=
  ((∀ (s : State) (f : Fin 16) (off : BitVec 36) (l : List (Option Byte)) (a : Nat), s.running = true → s.power.thermtrip = false →
     1 ≤ l.length → l.length ≤ 4096 → off.toNat + l.length ≤ bar2Size f.val → a = s.windowAt f.val off.toNat →
     (∀ i j, i < l.length → j < l.length → i ≠ j → s.mayReach f.val (a + i) = true → s.hbmKey (a + i) ≠ s.hbmKey (a + j)) →
     ∃ t, exec (.bar2Write (.fn f) off l) s = .next t ∧ t = { s with hbm := t.hbm, rc := t.rc, spoil := t.spoil } ∧
       t.hbm.owners = s.hbm.owners ∧
       (∀ i v, l[i]? = some (some v) → s.mayReach f.val (a + i) = true → t.hbmByte (a + i) = v) ∧
       (∀ x, (∀ i v, l[i]? = some (some v) → s.mayReach f.val (a + i) = true → s.hbmKey x ≠ s.hbmKey (a + i)) → t.hbmByte x = s.hbmByte x) ∧
       ((∀ i v, l[i]? = some (some v) → s.mayReach f.val (a + i) = true) → t.spoil = s.spoil) ∧
       (∀ i v, l[i]? = some (some v) → s.mayReach f.val (a + i) = false → s.mayLog 0x300 = true →
         (t.spoil.inFlight.getLast?).map (·.cls) = some 0x19)) ∧
   (∀ (s : State) (f : Fin 16) (off : BitVec 36) (n : BitVec 13) (a : Nat), s.running = true → s.power.thermtrip = false →
     1 ≤ n.toNat → n.toNat ≤ 4096 → off.toNat + n.toNat ≤ bar2Size f.val → a = s.windowAt f.val off.toNat →
     (∀ w ∈ touchedWords a n.toNat, (s.hbmWord w).2 = false) →
     ∃ t, exec (.bar2Read (.fn f) off n) s = .next t ∧ t = { s with rc := t.rc, spoil := t.spoil, out := t.out } ∧
       t.out = s.out ++ [.bar2Data (.fn f)
         ((List.range n.toNat).map (fun i => if s.mayReach f.val (a + i) then s.hbmByte (a + i) else 0))] ∧
       ((∀ i, i < n.toNat → s.mayReach f.val (a + i) = true) → t.spoil = s.spoil))) ∧
  ((∀ (s : State) (vw : View) (kind : Nat) (tag : BitVec 16) (count : BitVec 32) (d : Doorbell), s.writable vw 0x40020 = true → kind < 3 →
     d = s.newBell (viewNum vw) kind tag count →
     ((s.view (viewNum vw)).doorbell.isSome = true →
       exec (bellGo vw kind tag count) s = .next (s.wr (Fld.HIF_DB_STATUS_OVERRUN (viewNum vw)) 1)) ∧
     ((s.view (viewNum vw)).doorbell = none → d.fieldsOk = false → ∃ t, exec (bellGo vw kind tag count) s = .next t ∧
       t = { s with regs := t.regs, out := t.out } ∧ BellDone t (viewNum vw) 6 0 ∧ t.rd (Fld.HIF_DB_STATUS_TAG (viewNum vw)) = tag.toNat ∧
       RegsApart s t [Reg.HIF_DB_STATUS (viewNum vw)]) ∧
     ((s.view (viewNum vw)).doorbell = none → d.fieldsOk = true → viewNum vw ∉ s.host.order → 4 ≤ s.host.order.length →
       ∃ t, exec (bellGo vw kind tag count) s = .next t ∧ t = { s with regs := t.regs, host := t.host } ∧
         t.host.order = s.host.order ++ [viewNum vw] ∧ (t.view (viewNum vw)).doorbell = some d ∧ ViewsApart s t (viewNum vw)) ∧
     ((s.view (viewNum vw)).doorbell = none → d.fieldsOk = true → viewNum vw ∉ s.host.order → s.host.order.length < 4 →
       (kind = 0 → s.requestAllowed (viewNum vw) = true → s.intakeVerdict (s.boundTenant (viewNum vw)) = 0 →
         ∃ t, exec (bellGo vw kind tag count) s = .next t ∧ t = { s with regs := t.regs, host := t.host, out := t.out } ∧
           t.out = s.out ++ [.hostRead vw d.host 128] ∧ (t.view (viewNum vw)).doorbell = some d) ∧
       (kind = 1 → ∃ t, exec (bellGo vw kind tag count) s = .next t ∧ t = { s with regs := t.regs, host := t.host, out := t.out } ∧
         t.out = s.out ++ [.hostRead vw d.host (32 * d.count)] ∧ (t.view (viewNum vw)).doorbell = some d) ∧
       (kind = 2 → (∀ i, i < d.count → s.mayReach (viewNum vw) (d.dev + 32 * i) = true ∧ (s.hbmWord (d.dev + 32 * i)).2 = false) →
         ∃ t, exec (bellGo vw kind tag count) s = .next t ∧ t = { s with regs := t.regs, rc := t.rc, host := t.host, out := t.out } ∧
           t.out = s.out ++ [.hostWrite vw d.host ((List.range d.count).flatMap (fun i => s.hbmBytes (d.dev + 32 * i) 32))] ∧
           (t.view (viewNum vw)).doorbell = some { d with moved := d.count, result := some 0 }))) ∧
   (∀ (s : State) (f : Fin 16) (d : Doorbell) (l : List Byte), s.running = true → s.power.thermtrip = false →
     (s.view f.val).doorbell = some d → f.val ∈ s.servedBells → d.result = none →
     (d.kind = 1 → d.rest = [] → l.length = 32 → s.mayReach f.val (d.dev + 32 * d.moved) = true →
       ∃ t, exec (.doorbellHostData (.fn f) (.data l)) s = .next t ∧ t = { s with hbm := t.hbm, rc := t.rc, host := t.host } ∧
         t.hbm = (s.setHbmBytes (d.dev + 32 * d.moved) l).hbm ∧ ViewsApart s t f.val ∧
         (t.view f.val).doorbell = some { d with moved := d.moved + 1, result := if d.moved + 1 = d.count then some 0 else none }) ∧
     (d.kind = 1 → d.rest = [] → l.length = 32 → s.mayReach f.val (d.dev + 32 * d.moved) = false →
       ∃ t, exec (.doorbellHostData (.fn f) (.data l)) s = .next t ∧ t = { s with host := t.host } ∧
         (t.view f.val).doorbell = some { d with rest := l, result := some 4 }) ∧
     (∀ n v, d.kind = 0 → d.rest = [] → l.length = 128 → n = s.boundTenant f.val → (s.tenant n).svc = some v → s.intakeVerdict n = 0 →
       s.requestOk n (recordOf l) = true → v.backlog + 1 < s.rd Fld.MGMT_CFG_INTAKE_HIGH → d.moved + 1 = d.count →
       ∃ t, exec (.doorbellHostData (.fn f) (.data l)) s = .next t ∧
         t = { s with regs := t.regs, mgmt := t.mgmt, hbm := t.hbm, host := t.host } ∧
         (t.tenant n).svc = some { v with accepted := v.accepted ++ [(recordOf l, s.power.time)] } ∧ TenantsApart s t n ∧
         t.rd (Fld.MGMT_SVC_PTR_REQ_TAIL n) = (s.rd (Fld.MGMT_SVC_PTR_REQ_TAIL n) + 1) % 65536 ∧
         (t.view f.val).doorbell = some { d with moved := d.moved + 1, result := some 0 }) ∧
     (∀ c, d.kind ≤ 1 → (c = .doorbellHostData (.fn f) .error ∨ c = .hostCompletionTimeout (.fn f)) → ∃ t, exec c s = .next t ∧
       t = { s with host := t.host, out := s.out ++ [.aer (.fn f)] } ∧ ViewsApart s t f.val ∧
       (t.view f.val).doorbell = some { d with result := some 5 })) ∧
   (∀ (s : State) (f : Fin 16) (d : Doorbell) (r : Nat), s.running = true → s.power.thermtrip = false →
     (s.view f.val).doorbell = some d → d.result = some r → r < 8 → d.moved < 2 ^ 32 → s.host.order.length ≤ 4 →
     ∃ t, exec (.doorbellComplete (.fn f)) s = .next t ∧ t = { s with regs := t.regs, host := t.host, out := t.out } ∧
       BellDone t f.val r d.moved ∧ (t.view f.val).doorbell = none ∧ ViewsApart s t f.val ∧
       t.host.order = s.host.order.filter (· ≠ f.val) ∧ RegsApart s t [Reg.HIF_DB_STATUS f.val]))

/-- Result mailboxes and function state. A mailbox is bound to a source with no MSEQ; the head of its source is presented with the next MSEQ;
its acknowledgement consumes the result, another number sets BAD_ACK. A VF is bound to a tenant that no other has; a changed
binding and a function-level reset leave the function's host registers and view at reset, with its end records. Configuration accesses pass to
the endpoint, whose read data is free (R448). -/
def Obligations.MailboxesBindingsAndResets : Prop :=
  (∀ (s : State) (vw : View) (m : Fin 16) (bad : Bool) (kind : BitVec 3) (n : BitVec 5),
    s.writable vw (0x41000 + 0x80 * m.val) = true → kind.toNat ≤ 2 →
    (kind.toNat = 1 → 1 ≤ n.toNat ∧ n.toNat ≤ 16 ∧ (viewNum vw = 0 ∨ s.boundTenant (viewNum vw) = n.toNat)) →
    (kind.toNat ≠ 0 → s.boundElsewhere (viewNum vw) m.val kind.toNat n.toNat = false) →
    ∃ t, exec (.mboxCfgWrite vw m bad kind n) s = .next t ∧ t = { s with regs := t.regs, host := t.host } ∧
      t.rd (Fld.HIF_MBOX_CFG_KIND (viewNum vw) m.val) = kind.toNat ∧ t.rd (Fld.HIF_MBOX_CFG_TENANT (viewNum vw) m.val) = n.toNat ∧
      t.mbox (viewNum vw) m.val = ⟨0, none⟩ ∧ ViewsApart s t (viewNum vw) ∧ RegsApart s t [Reg.HIF_MBOX_CFG (viewNum vw) m.val]) ∧
  (∀ (s : State) (f m : Fin 16) (p : List Reg64), s.running = true → s.power.thermtrip = false → (s.mbox f.val m.val).present = none →
    s.mboxHead f.val m.val = some p → ∃ t, exec (.mboxResultPresent (.fn f) m) s = .next t ∧
      t = { s with host := t.host, out := t.out } ∧ t.mbox f.val m.val = ⟨(s.mbox f.val m.val).acked, some p⟩ ∧
      (t.mbox f.val m.val).shown = seqAfter (s.mbox f.val m.val).acked ∧ ViewsApart s t f.val) ∧
  (∀ (s : State) (vw : View) (m : Fin 16) (mseq : BitVec 32) (b : Mbox), s.writable vw (0x41008 + 0x80 * m.val) = true →
    b = s.mbox (viewNum vw) m.val →
    (b.present.isSome = true → mseq.toNat = seqAfter b.acked → ∃ t, exec (.mboxAck vw m mseq) s = .next t ∧
      t.mbox (viewNum vw) m.val = ⟨mseq.toNat, none⟩ ∧
      (s.rd (Fld.HIF_MBOX_CFG_KIND (viewNum vw) m.val) = 2 → t = { s with host := t.host } ∧
        (t.view (viewNum vw)).endRecords = (s.view (viewNum vw)).endRecords.drop 1) ∧
      (∀ n, s.rd (Fld.HIF_MBOX_CFG_KIND (viewNum vw) m.val) = 1 → n = s.rd (Fld.HIF_MBOX_CFG_TENANT (viewNum vw) m.val) → s.resOcc n ≠ 0 →
        t.rd (Fld.MGMT_SVC_PTR_RES_HEAD n) = (s.rd (Fld.MGMT_SVC_PTR_RES_HEAD n) + 1) % 65536)) ∧
    (mseq.toNat = b.acked → b.acked ≠ seqAfter b.acked → exec (.mboxAck vw m mseq) s = .next s) ∧
    (mseq.toNat ≠ b.acked → b.present = none ∨ mseq.toNat ≠ seqAfter b.acked →
      exec (.mboxAck vw m mseq) s = .next (s.wr (Fld.HIF_MBOX_CFG_BAD_ACK (viewNum vw) m.val) 1))) ∧
  (∀ (s : State) (v : Fin 16) (en : Bool) (n : BitVec 5), s.writable (.fn 0) (0x40100 + 8 * v.val) = true → v ≠ 0 →
    (en = true → 1 ≤ n.toNat ∧ n.toNat ≤ 16 ∧ ∀ u, u < 16 → u ≠ v.val → s.boundTenant u ≠ n.toNat) →
    ∃ t, exec (.vfBindWrite (.fn 0) v en n) s = .next t ∧ t.boundTenant v.val = (if en = true then n.toNat else 0) ∧
      (∀ u, u ≠ v.val → t.boundTenant u = s.boundTenant u) ∧
      (t.boundTenant v.val ≠ s.boundTenant v.val → (t.view v.val) = { ViewState.reset with endRecords := (s.view v.val).endRecords } ∧
        ∀ k, viewReg v.val k = true → t.reg k = regReset k)) ∧
  (∀ (s : State) (f : Fin 16), s.running = true → s.power.thermtrip = false → f ≠ 0 → s.host.order.length ≤ 4 →
    ∃ t, exec (.functionLevelReset f) s = .next t ∧ t = { s with regs := t.regs, rc := t.rc, host := t.host, mgmt := t.mgmt } ∧
      t.view f.val = { ViewState.reset with endRecords := (s.view f.val).endRecords } ∧ ViewsApart s t f.val ∧
      t.host.order = s.host.order.filter (· ≠ f.val) ∧
      ∀ k, t.reg k = (if viewReg f.val k = true then regReset k else s.reg k)) ∧
  (∀ s : State, s.running = true → s.power.thermtrip = false → ∃ t, exec (.functionLevelReset 0) s = .next t ∧
    t.host.order = [] ∧ t.kwa.sessions = 0 ∧ t.kwa.ideKeys = [] ∧
    (∀ f, f < 16 → t.view f = { ViewState.reset with endRecords := (s.view f).endRecords }) ∧
    ∀ f k, f < 16 → viewReg f k = true → t.reg k = regReset k) ∧
  (∀ (s : State) (f : Fin 16) (off : BitVec 12), s.power.thermtrip = false → s.power.st = .running ∨ s.power.st = .locking →
    (∀ d : BitVec 32, exec (.pcieConfigAccess f off (some d)) s =
      .next { s with out := s.out ++ [.config f.val off.toNat true (BitVec.ofNat 64 d.toNat)] }) ∧
    ∃ v, exec (.pcieConfigAccess f off none) s = .next { s with fresh := s.fresh + 1, out := s.out ++ [.config f.val off.toNat false v] })

/-- The management mailbox and I3C. A START begins a command, or answers a bad length, or sets OVERFLOW; argument words are appended, and the
last one passes the command to Matumon; an ABORT discards a command that has not passed; a read answers the next response word, or zero with
UNDERRUN. I3C writes words to a register as its own view and reads from the offset that it wrote before; its common command codes set
its address and its in-band interrupts. -/
def Obligations.ManagementWordsAndI3cFrames : Prop :=
  (∀ (s : State) (vw : View) (code : BitVec 8) (n : BitVec 32), s.writable vw 0x40030 = true →
    ((s.view (viewNum vw)).cmd.isSome = true → exec (.mgmtCmdStart vw code n) s = .next (s.wr (Fld.HIF_MGMT_STATUS_OVERFLOW (viewNum vw)) 1)) ∧
    ((s.view (viewNum vw)).cmd = none → n.toNat % 8 = 0 → n.toNat ≠ 0 ∨ code.toNat ∈ cmdCodes → ∃ t, exec (.mgmtCmdStart vw code n) s = .next t ∧
      t = { s with host := t.host } ∧ ViewsApart s t (viewNum vw) ∧ (t.view (viewNum vw)).resp = [] ∧
      (t.view (viewNum vw)).cmd = some ⟨code.toNat, n.toNat, [], decide (n.toNat = 0)⟩) ∧
    ((s.view (viewNum vw)).cmd = none → n.toNat % 8 ≠ 0 → ∃ t, exec (.mgmtCmdStart vw code n) s = .next t ∧
      CmdAnswered t (viewNum vw) 3 [] ∧ OnlyMailbox s t (viewNum vw))) ∧
  (∀ (s : State) (vw : View) (c : MgmtCmd), s.writable vw 0x40030 = true → (s.view (viewNum vw)).cmd = some c →
    (c.passed = false → ∃ t, exec (.mgmtCmdAbort vw) s = .next t ∧ t = { s with host := t.host } ∧ ViewsApart s t (viewNum vw) ∧
      t.view (viewNum vw) = { s.view (viewNum vw) with cmd := none }) ∧
    (c.passed = true → exec (.mgmtCmdAbort vw) s = .next s)) ∧
  (∀ (s : State) (vw : View) (w : Reg64), s.writable vw 0x40038 = true →
    (∀ c, (s.view (viewNum vw)).cmd = some c → c.passed = false → (s.view (viewNum vw)).path < 512 → c.code ∈ cmdCodes →
      ∃ t, exec (.mgmtDataWrite vw w) s = .next t ∧ t = { s with host := t.host } ∧ ViewsApart s t (viewNum vw) ∧
        t.view (viewNum vw) = { s.view (viewNum vw) with
          cmd := some { c with words := c.words ++ [w], passed := decide (c.length ≤ 8 * (c.words.length + 1)) }
          path := (s.view (viewNum vw)).path + 1 }) ∧
    ((s.view (viewNum vw)).cmd = none → exec (.mgmtDataWrite vw w) s = .next (s.wr (Fld.HIF_MGMT_STATUS_OVERFLOW (viewNum vw)) 1))) ∧
  (∀ (s : State) (vw : View), s.readable vw 0x40038 = true →
    (∀ w rest, (s.view (viewNum vw)).resp = w :: rest → ∃ t, exec (.mgmtDataRead vw) s = .next t ∧
      t = { s with host := t.host, out := s.out ++ [.readData vw 0x40038 w] } ∧ ViewsApart s t (viewNum vw) ∧
      t.view (viewNum vw) = { s.view (viewNum vw) with resp := rest }) ∧
    ((s.view (viewNum vw)).resp = [] → exec (.mgmtDataRead vw) s =
      .next ((s.wr (Fld.HIF_MGMT_STATUS_UNDERRUN (viewNum vw)) 1).emit (.readData vw 0x40038 0)))) ∧
  (∀ (s : State) (off : BitVec 32) (k : BitVec 6) (ws : List Reg64), s.running = true →
    (∃ t, exec (.i3cPrivateWrite off []) s = .next t ∧ t = { s with host := t.host } ∧ ViewsApart s t 16 ∧
      t.view 16 = { s.view 16 with i3cRead := some off.toNat }) ∧
    (∀ w, exec (.i3cPrivateWrite off [w]) s = .next (s.regWrite 16 off.toNat w)) ∧
    (ws.length ≤ 32 → 1 ≤ ws.length → isDataReg off.toNat = true → exec (.i3cPrivateWrite off ws) s =
      .next (ws.foldl (fun s w => s.regWrite 16 off.toNat w) s)) ∧
    ((s.view 16).i3cRead = some off.toNat → 1 ≤ k.toNat → k.toNat ≤ 32 → ∃ t l, exec (.i3cPrivateRead k) s = .next t ∧
      l.length = k.toNat ∧ t.out.getLast? = some (.i3cData l) ∧
      l.head? = some ((s.setView 16 { s.view 16 with i3cRead := none }).regRead 16 off.toNat).val)) ∧
  (∀ (s : State) (c : I3cCcc), s.power.st ≠ .off → ∃ t, exec (.i3cCcc c) s = .next t ∧
    t = { s with host := { s.host with i3cAddr := t.host.i3cAddr, i3cIbi := t.host.i3cIbi } } ∧
    t.host.i3cAddr = (match c with
      | .entdaa a => some (s.host.i3cAddr.getD a.toNat)
      | .setdasa a => some (s.host.i3cAddr.getD a.toNat)
      | .rstdaa => none
      | _ => s.host.i3cAddr) ∧
    t.host.i3cIbi = (match c with
      | .enec true => true
      | .disec true => false
      | _ => s.host.i3cIbi))

/-! ### Power, clocks, gauges and the Spoil log -/

namespace Sys2Proof.Machine

/-- The posted throttle requests. -/
def State.requests (s : State) : List Nat :=
  [s.rd Fld.CLKPWR_THROTTLE_HOST, s.rd Fld.CLKPWR_THROTTLE_HW, s.rd Fld.DEVCTL_HBM_THERM_REQUEST, s.rd Fld.CLKPWR_THROTTLE_RCH0,
    s.rd Fld.CLKPWR_THROTTLE_RCH1, s.rd Fld.CLKPWR_THROTTLE_RCH2, s.rd Fld.CLKPWR_THROTTLE_RCH3]

/-- The depth that a reach warden asks for at a temperature with no earlier request. -/
def State.reachDepth (s : State) (deg : Nat) : Nat :=
  if s.rd Fld.CLKPWR_THERM_T8 ≤ deg then 3 else if s.rd Fld.CLKPWR_THERM_T6 ≤ deg then 2 else if s.rd Fld.CLKPWR_THERM_T5 ≤ deg then 1 else 0

end Sys2Proof.Machine

/-- Power and resets. PWROK rising latches the straps; the locked root PLL starts device time and the boot, with a boot source outside the table
FAILED; a lock that does not come is FAILED; PWROK low for a microsecond leaves nothing but the NOR and the fuses, under 100 ns nothing happens
(between the two either, R522); PERST_N holds the device with benches, host interface and Kwawekan's requests ended, and its release is a warm
CLEARING; a thermal trip is FAILED with the PCIe link down. -/
def Obligations.PowerAndResetSequencesRun : Prop :=
  (∀ (s : State) (b r : BitVec 2), s.power.st = .off → ∃ t, exec (.pwrokRise b r) s = .next t ∧
    t = { s with regs := t.regs, power := { s.power with st := .locking } } ∧ t.rd Fld.CLKPWR_RESET_BOOT_SRC = b.toNat ∧
    t.rd Fld.CLKPWR_RESET_ROLE_SEL = r.toNat ∧ RegsApart s t [Reg.CLKPWR_RESET]) ∧
  (∀ s : State, s.flag Fld.CLKPWR_CLK_ROOT_LOCK = false → s.devState ≠ devFailed →
    (s.power.st = .locking → ∃ t, exec .rootPllLock s = .next t ∧ t.power.st = .running ∧ t.power.time = 0 ∧
      t.flag Fld.CLKPWR_CLK_ROOT_LOCK = true ∧ t.flag Fld.CLKPWR_CLK_SER_LOCK = true ∧ t.flag Fld.CLKPWR_CLK_PCIE_LOCK = true ∧
      (s.rd Fld.CLKPWR_RESET_BOOT_SRC < 2 → t.devState = s.devState ∧
        t.rd Fld.CLKPWR_LEDGER_BANK = (if s.rd Fld.CLKPWR_RESET_BOOT_SRC = 1 then 0 else s.power.nor.currentBank)) ∧
      (2 ≤ s.rd Fld.CLKPWR_RESET_BOOT_SRC → t.devState = devFailed ∧ t.rd Fld.CLKPWR_RESET_FAIL_CAUSE = 2)) ∧
    (s.power.st = .held → ∃ t, exec .rootPllLock s = .next t ∧ t = { s with regs := t.regs, power := t.power } ∧ t.power.st = .held ∧
      t.power.time = 0 ∧ t.flag Fld.CLKPWR_CLK_ROOT_LOCK = true ∧ RegsApart s t [Reg.CLKPWR_CLK]) ∧
    (s.power.st = .locking → ∃ t, exec .pllLockTimeout s = .next t ∧ t = { s with regs := t.regs, out := t.out } ∧
      t.devState = devFailed ∧ t.rd Fld.CLKPWR_RESET_FAIL_CAUSE = 1 ∧ RegsApart s t [Reg.MGMT_STATUS, Reg.CLKPWR_RESET])) ∧
  (∀ (s : State) (ns : Nat), s.power.st ≠ .off →
    (ns < 100 → exec (.pwrokFall ns) s = .next s) ∧
    (1000 ≤ ns → s.power.ledgerOp = none → exec (.pwrokFall ns) s = .next { State.reset with
      pending := s.pending, fresh := s.fresh, out := s.out
      power := { Power.reset with st := .off, nor := s.power.nor }, kwa := { Seal.reset with svnFloor := s.kwa.svnFloor } }) ∧
    (100 ≤ ns → ns < 1000 → ∃ t, exec (.pwrokFall ns) s = .next t ∧
      (t = { s with fresh := s.fresh + 1 } ∨ t.power.st = .off ∧ t.regs = State.reset.regs ∧ t.kwa.svnFloor = s.kwa.svnFloor))) ∧
  (∀ s : State, s.devState ≠ devFailed → s.power.st = .running → ∃ t, exec .perstAssert s = .next t ∧ t.power.st = .held ∧
    t.power.time = s.power.time ∧ t.host = HostIf.reset ∧ t.kwa.owner = none ∧ t.kwa.queue = [] ∧ t.kwa.sessions = 0 ∧
    t.power.ledgerOp = none ∧ t.flag Fld.CLKPWR_CLK_PCIE_LOCK = false ∧ t.rd Fld.MGMT_STATUS_CORE_UP = 0 ∧
    ∀ pb, pb < 68 → (t.bench pb).active = false) ∧
  (∀ s : State, s.power.st = .held →
    (s.flag Fld.CLKPWR_CLK_ROOT_LOCK = false → exec .perstRelease s = .next { s with power := { s.power with st := .locking } }) ∧
    (s.flag Fld.CLKPWR_CLK_ROOT_LOCK = true → s.rd Fld.CLKPWR_RESET_BOOT_SRC < 2 → ∃ t, exec .perstRelease s = .next t ∧
      t.power.st = .running ∧ t.devState = devClearing ∧ t.ledges = Ledges.reset ∧ t.mgmt.tenants = [] ∧ t.hbm.owners = [] ∧
      t.flag Fld.CLKPWR_RESET_LAST = true ∧ t.rd Fld.CLKPWR_RESET_WARM_COUNT = (s.rd Fld.CLKPWR_RESET_WARM_COUNT + 1) % 65536 ∧
      t.spoil.ring = s.spoil.ring ∧ ∀ pb, pb < 68 → (t.bench pb).mode = .rinsing)) ∧
  (∀ (s : State) (sensor deg : BitVec 8), s.power.thermtrip = false → s.power.st = .running ∨ s.power.st = .held →
    ∃ t, exec (.thermalTrip sensor deg) s = .next t ∧ t.power.thermtrip = true ∧ t.devState = devFailed ∧
      t.rd Fld.CLKPWR_RESET_FAIL_CAUSE = 5 ∧ t.pcieUp = false ∧ t.flag Fld.CLKPWR_CLK_PCIE_LOCK = false ∧ t.host = HostIf.reset ∧
      ∀ pb, pb < 68 → (t.bench pb).active = false)

/-- Boot and the Ledger. An image that authenticates boots: the cores run, Kwawekan is ready, every bench has its macros; one that does not
is logged (0x13) and the other slot is tried, once, then FAILED. At the end of CLEARING memories are zero and no bench rinses, the Hall identity
is the Ledger's, and the device is READY without a host or HELD for one. A Ledger write erases the bank that is not current; one that reads back
right makes it current with its SEQ, a failed one is tried again and then reported. -/
def Obligations.BootClearsAndLedgerWrites : Prop :=
  (∀ (s : State) (img : ImageCheck), s.running = true → img.wellFormed = true → s.devState = devClearing → s.mgmt.booted = false →
    s.sealLocked = false →
    (img.failed = none → s.kwa.svnFloor ≤ img.svn.toNat → ∃ t, exec (.bootImageVerified img false) s = .next t ∧ t.mgmt.booted = true ∧
      t.rd Fld.MGMT_STATUS_CORE_UP = 15 ∧ t.rd Fld.MGMT_FW_VERSION = img.version.toNat ∧ t.rd Fld.SEAL_BOOT_IMAGE_SVN = img.svn.toNat ∧
      t.rd Fld.SEAL_BOOT_RESULT = (if s.flag Fld.MGMT_FW_FALLBACK = true then 2 else 1) ∧ t.rd Fld.SEAL_STATUS_STATE = 1 ∧
      t.devState = devClearing ∧ (∀ k, k < 3 → t.reg (Reg.SEAL_MEAS k) = img.digests.getD k 0) ∧
      ∀ pb, pb < 68 → t.flag (Fld.BENCH_MACRO_ID_VALID pb) = true ∧ t.rd (Fld.BENCH_MACRO_ID_VERSION pb) = img.macroVersion.toNat) ∧
    (img.failed.isSome = true ∨ img.svn.toNat < s.kwa.svnFloor →
      (s.flag Fld.MGMT_FW_FALLBACK = false → ∃ t, exec (.bootImageVerified img false) s = .next t ∧ t.mgmt = s.mgmt ∧
        t = { s with regs := t.regs, power := t.power, spoil := t.spoil } ∧ t.flag Fld.MGMT_FW_FALLBACK = true ∧ t.devState = devClearing ∧
        t.power = { s.power with ledger := { s.power.ledger with slot := 1 - s.power.ledger.slot, trial := false } } ∧
        (t.spoil.inFlight.getLast?).map (·.cls) = some 0x13) ∧
      (s.flag Fld.MGMT_FW_FALLBACK = true → ∃ t, exec (.bootImageVerified img false) s = .next t ∧ t.devState = devFailed ∧
        t.rd Fld.CLKPWR_RESET_FAIL_CAUSE = 3 ∧ t.rd Fld.SEAL_BOOT_RESULT = 3))) ∧
  (∀ s : State, s.running = true → s.devState = devClearing → s.mgmt.booted = true → ∃ t, exec .clearingComplete s = .next t ∧
    t.hbm.mem = EMem.zero ∧ (∀ pb, (t.bench pb).mode ≠ .rinsing) ∧
    t.rd Fld.HALL_ID_STATE = (if s.power.ledger.hallIdent = 0 then 0 else 2) ∧
    (s.power.ledger.startMode = 1 → t.devOpen = true ∧ t.flag Fld.MGMT_STATUS_HOSTLESS = true) ∧
    (s.power.ledger.startMode ≠ 1 → (∀ v, (s.view v).offer = false) → s.host.views = [] → t.devState = devHeld ∧
      t.rd Fld.MGMT_STATUS_HELD_CAUSE = 1 ∧ t.flag Fld.MGMT_STATUS_HOSTLESS = false)) ∧
  (∀ (s : State) (bank : Nat), s.running = true → s.coreRuns 0 = true → s.power.ledgerOp = none →
    bank = (if s.power.nor.currentBank = 1 then 2 else 1) → ∃ t, exec .ledgerWrite s = .next t ∧
      t = { s with regs := t.regs, power := t.power } ∧
      t.power = { s.power with nor := s.power.nor.eraseBank bank, ledgerOp := some ⟨bank, s.power.nor.nextSeq, false, s.power.ledger⟩ } ∧
      t.flag Fld.CLKPWR_LEDGER_WRITING = true ∧
      t.flag (if bank = 1 then Fld.CLKPWR_LEDGER_VALID_A else Fld.CLKPWR_LEDGER_VALID_B) = false ∧ RegsApart s t [Reg.CLKPWR_LEDGER]) ∧
  (∀ (s : State) (op : LedgerOp), s.running = true → s.power.ledgerOp = some op →
    (1 ≤ op.bank → op.bank ≤ 2 → op.seq < 2 ^ 32 → ∃ t, exec (.ledgerWriteComplete true) s = .next t ∧
      t = { s with regs := t.regs, power := t.power } ∧
      t.power = { s.power with nor := s.power.nor.writeBank op.bank op.seq op.data, ledgerOp := none } ∧
      t.rd Fld.CLKPWR_LEDGER_BANK = op.bank ∧ t.rd Fld.CLKPWR_LEDGER_SEQ = op.seq ∧ t.rd Fld.CLKPWR_LEDGER_LAST_WRITE = 1 ∧
      t.rd Fld.CLKPWR_LEDGER_WRITES = (s.rd Fld.CLKPWR_LEDGER_WRITES + 1) % 65536 ∧ t.flag Fld.CLKPWR_LEDGER_WRITING = false ∧
      RegsApart s t [Reg.CLKPWR_LEDGER]) ∧
    (op.retried = false → ∃ t, exec (.ledgerWriteComplete false) s = .next t ∧ t = { s with regs := t.regs, power := t.power } ∧
      t.power = { s.power with ledgerOp := some { op with retried := true } } ∧ t.flag Fld.CLKPWR_LEDGER_WRITING = true) ∧
    (op.retried = true → ∃ t, exec (.ledgerWriteComplete false) s = .next t ∧ t = { s with regs := t.regs, power := t.power } ∧
      t.power = { s.power with ledgerOp := none } ∧ t.rd Fld.CLKPWR_LEDGER_LAST_WRITE = 2 ∧ t.flag Fld.CLKPWR_LEDGER_WRITING = false))

/-- Gauges and throttling. A sample is stored; the clock unit asks for the deepest step when a sensor reaches THW and withdraws when all are
3 °C below; rail samples show in their registers with their time; a reach warden with no request in force asks by temperature and one step
deeper above the power cap; the floor is the host's request; TARGET is the deepest request. A change of TARGET
raises VDD_CORE first to a faster step where the device sets it, else holds issue; the acknowledged setpoint goes on, a failure is tried three
times and counted; the switch point takes the step and releases issue. -/
def Obligations.ThrottlingFollowsItsRequests : Prop :=
  (∀ (s : State) (l : List (BitVec 16)), s.running = true → l.length = 80 → ∃ t, exec (.dieTempSample l) s = .next t ∧
    t.power.temps = l ∧ t.rd Fld.CLKPWR_THROTTLE_TARGET = t.requests.foldl max 0 ∧
    ((∃ v ∈ l, 8 * (s.rd Fld.CLKPWR_THERM_THW : Int) ≤ dieTemp v) → t.rd Fld.CLKPWR_THROTTLE_HW = 3 ∧ t.rd Fld.CLKPWR_THROTTLE_TARGET = 3 ∧
      (s.rd Fld.CLKPWR_THROTTLE_HW ≠ 3 → (t.spoil.inFlight.getLast?).map (·.cls) = some 0x16)) ∧
    ((∀ v ∈ l, dieTemp v ≤ 8 * (s.rd Fld.CLKPWR_THERM_THW : Int) - 24) → t.rd Fld.CLKPWR_THROTTLE_HW = 0 ∧ t.spoil = s.spoil)) ∧
  (∀ (s : State) (rails currents powers : List (BitVec 16)), s.running = true → rails.length = 9 → currents.length = 2 → powers.length = 4 →
    ∃ t, exec (.railSample rails currents powers) s = .next t ∧ t = { s with regs := t.regs, rc := t.rc } ∧
      (∀ r, r < 9 → t.rd (Fld.GAUGE_RAIL_LATEST r) = (rails.getD r 0).toNat) ∧
      (∀ d, d < 2 → t.rd (Fld.GAUGE_CORE_I_LATEST d) = (currents.getD d 0).toNat) ∧
      (∀ k, k < 4 → t.rd (Fld.GAUGE_REACH_POWER k) = (powers.getD k 0).toNat) ∧ t.reg Reg.GAUGE_STAMP = BitVec.ofNat 64 s.power.time) ∧
  (∀ (s : State) (k : Fin 4) (h : Int × Nat) (r : Nat), s.running = true → hottestOf s.power.temps (s.reachSensors k.val) = some h →
    Sparse.get (fun _ => 0) s.power.wardens k.val = 0 →
    r = min 3 (s.reachDepth (celsius h.1) + if 10 * s.rd Fld.CLKPWR_PCAP_REACH_CAP < s.rd (Fld.GAUGE_REACH_POWER k.val) then 1 else 0) →
    ∃ t, exec (.reachWardenEval k) s = .next t ∧ t = { s with regs := t.regs, power := t.power, spoil := t.spoil } ∧
      t.rd (reachRequest k.val) = r ∧ t.rd Fld.CLKPWR_THROTTLE_TARGET = t.requests.foldl max 0 ∧
      (0 < r → (t.spoil.inFlight.getLast?).map (·.cls) = some 0x16) ∧ (r = 0 → t.spoil = s.spoil) ∧ RegsApart s t [Reg.CLKPWR_THROTTLE]) ∧
  (∀ (s : State) (vw : View) (floor : BitVec 2), s.writable vw Reg.CLKPWR_THROTTLE = true → ∃ t, exec (.throttleFloorWrite vw floor) s = .next t ∧
    t = { s with regs := t.regs, power := t.power } ∧ t.rd Fld.CLKPWR_THROTTLE_HOST = floor.toNat ∧
    t.rd Fld.CLKPWR_THROTTLE_HW = s.rd Fld.CLKPWR_THROTTLE_HW ∧ t.rd Fld.CLKPWR_THROTTLE_TARGET = t.requests.foldl max 0 ∧
    RegsApart s t [Reg.CLKPWR_THROTTLE]) ∧
  (∀ (s : State) (step target : Nat), s.running = true → step = s.rd Fld.CLKPWR_CLK_STEP → target = s.rd Fld.CLKPWR_THROTTLE_TARGET →
    s.power.sequence = none →
    (target = step → exec .throttleTargetChange s = .next s) ∧
    (target < step → s.flag Fld.CLKPWR_VCORE_AVS_EN = true → exec .throttleTargetChange s = .next { s with
      power := { s.power with sequence := some (target, true), avsCode := s.setpointOf target, avsTries := 0 }
      out := s.out ++ [.avs (s.setpointOf target)] }) ∧
    (step < target ∨ (target < step ∧ s.flag Fld.CLKPWR_VCORE_AVS_EN = false) → ∃ t, exec .throttleTargetChange s = .next t ∧
      t = { s with regs := t.regs, power := { s.power with sequence := some (target, false) } } ∧ t.flag Fld.CLKPWR_CLK_HOLD = true ∧
      RegsApart s t [Reg.CLKPWR_CLK])) ∧
  (∀ (s : State) (step : Nat), s.running = true → s.power.sequence = some (step, true) →
    (s.power.avsCode < 256 → ∃ t, exec (.vcoreAck true) s = .next t ∧ t = { s with regs := t.regs, power := t.power } ∧
      t.rd Fld.CLKPWR_VCORE_SETPOINT = s.power.avsCode ∧ t.flag Fld.CLKPWR_VCORE_PGOOD = true ∧
      (if step < s.rd Fld.CLKPWR_CLK_STEP then t.power.sequence = some (step, false) ∧ t.flag Fld.CLKPWR_CLK_HOLD = true
       else t.power.sequence = none)) ∧
    (s.power.avsTries < 2 → exec (.vcoreAck false) s = .next { s with
      power := { s.power with avsTries := s.power.avsTries + 1 }, out := s.out ++ [.avs s.power.avsCode] }) ∧
    (2 ≤ s.power.avsTries → ∃ t, exec (.vcoreAck false) s = .next t ∧ t.flag Fld.CLKPWR_VCORE_PGOOD = false ∧
      t.rd Fld.CLKPWR_VCORE_SETPOINT = s.rd Fld.CLKPWR_VCORE_SETPOINT ∧
      t.cnt Fld.CLKPWR_VCORE_AVS_ERRORS = min Fld.CLKPWR_VCORE_AVS_ERRORS.top (s.cnt Fld.CLKPWR_VCORE_AVS_ERRORS + 1))) ∧
  (∀ (s : State) (step : Nat), s.running = true → s.power.sequence = some (step, false) → step < 4 → ∃ t, exec .switchPoint s = .next t ∧
    t = { s with regs := t.regs, power := t.power, out := t.out } ∧ t.rd Fld.CLKPWR_CLK_STEP = step ∧ t.flag Fld.CLKPWR_CLK_HOLD = false ∧
    t.rd Fld.CLKPWR_CLK_SWITCHES = (s.rd Fld.CLKPWR_CLK_SWITCHES + 1) % 2 ^ 32 ∧ RegsApart s t [Reg.CLKPWR_CLK] ∧
    (if s.rd Fld.CLKPWR_CLK_STEP < step ∧ s.flag Fld.CLKPWR_VCORE_AVS_EN = true then
      t.power.sequence = some (step, true) ∧ t.out = s.out ++ [.avs (s.setpointOf step)]
     else t.power.sequence = none ∧ t.out = s.out))

/-- The Spoil log. An entry arrives with the next SEQ behind those of the ring, whose oldest one makes room and counts OVERFLOW; the first
entry is pinned; an entry of an enabled class raises PENDING. CLEAR empties the log, and the next SEQ is 1. -/
def Obligations.SpoilEntriesArriveInOrder : Prop :=
  (∀ (s : State) (n i seq : Nat) (e : SpoilEvent), s.running = true → arrivalPlace s.spoil.inFlight n = some i →
    s.spoil.inFlight[i]? = some e → seq = s.rd Fld.SPOIL_STATUS_NEXT_SEQ → ∃ t, exec (.spoilEntryArrival n) s = .next t ∧
      t = { s with regs := t.regs, spoil := t.spoil, out := t.out } ∧
      t.spoil = { s.spoil with
        inFlight := s.spoil.inFlight.eraseIdx i
        ring := (if 8192 ≤ s.spoil.ring.length then s.spoil.ring.drop 1 else s.spoil.ring) ++ [⟨seq, e.words seq⟩] } ∧
      t.rd Fld.SPOIL_STATUS_NEXT_SEQ = seqAfter seq ∧ t.flag Fld.SPOIL_STATUS_PINNED = true ∧
      t.rd Fld.SPOIL_STATUS_OVERFLOW = (if 8192 ≤ s.spoil.ring.length then min Fld.SPOIL_STATUS_OVERFLOW.top
        (s.rd Fld.SPOIL_STATUS_OVERFLOW + 1) else s.rd Fld.SPOIL_STATUS_OVERFLOW) ∧
      (∀ w, w < 4 → t.reg (Reg.SPOIL_PIN w) = (if s.flag Fld.SPOIL_STATUS_PINNED = true then s.reg (Reg.SPOIL_PIN w) else (e.words seq).getD w 0)) ∧
      (t.flag Fld.SPOIL_STATUS_PENDING = true ↔ s.flag Fld.SPOIL_STATUS_PENDING = true ∨ bit (s.rd Fld.SPOIL_IRQ_EN_EN) e.cls = true) ∧
      RegsApart s t [Reg.SPOIL_STATUS, Reg.SPOIL_PIN 0, Reg.SPOIL_PIN 1, Reg.SPOIL_PIN 2, Reg.SPOIL_PIN 3]) ∧
  (∀ (s : State) (n : Nat), s.running = true → s.spoil.inFlight.length ≤ n → exec (.spoilEntryArrival n) s = .next s) ∧
  (∀ (s : State) (vw : View), s.writable vw Reg.SPOIL_CTL = true → ∃ t, exec (.spoilClear vw) s = .next t ∧
    t = { s with regs := t.regs, spoil := t.spoil } ∧ t.spoil = { s.spoil with ring := [], latched := [] } ∧
    t.rd Fld.SPOIL_STATUS_NEXT_SEQ = 1 ∧ t.flag Fld.SPOIL_STATUS_PENDING = false ∧ t.flag Fld.SPOIL_STATUS_PINNED = false ∧
    t.rd Fld.SPOIL_STATUS_OVERFLOW = 0 ∧ (∀ w, w < 4 → t.reg (Reg.SPOIL_PIN w) = 0) ∧
    RegsApart s t [Reg.SPOIL_STATUS, Reg.SPOIL_PIN 0, Reg.SPOIL_PIN 1, Reg.SPOIL_PIN 2, Reg.SPOIL_PIN 3])
end

