-- ==== Sys2Proof/Laws/Sparse.lean ====
section
/-! SUPPORT. The laws of the sparse stores and of byte memories: what a read gives after a write, and that every operation keeps
the canonical form. -/

namespace Sys2Proof.Machine

section Sparse

variable {β : Type}

theorem Sparse.get_erase (d : Nat → β) (m : List (Nat × β)) (k j : Nat) :
    Sparse.get d (Sparse.erase m k) j = if j = k then d j else Sparse.get d m j := by
  induction m with
  | nil => simp [Sparse.erase, Sparse.get]
  | cons p m ih =>
    obtain ⟨a, v⟩ := p
    by_cases hk : k = a
    · subst hk
      by_cases hj : j = k <;> simp_all [Sparse.erase, Sparse.get]
    · by_cases hj : j = a
      · have : j ≠ k := fun h => hk (h.symm.trans hj)
        simp_all [Sparse.erase, Sparse.get]
      · simp_all [Sparse.erase, Sparse.get]

theorem Sparse.get_place (d : Nat → β) (m : List (Nat × β)) (k j : Nat) (v : β) (h : ∀ p ∈ m, p.1 ≠ k) :
    Sparse.get d (Sparse.place m k v) j = if j = k then v else Sparse.get d m j := by
  induction m with
  | nil => simp [Sparse.place, Sparse.get]
  | cons p m ih =>
    obtain ⟨a, w⟩ := p
    have ha : a ≠ k := h (a, w) (by simp)
    have ih := ih (fun p hp => h p (by simp [hp]))
    simp only [Sparse.place]
    split
    · simp [Sparse.get]
    · by_cases hj : j = a
      · subst hj; simp [Sparse.get, ha]
      · simp [Sparse.get, hj, ih]

theorem Sparse.erase_keys (m : List (Nat × β)) (k : Nat) : ∀ p ∈ Sparse.erase m k, p ∈ m ∧ p.1 ≠ k := by
  induction m with
  | nil => simp [Sparse.erase]
  | cons p m ih =>
    obtain ⟨a, v⟩ := p
    intro q hq
    simp only [Sparse.erase] at hq
    split at hq
    · exact ⟨List.mem_cons_of_mem _ (ih q hq).1, (ih q hq).2⟩
    · rcases List.mem_cons.mp hq with rfl | hq
      · exact ⟨by simp, fun h => by simp_all⟩
      · exact ⟨List.mem_cons_of_mem _ (ih q hq).1, (ih q hq).2⟩

theorem Sparse.mem_place (m : List (Nat × β)) (k : Nat) (v : β) (p : Nat × β) (hp : p ∈ Sparse.place m k v) :
    p = (k, v) ∨ p ∈ m := by
  induction m with
  | nil => simpa [Sparse.place] using hp
  | cons q m ih =>
    obtain ⟨a, w⟩ := q
    simp only [Sparse.place] at hp
    split at hp
    · simpa using hp
    · rcases List.mem_cons.mp hp with rfl | hp
      · exact .inr (by simp)
      · exact (ih hp).imp id (List.mem_cons_of_mem _)

variable [DecidableEq β]

/-- A read after a write: the value written at its key, what was there at every other key. -/
theorem Sparse.get_set (d : Nat → β) (m : List (Nat × β)) (k j : Nat) (v : β) :
    Sparse.get d (Sparse.set d m k v) j = if j = k then v else Sparse.get d m j := by
  unfold Sparse.set
  split
  · rename_i h
    rw [Sparse.get_erase]
    split <;> simp_all
  · rw [Sparse.get_place _ _ _ _ _ (fun p hp => (Sparse.erase_keys m k p hp).2), Sparse.get_erase]
    split <;> simp_all

@[simp] theorem Sparse.get_set_same (d : Nat → β) (m : List (Nat × β)) (k : Nat) (v : β) :
    Sparse.get d (Sparse.set d m k v) k = v := by
  simp [Sparse.get_set]

theorem Sparse.get_set_ne (d : Nat → β) (m : List (Nat × β)) {k j : Nat} (v : β) (h : j ≠ k) :
    Sparse.get d (Sparse.set d m k v) j = Sparse.get d m j := by
  simp [Sparse.get_set, h]

theorem Sparse.wf_cons (d : Nat → β) (a : Nat) (v : β) (m : List (Nat × β)) :
    Sparse.wf d ((a, v) :: m) = true ↔ v ≠ d a ∧ (∀ p ∈ m, a < p.1) ∧ Sparse.wf d m = true := by
  simp [Sparse.wf, and_assoc]

@[simp] theorem Sparse.wf_nil (d : Nat → β) : Sparse.wf d ([] : List (Nat × β)) = true := rfl

theorem Sparse.wf_erase (d : Nat → β) (m : List (Nat × β)) (k : Nat) (h : Sparse.wf d m = true) :
    Sparse.wf d (Sparse.erase m k) = true := by
  induction m with
  | nil => rfl
  | cons p m ih =>
    obtain ⟨a, v⟩ := p
    rw [Sparse.wf_cons] at h
    simp only [Sparse.erase]
    split
    · exact ih h.2.2
    · rw [Sparse.wf_cons]
      exact ⟨h.1, fun p hp => h.2.1 p (Sparse.erase_keys m k p hp).1, ih h.2.2⟩

theorem Sparse.wf_place (d : Nat → β) (m : List (Nat × β)) (k : Nat) (v : β) (h : Sparse.wf d m = true) (hv : v ≠ d k)
    (hk : ∀ p ∈ m, p.1 ≠ k) : Sparse.wf d (Sparse.place m k v) = true := by
  induction m with
  | nil => simp [Sparse.place, Sparse.wf, hv]
  | cons q m ih =>
    obtain ⟨a, w⟩ := q
    rw [Sparse.wf_cons] at h
    simp only [Sparse.place]
    split
    · rename_i hlt
      rw [Sparse.wf_cons]
      refine ⟨hv, ?_, (Sparse.wf_cons ..).mpr h⟩
      intro p hp
      rcases List.mem_cons.mp hp with rfl | hp
      · exact hlt
      · exact hlt.trans (h.2.1 p hp)
    · rename_i hge
      rw [Sparse.wf_cons]
      refine ⟨h.1, ?_, ih h.2.2 (fun p hp => hk p (List.mem_cons_of_mem _ hp))⟩
      intro p hp
      rcases Sparse.mem_place m k v p hp with rfl | hp
      · have := hk (a, w) (by simp)
        simp only at this ⊢
        omega
      · exact h.2.1 p hp

/-- A write keeps the canonical form. -/
theorem Sparse.wf_set (d : Nat → β) (m : List (Nat × β)) (k : Nat) (v : β) (h : Sparse.wf d m = true) :
    Sparse.wf d (Sparse.set d m k v) = true := by
  unfold Sparse.set
  split
  · exact Sparse.wf_erase d m k h
  · rename_i hv
    exact Sparse.wf_place d _ k v (Sparse.wf_erase d m k h) hv (fun p hp => (Sparse.erase_keys m k p hp).2)

/-- A restriction keeps the canonical form. -/
theorem Sparse.wf_keep (d : Nat → β) (m : List (Nat × β)) (p : Nat → Bool) (h : Sparse.wf d m = true) :
    Sparse.wf d (Sparse.keep m p) = true := by
  induction m with
  | nil => rfl
  | cons q m ih =>
    obtain ⟨a, w⟩ := q
    rw [Sparse.wf_cons] at h
    have ih := ih h.2.2
    unfold Sparse.keep at ih ⊢
    simp only [List.filter_cons]
    split
    · rw [Sparse.wf_cons]
      exact ⟨h.1, fun x hx => h.2.1 x (List.mem_of_mem_filter hx), ih⟩
    · exact ih

end Sparse

/-- A byte read after a byte written. -/
theorem Mem.readByte_writeByte (m : Mem) (a b : Nat) (v : Byte) :
    (m.writeByte a v).readByte b = if b = a then v else m.readByte b := by
  simp only [Mem.readByte, Mem.writeByte]
  have : Mem.unlisted { m with cells := Sparse.set m.unlisted m.cells a v } = m.unlisted := rfl
  rw [this, Sparse.get_set]

/-- A byte written keeps the canonical form. -/
theorem Mem.wf_writeByte (m : Mem) (a : Nat) (v : Byte) (h : m.wf = true) : (m.writeByte a v).wf = true :=
  Sparse.wf_set m.unlisted m.cells a v h

theorem Mem.wf_writeBytes (bs : List Byte) : ∀ (m : Mem) (a : Nat), m.wf = true → (m.writeBytes a bs).wf = true := by
  induction bs with
  | nil => intro m a h; exact h
  | cons b bs ih => intro m a h; exact ih _ _ (m.wf_writeByte a b h)

theorem Mem.wf_writeLE (m : Mem) (a n v : Nat) (h : m.wf = true) : (m.writeLE a n v).wf = true :=
  Mem.wf_writeBytes _ m a h

theorem Mem.wf_clearRange (m : Mem) (a n : Nat) (h : m.wf = true) : (m.clearRange a n).wf = true := by
  unfold Mem.clearRange
  split
  · exact Sparse.wf_keep m.unlisted m.cells (fun k => decide (k < a ∨ a + n ≤ k)) h
  · exact Mem.wf_writeBytes _ m a h

theorem Mem.wf_zero : Mem.zero.wf = true := rfl

theorem Mem.wf_free (n : Nat) : (Mem.free n).wf = true := rfl

/-- Bytes outside a run of bytes written read as before. -/
theorem Mem.readByte_writeBytes (bs : List Byte) : ∀ (m : Mem) (a b : Nat), (b < a ∨ a + bs.length ≤ b) →
    (m.writeBytes a bs).readByte b = m.readByte b := by
  induction bs with
  | nil => intro m a b _; rfl
  | cons x bs ih =>
    intro m a b h
    simp only [List.length_cons] at h
    rw [Mem.writeBytes, ih _ _ _ (by omega), Mem.readByte_writeByte, if_neg (by omega)]

end Sys2Proof.Machine
end

