-- ==== Sys2Proof/Laws/State.lean ====
section
/-! SUPPORT. One lemma per field and update: what each named update of State leaves as it was, and what a read of the updated
part gives. -/

namespace Sys2Proof.Machine

@[simp] theorem State.setReg_pending (s : State) (k : Nat) (v : Reg64) : (s.setReg k v).pending = s.pending := rfl
@[simp] theorem State.setReg_fresh (s : State) (k : Nat) (v : Reg64) : (s.setReg k v).fresh = s.fresh := rfl
@[simp] theorem State.setReg_out (s : State) (k : Nat) (v : Reg64) : (s.setReg k v).out = s.out := rfl
@[simp] theorem State.setReg_rc (s : State) (k : Nat) (v : Reg64) : (s.setReg k v).rc = s.rc := rfl
@[simp] theorem State.setReg_benches (s : State) (k : Nat) (v : Reg64) : (s.setReg k v).benches = s.benches := rfl
@[simp] theorem State.setReg_primes (s : State) (k : Nat) (v : Reg64) : (s.setReg k v).primes = s.primes := rfl
@[simp] theorem State.setReg_ledges (s : State) (k : Nat) (v : Reg64) : (s.setReg k v).ledges = s.ledges := rfl
@[simp] theorem State.setReg_hbm (s : State) (k : Nat) (v : Reg64) : (s.setReg k v).hbm = s.hbm := rfl
@[simp] theorem State.setReg_net (s : State) (k : Nat) (v : Reg64) : (s.setReg k v).net = s.net := rfl
@[simp] theorem State.setReg_links (s : State) (k : Nat) (v : Reg64) : (s.setReg k v).links = s.links := rfl
@[simp] theorem State.setReg_hall (s : State) (k : Nat) (v : Reg64) : (s.setReg k v).hall = s.hall := rfl
@[simp] theorem State.setReg_mgmt (s : State) (k : Nat) (v : Reg64) : (s.setReg k v).mgmt = s.mgmt := rfl
@[simp] theorem State.setReg_kwa (s : State) (k : Nat) (v : Reg64) : (s.setReg k v).kwa = s.kwa := rfl
@[simp] theorem State.setReg_host (s : State) (k : Nat) (v : Reg64) : (s.setReg k v).host = s.host := rfl
@[simp] theorem State.setReg_power (s : State) (k : Nat) (v : Reg64) : (s.setReg k v).power = s.power := rfl
@[simp] theorem State.setReg_spoil (s : State) (k : Nat) (v : Reg64) : (s.setReg k v).spoil = s.spoil := rfl

@[simp] theorem State.wr_pending (s : State) (f : Fld) (v : Nat) : (s.wr f v).pending = s.pending := rfl
@[simp] theorem State.wr_fresh (s : State) (f : Fld) (v : Nat) : (s.wr f v).fresh = s.fresh := rfl
@[simp] theorem State.wr_out (s : State) (f : Fld) (v : Nat) : (s.wr f v).out = s.out := rfl
@[simp] theorem State.wr_rc (s : State) (f : Fld) (v : Nat) : (s.wr f v).rc = s.rc := rfl
@[simp] theorem State.wr_benches (s : State) (f : Fld) (v : Nat) : (s.wr f v).benches = s.benches := rfl
@[simp] theorem State.wr_primes (s : State) (f : Fld) (v : Nat) : (s.wr f v).primes = s.primes := rfl
@[simp] theorem State.wr_ledges (s : State) (f : Fld) (v : Nat) : (s.wr f v).ledges = s.ledges := rfl
@[simp] theorem State.wr_hbm (s : State) (f : Fld) (v : Nat) : (s.wr f v).hbm = s.hbm := rfl
@[simp] theorem State.wr_net (s : State) (f : Fld) (v : Nat) : (s.wr f v).net = s.net := rfl
@[simp] theorem State.wr_links (s : State) (f : Fld) (v : Nat) : (s.wr f v).links = s.links := rfl
@[simp] theorem State.wr_hall (s : State) (f : Fld) (v : Nat) : (s.wr f v).hall = s.hall := rfl
@[simp] theorem State.wr_mgmt (s : State) (f : Fld) (v : Nat) : (s.wr f v).mgmt = s.mgmt := rfl
@[simp] theorem State.wr_kwa (s : State) (f : Fld) (v : Nat) : (s.wr f v).kwa = s.kwa := rfl
@[simp] theorem State.wr_host (s : State) (f : Fld) (v : Nat) : (s.wr f v).host = s.host := rfl
@[simp] theorem State.wr_power (s : State) (f : Fld) (v : Nat) : (s.wr f v).power = s.power := rfl
@[simp] theorem State.wr_spoil (s : State) (f : Fld) (v : Nat) : (s.wr f v).spoil = s.spoil := rfl

@[simp] theorem State.wrB_pending (s : State) (f : Fld) (v : Bool) : (s.wrB f v).pending = s.pending := rfl
@[simp] theorem State.wrB_fresh (s : State) (f : Fld) (v : Bool) : (s.wrB f v).fresh = s.fresh := rfl
@[simp] theorem State.wrB_out (s : State) (f : Fld) (v : Bool) : (s.wrB f v).out = s.out := rfl
@[simp] theorem State.wrB_rc (s : State) (f : Fld) (v : Bool) : (s.wrB f v).rc = s.rc := rfl
@[simp] theorem State.wrB_benches (s : State) (f : Fld) (v : Bool) : (s.wrB f v).benches = s.benches := rfl
@[simp] theorem State.wrB_primes (s : State) (f : Fld) (v : Bool) : (s.wrB f v).primes = s.primes := rfl
@[simp] theorem State.wrB_ledges (s : State) (f : Fld) (v : Bool) : (s.wrB f v).ledges = s.ledges := rfl
@[simp] theorem State.wrB_hbm (s : State) (f : Fld) (v : Bool) : (s.wrB f v).hbm = s.hbm := rfl
@[simp] theorem State.wrB_net (s : State) (f : Fld) (v : Bool) : (s.wrB f v).net = s.net := rfl
@[simp] theorem State.wrB_links (s : State) (f : Fld) (v : Bool) : (s.wrB f v).links = s.links := rfl
@[simp] theorem State.wrB_hall (s : State) (f : Fld) (v : Bool) : (s.wrB f v).hall = s.hall := rfl
@[simp] theorem State.wrB_mgmt (s : State) (f : Fld) (v : Bool) : (s.wrB f v).mgmt = s.mgmt := rfl
@[simp] theorem State.wrB_kwa (s : State) (f : Fld) (v : Bool) : (s.wrB f v).kwa = s.kwa := rfl
@[simp] theorem State.wrB_host (s : State) (f : Fld) (v : Bool) : (s.wrB f v).host = s.host := rfl
@[simp] theorem State.wrB_power (s : State) (f : Fld) (v : Bool) : (s.wrB f v).power = s.power := rfl
@[simp] theorem State.wrB_spoil (s : State) (f : Fld) (v : Bool) : (s.wrB f v).spoil = s.spoil := rfl

@[simp] theorem State.soft_pending (s : State) (k : Nat) (d : Reg64) : (s.soft k d).pending = s.pending := rfl
@[simp] theorem State.soft_fresh (s : State) (k : Nat) (d : Reg64) : (s.soft k d).fresh = s.fresh := rfl
@[simp] theorem State.soft_out (s : State) (k : Nat) (d : Reg64) : (s.soft k d).out = s.out := rfl
@[simp] theorem State.soft_rc (s : State) (k : Nat) (d : Reg64) : (s.soft k d).rc = s.rc := rfl
@[simp] theorem State.soft_benches (s : State) (k : Nat) (d : Reg64) : (s.soft k d).benches = s.benches := rfl
@[simp] theorem State.soft_primes (s : State) (k : Nat) (d : Reg64) : (s.soft k d).primes = s.primes := rfl
@[simp] theorem State.soft_ledges (s : State) (k : Nat) (d : Reg64) : (s.soft k d).ledges = s.ledges := rfl
@[simp] theorem State.soft_hbm (s : State) (k : Nat) (d : Reg64) : (s.soft k d).hbm = s.hbm := rfl
@[simp] theorem State.soft_net (s : State) (k : Nat) (d : Reg64) : (s.soft k d).net = s.net := rfl
@[simp] theorem State.soft_links (s : State) (k : Nat) (d : Reg64) : (s.soft k d).links = s.links := rfl
@[simp] theorem State.soft_hall (s : State) (k : Nat) (d : Reg64) : (s.soft k d).hall = s.hall := rfl
@[simp] theorem State.soft_mgmt (s : State) (k : Nat) (d : Reg64) : (s.soft k d).mgmt = s.mgmt := rfl
@[simp] theorem State.soft_kwa (s : State) (k : Nat) (d : Reg64) : (s.soft k d).kwa = s.kwa := rfl
@[simp] theorem State.soft_host (s : State) (k : Nat) (d : Reg64) : (s.soft k d).host = s.host := rfl
@[simp] theorem State.soft_power (s : State) (k : Nat) (d : Reg64) : (s.soft k d).power = s.power := rfl
@[simp] theorem State.soft_spoil (s : State) (k : Nat) (d : Reg64) : (s.soft k d).spoil = s.spoil := rfl

@[simp] theorem State.advance_pending (s : State) (f : Fld) : (s.advance f).pending = s.pending := rfl
@[simp] theorem State.advance_fresh (s : State) (f : Fld) : (s.advance f).fresh = s.fresh := rfl
@[simp] theorem State.advance_out (s : State) (f : Fld) : (s.advance f).out = s.out := rfl
@[simp] theorem State.advance_rc (s : State) (f : Fld) : (s.advance f).rc = s.rc := rfl
@[simp] theorem State.advance_benches (s : State) (f : Fld) : (s.advance f).benches = s.benches := rfl
@[simp] theorem State.advance_primes (s : State) (f : Fld) : (s.advance f).primes = s.primes := rfl
@[simp] theorem State.advance_ledges (s : State) (f : Fld) : (s.advance f).ledges = s.ledges := rfl
@[simp] theorem State.advance_hbm (s : State) (f : Fld) : (s.advance f).hbm = s.hbm := rfl
@[simp] theorem State.advance_net (s : State) (f : Fld) : (s.advance f).net = s.net := rfl
@[simp] theorem State.advance_links (s : State) (f : Fld) : (s.advance f).links = s.links := rfl
@[simp] theorem State.advance_hall (s : State) (f : Fld) : (s.advance f).hall = s.hall := rfl
@[simp] theorem State.advance_mgmt (s : State) (f : Fld) : (s.advance f).mgmt = s.mgmt := rfl
@[simp] theorem State.advance_kwa (s : State) (f : Fld) : (s.advance f).kwa = s.kwa := rfl
@[simp] theorem State.advance_host (s : State) (f : Fld) : (s.advance f).host = s.host := rfl
@[simp] theorem State.advance_power (s : State) (f : Fld) : (s.advance f).power = s.power := rfl
@[simp] theorem State.advance_spoil (s : State) (f : Fld) : (s.advance f).spoil = s.spoil := rfl

@[simp] theorem State.setCnt_pending (s : State) (f : Fld) (v : Nat) : (s.setCnt f v).pending = s.pending := rfl
@[simp] theorem State.setCnt_fresh (s : State) (f : Fld) (v : Nat) : (s.setCnt f v).fresh = s.fresh := rfl
@[simp] theorem State.setCnt_out (s : State) (f : Fld) (v : Nat) : (s.setCnt f v).out = s.out := rfl
@[simp] theorem State.setCnt_regs (s : State) (f : Fld) (v : Nat) : (s.setCnt f v).regs = s.regs := rfl
@[simp] theorem State.setCnt_benches (s : State) (f : Fld) (v : Nat) : (s.setCnt f v).benches = s.benches := rfl
@[simp] theorem State.setCnt_primes (s : State) (f : Fld) (v : Nat) : (s.setCnt f v).primes = s.primes := rfl
@[simp] theorem State.setCnt_ledges (s : State) (f : Fld) (v : Nat) : (s.setCnt f v).ledges = s.ledges := rfl
@[simp] theorem State.setCnt_hbm (s : State) (f : Fld) (v : Nat) : (s.setCnt f v).hbm = s.hbm := rfl
@[simp] theorem State.setCnt_net (s : State) (f : Fld) (v : Nat) : (s.setCnt f v).net = s.net := rfl
@[simp] theorem State.setCnt_links (s : State) (f : Fld) (v : Nat) : (s.setCnt f v).links = s.links := rfl
@[simp] theorem State.setCnt_hall (s : State) (f : Fld) (v : Nat) : (s.setCnt f v).hall = s.hall := rfl
@[simp] theorem State.setCnt_mgmt (s : State) (f : Fld) (v : Nat) : (s.setCnt f v).mgmt = s.mgmt := rfl
@[simp] theorem State.setCnt_kwa (s : State) (f : Fld) (v : Nat) : (s.setCnt f v).kwa = s.kwa := rfl
@[simp] theorem State.setCnt_host (s : State) (f : Fld) (v : Nat) : (s.setCnt f v).host = s.host := rfl
@[simp] theorem State.setCnt_power (s : State) (f : Fld) (v : Nat) : (s.setCnt f v).power = s.power := rfl
@[simp] theorem State.setCnt_spoil (s : State) (f : Fld) (v : Nat) : (s.setCnt f v).spoil = s.spoil := rfl

@[simp] theorem State.resetRegs_pending (s : State) (p : Nat → Bool) : (s.resetRegs p).pending = s.pending := rfl
@[simp] theorem State.resetRegs_fresh (s : State) (p : Nat → Bool) : (s.resetRegs p).fresh = s.fresh := rfl
@[simp] theorem State.resetRegs_out (s : State) (p : Nat → Bool) : (s.resetRegs p).out = s.out := rfl
@[simp] theorem State.resetRegs_benches (s : State) (p : Nat → Bool) : (s.resetRegs p).benches = s.benches := rfl
@[simp] theorem State.resetRegs_primes (s : State) (p : Nat → Bool) : (s.resetRegs p).primes = s.primes := rfl
@[simp] theorem State.resetRegs_ledges (s : State) (p : Nat → Bool) : (s.resetRegs p).ledges = s.ledges := rfl
@[simp] theorem State.resetRegs_hbm (s : State) (p : Nat → Bool) : (s.resetRegs p).hbm = s.hbm := rfl
@[simp] theorem State.resetRegs_net (s : State) (p : Nat → Bool) : (s.resetRegs p).net = s.net := rfl
@[simp] theorem State.resetRegs_links (s : State) (p : Nat → Bool) : (s.resetRegs p).links = s.links := rfl
@[simp] theorem State.resetRegs_hall (s : State) (p : Nat → Bool) : (s.resetRegs p).hall = s.hall := rfl
@[simp] theorem State.resetRegs_mgmt (s : State) (p : Nat → Bool) : (s.resetRegs p).mgmt = s.mgmt := rfl
@[simp] theorem State.resetRegs_kwa (s : State) (p : Nat → Bool) : (s.resetRegs p).kwa = s.kwa := rfl
@[simp] theorem State.resetRegs_host (s : State) (p : Nat → Bool) : (s.resetRegs p).host = s.host := rfl
@[simp] theorem State.resetRegs_power (s : State) (p : Nat → Bool) : (s.resetRegs p).power = s.power := rfl
@[simp] theorem State.resetRegs_spoil (s : State) (p : Nat → Bool) : (s.resetRegs p).spoil = s.spoil := rfl

@[simp] theorem State.setBench_pending (s : State) (pb : Nat) (b : Bench) : (s.setBench pb b).pending = s.pending := rfl
@[simp] theorem State.setBench_fresh (s : State) (pb : Nat) (b : Bench) : (s.setBench pb b).fresh = s.fresh := rfl
@[simp] theorem State.setBench_out (s : State) (pb : Nat) (b : Bench) : (s.setBench pb b).out = s.out := rfl
@[simp] theorem State.setBench_regs (s : State) (pb : Nat) (b : Bench) : (s.setBench pb b).regs = s.regs := rfl
@[simp] theorem State.setBench_rc (s : State) (pb : Nat) (b : Bench) : (s.setBench pb b).rc = s.rc := rfl
@[simp] theorem State.setBench_primes (s : State) (pb : Nat) (b : Bench) : (s.setBench pb b).primes = s.primes := rfl
@[simp] theorem State.setBench_ledges (s : State) (pb : Nat) (b : Bench) : (s.setBench pb b).ledges = s.ledges := rfl
@[simp] theorem State.setBench_hbm (s : State) (pb : Nat) (b : Bench) : (s.setBench pb b).hbm = s.hbm := rfl
@[simp] theorem State.setBench_net (s : State) (pb : Nat) (b : Bench) : (s.setBench pb b).net = s.net := rfl
@[simp] theorem State.setBench_links (s : State) (pb : Nat) (b : Bench) : (s.setBench pb b).links = s.links := rfl
@[simp] theorem State.setBench_hall (s : State) (pb : Nat) (b : Bench) : (s.setBench pb b).hall = s.hall := rfl
@[simp] theorem State.setBench_mgmt (s : State) (pb : Nat) (b : Bench) : (s.setBench pb b).mgmt = s.mgmt := rfl
@[simp] theorem State.setBench_kwa (s : State) (pb : Nat) (b : Bench) : (s.setBench pb b).kwa = s.kwa := rfl
@[simp] theorem State.setBench_host (s : State) (pb : Nat) (b : Bench) : (s.setBench pb b).host = s.host := rfl
@[simp] theorem State.setBench_power (s : State) (pb : Nat) (b : Bench) : (s.setBench pb b).power = s.power := rfl
@[simp] theorem State.setBench_spoil (s : State) (pb : Nat) (b : Bench) : (s.setBench pb b).spoil = s.spoil := rfl

@[simp] theorem State.onBench_pending (s : State) (pb : Nat) (f : Bench → Bench) : (s.onBench pb f).pending = s.pending := rfl
@[simp] theorem State.onBench_fresh (s : State) (pb : Nat) (f : Bench → Bench) : (s.onBench pb f).fresh = s.fresh := rfl
@[simp] theorem State.onBench_out (s : State) (pb : Nat) (f : Bench → Bench) : (s.onBench pb f).out = s.out := rfl
@[simp] theorem State.onBench_regs (s : State) (pb : Nat) (f : Bench → Bench) : (s.onBench pb f).regs = s.regs := rfl
@[simp] theorem State.onBench_rc (s : State) (pb : Nat) (f : Bench → Bench) : (s.onBench pb f).rc = s.rc := rfl
@[simp] theorem State.onBench_primes (s : State) (pb : Nat) (f : Bench → Bench) : (s.onBench pb f).primes = s.primes := rfl
@[simp] theorem State.onBench_ledges (s : State) (pb : Nat) (f : Bench → Bench) : (s.onBench pb f).ledges = s.ledges := rfl
@[simp] theorem State.onBench_hbm (s : State) (pb : Nat) (f : Bench → Bench) : (s.onBench pb f).hbm = s.hbm := rfl
@[simp] theorem State.onBench_net (s : State) (pb : Nat) (f : Bench → Bench) : (s.onBench pb f).net = s.net := rfl
@[simp] theorem State.onBench_links (s : State) (pb : Nat) (f : Bench → Bench) : (s.onBench pb f).links = s.links := rfl
@[simp] theorem State.onBench_hall (s : State) (pb : Nat) (f : Bench → Bench) : (s.onBench pb f).hall = s.hall := rfl
@[simp] theorem State.onBench_mgmt (s : State) (pb : Nat) (f : Bench → Bench) : (s.onBench pb f).mgmt = s.mgmt := rfl
@[simp] theorem State.onBench_kwa (s : State) (pb : Nat) (f : Bench → Bench) : (s.onBench pb f).kwa = s.kwa := rfl
@[simp] theorem State.onBench_host (s : State) (pb : Nat) (f : Bench → Bench) : (s.onBench pb f).host = s.host := rfl
@[simp] theorem State.onBench_power (s : State) (pb : Nat) (f : Bench → Bench) : (s.onBench pb f).power = s.power := rfl
@[simp] theorem State.onBench_spoil (s : State) (pb : Nat) (f : Bench → Bench) : (s.onBench pb f).spoil = s.spoil := rfl

@[simp] theorem State.setLink_pending (s : State) (lk : Nat) (l : Link) : (s.setLink lk l).pending = s.pending := rfl
@[simp] theorem State.setLink_fresh (s : State) (lk : Nat) (l : Link) : (s.setLink lk l).fresh = s.fresh := rfl
@[simp] theorem State.setLink_out (s : State) (lk : Nat) (l : Link) : (s.setLink lk l).out = s.out := rfl
@[simp] theorem State.setLink_regs (s : State) (lk : Nat) (l : Link) : (s.setLink lk l).regs = s.regs := rfl
@[simp] theorem State.setLink_rc (s : State) (lk : Nat) (l : Link) : (s.setLink lk l).rc = s.rc := rfl
@[simp] theorem State.setLink_benches (s : State) (lk : Nat) (l : Link) : (s.setLink lk l).benches = s.benches := rfl
@[simp] theorem State.setLink_primes (s : State) (lk : Nat) (l : Link) : (s.setLink lk l).primes = s.primes := rfl
@[simp] theorem State.setLink_ledges (s : State) (lk : Nat) (l : Link) : (s.setLink lk l).ledges = s.ledges := rfl
@[simp] theorem State.setLink_hbm (s : State) (lk : Nat) (l : Link) : (s.setLink lk l).hbm = s.hbm := rfl
@[simp] theorem State.setLink_net (s : State) (lk : Nat) (l : Link) : (s.setLink lk l).net = s.net := rfl
@[simp] theorem State.setLink_hall (s : State) (lk : Nat) (l : Link) : (s.setLink lk l).hall = s.hall := rfl
@[simp] theorem State.setLink_mgmt (s : State) (lk : Nat) (l : Link) : (s.setLink lk l).mgmt = s.mgmt := rfl
@[simp] theorem State.setLink_kwa (s : State) (lk : Nat) (l : Link) : (s.setLink lk l).kwa = s.kwa := rfl
@[simp] theorem State.setLink_host (s : State) (lk : Nat) (l : Link) : (s.setLink lk l).host = s.host := rfl
@[simp] theorem State.setLink_power (s : State) (lk : Nat) (l : Link) : (s.setLink lk l).power = s.power := rfl
@[simp] theorem State.setLink_spoil (s : State) (lk : Nat) (l : Link) : (s.setLink lk l).spoil = s.spoil := rfl

@[simp] theorem State.onLink_pending (s : State) (lk : Nat) (f : Link → Link) : (s.onLink lk f).pending = s.pending := rfl
@[simp] theorem State.onLink_fresh (s : State) (lk : Nat) (f : Link → Link) : (s.onLink lk f).fresh = s.fresh := rfl
@[simp] theorem State.onLink_out (s : State) (lk : Nat) (f : Link → Link) : (s.onLink lk f).out = s.out := rfl
@[simp] theorem State.onLink_regs (s : State) (lk : Nat) (f : Link → Link) : (s.onLink lk f).regs = s.regs := rfl
@[simp] theorem State.onLink_rc (s : State) (lk : Nat) (f : Link → Link) : (s.onLink lk f).rc = s.rc := rfl
@[simp] theorem State.onLink_benches (s : State) (lk : Nat) (f : Link → Link) : (s.onLink lk f).benches = s.benches := rfl
@[simp] theorem State.onLink_primes (s : State) (lk : Nat) (f : Link → Link) : (s.onLink lk f).primes = s.primes := rfl
@[simp] theorem State.onLink_ledges (s : State) (lk : Nat) (f : Link → Link) : (s.onLink lk f).ledges = s.ledges := rfl
@[simp] theorem State.onLink_hbm (s : State) (lk : Nat) (f : Link → Link) : (s.onLink lk f).hbm = s.hbm := rfl
@[simp] theorem State.onLink_net (s : State) (lk : Nat) (f : Link → Link) : (s.onLink lk f).net = s.net := rfl
@[simp] theorem State.onLink_hall (s : State) (lk : Nat) (f : Link → Link) : (s.onLink lk f).hall = s.hall := rfl
@[simp] theorem State.onLink_mgmt (s : State) (lk : Nat) (f : Link → Link) : (s.onLink lk f).mgmt = s.mgmt := rfl
@[simp] theorem State.onLink_kwa (s : State) (lk : Nat) (f : Link → Link) : (s.onLink lk f).kwa = s.kwa := rfl
@[simp] theorem State.onLink_host (s : State) (lk : Nat) (f : Link → Link) : (s.onLink lk f).host = s.host := rfl
@[simp] theorem State.onLink_power (s : State) (lk : Nat) (f : Link → Link) : (s.onLink lk f).power = s.power := rfl
@[simp] theorem State.onLink_spoil (s : State) (lk : Nat) (f : Link → Link) : (s.onLink lk f).spoil = s.spoil := rfl

@[simp] theorem State.setView_pending (s : State) (n : Nat) (v : ViewState) : (s.setView n v).pending = s.pending := rfl
@[simp] theorem State.setView_fresh (s : State) (n : Nat) (v : ViewState) : (s.setView n v).fresh = s.fresh := rfl
@[simp] theorem State.setView_out (s : State) (n : Nat) (v : ViewState) : (s.setView n v).out = s.out := rfl
@[simp] theorem State.setView_regs (s : State) (n : Nat) (v : ViewState) : (s.setView n v).regs = s.regs := rfl
@[simp] theorem State.setView_rc (s : State) (n : Nat) (v : ViewState) : (s.setView n v).rc = s.rc := rfl
@[simp] theorem State.setView_benches (s : State) (n : Nat) (v : ViewState) : (s.setView n v).benches = s.benches := rfl
@[simp] theorem State.setView_primes (s : State) (n : Nat) (v : ViewState) : (s.setView n v).primes = s.primes := rfl
@[simp] theorem State.setView_ledges (s : State) (n : Nat) (v : ViewState) : (s.setView n v).ledges = s.ledges := rfl
@[simp] theorem State.setView_hbm (s : State) (n : Nat) (v : ViewState) : (s.setView n v).hbm = s.hbm := rfl
@[simp] theorem State.setView_net (s : State) (n : Nat) (v : ViewState) : (s.setView n v).net = s.net := rfl
@[simp] theorem State.setView_links (s : State) (n : Nat) (v : ViewState) : (s.setView n v).links = s.links := rfl
@[simp] theorem State.setView_hall (s : State) (n : Nat) (v : ViewState) : (s.setView n v).hall = s.hall := rfl
@[simp] theorem State.setView_mgmt (s : State) (n : Nat) (v : ViewState) : (s.setView n v).mgmt = s.mgmt := rfl
@[simp] theorem State.setView_kwa (s : State) (n : Nat) (v : ViewState) : (s.setView n v).kwa = s.kwa := rfl
@[simp] theorem State.setView_power (s : State) (n : Nat) (v : ViewState) : (s.setView n v).power = s.power := rfl
@[simp] theorem State.setView_spoil (s : State) (n : Nat) (v : ViewState) : (s.setView n v).spoil = s.spoil := rfl

@[simp] theorem State.setTenant_pending (s : State) (t : Nat) (v : Tenant) : (s.setTenant t v).pending = s.pending := rfl
@[simp] theorem State.setTenant_fresh (s : State) (t : Nat) (v : Tenant) : (s.setTenant t v).fresh = s.fresh := rfl
@[simp] theorem State.setTenant_out (s : State) (t : Nat) (v : Tenant) : (s.setTenant t v).out = s.out := rfl
@[simp] theorem State.setTenant_regs (s : State) (t : Nat) (v : Tenant) : (s.setTenant t v).regs = s.regs := rfl
@[simp] theorem State.setTenant_rc (s : State) (t : Nat) (v : Tenant) : (s.setTenant t v).rc = s.rc := rfl
@[simp] theorem State.setTenant_benches (s : State) (t : Nat) (v : Tenant) : (s.setTenant t v).benches = s.benches := rfl
@[simp] theorem State.setTenant_primes (s : State) (t : Nat) (v : Tenant) : (s.setTenant t v).primes = s.primes := rfl
@[simp] theorem State.setTenant_ledges (s : State) (t : Nat) (v : Tenant) : (s.setTenant t v).ledges = s.ledges := rfl
@[simp] theorem State.setTenant_hbm (s : State) (t : Nat) (v : Tenant) : (s.setTenant t v).hbm = s.hbm := rfl
@[simp] theorem State.setTenant_net (s : State) (t : Nat) (v : Tenant) : (s.setTenant t v).net = s.net := rfl
@[simp] theorem State.setTenant_links (s : State) (t : Nat) (v : Tenant) : (s.setTenant t v).links = s.links := rfl
@[simp] theorem State.setTenant_hall (s : State) (t : Nat) (v : Tenant) : (s.setTenant t v).hall = s.hall := rfl
@[simp] theorem State.setTenant_kwa (s : State) (t : Nat) (v : Tenant) : (s.setTenant t v).kwa = s.kwa := rfl
@[simp] theorem State.setTenant_host (s : State) (t : Nat) (v : Tenant) : (s.setTenant t v).host = s.host := rfl
@[simp] theorem State.setTenant_power (s : State) (t : Nat) (v : Tenant) : (s.setTenant t v).power = s.power := rfl
@[simp] theorem State.setTenant_spoil (s : State) (t : Nat) (v : Tenant) : (s.setTenant t v).spoil = s.spoil := rfl

@[simp] theorem State.setTrib_pending (s : State) (i : Nat) (t : Trib) : (s.setTrib i t).pending = s.pending := rfl
@[simp] theorem State.setTrib_fresh (s : State) (i : Nat) (t : Trib) : (s.setTrib i t).fresh = s.fresh := rfl
@[simp] theorem State.setTrib_out (s : State) (i : Nat) (t : Trib) : (s.setTrib i t).out = s.out := rfl
@[simp] theorem State.setTrib_regs (s : State) (i : Nat) (t : Trib) : (s.setTrib i t).regs = s.regs := rfl
@[simp] theorem State.setTrib_rc (s : State) (i : Nat) (t : Trib) : (s.setTrib i t).rc = s.rc := rfl
@[simp] theorem State.setTrib_benches (s : State) (i : Nat) (t : Trib) : (s.setTrib i t).benches = s.benches := rfl
@[simp] theorem State.setTrib_primes (s : State) (i : Nat) (t : Trib) : (s.setTrib i t).primes = s.primes := rfl
@[simp] theorem State.setTrib_ledges (s : State) (i : Nat) (t : Trib) : (s.setTrib i t).ledges = s.ledges := rfl
@[simp] theorem State.setTrib_hbm (s : State) (i : Nat) (t : Trib) : (s.setTrib i t).hbm = s.hbm := rfl
@[simp] theorem State.setTrib_net (s : State) (i : Nat) (t : Trib) : (s.setTrib i t).net = s.net := rfl
@[simp] theorem State.setTrib_links (s : State) (i : Nat) (t : Trib) : (s.setTrib i t).links = s.links := rfl
@[simp] theorem State.setTrib_mgmt (s : State) (i : Nat) (t : Trib) : (s.setTrib i t).mgmt = s.mgmt := rfl
@[simp] theorem State.setTrib_kwa (s : State) (i : Nat) (t : Trib) : (s.setTrib i t).kwa = s.kwa := rfl
@[simp] theorem State.setTrib_host (s : State) (i : Nat) (t : Trib) : (s.setTrib i t).host = s.host := rfl
@[simp] theorem State.setTrib_power (s : State) (i : Nat) (t : Trib) : (s.setTrib i t).power = s.power := rfl
@[simp] theorem State.setTrib_spoil (s : State) (i : Nat) (t : Trib) : (s.setTrib i t).spoil = s.spoil := rfl

@[simp] theorem State.emit_pending (s : State) (o : Out) : (s.emit o).pending = s.pending := rfl
@[simp] theorem State.emit_fresh (s : State) (o : Out) : (s.emit o).fresh = s.fresh := rfl
@[simp] theorem State.emit_regs (s : State) (o : Out) : (s.emit o).regs = s.regs := rfl
@[simp] theorem State.emit_rc (s : State) (o : Out) : (s.emit o).rc = s.rc := rfl
@[simp] theorem State.emit_benches (s : State) (o : Out) : (s.emit o).benches = s.benches := rfl
@[simp] theorem State.emit_primes (s : State) (o : Out) : (s.emit o).primes = s.primes := rfl
@[simp] theorem State.emit_ledges (s : State) (o : Out) : (s.emit o).ledges = s.ledges := rfl
@[simp] theorem State.emit_hbm (s : State) (o : Out) : (s.emit o).hbm = s.hbm := rfl
@[simp] theorem State.emit_net (s : State) (o : Out) : (s.emit o).net = s.net := rfl
@[simp] theorem State.emit_links (s : State) (o : Out) : (s.emit o).links = s.links := rfl
@[simp] theorem State.emit_hall (s : State) (o : Out) : (s.emit o).hall = s.hall := rfl
@[simp] theorem State.emit_mgmt (s : State) (o : Out) : (s.emit o).mgmt = s.mgmt := rfl
@[simp] theorem State.emit_kwa (s : State) (o : Out) : (s.emit o).kwa = s.kwa := rfl
@[simp] theorem State.emit_host (s : State) (o : Out) : (s.emit o).host = s.host := rfl
@[simp] theorem State.emit_power (s : State) (o : Out) : (s.emit o).power = s.power := rfl
@[simp] theorem State.emit_spoil (s : State) (o : Out) : (s.emit o).spoil = s.spoil := rfl

@[simp] theorem State.skip_pending (s : State) : (s.skip).pending = s.pending := rfl
@[simp] theorem State.skip_out (s : State) : (s.skip).out = s.out := rfl
@[simp] theorem State.skip_regs (s : State) : (s.skip).regs = s.regs := rfl
@[simp] theorem State.skip_rc (s : State) : (s.skip).rc = s.rc := rfl
@[simp] theorem State.skip_benches (s : State) : (s.skip).benches = s.benches := rfl
@[simp] theorem State.skip_primes (s : State) : (s.skip).primes = s.primes := rfl
@[simp] theorem State.skip_ledges (s : State) : (s.skip).ledges = s.ledges := rfl
@[simp] theorem State.skip_hbm (s : State) : (s.skip).hbm = s.hbm := rfl
@[simp] theorem State.skip_net (s : State) : (s.skip).net = s.net := rfl
@[simp] theorem State.skip_links (s : State) : (s.skip).links = s.links := rfl
@[simp] theorem State.skip_hall (s : State) : (s.skip).hall = s.hall := rfl
@[simp] theorem State.skip_mgmt (s : State) : (s.skip).mgmt = s.mgmt := rfl
@[simp] theorem State.skip_kwa (s : State) : (s.skip).kwa = s.kwa := rfl
@[simp] theorem State.skip_host (s : State) : (s.skip).host = s.host := rfl
@[simp] theorem State.skip_power (s : State) : (s.skip).power = s.power := rfl
@[simp] theorem State.skip_spoil (s : State) : (s.skip).spoil = s.spoil := rfl

@[simp] theorem State.log_pending (s : State) (c k i l t d0 d1 : Nat) : (s.log c k i l t d0 d1).pending = s.pending := rfl
@[simp] theorem State.log_fresh (s : State) (c k i l t d0 d1 : Nat) : (s.log c k i l t d0 d1).fresh = s.fresh := rfl
@[simp] theorem State.log_out (s : State) (c k i l t d0 d1 : Nat) : (s.log c k i l t d0 d1).out = s.out := rfl
@[simp] theorem State.log_regs (s : State) (c k i l t d0 d1 : Nat) : (s.log c k i l t d0 d1).regs = s.regs := rfl
@[simp] theorem State.log_rc (s : State) (c k i l t d0 d1 : Nat) : (s.log c k i l t d0 d1).rc = s.rc := rfl
@[simp] theorem State.log_benches (s : State) (c k i l t d0 d1 : Nat) : (s.log c k i l t d0 d1).benches = s.benches := rfl
@[simp] theorem State.log_primes (s : State) (c k i l t d0 d1 : Nat) : (s.log c k i l t d0 d1).primes = s.primes := rfl
@[simp] theorem State.log_ledges (s : State) (c k i l t d0 d1 : Nat) : (s.log c k i l t d0 d1).ledges = s.ledges := rfl
@[simp] theorem State.log_hbm (s : State) (c k i l t d0 d1 : Nat) : (s.log c k i l t d0 d1).hbm = s.hbm := rfl
@[simp] theorem State.log_net (s : State) (c k i l t d0 d1 : Nat) : (s.log c k i l t d0 d1).net = s.net := rfl
@[simp] theorem State.log_links (s : State) (c k i l t d0 d1 : Nat) : (s.log c k i l t d0 d1).links = s.links := rfl
@[simp] theorem State.log_hall (s : State) (c k i l t d0 d1 : Nat) : (s.log c k i l t d0 d1).hall = s.hall := rfl
@[simp] theorem State.log_mgmt (s : State) (c k i l t d0 d1 : Nat) : (s.log c k i l t d0 d1).mgmt = s.mgmt := rfl
@[simp] theorem State.log_kwa (s : State) (c k i l t d0 d1 : Nat) : (s.log c k i l t d0 d1).kwa = s.kwa := rfl
@[simp] theorem State.log_host (s : State) (c k i l t d0 d1 : Nat) : (s.log c k i l t d0 d1).host = s.host := rfl
@[simp] theorem State.log_power (s : State) (c k i l t d0 d1 : Nat) : (s.log c k i l t d0 d1).power = s.power := rfl

@[simp] theorem State.logBench_pending (s : State) (pb c d0 d1 : Nat) : (s.logBench pb c d0 d1).pending = s.pending := rfl
@[simp] theorem State.logBench_fresh (s : State) (pb c d0 d1 : Nat) : (s.logBench pb c d0 d1).fresh = s.fresh := rfl
@[simp] theorem State.logBench_out (s : State) (pb c d0 d1 : Nat) : (s.logBench pb c d0 d1).out = s.out := rfl
@[simp] theorem State.logBench_regs (s : State) (pb c d0 d1 : Nat) : (s.logBench pb c d0 d1).regs = s.regs := rfl
@[simp] theorem State.logBench_rc (s : State) (pb c d0 d1 : Nat) : (s.logBench pb c d0 d1).rc = s.rc := rfl
@[simp] theorem State.logBench_benches (s : State) (pb c d0 d1 : Nat) : (s.logBench pb c d0 d1).benches = s.benches := rfl
@[simp] theorem State.logBench_primes (s : State) (pb c d0 d1 : Nat) : (s.logBench pb c d0 d1).primes = s.primes := rfl
@[simp] theorem State.logBench_ledges (s : State) (pb c d0 d1 : Nat) : (s.logBench pb c d0 d1).ledges = s.ledges := rfl
@[simp] theorem State.logBench_hbm (s : State) (pb c d0 d1 : Nat) : (s.logBench pb c d0 d1).hbm = s.hbm := rfl
@[simp] theorem State.logBench_net (s : State) (pb c d0 d1 : Nat) : (s.logBench pb c d0 d1).net = s.net := rfl
@[simp] theorem State.logBench_links (s : State) (pb c d0 d1 : Nat) : (s.logBench pb c d0 d1).links = s.links := rfl
@[simp] theorem State.logBench_hall (s : State) (pb c d0 d1 : Nat) : (s.logBench pb c d0 d1).hall = s.hall := rfl
@[simp] theorem State.logBench_mgmt (s : State) (pb c d0 d1 : Nat) : (s.logBench pb c d0 d1).mgmt = s.mgmt := rfl
@[simp] theorem State.logBench_kwa (s : State) (pb c d0 d1 : Nat) : (s.logBench pb c d0 d1).kwa = s.kwa := rfl
@[simp] theorem State.logBench_host (s : State) (pb c d0 d1 : Nat) : (s.logBench pb c d0 d1).host = s.host := rfl
@[simp] theorem State.logBench_power (s : State) (pb c d0 d1 : Nat) : (s.logBench pb c d0 d1).power = s.power := rfl

@[simp] theorem State.logAt_pending (s : State) (c k i d0 d1 : Nat) : (s.logAt c k i d0 d1).pending = s.pending := rfl
@[simp] theorem State.logAt_fresh (s : State) (c k i d0 d1 : Nat) : (s.logAt c k i d0 d1).fresh = s.fresh := rfl
@[simp] theorem State.logAt_out (s : State) (c k i d0 d1 : Nat) : (s.logAt c k i d0 d1).out = s.out := rfl
@[simp] theorem State.logAt_regs (s : State) (c k i d0 d1 : Nat) : (s.logAt c k i d0 d1).regs = s.regs := rfl
@[simp] theorem State.logAt_rc (s : State) (c k i d0 d1 : Nat) : (s.logAt c k i d0 d1).rc = s.rc := rfl
@[simp] theorem State.logAt_benches (s : State) (c k i d0 d1 : Nat) : (s.logAt c k i d0 d1).benches = s.benches := rfl
@[simp] theorem State.logAt_primes (s : State) (c k i d0 d1 : Nat) : (s.logAt c k i d0 d1).primes = s.primes := rfl
@[simp] theorem State.logAt_ledges (s : State) (c k i d0 d1 : Nat) : (s.logAt c k i d0 d1).ledges = s.ledges := rfl
@[simp] theorem State.logAt_hbm (s : State) (c k i d0 d1 : Nat) : (s.logAt c k i d0 d1).hbm = s.hbm := rfl
@[simp] theorem State.logAt_net (s : State) (c k i d0 d1 : Nat) : (s.logAt c k i d0 d1).net = s.net := rfl
@[simp] theorem State.logAt_links (s : State) (c k i d0 d1 : Nat) : (s.logAt c k i d0 d1).links = s.links := rfl
@[simp] theorem State.logAt_hall (s : State) (c k i d0 d1 : Nat) : (s.logAt c k i d0 d1).hall = s.hall := rfl
@[simp] theorem State.logAt_mgmt (s : State) (c k i d0 d1 : Nat) : (s.logAt c k i d0 d1).mgmt = s.mgmt := rfl
@[simp] theorem State.logAt_kwa (s : State) (c k i d0 d1 : Nat) : (s.logAt c k i d0 d1).kwa = s.kwa := rfl
@[simp] theorem State.logAt_host (s : State) (c k i d0 d1 : Nat) : (s.logAt c k i d0 d1).host = s.host := rfl
@[simp] theorem State.logAt_power (s : State) (c k i d0 d1 : Nat) : (s.logAt c k i d0 d1).power = s.power := rfl

@[simp] theorem State.markLog_pending (s : State) (k : Nat) : (s.markLog k).pending = s.pending := rfl
@[simp] theorem State.markLog_fresh (s : State) (k : Nat) : (s.markLog k).fresh = s.fresh := rfl
@[simp] theorem State.markLog_out (s : State) (k : Nat) : (s.markLog k).out = s.out := rfl
@[simp] theorem State.markLog_regs (s : State) (k : Nat) : (s.markLog k).regs = s.regs := rfl
@[simp] theorem State.markLog_rc (s : State) (k : Nat) : (s.markLog k).rc = s.rc := rfl
@[simp] theorem State.markLog_benches (s : State) (k : Nat) : (s.markLog k).benches = s.benches := rfl
@[simp] theorem State.markLog_primes (s : State) (k : Nat) : (s.markLog k).primes = s.primes := rfl
@[simp] theorem State.markLog_ledges (s : State) (k : Nat) : (s.markLog k).ledges = s.ledges := rfl
@[simp] theorem State.markLog_hbm (s : State) (k : Nat) : (s.markLog k).hbm = s.hbm := rfl
@[simp] theorem State.markLog_net (s : State) (k : Nat) : (s.markLog k).net = s.net := rfl
@[simp] theorem State.markLog_links (s : State) (k : Nat) : (s.markLog k).links = s.links := rfl
@[simp] theorem State.markLog_hall (s : State) (k : Nat) : (s.markLog k).hall = s.hall := rfl
@[simp] theorem State.markLog_mgmt (s : State) (k : Nat) : (s.markLog k).mgmt = s.mgmt := rfl
@[simp] theorem State.markLog_kwa (s : State) (k : Nat) : (s.markLog k).kwa = s.kwa := rfl
@[simp] theorem State.markLog_host (s : State) (k : Nat) : (s.markLog k).host = s.host := rfl
@[simp] theorem State.markLog_power (s : State) (k : Nat) : (s.markLog k).power = s.power := rfl

@[simp] theorem State.journal_pending (s : State) (c a : Nat) : (s.journal c a).pending = s.pending := rfl
@[simp] theorem State.journal_fresh (s : State) (c a : Nat) : (s.journal c a).fresh = s.fresh := rfl
@[simp] theorem State.journal_out (s : State) (c a : Nat) : (s.journal c a).out = s.out := rfl
@[simp] theorem State.journal_regs (s : State) (c a : Nat) : (s.journal c a).regs = s.regs := rfl
@[simp] theorem State.journal_rc (s : State) (c a : Nat) : (s.journal c a).rc = s.rc := rfl
@[simp] theorem State.journal_benches (s : State) (c a : Nat) : (s.journal c a).benches = s.benches := rfl
@[simp] theorem State.journal_primes (s : State) (c a : Nat) : (s.journal c a).primes = s.primes := rfl
@[simp] theorem State.journal_ledges (s : State) (c a : Nat) : (s.journal c a).ledges = s.ledges := rfl
@[simp] theorem State.journal_hbm (s : State) (c a : Nat) : (s.journal c a).hbm = s.hbm := rfl
@[simp] theorem State.journal_net (s : State) (c a : Nat) : (s.journal c a).net = s.net := rfl
@[simp] theorem State.journal_links (s : State) (c a : Nat) : (s.journal c a).links = s.links := rfl
@[simp] theorem State.journal_hall (s : State) (c a : Nat) : (s.journal c a).hall = s.hall := rfl
@[simp] theorem State.journal_kwa (s : State) (c a : Nat) : (s.journal c a).kwa = s.kwa := rfl
@[simp] theorem State.journal_host (s : State) (c a : Nat) : (s.journal c a).host = s.host := rfl
@[simp] theorem State.journal_power (s : State) (c a : Nat) : (s.journal c a).power = s.power := rfl
@[simp] theorem State.journal_spoil (s : State) (c a : Nat) : (s.journal c a).spoil = s.spoil := rfl

@[simp] theorem State.haltBench_pending (s : State) (pb c : Nat) : (s.haltBench pb c).pending = s.pending := rfl
@[simp] theorem State.haltBench_fresh (s : State) (pb c : Nat) : (s.haltBench pb c).fresh = s.fresh := rfl
@[simp] theorem State.haltBench_out (s : State) (pb c : Nat) : (s.haltBench pb c).out = s.out := rfl
@[simp] theorem State.haltBench_regs (s : State) (pb c : Nat) : (s.haltBench pb c).regs = s.regs := rfl
@[simp] theorem State.haltBench_rc (s : State) (pb c : Nat) : (s.haltBench pb c).rc = s.rc := rfl
@[simp] theorem State.haltBench_primes (s : State) (pb c : Nat) : (s.haltBench pb c).primes = s.primes := rfl
@[simp] theorem State.haltBench_ledges (s : State) (pb c : Nat) : (s.haltBench pb c).ledges = s.ledges := rfl
@[simp] theorem State.haltBench_hbm (s : State) (pb c : Nat) : (s.haltBench pb c).hbm = s.hbm := rfl
@[simp] theorem State.haltBench_net (s : State) (pb c : Nat) : (s.haltBench pb c).net = s.net := rfl
@[simp] theorem State.haltBench_links (s : State) (pb c : Nat) : (s.haltBench pb c).links = s.links := rfl
@[simp] theorem State.haltBench_hall (s : State) (pb c : Nat) : (s.haltBench pb c).hall = s.hall := rfl
@[simp] theorem State.haltBench_mgmt (s : State) (pb c : Nat) : (s.haltBench pb c).mgmt = s.mgmt := rfl
@[simp] theorem State.haltBench_kwa (s : State) (pb c : Nat) : (s.haltBench pb c).kwa = s.kwa := rfl
@[simp] theorem State.haltBench_host (s : State) (pb c : Nat) : (s.haltBench pb c).host = s.host := rfl
@[simp] theorem State.haltBench_power (s : State) (pb c : Nat) : (s.haltBench pb c).power = s.power := rfl
@[simp] theorem State.haltBench_spoil (s : State) (pb c : Nat) : (s.haltBench pb c).spoil = s.spoil := rfl

@[simp] theorem State.reg_setReg (s : State) (k : Nat) (v : Reg64) : (s.setReg k v).reg k = v :=
  Sparse.get_set_same regReset s.regs k v

theorem State.reg_setReg_ne (s : State) {k j : Nat} (v : Reg64) (h : j ≠ k) : (s.setReg k v).reg j = s.reg j :=
  Sparse.get_set_ne regReset s.regs v h

@[simp] theorem State.reg_wr (s : State) (f : Fld) (v : Nat) : (s.wr f v).reg f.key = putBits (s.reg f.key) f.hi f.lo v :=
  State.reg_setReg s f.key _

theorem State.reg_wr_ne (s : State) {f : Fld} {j : Nat} (v : Nat) (h : j ≠ f.key) : (s.wr f v).reg j = s.reg j :=
  State.reg_setReg_ne s _ h

@[simp] theorem State.cnt_setCnt (s : State) (f : Fld) (v : Nat) : (s.setCnt f v).cnt f = v :=
  Sparse.get_set_same (fun _ => 0) s.rc f.rcKey v

theorem State.cnt_setCnt_ne (s : State) {f g : Fld} (v : Nat) (h : g.rcKey ≠ f.rcKey) : (s.setCnt f v).cnt g = s.cnt g :=
  Sparse.get_set_ne (fun _ => 0) s.rc v h

@[simp] theorem State.bench_setBench (s : State) (pb : Nat) (b : Bench) : (s.setBench pb b).bench pb = b :=
  Sparse.get_set_same (fun _ => Bench.reset) s.benches pb b

theorem State.bench_setBench_ne (s : State) {pb pc : Nat} (b : Bench) (h : pc ≠ pb) : (s.setBench pb b).bench pc = s.bench pc :=
  Sparse.get_set_ne (fun _ => Bench.reset) s.benches b h

@[simp] theorem State.bench_onBench (s : State) (pb : Nat) (f : Bench → Bench) : (s.onBench pb f).bench pb = f (s.bench pb) :=
  State.bench_setBench s pb _

theorem State.bench_onBench_ne (s : State) {pb pc : Nat} (f : Bench → Bench) (h : pc ≠ pb) :
    (s.onBench pb f).bench pc = s.bench pc :=
  State.bench_setBench_ne s _ h

@[simp] theorem State.link_setLink (s : State) (lk : Nat) (l : Link) : (s.setLink lk l).link lk = l :=
  Sparse.get_set_same (fun _ => Link.reset) s.links lk l

theorem State.link_setLink_ne (s : State) {lk j : Nat} (l : Link) (h : j ≠ lk) : (s.setLink lk l).link j = s.link j :=
  Sparse.get_set_ne (fun _ => Link.reset) s.links l h

@[simp] theorem State.view_setView (s : State) (n : Nat) (v : ViewState) : (s.setView n v).view n = v :=
  Sparse.get_set_same (fun _ => ViewState.reset) s.host.views n v

theorem State.view_setView_ne (s : State) {n j : Nat} (v : ViewState) (h : j ≠ n) : (s.setView n v).view j = s.view j :=
  Sparse.get_set_ne (fun _ => ViewState.reset) s.host.views v h

@[simp] theorem State.tenant_setTenant (s : State) (t : Nat) (v : Tenant) : (s.setTenant t v).tenant t = v :=
  Sparse.get_set_same (fun _ => Tenant.closed) s.mgmt.tenants t v

theorem State.tenant_setTenant_ne (s : State) {t j : Nat} (v : Tenant) (h : j ≠ t) : (s.setTenant t v).tenant j = s.tenant j :=
  Sparse.get_set_ne (fun _ => Tenant.closed) s.mgmt.tenants v h

@[simp] theorem State.emit_out (s : State) (o : Out) : (s.emit o).out = s.out ++ [o] := rfl

@[simp] theorem State.skip_fresh (s : State) : s.skip.fresh = s.fresh + 1 := rfl

/-- A field read after it was written: the value modulo the field's size. -/
theorem getBits_putBits {n : Nat} (w : BitVec n) (hi lo v : Nat) (h : hi < n) (hl : lo ≤ hi) :
    getBits (putBits w hi lo v) hi lo = v % 2 ^ (hi + 1 - lo) := by
  apply Nat.eq_of_testBit_eq
  intro i
  simp only [getBits, bits, putBits, fieldMask, Nat.testBit_mod_two_pow, Nat.testBit_shiftRight, BitVec.testBit_toNat,
    BitVec.getLsbD_or, BitVec.getLsbD_and, BitVec.getLsbD_not, BitVec.getLsbD_ofNat, Nat.testBit_shiftLeft,
    Nat.testBit_two_pow_sub_one]
  by_cases hi' : i < hi + 1 - lo
  · have h1 : lo + i < n := by omega
    have h2 : lo ≤ lo + i := by omega
    simp [hi', h1, h2]
  · simp [hi']

/-- A field that lies apart from the one written reads as before. -/
theorem getBits_putBits_apart {n : Nat} (w : BitVec n) (hi lo v hi' lo' : Nat) (h : hi' < n) (hd : hi' < lo ∨ hi < lo') :
    getBits (putBits w hi lo v) hi' lo' = getBits w hi' lo' := by
  apply Nat.eq_of_testBit_eq
  intro i
  simp only [getBits, bits, putBits, fieldMask, Nat.testBit_mod_two_pow, Nat.testBit_shiftRight, BitVec.testBit_toNat,
    BitVec.getLsbD_or, BitVec.getLsbD_and, BitVec.getLsbD_not, BitVec.getLsbD_ofNat, Nat.testBit_shiftLeft,
    Nat.testBit_two_pow_sub_one]
  by_cases hi1 : i < hi' + 1 - lo'
  · have h1 : lo' + i < n := by omega
    by_cases h2 : lo ≤ lo' + i
    · have h3 : ¬ lo' + i - lo < hi + 1 - lo := by omega
      simp [hi1, h1, h2, h3]
    · simp [hi1, h1, h2]
  · simp [hi1]

/-- A field read after a write of it by the device. -/
theorem State.rd_wr (s : State) (f : Fld) (v : Nat) (h : f.hi < 64) (hl : f.lo ≤ f.hi) :
    (s.wr f v).rd f = v % 2 ^ (f.hi + 1 - f.lo) := by
  rw [State.rd, State.reg_wr, getBits_putBits _ _ _ _ h hl]

/-- A field of another register, or one that lies apart in the same, reads as before. -/
theorem State.rd_wr_apart (s : State) (f g : Fld) (v : Nat) (h : g.key ≠ f.key ∨ (g.hi < 64 ∧ (g.hi < f.lo ∨ f.hi < g.lo))) :
    (s.wr f v).rd g = s.rd g := by
  by_cases hk : g.key = f.key
  · have h := h.resolve_left (fun n => n hk)
    rw [State.rd, State.rd, hk, State.reg_wr, getBits_putBits_apart _ _ _ _ _ _ h.1 h.2]
  · rw [State.rd, State.rd, State.reg_wr_ne s v hk]

end Sys2Proof.Machine
end

