-- ==== Sys2Proof/Laws/Kept.lean ====
section
/-! SUPPORT. Kept a b: what no operation of the device takes back on the way from state a to state b. It never touches the queue,
numbers of free values only rise, what was sent out stays sent, SVN_FLOOR never falls, and the stores stay canonical.
The files Kept<Family> prove it of every operation, each lemma in the form "if the way to s keeps it, so does one more
operation". -/

namespace Sys2Proof.Machine

/-- What no operation takes back. -/
structure Kept (a b : State) : Prop where
  pending : b.pending = a.pending
  fresh : a.fresh ≤ b.fresh
  out : a.out <+: b.out
  floor : a.kwa.svnFloor ≤ b.kwa.svnFloor
  canonical : a.Canonical → b.Canonical

theorem Kept.refl (a : State) : Kept a a := ⟨rfl, le_refl _, List.prefix_rfl, le_refl _, id⟩

theorem Kept.trans {a b c : State} (h : Kept a b) (k : Kept b c) : Kept a c :=
  ⟨k.pending.trans h.pending, h.fresh.trans k.fresh, h.out.trans k.out, h.floor.trans k.floor, fun x => k.canonical (h.canonical x)⟩

/-- A change of nothing that Kept speaks of, but for free numbers used. -/
theorem Kept.frame {a b : State} {pending fresh out regs rc benches primes ledges hbm net links hall mgmt kwa host power spoil}
    (h : Kept a b) (p : pending = b.pending) (o : out = b.out) (r : regs = b.regs) (n : rc = b.rc) (l : links = b.links)
    (be : benches = b.benches) (f : b.fresh ≤ fresh) (k : kwa.svnFloor = b.kwa.svnFloor) (v : host.views = b.host.views)
    (t : mgmt.tenants = b.mgmt.tenants) (m : b.hbm.mem.mem.wf = true → hbm.mem.mem.wf = true)
    (w : Sparse.wf (fun _ => 0) b.hbm.owners = true → Sparse.wf (fun _ => 0) hbm.owners = true) :
    Kept a ⟨pending, fresh, out, regs, rc, benches, primes, ledges, hbm, net, links, hall, mgmt, kwa, host, power, spoil⟩ :=
  ⟨p.trans h.pending, h.fresh.trans f, by subst o; exact h.out, by rw [k]; exact h.floor, fun x => by
    have y := h.canonical x
    subst r n l be
    exact ⟨y.regs, y.rc, y.benches, y.links, by rw [v]; exact y.views, by rw [t]; exact y.tenants, m y.hbm, w y.owners⟩⟩

/-- More free numbers used. -/
theorem Kept.freshen {a b : State} {n : Nat} (h : Kept a b) (f : b.fresh ≤ n) : Kept a { b with fresh := n } :=
  ⟨h.pending, h.fresh.trans f, h.out, h.floor, fun x => { h.canonical x with }⟩

theorem Kept.of {a x : State} {P : Prop} (hx : Kept a x) (h : Kept a x → P) : P := h hx

theorem Kept.ite {a x y : State} {c : Prop} [Decidable c] (hx : Kept a x) (hy : Kept a y) : Kept a (if c then x else y) := by
  split <;> assumption

theorem Kept.foldl {a s : State} {β : Type} {l : List β} {f : State → β → State} (h : Kept a s)
    (k : ∀ s x, Kept a s → Kept a (f s x)) : Kept a (l.foldl f s) := by
  induction l generalizing s with
  | nil => exact h
  | cons x l ih => exact ih (k s x h)

theorem State.each_kept {a s : State} {l : List Nat} {f : State → Nat → State} (h : Kept a s)
    (k : ∀ s x, Kept a s → Kept a (f s x)) : Kept a (s.each l f) := Kept.foldl h k

variable {a s : State}

theorem State.setReg_kept (h : Kept a s) (k : Nat) (v : Reg64) : Kept a (s.setReg k v) :=
  ⟨h.pending, h.fresh, h.out, h.floor, fun x => { h.canonical x with regs := Sparse.wf_set _ _ _ _ (h.canonical x).regs }⟩

theorem State.setCnt_kept (h : Kept a s) (f : Fld) (v : Nat) : Kept a (s.setCnt f v) :=
  ⟨h.pending, h.fresh, h.out, h.floor, fun x => { h.canonical x with rc := Sparse.wf_set _ _ _ _ (h.canonical x).rc }⟩

theorem State.rcSet_kept (h : Kept a s) (k v : Nat) : Kept a { s with rc := Sparse.set (fun _ => 0) s.rc k v } :=
  ⟨h.pending, h.fresh, h.out, h.floor, fun x => { h.canonical x with rc := Sparse.wf_set _ _ _ _ (h.canonical x).rc }⟩

theorem State.resetRegs_kept (h : Kept a s) (p : Nat → Bool) : Kept a (s.resetRegs p) :=
  ⟨h.pending, h.fresh, h.out, h.floor, fun x => { h.canonical x with
    regs := Sparse.wf_keep regReset s.regs (fun k => !p k) (h.canonical x).regs
    rc := Sparse.wf_keep (fun _ => 0) s.rc (fun k => !p (k / 64)) (h.canonical x).rc }⟩

theorem State.setBench_kept (h : Kept a s) (pb : Nat) (b : Bench) : Kept a (s.setBench pb b) :=
  ⟨h.pending, h.fresh, h.out, h.floor, fun x => { h.canonical x with benches := Sparse.wf_set _ _ _ _ (h.canonical x).benches }⟩

theorem State.onBench_kept (h : Kept a s) (pb : Nat) (f : Bench → Bench) : Kept a (s.onBench pb f) := State.setBench_kept h pb _

theorem State.setLink_kept (h : Kept a s) (lk : Nat) (l : Link) : Kept a (s.setLink lk l) :=
  ⟨h.pending, h.fresh, h.out, h.floor, fun x => { h.canonical x with links := Sparse.wf_set _ _ _ _ (h.canonical x).links }⟩

theorem State.onLink_kept (h : Kept a s) (lk : Nat) (f : Link → Link) : Kept a (s.onLink lk f) := State.setLink_kept h lk _

theorem State.setView_kept (h : Kept a s) (n : Nat) (v : ViewState) : Kept a (s.setView n v) :=
  ⟨h.pending, h.fresh, h.out, h.floor, fun x => { h.canonical x with views := Sparse.wf_set _ _ _ _ (h.canonical x).views }⟩

theorem State.setTenant_kept (h : Kept a s) (t : Nat) (v : Tenant) : Kept a (s.setTenant t v) :=
  ⟨h.pending, h.fresh, h.out, h.floor, fun x => { h.canonical x with tenants := Sparse.wf_set _ _ _ _ (h.canonical x).tenants }⟩

theorem State.emit_kept (h : Kept a s) (o : Out) : Kept a (s.emit o) :=
  ⟨h.pending, h.fresh, h.out.trans (List.prefix_append _ _), h.floor, fun x => { h.canonical x with }⟩

/-- What an operation that may decline, or that answers with more than a state, keeps: what g picks of its answer. -/
def KeptO {α : Type} (g : α → State) (a : State) (o : Option α) : Prop := ∀ x, o = some x → Kept a (g x)

theorem KeptO.none {α : Type} {g : α → State} {a : State} : KeptO g a .none := fun _ h => nomatch h

theorem KeptO.some {α : Type} {g : α → State} {a : State} {x : α} (h : Kept a (g x)) : KeptO g a (.some x) := by
  intro y hy; cases hy; exact h

theorem KeptO.stay {a x : State} (h : Kept a x) : KeptO id a (.some x) := KeptO.some h

theorem KeptO.ite {α : Type} {g : α → State} {a : State} {x y : Option α} {c : Prop} [Decidable c] (hx : KeptO g a x)
    (hy : KeptO g a y) : KeptO g a (if c then x else y) := by
  split <;> assumption

theorem KeptO.map {α β : Type} {g : α → State} {k : β → State} {f : β → α} {a : State} {o : Option β} (h : KeptO k a o)
    (e : ∀ x, g (f x) = k x) : KeptO g a (o.map f) := by
  intro y hy
  obtain ⟨x, hx, rfl⟩ := Option.map_eq_some_iff.mp hy
  exact e x ▸ h x hx

theorem Kept.ofO {α : Type} {g : α → State} {a : State} {o : Option α} {x : α} (h : KeptO g a o) (e : o = .some x) : Kept a (g x) :=
  h x e

/-- The same for a value with a state in it. -/
def KeptV {α : Type} (g : α → State) (a : State) (x : α) : Prop := Kept a (g x)

theorem KeptV.ite {α : Type} {g : α → State} {a : State} {x y : α} {c : Prop} [Decidable c] (hx : KeptV g a x)
    (hy : KeptV g a y) : KeptV g a (if c then x else y) := by
  split <;> assumption

theorem KeptV.fst {β : Type} {a s : State} {b : β} (h : Kept a s) : KeptV Prod.fst a (s, b) := h

theorem KeptV.snd {β : Type} {a s : State} {b : β} (h : Kept a s) : KeptV Prod.snd a (b, s) := h

theorem KeptV.reply {a s : State} {st : Nat} {r : List Reg64} (h : Kept a s) : KeptV Reply.s a ⟨s, st, r⟩ := h

theorem KeptV.got {a s : State} {v : Reg64} (h : Kept a s) : KeptV Got.after a ⟨v, s⟩ := h

/-- The same for the outcome of an Xchotra instruction. -/
def KeptX (a : State) (o : XcOut) : Prop :=
  match o with
  | .illegal => True
  | .stall t => Kept a t
  | .fault _ _ _ => True
  | .retire t _ _ => Kept a t

theorem KeptX.illegal {a : State} : KeptX a .illegal := trivial

theorem KeptX.fault {a : State} {m c x : Nat} : KeptX a (.fault m c x) := trivial

theorem KeptX.stall {a t : State} (h : Kept a t) : KeptX a (.stall t) := h

theorem KeptX.retire {a t : State} {r : Option Nat} {c : Nat} (h : Kept a t) : KeptX a (.retire t r c) := h

theorem KeptX.ite {a : State} {x y : XcOut} {c : Prop} [Decidable c] (hx : KeptX a x) (hy : KeptX a y) :
    KeptX a (if c then x else y) := by
  split <;> assumption

theorem KeptX.out1 {a t : State} {o : XcOut} (h : KeptX a o) (e : o = .stall t) : Kept a t := by subst e; exact h

theorem KeptX.out2 {a t : State} {o : XcOut} {r : Option Nat} {c : Nat} (h : KeptX a o) (e : o = .retire t r c) : Kept a t := by
  subst e; exact h

/-- Issuing by a plan keeps what is kept. -/
def Starts (x : Except Reject Plan) : Prop := ∀ p, x = .ok p → ∀ orig s, Kept orig s → Kept orig (p.start s)

theorem Starts.error (r : Reject) : Starts (.error r) := fun _ h => nomatch h

theorem Starts.ok {e : Exec} {f : State → State} (h : ∀ orig s, Kept orig s → Kept orig (f s)) : Starts (.ok ⟨e, f⟩) := by
  intro p hp; cases hp; exact h

theorem Starts.of (e : Exec) : Starts (.ok (Plan.of e)) := Starts.ok (fun _ _ h => h)

theorem Starts.pureOf (e : Exec) : Starts (pure (Plan.of e)) := Starts.of e

theorem Starts.bind {α : Type} {x : Except Reject α} {f : α → Except Reject Plan} (h : ∀ a, Starts (f a)) : Starts (x >>= f) := by
  cases x with
  | error r => exact Starts.error r
  | ok a => exact h a

theorem Starts.ite {c : Prop} [Decidable c] {x y : Except Reject Plan} (hx : Starts x) (hy : Starts y) :
    Starts (if c then x else y) := by
  split <;> assumption

end Sys2Proof.Machine
end

