-- ==== Sys2Proof/Laws/KeptState.lean ====
section
/-! SUPPORT. What every operation keeps (Laws/Kept.lean): registers, benches, log, interrupts, memories, plans of the engines and packets. One lemma per operation. -/

set_option linter.all false
set_option linter.unusedVariables false

namespace Sys2Proof.Machine

theorem State.wr_kept {orig s : State} (h : Kept orig s) (f : Fld) (v : Nat) : Kept orig (State.wr s f v) := by
  unfold State.wr
  repeat any_goals first
    | with_reducible assumption
    | intro s x h
    | with_reducible apply State.setReg_kept

theorem State.wrB_kept {orig s : State} (h : Kept orig s) (f : Fld) (v : Bool) : Kept orig (State.wrB s f v) := by
  unfold State.wrB
  repeat any_goals first
    | with_reducible assumption
    | intro s x h
    | with_reducible apply Kept.ite
    | with_reducible apply State.wr_kept
    | split

theorem State.bump_kept {orig s : State} (h : Kept orig s) (f : Fld) (n : Nat) : Kept orig (State.bump s f n) := by
  unfold State.bump
  repeat any_goals first
    | with_reducible assumption
    | intro s x h
    | with_reducible apply Kept.ite
    | with_reducible apply State.setCnt_kept
    | split

theorem State.wrapInc_kept {orig s : State} (h : Kept orig s) (f : Fld) : Kept orig (State.wrapInc s f) := by
  unfold State.wrapInc
  repeat any_goals first
    | with_reducible assumption
    | intro s x h
    | with_reducible apply State.wr_kept

theorem State.satInc_kept {orig s : State} (h : Kept orig s) (f : Fld) : Kept orig (State.satInc s f) := by
  unfold State.satInc
  repeat any_goals first
    | with_reducible assumption
    | intro s x h
    | with_reducible apply State.wr_kept

theorem State.rcClear_kept {orig s : State} (h : Kept orig s) (f : Fld) : Kept orig (State.rcClear s f) := by
  unfold State.rcClear
  repeat any_goals first
    | with_reducible assumption
    | intro s x h
    | (extract_lets +onlyGivenNames x; refine Kept.of (a := orig) (x := x) ?_ ?_; rotate_left; (intro hx; clear_value x); rotate_right; subst x)
    | (extract_lets +onlyGivenNames x; first | (have keep := (x : Hbm); clear keep) | (have keep := (x : Mgmt); clear keep) | (have keep := (x : Seal); clear keep) | (have keep := (x : HostIf); clear keep) | clear_value x)
    | with_reducible apply State.setCnt_kept
    | with_reducible apply State.rcSet_kept
    | fail_if_no_progress (with_reducible refine Kept.frame ?_ (by rfl) (by rfl) (by rfl) (by rfl) (by rfl) (by rfl) (by first | exact Nat.le_refl _ | exact Nat.le_add_right _ _ | with_unfolding_all exact Nat.le_add_right _ _) (by rfl) (by rfl) (by rfl) (by first | exact fun y => y | (with_unfolding_all exact fun y => Mem.wf_writeLE _ _ _ _ y) | (with_unfolding_all exact fun y => Mem.wf_writeByte _ _ _ y) | (with_unfolding_all exact fun y => Mem.wf_clearRange _ _ _ y) | (with_unfolding_all exact fun _ => rfl)) (by first | exact fun y => y | (with_unfolding_all exact fun y => Sparse.wf_set _ _ _ _ y) | (with_unfolding_all exact fun _ => rfl)))

theorem State.extreme_kept {orig s : State} (h : Kept orig s) (f : Fld) (better : Nat → Nat → Bool) (v : Nat) : Kept orig (State.extreme s f better v) := by
  unfold State.extreme
  repeat any_goals first
    | with_reducible assumption
    | intro s x h
    | (extract_lets +onlyGivenNames x; refine Kept.of (a := orig) (x := x) ?_ ?_; rotate_left; (intro hx; clear_value x); rotate_right; subst x)
    | (extract_lets +onlyGivenNames x; first | (have keep := (x : Hbm); clear keep) | (have keep := (x : Mgmt); clear keep) | (have keep := (x : Seal); clear keep) | (have keep := (x : HostIf); clear keep) | clear_value x)
    | with_reducible apply Kept.ite
    | with_reducible apply State.setCnt_kept
    | with_reducible apply State.rcSet_kept
    | fail_if_no_progress (with_reducible refine Kept.frame ?_ (by rfl) (by rfl) (by rfl) (by rfl) (by rfl) (by rfl) (by first | exact Nat.le_refl _ | exact Nat.le_add_right _ _ | with_unfolding_all exact Nat.le_add_right _ _) (by rfl) (by rfl) (by rfl) (by first | exact fun y => y | (with_unfolding_all exact fun y => Mem.wf_writeLE _ _ _ _ y) | (with_unfolding_all exact fun y => Mem.wf_writeByte _ _ _ y) | (with_unfolding_all exact fun y => Mem.wf_clearRange _ _ _ y) | (with_unfolding_all exact fun _ => rfl)) (by first | exact fun y => y | (with_unfolding_all exact fun y => Sparse.wf_set _ _ _ _ y) | (with_unfolding_all exact fun _ => rfl)))
    | split

theorem State.clearRc_kept {orig s : State} (h : Kept orig s) (k : Nat) : Kept orig (State.clearRc s k) := by
  unfold State.clearRc
  repeat any_goals first
    | with_reducible assumption
    | intro s x h
    | with_reducible apply State.rcClear_kept
    | with_reducible refine Kept.foldl ?_ (fun s x h => ?_)

theorem State.soft_kept {orig s : State} (h : Kept orig s) (k : Nat) (data : Reg64) : Kept orig (State.soft s k data) := by
  unfold State.soft
  repeat any_goals first
    | with_reducible assumption
    | intro s x h
    | with_reducible apply State.setReg_kept

theorem State.skip_kept {orig s : State} (h : Kept orig s) : Kept orig (State.skip s) := by
  unfold State.skip
  repeat any_goals first
    | with_reducible assumption
    | intro s x h
    | fail_if_no_progress (with_reducible refine Kept.frame ?_ (by rfl) (by rfl) (by rfl) (by rfl) (by rfl) (by rfl) (by first | exact Nat.le_refl _ | exact Nat.le_add_right _ _ | with_unfolding_all exact Nat.le_add_right _ _) (by rfl) (by rfl) (by rfl) (by first | exact fun y => y | (with_unfolding_all exact fun y => Mem.wf_writeLE _ _ _ _ y) | (with_unfolding_all exact fun y => Mem.wf_writeByte _ _ _ y) | (with_unfolding_all exact fun y => Mem.wf_clearRange _ _ _ y) | (with_unfolding_all exact fun _ => rfl)) (by first | exact fun y => y | (with_unfolding_all exact fun y => Sparse.wf_set _ _ _ _ y) | (with_unfolding_all exact fun _ => rfl)))

theorem State.log_kept {orig s : State} (h : Kept orig s) (cls : Nat) (kind : Nat) (id : Nat) (logical : Nat) (tenant : Nat) (d0 : Nat) (d1 : Nat) : Kept orig (State.log s cls kind id logical tenant d0 d1) := by
  unfold State.log
  repeat any_goals first
    | with_reducible assumption
    | intro s x h
    | fail_if_no_progress (with_reducible refine Kept.frame ?_ (by rfl) (by rfl) (by rfl) (by rfl) (by rfl) (by rfl) (by first | exact Nat.le_refl _ | exact Nat.le_add_right _ _ | with_unfolding_all exact Nat.le_add_right _ _) (by rfl) (by rfl) (by rfl) (by first | exact fun y => y | (with_unfolding_all exact fun y => Mem.wf_writeLE _ _ _ _ y) | (with_unfolding_all exact fun y => Mem.wf_writeByte _ _ _ y) | (with_unfolding_all exact fun y => Mem.wf_clearRange _ _ _ y) | (with_unfolding_all exact fun _ => rfl)) (by first | exact fun y => y | (with_unfolding_all exact fun y => Sparse.wf_set _ _ _ _ y) | (with_unfolding_all exact fun _ => rfl)))

theorem State.logBench_kept {orig s : State} (h : Kept orig s) (pb : Nat) (cls : Nat) (d0 : Nat) (d1 : Nat) : Kept orig (State.logBench s pb cls d0 d1) := by
  unfold State.logBench
  repeat any_goals first
    | with_reducible assumption
    | intro s x h
    | with_reducible apply State.log_kept

theorem State.logAt_kept {orig s : State} (h : Kept orig s) (cls : Nat) (kind : Nat) (id : Nat) (d0 : Nat) (d1 : Nat) : Kept orig (State.logAt s cls kind id d0 d1) := by
  unfold State.logAt
  repeat any_goals first
    | with_reducible assumption
    | intro s x h
    | with_reducible apply State.log_kept

theorem State.markLog_kept {orig s : State} (h : Kept orig s) (key : Nat) : Kept orig (State.markLog s key) := by
  unfold State.markLog
  repeat any_goals first
    | with_reducible assumption
    | intro s x h
    | fail_if_no_progress (with_reducible refine Kept.frame ?_ (by rfl) (by rfl) (by rfl) (by rfl) (by rfl) (by rfl) (by first | exact Nat.le_refl _ | exact Nat.le_add_right _ _ | with_unfolding_all exact Nat.le_add_right _ _) (by rfl) (by rfl) (by rfl) (by first | exact fun y => y | (with_unfolding_all exact fun y => Mem.wf_writeLE _ _ _ _ y) | (with_unfolding_all exact fun y => Mem.wf_writeByte _ _ _ y) | (with_unfolding_all exact fun y => Mem.wf_clearRange _ _ _ y) | (with_unfolding_all exact fun _ => rfl)) (by first | exact fun y => y | (with_unfolding_all exact fun y => Sparse.wf_set _ _ _ _ y) | (with_unfolding_all exact fun _ => rfl)))

theorem State.logOnce_kept {orig s : State} (h : Kept orig s) (key : Nat) (f : State → State)
    (k : ∀ s, Kept orig s → Kept orig (f s)) : Kept orig (s.logOnce key f) := by
  unfold State.logOnce
  exact Kept.ite (k _ (State.markLog_kept h key)) h

theorem State.irq_kept {orig s : State} (h : Kept orig s) (view : Nat) (src : Nat) : Kept orig (State.irq s view src) := by
  unfold State.irq
  repeat any_goals first
    | with_reducible assumption
    | intro s x h
    | (extract_lets +onlyGivenNames x; refine Kept.of (a := orig) (x := x) ?_ ?_; rotate_left; (intro hx; clear_value x); rotate_right; subst x)
    | (extract_lets +onlyGivenNames x; first | (have keep := (x : Hbm); clear keep) | (have keep := (x : Mgmt); clear keep) | (have keep := (x : Seal); clear keep) | (have keep := (x : HostIf); clear keep) | clear_value x)
    | with_reducible apply Kept.ite
    | with_reducible apply State.emit_kept
    | split

theorem State.irqDevice_kept {orig s : State} (h : Kept orig s) (src : Nat) : Kept orig (State.irqDevice s src) := by
  unfold State.irqDevice
  repeat any_goals first
    | with_reducible assumption
    | intro s x h
    | with_reducible apply State.irq_kept

theorem State.setDev_kept {orig s : State} (h : Kept orig s) (st : Nat) (cause : Nat) : Kept orig (State.setDev s st cause) := by
  unfold State.setDev
  repeat any_goals first
    | with_reducible assumption
    | intro s x h
    | (extract_lets +onlyGivenNames x; refine Kept.of (a := orig) (x := x) ?_ ?_; rotate_left; (intro hx; clear_value x); rotate_right; subst x)
    | (extract_lets +onlyGivenNames x; first | (have keep := (x : Hbm); clear keep) | (have keep := (x : Mgmt); clear keep) | (have keep := (x : Seal); clear keep) | (have keep := (x : HostIf); clear keep) | clear_value x)
    | with_reducible apply Kept.ite
    | with_reducible apply State.wr_kept
    | with_reducible apply State.irqDevice_kept
    | split

theorem State.settleActive_kept {orig s : State} (h : Kept orig s) : Kept orig (State.settleActive s) := by
  unfold State.settleActive
  repeat any_goals first
    | with_reducible assumption
    | intro s x h
    | (extract_lets +onlyGivenNames x; refine Kept.of (a := orig) (x := x) ?_ ?_; rotate_left; (intro hx; clear_value x); rotate_right; subst x)
    | (extract_lets +onlyGivenNames x; first | (have keep := (x : Hbm); clear keep) | (have keep := (x : Mgmt); clear keep) | (have keep := (x : Seal); clear keep) | (have keep := (x : HostIf); clear keep) | clear_value x)
    | with_reducible apply Kept.ite
    | with_reducible apply State.setDev_kept
    | split

theorem State.mgmtEvent_kept {orig s : State} (h : Kept orig s) (code : Nat) (arg : Nat) : Kept orig (State.mgmtEvent s code arg) := by
  unfold State.mgmtEvent
  repeat any_goals first
    | with_reducible assumption
    | intro s x h
    | with_reducible apply State.emit_kept

theorem State.journal_kept {orig s : State} (h : Kept orig s) (code : Nat) (arg : Nat) : Kept orig (State.journal s code arg) := by
  unfold State.journal
  repeat any_goals first
    | with_reducible assumption
    | intro s x h
    | fail_if_no_progress (with_reducible refine Kept.frame ?_ (by rfl) (by rfl) (by rfl) (by rfl) (by rfl) (by rfl) (by first | exact Nat.le_refl _ | exact Nat.le_add_right _ _ | with_unfolding_all exact Nat.le_add_right _ _) (by rfl) (by rfl) (by rfl) (by first | exact fun y => y | (with_unfolding_all exact fun y => Mem.wf_writeLE _ _ _ _ y) | (with_unfolding_all exact fun y => Mem.wf_writeByte _ _ _ y) | (with_unfolding_all exact fun y => Mem.wf_clearRange _ _ _ y) | (with_unfolding_all exact fun _ => rfl)) (by first | exact fun y => y | (with_unfolding_all exact fun y => Sparse.wf_set _ _ _ _ y) | (with_unfolding_all exact fun _ => rfl)))

theorem State.progress_kept {orig s : State} (h : Kept orig s) (pb : Nat) : Kept orig (State.progress s pb) := by
  unfold State.progress
  repeat any_goals first
    | with_reducible assumption
    | intro s x h
    | with_reducible apply Kept.ite
    | with_reducible apply State.setReg_kept
    | split

theorem State.haltBench_kept {orig s : State} (h : Kept orig s) (pb : Nat) (cause : Nat) : Kept orig (State.haltBench s pb cause) := by
  unfold State.haltBench
  repeat any_goals first
    | with_reducible assumption
    | intro s x h
    | with_reducible apply State.onBench_kept

theorem State.tokenError_kept {orig s : State} (h : Kept orig s) (pb : Nat) (w : CmdWord) (stream : Nat) (pc : Nat) (tok : Nat) (chute : Nat) (kind : Nat) : Kept orig (State.tokenError s pb w stream pc tok chute kind) := by
  unfold State.tokenError
  repeat any_goals first
    | with_reducible assumption
    | intro s x h
    | with_reducible apply State.logBench_kept
    | with_reducible apply State.haltBench_kept

theorem State.postToken_kept {orig s : State} (h : Kept orig s) (pb : Nat) (w : CmdWord) (stream : Nat) (pc : Nat) (tok : Nat) : Kept orig (State.postToken s pb w stream pc tok) := by
  unfold State.postToken
  repeat any_goals first
    | with_reducible assumption
    | intro s x h
    | (extract_lets +onlyGivenNames x; refine Kept.of (a := orig) (x := x) ?_ ?_; rotate_left; (intro hx; clear_value x); rotate_right; subst x)
    | (extract_lets +onlyGivenNames x; first | (have keep := (x : Hbm); clear keep) | (have keep := (x : Mgmt); clear keep) | (have keep := (x : Seal); clear keep) | (have keep := (x : HostIf); clear keep) | clear_value x)
    | with_reducible apply Kept.ite
    | with_reducible apply State.onBench_kept
    | with_reducible apply State.tokenError_kept
    | split

theorem State.checkComplete_kept {orig s : State} (h : Kept orig s) (pb : Nat) : Kept orig (State.checkComplete s pb) := by
  unfold State.checkComplete
  repeat any_goals first
    | with_reducible assumption
    | intro s x h
    | (extract_lets +onlyGivenNames x; refine Kept.of (a := orig) (x := x) ?_ ?_; rotate_left; (intro hx; clear_value x); rotate_right; subst x)
    | (extract_lets +onlyGivenNames x; first | (have keep := (x : Hbm); clear keep) | (have keep := (x : Mgmt); clear keep) | (have keep := (x : Seal); clear keep) | (have keep := (x : HostIf); clear keep) | clear_value x)
    | with_reducible apply Kept.ite
    | with_reducible apply State.setBench_kept
    | fail_if_no_progress (with_reducible refine Kept.frame ?_ (by rfl) (by rfl) (by rfl) (by rfl) (by rfl) (by rfl) (by first | exact Nat.le_refl _ | exact Nat.le_add_right _ _ | with_unfolding_all exact Nat.le_add_right _ _) (by rfl) (by rfl) (by rfl) (by first | exact fun y => y | (with_unfolding_all exact fun y => Mem.wf_writeLE _ _ _ _ y) | (with_unfolding_all exact fun y => Mem.wf_writeByte _ _ _ y) | (with_unfolding_all exact fun y => Mem.wf_clearRange _ _ _ y) | (with_unfolding_all exact fun _ => rfl)) (by first | exact fun y => y | (with_unfolding_all exact fun y => Sparse.wf_set _ _ _ _ y) | (with_unfolding_all exact fun _ => rfl)))
    | split

theorem State.writeRuns_kept {orig : State} {pb : Nat} (l : List WRun) : ∀ {s : State}, Kept orig s → Kept orig (s.writeRuns pb l) := by
  induction l with
  | nil => intro s h; exact h
  | cons r rs ih =>
    intro s h
    have k := State.onBench_kept h pb (·.writeRun s.fresh r)
    exact ih ⟨k.pending, k.fresh.trans (Nat.le_add_right _ _), k.out, k.floor, fun x => { k.canonical x with }⟩

theorem planTeGang_starts (c : Ctx) (inverse : Bool) : Starts (planTeGang c inverse) := by
  unfold planTeGang
  repeat any_goals first
    | with_reducible assumption
    | with_reducible exact Starts.pureOf _
    | with_reducible exact Starts.error _
    | with_reducible exact Starts.mustAll _
    | with_reducible exact Starts.of _
    | with_reducible refine Starts.ok (fun orig s h => ?_)
    | with_reducible refine Starts.bind (fun _ => ?_)
    | with_reducible refine Starts.ite ?_ ?_
    | (extract_lets +onlyGivenNames x; refine Kept.of (a := orig) (x := x) ?_ ?_; rotate_left; (intro hx; clear_value x); rotate_right; subst x)
    | (extract_lets +onlyGivenNames x; first | (have keep := (x : Hbm); clear keep) | (have keep := (x : Mgmt); clear keep) | (have keep := (x : Seal); clear keep) | (have keep := (x : HostIf); clear keep) | clear_value x)
    | with_reducible apply Kept.ite
    | with_reducible apply State.onBench_kept
    | fail_if_no_progress (with_reducible refine Kept.frame ?_ (by rfl) (by rfl) (by rfl) (by rfl) (by rfl) (by rfl) (by first | exact Nat.le_refl _ | exact Nat.le_add_right _ _ | with_unfolding_all exact Nat.le_add_right _ _) (by rfl) (by rfl) (by rfl) (by first | exact fun y => y | (with_unfolding_all exact fun y => Mem.wf_writeLE _ _ _ _ y) | (with_unfolding_all exact fun y => Mem.wf_writeByte _ _ _ y) | (with_unfolding_all exact fun y => Mem.wf_clearRange _ _ _ y) | (with_unfolding_all exact fun _ => rfl)) (by first | exact fun y => y | (with_unfolding_all exact fun y => Sparse.wf_set _ _ _ _ y) | (with_unfolding_all exact fun _ => rfl)))
    | split

theorem planTeLocal_starts (c : Ctx) : Starts (planTeLocal c) := by
  unfold planTeLocal
  repeat any_goals first
    | with_reducible assumption
    | with_reducible exact Starts.pureOf _
    | with_reducible exact Starts.error _
    | with_reducible exact Starts.mustAll _
    | with_reducible exact Starts.of _
    | with_reducible refine Starts.ok (fun orig s h => ?_)
    | with_reducible refine Starts.bind (fun _ => ?_)
    | with_reducible refine Starts.ite ?_ ?_
    | (extract_lets +onlyGivenNames x; refine Kept.of (a := orig) (x := x) ?_ ?_; rotate_left; (intro hx; clear_value x); rotate_right; subst x)
    | (extract_lets +onlyGivenNames x; first | (have keep := (x : Hbm); clear keep) | (have keep := (x : Mgmt); clear keep) | (have keep := (x : Seal); clear keep) | (have keep := (x : HostIf); clear keep) | clear_value x)
    | with_reducible apply Kept.ite
    | with_reducible exact Starts.of _
    | fail_if_no_progress (with_reducible refine Kept.frame ?_ (by rfl) (by rfl) (by rfl) (by rfl) (by rfl) (by rfl) (by first | exact Nat.le_refl _ | exact Nat.le_add_right _ _ | with_unfolding_all exact Nat.le_add_right _ _) (by rfl) (by rfl) (by rfl) (by first | exact fun y => y | (with_unfolding_all exact fun y => Mem.wf_writeLE _ _ _ _ y) | (with_unfolding_all exact fun y => Mem.wf_writeByte _ _ _ y) | (with_unfolding_all exact fun y => Mem.wf_clearRange _ _ _ y) | (with_unfolding_all exact fun _ => rfl)) (by first | exact fun y => y | (with_unfolding_all exact fun y => Sparse.wf_set _ _ _ _ y) | (with_unfolding_all exact fun _ => rfl)))

theorem planTe_starts (inverse : Bool) (c : Ctx) : Starts (planTe inverse c) := by
  unfold planTe
  repeat any_goals first
    | with_reducible assumption
    | with_reducible exact Starts.pureOf _
    | with_reducible exact Starts.error _
    | with_reducible exact Starts.mustAll _
    | with_reducible exact Starts.of _
    | with_reducible refine Starts.ok (fun orig s h => ?_)
    | with_reducible refine Starts.bind (fun _ => ?_)
    | with_reducible refine Starts.ite ?_ ?_
    | with_reducible apply Kept.ite
    | with_reducible apply planTeGang_starts
    | with_reducible apply planTeLocal_starts
    | split

theorem logMismatch_kept {orig s : State} (h : Kept orig s) (pb : Nat) (m : Option (Nat × Nat)) : Kept orig (logMismatch pb m s) := by
  unfold logMismatch
  repeat any_goals first
    | with_reducible assumption
    | intro s x h
    | with_reducible apply State.logBench_kept
    | fail_if_no_progress (with_reducible refine Kept.frame ?_ (by rfl) (by rfl) (by rfl) (by rfl) (by rfl) (by rfl) (by first | exact Nat.le_refl _ | exact Nat.le_add_right _ _ | with_unfolding_all exact Nat.le_add_right _ _) (by rfl) (by rfl) (by rfl) (by first | exact fun y => y | (with_unfolding_all exact fun y => Mem.wf_writeLE _ _ _ _ y) | (with_unfolding_all exact fun y => Mem.wf_writeByte _ _ _ y) | (with_unfolding_all exact fun y => Mem.wf_clearRange _ _ _ y) | (with_unfolding_all exact fun _ => rfl)) (by first | exact fun y => y | (with_unfolding_all exact fun y => Sparse.wf_set _ _ _ _ y) | (with_unfolding_all exact fun _ => rfl)))
    | split

theorem planRingObj_starts (c : Ctx) : Starts (planRingObj c) := by
  unfold planRingObj
  repeat any_goals first
    | with_reducible assumption
    | with_reducible exact Starts.pureOf _
    | with_reducible exact Starts.error _
    | with_reducible exact Starts.mustAll _
    | with_reducible exact Starts.of _
    | with_reducible refine Starts.ok (fun orig s h => ?_)
    | with_reducible refine Starts.bind (fun _ => ?_)
    | with_reducible refine Starts.ite ?_ ?_
    | (extract_lets +onlyGivenNames x; refine Kept.of (a := orig) (x := x) ?_ ?_; rotate_left; (intro hx; clear_value x); rotate_right; subst x)
    | (extract_lets +onlyGivenNames x; first | (have keep := (x : Hbm); clear keep) | (have keep := (x : Mgmt); clear keep) | (have keep := (x : Seal); clear keep) | (have keep := (x : HostIf); clear keep) | clear_value x)
    | with_reducible apply Kept.ite
    | with_reducible apply logMismatch_kept
    | fail_if_no_progress (with_reducible refine Kept.frame ?_ (by rfl) (by rfl) (by rfl) (by rfl) (by rfl) (by rfl) (by first | exact Nat.le_refl _ | exact Nat.le_add_right _ _ | with_unfolding_all exact Nat.le_add_right _ _) (by rfl) (by rfl) (by rfl) (by first | exact fun y => y | (with_unfolding_all exact fun y => Mem.wf_writeLE _ _ _ _ y) | (with_unfolding_all exact fun y => Mem.wf_writeByte _ _ _ y) | (with_unfolding_all exact fun y => Mem.wf_clearRange _ _ _ y) | (with_unfolding_all exact fun _ => rfl)) (by first | exact fun y => y | (with_unfolding_all exact fun y => Sparse.wf_set _ _ _ _ y) | (with_unfolding_all exact fun _ => rfl)))
    | split

theorem planVeTiles_starts (primes : List Nat) (c : Ctx) : Starts (planVeTiles primes c) := by
  unfold planVeTiles
  repeat any_goals first
    | with_reducible assumption
    | with_reducible exact Starts.pureOf _
    | with_reducible exact Starts.error _
    | with_reducible exact Starts.mustAll _
    | with_reducible exact Starts.of _
    | with_reducible refine Starts.ok (fun orig s h => ?_)
    | with_reducible refine Starts.bind (fun _ => ?_)
    | with_reducible refine Starts.ite ?_ ?_
    | (extract_lets +onlyGivenNames x; refine Kept.of (a := orig) (x := x) ?_ ?_; rotate_left; (intro hx; clear_value x); rotate_right; subst x)
    | (extract_lets +onlyGivenNames x; first | (have keep := (x : Hbm); clear keep) | (have keep := (x : Mgmt); clear keep) | (have keep := (x : Seal); clear keep) | (have keep := (x : HostIf); clear keep) | clear_value x)
    | with_reducible apply Kept.ite
    | with_reducible exact Starts.of _
    | fail_if_no_progress (with_reducible refine Kept.frame ?_ (by rfl) (by rfl) (by rfl) (by rfl) (by rfl) (by rfl) (by first | exact Nat.le_refl _ | exact Nat.le_add_right _ _ | with_unfolding_all exact Nat.le_add_right _ _) (by rfl) (by rfl) (by rfl) (by first | exact fun y => y | (with_unfolding_all exact fun y => Mem.wf_writeLE _ _ _ _ y) | (with_unfolding_all exact fun y => Mem.wf_writeByte _ _ _ y) | (with_unfolding_all exact fun y => Mem.wf_clearRange _ _ _ y) | (with_unfolding_all exact fun _ => rfl)) (by first | exact fun y => y | (with_unfolding_all exact fun y => Sparse.wf_set _ _ _ _ y) | (with_unfolding_all exact fun _ => rfl)))
    | split

theorem planRing_starts (c : Ctx) : Starts (planRing c) := by
  unfold planRing
  repeat any_goals first
    | with_reducible assumption
    | with_reducible exact Starts.pureOf _
    | with_reducible exact Starts.error _
    | with_reducible exact Starts.mustAll _
    | with_reducible exact Starts.of _
    | with_reducible refine Starts.ok (fun orig s h => ?_)
    | with_reducible refine Starts.bind (fun _ => ?_)
    | with_reducible refine Starts.ite ?_ ?_
    | with_reducible apply Kept.ite
    | with_reducible apply planRingObj_starts
    | with_reducible apply planVeTiles_starts
    | split

theorem planFloat_starts (c : Ctx) : Starts (planFloat c) := by
  unfold planFloat
  repeat any_goals first
    | with_reducible assumption
    | with_reducible exact Starts.pureOf _
    | with_reducible exact Starts.error _
    | with_reducible exact Starts.mustAll _
    | with_reducible exact Starts.of _
    | with_reducible refine Starts.ok (fun orig s h => ?_)
    | with_reducible refine Starts.bind (fun _ => ?_)
    | with_reducible refine Starts.ite ?_ ?_
    | with_reducible apply Kept.ite
    | with_reducible apply planVeTiles_starts

theorem planConv_starts (toRing : Bool) (c : Ctx) : Starts (planConv toRing c) := by
  unfold planConv
  repeat any_goals first
    | with_reducible assumption
    | with_reducible exact Starts.pureOf _
    | with_reducible exact Starts.error _
    | with_reducible exact Starts.mustAll _
    | with_reducible exact Starts.of _
    | with_reducible refine Starts.ok (fun orig s h => ?_)
    | with_reducible refine Starts.bind (fun _ => ?_)
    | with_reducible refine Starts.ite ?_ ?_
    | (extract_lets +onlyGivenNames x; refine Kept.of (a := orig) (x := x) ?_ ?_; rotate_left; (intro hx; clear_value x); rotate_right; subst x)
    | (extract_lets +onlyGivenNames x; first | (have keep := (x : Hbm); clear keep) | (have keep := (x : Mgmt); clear keep) | (have keep := (x : Seal); clear keep) | (have keep := (x : HostIf); clear keep) | clear_value x)
    | with_reducible apply Kept.ite
    | with_reducible exact Starts.of _
    | fail_if_no_progress (with_reducible refine Kept.frame ?_ (by rfl) (by rfl) (by rfl) (by rfl) (by rfl) (by rfl) (by first | exact Nat.le_refl _ | exact Nat.le_add_right _ _ | with_unfolding_all exact Nat.le_add_right _ _) (by rfl) (by rfl) (by rfl) (by first | exact fun y => y | (with_unfolding_all exact fun y => Mem.wf_writeLE _ _ _ _ y) | (with_unfolding_all exact fun y => Mem.wf_writeByte _ _ _ y) | (with_unfolding_all exact fun y => Mem.wf_clearRange _ _ _ y) | (with_unfolding_all exact fun _ => rfl)) (by first | exact fun y => y | (with_unfolding_all exact fun y => Sparse.wf_set _ _ _ _ y) | (with_unfolding_all exact fun _ => rfl)))
    | split

theorem planMatmul_starts (c : Ctx) : Starts (planMatmul c) := by
  unfold planMatmul
  repeat any_goals first
    | with_reducible assumption
    | with_reducible exact Starts.pureOf _
    | with_reducible exact Starts.error _
    | with_reducible exact Starts.mustAll _
    | with_reducible exact Starts.of _
    | with_reducible refine Starts.ok (fun orig s h => ?_)
    | with_reducible refine Starts.bind (fun _ => ?_)
    | with_reducible refine Starts.ite ?_ ?_
    | (extract_lets +onlyGivenNames x; refine Kept.of (a := orig) (x := x) ?_ ?_; rotate_left; (intro hx; clear_value x); rotate_right; subst x)
    | (extract_lets +onlyGivenNames x; first | (have keep := (x : Hbm); clear keep) | (have keep := (x : Mgmt); clear keep) | (have keep := (x : Seal); clear keep) | (have keep := (x : HostIf); clear keep) | clear_value x)
    | with_reducible apply Kept.ite
    | with_reducible apply State.wr_kept
    | with_reducible apply State.wrB_kept
    | fail_if_no_progress (with_reducible refine Kept.frame ?_ (by rfl) (by rfl) (by rfl) (by rfl) (by rfl) (by rfl) (by first | exact Nat.le_refl _ | exact Nat.le_add_right _ _ | with_unfolding_all exact Nat.le_add_right _ _) (by rfl) (by rfl) (by rfl) (by first | exact fun y => y | (with_unfolding_all exact fun y => Mem.wf_writeLE _ _ _ _ y) | (with_unfolding_all exact fun y => Mem.wf_writeByte _ _ _ y) | (with_unfolding_all exact fun y => Mem.wf_clearRange _ _ _ y) | (with_unfolding_all exact fun _ => rfl)) (by first | exact fun y => y | (with_unfolding_all exact fun y => Sparse.wf_set _ _ _ _ y) | (with_unfolding_all exact fun _ => rfl)))
    | split

theorem State.benchCorrected_kept {orig s : State} (h : Kept orig s) (pb : Nat) (mem : Nat) (reader : Nat) (addr : Nat) : Kept orig (State.benchCorrected s pb mem reader addr) := by
  unfold State.benchCorrected
  repeat any_goals first
    | with_reducible assumption
    | intro s x h
    | (extract_lets +onlyGivenNames x; refine Kept.of (a := orig) (x := x) ?_ ?_; rotate_left; (intro hx; clear_value x); rotate_right; subst x)
    | (extract_lets +onlyGivenNames x; first | (have keep := (x : Hbm); clear keep) | (have keep := (x : Mgmt); clear keep) | (have keep := (x : Seal); clear keep) | (have keep := (x : HostIf); clear keep) | clear_value x)
    | with_reducible apply Kept.ite
    | with_reducible apply State.bump_kept
    | with_reducible apply State.logBench_kept
    | split

theorem State.benchUncorrectable_kept {orig s : State} (h : Kept orig s) (pb : Nat) (mem : Nat) (reader : Nat) (addr : Nat) (header : Nat) : Kept orig (State.benchUncorrectable s pb mem reader addr header) := by
  unfold State.benchUncorrectable
  repeat any_goals first
    | with_reducible assumption
    | intro s x h
    | (extract_lets +onlyGivenNames x; refine Kept.of (a := orig) (x := x) ?_ ?_; rotate_left; (intro hx; clear_value x); rotate_right; subst x)
    | (extract_lets +onlyGivenNames x; first | (have keep := (x : Hbm); clear keep) | (have keep := (x : Mgmt); clear keep) | (have keep := (x : Seal); clear keep) | (have keep := (x : HostIf); clear keep) | clear_value x)
    | with_reducible apply Kept.ite
    | with_reducible apply State.wr_kept
    | with_reducible apply State.wrB_kept
    | with_reducible apply State.bump_kept
    | with_reducible apply State.logBench_kept
    | split

theorem State.basinCorrected_kept {orig s : State} (h : Kept orig s) (l : Nat) (reader : Nat) (addr : Nat) : Kept orig (State.basinCorrected s l reader addr) := by
  unfold State.basinCorrected
  repeat any_goals first
    | with_reducible assumption
    | intro s x h
    | (extract_lets +onlyGivenNames x; refine Kept.of (a := orig) (x := x) ?_ ?_; rotate_left; (intro hx; clear_value x); rotate_right; subst x)
    | (extract_lets +onlyGivenNames x; first | (have keep := (x : Hbm); clear keep) | (have keep := (x : Mgmt); clear keep) | (have keep := (x : Seal); clear keep) | (have keep := (x : HostIf); clear keep) | clear_value x)
    | with_reducible apply Kept.ite
    | with_reducible apply State.bump_kept
    | with_reducible apply State.logAt_kept
    | split

theorem State.basinUncorrectable_kept {orig s : State} (h : Kept orig s) (l : Nat) (reader : Nat) (addr : Nat) (tenant : Nat) (header : Nat) : Kept orig (State.basinUncorrectable s l reader addr tenant header) := by
  unfold State.basinUncorrectable
  repeat any_goals first
    | with_reducible assumption
    | intro s x h
    | (extract_lets +onlyGivenNames x; refine Kept.of (a := orig) (x := x) ?_ ?_; rotate_left; (intro hx; clear_value x); rotate_right; subst x)
    | (extract_lets +onlyGivenNames x; first | (have keep := (x : Hbm); clear keep) | (have keep := (x : Mgmt); clear keep) | (have keep := (x : Seal); clear keep) | (have keep := (x : HostIf); clear keep) | clear_value x)
    | with_reducible apply Kept.ite
    | with_reducible apply State.wr_kept
    | with_reducible apply State.wrB_kept
    | with_reducible apply State.bump_kept
    | with_reducible apply State.log_kept
    | split

theorem State.hbmCorrected_kept {orig s : State} (h : Kept orig s) (c : Nat) (reader : Nat) (addr : Nat) : Kept orig (State.hbmCorrected s c reader addr) := by
  unfold State.hbmCorrected
  repeat any_goals first
    | with_reducible assumption
    | intro s x h
    | (extract_lets +onlyGivenNames x; refine Kept.of (a := orig) (x := x) ?_ ?_; rotate_left; (intro hx; clear_value x); rotate_right; subst x)
    | (extract_lets +onlyGivenNames x; first | (have keep := (x : Hbm); clear keep) | (have keep := (x : Mgmt); clear keep) | (have keep := (x : Seal); clear keep) | (have keep := (x : HostIf); clear keep) | clear_value x)
    | with_reducible apply Kept.ite
    | with_reducible apply State.bump_kept
    | with_reducible apply State.logAt_kept
    | split

theorem State.markMapOut_kept {orig s : State} (h : Kept orig s) (c : Nat) (cause : Nat) (count : Nat) : Kept orig (State.markMapOut s c cause count) := by
  unfold State.markMapOut
  repeat any_goals first
    | with_reducible assumption
    | intro s x h
    | (extract_lets +onlyGivenNames x; refine Kept.of (a := orig) (x := x) ?_ ?_; rotate_left; (intro hx; clear_value x); rotate_right; subst x)
    | (extract_lets +onlyGivenNames x; first | (have keep := (x : Hbm); clear keep) | (have keep := (x : Mgmt); clear keep) | (have keep := (x : Seal); clear keep) | (have keep := (x : HostIf); clear keep) | clear_value x)
    | with_reducible apply Kept.ite
    | with_reducible apply State.wrB_kept
    | with_reducible apply State.logAt_kept
    | fail_if_no_progress (with_reducible refine Kept.frame ?_ (by rfl) (by rfl) (by rfl) (by rfl) (by rfl) (by rfl) (by first | exact Nat.le_refl _ | exact Nat.le_add_right _ _ | with_unfolding_all exact Nat.le_add_right _ _) (by rfl) (by rfl) (by rfl) (by first | exact fun y => y | (with_unfolding_all exact fun y => Mem.wf_writeLE _ _ _ _ y) | (with_unfolding_all exact fun y => Mem.wf_writeByte _ _ _ y) | (with_unfolding_all exact fun y => Mem.wf_clearRange _ _ _ y) | (with_unfolding_all exact fun _ => rfl)) (by first | exact fun y => y | (with_unfolding_all exact fun y => Sparse.wf_set _ _ _ _ y) | (with_unfolding_all exact fun _ => rfl)))
    | split

theorem State.hbmUncorrectable_kept {orig s : State} (h : Kept orig s) (c : Nat) (reader : Nat) (addr : Nat) (tenant : Nat) (header : Nat) : Kept orig (State.hbmUncorrectable s c reader addr tenant header) := by
  unfold State.hbmUncorrectable
  repeat any_goals first
    | with_reducible assumption
    | intro s x h
    | (extract_lets +onlyGivenNames x; refine Kept.of (a := orig) (x := x) ?_ ?_; rotate_left; (intro hx; clear_value x); rotate_right; subst x)
    | (extract_lets +onlyGivenNames x; first | (have keep := (x : Hbm); clear keep) | (have keep := (x : Mgmt); clear keep) | (have keep := (x : Seal); clear keep) | (have keep := (x : HostIf); clear keep) | clear_value x)
    | with_reducible apply Kept.ite
    | with_reducible apply State.wr_kept
    | with_reducible apply State.wrB_kept
    | with_reducible apply State.bump_kept
    | with_reducible apply State.log_kept
    | with_reducible apply State.markMapOut_kept
    | fail_if_no_progress (with_reducible refine Kept.frame ?_ (by rfl) (by rfl) (by rfl) (by rfl) (by rfl) (by rfl) (by first | exact Nat.le_refl _ | exact Nat.le_add_right _ _ | with_unfolding_all exact Nat.le_add_right _ _) (by rfl) (by rfl) (by rfl) (by first | exact fun y => y | (with_unfolding_all exact fun y => Mem.wf_writeLE _ _ _ _ y) | (with_unfolding_all exact fun y => Mem.wf_writeByte _ _ _ y) | (with_unfolding_all exact fun y => Mem.wf_clearRange _ _ _ y) | (with_unfolding_all exact fun _ => rfl)) (by first | exact fun y => y | (with_unfolding_all exact fun y => Sparse.wf_set _ _ _ _ y) | (with_unfolding_all exact fun _ => rfl)))
    | split

theorem State.setPageOwner_kept {orig s : State} (h : Kept orig s) (page : Nat) (t : Nat) : Kept orig (State.setPageOwner s page t) := by
  unfold State.setPageOwner
  repeat any_goals first
    | with_reducible assumption
    | intro s x h
    | fail_if_no_progress (with_reducible refine Kept.frame ?_ (by rfl) (by rfl) (by rfl) (by rfl) (by rfl) (by rfl) (by first | exact Nat.le_refl _ | exact Nat.le_add_right _ _ | with_unfolding_all exact Nat.le_add_right _ _) (by rfl) (by rfl) (by rfl) (by first | exact fun y => y | (with_unfolding_all exact fun y => Mem.wf_writeLE _ _ _ _ y) | (with_unfolding_all exact fun y => Mem.wf_writeByte _ _ _ y) | (with_unfolding_all exact fun y => Mem.wf_clearRange _ _ _ y) | (with_unfolding_all exact fun _ => rfl)) (by first | exact fun y => y | (with_unfolding_all exact fun y => Sparse.wf_set _ _ _ _ y) | (with_unfolding_all exact fun _ => rfl)))

theorem State.setHbmWord_kept {orig s : State} (h : Kept orig s) (a : Nat) (v : Nat) (poison : Bool) : Kept orig (State.setHbmWord s a v poison) := by
  unfold State.setHbmWord
  repeat any_goals first
    | with_reducible assumption
    | intro s x h
    | fail_if_no_progress (with_reducible refine Kept.frame ?_ (by rfl) (by rfl) (by rfl) (by rfl) (by rfl) (by rfl) (by first | exact Nat.le_refl _ | exact Nat.le_add_right _ _ | with_unfolding_all exact Nat.le_add_right _ _) (by rfl) (by rfl) (by rfl) (by first | exact fun y => y | (with_unfolding_all exact fun y => Mem.wf_writeLE _ _ _ _ y) | (with_unfolding_all exact fun y => Mem.wf_writeByte _ _ _ y) | (with_unfolding_all exact fun y => Mem.wf_clearRange _ _ _ y) | (with_unfolding_all exact fun _ => rfl)) (by first | exact fun y => y | (with_unfolding_all exact fun y => Sparse.wf_set _ _ _ _ y) | (with_unfolding_all exact fun _ => rfl)))
    | split

theorem State.setHbmByte_kept {orig s : State} (h : Kept orig s) (a : Nat) (v : Byte) : Kept orig (State.setHbmByte s a v) := by
  unfold State.setHbmByte
  repeat any_goals first
    | with_reducible assumption
    | intro s x h
    | fail_if_no_progress (with_reducible refine Kept.frame ?_ (by rfl) (by rfl) (by rfl) (by rfl) (by rfl) (by rfl) (by first | exact Nat.le_refl _ | exact Nat.le_add_right _ _ | with_unfolding_all exact Nat.le_add_right _ _) (by rfl) (by rfl) (by rfl) (by first | exact fun y => y | (with_unfolding_all exact fun y => Mem.wf_writeLE _ _ _ _ y) | (with_unfolding_all exact fun y => Mem.wf_writeByte _ _ _ y) | (with_unfolding_all exact fun y => Mem.wf_clearRange _ _ _ y) | (with_unfolding_all exact fun _ => rfl)) (by first | exact fun y => y | (with_unfolding_all exact fun y => Sparse.wf_set _ _ _ _ y) | (with_unfolding_all exact fun _ => rfl)))
    | split

theorem State.setHbmBytes_kept {orig s : State} (h : Kept orig s) (a : Nat) (l : List Byte) : Kept orig (State.setHbmBytes s a l) := by
  unfold State.setHbmBytes
  repeat any_goals first
    | with_reducible assumption
    | intro s x h
    | with_reducible apply State.setHbmWord_kept
    | with_reducible refine Kept.foldl ?_ (fun s x h => ?_)

theorem State.setHbmDwords_kept {orig s : State} (h : Kept orig s) (a : Nat) (l : List Reg64) : Kept orig (State.setHbmDwords s a l) := by
  unfold State.setHbmDwords
  repeat any_goals first
    | with_reducible assumption
    | intro s x h
    | with_reducible apply State.setHbmBytes_kept

theorem State.zeroPages_kept {orig s : State} (h : Kept orig s) (pages : List Nat) : Kept orig (State.zeroPages s pages) := by
  unfold State.zeroPages
  repeat any_goals first
    | with_reducible assumption
    | intro s x h
    | (extract_lets +onlyGivenNames x; refine Kept.of (a := orig) (x := x) ?_ ?_; rotate_left; (intro hx; clear_value x); rotate_right; subst x)
    | (extract_lets +onlyGivenNames x; first | (have keep := (x : Hbm); clear keep) | (have keep := (x : Mgmt); clear keep) | (have keep := (x : Seal); clear keep) | (have keep := (x : HostIf); clear keep) | clear_value x)
    | with_reducible refine Kept.foldl ?_ (fun s x h => ?_)
    | fail_if_no_progress (with_reducible refine Kept.frame ?_ (by rfl) (by rfl) (by rfl) (by rfl) (by rfl) (by rfl) (by first | exact Nat.le_refl _ | exact Nat.le_add_right _ _ | with_unfolding_all exact Nat.le_add_right _ _) (by rfl) (by rfl) (by rfl) (by first | exact fun y => y | (with_unfolding_all exact fun y => Mem.wf_writeLE _ _ _ _ y) | (with_unfolding_all exact fun y => Mem.wf_writeByte _ _ _ y) | (with_unfolding_all exact fun y => Mem.wf_clearRange _ _ _ y) | (with_unfolding_all exact fun _ => rfl)) (by first | exact fun y => y | (with_unfolding_all exact fun y => Sparse.wf_set _ _ _ _ y) | (with_unfolding_all exact fun _ => rfl)))

theorem State.zeroHbm_kept {orig s : State} (h : Kept orig s) : Kept orig (State.zeroHbm s) := by
  unfold State.zeroHbm
  repeat any_goals first
    | with_reducible assumption
    | intro s x h
    | fail_if_no_progress (with_reducible refine Kept.frame ?_ (by rfl) (by rfl) (by rfl) (by rfl) (by rfl) (by rfl) (by first | exact Nat.le_refl _ | exact Nat.le_add_right _ _ | with_unfolding_all exact Nat.le_add_right _ _) (by rfl) (by rfl) (by rfl) (by first | exact fun y => y | (with_unfolding_all exact fun y => Mem.wf_writeLE _ _ _ _ y) | (with_unfolding_all exact fun y => Mem.wf_writeByte _ _ _ y) | (with_unfolding_all exact fun y => Mem.wf_clearRange _ _ _ y) | (with_unfolding_all exact fun _ => rfl)) (by first | exact fun y => y | (with_unfolding_all exact fun y => Sparse.wf_set _ _ _ _ y) | (with_unfolding_all exact fun _ => rfl)))

theorem State.setBasin_kept {orig s : State} (h : Kept orig s) (l : Nat) (m : EMem) : Kept orig (State.setBasin s l m) := by
  unfold State.setBasin
  repeat any_goals first
    | with_reducible assumption
    | intro s x h
    | fail_if_no_progress (with_reducible refine Kept.frame ?_ (by rfl) (by rfl) (by rfl) (by rfl) (by rfl) (by rfl) (by first | exact Nat.le_refl _ | exact Nat.le_add_right _ _ | with_unfolding_all exact Nat.le_add_right _ _) (by rfl) (by rfl) (by rfl) (by first | exact fun y => y | (with_unfolding_all exact fun y => Mem.wf_writeLE _ _ _ _ y) | (with_unfolding_all exact fun y => Mem.wf_writeByte _ _ _ y) | (with_unfolding_all exact fun y => Mem.wf_clearRange _ _ _ y) | (with_unfolding_all exact fun _ => rfl)) (by first | exact fun y => y | (with_unfolding_all exact fun y => Sparse.wf_set _ _ _ _ y) | (with_unfolding_all exact fun _ => rfl)))

theorem State.setLease_kept {orig s : State} (h : Kept orig s) (l : Nat) (n : Nat) (v : Lease) : Kept orig (State.setLease s l n v) := by
  unfold State.setLease
  repeat any_goals first
    | with_reducible assumption
    | intro s x h
    | fail_if_no_progress (with_reducible refine Kept.frame ?_ (by rfl) (by rfl) (by rfl) (by rfl) (by rfl) (by rfl) (by first | exact Nat.le_refl _ | exact Nat.le_add_right _ _ | with_unfolding_all exact Nat.le_add_right _ _) (by rfl) (by rfl) (by rfl) (by first | exact fun y => y | (with_unfolding_all exact fun y => Mem.wf_writeLE _ _ _ _ y) | (with_unfolding_all exact fun y => Mem.wf_writeByte _ _ _ y) | (with_unfolding_all exact fun y => Mem.wf_clearRange _ _ _ y) | (with_unfolding_all exact fun _ => rfl)) (by first | exact fun y => y | (with_unfolding_all exact fun y => Sparse.wf_set _ _ _ _ y) | (with_unfolding_all exact fun _ => rfl)))

theorem planRiffle_starts (c : Ctx) : Starts (planRiffle c) := by
  unfold planRiffle
  repeat any_goals first
    | with_reducible assumption
    | with_reducible exact Starts.pureOf _
    | with_reducible exact Starts.error _
    | with_reducible exact Starts.mustAll _
    | with_reducible exact Starts.of _
    | with_reducible refine Starts.ok (fun orig s h => ?_)
    | with_reducible refine Starts.bind (fun _ => ?_)
    | with_reducible refine Starts.ite ?_ ?_
    | (extract_lets +onlyGivenNames x; refine Kept.of (a := orig) (x := x) ?_ ?_; rotate_left; (intro hx; clear_value x); rotate_right; subst x)
    | (extract_lets +onlyGivenNames x; first | (have keep := (x : Hbm); clear keep) | (have keep := (x : Mgmt); clear keep) | (have keep := (x : Seal); clear keep) | (have keep := (x : HostIf); clear keep) | clear_value x)
    | with_reducible apply Kept.ite
    | with_reducible exact Starts.of _
    | fail_if_no_progress (with_reducible refine Kept.frame ?_ (by rfl) (by rfl) (by rfl) (by rfl) (by rfl) (by rfl) (by first | exact Nat.le_refl _ | exact Nat.le_add_right _ _ | with_unfolding_all exact Nat.le_add_right _ _) (by rfl) (by rfl) (by rfl) (by first | exact fun y => y | (with_unfolding_all exact fun y => Mem.wf_writeLE _ _ _ _ y) | (with_unfolding_all exact fun y => Mem.wf_writeByte _ _ _ y) | (with_unfolding_all exact fun y => Mem.wf_clearRange _ _ _ y) | (with_unfolding_all exact fun _ => rfl)) (by first | exact fun y => y | (with_unfolding_all exact fun y => Sparse.wf_set _ _ _ _ y) | (with_unfolding_all exact fun _ => rfl)))
    | split

theorem State.postExchange_kept {orig s : State} (h : Kept orig s) (pb : Nat) (seq : Nat) (shape : List Nat) (data : List (List El)) : Kept orig (State.postExchange s pb seq shape data) := by
  unfold State.postExchange
  repeat any_goals first
    | with_reducible assumption
    | intro s x h
    | with_reducible apply State.onBench_kept
    | fail_if_no_progress (with_reducible refine Kept.frame ?_ (by rfl) (by rfl) (by rfl) (by rfl) (by rfl) (by rfl) (by first | exact Nat.le_refl _ | exact Nat.le_add_right _ _ | with_unfolding_all exact Nat.le_add_right _ _) (by rfl) (by rfl) (by rfl) (by first | exact fun y => y | (with_unfolding_all exact fun y => Mem.wf_writeLE _ _ _ _ y) | (with_unfolding_all exact fun y => Mem.wf_writeByte _ _ _ y) | (with_unfolding_all exact fun y => Mem.wf_clearRange _ _ _ y) | (with_unfolding_all exact fun _ => rfl)) (by first | exact fun y => y | (with_unfolding_all exact fun y => Sparse.wf_set _ _ _ _ y) | (with_unfolding_all exact fun _ => rfl)))

theorem planKsw_starts (c : Ctx) : Starts (planKsw c) := by
  unfold planKsw
  repeat any_goals first
    | with_reducible assumption
    | with_reducible exact Starts.pureOf _
    | with_reducible exact Starts.error _
    | with_reducible exact Starts.mustAll _
    | with_reducible exact Starts.of _
    | with_reducible refine Starts.ok (fun orig s h => ?_)
    | with_reducible refine Starts.bind (fun _ => ?_)
    | with_reducible refine Starts.ite ?_ ?_
    | (extract_lets +onlyGivenNames x; refine Kept.of (a := orig) (x := x) ?_ ?_; rotate_left; (intro hx; clear_value x); rotate_right; subst x)
    | (extract_lets +onlyGivenNames x; first | (have keep := (x : Hbm); clear keep) | (have keep := (x : Mgmt); clear keep) | (have keep := (x : Seal); clear keep) | (have keep := (x : HostIf); clear keep) | clear_value x)
    | with_reducible apply Kept.ite
    | with_reducible apply State.onBench_kept
    | with_reducible apply State.postExchange_kept
    | fail_if_no_progress (with_reducible refine Kept.frame ?_ (by rfl) (by rfl) (by rfl) (by rfl) (by rfl) (by rfl) (by first | exact Nat.le_refl _ | exact Nat.le_add_right _ _ | with_unfolding_all exact Nat.le_add_right _ _) (by rfl) (by rfl) (by rfl) (by first | exact fun y => y | (with_unfolding_all exact fun y => Mem.wf_writeLE _ _ _ _ y) | (with_unfolding_all exact fun y => Mem.wf_writeByte _ _ _ y) | (with_unfolding_all exact fun y => Mem.wf_clearRange _ _ _ y) | (with_unfolding_all exact fun _ => rfl)) (by first | exact fun y => y | (with_unfolding_all exact fun y => Sparse.wf_set _ _ _ _ y) | (with_unfolding_all exact fun _ => rfl)))
    | split

theorem planRescale_starts (c : Ctx) : Starts (planRescale c) := by
  unfold planRescale
  repeat any_goals first
    | with_reducible assumption
    | with_reducible exact Starts.pureOf _
    | with_reducible exact Starts.error _
    | with_reducible exact Starts.mustAll _
    | with_reducible exact Starts.of _
    | with_reducible refine Starts.ok (fun orig s h => ?_)
    | with_reducible refine Starts.bind (fun _ => ?_)
    | with_reducible refine Starts.ite ?_ ?_
    | (extract_lets +onlyGivenNames x; refine Kept.of (a := orig) (x := x) ?_ ?_; rotate_left; (intro hx; clear_value x); rotate_right; subst x)
    | (extract_lets +onlyGivenNames x; first | (have keep := (x : Hbm); clear keep) | (have keep := (x : Mgmt); clear keep) | (have keep := (x : Seal); clear keep) | (have keep := (x : HostIf); clear keep) | clear_value x)
    | with_reducible apply Kept.ite
    | with_reducible apply State.onBench_kept
    | with_reducible apply State.postExchange_kept
    | fail_if_no_progress (with_reducible refine Kept.frame ?_ (by rfl) (by rfl) (by rfl) (by rfl) (by rfl) (by rfl) (by first | exact Nat.le_refl _ | exact Nat.le_add_right _ _ | with_unfolding_all exact Nat.le_add_right _ _) (by rfl) (by rfl) (by rfl) (by first | exact fun y => y | (with_unfolding_all exact fun y => Mem.wf_writeLE _ _ _ _ y) | (with_unfolding_all exact fun y => Mem.wf_writeByte _ _ _ y) | (with_unfolding_all exact fun y => Mem.wf_clearRange _ _ _ y) | (with_unfolding_all exact fun _ => rfl)) (by first | exact fun y => y | (with_unfolding_all exact fun y => Sparse.wf_set _ _ _ _ y) | (with_unfolding_all exact fun _ => rfl)))
    | split

theorem planPbs_starts (c : Ctx) : Starts (planPbs c) := by
  unfold planPbs
  repeat any_goals first
    | with_reducible assumption
    | with_reducible exact Starts.pureOf _
    | with_reducible exact Starts.error _
    | with_reducible exact Starts.mustAll _
    | with_reducible exact Starts.of _
    | with_reducible refine Starts.ok (fun orig s h => ?_)
    | with_reducible refine Starts.bind (fun _ => ?_)
    | with_reducible refine Starts.ite ?_ ?_
    | (extract_lets +onlyGivenNames x; refine Kept.of (a := orig) (x := x) ?_ ?_; rotate_left; (intro hx; clear_value x); rotate_right; subst x)
    | (extract_lets +onlyGivenNames x; first | (have keep := (x : Hbm); clear keep) | (have keep := (x : Mgmt); clear keep) | (have keep := (x : Seal); clear keep) | (have keep := (x : HostIf); clear keep) | clear_value x)
    | with_reducible apply Kept.ite
    | with_reducible exact Starts.of _
    | fail_if_no_progress (with_reducible refine Kept.frame ?_ (by rfl) (by rfl) (by rfl) (by rfl) (by rfl) (by rfl) (by first | exact Nat.le_refl _ | exact Nat.le_add_right _ _ | with_unfolding_all exact Nat.le_add_right _ _) (by rfl) (by rfl) (by rfl) (by first | exact fun y => y | (with_unfolding_all exact fun y => Mem.wf_writeLE _ _ _ _ y) | (with_unfolding_all exact fun y => Mem.wf_writeByte _ _ _ y) | (with_unfolding_all exact fun y => Mem.wf_clearRange _ _ _ y) | (with_unfolding_all exact fun _ => rfl)) (by first | exact fun y => y | (with_unfolding_all exact fun y => Sparse.wf_set _ _ _ _ y) | (with_unfolding_all exact fun _ => rfl)))
    | split

theorem planExtract_starts (c : Ctx) : Starts (planExtract c) := by
  unfold planExtract
  repeat any_goals first
    | with_reducible assumption
    | with_reducible exact Starts.pureOf _
    | with_reducible exact Starts.error _
    | with_reducible exact Starts.mustAll _
    | with_reducible exact Starts.of _
    | with_reducible refine Starts.ok (fun orig s h => ?_)
    | with_reducible refine Starts.bind (fun _ => ?_)
    | with_reducible refine Starts.ite ?_ ?_
    | (extract_lets +onlyGivenNames x; refine Kept.of (a := orig) (x := x) ?_ ?_; rotate_left; (intro hx; clear_value x); rotate_right; subst x)
    | (extract_lets +onlyGivenNames x; first | (have keep := (x : Hbm); clear keep) | (have keep := (x : Mgmt); clear keep) | (have keep := (x : Seal); clear keep) | (have keep := (x : HostIf); clear keep) | clear_value x)
    | with_reducible apply Kept.ite
    | with_reducible apply State.onBench_kept
    | with_reducible apply State.postExchange_kept
    | fail_if_no_progress (with_reducible refine Kept.frame ?_ (by rfl) (by rfl) (by rfl) (by rfl) (by rfl) (by rfl) (by first | exact Nat.le_refl _ | exact Nat.le_add_right _ _ | with_unfolding_all exact Nat.le_add_right _ _) (by rfl) (by rfl) (by rfl) (by first | exact fun y => y | (with_unfolding_all exact fun y => Mem.wf_writeLE _ _ _ _ y) | (with_unfolding_all exact fun y => Mem.wf_writeByte _ _ _ y) | (with_unfolding_all exact fun y => Mem.wf_clearRange _ _ _ y) | (with_unfolding_all exact fun _ => rfl)) (by first | exact fun y => y | (with_unfolding_all exact fun y => Sparse.wf_set _ _ _ _ y) | (with_unfolding_all exact fun _ => rfl)))
    | split

theorem planPack_starts (c : Ctx) : Starts (planPack c) := by
  unfold planPack
  repeat any_goals first
    | with_reducible assumption
    | with_reducible exact Starts.pureOf _
    | with_reducible exact Starts.error _
    | with_reducible exact Starts.mustAll _
    | with_reducible exact Starts.of _
    | with_reducible refine Starts.ok (fun orig s h => ?_)
    | with_reducible refine Starts.bind (fun _ => ?_)
    | with_reducible refine Starts.ite ?_ ?_
    | (extract_lets +onlyGivenNames x; refine Kept.of (a := orig) (x := x) ?_ ?_; rotate_left; (intro hx; clear_value x); rotate_right; subst x)
    | (extract_lets +onlyGivenNames x; first | (have keep := (x : Hbm); clear keep) | (have keep := (x : Mgmt); clear keep) | (have keep := (x : Seal); clear keep) | (have keep := (x : HostIf); clear keep) | clear_value x)
    | with_reducible apply Kept.ite
    | with_reducible apply State.onBench_kept
    | with_reducible apply State.postExchange_kept
    | fail_if_no_progress (with_reducible refine Kept.frame ?_ (by rfl) (by rfl) (by rfl) (by rfl) (by rfl) (by rfl) (by first | exact Nat.le_refl _ | exact Nat.le_add_right _ _ | with_unfolding_all exact Nat.le_add_right _ _) (by rfl) (by rfl) (by rfl) (by first | exact fun y => y | (with_unfolding_all exact fun y => Mem.wf_writeLE _ _ _ _ y) | (with_unfolding_all exact fun y => Mem.wf_writeByte _ _ _ y) | (with_unfolding_all exact fun y => Mem.wf_clearRange _ _ _ y) | (with_unfolding_all exact fun _ => rfl)) (by first | exact fun y => y | (with_unfolding_all exact fun y => Sparse.wf_set _ _ _ _ y) | (with_unfolding_all exact fun _ => rfl)))
    | split

theorem planFreshet_starts (c : Ctx) : Starts (planFreshet c) := by
  unfold planFreshet
  repeat any_goals first
    | with_reducible assumption
    | with_reducible exact Starts.pureOf _
    | with_reducible exact Starts.error _
    | with_reducible exact Starts.mustAll _
    | with_reducible exact Starts.of _
    | with_reducible refine Starts.ok (fun orig s h => ?_)
    | with_reducible refine Starts.bind (fun _ => ?_)
    | with_reducible refine Starts.ite ?_ ?_
    | (extract_lets +onlyGivenNames x; refine Kept.of (a := orig) (x := x) ?_ ?_; rotate_left; (intro hx; clear_value x); rotate_right; subst x)
    | (extract_lets +onlyGivenNames x; first | (have keep := (x : Hbm); clear keep) | (have keep := (x : Mgmt); clear keep) | (have keep := (x : Seal); clear keep) | (have keep := (x : HostIf); clear keep) | clear_value x)
    | with_reducible apply Kept.ite
    | with_reducible apply State.onBench_kept
    | with_reducible apply State.postExchange_kept
    | fail_if_no_progress (with_reducible refine Kept.frame ?_ (by rfl) (by rfl) (by rfl) (by rfl) (by rfl) (by rfl) (by first | exact Nat.le_refl _ | exact Nat.le_add_right _ _ | with_unfolding_all exact Nat.le_add_right _ _) (by rfl) (by rfl) (by rfl) (by first | exact fun y => y | (with_unfolding_all exact fun y => Mem.wf_writeLE _ _ _ _ y) | (with_unfolding_all exact fun y => Mem.wf_writeByte _ _ _ y) | (with_unfolding_all exact fun y => Mem.wf_clearRange _ _ _ y) | (with_unfolding_all exact fun _ => rfl)) (by first | exact fun y => y | (with_unfolding_all exact fun y => Sparse.wf_set _ _ _ _ y) | (with_unfolding_all exact fun _ => rfl)))
    | split

theorem State.setGen_kept {orig s : State} (h : Kept orig s) (slot : Nat) (st : Nat) (gen : Nat) : Kept orig (State.setGen s slot st gen) := by
  unfold State.setGen
  repeat any_goals first
    | with_reducible assumption
    | intro s x h
    | fail_if_no_progress (with_reducible refine Kept.frame ?_ (by rfl) (by rfl) (by rfl) (by rfl) (by rfl) (by rfl) (by first | exact Nat.le_refl _ | exact Nat.le_add_right _ _ | with_unfolding_all exact Nat.le_add_right _ _) (by rfl) (by rfl) (by rfl) (by first | exact fun y => y | (with_unfolding_all exact fun y => Mem.wf_writeLE _ _ _ _ y) | (with_unfolding_all exact fun y => Mem.wf_writeByte _ _ _ y) | (with_unfolding_all exact fun y => Mem.wf_clearRange _ _ _ y) | (with_unfolding_all exact fun _ => rfl)) (by first | exact fun y => y | (with_unfolding_all exact fun y => Sparse.wf_set _ _ _ _ y) | (with_unfolding_all exact fun _ => rfl)))

theorem State.setRouteEnt_kept {orig s : State} (h : Kept orig s) (i : Nat) (v : Reg64) : Kept orig (State.setRouteEnt s i v) := by
  unfold State.setRouteEnt
  repeat any_goals first
    | with_reducible assumption
    | intro s x h
    | fail_if_no_progress (with_reducible refine Kept.frame ?_ (by rfl) (by rfl) (by rfl) (by rfl) (by rfl) (by rfl) (by first | exact Nat.le_refl _ | exact Nat.le_add_right _ _ | with_unfolding_all exact Nat.le_add_right _ _) (by rfl) (by rfl) (by rfl) (by first | exact fun y => y | (with_unfolding_all exact fun y => Mem.wf_writeLE _ _ _ _ y) | (with_unfolding_all exact fun y => Mem.wf_writeByte _ _ _ y) | (with_unfolding_all exact fun y => Mem.wf_clearRange _ _ _ y) | (with_unfolding_all exact fun _ => rfl)) (by first | exact fun y => y | (with_unfolding_all exact fun y => Sparse.wf_set _ _ _ _ y) | (with_unfolding_all exact fun _ => rfl)))

theorem State.routeMiss_kept {orig s : State} (h : Kept orig s) (p : Packet) (ingress : Nat) : Kept orig (State.routeMiss s p ingress) := by
  unfold State.routeMiss
  repeat any_goals first
    | with_reducible assumption
    | intro s x h
    | (extract_lets +onlyGivenNames x; refine Kept.of (a := orig) (x := x) ?_ ?_; rotate_left; (intro hx; clear_value x); rotate_right; subst x)
    | (extract_lets +onlyGivenNames x; first | (have keep := (x : Hbm); clear keep) | (have keep := (x : Mgmt); clear keep) | (have keep := (x : Seal); clear keep) | (have keep := (x : HostIf); clear keep) | clear_value x)
    | with_reducible apply State.bump_kept
    | with_reducible apply State.logAt_kept
    | with_reducible refine State.logOnce_kept ?_ _ _ (fun s h => ?_)

theorem State.oweCredit_kept {orig s : State} (h : Kept orig s) (lk : Option Nat) (vc : Nat) (cls : Nat) (n : Nat) : Kept orig (State.oweCredit s lk vc cls n) := by
  unfold State.oweCredit
  repeat any_goals first
    | with_reducible assumption
    | intro s x h
    | with_reducible apply Kept.ite
    | with_reducible apply State.onLink_kept
    | fail_if_no_progress (with_reducible refine Kept.frame ?_ (by rfl) (by rfl) (by rfl) (by rfl) (by rfl) (by rfl) (by first | exact Nat.le_refl _ | exact Nat.le_add_right _ _ | with_unfolding_all exact Nat.le_add_right _ _) (by rfl) (by rfl) (by rfl) (by first | exact fun y => y | (with_unfolding_all exact fun y => Mem.wf_writeLE _ _ _ _ y) | (with_unfolding_all exact fun y => Mem.wf_writeByte _ _ _ y) | (with_unfolding_all exact fun y => Mem.wf_clearRange _ _ _ y) | (with_unfolding_all exact fun _ => rfl)) (by first | exact fun y => y | (with_unfolding_all exact fun y => Sparse.wf_set _ _ _ _ y) | (with_unfolding_all exact fun _ => rfl)))
    | split

theorem State.takeResponse_kept {orig s : State} (h : Kept orig s) (p : Packet) (link : Option Nat) : Kept orig (State.takeResponse s p link) := by
  unfold State.takeResponse
  repeat any_goals first
    | with_reducible assumption
    | intro s x h
    | (extract_lets +onlyGivenNames x; refine Kept.of (a := orig) (x := x) ?_ ?_; rotate_left; (intro hx; clear_value x); rotate_right; subst x)
    | (extract_lets +onlyGivenNames x; first | (have keep := (x : Hbm); clear keep) | (have keep := (x : Mgmt); clear keep) | (have keep := (x : Seal); clear keep) | (have keep := (x : HostIf); clear keep) | clear_value x)
    | with_reducible apply Kept.ite
    | with_reducible apply State.onBench_kept
    | with_reducible apply State.bump_kept
    | fail_if_no_progress (with_reducible refine Kept.frame ?_ (by rfl) (by rfl) (by rfl) (by rfl) (by rfl) (by rfl) (by first | exact Nat.le_refl _ | exact Nat.le_add_right _ _ | with_unfolding_all exact Nat.le_add_right _ _) (by rfl) (by rfl) (by rfl) (by first | exact fun y => y | (with_unfolding_all exact fun y => Mem.wf_writeLE _ _ _ _ y) | (with_unfolding_all exact fun y => Mem.wf_writeByte _ _ _ y) | (with_unfolding_all exact fun y => Mem.wf_clearRange _ _ _ y) | (with_unfolding_all exact fun _ => rfl)) (by first | exact fun y => y | (with_unfolding_all exact fun y => Sparse.wf_set _ _ _ _ y) | (with_unfolding_all exact fun _ => rfl)))
    | split

theorem State.deliver_kept {orig s : State} (h : Kept orig s) (p : Packet) (link : Option Nat) (cls : Nat) : Kept orig (State.deliver s p link cls) := by
  unfold State.deliver
  repeat any_goals first
    | with_reducible assumption
    | intro s x h
    | (extract_lets +onlyGivenNames x; refine Kept.of (a := orig) (x := x) ?_ ?_; rotate_left; (intro hx; clear_value x); rotate_right; subst x)
    | (extract_lets +onlyGivenNames x; refine Kept.of (a := orig) (x := x.1) ?_ ?_; rotate_left; (intro hx; clear_value x); rotate_right; subst x)
    | (extract_lets +onlyGivenNames x; first | (have keep := (x : Hbm); clear keep) | (have keep := (x : Mgmt); clear keep) | (have keep := (x : Seal); clear keep) | (have keep := (x : HostIf); clear keep) | clear_value x)
    | with_reducible apply Kept.ite
    | with_reducible apply State.oweCredit_kept
    | with_reducible apply State.takeResponse_kept
    | fail_if_no_progress (with_reducible refine Kept.frame ?_ (by rfl) (by rfl) (by rfl) (by rfl) (by rfl) (by rfl) (by first | exact Nat.le_refl _ | exact Nat.le_add_right _ _ | with_unfolding_all exact Nat.le_add_right _ _) (by rfl) (by rfl) (by rfl) (by first | exact fun y => y | (with_unfolding_all exact fun y => Mem.wf_writeLE _ _ _ _ y) | (with_unfolding_all exact fun y => Mem.wf_writeByte _ _ _ y) | (with_unfolding_all exact fun y => Mem.wf_clearRange _ _ _ y) | (with_unfolding_all exact fun _ => rfl)) (by first | exact fun y => y | (with_unfolding_all exact fun y => Sparse.wf_set _ _ _ _ y) | (with_unfolding_all exact fun _ => rfl)))
    | split

theorem State.enqueue_kept {orig s : State} (h : Kept orig s) (lk : Nat) (p : Packet) (cls : Nat) : Kept orig (State.enqueue s lk p cls) := by
  unfold State.enqueue
  repeat any_goals first
    | with_reducible assumption
    | intro s x h
    | with_reducible apply State.onLink_kept
    | fail_if_no_progress (with_reducible refine Kept.frame ?_ (by rfl) (by rfl) (by rfl) (by rfl) (by rfl) (by rfl) (by first | exact Nat.le_refl _ | exact Nat.le_add_right _ _ | with_unfolding_all exact Nat.le_add_right _ _) (by rfl) (by rfl) (by rfl) (by first | exact fun y => y | (with_unfolding_all exact fun y => Mem.wf_writeLE _ _ _ _ y) | (with_unfolding_all exact fun y => Mem.wf_writeByte _ _ _ y) | (with_unfolding_all exact fun y => Mem.wf_clearRange _ _ _ y) | (with_unfolding_all exact fun _ => rfl)) (by first | exact fun y => y | (with_unfolding_all exact fun y => Sparse.wf_set _ _ _ _ y) | (with_unfolding_all exact fun _ => rfl)))

theorem State.route_kept {orig s : State} (h : Kept orig s) (p : Packet) : Kept orig (State.route s p) := by
  unfold State.route
  repeat any_goals first
    | with_reducible assumption
    | intro s x h
    | with_reducible apply State.routeMiss_kept
    | with_reducible apply State.deliver_kept
    | with_reducible apply State.enqueue_kept
    | fail_if_no_progress (with_reducible refine Kept.frame ?_ (by rfl) (by rfl) (by rfl) (by rfl) (by rfl) (by rfl) (by first | exact Nat.le_refl _ | exact Nat.le_add_right _ _ | with_unfolding_all exact Nat.le_add_right _ _) (by rfl) (by rfl) (by rfl) (by first | exact fun y => y | (with_unfolding_all exact fun y => Mem.wf_writeLE _ _ _ _ y) | (with_unfolding_all exact fun y => Mem.wf_writeByte _ _ _ y) | (with_unfolding_all exact fun y => Mem.wf_clearRange _ _ _ y) | (with_unfolding_all exact fun _ => rfl)) (by first | exact fun y => y | (with_unfolding_all exact fun y => Sparse.wf_set _ _ _ _ y) | (with_unfolding_all exact fun _ => rfl)))
    | split

theorem State.inject_kept {orig s : State} (h : Kept orig s) (p : Packet) : Kept orig (State.inject s p) := by
  unfold State.inject
  repeat any_goals first
    | with_reducible assumption
    | intro s x h
    | with_reducible apply Kept.ite
    | with_reducible apply State.route_kept
    | fail_if_no_progress (with_reducible refine Kept.frame ?_ (by rfl) (by rfl) (by rfl) (by rfl) (by rfl) (by rfl) (by first | exact Nat.le_refl _ | exact Nat.le_add_right _ _ | with_unfolding_all exact Nat.le_add_right _ _) (by rfl) (by rfl) (by rfl) (by first | exact fun y => y | (with_unfolding_all exact fun y => Mem.wf_writeLE _ _ _ _ y) | (with_unfolding_all exact fun y => Mem.wf_writeByte _ _ _ y) | (with_unfolding_all exact fun y => Mem.wf_clearRange _ _ _ y) | (with_unfolding_all exact fun _ => rfl)) (by first | exact fun y => y | (with_unfolding_all exact fun y => Sparse.wf_set _ _ _ _ y) | (with_unfolding_all exact fun _ => rfl)))
    | split

theorem State.fenceBack_kept {orig s : State} (h : Kept orig s) (lk : Nat) (slot : Nat) : Kept orig (State.fenceBack s lk slot) := by
  unfold State.fenceBack
  repeat any_goals first
    | with_reducible assumption
    | intro s x h
    | (extract_lets +onlyGivenNames x; refine Kept.of (a := orig) (x := x) ?_ ?_; rotate_left; (intro hx; clear_value x); rotate_right; subst x)
    | (extract_lets +onlyGivenNames x; refine Kept.of (a := orig) (x := x.1) ?_ ?_; rotate_left; (intro hx; clear_value x); rotate_right; subst x)
    | (extract_lets +onlyGivenNames x; refine Kept.of (a := orig) (x := x.2) ?_ ?_; rotate_left; (intro hx; clear_value x); rotate_right; subst x)
    | (extract_lets +onlyGivenNames x; first | (have keep := (x : Hbm); clear keep) | (have keep := (x : Mgmt); clear keep) | (have keep := (x : Seal); clear keep) | (have keep := (x : HostIf); clear keep) | clear_value x)
    | with_reducible apply State.emit_kept

theorem State.staleDrop_kept {orig s : State} (h : Kept orig s) (p : Packet) (lk : Nat) : Kept orig (State.staleDrop s p lk) := by
  unfold State.staleDrop
  repeat any_goals first
    | with_reducible assumption
    | intro s x h
    | (extract_lets +onlyGivenNames x; refine Kept.of (a := orig) (x := x) ?_ ?_; rotate_left; (intro hx; clear_value x); rotate_right; subst x)
    | (extract_lets +onlyGivenNames x; refine Kept.of (a := orig) (x := x.1) ?_ ?_; rotate_left; (intro hx; clear_value x); rotate_right; subst x)
    | (extract_lets +onlyGivenNames x; refine Kept.of (a := orig) (x := x.2) ?_ ?_; rotate_left; (intro hx; clear_value x); rotate_right; subst x)
    | (extract_lets +onlyGivenNames x; first | (have keep := (x : Hbm); clear keep) | (have keep := (x : Mgmt); clear keep) | (have keep := (x : Seal); clear keep) | (have keep := (x : HostIf); clear keep) | clear_value x)
    | with_reducible apply State.bump_kept
    | with_reducible apply State.logAt_kept
    | with_reducible refine State.logOnce_kept ?_ _ _ (fun s h => ?_)
    | with_reducible apply State.fenceBack_kept

end Sys2Proof.Machine
end

