-- ==== Sys2Proof/Laws/KeptFabric.lean ====
section
/-! SUPPORT. What every operation keeps (Laws/Kept.lean): the Sluice, links, messages, Confluence and Weirs. One lemma per operation. -/

set_option linter.all false
set_option linter.unusedVariables false

namespace Sys2Proof.Machine

theorem planSluice_starts (c : Ctx) : Starts (planSluice c) := by
  unfold planSluice
  repeat any_goals first
    | with_reducible assumption
    | with_reducible exact Starts.pureOf _
    | with_reducible exact Starts.error _
    | with_reducible exact Starts.mustAll _
    | with_reducible exact Starts.of _
    | with_reducible refine Starts.ok (fun orig s h => ?_)
    | with_reducible refine Starts.bind (fun _ => ?_)
    | with_reducible refine Starts.ite ?_ ?_
    | (extract_lets +onlyGivenNames x; refine Kept.of (a := orig) (x := x) ?_ ?_; rotate_left; (intro hx; clear_value x); rotate_right; subst x)
    | (extract_lets +onlyGivenNames x; first | (have keep := (x : Hbm); clear keep) | (have keep := (x : Mgmt); clear keep) | (have keep := (x : Seal); clear keep) | (have keep := (x : HostIf); clear keep) | clear_value x)
    | with_reducible apply Kept.ite
    | with_reducible apply State.onBench_kept
    | with_reducible exact Starts.of _
    | fail_if_no_progress (with_reducible refine Kept.frame ?_ (by rfl) (by rfl) (by rfl) (by rfl) (by rfl) (by rfl) (by first | exact Nat.le_refl _ | exact Nat.le_add_right _ _ | with_unfolding_all exact Nat.le_add_right _ _) (by rfl) (by rfl) (by rfl) (by first | exact fun y => y | (with_unfolding_all exact fun y => Mem.wf_writeLE _ _ _ _ y) | (with_unfolding_all exact fun y => Mem.wf_writeByte _ _ _ y) | (with_unfolding_all exact fun y => Mem.wf_clearRange _ _ _ y) | (with_unfolding_all exact fun _ => rfl)) (by first | exact fun y => y | (with_unfolding_all exact fun y => Sparse.wf_set _ _ _ _ y) | (with_unfolding_all exact fun _ => rfl)))
    | split

theorem State.slAdvance_kept {orig s : State} (h : Kept orig s) (pb : Nat) (cmd : Nat) : Kept orig (State.slAdvance s pb cmd) := by
  unfold State.slAdvance
  repeat any_goals first
    | with_reducible assumption
    | intro s x h
    | (extract_lets +onlyGivenNames x; refine Kept.of (a := orig) (x := x) ?_ ?_; rotate_left; (intro hx; clear_value x); rotate_right; subst x)
    | (extract_lets +onlyGivenNames x; refine Kept.of (a := orig) (x := x.1) ?_ ?_; rotate_left; (intro hx; clear_value x); rotate_right; subst x)
    | (extract_lets +onlyGivenNames x; refine Kept.of (a := orig) (x := x.2) ?_ ?_; rotate_left; (intro hx; clear_value x); rotate_right; subst x)
    | (extract_lets +onlyGivenNames x; first | (have keep := (x : Hbm); clear keep) | (have keep := (x : Mgmt); clear keep) | (have keep := (x : Seal); clear keep) | (have keep := (x : HostIf); clear keep) | clear_value x)
    | with_reducible apply State.onBench_kept
    | fail_if_no_progress (with_reducible refine Kept.frame ?_ (by rfl) (by rfl) (by rfl) (by rfl) (by rfl) (by rfl) (by first | exact Nat.le_refl _ | exact Nat.le_add_right _ _ | with_unfolding_all exact Nat.le_add_right _ _) (by rfl) (by rfl) (by rfl) (by first | exact fun y => y | (with_unfolding_all exact fun y => Mem.wf_writeLE _ _ _ _ y) | (with_unfolding_all exact fun y => Mem.wf_writeByte _ _ _ y) | (with_unfolding_all exact fun y => Mem.wf_clearRange _ _ _ y) | (with_unfolding_all exact fun _ => rfl)) (by first | exact fun y => y | (with_unfolding_all exact fun y => Sparse.wf_set _ _ _ _ y) | (with_unfolding_all exact fun _ => rfl)))
    | split

theorem State.slHalt_kept {orig s : State} (h : Kept orig s) (pb : Nat) (cmd : Nat) : Kept orig (State.slHalt s pb cmd) := by
  unfold State.slHalt
  repeat any_goals first
    | with_reducible assumption
    | intro s x h
    | (extract_lets +onlyGivenNames x; refine Kept.of (a := orig) (x := x) ?_ ?_; rotate_left; (intro hx; clear_value x); rotate_right; subst x)
    | (extract_lets +onlyGivenNames x; refine Kept.of (a := orig) (x := x.1) ?_ ?_; rotate_left; (intro hx; clear_value x); rotate_right; subst x)
    | (extract_lets +onlyGivenNames x; refine Kept.of (a := orig) (x := x.2) ?_ ?_; rotate_left; (intro hx; clear_value x); rotate_right; subst x)
    | (extract_lets +onlyGivenNames x; first | (have keep := (x : Hbm); clear keep) | (have keep := (x : Mgmt); clear keep) | (have keep := (x : Seal); clear keep) | (have keep := (x : HostIf); clear keep) | clear_value x)
    | with_reducible apply State.setBench_kept
    | with_reducible apply State.wr_kept
    | with_reducible apply State.bump_kept
    | with_reducible apply State.logBench_kept
    | fail_if_no_progress (with_reducible refine Kept.frame ?_ (by rfl) (by rfl) (by rfl) (by rfl) (by rfl) (by rfl) (by first | exact Nat.le_refl _ | exact Nat.le_add_right _ _ | with_unfolding_all exact Nat.le_add_right _ _) (by rfl) (by rfl) (by rfl) (by first | exact fun y => y | (with_unfolding_all exact fun y => Mem.wf_writeLE _ _ _ _ y) | (with_unfolding_all exact fun y => Mem.wf_writeByte _ _ _ y) | (with_unfolding_all exact fun y => Mem.wf_clearRange _ _ _ y) | (with_unfolding_all exact fun _ => rfl)) (by first | exact fun y => y | (with_unfolding_all exact fun y => Sparse.wf_set _ _ _ _ y) | (with_unfolding_all exact fun _ => rfl)))
    | split

theorem State.slSettle_kept {orig s : State} (h : Kept orig s) (pb : Nat) : Kept orig (State.slSettle s pb) := by
  unfold State.slSettle
  repeat any_goals first
    | with_reducible assumption
    | intro s x h
    | (extract_lets +onlyGivenNames x; refine Kept.of (a := orig) (x := x) ?_ ?_; rotate_left; (intro hx; clear_value x); rotate_right; subst x)
    | (extract_lets +onlyGivenNames x; first | (have keep := (x : Hbm); clear keep) | (have keep := (x : Mgmt); clear keep) | (have keep := (x : Seal); clear keep) | (have keep := (x : HostIf); clear keep) | clear_value x)
    | with_reducible apply Kept.ite
    | with_reducible apply State.slHalt_kept
    | fail_if_no_progress (with_reducible refine Kept.frame ?_ (by rfl) (by rfl) (by rfl) (by rfl) (by rfl) (by rfl) (by first | exact Nat.le_refl _ | exact Nat.le_add_right _ _ | with_unfolding_all exact Nat.le_add_right _ _) (by rfl) (by rfl) (by rfl) (by first | exact fun y => y | (with_unfolding_all exact fun y => Mem.wf_writeLE _ _ _ _ y) | (with_unfolding_all exact fun y => Mem.wf_writeByte _ _ _ y) | (with_unfolding_all exact fun y => Mem.wf_clearRange _ _ _ y) | (with_unfolding_all exact fun _ => rfl)) (by first | exact fun y => y | (with_unfolding_all exact fun y => Sparse.wf_set _ _ _ _ y) | (with_unfolding_all exact fun _ => rfl)))
    | split

theorem State.slSend_kept {orig s : State} (h : Kept orig s) (pb : Nat) (j : SlJob) (e : Exec) : Kept orig (State.slSend s pb j e) := by
  unfold State.slSend
  repeat any_goals first
    | with_reducible assumption
    | intro s x h
    | (extract_lets +onlyGivenNames x; refine Kept.of (a := orig) (x := x) ?_ ?_; rotate_left; (intro hx; clear_value x); rotate_right; subst x)
    | (extract_lets +onlyGivenNames x; refine Kept.of (a := orig) (x := x.1) ?_ ?_; rotate_left; (intro hx; clear_value x); rotate_right; subst x)
    | (extract_lets +onlyGivenNames x; refine Kept.of (a := orig) (x := x.2) ?_ ?_; rotate_left; (intro hx; clear_value x); rotate_right; subst x)
    | (extract_lets +onlyGivenNames x; first | (have keep := (x : Hbm); clear keep) | (have keep := (x : Mgmt); clear keep) | (have keep := (x : Seal); clear keep) | (have keep := (x : HostIf); clear keep) | clear_value x)
    | with_reducible apply Kept.ite
    | with_reducible apply State.setBench_kept
    | with_reducible apply State.benchUncorrectable_kept
    | with_reducible apply State.inject_kept
    | with_reducible apply State.slAdvance_kept
    | with_reducible refine Kept.foldl ?_ (fun s x h => ?_)
    | fail_if_no_progress (with_reducible refine Kept.frame ?_ (by rfl) (by rfl) (by rfl) (by rfl) (by rfl) (by rfl) (by first | exact Nat.le_refl _ | exact Nat.le_add_right _ _ | with_unfolding_all exact Nat.le_add_right _ _) (by rfl) (by rfl) (by rfl) (by first | exact fun y => y | (with_unfolding_all exact fun y => Mem.wf_writeLE _ _ _ _ y) | (with_unfolding_all exact fun y => Mem.wf_writeByte _ _ _ y) | (with_unfolding_all exact fun y => Mem.wf_clearRange _ _ _ y) | (with_unfolding_all exact fun _ => rfl)) (by first | exact fun y => y | (with_unfolding_all exact fun y => Sparse.wf_set _ _ _ _ y) | (with_unfolding_all exact fun _ => rfl)))
    | split

theorem State.tagSend_kept {orig s : State} (h : Kept orig s) (pb : Nat) : Kept orig (State.tagSend s pb) := by
  unfold State.tagSend
  repeat any_goals first
    | with_reducible assumption
    | intro s x h
    | (extract_lets +onlyGivenNames x; refine Kept.of (a := orig) (x := x) ?_ ?_; rotate_left; (intro hx; clear_value x); rotate_right; subst x)
    | (extract_lets +onlyGivenNames x; first | (have keep := (x : Hbm); clear keep) | (have keep := (x : Mgmt); clear keep) | (have keep := (x : Seal); clear keep) | (have keep := (x : HostIf); clear keep) | clear_value x)
    | with_reducible apply Kept.ite
    | with_reducible apply State.setBench_kept
    | with_reducible apply State.slSettle_kept
    | with_reducible apply State.slSend_kept
    | fail_if_no_progress (with_reducible refine Kept.frame ?_ (by rfl) (by rfl) (by rfl) (by rfl) (by rfl) (by rfl) (by first | exact Nat.le_refl _ | exact Nat.le_add_right _ _ | with_unfolding_all exact Nat.le_add_right _ _) (by rfl) (by rfl) (by rfl) (by first | exact fun y => y | (with_unfolding_all exact fun y => Mem.wf_writeLE _ _ _ _ y) | (with_unfolding_all exact fun y => Mem.wf_writeByte _ _ _ y) | (with_unfolding_all exact fun y => Mem.wf_clearRange _ _ _ y) | (with_unfolding_all exact fun _ => rfl)) (by first | exact fun y => y | (with_unfolding_all exact fun y => Sparse.wf_set _ _ _ _ y) | (with_unfolding_all exact fun _ => rfl)))
    | split

theorem State.serveTag_kept {orig s : State} (h : Kept orig s) (pb : Nat) (id : Nat) (data : List (Nat × Bool)) : Kept orig (State.serveTag s pb id data) := by
  unfold State.serveTag
  repeat any_goals first
    | with_reducible assumption
    | intro s x h
    | with_reducible apply State.onBench_kept
    | fail_if_no_progress (with_reducible refine Kept.frame ?_ (by rfl) (by rfl) (by rfl) (by rfl) (by rfl) (by rfl) (by first | exact Nat.le_refl _ | exact Nat.le_add_right _ _ | with_unfolding_all exact Nat.le_add_right _ _) (by rfl) (by rfl) (by rfl) (by first | exact fun y => y | (with_unfolding_all exact fun y => Mem.wf_writeLE _ _ _ _ y) | (with_unfolding_all exact fun y => Mem.wf_writeByte _ _ _ y) | (with_unfolding_all exact fun y => Mem.wf_clearRange _ _ _ y) | (with_unfolding_all exact fun _ => rfl)) (by first | exact fun y => y | (with_unfolding_all exact fun y => Sparse.wf_set _ _ _ _ y) | (with_unfolding_all exact fun _ => rfl)))

theorem State.warnOnce_kept {orig s : State} (h : Kept orig s) (pb : Nat) (j : SlJob) (f : State → State)
    (k : ∀ s, Kept orig s → Kept orig (f s)) : Kept orig (s.warnOnce pb j f) := by
  unfold State.warnOnce
  exact Kept.ite h (k _ (State.onBench_kept h pb _))

theorem State.ownerFault_kept {orig s : State} (h : Kept orig s) (pb : Nat) (j : SlJob) (e : Exec) (a : Nat) (owner : Nat) : Kept orig (State.ownerFault s pb j e a owner) := by
  unfold State.ownerFault
  repeat any_goals first
    | with_reducible assumption
    | intro s x h
    | with_reducible apply State.bump_kept
    | with_reducible apply State.logBench_kept
    | with_reducible refine State.warnOnce_kept ?_ _ _ _ (fun s h => ?_)

theorem State.basinWait_kept {orig s : State} (h : Kept orig s) (l : Nat) (a : Nat) : Kept orig (State.basinWait s l a) := by
  unfold State.basinWait
  repeat any_goals first
    | with_reducible assumption
    | intro s x h
    | (extract_lets +onlyGivenNames x; refine Kept.of (a := orig) (x := x) ?_ ?_; rotate_left; (intro hx; clear_value x); rotate_right; subst x)
    | (extract_lets +onlyGivenNames x; first | (have keep := (x : Hbm); clear keep) | (have keep := (x : Mgmt); clear keep) | (have keep := (x : Seal); clear keep) | (have keep := (x : HostIf); clear keep) | clear_value x)
    | with_reducible apply State.bump_kept
    | with_reducible apply State.skip_kept

theorem State.basinAccess_kept {orig s : State} (h : Kept orig s) (pb : Nat) (id : Nat) (ecc : Ecc) : Kept orig (State.basinAccess s pb id ecc) := by
  unfold State.basinAccess
  repeat any_goals first
    | with_reducible assumption
    | intro s x h
    | (extract_lets +onlyGivenNames x; refine Kept.of (a := orig) (x := x) ?_ ?_; rotate_left; (intro hx; clear_value x); rotate_right; subst x)
    | (extract_lets +onlyGivenNames x; refine Kept.of (a := orig) (x := x.1) ?_ ?_; rotate_left; (intro hx; clear_value x); rotate_right; subst x)
    | (extract_lets +onlyGivenNames x; refine Kept.of (a := orig) (x := x.2) ?_ ?_; rotate_left; (intro hx; clear_value x); rotate_right; subst x)
    | (extract_lets +onlyGivenNames x; first | (have keep := (x : Hbm); clear keep) | (have keep := (x : Mgmt); clear keep) | (have keep := (x : Seal); clear keep) | (have keep := (x : HostIf); clear keep) | clear_value x)
    | with_reducible apply Kept.ite
    | with_reducible apply State.log_kept
    | with_reducible apply State.basinCorrected_kept
    | with_reducible apply State.basinUncorrectable_kept
    | with_reducible apply State.setBasin_kept
    | with_reducible apply State.serveTag_kept
    | with_reducible refine State.warnOnce_kept ?_ _ _ _ (fun s h => ?_)
    | with_reducible apply State.basinWait_kept
    | with_reducible refine Kept.foldl ?_ (fun s x h => ?_)
    | fail_if_no_progress (with_reducible refine Kept.frame ?_ (by rfl) (by rfl) (by rfl) (by rfl) (by rfl) (by rfl) (by first | exact Nat.le_refl _ | exact Nat.le_add_right _ _ | with_unfolding_all exact Nat.le_add_right _ _) (by rfl) (by rfl) (by rfl) (by first | exact fun y => y | (with_unfolding_all exact fun y => Mem.wf_writeLE _ _ _ _ y) | (with_unfolding_all exact fun y => Mem.wf_writeByte _ _ _ y) | (with_unfolding_all exact fun y => Mem.wf_clearRange _ _ _ y) | (with_unfolding_all exact fun _ => rfl)) (by first | exact fun y => y | (with_unfolding_all exact fun y => Sparse.wf_set _ _ _ _ y) | (with_unfolding_all exact fun _ => rfl)))
    | split

theorem State.countHbm_kept {orig s : State} (h : Kept orig s) (a : Nat) (n : Nat) (write : Bool) : Kept orig (State.countHbm s a n write) := by
  unfold State.countHbm
  repeat any_goals first
    | with_reducible assumption
    | intro s x h
    | with_reducible apply Kept.ite
    | with_reducible apply State.bump_kept
    | fail_if_no_progress (with_reducible refine Kept.frame ?_ (by rfl) (by rfl) (by rfl) (by rfl) (by rfl) (by rfl) (by first | exact Nat.le_refl _ | exact Nat.le_add_right _ _ | with_unfolding_all exact Nat.le_add_right _ _) (by rfl) (by rfl) (by rfl) (by first | exact fun y => y | (with_unfolding_all exact fun y => Mem.wf_writeLE _ _ _ _ y) | (with_unfolding_all exact fun y => Mem.wf_writeByte _ _ _ y) | (with_unfolding_all exact fun y => Mem.wf_clearRange _ _ _ y) | (with_unfolding_all exact fun _ => rfl)) (by first | exact fun y => y | (with_unfolding_all exact fun y => Sparse.wf_set _ _ _ _ y) | (with_unfolding_all exact fun _ => rfl)))
    | split

theorem State.hbmAccess_kept {orig s : State} (h : Kept orig s) (pb : Nat) (id : Nat) (ecc : Ecc) : Kept orig (State.hbmAccess s pb id ecc) := by
  unfold State.hbmAccess
  repeat any_goals first
    | with_reducible assumption
    | intro s x h
    | (extract_lets +onlyGivenNames x; refine Kept.of (a := orig) (x := x) ?_ ?_; rotate_left; (intro hx; clear_value x); rotate_right; subst x)
    | (extract_lets +onlyGivenNames x; refine Kept.of (a := orig) (x := x.1) ?_ ?_; rotate_left; (intro hx; clear_value x); rotate_right; subst x)
    | (extract_lets +onlyGivenNames x; refine Kept.of (a := orig) (x := x.2) ?_ ?_; rotate_left; (intro hx; clear_value x); rotate_right; subst x)
    | (extract_lets +onlyGivenNames x; first | (have keep := (x : Hbm); clear keep) | (have keep := (x : Mgmt); clear keep) | (have keep := (x : Seal); clear keep) | (have keep := (x : HostIf); clear keep) | clear_value x)
    | with_reducible apply Kept.ite
    | with_reducible apply State.hbmCorrected_kept
    | with_reducible apply State.hbmUncorrectable_kept
    | with_reducible apply State.setHbmWord_kept
    | with_reducible apply State.serveTag_kept
    | with_reducible apply State.ownerFault_kept
    | with_reducible apply State.countHbm_kept
    | with_reducible refine Kept.foldl ?_ (fun s x h => ?_)
    | fail_if_no_progress (with_reducible refine Kept.frame ?_ (by rfl) (by rfl) (by rfl) (by rfl) (by rfl) (by rfl) (by first | exact Nat.le_refl _ | exact Nat.le_add_right _ _ | with_unfolding_all exact Nat.le_add_right _ _) (by rfl) (by rfl) (by rfl) (by first | exact fun y => y | (with_unfolding_all exact fun y => Mem.wf_writeLE _ _ _ _ y) | (with_unfolding_all exact fun y => Mem.wf_writeByte _ _ _ y) | (with_unfolding_all exact fun y => Mem.wf_clearRange _ _ _ y) | (with_unfolding_all exact fun _ => rfl)) (by first | exact fun y => y | (with_unfolding_all exact fun y => Sparse.wf_set _ _ _ _ y) | (with_unfolding_all exact fun _ => rfl)))
    | split

theorem State.peerArrival_kept {orig s : State} (h : Kept orig s) (pb : Nat) (id : Nat) : Kept orig (State.peerArrival s pb id) := by
  unfold State.peerArrival
  repeat any_goals first
    | with_reducible assumption
    | intro s x h
    | (extract_lets +onlyGivenNames x; refine Kept.of (a := orig) (x := x) ?_ ?_; rotate_left; (intro hx; clear_value x); rotate_right; subst x)
    | (extract_lets +onlyGivenNames x; refine Kept.of (a := orig) (x := x.1) ?_ ?_; rotate_left; (intro hx; clear_value x); rotate_right; subst x)
    | (extract_lets +onlyGivenNames x; refine Kept.of (a := orig) (x := x.2) ?_ ?_; rotate_left; (intro hx; clear_value x); rotate_right; subst x)
    | (extract_lets +onlyGivenNames x; first | (have keep := (x : Hbm); clear keep) | (have keep := (x : Mgmt); clear keep) | (have keep := (x : Seal); clear keep) | (have keep := (x : HostIf); clear keep) | clear_value x)
    | with_reducible apply Kept.ite
    | with_reducible apply State.setBench_kept
    | with_reducible apply State.benchUncorrectable_kept
    | with_reducible apply State.serveTag_kept
    | with_reducible refine Kept.foldl ?_ (fun s x h => ?_)
    | fail_if_no_progress (with_reducible refine Kept.frame ?_ (by rfl) (by rfl) (by rfl) (by rfl) (by rfl) (by rfl) (by first | exact Nat.le_refl _ | exact Nat.le_add_right _ _ | with_unfolding_all exact Nat.le_add_right _ _) (by rfl) (by rfl) (by rfl) (by first | exact fun y => y | (with_unfolding_all exact fun y => Mem.wf_writeLE _ _ _ _ y) | (with_unfolding_all exact fun y => Mem.wf_writeByte _ _ _ y) | (with_unfolding_all exact fun y => Mem.wf_clearRange _ _ _ y) | (with_unfolding_all exact fun _ => rfl)) (by first | exact fun y => y | (with_unfolding_all exact fun y => Sparse.wf_set _ _ _ _ y) | (with_unfolding_all exact fun _ => rfl)))
    | split

theorem State.tagResponse_kept {orig s : State} (h : Kept orig s) (pb : Nat) (id : Nat) : Kept orig (State.tagResponse s pb id) := by
  unfold State.tagResponse
  repeat any_goals first
    | with_reducible assumption
    | intro s x h
    | (extract_lets +onlyGivenNames x; refine Kept.of (a := orig) (x := x) ?_ ?_; rotate_left; (intro hx; clear_value x); rotate_right; subst x)
    | (extract_lets +onlyGivenNames x; refine Kept.of (a := orig) (x := x.1) ?_ ?_; rotate_left; (intro hx; clear_value x); rotate_right; subst x)
    | (extract_lets +onlyGivenNames x; refine Kept.of (a := orig) (x := x.2) ?_ ?_; rotate_left; (intro hx; clear_value x); rotate_right; subst x)
    | (extract_lets +onlyGivenNames x; first | (have keep := (x : Hbm); clear keep) | (have keep := (x : Mgmt); clear keep) | (have keep := (x : Seal); clear keep) | (have keep := (x : HostIf); clear keep) | clear_value x)
    | with_reducible apply Kept.ite
    | with_reducible apply State.setBench_kept
    | with_reducible apply State.slSettle_kept
    | with_reducible apply State.ownerFault_kept
    | with_reducible refine Kept.foldl ?_ (fun s x h => ?_)
    | fail_if_no_progress (with_reducible refine Kept.frame ?_ (by rfl) (by rfl) (by rfl) (by rfl) (by rfl) (by rfl) (by first | exact Nat.le_refl _ | exact Nat.le_add_right _ _ | with_unfolding_all exact Nat.le_add_right _ _) (by rfl) (by rfl) (by rfl) (by first | exact fun y => y | (with_unfolding_all exact fun y => Mem.wf_writeLE _ _ _ _ y) | (with_unfolding_all exact fun y => Mem.wf_writeByte _ _ _ y) | (with_unfolding_all exact fun y => Mem.wf_clearRange _ _ _ y) | (with_unfolding_all exact fun _ => rfl)) (by first | exact fun y => y | (with_unfolding_all exact fun y => Sparse.wf_set _ _ _ _ y) | (with_unfolding_all exact fun _ => rfl)))
    | split

theorem State.slResume_kept {orig s : State} (h : Kept orig s) (pb : Nat) : Kept orig (State.slResume s pb) := by
  unfold State.slResume
  repeat any_goals first
    | with_reducible assumption
    | intro s x h
    | with_reducible apply State.onBench_kept
    | fail_if_no_progress (with_reducible refine Kept.frame ?_ (by rfl) (by rfl) (by rfl) (by rfl) (by rfl) (by rfl) (by first | exact Nat.le_refl _ | exact Nat.le_add_right _ _ | with_unfolding_all exact Nat.le_add_right _ _) (by rfl) (by rfl) (by rfl) (by first | exact fun y => y | (with_unfolding_all exact fun y => Mem.wf_writeLE _ _ _ _ y) | (with_unfolding_all exact fun y => Mem.wf_writeByte _ _ _ y) | (with_unfolding_all exact fun y => Mem.wf_clearRange _ _ _ y) | (with_unfolding_all exact fun _ => rfl)) (by first | exact fun y => y | (with_unfolding_all exact fun y => Sparse.wf_set _ _ _ _ y) | (with_unfolding_all exact fun _ => rfl)))

theorem State.sluiceReadyNow_kept {orig s : State} (h : Kept orig s) (pb : Nat) : Kept orig (State.sluiceReadyNow s pb) := by
  unfold State.sluiceReadyNow
  repeat any_goals first
    | with_reducible assumption
    | intro s x h
    | (extract_lets +onlyGivenNames x; refine Kept.of (a := orig) (x := x) ?_ ?_; rotate_left; (intro hx; clear_value x); rotate_right; subst x)
    | (extract_lets +onlyGivenNames x; first | (have keep := (x : Hbm); clear keep) | (have keep := (x : Mgmt); clear keep) | (have keep := (x : Seal); clear keep) | (have keep := (x : HostIf); clear keep) | clear_value x)
    | with_reducible apply Kept.ite
    | with_reducible apply State.postToken_kept
    | with_reducible apply State.slResume_kept
    | fail_if_no_progress (with_reducible refine Kept.frame ?_ (by rfl) (by rfl) (by rfl) (by rfl) (by rfl) (by rfl) (by first | exact Nat.le_refl _ | exact Nat.le_add_right _ _ | with_unfolding_all exact Nat.le_add_right _ _) (by rfl) (by rfl) (by rfl) (by first | exact fun y => y | (with_unfolding_all exact fun y => Mem.wf_writeLE _ _ _ _ y) | (with_unfolding_all exact fun y => Mem.wf_writeByte _ _ _ y) | (with_unfolding_all exact fun y => Mem.wf_clearRange _ _ _ y) | (with_unfolding_all exact fun _ => rfl)) (by first | exact fun y => y | (with_unfolding_all exact fun y => Sparse.wf_set _ _ _ _ y) | (with_unfolding_all exact fun _ => rfl)))
    | split

theorem State.setLinkState_kept {orig s : State} (h : Kept orig s) (lk : Nat) (st : Nat) : Kept orig (State.setLinkState s lk st) := by
  unfold State.setLinkState
  repeat any_goals first
    | with_reducible assumption
    | intro s x h
    | with_reducible apply State.wr_kept

theorem State.initCredits_kept {orig s : State} (h : Kept orig s) (lk : Nat) (alloc : List Nat) : Kept orig (State.initCredits s lk alloc) := by
  unfold State.initCredits
  repeat any_goals first
    | with_reducible assumption
    | intro s x h
    | (extract_lets +onlyGivenNames x; refine Kept.of (a := orig) (x := x) ?_ ?_; rotate_left; (intro hx; clear_value x); rotate_right; subst x)
    | (extract_lets +onlyGivenNames x; first | (have keep := (x : Hbm); clear keep) | (have keep := (x : Mgmt); clear keep) | (have keep := (x : Seal); clear keep) | (have keep := (x : HostIf); clear keep) | clear_value x)
    | with_reducible apply Kept.ite
    | with_reducible apply State.each_kept
    | with_reducible apply State.wr_kept
    | split

theorem State.dropPartials_kept {orig s : State} (h : Kept orig s) (lk : Nat) : Kept orig (State.dropPartials s lk) := by
  unfold State.dropPartials
  repeat any_goals first
    | with_reducible assumption
    | intro s x h
    | (extract_lets +onlyGivenNames x; refine Kept.of (a := orig) (x := x) ?_ ?_; rotate_left; (intro hx; clear_value x); rotate_right; subst x)
    | (extract_lets +onlyGivenNames x; first | (have keep := (x : Hbm); clear keep) | (have keep := (x : Mgmt); clear keep) | (have keep := (x : Seal); clear keep) | (have keep := (x : HostIf); clear keep) | clear_value x)
    | with_reducible apply State.onLink_kept
    | with_reducible apply State.bump_kept
    | with_reducible refine Kept.foldl ?_ (fun s x h => ?_)
    | fail_if_no_progress (with_reducible refine Kept.frame ?_ (by rfl) (by rfl) (by rfl) (by rfl) (by rfl) (by rfl) (by first | exact Nat.le_refl _ | exact Nat.le_add_right _ _ | with_unfolding_all exact Nat.le_add_right _ _) (by rfl) (by rfl) (by rfl) (by first | exact fun y => y | (with_unfolding_all exact fun y => Mem.wf_writeLE _ _ _ _ y) | (with_unfolding_all exact fun y => Mem.wf_writeByte _ _ _ y) | (with_unfolding_all exact fun y => Mem.wf_clearRange _ _ _ y) | (with_unfolding_all exact fun _ => rfl)) (by first | exact fun y => y | (with_unfolding_all exact fun y => Sparse.wf_set _ _ _ _ y) | (with_unfolding_all exact fun _ => rfl)))
    | split

theorem State.freeEgress_kept {orig s : State} (h : Kept orig s) (es : List EgPacket) : Kept orig (State.freeEgress s es) := by
  unfold State.freeEgress
  repeat any_goals first
    | with_reducible assumption
    | intro s x h
    | with_reducible apply State.oweCredit_kept
    | with_reducible refine Kept.foldl ?_ (fun s x h => ?_)

theorem State.loseLink_kept {orig s : State} (h : Kept orig s) (lk : Nat) : Kept orig (State.loseLink s lk) := by
  unfold State.loseLink
  repeat any_goals first
    | with_reducible assumption
    | intro s x h
    | (extract_lets +onlyGivenNames x; refine Kept.of (a := orig) (x := x) ?_ ?_; rotate_left; (intro hx; clear_value x); rotate_right; subst x)
    | (extract_lets +onlyGivenNames x; first | (have keep := (x : Hbm); clear keep) | (have keep := (x : Mgmt); clear keep) | (have keep := (x : Seal); clear keep) | (have keep := (x : HostIf); clear keep) | clear_value x)
    | with_reducible apply State.onLink_kept
    | with_reducible apply State.dropPartials_kept
    | with_reducible apply State.freeEgress_kept
    | fail_if_no_progress (with_reducible refine Kept.frame ?_ (by rfl) (by rfl) (by rfl) (by rfl) (by rfl) (by rfl) (by first | exact Nat.le_refl _ | exact Nat.le_add_right _ _ | with_unfolding_all exact Nat.le_add_right _ _) (by rfl) (by rfl) (by rfl) (by first | exact fun y => y | (with_unfolding_all exact fun y => Mem.wf_writeLE _ _ _ _ y) | (with_unfolding_all exact fun y => Mem.wf_writeByte _ _ _ y) | (with_unfolding_all exact fun y => Mem.wf_clearRange _ _ _ y) | (with_unfolding_all exact fun _ => rfl)) (by first | exact fun y => y | (with_unfolding_all exact fun y => Sparse.wf_set _ _ _ _ y) | (with_unfolding_all exact fun _ => rfl)))

theorem State.logDown_kept {orig s : State} (h : Kept orig s) (lk : Nat) (st : Nat) (reason : Nat) : Kept orig (State.logDown s lk st reason) := by
  unfold State.logDown
  repeat any_goals first
    | with_reducible assumption
    | intro s x h
    | with_reducible apply State.logAt_kept

theorem State.tsyncLost_kept {orig s : State} (h : Kept orig s) (lk : Nat) : Kept orig (State.tsyncLost s lk) := by
  unfold State.tsyncLost
  repeat any_goals first
    | with_reducible assumption
    | intro s x h
    | with_reducible apply Kept.ite
    | with_reducible apply State.wrB_kept
    | fail_if_no_progress (with_reducible refine Kept.frame ?_ (by rfl) (by rfl) (by rfl) (by rfl) (by rfl) (by rfl) (by first | exact Nat.le_refl _ | exact Nat.le_add_right _ _ | with_unfolding_all exact Nat.le_add_right _ _) (by rfl) (by rfl) (by rfl) (by first | exact fun y => y | (with_unfolding_all exact fun y => Mem.wf_writeLE _ _ _ _ y) | (with_unfolding_all exact fun y => Mem.wf_writeByte _ _ _ y) | (with_unfolding_all exact fun y => Mem.wf_clearRange _ _ _ y) | (with_unfolding_all exact fun _ => rfl)) (by first | exact fun y => y | (with_unfolding_all exact fun y => Sparse.wf_set _ _ _ _ y) | (with_unfolding_all exact fun _ => rfl)))
    | split

theorem State.leaveLink_kept {orig s : State} (h : Kept orig s) (lk : Nat) (st : Nat) (reason : Nat) (ordered : Bool) : Kept orig (State.leaveLink s lk st reason ordered) := by
  unfold State.leaveLink
  repeat any_goals first
    | with_reducible assumption
    | intro s x h
    | (extract_lets +onlyGivenNames x; refine Kept.of (a := orig) (x := x) ?_ ?_; rotate_left; (intro hx; clear_value x); rotate_right; subst x)
    | (extract_lets +onlyGivenNames x; first | (have keep := (x : Hbm); clear keep) | (have keep := (x : Mgmt); clear keep) | (have keep := (x : Seal); clear keep) | (have keep := (x : HostIf); clear keep) | clear_value x)
    | with_reducible apply Kept.ite
    | with_reducible apply State.wr_kept
    | with_reducible apply State.bump_kept
    | with_reducible apply State.setLinkState_kept
    | with_reducible apply State.loseLink_kept
    | with_reducible apply State.logDown_kept
    | with_reducible apply State.tsyncLost_kept
    | split

theorem State.linkEnableNow_kept {orig s : State} (h : Kept orig s) (lk : Nat) : Kept orig (State.linkEnableNow s lk) := by
  unfold State.linkEnableNow
  repeat any_goals first
    | with_reducible assumption
    | intro s x h
    | with_reducible apply Kept.ite
    | with_reducible apply State.setLinkState_kept
    | split

theorem State.linkDisableNow_kept {orig s : State} (h : Kept orig s) (lk : Nat) : Kept orig (State.linkDisableNow s lk) := by
  unfold State.linkDisableNow
  repeat any_goals first
    | with_reducible assumption
    | intro s x h
    | with_reducible apply Kept.ite
    | with_reducible apply State.leaveLink_kept
    | split

theorem State.linkRetrainNow_kept {orig s : State} (h : Kept orig s) (lk : Nat) : Kept orig (State.linkRetrainNow s lk) := by
  unfold State.linkRetrainNow
  repeat any_goals first
    | with_reducible assumption
    | intro s x h
    | with_reducible apply Kept.ite
    | with_reducible apply State.setLinkState_kept
    | with_reducible apply State.leaveLink_kept
    | split

theorem State.llResetNow_kept {orig s : State} (h : Kept orig s) (lk : Nat) : Kept orig (State.llResetNow s lk) := by
  unfold State.llResetNow
  repeat any_goals first
    | with_reducible assumption
    | intro s x h
    | (extract_lets +onlyGivenNames x; refine Kept.of (a := orig) (x := x) ?_ ?_; rotate_left; (intro hx; clear_value x); rotate_right; subst x)
    | (extract_lets +onlyGivenNames x; first | (have keep := (x : Hbm); clear keep) | (have keep := (x : Mgmt); clear keep) | (have keep := (x : Seal); clear keep) | (have keep := (x : HostIf); clear keep) | clear_value x)
    | with_reducible apply Kept.ite
    | with_reducible apply State.onLink_kept
    | with_reducible apply State.dropPartials_kept
    | with_reducible apply State.freeEgress_kept
    | fail_if_no_progress (with_reducible refine Kept.frame ?_ (by rfl) (by rfl) (by rfl) (by rfl) (by rfl) (by rfl) (by first | exact Nat.le_refl _ | exact Nat.le_add_right _ _ | with_unfolding_all exact Nat.le_add_right _ _) (by rfl) (by rfl) (by rfl) (by first | exact fun y => y | (with_unfolding_all exact fun y => Mem.wf_writeLE _ _ _ _ y) | (with_unfolding_all exact fun y => Mem.wf_writeByte _ _ _ y) | (with_unfolding_all exact fun y => Mem.wf_clearRange _ _ _ y) | (with_unfolding_all exact fun _ => rfl)) (by first | exact fun y => y | (with_unfolding_all exact fun y => Sparse.wf_set _ _ _ _ y) | (with_unfolding_all exact fun _ => rfl)))
    | split

theorem State.llResetEnd_kept {orig s : State} (h : Kept orig s) (lk : Nat) : Kept orig (State.llResetEnd s lk) := by
  unfold State.llResetEnd
  repeat any_goals first
    | with_reducible assumption
    | intro s x h
    | with_reducible apply Kept.ite
    | with_reducible apply State.onLink_kept
    | with_reducible apply State.initCredits_kept
    | fail_if_no_progress (with_reducible refine Kept.frame ?_ (by rfl) (by rfl) (by rfl) (by rfl) (by rfl) (by rfl) (by first | exact Nat.le_refl _ | exact Nat.le_add_right _ _ | with_unfolding_all exact Nat.le_add_right _ _) (by rfl) (by rfl) (by rfl) (by first | exact fun y => y | (with_unfolding_all exact fun y => Mem.wf_writeLE _ _ _ _ y) | (with_unfolding_all exact fun y => Mem.wf_writeByte _ _ _ y) | (with_unfolding_all exact fun y => Mem.wf_clearRange _ _ _ y) | (with_unfolding_all exact fun _ => rfl)) (by first | exact fun y => y | (with_unfolding_all exact fun y => Sparse.wf_set _ _ _ _ y) | (with_unfolding_all exact fun _ => rfl)))
    | split

theorem State.detectRetry_kept {orig s : State} (h : Kept orig s) (lk : Nat) : Kept orig (State.detectRetry s lk) := by
  unfold State.detectRetry
  repeat any_goals first
    | with_reducible assumption
    | intro s x h
    | with_reducible apply Kept.ite
    | with_reducible apply State.bump_kept
    | split

theorem State.partnerSeen_kept {orig s : State} (h : Kept orig s) (lk : Nat) (lanes : Nat) : Kept orig (State.partnerSeen s lk lanes) := by
  unfold State.partnerSeen
  repeat any_goals first
    | with_reducible assumption
    | intro s x h
    | (extract_lets +onlyGivenNames x; refine Kept.of (a := orig) (x := x) ?_ ?_; rotate_left; (intro hx; clear_value x); rotate_right; subst x)
    | (extract_lets +onlyGivenNames x; first | (have keep := (x : Hbm); clear keep) | (have keep := (x : Mgmt); clear keep) | (have keep := (x : Seal); clear keep) | (have keep := (x : HostIf); clear keep) | clear_value x)
    | with_reducible apply Kept.ite
    | with_reducible apply State.setReg_kept
    | with_reducible apply State.onLink_kept
    | with_reducible apply State.setLinkState_kept
    | fail_if_no_progress (with_reducible refine Kept.frame ?_ (by rfl) (by rfl) (by rfl) (by rfl) (by rfl) (by rfl) (by first | exact Nat.le_refl _ | exact Nat.le_add_right _ _ | with_unfolding_all exact Nat.le_add_right _ _) (by rfl) (by rfl) (by rfl) (by first | exact fun y => y | (with_unfolding_all exact fun y => Mem.wf_writeLE _ _ _ _ y) | (with_unfolding_all exact fun y => Mem.wf_writeByte _ _ _ y) | (with_unfolding_all exact fun y => Mem.wf_clearRange _ _ _ y) | (with_unfolding_all exact fun _ => rfl)) (by first | exact fun y => y | (with_unfolding_all exact fun y => Sparse.wf_set _ _ _ _ y) | (with_unfolding_all exact fun _ => rfl)))
    | split

theorem State.equaliseDone_kept {orig s : State} (h : Kept orig s) (lk : Nat) : Kept orig (State.equaliseDone s lk) := by
  unfold State.equaliseDone
  repeat any_goals first
    | with_reducible assumption
    | intro s x h
    | with_reducible apply Kept.ite
    | with_reducible apply State.setLinkState_kept
    | split

theorem State.measureDone_kept {orig s : State} (h : Kept orig s) (lk : Nat) (rtt : Nat) (losses : List Nat) : Kept orig (State.measureDone s lk rtt losses) := by
  unfold State.measureDone
  repeat any_goals first
    | with_reducible assumption
    | intro s x h
    | (extract_lets +onlyGivenNames x; refine Kept.of (a := orig) (x := x) ?_ ?_; rotate_left; (intro hx; clear_value x); rotate_right; subst x)
    | (extract_lets +onlyGivenNames x; first | (have keep := (x : Hbm); clear keep) | (have keep := (x : Mgmt); clear keep) | (have keep := (x : Seal); clear keep) | (have keep := (x : HostIf); clear keep) | clear_value x)
    | with_reducible apply Kept.ite
    | with_reducible apply State.each_kept
    | with_reducible apply State.wr_kept
    | with_reducible apply State.setLinkState_kept
    | with_reducible refine Kept.foldl ?_ (fun s x h => ?_)
    | split

theorem State.showPartner_kept {orig s : State} (h : Kept orig s) (lk : Nat) (c : CapBlock) : Kept orig (State.showPartner s lk c) := by
  unfold State.showPartner
  repeat any_goals first
    | with_reducible assumption
    | intro s x h
    | (extract_lets +onlyGivenNames x; refine Kept.of (a := orig) (x := x) ?_ ?_; rotate_left; (intro hx; clear_value x); rotate_right; subst x)
    | (extract_lets +onlyGivenNames x; first | (have keep := (x : Hbm); clear keep) | (have keep := (x : Mgmt); clear keep) | (have keep := (x : Seal); clear keep) | (have keep := (x : HostIf); clear keep) | clear_value x)
    | with_reducible apply State.setReg_kept

theorem State.exchangeDone_kept {orig s : State} (h : Kept orig s) (lk : Nat) (c : CapBlock) : Kept orig (State.exchangeDone s lk c) := by
  unfold State.exchangeDone
  repeat any_goals first
    | with_reducible assumption
    | intro s x h
    | (extract_lets +onlyGivenNames x; refine Kept.of (a := orig) (x := x) ?_ ?_; rotate_left; (intro hx; clear_value x); rotate_right; subst x)
    | (extract_lets +onlyGivenNames x; refine Kept.of (a := orig) (x := x.2) ?_ ?_; rotate_left; (intro hx; clear_value x); rotate_right; subst x)
    | (extract_lets +onlyGivenNames x; first | (have keep := (x : Hbm); clear keep) | (have keep := (x : Mgmt); clear keep) | (have keep := (x : Seal); clear keep) | (have keep := (x : HostIf); clear keep) | clear_value x)
    | with_reducible apply Kept.ite
    | with_reducible apply State.onLink_kept
    | with_reducible apply State.wr_kept
    | with_reducible apply State.wrB_kept
    | with_reducible apply State.wrapInc_kept
    | with_reducible apply State.fenceBack_kept
    | with_reducible apply State.setLinkState_kept
    | with_reducible apply State.initCredits_kept
    | with_reducible apply State.showPartner_kept
    | fail_if_no_progress (with_reducible refine Kept.frame ?_ (by rfl) (by rfl) (by rfl) (by rfl) (by rfl) (by rfl) (by first | exact Nat.le_refl _ | exact Nat.le_add_right _ _ | with_unfolding_all exact Nat.le_add_right _ _) (by rfl) (by rfl) (by rfl) (by first | exact fun y => y | (with_unfolding_all exact fun y => Mem.wf_writeLE _ _ _ _ y) | (with_unfolding_all exact fun y => Mem.wf_writeByte _ _ _ y) | (with_unfolding_all exact fun y => Mem.wf_clearRange _ _ _ y) | (with_unfolding_all exact fun _ => rfl)) (by first | exact fun y => y | (with_unfolding_all exact fun y => Sparse.wf_set _ _ _ _ y) | (with_unfolding_all exact fun _ => rfl)))
    | split

theorem State.linkTimeout_kept {orig s : State} (h : Kept orig s) (lk : Nat) : Kept orig (State.linkTimeout s lk) := by
  unfold State.linkTimeout
  repeat any_goals first
    | with_reducible assumption
    | intro s x h
    | (extract_lets +onlyGivenNames x; refine Kept.of (a := orig) (x := x) ?_ ?_; rotate_left; (intro hx; clear_value x); rotate_right; subst x)
    | (extract_lets +onlyGivenNames x; first | (have keep := (x : Hbm); clear keep) | (have keep := (x : Mgmt); clear keep) | (have keep := (x : Seal); clear keep) | (have keep := (x : HostIf); clear keep) | clear_value x)
    | with_reducible apply Kept.ite
    | with_reducible apply State.leaveLink_kept
    | split

theorem State.retrainDone_kept {orig s : State} (h : Kept orig s) (lk : Nat) : Kept orig (State.retrainDone s lk) := by
  unfold State.retrainDone
  repeat any_goals first
    | with_reducible assumption
    | intro s x h
    | (extract_lets +onlyGivenNames x; refine Kept.of (a := orig) (x := x) ?_ ?_; rotate_left; (intro hx; clear_value x); rotate_right; subst x)
    | (extract_lets +onlyGivenNames x; first | (have keep := (x : Hbm); clear keep) | (have keep := (x : Mgmt); clear keep) | (have keep := (x : Seal); clear keep) | (have keep := (x : HostIf); clear keep) | clear_value x)
    | with_reducible apply Kept.ite
    | with_reducible apply State.onLink_kept
    | with_reducible apply State.wr_kept
    | with_reducible apply State.wrapInc_kept
    | with_reducible apply State.logAt_kept
    | with_reducible apply State.setLinkState_kept
    | fail_if_no_progress (with_reducible refine Kept.frame ?_ (by rfl) (by rfl) (by rfl) (by rfl) (by rfl) (by rfl) (by first | exact Nat.le_refl _ | exact Nat.le_add_right _ _ | with_unfolding_all exact Nat.le_add_right _ _) (by rfl) (by rfl) (by rfl) (by first | exact fun y => y | (with_unfolding_all exact fun y => Mem.wf_writeLE _ _ _ _ y) | (with_unfolding_all exact fun y => Mem.wf_writeByte _ _ _ y) | (with_unfolding_all exact fun y => Mem.wf_clearRange _ _ _ y) | (with_unfolding_all exact fun _ => rfl)) (by first | exact fun y => y | (with_unfolding_all exact fun y => Sparse.wf_set _ _ _ _ y) | (with_unfolding_all exact fun _ => rfl)))
    | split

theorem State.laneFails_kept {orig s : State} (h : Kept orig s) (lk : Nat) (lane : Nat) : Kept orig (State.laneFails s lk lane) := by
  unfold State.laneFails
  repeat any_goals first
    | with_reducible assumption
    | intro s x h
    | with_reducible apply Kept.ite
    | with_reducible apply State.onLink_kept
    | with_reducible apply State.setLinkState_kept
    | with_reducible apply State.leaveLink_kept
    | fail_if_no_progress (with_reducible refine Kept.frame ?_ (by rfl) (by rfl) (by rfl) (by rfl) (by rfl) (by rfl) (by first | exact Nat.le_refl _ | exact Nat.le_add_right _ _ | with_unfolding_all exact Nat.le_add_right _ _) (by rfl) (by rfl) (by rfl) (by first | exact fun y => y | (with_unfolding_all exact fun y => Mem.wf_writeLE _ _ _ _ y) | (with_unfolding_all exact fun y => Mem.wf_writeByte _ _ _ y) | (with_unfolding_all exact fun y => Mem.wf_clearRange _ _ _ y) | (with_unfolding_all exact fun _ => rfl)) (by first | exact fun y => y | (with_unfolding_all exact fun y => Sparse.wf_set _ _ _ _ y) | (with_unfolding_all exact fun _ => rfl)))
    | split

theorem State.putFlit_kept {orig s : State} (h : Kept orig s) (lk : Nat) (f : Flit) (null : Bool) (seq : Nat) : Kept orig (State.putFlit s lk f null seq) := by
  unfold State.putFlit
  repeat any_goals first
    | with_reducible assumption
    | intro s x h
    | (extract_lets +onlyGivenNames x; refine Kept.of (a := orig) (x := x) ?_ ?_; rotate_left; (intro hx; clear_value x); rotate_right; subst x)
    | (extract_lets +onlyGivenNames x; first | (have keep := (x : Hbm); clear keep) | (have keep := (x : Mgmt); clear keep) | (have keep := (x : Seal); clear keep) | (have keep := (x : HostIf); clear keep) | clear_value x)
    | with_reducible apply State.onLink_kept
    | with_reducible apply State.emit_kept
    | fail_if_no_progress (with_reducible refine Kept.frame ?_ (by rfl) (by rfl) (by rfl) (by rfl) (by rfl) (by rfl) (by first | exact Nat.le_refl _ | exact Nat.le_add_right _ _ | with_unfolding_all exact Nat.le_add_right _ _) (by rfl) (by rfl) (by rfl) (by first | exact fun y => y | (with_unfolding_all exact fun y => Mem.wf_writeLE _ _ _ _ y) | (with_unfolding_all exact fun y => Mem.wf_writeByte _ _ _ y) | (with_unfolding_all exact fun y => Mem.wf_clearRange _ _ _ y) | (with_unfolding_all exact fun _ => rfl)) (by first | exact fun y => y | (with_unfolding_all exact fun y => Sparse.wf_set _ _ _ _ y) | (with_unfolding_all exact fun _ => rfl)))

theorem State.countReplay_kept {orig s : State} (h : Kept orig s) (lk : Nat) : Kept orig (State.countReplay s lk) := by
  unfold State.countReplay
  repeat any_goals first
    | with_reducible assumption
    | intro s x h
    | (extract_lets +onlyGivenNames x; refine Kept.of (a := orig) (x := x) ?_ ?_; rotate_left; (intro hx; clear_value x); rotate_right; subst x)
    | (extract_lets +onlyGivenNames x; first | (have keep := (x : Hbm); clear keep) | (have keep := (x : Mgmt); clear keep) | (have keep := (x : Seal); clear keep) | (have keep := (x : HostIf); clear keep) | clear_value x)
    | with_reducible apply Kept.ite
    | with_reducible apply State.onLink_kept
    | with_reducible apply State.bump_kept
    | with_reducible apply State.logAt_kept
    | fail_if_no_progress (with_reducible refine Kept.frame ?_ (by rfl) (by rfl) (by rfl) (by rfl) (by rfl) (by rfl) (by first | exact Nat.le_refl _ | exact Nat.le_add_right _ _ | with_unfolding_all exact Nat.le_add_right _ _) (by rfl) (by rfl) (by rfl) (by first | exact fun y => y | (with_unfolding_all exact fun y => Mem.wf_writeLE _ _ _ _ y) | (with_unfolding_all exact fun y => Mem.wf_writeByte _ _ _ y) | (with_unfolding_all exact fun y => Mem.wf_clearRange _ _ _ y) | (with_unfolding_all exact fun _ => rfl)) (by first | exact fun y => y | (with_unfolding_all exact fun y => Sparse.wf_set _ _ _ _ y) | (with_unfolding_all exact fun _ => rfl)))
    | split

theorem State.flitSlot_kept {orig s : State} (h : Kept orig s) (lk : Nat) : Kept orig (State.flitSlot s lk) := by
  unfold State.flitSlot
  repeat any_goals first
    | with_reducible assumption
    | intro s x h
    | (extract_lets +onlyGivenNames x; refine Kept.of (a := orig) (x := x) ?_ ?_; rotate_left; (intro hx; clear_value x); rotate_right; subst x)
    | (extract_lets +onlyGivenNames x; refine Kept.of (a := orig) (x := x.1) ?_ ?_; rotate_left; (intro hx; clear_value x); rotate_right; subst x)
    | (extract_lets +onlyGivenNames x; refine Kept.of (a := orig) (x := x.2) ?_ ?_; rotate_left; (intro hx; clear_value x); rotate_right; subst x)
    | (extract_lets +onlyGivenNames x; first | (have keep := (x : Hbm); clear keep) | (have keep := (x : Mgmt); clear keep) | (have keep := (x : Seal); clear keep) | (have keep := (x : HostIf); clear keep) | clear_value x)
    | with_reducible apply Kept.ite
    | with_reducible apply State.onLink_kept
    | with_reducible apply State.wr_kept
    | with_reducible apply State.oweCredit_kept
    | with_reducible apply State.putFlit_kept
    | with_reducible apply State.countReplay_kept
    | fail_if_no_progress (with_reducible refine Kept.frame ?_ (by rfl) (by rfl) (by rfl) (by rfl) (by rfl) (by rfl) (by first | exact Nat.le_refl _ | exact Nat.le_add_right _ _ | with_unfolding_all exact Nat.le_add_right _ _) (by rfl) (by rfl) (by rfl) (by first | exact fun y => y | (with_unfolding_all exact fun y => Mem.wf_writeLE _ _ _ _ y) | (with_unfolding_all exact fun y => Mem.wf_writeByte _ _ _ y) | (with_unfolding_all exact fun y => Mem.wf_clearRange _ _ _ y) | (with_unfolding_all exact fun _ => rfl)) (by first | exact fun y => y | (with_unfolding_all exact fun y => Sparse.wf_set _ _ _ _ y) | (with_unfolding_all exact fun _ => rfl)))
    | split

theorem State.applyControl_kept {orig s : State} (h : Kept orig s) (lk : Nat) (f : Flit) (c : FlitCtl) : Kept orig (State.applyControl s lk f c) := by
  unfold State.applyControl
  repeat any_goals first
    | with_reducible assumption
    | intro s x h
    | (extract_lets +onlyGivenNames x; refine Kept.of (a := orig) (x := x) ?_ ?_; rotate_left; (intro hx; clear_value x); rotate_right; subst x)
    | (extract_lets +onlyGivenNames x; refine Kept.of (a := orig) (x := x.1) ?_ ?_; rotate_left; (intro hx; clear_value x); rotate_right; subst x)
    | (extract_lets +onlyGivenNames x; first | (have keep := (x : Hbm); clear keep) | (have keep := (x : Mgmt); clear keep) | (have keep := (x : Seal); clear keep) | (have keep := (x : HostIf); clear keep) | clear_value x)
    | with_reducible apply Kept.ite
    | with_reducible apply State.onLink_kept
    | with_reducible apply State.wr_kept
    | with_reducible apply State.setLinkState_kept
    | fail_if_no_progress (with_reducible refine Kept.frame ?_ (by rfl) (by rfl) (by rfl) (by rfl) (by rfl) (by rfl) (by first | exact Nat.le_refl _ | exact Nat.le_add_right _ _ | with_unfolding_all exact Nat.le_add_right _ _) (by rfl) (by rfl) (by rfl) (by first | exact fun y => y | (with_unfolding_all exact fun y => Mem.wf_writeLE _ _ _ _ y) | (with_unfolding_all exact fun y => Mem.wf_writeByte _ _ _ y) | (with_unfolding_all exact fun y => Mem.wf_clearRange _ _ _ y) | (with_unfolding_all exact fun _ => rfl)) (by first | exact fun y => y | (with_unfolding_all exact fun y => Sparse.wf_set _ _ _ _ y) | (with_unfolding_all exact fun _ => rfl)))
    | split

theorem State.admitFlit_kept {orig s : State} (h : Kept orig s) (lk : Nat) (f : Flit) : KeptV Prod.fst orig (State.admitFlit s lk f) := by
  unfold State.admitFlit
  repeat any_goals first
    | with_reducible assumption
    | intro s x h
    | (extract_lets +onlyGivenNames x; refine Kept.of (a := orig) (x := x) ?_ ?_; rotate_left; (intro hx; clear_value x); rotate_right; subst x)
    | (extract_lets +onlyGivenNames x; first | (have keep := (x : Hbm); clear keep) | (have keep := (x : Mgmt); clear keep) | (have keep := (x : Seal); clear keep) | (have keep := (x : HostIf); clear keep) | clear_value x)
    | with_reducible apply Kept.ite
    | with_reducible refine KeptV.ite ?_ ?_
    | with_reducible refine KeptV.fst ?_
    | with_reducible refine KeptV.snd ?_
    | with_reducible refine KeptV.reply ?_
    | with_reducible refine KeptV.got ?_
    | with_reducible apply State.onLink_kept
    | with_reducible apply State.bump_kept
    | with_reducible apply State.routeMiss_kept
    | with_reducible apply State.deliver_kept
    | with_reducible apply State.staleDrop_kept
    | fail_if_no_progress (with_reducible refine Kept.frame ?_ (by rfl) (by rfl) (by rfl) (by rfl) (by rfl) (by rfl) (by first | exact Nat.le_refl _ | exact Nat.le_add_right _ _ | with_unfolding_all exact Nat.le_add_right _ _) (by rfl) (by rfl) (by rfl) (by first | exact fun y => y | (with_unfolding_all exact fun y => Mem.wf_writeLE _ _ _ _ y) | (with_unfolding_all exact fun y => Mem.wf_writeByte _ _ _ y) | (with_unfolding_all exact fun y => Mem.wf_clearRange _ _ _ y) | (with_unfolding_all exact fun _ => rfl)) (by first | exact fun y => y | (with_unfolding_all exact fun y => Sparse.wf_set _ _ _ _ y) | (with_unfolding_all exact fun _ => rfl)))
    | split

theorem State.admitFlit_kept1 {orig s : State} (h : Kept orig s) (lk : Nat) (f : Flit) : Kept orig (State.admitFlit s lk f).1 := State.admitFlit_kept h lk f

theorem State.takeFlit_kept {orig s : State} (h : Kept orig s) (lk : Nat) (f : Flit) : Kept orig (s.takeFlit lk f) := by
  unfold State.takeFlit
  extract_lets old others start
  have hs : KeptO Prod.fst orig start := by
    subst start
    split
    · exact KeptO.some (State.admitFlit_kept1 h lk f)
    · intro x hx
      obtain ⟨r, -, rfl⟩ := Option.map_eq_some_iff.mp hx
      exact h
  clear_value start
  split
  · exact State.oweCredit_kept h ..
  · rename_i t r
    have ht : Kept orig t := hs _ rfl
    clear hs
    repeat any_goals first
      | with_reducible assumption
      | (extract_lets +onlyGivenNames x; refine Kept.of (a := orig) (x := x) ?_ ?_; rotate_left; (intro hx; clear_value x); rotate_right; subst x)
      | (extract_lets +onlyGivenNames x; clear_value x)
      | with_reducible apply Kept.ite
      | with_reducible apply State.onLink_kept
      | with_reducible apply State.oweCredit_kept
      | with_reducible apply State.deliver_kept
      | with_reducible apply State.bump_kept
      | split

theorem State.flitIn_kept {orig s : State} (h : Kept orig s) (lk : Nat) (bytes : List Nat) (uncorrectable : Bool) (corrected : Nat) : Kept orig (State.flitIn s lk bytes uncorrectable corrected) := by
  unfold State.flitIn
  repeat any_goals first
    | with_reducible assumption
    | intro s x h
    | (extract_lets +onlyGivenNames x; refine Kept.of (a := orig) (x := x) ?_ ?_; rotate_left; (intro hx; clear_value x); rotate_right; subst x)
    | (extract_lets +onlyGivenNames x; first | (have keep := (x : Hbm); clear keep) | (have keep := (x : Mgmt); clear keep) | (have keep := (x : Seal); clear keep) | (have keep := (x : HostIf); clear keep) | clear_value x)
    | with_reducible apply Kept.ite
    | with_reducible apply State.onLink_kept
    | with_reducible apply State.bump_kept
    | with_reducible apply State.applyControl_kept
    | with_reducible apply State.takeFlit_kept
    | fail_if_no_progress (with_reducible refine Kept.frame ?_ (by rfl) (by rfl) (by rfl) (by rfl) (by rfl) (by rfl) (by first | exact Nat.le_refl _ | exact Nat.le_add_right _ _ | with_unfolding_all exact Nat.le_add_right _ _) (by rfl) (by rfl) (by rfl) (by first | exact fun y => y | (with_unfolding_all exact fun y => Mem.wf_writeLE _ _ _ _ y) | (with_unfolding_all exact fun y => Mem.wf_writeByte _ _ _ y) | (with_unfolding_all exact fun y => Mem.wf_clearRange _ _ _ y) | (with_unfolding_all exact fun _ => rfl)) (by first | exact fun y => y | (with_unfolding_all exact fun y => Sparse.wf_set _ _ _ _ y) | (with_unfolding_all exact fun _ => rfl)))
    | split

theorem State.modulePins_kept {orig s : State} (h : Kept orig s) (pins : Nat) : Kept orig (State.modulePins s pins) := by
  unfold State.modulePins
  repeat any_goals first
    | with_reducible assumption
    | intro s x h
    | with_reducible apply Kept.ite
    | with_reducible apply State.each_kept
    | with_reducible apply State.wrB_kept
    | split

theorem State.logBadData_kept {orig s : State} (h : Kept orig s) (pb : Nat) (addr : Nat) (len : Nat) (reader : Nat) : Kept orig (State.logBadData s pb addr len reader) := by
  unfold State.logBadData
  repeat any_goals first
    | with_reducible assumption
    | intro s x h
    | with_reducible apply State.benchUncorrectable_kept
    | with_reducible refine Kept.foldl ?_ (fun s x h => ?_)

theorem State.sendMessage_kept {orig s : State} (h : Kept orig s) (pb : Nat) (r : Nat) (handler : Nat) (len : Nat) (addr : Nat) (arg : Nat) : Kept orig (State.sendMessage s pb r handler len addr arg) := by
  unfold State.sendMessage
  repeat any_goals first
    | with_reducible assumption
    | intro s x h
    | (extract_lets +onlyGivenNames x; refine Kept.of (a := orig) (x := x) ?_ ?_; rotate_left; (intro hx; clear_value x); rotate_right; subst x)
    | (extract_lets +onlyGivenNames x; first | (have keep := (x : Hbm); clear keep) | (have keep := (x : Mgmt); clear keep) | (have keep := (x : Seal); clear keep) | (have keep := (x : HostIf); clear keep) | clear_value x)
    | with_reducible apply State.wr_kept
    | with_reducible apply State.inject_kept
    | with_reducible apply State.logBadData_kept

theorem State.sendCredit_kept {orig s : State} (h : Kept orig s) (pb : Nat) (dev : Nat) (bench : Nat) (route : Nat) (dropped : Bool) : Kept orig (State.sendCredit s pb dev bench route dropped) := by
  unfold State.sendCredit
  repeat any_goals first
    | with_reducible assumption
    | intro s x h
    | with_reducible apply State.inject_kept

theorem State.messageArrives_kept {orig s : State} (h : Kept orig s) (n : Nat) : Kept orig (State.messageArrives s n) := by
  unfold State.messageArrives
  repeat any_goals first
    | with_reducible assumption
    | intro s x h
    | (extract_lets +onlyGivenNames x; refine Kept.of (a := orig) (x := x) ?_ ?_; rotate_left; (intro hx; clear_value x); rotate_right; subst x)
    | (extract_lets +onlyGivenNames x; first | (have keep := (x : Hbm); clear keep) | (have keep := (x : Mgmt); clear keep) | (have keep := (x : Seal); clear keep) | (have keep := (x : HostIf); clear keep) | clear_value x)
    | with_reducible apply Kept.ite
    | with_reducible apply State.onBench_kept
    | with_reducible apply State.wr_kept
    | with_reducible apply State.bump_kept
    | with_reducible apply State.oweCredit_kept
    | with_reducible apply State.sendCredit_kept
    | fail_if_no_progress (with_reducible refine Kept.frame ?_ (by rfl) (by rfl) (by rfl) (by rfl) (by rfl) (by rfl) (by first | exact Nat.le_refl _ | exact Nat.le_add_right _ _ | with_unfolding_all exact Nat.le_add_right _ _) (by rfl) (by rfl) (by rfl) (by first | exact fun y => y | (with_unfolding_all exact fun y => Mem.wf_writeLE _ _ _ _ y) | (with_unfolding_all exact fun y => Mem.wf_writeByte _ _ _ y) | (with_unfolding_all exact fun y => Mem.wf_clearRange _ _ _ y) | (with_unfolding_all exact fun _ => rfl)) (by first | exact fun y => y | (with_unfolding_all exact fun y => Sparse.wf_set _ _ _ _ y) | (with_unfolding_all exact fun _ => rfl)))
    | split

theorem State.creditArrives_kept {orig s : State} (h : Kept orig s) (n : Nat) : Kept orig (State.creditArrives s n) := by
  unfold State.creditArrives
  repeat any_goals first
    | with_reducible assumption
    | intro s x h
    | (extract_lets +onlyGivenNames x; refine Kept.of (a := orig) (x := x) ?_ ?_; rotate_left; (intro hx; clear_value x); rotate_right; subst x)
    | (extract_lets +onlyGivenNames x; first | (have keep := (x : Hbm); clear keep) | (have keep := (x : Mgmt); clear keep) | (have keep := (x : Seal); clear keep) | (have keep := (x : HostIf); clear keep) | clear_value x)
    | with_reducible apply Kept.ite
    | with_reducible apply State.wr_kept
    | with_reducible apply State.bump_kept
    | with_reducible apply State.route_kept
    | fail_if_no_progress (with_reducible refine Kept.frame ?_ (by rfl) (by rfl) (by rfl) (by rfl) (by rfl) (by rfl) (by first | exact Nat.le_refl _ | exact Nat.le_add_right _ _ | with_unfolding_all exact Nat.le_add_right _ _) (by rfl) (by rfl) (by rfl) (by first | exact fun y => y | (with_unfolding_all exact fun y => Mem.wf_writeLE _ _ _ _ y) | (with_unfolding_all exact fun y => Mem.wf_writeByte _ _ _ y) | (with_unfolding_all exact fun y => Mem.wf_clearRange _ _ _ y) | (with_unfolding_all exact fun _ => rfl)) (by first | exact fun y => y | (with_unfolding_all exact fun y => Sparse.wf_set _ _ _ _ y) | (with_unfolding_all exact fun _ => rfl)))
    | split

theorem State.ringRelease_kept {orig : State} {pb i : Nat} (n : Nat) :
    ∀ {s : State}, Kept orig s → Kept orig (s.ringRelease pb i n) := by
  induction n with
  | zero => intro s h; exact h
  | succ n ih => intro s h; exact ih (State.sendCredit_kept (State.wr_kept h _ _) ..)

theorem State.setCfl_kept {orig s : State} (h : Kept orig s) (i : Nat) (e : CflEnt) : Kept orig (State.setCfl s i e) := by
  unfold State.setCfl
  repeat any_goals first
    | with_reducible assumption
    | intro s x h
    | fail_if_no_progress (with_reducible refine Kept.frame ?_ (by rfl) (by rfl) (by rfl) (by rfl) (by rfl) (by rfl) (by first | exact Nat.le_refl _ | exact Nat.le_add_right _ _ | with_unfolding_all exact Nat.le_add_right _ _) (by rfl) (by rfl) (by rfl) (by first | exact fun y => y | (with_unfolding_all exact fun y => Mem.wf_writeLE _ _ _ _ y) | (with_unfolding_all exact fun y => Mem.wf_writeByte _ _ _ y) | (with_unfolding_all exact fun y => Mem.wf_clearRange _ _ _ y) | (with_unfolding_all exact fun _ => rfl)) (by first | exact fun y => y | (with_unfolding_all exact fun y => Sparse.wf_set _ _ _ _ y) | (with_unfolding_all exact fun _ => rfl)))

theorem State.onRun_kept {orig s : State} (h : Kept orig s) (i : Nat) (f : CollRun → CollRun) : Kept orig (State.onRun s i f) := by
  unfold State.onRun
  repeat any_goals first
    | with_reducible assumption
    | intro s x h
    | (extract_lets +onlyGivenNames x; refine Kept.of (a := orig) (x := x) ?_ ?_; rotate_left; (intro hx; clear_value x); rotate_right; subst x)
    | (extract_lets +onlyGivenNames x; first | (have keep := (x : Hbm); clear keep) | (have keep := (x : Mgmt); clear keep) | (have keep := (x : Seal); clear keep) | (have keep := (x : HostIf); clear keep) | clear_value x)
    | with_reducible apply State.setCfl_kept
    | fail_if_no_progress (with_reducible refine Kept.frame ?_ (by rfl) (by rfl) (by rfl) (by rfl) (by rfl) (by rfl) (by first | exact Nat.le_refl _ | exact Nat.le_add_right _ _ | with_unfolding_all exact Nat.le_add_right _ _) (by rfl) (by rfl) (by rfl) (by first | exact fun y => y | (with_unfolding_all exact fun y => Mem.wf_writeLE _ _ _ _ y) | (with_unfolding_all exact fun y => Mem.wf_writeByte _ _ _ y) | (with_unfolding_all exact fun y => Mem.wf_clearRange _ _ _ y) | (with_unfolding_all exact fun _ => rfl)) (by first | exact fun y => y | (with_unfolding_all exact fun y => Sparse.wf_set _ _ _ _ y) | (with_unfolding_all exact fun _ => rfl)))

theorem State.cflFault_kept {orig s : State} (h : Kept orig s) (i : Nat) (a : Nat) (write : Bool) : Kept orig (State.cflFault s i a write) := by
  unfold State.cflFault
  repeat any_goals first
    | with_reducible assumption
    | intro s x h
    | (extract_lets +onlyGivenNames x; refine Kept.of (a := orig) (x := x) ?_ ?_; rotate_left; (intro hx; clear_value x); rotate_right; subst x)
    | (extract_lets +onlyGivenNames x; first | (have keep := (x : Hbm); clear keep) | (have keep := (x : Mgmt); clear keep) | (have keep := (x : Seal); clear keep) | (have keep := (x : HostIf); clear keep) | clear_value x)
    | with_reducible apply Kept.ite
    | with_reducible apply State.logBench_kept
    | with_reducible apply State.onRun_kept
    | fail_if_no_progress (with_reducible refine Kept.frame ?_ (by rfl) (by rfl) (by rfl) (by rfl) (by rfl) (by rfl) (by first | exact Nat.le_refl _ | exact Nat.le_add_right _ _ | with_unfolding_all exact Nat.le_add_right _ _) (by rfl) (by rfl) (by rfl) (by first | exact fun y => y | (with_unfolding_all exact fun y => Mem.wf_writeLE _ _ _ _ y) | (with_unfolding_all exact fun y => Mem.wf_writeByte _ _ _ y) | (with_unfolding_all exact fun y => Mem.wf_clearRange _ _ _ y) | (with_unfolding_all exact fun _ => rfl)) (by first | exact fun y => y | (with_unfolding_all exact fun y => Sparse.wf_set _ _ _ _ y) | (with_unfolding_all exact fun _ => rfl)))
    | split

theorem State.cflWrite_kept {orig s : State} (h : Kept orig s) (t : Nat) (a : Nat) (l : List Byte) : Kept orig (State.cflWrite s t a l) := by
  unfold State.cflWrite
  repeat any_goals first
    | with_reducible assumption
    | intro s x h
    | (extract_lets +onlyGivenNames x; refine Kept.of (a := orig) (x := x) ?_ ?_; rotate_left; (intro hx; clear_value x); rotate_right; subst x)
    | (extract_lets +onlyGivenNames x; refine Kept.of (a := orig) (x := x.1) ?_ ?_; rotate_left; (intro hx; clear_value x); rotate_right; subst x)
    | (extract_lets +onlyGivenNames x; refine Kept.of (a := orig) (x := x.2) ?_ ?_; rotate_left; (intro hx; clear_value x); rotate_right; subst x)
    | (extract_lets +onlyGivenNames x; first | (have keep := (x : Hbm); clear keep) | (have keep := (x : Mgmt); clear keep) | (have keep := (x : Seal); clear keep) | (have keep := (x : HostIf); clear keep) | clear_value x)
    | with_reducible apply Kept.ite
    | with_reducible apply State.setHbmWord_kept
    | with_reducible apply State.setHbmByte_kept
    | with_reducible refine Kept.foldl ?_ (fun s x h => ?_)
    | split

theorem State.cflOut_kept {orig s : State} (h : Kept orig s) (i : Nat) (off : Nat) (l : List Byte) : Kept orig (State.cflOut s i off l) := by
  unfold State.cflOut
  repeat any_goals first
    | with_reducible assumption
    | intro s x h
    | (extract_lets +onlyGivenNames x; refine Kept.of (a := orig) (x := x) ?_ ?_; rotate_left; (intro hx; clear_value x); rotate_right; subst x)
    | (extract_lets +onlyGivenNames x; first | (have keep := (x : Hbm); clear keep) | (have keep := (x : Mgmt); clear keep) | (have keep := (x : Seal); clear keep) | (have keep := (x : HostIf); clear keep) | clear_value x)
    | with_reducible apply State.cflFault_kept
    | with_reducible apply State.cflWrite_kept
    | fail_if_no_progress (with_reducible refine Kept.frame ?_ (by rfl) (by rfl) (by rfl) (by rfl) (by rfl) (by rfl) (by first | exact Nat.le_refl _ | exact Nat.le_add_right _ _ | with_unfolding_all exact Nat.le_add_right _ _) (by rfl) (by rfl) (by rfl) (by first | exact fun y => y | (with_unfolding_all exact fun y => Mem.wf_writeLE _ _ _ _ y) | (with_unfolding_all exact fun y => Mem.wf_writeByte _ _ _ y) | (with_unfolding_all exact fun y => Mem.wf_clearRange _ _ _ y) | (with_unfolding_all exact fun _ => rfl)) (by first | exact fun y => y | (with_unfolding_all exact fun y => Sparse.wf_set _ _ _ _ y) | (with_unfolding_all exact fun _ => rfl)))
    | split

theorem State.cflSend_kept {orig s : State} (h : Kept orig s) (i : Nat) (dest : Nat) (rank : Nat) (up : Bool) (lag : Nat) (l : List Byte) : Kept orig (State.cflSend s i dest rank up lag l) := by
  unfold State.cflSend
  repeat any_goals first
    | with_reducible assumption
    | intro s x h
    | (extract_lets +onlyGivenNames x; refine Kept.of (a := orig) (x := x) ?_ ?_; rotate_left; (intro hx; clear_value x); rotate_right; subst x)
    | (extract_lets +onlyGivenNames x; refine Kept.of (a := orig) (x := x.1) ?_ ?_; rotate_left; (intro hx; clear_value x); rotate_right; subst x)
    | (extract_lets +onlyGivenNames x; refine Kept.of (a := orig) (x := x.2) ?_ ?_; rotate_left; (intro hx; clear_value x); rotate_right; subst x)
    | (extract_lets +onlyGivenNames x; first | (have keep := (x : Hbm); clear keep) | (have keep := (x : Mgmt); clear keep) | (have keep := (x : Seal); clear keep) | (have keep := (x : HostIf); clear keep) | clear_value x)
    | with_reducible apply Kept.ite
    | with_reducible apply State.emit_kept
    | with_reducible refine Kept.foldl ?_ (fun s x h => ?_)
    | split

theorem State.recordLag_kept {orig s : State} (h : Kept orig s) (lag : Nat) : Kept orig (State.recordLag s lag) := by
  unfold State.recordLag
  repeat any_goals first
    | with_reducible assumption
    | intro s x h
    | (extract_lets +onlyGivenNames x; refine Kept.of (a := orig) (x := x) ?_ ?_; rotate_left; (intro hx; clear_value x); rotate_right; subst x)
    | (extract_lets +onlyGivenNames x; first | (have keep := (x : Hbm); clear keep) | (have keep := (x : Mgmt); clear keep) | (have keep := (x : Seal); clear keep) | (have keep := (x : HostIf); clear keep) | clear_value x)
    | with_reducible apply State.wr_kept
    | with_reducible apply State.bump_kept
    | with_reducible apply State.extreme_kept

theorem State.cflResult_kept {orig s : State} (h : Kept orig s) (i : Nat) (l : List Byte) : Kept orig (State.cflResult s i l) := by
  unfold State.cflResult
  repeat any_goals first
    | with_reducible assumption
    | intro s x h
    | (extract_lets +onlyGivenNames x; refine Kept.of (a := orig) (x := x) ?_ ?_; rotate_left; (intro hx; clear_value x); rotate_right; subst x)
    | (extract_lets +onlyGivenNames x; first | (have keep := (x : Hbm); clear keep) | (have keep := (x : Mgmt); clear keep) | (have keep := (x : Seal); clear keep) | (have keep := (x : HostIf); clear keep) | clear_value x)
    | with_reducible apply State.onRun_kept
    | with_reducible apply State.cflOut_kept
    | with_reducible apply State.cflSend_kept
    | with_reducible refine Kept.foldl ?_ (fun s x h => ?_)
    | fail_if_no_progress (with_reducible refine Kept.frame ?_ (by rfl) (by rfl) (by rfl) (by rfl) (by rfl) (by rfl) (by first | exact Nat.le_refl _ | exact Nat.le_add_right _ _ | with_unfolding_all exact Nat.le_add_right _ _) (by rfl) (by rfl) (by rfl) (by first | exact fun y => y | (with_unfolding_all exact fun y => Mem.wf_writeLE _ _ _ _ y) | (with_unfolding_all exact fun y => Mem.wf_writeByte _ _ _ y) | (with_unfolding_all exact fun y => Mem.wf_clearRange _ _ _ y) | (with_unfolding_all exact fun _ => rfl)) (by first | exact fun y => y | (with_unfolding_all exact fun y => Sparse.wf_set _ _ _ _ y) | (with_unfolding_all exact fun _ => rfl)))
    | split

theorem State.cflAdvance_kept {orig s : State} (h : Kept orig s) (i : Nat) : Kept orig (State.cflAdvance s i) := by
  unfold State.cflAdvance
  repeat any_goals first
    | with_reducible assumption
    | intro s x h
    | (extract_lets +onlyGivenNames x; refine Kept.of (a := orig) (x := x) ?_ ?_; rotate_left; (intro hx; clear_value x); rotate_right; subst x)
    | (extract_lets +onlyGivenNames x; refine Kept.of (a := orig) (x := x.1) ?_ ?_; rotate_left; (intro hx; clear_value x); rotate_right; subst x)
    | (extract_lets +onlyGivenNames x; refine Kept.of (a := orig) (x := x.2) ?_ ?_; rotate_left; (intro hx; clear_value x); rotate_right; subst x)
    | (extract_lets +onlyGivenNames x; first | (have keep := (x : Hbm); clear keep) | (have keep := (x : Mgmt); clear keep) | (have keep := (x : Seal); clear keep) | (have keep := (x : HostIf); clear keep) | clear_value x)
    | with_reducible apply Kept.ite
    | with_reducible apply State.onRun_kept
    | with_reducible apply State.cflOut_kept
    | with_reducible apply State.cflSend_kept
    | with_reducible apply State.recordLag_kept
    | with_reducible apply State.cflResult_kept
    | with_reducible refine Kept.foldl ?_ (fun s x h => ?_)
    | fail_if_no_progress (with_reducible refine Kept.frame ?_ (by rfl) (by rfl) (by rfl) (by rfl) (by rfl) (by rfl) (by first | exact Nat.le_refl _ | exact Nat.le_add_right _ _ | with_unfolding_all exact Nat.le_add_right _ _) (by rfl) (by rfl) (by rfl) (by first | exact fun y => y | (with_unfolding_all exact fun y => Mem.wf_writeLE _ _ _ _ y) | (with_unfolding_all exact fun y => Mem.wf_writeByte _ _ _ y) | (with_unfolding_all exact fun y => Mem.wf_clearRange _ _ _ y) | (with_unfolding_all exact fun _ => rfl)) (by first | exact fun y => y | (with_unfolding_all exact fun y => Sparse.wf_set _ _ _ _ y) | (with_unfolding_all exact fun _ => rfl)))
    | split

theorem State.cflPacket_kept {orig s : State} (h : Kept orig s) (p : CollPacket) : Kept orig (State.cflPacket s p) := by
  unfold State.cflPacket
  repeat any_goals first
    | with_reducible assumption
    | intro s x h
    | (extract_lets +onlyGivenNames x; refine Kept.of (a := orig) (x := x) ?_ ?_; rotate_left; (intro hx; clear_value x); rotate_right; subst x)
    | (extract_lets +onlyGivenNames x; first | (have keep := (x : Hbm); clear keep) | (have keep := (x : Mgmt); clear keep) | (have keep := (x : Seal); clear keep) | (have keep := (x : HostIf); clear keep) | clear_value x)
    | with_reducible apply Kept.ite
    | with_reducible apply State.setCfl_kept
    | with_reducible apply State.onRun_kept
    | with_reducible apply State.recordLag_kept
    | with_reducible apply State.cflResult_kept
    | with_reducible apply State.cflAdvance_kept
    | fail_if_no_progress (with_reducible refine Kept.frame ?_ (by rfl) (by rfl) (by rfl) (by rfl) (by rfl) (by rfl) (by first | exact Nat.le_refl _ | exact Nat.le_add_right _ _ | with_unfolding_all exact Nat.le_add_right _ _) (by rfl) (by rfl) (by rfl) (by first | exact fun y => y | (with_unfolding_all exact fun y => Mem.wf_writeLE _ _ _ _ y) | (with_unfolding_all exact fun y => Mem.wf_writeByte _ _ _ y) | (with_unfolding_all exact fun y => Mem.wf_clearRange _ _ _ y) | (with_unfolding_all exact fun _ => rfl)) (by first | exact fun y => y | (with_unfolding_all exact fun y => Sparse.wf_set _ _ _ _ y) | (with_unfolding_all exact fun _ => rfl)))
    | split

theorem State.cflStart_kept {orig s : State} (h : Kept orig s) (i : Nat) : Kept orig (State.cflStart s i) := by
  unfold State.cflStart
  repeat any_goals first
    | with_reducible assumption
    | intro s x h
    | (extract_lets +onlyGivenNames x; refine Kept.of (a := orig) (x := x) ?_ ?_; rotate_left; (intro hx; clear_value x); rotate_right; subst x)
    | (extract_lets +onlyGivenNames x; first | (have keep := (x : Hbm); clear keep) | (have keep := (x : Mgmt); clear keep) | (have keep := (x : Seal); clear keep) | (have keep := (x : HostIf); clear keep) | clear_value x)
    | with_reducible apply Kept.ite
    | with_reducible apply State.setCfl_kept
    | with_reducible apply State.cflFault_kept
    | with_reducible apply State.cflSend_kept
    | with_reducible apply State.cflAdvance_kept
    | with_reducible apply State.cflPacket_kept
    | with_reducible refine Kept.foldl ?_ (fun s x h => ?_)
    | fail_if_no_progress (with_reducible refine Kept.frame ?_ (by rfl) (by rfl) (by rfl) (by rfl) (by rfl) (by rfl) (by first | exact Nat.le_refl _ | exact Nat.le_add_right _ _ | with_unfolding_all exact Nat.le_add_right _ _) (by rfl) (by rfl) (by rfl) (by first | exact fun y => y | (with_unfolding_all exact fun y => Mem.wf_writeLE _ _ _ _ y) | (with_unfolding_all exact fun y => Mem.wf_writeByte _ _ _ y) | (with_unfolding_all exact fun y => Mem.wf_clearRange _ _ _ y) | (with_unfolding_all exact fun _ => rfl)) (by first | exact fun y => y | (with_unfolding_all exact fun y => Sparse.wf_set _ _ _ _ y) | (with_unfolding_all exact fun _ => rfl)))
    | split

theorem State.cflWatch_kept {orig s : State} (h : Kept orig s) (bench : Nat) (weir : Nat) (count : Nat) : Kept orig (State.cflWatch s bench weir count) := by
  unfold State.cflWatch
  repeat any_goals first
    | with_reducible assumption
    | intro s x h
    | (extract_lets +onlyGivenNames x; refine Kept.of (a := orig) (x := x) ?_ ?_; rotate_left; (intro hx; clear_value x); rotate_right; subst x)
    | (extract_lets +onlyGivenNames x; first | (have keep := (x : Hbm); clear keep) | (have keep := (x : Mgmt); clear keep) | (have keep := (x : Seal); clear keep) | (have keep := (x : HostIf); clear keep) | clear_value x)
    | with_reducible apply Kept.ite
    | with_reducible apply State.cflStart_kept
    | with_reducible refine Kept.foldl ?_ (fun s x h => ?_)
    | split

theorem State.cflComplete_kept {orig s : State} (h : Kept orig s) (i : Nat) : Kept orig (State.cflComplete s i) := by
  unfold State.cflComplete
  repeat any_goals first
    | with_reducible assumption
    | intro s x h
    | (extract_lets +onlyGivenNames x; refine Kept.of (a := orig) (x := x) ?_ ?_; rotate_left; (intro hx; clear_value x); rotate_right; subst x)
    | (extract_lets +onlyGivenNames x; first | (have keep := (x : Hbm); clear keep) | (have keep := (x : Mgmt); clear keep) | (have keep := (x : Seal); clear keep) | (have keep := (x : HostIf); clear keep) | clear_value x)
    | with_reducible apply Kept.ite
    | with_reducible apply State.setCfl_kept
    | with_reducible apply State.cflStart_kept
    | fail_if_no_progress (with_reducible refine Kept.frame ?_ (by rfl) (by rfl) (by rfl) (by rfl) (by rfl) (by rfl) (by first | exact Nat.le_refl _ | exact Nat.le_add_right _ _ | with_unfolding_all exact Nat.le_add_right _ _) (by rfl) (by rfl) (by rfl) (by first | exact fun y => y | (with_unfolding_all exact fun y => Mem.wf_writeLE _ _ _ _ y) | (with_unfolding_all exact fun y => Mem.wf_writeByte _ _ _ y) | (with_unfolding_all exact fun y => Mem.wf_clearRange _ _ _ y) | (with_unfolding_all exact fun _ => rfl)) (by first | exact fun y => y | (with_unfolding_all exact fun y => Sparse.wf_set _ _ _ _ y) | (with_unfolding_all exact fun _ => rfl)))
    | split

theorem State.sendWeir_kept {orig s : State} (h : Kept orig s) (bench : Nat) (weir : Nat) (op : WeirOp) (arg : Nat) (req : WeirReq) : Kept orig (State.sendWeir s bench weir op arg req) := by
  unfold State.sendWeir
  repeat any_goals first
    | with_reducible assumption
    | intro s x h
    | fail_if_no_progress (with_reducible refine Kept.frame ?_ (by rfl) (by rfl) (by rfl) (by rfl) (by rfl) (by rfl) (by first | exact Nat.le_refl _ | exact Nat.le_add_right _ _ | with_unfolding_all exact Nat.le_add_right _ _) (by rfl) (by rfl) (by rfl) (by first | exact fun y => y | (with_unfolding_all exact fun y => Mem.wf_writeLE _ _ _ _ y) | (with_unfolding_all exact fun y => Mem.wf_writeByte _ _ _ y) | (with_unfolding_all exact fun y => Mem.wf_clearRange _ _ _ y) | (with_unfolding_all exact fun _ => rfl)) (by first | exact fun y => y | (with_unfolding_all exact fun y => Sparse.wf_set _ _ _ _ y) | (with_unfolding_all exact fun _ => rfl)))

theorem State.replyWeir_kept {orig s : State} (h : Kept orig s) (req : WeirReq) (count : Nat) : Kept orig (State.replyWeir s req count) := by
  unfold State.replyWeir
  repeat any_goals first
    | with_reducible assumption
    | intro s x h
    | with_reducible apply Kept.ite
    | fail_if_no_progress (with_reducible refine Kept.frame ?_ (by rfl) (by rfl) (by rfl) (by rfl) (by rfl) (by rfl) (by first | exact Nat.le_refl _ | exact Nat.le_add_right _ _ | with_unfolding_all exact Nat.le_add_right _ _) (by rfl) (by rfl) (by rfl) (by first | exact fun y => y | (with_unfolding_all exact fun y => Mem.wf_writeLE _ _ _ _ y) | (with_unfolding_all exact fun y => Mem.wf_writeByte _ _ _ y) | (with_unfolding_all exact fun y => Mem.wf_clearRange _ _ _ y) | (with_unfolding_all exact fun _ => rfl)) (by first | exact fun y => y | (with_unfolding_all exact fun y => Sparse.wf_set _ _ _ _ y) | (with_unfolding_all exact fun _ => rfl)))
    | split

theorem State.setWeir_kept {orig s : State} (h : Kept orig s) (pb : Nat) (w : Nat) (count : Nat) : Kept orig (State.setWeir s pb w count) := by
  unfold State.setWeir
  repeat any_goals first
    | with_reducible assumption
    | intro s x h
    | (extract_lets +onlyGivenNames x; refine Kept.of (a := orig) (x := x) ?_ ?_; rotate_left; (intro hx; clear_value x); rotate_right; subst x)
    | (extract_lets +onlyGivenNames x; first | (have keep := (x : Hbm); clear keep) | (have keep := (x : Mgmt); clear keep) | (have keep := (x : Seal); clear keep) | (have keep := (x : HostIf); clear keep) | clear_value x)
    | with_reducible apply State.setBench_kept
    | with_reducible apply State.cflWatch_kept
    | with_reducible apply State.replyWeir_kept
    | with_reducible refine Kept.foldl ?_ (fun s x h => ?_)
    | fail_if_no_progress (with_reducible refine Kept.frame ?_ (by rfl) (by rfl) (by rfl) (by rfl) (by rfl) (by rfl) (by first | exact Nat.le_refl _ | exact Nat.le_add_right _ _ | with_unfolding_all exact Nat.le_add_right _ _) (by rfl) (by rfl) (by rfl) (by first | exact fun y => y | (with_unfolding_all exact fun y => Mem.wf_writeLE _ _ _ _ y) | (with_unfolding_all exact fun y => Mem.wf_writeByte _ _ _ y) | (with_unfolding_all exact fun y => Mem.wf_clearRange _ _ _ y) | (with_unfolding_all exact fun _ => rfl)) (by first | exact fun y => y | (with_unfolding_all exact fun y => Sparse.wf_set _ _ _ _ y) | (with_unfolding_all exact fun _ => rfl)))
    | split

theorem State.serveWeir_kept {orig s : State} (h : Kept orig s) (m : WeirMsg) : Kept orig (State.serveWeir s m) := by
  unfold State.serveWeir
  repeat any_goals first
    | with_reducible assumption
    | intro s x h
    | (extract_lets +onlyGivenNames x; refine Kept.of (a := orig) (x := x) ?_ ?_; rotate_left; (intro hx; clear_value x); rotate_right; subst x)
    | (extract_lets +onlyGivenNames x; first | (have keep := (x : Hbm); clear keep) | (have keep := (x : Mgmt); clear keep) | (have keep := (x : Seal); clear keep) | (have keep := (x : HostIf); clear keep) | clear_value x)
    | with_reducible apply Kept.ite
    | with_reducible apply State.onBench_kept
    | with_reducible apply State.bump_kept
    | with_reducible apply State.replyWeir_kept
    | with_reducible apply State.setWeir_kept
    | fail_if_no_progress (with_reducible refine Kept.frame ?_ (by rfl) (by rfl) (by rfl) (by rfl) (by rfl) (by rfl) (by first | exact Nat.le_refl _ | exact Nat.le_add_right _ _ | with_unfolding_all exact Nat.le_add_right _ _) (by rfl) (by rfl) (by rfl) (by first | exact fun y => y | (with_unfolding_all exact fun y => Mem.wf_writeLE _ _ _ _ y) | (with_unfolding_all exact fun y => Mem.wf_writeByte _ _ _ y) | (with_unfolding_all exact fun y => Mem.wf_clearRange _ _ _ y) | (with_unfolding_all exact fun _ => rfl)) (by first | exact fun y => y | (with_unfolding_all exact fun y => Sparse.wf_set _ _ _ _ y) | (with_unfolding_all exact fun _ => rfl)))
    | split

theorem State.weirArrives_kept {orig s : State} (h : Kept orig s) (n : Nat) : Kept orig (State.weirArrives s n) := by
  unfold State.weirArrives
  repeat any_goals first
    | with_reducible assumption
    | intro s x h
    | with_reducible apply State.serveWeir_kept
    | fail_if_no_progress (with_reducible refine Kept.frame ?_ (by rfl) (by rfl) (by rfl) (by rfl) (by rfl) (by rfl) (by first | exact Nat.le_refl _ | exact Nat.le_add_right _ _ | with_unfolding_all exact Nat.le_add_right _ _) (by rfl) (by rfl) (by rfl) (by first | exact fun y => y | (with_unfolding_all exact fun y => Mem.wf_writeLE _ _ _ _ y) | (with_unfolding_all exact fun y => Mem.wf_writeByte _ _ _ y) | (with_unfolding_all exact fun y => Mem.wf_clearRange _ _ _ y) | (with_unfolding_all exact fun _ => rfl)) (by first | exact fun y => y | (with_unfolding_all exact fun y => Sparse.wf_set _ _ _ _ y) | (with_unfolding_all exact fun _ => rfl)))
    | split

theorem State.weirReplyArrives_kept {orig s : State} (h : Kept orig s) (n : Nat) : Kept orig (State.weirReplyArrives s n) := by
  unfold State.weirReplyArrives
  repeat any_goals first
    | with_reducible assumption
    | intro s x h
    | (extract_lets +onlyGivenNames x; refine Kept.of (a := orig) (x := x) ?_ ?_; rotate_left; (intro hx; clear_value x); rotate_right; subst x)
    | (extract_lets +onlyGivenNames x; first | (have keep := (x : Hbm); clear keep) | (have keep := (x : Mgmt); clear keep) | (have keep := (x : Seal); clear keep) | (have keep := (x : HostIf); clear keep) | clear_value x)
    | with_reducible apply Kept.ite
    | with_reducible apply State.onBench_kept
    | fail_if_no_progress (with_reducible refine Kept.frame ?_ (by rfl) (by rfl) (by rfl) (by rfl) (by rfl) (by rfl) (by first | exact Nat.le_refl _ | exact Nat.le_add_right _ _ | with_unfolding_all exact Nat.le_add_right _ _) (by rfl) (by rfl) (by rfl) (by first | exact fun y => y | (with_unfolding_all exact fun y => Mem.wf_writeLE _ _ _ _ y) | (with_unfolding_all exact fun y => Mem.wf_writeByte _ _ _ y) | (with_unfolding_all exact fun y => Mem.wf_clearRange _ _ _ y) | (with_unfolding_all exact fun _ => rfl)) (by first | exact fun y => y | (with_unfolding_all exact fun y => Sparse.wf_set _ _ _ _ y) | (with_unfolding_all exact fun _ => rfl)))
    | split

theorem State.abandonWaits_kept {orig s : State} (h : Kept orig s) (pb : Nat) : Kept orig (State.abandonWaits s pb) := by
  unfold State.abandonWaits
  repeat any_goals first
    | with_reducible assumption
    | intro s x h
    | (extract_lets +onlyGivenNames x; refine Kept.of (a := orig) (x := x) ?_ ?_; rotate_left; (intro hx; clear_value x); rotate_right; subst x)
    | (extract_lets +onlyGivenNames x; first | (have keep := (x : Hbm); clear keep) | (have keep := (x : Mgmt); clear keep) | (have keep := (x : Seal); clear keep) | (have keep := (x : HostIf); clear keep) | clear_value x)
    | with_reducible apply Kept.ite
    | with_reducible apply State.onBench_kept
    | with_reducible refine Kept.foldl ?_ (fun s x h => ?_)
    | fail_if_no_progress (with_reducible refine Kept.frame ?_ (by rfl) (by rfl) (by rfl) (by rfl) (by rfl) (by rfl) (by first | exact Nat.le_refl _ | exact Nat.le_add_right _ _ | with_unfolding_all exact Nat.le_add_right _ _) (by rfl) (by rfl) (by rfl) (by first | exact fun y => y | (with_unfolding_all exact fun y => Mem.wf_writeLE _ _ _ _ y) | (with_unfolding_all exact fun y => Mem.wf_writeByte _ _ _ y) | (with_unfolding_all exact fun y => Mem.wf_clearRange _ _ _ y) | (with_unfolding_all exact fun _ => rfl)) (by first | exact fun y => y | (with_unfolding_all exact fun y => Sparse.wf_set _ _ _ _ y) | (with_unfolding_all exact fun _ => rfl)))
    | split

theorem State.rinseWeirs_kept {orig s : State} (h : Kept orig s) (pb : Nat) : Kept orig (State.rinseWeirs s pb) := by
  unfold State.rinseWeirs
  repeat any_goals first
    | with_reducible assumption
    | intro s x h
    | (extract_lets +onlyGivenNames x; refine Kept.of (a := orig) (x := x) ?_ ?_; rotate_left; (intro hx; clear_value x); rotate_right; subst x)
    | (extract_lets +onlyGivenNames x; first | (have keep := (x : Hbm); clear keep) | (have keep := (x : Mgmt); clear keep) | (have keep := (x : Seal); clear keep) | (have keep := (x : HostIf); clear keep) | clear_value x)
    | with_reducible apply State.setBench_kept
    | with_reducible apply State.replyWeir_kept
    | with_reducible refine Kept.foldl ?_ (fun s x h => ?_)
    | fail_if_no_progress (with_reducible refine Kept.frame ?_ (by rfl) (by rfl) (by rfl) (by rfl) (by rfl) (by rfl) (by first | exact Nat.le_refl _ | exact Nat.le_add_right _ _ | with_unfolding_all exact Nat.le_add_right _ _) (by rfl) (by rfl) (by rfl) (by first | exact fun y => y | (with_unfolding_all exact fun y => Mem.wf_writeLE _ _ _ _ y) | (with_unfolding_all exact fun y => Mem.wf_writeByte _ _ _ y) | (with_unfolding_all exact fun y => Mem.wf_clearRange _ _ _ y) | (with_unfolding_all exact fun _ => rfl)) (by first | exact fun y => y | (with_unfolding_all exact fun y => Sparse.wf_set _ _ _ _ y) | (with_unfolding_all exact fun _ => rfl)))

end Sys2Proof.Machine
end

