-- ==== Sys2Proof/Laws/KeptBench.lean ====
section
/-! SUPPORT. What every operation keeps (Laws/Kept.lean): issue, retirement, bench events, Foremen, leases and tables. One lemma per operation. -/

set_option linter.all false
set_option linter.unusedVariables false

namespace Sys2Proof.Machine

theorem Written.step_kept {orig : State} {w : Written} (h : Kept orig w.s) (pb : Nat) (e : Exec) (f : State → Effect) :
    Kept orig (Written.step pb e w f).s := State.writeRuns_kept _ h

theorem Written.steps_kept {orig : State} {pb : Nat} {e : Exec} (l : List (State → Effect)) : ∀ {w : Written}, Kept orig w.s →
    Kept orig (l.foldl (Written.step pb e) w).s := by
  induction l with
  | nil => intro w h; exact h
  | cons f l ih => intro w h; exact ih (Written.step_kept h pb e f)

theorem State.meetBad_kept {orig s : State} (h : Kept orig s) (pb : Nat) (e : Exec) : Kept orig (State.meetBad s pb e) := by
  unfold State.meetBad
  repeat any_goals first
    | with_reducible assumption
    | intro s x h
    | (extract_lets +onlyGivenNames x; refine Kept.of (a := orig) (x := x) ?_ ?_; rotate_left; (intro hx; clear_value x); rotate_right; subst x)
    | (extract_lets +onlyGivenNames x; first | (have keep := (x : Hbm); clear keep) | (have keep := (x : Mgmt); clear keep) | (have keep := (x : Seal); clear keep) | (have keep := (x : HostIf); clear keep) | clear_value x)
    | with_reducible apply Kept.ite
    | with_reducible apply State.onBench_kept
    | with_reducible apply State.benchUncorrectable_kept
    | with_reducible refine Kept.foldl ?_ (fun s x h => ?_)
    | split

theorem State.logAlign_kept {orig s : State} (h : Kept orig s) (pb : Nat) (e : Exec) (a : Option (Nat × Nat × Nat)) : Kept orig (State.logAlign s pb e a) := by
  unfold State.logAlign
  repeat any_goals first
    | with_reducible assumption
    | intro s x h
    | with_reducible apply State.logBench_kept
    | fail_if_no_progress (with_reducible refine Kept.frame ?_ (by rfl) (by rfl) (by rfl) (by rfl) (by rfl) (by rfl) (by first | exact Nat.le_refl _ | exact Nat.le_add_right _ _ | with_unfolding_all exact Nat.le_add_right _ _) (by rfl) (by rfl) (by rfl) (by first | exact fun y => y | (with_unfolding_all exact fun y => Mem.wf_writeLE _ _ _ _ y) | (with_unfolding_all exact fun y => Mem.wf_writeByte _ _ _ y) | (with_unfolding_all exact fun y => Mem.wf_clearRange _ _ _ y) | (with_unfolding_all exact fun _ => rfl)) (by first | exact fun y => y | (with_unfolding_all exact fun y => Sparse.wf_set _ _ _ _ y) | (with_unfolding_all exact fun _ => rfl)))
    | split

theorem State.countSpent_kept {orig s : State} (h : Kept orig s) (pb : Nat) (e : Exec) : Kept orig (State.countSpent s pb e) := by
  unfold State.countSpent
  repeat any_goals first
    | with_reducible assumption
    | intro s x h
    | (extract_lets +onlyGivenNames x; refine Kept.of (a := orig) (x := x) ?_ ?_; rotate_left; (intro hx; clear_value x); rotate_right; subst x)
    | (extract_lets +onlyGivenNames x; first | (have keep := (x : Hbm); clear keep) | (have keep := (x : Mgmt); clear keep) | (have keep := (x : Seal); clear keep) | (have keep := (x : HostIf); clear keep) | clear_value x)
    | with_reducible apply Kept.ite
    | with_reducible apply State.bump_kept
    | with_reducible apply State.logBench_kept
    | fail_if_no_progress (with_reducible refine Kept.frame ?_ (by rfl) (by rfl) (by rfl) (by rfl) (by rfl) (by rfl) (by first | exact Nat.le_refl _ | exact Nat.le_add_right _ _ | with_unfolding_all exact Nat.le_add_right _ _) (by rfl) (by rfl) (by rfl) (by first | exact fun y => y | (with_unfolding_all exact fun y => Mem.wf_writeLE _ _ _ _ y) | (with_unfolding_all exact fun y => Mem.wf_writeByte _ _ _ y) | (with_unfolding_all exact fun y => Mem.wf_clearRange _ _ _ y) | (with_unfolding_all exact fun _ => rfl)) (by first | exact fun y => y | (with_unfolding_all exact fun y => Sparse.wf_set _ _ _ _ y) | (with_unfolding_all exact fun _ => rfl)))
    | split

theorem State.countShape_kept {orig s : State} (h : Kept orig s) (pb : Nat) (e : Exec) : Kept orig (State.countShape s pb e) := by
  unfold State.countShape
  repeat any_goals first
    | with_reducible assumption
    | intro s x h
    | with_reducible apply Kept.ite
    | with_reducible apply State.bump_kept
    | split

theorem State.countFloat_kept {orig s : State} (h : Kept orig s) (pb : Nat) (nan : Nat) (inf : Nat) (flush : Nat) : Kept orig (State.countFloat s pb nan inf flush) := by
  unfold State.countFloat
  repeat any_goals first
    | with_reducible assumption
    | intro s x h
    | with_reducible apply State.bump_kept

theorem State.openExchange_kept {orig s : State} (h : Kept orig s) (pb : Nat) (e : Exec) : Kept orig (State.openExchange s pb e) := by
  unfold State.openExchange
  repeat any_goals first
    | with_reducible assumption
    | intro s x h
    | with_reducible apply Kept.ite
    | with_reducible apply State.postExchange_kept
    | fail_if_no_progress (with_reducible refine Kept.frame ?_ (by rfl) (by rfl) (by rfl) (by rfl) (by rfl) (by rfl) (by first | exact Nat.le_refl _ | exact Nat.le_add_right _ _ | with_unfolding_all exact Nat.le_add_right _ _) (by rfl) (by rfl) (by rfl) (by first | exact fun y => y | (with_unfolding_all exact fun y => Mem.wf_writeLE _ _ _ _ y) | (with_unfolding_all exact fun y => Mem.wf_writeByte _ _ _ y) | (with_unfolding_all exact fun y => Mem.wf_clearRange _ _ _ y) | (with_unfolding_all exact fun _ => rfl)) (by first | exact fun y => y | (with_unfolding_all exact fun y => Sparse.wf_set _ _ _ _ y) | (with_unfolding_all exact fun _ => rfl)))
    | split

theorem State.keyVerdictAt_kept {orig s : State} (h : Kept orig s) (pb : Nat) (e : Exec) (us : List KUnit) : KeptV Prod.fst orig (State.keyVerdictAt s pb e us) := by
  unfold State.keyVerdictAt
  repeat any_goals first
    | with_reducible assumption
    | intro s x h
    | with_reducible apply Kept.ite
    | with_reducible refine KeptV.ite ?_ ?_
    | with_reducible refine KeptV.fst ?_
    | with_reducible refine KeptV.snd ?_
    | with_reducible refine KeptV.reply ?_
    | with_reducible refine KeptV.got ?_
    | with_reducible apply State.logBench_kept
    | fail_if_no_progress (with_reducible refine Kept.frame ?_ (by rfl) (by rfl) (by rfl) (by rfl) (by rfl) (by rfl) (by first | exact Nat.le_refl _ | exact Nat.le_add_right _ _ | with_unfolding_all exact Nat.le_add_right _ _) (by rfl) (by rfl) (by rfl) (by first | exact fun y => y | (with_unfolding_all exact fun y => Mem.wf_writeLE _ _ _ _ y) | (with_unfolding_all exact fun y => Mem.wf_writeByte _ _ _ y) | (with_unfolding_all exact fun y => Mem.wf_clearRange _ _ _ y) | (with_unfolding_all exact fun _ => rfl)) (by first | exact fun y => y | (with_unfolding_all exact fun y => Sparse.wf_set _ _ _ _ y) | (with_unfolding_all exact fun _ => rfl)))
    | split

theorem State.keyVerdictAt_kept1 {orig s : State} (h : Kept orig s) (pb : Nat) (e : Exec) (us : List KUnit) : Kept orig (State.keyVerdictAt s pb e us).1 := State.keyVerdictAt_kept h pb e us

theorem State.keyPoison_kept {orig s : State} (h : Kept orig s) (pb : Nat) (e : Exec) (u : KUnit) : Kept orig (State.keyPoison s pb e u) := by
  unfold State.keyPoison
  repeat any_goals first
    | with_reducible assumption
    | intro s x h
    | with_reducible apply Kept.ite
    | with_reducible apply State.basinUncorrectable_kept
    | with_reducible apply State.hbmUncorrectable_kept
    | fail_if_no_progress (with_reducible refine Kept.frame ?_ (by rfl) (by rfl) (by rfl) (by rfl) (by rfl) (by rfl) (by first | exact Nat.le_refl _ | exact Nat.le_add_right _ _ | with_unfolding_all exact Nat.le_add_right _ _) (by rfl) (by rfl) (by rfl) (by first | exact fun y => y | (with_unfolding_all exact fun y => Mem.wf_writeLE _ _ _ _ y) | (with_unfolding_all exact fun y => Mem.wf_writeByte _ _ _ y) | (with_unfolding_all exact fun y => Mem.wf_clearRange _ _ _ y) | (with_unfolding_all exact fun _ => rfl)) (by first | exact fun y => y | (with_unfolding_all exact fun y => Sparse.wf_set _ _ _ _ y) | (with_unfolding_all exact fun _ => rfl)))
    | split

theorem State.feedOnce_kept {orig s : State} (h : Kept orig s) (pb : Nat) : Kept orig (State.feedOnce s pb) := by
  unfold State.feedOnce
  repeat any_goals first
    | with_reducible assumption
    | intro s x h
    | (extract_lets +onlyGivenNames x; refine Kept.of (a := orig) (x := x) ?_ ?_; rotate_left; (intro hx; clear_value x); rotate_right; subst x)
    | (extract_lets +onlyGivenNames x; refine Kept.of (a := orig) (x := x.1) ?_ ?_; rotate_left; (intro hx; clear_value x); rotate_right; subst x)
    | (extract_lets +onlyGivenNames x; refine Kept.of (a := orig) (x := x.2) ?_ ?_; rotate_left; (intro hx; clear_value x); rotate_right; subst x)
    | (extract_lets +onlyGivenNames x; first | (have keep := (x : Hbm); clear keep) | (have keep := (x : Mgmt); clear keep) | (have keep := (x : Seal); clear keep) | (have keep := (x : HostIf); clear keep) | clear_value x)
    | with_reducible apply Kept.ite
    | with_reducible apply State.setBench_kept
    | with_reducible apply State.openExchange_kept
    | with_reducible apply State.keyVerdictAt_kept1
    | with_reducible apply State.keyVerdictAt_kept
    | with_reducible apply State.keyPoison_kept
    | with_reducible refine Kept.foldl ?_ (fun s x h => ?_)
    | fail_if_no_progress (with_reducible refine Kept.frame ?_ (by rfl) (by rfl) (by rfl) (by rfl) (by rfl) (by rfl) (by first | exact Nat.le_refl _ | exact Nat.le_add_right _ _ | with_unfolding_all exact Nat.le_add_right _ _) (by rfl) (by rfl) (by rfl) (by first | exact fun y => y | (with_unfolding_all exact fun y => Mem.wf_writeLE _ _ _ _ y) | (with_unfolding_all exact fun y => Mem.wf_writeByte _ _ _ y) | (with_unfolding_all exact fun y => Mem.wf_clearRange _ _ _ y) | (with_unfolding_all exact fun _ => rfl)) (by first | exact fun y => y | (with_unfolding_all exact fun y => Sparse.wf_set _ _ _ _ y) | (with_unfolding_all exact fun _ => rfl)))
    | split

theorem State.feedLoop_kept {orig : State} {pb : Nat} (n : Nat) : ∀ {s : State}, Kept orig s → Kept orig (s.feedLoop pb n) := by
  induction n with
  | zero => intro s h; exact h
  | succ n ih => intro s h; exact ih (State.feedOnce_kept h pb)

theorem State.feed_kept {orig s : State} (h : Kept orig s) (pb : Nat) : Kept orig (State.feed s pb) := by
  unfold State.feed
  repeat any_goals first
    | with_reducible assumption
    | intro s x h
    | with_reducible refine State.feedLoop_kept _ ?_

theorem State.finishWrites_kept {orig s : State} (h : Kept orig s) (pb : Nat) (e : Exec) : KeptV Prod.fst orig (State.finishWrites s pb e) := by
  unfold State.finishWrites
  repeat any_goals first
    | with_reducible assumption
    | intro s x h
    | (extract_lets +onlyGivenNames x; refine Kept.of (a := orig) (x := x) ?_ ?_; rotate_left; (intro hx; clear_value x); rotate_right; subst x)
    | (extract_lets +onlyGivenNames x; refine Kept.of (a := orig) (x := x.1) ?_ ?_; rotate_left; (intro hx; clear_value x); rotate_right; subst x)
    | (extract_lets +onlyGivenNames x; refine Kept.of (a := orig) (x := x.2) ?_ ?_; rotate_left; (intro hx; clear_value x); rotate_right; subst x)
    | (extract_lets +onlyGivenNames x; refine Kept.of (a := orig) (x := x.s) ?_ ?_; rotate_left; (intro hx; clear_value x); rotate_right; subst x)
    | (extract_lets +onlyGivenNames x; first | (have keep := (x : Hbm); clear keep) | (have keep := (x : Mgmt); clear keep) | (have keep := (x : Seal); clear keep) | (have keep := (x : HostIf); clear keep) | clear_value x)
    | with_reducible refine KeptV.ite ?_ ?_
    | with_reducible refine KeptV.fst ?_
    | with_reducible refine KeptV.snd ?_
    | with_reducible refine KeptV.reply ?_
    | with_reducible refine KeptV.got ?_
    | with_reducible apply State.onBench_kept
    | with_reducible refine Written.steps_kept _ ?_
    | with_reducible apply State.meetBad_kept
    | with_reducible apply State.countSpent_kept
    | with_reducible apply State.countShape_kept
    | with_reducible apply State.countFloat_kept
    | with_reducible refine Kept.foldl ?_ (fun s x h => ?_)

theorem State.finishWrites_kept1 {orig s : State} (h : Kept orig s) (pb : Nat) (e : Exec) : Kept orig (State.finishWrites s pb e).1 := State.finishWrites_kept h pb e

theorem State.shapeWaits_kept {orig s : State} (h : Kept orig s) (pb : Nat) (w : CmdWord) : Kept orig (State.shapeWaits s pb w) := by
  unfold State.shapeWaits
  repeat any_goals first
    | with_reducible assumption
    | intro s x h
    | (extract_lets +onlyGivenNames x; refine Kept.of (a := orig) (x := x) ?_ ?_; rotate_left; (intro hx; clear_value x); rotate_right; subst x)
    | (extract_lets +onlyGivenNames x; first | (have keep := (x : Hbm); clear keep) | (have keep := (x : Mgmt); clear keep) | (have keep := (x : Seal); clear keep) | (have keep := (x : HostIf); clear keep) | clear_value x)
    | with_reducible apply Kept.ite
    | with_reducible apply State.bump_kept
    | with_reducible apply State.skip_kept
    | split

theorem State.retireNow_kept {orig s : State} (h : Kept orig s) (pb : Nat) (id : Nat) : Kept orig (State.retireNow s pb id) := by
  unfold State.retireNow
  repeat any_goals first
    | with_reducible assumption
    | intro s x h
    | (extract_lets +onlyGivenNames x; refine Kept.of (a := orig) (x := x) ?_ ?_; rotate_left; (intro hx; clear_value x); rotate_right; subst x)
    | (extract_lets +onlyGivenNames x; refine Kept.of (a := orig) (x := x.1) ?_ ?_; rotate_left; (intro hx; clear_value x); rotate_right; subst x)
    | (extract_lets +onlyGivenNames x; refine Kept.of (a := orig) (x := x.2) ?_ ?_; rotate_left; (intro hx; clear_value x); rotate_right; subst x)
    | (extract_lets +onlyGivenNames x; first | (have keep := (x : Hbm); clear keep) | (have keep := (x : Mgmt); clear keep) | (have keep := (x : Seal); clear keep) | (have keep := (x : HostIf); clear keep) | clear_value x)
    | with_reducible apply Kept.ite
    | with_reducible apply State.onBench_kept
    | with_reducible apply State.progress_kept
    | with_reducible apply State.haltBench_kept
    | with_reducible apply State.postToken_kept
    | with_reducible apply State.checkComplete_kept
    | with_reducible apply State.sendMessage_kept
    | with_reducible apply State.logAlign_kept
    | with_reducible apply State.finishWrites_kept1
    | with_reducible apply State.finishWrites_kept
    | with_reducible apply State.shapeWaits_kept
    | fail_if_no_progress (with_reducible refine Kept.frame ?_ (by rfl) (by rfl) (by rfl) (by rfl) (by rfl) (by rfl) (by first | exact Nat.le_refl _ | exact Nat.le_add_right _ _ | with_unfolding_all exact Nat.le_add_right _ _) (by rfl) (by rfl) (by rfl) (by first | exact fun y => y | (with_unfolding_all exact fun y => Mem.wf_writeLE _ _ _ _ y) | (with_unfolding_all exact fun y => Mem.wf_writeByte _ _ _ y) | (with_unfolding_all exact fun y => Mem.wf_clearRange _ _ _ y) | (with_unfolding_all exact fun _ => rfl)) (by first | exact fun y => y | (with_unfolding_all exact fun y => Sparse.wf_set _ _ _ _ y) | (with_unfolding_all exact fun _ => rfl)))
    | split

theorem State.retire_kept {orig s : State} (h : Kept orig s) (pb : Nat) (id : Nat) : Kept orig (State.retire s pb id) := by
  unfold State.retire
  repeat any_goals first
    | with_reducible assumption
    | intro s x h
    | with_reducible apply Kept.ite
    | with_reducible apply State.retireNow_kept
    | fail_if_no_progress (with_reducible refine Kept.frame ?_ (by rfl) (by rfl) (by rfl) (by rfl) (by rfl) (by rfl) (by first | exact Nat.le_refl _ | exact Nat.le_add_right _ _ | with_unfolding_all exact Nat.le_add_right _ _) (by rfl) (by rfl) (by rfl) (by first | exact fun y => y | (with_unfolding_all exact fun y => Mem.wf_writeLE _ _ _ _ y) | (with_unfolding_all exact fun y => Mem.wf_writeByte _ _ _ y) | (with_unfolding_all exact fun y => Mem.wf_clearRange _ _ _ y) | (with_unfolding_all exact fun _ => rfl)) (by first | exact fun y => y | (with_unfolding_all exact fun y => Sparse.wf_set _ _ _ _ y) | (with_unfolding_all exact fun _ => rfl)))
    | split

theorem State.enterChute_kept {orig s : State} (h : Kept orig s) (pb : Nat) : Kept orig (State.enterChute s pb) := by
  unfold State.enterChute
  repeat any_goals first
    | with_reducible assumption
    | intro s x h
    | (extract_lets +onlyGivenNames x; refine Kept.of (a := orig) (x := x) ?_ ?_; rotate_left; (intro hx; clear_value x); rotate_right; subst x)
    | (extract_lets +onlyGivenNames x; refine Kept.of (a := orig) (x := x.1) ?_ ?_; rotate_left; (intro hx; clear_value x); rotate_right; subst x)
    | (extract_lets +onlyGivenNames x; refine Kept.of (a := orig) (x := x.2) ?_ ?_; rotate_left; (intro hx; clear_value x); rotate_right; subst x)
    | (extract_lets +onlyGivenNames x; first | (have keep := (x : Hbm); clear keep) | (have keep := (x : Mgmt); clear keep) | (have keep := (x : Seal); clear keep) | (have keep := (x : HostIf); clear keep) | clear_value x)
    | with_reducible apply Kept.ite
    | with_reducible apply State.setBench_kept
    | with_reducible apply State.countFloat_kept
    | with_reducible apply State.feed_kept
    | fail_if_no_progress (with_reducible refine Kept.frame ?_ (by rfl) (by rfl) (by rfl) (by rfl) (by rfl) (by rfl) (by first | exact Nat.le_refl _ | exact Nat.le_add_right _ _ | with_unfolding_all exact Nat.le_add_right _ _) (by rfl) (by rfl) (by rfl) (by first | exact fun y => y | (with_unfolding_all exact fun y => Mem.wf_writeLE _ _ _ _ y) | (with_unfolding_all exact fun y => Mem.wf_writeByte _ _ _ y) | (with_unfolding_all exact fun y => Mem.wf_clearRange _ _ _ y) | (with_unfolding_all exact fun _ => rfl)) (by first | exact fun y => y | (with_unfolding_all exact fun y => Sparse.wf_set _ _ _ _ y) | (with_unfolding_all exact fun _ => rfl)))
    | split

theorem State.exchange_kept {orig s : State} (h : Kept orig s) (pb : Nat) : Kept orig (State.exchange s pb) := by
  unfold State.exchange
  repeat any_goals first
    | with_reducible assumption
    | intro s x h
    | (extract_lets +onlyGivenNames x; refine Kept.of (a := orig) (x := x) ?_ ?_; rotate_left; (intro hx; clear_value x); rotate_right; subst x)
    | (extract_lets +onlyGivenNames x; first | (have keep := (x : Hbm); clear keep) | (have keep := (x : Mgmt); clear keep) | (have keep := (x : Seal); clear keep) | (have keep := (x : HostIf); clear keep) | clear_value x)
    | with_reducible apply Kept.ite
    | with_reducible apply State.onBench_kept
    | with_reducible apply State.feed_kept
    | with_reducible refine Kept.foldl ?_ (fun s x h => ?_)
    | fail_if_no_progress (with_reducible refine Kept.frame ?_ (by rfl) (by rfl) (by rfl) (by rfl) (by rfl) (by rfl) (by first | exact Nat.le_refl _ | exact Nat.le_add_right _ _ | with_unfolding_all exact Nat.le_add_right _ _) (by rfl) (by rfl) (by rfl) (by first | exact fun y => y | (with_unfolding_all exact fun y => Mem.wf_writeLE _ _ _ _ y) | (with_unfolding_all exact fun y => Mem.wf_writeByte _ _ _ y) | (with_unfolding_all exact fun y => Mem.wf_clearRange _ _ _ y) | (with_unfolding_all exact fun _ => rfl)) (by first | exact fun y => y | (with_unfolding_all exact fun y => Sparse.wf_set _ _ _ _ y) | (with_unfolding_all exact fun _ => rfl)))
    | split

theorem State.countConflicts_kept {orig s : State} (h : Kept orig s) (pb : Nat) (words : List Nat) : Kept orig (State.countConflicts s pb words) := by
  unfold State.countConflicts
  repeat any_goals first
    | with_reducible assumption
    | intro s x h
    | (extract_lets +onlyGivenNames x; refine Kept.of (a := orig) (x := x) ?_ ?_; rotate_left; (intro hx; clear_value x); rotate_right; subst x)
    | (extract_lets +onlyGivenNames x; first | (have keep := (x : Hbm); clear keep) | (have keep := (x : Mgmt); clear keep) | (have keep := (x : Seal); clear keep) | (have keep := (x : HostIf); clear keep) | clear_value x)
    | with_reducible apply Kept.ite
    | with_reducible apply State.setReg_kept
    | with_reducible refine Kept.foldl ?_ (fun s x h => ?_)
    | split

theorem State.poolWindow_kept {orig s : State} (h : Kept orig s) (pb : Nat) (cmd : Nat) (port : PoolPort) (words : List Nat) (corr : Option Nat) (bad : Option Nat) : Kept orig (State.poolWindow s pb cmd port words corr bad) := by
  unfold State.poolWindow
  repeat any_goals first
    | with_reducible assumption
    | intro s x h
    | (extract_lets +onlyGivenNames x; refine Kept.of (a := orig) (x := x) ?_ ?_; rotate_left; (intro hx; clear_value x); rotate_right; subst x)
    | (extract_lets +onlyGivenNames x; first | (have keep := (x : Hbm); clear keep) | (have keep := (x : Mgmt); clear keep) | (have keep := (x : Seal); clear keep) | (have keep := (x : HostIf); clear keep) | clear_value x)
    | with_reducible apply Kept.ite
    | with_reducible apply State.onBench_kept
    | with_reducible apply State.benchCorrected_kept
    | with_reducible apply State.benchUncorrectable_kept
    | with_reducible apply State.countConflicts_kept
    | with_reducible refine Kept.foldl ?_ (fun s x h => ?_)
    | fail_if_no_progress (with_reducible refine Kept.frame ?_ (by rfl) (by rfl) (by rfl) (by rfl) (by rfl) (by rfl) (by first | exact Nat.le_refl _ | exact Nat.le_add_right _ _ | with_unfolding_all exact Nat.le_add_right _ _) (by rfl) (by rfl) (by rfl) (by first | exact fun y => y | (with_unfolding_all exact fun y => Mem.wf_writeLE _ _ _ _ y) | (with_unfolding_all exact fun y => Mem.wf_writeByte _ _ _ y) | (with_unfolding_all exact fun y => Mem.wf_clearRange _ _ _ y) | (with_unfolding_all exact fun _ => rfl)) (by first | exact fun y => y | (with_unfolding_all exact fun y => Sparse.wf_set _ _ _ _ y) | (with_unfolding_all exact fun _ => rfl)))
    | split

theorem planToken_starts (c : Ctx) : Starts (planToken c) := by
  unfold planToken
  repeat any_goals first
    | with_reducible assumption
    | with_reducible exact Starts.pureOf _
    | with_reducible exact Starts.error _
    | with_reducible exact Starts.mustAll _
    | with_reducible exact Starts.of _
    | with_reducible refine Starts.ok (fun orig s h => ?_)
    | with_reducible refine Starts.bind (fun _ => ?_)
    | with_reducible refine Starts.ite ?_ ?_
    | with_reducible apply Kept.ite
    | with_reducible exact Starts.of _

theorem planPhase_starts (c : Ctx) : Starts (planPhase c) := by
  unfold planPhase
  repeat any_goals first
    | with_reducible assumption
    | with_reducible exact Starts.pureOf _
    | with_reducible exact Starts.error _
    | with_reducible exact Starts.mustAll _
    | with_reducible exact Starts.of _
    | with_reducible refine Starts.ok (fun orig s h => ?_)
    | with_reducible refine Starts.bind (fun _ => ?_)
    | with_reducible refine Starts.ite ?_ ?_
    | with_reducible apply Kept.ite
    | with_reducible apply State.onBench_kept
    | with_reducible exact Starts.of _
    | fail_if_no_progress (with_reducible refine Kept.frame ?_ (by rfl) (by rfl) (by rfl) (by rfl) (by rfl) (by rfl) (by first | exact Nat.le_refl _ | exact Nat.le_add_right _ _ | with_unfolding_all exact Nat.le_add_right _ _) (by rfl) (by rfl) (by rfl) (by first | exact fun y => y | (with_unfolding_all exact fun y => Mem.wf_writeLE _ _ _ _ y) | (with_unfolding_all exact fun y => Mem.wf_writeByte _ _ _ y) | (with_unfolding_all exact fun y => Mem.wf_clearRange _ _ _ y) | (with_unfolding_all exact fun _ => rfl)) (by first | exact fun y => y | (with_unfolding_all exact fun y => Sparse.wf_set _ _ _ _ y) | (with_unfolding_all exact fun _ => rfl)))
    | split

theorem planWeir_starts (op : WeirOp) (c : Ctx) : Starts (planWeir op c) := by
  unfold planWeir
  repeat any_goals first
    | with_reducible assumption
    | with_reducible exact Starts.pureOf _
    | with_reducible exact Starts.error _
    | with_reducible exact Starts.mustAll _
    | with_reducible exact Starts.of _
    | with_reducible refine Starts.ok (fun orig s h => ?_)
    | with_reducible refine Starts.bind (fun _ => ?_)
    | with_reducible refine Starts.ite ?_ ?_
    | (extract_lets +onlyGivenNames x; refine Kept.of (a := orig) (x := x) ?_ ?_; rotate_left; (intro hx; clear_value x); rotate_right; subst x)
    | (extract_lets +onlyGivenNames x; first | (have keep := (x : Hbm); clear keep) | (have keep := (x : Mgmt); clear keep) | (have keep := (x : Seal); clear keep) | (have keep := (x : HostIf); clear keep) | clear_value x)
    | with_reducible apply Kept.ite
    | with_reducible apply State.sendWeir_kept
    | fail_if_no_progress (with_reducible refine Kept.frame ?_ (by rfl) (by rfl) (by rfl) (by rfl) (by rfl) (by rfl) (by first | exact Nat.le_refl _ | exact Nat.le_add_right _ _ | with_unfolding_all exact Nat.le_add_right _ _) (by rfl) (by rfl) (by rfl) (by first | exact fun y => y | (with_unfolding_all exact fun y => Mem.wf_writeLE _ _ _ _ y) | (with_unfolding_all exact fun y => Mem.wf_writeByte _ _ _ y) | (with_unfolding_all exact fun y => Mem.wf_clearRange _ _ _ y) | (with_unfolding_all exact fun _ => rfl)) (by first | exact fun y => y | (with_unfolding_all exact fun y => Sparse.wf_set _ _ _ _ y) | (with_unfolding_all exact fun _ => rfl)))

theorem planMsend_starts (c : Ctx) : Starts (planMsend c) := by
  unfold planMsend
  repeat any_goals first
    | with_reducible assumption
    | with_reducible exact Starts.pureOf _
    | with_reducible exact Starts.error _
    | with_reducible exact Starts.mustAll _
    | with_reducible exact Starts.of _
    | with_reducible refine Starts.ok (fun orig s h => ?_)
    | with_reducible refine Starts.bind (fun _ => ?_)
    | with_reducible refine Starts.ite ?_ ?_
    | (extract_lets +onlyGivenNames x; refine Kept.of (a := orig) (x := x) ?_ ?_; rotate_left; (intro hx; clear_value x); rotate_right; subst x)
    | (extract_lets +onlyGivenNames x; first | (have keep := (x : Hbm); clear keep) | (have keep := (x : Mgmt); clear keep) | (have keep := (x : Seal); clear keep) | (have keep := (x : HostIf); clear keep) | clear_value x)
    | with_reducible apply Kept.ite
    | with_reducible exact Starts.of _
    | fail_if_no_progress (with_reducible refine Kept.frame ?_ (by rfl) (by rfl) (by rfl) (by rfl) (by rfl) (by rfl) (by first | exact Nat.le_refl _ | exact Nat.le_add_right _ _ | with_unfolding_all exact Nat.le_add_right _ _) (by rfl) (by rfl) (by rfl) (by first | exact fun y => y | (with_unfolding_all exact fun y => Mem.wf_writeLE _ _ _ _ y) | (with_unfolding_all exact fun y => Mem.wf_writeByte _ _ _ y) | (with_unfolding_all exact fun y => Mem.wf_clearRange _ _ _ y) | (with_unfolding_all exact fun _ => rfl)) (by first | exact fun y => y | (with_unfolding_all exact fun y => Sparse.wf_set _ _ _ _ y) | (with_unfolding_all exact fun _ => rfl)))

theorem planOf_starts (op : Nat) (c : Ctx) : Starts (planOf op c) := by
  unfold planOf
  repeat any_goals first
    | with_reducible assumption
    | with_reducible exact Starts.pureOf _
    | with_reducible exact Starts.error _
    | with_reducible exact Starts.mustAll _
    | with_reducible exact Starts.of _
    | with_reducible refine Starts.ok (fun orig s h => ?_)
    | with_reducible refine Starts.bind (fun _ => ?_)
    | with_reducible refine Starts.ite ?_ ?_
    | with_reducible apply Kept.ite
    | with_reducible apply planTe_starts
    | with_reducible apply planRing_starts
    | with_reducible apply planFloat_starts
    | with_reducible apply planConv_starts
    | with_reducible apply planMatmul_starts
    | with_reducible apply planRiffle_starts
    | with_reducible apply planKsw_starts
    | with_reducible apply planRescale_starts
    | with_reducible apply planPbs_starts
    | with_reducible apply planExtract_starts
    | with_reducible apply planPack_starts
    | with_reducible apply planFreshet_starts
    | with_reducible apply planSluice_starts
    | with_reducible apply planToken_starts
    | with_reducible apply planPhase_starts
    | with_reducible apply planWeir_starts
    | with_reducible apply planMsend_starts
    | split

theorem State.lateVerdict_starts {s : State} {pb st : Nat} {q : QCmd} {p : Plan} (h : s.lateVerdict pb st q = .ready p) :
    ∀ orig s, Kept orig s → Kept orig (p.start s) := by
  revert h
  unfold State.lateVerdict
  dsimp only
  repeat any_goals split
  all_goals intro h
  all_goals first
    | (cases h; done)
    | (cases h; exact planOf_starts _ _ _ (by assumption))

theorem State.rejectCmd_kept {orig s : State} (h : Kept orig s) (pb : Nat) (st : Nat) (q : QCmd) (r : Reject) : Kept orig (State.rejectCmd s pb st q r) := by
  unfold State.rejectCmd
  repeat any_goals first
    | with_reducible assumption
    | intro s x h
    | (extract_lets +onlyGivenNames x; refine Kept.of (a := orig) (x := x) ?_ ?_; rotate_left; (intro hx; clear_value x); rotate_right; subst x)
    | (extract_lets +onlyGivenNames x; first | (have keep := (x : Hbm); clear keep) | (have keep := (x : Mgmt); clear keep) | (have keep := (x : Seal); clear keep) | (have keep := (x : HostIf); clear keep) | clear_value x)
    | with_reducible apply Kept.ite
    | with_reducible apply State.logBench_kept
    | with_reducible apply State.haltBench_kept
    | split

theorem State.postStream_kept {orig s : State} (h : Kept orig s) (pb : Nat) (w : CmdWord) : Kept orig (State.postStream s pb w) := by
  unfold State.postStream
  repeat any_goals first
    | with_reducible assumption
    | intro s x h
    | (extract_lets +onlyGivenNames x; refine Kept.of (a := orig) (x := x) ?_ ?_; rotate_left; (intro hx; clear_value x); rotate_right; subst x)
    | (extract_lets +onlyGivenNames x; first | (have keep := (x : Hbm); clear keep) | (have keep := (x : Mgmt); clear keep) | (have keep := (x : Seal); clear keep) | (have keep := (x : HostIf); clear keep) | clear_value x)
    | with_reducible apply Kept.ite
    | with_reducible apply State.setBench_kept
    | fail_if_no_progress (with_reducible refine Kept.frame ?_ (by rfl) (by rfl) (by rfl) (by rfl) (by rfl) (by rfl) (by first | exact Nat.le_refl _ | exact Nat.le_add_right _ _ | with_unfolding_all exact Nat.le_add_right _ _) (by rfl) (by rfl) (by rfl) (by first | exact fun y => y | (with_unfolding_all exact fun y => Mem.wf_writeLE _ _ _ _ y) | (with_unfolding_all exact fun y => Mem.wf_writeByte _ _ _ y) | (with_unfolding_all exact fun y => Mem.wf_clearRange _ _ _ y) | (with_unfolding_all exact fun _ => rfl)) (by first | exact fun y => y | (with_unfolding_all exact fun y => Sparse.wf_set _ _ _ _ y) | (with_unfolding_all exact fun _ => rfl)))
    | split

theorem State.passAwait_kept {orig s : State} (h : Kept orig s) (pb : Nat) (st : Nat) (q : QCmd) : Kept orig (State.passAwait s pb st q) := by
  unfold State.passAwait
  repeat any_goals first
    | with_reducible assumption
    | intro s x h
    | (extract_lets +onlyGivenNames x; refine Kept.of (a := orig) (x := x) ?_ ?_; rotate_left; (intro hx; clear_value x); rotate_right; subst x)
    | (extract_lets +onlyGivenNames x; first | (have keep := (x : Hbm); clear keep) | (have keep := (x : Mgmt); clear keep) | (have keep := (x : Seal); clear keep) | (have keep := (x : HostIf); clear keep) | clear_value x)
    | with_reducible apply Kept.ite
    | with_reducible apply State.onBench_kept
    | with_reducible apply State.postStream_kept
    | fail_if_no_progress (with_reducible refine Kept.frame ?_ (by rfl) (by rfl) (by rfl) (by rfl) (by rfl) (by rfl) (by first | exact Nat.le_refl _ | exact Nat.le_add_right _ _ | with_unfolding_all exact Nat.le_add_right _ _) (by rfl) (by rfl) (by rfl) (by first | exact fun y => y | (with_unfolding_all exact fun y => Mem.wf_writeLE _ _ _ _ y) | (with_unfolding_all exact fun y => Mem.wf_writeByte _ _ _ y) | (with_unfolding_all exact fun y => Mem.wf_clearRange _ _ _ y) | (with_unfolding_all exact fun _ => rfl)) (by first | exact fun y => y | (with_unfolding_all exact fun y => Sparse.wf_set _ _ _ _ y) | (with_unfolding_all exact fun _ => rfl)))
    | split

theorem State.issueNow_kept {orig s : State} (h : Kept orig s) (pb st : Nat) (q : QCmd) (p : Plan)
    (k : ∀ orig s, Kept orig s → Kept orig (p.start s)) : Kept orig (s.issueNow pb st q p) := by
  unfold State.issueNow
  repeat any_goals first
    | with_reducible assumption
    | with_reducible apply k
    | (extract_lets +onlyGivenNames x; refine Kept.of (a := orig) (x := x) ?_ ?_; rotate_left; (intro hx; clear_value x); rotate_right; subst x)
    | (extract_lets +onlyGivenNames x; clear_value x)
    | with_reducible apply Kept.ite
    | with_reducible apply State.onBench_kept
    | with_reducible apply State.progress_kept
    | with_reducible apply State.slAdvance_kept
    | with_reducible apply State.feed_kept
    | with_reducible apply State.retireNow_kept
    | with_reducible apply State.slResume_kept

theorem State.tryIssue_kept {orig s : State} (h : Kept orig s) (pb st : Nat) (q : QCmd) : Kept orig (s.tryIssue pb st q) := by
  unfold State.tryIssue
  split
  · exact h
  · split
    · exact State.haltBench_kept (State.benchUncorrectable_kept h ..) ..
    · split
      · exact State.rejectCmd_kept h ..
      · split
        · exact h
        · exact State.tokenError_kept h ..
        · have k := State.passAwait_kept h pb st q
          dsimp only
          split
          · exact State.rejectCmd_kept k ..
          · exact State.haltBench_kept (State.benchUncorrectable_kept k ..) ..
          · rename_i hv
            exact State.issueNow_kept k _ _ _ _ (State.lateVerdict_starts hv)
          · exact k

theorem State.issueOp_kept {orig s : State} (h : Kept orig s) (pb : Nat) (st : Nat) (op : Nat) : Kept orig (State.issueOp s pb st op) := by
  unfold State.issueOp
  repeat any_goals first
    | with_reducible assumption
    | intro s x h
    | with_reducible apply Kept.ite
    | with_reducible apply State.tryIssue_kept
    | fail_if_no_progress (with_reducible refine Kept.frame ?_ (by rfl) (by rfl) (by rfl) (by rfl) (by rfl) (by rfl) (by first | exact Nat.le_refl _ | exact Nat.le_add_right _ _ | with_unfolding_all exact Nat.le_add_right _ _) (by rfl) (by rfl) (by rfl) (by first | exact fun y => y | (with_unfolding_all exact fun y => Mem.wf_writeLE _ _ _ _ y) | (with_unfolding_all exact fun y => Mem.wf_writeByte _ _ _ y) | (with_unfolding_all exact fun y => Mem.wf_clearRange _ _ _ y) | (with_unfolding_all exact fun _ => rfl)) (by first | exact fun y => y | (with_unfolding_all exact fun y => Sparse.wf_set _ _ _ _ y) | (with_unfolding_all exact fun _ => rfl)))
    | split

theorem State.issueUndefined_kept {orig s : State} (h : Kept orig s) (pb : Nat) (st : Nat) : Kept orig (State.issueUndefined s pb st) := by
  unfold State.issueUndefined
  repeat any_goals first
    | with_reducible assumption
    | intro s x h
    | with_reducible apply Kept.ite
    | with_reducible apply State.tryIssue_kept
    | fail_if_no_progress (with_reducible refine Kept.frame ?_ (by rfl) (by rfl) (by rfl) (by rfl) (by rfl) (by rfl) (by first | exact Nat.le_refl _ | exact Nat.le_add_right _ _ | with_unfolding_all exact Nat.le_add_right _ _) (by rfl) (by rfl) (by rfl) (by first | exact fun y => y | (with_unfolding_all exact fun y => Mem.wf_writeLE _ _ _ _ y) | (with_unfolding_all exact fun y => Mem.wf_writeByte _ _ _ y) | (with_unfolding_all exact fun y => Mem.wf_clearRange _ _ _ y) | (with_unfolding_all exact fun _ => rfl)) (by first | exact fun y => y | (with_unfolding_all exact fun y => Sparse.wf_set _ _ _ _ y) | (with_unfolding_all exact fun _ => rfl)))
    | split

theorem State.benchTick_kept {orig s : State} (h : Kept orig s) (n : Nat) (pb : Nat) : Kept orig (State.benchTick s n pb) := by
  unfold State.benchTick
  repeat any_goals first
    | with_reducible assumption
    | intro s x h
    | (extract_lets +onlyGivenNames x; refine Kept.of (a := orig) (x := x) ?_ ?_; rotate_left; (intro hx; clear_value x); rotate_right; subst x)
    | (extract_lets +onlyGivenNames x; refine Kept.of (a := orig) (x := x.1) ?_ ?_; rotate_left; (intro hx; clear_value x); rotate_right; subst x)
    | (extract_lets +onlyGivenNames x; first | (have keep := (x : Hbm); clear keep) | (have keep := (x : Mgmt); clear keep) | (have keep := (x : Seal); clear keep) | (have keep := (x : HostIf); clear keep) | clear_value x)
    | with_reducible apply Kept.ite
    | with_reducible apply State.onBench_kept
    | with_reducible apply State.wr_kept
    | with_reducible apply State.bump_kept
    | with_reducible apply State.progress_kept
    | fail_if_no_progress (with_reducible refine Kept.frame ?_ (by rfl) (by rfl) (by rfl) (by rfl) (by rfl) (by rfl) (by first | exact Nat.le_refl _ | exact Nat.le_add_right _ _ | with_unfolding_all exact Nat.le_add_right _ _) (by rfl) (by rfl) (by rfl) (by first | exact fun y => y | (with_unfolding_all exact fun y => Mem.wf_writeLE _ _ _ _ y) | (with_unfolding_all exact fun y => Mem.wf_writeByte _ _ _ y) | (with_unfolding_all exact fun y => Mem.wf_clearRange _ _ _ y) | (with_unfolding_all exact fun _ => rfl)) (by first | exact fun y => y | (with_unfolding_all exact fun y => Sparse.wf_set _ _ _ _ y) | (with_unfolding_all exact fun _ => rfl)))
    | split

theorem State.tick_kept {orig s : State} (h : Kept orig s) : Kept orig (State.tick s) := by
  unfold State.tick
  repeat any_goals first
    | with_reducible assumption
    | intro s x h
    | (extract_lets +onlyGivenNames x; refine Kept.of (a := orig) (x := x) ?_ ?_; rotate_left; (intro hx; clear_value x); rotate_right; subst x)
    | (extract_lets +onlyGivenNames x; first | (have keep := (x : Hbm); clear keep) | (have keep := (x : Mgmt); clear keep) | (have keep := (x : Seal); clear keep) | (have keep := (x : HostIf); clear keep) | clear_value x)
    | with_reducible apply Kept.ite
    | with_reducible apply State.bump_kept
    | with_reducible apply State.benchTick_kept
    | with_reducible refine Kept.foldl ?_ (fun s x h => ?_)
    | fail_if_no_progress (with_reducible refine Kept.frame ?_ (by rfl) (by rfl) (by rfl) (by rfl) (by rfl) (by rfl) (by first | exact Nat.le_refl _ | exact Nat.le_add_right _ _ | with_unfolding_all exact Nat.le_add_right _ _) (by rfl) (by rfl) (by rfl) (by first | exact fun y => y | (with_unfolding_all exact fun y => Mem.wf_writeLE _ _ _ _ y) | (with_unfolding_all exact fun y => Mem.wf_writeByte _ _ _ y) | (with_unfolding_all exact fun y => Mem.wf_clearRange _ _ _ y) | (with_unfolding_all exact fun _ => rfl)) (by first | exact fun y => y | (with_unfolding_all exact fun y => Sparse.wf_set _ _ _ _ y) | (with_unfolding_all exact fun _ => rfl)))
    | split

theorem State.fetchLine_kept {orig s : State} (h : Kept orig s) (pb : Nat) : Kept orig (State.fetchLine s pb) := by
  unfold State.fetchLine
  repeat any_goals first
    | with_reducible assumption
    | intro s x h
    | (extract_lets +onlyGivenNames x; refine Kept.of (a := orig) (x := x) ?_ ?_; rotate_left; (intro hx; clear_value x); rotate_right; subst x)
    | (extract_lets +onlyGivenNames x; first | (have keep := (x : Hbm); clear keep) | (have keep := (x : Mgmt); clear keep) | (have keep := (x : Seal); clear keep) | (have keep := (x : HostIf); clear keep) | clear_value x)
    | with_reducible apply Kept.ite
    | with_reducible apply State.setBench_kept
    | fail_if_no_progress (with_reducible refine Kept.frame ?_ (by rfl) (by rfl) (by rfl) (by rfl) (by rfl) (by rfl) (by first | exact Nat.le_refl _ | exact Nat.le_add_right _ _ | with_unfolding_all exact Nat.le_add_right _ _) (by rfl) (by rfl) (by rfl) (by first | exact fun y => y | (with_unfolding_all exact fun y => Mem.wf_writeLE _ _ _ _ y) | (with_unfolding_all exact fun y => Mem.wf_writeByte _ _ _ y) | (with_unfolding_all exact fun y => Mem.wf_clearRange _ _ _ y) | (with_unfolding_all exact fun _ => rfl)) (by first | exact fun y => y | (with_unfolding_all exact fun y => Sparse.wf_set _ _ _ _ y) | (with_unfolding_all exact fun _ => rfl)))
    | split

theorem State.clearSnap_kept {orig s : State} (h : Kept orig s) (pb : Nat) : Kept orig (State.clearSnap s pb) := by
  unfold State.clearSnap
  repeat any_goals first
    | with_reducible assumption
    | intro s x h
    | with_reducible apply State.setReg_kept
    | with_reducible refine Kept.foldl ?_ (fun s x h => ?_)

theorem State.startBench_kept {orig s : State} (h : Kept orig s) (pb : Nat) : Kept orig (State.startBench s pb) := by
  unfold State.startBench
  repeat any_goals first
    | with_reducible assumption
    | intro s x h
    | (extract_lets +onlyGivenNames x; refine Kept.of (a := orig) (x := x) ?_ ?_; rotate_left; (intro hx; clear_value x); rotate_right; subst x)
    | (extract_lets +onlyGivenNames x; first | (have keep := (x : Hbm); clear keep) | (have keep := (x : Mgmt); clear keep) | (have keep := (x : Seal); clear keep) | (have keep := (x : HostIf); clear keep) | clear_value x)
    | with_reducible apply State.setBench_kept
    | with_reducible apply State.checkComplete_kept
    | with_reducible apply State.clearSnap_kept
    | with_reducible refine Kept.foldl ?_ (fun s x h => ?_)
    | fail_if_no_progress (with_reducible refine Kept.frame ?_ (by rfl) (by rfl) (by rfl) (by rfl) (by rfl) (by rfl) (by first | exact Nat.le_refl _ | exact Nat.le_add_right _ _ | with_unfolding_all exact Nat.le_add_right _ _) (by rfl) (by rfl) (by rfl) (by first | exact fun y => y | (with_unfolding_all exact fun y => Mem.wf_writeLE _ _ _ _ y) | (with_unfolding_all exact fun y => Mem.wf_writeByte _ _ _ y) | (with_unfolding_all exact fun y => Mem.wf_clearRange _ _ _ y) | (with_unfolding_all exact fun _ => rfl)) (by first | exact fun y => y | (with_unfolding_all exact fun y => Sparse.wf_set _ _ _ _ y) | (with_unfolding_all exact fun _ => rfl)))

theorem State.stopBench_kept {orig s : State} (h : Kept orig s) (pb : Nat) : Kept orig (State.stopBench s pb) := by
  unfold State.stopBench
  repeat any_goals first
    | with_reducible assumption
    | intro s x h
    | (extract_lets +onlyGivenNames x; refine Kept.of (a := orig) (x := x) ?_ ?_; rotate_left; (intro hx; clear_value x); rotate_right; subst x)
    | (extract_lets +onlyGivenNames x; first | (have keep := (x : Hbm); clear keep) | (have keep := (x : Mgmt); clear keep) | (have keep := (x : Seal); clear keep) | (have keep := (x : HostIf); clear keep) | clear_value x)
    | with_reducible apply Kept.ite
    | with_reducible apply State.setBench_kept
    | with_reducible apply State.haltBench_kept
    | fail_if_no_progress (with_reducible refine Kept.frame ?_ (by rfl) (by rfl) (by rfl) (by rfl) (by rfl) (by rfl) (by first | exact Nat.le_refl _ | exact Nat.le_add_right _ _ | with_unfolding_all exact Nat.le_add_right _ _) (by rfl) (by rfl) (by rfl) (by first | exact fun y => y | (with_unfolding_all exact fun y => Mem.wf_writeLE _ _ _ _ y) | (with_unfolding_all exact fun y => Mem.wf_writeByte _ _ _ y) | (with_unfolding_all exact fun y => Mem.wf_clearRange _ _ _ y) | (with_unfolding_all exact fun _ => rfl)) (by first | exact fun y => y | (with_unfolding_all exact fun y => Sparse.wf_set _ _ _ _ y) | (with_unfolding_all exact fun _ => rfl)))
    | split

theorem State.writeMaybe_kept {orig s : State} (h : Kept orig s) (base : Nat) (pb : Nat) (r : WRun) : Kept orig (State.writeMaybe base s pb r) := by
  unfold State.writeMaybe
  repeat any_goals first
    | with_reducible assumption
    | intro s x h
    | (extract_lets +onlyGivenNames x; refine Kept.of (a := orig) (x := x) ?_ ?_; rotate_left; (intro hx; clear_value x); rotate_right; subst x)
    | (extract_lets +onlyGivenNames x; refine Kept.of (a := orig) (x := x.1) ?_ ?_; rotate_left; (intro hx; clear_value x); rotate_right; subst x)
    | (extract_lets +onlyGivenNames x; refine Kept.of (a := orig) (x := x.2) ?_ ?_; rotate_left; (intro hx; clear_value x); rotate_right; subst x)
    | (extract_lets +onlyGivenNames x; first | (have keep := (x : Hbm); clear keep) | (have keep := (x : Mgmt); clear keep) | (have keep := (x : Seal); clear keep) | (have keep := (x : HostIf); clear keep) | clear_value x)
    | with_reducible apply Kept.ite
    | with_reducible apply State.onBench_kept
    | with_reducible refine Kept.foldl ?_ (fun s x h => ?_)
    | fail_if_no_progress (with_reducible refine Kept.frame ?_ (by rfl) (by rfl) (by rfl) (by rfl) (by rfl) (by rfl) (by first | exact Nat.le_refl _ | exact Nat.le_add_right _ _ | with_unfolding_all exact Nat.le_add_right _ _) (by rfl) (by rfl) (by rfl) (by first | exact fun y => y | (with_unfolding_all exact fun y => Mem.wf_writeLE _ _ _ _ y) | (with_unfolding_all exact fun y => Mem.wf_writeByte _ _ _ y) | (with_unfolding_all exact fun y => Mem.wf_clearRange _ _ _ y) | (with_unfolding_all exact fun _ => rfl)) (by first | exact fun y => y | (with_unfolding_all exact fun y => Sparse.wf_set _ _ _ _ y) | (with_unfolding_all exact fun _ => rfl)))
    | split

theorem State.abandonExec_kept {orig s : State} (h : Kept orig s) (base : Nat) (pb : Nat) (e : Exec) : Kept orig (State.abandonExec base s pb e) := by
  unfold State.abandonExec
  repeat any_goals first
    | with_reducible assumption
    | intro s x h
    | (extract_lets +onlyGivenNames x; refine Kept.of (a := orig) (x := x) ?_ ?_; rotate_left; (intro hx; clear_value x); rotate_right; subst x)
    | (extract_lets +onlyGivenNames x; first | (have keep := (x : Hbm); clear keep) | (have keep := (x : Mgmt); clear keep) | (have keep := (x : Seal); clear keep) | (have keep := (x : HostIf); clear keep) | clear_value x)
    | with_reducible apply Kept.ite
    | with_reducible apply State.writeMaybe_kept
    | with_reducible refine Kept.foldl ?_ (fun s x h => ?_)
    | split

theorem State.serveNow_kept {orig s : State} (h : Kept orig s) (pb : Nat) (side : FarSide) (id : Nat) : Kept orig (State.serveNow s pb side id) := by
  unfold State.serveNow
  repeat any_goals first
    | with_reducible assumption
    | intro s x h
    | with_reducible apply State.basinAccess_kept
    | with_reducible apply State.hbmAccess_kept
    | with_reducible apply State.peerArrival_kept
    | fail_if_no_progress (with_reducible refine Kept.frame ?_ (by rfl) (by rfl) (by rfl) (by rfl) (by rfl) (by rfl) (by first | exact Nat.le_refl _ | exact Nat.le_add_right _ _ | with_unfolding_all exact Nat.le_add_right _ _) (by rfl) (by rfl) (by rfl) (by first | exact fun y => y | (with_unfolding_all exact fun y => Mem.wf_writeLE _ _ _ _ y) | (with_unfolding_all exact fun y => Mem.wf_writeByte _ _ _ y) | (with_unfolding_all exact fun y => Mem.wf_clearRange _ _ _ y) | (with_unfolding_all exact fun _ => rfl)) (by first | exact fun y => y | (with_unfolding_all exact fun y => Sparse.wf_set _ _ _ _ y) | (with_unfolding_all exact fun _ => rfl)))
    | split

theorem State.abandonJob_kept {orig s : State} (h : Kept orig s) (base : Nat) (land : Nat → Bool) (inward : Bool) (pb : Nat)
    (j : SlJob) : Kept orig (State.abandonJob base land inward s pb j) := by
  unfold State.abandonJob
  split
  · exact h
  · extract_lets s1 tags s2 b got own words s3
    have h1 : Kept orig s1 := State.onBench_kept h ..
    have h2 : Kept orig s2 := Kept.foldl h1 (fun s x h => Kept.ite h (State.serveNow_kept h ..))
    have h3 : Kept orig s3 := Kept.foldl h2 (fun s x h => by
      split
      · split
        · exact State.onBench_kept h ..
        · exact Kept.freshen (State.onBench_kept h ..) (Nat.le_add_right s.fresh 8)
      · exact h)
    exact Kept.ite (Kept.foldl h1 (fun s x h => State.serveNow_kept h ..)) (Kept.ite h1 h3)

theorem State.clearCtx_kept {orig s : State} (h : Kept orig s) (pb : Nat) : Kept orig (State.clearCtx s pb) := by
  unfold State.clearCtx
  repeat any_goals first
    | with_reducible assumption
    | intro s x h
    | with_reducible apply State.setReg_kept
    | with_reducible apply State.clearSnap_kept

theorem State.benchReset_kept {orig s : State} (h : Kept orig s) (pb : Nat) : Kept orig (State.benchReset s pb) := by
  unfold State.benchReset
  repeat any_goals first
    | with_reducible assumption
    | intro s x h
    | (extract_lets +onlyGivenNames x; refine Kept.of (a := orig) (x := x) ?_ ?_; rotate_left; (intro hx; clear_value x); rotate_right; subst x)
    | (extract_lets +onlyGivenNames x; first | (have keep := (x : Hbm); clear keep) | (have keep := (x : Mgmt); clear keep) | (have keep := (x : Seal); clear keep) | (have keep := (x : HostIf); clear keep) | clear_value x)
    | with_reducible apply Kept.ite
    | with_reducible apply State.setBench_kept
    | fail_if_no_progress (with_reducible refine Kept.frame ?_ (by rfl) (by rfl) (by rfl) (by rfl) (by rfl) (by rfl) (by first | exact Nat.le_refl _ | exact Nat.le_add_right _ _ | with_unfolding_all exact Nat.le_add_right _ _) (by rfl) (by rfl) (by rfl) (by first | exact fun y => y | (with_unfolding_all exact fun y => Mem.wf_writeLE _ _ _ _ y) | (with_unfolding_all exact fun y => Mem.wf_writeByte _ _ _ y) | (with_unfolding_all exact fun y => Mem.wf_clearRange _ _ _ y) | (with_unfolding_all exact fun _ => rfl)) (by first | exact fun y => y | (with_unfolding_all exact fun y => Sparse.wf_set _ _ _ _ y) | (with_unfolding_all exact fun _ => rfl)))
    | split

theorem State.benchResetDone_kept {orig s : State} (h : Kept orig s) (pb : Nat) : Kept orig (State.benchResetDone s pb) := by
  unfold State.benchResetDone
  repeat any_goals first
    | with_reducible assumption
    | intro s x h
    | (extract_lets +onlyGivenNames x; refine Kept.of (a := orig) (x := x) ?_ ?_; rotate_left; (intro hx; clear_value x); rotate_right; subst x)
    | (extract_lets +onlyGivenNames x; first | (have keep := (x : Hbm); clear keep) | (have keep := (x : Mgmt); clear keep) | (have keep := (x : Seal); clear keep) | (have keep := (x : HostIf); clear keep) | clear_value x)
    | with_reducible apply Kept.ite
    | with_reducible apply State.onBench_kept
    | with_reducible apply State.abandonWaits_kept
    | with_reducible apply State.abandonExec_kept
    | with_reducible apply State.abandonJob_kept
    | with_reducible apply State.clearCtx_kept
    | with_reducible refine Kept.foldl ?_ (fun s x h => ?_)
    | fail_if_no_progress (with_reducible refine Kept.frame ?_ (by rfl) (by rfl) (by rfl) (by rfl) (by rfl) (by rfl) (by first | exact Nat.le_refl _ | exact Nat.le_add_right _ _ | with_unfolding_all exact Nat.le_add_right _ _) (by rfl) (by rfl) (by rfl) (by first | exact fun y => y | (with_unfolding_all exact fun y => Mem.wf_writeLE _ _ _ _ y) | (with_unfolding_all exact fun y => Mem.wf_writeByte _ _ _ y) | (with_unfolding_all exact fun y => Mem.wf_clearRange _ _ _ y) | (with_unfolding_all exact fun _ => rfl)) (by first | exact fun y => y | (with_unfolding_all exact fun y => Sparse.wf_set _ _ _ _ y) | (with_unfolding_all exact fun _ => rfl)))
    | split

theorem State.rinse_kept {orig s : State} (h : Kept orig s) (pb : Nat) : Kept orig (State.rinse s pb) := by
  unfold State.rinse
  repeat any_goals first
    | with_reducible assumption
    | intro s x h
    | (extract_lets +onlyGivenNames x; refine Kept.of (a := orig) (x := x) ?_ ?_; rotate_left; (intro hx; clear_value x); rotate_right; subst x)
    | (extract_lets +onlyGivenNames x; first | (have keep := (x : Hbm); clear keep) | (have keep := (x : Mgmt); clear keep) | (have keep := (x : Seal); clear keep) | (have keep := (x : HostIf); clear keep) | clear_value x)
    | with_reducible apply Kept.ite
    | with_reducible apply State.onBench_kept
    | with_reducible apply State.abandonWaits_kept
    | with_reducible apply State.rinseWeirs_kept
    | with_reducible apply State.abandonJob_kept
    | with_reducible apply State.clearCtx_kept
    | with_reducible refine Kept.foldl ?_ (fun s x h => ?_)
    | fail_if_no_progress (with_reducible refine Kept.frame ?_ (by rfl) (by rfl) (by rfl) (by rfl) (by rfl) (by rfl) (by first | exact Nat.le_refl _ | exact Nat.le_add_right _ _ | with_unfolding_all exact Nat.le_add_right _ _) (by rfl) (by rfl) (by rfl) (by first | exact fun y => y | (with_unfolding_all exact fun y => Mem.wf_writeLE _ _ _ _ y) | (with_unfolding_all exact fun y => Mem.wf_writeByte _ _ _ y) | (with_unfolding_all exact fun y => Mem.wf_clearRange _ _ _ y) | (with_unfolding_all exact fun _ => rfl)) (by first | exact fun y => y | (with_unfolding_all exact fun y => Sparse.wf_set _ _ _ _ y) | (with_unfolding_all exact fun _ => rfl)))
    | split

theorem State.rinseMessages_kept {orig s : State} (h : Kept orig s) (pb : Nat) : Kept orig (State.rinseMessages s pb) := by
  unfold State.rinseMessages
  repeat any_goals first
    | with_reducible assumption
    | intro s x h
    | (extract_lets +onlyGivenNames x; refine Kept.of (a := orig) (x := x) ?_ ?_; rotate_left; (intro hx; clear_value x); rotate_right; subst x)
    | (extract_lets +onlyGivenNames x; first | (have keep := (x : Hbm); clear keep) | (have keep := (x : Mgmt); clear keep) | (have keep := (x : Seal); clear keep) | (have keep := (x : HostIf); clear keep) | clear_value x)
    | with_reducible apply State.setReg_kept
    | with_reducible apply State.setCnt_kept
    | with_reducible apply State.wr_kept
    | with_reducible apply State.wrB_kept
    | with_reducible refine Kept.foldl ?_ (fun s x h => ?_)

theorem State.rinseComplete_kept {orig s : State} (h : Kept orig s) (pb : Nat) : Kept orig (State.rinseComplete s pb) := by
  unfold State.rinseComplete
  repeat any_goals first
    | with_reducible assumption
    | intro s x h
    | (extract_lets +onlyGivenNames x; refine Kept.of (a := orig) (x := x) ?_ ?_; rotate_left; (intro hx; clear_value x); rotate_right; subst x)
    | (extract_lets +onlyGivenNames x; first | (have keep := (x : Hbm); clear keep) | (have keep := (x : Mgmt); clear keep) | (have keep := (x : Seal); clear keep) | (have keep := (x : HostIf); clear keep) | clear_value x)
    | with_reducible apply Kept.ite
    | with_reducible apply State.setBench_kept
    | with_reducible apply State.rinseMessages_kept
    | fail_if_no_progress (with_reducible refine Kept.frame ?_ (by rfl) (by rfl) (by rfl) (by rfl) (by rfl) (by rfl) (by first | exact Nat.le_refl _ | exact Nat.le_add_right _ _ | with_unfolding_all exact Nat.le_add_right _ _) (by rfl) (by rfl) (by rfl) (by first | exact fun y => y | (with_unfolding_all exact fun y => Mem.wf_writeLE _ _ _ _ y) | (with_unfolding_all exact fun y => Mem.wf_writeByte _ _ _ y) | (with_unfolding_all exact fun y => Mem.wf_clearRange _ _ _ y) | (with_unfolding_all exact fun _ => rfl)) (by first | exact fun y => y | (with_unfolding_all exact fun y => Sparse.wf_set _ _ _ _ y) | (with_unfolding_all exact fun _ => rfl)))
    | split

theorem State.setHbmWord_fresh (s : State) (a v : Nat) (p : Bool) : (s.setHbmWord a v p).fresh = s.fresh := by
  unfold State.setHbmWord
  split <;> rfl

theorem State.freeFar_kept {orig s : State} (h : Kept orig s) (pb : Nat) (e : Exec) : Kept orig (s.freeFar pb e) := by
  unfold State.freeFar
  dsimp only
  split
  · exact Kept.foldl h (fun s x h => Kept.freshen (State.setBasin_kept h ..) (Nat.le_add_right s.fresh 8))
  · exact Kept.foldl h (fun s x h => Kept.freshen (State.setHbmWord_kept h ..)
      (by rw [State.setHbmWord_fresh]; exact Nat.le_add_right _ _))
  · exact h

theorem State.freeEntries_kept {orig s : State} (h : Kept orig s) (pb : Nat) (e : Exec) : Kept orig (State.freeEntries s pb e) := by
  unfold State.freeEntries
  repeat any_goals first
    | with_reducible assumption
    | intro s x h
    | fail_if_no_progress (with_reducible refine Kept.frame ?_ (by rfl) (by rfl) (by rfl) (by rfl) (by rfl) (by rfl) (by first | exact Nat.le_refl _ | exact Nat.le_add_right _ _ | with_unfolding_all exact Nat.le_add_right _ _) (by rfl) (by rfl) (by rfl) (by first | exact fun y => y | (with_unfolding_all exact fun y => Mem.wf_writeLE _ _ _ _ y) | (with_unfolding_all exact fun y => Mem.wf_writeByte _ _ _ y) | (with_unfolding_all exact fun y => Mem.wf_clearRange _ _ _ y) | (with_unfolding_all exact fun _ => rfl)) (by first | exact fun y => y | (with_unfolding_all exact fun y => Sparse.wf_set _ _ _ _ y) | (with_unfolding_all exact fun _ => rfl)))
    | (extract_lets +onlyGivenNames x; refine Kept.of (a := orig) (x := x) ?_ ?_; rotate_left; (intro hx; clear_value x); rotate_right; subst x)
    | (extract_lets +onlyGivenNames x; refine Kept.of (a := orig) (x := x.1) ?_ ?_; rotate_left; (intro hx; clear_value x); rotate_right; subst x)
    | (extract_lets +onlyGivenNames x; refine Kept.of (a := orig) (x := x.2) ?_ ?_; rotate_left; (intro hx; clear_value x); rotate_right; subst x)
    | (extract_lets +onlyGivenNames x; first | (have keep := (x : Hbm); clear keep) | (have keep := (x : Mgmt); clear keep) | (have keep := (x : Seal); clear keep) | (have keep := (x : HostIf); clear keep) | clear_value x)
    | with_reducible apply Kept.ite
    | with_reducible apply State.onBench_kept
    | with_reducible refine Kept.foldl ?_ (fun s x h => ?_)
    | split

theorem State.abandonWaits_fresh (s : State) (pb : Nat) : (s.abandonWaits pb).fresh = s.fresh := by
  unfold State.abandonWaits
  dsimp only
  generalize s.benches.map Prod.fst = l
  induction l generalizing s with
  | nil => rfl
  | cons k l ih => exact ih _

theorem State.benchHwFailure_kept {orig s : State} (h : Kept orig s) (pb : Nat) : Kept orig (s.benchHwFailure pb) := by
  unfold State.benchHwFailure
  extract_lets b s1 b1 slots ae n b2 b3
  have h1 : Kept orig s1 := Kept.foldl h (fun s e h => by
    have k := State.freeEntries_kept h pb e
    exact Kept.ite (State.freeFar_kept k ..) k)
  exact Kept.freshen (State.abandonWaits_kept (State.setBench_kept h1 ..) _)
    (by rw [State.abandonWaits_fresh]; exact Nat.le_add_right s1.fresh 2)

theorem State.phaseDrained_kept {orig s : State} (h : Kept orig s) (pb : Nat) : Kept orig (State.phaseDrained s pb) := by
  unfold State.phaseDrained
  repeat any_goals first
    | with_reducible assumption
    | intro s x h
    | (extract_lets +onlyGivenNames x; refine Kept.of (a := orig) (x := x) ?_ ?_; rotate_left; (intro hx; clear_value x); rotate_right; subst x)
    | (extract_lets +onlyGivenNames x; first | (have keep := (x : Hbm); clear keep) | (have keep := (x : Mgmt); clear keep) | (have keep := (x : Seal); clear keep) | (have keep := (x : HostIf); clear keep) | clear_value x)
    | with_reducible apply Kept.ite
    | with_reducible apply State.setBench_kept
    | fail_if_no_progress (with_reducible refine Kept.frame ?_ (by rfl) (by rfl) (by rfl) (by rfl) (by rfl) (by rfl) (by first | exact Nat.le_refl _ | exact Nat.le_add_right _ _ | with_unfolding_all exact Nat.le_add_right _ _) (by rfl) (by rfl) (by rfl) (by first | exact fun y => y | (with_unfolding_all exact fun y => Mem.wf_writeLE _ _ _ _ y) | (with_unfolding_all exact fun y => Mem.wf_writeByte _ _ _ y) | (with_unfolding_all exact fun y => Mem.wf_clearRange _ _ _ y) | (with_unfolding_all exact fun _ => rfl)) (by first | exact fun y => y | (with_unfolding_all exact fun y => Sparse.wf_set _ _ _ _ y) | (with_unfolding_all exact fun _ => rfl)))
    | split

theorem State.phaseDone_kept {orig s : State} (h : Kept orig s) (pb : Nat) : Kept orig (State.phaseDone s pb) := by
  unfold State.phaseDone
  repeat any_goals first
    | with_reducible assumption
    | intro s x h
    | (extract_lets +onlyGivenNames x; refine Kept.of (a := orig) (x := x) ?_ ?_; rotate_left; (intro hx; clear_value x); rotate_right; subst x)
    | (extract_lets +onlyGivenNames x; first | (have keep := (x : Hbm); clear keep) | (have keep := (x : Mgmt); clear keep) | (have keep := (x : Seal); clear keep) | (have keep := (x : HostIf); clear keep) | clear_value x)
    | with_reducible apply Kept.ite
    | with_reducible apply State.setBench_kept
    | with_reducible apply State.onBench_kept
    | with_reducible apply State.retireNow_kept
    | fail_if_no_progress (with_reducible refine Kept.frame ?_ (by rfl) (by rfl) (by rfl) (by rfl) (by rfl) (by rfl) (by first | exact Nat.le_refl _ | exact Nat.le_add_right _ _ | with_unfolding_all exact Nat.le_add_right _ _) (by rfl) (by rfl) (by rfl) (by first | exact fun y => y | (with_unfolding_all exact fun y => Mem.wf_writeLE _ _ _ _ y) | (with_unfolding_all exact fun y => Mem.wf_writeByte _ _ _ y) | (with_unfolding_all exact fun y => Mem.wf_clearRange _ _ _ y) | (with_unfolding_all exact fun _ => rfl)) (by first | exact fun y => y | (with_unfolding_all exact fun y => Sparse.wf_set _ _ _ _ y) | (with_unfolding_all exact fun _ => rfl)))
    | split

theorem State.stallReached_kept {orig s : State} (h : Kept orig s) (pb : Nat) : Kept orig (State.stallReached s pb) := by
  unfold State.stallReached
  repeat any_goals first
    | with_reducible assumption
    | intro s x h
    | (extract_lets +onlyGivenNames x; refine Kept.of (a := orig) (x := x) ?_ ?_; rotate_left; (intro hx; clear_value x); rotate_right; subst x)
    | (extract_lets +onlyGivenNames x; refine Kept.of (a := orig) (x := x.1) ?_ ?_; rotate_left; (intro hx; clear_value x); rotate_right; subst x)
    | (extract_lets +onlyGivenNames x; refine Kept.of (a := orig) (x := x.2) ?_ ?_; rotate_left; (intro hx; clear_value x); rotate_right; subst x)
    | (extract_lets +onlyGivenNames x; first | (have keep := (x : Hbm); clear keep) | (have keep := (x : Mgmt); clear keep) | (have keep := (x : Seal); clear keep) | (have keep := (x : HostIf); clear keep) | clear_value x)
    | with_reducible apply Kept.ite
    | with_reducible apply State.setReg_kept
    | with_reducible apply State.wr_kept
    | with_reducible apply State.logBench_kept
    | with_reducible apply State.haltBench_kept
    | with_reducible refine Kept.foldl ?_ (fun s x h => ?_)
    | split

theorem State.streamStart_kept {orig s : State} (h : Kept orig s) (pb : Nat) : Kept orig (State.streamStart s pb) := by
  unfold State.streamStart
  repeat any_goals first
    | with_reducible assumption
    | intro s x h
    | (extract_lets +onlyGivenNames x; refine Kept.of (a := orig) (x := x) ?_ ?_; rotate_left; (intro hx; clear_value x); rotate_right; subst x)
    | (extract_lets +onlyGivenNames x; first | (have keep := (x : Hbm); clear keep) | (have keep := (x : Mgmt); clear keep) | (have keep := (x : Seal); clear keep) | (have keep := (x : HostIf); clear keep) | clear_value x)
    | with_reducible apply Kept.ite
    | with_reducible apply State.setBench_kept
    | with_reducible apply State.bump_kept
    | fail_if_no_progress (with_reducible refine Kept.frame ?_ (by rfl) (by rfl) (by rfl) (by rfl) (by rfl) (by rfl) (by first | exact Nat.le_refl _ | exact Nat.le_add_right _ _ | with_unfolding_all exact Nat.le_add_right _ _) (by rfl) (by rfl) (by rfl) (by first | exact fun y => y | (with_unfolding_all exact fun y => Mem.wf_writeLE _ _ _ _ y) | (with_unfolding_all exact fun y => Mem.wf_writeByte _ _ _ y) | (with_unfolding_all exact fun y => Mem.wf_clearRange _ _ _ y) | (with_unfolding_all exact fun _ => rfl)) (by first | exact fun y => y | (with_unfolding_all exact fun y => Sparse.wf_set _ _ _ _ y) | (with_unfolding_all exact fun _ => rfl)))
    | split

theorem State.unitDeliver_kept {orig s : State} (h : Kept orig s) (pb : Nat) (ecc : Ecc) : Kept orig (State.unitDeliver s pb ecc) := by
  unfold State.unitDeliver
  repeat any_goals first
    | with_reducible assumption
    | intro s x h
    | (extract_lets +onlyGivenNames x; refine Kept.of (a := orig) (x := x) ?_ ?_; rotate_left; (intro hx; clear_value x); rotate_right; subst x)
    | (extract_lets +onlyGivenNames x; first | (have keep := (x : Hbm); clear keep) | (have keep := (x : Mgmt); clear keep) | (have keep := (x : Seal); clear keep) | (have keep := (x : HostIf); clear keep) | clear_value x)
    | with_reducible apply Kept.ite
    | with_reducible apply State.setBench_kept
    | with_reducible apply State.bump_kept
    | with_reducible apply State.basinCorrected_kept
    | with_reducible apply State.hbmCorrected_kept
    | with_reducible apply State.feed_kept
    | fail_if_no_progress (with_reducible refine Kept.frame ?_ (by rfl) (by rfl) (by rfl) (by rfl) (by rfl) (by rfl) (by first | exact Nat.le_refl _ | exact Nat.le_add_right _ _ | with_unfolding_all exact Nat.le_add_right _ _) (by rfl) (by rfl) (by rfl) (by first | exact fun y => y | (with_unfolding_all exact fun y => Mem.wf_writeLE _ _ _ _ y) | (with_unfolding_all exact fun y => Mem.wf_writeByte _ _ _ y) | (with_unfolding_all exact fun y => Mem.wf_clearRange _ _ _ y) | (with_unfolding_all exact fun _ => rfl)) (by first | exact fun y => y | (with_unfolding_all exact fun y => Sparse.wf_set _ _ _ _ y) | (with_unfolding_all exact fun _ => rfl)))
    | split

theorem State.settleAvail_kept {orig s : State} (h : Kept orig s) (g : Nat) : Kept orig (State.settleAvail s g) := by
  unfold State.settleAvail
  repeat any_goals first
    | with_reducible assumption
    | intro s x h
    | (extract_lets +onlyGivenNames x; refine Kept.of (a := orig) (x := x) ?_ ?_; rotate_left; (intro hx; clear_value x); rotate_right; subst x)
    | (extract_lets +onlyGivenNames x; first | (have keep := (x : Hbm); clear keep) | (have keep := (x : Mgmt); clear keep) | (have keep := (x : Seal); clear keep) | (have keep := (x : HostIf); clear keep) | clear_value x)
    | with_reducible apply Kept.ite
    | with_reducible apply State.wr_kept
    | split

theorem State.selfTestDone_kept {orig s : State} (h : Kept orig s) (pb : Nat) (pass : Bool) : Kept orig (State.selfTestDone s pb pass) := by
  unfold State.selfTestDone
  repeat any_goals first
    | with_reducible assumption
    | intro s x h
    | (extract_lets +onlyGivenNames x; refine Kept.of (a := orig) (x := x) ?_ ?_; rotate_left; (intro hx; clear_value x); rotate_right; subst x)
    | (extract_lets +onlyGivenNames x; first | (have keep := (x : Hbm); clear keep) | (have keep := (x : Mgmt); clear keep) | (have keep := (x : Seal); clear keep) | (have keep := (x : HostIf); clear keep) | clear_value x)
    | with_reducible apply Kept.ite
    | with_reducible apply State.onBench_kept
    | with_reducible apply State.wrB_kept
    | with_reducible apply State.settleAvail_kept
    | fail_if_no_progress (with_reducible refine Kept.frame ?_ (by rfl) (by rfl) (by rfl) (by rfl) (by rfl) (by rfl) (by first | exact Nat.le_refl _ | exact Nat.le_add_right _ _ | with_unfolding_all exact Nat.le_add_right _ _) (by rfl) (by rfl) (by rfl) (by first | exact fun y => y | (with_unfolding_all exact fun y => Mem.wf_writeLE _ _ _ _ y) | (with_unfolding_all exact fun y => Mem.wf_writeByte _ _ _ y) | (with_unfolding_all exact fun y => Mem.wf_clearRange _ _ _ y) | (with_unfolding_all exact fun _ => rfl)) (by first | exact fun y => y | (with_unfolding_all exact fun y => Sparse.wf_set _ _ _ _ y) | (with_unfolding_all exact fun _ => rfl)))
    | split

theorem State.gateOff_kept {orig s : State} (h : Kept orig s) (g : Nat) : Kept orig (State.gateOff s g) := by
  unfold State.gateOff
  repeat any_goals first
    | with_reducible assumption
    | intro s x h
    | (extract_lets +onlyGivenNames x; refine Kept.of (a := orig) (x := x) ?_ ?_; rotate_left; (intro hx; clear_value x); rotate_right; subst x)
    | (extract_lets +onlyGivenNames x; first | (have keep := (x : Hbm); clear keep) | (have keep := (x : Mgmt); clear keep) | (have keep := (x : Seal); clear keep) | (have keep := (x : HostIf); clear keep) | clear_value x)
    | with_reducible apply Kept.ite
    | with_reducible apply State.onBench_kept
    | with_reducible apply State.wr_kept
    | with_reducible apply State.settleAvail_kept
    | with_reducible refine Kept.foldl ?_ (fun s x h => ?_)
    | fail_if_no_progress (with_reducible refine Kept.frame ?_ (by rfl) (by rfl) (by rfl) (by rfl) (by rfl) (by rfl) (by first | exact Nat.le_refl _ | exact Nat.le_add_right _ _ | with_unfolding_all exact Nat.le_add_right _ _) (by rfl) (by rfl) (by rfl) (by first | exact fun y => y | (with_unfolding_all exact fun y => Mem.wf_writeLE _ _ _ _ y) | (with_unfolding_all exact fun y => Mem.wf_writeByte _ _ _ y) | (with_unfolding_all exact fun y => Mem.wf_clearRange _ _ _ y) | (with_unfolding_all exact fun _ => rfl)) (by first | exact fun y => y | (with_unfolding_all exact fun y => Sparse.wf_set _ _ _ _ y) | (with_unfolding_all exact fun _ => rfl)))
    | split

theorem State.gateOn_kept {orig s : State} (h : Kept orig s) (g : Nat) : Kept orig (State.gateOn s g) := by
  unfold State.gateOn
  repeat any_goals first
    | with_reducible assumption
    | intro s x h
    | (extract_lets +onlyGivenNames x; refine Kept.of (a := orig) (x := x) ?_ ?_; rotate_left; (intro hx; clear_value x); rotate_right; subst x)
    | (extract_lets +onlyGivenNames x; first | (have keep := (x : Hbm); clear keep) | (have keep := (x : Mgmt); clear keep) | (have keep := (x : Seal); clear keep) | (have keep := (x : HostIf); clear keep) | clear_value x)
    | with_reducible apply Kept.ite
    | with_reducible apply State.wr_kept
    | split

theorem State.substitute_kept {orig s : State} (h : Kept orig s) (l : Nat) (slot : Nat) (pass : Bool) : Kept orig (State.substitute s l slot pass) := by
  unfold State.substitute
  repeat any_goals first
    | with_reducible assumption
    | intro s x h
    | (extract_lets +onlyGivenNames x; refine Kept.of (a := orig) (x := x) ?_ ?_; rotate_left; (intro hx; clear_value x); rotate_right; subst x)
    | (extract_lets +onlyGivenNames x; first | (have keep := (x : Hbm); clear keep) | (have keep := (x : Mgmt); clear keep) | (have keep := (x : Seal); clear keep) | (have keep := (x : HostIf); clear keep) | clear_value x)
    | with_reducible apply Kept.ite
    | with_reducible apply State.onBench_kept
    | with_reducible apply State.wr_kept
    | with_reducible apply State.wrB_kept
    | with_reducible apply State.log_kept
    | with_reducible apply State.settleAvail_kept
    | fail_if_no_progress (with_reducible refine Kept.frame ?_ (by rfl) (by rfl) (by rfl) (by rfl) (by rfl) (by rfl) (by first | exact Nat.le_refl _ | exact Nat.le_add_right _ _ | with_unfolding_all exact Nat.le_add_right _ _) (by rfl) (by rfl) (by rfl) (by first | exact fun y => y | (with_unfolding_all exact fun y => Mem.wf_writeLE _ _ _ _ y) | (with_unfolding_all exact fun y => Mem.wf_writeByte _ _ _ y) | (with_unfolding_all exact fun y => Mem.wf_clearRange _ _ _ y) | (with_unfolding_all exact fun _ => rfl)) (by first | exact fun y => y | (with_unfolding_all exact fun y => Sparse.wf_set _ _ _ _ y) | (with_unfolding_all exact fun _ => rfl)))
    | split

theorem State.onFm_kept {orig s : State} (h : Kept orig s) (pb : Nat) (f : Foreman → Foreman) : Kept orig (State.onFm s pb f) := by
  unfold State.onFm
  repeat any_goals first
    | with_reducible assumption
    | intro s x h
    | with_reducible apply State.onBench_kept
    | fail_if_no_progress (with_reducible refine Kept.frame ?_ (by rfl) (by rfl) (by rfl) (by rfl) (by rfl) (by rfl) (by first | exact Nat.le_refl _ | exact Nat.le_add_right _ _ | with_unfolding_all exact Nat.le_add_right _ _) (by rfl) (by rfl) (by rfl) (by first | exact fun y => y | (with_unfolding_all exact fun y => Mem.wf_writeLE _ _ _ _ y) | (with_unfolding_all exact fun y => Mem.wf_writeByte _ _ _ y) | (with_unfolding_all exact fun y => Mem.wf_clearRange _ _ _ y) | (with_unfolding_all exact fun _ => rfl)) (by first | exact fun y => y | (with_unfolding_all exact fun y => Sparse.wf_set _ _ _ _ y) | (with_unfolding_all exact fun _ => rfl)))

theorem State.fmTrap_kept {orig s : State} (h : Kept orig s) (pb : Nat) (cause : Nat) (tval : Option Nat) : Kept orig (State.fmTrap s pb cause tval) := by
  unfold State.fmTrap
  repeat any_goals first
    | with_reducible assumption
    | intro s x h
    | fail_if_no_progress (with_reducible refine Kept.frame ?_ (by rfl) (by rfl) (by rfl) (by rfl) (by rfl) (by rfl) (by first | exact Nat.le_refl _ | exact Nat.le_add_right _ _ | with_unfolding_all exact Nat.le_add_right _ _) (by rfl) (by rfl) (by rfl) (by first | exact fun y => y | (with_unfolding_all exact fun y => Mem.wf_writeLE _ _ _ _ y) | (with_unfolding_all exact fun y => Mem.wf_writeByte _ _ _ y) | (with_unfolding_all exact fun y => Mem.wf_clearRange _ _ _ y) | (with_unfolding_all exact fun _ => rfl)) (by first | exact fun y => y | (with_unfolding_all exact fun y => Sparse.wf_set _ _ _ _ y) | (with_unfolding_all exact fun _ => rfl)))
    | (extract_lets +onlyGivenNames x; refine Kept.of (a := orig) (x := x) ?_ ?_; rotate_left; (intro hx; clear_value x); rotate_right; subst x)
    | (extract_lets +onlyGivenNames x; first | (have keep := (x : Hbm); clear keep) | (have keep := (x : Mgmt); clear keep) | (have keep := (x : Seal); clear keep) | (have keep := (x : HostIf); clear keep) | clear_value x)
    | with_reducible apply State.onFm_kept

theorem State.fmBad_kept {orig s : State} (h : Kept orig s) (pb : Nat) (mem : Nat) (cause : Nat) (addr : Nat) : Kept orig (State.fmBad s pb mem cause addr) := by
  unfold State.fmBad
  repeat any_goals first
    | with_reducible assumption
    | intro s x h
    | with_reducible apply State.benchUncorrectable_kept
    | with_reducible apply State.fmTrap_kept

theorem State.fmInstr_kept {orig s : State} (h : Kept orig s) (pb : Nat) : Kept orig (State.fmInstr s pb) := by
  unfold State.fmInstr
  repeat any_goals first
    | with_reducible assumption
    | intro s x h
    | (extract_lets +onlyGivenNames x; refine Kept.of (a := orig) (x := x) ?_ ?_; rotate_left; (intro hx; clear_value x); rotate_right; subst x)
    | (extract_lets +onlyGivenNames x; refine Kept.of (a := orig) (x := x.1) ?_ ?_; rotate_left; (intro hx; clear_value x); rotate_right; subst x)
    | (extract_lets +onlyGivenNames x; refine Kept.of (a := orig) (x := x.2) ?_ ?_; rotate_left; (intro hx; clear_value x); rotate_right; subst x)
    | (extract_lets +onlyGivenNames x; first | (have keep := (x : Hbm); clear keep) | (have keep := (x : Mgmt); clear keep) | (have keep := (x : Seal); clear keep) | (have keep := (x : HostIf); clear keep) | clear_value x)
    | with_reducible apply Kept.ite
    | with_reducible apply State.setBench_kept
    | with_reducible apply State.retire_kept
    | with_reducible apply State.onFm_kept
    | with_reducible apply State.fmTrap_kept
    | with_reducible apply State.fmBad_kept
    | fail_if_no_progress (with_reducible refine Kept.frame ?_ (by rfl) (by rfl) (by rfl) (by rfl) (by rfl) (by rfl) (by first | exact Nat.le_refl _ | exact Nat.le_add_right _ _ | with_unfolding_all exact Nat.le_add_right _ _) (by rfl) (by rfl) (by rfl) (by first | exact fun y => y | (with_unfolding_all exact fun y => Mem.wf_writeLE _ _ _ _ y) | (with_unfolding_all exact fun y => Mem.wf_writeByte _ _ _ y) | (with_unfolding_all exact fun y => Mem.wf_clearRange _ _ _ y) | (with_unfolding_all exact fun _ => rfl)) (by first | exact fun y => y | (with_unfolding_all exact fun y => Sparse.wf_set _ _ _ _ y) | (with_unfolding_all exact fun _ => rfl)))
    | split

theorem State.xcPush_kept {orig s : State} (h : Kept orig s) (pb : Nat) (x : XcArgs) (mem : Bool) : KeptX orig (State.xcPush s pb x mem) := by
  unfold State.xcPush
  repeat any_goals first
    | with_reducible assumption
    | intro s x h
    | (extract_lets +onlyGivenNames x; refine Kept.of (a := orig) (x := x) ?_ ?_; rotate_left; (intro hx; clear_value x); rotate_right; subst x)
    | (extract_lets +onlyGivenNames x; first | (have keep := (x : Hbm); clear keep) | (have keep := (x : Mgmt); clear keep) | (have keep := (x : Seal); clear keep) | (have keep := (x : HostIf); clear keep) | clear_value x)
    | with_reducible apply Kept.ite
    | with_reducible exact KeptX.illegal
    | with_reducible exact KeptX.fault
    | with_reducible refine KeptX.stall ?_
    | with_reducible refine KeptX.retire ?_
    | with_reducible refine KeptX.ite ?_ ?_
    | with_reducible apply State.setBench_kept
    | with_reducible apply State.enqueue_kept
    | with_reducible apply State.retire_kept
    | split

theorem State.xcTable_kept {orig s : State} (h : Kept orig s) (pb : Nat) (x : XcArgs) (write : Bool) : KeptX orig (State.xcTable s pb x write) := by
  unfold State.xcTable
  repeat any_goals first
    | with_reducible assumption
    | intro s x h
    | (extract_lets +onlyGivenNames x; refine Kept.of (a := orig) (x := x) ?_ ?_; rotate_left; (intro hx; clear_value x); rotate_right; subst x)
    | (extract_lets +onlyGivenNames x; first | (have keep := (x : Hbm); clear keep) | (have keep := (x : Mgmt); clear keep) | (have keep := (x : Seal); clear keep) | (have keep := (x : HostIf); clear keep) | clear_value x)
    | with_reducible apply Kept.ite
    | with_reducible exact KeptX.illegal
    | with_reducible exact KeptX.fault
    | with_reducible refine KeptX.stall ?_
    | with_reducible refine KeptX.retire ?_
    | with_reducible refine KeptX.ite ?_ ?_
    | with_reducible apply State.setBench_kept
    | with_reducible apply State.retire_kept
    | split

theorem State.xcTkpost_kept {orig s : State} (h : Kept orig s) (pb : Nat) (x : XcArgs) : KeptX orig (State.xcTkpost s pb x) := by
  unfold State.xcTkpost
  repeat any_goals first
    | with_reducible assumption
    | intro s x h
    | with_reducible apply Kept.ite
    | with_reducible exact KeptX.illegal
    | with_reducible exact KeptX.fault
    | with_reducible refine KeptX.stall ?_
    | with_reducible refine KeptX.retire ?_
    | with_reducible refine KeptX.ite ?_ ?_
    | with_reducible apply State.postToken_kept
    | with_reducible apply State.retire_kept
    | split

theorem State.xcTk_kept {orig s : State} (h : Kept orig s) (pb : Nat) (x : XcArgs) (wait : Bool) : KeptX orig (State.xcTk s pb x wait) := by
  unfold State.xcTk
  repeat any_goals first
    | with_reducible assumption
    | intro s x h
    | (extract_lets +onlyGivenNames x; refine Kept.of (a := orig) (x := x) ?_ ?_; rotate_left; (intro hx; clear_value x); rotate_right; subst x)
    | (extract_lets +onlyGivenNames x; first | (have keep := (x : Hbm); clear keep) | (have keep := (x : Mgmt); clear keep) | (have keep := (x : Seal); clear keep) | (have keep := (x : HostIf); clear keep) | clear_value x)
    | with_reducible apply Kept.ite
    | with_reducible exact KeptX.illegal
    | with_reducible exact KeptX.fault
    | with_reducible refine KeptX.stall ?_
    | with_reducible refine KeptX.retire ?_
    | with_reducible refine KeptX.ite ?_ ?_
    | with_reducible apply State.setBench_kept
    | with_reducible apply State.retire_kept
    | split

theorem State.xcWeir_kept {orig s : State} (h : Kept orig s) (pb : Nat) (x : XcArgs) (op : WeirOp) : KeptX orig (State.xcWeir s pb x op) := by
  unfold State.xcWeir
  repeat any_goals first
    | with_reducible assumption
    | intro s x h
    | (extract_lets +onlyGivenNames x; refine Kept.of (a := orig) (x := x) ?_ ?_; rotate_left; (intro hx; clear_value x); rotate_right; subst x)
    | (extract_lets +onlyGivenNames x; first | (have keep := (x : Hbm); clear keep) | (have keep := (x : Mgmt); clear keep) | (have keep := (x : Seal); clear keep) | (have keep := (x : HostIf); clear keep) | clear_value x)
    | with_reducible apply Kept.ite
    | with_reducible exact KeptX.illegal
    | with_reducible exact KeptX.fault
    | with_reducible refine KeptX.stall ?_
    | with_reducible refine KeptX.retire ?_
    | with_reducible refine KeptX.ite ?_ ?_
    | with_reducible apply State.sendWeir_kept
    | with_reducible apply State.retire_kept
    | with_reducible apply State.onFm_kept
    | fail_if_no_progress (with_reducible refine Kept.frame ?_ (by rfl) (by rfl) (by rfl) (by rfl) (by rfl) (by rfl) (by first | exact Nat.le_refl _ | exact Nat.le_add_right _ _ | with_unfolding_all exact Nat.le_add_right _ _) (by rfl) (by rfl) (by rfl) (by first | exact fun y => y | (with_unfolding_all exact fun y => Mem.wf_writeLE _ _ _ _ y) | (with_unfolding_all exact fun y => Mem.wf_writeByte _ _ _ y) | (with_unfolding_all exact fun y => Mem.wf_clearRange _ _ _ y) | (with_unfolding_all exact fun _ => rfl)) (by first | exact fun y => y | (with_unfolding_all exact fun y => Sparse.wf_set _ _ _ _ y) | (with_unfolding_all exact fun _ => rfl)))
    | split

theorem State.xcSend_kept {orig s : State} (h : Kept orig s) (pb : Nat) (x : XcArgs) : KeptX orig (State.xcSend s pb x) := by
  unfold State.xcSend
  repeat any_goals first
    | with_reducible assumption
    | intro s x h
    | (extract_lets +onlyGivenNames x; refine Kept.of (a := orig) (x := x) ?_ ?_; rotate_left; (intro hx; clear_value x); rotate_right; subst x)
    | (extract_lets +onlyGivenNames x; first | (have keep := (x : Hbm); clear keep) | (have keep := (x : Mgmt); clear keep) | (have keep := (x : Seal); clear keep) | (have keep := (x : HostIf); clear keep) | clear_value x)
    | with_reducible apply Kept.ite
    | with_reducible exact KeptX.illegal
    | with_reducible exact KeptX.fault
    | with_reducible refine KeptX.stall ?_
    | with_reducible refine KeptX.retire ?_
    | with_reducible refine KeptX.ite ?_ ?_
    | with_reducible apply State.sendMessage_kept
    | with_reducible apply State.retire_kept
    | split

theorem State.xcRfree_kept {orig s : State} (h : Kept orig s) (pb : Nat) (x : XcArgs) : KeptX orig (State.xcRfree s pb x) := by
  unfold State.xcRfree
  repeat any_goals first
    | with_reducible assumption
    | intro s x h
    | (extract_lets +onlyGivenNames x; refine Kept.of (a := orig) (x := x) ?_ ?_; rotate_left; (intro hx; clear_value x); rotate_right; subst x)
    | (extract_lets +onlyGivenNames x; first | (have keep := (x : Hbm); clear keep) | (have keep := (x : Mgmt); clear keep) | (have keep := (x : Seal); clear keep) | (have keep := (x : HostIf); clear keep) | clear_value x)
    | with_reducible apply Kept.ite
    | with_reducible exact KeptX.illegal
    | with_reducible exact KeptX.fault
    | with_reducible refine KeptX.stall ?_
    | with_reducible refine KeptX.retire ?_
    | with_reducible refine KeptX.ite ?_ ?_
    | with_reducible refine State.ringRelease_kept _ ?_
    | with_reducible apply State.retire_kept
    | split

theorem State.xcRun_kept {orig s : State} (h : Kept orig s) (pb : Nat) (op : XcOp) (x : XcArgs) : KeptX orig (State.xcRun s pb op x) := by
  unfold State.xcRun
  repeat any_goals first
    | with_reducible assumption
    | intro s x h
    | with_reducible exact KeptX.illegal
    | with_reducible exact KeptX.fault
    | with_reducible refine KeptX.stall ?_
    | with_reducible refine KeptX.retire ?_
    | with_reducible refine KeptX.ite ?_ ?_
    | with_reducible apply State.xcPush_kept
    | (refine KeptX.out1 (State.xcPush_kept ?_ _ _ _) (by assumption))
    | (refine KeptX.out2 (State.xcPush_kept ?_ _ _ _) (by assumption))
    | with_reducible apply State.xcTable_kept
    | (refine KeptX.out1 (State.xcTable_kept ?_ _ _ _) (by assumption))
    | (refine KeptX.out2 (State.xcTable_kept ?_ _ _ _) (by assumption))
    | with_reducible apply State.xcTkpost_kept
    | (refine KeptX.out1 (State.xcTkpost_kept ?_ _ _) (by assumption))
    | (refine KeptX.out2 (State.xcTkpost_kept ?_ _ _) (by assumption))
    | with_reducible apply State.xcTk_kept
    | (refine KeptX.out1 (State.xcTk_kept ?_ _ _ _) (by assumption))
    | (refine KeptX.out2 (State.xcTk_kept ?_ _ _ _) (by assumption))
    | with_reducible apply State.xcWeir_kept
    | (refine KeptX.out1 (State.xcWeir_kept ?_ _ _ _) (by assumption))
    | (refine KeptX.out2 (State.xcWeir_kept ?_ _ _ _) (by assumption))
    | with_reducible apply State.xcSend_kept
    | (refine KeptX.out1 (State.xcSend_kept ?_ _ _) (by assumption))
    | (refine KeptX.out2 (State.xcSend_kept ?_ _ _) (by assumption))
    | with_reducible apply State.xcRfree_kept
    | (refine KeptX.out1 (State.xcRfree_kept ?_ _ _) (by assumption))
    | (refine KeptX.out2 (State.xcRfree_kept ?_ _ _) (by assumption))
    | fail_if_no_progress (with_reducible refine Kept.frame ?_ (by rfl) (by rfl) (by rfl) (by rfl) (by rfl) (by rfl) (by first | exact Nat.le_refl _ | exact Nat.le_add_right _ _ | with_unfolding_all exact Nat.le_add_right _ _) (by rfl) (by rfl) (by rfl) (by first | exact fun y => y | (with_unfolding_all exact fun y => Mem.wf_writeLE _ _ _ _ y) | (with_unfolding_all exact fun y => Mem.wf_writeByte _ _ _ y) | (with_unfolding_all exact fun y => Mem.wf_clearRange _ _ _ y) | (with_unfolding_all exact fun _ => rfl)) (by first | exact fun y => y | (with_unfolding_all exact fun y => Sparse.wf_set _ _ _ _ y) | (with_unfolding_all exact fun _ => rfl)))
    | split

theorem State.xcStep_kept {orig s : State} (h : Kept orig s) (pb : Nat) (op : XcOp) (w : Nat) : Kept orig (State.xcStep s pb op w) := by
  unfold State.xcStep
  repeat any_goals first
    | with_reducible assumption
    | intro s x h
    | (extract_lets +onlyGivenNames x; refine Kept.of (a := orig) (x := x) ?_ ?_; rotate_left; (intro hx; clear_value x); rotate_right; subst x)
    | (extract_lets +onlyGivenNames x; first | (have keep := (x : Hbm); clear keep) | (have keep := (x : Mgmt); clear keep) | (have keep := (x : Seal); clear keep) | (have keep := (x : HostIf); clear keep) | clear_value x)
    | with_reducible apply Kept.ite
    | with_reducible apply State.retire_kept
    | with_reducible apply State.onFm_kept
    | with_reducible apply State.fmTrap_kept
    | with_reducible apply State.fmBad_kept
    | with_reducible apply State.xcRun_kept
    | (refine KeptX.out1 (State.xcRun_kept ?_ _ _ _) (by assumption))
    | (refine KeptX.out2 (State.xcRun_kept ?_ _ _ _) (by assumption))
    | fail_if_no_progress (with_reducible refine Kept.frame ?_ (by rfl) (by rfl) (by rfl) (by rfl) (by rfl) (by rfl) (by first | exact Nat.le_refl _ | exact Nat.le_add_right _ _ | with_unfolding_all exact Nat.le_add_right _ _) (by rfl) (by rfl) (by rfl) (by first | exact fun y => y | (with_unfolding_all exact fun y => Mem.wf_writeLE _ _ _ _ y) | (with_unfolding_all exact fun y => Mem.wf_writeByte _ _ _ y) | (with_unfolding_all exact fun y => Mem.wf_clearRange _ _ _ y) | (with_unfolding_all exact fun _ => rfl)) (by first | exact fun y => y | (with_unfolding_all exact fun y => Sparse.wf_set _ _ _ _ y) | (with_unfolding_all exact fun _ => rfl)))
    | split

theorem State.xcRow_kept {orig s : State} (h : Kept orig s) (pb : Nat) (op : XcOp) : Kept orig (State.xcRow s pb op) := by
  unfold State.xcRow
  repeat any_goals first
    | with_reducible assumption
    | intro s x h
    | with_reducible apply Kept.ite
    | with_reducible apply State.xcStep_kept
    | fail_if_no_progress (with_reducible refine Kept.frame ?_ (by rfl) (by rfl) (by rfl) (by rfl) (by rfl) (by rfl) (by first | exact Nat.le_refl _ | exact Nat.le_add_right _ _ | with_unfolding_all exact Nat.le_add_right _ _) (by rfl) (by rfl) (by rfl) (by first | exact fun y => y | (with_unfolding_all exact fun y => Mem.wf_writeLE _ _ _ _ y) | (with_unfolding_all exact fun y => Mem.wf_writeByte _ _ _ y) | (with_unfolding_all exact fun y => Mem.wf_clearRange _ _ _ y) | (with_unfolding_all exact fun _ => rfl)) (by first | exact fun y => y | (with_unfolding_all exact fun y => Sparse.wf_set _ _ _ _ y) | (with_unfolding_all exact fun _ => rfl)))
    | split

theorem State.fmRetry_kept {orig s : State} (h : Kept orig s) (pb : Nat) : Kept orig (State.fmRetry s pb) := by
  unfold State.fmRetry
  repeat any_goals first
    | with_reducible assumption
    | intro s x h
    | (extract_lets +onlyGivenNames x; refine Kept.of (a := orig) (x := x) ?_ ?_; rotate_left; (intro hx; clear_value x); rotate_right; subst x)
    | (extract_lets +onlyGivenNames x; first | (have keep := (x : Hbm); clear keep) | (have keep := (x : Mgmt); clear keep) | (have keep := (x : Seal); clear keep) | (have keep := (x : HostIf); clear keep) | clear_value x)
    | with_reducible apply Kept.ite
    | with_reducible apply State.retire_kept
    | with_reducible apply State.onFm_kept
    | with_reducible apply State.xcStep_kept
    | fail_if_no_progress (with_reducible refine Kept.frame ?_ (by rfl) (by rfl) (by rfl) (by rfl) (by rfl) (by rfl) (by first | exact Nat.le_refl _ | exact Nat.le_add_right _ _ | with_unfolding_all exact Nat.le_add_right _ _) (by rfl) (by rfl) (by rfl) (by first | exact fun y => y | (with_unfolding_all exact fun y => Mem.wf_writeLE _ _ _ _ y) | (with_unfolding_all exact fun y => Mem.wf_writeByte _ _ _ y) | (with_unfolding_all exact fun y => Mem.wf_clearRange _ _ _ y) | (with_unfolding_all exact fun _ => rfl)) (by first | exact fun y => y | (with_unfolding_all exact fun y => Sparse.wf_set _ _ _ _ y) | (with_unfolding_all exact fun _ => rfl)))
    | split

theorem State.fmEnter_kept {orig s : State} (h : Kept orig s) (pb : Nat) (code : Nat) (target : Nat) : Kept orig (State.fmEnter s pb code target) := by
  unfold State.fmEnter
  repeat any_goals first
    | with_reducible assumption
    | intro s x h
    | with_reducible apply State.onFm_kept
    | fail_if_no_progress (with_reducible refine Kept.frame ?_ (by rfl) (by rfl) (by rfl) (by rfl) (by rfl) (by rfl) (by first | exact Nat.le_refl _ | exact Nat.le_add_right _ _ | with_unfolding_all exact Nat.le_add_right _ _) (by rfl) (by rfl) (by rfl) (by first | exact fun y => y | (with_unfolding_all exact fun y => Mem.wf_writeLE _ _ _ _ y) | (with_unfolding_all exact fun y => Mem.wf_writeByte _ _ _ y) | (with_unfolding_all exact fun y => Mem.wf_clearRange _ _ _ y) | (with_unfolding_all exact fun _ => rfl)) (by first | exact fun y => y | (with_unfolding_all exact fun y => Sparse.wf_set _ _ _ _ y) | (with_unfolding_all exact fun _ => rfl)))

theorem State.fmInterrupt_kept {orig s : State} (h : Kept orig s) (pb : Nat) : Kept orig (State.fmInterrupt s pb) := by
  unfold State.fmInterrupt
  repeat any_goals first
    | with_reducible assumption
    | intro s x h
    | (extract_lets +onlyGivenNames x; refine Kept.of (a := orig) (x := x) ?_ ?_; rotate_left; (intro hx; clear_value x); rotate_right; subst x)
    | (extract_lets +onlyGivenNames x; first | (have keep := (x : Hbm); clear keep) | (have keep := (x : Mgmt); clear keep) | (have keep := (x : Seal); clear keep) | (have keep := (x : HostIf); clear keep) | clear_value x)
    | with_reducible apply Kept.ite
    | with_reducible apply State.onFm_kept
    | with_reducible apply State.fmEnter_kept
    | fail_if_no_progress (with_reducible refine Kept.frame ?_ (by rfl) (by rfl) (by rfl) (by rfl) (by rfl) (by rfl) (by first | exact Nat.le_refl _ | exact Nat.le_add_right _ _ | with_unfolding_all exact Nat.le_add_right _ _) (by rfl) (by rfl) (by rfl) (by first | exact fun y => y | (with_unfolding_all exact fun y => Mem.wf_writeLE _ _ _ _ y) | (with_unfolding_all exact fun y => Mem.wf_writeByte _ _ _ y) | (with_unfolding_all exact fun y => Mem.wf_clearRange _ _ _ y) | (with_unfolding_all exact fun _ => rfl)) (by first | exact fun y => y | (with_unfolding_all exact fun y => Sparse.wf_set _ _ _ _ y) | (with_unfolding_all exact fun _ => rfl)))
    | split

theorem State.leaseLog_kept {orig s : State} (h : Kept orig s) (op : LeaseOp) (r : Nat × Nat) : Kept orig (State.leaseLog s op r) := by
  unfold State.leaseLog
  repeat any_goals first
    | with_reducible assumption
    | intro s x h
    | (extract_lets +onlyGivenNames x; refine Kept.of (a := orig) (x := x) ?_ ?_; rotate_left; (intro hx; clear_value x); rotate_right; subst x)
    | (extract_lets +onlyGivenNames x; refine Kept.of (a := orig) (x := x.1) ?_ ?_; rotate_left; (intro hx; clear_value x); rotate_right; subst x)
    | (extract_lets +onlyGivenNames x; refine Kept.of (a := orig) (x := x.2) ?_ ?_; rotate_left; (intro hx; clear_value x); rotate_right; subst x)
    | (extract_lets +onlyGivenNames x; first | (have keep := (x : Hbm); clear keep) | (have keep := (x : Mgmt); clear keep) | (have keep := (x : Seal); clear keep) | (have keep := (x : HostIf); clear keep) | clear_value x)
    | with_reducible apply Kept.ite
    | with_reducible apply State.log_kept
    | split

theorem State.clearLeases_kept {orig s : State} (h : Kept orig s) (l : Nat) (ns : List Nat) : Kept orig (State.clearLeases s l ns) := by
  unfold State.clearLeases
  repeat any_goals first
    | with_reducible assumption
    | intro s x h
    | (extract_lets +onlyGivenNames x; refine Kept.of (a := orig) (x := x) ?_ ?_; rotate_left; (intro hx; clear_value x); rotate_right; subst x)
    | (extract_lets +onlyGivenNames x; first | (have keep := (x : Hbm); clear keep) | (have keep := (x : Mgmt); clear keep) | (have keep := (x : Seal); clear keep) | (have keep := (x : HostIf); clear keep) | clear_value x)
    | with_reducible apply State.setLease_kept
    | with_reducible refine Kept.foldl ?_ (fun s x h => ?_)
    | fail_if_no_progress (with_reducible refine Kept.frame ?_ (by rfl) (by rfl) (by rfl) (by rfl) (by rfl) (by rfl) (by first | exact Nat.le_refl _ | exact Nat.le_add_right _ _ | with_unfolding_all exact Nat.le_add_right _ _) (by rfl) (by rfl) (by rfl) (by first | exact fun y => y | (with_unfolding_all exact fun y => Mem.wf_writeLE _ _ _ _ y) | (with_unfolding_all exact fun y => Mem.wf_writeByte _ _ _ y) | (with_unfolding_all exact fun y => Mem.wf_clearRange _ _ _ y) | (with_unfolding_all exact fun _ => rfl)) (by first | exact fun y => y | (with_unfolding_all exact fun y => Sparse.wf_set _ _ _ _ y) | (with_unfolding_all exact fun _ => rfl)))

theorem State.leaseComplete_kept {orig s : State} (h : Kept orig s) : Kept orig (State.leaseComplete s) := by
  unfold State.leaseComplete
  repeat any_goals first
    | with_reducible assumption
    | intro s x h
    | (extract_lets +onlyGivenNames x; refine Kept.of (a := orig) (x := x) ?_ ?_; rotate_left; (intro hx; clear_value x); rotate_right; subst x)
    | (extract_lets +onlyGivenNames x; refine Kept.of (a := orig) (x := x.1) ?_ ?_; rotate_left; (intro hx; clear_value x); rotate_right; subst x)
    | (extract_lets +onlyGivenNames x; refine Kept.of (a := orig) (x := x.2) ?_ ?_; rotate_left; (intro hx; clear_value x); rotate_right; subst x)
    | (extract_lets +onlyGivenNames x; first | (have keep := (x : Hbm); clear keep) | (have keep := (x : Mgmt); clear keep) | (have keep := (x : Seal); clear keep) | (have keep := (x : HostIf); clear keep) | clear_value x)
    | with_reducible apply Kept.ite
    | with_reducible apply State.wr_kept
    | with_reducible apply State.wrB_kept
    | with_reducible apply State.setLease_kept
    | with_reducible apply State.leaseLog_kept
    | with_reducible apply State.clearLeases_kept
    | with_reducible refine Kept.foldl ?_ (fun s x h => ?_)
    | fail_if_no_progress (with_reducible refine Kept.frame ?_ (by rfl) (by rfl) (by rfl) (by rfl) (by rfl) (by rfl) (by first | exact Nat.le_refl _ | exact Nat.le_add_right _ _ | with_unfolding_all exact Nat.le_add_right _ _) (by rfl) (by rfl) (by rfl) (by first | exact fun y => y | (with_unfolding_all exact fun y => Mem.wf_writeLE _ _ _ _ y) | (with_unfolding_all exact fun y => Mem.wf_writeByte _ _ _ y) | (with_unfolding_all exact fun y => Mem.wf_clearRange _ _ _ y) | (with_unfolding_all exact fun _ => rfl)) (by first | exact fun y => y | (with_unfolding_all exact fun y => Sparse.wf_set _ _ _ _ y) | (with_unfolding_all exact fun _ => rfl)))
    | split

theorem State.leaseStart_kept {orig s : State} (h : Kept orig s) (tenant : Nat) (data : Reg64) : Kept orig (State.leaseStart s tenant data) := by
  unfold State.leaseStart
  repeat any_goals first
    | with_reducible assumption
    | intro s x h
    | (extract_lets +onlyGivenNames x; refine Kept.of (a := orig) (x := x) ?_ ?_; rotate_left; (intro hx; clear_value x); rotate_right; subst x)
    | (extract_lets +onlyGivenNames x; first | (have keep := (x : Hbm); clear keep) | (have keep := (x : Mgmt); clear keep) | (have keep := (x : Seal); clear keep) | (have keep := (x : HostIf); clear keep) | clear_value x)
    | with_reducible apply Kept.ite
    | with_reducible apply State.wrB_kept
    | with_reducible apply State.soft_kept
    | fail_if_no_progress (with_reducible refine Kept.frame ?_ (by rfl) (by rfl) (by rfl) (by rfl) (by rfl) (by rfl) (by first | exact Nat.le_refl _ | exact Nat.le_add_right _ _ | with_unfolding_all exact Nat.le_add_right _ _) (by rfl) (by rfl) (by rfl) (by first | exact fun y => y | (with_unfolding_all exact fun y => Mem.wf_writeLE _ _ _ _ y) | (with_unfolding_all exact fun y => Mem.wf_writeByte _ _ _ y) | (with_unfolding_all exact fun y => Mem.wf_clearRange _ _ _ y) | (with_unfolding_all exact fun _ => rfl)) (by first | exact fun y => y | (with_unfolding_all exact fun y => Sparse.wf_set _ _ _ _ y) | (with_unfolding_all exact fun _ => rfl)))
    | split

theorem State.granuleSwept_kept {orig s : State} (h : Kept orig s) (l : Nat) : Kept orig (State.granuleSwept s l) := by
  unfold State.granuleSwept
  repeat any_goals first
    | with_reducible assumption
    | intro s x h
    | (extract_lets +onlyGivenNames x; refine Kept.of (a := orig) (x := x) ?_ ?_; rotate_left; (intro hx; clear_value x); rotate_right; subst x)
    | (extract_lets +onlyGivenNames x; first | (have keep := (x : Hbm); clear keep) | (have keep := (x : Mgmt); clear keep) | (have keep := (x : Seal); clear keep) | (have keep := (x : HostIf); clear keep) | clear_value x)
    | with_reducible apply State.setBasin_kept
    | with_reducible apply State.setLease_kept
    | fail_if_no_progress (with_reducible refine Kept.frame ?_ (by rfl) (by rfl) (by rfl) (by rfl) (by rfl) (by rfl) (by first | exact Nat.le_refl _ | exact Nat.le_add_right _ _ | with_unfolding_all exact Nat.le_add_right _ _) (by rfl) (by rfl) (by rfl) (by first | exact fun y => y | (with_unfolding_all exact fun y => Mem.wf_writeLE _ _ _ _ y) | (with_unfolding_all exact fun y => Mem.wf_writeByte _ _ _ y) | (with_unfolding_all exact fun y => Mem.wf_clearRange _ _ _ y) | (with_unfolding_all exact fun _ => rfl)) (by first | exact fun y => y | (with_unfolding_all exact fun y => Sparse.wf_set _ _ _ _ y) | (with_unfolding_all exact fun _ => rfl)))
    | split

theorem State.freeTenantLeases_kept {orig s : State} (h : Kept orig s) (t : Nat) : Kept orig (State.freeTenantLeases s t) := by
  unfold State.freeTenantLeases
  repeat any_goals first
    | with_reducible assumption
    | intro s x h
    | with_reducible apply State.clearLeases_kept
    | with_reducible refine Kept.foldl ?_ (fun s x h => ?_)

theorem State.benchScrub_kept {orig s : State} (h : Kept orig s) (pb : Nat) (mem : Nat) (rows : Nat) (rowWords : Nat) (completes : Bool) (ecc : Ecc) : Kept orig (State.benchScrub s pb mem rows rowWords completes ecc) := by
  unfold State.benchScrub
  repeat any_goals first
    | with_reducible assumption
    | intro s x h
    | (extract_lets +onlyGivenNames x; refine Kept.of (a := orig) (x := x) ?_ ?_; rotate_left; (intro hx; clear_value x); rotate_right; subst x)
    | (extract_lets +onlyGivenNames x; refine Kept.of (a := orig) (x := x.1) ?_ ?_; rotate_left; (intro hx; clear_value x); rotate_right; subst x)
    | (extract_lets +onlyGivenNames x; refine Kept.of (a := orig) (x := x.2) ?_ ?_; rotate_left; (intro hx; clear_value x); rotate_right; subst x)
    | (extract_lets +onlyGivenNames x; first | (have keep := (x : Hbm); clear keep) | (have keep := (x : Mgmt); clear keep) | (have keep := (x : Seal); clear keep) | (have keep := (x : HostIf); clear keep) | clear_value x)
    | with_reducible apply Kept.ite
    | with_reducible apply State.setBench_kept
    | with_reducible apply State.onBench_kept
    | with_reducible apply State.bump_kept
    | with_reducible apply State.benchCorrected_kept
    | with_reducible apply State.benchUncorrectable_kept
    | with_reducible refine Kept.foldl ?_ (fun s x h => ?_)
    | fail_if_no_progress (with_reducible refine Kept.frame ?_ (by rfl) (by rfl) (by rfl) (by rfl) (by rfl) (by rfl) (by first | exact Nat.le_refl _ | exact Nat.le_add_right _ _ | with_unfolding_all exact Nat.le_add_right _ _) (by rfl) (by rfl) (by rfl) (by first | exact fun y => y | (with_unfolding_all exact fun y => Mem.wf_writeLE _ _ _ _ y) | (with_unfolding_all exact fun y => Mem.wf_writeByte _ _ _ y) | (with_unfolding_all exact fun y => Mem.wf_clearRange _ _ _ y) | (with_unfolding_all exact fun _ => rfl)) (by first | exact fun y => y | (with_unfolding_all exact fun y => Sparse.wf_set _ _ _ _ y) | (with_unfolding_all exact fun _ => rfl)))
    | split

theorem State.scrubTime_kept {orig s : State} (h : Kept orig s) (idle : Bool) (never : Bool) : KeptV Prod.snd orig (State.scrubTime s idle never) := by
  unfold State.scrubTime
  repeat any_goals first
    | with_reducible assumption
    | intro s x h
    | with_reducible apply Kept.ite
    | with_reducible refine KeptV.ite ?_ ?_
    | with_reducible refine KeptV.fst ?_
    | with_reducible refine KeptV.snd ?_
    | with_reducible refine KeptV.reply ?_
    | with_reducible refine KeptV.got ?_
    | with_reducible apply State.skip_kept
    | split

theorem State.scrubTime_kept1 {orig s : State} (h : Kept orig s) (idle : Bool) (never : Bool) : Kept orig (State.scrubTime s idle never).2 := State.scrubTime_kept h idle never

theorem State.poolScrub_kept {orig s : State} (h : Kept orig s) (pb : Nat) (ecc : Ecc) : Kept orig (State.poolScrub s pb ecc) := by
  unfold State.poolScrub
  repeat any_goals first
    | with_reducible assumption
    | intro s x h
    | (extract_lets +onlyGivenNames x; refine Kept.of (a := orig) (x := x) ?_ ?_; rotate_left; (intro hx; clear_value x); rotate_right; subst x)
    | (extract_lets +onlyGivenNames x; refine Kept.of (a := orig) (x := x.1) ?_ ?_; rotate_left; (intro hx; clear_value x); rotate_right; subst x)
    | (extract_lets +onlyGivenNames x; refine Kept.of (a := orig) (x := x.2) ?_ ?_; rotate_left; (intro hx; clear_value x); rotate_right; subst x)
    | (extract_lets +onlyGivenNames x; first | (have keep := (x : Hbm); clear keep) | (have keep := (x : Mgmt); clear keep) | (have keep := (x : Seal); clear keep) | (have keep := (x : HostIf); clear keep) | clear_value x)
    | with_reducible apply Kept.ite
    | with_reducible apply State.wr_kept
    | with_reducible apply State.wrapInc_kept
    | with_reducible apply State.benchScrub_kept
    | with_reducible apply State.scrubTime_kept1
    | with_reducible apply State.scrubTime_kept
    | split

theorem State.fmScrub_kept {orig s : State} (h : Kept orig s) (pb : Nat) (instr : Bool) (ecc : Ecc) : Kept orig (State.fmScrub s pb instr ecc) := by
  unfold State.fmScrub
  repeat any_goals first
    | with_reducible assumption
    | intro s x h
    | (extract_lets +onlyGivenNames x; refine Kept.of (a := orig) (x := x) ?_ ?_; rotate_left; (intro hx; clear_value x); rotate_right; subst x)
    | (extract_lets +onlyGivenNames x; refine Kept.of (a := orig) (x := x.1) ?_ ?_; rotate_left; (intro hx; clear_value x); rotate_right; subst x)
    | (extract_lets +onlyGivenNames x; refine Kept.of (a := orig) (x := x.2) ?_ ?_; rotate_left; (intro hx; clear_value x); rotate_right; subst x)
    | (extract_lets +onlyGivenNames x; first | (have keep := (x : Hbm); clear keep) | (have keep := (x : Mgmt); clear keep) | (have keep := (x : Seal); clear keep) | (have keep := (x : HostIf); clear keep) | clear_value x)
    | with_reducible apply Kept.ite
    | with_reducible apply State.benchScrub_kept
    | with_reducible apply State.scrubTime_kept1
    | with_reducible apply State.scrubTime_kept
    | split

theorem State.basinScrub_kept {orig s : State} (h : Kept orig s) (l : Nat) (ecc : Ecc) : Kept orig (State.basinScrub s l ecc) := by
  unfold State.basinScrub
  repeat any_goals first
    | with_reducible assumption
    | intro s x h
    | (extract_lets +onlyGivenNames x; refine Kept.of (a := orig) (x := x) ?_ ?_; rotate_left; (intro hx; clear_value x); rotate_right; subst x)
    | (extract_lets +onlyGivenNames x; refine Kept.of (a := orig) (x := x.1) ?_ ?_; rotate_left; (intro hx; clear_value x); rotate_right; subst x)
    | (extract_lets +onlyGivenNames x; refine Kept.of (a := orig) (x := x.2) ?_ ?_; rotate_left; (intro hx; clear_value x); rotate_right; subst x)
    | (extract_lets +onlyGivenNames x; first | (have keep := (x : Hbm); clear keep) | (have keep := (x : Mgmt); clear keep) | (have keep := (x : Seal); clear keep) | (have keep := (x : HostIf); clear keep) | clear_value x)
    | with_reducible apply Kept.ite
    | with_reducible apply State.bump_kept
    | with_reducible apply State.wrapInc_kept
    | with_reducible apply State.basinCorrected_kept
    | with_reducible apply State.basinUncorrectable_kept
    | with_reducible apply State.setBasin_kept
    | with_reducible apply State.scrubTime_kept1
    | with_reducible apply State.scrubTime_kept
    | with_reducible refine Kept.foldl ?_ (fun s x h => ?_)
    | fail_if_no_progress (with_reducible refine Kept.frame ?_ (by rfl) (by rfl) (by rfl) (by rfl) (by rfl) (by rfl) (by first | exact Nat.le_refl _ | exact Nat.le_add_right _ _ | with_unfolding_all exact Nat.le_add_right _ _) (by rfl) (by rfl) (by rfl) (by first | exact fun y => y | (with_unfolding_all exact fun y => Mem.wf_writeLE _ _ _ _ y) | (with_unfolding_all exact fun y => Mem.wf_writeByte _ _ _ y) | (with_unfolding_all exact fun y => Mem.wf_clearRange _ _ _ y) | (with_unfolding_all exact fun _ => rfl)) (by first | exact fun y => y | (with_unfolding_all exact fun y => Sparse.wf_set _ _ _ _ y) | (with_unfolding_all exact fun _ => rfl)))
    | split

theorem State.setPrime_kept {orig s : State} (h : Kept orig s) (slot : Nat) (e : PrimeEnt) : Kept orig (State.setPrime s slot e) := by
  unfold State.setPrime
  repeat any_goals first
    | with_reducible assumption
    | intro s x h
    | fail_if_no_progress (with_reducible refine Kept.frame ?_ (by rfl) (by rfl) (by rfl) (by rfl) (by rfl) (by rfl) (by first | exact Nat.le_refl _ | exact Nat.le_add_right _ _ | with_unfolding_all exact Nat.le_add_right _ _) (by rfl) (by rfl) (by rfl) (by first | exact fun y => y | (with_unfolding_all exact fun y => Mem.wf_writeLE _ _ _ _ y) | (with_unfolding_all exact fun y => Mem.wf_writeByte _ _ _ y) | (with_unfolding_all exact fun y => Mem.wf_clearRange _ _ _ y) | (with_unfolding_all exact fun _ => rfl)) (by first | exact fun y => y | (with_unfolding_all exact fun y => Sparse.wf_set _ _ _ _ y) | (with_unfolding_all exact fun _ => rfl)))

theorem State.setChain_kept {orig s : State} (h : Kept orig s) (c : Nat) (e : ChainEnt) : Kept orig (State.setChain s c e) := by
  unfold State.setChain
  repeat any_goals first
    | with_reducible assumption
    | intro s x h
    | fail_if_no_progress (with_reducible refine Kept.frame ?_ (by rfl) (by rfl) (by rfl) (by rfl) (by rfl) (by rfl) (by first | exact Nat.le_refl _ | exact Nat.le_add_right _ _ | with_unfolding_all exact Nat.le_add_right _ _) (by rfl) (by rfl) (by rfl) (by first | exact fun y => y | (with_unfolding_all exact fun y => Mem.wf_writeLE _ _ _ _ y) | (with_unfolding_all exact fun y => Mem.wf_writeByte _ _ _ y) | (with_unfolding_all exact fun y => Mem.wf_clearRange _ _ _ y) | (with_unfolding_all exact fun _ => rfl)) (by first | exact fun y => y | (with_unfolding_all exact fun y => Sparse.wf_set _ _ _ _ y) | (with_unfolding_all exact fun _ => rfl)))

theorem State.setChecker_kept {orig s : State} (h : Kept orig s) (op : Option CheckerOp) : Kept orig (State.setChecker s op) := by
  unfold State.setChecker
  repeat any_goals first
    | with_reducible assumption
    | intro s x h
    | fail_if_no_progress (with_reducible refine Kept.frame ?_ (by rfl) (by rfl) (by rfl) (by rfl) (by rfl) (by rfl) (by first | exact Nat.le_refl _ | exact Nat.le_add_right _ _ | with_unfolding_all exact Nat.le_add_right _ _) (by rfl) (by rfl) (by rfl) (by first | exact fun y => y | (with_unfolding_all exact fun y => Mem.wf_writeLE _ _ _ _ y) | (with_unfolding_all exact fun y => Mem.wf_writeByte _ _ _ y) | (with_unfolding_all exact fun y => Mem.wf_clearRange _ _ _ y) | (with_unfolding_all exact fun _ => rfl)) (by first | exact fun y => y | (with_unfolding_all exact fun y => Sparse.wf_set _ _ _ _ y) | (with_unfolding_all exact fun _ => rfl)))

theorem State.primeCmd_kept {orig s : State} (h : Kept orig s) (data : Reg64) : Kept orig (State.primeCmd s data) := by
  unfold State.primeCmd
  repeat any_goals first
    | with_reducible assumption
    | intro s x h
    | (extract_lets +onlyGivenNames x; refine Kept.of (a := orig) (x := x) ?_ ?_; rotate_left; (intro hx; clear_value x); rotate_right; subst x)
    | (extract_lets +onlyGivenNames x; first | (have keep := (x : Hbm); clear keep) | (have keep := (x : Mgmt); clear keep) | (have keep := (x : Seal); clear keep) | (have keep := (x : HostIf); clear keep) | clear_value x)
    | with_reducible apply Kept.ite
    | with_reducible apply State.wrB_kept
    | with_reducible apply State.soft_kept
    | with_reducible apply State.setChecker_kept
    | split

theorem State.chainCmd_kept {orig s : State} (h : Kept orig s) (data : Reg64) : Kept orig (State.chainCmd s data) := by
  unfold State.chainCmd
  repeat any_goals first
    | with_reducible assumption
    | intro s x h
    | (extract_lets +onlyGivenNames x; refine Kept.of (a := orig) (x := x) ?_ ?_; rotate_left; (intro hx; clear_value x); rotate_right; subst x)
    | (extract_lets +onlyGivenNames x; first | (have keep := (x : Hbm); clear keep) | (have keep := (x : Mgmt); clear keep) | (have keep := (x : Seal); clear keep) | (have keep := (x : HostIf); clear keep) | clear_value x)
    | with_reducible apply Kept.ite
    | with_reducible apply State.wrB_kept
    | with_reducible apply State.soft_kept
    | with_reducible apply State.setChecker_kept
    | split

theorem State.primeDone_kept {orig s : State} (h : Kept orig s) (slot : Nat) (r : Nat) : Kept orig (State.primeDone s slot r) := by
  unfold State.primeDone
  repeat any_goals first
    | with_reducible assumption
    | intro s x h
    | with_reducible apply State.wr_kept
    | with_reducible apply State.wrB_kept

theorem State.chainDone_kept {orig s : State} (h : Kept orig s) (c : Nat) (r : Nat) : Kept orig (State.chainDone s c r) := by
  unfold State.chainDone
  repeat any_goals first
    | with_reducible assumption
    | intro s x h
    | with_reducible apply State.wr_kept
    | with_reducible apply State.wrB_kept

theorem State.primeComplete_kept {orig s : State} (h : Kept orig s) : Kept orig (State.primeComplete s) := by
  unfold State.primeComplete
  repeat any_goals first
    | with_reducible assumption
    | intro s x h
    | (extract_lets +onlyGivenNames x; refine Kept.of (a := orig) (x := x) ?_ ?_; rotate_left; (intro hx; clear_value x); rotate_right; subst x)
    | (extract_lets +onlyGivenNames x; first | (have keep := (x : Hbm); clear keep) | (have keep := (x : Mgmt); clear keep) | (have keep := (x : Seal); clear keep) | (have keep := (x : HostIf); clear keep) | clear_value x)
    | with_reducible apply Kept.ite
    | with_reducible apply State.setPrime_kept
    | with_reducible apply State.setChecker_kept
    | with_reducible apply State.primeDone_kept
    | fail_if_no_progress (with_reducible refine Kept.frame ?_ (by rfl) (by rfl) (by rfl) (by rfl) (by rfl) (by rfl) (by first | exact Nat.le_refl _ | exact Nat.le_add_right _ _ | with_unfolding_all exact Nat.le_add_right _ _) (by rfl) (by rfl) (by rfl) (by first | exact fun y => y | (with_unfolding_all exact fun y => Mem.wf_writeLE _ _ _ _ y) | (with_unfolding_all exact fun y => Mem.wf_writeByte _ _ _ y) | (with_unfolding_all exact fun y => Mem.wf_clearRange _ _ _ y) | (with_unfolding_all exact fun _ => rfl)) (by first | exact fun y => y | (with_unfolding_all exact fun y => Sparse.wf_set _ _ _ _ y) | (with_unfolding_all exact fun _ => rfl)))
    | split

theorem State.chainComplete_kept {orig s : State} (h : Kept orig s) : Kept orig (State.chainComplete s) := by
  unfold State.chainComplete
  repeat any_goals first
    | with_reducible assumption
    | intro s x h
    | (extract_lets +onlyGivenNames x; refine Kept.of (a := orig) (x := x) ?_ ?_; rotate_left; (intro hx; clear_value x); rotate_right; subst x)
    | (extract_lets +onlyGivenNames x; first | (have keep := (x : Hbm); clear keep) | (have keep := (x : Mgmt); clear keep) | (have keep := (x : Seal); clear keep) | (have keep := (x : HostIf); clear keep) | clear_value x)
    | with_reducible apply Kept.ite
    | with_reducible apply State.setChain_kept
    | with_reducible apply State.setChecker_kept
    | with_reducible apply State.chainDone_kept
    | fail_if_no_progress (with_reducible refine Kept.frame ?_ (by rfl) (by rfl) (by rfl) (by rfl) (by rfl) (by rfl) (by first | exact Nat.le_refl _ | exact Nat.le_add_right _ _ | with_unfolding_all exact Nat.le_add_right _ _) (by rfl) (by rfl) (by rfl) (by first | exact fun y => y | (with_unfolding_all exact fun y => Mem.wf_writeLE _ _ _ _ y) | (with_unfolding_all exact fun y => Mem.wf_writeByte _ _ _ y) | (with_unfolding_all exact fun y => Mem.wf_clearRange _ _ _ y) | (with_unfolding_all exact fun _ => rfl)) (by first | exact fun y => y | (with_unfolding_all exact fun y => Sparse.wf_set _ _ _ _ y) | (with_unfolding_all exact fun _ => rfl)))
    | split

theorem State.setKey_kept {orig s : State} (h : Kept orig s) (k : Nat) (e : List Reg64) : Kept orig (State.setKey s k e) := by
  unfold State.setKey
  repeat any_goals first
    | with_reducible assumption
    | intro s x h
    | fail_if_no_progress (with_reducible refine Kept.frame ?_ (by rfl) (by rfl) (by rfl) (by rfl) (by rfl) (by rfl) (by first | exact Nat.le_refl _ | exact Nat.le_add_right _ _ | with_unfolding_all exact Nat.le_add_right _ _) (by rfl) (by rfl) (by rfl) (by first | exact fun y => y | (with_unfolding_all exact fun y => Mem.wf_writeLE _ _ _ _ y) | (with_unfolding_all exact fun y => Mem.wf_writeByte _ _ _ y) | (with_unfolding_all exact fun y => Mem.wf_clearRange _ _ _ y) | (with_unfolding_all exact fun _ => rfl)) (by first | exact fun y => y | (with_unfolding_all exact fun y => Sparse.wf_set _ _ _ _ y) | (with_unfolding_all exact fun _ => rfl)))

theorem State.keyCmd_kept {orig s : State} (h : Kept orig s) (data : Reg64) : Kept orig (State.keyCmd s data) := by
  unfold State.keyCmd
  repeat any_goals first
    | with_reducible assumption
    | intro s x h
    | (extract_lets +onlyGivenNames x; refine Kept.of (a := orig) (x := x) ?_ ?_; rotate_left; (intro hx; clear_value x); rotate_right; subst x)
    | (extract_lets +onlyGivenNames x; first | (have keep := (x : Hbm); clear keep) | (have keep := (x : Mgmt); clear keep) | (have keep := (x : Seal); clear keep) | (have keep := (x : HostIf); clear keep) | clear_value x)
    | with_reducible apply Kept.ite
    | with_reducible apply State.wrB_kept
    | with_reducible apply State.soft_kept
    | fail_if_no_progress (with_reducible refine Kept.frame ?_ (by rfl) (by rfl) (by rfl) (by rfl) (by rfl) (by rfl) (by first | exact Nat.le_refl _ | exact Nat.le_add_right _ _ | with_unfolding_all exact Nat.le_add_right _ _) (by rfl) (by rfl) (by rfl) (by first | exact fun y => y | (with_unfolding_all exact fun y => Mem.wf_writeLE _ _ _ _ y) | (with_unfolding_all exact fun y => Mem.wf_writeByte _ _ _ y) | (with_unfolding_all exact fun y => Mem.wf_clearRange _ _ _ y) | (with_unfolding_all exact fun _ => rfl)) (by first | exact fun y => y | (with_unfolding_all exact fun y => Sparse.wf_set _ _ _ _ y) | (with_unfolding_all exact fun _ => rfl)))
    | split

theorem State.keyComplete_kept {orig s : State} (h : Kept orig s) : Kept orig (State.keyComplete s) := by
  unfold State.keyComplete
  repeat any_goals first
    | with_reducible assumption
    | intro s x h
    | (extract_lets +onlyGivenNames x; refine Kept.of (a := orig) (x := x) ?_ ?_; rotate_left; (intro hx; clear_value x); rotate_right; subst x)
    | (extract_lets +onlyGivenNames x; first | (have keep := (x : Hbm); clear keep) | (have keep := (x : Mgmt); clear keep) | (have keep := (x : Seal); clear keep) | (have keep := (x : HostIf); clear keep) | clear_value x)
    | with_reducible apply Kept.ite
    | with_reducible apply State.setReg_kept
    | with_reducible apply State.wr_kept
    | with_reducible apply State.wrB_kept
    | with_reducible apply State.setKey_kept
    | with_reducible refine Kept.foldl ?_ (fun s x h => ?_)
    | fail_if_no_progress (with_reducible refine Kept.frame ?_ (by rfl) (by rfl) (by rfl) (by rfl) (by rfl) (by rfl) (by first | exact Nat.le_refl _ | exact Nat.le_add_right _ _ | with_unfolding_all exact Nat.le_add_right _ _) (by rfl) (by rfl) (by rfl) (by first | exact fun y => y | (with_unfolding_all exact fun y => Mem.wf_writeLE _ _ _ _ y) | (with_unfolding_all exact fun y => Mem.wf_writeByte _ _ _ y) | (with_unfolding_all exact fun y => Mem.wf_clearRange _ _ _ y) | (with_unfolding_all exact fun _ => rfl)) (by first | exact fun y => y | (with_unfolding_all exact fun y => Sparse.wf_set _ _ _ _ y) | (with_unfolding_all exact fun _ => rfl)))
    | split

theorem State.ctlWrite_kept {orig s : State} (h : Kept orig s) (pb : Nat) (data : Reg64) : KeptO id orig (State.ctlWrite s pb data) := by
  unfold State.ctlWrite
  repeat any_goals first
    | with_reducible assumption
    | intro s x h
    | (extract_lets +onlyGivenNames x; refine Kept.of (a := orig) (x := x) ?_ ?_; rotate_left; (intro hx; clear_value x); rotate_right; subst x)
    | (extract_lets +onlyGivenNames x; first | (have keep := (x : Hbm); clear keep) | (have keep := (x : Mgmt); clear keep) | (have keep := (x : Seal); clear keep) | (have keep := (x : HostIf); clear keep) | clear_value x)
    | with_reducible apply Kept.ite
    | with_reducible exact KeptO.none
    | with_reducible refine KeptO.stay ?_
    | with_reducible refine KeptO.some ?_
    | with_reducible refine KeptO.ite ?_ ?_
    | with_reducible apply State.setReg_kept
    | with_reducible apply State.startBench_kept
    | with_reducible apply State.stopBench_kept
    | split

theorem State.streamPcWrite_kept {orig s : State} (h : Kept orig s) (pb : Nat) (i : Nat) (data : Reg64) : KeptO id orig (State.streamPcWrite s pb i data) := by
  unfold State.streamPcWrite
  repeat any_goals first
    | with_reducible assumption
    | intro s x h
    | (extract_lets +onlyGivenNames x; refine Kept.of (a := orig) (x := x) ?_ ?_; rotate_left; (intro hx; clear_value x); rotate_right; subst x)
    | (extract_lets +onlyGivenNames x; first | (have keep := (x : Hbm); clear keep) | (have keep := (x : Mgmt); clear keep) | (have keep := (x : Seal); clear keep) | (have keep := (x : HostIf); clear keep) | clear_value x)
    | with_reducible apply Kept.ite
    | with_reducible exact KeptO.none
    | with_reducible refine KeptO.stay ?_
    | with_reducible refine KeptO.some ?_
    | with_reducible refine KeptO.ite ?_ ?_
    | with_reducible apply State.soft_kept
    | split

theorem State.stallLimitWrite_kept {orig s : State} (h : Kept orig s) (pb : Nat) (data : Reg64) : KeptO id orig (State.stallLimitWrite s pb data) := by
  unfold State.stallLimitWrite
  repeat any_goals first
    | with_reducible assumption
    | intro s x h
    | (extract_lets +onlyGivenNames x; refine Kept.of (a := orig) (x := x) ?_ ?_; rotate_left; (intro hx; clear_value x); rotate_right; subst x)
    | (extract_lets +onlyGivenNames x; first | (have keep := (x : Hbm); clear keep) | (have keep := (x : Mgmt); clear keep) | (have keep := (x : Seal); clear keep) | (have keep := (x : HostIf); clear keep) | clear_value x)
    | with_reducible apply Kept.ite
    | with_reducible exact KeptO.none
    | with_reducible refine KeptO.stay ?_
    | with_reducible refine KeptO.some ?_
    | with_reducible refine KeptO.ite ?_ ?_
    | with_reducible apply State.wr_kept
    | split

theorem State.fmCtlWrite_kept {orig s : State} (h : Kept orig s) (pb : Nat) (data : Reg64) : KeptO id orig (State.fmCtlWrite s pb data) := by
  unfold State.fmCtlWrite
  repeat any_goals first
    | with_reducible assumption
    | intro s x h
    | with_reducible apply Kept.ite
    | with_reducible exact KeptO.none
    | with_reducible refine KeptO.stay ?_
    | with_reducible refine KeptO.some ?_
    | with_reducible refine KeptO.ite ?_ ?_
    | with_reducible apply State.soft_kept
    | split

theorem State.ringWrite_kept {orig s : State} (h : Kept orig s) (pb : Nat) (i : Nat) (data : Reg64) : KeptO id orig (State.ringWrite s pb i data) := by
  unfold State.ringWrite
  repeat any_goals first
    | with_reducible assumption
    | intro s x h
    | (extract_lets +onlyGivenNames x; refine Kept.of (a := orig) (x := x) ?_ ?_; rotate_left; (intro hx; clear_value x); rotate_right; subst x)
    | (extract_lets +onlyGivenNames x; first | (have keep := (x : Hbm); clear keep) | (have keep := (x : Mgmt); clear keep) | (have keep := (x : Seal); clear keep) | (have keep := (x : HostIf); clear keep) | clear_value x)
    | with_reducible apply Kept.ite
    | with_reducible exact KeptO.none
    | with_reducible refine KeptO.stay ?_
    | with_reducible refine KeptO.some ?_
    | with_reducible refine KeptO.ite ?_ ?_
    | with_reducible apply State.soft_kept
    | split

theorem State.routeWrite_kept {orig s : State} (h : Kept orig s) (pb : Nat) (r : Nat) (data : Reg64) : KeptO id orig (State.routeWrite s pb r data) := by
  unfold State.routeWrite
  repeat any_goals first
    | with_reducible assumption
    | intro s x h
    | with_reducible apply Kept.ite
    | with_reducible exact KeptO.none
    | with_reducible refine KeptO.stay ?_
    | with_reducible refine KeptO.some ?_
    | with_reducible refine KeptO.ite ?_ ?_
    | with_reducible apply State.wr_kept
    | with_reducible apply State.soft_kept
    | split

theorem State.handlerWrite_kept {orig s : State} (h : Kept orig s) (pb : Nat) (h : Nat) (data : Reg64) : KeptO id orig (State.handlerWrite s pb h data) := by
  unfold State.handlerWrite
  repeat any_goals first
    | with_reducible assumption
    | intro s x h
    | with_reducible apply Kept.ite
    | with_reducible exact KeptO.none
    | with_reducible refine KeptO.stay ?_
    | with_reducible refine KeptO.some ?_
    | with_reducible refine KeptO.ite ?_ ?_
    | with_reducible apply State.soft_kept
    | split

theorem State.scrubCfgWrite_kept {orig s : State} (h : Kept orig s) (pb : Nat) (data : Reg64) : KeptO id orig (State.scrubCfgWrite s pb data) := by
  unfold State.scrubCfgWrite
  repeat any_goals first
    | with_reducible assumption
    | intro s x h
    | with_reducible exact KeptO.none
    | with_reducible refine KeptO.stay ?_
    | with_reducible refine KeptO.some ?_
    | with_reducible refine KeptO.ite ?_ ?_
    | with_reducible apply State.wr_kept

theorem State.sluiceCfgWrite_kept {orig s : State} (h : Kept orig s) (pb : Nat) (data : Reg64) : KeptO id orig (State.sluiceCfgWrite s pb data) := by
  unfold State.sluiceCfgWrite
  repeat any_goals first
    | with_reducible assumption
    | intro s x h
    | with_reducible apply Kept.ite
    | with_reducible exact KeptO.none
    | with_reducible refine KeptO.stay ?_
    | with_reducible refine KeptO.some ?_
    | with_reducible refine KeptO.ite ?_ ?_
    | with_reducible apply State.soft_kept
    | split

theorem State.tblNext_kept {orig s : State} (h : Kept orig s) (pb : Nat) : Kept orig (State.tblNext s pb) := by
  unfold State.tblNext
  repeat any_goals first
    | with_reducible assumption
    | intro s x h
    | with_reducible apply State.wr_kept

theorem State.tblWrite_kept {orig s : State} (h : Kept orig s) (pb : Nat) (data : Reg64) : KeptO id orig (State.tblWrite s pb data) := by
  unfold State.tblWrite
  repeat any_goals first
    | with_reducible assumption
    | intro s x h
    | (extract_lets +onlyGivenNames x; refine Kept.of (a := orig) (x := x) ?_ ?_; rotate_left; (intro hx; clear_value x); rotate_right; subst x)
    | (extract_lets +onlyGivenNames x; first | (have keep := (x : Hbm); clear keep) | (have keep := (x : Mgmt); clear keep) | (have keep := (x : Seal); clear keep) | (have keep := (x : HostIf); clear keep) | clear_value x)
    | with_reducible apply Kept.ite
    | with_reducible exact KeptO.none
    | with_reducible refine KeptO.stay ?_
    | with_reducible refine KeptO.some ?_
    | with_reducible refine KeptO.ite ?_ ?_
    | with_reducible apply State.onBench_kept
    | with_reducible apply State.tblNext_kept
    | split

theorem State.tblRead_kept {orig s : State} (h : Kept orig s) (pb : Nat) : KeptO Prod.snd orig (State.tblRead s pb) := by
  unfold State.tblRead
  repeat any_goals first
    | with_reducible assumption
    | intro s x h
    | (extract_lets +onlyGivenNames x; refine Kept.of (a := orig) (x := x) ?_ ?_; rotate_left; (intro hx; clear_value x); rotate_right; subst x)
    | (extract_lets +onlyGivenNames x; first | (have keep := (x : Hbm); clear keep) | (have keep := (x : Mgmt); clear keep) | (have keep := (x : Seal); clear keep) | (have keep := (x : HostIf); clear keep) | clear_value x)
    | with_reducible apply Kept.ite
    | with_reducible exact KeptO.none
    | with_reducible refine KeptO.stay ?_
    | with_reducible refine KeptO.some ?_
    | with_reducible refine KeptO.ite ?_ ?_
    | with_reducible apply State.tblNext_kept
    | split

theorem State.fmMemNext_kept {orig s : State} (h : Kept orig s) (pb : Nat) : Kept orig (State.fmMemNext s pb) := by
  unfold State.fmMemNext
  repeat any_goals first
    | with_reducible assumption
    | intro s x h
    | with_reducible apply State.wr_kept

theorem State.fmMemWrite_kept {orig s : State} (h : Kept orig s) (pb : Nat) (data : Reg64) : KeptO id orig (State.fmMemWrite s pb data) := by
  unfold State.fmMemWrite
  repeat any_goals first
    | with_reducible assumption
    | intro s x h
    | (extract_lets +onlyGivenNames x; refine Kept.of (a := orig) (x := x) ?_ ?_; rotate_left; (intro hx; clear_value x); rotate_right; subst x)
    | (extract_lets +onlyGivenNames x; first | (have keep := (x : Hbm); clear keep) | (have keep := (x : Mgmt); clear keep) | (have keep := (x : Seal); clear keep) | (have keep := (x : HostIf); clear keep) | clear_value x)
    | with_reducible apply Kept.ite
    | with_reducible exact KeptO.none
    | with_reducible refine KeptO.stay ?_
    | with_reducible refine KeptO.some ?_
    | with_reducible refine KeptO.ite ?_ ?_
    | with_reducible apply State.onBench_kept
    | with_reducible apply State.fmMemNext_kept
    | fail_if_no_progress (with_reducible refine Kept.frame ?_ (by rfl) (by rfl) (by rfl) (by rfl) (by rfl) (by rfl) (by first | exact Nat.le_refl _ | exact Nat.le_add_right _ _ | with_unfolding_all exact Nat.le_add_right _ _) (by rfl) (by rfl) (by rfl) (by first | exact fun y => y | (with_unfolding_all exact fun y => Mem.wf_writeLE _ _ _ _ y) | (with_unfolding_all exact fun y => Mem.wf_writeByte _ _ _ y) | (with_unfolding_all exact fun y => Mem.wf_clearRange _ _ _ y) | (with_unfolding_all exact fun _ => rfl)) (by first | exact fun y => y | (with_unfolding_all exact fun y => Sparse.wf_set _ _ _ _ y) | (with_unfolding_all exact fun _ => rfl)))
    | split

theorem State.fmMemRead_kept {orig s : State} (h : Kept orig s) (pb : Nat) : KeptO Prod.snd orig (State.fmMemRead s pb) := by
  unfold State.fmMemRead
  repeat any_goals first
    | with_reducible assumption
    | intro s x h
    | (extract_lets +onlyGivenNames x; refine Kept.of (a := orig) (x := x) ?_ ?_; rotate_left; (intro hx; clear_value x); rotate_right; subst x)
    | (extract_lets +onlyGivenNames x; first | (have keep := (x : Hbm); clear keep) | (have keep := (x : Mgmt); clear keep) | (have keep := (x : Seal); clear keep) | (have keep := (x : HostIf); clear keep) | clear_value x)
    | with_reducible apply Kept.ite
    | with_reducible exact KeptO.none
    | with_reducible refine KeptO.stay ?_
    | with_reducible refine KeptO.some ?_
    | with_reducible refine KeptO.ite ?_ ?_
    | with_reducible apply State.benchUncorrectable_kept
    | with_reducible apply State.fmMemNext_kept
    | split

theorem State.weirNext_kept {orig s : State} (h : Kept orig s) (pb : Nat) : Kept orig (State.weirNext s pb) := by
  unfold State.weirNext
  repeat any_goals first
    | with_reducible assumption
    | intro s x h
    | with_reducible apply State.wr_kept

theorem State.weirDataWrite_kept {orig s : State} (h : Kept orig s) (pb : Nat) (data : Reg64) : KeptO id orig (State.weirDataWrite s pb data) := by
  unfold State.weirDataWrite
  repeat any_goals first
    | with_reducible assumption
    | intro s x h
    | with_reducible apply Kept.ite
    | with_reducible exact KeptO.none
    | with_reducible refine KeptO.stay ?_
    | with_reducible refine KeptO.some ?_
    | with_reducible refine KeptO.ite ?_ ?_
    | with_reducible apply State.setWeir_kept
    | with_reducible apply State.weirNext_kept
    | split

theorem State.benchWrite_kept {orig s : State} (h : Kept orig s) (pb : Nat) (o : Nat) (data : Reg64) : KeptO id orig (State.benchWrite s pb o data) := by
  unfold State.benchWrite
  repeat any_goals first
    | with_reducible assumption
    | intro s x h
    | (extract_lets +onlyGivenNames x; refine Kept.of (a := orig) (x := x) ?_ ?_; rotate_left; (intro hx; clear_value x); rotate_right; subst x)
    | (extract_lets +onlyGivenNames x; first | (have keep := (x : Hbm); clear keep) | (have keep := (x : Mgmt); clear keep) | (have keep := (x : Seal); clear keep) | (have keep := (x : HostIf); clear keep) | clear_value x)
    | with_reducible apply Kept.ite
    | with_reducible exact KeptO.none
    | with_reducible refine KeptO.stay ?_
    | with_reducible refine KeptO.some ?_
    | with_reducible refine KeptO.ite ?_ ?_
    | with_reducible apply State.soft_kept
    | with_reducible apply State.sluiceReadyNow_kept
    | with_reducible apply State.ctlWrite_kept
    | (refine Kept.ofO (g := id) (State.ctlWrite_kept ?_ _ _) (by assumption))
    | with_reducible apply State.streamPcWrite_kept
    | (refine Kept.ofO (g := id) (State.streamPcWrite_kept ?_ _ _ _) (by assumption))
    | with_reducible apply State.stallLimitWrite_kept
    | (refine Kept.ofO (g := id) (State.stallLimitWrite_kept ?_ _ _) (by assumption))
    | with_reducible apply State.fmCtlWrite_kept
    | (refine Kept.ofO (g := id) (State.fmCtlWrite_kept ?_ _ _) (by assumption))
    | with_reducible apply State.ringWrite_kept
    | (refine Kept.ofO (g := id) (State.ringWrite_kept ?_ _ _ _) (by assumption))
    | with_reducible apply State.routeWrite_kept
    | (refine Kept.ofO (g := id) (State.routeWrite_kept ?_ _ _ _) (by assumption))
    | with_reducible apply State.handlerWrite_kept
    | (refine Kept.ofO (g := id) (State.handlerWrite_kept ?_ _ _ _) (by assumption))
    | with_reducible apply State.scrubCfgWrite_kept
    | (refine Kept.ofO (g := id) (State.scrubCfgWrite_kept ?_ _ _) (by assumption))
    | with_reducible apply State.sluiceCfgWrite_kept
    | (refine Kept.ofO (g := id) (State.sluiceCfgWrite_kept ?_ _ _) (by assumption))
    | with_reducible apply State.tblWrite_kept
    | (refine Kept.ofO (g := id) (State.tblWrite_kept ?_ _ _) (by assumption))
    | with_reducible apply State.fmMemWrite_kept
    | (refine Kept.ofO (g := id) (State.fmMemWrite_kept ?_ _ _) (by assumption))
    | with_reducible apply State.weirDataWrite_kept
    | (refine Kept.ofO (g := id) (State.weirDataWrite_kept ?_ _ _) (by assumption))
    | fail_if_no_progress (with_reducible refine Kept.frame ?_ (by rfl) (by rfl) (by rfl) (by rfl) (by rfl) (by rfl) (by first | exact Nat.le_refl _ | exact Nat.le_add_right _ _ | with_unfolding_all exact Nat.le_add_right _ _) (by rfl) (by rfl) (by rfl) (by first | exact fun y => y | (with_unfolding_all exact fun y => Mem.wf_writeLE _ _ _ _ y) | (with_unfolding_all exact fun y => Mem.wf_writeByte _ _ _ y) | (with_unfolding_all exact fun y => Mem.wf_clearRange _ _ _ y) | (with_unfolding_all exact fun _ => rfl)) (by first | exact fun y => y | (with_unfolding_all exact fun y => Sparse.wf_set _ _ _ _ y) | (with_unfolding_all exact fun _ => rfl)))
    | split

end Sys2Proof.Machine
end

