-- ==== Sys2Proof/Laws/KeptUnits.lean ====
section
/-! SUPPORT. What every operation keeps (Laws/Kept.lean): HBM, throttling, Kwawekan, Matumon, the Ledger, boot and time. One lemma per operation. -/

set_option linter.all false
set_option linter.unusedVariables false

namespace Sys2Proof.Machine

theorem State.setFills_kept {orig s : State} (h : Kept orig s) (l : List FillJob) : Kept orig (State.setFills s l) := by
  unfold State.setFills
  repeat any_goals first
    | with_reducible assumption
    | intro s x h
    | with_reducible apply State.wrB_kept
    | fail_if_no_progress (with_reducible refine Kept.frame ?_ (by rfl) (by rfl) (by rfl) (by rfl) (by rfl) (by rfl) (by first | exact Nat.le_refl _ | exact Nat.le_add_right _ _ | with_unfolding_all exact Nat.le_add_right _ _) (by rfl) (by rfl) (by rfl) (by first | exact fun y => y | (with_unfolding_all exact fun y => Mem.wf_writeLE _ _ _ _ y) | (with_unfolding_all exact fun y => Mem.wf_writeByte _ _ _ y) | (with_unfolding_all exact fun y => Mem.wf_clearRange _ _ _ y) | (with_unfolding_all exact fun _ => rfl)) (by first | exact fun y => y | (with_unfolding_all exact fun y => Sparse.wf_set _ _ _ _ y) | (with_unfolding_all exact fun _ => rfl)))

theorem State.addFill_kept {orig s : State} (h : Kept orig s) (pages : List Nat) (f : FillFor) : Kept orig (State.addFill s pages f) := by
  unfold State.addFill
  repeat any_goals first
    | with_reducible assumption
    | intro s x h
    | with_reducible apply State.setFills_kept

theorem State.fillStart_kept {orig s : State} (h : Kept orig s) (data : Reg64) : Kept orig (State.fillStart s data) := by
  unfold State.fillStart
  repeat any_goals first
    | with_reducible assumption
    | intro s x h
    | (extract_lets +onlyGivenNames x; refine Kept.of (a := orig) (x := x) ?_ ?_; rotate_left; (intro hx; clear_value x); rotate_right; subst x)
    | (extract_lets +onlyGivenNames x; first | (have keep := (x : Hbm); clear keep) | (have keep := (x : Mgmt); clear keep) | (have keep := (x : Seal); clear keep) | (have keep := (x : HostIf); clear keep) | clear_value x)
    | with_reducible apply Kept.ite
    | with_reducible apply State.wrB_kept
    | with_reducible apply State.soft_kept
    | with_reducible apply State.addFill_kept
    | split

theorem State.hbmMoved_kept {orig s : State} (h : Kept orig s) (c : Nat) (n : Nat) (write : Bool) : Kept orig (State.hbmMoved s c n write) := by
  unfold State.hbmMoved
  repeat any_goals first
    | with_reducible assumption
    | intro s x h
    | with_reducible apply Kept.ite
    | with_reducible apply State.bump_kept
    | split

theorem State.fillPages_kept {orig s : State} (h : Kept orig s) (pages : List Nat) : Kept orig (State.fillPages s pages) := by
  unfold State.fillPages
  repeat any_goals first
    | with_reducible assumption
    | intro s x h
    | (extract_lets +onlyGivenNames x; refine Kept.of (a := orig) (x := x) ?_ ?_; rotate_left; (intro hx; clear_value x); rotate_right; subst x)
    | (extract_lets +onlyGivenNames x; first | (have keep := (x : Hbm); clear keep) | (have keep := (x : Mgmt); clear keep) | (have keep := (x : Seal); clear keep) | (have keep := (x : HostIf); clear keep) | clear_value x)
    | with_reducible apply Kept.ite
    | with_reducible apply State.zeroPages_kept
    | with_reducible apply State.zeroHbm_kept
    | with_reducible apply State.hbmMoved_kept
    | with_reducible refine Kept.foldl ?_ (fun s x h => ?_)
    | split

theorem State.fillHead_kept {orig s : State} (h : Kept orig s) : Kept orig (State.fillHead s) := by
  unfold State.fillHead
  repeat any_goals first
    | with_reducible assumption
    | intro s x h
    | with_reducible apply State.wrB_kept
    | with_reducible apply State.setFills_kept
    | with_reducible apply State.fillPages_kept
    | fail_if_no_progress (with_reducible refine Kept.frame ?_ (by rfl) (by rfl) (by rfl) (by rfl) (by rfl) (by rfl) (by first | exact Nat.le_refl _ | exact Nat.le_add_right _ _ | with_unfolding_all exact Nat.le_add_right _ _) (by rfl) (by rfl) (by rfl) (by first | exact fun y => y | (with_unfolding_all exact fun y => Mem.wf_writeLE _ _ _ _ y) | (with_unfolding_all exact fun y => Mem.wf_writeByte _ _ _ y) | (with_unfolding_all exact fun y => Mem.wf_clearRange _ _ _ y) | (with_unfolding_all exact fun _ => rfl)) (by first | exact fun y => y | (with_unfolding_all exact fun y => Sparse.wf_set _ _ _ _ y) | (with_unfolding_all exact fun _ => rfl)))
    | split

theorem State.setActive_kept {orig s : State} (h : Kept orig s) (active : Nat) (split : Nat) : Kept orig (State.setActive s active split) := by
  unfold State.setActive
  repeat any_goals first
    | with_reducible assumption
    | intro s x h
    | (extract_lets +onlyGivenNames x; refine Kept.of (a := orig) (x := x) ?_ ?_; rotate_left; (intro hx; clear_value x); rotate_right; subst x)
    | (extract_lets +onlyGivenNames x; first | (have keep := (x : Hbm); clear keep) | (have keep := (x : Mgmt); clear keep) | (have keep := (x : Seal); clear keep) | (have keep := (x : HostIf); clear keep) | clear_value x)
    | with_reducible apply Kept.ite
    | with_reducible apply State.wr_kept
    | with_reducible apply State.logAt_kept
    | with_reducible refine Kept.foldl ?_ (fun s x h => ?_)
    | split

theorem State.freeHbm_kept {orig s : State} (h : Kept orig s) : Kept orig s.freeHbm :=
  have k := State.skip_kept h
  ⟨k.pending, k.fresh, k.out, k.floor, fun x => { k.canonical x with hbm := rfl }⟩

theorem State.hbmRemap_kept {orig s : State} (h : Kept orig s) (active : Nat) (split : Nat) : Kept orig (State.hbmRemap s active split) := by
  unfold State.hbmRemap
  repeat any_goals first
    | with_reducible assumption
    | intro s x h
    | (extract_lets +onlyGivenNames x; refine Kept.of (a := orig) (x := x) ?_ ?_; rotate_left; (intro hx; clear_value x); rotate_right; subst x)
    | (extract_lets +onlyGivenNames x; first | (have keep := (x : Hbm); clear keep) | (have keep := (x : Mgmt); clear keep) | (have keep := (x : Seal); clear keep) | (have keep := (x : HostIf); clear keep) | clear_value x)
    | with_reducible apply Kept.ite
    | with_reducible apply State.addFill_kept
    | with_reducible apply State.setActive_kept
    | with_reducible apply State.freeHbm_kept
    | fail_if_no_progress (with_reducible refine Kept.frame ?_ (by rfl) (by rfl) (by rfl) (by rfl) (by rfl) (by rfl) (by first | exact Nat.le_refl _ | exact Nat.le_add_right _ _ | with_unfolding_all exact Nat.le_add_right _ _) (by rfl) (by rfl) (by rfl) (by first | exact fun y => y | (with_unfolding_all exact fun y => Mem.wf_writeLE _ _ _ _ y) | (with_unfolding_all exact fun y => Mem.wf_writeByte _ _ _ y) | (with_unfolding_all exact fun y => Mem.wf_clearRange _ _ _ y) | (with_unfolding_all exact fun _ => rfl)) (by first | exact fun y => y | (with_unfolding_all exact fun y => Sparse.wf_set _ _ _ _ y) | (with_unfolding_all exact fun _ => rfl)))
    | split

theorem State.settleTarget_kept {orig s : State} (h : Kept orig s) : Kept orig (State.settleTarget s) := by
  unfold State.settleTarget
  repeat any_goals first
    | with_reducible assumption
    | intro s x h
    | (extract_lets +onlyGivenNames x; refine Kept.of (a := orig) (x := x) ?_ ?_; rotate_left; (intro hx; clear_value x); rotate_right; subst x)
    | (extract_lets +onlyGivenNames x; first | (have keep := (x : Hbm); clear keep) | (have keep := (x : Mgmt); clear keep) | (have keep := (x : Seal); clear keep) | (have keep := (x : HostIf); clear keep) | clear_value x)
    | with_reducible apply Kept.ite
    | with_reducible apply State.wr_kept
    | with_reducible refine Kept.foldl ?_ (fun s x h => ?_)
    | fail_if_no_progress (with_reducible refine Kept.frame ?_ (by rfl) (by rfl) (by rfl) (by rfl) (by rfl) (by rfl) (by first | exact Nat.le_refl _ | exact Nat.le_add_right _ _ | with_unfolding_all exact Nat.le_add_right _ _) (by rfl) (by rfl) (by rfl) (by first | exact fun y => y | (with_unfolding_all exact fun y => Mem.wf_writeLE _ _ _ _ y) | (with_unfolding_all exact fun y => Mem.wf_writeByte _ _ _ y) | (with_unfolding_all exact fun y => Mem.wf_clearRange _ _ _ y) | (with_unfolding_all exact fun _ => rfl)) (by first | exact fun y => y | (with_unfolding_all exact fun y => Sparse.wf_set _ _ _ _ y) | (with_unfolding_all exact fun _ => rfl)))
    | split

theorem State.stackTemp_kept {orig s : State} (h : Kept orig s) (x : Nat) (t : Nat) : Kept orig (State.stackTemp s x t) := by
  unfold State.stackTemp
  repeat any_goals first
    | with_reducible assumption
    | intro s x h
    | (extract_lets +onlyGivenNames x; refine Kept.of (a := orig) (x := x) ?_ ?_; rotate_left; (intro hx; clear_value x); rotate_right; subst x)
    | (extract_lets +onlyGivenNames x; first | (have keep := (x : Hbm); clear keep) | (have keep := (x : Mgmt); clear keep) | (have keep := (x : Seal); clear keep) | (have keep := (x : HostIf); clear keep) | clear_value x)
    | with_reducible apply State.wr_kept
    | with_reducible apply State.wrB_kept
    | with_reducible apply State.extreme_kept

theorem State.hbmTempSample_kept {orig s : State} (h : Kept orig s) (temps : List Nat) : Kept orig (State.hbmTempSample s temps) := by
  unfold State.hbmTempSample
  repeat any_goals first
    | with_reducible assumption
    | intro s x h
    | (extract_lets +onlyGivenNames x; refine Kept.of (a := orig) (x := x) ?_ ?_; rotate_left; (intro hx; clear_value x); rotate_right; subst x)
    | (extract_lets +onlyGivenNames x; refine Kept.of (a := orig) (x := x.1) ?_ ?_; rotate_left; (intro hx; clear_value x); rotate_right; subst x)
    | (extract_lets +onlyGivenNames x; refine Kept.of (a := orig) (x := x.2) ?_ ?_; rotate_left; (intro hx; clear_value x); rotate_right; subst x)
    | (extract_lets +onlyGivenNames x; first | (have keep := (x : Hbm); clear keep) | (have keep := (x : Mgmt); clear keep) | (have keep := (x : Seal); clear keep) | (have keep := (x : HostIf); clear keep) | clear_value x)
    | with_reducible apply Kept.ite
    | with_reducible apply State.wr_kept
    | with_reducible apply State.logAt_kept
    | with_reducible apply State.settleTarget_kept
    | with_reducible apply State.stackTemp_kept
    | with_reducible refine Kept.foldl ?_ (fun s x h => ?_)
    | fail_if_no_progress (with_reducible refine Kept.frame ?_ (by rfl) (by rfl) (by rfl) (by rfl) (by rfl) (by rfl) (by first | exact Nat.le_refl _ | exact Nat.le_add_right _ _ | with_unfolding_all exact Nat.le_add_right _ _) (by rfl) (by rfl) (by rfl) (by first | exact fun y => y | (with_unfolding_all exact fun y => Mem.wf_writeLE _ _ _ _ y) | (with_unfolding_all exact fun y => Mem.wf_writeByte _ _ _ y) | (with_unfolding_all exact fun y => Mem.wf_clearRange _ _ _ y) | (with_unfolding_all exact fun _ => rfl)) (by first | exact fun y => y | (with_unfolding_all exact fun y => Sparse.wf_set _ _ _ _ y) | (with_unfolding_all exact fun _ => rfl)))
    | split

theorem State.hbmPatrol_kept {orig s : State} (h : Kept orig s) (c word : Nat) (ecc : Ecc) : Kept orig (s.hbmPatrol c word ecc) := by
  unfold State.hbmPatrol
  extract_lets idx old s1 e1 e2 s2 s3 n e3 s4
  have h1 : Kept orig s1 := Kept.ite (State.hbmCorrected_kept h ..) h
  have h2 : Kept orig s2 := Kept.ite
    ⟨h1.pending, h1.fresh, h1.out, h1.floor, fun x => { h1.canonical x with }⟩ h1
  have h3 : Kept orig s3 := Kept.ite (State.hbmUncorrectable_kept h2 ..) h2
  have h4 : Kept orig s4 := ⟨h3.pending, h3.fresh, h3.out, h3.floor, fun x => { h3.canonical x with }⟩
  exact Kept.ite (State.wrapInc_kept h4 _) h4

theorem State.setTg_kept {orig s : State} (h : Kept orig s) (c : Nat) (r : Option TgRun) : Kept orig (State.setTg s c r) := by
  unfold State.setTg
  repeat any_goals first
    | with_reducible assumption
    | intro s x h
    | (extract_lets +onlyGivenNames x; refine Kept.of (a := orig) (x := x) ?_ ?_; rotate_left; (intro hx; clear_value x); rotate_right; subst x)
    | (extract_lets +onlyGivenNames x; first | (have keep := (x : Hbm); clear keep) | (have keep := (x : Mgmt); clear keep) | (have keep := (x : Seal); clear keep) | (have keep := (x : HostIf); clear keep) | clear_value x)
    | with_reducible apply State.wrB_kept
    | fail_if_no_progress (with_reducible refine Kept.frame ?_ (by rfl) (by rfl) (by rfl) (by rfl) (by rfl) (by rfl) (by first | exact Nat.le_refl _ | exact Nat.le_add_right _ _ | with_unfolding_all exact Nat.le_add_right _ _) (by rfl) (by rfl) (by rfl) (by first | exact fun y => y | (with_unfolding_all exact fun y => Mem.wf_writeLE _ _ _ _ y) | (with_unfolding_all exact fun y => Mem.wf_writeByte _ _ _ y) | (with_unfolding_all exact fun y => Mem.wf_clearRange _ _ _ y) | (with_unfolding_all exact fun _ => rfl)) (by first | exact fun y => y | (with_unfolding_all exact fun y => Sparse.wf_set _ _ _ _ y) | (with_unfolding_all exact fun _ => rfl)))
    | split

theorem State.tgWrite_kept {orig s : State} (h : Kept orig s) (c : Nat) (data : Reg64) : Kept orig (State.tgWrite s c data) := by
  unfold State.tgWrite
  repeat any_goals first
    | with_reducible assumption
    | intro s x h
    | (extract_lets +onlyGivenNames x; refine Kept.of (a := orig) (x := x) ?_ ?_; rotate_left; (intro hx; clear_value x); rotate_right; subst x)
    | (extract_lets +onlyGivenNames x; first | (have keep := (x : Hbm); clear keep) | (have keep := (x : Mgmt); clear keep) | (have keep := (x : Seal); clear keep) | (have keep := (x : HostIf); clear keep) | clear_value x)
    | with_reducible apply Kept.ite
    | with_reducible apply State.soft_kept
    | with_reducible apply State.skip_kept
    | with_reducible apply State.setTg_kept
    | fail_if_no_progress (with_reducible refine Kept.frame ?_ (by rfl) (by rfl) (by rfl) (by rfl) (by rfl) (by rfl) (by first | exact Nat.le_refl _ | exact Nat.le_add_right _ _ | with_unfolding_all exact Nat.le_add_right _ _) (by rfl) (by rfl) (by rfl) (by first | exact fun y => y | (with_unfolding_all exact fun y => Mem.wf_writeLE _ _ _ _ y) | (with_unfolding_all exact fun y => Mem.wf_writeByte _ _ _ y) | (with_unfolding_all exact fun y => Mem.wf_clearRange _ _ _ y) | (with_unfolding_all exact fun _ => rfl)) (by first | exact fun y => y | (with_unfolding_all exact fun y => Sparse.wf_set _ _ _ _ y) | (with_unfolding_all exact fun _ => rfl)))
    | split

theorem State.tgWritten_kept {orig s : State} (h : Kept orig s) (c : Nat) (r : TgRun) : Kept orig (s.tgWritten c r) := by
  have w : ∀ (l : List Nat) (m : EMem), m.mem.wf = true → (l.foldl (fun (m : EMem) i =>
      let key := c * 2 ^ 31 + (r.first + i) * 512
      (⟨m.mem.writeBytes key (tgGranule r.pattern s.fresh key), m.bad.filter (fun w => decide (w < key / 32 ∨ key / 32 + 16 ≤ w))⟩ : EMem)) m).mem.wf
        = true := by
    intro l
    induction l with
    | nil => intro m hm; exact hm
    | cons i l ih => intro m hm; exact ih _ (Mem.wf_writeBytes _ _ _ hm)
  have k := State.skip_kept h
  exact ⟨k.pending, k.fresh, k.out, k.floor, fun x => { k.canonical x with hbm := w _ _ (k.canonical x).hbm }⟩

theorem State.tgComplete_kept {orig s : State} (h : Kept orig s) (c : Nat) (fails : List Nat) : Kept orig (State.tgComplete s c fails) := by
  unfold State.tgComplete
  repeat any_goals first
    | with_reducible assumption
    | intro s x h
    | (extract_lets +onlyGivenNames x; refine Kept.of (a := orig) (x := x) ?_ ?_; rotate_left; (intro hx; clear_value x); rotate_right; subst x)
    | (extract_lets +onlyGivenNames x; first | (have keep := (x : Hbm); clear keep) | (have keep := (x : Mgmt); clear keep) | (have keep := (x : Seal); clear keep) | (have keep := (x : HostIf); clear keep) | clear_value x)
    | with_reducible apply Kept.ite
    | with_reducible apply State.wr_kept
    | with_reducible apply State.wrB_kept
    | with_reducible apply State.bump_kept
    | with_reducible apply State.markMapOut_kept
    | with_reducible apply State.hbmMoved_kept
    | with_reducible apply State.setTg_kept
    | with_reducible apply State.tgWritten_kept
    | fail_if_no_progress (with_reducible refine Kept.frame ?_ (by rfl) (by rfl) (by rfl) (by rfl) (by rfl) (by rfl) (by first | exact Nat.le_refl _ | exact Nat.le_add_right _ _ | with_unfolding_all exact Nat.le_add_right _ _) (by rfl) (by rfl) (by rfl) (by first | exact fun y => y | (with_unfolding_all exact fun y => Mem.wf_writeLE _ _ _ _ y) | (with_unfolding_all exact fun y => Mem.wf_writeByte _ _ _ y) | (with_unfolding_all exact fun y => Mem.wf_clearRange _ _ _ y) | (with_unfolding_all exact fun _ => rfl)) (by first | exact fun y => y | (with_unfolding_all exact fun y => Sparse.wf_set _ _ _ _ y) | (with_unfolding_all exact fun _ => rfl)))
    | split

theorem State.dieTempSample_kept {orig s : State} (h : Kept orig s) (temps : List (BitVec 16)) : Kept orig (State.dieTempSample s temps) := by
  unfold State.dieTempSample
  repeat any_goals first
    | with_reducible assumption
    | intro s x h
    | (extract_lets +onlyGivenNames x; refine Kept.of (a := orig) (x := x) ?_ ?_; rotate_left; (intro hx; clear_value x); rotate_right; subst x)
    | (extract_lets +onlyGivenNames x; refine Kept.of (a := orig) (x := x.1) ?_ ?_; rotate_left; (intro hx; clear_value x); rotate_right; subst x)
    | (extract_lets +onlyGivenNames x; refine Kept.of (a := orig) (x := x.2) ?_ ?_; rotate_left; (intro hx; clear_value x); rotate_right; subst x)
    | (extract_lets +onlyGivenNames x; first | (have keep := (x : Hbm); clear keep) | (have keep := (x : Mgmt); clear keep) | (have keep := (x : Seal); clear keep) | (have keep := (x : HostIf); clear keep) | clear_value x)
    | with_reducible apply Kept.ite
    | with_reducible apply State.wr_kept
    | with_reducible apply State.extreme_kept
    | with_reducible apply State.logAt_kept
    | with_reducible apply State.settleTarget_kept
    | with_reducible refine Kept.foldl ?_ (fun s x h => ?_)
    | fail_if_no_progress (with_reducible refine Kept.frame ?_ (by rfl) (by rfl) (by rfl) (by rfl) (by rfl) (by rfl) (by first | exact Nat.le_refl _ | exact Nat.le_add_right _ _ | with_unfolding_all exact Nat.le_add_right _ _) (by rfl) (by rfl) (by rfl) (by first | exact fun y => y | (with_unfolding_all exact fun y => Mem.wf_writeLE _ _ _ _ y) | (with_unfolding_all exact fun y => Mem.wf_writeByte _ _ _ y) | (with_unfolding_all exact fun y => Mem.wf_clearRange _ _ _ y) | (with_unfolding_all exact fun _ => rfl)) (by first | exact fun y => y | (with_unfolding_all exact fun y => Sparse.wf_set _ _ _ _ y) | (with_unfolding_all exact fun _ => rfl)))
    | split

theorem State.railSample_kept {orig s : State} (h : Kept orig s) (rails : List (BitVec 16)) (currents : List (BitVec 16)) (powers : List (BitVec 16)) : Kept orig (State.railSample s rails currents powers) := by
  unfold State.railSample
  repeat any_goals first
    | with_reducible assumption
    | intro s x h
    | (extract_lets +onlyGivenNames x; refine Kept.of (a := orig) (x := x) ?_ ?_; rotate_left; (intro hx; clear_value x); rotate_right; subst x)
    | (extract_lets +onlyGivenNames x; refine Kept.of (a := orig) (x := x.1) ?_ ?_; rotate_left; (intro hx; clear_value x); rotate_right; subst x)
    | (extract_lets +onlyGivenNames x; refine Kept.of (a := orig) (x := x.2) ?_ ?_; rotate_left; (intro hx; clear_value x); rotate_right; subst x)
    | (extract_lets +onlyGivenNames x; first | (have keep := (x : Hbm); clear keep) | (have keep := (x : Mgmt); clear keep) | (have keep := (x : Seal); clear keep) | (have keep := (x : HostIf); clear keep) | clear_value x)
    | with_reducible apply State.setReg_kept
    | with_reducible apply State.wr_kept
    | with_reducible apply State.extreme_kept
    | with_reducible refine Kept.foldl ?_ (fun s x h => ?_)
    | fail_if_no_progress (with_reducible refine Kept.frame ?_ (by rfl) (by rfl) (by rfl) (by rfl) (by rfl) (by rfl) (by first | exact Nat.le_refl _ | exact Nat.le_add_right _ _ | with_unfolding_all exact Nat.le_add_right _ _) (by rfl) (by rfl) (by rfl) (by first | exact fun y => y | (with_unfolding_all exact fun y => Mem.wf_writeLE _ _ _ _ y) | (with_unfolding_all exact fun y => Mem.wf_writeByte _ _ _ y) | (with_unfolding_all exact fun y => Mem.wf_clearRange _ _ _ y) | (with_unfolding_all exact fun _ => rfl)) (by first | exact fun y => y | (with_unfolding_all exact fun y => Sparse.wf_set _ _ _ _ y) | (with_unfolding_all exact fun _ => rfl)))
    | split

theorem State.wardenEval_kept {orig s : State} (h : Kept orig s) (k : Nat) : Kept orig (State.wardenEval s k) := by
  unfold State.wardenEval
  repeat any_goals first
    | with_reducible assumption
    | intro s x h
    | (extract_lets +onlyGivenNames x; refine Kept.of (a := orig) (x := x) ?_ ?_; rotate_left; (intro hx; clear_value x); rotate_right; subst x)
    | (extract_lets +onlyGivenNames x; refine Kept.of (a := orig) (x := x.1) ?_ ?_; rotate_left; (intro hx; clear_value x); rotate_right; subst x)
    | (extract_lets +onlyGivenNames x; first | (have keep := (x : Hbm); clear keep) | (have keep := (x : Mgmt); clear keep) | (have keep := (x : Seal); clear keep) | (have keep := (x : HostIf); clear keep) | clear_value x)
    | with_reducible apply Kept.ite
    | with_reducible apply State.wr_kept
    | with_reducible apply State.logAt_kept
    | with_reducible apply State.settleTarget_kept
    | with_reducible refine Kept.foldl ?_ (fun s x h => ?_)
    | fail_if_no_progress (with_reducible refine Kept.frame ?_ (by rfl) (by rfl) (by rfl) (by rfl) (by rfl) (by rfl) (by first | exact Nat.le_refl _ | exact Nat.le_add_right _ _ | with_unfolding_all exact Nat.le_add_right _ _) (by rfl) (by rfl) (by rfl) (by first | exact fun y => y | (with_unfolding_all exact fun y => Mem.wf_writeLE _ _ _ _ y) | (with_unfolding_all exact fun y => Mem.wf_writeByte _ _ _ y) | (with_unfolding_all exact fun y => Mem.wf_clearRange _ _ _ y) | (with_unfolding_all exact fun _ => rfl)) (by first | exact fun y => y | (with_unfolding_all exact fun y => Sparse.wf_set _ _ _ _ y) | (with_unfolding_all exact fun _ => rfl)))
    | split

theorem State.askVcore_kept {orig s : State} (h : Kept orig s) (code : Nat) : Kept orig (State.askVcore s code) := by
  unfold State.askVcore
  repeat any_goals first
    | with_reducible assumption
    | intro s x h
    | with_reducible apply State.emit_kept
    | fail_if_no_progress (with_reducible refine Kept.frame ?_ (by rfl) (by rfl) (by rfl) (by rfl) (by rfl) (by rfl) (by first | exact Nat.le_refl _ | exact Nat.le_add_right _ _ | with_unfolding_all exact Nat.le_add_right _ _) (by rfl) (by rfl) (by rfl) (by first | exact fun y => y | (with_unfolding_all exact fun y => Mem.wf_writeLE _ _ _ _ y) | (with_unfolding_all exact fun y => Mem.wf_writeByte _ _ _ y) | (with_unfolding_all exact fun y => Mem.wf_clearRange _ _ _ y) | (with_unfolding_all exact fun _ => rfl)) (by first | exact fun y => y | (with_unfolding_all exact fun y => Sparse.wf_set _ _ _ _ y) | (with_unfolding_all exact fun _ => rfl)))

theorem State.setSequence_kept {orig s : State} (h : Kept orig s) (x : Option (Nat × Bool)) : Kept orig (State.setSequence s x) := by
  unfold State.setSequence
  repeat any_goals first
    | with_reducible assumption
    | intro s x h
    | fail_if_no_progress (with_reducible refine Kept.frame ?_ (by rfl) (by rfl) (by rfl) (by rfl) (by rfl) (by rfl) (by first | exact Nat.le_refl _ | exact Nat.le_add_right _ _ | with_unfolding_all exact Nat.le_add_right _ _) (by rfl) (by rfl) (by rfl) (by first | exact fun y => y | (with_unfolding_all exact fun y => Mem.wf_writeLE _ _ _ _ y) | (with_unfolding_all exact fun y => Mem.wf_writeByte _ _ _ y) | (with_unfolding_all exact fun y => Mem.wf_clearRange _ _ _ y) | (with_unfolding_all exact fun _ => rfl)) (by first | exact fun y => y | (with_unfolding_all exact fun y => Sparse.wf_set _ _ _ _ y) | (with_unfolding_all exact fun _ => rfl)))

theorem State.holdFor_kept {orig s : State} (h : Kept orig s) (step : Nat) : Kept orig (State.holdFor s step) := by
  unfold State.holdFor
  repeat any_goals first
    | with_reducible assumption
    | intro s x h
    | with_reducible apply State.wrB_kept
    | with_reducible apply State.setSequence_kept

theorem State.targetChange_kept {orig s : State} (h : Kept orig s) : Kept orig (State.targetChange s) := by
  unfold State.targetChange
  repeat any_goals first
    | with_reducible assumption
    | intro s x h
    | (extract_lets +onlyGivenNames x; refine Kept.of (a := orig) (x := x) ?_ ?_; rotate_left; (intro hx; clear_value x); rotate_right; subst x)
    | (extract_lets +onlyGivenNames x; first | (have keep := (x : Hbm); clear keep) | (have keep := (x : Mgmt); clear keep) | (have keep := (x : Seal); clear keep) | (have keep := (x : HostIf); clear keep) | clear_value x)
    | with_reducible apply Kept.ite
    | with_reducible apply State.askVcore_kept
    | with_reducible apply State.setSequence_kept
    | with_reducible apply State.holdFor_kept
    | split

theorem State.vcoreAck_kept {orig s : State} (h : Kept orig s) (ok : Bool) : Kept orig (State.vcoreAck s ok) := by
  unfold State.vcoreAck
  repeat any_goals first
    | with_reducible assumption
    | intro s x h
    | (extract_lets +onlyGivenNames x; refine Kept.of (a := orig) (x := x) ?_ ?_; rotate_left; (intro hx; clear_value x); rotate_right; subst x)
    | (extract_lets +onlyGivenNames x; first | (have keep := (x : Hbm); clear keep) | (have keep := (x : Mgmt); clear keep) | (have keep := (x : Seal); clear keep) | (have keep := (x : HostIf); clear keep) | clear_value x)
    | with_reducible apply Kept.ite
    | with_reducible apply State.emit_kept
    | with_reducible apply State.wr_kept
    | with_reducible apply State.wrB_kept
    | with_reducible apply State.bump_kept
    | with_reducible apply State.setSequence_kept
    | with_reducible apply State.holdFor_kept
    | fail_if_no_progress (with_reducible refine Kept.frame ?_ (by rfl) (by rfl) (by rfl) (by rfl) (by rfl) (by rfl) (by first | exact Nat.le_refl _ | exact Nat.le_add_right _ _ | with_unfolding_all exact Nat.le_add_right _ _) (by rfl) (by rfl) (by rfl) (by first | exact fun y => y | (with_unfolding_all exact fun y => Mem.wf_writeLE _ _ _ _ y) | (with_unfolding_all exact fun y => Mem.wf_writeByte _ _ _ y) | (with_unfolding_all exact fun y => Mem.wf_clearRange _ _ _ y) | (with_unfolding_all exact fun _ => rfl)) (by first | exact fun y => y | (with_unfolding_all exact fun y => Sparse.wf_set _ _ _ _ y) | (with_unfolding_all exact fun _ => rfl)))
    | split

theorem State.switchPoint_kept {orig s : State} (h : Kept orig s) : Kept orig (State.switchPoint s) := by
  unfold State.switchPoint
  repeat any_goals first
    | with_reducible assumption
    | intro s x h
    | (extract_lets +onlyGivenNames x; refine Kept.of (a := orig) (x := x) ?_ ?_; rotate_left; (intro hx; clear_value x); rotate_right; subst x)
    | (extract_lets +onlyGivenNames x; first | (have keep := (x : Hbm); clear keep) | (have keep := (x : Mgmt); clear keep) | (have keep := (x : Seal); clear keep) | (have keep := (x : HostIf); clear keep) | clear_value x)
    | with_reducible apply Kept.ite
    | with_reducible apply State.wr_kept
    | with_reducible apply State.wrB_kept
    | with_reducible apply State.wrapInc_kept
    | with_reducible apply State.askVcore_kept
    | with_reducible apply State.setSequence_kept
    | fail_if_no_progress (with_reducible refine Kept.frame ?_ (by rfl) (by rfl) (by rfl) (by rfl) (by rfl) (by rfl) (by first | exact Nat.le_refl _ | exact Nat.le_add_right _ _ | with_unfolding_all exact Nat.le_add_right _ _) (by rfl) (by rfl) (by rfl) (by first | exact fun y => y | (with_unfolding_all exact fun y => Mem.wf_writeLE _ _ _ _ y) | (with_unfolding_all exact fun y => Mem.wf_writeByte _ _ _ y) | (with_unfolding_all exact fun y => Mem.wf_clearRange _ _ _ y) | (with_unfolding_all exact fun _ => rfl)) (by first | exact fun y => y | (with_unfolding_all exact fun y => Sparse.wf_set _ _ _ _ y) | (with_unfolding_all exact fun _ => rfl)))
    | split

theorem State.throttleWrite_kept {orig s : State} (h : Kept orig s) (matumon : Bool) (data : Reg64) : Kept orig (State.throttleWrite s matumon data) := by
  unfold State.throttleWrite
  repeat any_goals first
    | with_reducible assumption
    | intro s x h
    | (extract_lets +onlyGivenNames x; refine Kept.of (a := orig) (x := x) ?_ ?_; rotate_left; (intro hx; clear_value x); rotate_right; subst x)
    | (extract_lets +onlyGivenNames x; first | (have keep := (x : Hbm); clear keep) | (have keep := (x : Mgmt); clear keep) | (have keep := (x : Seal); clear keep) | (have keep := (x : HostIf); clear keep) | clear_value x)
    | with_reducible apply Kept.ite
    | with_reducible apply State.wr_kept
    | with_reducible apply State.settleTarget_kept
    | with_reducible refine Kept.foldl ?_ (fun s x h => ?_)
    | split

theorem State.sealAnswer_kept {orig s : State} (h : Kept orig s) (r : SealReq) (status : Nat) (pos : Nat) : Kept orig (State.sealAnswer s r status pos) := by
  unfold State.sealAnswer
  repeat any_goals first
    | with_reducible assumption
    | intro s x h
    | with_reducible apply State.emit_kept

theorem State.remeasure_kept {orig s : State} (h : Kept orig s) : Kept orig (State.remeasure s) := by
  unfold State.remeasure
  repeat any_goals first
    | with_reducible assumption
    | intro s x h
    | with_reducible apply State.setReg_kept
    | with_reducible apply State.skip_kept

theorem State.sealFault_kept {orig s : State} (h : Kept orig s) (cause : Nat) : Kept orig (State.sealFault s cause) := by
  unfold State.sealFault
  repeat any_goals first
    | with_reducible assumption
    | intro s x h
    | (extract_lets +onlyGivenNames x; refine Kept.of (a := orig) (x := x) ?_ ?_; rotate_left; (intro hx; clear_value x); rotate_right; subst x)
    | (extract_lets +onlyGivenNames x; first | (have keep := (x : Hbm); clear keep) | (have keep := (x : Mgmt); clear keep) | (have keep := (x : Seal); clear keep) | (have keep := (x : HostIf); clear keep) | clear_value x)
    | with_reducible apply Kept.ite
    | with_reducible apply State.wr_kept
    | with_reducible apply State.satInc_kept
    | with_reducible apply State.logAt_kept
    | with_reducible apply State.remeasure_kept
    | split

theorem State.sealRefusal_kept {orig s : State} (h : Kept orig s) (role : Nat) (value : Nat) (req : Nat) : Kept orig (State.sealRefusal s role value req) := by
  unfold State.sealRefusal
  repeat any_goals first
    | with_reducible assumption
    | intro s x h
    | with_reducible apply State.bump_kept
    | with_reducible apply State.logAt_kept

theorem State.setSeal_kept {orig s : State} (h : Kept orig s) (k : Seal) (f : s.kwa.svnFloor ≤ k.svnFloor) : Kept orig (s.setSeal k) :=
  ⟨h.pending, h.fresh, h.out, h.floor.trans f, fun x => { h.canonical x with }⟩

theorem State.sealGrant_kept {orig s : State} (h : Kept orig s) (w : SealWait) : Kept orig (State.sealGrant s w) := by
  unfold State.sealGrant
  repeat any_goals first
    | with_reducible assumption
    | intro s x h
    | (extract_lets +onlyGivenNames x; refine Kept.of (a := orig) (x := x) ?_ ?_; rotate_left; (intro hx; clear_value x); rotate_right; subst x)
    | (extract_lets +onlyGivenNames x; first | (have keep := (x : Hbm); clear keep) | (have keep := (x : Mgmt); clear keep) | (have keep := (x : Seal); clear keep) | (have keep := (x : HostIf); clear keep) | clear_value x)
    | with_reducible apply Kept.ite
    | with_reducible apply State.sealAnswer_kept
    | with_reducible refine State.setSeal_kept ?_ _ (Nat.le_refl _)
    | fail_if_no_progress (with_reducible refine Kept.frame ?_ (by rfl) (by rfl) (by rfl) (by rfl) (by rfl) (by rfl) (by first | exact Nat.le_refl _ | exact Nat.le_add_right _ _ | with_unfolding_all exact Nat.le_add_right _ _) (by rfl) (by rfl) (by rfl) (by first | exact fun y => y | (with_unfolding_all exact fun y => Mem.wf_writeLE _ _ _ _ y) | (with_unfolding_all exact fun y => Mem.wf_writeByte _ _ _ y) | (with_unfolding_all exact fun y => Mem.wf_clearRange _ _ _ y) | (with_unfolding_all exact fun _ => rfl)) (by first | exact fun y => y | (with_unfolding_all exact fun y => Sparse.wf_set _ _ _ _ y) | (with_unfolding_all exact fun _ => rfl)))
    | split

theorem State.sealRelease_kept {orig s : State} (h : Kept orig s) : Kept orig (State.sealRelease s) := by
  unfold State.sealRelease
  repeat any_goals first
    | with_reducible assumption
    | intro s x h
    | (extract_lets +onlyGivenNames x; refine Kept.of (a := orig) (x := x) ?_ ?_; rotate_left; (intro hx; clear_value x); rotate_right; subst x)
    | (extract_lets +onlyGivenNames x; first | (have keep := (x : Hbm); clear keep) | (have keep := (x : Mgmt); clear keep) | (have keep := (x : Seal); clear keep) | (have keep := (x : HostIf); clear keep) | clear_value x)
    | with_reducible refine State.setSeal_kept ?_ _ (Nat.le_refl _)
    | with_reducible apply State.sealGrant_kept
    | fail_if_no_progress (with_reducible refine Kept.frame ?_ (by rfl) (by rfl) (by rfl) (by rfl) (by rfl) (by rfl) (by first | exact Nat.le_refl _ | exact Nat.le_add_right _ _ | with_unfolding_all exact Nat.le_add_right _ _) (by rfl) (by rfl) (by rfl) (by first | exact fun y => y | (with_unfolding_all exact fun y => Mem.wf_writeLE _ _ _ _ y) | (with_unfolding_all exact fun y => Mem.wf_writeByte _ _ _ y) | (with_unfolding_all exact fun y => Mem.wf_clearRange _ _ _ y) | (with_unfolding_all exact fun _ => rfl)) (by first | exact fun y => y | (with_unfolding_all exact fun y => Sparse.wf_set _ _ _ _ y) | (with_unfolding_all exact fun _ => rfl)))
    | split

theorem State.sealAsk_kept {orig s : State} (h : Kept orig s) (r : SealReq) (kind : SealKind) (multi : Bool) : Kept orig (State.sealAsk s r kind multi) := by
  unfold State.sealAsk
  repeat any_goals first
    | with_reducible assumption
    | intro s x h
    | (extract_lets +onlyGivenNames x; refine Kept.of (a := orig) (x := x) ?_ ?_; rotate_left; (intro hx; clear_value x); rotate_right; subst x)
    | (extract_lets +onlyGivenNames x; first | (have keep := (x : Hbm); clear keep) | (have keep := (x : Mgmt); clear keep) | (have keep := (x : Seal); clear keep) | (have keep := (x : HostIf); clear keep) | clear_value x)
    | with_reducible apply Kept.ite
    | with_reducible apply State.sealAnswer_kept
    | with_reducible refine State.setSeal_kept ?_ _ (Nat.le_refl _)
    | with_reducible apply State.sealGrant_kept
    | fail_if_no_progress (with_reducible refine Kept.frame ?_ (by rfl) (by rfl) (by rfl) (by rfl) (by rfl) (by rfl) (by first | exact Nat.le_refl _ | exact Nat.le_add_right _ _ | with_unfolding_all exact Nat.le_add_right _ _) (by rfl) (by rfl) (by rfl) (by first | exact fun y => y | (with_unfolding_all exact fun y => Mem.wf_writeLE _ _ _ _ y) | (with_unfolding_all exact fun y => Mem.wf_writeByte _ _ _ y) | (with_unfolding_all exact fun y => Mem.wf_clearRange _ _ _ y) | (with_unfolding_all exact fun _ => rfl)) (by first | exact fun y => y | (with_unfolding_all exact fun y => Sparse.wf_set _ _ _ _ y) | (with_unfolding_all exact fun _ => rfl)))
    | split

theorem State.sealStray_kept {orig s : State} (h : Kept orig s) (r : SealReq) : Kept orig (State.sealStray s r) := by
  unfold State.sealStray
  repeat any_goals first
    | with_reducible assumption
    | intro s x h
    | with_reducible apply Kept.ite
    | with_reducible apply State.sealAnswer_kept
    | with_reducible refine State.setSeal_kept ?_ _ (Nat.le_refl _)
    | fail_if_no_progress (with_reducible refine Kept.frame ?_ (by rfl) (by rfl) (by rfl) (by rfl) (by rfl) (by rfl) (by first | exact Nat.le_refl _ | exact Nat.le_add_right _ _ | with_unfolding_all exact Nat.le_add_right _ _) (by rfl) (by rfl) (by rfl) (by first | exact fun y => y | (with_unfolding_all exact fun y => Mem.wf_writeLE _ _ _ _ y) | (with_unfolding_all exact fun y => Mem.wf_writeByte _ _ _ y) | (with_unfolding_all exact fun y => Mem.wf_clearRange _ _ _ y) | (with_unfolding_all exact fun _ => rfl)) (by first | exact fun y => y | (with_unfolding_all exact fun y => Sparse.wf_set _ _ _ _ y) | (with_unfolding_all exact fun _ => rfl)))
    | split

theorem State.sealFeed_kept {orig s : State} (h : Kept orig s) (r : SealReq) (last : Bool) : Kept orig (State.sealFeed s r last) := by
  unfold State.sealFeed
  repeat any_goals first
    | with_reducible assumption
    | intro s x h
    | with_reducible apply Kept.ite
    | with_reducible apply State.sealAnswer_kept
    | with_reducible refine State.setSeal_kept ?_ _ (Nat.le_refl _)
    | with_reducible apply State.sealStray_kept
    | fail_if_no_progress (with_reducible refine Kept.frame ?_ (by rfl) (by rfl) (by rfl) (by rfl) (by rfl) (by rfl) (by first | exact Nat.le_refl _ | exact Nat.le_add_right _ _ | with_unfolding_all exact Nat.le_add_right _ _) (by rfl) (by rfl) (by rfl) (by first | exact fun y => y | (with_unfolding_all exact fun y => Mem.wf_writeLE _ _ _ _ y) | (with_unfolding_all exact fun y => Mem.wf_writeByte _ _ _ y) | (with_unfolding_all exact fun y => Mem.wf_clearRange _ _ _ y) | (with_unfolding_all exact fun _ => rfl)) (by first | exact fun y => y | (with_unfolding_all exact fun y => Sparse.wf_set _ _ _ _ y) | (with_unfolding_all exact fun _ => rfl)))
    | split

theorem State.sealAbortNow_kept {orig s : State} (h : Kept orig s) (r : SealReq) : Kept orig (State.sealAbortNow s r) := by
  unfold State.sealAbortNow
  repeat any_goals first
    | with_reducible assumption
    | intro s x h
    | with_reducible apply Kept.ite
    | with_reducible apply State.sealAnswer_kept
    | with_reducible apply State.sealRelease_kept
    | with_reducible apply State.sealStray_kept
    | fail_if_no_progress (with_reducible refine Kept.frame ?_ (by rfl) (by rfl) (by rfl) (by rfl) (by rfl) (by rfl) (by first | exact Nat.le_refl _ | exact Nat.le_add_right _ _ | with_unfolding_all exact Nat.le_add_right _ _) (by rfl) (by rfl) (by rfl) (by first | exact fun y => y | (with_unfolding_all exact fun y => Mem.wf_writeLE _ _ _ _ y) | (with_unfolding_all exact fun y => Mem.wf_writeByte _ _ _ y) | (with_unfolding_all exact fun y => Mem.wf_clearRange _ _ _ y) | (with_unfolding_all exact fun _ => rfl)) (by first | exact fun y => y | (with_unfolding_all exact fun y => Sparse.wf_set _ _ _ _ y) | (with_unfolding_all exact fun _ => rfl)))
    | split

theorem State.sealGenerate_kept {orig s : State} (h : Kept orig s) : Kept orig (State.sealGenerate s) := by
  unfold State.sealGenerate
  repeat any_goals first
    | with_reducible assumption
    | intro s x h
    | (extract_lets +onlyGivenNames x; refine Kept.of (a := orig) (x := x) ?_ ?_; rotate_left; (intro hx; clear_value x); rotate_right; subst x)
    | (extract_lets +onlyGivenNames x; first | (have keep := (x : Hbm); clear keep) | (have keep := (x : Mgmt); clear keep) | (have keep := (x : Seal); clear keep) | (have keep := (x : HostIf); clear keep) | clear_value x)
    | with_reducible apply Kept.ite
    | with_reducible apply State.bump_kept
    | with_reducible refine State.setSeal_kept ?_ _ (Nat.le_refl _)
    | fail_if_no_progress (with_reducible refine Kept.frame ?_ (by rfl) (by rfl) (by rfl) (by rfl) (by rfl) (by rfl) (by first | exact Nat.le_refl _ | exact Nat.le_add_right _ _ | with_unfolding_all exact Nat.le_add_right _ _) (by rfl) (by rfl) (by rfl) (by first | exact fun y => y | (with_unfolding_all exact fun y => Mem.wf_writeLE _ _ _ _ y) | (with_unfolding_all exact fun y => Mem.wf_writeByte _ _ _ y) | (with_unfolding_all exact fun y => Mem.wf_clearRange _ _ _ y) | (with_unfolding_all exact fun _ => rfl)) (by first | exact fun y => y | (with_unfolding_all exact fun y => Sparse.wf_set _ _ _ _ y) | (with_unfolding_all exact fun _ => rfl)))
    | split

theorem State.sealComplete_kept {orig s : State} (h : Kept orig s) (out : SealOutcome) : Kept orig (State.sealComplete s out) := by
  unfold State.sealComplete
  repeat any_goals first
    | with_reducible assumption
    | intro s x h
    | (extract_lets +onlyGivenNames x; refine Kept.of (a := orig) (x := x) ?_ ?_; rotate_left; (intro hx; clear_value x); rotate_right; subst x)
    | (extract_lets +onlyGivenNames x; first | (have keep := (x : Hbm); clear keep) | (have keep := (x : Mgmt); clear keep) | (have keep := (x : Seal); clear keep) | (have keep := (x : HostIf); clear keep) | clear_value x)
    | with_reducible apply Kept.ite
    | with_reducible apply State.sealAnswer_kept
    | with_reducible apply State.sealFault_kept
    | with_reducible apply State.sealRefusal_kept
    | with_reducible refine State.setSeal_kept ?_ _ (Nat.le_refl _)
    | with_reducible apply State.sealRelease_kept
    | with_reducible apply State.sealGenerate_kept
    | fail_if_no_progress (with_reducible refine Kept.frame ?_ (by rfl) (by rfl) (by rfl) (by rfl) (by rfl) (by rfl) (by first | exact Nat.le_refl _ | exact Nat.le_add_right _ _ | with_unfolding_all exact Nat.le_add_right _ _) (by rfl) (by rfl) (by rfl) (by first | exact fun y => y | (with_unfolding_all exact fun y => Mem.wf_writeLE _ _ _ _ y) | (with_unfolding_all exact fun y => Mem.wf_writeByte _ _ _ y) | (with_unfolding_all exact fun y => Mem.wf_clearRange _ _ _ y) | (with_unfolding_all exact fun _ => rfl)) (by first | exact fun y => y | (with_unfolding_all exact fun y => Sparse.wf_set _ _ _ _ y) | (with_unfolding_all exact fun _ => rfl)))
    | split

theorem State.sealIdle_kept {orig s : State} (h : Kept orig s) : Kept orig (State.sealIdle s) := by
  unfold State.sealIdle
  repeat any_goals first
    | with_reducible assumption
    | intro s x h
    | with_reducible apply Kept.ite
    | with_reducible refine State.setSeal_kept ?_ _ (Nat.le_refl _)
    | with_reducible apply State.sealRelease_kept
    | fail_if_no_progress (with_reducible refine Kept.frame ?_ (by rfl) (by rfl) (by rfl) (by rfl) (by rfl) (by rfl) (by first | exact Nat.le_refl _ | exact Nat.le_add_right _ _ | with_unfolding_all exact Nat.le_add_right _ _) (by rfl) (by rfl) (by rfl) (by first | exact fun y => y | (with_unfolding_all exact fun y => Mem.wf_writeLE _ _ _ _ y) | (with_unfolding_all exact fun y => Mem.wf_writeByte _ _ _ y) | (with_unfolding_all exact fun y => Mem.wf_clearRange _ _ _ y) | (with_unfolding_all exact fun _ => rfl)) (by first | exact fun y => y | (with_unfolding_all exact fun y => Sparse.wf_set _ _ _ _ y) | (with_unfolding_all exact fun _ => rfl)))
    | split

theorem State.entropyFails_kept {orig s : State} (h : Kept orig s) (adaptive : Bool) : Kept orig (State.entropyFails s adaptive) := by
  unfold State.entropyFails
  repeat any_goals first
    | with_reducible assumption
    | intro s x h
    | (extract_lets +onlyGivenNames x; refine Kept.of (a := orig) (x := x) ?_ ?_; rotate_left; (intro hx; clear_value x); rotate_right; subst x)
    | (extract_lets +onlyGivenNames x; first | (have keep := (x : Hbm); clear keep) | (have keep := (x : Mgmt); clear keep) | (have keep := (x : Seal); clear keep) | (have keep := (x : HostIf); clear keep) | clear_value x)
    | with_reducible apply Kept.ite
    | with_reducible apply State.wrB_kept
    | with_reducible apply State.bump_kept
    | with_reducible apply State.sealFault_kept
    | with_reducible refine State.setSeal_kept ?_ _ (Nat.le_refl _)
    | fail_if_no_progress (with_reducible refine Kept.frame ?_ (by rfl) (by rfl) (by rfl) (by rfl) (by rfl) (by rfl) (by first | exact Nat.le_refl _ | exact Nat.le_add_right _ _ | with_unfolding_all exact Nat.le_add_right _ _) (by rfl) (by rfl) (by rfl) (by first | exact fun y => y | (with_unfolding_all exact fun y => Mem.wf_writeLE _ _ _ _ y) | (with_unfolding_all exact fun y => Mem.wf_writeByte _ _ _ y) | (with_unfolding_all exact fun y => Mem.wf_clearRange _ _ _ y) | (with_unfolding_all exact fun _ => rfl)) (by first | exact fun y => y | (with_unfolding_all exact fun y => Sparse.wf_set _ _ _ _ y) | (with_unfolding_all exact fun _ => rfl)))
    | split

theorem State.entropyUp_kept {orig s : State} (h : Kept orig s) : Kept orig (State.entropyUp s) := by
  unfold State.entropyUp
  repeat any_goals first
    | with_reducible assumption
    | intro s x h
    | with_reducible apply Kept.ite
    | with_reducible apply State.wrB_kept
    | with_reducible apply State.bump_kept
    | split

theorem State.spdm_kept {orig s : State} (h : Kept orig s) (code : SpdmCode) (session : Bool) : Kept orig (s.spdm code session) := by
  unfold State.spdm
  dsimp only
  repeat any_goals first
    | with_reducible assumption
    | with_reducible apply State.emit_kept
    | with_reducible apply Kept.ite
    | with_reducible refine State.setSeal_kept ?_ _ (Nat.le_refl _)
    | with_reducible apply State.sealAsk_kept
    | split

theorem State.ideProg_kept {orig s : State} (h : Kept orig s) (st : IdeStream) (kset : Bool) : Kept orig (State.ideProg s st kset) := by
  unfold State.ideProg
  repeat any_goals first
    | with_reducible assumption
    | intro s x h
    | (extract_lets +onlyGivenNames x; refine Kept.of (a := orig) (x := x) ?_ ?_; rotate_left; (intro hx; clear_value x); rotate_right; subst x)
    | (extract_lets +onlyGivenNames x; first | (have keep := (x : Hbm); clear keep) | (have keep := (x : Mgmt); clear keep) | (have keep := (x : Seal); clear keep) | (have keep := (x : HostIf); clear keep) | clear_value x)
    | with_reducible apply Kept.ite
    | with_reducible apply State.sealAnswer_kept
    | with_reducible refine State.setSeal_kept ?_ _ (Nat.le_refl _)
    | with_reducible apply State.spdm_kept
    | fail_if_no_progress (with_reducible refine Kept.frame ?_ (by rfl) (by rfl) (by rfl) (by rfl) (by rfl) (by rfl) (by first | exact Nat.le_refl _ | exact Nat.le_add_right _ _ | with_unfolding_all exact Nat.le_add_right _ _) (by rfl) (by rfl) (by rfl) (by first | exact fun y => y | (with_unfolding_all exact fun y => Mem.wf_writeLE _ _ _ _ y) | (with_unfolding_all exact fun y => Mem.wf_writeByte _ _ _ y) | (with_unfolding_all exact fun y => Mem.wf_clearRange _ _ _ y) | (with_unfolding_all exact fun _ => rfl)) (by first | exact fun y => y | (with_unfolding_all exact fun y => Sparse.wf_set _ _ _ _ y) | (with_unfolding_all exact fun _ => rfl)))
    | split

theorem State.ideGo_kept {orig s : State} (h : Kept orig s) (st : IdeStream) (kset : Bool) : Kept orig (State.ideGo s st kset) := by
  unfold State.ideGo
  repeat any_goals first
    | with_reducible assumption
    | intro s x h
    | with_reducible apply Kept.ite
    | with_reducible apply State.wrB_kept
    | with_reducible apply State.bump_kept
    | with_reducible apply State.sealAnswer_kept
    | with_reducible apply State.spdm_kept
    | split

theorem State.challengeRead_kept {orig s : State} (h : Kept orig s) : Kept orig (State.challengeRead s) := by
  unfold State.challengeRead
  repeat any_goals first
    | with_reducible assumption
    | intro s x h
    | (extract_lets +onlyGivenNames x; refine Kept.of (a := orig) (x := x) ?_ ?_; rotate_left; (intro hx; clear_value x); rotate_right; subst x)
    | (extract_lets +onlyGivenNames x; first | (have keep := (x : Hbm); clear keep) | (have keep := (x : Mgmt); clear keep) | (have keep := (x : Seal); clear keep) | (have keep := (x : HostIf); clear keep) | clear_value x)
    | with_reducible apply Kept.ite
    | with_reducible apply State.emit_kept
    | with_reducible apply State.skip_kept
    | with_reducible apply State.sealAnswer_kept
    | with_reducible refine State.setSeal_kept ?_ _ (Nat.le_refl _)
    | with_reducible apply State.sealGenerate_kept
    | fail_if_no_progress (with_reducible refine Kept.frame ?_ (by rfl) (by rfl) (by rfl) (by rfl) (by rfl) (by rfl) (by first | exact Nat.le_refl _ | exact Nat.le_add_right _ _ | with_unfolding_all exact Nat.le_add_right _ _) (by rfl) (by rfl) (by rfl) (by first | exact fun y => y | (with_unfolding_all exact fun y => Mem.wf_writeLE _ _ _ _ y) | (with_unfolding_all exact fun y => Mem.wf_writeByte _ _ _ y) | (with_unfolding_all exact fun y => Mem.wf_clearRange _ _ _ y) | (with_unfolding_all exact fun _ => rfl)) (by first | exact fun y => y | (with_unfolding_all exact fun y => Sparse.wf_set _ _ _ _ y) | (with_unfolding_all exact fun _ => rfl)))
    | split

theorem State.debugTry_kept {orig s : State} (h : Kept orig s) (scope : Nat) (sig : List Byte) : Kept orig (State.debugTry s scope sig) := by
  unfold State.debugTry
  repeat any_goals first
    | with_reducible assumption
    | intro s x h
    | (extract_lets +onlyGivenNames x; refine Kept.of (a := orig) (x := x) ?_ ?_; rotate_left; (intro hx; clear_value x); rotate_right; subst x)
    | (extract_lets +onlyGivenNames x; refine Kept.of (a := orig) (x := x.1) ?_ ?_; rotate_left; (intro hx; clear_value x); rotate_right; subst x)
    | (extract_lets +onlyGivenNames x; refine Kept.of (a := orig) (x := x.2) ?_ ?_; rotate_left; (intro hx; clear_value x); rotate_right; subst x)
    | (extract_lets +onlyGivenNames x; first | (have keep := (x : Hbm); clear keep) | (have keep := (x : Mgmt); clear keep) | (have keep := (x : Seal); clear keep) | (have keep := (x : HostIf); clear keep) | clear_value x)
    | with_reducible apply Kept.ite
    | with_reducible apply State.emit_kept
    | with_reducible apply State.wr_kept
    | with_reducible apply State.wrB_kept
    | with_reducible apply State.bump_kept
    | with_reducible apply State.remeasure_kept
    | with_reducible refine State.setSeal_kept ?_ _ (Nat.le_refl _)
    | fail_if_no_progress (with_reducible refine Kept.frame ?_ (by rfl) (by rfl) (by rfl) (by rfl) (by rfl) (by rfl) (by first | exact Nat.le_refl _ | exact Nat.le_add_right _ _ | with_unfolding_all exact Nat.le_add_right _ _) (by rfl) (by rfl) (by rfl) (by first | exact fun y => y | (with_unfolding_all exact fun y => Mem.wf_writeLE _ _ _ _ y) | (with_unfolding_all exact fun y => Mem.wf_writeByte _ _ _ y) | (with_unfolding_all exact fun y => Mem.wf_clearRange _ _ _ y) | (with_unfolding_all exact fun _ => rfl)) (by first | exact fun y => y | (with_unfolding_all exact fun y => Sparse.wf_set _ _ _ _ y) | (with_unfolding_all exact fun _ => rfl)))
    | split

theorem State.sealFlr_kept {orig s : State} (h : Kept orig s) : Kept orig (State.sealFlr s) := by
  unfold State.sealFlr
  repeat any_goals first
    | with_reducible assumption
    | intro s x h
    | (extract_lets +onlyGivenNames x; refine Kept.of (a := orig) (x := x) ?_ ?_; rotate_left; (intro hx; clear_value x); rotate_right; subst x)
    | (extract_lets +onlyGivenNames x; first | (have keep := (x : Hbm); clear keep) | (have keep := (x : Mgmt); clear keep) | (have keep := (x : Seal); clear keep) | (have keep := (x : HostIf); clear keep) | clear_value x)
    | with_reducible apply State.wrB_kept
    | with_reducible refine State.setSeal_kept ?_ _ (Nat.le_refl _)
    | fail_if_no_progress (with_reducible refine Kept.frame ?_ (by rfl) (by rfl) (by rfl) (by rfl) (by rfl) (by rfl) (by first | exact Nat.le_refl _ | exact Nat.le_add_right _ _ | with_unfolding_all exact Nat.le_add_right _ _) (by rfl) (by rfl) (by rfl) (by first | exact fun y => y | (with_unfolding_all exact fun y => Mem.wf_writeLE _ _ _ _ y) | (with_unfolding_all exact fun y => Mem.wf_writeByte _ _ _ y) | (with_unfolding_all exact fun y => Mem.wf_clearRange _ _ _ y) | (with_unfolding_all exact fun _ => rfl)) (by first | exact fun y => y | (with_unfolding_all exact fun y => Sparse.wf_set _ _ _ _ y) | (with_unfolding_all exact fun _ => rfl)))

theorem State.accessError_kept {orig s : State} (h : Kept orig s) (vw : Nat) (write : Bool) (width : Nat) (reason : Nat) (bar : Nat) (d1 : Nat) : Kept orig (State.accessError s vw write width reason bar d1) := by
  unfold State.accessError
  repeat any_goals first
    | with_reducible assumption
    | intro s x h
    | (extract_lets +onlyGivenNames x; refine Kept.of (a := orig) (x := x) ?_ ?_; rotate_left; (intro hx; clear_value x); rotate_right; subst x)
    | (extract_lets +onlyGivenNames x; first | (have keep := (x : Hbm); clear keep) | (have keep := (x : Mgmt); clear keep) | (have keep := (x : Seal); clear keep) | (have keep := (x : HostIf); clear keep) | clear_value x)
    | with_reducible apply Kept.ite
    | with_reducible apply State.skip_kept
    | with_reducible apply State.log_kept
    | split

theorem State.mgmtAnswer_kept {orig s : State} (h : Kept orig s) (vw : Nat) (st : Nat) (resp : List Reg64) : Kept orig (State.mgmtAnswer s vw st resp) := by
  unfold State.mgmtAnswer
  repeat any_goals first
    | with_reducible assumption
    | intro s x h
    | (extract_lets +onlyGivenNames x; refine Kept.of (a := orig) (x := x) ?_ ?_; rotate_left; (intro hx; clear_value x); rotate_right; subst x)
    | (extract_lets +onlyGivenNames x; first | (have keep := (x : Hbm); clear keep) | (have keep := (x : Mgmt); clear keep) | (have keep := (x : Seal); clear keep) | (have keep := (x : HostIf); clear keep) | clear_value x)
    | with_reducible apply State.setView_kept
    | with_reducible apply State.wr_kept
    | with_reducible apply State.wrB_kept
    | with_reducible apply State.irq_kept
    | fail_if_no_progress (with_reducible refine Kept.frame ?_ (by rfl) (by rfl) (by rfl) (by rfl) (by rfl) (by rfl) (by first | exact Nat.le_refl _ | exact Nat.le_add_right _ _ | with_unfolding_all exact Nat.le_add_right _ _) (by rfl) (by rfl) (by rfl) (by first | exact fun y => y | (with_unfolding_all exact fun y => Mem.wf_writeLE _ _ _ _ y) | (with_unfolding_all exact fun y => Mem.wf_writeByte _ _ _ y) | (with_unfolding_all exact fun y => Mem.wf_clearRange _ _ _ y) | (with_unfolding_all exact fun _ => rfl)) (by first | exact fun y => y | (with_unfolding_all exact fun y => Sparse.wf_set _ _ _ _ y) | (with_unfolding_all exact fun _ => rfl)))

theorem State.cmdPass_kept {orig s : State} (h : Kept orig s) (vw : Nat) (c : MgmtCmd) : Kept orig (State.cmdPass s vw c) := by
  unfold State.cmdPass
  repeat any_goals first
    | with_reducible assumption
    | intro s x h
    | (extract_lets +onlyGivenNames x; refine Kept.of (a := orig) (x := x) ?_ ?_; rotate_left; (intro hx; clear_value x); rotate_right; subst x)
    | (extract_lets +onlyGivenNames x; first | (have keep := (x : Hbm); clear keep) | (have keep := (x : Mgmt); clear keep) | (have keep := (x : Seal); clear keep) | (have keep := (x : HostIf); clear keep) | clear_value x)
    | with_reducible apply Kept.ite
    | with_reducible apply State.setView_kept
    | with_reducible apply State.mgmtAnswer_kept
    | fail_if_no_progress (with_reducible refine Kept.frame ?_ (by rfl) (by rfl) (by rfl) (by rfl) (by rfl) (by rfl) (by first | exact Nat.le_refl _ | exact Nat.le_add_right _ _ | with_unfolding_all exact Nat.le_add_right _ _) (by rfl) (by rfl) (by rfl) (by first | exact fun y => y | (with_unfolding_all exact fun y => Mem.wf_writeLE _ _ _ _ y) | (with_unfolding_all exact fun y => Mem.wf_writeByte _ _ _ y) | (with_unfolding_all exact fun y => Mem.wf_clearRange _ _ _ y) | (with_unfolding_all exact fun _ => rfl)) (by first | exact fun y => y | (with_unfolding_all exact fun y => Sparse.wf_set _ _ _ _ y) | (with_unfolding_all exact fun _ => rfl)))
    | split

theorem State.cmdStart_kept {orig s : State} (h : Kept orig s) (vw : Nat) (code : Nat) (length : Nat) : Kept orig (State.cmdStart s vw code length) := by
  unfold State.cmdStart
  repeat any_goals first
    | with_reducible assumption
    | intro s x h
    | (extract_lets +onlyGivenNames x; refine Kept.of (a := orig) (x := x) ?_ ?_; rotate_left; (intro hx; clear_value x); rotate_right; subst x)
    | (extract_lets +onlyGivenNames x; first | (have keep := (x : Hbm); clear keep) | (have keep := (x : Mgmt); clear keep) | (have keep := (x : Seal); clear keep) | (have keep := (x : HostIf); clear keep) | clear_value x)
    | with_reducible apply Kept.ite
    | with_reducible apply State.setView_kept
    | with_reducible apply State.wrB_kept
    | with_reducible apply State.mgmtAnswer_kept
    | with_reducible apply State.cmdPass_kept
    | fail_if_no_progress (with_reducible refine Kept.frame ?_ (by rfl) (by rfl) (by rfl) (by rfl) (by rfl) (by rfl) (by first | exact Nat.le_refl _ | exact Nat.le_add_right _ _ | with_unfolding_all exact Nat.le_add_right _ _) (by rfl) (by rfl) (by rfl) (by first | exact fun y => y | (with_unfolding_all exact fun y => Mem.wf_writeLE _ _ _ _ y) | (with_unfolding_all exact fun y => Mem.wf_writeByte _ _ _ y) | (with_unfolding_all exact fun y => Mem.wf_clearRange _ _ _ y) | (with_unfolding_all exact fun _ => rfl)) (by first | exact fun y => y | (with_unfolding_all exact fun y => Sparse.wf_set _ _ _ _ y) | (with_unfolding_all exact fun _ => rfl)))
    | split

theorem State.cmdAbort_kept {orig s : State} (h : Kept orig s) (vw : Nat) : Kept orig (State.cmdAbort s vw) := by
  unfold State.cmdAbort
  repeat any_goals first
    | with_reducible assumption
    | intro s x h
    | with_reducible apply Kept.ite
    | with_reducible apply State.setView_kept
    | fail_if_no_progress (with_reducible refine Kept.frame ?_ (by rfl) (by rfl) (by rfl) (by rfl) (by rfl) (by rfl) (by first | exact Nat.le_refl _ | exact Nat.le_add_right _ _ | with_unfolding_all exact Nat.le_add_right _ _) (by rfl) (by rfl) (by rfl) (by first | exact fun y => y | (with_unfolding_all exact fun y => Mem.wf_writeLE _ _ _ _ y) | (with_unfolding_all exact fun y => Mem.wf_writeByte _ _ _ y) | (with_unfolding_all exact fun y => Mem.wf_clearRange _ _ _ y) | (with_unfolding_all exact fun _ => rfl)) (by first | exact fun y => y | (with_unfolding_all exact fun y => Sparse.wf_set _ _ _ _ y) | (with_unfolding_all exact fun _ => rfl)))
    | split

theorem State.mgmtCmdWrite_kept {orig s : State} (h : Kept orig s) (vw : Nat) (data : Reg64) : Kept orig (State.mgmtCmdWrite s vw data) := by
  unfold State.mgmtCmdWrite
  repeat any_goals first
    | with_reducible assumption
    | intro s x h
    | (extract_lets +onlyGivenNames x; refine Kept.of (a := orig) (x := x) ?_ ?_; rotate_left; (intro hx; clear_value x); rotate_right; subst x)
    | (extract_lets +onlyGivenNames x; first | (have keep := (x : Hbm); clear keep) | (have keep := (x : Mgmt); clear keep) | (have keep := (x : Seal); clear keep) | (have keep := (x : HostIf); clear keep) | clear_value x)
    | with_reducible apply Kept.ite
    | with_reducible apply State.cmdStart_kept
    | with_reducible apply State.cmdAbort_kept
    | split

theorem State.dataWrite_kept {orig s : State} (h : Kept orig s) (vw : Nat) (w : Reg64) : Kept orig (State.dataWrite s vw w) := by
  unfold State.dataWrite
  repeat any_goals first
    | with_reducible assumption
    | intro s x h
    | (extract_lets +onlyGivenNames x; refine Kept.of (a := orig) (x := x) ?_ ?_; rotate_left; (intro hx; clear_value x); rotate_right; subst x)
    | (extract_lets +onlyGivenNames x; first | (have keep := (x : Hbm); clear keep) | (have keep := (x : Mgmt); clear keep) | (have keep := (x : Seal); clear keep) | (have keep := (x : HostIf); clear keep) | clear_value x)
    | with_reducible apply Kept.ite
    | with_reducible apply State.setView_kept
    | with_reducible apply State.wrB_kept
    | with_reducible apply State.mgmtAnswer_kept
    | with_reducible apply State.cmdPass_kept
    | fail_if_no_progress (with_reducible refine Kept.frame ?_ (by rfl) (by rfl) (by rfl) (by rfl) (by rfl) (by rfl) (by first | exact Nat.le_refl _ | exact Nat.le_add_right _ _ | with_unfolding_all exact Nat.le_add_right _ _) (by rfl) (by rfl) (by rfl) (by first | exact fun y => y | (with_unfolding_all exact fun y => Mem.wf_writeLE _ _ _ _ y) | (with_unfolding_all exact fun y => Mem.wf_writeByte _ _ _ y) | (with_unfolding_all exact fun y => Mem.wf_clearRange _ _ _ y) | (with_unfolding_all exact fun _ => rfl)) (by first | exact fun y => y | (with_unfolding_all exact fun y => Sparse.wf_set _ _ _ _ y) | (with_unfolding_all exact fun _ => rfl)))
    | split

theorem State.dataRead_kept {orig s : State} (h : Kept orig s) (vw : Nat) : KeptV Prod.snd orig (State.dataRead s vw) := by
  unfold State.dataRead
  repeat any_goals first
    | with_reducible assumption
    | intro s x h
    | (extract_lets +onlyGivenNames x; refine Kept.of (a := orig) (x := x) ?_ ?_; rotate_left; (intro hx; clear_value x); rotate_right; subst x)
    | (extract_lets +onlyGivenNames x; first | (have keep := (x : Hbm); clear keep) | (have keep := (x : Mgmt); clear keep) | (have keep := (x : Seal); clear keep) | (have keep := (x : HostIf); clear keep) | clear_value x)
    | with_reducible refine KeptV.ite ?_ ?_
    | with_reducible refine KeptV.fst ?_
    | with_reducible refine KeptV.snd ?_
    | with_reducible refine KeptV.reply ?_
    | with_reducible refine KeptV.got ?_
    | with_reducible apply State.setView_kept
    | with_reducible apply State.wrB_kept
    | fail_if_no_progress (with_reducible refine Kept.frame ?_ (by rfl) (by rfl) (by rfl) (by rfl) (by rfl) (by rfl) (by first | exact Nat.le_refl _ | exact Nat.le_add_right _ _ | with_unfolding_all exact Nat.le_add_right _ _) (by rfl) (by rfl) (by rfl) (by first | exact fun y => y | (with_unfolding_all exact fun y => Mem.wf_writeLE _ _ _ _ y) | (with_unfolding_all exact fun y => Mem.wf_writeByte _ _ _ y) | (with_unfolding_all exact fun y => Mem.wf_clearRange _ _ _ y) | (with_unfolding_all exact fun _ => rfl)) (by first | exact fun y => y | (with_unfolding_all exact fun y => Sparse.wf_set _ _ _ _ y) | (with_unfolding_all exact fun _ => rfl)))
    | split

theorem State.dataRead_kept1 {orig s : State} (h : Kept orig s) (vw : Nat) : Kept orig (State.dataRead s vw).2 := State.dataRead_kept h vw

theorem State.refuse_kept {orig s : State} (h : Kept orig s) (st : Nat) : KeptV Reply.s orig (s.refuse st) := h

theorem State.refuse_kept1 {orig s : State} (h : Kept orig s) (st : Nat) : Kept orig (s.refuse st).s := h

theorem State.accept_kept {orig s : State} (h : Kept orig s) : KeptV Reply.s orig (State.accept s) := by
  unfold State.accept
  repeat any_goals first
    | with_reducible assumption
    | intro s x h
    | with_reducible refine KeptV.ite ?_ ?_
    | with_reducible refine KeptV.fst ?_
    | with_reducible refine KeptV.snd ?_
    | with_reducible refine KeptV.reply ?_
    | with_reducible refine KeptV.got ?_

theorem State.accept_kept1 {orig s : State} (h : Kept orig s) : Kept orig (State.accept s).s := State.accept_kept h 

theorem State.runCmd_kept {orig s : State} (h : Kept orig s) (vw code : Nat) (issuer : List Reg64 → Bool)
    (body : State → List Reg64 → Reply) (k : ∀ s ws, Kept orig s → Kept orig (body s ws).s) :
    Kept orig (s.runCmd vw code issuer body) := by
  unfold State.runCmd
  split
  · exact h
  · split
    · exact h
    · extract_lets r
      have hr : Kept orig r.s := by
        subst r
        split
        · exact h
        · split
          · exact h
          · split
            · exact h
            · exact k _ _ h
      exact State.mgmtAnswer_kept hr ..

theorem State.tenantOpenCmd_kept {orig s : State} (h : Kept orig s) (ws : List Reg64) : KeptV Reply.s orig (State.tenantOpenCmd s ws) := by
  unfold State.tenantOpenCmd
  repeat any_goals first
    | with_reducible assumption
    | intro s x h
    | (extract_lets +onlyGivenNames x; refine Kept.of (a := orig) (x := x) ?_ ?_; rotate_left; (intro hx; clear_value x); rotate_right; subst x)
    | (extract_lets +onlyGivenNames x; refine Kept.of (a := orig) (x := x.1) ?_ ?_; rotate_left; (intro hx; clear_value x); rotate_right; subst x)
    | (extract_lets +onlyGivenNames x; refine Kept.of (a := orig) (x := x.2) ?_ ?_; rotate_left; (intro hx; clear_value x); rotate_right; subst x)
    | (extract_lets +onlyGivenNames x; first | (have keep := (x : Hbm); clear keep) | (have keep := (x : Mgmt); clear keep) | (have keep := (x : Seal); clear keep) | (have keep := (x : HostIf); clear keep) | clear_value x)
    | with_reducible apply Kept.ite
    | with_reducible refine KeptV.ite ?_ ?_
    | with_reducible refine KeptV.fst ?_
    | with_reducible refine KeptV.snd ?_
    | with_reducible refine KeptV.reply ?_
    | with_reducible refine KeptV.got ?_
    | with_reducible apply State.setTenant_kept
    | with_reducible apply State.wr_kept
    | with_reducible apply State.wrB_kept
    | with_reducible apply State.journal_kept
    | with_reducible apply State.sealRefusal_kept
    | with_reducible apply State.refuse_kept
    | with_reducible apply State.refuse_kept1
    | with_reducible apply State.refuse_kept
    | fail_if_no_progress (with_reducible refine Kept.frame ?_ (by rfl) (by rfl) (by rfl) (by rfl) (by rfl) (by rfl) (by first | exact Nat.le_refl _ | exact Nat.le_add_right _ _ | with_unfolding_all exact Nat.le_add_right _ _) (by rfl) (by rfl) (by rfl) (by first | exact fun y => y | (with_unfolding_all exact fun y => Mem.wf_writeLE _ _ _ _ y) | (with_unfolding_all exact fun y => Mem.wf_writeByte _ _ _ y) | (with_unfolding_all exact fun y => Mem.wf_clearRange _ _ _ y) | (with_unfolding_all exact fun _ => rfl)) (by first | exact fun y => y | (with_unfolding_all exact fun y => Sparse.wf_set _ _ _ _ y) | (with_unfolding_all exact fun _ => rfl)))
    | split

theorem State.tenantOpenCmd_kept1 {orig s : State} (h : Kept orig s) (ws : List Reg64) : Kept orig (State.tenantOpenCmd s ws).s := State.tenantOpenCmd_kept h ws

theorem State.settleKeyRegs_kept {orig s : State} (h : Kept orig s) (t : Nat) : Kept orig (State.settleKeyRegs s t) := by
  unfold State.settleKeyRegs
  repeat any_goals first
    | with_reducible assumption
    | intro s x h
    | (extract_lets +onlyGivenNames x; refine Kept.of (a := orig) (x := x) ?_ ?_; rotate_left; (intro hx; clear_value x); rotate_right; subst x)
    | (extract_lets +onlyGivenNames x; first | (have keep := (x : Hbm); clear keep) | (have keep := (x : Mgmt); clear keep) | (have keep := (x : Seal); clear keep) | (have keep := (x : HostIf); clear keep) | clear_value x)
    | with_reducible apply State.wr_kept

theorem State.dropKey_kept {orig s : State} (h : Kept orig s) (t : Nat) (k : Nat) : Kept orig (State.dropKey s t k) := by
  unfold State.dropKey
  repeat any_goals first
    | with_reducible assumption
    | intro s x h
    | (extract_lets +onlyGivenNames x; refine Kept.of (a := orig) (x := x) ?_ ?_; rotate_left; (intro hx; clear_value x); rotate_right; subst x)
    | (extract_lets +onlyGivenNames x; refine Kept.of (a := orig) (x := x.1) ?_ ?_; rotate_left; (intro hx; clear_value x); rotate_right; subst x)
    | (extract_lets +onlyGivenNames x; first | (have keep := (x : Hbm); clear keep) | (have keep := (x : Mgmt); clear keep) | (have keep := (x : Seal); clear keep) | (have keep := (x : HostIf); clear keep) | clear_value x)
    | with_reducible apply State.setTenant_kept
    | with_reducible apply State.clearLeases_kept
    | with_reducible apply State.setKey_kept
    | with_reducible apply State.fillPages_kept
    | with_reducible apply State.settleKeyRegs_kept
    | with_reducible refine Kept.foldl ?_ (fun s x h => ?_)
    | fail_if_no_progress (with_reducible refine Kept.frame ?_ (by rfl) (by rfl) (by rfl) (by rfl) (by rfl) (by rfl) (by first | exact Nat.le_refl _ | exact Nat.le_add_right _ _ | with_unfolding_all exact Nat.le_add_right _ _) (by rfl) (by rfl) (by rfl) (by first | exact fun y => y | (with_unfolding_all exact fun y => Mem.wf_writeLE _ _ _ _ y) | (with_unfolding_all exact fun y => Mem.wf_writeByte _ _ _ y) | (with_unfolding_all exact fun y => Mem.wf_clearRange _ _ _ y) | (with_unfolding_all exact fun _ => rfl)) (by first | exact fun y => y | (with_unfolding_all exact fun y => Sparse.wf_set _ _ _ _ y) | (with_unfolding_all exact fun _ => rfl)))

theorem State.tenantCloseCmd_kept {orig s : State} (h : Kept orig s) (ws : List Reg64) : KeptV Reply.s orig (State.tenantCloseCmd s ws) := by
  unfold State.tenantCloseCmd
  repeat any_goals first
    | with_reducible assumption
    | intro s x h
    | (extract_lets +onlyGivenNames x; refine Kept.of (a := orig) (x := x) ?_ ?_; rotate_left; (intro hx; clear_value x); rotate_right; subst x)
    | (extract_lets +onlyGivenNames x; first | (have keep := (x : Hbm); clear keep) | (have keep := (x : Mgmt); clear keep) | (have keep := (x : Seal); clear keep) | (have keep := (x : HostIf); clear keep) | clear_value x)
    | with_reducible apply Kept.ite
    | with_reducible refine KeptV.ite ?_ ?_
    | with_reducible refine KeptV.fst ?_
    | with_reducible refine KeptV.snd ?_
    | with_reducible refine KeptV.reply ?_
    | with_reducible refine KeptV.got ?_
    | with_reducible apply State.setReg_kept
    | with_reducible apply State.setTenant_kept
    | with_reducible apply State.journal_kept
    | with_reducible apply State.refuse_kept
    | with_reducible apply State.refuse_kept1
    | with_reducible apply State.refuse_kept
    | with_reducible apply State.accept_kept
    | with_reducible apply State.accept_kept1
    | with_reducible apply State.accept_kept
    | with_reducible apply State.dropKey_kept
    | with_reducible refine Kept.foldl ?_ (fun s x h => ?_)
    | fail_if_no_progress (with_reducible refine Kept.frame ?_ (by rfl) (by rfl) (by rfl) (by rfl) (by rfl) (by rfl) (by first | exact Nat.le_refl _ | exact Nat.le_add_right _ _ | with_unfolding_all exact Nat.le_add_right _ _) (by rfl) (by rfl) (by rfl) (by first | exact fun y => y | (with_unfolding_all exact fun y => Mem.wf_writeLE _ _ _ _ y) | (with_unfolding_all exact fun y => Mem.wf_writeByte _ _ _ y) | (with_unfolding_all exact fun y => Mem.wf_clearRange _ _ _ y) | (with_unfolding_all exact fun _ => rfl)) (by first | exact fun y => y | (with_unfolding_all exact fun y => Sparse.wf_set _ _ _ _ y) | (with_unfolding_all exact fun _ => rfl)))
    | split

theorem State.tenantCloseCmd_kept1 {orig s : State} (h : Kept orig s) (ws : List Reg64) : Kept orig (State.tenantCloseCmd s ws).s := State.tenantCloseCmd_kept h ws

theorem State.placeEvicting_kept {orig : State} {t : Nat} {tag : Reg64} {rs : List KeyReq} (l : List Nat) :
    ∀ {s : State}, Kept orig s → KeptO Prod.fst orig (s.placeEvicting t tag rs l) := by
  induction l with
  | nil =>
    intro s h x hx
    obtain ⟨ps, -, rfl⟩ := Option.map_eq_some_iff.mp hx
    exact h
  | cons u l ih =>
    intro s h
    unfold State.placeEvicting
    split
    · exact KeptO.some h
    · exact ih (Kept.foldl h (fun s k h => State.dropKey_kept h u k))

theorem State.installKey_kept {orig s : State} (h : Kept orig s) (t : Nat) (p : Placing) : Kept orig (State.installKey s t p) := by
  unfold State.installKey
  repeat any_goals first
    | with_reducible assumption
    | intro s x h
    | (extract_lets +onlyGivenNames x; refine Kept.of (a := orig) (x := x) ?_ ?_; rotate_left; (intro hx; clear_value x); rotate_right; subst x)
    | (extract_lets +onlyGivenNames x; refine Kept.of (a := orig) (x := x.1) ?_ ?_; rotate_left; (intro hx; clear_value x); rotate_right; subst x)
    | (extract_lets +onlyGivenNames x; refine Kept.of (a := orig) (x := x.2) ?_ ?_; rotate_left; (intro hx; clear_value x); rotate_right; subst x)
    | (extract_lets +onlyGivenNames x; first | (have keep := (x : Hbm); clear keep) | (have keep := (x : Mgmt); clear keep) | (have keep := (x : Seal); clear keep) | (have keep := (x : HostIf); clear keep) | clear_value x)
    | with_reducible apply Kept.ite
    | with_reducible apply State.setTenant_kept
    | with_reducible apply State.setHbmBytes_kept
    | with_reducible apply State.setBasin_kept
    | with_reducible apply State.setLease_kept
    | with_reducible apply State.setKey_kept
    | with_reducible apply State.settleKeyRegs_kept
    | with_reducible refine Kept.foldl ?_ (fun s x h => ?_)
    | fail_if_no_progress (with_reducible refine Kept.frame ?_ (by rfl) (by rfl) (by rfl) (by rfl) (by rfl) (by rfl) (by first | exact Nat.le_refl _ | exact Nat.le_add_right _ _ | with_unfolding_all exact Nat.le_add_right _ _) (by rfl) (by rfl) (by rfl) (by first | exact fun y => y | (with_unfolding_all exact fun y => Mem.wf_writeLE _ _ _ _ y) | (with_unfolding_all exact fun y => Mem.wf_writeByte _ _ _ y) | (with_unfolding_all exact fun y => Mem.wf_clearRange _ _ _ y) | (with_unfolding_all exact fun _ => rfl)) (by first | exact fun y => y | (with_unfolding_all exact fun y => Sparse.wf_set _ _ _ _ y) | (with_unfolding_all exact fun _ => rfl)))
    | split

theorem State.keyLoadCmd_kept {orig s : State} (h : Kept orig s) (ws : List Reg64) : KeptV Reply.s orig (State.keyLoadCmd s ws) := by
  unfold State.keyLoadCmd
  repeat any_goals first
    | with_reducible assumption
    | intro s x h
    | (extract_lets +onlyGivenNames x; refine Kept.of (a := orig) (x := x) ?_ ?_; rotate_left; (intro hx; clear_value x); rotate_right; subst x)
    | (extract_lets +onlyGivenNames x; refine Kept.of (a := orig) (x := x.1) ?_ ?_; rotate_left; (intro hx; clear_value x); rotate_right; subst x)
    | (extract_lets +onlyGivenNames x; first | (have keep := (x : Hbm); clear keep) | (have keep := (x : Mgmt); clear keep) | (have keep := (x : Seal); clear keep) | (have keep := (x : HostIf); clear keep) | clear_value x)
    | with_reducible apply Kept.ite
    | with_reducible refine KeptV.ite ?_ ?_
    | with_reducible refine KeptV.fst ?_
    | with_reducible refine KeptV.snd ?_
    | with_reducible refine KeptV.reply ?_
    | with_reducible refine KeptV.got ?_
    | with_reducible apply State.journal_kept
    | with_reducible apply State.fillPages_kept
    | with_reducible apply State.refuse_kept
    | with_reducible apply State.refuse_kept1
    | with_reducible apply State.refuse_kept
    | with_reducible apply State.dropKey_kept
    | (refine Kept.ofO (g := Prod.fst) (State.placeEvicting_kept _ ?_) (by assumption))
    | with_reducible apply State.installKey_kept
    | with_reducible refine Kept.foldl ?_ (fun s x h => ?_)
    | fail_if_no_progress (with_reducible refine Kept.frame ?_ (by rfl) (by rfl) (by rfl) (by rfl) (by rfl) (by rfl) (by first | exact Nat.le_refl _ | exact Nat.le_add_right _ _ | with_unfolding_all exact Nat.le_add_right _ _) (by rfl) (by rfl) (by rfl) (by first | exact fun y => y | (with_unfolding_all exact fun y => Mem.wf_writeLE _ _ _ _ y) | (with_unfolding_all exact fun y => Mem.wf_writeByte _ _ _ y) | (with_unfolding_all exact fun y => Mem.wf_clearRange _ _ _ y) | (with_unfolding_all exact fun _ => rfl)) (by first | exact fun y => y | (with_unfolding_all exact fun y => Sparse.wf_set _ _ _ _ y) | (with_unfolding_all exact fun _ => rfl)))
    | split

theorem State.keyLoadCmd_kept1 {orig s : State} (h : Kept orig s) (ws : List Reg64) : Kept orig (State.keyLoadCmd s ws).s := State.keyLoadCmd_kept h ws

theorem State.keyEvictCmd_kept {orig s : State} (h : Kept orig s) (ws : List Reg64) : KeptV Reply.s orig (State.keyEvictCmd s ws) := by
  unfold State.keyEvictCmd
  repeat any_goals first
    | with_reducible assumption
    | intro s x h
    | (extract_lets +onlyGivenNames x; refine Kept.of (a := orig) (x := x) ?_ ?_; rotate_left; (intro hx; clear_value x); rotate_right; subst x)
    | (extract_lets +onlyGivenNames x; first | (have keep := (x : Hbm); clear keep) | (have keep := (x : Mgmt); clear keep) | (have keep := (x : Seal); clear keep) | (have keep := (x : HostIf); clear keep) | clear_value x)
    | with_reducible apply Kept.ite
    | with_reducible refine KeptV.ite ?_ ?_
    | with_reducible refine KeptV.fst ?_
    | with_reducible refine KeptV.snd ?_
    | with_reducible refine KeptV.reply ?_
    | with_reducible refine KeptV.got ?_
    | with_reducible apply State.journal_kept
    | with_reducible apply State.refuse_kept
    | with_reducible apply State.refuse_kept1
    | with_reducible apply State.refuse_kept
    | with_reducible apply State.accept_kept
    | with_reducible apply State.accept_kept1
    | with_reducible apply State.accept_kept
    | with_reducible apply State.dropKey_kept
    | with_reducible refine Kept.foldl ?_ (fun s x h => ?_)
    | split

theorem State.keyEvictCmd_kept1 {orig s : State} (h : Kept orig s) (ws : List Reg64) : Kept orig (State.keyEvictCmd s ws).s := State.keyEvictCmd_kept h ws

theorem State.onSvc_kept {orig s : State} (h : Kept orig s) (t : Nat) (f : Service → Service) : Kept orig (State.onSvc s t f) := by
  unfold State.onSvc
  repeat any_goals first
    | with_reducible assumption
    | intro s x h
    | with_reducible apply State.setTenant_kept
    | fail_if_no_progress (with_reducible refine Kept.frame ?_ (by rfl) (by rfl) (by rfl) (by rfl) (by rfl) (by rfl) (by first | exact Nat.le_refl _ | exact Nat.le_add_right _ _ | with_unfolding_all exact Nat.le_add_right _ _) (by rfl) (by rfl) (by rfl) (by first | exact fun y => y | (with_unfolding_all exact fun y => Mem.wf_writeLE _ _ _ _ y) | (with_unfolding_all exact fun y => Mem.wf_writeByte _ _ _ y) | (with_unfolding_all exact fun y => Mem.wf_clearRange _ _ _ y) | (with_unfolding_all exact fun _ => rfl)) (by first | exact fun y => y | (with_unfolding_all exact fun y => Sparse.wf_set _ _ _ _ y) | (with_unfolding_all exact fun _ => rfl)))

theorem State.closeIntake_kept {orig s : State} (h : Kept orig s) (t : Nat) (reason : Nat) : Kept orig (State.closeIntake s t reason) := by
  unfold State.closeIntake
  repeat any_goals first
    | with_reducible assumption
    | intro s x h
    | (extract_lets +onlyGivenNames x; refine Kept.of (a := orig) (x := x) ?_ ?_; rotate_left; (intro hx; clear_value x); rotate_right; subst x)
    | (extract_lets +onlyGivenNames x; first | (have keep := (x : Hbm); clear keep) | (have keep := (x : Mgmt); clear keep) | (have keep := (x : Seal); clear keep) | (have keep := (x : HostIf); clear keep) | clear_value x)
    | with_reducible apply Kept.ite
    | with_reducible apply State.wr_kept
    | with_reducible apply State.log_kept
    | split

theorem State.reopenIntake_kept {orig s : State} (h : Kept orig s) (t : Nat) : Kept orig (State.reopenIntake s t) := by
  unfold State.reopenIntake
  repeat any_goals first
    | with_reducible assumption
    | intro s x h
    | (extract_lets +onlyGivenNames x; refine Kept.of (a := orig) (x := x) ?_ ?_; rotate_left; (intro hx; clear_value x); rotate_right; subst x)
    | (extract_lets +onlyGivenNames x; first | (have keep := (x : Hbm); clear keep) | (have keep := (x : Mgmt); clear keep) | (have keep := (x : Seal); clear keep) | (have keep := (x : HostIf); clear keep) | clear_value x)
    | with_reducible apply Kept.ite
    | with_reducible apply State.wr_kept
    | split

theorem State.putResult_kept {orig s : State} (h : Kept orig s) (t : Nat) (v : Service) (r : List Reg64) : Kept orig (State.putResult s t v r) := by
  unfold State.putResult
  repeat any_goals first
    | with_reducible assumption
    | intro s x h
    | (extract_lets +onlyGivenNames x; refine Kept.of (a := orig) (x := x) ?_ ?_; rotate_left; (intro hx; clear_value x); rotate_right; subst x)
    | (extract_lets +onlyGivenNames x; first | (have keep := (x : Hbm); clear keep) | (have keep := (x : Mgmt); clear keep) | (have keep := (x : Seal); clear keep) | (have keep := (x : HostIf); clear keep) | clear_value x)
    | with_reducible apply State.wr_kept
    | with_reducible apply State.setHbmDwords_kept

theorem State.flushResults_kept {orig s : State} (h : Kept orig s) (t : Nat) : Kept orig (State.flushResults s t) := by
  unfold State.flushResults
  repeat any_goals first
    | with_reducible assumption
    | intro s x h
    | (extract_lets +onlyGivenNames x; refine Kept.of (a := orig) (x := x) ?_ ?_; rotate_left; (intro hx; clear_value x); rotate_right; subst x)
    | (extract_lets +onlyGivenNames x; first | (have keep := (x : Hbm); clear keep) | (have keep := (x : Mgmt); clear keep) | (have keep := (x : Seal); clear keep) | (have keep := (x : HostIf); clear keep) | clear_value x)
    | with_reducible apply State.onSvc_kept
    | with_reducible apply State.putResult_kept
    | with_reducible refine Kept.foldl ?_ (fun s x h => ?_)
    | fail_if_no_progress (with_reducible refine Kept.frame ?_ (by rfl) (by rfl) (by rfl) (by rfl) (by rfl) (by rfl) (by first | exact Nat.le_refl _ | exact Nat.le_add_right _ _ | with_unfolding_all exact Nat.le_add_right _ _) (by rfl) (by rfl) (by rfl) (by first | exact fun y => y | (with_unfolding_all exact fun y => Mem.wf_writeLE _ _ _ _ y) | (with_unfolding_all exact fun y => Mem.wf_writeByte _ _ _ y) | (with_unfolding_all exact fun y => Mem.wf_clearRange _ _ _ y) | (with_unfolding_all exact fun _ => rfl)) (by first | exact fun y => y | (with_unfolding_all exact fun y => Sparse.wf_set _ _ _ _ y) | (with_unfolding_all exact fun _ => rfl)))
    | split

theorem State.finish_kept {orig s : State} (h : Kept orig s) (t : Nat) (status : Nat) (reqs : List (List Reg64)) : Kept orig (State.finish s t status reqs) := by
  unfold State.finish
  repeat any_goals first
    | with_reducible assumption
    | intro s x h
    | with_reducible apply State.onSvc_kept
    | with_reducible apply State.flushResults_kept
    | fail_if_no_progress (with_reducible refine Kept.frame ?_ (by rfl) (by rfl) (by rfl) (by rfl) (by rfl) (by rfl) (by first | exact Nat.le_refl _ | exact Nat.le_add_right _ _ | with_unfolding_all exact Nat.le_add_right _ _) (by rfl) (by rfl) (by rfl) (by first | exact fun y => y | (with_unfolding_all exact fun y => Mem.wf_writeLE _ _ _ _ y) | (with_unfolding_all exact fun y => Mem.wf_writeByte _ _ _ y) | (with_unfolding_all exact fun y => Mem.wf_clearRange _ _ _ y) | (with_unfolding_all exact fun _ => rfl)) (by first | exact fun y => y | (with_unfolding_all exact fun y => Sparse.wf_set _ _ _ _ y) | (with_unfolding_all exact fun _ => rfl)))

theorem State.skipAnswered_kept {orig s : State} (h : Kept orig s) (t : Nat) : Kept orig (State.skipAnswered s t) := by
  unfold State.skipAnswered
  repeat any_goals first
    | with_reducible assumption
    | intro s x h
    | (extract_lets +onlyGivenNames x; refine Kept.of (a := orig) (x := x) ?_ ?_; rotate_left; (intro hx; clear_value x); rotate_right; subst x)
    | (extract_lets +onlyGivenNames x; refine Kept.of (a := orig) (x := x.1) ?_ ?_; rotate_left; (intro hx; clear_value x); rotate_right; subst x)
    | (extract_lets +onlyGivenNames x; first | (have keep := (x : Hbm); clear keep) | (have keep := (x : Mgmt); clear keep) | (have keep := (x : Seal); clear keep) | (have keep := (x : HostIf); clear keep) | clear_value x)
    | with_reducible apply State.wr_kept
    | with_reducible apply State.onSvc_kept
    | fail_if_no_progress (with_reducible refine Kept.frame ?_ (by rfl) (by rfl) (by rfl) (by rfl) (by rfl) (by rfl) (by first | exact Nat.le_refl _ | exact Nat.le_add_right _ _ | with_unfolding_all exact Nat.le_add_right _ _) (by rfl) (by rfl) (by rfl) (by first | exact fun y => y | (with_unfolding_all exact fun y => Mem.wf_writeLE _ _ _ _ y) | (with_unfolding_all exact fun y => Mem.wf_writeByte _ _ _ y) | (with_unfolding_all exact fun y => Mem.wf_clearRange _ _ _ y) | (with_unfolding_all exact fun _ => rfl)) (by first | exact fun y => y | (with_unfolding_all exact fun y => Sparse.wf_set _ _ _ _ y) | (with_unfolding_all exact fun _ => rfl)))
    | split

theorem State.acceptRecord_kept {orig s : State} (h : Kept orig s) (t : Nat) (r : List Reg64) : Kept orig (State.acceptRecord s t r) := by
  unfold State.acceptRecord
  repeat any_goals first
    | with_reducible assumption
    | intro s x h
    | (extract_lets +onlyGivenNames x; refine Kept.of (a := orig) (x := x) ?_ ?_; rotate_left; (intro hx; clear_value x); rotate_right; subst x)
    | (extract_lets +onlyGivenNames x; first | (have keep := (x : Hbm); clear keep) | (have keep := (x : Mgmt); clear keep) | (have keep := (x : Seal); clear keep) | (have keep := (x : HostIf); clear keep) | clear_value x)
    | with_reducible apply Kept.ite
    | with_reducible apply State.wr_kept
    | with_reducible apply State.setHbmDwords_kept
    | with_reducible apply State.onSvc_kept
    | with_reducible apply State.closeIntake_kept
    | with_reducible apply State.finish_kept
    | with_reducible apply State.skipAnswered_kept
    | fail_if_no_progress (with_reducible refine Kept.frame ?_ (by rfl) (by rfl) (by rfl) (by rfl) (by rfl) (by rfl) (by first | exact Nat.le_refl _ | exact Nat.le_add_right _ _ | with_unfolding_all exact Nat.le_add_right _ _) (by rfl) (by rfl) (by rfl) (by first | exact fun y => y | (with_unfolding_all exact fun y => Mem.wf_writeLE _ _ _ _ y) | (with_unfolding_all exact fun y => Mem.wf_writeByte _ _ _ y) | (with_unfolding_all exact fun y => Mem.wf_clearRange _ _ _ y) | (with_unfolding_all exact fun _ => rfl)) (by first | exact fun y => y | (with_unfolding_all exact fun y => Sparse.wf_set _ _ _ _ y) | (with_unfolding_all exact fun _ => rfl)))
    | split

theorem State.writeBatch_kept {orig s : State} (h : Kept orig s) (t : Nat) (j : Job) (v : Service) (span : Nat) (reqs : List (List Reg64)) : Kept orig (State.writeBatch s t j v span reqs) := by
  unfold State.writeBatch
  repeat any_goals first
    | with_reducible assumption
    | intro s x h
    | (extract_lets +onlyGivenNames x; refine Kept.of (a := orig) (x := x) ?_ ?_; rotate_left; (intro hx; clear_value x); rotate_right; subst x)
    | (extract_lets +onlyGivenNames x; refine Kept.of (a := orig) (x := x.1) ?_ ?_; rotate_left; (intro hx; clear_value x); rotate_right; subst x)
    | (extract_lets +onlyGivenNames x; refine Kept.of (a := orig) (x := x.2) ?_ ?_; rotate_left; (intro hx; clear_value x); rotate_right; subst x)
    | (extract_lets +onlyGivenNames x; first | (have keep := (x : Hbm); clear keep) | (have keep := (x : Mgmt); clear keep) | (have keep := (x : Seal); clear keep) | (have keep := (x : HostIf); clear keep) | clear_value x)
    | with_reducible apply State.wr_kept
    | with_reducible apply State.setHbmDwords_kept
    | with_reducible apply State.sendWeir_kept
    | with_reducible apply State.onSvc_kept
    | with_reducible apply State.reopenIntake_kept
    | with_reducible refine Kept.foldl ?_ (fun s x h => ?_)
    | fail_if_no_progress (with_reducible refine Kept.frame ?_ (by rfl) (by rfl) (by rfl) (by rfl) (by rfl) (by rfl) (by first | exact Nat.le_refl _ | exact Nat.le_add_right _ _ | with_unfolding_all exact Nat.le_add_right _ _) (by rfl) (by rfl) (by rfl) (by first | exact fun y => y | (with_unfolding_all exact fun y => Mem.wf_writeLE _ _ _ _ y) | (with_unfolding_all exact fun y => Mem.wf_writeByte _ _ _ y) | (with_unfolding_all exact fun y => Mem.wf_clearRange _ _ _ y) | (with_unfolding_all exact fun _ => rfl)) (by first | exact fun y => y | (with_unfolding_all exact fun y => Sparse.wf_set _ _ _ _ y) | (with_unfolding_all exact fun _ => rfl)))

theorem State.dispatch_kept {orig s : State} (h : Kept orig s) (t : Nat) (due : Bool) : Kept orig (State.dispatch s t due) := by
  unfold State.dispatch
  repeat any_goals first
    | with_reducible assumption
    | intro s x h
    | (extract_lets +onlyGivenNames x; refine Kept.of (a := orig) (x := x) ?_ ?_; rotate_left; (intro hx; clear_value x); rotate_right; subst x)
    | (extract_lets +onlyGivenNames x; refine Kept.of (a := orig) (x := x.1) ?_ ?_; rotate_left; (intro hx; clear_value x); rotate_right; subst x)
    | (extract_lets +onlyGivenNames x; refine Kept.of (a := orig) (x := x.2) ?_ ?_; rotate_left; (intro hx; clear_value x); rotate_right; subst x)
    | (extract_lets +onlyGivenNames x; first | (have keep := (x : Hbm); clear keep) | (have keep := (x : Mgmt); clear keep) | (have keep := (x : Seal); clear keep) | (have keep := (x : HostIf); clear keep) | clear_value x)
    | with_reducible apply Kept.ite
    | with_reducible apply State.writeBatch_kept
    | fail_if_no_progress (with_reducible refine Kept.frame ?_ (by rfl) (by rfl) (by rfl) (by rfl) (by rfl) (by rfl) (by first | exact Nat.le_refl _ | exact Nat.le_add_right _ _ | with_unfolding_all exact Nat.le_add_right _ _) (by rfl) (by rfl) (by rfl) (by first | exact fun y => y | (with_unfolding_all exact fun y => Mem.wf_writeLE _ _ _ _ y) | (with_unfolding_all exact fun y => Mem.wf_writeByte _ _ _ y) | (with_unfolding_all exact fun y => Mem.wf_clearRange _ _ _ y) | (with_unfolding_all exact fun _ => rfl)) (by first | exact fun y => y | (with_unfolding_all exact fun y => Sparse.wf_set _ _ _ _ y) | (with_unfolding_all exact fun _ => rfl)))
    | split

theorem State.donePollNow_kept {orig s : State} (h : Kept orig s) (t : Nat) : Kept orig (State.donePollNow s t) := by
  unfold State.donePollNow
  repeat any_goals first
    | with_reducible assumption
    | intro s x h
    | (extract_lets +onlyGivenNames x; refine Kept.of (a := orig) (x := x) ?_ ?_; rotate_left; (intro hx; clear_value x); rotate_right; subst x)
    | (extract_lets +onlyGivenNames x; first | (have keep := (x : Hbm); clear keep) | (have keep := (x : Mgmt); clear keep) | (have keep := (x : Seal); clear keep) | (have keep := (x : HostIf); clear keep) | clear_value x)
    | with_reducible apply Kept.ite
    | with_reducible apply State.onSvc_kept
    | with_reducible apply State.flushResults_kept
    | fail_if_no_progress (with_reducible refine Kept.frame ?_ (by rfl) (by rfl) (by rfl) (by rfl) (by rfl) (by rfl) (by first | exact Nat.le_refl _ | exact Nat.le_add_right _ _ | with_unfolding_all exact Nat.le_add_right _ _) (by rfl) (by rfl) (by rfl) (by first | exact fun y => y | (with_unfolding_all exact fun y => Mem.wf_writeLE _ _ _ _ y) | (with_unfolding_all exact fun y => Mem.wf_writeByte _ _ _ y) | (with_unfolding_all exact fun y => Mem.wf_clearRange _ _ _ y) | (with_unfolding_all exact fun _ => rfl)) (by first | exact fun y => y | (with_unfolding_all exact fun y => Sparse.wf_set _ _ _ _ y) | (with_unfolding_all exact fun _ => rfl)))
    | split

theorem State.starveIntake_kept {orig s : State} (h : Kept orig s) (t : Nat) : Kept orig (State.starveIntake s t) := by
  unfold State.starveIntake
  repeat any_goals first
    | with_reducible assumption
    | intro s x h
    | with_reducible apply Kept.ite
    | with_reducible apply State.closeIntake_kept
    | split

theorem State.endService_kept {orig s : State} (h : Kept orig s) (t : Nat) : Kept orig (State.endService s t) := by
  unfold State.endService
  repeat any_goals first
    | with_reducible assumption
    | intro s x h
    | (extract_lets +onlyGivenNames x; refine Kept.of (a := orig) (x := x) ?_ ?_; rotate_left; (intro hx; clear_value x); rotate_right; subst x)
    | (extract_lets +onlyGivenNames x; first | (have keep := (x : Hbm); clear keep) | (have keep := (x : Mgmt); clear keep) | (have keep := (x : Seal); clear keep) | (have keep := (x : HostIf); clear keep) | clear_value x)
    | with_reducible apply State.wr_kept
    | with_reducible apply State.onSvc_kept
    | with_reducible apply State.closeIntake_kept
    | with_reducible apply State.finish_kept
    | fail_if_no_progress (with_reducible refine Kept.frame ?_ (by rfl) (by rfl) (by rfl) (by rfl) (by rfl) (by rfl) (by first | exact Nat.le_refl _ | exact Nat.le_add_right _ _ | with_unfolding_all exact Nat.le_add_right _ _) (by rfl) (by rfl) (by rfl) (by first | exact fun y => y | (with_unfolding_all exact fun y => Mem.wf_writeLE _ _ _ _ y) | (with_unfolding_all exact fun y => Mem.wf_writeByte _ _ _ y) | (with_unfolding_all exact fun y => Mem.wf_clearRange _ _ _ y) | (with_unfolding_all exact fun _ => rfl)) (by first | exact fun y => y | (with_unfolding_all exact fun y => Sparse.wf_set _ _ _ _ y) | (with_unfolding_all exact fun _ => rfl)))
    | split

theorem State.serviceCloseCmd_kept {orig s : State} (h : Kept orig s) (ws : List Reg64) : KeptV Reply.s orig (State.serviceCloseCmd s ws) := by
  unfold State.serviceCloseCmd
  repeat any_goals first
    | with_reducible assumption
    | intro s x h
    | (extract_lets +onlyGivenNames x; refine Kept.of (a := orig) (x := x) ?_ ?_; rotate_left; (intro hx; clear_value x); rotate_right; subst x)
    | (extract_lets +onlyGivenNames x; first | (have keep := (x : Hbm); clear keep) | (have keep := (x : Mgmt); clear keep) | (have keep := (x : Seal); clear keep) | (have keep := (x : HostIf); clear keep) | clear_value x)
    | with_reducible apply Kept.ite
    | with_reducible refine KeptV.ite ?_ ?_
    | with_reducible refine KeptV.fst ?_
    | with_reducible refine KeptV.snd ?_
    | with_reducible refine KeptV.reply ?_
    | with_reducible refine KeptV.got ?_
    | with_reducible apply State.journal_kept
    | with_reducible apply State.refuse_kept
    | with_reducible apply State.refuse_kept1
    | with_reducible apply State.refuse_kept
    | with_reducible apply State.accept_kept
    | with_reducible apply State.accept_kept1
    | with_reducible apply State.accept_kept
    | with_reducible apply State.onSvc_kept
    | with_reducible apply State.closeIntake_kept
    | fail_if_no_progress (with_reducible refine Kept.frame ?_ (by rfl) (by rfl) (by rfl) (by rfl) (by rfl) (by rfl) (by first | exact Nat.le_refl _ | exact Nat.le_add_right _ _ | with_unfolding_all exact Nat.le_add_right _ _) (by rfl) (by rfl) (by rfl) (by first | exact fun y => y | (with_unfolding_all exact fun y => Mem.wf_writeLE _ _ _ _ y) | (with_unfolding_all exact fun y => Mem.wf_writeByte _ _ _ y) | (with_unfolding_all exact fun y => Mem.wf_clearRange _ _ _ y) | (with_unfolding_all exact fun _ => rfl)) (by first | exact fun y => y | (with_unfolding_all exact fun y => Sparse.wf_set _ _ _ _ y) | (with_unfolding_all exact fun _ => rfl)))
    | split

theorem State.serviceCloseCmd_kept1 {orig s : State} (h : Kept orig s) (ws : List Reg64) : Kept orig (State.serviceCloseCmd s ws).s := State.serviceCloseCmd_kept h ws

theorem State.tryWrite_kept {orig s : State} (h : Kept orig s) (f : State → Option State) (k : KeptO id orig (f s)) :
    Kept orig (s.tryWrite f) := by
  unfold State.tryWrite
  cases e : f s with
  | none => exact h
  | some t => exact k t e

theorem State.loadBench_kept {orig s : State} (h : Kept orig s) (image i pb : Nat) : Kept orig (s.loadBench image i pb) := by
  unfold State.loadBench
  extract_lets sec d rings routes hands s1 s2 s3 s4 ctl s5 s6 s7
  have h2 : Kept orig s2 := State.rinseMessages_kept (State.onBench_kept h ..) _
  clear_value s2
  have h3 : Kept orig s3 := Kept.foldl h2 (fun s x h => State.tryWrite_kept h _ (State.ringWrite_kept h pb _ _))
  clear_value s3
  have h4 : Kept orig s4 := Kept.foldl h3 (fun s x h => by
    have k := State.tryWrite_kept h (fun s => s.routeWrite pb x (sectionDw routes x)) (State.routeWrite_kept h pb _ _)
    exact State.tryWrite_kept k _ (State.handlerWrite_kept k pb _ _))
  clear_value s4
  have h5 : Kept orig s5 := State.tryWrite_kept h4 _ (State.ctlWrite_kept h4 pb _)
  clear_value s5
  have h6 : Kept orig s6 := State.tryWrite_kept h5 _ (State.stallLimitWrite_kept h5 pb _)
  clear_value s6
  have h7 : Kept orig s7 := State.tryWrite_kept h6 _ (State.fmCtlWrite_kept h6 pb _)
  clear_value s7
  exact Kept.foldl h7 (fun s x h => State.tryWrite_kept h _ (State.streamPcWrite_kept h pb _ _))

theorem State.settleJobs_kept {orig s : State} (h : Kept orig s) : Kept orig (State.settleJobs s) := by
  unfold State.settleJobs
  repeat any_goals first
    | with_reducible assumption
    | intro s x h
    | (extract_lets +onlyGivenNames x; refine Kept.of (a := orig) (x := x) ?_ ?_; rotate_left; (intro hx; clear_value x); rotate_right; subst x)
    | (extract_lets +onlyGivenNames x; first | (have keep := (x : Hbm); clear keep) | (have keep := (x : Mgmt); clear keep) | (have keep := (x : Seal); clear keep) | (have keep := (x : HostIf); clear keep) | clear_value x)
    | with_reducible apply State.wr_kept
    | with_reducible apply State.settleActive_kept

theorem State.setGangs_kept {orig s : State} (h : Kept orig s) (gangs : Nat) (st : Nat) : Kept orig (State.setGangs s gangs st) := by
  unfold State.setGangs
  repeat any_goals first
    | with_reducible assumption
    | intro s x h
    | with_reducible apply State.wr_kept
    | with_reducible refine Kept.foldl ?_ (fun s x h => ?_)

theorem State.startJob_kept {orig s : State} (h : Kept orig s) (vw : Nat) (ws : List Reg64) (service : Bool) :
    Kept orig (s.startJob vw ws service) := by
  unfold State.startJob
  extract_lets t keep gangs image e1 s1 s2 s3 s4 s5 benches s6
  have h1 : Kept orig s1 := State.setTenant_kept h ..
  clear_value s1
  have h2 : Kept orig s2 := State.wrB_kept (State.wr_kept h1 ..) ..
  clear_value s2
  have h3 : Kept orig s3 := State.wr_kept (State.wrB_kept h2 ..) ..
  clear_value s3
  have h4 : Kept orig s4 := Kept.foldl (State.setGangs_kept h3 ..) (fun s x h => State.wr_kept h ..)
  clear_value s4
  have h5 : Kept orig s5 := State.settleJobs_kept h4
  clear_value s5
  have h6 : Kept orig s6 := Kept.foldl h5 (fun s x h => State.loadBench_kept h ..)
  clear_value s6
  refine Kept.foldl h6 (fun s x h => ?_)
  generalize hc : s.ctlWrite x (s.reg (Reg.BENCH_CTL x) ||| 0x8000000000000000) = c
  cases c with
  | none => exact State.accessError_kept h ..
  | some s' => exact State.ctlWrite_kept h x _ s' hc

theorem State.jobStartCmd_kept {orig s : State} (h : Kept orig s) (vw : Nat) (ws : List Reg64) : KeptV Reply.s orig (State.jobStartCmd vw s ws) := by
  unfold State.jobStartCmd
  repeat any_goals first
    | with_reducible assumption
    | intro s x h
    | (extract_lets +onlyGivenNames x; refine Kept.of (a := orig) (x := x) ?_ ?_; rotate_left; (intro hx; clear_value x); rotate_right; subst x)
    | (extract_lets +onlyGivenNames x; first | (have keep := (x : Hbm); clear keep) | (have keep := (x : Mgmt); clear keep) | (have keep := (x : Seal); clear keep) | (have keep := (x : HostIf); clear keep) | clear_value x)
    | with_reducible apply Kept.ite
    | with_reducible refine KeptV.ite ?_ ?_
    | with_reducible refine KeptV.fst ?_
    | with_reducible refine KeptV.snd ?_
    | with_reducible refine KeptV.reply ?_
    | with_reducible refine KeptV.got ?_
    | with_reducible apply State.journal_kept
    | with_reducible apply State.refuse_kept
    | with_reducible apply State.refuse_kept1
    | with_reducible apply State.refuse_kept
    | with_reducible apply State.accept_kept
    | with_reducible apply State.accept_kept1
    | with_reducible apply State.accept_kept
    | with_reducible apply State.startJob_kept
    | split

theorem State.jobStartCmd_kept1 {orig s : State} (h : Kept orig s) (vw : Nat) (ws : List Reg64) : Kept orig (State.jobStartCmd vw s ws).s := State.jobStartCmd_kept h vw ws

theorem State.serviceOpenCmd_kept {orig s : State} (h : Kept orig s) (vw : Nat) (ws : List Reg64) : KeptV Reply.s orig (State.serviceOpenCmd vw s ws) := by
  unfold State.serviceOpenCmd
  repeat any_goals first
    | with_reducible assumption
    | intro s x h
    | (extract_lets +onlyGivenNames x; refine Kept.of (a := orig) (x := x) ?_ ?_; rotate_left; (intro hx; clear_value x); rotate_right; subst x)
    | (extract_lets +onlyGivenNames x; first | (have keep := (x : Hbm); clear keep) | (have keep := (x : Mgmt); clear keep) | (have keep := (x : Seal); clear keep) | (have keep := (x : HostIf); clear keep) | clear_value x)
    | with_reducible apply Kept.ite
    | with_reducible refine KeptV.ite ?_ ?_
    | with_reducible refine KeptV.fst ?_
    | with_reducible refine KeptV.snd ?_
    | with_reducible refine KeptV.reply ?_
    | with_reducible refine KeptV.got ?_
    | with_reducible apply State.setReg_kept
    | with_reducible apply State.setTenant_kept
    | with_reducible apply State.wr_kept
    | with_reducible apply State.journal_kept
    | with_reducible apply State.refuse_kept
    | with_reducible apply State.refuse_kept1
    | with_reducible apply State.refuse_kept
    | with_reducible apply State.accept_kept
    | with_reducible apply State.accept_kept1
    | with_reducible apply State.accept_kept
    | with_reducible apply State.startJob_kept
    | fail_if_no_progress (with_reducible refine Kept.frame ?_ (by rfl) (by rfl) (by rfl) (by rfl) (by rfl) (by rfl) (by first | exact Nat.le_refl _ | exact Nat.le_add_right _ _ | with_unfolding_all exact Nat.le_add_right _ _) (by rfl) (by rfl) (by rfl) (by first | exact fun y => y | (with_unfolding_all exact fun y => Mem.wf_writeLE _ _ _ _ y) | (with_unfolding_all exact fun y => Mem.wf_writeByte _ _ _ y) | (with_unfolding_all exact fun y => Mem.wf_clearRange _ _ _ y) | (with_unfolding_all exact fun _ => rfl)) (by first | exact fun y => y | (with_unfolding_all exact fun y => Sparse.wf_set _ _ _ _ y) | (with_unfolding_all exact fun _ => rfl)))
    | split

theorem State.serviceOpenCmd_kept1 {orig s : State} (h : Kept orig s) (vw : Nat) (ws : List Reg64) : Kept orig (State.serviceOpenCmd vw s ws).s := State.serviceOpenCmd_kept h vw ws

theorem State.dropTenantHall_kept {orig s : State} (h : Kept orig s) (t : Nat) : Kept orig (State.dropTenantHall s t) := by
  unfold State.dropTenantHall
  repeat any_goals first
    | with_reducible assumption
    | intro s x h
    | (extract_lets +onlyGivenNames x; refine Kept.of (a := orig) (x := x) ?_ ?_; rotate_left; (intro hx; clear_value x); rotate_right; subst x)
    | (extract_lets +onlyGivenNames x; refine Kept.of (a := orig) (x := x.2) ?_ ?_; rotate_left; (intro hx; clear_value x); rotate_right; subst x)
    | (extract_lets +onlyGivenNames x; first | (have keep := (x : Hbm); clear keep) | (have keep := (x : Mgmt); clear keep) | (have keep := (x : Seal); clear keep) | (have keep := (x : HostIf); clear keep) | clear_value x)
    | fail_if_no_progress (with_reducible refine Kept.frame ?_ (by rfl) (by rfl) (by rfl) (by rfl) (by rfl) (by rfl) (by first | exact Nat.le_refl _ | exact Nat.le_add_right _ _ | with_unfolding_all exact Nat.le_add_right _ _) (by rfl) (by rfl) (by rfl) (by first | exact fun y => y | (with_unfolding_all exact fun y => Mem.wf_writeLE _ _ _ _ y) | (with_unfolding_all exact fun y => Mem.wf_writeByte _ _ _ y) | (with_unfolding_all exact fun y => Mem.wf_clearRange _ _ _ y) | (with_unfolding_all exact fun _ => rfl)) (by first | exact fun y => y | (with_unfolding_all exact fun y => Sparse.wf_set _ _ _ _ y) | (with_unfolding_all exact fun _ => rfl)))

theorem State.settleClearing_kept {orig s : State} (h : Kept orig s) : Kept orig (State.settleClearing s) := by
  unfold State.settleClearing
  repeat any_goals first
    | with_reducible assumption
    | intro s x h
    | (extract_lets +onlyGivenNames x; refine Kept.of (a := orig) (x := x) ?_ ?_; rotate_left; (intro hx; clear_value x); rotate_right; subst x)
    | (extract_lets +onlyGivenNames x; refine Kept.of (a := orig) (x := x.1) ?_ ?_; rotate_left; (intro hx; clear_value x); rotate_right; subst x)
    | (extract_lets +onlyGivenNames x; refine Kept.of (a := orig) (x := x.2) ?_ ?_; rotate_left; (intro hx; clear_value x); rotate_right; subst x)
    | (extract_lets +onlyGivenNames x; first | (have keep := (x : Hbm); clear keep) | (have keep := (x : Mgmt); clear keep) | (have keep := (x : Seal); clear keep) | (have keep := (x : HostIf); clear keep) | clear_value x)
    | with_reducible apply Kept.ite
    | with_reducible apply State.wr_kept
    | with_reducible apply State.settleAvail_kept
    | with_reducible refine Kept.foldl ?_ (fun s x h => ?_)
    | fail_if_no_progress (with_reducible refine Kept.frame ?_ (by rfl) (by rfl) (by rfl) (by rfl) (by rfl) (by rfl) (by first | exact Nat.le_refl _ | exact Nat.le_add_right _ _ | with_unfolding_all exact Nat.le_add_right _ _) (by rfl) (by rfl) (by rfl) (by first | exact fun y => y | (with_unfolding_all exact fun y => Mem.wf_writeLE _ _ _ _ y) | (with_unfolding_all exact fun y => Mem.wf_writeByte _ _ _ y) | (with_unfolding_all exact fun y => Mem.wf_clearRange _ _ _ y) | (with_unfolding_all exact fun _ => rfl)) (by first | exact fun y => y | (with_unfolding_all exact fun y => Sparse.wf_set _ _ _ _ y) | (with_unfolding_all exact fun _ => rfl)))
    | split

theorem State.clearJob_kept {orig s : State} (h : Kept orig s) (t : Nat) (gangs : Nat) (ended : Nat) : Kept orig (State.clearJob s t gangs ended) := by
  unfold State.clearJob
  repeat any_goals first
    | with_reducible assumption
    | intro s x h
    | (extract_lets +onlyGivenNames x; refine Kept.of (a := orig) (x := x) ?_ ?_; rotate_left; (intro hx; clear_value x); rotate_right; subst x)
    | (extract_lets +onlyGivenNames x; first | (have keep := (x : Hbm); clear keep) | (have keep := (x : Mgmt); clear keep) | (have keep := (x : Seal); clear keep) | (have keep := (x : HostIf); clear keep) | clear_value x)
    | with_reducible apply Kept.ite
    | with_reducible apply State.rinse_kept
    | with_reducible apply State.freeTenantLeases_kept
    | with_reducible apply State.addFill_kept
    | with_reducible apply State.setGangs_kept
    | with_reducible apply State.dropTenantHall_kept
    | with_reducible apply State.settleClearing_kept
    | with_reducible refine Kept.foldl ?_ (fun s x h => ?_)
    | fail_if_no_progress (with_reducible refine Kept.frame ?_ (by rfl) (by rfl) (by rfl) (by rfl) (by rfl) (by rfl) (by first | exact Nat.le_refl _ | exact Nat.le_add_right _ _ | with_unfolding_all exact Nat.le_add_right _ _) (by rfl) (by rfl) (by rfl) (by first | exact fun y => y | (with_unfolding_all exact fun y => Mem.wf_writeLE _ _ _ _ y) | (with_unfolding_all exact fun y => Mem.wf_writeByte _ _ _ y) | (with_unfolding_all exact fun y => Mem.wf_clearRange _ _ _ y) | (with_unfolding_all exact fun _ => rfl)) (by first | exact fun y => y | (with_unfolding_all exact fun y => Sparse.wf_set _ _ _ _ y) | (with_unfolding_all exact fun _ => rfl)))
    | split

theorem State.freeTenantJob_kept {orig s : State} (h : Kept orig s) (t : Nat) : Kept orig (State.freeTenantJob s t) := by
  unfold State.freeTenantJob
  repeat any_goals first
    | with_reducible assumption
    | intro s x h
    | (extract_lets +onlyGivenNames x; refine Kept.of (a := orig) (x := x) ?_ ?_; rotate_left; (intro hx; clear_value x); rotate_right; subst x)
    | (extract_lets +onlyGivenNames x; first | (have keep := (x : Hbm); clear keep) | (have keep := (x : Mgmt); clear keep) | (have keep := (x : Seal); clear keep) | (have keep := (x : HostIf); clear keep) | clear_value x)
    | with_reducible apply State.setTenant_kept
    | with_reducible apply State.wr_kept
    | with_reducible apply State.wrB_kept
    | fail_if_no_progress (with_reducible refine Kept.frame ?_ (by rfl) (by rfl) (by rfl) (by rfl) (by rfl) (by rfl) (by first | exact Nat.le_refl _ | exact Nat.le_add_right _ _ | with_unfolding_all exact Nat.le_add_right _ _) (by rfl) (by rfl) (by rfl) (by first | exact fun y => y | (with_unfolding_all exact fun y => Mem.wf_writeLE _ _ _ _ y) | (with_unfolding_all exact fun y => Mem.wf_writeByte _ _ _ y) | (with_unfolding_all exact fun y => Mem.wf_clearRange _ _ _ y) | (with_unfolding_all exact fun _ => rfl)) (by first | exact fun y => y | (with_unfolding_all exact fun y => Sparse.wf_set _ _ _ _ y) | (with_unfolding_all exact fun _ => rfl)))

theorem State.endJob_kept {orig s : State} (h : Kept orig s) (t : Nat) (cause : Nat) : Kept orig (State.endJob s t cause) := by
  unfold State.endJob
  repeat any_goals first
    | with_reducible assumption
    | intro s x h
    | (extract_lets +onlyGivenNames x; refine Kept.of (a := orig) (x := x) ?_ ?_; rotate_left; (intro hx; clear_value x); rotate_right; subst x)
    | (extract_lets +onlyGivenNames x; first | (have keep := (x : Hbm); clear keep) | (have keep := (x : Mgmt); clear keep) | (have keep := (x : Seal); clear keep) | (have keep := (x : HostIf); clear keep) | clear_value x)
    | with_reducible apply Kept.ite
    | with_reducible apply State.setView_kept
    | with_reducible apply State.setTenant_kept
    | with_reducible apply State.wr_kept
    | with_reducible apply State.journal_kept
    | with_reducible apply State.stopBench_kept
    | with_reducible apply State.endService_kept
    | with_reducible apply State.settleJobs_kept
    | with_reducible apply State.setGangs_kept
    | with_reducible apply State.clearJob_kept
    | with_reducible apply State.freeTenantJob_kept
    | with_reducible refine Kept.foldl ?_ (fun s x h => ?_)
    | fail_if_no_progress (with_reducible refine Kept.frame ?_ (by rfl) (by rfl) (by rfl) (by rfl) (by rfl) (by rfl) (by first | exact Nat.le_refl _ | exact Nat.le_add_right _ _ | with_unfolding_all exact Nat.le_add_right _ _) (by rfl) (by rfl) (by rfl) (by first | exact fun y => y | (with_unfolding_all exact fun y => Mem.wf_writeLE _ _ _ _ y) | (with_unfolding_all exact fun y => Mem.wf_writeByte _ _ _ y) | (with_unfolding_all exact fun y => Mem.wf_clearRange _ _ _ y) | (with_unfolding_all exact fun _ => rfl)) (by first | exact fun y => y | (with_unfolding_all exact fun y => Sparse.wf_set _ _ _ _ y) | (with_unfolding_all exact fun _ => rfl)))
    | split

theorem State.jobEndNow_kept {orig s : State} (h : Kept orig s) (t : Nat) (cause : Nat) : Kept orig (State.jobEndNow s t cause) := by
  unfold State.jobEndNow
  repeat any_goals first
    | with_reducible assumption
    | intro s x h
    | (extract_lets +onlyGivenNames x; refine Kept.of (a := orig) (x := x) ?_ ?_; rotate_left; (intro hx; clear_value x); rotate_right; subst x)
    | (extract_lets +onlyGivenNames x; first | (have keep := (x : Hbm); clear keep) | (have keep := (x : Mgmt); clear keep) | (have keep := (x : Seal); clear keep) | (have keep := (x : HostIf); clear keep) | clear_value x)
    | with_reducible apply Kept.ite
    | with_reducible apply State.endJob_kept
    | fail_if_no_progress (with_reducible refine Kept.frame ?_ (by rfl) (by rfl) (by rfl) (by rfl) (by rfl) (by rfl) (by first | exact Nat.le_refl _ | exact Nat.le_add_right _ _ | with_unfolding_all exact Nat.le_add_right _ _) (by rfl) (by rfl) (by rfl) (by first | exact fun y => y | (with_unfolding_all exact fun y => Mem.wf_writeLE _ _ _ _ y) | (with_unfolding_all exact fun y => Mem.wf_writeByte _ _ _ y) | (with_unfolding_all exact fun y => Mem.wf_clearRange _ _ _ y) | (with_unfolding_all exact fun _ => rfl)) (by first | exact fun y => y | (with_unfolding_all exact fun y => Sparse.wf_set _ _ _ _ y) | (with_unfolding_all exact fun _ => rfl)))
    | split

theorem State.jobKillCmd_kept {orig s : State} (h : Kept orig s) (vw : Nat) (ws : List Reg64) : KeptV Reply.s orig (State.jobKillCmd vw s ws) := by
  unfold State.jobKillCmd
  repeat any_goals first
    | with_reducible assumption
    | intro s x h
    | (extract_lets +onlyGivenNames x; refine Kept.of (a := orig) (x := x) ?_ ?_; rotate_left; (intro hx; clear_value x); rotate_right; subst x)
    | (extract_lets +onlyGivenNames x; first | (have keep := (x : Hbm); clear keep) | (have keep := (x : Mgmt); clear keep) | (have keep := (x : Seal); clear keep) | (have keep := (x : HostIf); clear keep) | clear_value x)
    | with_reducible apply Kept.ite
    | with_reducible refine KeptV.ite ?_ ?_
    | with_reducible refine KeptV.fst ?_
    | with_reducible refine KeptV.snd ?_
    | with_reducible refine KeptV.reply ?_
    | with_reducible refine KeptV.got ?_
    | with_reducible apply State.journal_kept
    | with_reducible apply State.refuse_kept
    | with_reducible apply State.refuse_kept1
    | with_reducible apply State.refuse_kept
    | with_reducible apply State.accept_kept
    | with_reducible apply State.accept_kept1
    | with_reducible apply State.accept_kept
    | with_reducible apply State.endJob_kept
    | split

theorem State.jobKillCmd_kept1 {orig s : State} (h : Kept orig s) (vw : Nat) (ws : List Reg64) : Kept orig (State.jobKillCmd vw s ws).s := State.jobKillCmd_kept h vw ws

theorem State.releaseKept_kept {orig s : State} (h : Kept orig s) (t : Nat) : Kept orig (State.releaseKept s t) := by
  unfold State.releaseKept
  repeat any_goals first
    | with_reducible assumption
    | intro s x h
    | with_reducible apply State.settleJobs_kept
    | with_reducible apply State.clearJob_kept
    | with_reducible apply State.freeTenantJob_kept
    | fail_if_no_progress (with_reducible refine Kept.frame ?_ (by rfl) (by rfl) (by rfl) (by rfl) (by rfl) (by rfl) (by first | exact Nat.le_refl _ | exact Nat.le_add_right _ _ | with_unfolding_all exact Nat.le_add_right _ _) (by rfl) (by rfl) (by rfl) (by first | exact fun y => y | (with_unfolding_all exact fun y => Mem.wf_writeLE _ _ _ _ y) | (with_unfolding_all exact fun y => Mem.wf_writeByte _ _ _ y) | (with_unfolding_all exact fun y => Mem.wf_clearRange _ _ _ y) | (with_unfolding_all exact fun _ => rfl)) (by first | exact fun y => y | (with_unfolding_all exact fun y => Sparse.wf_set _ _ _ _ y) | (with_unfolding_all exact fun _ => rfl)))
    | split

theorem State.jobReleaseCmd_kept {orig s : State} (h : Kept orig s) (ws : List Reg64) : KeptV Reply.s orig (State.jobReleaseCmd s ws) := by
  unfold State.jobReleaseCmd
  repeat any_goals first
    | with_reducible assumption
    | intro s x h
    | (extract_lets +onlyGivenNames x; refine Kept.of (a := orig) (x := x) ?_ ?_; rotate_left; (intro hx; clear_value x); rotate_right; subst x)
    | (extract_lets +onlyGivenNames x; first | (have keep := (x : Hbm); clear keep) | (have keep := (x : Mgmt); clear keep) | (have keep := (x : Seal); clear keep) | (have keep := (x : HostIf); clear keep) | clear_value x)
    | with_reducible apply Kept.ite
    | with_reducible refine KeptV.ite ?_ ?_
    | with_reducible refine KeptV.fst ?_
    | with_reducible refine KeptV.snd ?_
    | with_reducible refine KeptV.reply ?_
    | with_reducible refine KeptV.got ?_
    | with_reducible apply State.journal_kept
    | with_reducible apply State.refuse_kept
    | with_reducible apply State.refuse_kept1
    | with_reducible apply State.refuse_kept
    | with_reducible apply State.accept_kept
    | with_reducible apply State.accept_kept1
    | with_reducible apply State.accept_kept
    | with_reducible apply State.releaseKept_kept
    | split

theorem State.jobReleaseCmd_kept1 {orig s : State} (h : Kept orig s) (ws : List Reg64) : Kept orig (State.jobReleaseCmd s ws).s := State.jobReleaseCmd_kept h ws

theorem State.copyPool_kept {orig s : State} (h : Kept orig s) (pb : Nat) (page : Nat) : Kept orig (State.copyPool s pb page) := by
  unfold State.copyPool
  repeat any_goals first
    | with_reducible assumption
    | intro s x h
    | (extract_lets +onlyGivenNames x; refine Kept.of (a := orig) (x := x) ?_ ?_; rotate_left; (intro hx; clear_value x); rotate_right; subst x)
    | (extract_lets +onlyGivenNames x; refine Kept.of (a := orig) (x := x.1) ?_ ?_; rotate_left; (intro hx; clear_value x); rotate_right; subst x)
    | (extract_lets +onlyGivenNames x; refine Kept.of (a := orig) (x := x.2) ?_ ?_; rotate_left; (intro hx; clear_value x); rotate_right; subst x)
    | (extract_lets +onlyGivenNames x; first | (have keep := (x : Hbm); clear keep) | (have keep := (x : Mgmt); clear keep) | (have keep := (x : Seal); clear keep) | (have keep := (x : HostIf); clear keep) | clear_value x)
    | with_reducible apply State.setHbmWord_kept
    | with_reducible refine Kept.foldl ?_ (fun s x h => ?_)

theorem State.dumpPoolCmd_kept1 {orig s : State} (h : Kept orig s) (ws : List Reg64) : Kept orig (s.dumpPoolCmd ws).s := by
  unfold State.dumpPoolCmd
  extract_lets m page pb s1 n s2
  have h1 : Kept orig s1 := State.benchResetDone_kept (State.benchReset_kept (State.journal_kept h ..) _) _
  have h2 : Kept orig s2 := State.onBench_kept h1 ..
  split
  · exact h
  · split
    · exact h
    · exact State.accept_kept1 (State.copyPool_kept (Kept.freshen h2 (Nat.le_add_right s1.fresh 3)) pb page)

theorem State.dumpPoolCmd_kept {orig s : State} (h : Kept orig s) (ws : List Reg64) : KeptV Reply.s orig (s.dumpPoolCmd ws) :=
  State.dumpPoolCmd_kept1 h ws

theorem State.fillDone_kept {orig s : State} (h : Kept orig s) : Kept orig (State.fillDone s) := by
  unfold State.fillDone
  repeat any_goals first
    | with_reducible assumption
    | intro s x h
    | (extract_lets +onlyGivenNames x; refine Kept.of (a := orig) (x := x) ?_ ?_; rotate_left; (intro hx; clear_value x); rotate_right; subst x)
    | (extract_lets +onlyGivenNames x; first | (have keep := (x : Hbm); clear keep) | (have keep := (x : Mgmt); clear keep) | (have keep := (x : Seal); clear keep) | (have keep := (x : HostIf); clear keep) | clear_value x)
    | with_reducible apply State.setPageOwner_kept
    | with_reducible apply State.fillHead_kept
    | with_reducible apply State.settleClearing_kept
    | with_reducible refine Kept.foldl ?_ (fun s x h => ?_)
    | fail_if_no_progress (with_reducible refine Kept.frame ?_ (by rfl) (by rfl) (by rfl) (by rfl) (by rfl) (by rfl) (by first | exact Nat.le_refl _ | exact Nat.le_add_right _ _ | with_unfolding_all exact Nat.le_add_right _ _) (by rfl) (by rfl) (by rfl) (by first | exact fun y => y | (with_unfolding_all exact fun y => Mem.wf_writeLE _ _ _ _ y) | (with_unfolding_all exact fun y => Mem.wf_writeByte _ _ _ y) | (with_unfolding_all exact fun y => Mem.wf_clearRange _ _ _ y) | (with_unfolding_all exact fun _ => rfl)) (by first | exact fun y => y | (with_unfolding_all exact fun y => Sparse.wf_set _ _ _ _ y) | (with_unfolding_all exact fun _ => rfl)))
    | split

theorem State.rinseDone_kept {orig s : State} (h : Kept orig s) (pb : Nat) : Kept orig (State.rinseDone s pb) := by
  unfold State.rinseDone
  repeat any_goals first
    | with_reducible assumption
    | intro s x h
    | with_reducible apply State.rinseComplete_kept
    | with_reducible apply State.settleClearing_kept

theorem State.setCoreUp_kept {orig s : State} (h : Kept orig s) (k : Nat) (up : Bool) : Kept orig (State.setCoreUp s k up) := by
  unfold State.setCoreUp
  repeat any_goals first
    | with_reducible assumption
    | intro s x h
    | (extract_lets +onlyGivenNames x; refine Kept.of (a := orig) (x := x) ?_ ?_; rotate_left; (intro hx; clear_value x); rotate_right; subst x)
    | (extract_lets +onlyGivenNames x; first | (have keep := (x : Hbm); clear keep) | (have keep := (x : Mgmt); clear keep) | (have keep := (x : Seal); clear keep) | (have keep := (x : HostIf); clear keep) | clear_value x)
    | with_reducible apply Kept.ite
    | with_reducible apply State.wr_kept
    | split

theorem State.fedNow_kept {orig s : State} (h : Kept orig s) (k : Nat) : Kept orig (State.fedNow s k) := by
  unfold State.fedNow
  repeat any_goals first
    | with_reducible assumption
    | intro s x h
    | fail_if_no_progress (with_reducible refine Kept.frame ?_ (by rfl) (by rfl) (by rfl) (by rfl) (by rfl) (by rfl) (by first | exact Nat.le_refl _ | exact Nat.le_add_right _ _ | with_unfolding_all exact Nat.le_add_right _ _) (by rfl) (by rfl) (by rfl) (by first | exact fun y => y | (with_unfolding_all exact fun y => Mem.wf_writeLE _ _ _ _ y) | (with_unfolding_all exact fun y => Mem.wf_writeByte _ _ _ y) | (with_unfolding_all exact fun y => Mem.wf_clearRange _ _ _ y) | (with_unfolding_all exact fun _ => rfl)) (by first | exact fun y => y | (with_unfolding_all exact fun y => Sparse.wf_set _ _ _ _ y) | (with_unfolding_all exact fun _ => rfl)))

theorem State.watchdogFeed_kept {orig s : State} (h : Kept orig s) (k : Nat) : Kept orig (State.watchdogFeed s k) := by
  unfold State.watchdogFeed
  repeat any_goals first
    | with_reducible assumption
    | intro s x h
    | with_reducible apply Kept.ite
    | with_reducible apply State.fedNow_kept
    | split

theorem State.onLedger_kept {orig s : State} (h : Kept orig s) (f : LedgerData → LedgerData) : Kept orig (State.onLedger s f) := by
  unfold State.onLedger
  repeat any_goals first
    | with_reducible assumption
    | intro s x h
    | fail_if_no_progress (with_reducible refine Kept.frame ?_ (by rfl) (by rfl) (by rfl) (by rfl) (by rfl) (by rfl) (by first | exact Nat.le_refl _ | exact Nat.le_add_right _ _ | with_unfolding_all exact Nat.le_add_right _ _) (by rfl) (by rfl) (by rfl) (by first | exact fun y => y | (with_unfolding_all exact fun y => Mem.wf_writeLE _ _ _ _ y) | (with_unfolding_all exact fun y => Mem.wf_writeByte _ _ _ y) | (with_unfolding_all exact fun y => Mem.wf_clearRange _ _ _ y) | (with_unfolding_all exact fun _ => rfl)) (by first | exact fun y => y | (with_unfolding_all exact fun y => Sparse.wf_set _ _ _ _ y) | (with_unfolding_all exact fun _ => rfl)))

theorem State.watchdogHold_kept {orig s : State} (h : Kept orig s) : Kept orig (State.watchdogHold s) := by
  unfold State.watchdogHold
  repeat any_goals first
    | with_reducible assumption
    | intro s x h
    | (extract_lets +onlyGivenNames x; refine Kept.of (a := orig) (x := x) ?_ ?_; rotate_left; (intro hx; clear_value x); rotate_right; subst x)
    | (extract_lets +onlyGivenNames x; first | (have keep := (x : Hbm); clear keep) | (have keep := (x : Mgmt); clear keep) | (have keep := (x : Seal); clear keep) | (have keep := (x : HostIf); clear keep) | clear_value x)
    | with_reducible apply Kept.ite
    | with_reducible apply State.wr_kept
    | with_reducible apply State.wrB_kept
    | with_reducible apply State.setDev_kept
    | with_reducible apply State.stopBench_kept
    | with_reducible apply State.rinse_kept
    | with_reducible apply State.onLedger_kept
    | with_reducible refine Kept.foldl ?_ (fun s x h => ?_)
    | fail_if_no_progress (with_reducible refine Kept.frame ?_ (by rfl) (by rfl) (by rfl) (by rfl) (by rfl) (by rfl) (by first | exact Nat.le_refl _ | exact Nat.le_add_right _ _ | with_unfolding_all exact Nat.le_add_right _ _) (by rfl) (by rfl) (by rfl) (by first | exact fun y => y | (with_unfolding_all exact fun y => Mem.wf_writeLE _ _ _ _ y) | (with_unfolding_all exact fun y => Mem.wf_writeByte _ _ _ y) | (with_unfolding_all exact fun y => Mem.wf_clearRange _ _ _ y) | (with_unfolding_all exact fun _ => rfl)) (by first | exact fun y => y | (with_unfolding_all exact fun y => Sparse.wf_set _ _ _ _ y) | (with_unfolding_all exact fun _ => rfl)))
    | split

theorem State.setExpiries_kept {orig s : State} (h : Kept orig s) (l : List Nat) : Kept orig (State.setExpiries s l) := by
  unfold State.setExpiries
  repeat any_goals first
    | with_reducible assumption
    | intro s x h
    | fail_if_no_progress (with_reducible refine Kept.frame ?_ (by rfl) (by rfl) (by rfl) (by rfl) (by rfl) (by rfl) (by first | exact Nat.le_refl _ | exact Nat.le_add_right _ _ | with_unfolding_all exact Nat.le_add_right _ _) (by rfl) (by rfl) (by rfl) (by first | exact fun y => y | (with_unfolding_all exact fun y => Mem.wf_writeLE _ _ _ _ y) | (with_unfolding_all exact fun y => Mem.wf_writeByte _ _ _ y) | (with_unfolding_all exact fun y => Mem.wf_clearRange _ _ _ y) | (with_unfolding_all exact fun _ => rfl)) (by first | exact fun y => y | (with_unfolding_all exact fun y => Sparse.wf_set _ _ _ _ y) | (with_unfolding_all exact fun _ => rfl)))

theorem State.watchdogExpiry_kept {orig s : State} (h : Kept orig s) (k : Nat) (pc : Nat) : Kept orig (State.watchdogExpiry s k pc) := by
  unfold State.watchdogExpiry
  repeat any_goals first
    | with_reducible assumption
    | intro s x h
    | (extract_lets +onlyGivenNames x; refine Kept.of (a := orig) (x := x) ?_ ?_; rotate_left; (intro hx; clear_value x); rotate_right; subst x)
    | (extract_lets +onlyGivenNames x; first | (have keep := (x : Hbm); clear keep) | (have keep := (x : Mgmt); clear keep) | (have keep := (x : Seal); clear keep) | (have keep := (x : HostIf); clear keep) | clear_value x)
    | with_reducible apply Kept.ite
    | with_reducible apply State.wr_kept
    | with_reducible apply State.wrB_kept
    | with_reducible apply State.satInc_kept
    | with_reducible apply State.logAt_kept
    | with_reducible apply State.setCoreUp_kept
    | with_reducible apply State.watchdogHold_kept
    | with_reducible apply State.setExpiries_kept
    | split

theorem State.restrictedDuties_kept {orig s : State} (h : Kept orig s) : Kept orig (State.restrictedDuties s) := by
  unfold State.restrictedDuties
  repeat any_goals first
    | with_reducible assumption
    | intro s x h
    | (extract_lets +onlyGivenNames x; refine Kept.of (a := orig) (x := x) ?_ ?_; rotate_left; (intro hx; clear_value x); rotate_right; subst x)
    | (extract_lets +onlyGivenNames x; refine Kept.of (a := orig) (x := x.1) ?_ ?_; rotate_left; (intro hx; clear_value x); rotate_right; subst x)
    | (extract_lets +onlyGivenNames x; refine Kept.of (a := orig) (x := x.2) ?_ ?_; rotate_left; (intro hx; clear_value x); rotate_right; subst x)
    | (extract_lets +onlyGivenNames x; first | (have keep := (x : Hbm); clear keep) | (have keep := (x : Mgmt); clear keep) | (have keep := (x : Seal); clear keep) | (have keep := (x : HostIf); clear keep) | clear_value x)
    | with_reducible apply Kept.ite
    | with_reducible apply State.wr_kept
    | with_reducible apply State.clearLeases_kept
    | with_reducible apply State.addFill_kept
    | with_reducible apply State.settleJobs_kept
    | with_reducible apply State.endJob_kept
    | with_reducible apply State.releaseKept_kept
    | with_reducible refine Kept.foldl ?_ (fun s x h => ?_)
    | split

theorem State.raiseFloor_kept {orig s : State} (h : Kept orig s) : Kept orig s.raiseFloor := by
  unfold State.raiseFloor
  extract_lets svn
  split
  · rename_i c
    exact State.remeasure_kept ⟨h.pending, h.fresh, h.out, h.floor.trans (Nat.le_of_lt c.2), fun x => { h.canonical x with }⟩
  · exact h

theorem State.confirmTrial_kept {orig s : State} (h : Kept orig s) : Kept orig (State.confirmTrial s) := by
  unfold State.confirmTrial
  repeat any_goals first
    | with_reducible assumption
    | intro s x h
    | with_reducible apply Kept.ite
    | with_reducible apply State.wrB_kept
    | with_reducible apply State.remeasure_kept
    | with_reducible apply State.onLedger_kept
    | fail_if_no_progress (with_reducible refine Kept.frame ?_ (by rfl) (by rfl) (by rfl) (by rfl) (by rfl) (by rfl) (by first | exact Nat.le_refl _ | exact Nat.le_add_right _ _ | with_unfolding_all exact Nat.le_add_right _ _) (by rfl) (by rfl) (by rfl) (by first | exact fun y => y | (with_unfolding_all exact fun y => Mem.wf_writeLE _ _ _ _ y) | (with_unfolding_all exact fun y => Mem.wf_writeByte _ _ _ y) | (with_unfolding_all exact fun y => Mem.wf_clearRange _ _ _ y) | (with_unfolding_all exact fun _ => rfl)) (by first | exact fun y => y | (with_unfolding_all exact fun y => Sparse.wf_set _ _ _ _ y) | (with_unfolding_all exact fun _ => rfl)))
    | split

theorem State.reachReady_kept {orig s : State} (h : Kept orig s) : Kept orig (State.reachReady s) := by
  unfold State.reachReady
  repeat any_goals first
    | with_reducible assumption
    | intro s x h
    | with_reducible apply State.setDev_kept
    | with_reducible apply State.settleActive_kept
    | with_reducible apply State.raiseFloor_kept
    | with_reducible apply State.confirmTrial_kept

theorem State.answerOffer_kept {orig s : State} (h : Kept orig s) (vw : Nat) : Kept orig (State.answerOffer s vw) := by
  unfold State.answerOffer
  repeat any_goals first
    | with_reducible assumption
    | intro s x h
    | (extract_lets +onlyGivenNames x; refine Kept.of (a := orig) (x := x) ?_ ?_; rotate_left; (intro hx; clear_value x); rotate_right; subst x)
    | (extract_lets +onlyGivenNames x; first | (have keep := (x : Hbm); clear keep) | (have keep := (x : Mgmt); clear keep) | (have keep := (x : Seal); clear keep) | (have keep := (x : HostIf); clear keep) | clear_value x)
    | with_reducible apply Kept.ite
    | with_reducible apply State.setView_kept
    | with_reducible apply State.wr_kept
    | with_reducible apply State.log_kept
    | with_reducible apply State.setDev_kept
    | with_reducible apply State.reachReady_kept
    | fail_if_no_progress (with_reducible refine Kept.frame ?_ (by rfl) (by rfl) (by rfl) (by rfl) (by rfl) (by rfl) (by first | exact Nat.le_refl _ | exact Nat.le_add_right _ _ | with_unfolding_all exact Nat.le_add_right _ _) (by rfl) (by rfl) (by rfl) (by first | exact fun y => y | (with_unfolding_all exact fun y => Mem.wf_writeLE _ _ _ _ y) | (with_unfolding_all exact fun y => Mem.wf_writeByte _ _ _ y) | (with_unfolding_all exact fun y => Mem.wf_clearRange _ _ _ y) | (with_unfolding_all exact fun _ => rfl)) (by first | exact fun y => y | (with_unfolding_all exact fun y => Sparse.wf_set _ _ _ _ y) | (with_unfolding_all exact fun _ => rfl)))
    | split

theorem State.offerVersion_kept {orig s : State} (h : Kept orig s) (vw : Nat) : Kept orig (State.offerVersion s vw) := by
  unfold State.offerVersion
  repeat any_goals first
    | with_reducible assumption
    | intro s x h
    | with_reducible apply Kept.ite
    | with_reducible apply State.setView_kept
    | with_reducible apply State.answerOffer_kept
    | fail_if_no_progress (with_reducible refine Kept.frame ?_ (by rfl) (by rfl) (by rfl) (by rfl) (by rfl) (by rfl) (by first | exact Nat.le_refl _ | exact Nat.le_add_right _ _ | with_unfolding_all exact Nat.le_add_right _ _) (by rfl) (by rfl) (by rfl) (by first | exact fun y => y | (with_unfolding_all exact fun y => Mem.wf_writeLE _ _ _ _ y) | (with_unfolding_all exact fun y => Mem.wf_writeByte _ _ _ y) | (with_unfolding_all exact fun y => Mem.wf_clearRange _ _ _ y) | (with_unfolding_all exact fun _ => rfl)) (by first | exact fun y => y | (with_unfolding_all exact fun y => Sparse.wf_set _ _ _ _ y) | (with_unfolding_all exact fun _ => rfl)))
    | split

theorem State.answerOffers_kept {orig s : State} (h : Kept orig s) : Kept orig (State.answerOffers s) := by
  unfold State.answerOffers
  repeat any_goals first
    | with_reducible assumption
    | intro s x h
    | with_reducible apply Kept.ite
    | with_reducible apply State.answerOffer_kept
    | with_reducible refine Kept.foldl ?_ (fun s x h => ?_)
    | split

theorem State.coreRestarted_kept {orig s : State} (h : Kept orig s) (k : Nat) : Kept orig (State.coreRestarted s k) := by
  unfold State.coreRestarted
  repeat any_goals first
    | with_reducible assumption
    | intro s x h
    | (extract_lets +onlyGivenNames x; refine Kept.of (a := orig) (x := x) ?_ ?_; rotate_left; (intro hx; clear_value x); rotate_right; subst x)
    | (extract_lets +onlyGivenNames x; first | (have keep := (x : Hbm); clear keep) | (have keep := (x : Mgmt); clear keep) | (have keep := (x : Seal); clear keep) | (have keep := (x : HostIf); clear keep) | clear_value x)
    | with_reducible apply Kept.ite
    | with_reducible apply State.wrB_kept
    | with_reducible apply State.setCoreUp_kept
    | with_reducible apply State.fedNow_kept
    | with_reducible apply State.restrictedDuties_kept
    | with_reducible apply State.answerOffers_kept
    | fail_if_no_progress (with_reducible refine Kept.frame ?_ (by rfl) (by rfl) (by rfl) (by rfl) (by rfl) (by rfl) (by first | exact Nat.le_refl _ | exact Nat.le_add_right _ _ | with_unfolding_all exact Nat.le_add_right _ _) (by rfl) (by rfl) (by rfl) (by first | exact fun y => y | (with_unfolding_all exact fun y => Mem.wf_writeLE _ _ _ _ y) | (with_unfolding_all exact fun y => Mem.wf_writeByte _ _ _ y) | (with_unfolding_all exact fun y => Mem.wf_clearRange _ _ _ y) | (with_unfolding_all exact fun _ => rfl)) (by first | exact fun y => y | (with_unfolding_all exact fun y => Sparse.wf_set _ _ _ _ y) | (with_unfolding_all exact fun _ => rfl)))
    | split

theorem State.authFail_kept {orig s : State} (h : Kept orig s) (slot : Nat) (staging : Bool) (f : Nat × Nat) (img : ImageCheck) : Kept orig (State.authFail s slot staging f img) := by
  unfold State.authFail
  repeat any_goals first
    | with_reducible assumption
    | intro s x h
    | with_reducible apply State.logAt_kept

theorem State.stageFirmware_kept {orig s : State} (h : Kept orig s) (vw : Nat) : Kept orig (State.stageFirmware s vw) := by
  unfold State.stageFirmware
  repeat any_goals first
    | with_reducible assumption
    | intro s x h
    | (extract_lets +onlyGivenNames x; refine Kept.of (a := orig) (x := x) ?_ ?_; rotate_left; (intro hx; clear_value x); rotate_right; subst x)
    | (extract_lets +onlyGivenNames x; first | (have keep := (x : Hbm); clear keep) | (have keep := (x : Mgmt); clear keep) | (have keep := (x : Seal); clear keep) | (have keep := (x : HostIf); clear keep) | clear_value x)
    | with_reducible apply Kept.ite
    | with_reducible apply State.wr_kept
    | with_reducible apply State.wrB_kept
    | with_reducible apply State.mgmtAnswer_kept
    | fail_if_no_progress (with_reducible refine Kept.frame ?_ (by rfl) (by rfl) (by rfl) (by rfl) (by rfl) (by rfl) (by first | exact Nat.le_refl _ | exact Nat.le_add_right _ _ | with_unfolding_all exact Nat.le_add_right _ _) (by rfl) (by rfl) (by rfl) (by first | exact fun y => y | (with_unfolding_all exact fun y => Mem.wf_writeLE _ _ _ _ y) | (with_unfolding_all exact fun y => Mem.wf_writeByte _ _ _ y) | (with_unfolding_all exact fun y => Mem.wf_clearRange _ _ _ y) | (with_unfolding_all exact fun _ => rfl)) (by first | exact fun y => y | (with_unfolding_all exact fun y => Sparse.wf_set _ _ _ _ y) | (with_unfolding_all exact fun _ => rfl)))
    | split

theorem State.answerStage_kept {orig s : State} (h : Kept orig s) (vw : Nat) (st : Nat) : Kept orig (State.answerStage s vw st) := by
  unfold State.answerStage
  repeat any_goals first
    | with_reducible assumption
    | intro s x h
    | with_reducible apply Kept.ite
    | with_reducible apply State.mgmtAnswer_kept
    | split

theorem State.stageVerified_kept {orig s : State} (h : Kept orig s) (img : ImageCheck) (fault : Bool) : Kept orig (State.stageVerified s img fault) := by
  unfold State.stageVerified
  dsimp only
  repeat any_goals first
    | with_reducible assumption
    | intro s x h
    | with_reducible apply Kept.ite
    | with_reducible apply State.wr_kept
    | with_reducible apply State.wrB_kept
    | with_reducible apply State.sealFault_kept
    | with_reducible apply State.onLedger_kept
    | with_reducible apply State.authFail_kept
    | with_reducible apply State.answerStage_kept
    | fail_if_no_progress (with_reducible refine Kept.frame ?_ (by rfl) (by rfl) (by rfl) (by rfl) (by rfl) (by rfl) (by first | exact Nat.le_refl _ | exact Nat.le_add_right _ _ | with_unfolding_all exact Nat.le_add_right _ _) (by rfl) (by rfl) (by rfl) (by first | exact fun y => y | (with_unfolding_all exact fun y => Mem.wf_writeLE _ _ _ _ y) | (with_unfolding_all exact fun y => Mem.wf_writeByte _ _ _ y) | (with_unfolding_all exact fun y => Mem.wf_clearRange _ _ _ y) | (with_unfolding_all exact fun _ => rfl)) (by first | exact fun y => y | (with_unfolding_all exact fun y => Sparse.wf_set _ _ _ _ y) | (with_unfolding_all exact fun _ => rfl)))
    | split

theorem State.setNor_kept {orig s : State} (h : Kept orig s) (m : Mem) : Kept orig (State.setNor s m) := by
  unfold State.setNor
  repeat any_goals first
    | with_reducible assumption
    | intro s x h
    | fail_if_no_progress (with_reducible refine Kept.frame ?_ (by rfl) (by rfl) (by rfl) (by rfl) (by rfl) (by rfl) (by first | exact Nat.le_refl _ | exact Nat.le_add_right _ _ | with_unfolding_all exact Nat.le_add_right _ _) (by rfl) (by rfl) (by rfl) (by first | exact fun y => y | (with_unfolding_all exact fun y => Mem.wf_writeLE _ _ _ _ y) | (with_unfolding_all exact fun y => Mem.wf_writeByte _ _ _ y) | (with_unfolding_all exact fun y => Mem.wf_clearRange _ _ _ y) | (with_unfolding_all exact fun _ => rfl)) (by first | exact fun y => y | (with_unfolding_all exact fun y => Sparse.wf_set _ _ _ _ y) | (with_unfolding_all exact fun _ => rfl)))

theorem State.setLedgerOp_kept {orig s : State} (h : Kept orig s) (op : Option LedgerOp) : Kept orig (State.setLedgerOp s op) := by
  unfold State.setLedgerOp
  repeat any_goals first
    | with_reducible assumption
    | intro s x h
    | with_reducible apply State.wrB_kept
    | fail_if_no_progress (with_reducible refine Kept.frame ?_ (by rfl) (by rfl) (by rfl) (by rfl) (by rfl) (by rfl) (by first | exact Nat.le_refl _ | exact Nat.le_add_right _ _ | with_unfolding_all exact Nat.le_add_right _ _) (by rfl) (by rfl) (by rfl) (by first | exact fun y => y | (with_unfolding_all exact fun y => Mem.wf_writeLE _ _ _ _ y) | (with_unfolding_all exact fun y => Mem.wf_writeByte _ _ _ y) | (with_unfolding_all exact fun y => Mem.wf_clearRange _ _ _ y) | (with_unfolding_all exact fun _ => rfl)) (by first | exact fun y => y | (with_unfolding_all exact fun y => Sparse.wf_set _ _ _ _ y) | (with_unfolding_all exact fun _ => rfl)))

theorem State.showLedger_kept {orig s : State} (h : Kept orig s) : Kept orig (State.showLedger s) := by
  unfold State.showLedger
  repeat any_goals first
    | with_reducible assumption
    | intro s x h
    | (extract_lets +onlyGivenNames x; refine Kept.of (a := orig) (x := x) ?_ ?_; rotate_left; (intro hx; clear_value x); rotate_right; subst x)
    | (extract_lets +onlyGivenNames x; first | (have keep := (x : Hbm); clear keep) | (have keep := (x : Mgmt); clear keep) | (have keep := (x : Seal); clear keep) | (have keep := (x : HostIf); clear keep) | clear_value x)
    | with_reducible apply Kept.ite
    | with_reducible apply State.wr_kept
    | with_reducible apply State.wrB_kept
    | split

theorem State.readLedger_kept {orig s : State} (h : Kept orig s) : Kept orig (State.readLedger s) := by
  unfold State.readLedger
  repeat any_goals first
    | with_reducible assumption
    | intro s x h
    | (extract_lets +onlyGivenNames x; refine Kept.of (a := orig) (x := x) ?_ ?_; rotate_left; (intro hx; clear_value x); rotate_right; subst x)
    | (extract_lets +onlyGivenNames x; first | (have keep := (x : Hbm); clear keep) | (have keep := (x : Mgmt); clear keep) | (have keep := (x : Seal); clear keep) | (have keep := (x : HostIf); clear keep) | clear_value x)
    | with_reducible apply Kept.ite
    | with_reducible apply State.wr_kept
    | with_reducible apply State.onLedger_kept
    | with_reducible apply State.showLedger_kept
    | split

theorem State.ledgerWrite_kept {orig s : State} (h : Kept orig s) : Kept orig (State.ledgerWrite s) := by
  unfold State.ledgerWrite
  repeat any_goals first
    | with_reducible assumption
    | intro s x h
    | (extract_lets +onlyGivenNames x; refine Kept.of (a := orig) (x := x) ?_ ?_; rotate_left; (intro hx; clear_value x); rotate_right; subst x)
    | (extract_lets +onlyGivenNames x; first | (have keep := (x : Hbm); clear keep) | (have keep := (x : Mgmt); clear keep) | (have keep := (x : Seal); clear keep) | (have keep := (x : HostIf); clear keep) | clear_value x)
    | with_reducible apply Kept.ite
    | with_reducible apply State.wrB_kept
    | with_reducible apply State.setNor_kept
    | with_reducible apply State.setLedgerOp_kept
    | split

theorem State.ledgerDone_kept {orig s : State} (h : Kept orig s) (ok : Bool) : Kept orig (State.ledgerDone s ok) := by
  unfold State.ledgerDone
  repeat any_goals first
    | with_reducible assumption
    | intro s x h
    | (extract_lets +onlyGivenNames x; refine Kept.of (a := orig) (x := x) ?_ ?_; rotate_left; (intro hx; clear_value x); rotate_right; subst x)
    | (extract_lets +onlyGivenNames x; first | (have keep := (x : Hbm); clear keep) | (have keep := (x : Mgmt); clear keep) | (have keep := (x : Seal); clear keep) | (have keep := (x : HostIf); clear keep) | clear_value x)
    | with_reducible apply Kept.ite
    | with_reducible apply State.wr_kept
    | with_reducible apply State.wrB_kept
    | with_reducible apply State.wrapInc_kept
    | with_reducible apply State.setNor_kept
    | with_reducible apply State.setLedgerOp_kept
    | fail_if_no_progress (with_reducible refine Kept.frame ?_ (by rfl) (by rfl) (by rfl) (by rfl) (by rfl) (by rfl) (by first | exact Nat.le_refl _ | exact Nat.le_add_right _ _ | with_unfolding_all exact Nat.le_add_right _ _) (by rfl) (by rfl) (by rfl) (by first | exact fun y => y | (with_unfolding_all exact fun y => Mem.wf_writeLE _ _ _ _ y) | (with_unfolding_all exact fun y => Mem.wf_writeByte _ _ _ y) | (with_unfolding_all exact fun y => Mem.wf_clearRange _ _ _ y) | (with_unfolding_all exact fun _ => rfl)) (by first | exact fun y => y | (with_unfolding_all exact fun y => Sparse.wf_set _ _ _ _ y) | (with_unfolding_all exact fun _ => rfl)))
    | split

theorem State.ledgerCut_kept {orig s : State} (h : Kept orig s) : Kept orig (State.ledgerCut s) := by
  unfold State.ledgerCut
  repeat any_goals first
    | with_reducible assumption
    | intro s x h
    | (extract_lets +onlyGivenNames x; refine Kept.of (a := orig) (x := x) ?_ ?_; rotate_left; (intro hx; clear_value x); rotate_right; subst x)
    | (extract_lets +onlyGivenNames x; first | (have keep := (x : Hbm); clear keep) | (have keep := (x : Mgmt); clear keep) | (have keep := (x : Seal); clear keep) | (have keep := (x : HostIf); clear keep) | clear_value x)
    | with_reducible apply Kept.ite
    | with_reducible apply State.skip_kept
    | with_reducible apply State.setNor_kept
    | with_reducible apply State.setLedgerOp_kept
    | fail_if_no_progress (with_reducible refine Kept.frame ?_ (by rfl) (by rfl) (by rfl) (by rfl) (by rfl) (by rfl) (by first | exact Nat.le_refl _ | exact Nat.le_add_right _ _ | with_unfolding_all exact Nat.le_add_right _ _) (by rfl) (by rfl) (by rfl) (by first | exact fun y => y | (with_unfolding_all exact fun y => Mem.wf_writeLE _ _ _ _ y) | (with_unfolding_all exact fun y => Mem.wf_writeByte _ _ _ y) | (with_unfolding_all exact fun y => Mem.wf_clearRange _ _ _ y) | (with_unfolding_all exact fun _ => rfl)) (by first | exact fun y => y | (with_unfolding_all exact fun y => Sparse.wf_set _ _ _ _ y) | (with_unfolding_all exact fun _ => rfl)))
    | split

theorem State.setPower_kept {orig s : State} (h : Kept orig s) (st : PowerSt) : Kept orig (State.setPower s st) := by
  unfold State.setPower
  repeat any_goals first
    | with_reducible assumption
    | intro s x h
    | fail_if_no_progress (with_reducible refine Kept.frame ?_ (by rfl) (by rfl) (by rfl) (by rfl) (by rfl) (by rfl) (by first | exact Nat.le_refl _ | exact Nat.le_add_right _ _ | with_unfolding_all exact Nat.le_add_right _ _) (by rfl) (by rfl) (by rfl) (by first | exact fun y => y | (with_unfolding_all exact fun y => Mem.wf_writeLE _ _ _ _ y) | (with_unfolding_all exact fun y => Mem.wf_writeByte _ _ _ y) | (with_unfolding_all exact fun y => Mem.wf_clearRange _ _ _ y) | (with_unfolding_all exact fun _ => rfl)) (by first | exact fun y => y | (with_unfolding_all exact fun y => Sparse.wf_set _ _ _ _ y) | (with_unfolding_all exact fun _ => rfl)))

theorem State.fail_kept {orig s : State} (h : Kept orig s) (cause : Nat) : Kept orig (State.fail s cause) := by
  unfold State.fail
  repeat any_goals first
    | with_reducible assumption
    | intro s x h
    | with_reducible apply State.wr_kept
    | with_reducible apply State.setDev_kept

theorem State.trainHbm_kept {orig s : State} (h : Kept orig s) : Kept orig (State.trainHbm s) := by
  unfold State.trainHbm
  repeat any_goals first
    | with_reducible assumption
    | intro s x h
    | (extract_lets +onlyGivenNames x; refine Kept.of (a := orig) (x := x) ?_ ?_; rotate_left; (intro hx; clear_value x); rotate_right; subst x)
    | (extract_lets +onlyGivenNames x; first | (have keep := (x : Hbm); clear keep) | (have keep := (x : Mgmt); clear keep) | (have keep := (x : Seal); clear keep) | (have keep := (x : HostIf); clear keep) | clear_value x)
    | with_reducible apply Kept.ite
    | with_reducible apply State.wrB_kept
    | with_reducible apply State.markMapOut_kept
    | with_reducible refine Kept.foldl ?_ (fun s x h => ?_)
    | split

theorem State.startBoot_kept {orig s : State} (h : Kept orig s) (cold : Bool) : Kept orig (State.startBoot s cold) := by
  unfold State.startBoot
  repeat any_goals first
    | with_reducible assumption
    | intro s x h
    | with_reducible apply Kept.ite
    | with_reducible apply State.showLedger_kept
    | with_reducible apply State.readLedger_kept
    | with_reducible apply State.fail_kept
    | with_reducible apply State.trainHbm_kept
    | split

theorem State.clocksUp_kept {orig s : State} (h : Kept orig s) : Kept orig (State.clocksUp s) := by
  unfold State.clocksUp
  repeat any_goals first
    | with_reducible assumption
    | intro s x h
    | (extract_lets +onlyGivenNames x; refine Kept.of (a := orig) (x := x) ?_ ?_; rotate_left; (intro hx; clear_value x); rotate_right; subst x)
    | (extract_lets +onlyGivenNames x; first | (have keep := (x : Hbm); clear keep) | (have keep := (x : Mgmt); clear keep) | (have keep := (x : Seal); clear keep) | (have keep := (x : HostIf); clear keep) | clear_value x)
    | with_reducible apply State.wrB_kept
    | fail_if_no_progress (with_reducible refine Kept.frame ?_ (by rfl) (by rfl) (by rfl) (by rfl) (by rfl) (by rfl) (by first | exact Nat.le_refl _ | exact Nat.le_add_right _ _ | with_unfolding_all exact Nat.le_add_right _ _) (by rfl) (by rfl) (by rfl) (by first | exact fun y => y | (with_unfolding_all exact fun y => Mem.wf_writeLE _ _ _ _ y) | (with_unfolding_all exact fun y => Mem.wf_writeByte _ _ _ y) | (with_unfolding_all exact fun y => Mem.wf_clearRange _ _ _ y) | (with_unfolding_all exact fun _ => rfl)) (by first | exact fun y => y | (with_unfolding_all exact fun y => Sparse.wf_set _ _ _ _ y) | (with_unfolding_all exact fun _ => rfl)))

theorem State.rootLock_kept {orig s : State} (h : Kept orig s) : Kept orig (State.rootLock s) := by
  unfold State.rootLock
  repeat any_goals first
    | with_reducible assumption
    | intro s x h
    | with_reducible apply Kept.ite
    | with_reducible apply State.setPower_kept
    | with_reducible apply State.startBoot_kept
    | with_reducible apply State.clocksUp_kept
    | split

theorem State.lockTimeout_kept {orig s : State} (h : Kept orig s) : Kept orig (State.lockTimeout s) := by
  unfold State.lockTimeout
  repeat any_goals first
    | with_reducible assumption
    | intro s x h
    | with_reducible apply Kept.ite
    | with_reducible apply State.fail_kept
    | split

theorem State.imageBooted_kept {orig s : State} (h : Kept orig s) (img : ImageCheck) : Kept orig (State.imageBooted s img) := by
  unfold State.imageBooted
  repeat any_goals first
    | with_reducible assumption
    | intro s x h
    | (extract_lets +onlyGivenNames x; refine Kept.of (a := orig) (x := x) ?_ ?_; rotate_left; (intro hx; clear_value x); rotate_right; subst x)
    | (extract_lets +onlyGivenNames x; first | (have keep := (x : Hbm); clear keep) | (have keep := (x : Mgmt); clear keep) | (have keep := (x : Seal); clear keep) | (have keep := (x : HostIf); clear keep) | clear_value x)
    | with_reducible apply Kept.ite
    | with_reducible apply State.setReg_kept
    | with_reducible apply State.wr_kept
    | with_reducible apply State.wrB_kept
    | with_reducible apply State.bump_kept
    | with_reducible apply State.remeasure_kept
    | with_reducible apply State.setCoreUp_kept
    | with_reducible apply State.fedNow_kept
    | with_reducible refine Kept.foldl ?_ (fun s x h => ?_)
    | fail_if_no_progress (with_reducible refine Kept.frame ?_ (by rfl) (by rfl) (by rfl) (by rfl) (by rfl) (by rfl) (by first | exact Nat.le_refl _ | exact Nat.le_add_right _ _ | with_unfolding_all exact Nat.le_add_right _ _) (by rfl) (by rfl) (by rfl) (by first | exact fun y => y | (with_unfolding_all exact fun y => Mem.wf_writeLE _ _ _ _ y) | (with_unfolding_all exact fun y => Mem.wf_writeByte _ _ _ y) | (with_unfolding_all exact fun y => Mem.wf_clearRange _ _ _ y) | (with_unfolding_all exact fun _ => rfl)) (by first | exact fun y => y | (with_unfolding_all exact fun y => Sparse.wf_set _ _ _ _ y) | (with_unfolding_all exact fun _ => rfl)))
    | split

theorem State.bootVerified_kept {orig s : State} (h : Kept orig s) (img : ImageCheck) (fault : Bool) : Kept orig (State.bootVerified s img fault) := by
  unfold State.bootVerified
  repeat any_goals first
    | with_reducible assumption
    | intro s x h
    | (extract_lets +onlyGivenNames x; refine Kept.of (a := orig) (x := x) ?_ ?_; rotate_left; (intro hx; clear_value x); rotate_right; subst x)
    | (extract_lets +onlyGivenNames x; first | (have keep := (x : Hbm); clear keep) | (have keep := (x : Mgmt); clear keep) | (have keep := (x : Seal); clear keep) | (have keep := (x : HostIf); clear keep) | clear_value x)
    | with_reducible apply Kept.ite
    | with_reducible apply State.wr_kept
    | with_reducible apply State.wrB_kept
    | with_reducible apply State.sealFault_kept
    | with_reducible apply State.onLedger_kept
    | with_reducible apply State.authFail_kept
    | with_reducible apply State.fail_kept
    | with_reducible apply State.imageBooted_kept
    | fail_if_no_progress (with_reducible refine Kept.frame ?_ (by rfl) (by rfl) (by rfl) (by rfl) (by rfl) (by rfl) (by first | exact Nat.le_refl _ | exact Nat.le_add_right _ _ | with_unfolding_all exact Nat.le_add_right _ _) (by rfl) (by rfl) (by rfl) (by first | exact fun y => y | (with_unfolding_all exact fun y => Mem.wf_writeLE _ _ _ _ y) | (with_unfolding_all exact fun y => Mem.wf_writeByte _ _ _ y) | (with_unfolding_all exact fun y => Mem.wf_clearRange _ _ _ y) | (with_unfolding_all exact fun _ => rfl)) (by first | exact fun y => y | (with_unfolding_all exact fun y => Sparse.wf_set _ _ _ _ y) | (with_unfolding_all exact fun _ => rfl)))
    | split

theorem State.applyMap_kept {orig s : State} (h : Kept orig s) : Kept orig (State.applyMap s) := by
  unfold State.applyMap
  repeat any_goals first
    | with_reducible assumption
    | intro s x h
    | (extract_lets +onlyGivenNames x; refine Kept.of (a := orig) (x := x) ?_ ?_; rotate_left; (intro hx; clear_value x); rotate_right; subst x)
    | (extract_lets +onlyGivenNames x; first | (have keep := (x : Hbm); clear keep) | (have keep := (x : Mgmt); clear keep) | (have keep := (x : Seal); clear keep) | (have keep := (x : HostIf); clear keep) | clear_value x)
    | with_reducible apply Kept.ite
    | with_reducible apply State.wr_kept
    | with_reducible apply State.wrB_kept
    | with_reducible refine Kept.foldl ?_ (fun s x h => ?_)
    | split

theorem State.applyIdentity_kept {orig s : State} (h : Kept orig s) : Kept orig (State.applyIdentity s) := by
  unfold State.applyIdentity
  repeat any_goals first
    | with_reducible assumption
    | intro s x h
    | (extract_lets +onlyGivenNames x; refine Kept.of (a := orig) (x := x) ?_ ?_; rotate_left; (intro hx; clear_value x); rotate_right; subst x)
    | (extract_lets +onlyGivenNames x; first | (have keep := (x : Hbm); clear keep) | (have keep := (x : Mgmt); clear keep) | (have keep := (x : Seal); clear keep) | (have keep := (x : HostIf); clear keep) | clear_value x)
    | with_reducible apply Kept.ite
    | with_reducible apply State.wr_kept
    | with_reducible apply State.wrB_kept
    | with_reducible apply State.skip_kept
    | split

theorem State.enablePorts_kept {orig s : State} (h : Kept orig s) : Kept orig (State.enablePorts s) := by
  unfold State.enablePorts
  repeat any_goals first
    | with_reducible assumption
    | intro s x h
    | with_reducible apply Kept.ite
    | with_reducible apply State.wrB_kept
    | with_reducible apply State.linkEnableNow_kept
    | with_reducible refine Kept.foldl ?_ (fun s x h => ?_)
    | split

theorem State.clearedMemories_kept {orig s : State} (h : Kept orig s) : Kept orig (State.clearedMemories s) := by
  unfold State.clearedMemories
  repeat any_goals first
    | with_reducible assumption
    | intro s x h
    | (extract_lets +onlyGivenNames x; refine Kept.of (a := orig) (x := x) ?_ ?_; rotate_left; (intro hx; clear_value x); rotate_right; subst x)
    | (extract_lets +onlyGivenNames x; refine Kept.of (a := orig) (x := x.2) ?_ ?_; rotate_left; (intro hx; clear_value x); rotate_right; subst x)
    | (extract_lets +onlyGivenNames x; first | (have keep := (x : Hbm); clear keep) | (have keep := (x : Mgmt); clear keep) | (have keep := (x : Seal); clear keep) | (have keep := (x : HostIf); clear keep) | clear_value x)
    | with_reducible apply State.resetRegs_kept
    | with_reducible apply State.rinseComplete_kept
    | with_reducible apply State.setFills_kept
    | with_reducible refine Kept.foldl ?_ (fun s x h => ?_)
    | fail_if_no_progress (with_reducible refine Kept.frame ?_ (by rfl) (by rfl) (by rfl) (by rfl) (by rfl) (by rfl) (by first | exact Nat.le_refl _ | exact Nat.le_add_right _ _ | with_unfolding_all exact Nat.le_add_right _ _) (by rfl) (by rfl) (by rfl) (by first | exact fun y => y | (with_unfolding_all exact fun y => Mem.wf_writeLE _ _ _ _ y) | (with_unfolding_all exact fun y => Mem.wf_writeByte _ _ _ y) | (with_unfolding_all exact fun y => Mem.wf_clearRange _ _ _ y) | (with_unfolding_all exact fun _ => rfl)) (by first | exact fun y => y | (with_unfolding_all exact fun y => Sparse.wf_set _ _ _ _ y) | (with_unfolding_all exact fun _ => rfl)))

theorem State.clearingDone_kept {orig s : State} (h : Kept orig s) : Kept orig (State.clearingDone s) := by
  unfold State.clearingDone
  repeat any_goals first
    | with_reducible assumption
    | intro s x h
    | (extract_lets +onlyGivenNames x; refine Kept.of (a := orig) (x := x) ?_ ?_; rotate_left; (intro hx; clear_value x); rotate_right; subst x)
    | (extract_lets +onlyGivenNames x; first | (have keep := (x : Hbm); clear keep) | (have keep := (x : Mgmt); clear keep) | (have keep := (x : Seal); clear keep) | (have keep := (x : HostIf); clear keep) | clear_value x)
    | with_reducible apply Kept.ite
    | with_reducible apply State.wr_kept
    | with_reducible apply State.wrB_kept
    | with_reducible apply State.setDev_kept
    | with_reducible apply State.settleAvail_kept
    | with_reducible apply State.setActive_kept
    | with_reducible apply State.reachReady_kept
    | with_reducible apply State.answerOffers_kept
    | with_reducible apply State.applyMap_kept
    | with_reducible apply State.applyIdentity_kept
    | with_reducible apply State.enablePorts_kept
    | with_reducible apply State.clearedMemories_kept
    | with_reducible refine Kept.foldl ?_ (fun s x h => ?_)
    | split

theorem State.reset_canonical : State.reset.Canonical := ⟨rfl, rfl, rfl, rfl, rfl, rfl, rfl, rfl⟩

theorem State.powerOff_kept {orig s : State} (h : Kept orig s) : Kept orig s.powerOff := by
  have k := State.ledgerCut_kept h
  exact ⟨k.pending, k.fresh, k.out, k.floor, fun _ => { State.reset_canonical with }⟩

theorem State.pwrokFall_kept {orig s : State} (h : Kept orig s) (ns : Nat) : Kept orig (State.pwrokFall s ns) := by
  unfold State.pwrokFall
  repeat any_goals first
    | with_reducible assumption
    | intro s x h
    | with_reducible apply Kept.ite
    | with_reducible apply State.skip_kept
    | with_reducible apply State.powerOff_kept
    | split

theorem State.pwrokRise_kept {orig s : State} (h : Kept orig s) (bootSrc : Nat) (roleSel : Nat) : Kept orig (State.pwrokRise s bootSrc roleSel) := by
  unfold State.pwrokRise
  repeat any_goals first
    | with_reducible assumption
    | intro s x h
    | with_reducible apply Kept.ite
    | with_reducible apply State.wr_kept
    | with_reducible apply State.setPower_kept
    | split

theorem State.killBench_kept {orig s : State} (h : Kept orig s) (pb : Nat) : Kept orig (State.killBench s pb) := by
  unfold State.killBench
  repeat any_goals first
    | with_reducible assumption
    | intro s x h
    | (extract_lets +onlyGivenNames x; refine Kept.of (a := orig) (x := x) ?_ ?_; rotate_left; (intro hx; clear_value x); rotate_right; subst x)
    | (extract_lets +onlyGivenNames x; first | (have keep := (x : Hbm); clear keep) | (have keep := (x : Mgmt); clear keep) | (have keep := (x : Seal); clear keep) | (have keep := (x : HostIf); clear keep) | clear_value x)
    | with_reducible apply State.onBench_kept
    | with_reducible apply State.benchHwFailure_kept
    | fail_if_no_progress (with_reducible refine Kept.frame ?_ (by rfl) (by rfl) (by rfl) (by rfl) (by rfl) (by rfl) (by first | exact Nat.le_refl _ | exact Nat.le_add_right _ _ | with_unfolding_all exact Nat.le_add_right _ _) (by rfl) (by rfl) (by rfl) (by first | exact fun y => y | (with_unfolding_all exact fun y => Mem.wf_writeLE _ _ _ _ y) | (with_unfolding_all exact fun y => Mem.wf_writeByte _ _ _ y) | (with_unfolding_all exact fun y => Mem.wf_clearRange _ _ _ y) | (with_unfolding_all exact fun _ => rfl)) (by first | exact fun y => y | (with_unfolding_all exact fun y => Sparse.wf_set _ _ _ _ y) | (with_unfolding_all exact fun _ => rfl)))

theorem State.perstLow_kept {orig s : State} (h : Kept orig s) : Kept orig s.perstLow := by
  unfold State.perstLow
  extract_lets s1 s2 e1 e2 s3 s4
  have h1 : Kept orig s1 := Kept.foldl (State.ledgerCut_kept h) (fun s x h => State.killBench_kept h x)
  have h2 : Kept orig s2 := Kept.foldl h1 (fun s x h => Kept.ite h (State.leaveLink_kept h ..))
  have h3 : Kept orig s3 := ⟨h2.pending, h2.fresh, h2.out, h2.floor, fun x => { h2.canonical x with views := rfl }⟩
  have h4 : Kept orig s4 := State.resetRegs_kept (State.wrB_kept (State.wr_kept h3 ..) ..) _
  exact Kept.ite h (Kept.ite (State.setPower_kept h _) (Kept.ite h (State.setPower_kept h4 _)))

theorem State.perstHigh_kept {orig s : State} (h : Kept orig s) : Kept orig s.perstHigh := by
  unfold State.perstHigh
  extract_lets s1 s2 e1 e2 e3 e4 s3 s4 s5 s6 s7
  have h2 : Kept orig s2 := Kept.foldl (State.resetRegs_kept h _) (fun s x h => State.rinse_kept h x)
  clear_value s2
  have h3 : Kept orig s3 := ⟨h2.pending, h2.fresh, h2.out, h2.floor, fun x => { h2.canonical x with tenants := rfl, owners := rfl }⟩
  clear_value s3
  have h5 : Kept orig s5 := State.wrB_kept (State.wr_kept (State.wrapInc_kept (State.wrB_kept h3 ..) _) ..) ..
  clear_value s5
  have h6 : Kept orig s6 := Kept.ite h5 (State.wr_kept h5 ..)
  clear_value s6
  have h7 : Kept orig s7 := Kept.foldl h6 (fun s x h => State.wrB_kept h ..)
  clear_value s7
  exact Kept.ite h (Kept.ite (State.setPower_kept h _)
    (State.startBoot_kept (State.setFills_kept (State.wrB_kept (State.wrB_kept h7 ..) ..) _) _))

theorem State.thermalTrip_kept {orig s : State} (h : Kept orig s) (sensor deg : Nat) : Kept orig (s.thermalTrip sensor deg) := by
  unfold State.thermalTrip
  extract_lets s1 s2 s3 s4 s5 e1 s6
  have h2 : Kept orig s2 := Kept.foldl (State.ledgerCut_kept (State.logAt_kept h ..)) (fun s x h => State.benchHwFailure_kept h x)
  have h3 : Kept orig s3 := Kept.foldl h2 (fun s x h => Kept.freshen (State.onBench_kept h ..) (Nat.le_add_right s.fresh 6))
  have h4 : Kept orig s4 := Kept.foldl (State.freeHbm_kept h3) (fun s x h => State.setBasin_kept (State.skip_kept h) ..)
  have h5 : Kept orig s5 := Kept.foldl h4 (fun s x h => Kept.ite h (State.leaveLink_kept h ..))
  have h6 : Kept orig s6 := ⟨h5.pending, h5.fresh, h5.out, h5.floor, fun x => { h5.canonical x with views := rfl }⟩
  exact Kept.ite h (State.fail_kept (State.wrB_kept h6 ..) _)

theorem State.tsyncSend_kept {orig s : State} (h : Kept orig s) : Kept orig (State.tsyncSend s) := by
  unfold State.tsyncSend
  repeat any_goals first
    | with_reducible assumption
    | intro s x h
    | (extract_lets +onlyGivenNames x; refine Kept.of (a := orig) (x := x) ?_ ?_; rotate_left; (intro hx; clear_value x); rotate_right; subst x)
    | (extract_lets +onlyGivenNames x; first | (have keep := (x : Hbm); clear keep) | (have keep := (x : Mgmt); clear keep) | (have keep := (x : Seal); clear keep) | (have keep := (x : HostIf); clear keep) | clear_value x)
    | with_reducible apply Kept.ite
    | with_reducible apply State.emit_kept
    | split

theorem State.showOffset_kept {orig s : State} (h : Kept orig s) (ps : Int) : Kept orig (State.showOffset s ps) := by
  unfold State.showOffset
  repeat any_goals first
    | with_reducible assumption
    | intro s x h
    | with_reducible apply Kept.ite
    | with_reducible apply State.wr_kept
    | with_reducible apply State.skip_kept
    | split

theorem State.countExchange_kept {orig s : State} (h : Kept orig s) (ps : Int) : Kept orig (State.countExchange s ps) := by
  unfold State.countExchange
  repeat any_goals first
    | with_reducible assumption
    | intro s x h
    | (extract_lets +onlyGivenNames x; refine Kept.of (a := orig) (x := x) ?_ ?_; rotate_left; (intro hx; clear_value x); rotate_right; subst x)
    | (extract_lets +onlyGivenNames x; first | (have keep := (x : Hbm); clear keep) | (have keep := (x : Mgmt); clear keep) | (have keep := (x : Seal); clear keep) | (have keep := (x : HostIf); clear keep) | clear_value x)
    | with_reducible apply Kept.ite
    | with_reducible apply State.wrB_kept
    | fail_if_no_progress (with_reducible refine Kept.frame ?_ (by rfl) (by rfl) (by rfl) (by rfl) (by rfl) (by rfl) (by first | exact Nat.le_refl _ | exact Nat.le_add_right _ _ | with_unfolding_all exact Nat.le_add_right _ _) (by rfl) (by rfl) (by rfl) (by first | exact fun y => y | (with_unfolding_all exact fun y => Mem.wf_writeLE _ _ _ _ y) | (with_unfolding_all exact fun y => Mem.wf_writeByte _ _ _ y) | (with_unfolding_all exact fun y => Mem.wf_clearRange _ _ _ y) | (with_unfolding_all exact fun _ => rfl)) (by first | exact fun y => y | (with_unfolding_all exact fun y => Sparse.wf_set _ _ _ _ y) | (with_unfolding_all exact fun _ => rfl)))
    | split

theorem State.stepTime_kept {orig s : State} (h : Kept orig s) (t : Nat) : Kept orig (State.stepTime s t) := by
  unfold State.stepTime
  repeat any_goals first
    | with_reducible assumption
    | intro s x h
    | fail_if_no_progress (with_reducible refine Kept.frame ?_ (by rfl) (by rfl) (by rfl) (by rfl) (by rfl) (by rfl) (by first | exact Nat.le_refl _ | exact Nat.le_add_right _ _ | with_unfolding_all exact Nat.le_add_right _ _) (by rfl) (by rfl) (by rfl) (by first | exact fun y => y | (with_unfolding_all exact fun y => Mem.wf_writeLE _ _ _ _ y) | (with_unfolding_all exact fun y => Mem.wf_writeByte _ _ _ y) | (with_unfolding_all exact fun y => Mem.wf_clearRange _ _ _ y) | (with_unfolding_all exact fun _ => rfl)) (by first | exact fun y => y | (with_unfolding_all exact fun y => Sparse.wf_set _ _ _ _ y) | (with_unfolding_all exact fun _ => rfl)))

theorem State.slewTo_kept {orig s : State} (h : Kept orig s) (ps : Int) : Kept orig (State.slewTo s ps) := by
  unfold State.slewTo
  repeat any_goals first
    | with_reducible assumption
    | intro s x h
    | (extract_lets +onlyGivenNames x; refine Kept.of (a := orig) (x := x) ?_ ?_; rotate_left; (intro hx; clear_value x); rotate_right; subst x)
    | (extract_lets +onlyGivenNames x; first | (have keep := (x : Hbm); clear keep) | (have keep := (x : Mgmt); clear keep) | (have keep := (x : Seal); clear keep) | (have keep := (x : HostIf); clear keep) | clear_value x)
    | with_reducible apply Kept.ite
    | with_reducible apply State.skip_kept
    | fail_if_no_progress (with_reducible refine Kept.frame ?_ (by rfl) (by rfl) (by rfl) (by rfl) (by rfl) (by rfl) (by first | exact Nat.le_refl _ | exact Nat.le_add_right _ _ | with_unfolding_all exact Nat.le_add_right _ _) (by rfl) (by rfl) (by rfl) (by first | exact fun y => y | (with_unfolding_all exact fun y => Mem.wf_writeLE _ _ _ _ y) | (with_unfolding_all exact fun y => Mem.wf_writeByte _ _ _ y) | (with_unfolding_all exact fun y => Mem.wf_clearRange _ _ _ y) | (with_unfolding_all exact fun _ => rfl)) (by first | exact fun y => y | (with_unfolding_all exact fun y => Sparse.wf_set _ _ _ _ y) | (with_unfolding_all exact fun _ => rfl)))
    | split

theorem State.tsyncReply_kept {orig s : State} (h : Kept orig s) (t1 : Nat) (t2 : Nat) (t3 : Nat) (t4 : Nat) : Kept orig (State.tsyncReply s t1 t2 t3 t4) := by
  unfold State.tsyncReply
  repeat any_goals first
    | with_reducible assumption
    | intro s x h
    | (extract_lets +onlyGivenNames x; refine Kept.of (a := orig) (x := x) ?_ ?_; rotate_left; (intro hx; clear_value x); rotate_right; subst x)
    | (extract_lets +onlyGivenNames x; first | (have keep := (x : Hbm); clear keep) | (have keep := (x : Mgmt); clear keep) | (have keep := (x : Seal); clear keep) | (have keep := (x : HostIf); clear keep) | clear_value x)
    | with_reducible apply Kept.ite
    | with_reducible apply State.showOffset_kept
    | with_reducible apply State.countExchange_kept
    | with_reducible apply State.stepTime_kept
    | with_reducible apply State.slewTo_kept
    | fail_if_no_progress (with_reducible refine Kept.frame ?_ (by rfl) (by rfl) (by rfl) (by rfl) (by rfl) (by rfl) (by first | exact Nat.le_refl _ | exact Nat.le_add_right _ _ | with_unfolding_all exact Nat.le_add_right _ _) (by rfl) (by rfl) (by rfl) (by first | exact fun y => y | (with_unfolding_all exact fun y => Mem.wf_writeLE _ _ _ _ y) | (with_unfolding_all exact fun y => Mem.wf_writeByte _ _ _ y) | (with_unfolding_all exact fun y => Mem.wf_clearRange _ _ _ y) | (with_unfolding_all exact fun _ => rfl)) (by first | exact fun y => y | (with_unfolding_all exact fun y => Sparse.wf_set _ _ _ _ y) | (with_unfolding_all exact fun _ => rfl)))
    | split

theorem State.loadTime_kept {orig s : State} (h : Kept orig s) : Kept orig (State.loadTime s) := by
  unfold State.loadTime
  repeat any_goals first
    | with_reducible assumption
    | intro s x h
    | (extract_lets +onlyGivenNames x; refine Kept.of (a := orig) (x := x) ?_ ?_; rotate_left; (intro hx; clear_value x); rotate_right; subst x)
    | (extract_lets +onlyGivenNames x; first | (have keep := (x : Hbm); clear keep) | (have keep := (x : Mgmt); clear keep) | (have keep := (x : Seal); clear keep) | (have keep := (x : HostIf); clear keep) | clear_value x)
    | with_reducible apply Kept.ite
    | with_reducible apply State.stepTime_kept
    | fail_if_no_progress (with_reducible refine Kept.frame ?_ (by rfl) (by rfl) (by rfl) (by rfl) (by rfl) (by rfl) (by first | exact Nat.le_refl _ | exact Nat.le_add_right _ _ | with_unfolding_all exact Nat.le_add_right _ _) (by rfl) (by rfl) (by rfl) (by first | exact fun y => y | (with_unfolding_all exact fun y => Mem.wf_writeLE _ _ _ _ y) | (with_unfolding_all exact fun y => Mem.wf_writeByte _ _ _ y) | (with_unfolding_all exact fun y => Mem.wf_clearRange _ _ _ y) | (with_unfolding_all exact fun _ => rfl)) (by first | exact fun y => y | (with_unfolding_all exact fun y => Sparse.wf_set _ _ _ _ y) | (with_unfolding_all exact fun _ => rfl)))
    | split

theorem State.ppsRise_kept {orig s : State} (h : Kept orig s) : Kept orig (State.ppsRise s) := by
  unfold State.ppsRise
  repeat any_goals first
    | with_reducible assumption
    | intro s x h
    | (extract_lets +onlyGivenNames x; refine Kept.of (a := orig) (x := x) ?_ ?_; rotate_left; (intro hx; clear_value x); rotate_right; subst x)
    | (extract_lets +onlyGivenNames x; first | (have keep := (x : Hbm); clear keep) | (have keep := (x : Mgmt); clear keep) | (have keep := (x : Seal); clear keep) | (have keep := (x : HostIf); clear keep) | clear_value x)
    | with_reducible apply Kept.ite
    | with_reducible apply State.setReg_kept
    | with_reducible apply State.wr_kept
    | with_reducible apply State.wrB_kept
    | with_reducible apply State.skip_kept
    | with_reducible apply State.loadTime_kept
    | fail_if_no_progress (with_reducible refine Kept.frame ?_ (by rfl) (by rfl) (by rfl) (by rfl) (by rfl) (by rfl) (by first | exact Nat.le_refl _ | exact Nat.le_add_right _ _ | with_unfolding_all exact Nat.le_add_right _ _) (by rfl) (by rfl) (by rfl) (by first | exact fun y => y | (with_unfolding_all exact fun y => Mem.wf_writeLE _ _ _ _ y) | (with_unfolding_all exact fun y => Mem.wf_writeByte _ _ _ y) | (with_unfolding_all exact fun y => Mem.wf_clearRange _ _ _ y) | (with_unfolding_all exact fun _ => rfl)) (by first | exact fun y => y | (with_unfolding_all exact fun y => Sparse.wf_set _ _ _ _ y) | (with_unfolding_all exact fun _ => rfl)))
    | split

theorem State.setTime_kept {orig s : State} (h : Kept orig s) : Kept orig (State.setTime s) := by
  unfold State.setTime
  repeat any_goals first
    | with_reducible assumption
    | intro s x h
    | with_reducible apply Kept.ite
    | with_reducible apply State.loadTime_kept
    | fail_if_no_progress (with_reducible refine Kept.frame ?_ (by rfl) (by rfl) (by rfl) (by rfl) (by rfl) (by rfl) (by first | exact Nat.le_refl _ | exact Nat.le_add_right _ _ | with_unfolding_all exact Nat.le_add_right _ _) (by rfl) (by rfl) (by rfl) (by first | exact fun y => y | (with_unfolding_all exact fun y => Mem.wf_writeLE _ _ _ _ y) | (with_unfolding_all exact fun y => Mem.wf_writeByte _ _ _ y) | (with_unfolding_all exact fun y => Mem.wf_clearRange _ _ _ y) | (with_unfolding_all exact fun _ => rfl)) (by first | exact fun y => y | (with_unfolding_all exact fun y => Sparse.wf_set _ _ _ _ y) | (with_unfolding_all exact fun _ => rfl)))
    | split

theorem State.timeCtlWrite_kept {orig s : State} (h : Kept orig s) (data : Reg64) : Kept orig (State.timeCtlWrite s data) := by
  unfold State.timeCtlWrite
  repeat any_goals first
    | with_reducible assumption
    | intro s x h
    | (extract_lets +onlyGivenNames x; refine Kept.of (a := orig) (x := x) ?_ ?_; rotate_left; (intro hx; clear_value x); rotate_right; subst x)
    | (extract_lets +onlyGivenNames x; first | (have keep := (x : Hbm); clear keep) | (have keep := (x : Mgmt); clear keep) | (have keep := (x : Seal); clear keep) | (have keep := (x : HostIf); clear keep) | clear_value x)
    | with_reducible apply Kept.ite
    | with_reducible apply State.wr_kept
    | with_reducible apply State.setTime_kept
    | split

theorem State.ppsLost_kept {orig s : State} (h : Kept orig s) : Kept orig (State.ppsLost s) := by
  unfold State.ppsLost
  repeat any_goals first
    | with_reducible assumption
    | intro s x h
    | (extract_lets +onlyGivenNames x; refine Kept.of (a := orig) (x := x) ?_ ?_; rotate_left; (intro hx; clear_value x); rotate_right; subst x)
    | (extract_lets +onlyGivenNames x; first | (have keep := (x : Hbm); clear keep) | (have keep := (x : Mgmt); clear keep) | (have keep := (x : Seal); clear keep) | (have keep := (x : HostIf); clear keep) | clear_value x)
    | with_reducible apply Kept.ite
    | with_reducible apply State.wrB_kept
    | with_reducible apply State.loadTime_kept
    | split

theorem State.secondPulse_kept {orig s : State} (h : Kept orig s) : Kept orig (State.secondPulse s) := by
  unfold State.secondPulse
  repeat any_goals first
    | with_reducible assumption
    | intro s x h
    | with_reducible apply Kept.ite
    | with_reducible apply State.emit_kept
    | split

end Sys2Proof.Machine
end

