-- ==== Sys2Proof/Laws/KeptAccess.lean ====
section
/-! SUPPORT. What every operation keeps (Laws/Kept.lean): the Hall, the Spoil log, the host interface and register accesses. One lemma per operation. -/

set_option linter.all false
set_option linter.unusedVariables false

namespace Sys2Proof.Machine

theorem State.tblCmd_kept {orig s : State} (h : Kept orig s) (data : Reg64) : Kept orig (State.tblCmd s data) := by
  unfold State.tblCmd
  dsimp only
  repeat any_goals first
    | with_reducible assumption
    | intro s x h
    | with_reducible apply Kept.ite
    | with_reducible apply State.setReg_kept
    | with_reducible apply State.wr_kept
    | with_reducible apply State.wrB_kept
    | with_reducible apply State.soft_kept
    | with_reducible apply State.setRouteEnt_kept
    | fail_if_no_progress (with_reducible refine Kept.frame ?_ (by rfl) (by rfl) (by rfl) (by rfl) (by rfl) (by rfl) (by first | exact Nat.le_refl _ | exact Nat.le_add_right _ _ | with_unfolding_all exact Nat.le_add_right _ _) (by rfl) (by rfl) (by rfl) (by first | exact fun y => y | (with_unfolding_all exact fun y => Mem.wf_writeLE _ _ _ _ y) | (with_unfolding_all exact fun y => Mem.wf_writeByte _ _ _ y) | (with_unfolding_all exact fun y => Mem.wf_clearRange _ _ _ y) | (with_unfolding_all exact fun _ => rfl)) (by first | exact fun y => y | (with_unfolding_all exact fun y => Sparse.wf_set _ _ _ _ y) | (with_unfolding_all exact fun _ => rfl)))
    | split

theorem State.setTrib_kept {orig s : State} (h : Kept orig s) (i : Nat) (t : Trib) : Kept orig (State.setTrib s i t) := by
  unfold State.setTrib
  repeat any_goals first
    | with_reducible assumption
    | intro s x h
    | fail_if_no_progress (with_reducible refine Kept.frame ?_ (by rfl) (by rfl) (by rfl) (by rfl) (by rfl) (by rfl) (by first | exact Nat.le_refl _ | exact Nat.le_add_right _ _ | with_unfolding_all exact Nat.le_add_right _ _) (by rfl) (by rfl) (by rfl) (by first | exact fun y => y | (with_unfolding_all exact fun y => Mem.wf_writeLE _ _ _ _ y) | (with_unfolding_all exact fun y => Mem.wf_writeByte _ _ _ y) | (with_unfolding_all exact fun y => Mem.wf_clearRange _ _ _ y) | (with_unfolding_all exact fun _ => rfl)) (by first | exact fun y => y | (with_unfolding_all exact fun y => Sparse.wf_set _ _ _ _ y) | (with_unfolding_all exact fun _ => rfl)))

theorem State.heartbeat_kept {orig s : State} (h : Kept orig s) : Kept orig (State.heartbeat s) := by
  unfold State.heartbeat
  repeat any_goals first
    | with_reducible assumption
    | intro s x h
    | with_reducible apply Kept.ite
    | with_reducible apply State.emit_kept
    | split

theorem State.takeBeat_kept {orig s : State} (h : Kept orig s) (i : Nat) (hb : Heartbeat) : Kept orig (State.takeBeat s i hb) := by
  unfold State.takeBeat
  repeat any_goals first
    | with_reducible assumption
    | intro s x h
    | (extract_lets +onlyGivenNames x; refine Kept.of (a := orig) (x := x) ?_ ?_; rotate_left; (intro hx; clear_value x); rotate_right; subst x)
    | (extract_lets +onlyGivenNames x; first | (have keep := (x : Hbm); clear keep) | (have keep := (x : Mgmt); clear keep) | (have keep := (x : Seal); clear keep) | (have keep := (x : HostIf); clear keep) | clear_value x)
    | with_reducible apply Kept.ite
    | with_reducible apply State.mgmtEvent_kept
    | with_reducible apply State.setTrib_kept
    | fail_if_no_progress (with_reducible refine Kept.frame ?_ (by rfl) (by rfl) (by rfl) (by rfl) (by rfl) (by rfl) (by first | exact Nat.le_refl _ | exact Nat.le_add_right _ _ | with_unfolding_all exact Nat.le_add_right _ _) (by rfl) (by rfl) (by rfl) (by first | exact fun y => y | (with_unfolding_all exact fun y => Mem.wf_writeLE _ _ _ _ y) | (with_unfolding_all exact fun y => Mem.wf_writeByte _ _ _ y) | (with_unfolding_all exact fun y => Mem.wf_clearRange _ _ _ y) | (with_unfolding_all exact fun _ => rfl)) (by first | exact fun y => y | (with_unfolding_all exact fun y => Sparse.wf_set _ _ _ _ y) | (with_unfolding_all exact fun _ => rfl)))
    | split

theorem State.heartbeatIn_kept {orig s : State} (h : Kept orig s) (hb : Heartbeat) : Kept orig (State.heartbeatIn s hb) := by
  unfold State.heartbeatIn
  repeat any_goals first
    | with_reducible assumption
    | intro s x h
    | (extract_lets +onlyGivenNames x; refine Kept.of (a := orig) (x := x) ?_ ?_; rotate_left; (intro hx; clear_value x); rotate_right; subst x)
    | (extract_lets +onlyGivenNames x; refine Kept.of (a := orig) (x := x.1) ?_ ?_; rotate_left; (intro hx; clear_value x); rotate_right; subst x)
    | (extract_lets +onlyGivenNames x; refine Kept.of (a := orig) (x := x.2) ?_ ?_; rotate_left; (intro hx; clear_value x); rotate_right; subst x)
    | (extract_lets +onlyGivenNames x; first | (have keep := (x : Hbm); clear keep) | (have keep := (x : Mgmt); clear keep) | (have keep := (x : Seal); clear keep) | (have keep := (x : HostIf); clear keep) | clear_value x)
    | with_reducible apply Kept.ite
    | with_reducible apply State.skip_kept
    | with_reducible apply State.staleDrop_kept
    | with_reducible apply State.takeBeat_kept
    | fail_if_no_progress (with_reducible refine Kept.frame ?_ (by rfl) (by rfl) (by rfl) (by rfl) (by rfl) (by rfl) (by first | exact Nat.le_refl _ | exact Nat.le_add_right _ _ | with_unfolding_all exact Nat.le_add_right _ _) (by rfl) (by rfl) (by rfl) (by first | exact fun y => y | (with_unfolding_all exact fun y => Mem.wf_writeLE _ _ _ _ y) | (with_unfolding_all exact fun y => Mem.wf_writeByte _ _ _ y) | (with_unfolding_all exact fun y => Mem.wf_clearRange _ _ _ y) | (with_unfolding_all exact fun _ => rfl)) (by first | exact fun y => y | (with_unfolding_all exact fun y => Sparse.wf_set _ _ _ _ y) | (with_unfolding_all exact fun _ => rfl)))
    | split

theorem State.endJobs_kept {orig s : State} (h : Kept orig s) (p : Nat → Bool) : Kept orig (State.endJobs s p) := by
  unfold State.endJobs
  repeat any_goals first
    | with_reducible assumption
    | intro s x h
    | with_reducible apply State.endJob_kept
    | with_reducible refine Kept.foldl ?_ (fun s x h => ?_)

theorem State.markTrib_kept {orig s : State} (h : Kept orig s) (slot : Nat) : Kept orig (State.markTrib s slot) := by
  unfold State.markTrib
  repeat any_goals first
    | with_reducible assumption
    | intro s x h
    | with_reducible apply State.setTrib_kept
    | fail_if_no_progress (with_reducible refine Kept.frame ?_ (by rfl) (by rfl) (by rfl) (by rfl) (by rfl) (by rfl) (by first | exact Nat.le_refl _ | exact Nat.le_add_right _ _ | with_unfolding_all exact Nat.le_add_right _ _) (by rfl) (by rfl) (by rfl) (by first | exact fun y => y | (with_unfolding_all exact fun y => Mem.wf_writeLE _ _ _ _ y) | (with_unfolding_all exact fun y => Mem.wf_writeByte _ _ _ y) | (with_unfolding_all exact fun y => Mem.wf_clearRange _ _ _ y) | (with_unfolding_all exact fun _ => rfl)) (by first | exact fun y => y | (with_unfolding_all exact fun y => Sparse.wf_set _ _ _ _ y) | (with_unfolding_all exact fun _ => rfl)))
    | split

theorem State.vacate_kept {orig s : State} (h : Kept orig s) (slot : Nat) : Kept orig (State.vacate s slot) := by
  unfold State.vacate
  repeat any_goals first
    | with_reducible assumption
    | intro s x h
    | (extract_lets +onlyGivenNames x; refine Kept.of (a := orig) (x := x) ?_ ?_; rotate_left; (intro hx; clear_value x); rotate_right; subst x)
    | (extract_lets +onlyGivenNames x; refine Kept.of (a := orig) (x := x.2) ?_ ?_; rotate_left; (intro hx; clear_value x); rotate_right; subst x)
    | (extract_lets +onlyGivenNames x; first | (have keep := (x : Hbm); clear keep) | (have keep := (x : Mgmt); clear keep) | (have keep := (x : Seal); clear keep) | (have keep := (x : HostIf); clear keep) | clear_value x)
    | with_reducible apply Kept.ite
    | with_reducible apply State.setGen_kept
    | split

theorem State.applyFence_kept {orig s : State} (h : Kept orig s) (slot : Nat) (gen : Nat) (spare : Nat) (index : Nat) : Kept orig (State.applyFence s slot gen spare index) := by
  unfold State.applyFence
  repeat any_goals first
    | with_reducible assumption
    | intro s x h
    | (extract_lets +onlyGivenNames x; refine Kept.of (a := orig) (x := x) ?_ ?_; rotate_left; (intro hx; clear_value x); rotate_right; subst x)
    | (extract_lets +onlyGivenNames x; first | (have keep := (x : Hbm); clear keep) | (have keep := (x : Mgmt); clear keep) | (have keep := (x : Seal); clear keep) | (have keep := (x : HostIf); clear keep) | clear_value x)
    | with_reducible apply State.wr_kept
    | with_reducible apply State.wrapInc_kept
    | with_reducible apply State.setGen_kept
    | with_reducible apply State.setRouteEnt_kept
    | with_reducible apply State.vacate_kept
    | fail_if_no_progress (with_reducible refine Kept.frame ?_ (by rfl) (by rfl) (by rfl) (by rfl) (by rfl) (by rfl) (by first | exact Nat.le_refl _ | exact Nat.le_add_right _ _ | with_unfolding_all exact Nat.le_add_right _ _) (by rfl) (by rfl) (by rfl) (by first | exact fun y => y | (with_unfolding_all exact fun y => Mem.wf_writeLE _ _ _ _ y) | (with_unfolding_all exact fun y => Mem.wf_writeByte _ _ _ y) | (with_unfolding_all exact fun y => Mem.wf_clearRange _ _ _ y) | (with_unfolding_all exact fun _ => rfl)) (by first | exact fun y => y | (with_unfolding_all exact fun y => Sparse.wf_set _ _ _ _ y) | (with_unfolding_all exact fun _ => rfl)))
    | split

theorem State.quarantine_kept {orig s : State} (h : Kept orig s) : Kept orig (State.quarantine s) := by
  unfold State.quarantine
  repeat any_goals first
    | with_reducible assumption
    | intro s x h
    | (extract_lets +onlyGivenNames x; refine Kept.of (a := orig) (x := x) ?_ ?_; rotate_left; (intro hx; clear_value x); rotate_right; subst x)
    | (extract_lets +onlyGivenNames x; first | (have keep := (x : Hbm); clear keep) | (have keep := (x : Mgmt); clear keep) | (have keep := (x : Seal); clear keep) | (have keep := (x : HostIf); clear keep) | clear_value x)
    | with_reducible apply Kept.ite
    | with_reducible apply State.wr_kept
    | with_reducible apply State.setDev_kept
    | with_reducible apply State.stopBench_kept
    | with_reducible apply State.rinse_kept
    | with_reducible apply State.addFill_kept
    | with_reducible apply State.endJob_kept
    | with_reducible apply State.releaseKept_kept
    | with_reducible refine Kept.foldl ?_ (fun s x h => ?_)
    | fail_if_no_progress (with_reducible refine Kept.frame ?_ (by rfl) (by rfl) (by rfl) (by rfl) (by rfl) (by rfl) (by first | exact Nat.le_refl _ | exact Nat.le_add_right _ _ | with_unfolding_all exact Nat.le_add_right _ _) (by rfl) (by rfl) (by rfl) (by first | exact fun y => y | (with_unfolding_all exact fun y => Mem.wf_writeLE _ _ _ _ y) | (with_unfolding_all exact fun y => Mem.wf_writeByte _ _ _ y) | (with_unfolding_all exact fun y => Mem.wf_clearRange _ _ _ y) | (with_unfolding_all exact fun _ => rfl)) (by first | exact fun y => y | (with_unfolding_all exact fun y => Sparse.wf_set _ _ _ _ y) | (with_unfolding_all exact fun _ => rfl)))
    | split

theorem State.serveFence_kept {orig : State} (n : Nat) : ∀ {s : State}, Kept orig s → Kept orig (s.serveFence n) := by
  induction n with
  | zero => intro s h; exact h
  | succ n ih =>
    intro s h
    unfold State.serveFence
    repeat any_goals first
      | with_reducible assumption
      | (extract_lets +onlyGivenNames x; refine Kept.of (a := orig) (x := x) ?_ ?_; rotate_left; (intro hx; clear_value x); rotate_right; subst x)
      | (extract_lets +onlyGivenNames x; clear_value x)
      | with_reducible apply Kept.ite
      | with_reducible apply ih
      | with_reducible apply State.setGen_kept
      | with_reducible apply State.logAt_kept
      | with_reducible apply State.emit_kept
      | with_reducible apply State.skip_kept
      | with_reducible apply State.applyFence_kept
      | fail_if_no_progress (refine Kept.frame ?_ rfl rfl rfl rfl rfl rfl (Nat.le_refl _) rfl rfl rfl (fun y => y) (fun y => y))
      | split

theorem State.fenceAsked_kept {orig s : State} (h : Kept orig s) (slot : Nat) : Kept orig (State.fenceAsked s slot) := by
  unfold State.fenceAsked
  repeat any_goals first
    | with_reducible assumption
    | intro s x h
    | with_reducible apply Kept.ite
    | with_reducible refine State.serveFence_kept _ ?_
    | fail_if_no_progress (with_reducible refine Kept.frame ?_ (by rfl) (by rfl) (by rfl) (by rfl) (by rfl) (by rfl) (by first | exact Nat.le_refl _ | exact Nat.le_add_right _ _ | with_unfolding_all exact Nat.le_add_right _ _) (by rfl) (by rfl) (by rfl) (by first | exact fun y => y | (with_unfolding_all exact fun y => Mem.wf_writeLE _ _ _ _ y) | (with_unfolding_all exact fun y => Mem.wf_writeByte _ _ _ y) | (with_unfolding_all exact fun y => Mem.wf_clearRange _ _ _ y) | (with_unfolding_all exact fun _ => rfl)) (by first | exact fun y => y | (with_unfolding_all exact fun y => Sparse.wf_set _ _ _ _ y) | (with_unfolding_all exact fun _ => rfl)))
    | split

theorem State.declareDead_kept {orig s : State} (h : Kept orig s) (slot : Nat) : Kept orig (State.declareDead s slot) := by
  unfold State.declareDead
  repeat any_goals first
    | with_reducible assumption
    | intro s x h
    | (extract_lets +onlyGivenNames x; refine Kept.of (a := orig) (x := x) ?_ ?_; rotate_left; (intro hx; clear_value x); rotate_right; subst x)
    | (extract_lets +onlyGivenNames x; refine Kept.of (a := orig) (x := x.2) ?_ ?_; rotate_left; (intro hx; clear_value x); rotate_right; subst x)
    | (extract_lets +onlyGivenNames x; first | (have keep := (x : Hbm); clear keep) | (have keep := (x : Mgmt); clear keep) | (have keep := (x : Seal); clear keep) | (have keep := (x : HostIf); clear keep) | clear_value x)
    | with_reducible apply Kept.ite
    | with_reducible apply State.emit_kept
    | with_reducible apply State.wr_kept
    | with_reducible apply State.wrB_kept
    | with_reducible apply State.mgmtEvent_kept
    | with_reducible apply State.setGen_kept
    | with_reducible apply State.endJobs_kept
    | with_reducible apply State.markTrib_kept
    | with_reducible apply State.fenceAsked_kept
    | split

theorem State.tickTrib_kept {orig s : State} (h : Kept orig s) (i : Nat) : Kept orig (State.tickTrib s i) := by
  unfold State.tickTrib
  repeat any_goals first
    | with_reducible assumption
    | intro s x h
    | (extract_lets +onlyGivenNames x; refine Kept.of (a := orig) (x := x) ?_ ?_; rotate_left; (intro hx; clear_value x); rotate_right; subst x)
    | (extract_lets +onlyGivenNames x; first | (have keep := (x : Hbm); clear keep) | (have keep := (x : Mgmt); clear keep) | (have keep := (x : Seal); clear keep) | (have keep := (x : HostIf); clear keep) | clear_value x)
    | with_reducible apply Kept.ite
    | with_reducible apply State.setTrib_kept
    | with_reducible apply State.declareDead_kept
    | fail_if_no_progress (with_reducible refine Kept.frame ?_ (by rfl) (by rfl) (by rfl) (by rfl) (by rfl) (by rfl) (by first | exact Nat.le_refl _ | exact Nat.le_add_right _ _ | with_unfolding_all exact Nat.le_add_right _ _) (by rfl) (by rfl) (by rfl) (by first | exact fun y => y | (with_unfolding_all exact fun y => Mem.wf_writeLE _ _ _ _ y) | (with_unfolding_all exact fun y => Mem.wf_writeByte _ _ _ y) | (with_unfolding_all exact fun y => Mem.wf_clearRange _ _ _ y) | (with_unfolding_all exact fun _ => rfl)) (by first | exact fun y => y | (with_unfolding_all exact fun y => Sparse.wf_set _ _ _ _ y) | (with_unfolding_all exact fun _ => rfl)))
    | split

theorem State.heartbeatTick_kept {orig s : State} (h : Kept orig s) : Kept orig (State.heartbeatTick s) := by
  unfold State.heartbeatTick
  repeat any_goals first
    | with_reducible assumption
    | intro s x h
    | with_reducible apply State.tickTrib_kept
    | with_reducible refine Kept.foldl ?_ (fun s x h => ?_)

theorem State.fenceNotice_kept {orig s : State} (h : Kept orig s) (n : FenceNotice) : Kept orig (State.fenceNotice s n) := by
  unfold State.fenceNotice
  repeat any_goals first
    | with_reducible assumption
    | intro s x h
    | (extract_lets +onlyGivenNames x; refine Kept.of (a := orig) (x := x) ?_ ?_; rotate_left; (intro hx; clear_value x); rotate_right; subst x)
    | (extract_lets +onlyGivenNames x; refine Kept.of (a := orig) (x := x.1) ?_ ?_; rotate_left; (intro hx; clear_value x); rotate_right; subst x)
    | (extract_lets +onlyGivenNames x; refine Kept.of (a := orig) (x := x.2) ?_ ?_; rotate_left; (intro hx; clear_value x); rotate_right; subst x)
    | (extract_lets +onlyGivenNames x; first | (have keep := (x : Hbm); clear keep) | (have keep := (x : Mgmt); clear keep) | (have keep := (x : Seal); clear keep) | (have keep := (x : HostIf); clear keep) | clear_value x)
    | with_reducible apply Kept.ite
    | with_reducible apply State.emit_kept
    | with_reducible apply State.applyFence_kept
    | with_reducible apply State.quarantine_kept
    | fail_if_no_progress (with_reducible refine Kept.frame ?_ (by rfl) (by rfl) (by rfl) (by rfl) (by rfl) (by rfl) (by first | exact Nat.le_refl _ | exact Nat.le_add_right _ _ | with_unfolding_all exact Nat.le_add_right _ _) (by rfl) (by rfl) (by rfl) (by first | exact fun y => y | (with_unfolding_all exact fun y => Mem.wf_writeLE _ _ _ _ y) | (with_unfolding_all exact fun y => Mem.wf_writeByte _ _ _ y) | (with_unfolding_all exact fun y => Mem.wf_clearRange _ _ _ y) | (with_unfolding_all exact fun _ => rfl)) (by first | exact fun y => y | (with_unfolding_all exact fun y => Sparse.wf_set _ _ _ _ y) | (with_unfolding_all exact fun _ => rfl)))
    | split

theorem State.fenceAcked_kept {orig s : State} (h : Kept orig s) : Kept orig (State.fenceAcked s) := by
  unfold State.fenceAcked
  repeat any_goals first
    | with_reducible assumption
    | intro s x h
    | (extract_lets +onlyGivenNames x; refine Kept.of (a := orig) (x := x) ?_ ?_; rotate_left; (intro hx; clear_value x); rotate_right; subst x)
    | (extract_lets +onlyGivenNames x; refine Kept.of (a := orig) (x := x.2) ?_ ?_; rotate_left; (intro hx; clear_value x); rotate_right; subst x)
    | (extract_lets +onlyGivenNames x; first | (have keep := (x : Hbm); clear keep) | (have keep := (x : Mgmt); clear keep) | (have keep := (x : Seal); clear keep) | (have keep := (x : HostIf); clear keep) | clear_value x)
    | with_reducible apply Kept.ite
    | with_reducible apply State.emit_kept
    | with_reducible apply State.mgmtEvent_kept
    | with_reducible refine State.serveFence_kept _ ?_
    | fail_if_no_progress (with_reducible refine Kept.frame ?_ (by rfl) (by rfl) (by rfl) (by rfl) (by rfl) (by rfl) (by first | exact Nat.le_refl _ | exact Nat.le_add_right _ _ | with_unfolding_all exact Nat.le_add_right _ _) (by rfl) (by rfl) (by rfl) (by first | exact fun y => y | (with_unfolding_all exact fun y => Mem.wf_writeLE _ _ _ _ y) | (with_unfolding_all exact fun y => Mem.wf_writeByte _ _ _ y) | (with_unfolding_all exact fun y => Mem.wf_clearRange _ _ _ y) | (with_unfolding_all exact fun _ => rfl)) (by first | exact fun y => y | (with_unfolding_all exact fun y => Sparse.wf_set _ _ _ _ y) | (with_unfolding_all exact fun _ => rfl)))
    | split

theorem State.freshTribs_kept {orig s : State} (h : Kept orig s) : Kept orig (State.freshTribs s) := by
  unfold State.freshTribs
  repeat any_goals first
    | with_reducible assumption
    | intro s x h
    | with_reducible apply State.setTrib_kept
    | with_reducible refine Kept.foldl ?_ (fun s x h => ?_)
    | fail_if_no_progress (with_reducible refine Kept.frame ?_ (by rfl) (by rfl) (by rfl) (by rfl) (by rfl) (by rfl) (by first | exact Nat.le_refl _ | exact Nat.le_add_right _ _ | with_unfolding_all exact Nat.le_add_right _ _) (by rfl) (by rfl) (by rfl) (by first | exact fun y => y | (with_unfolding_all exact fun y => Mem.wf_writeLE _ _ _ _ y) | (with_unfolding_all exact fun y => Mem.wf_writeByte _ _ _ y) | (with_unfolding_all exact fun y => Mem.wf_clearRange _ _ _ y) | (with_unfolding_all exact fun _ => rfl)) (by first | exact fun y => y | (with_unfolding_all exact fun y => Sparse.wf_set _ _ _ _ y) | (with_unfolding_all exact fun _ => rfl)))

theorem State.takeSlot_kept {orig s : State} (h : Kept orig s) (slot : Nat) (gen : Nat) (role : Nat) (st : Nat) : Kept orig (State.takeSlot s slot gen role st) := by
  unfold State.takeSlot
  repeat any_goals first
    | with_reducible assumption
    | intro s x h
    | (extract_lets +onlyGivenNames x; refine Kept.of (a := orig) (x := x) ?_ ?_; rotate_left; (intro hx; clear_value x); rotate_right; subst x)
    | (extract_lets +onlyGivenNames x; first | (have keep := (x : Hbm); clear keep) | (have keep := (x : Mgmt); clear keep) | (have keep := (x : Seal); clear keep) | (have keep := (x : HostIf); clear keep) | clear_value x)
    | with_reducible apply State.wr_kept
    | with_reducible apply State.wrB_kept
    | with_reducible apply State.onLedger_kept
    | fail_if_no_progress (with_reducible refine Kept.frame ?_ (by rfl) (by rfl) (by rfl) (by rfl) (by rfl) (by rfl) (by first | exact Nat.le_refl _ | exact Nat.le_add_right _ _ | with_unfolding_all exact Nat.le_add_right _ _) (by rfl) (by rfl) (by rfl) (by first | exact fun y => y | (with_unfolding_all exact fun y => Mem.wf_writeLE _ _ _ _ y) | (with_unfolding_all exact fun y => Mem.wf_writeByte _ _ _ y) | (with_unfolding_all exact fun y => Mem.wf_clearRange _ _ _ y) | (with_unfolding_all exact fun _ => rfl)) (by first | exact fun y => y | (with_unfolding_all exact fun y => Sparse.wf_set _ _ _ _ y) | (with_unfolding_all exact fun _ => rfl)))

theorem State.admitted_kept {orig s : State} (h : Kept orig s) (slot : Nat) (gen : Nat) (role : Nat) : Kept orig (State.admitted s slot gen role) := by
  unfold State.admitted
  repeat any_goals first
    | with_reducible assumption
    | intro s x h
    | with_reducible apply Kept.ite
    | with_reducible apply State.setGen_kept
    | with_reducible apply State.freshTribs_kept
    | with_reducible apply State.takeSlot_kept
    | split

theorem State.spareNotice_kept {orig s : State} (h : Kept orig s) (slot : Nat) (gen : Nat) : Kept orig (State.spareNotice s slot gen) := by
  unfold State.spareNotice
  repeat any_goals first
    | with_reducible assumption
    | intro s x h
    | (extract_lets +onlyGivenNames x; refine Kept.of (a := orig) (x := x) ?_ ?_; rotate_left; (intro hx; clear_value x); rotate_right; subst x)
    | (extract_lets +onlyGivenNames x; first | (have keep := (x : Hbm); clear keep) | (have keep := (x : Mgmt); clear keep) | (have keep := (x : Seal); clear keep) | (have keep := (x : HostIf); clear keep) | clear_value x)
    | with_reducible apply Kept.ite
    | with_reducible apply State.setGen_kept
    | with_reducible apply State.reachReady_kept
    | with_reducible apply State.takeSlot_kept
    | fail_if_no_progress (with_reducible refine Kept.frame ?_ (by rfl) (by rfl) (by rfl) (by rfl) (by rfl) (by rfl) (by first | exact Nat.le_refl _ | exact Nat.le_add_right _ _ | with_unfolding_all exact Nat.le_add_right _ _) (by rfl) (by rfl) (by rfl) (by first | exact fun y => y | (with_unfolding_all exact fun y => Mem.wf_writeLE _ _ _ _ y) | (with_unfolding_all exact fun y => Mem.wf_writeByte _ _ _ y) | (with_unfolding_all exact fun y => Mem.wf_clearRange _ _ _ y) | (with_unfolding_all exact fun _ => rfl)) (by first | exact fun y => y | (with_unfolding_all exact fun y => Sparse.wf_set _ _ _ _ y) | (with_unfolding_all exact fun _ => rfl)))
    | split

theorem State.tribTable_kept {orig s : State} (h : Kept orig s) (slots : List (Option Nat)) : Kept orig (State.tribTable s slots) := by
  unfold State.tribTable
  repeat any_goals first
    | with_reducible assumption
    | intro s x h
    | with_reducible apply Kept.ite
    | with_reducible apply State.setTrib_kept
    | with_reducible refine Kept.foldl ?_ (fun s x h => ?_)
    | fail_if_no_progress (with_reducible refine Kept.frame ?_ (by rfl) (by rfl) (by rfl) (by rfl) (by rfl) (by rfl) (by first | exact Nat.le_refl _ | exact Nat.le_add_right _ _ | with_unfolding_all exact Nat.le_add_right _ _) (by rfl) (by rfl) (by rfl) (by first | exact fun y => y | (with_unfolding_all exact fun y => Mem.wf_writeLE _ _ _ _ y) | (with_unfolding_all exact fun y => Mem.wf_writeByte _ _ _ y) | (with_unfolding_all exact fun y => Mem.wf_clearRange _ _ _ y) | (with_unfolding_all exact fun _ => rfl)) (by first | exact fun y => y | (with_unfolding_all exact fun y => Sparse.wf_set _ _ _ _ y) | (with_unfolding_all exact fun _ => rfl)))
    | split

theorem State.cflCmd_kept {orig s : State} (h : Kept orig s) (data : Reg64) : Kept orig (State.cflCmd s data) := by
  unfold State.cflCmd
  repeat any_goals first
    | with_reducible assumption
    | intro s x h
    | (extract_lets +onlyGivenNames x; refine Kept.of (a := orig) (x := x) ?_ ?_; rotate_left; (intro hx; clear_value x); rotate_right; subst x)
    | (extract_lets +onlyGivenNames x; first | (have keep := (x : Hbm); clear keep) | (have keep := (x : Mgmt); clear keep) | (have keep := (x : Seal); clear keep) | (have keep := (x : HostIf); clear keep) | clear_value x)
    | with_reducible apply Kept.ite
    | with_reducible apply State.wrB_kept
    | with_reducible apply State.soft_kept
    | fail_if_no_progress (with_reducible refine Kept.frame ?_ (by rfl) (by rfl) (by rfl) (by rfl) (by rfl) (by rfl) (by first | exact Nat.le_refl _ | exact Nat.le_add_right _ _ | with_unfolding_all exact Nat.le_add_right _ _) (by rfl) (by rfl) (by rfl) (by first | exact fun y => y | (with_unfolding_all exact fun y => Mem.wf_writeLE _ _ _ _ y) | (with_unfolding_all exact fun y => Mem.wf_writeByte _ _ _ y) | (with_unfolding_all exact fun y => Mem.wf_clearRange _ _ _ y) | (with_unfolding_all exact fun _ => rfl)) (by first | exact fun y => y | (with_unfolding_all exact fun y => Sparse.wf_set _ _ _ _ y) | (with_unfolding_all exact fun _ => rfl)))
    | split

theorem State.cflCmdDone_kept {orig s : State} (h : Kept orig s) : Kept orig (State.cflCmdDone s) := by
  unfold State.cflCmdDone
  repeat any_goals first
    | with_reducible assumption
    | intro s x h
    | (extract_lets +onlyGivenNames x; refine Kept.of (a := orig) (x := x) ?_ ?_; rotate_left; (intro hx; clear_value x); rotate_right; subst x)
    | (extract_lets +onlyGivenNames x; first | (have keep := (x : Hbm); clear keep) | (have keep := (x : Mgmt); clear keep) | (have keep := (x : Seal); clear keep) | (have keep := (x : HostIf); clear keep) | clear_value x)
    | with_reducible apply Kept.ite
    | with_reducible apply State.setReg_kept
    | with_reducible apply State.wr_kept
    | with_reducible apply State.wrB_kept
    | with_reducible apply State.setCfl_kept
    | with_reducible refine Kept.foldl ?_ (fun s x h => ?_)
    | fail_if_no_progress (with_reducible refine Kept.frame ?_ (by rfl) (by rfl) (by rfl) (by rfl) (by rfl) (by rfl) (by first | exact Nat.le_refl _ | exact Nat.le_add_right _ _ | with_unfolding_all exact Nat.le_add_right _ _) (by rfl) (by rfl) (by rfl) (by first | exact fun y => y | (with_unfolding_all exact fun y => Mem.wf_writeLE _ _ _ _ y) | (with_unfolding_all exact fun y => Mem.wf_writeByte _ _ _ y) | (with_unfolding_all exact fun y => Mem.wf_clearRange _ _ _ y) | (with_unfolding_all exact fun _ => rfl)) (by first | exact fun y => y | (with_unfolding_all exact fun y => Sparse.wf_set _ _ _ _ y) | (with_unfolding_all exact fun _ => rfl)))
    | split

theorem State.snapStart_kept {orig s : State} (h : Kept orig s) : Kept orig (State.snapStart s) := by
  unfold State.snapStart
  repeat any_goals first
    | with_reducible assumption
    | intro s x h
    | (extract_lets +onlyGivenNames x; refine Kept.of (a := orig) (x := x) ?_ ?_; rotate_left; (intro hx; clear_value x); rotate_right; subst x)
    | (extract_lets +onlyGivenNames x; first | (have keep := (x : Hbm); clear keep) | (have keep := (x : Mgmt); clear keep) | (have keep := (x : Seal); clear keep) | (have keep := (x : HostIf); clear keep) | clear_value x)
    | with_reducible apply Kept.ite
    | with_reducible apply State.emit_kept
    | with_reducible apply State.wrB_kept
    | with_reducible apply State.wrapInc_kept
    | fail_if_no_progress (with_reducible refine Kept.frame ?_ (by rfl) (by rfl) (by rfl) (by rfl) (by rfl) (by rfl) (by first | exact Nat.le_refl _ | exact Nat.le_add_right _ _ | with_unfolding_all exact Nat.le_add_right _ _) (by rfl) (by rfl) (by rfl) (by first | exact fun y => y | (with_unfolding_all exact fun y => Mem.wf_writeLE _ _ _ _ y) | (with_unfolding_all exact fun y => Mem.wf_writeByte _ _ _ y) | (with_unfolding_all exact fun y => Mem.wf_clearRange _ _ _ y) | (with_unfolding_all exact fun _ => rfl)) (by first | exact fun y => y | (with_unfolding_all exact fun y => Sparse.wf_set _ _ _ _ y) | (with_unfolding_all exact fun _ => rfl)))
    | split

theorem State.snapWrite_kept {orig s : State} (h : Kept orig s) (data : Reg64) : Kept orig (State.snapWrite s data) := by
  unfold State.snapWrite
  repeat any_goals first
    | with_reducible assumption
    | intro s x h
    | (extract_lets +onlyGivenNames x; refine Kept.of (a := orig) (x := x) ?_ ?_; rotate_left; (intro hx; clear_value x); rotate_right; subst x)
    | (extract_lets +onlyGivenNames x; first | (have keep := (x : Hbm); clear keep) | (have keep := (x : Mgmt); clear keep) | (have keep := (x : Seal); clear keep) | (have keep := (x : HostIf); clear keep) | clear_value x)
    | with_reducible apply Kept.ite
    | with_reducible apply State.soft_kept
    | with_reducible apply State.snapStart_kept
    | split

theorem State.snapMarked_kept {orig s : State} (h : Kept orig s) (epoch : Nat) (cut : Nat) : Kept orig (State.snapMarked s epoch cut) := by
  unfold State.snapMarked
  repeat any_goals first
    | with_reducible assumption
    | intro s x h
    | (extract_lets +onlyGivenNames x; refine Kept.of (a := orig) (x := x) ?_ ?_; rotate_left; (intro hx; clear_value x); rotate_right; subst x)
    | (extract_lets +onlyGivenNames x; first | (have keep := (x : Hbm); clear keep) | (have keep := (x : Mgmt); clear keep) | (have keep := (x : Seal); clear keep) | (have keep := (x : HostIf); clear keep) | clear_value x)
    | with_reducible apply Kept.ite
    | with_reducible apply State.emit_kept
    | with_reducible apply State.wr_kept
    | with_reducible apply State.wrB_kept
    | fail_if_no_progress (with_reducible refine Kept.frame ?_ (by rfl) (by rfl) (by rfl) (by rfl) (by rfl) (by rfl) (by first | exact Nat.le_refl _ | exact Nat.le_add_right _ _ | with_unfolding_all exact Nat.le_add_right _ _) (by rfl) (by rfl) (by rfl) (by first | exact fun y => y | (with_unfolding_all exact fun y => Mem.wf_writeLE _ _ _ _ y) | (with_unfolding_all exact fun y => Mem.wf_writeByte _ _ _ y) | (with_unfolding_all exact fun y => Mem.wf_clearRange _ _ _ y) | (with_unfolding_all exact fun _ => rfl)) (by first | exact fun y => y | (with_unfolding_all exact fun y => Sparse.wf_set _ _ _ _ y) | (with_unfolding_all exact fun _ => rfl)))
    | split

theorem State.snapCutNow_kept {orig s : State} (h : Kept orig s) : Kept orig (State.snapCutNow s) := by
  unfold State.snapCutNow
  repeat any_goals first
    | with_reducible assumption
    | intro s x h
    | (extract_lets +onlyGivenNames x; refine Kept.of (a := orig) (x := x) ?_ ?_; rotate_left; (intro hx; clear_value x); rotate_right; subst x)
    | (extract_lets +onlyGivenNames x; first | (have keep := (x : Hbm); clear keep) | (have keep := (x : Mgmt); clear keep) | (have keep := (x : Seal); clear keep) | (have keep := (x : HostIf); clear keep) | clear_value x)
    | with_reducible apply Kept.ite
    | with_reducible apply State.emit_kept
    | with_reducible apply State.wr_kept
    | with_reducible apply State.wrB_kept
    | with_reducible apply State.mgmtEvent_kept
    | with_reducible refine Kept.foldl ?_ (fun s x h => ?_)
    | fail_if_no_progress (with_reducible refine Kept.frame ?_ (by rfl) (by rfl) (by rfl) (by rfl) (by rfl) (by rfl) (by first | exact Nat.le_refl _ | exact Nat.le_add_right _ _ | with_unfolding_all exact Nat.le_add_right _ _) (by rfl) (by rfl) (by rfl) (by first | exact fun y => y | (with_unfolding_all exact fun y => Mem.wf_writeLE _ _ _ _ y) | (with_unfolding_all exact fun y => Mem.wf_writeByte _ _ _ y) | (with_unfolding_all exact fun y => Mem.wf_clearRange _ _ _ y) | (with_unfolding_all exact fun _ => rfl)) (by first | exact fun y => y | (with_unfolding_all exact fun y => Sparse.wf_set _ _ _ _ y) | (with_unfolding_all exact fun _ => rfl)))
    | split

theorem State.snapReported_kept {orig s : State} (h : Kept orig s) (late : Bool) (final : Bool) : Kept orig (State.snapReported s late final) := by
  unfold State.snapReported
  repeat any_goals first
    | with_reducible assumption
    | intro s x h
    | with_reducible apply Kept.ite
    | with_reducible apply State.emit_kept
    | with_reducible apply State.wrB_kept
    | split

theorem State.haltJob_kept {orig s : State} (h : Kept orig s) (t : Nat) : Kept orig (State.haltJob s t) := by
  unfold State.haltJob
  repeat any_goals first
    | with_reducible assumption
    | intro s x h
    | with_reducible apply State.onBench_kept
    | with_reducible apply State.stopBench_kept
    | with_reducible refine Kept.foldl ?_ (fun s x h => ?_)
    | fail_if_no_progress (with_reducible refine Kept.frame ?_ (by rfl) (by rfl) (by rfl) (by rfl) (by rfl) (by rfl) (by first | exact Nat.le_refl _ | exact Nat.le_add_right _ _ | with_unfolding_all exact Nat.le_add_right _ _) (by rfl) (by rfl) (by rfl) (by first | exact fun y => y | (with_unfolding_all exact fun y => Mem.wf_writeLE _ _ _ _ y) | (with_unfolding_all exact fun y => Mem.wf_writeByte _ _ _ y) | (with_unfolding_all exact fun y => Mem.wf_clearRange _ _ _ y) | (with_unfolding_all exact fun _ => rfl)) (by first | exact fun y => y | (with_unfolding_all exact fun y => Sparse.wf_set _ _ _ _ y) | (with_unfolding_all exact fun _ => rfl)))
    | split

theorem State.refillRoutes_kept {orig s : State} (h : Kept orig s) : Kept orig (State.refillRoutes s) := by
  unfold State.refillRoutes
  repeat any_goals first
    | with_reducible assumption
    | intro s x h
    | with_reducible apply Kept.ite
    | with_reducible apply State.wr_kept
    | with_reducible refine Kept.foldl ?_ (fun s x h => ?_)
    | split

theorem State.fresetSettle_kept {orig s : State} (h : Kept orig s) : Kept orig (State.fresetSettle s) := by
  unfold State.fresetSettle
  repeat any_goals first
    | with_reducible assumption
    | intro s x h
    | (extract_lets +onlyGivenNames x; refine Kept.of (a := orig) (x := x) ?_ ?_; rotate_left; (intro hx; clear_value x); rotate_right; subst x)
    | (extract_lets +onlyGivenNames x; refine Kept.of (a := orig) (x := x.2) ?_ ?_; rotate_left; (intro hx; clear_value x); rotate_right; subst x)
    | (extract_lets +onlyGivenNames x; first | (have keep := (x : Hbm); clear keep) | (have keep := (x : Mgmt); clear keep) | (have keep := (x : Seal); clear keep) | (have keep := (x : HostIf); clear keep) | clear_value x)
    | with_reducible apply Kept.ite
    | with_reducible apply State.emit_kept
    | with_reducible apply State.wrB_kept
    | with_reducible apply State.inject_kept
    | with_reducible refine Kept.foldl ?_ (fun s x h => ?_)
    | fail_if_no_progress (with_reducible refine Kept.frame ?_ (by rfl) (by rfl) (by rfl) (by rfl) (by rfl) (by rfl) (by first | exact Nat.le_refl _ | exact Nat.le_add_right _ _ | with_unfolding_all exact Nat.le_add_right _ _) (by rfl) (by rfl) (by rfl) (by first | exact fun y => y | (with_unfolding_all exact fun y => Mem.wf_writeLE _ _ _ _ y) | (with_unfolding_all exact fun y => Mem.wf_writeByte _ _ _ y) | (with_unfolding_all exact fun y => Mem.wf_clearRange _ _ _ y) | (with_unfolding_all exact fun _ => rfl)) (by first | exact fun y => y | (with_unfolding_all exact fun y => Sparse.wf_set _ _ _ _ y) | (with_unfolding_all exact fun _ => rfl)))
    | split

theorem State.fresetHere_kept {orig s : State} (h : Kept orig s) (hall : Bool) : Kept orig (State.fresetHere s hall) := by
  unfold State.fresetHere
  repeat any_goals first
    | with_reducible assumption
    | intro s x h
    | (extract_lets +onlyGivenNames x; refine Kept.of (a := orig) (x := x) ?_ ?_; rotate_left; (intro hx; clear_value x); rotate_right; subst x)
    | (extract_lets +onlyGivenNames x; first | (have keep := (x : Hbm); clear keep) | (have keep := (x : Mgmt); clear keep) | (have keep := (x : Seal); clear keep) | (have keep := (x : HostIf); clear keep) | clear_value x)
    | with_reducible apply Kept.ite
    | with_reducible apply State.wrB_kept
    | with_reducible apply State.skip_kept
    | with_reducible apply State.llResetNow_kept
    | with_reducible apply State.endJob_kept
    | with_reducible apply State.haltJob_kept
    | with_reducible apply State.refillRoutes_kept
    | with_reducible apply State.fresetSettle_kept
    | with_reducible refine Kept.foldl ?_ (fun s x h => ?_)
    | fail_if_no_progress (with_reducible refine Kept.frame ?_ (by rfl) (by rfl) (by rfl) (by rfl) (by rfl) (by rfl) (by first | exact Nat.le_refl _ | exact Nat.le_add_right _ _ | with_unfolding_all exact Nat.le_add_right _ _) (by rfl) (by rfl) (by rfl) (by first | exact fun y => y | (with_unfolding_all exact fun y => Mem.wf_writeLE _ _ _ _ y) | (with_unfolding_all exact fun y => Mem.wf_writeByte _ _ _ y) | (with_unfolding_all exact fun y => Mem.wf_clearRange _ _ _ y) | (with_unfolding_all exact fun _ => rfl)) (by first | exact fun y => y | (with_unfolding_all exact fun y => Sparse.wf_set _ _ _ _ y) | (with_unfolding_all exact fun _ => rfl)))
    | split

theorem State.fresetWrite_kept {orig s : State} (h : Kept orig s) (data : Reg64) : Kept orig (State.fresetWrite s data) := by
  unfold State.fresetWrite
  repeat any_goals first
    | with_reducible assumption
    | intro s x h
    | (extract_lets +onlyGivenNames x; refine Kept.of (a := orig) (x := x) ?_ ?_; rotate_left; (intro hx; clear_value x); rotate_right; subst x)
    | (extract_lets +onlyGivenNames x; first | (have keep := (x : Hbm); clear keep) | (have keep := (x : Mgmt); clear keep) | (have keep := (x : Seal); clear keep) | (have keep := (x : HostIf); clear keep) | clear_value x)
    | with_reducible apply Kept.ite
    | with_reducible apply State.emit_kept
    | with_reducible apply State.wrB_kept
    | with_reducible apply State.soft_kept
    | with_reducible apply State.fresetHere_kept
    | split

theorem State.fresetNotice_kept {orig s : State} (h : Kept orig s) (hall : Bool) (part : Nat) : Kept orig (State.fresetNotice s hall part) := by
  unfold State.fresetNotice
  repeat any_goals first
    | with_reducible assumption
    | intro s x h
    | (extract_lets +onlyGivenNames x; refine Kept.of (a := orig) (x := x) ?_ ?_; rotate_left; (intro hx; clear_value x); rotate_right; subst x)
    | (extract_lets +onlyGivenNames x; first | (have keep := (x : Hbm); clear keep) | (have keep := (x : Mgmt); clear keep) | (have keep := (x : Seal); clear keep) | (have keep := (x : HostIf); clear keep) | clear_value x)
    | with_reducible apply Kept.ite
    | with_reducible apply State.emit_kept
    | with_reducible apply State.fresetHere_kept
    | split

theorem State.fresetReported_kept {orig s : State} (h : Kept orig s) (final : Bool) : Kept orig (State.fresetReported s final) := by
  unfold State.fresetReported
  repeat any_goals first
    | with_reducible assumption
    | intro s x h
    | with_reducible apply Kept.ite
    | with_reducible apply State.emit_kept
    | with_reducible apply State.wrB_kept
    | split

theorem State.setSpoil_kept {orig s : State} (h : Kept orig s) (l : Spoil) : Kept orig (State.setSpoil s l) := by
  unfold State.setSpoil
  repeat any_goals first
    | with_reducible assumption
    | intro s x h
    | fail_if_no_progress (with_reducible refine Kept.frame ?_ (by rfl) (by rfl) (by rfl) (by rfl) (by rfl) (by rfl) (by first | exact Nat.le_refl _ | exact Nat.le_add_right _ _ | with_unfolding_all exact Nat.le_add_right _ _) (by rfl) (by rfl) (by rfl) (by first | exact fun y => y | (with_unfolding_all exact fun y => Mem.wf_writeLE _ _ _ _ y) | (with_unfolding_all exact fun y => Mem.wf_writeByte _ _ _ y) | (with_unfolding_all exact fun y => Mem.wf_clearRange _ _ _ y) | (with_unfolding_all exact fun _ => rfl)) (by first | exact fun y => y | (with_unfolding_all exact fun y => Sparse.wf_set _ _ _ _ y) | (with_unfolding_all exact fun _ => rfl)))

theorem State.writeEntry_kept {orig s : State} (h : Kept orig s) (e : SpoilEvent) : Kept orig (State.writeEntry s e) := by
  unfold State.writeEntry
  repeat any_goals first
    | with_reducible assumption
    | intro s x h
    | (extract_lets +onlyGivenNames x; refine Kept.of (a := orig) (x := x) ?_ ?_; rotate_left; (intro hx; clear_value x); rotate_right; subst x)
    | (extract_lets +onlyGivenNames x; first | (have keep := (x : Hbm); clear keep) | (have keep := (x : Mgmt); clear keep) | (have keep := (x : Seal); clear keep) | (have keep := (x : HostIf); clear keep) | clear_value x)
    | with_reducible apply Kept.ite
    | with_reducible apply State.setReg_kept
    | with_reducible apply State.wr_kept
    | with_reducible apply State.wrB_kept
    | with_reducible apply State.satInc_kept
    | with_reducible apply State.setSpoil_kept
    | with_reducible refine Kept.foldl ?_ (fun s x h => ?_)
    | fail_if_no_progress (with_reducible refine Kept.frame ?_ (by rfl) (by rfl) (by rfl) (by rfl) (by rfl) (by rfl) (by first | exact Nat.le_refl _ | exact Nat.le_add_right _ _ | with_unfolding_all exact Nat.le_add_right _ _) (by rfl) (by rfl) (by rfl) (by first | exact fun y => y | (with_unfolding_all exact fun y => Mem.wf_writeLE _ _ _ _ y) | (with_unfolding_all exact fun y => Mem.wf_writeByte _ _ _ y) | (with_unfolding_all exact fun y => Mem.wf_clearRange _ _ _ y) | (with_unfolding_all exact fun _ => rfl)) (by first | exact fun y => y | (with_unfolding_all exact fun y => Sparse.wf_set _ _ _ _ y) | (with_unfolding_all exact fun _ => rfl)))
    | split

theorem State.spoilPending_kept {orig s : State} (h : Kept orig s) (cls : Nat) : Kept orig (State.spoilPending s cls) := by
  unfold State.spoilPending
  repeat any_goals first
    | with_reducible assumption
    | intro s x h
    | with_reducible apply Kept.ite
    | with_reducible apply State.wrB_kept
    | with_reducible apply State.irqDevice_kept
    | split

theorem State.spoilArrive_kept {orig s : State} (h : Kept orig s) (n : Nat) : Kept orig (State.spoilArrive s n) := by
  unfold State.spoilArrive
  repeat any_goals first
    | with_reducible assumption
    | intro s x h
    | with_reducible apply State.setSpoil_kept
    | with_reducible apply State.writeEntry_kept
    | with_reducible apply State.spoilPending_kept
    | fail_if_no_progress (with_reducible refine Kept.frame ?_ (by rfl) (by rfl) (by rfl) (by rfl) (by rfl) (by rfl) (by first | exact Nat.le_refl _ | exact Nat.le_add_right _ _ | with_unfolding_all exact Nat.le_add_right _ _) (by rfl) (by rfl) (by rfl) (by first | exact fun y => y | (with_unfolding_all exact fun y => Mem.wf_writeLE _ _ _ _ y) | (with_unfolding_all exact fun y => Mem.wf_writeByte _ _ _ y) | (with_unfolding_all exact fun y => Mem.wf_clearRange _ _ _ y) | (with_unfolding_all exact fun _ => rfl)) (by first | exact fun y => y | (with_unfolding_all exact fun y => Sparse.wf_set _ _ _ _ y) | (with_unfolding_all exact fun _ => rfl)))
    | split

theorem State.spoilClear_kept {orig s : State} (h : Kept orig s) : Kept orig (State.spoilClear s) := by
  unfold State.spoilClear
  repeat any_goals first
    | with_reducible assumption
    | intro s x h
    | (extract_lets +onlyGivenNames x; refine Kept.of (a := orig) (x := x) ?_ ?_; rotate_left; (intro hx; clear_value x); rotate_right; subst x)
    | (extract_lets +onlyGivenNames x; first | (have keep := (x : Hbm); clear keep) | (have keep := (x : Mgmt); clear keep) | (have keep := (x : Seal); clear keep) | (have keep := (x : HostIf); clear keep) | clear_value x)
    | with_reducible apply State.setReg_kept
    | with_reducible apply State.setSpoil_kept
    | with_reducible refine Kept.foldl ?_ (fun s x h => ?_)
    | fail_if_no_progress (with_reducible refine Kept.frame ?_ (by rfl) (by rfl) (by rfl) (by rfl) (by rfl) (by rfl) (by first | exact Nat.le_refl _ | exact Nat.le_add_right _ _ | with_unfolding_all exact Nat.le_add_right _ _) (by rfl) (by rfl) (by rfl) (by first | exact fun y => y | (with_unfolding_all exact fun y => Mem.wf_writeLE _ _ _ _ y) | (with_unfolding_all exact fun y => Mem.wf_writeByte _ _ _ y) | (with_unfolding_all exact fun y => Mem.wf_clearRange _ _ _ y) | (with_unfolding_all exact fun _ => rfl)) (by first | exact fun y => y | (with_unfolding_all exact fun y => Sparse.wf_set _ _ _ _ y) | (with_unfolding_all exact fun _ => rfl)))

theorem State.spoilRead_kept {orig s : State} (h : Kept orig s) : KeptV Prod.snd orig (State.spoilRead s) := by
  unfold State.spoilRead
  repeat any_goals first
    | with_reducible assumption
    | intro s x h
    | (extract_lets +onlyGivenNames x; refine Kept.of (a := orig) (x := x) ?_ ?_; rotate_left; (intro hx; clear_value x); rotate_right; subst x)
    | (extract_lets +onlyGivenNames x; refine Kept.of (a := orig) (x := x.1) ?_ ?_; rotate_left; (intro hx; clear_value x); rotate_right; subst x)
    | (extract_lets +onlyGivenNames x; refine Kept.of (a := orig) (x := x.2) ?_ ?_; rotate_left; (intro hx; clear_value x); rotate_right; subst x)
    | (extract_lets +onlyGivenNames x; first | (have keep := (x : Hbm); clear keep) | (have keep := (x : Mgmt); clear keep) | (have keep := (x : Seal); clear keep) | (have keep := (x : HostIf); clear keep) | clear_value x)
    | with_reducible apply Kept.ite
    | with_reducible refine KeptV.ite ?_ ?_
    | with_reducible refine KeptV.fst ?_
    | with_reducible refine KeptV.snd ?_
    | with_reducible refine KeptV.reply ?_
    | with_reducible refine KeptV.got ?_
    | with_reducible apply State.wr_kept
    | with_reducible apply State.setSpoil_kept
    | fail_if_no_progress (with_reducible refine Kept.frame ?_ (by rfl) (by rfl) (by rfl) (by rfl) (by rfl) (by rfl) (by first | exact Nat.le_refl _ | exact Nat.le_add_right _ _ | with_unfolding_all exact Nat.le_add_right _ _) (by rfl) (by rfl) (by rfl) (by first | exact fun y => y | (with_unfolding_all exact fun y => Mem.wf_writeLE _ _ _ _ y) | (with_unfolding_all exact fun y => Mem.wf_writeByte _ _ _ y) | (with_unfolding_all exact fun y => Mem.wf_clearRange _ _ _ y) | (with_unfolding_all exact fun _ => rfl)) (by first | exact fun y => y | (with_unfolding_all exact fun y => Sparse.wf_set _ _ _ _ y) | (with_unfolding_all exact fun _ => rfl)))
    | split

theorem State.spoilRead_kept1 {orig s : State} (h : Kept orig s) : Kept orig (State.spoilRead s).2 := State.spoilRead_kept h 

theorem State.suppressed_kept {orig s : State} (h : Kept orig s) (vw : Nat) (write : Bool) (n : Nat) (a : Nat) : Kept orig (State.suppressed s vw write n a) := by
  unfold State.suppressed
  repeat any_goals first
    | with_reducible assumption
    | intro s x h
    | with_reducible refine State.logOnce_kept ?_ _ _ (fun s h => ?_)
    | with_reducible apply State.accessError_kept

theorem State.windowBad_kept {orig s : State} (h : Kept orig s) (vw : Nat) (a : Nat) : Kept orig (State.windowBad s vw a) := by
  unfold State.windowBad
  repeat any_goals first
    | with_reducible assumption
    | intro s x h
    | (extract_lets +onlyGivenNames x; refine Kept.of (a := orig) (x := x) ?_ ?_; rotate_left; (intro hx; clear_value x); rotate_right; subst x)
    | (extract_lets +onlyGivenNames x; refine Kept.of (a := orig) (x := x.2) ?_ ?_; rotate_left; (intro hx; clear_value x); rotate_right; subst x)
    | (extract_lets +onlyGivenNames x; first | (have keep := (x : Hbm); clear keep) | (have keep := (x : Mgmt); clear keep) | (have keep := (x : Seal); clear keep) | (have keep := (x : HostIf); clear keep) | clear_value x)
    | with_reducible apply Kept.ite
    | with_reducible apply State.hbmUncorrectable_kept
    | with_reducible apply State.countHbm_kept
    | fail_if_no_progress (with_reducible refine Kept.frame ?_ (by rfl) (by rfl) (by rfl) (by rfl) (by rfl) (by rfl) (by first | exact Nat.le_refl _ | exact Nat.le_add_right _ _ | with_unfolding_all exact Nat.le_add_right _ _) (by rfl) (by rfl) (by rfl) (by first | exact fun y => y | (with_unfolding_all exact fun y => Mem.wf_writeLE _ _ _ _ y) | (with_unfolding_all exact fun y => Mem.wf_writeByte _ _ _ y) | (with_unfolding_all exact fun y => Mem.wf_clearRange _ _ _ y) | (with_unfolding_all exact fun _ => rfl)) (by first | exact fun y => y | (with_unfolding_all exact fun y => Sparse.wf_set _ _ _ _ y) | (with_unfolding_all exact fun _ => rfl)))
    | split

theorem State.writeWordPart_kept {orig s : State} (h : Kept orig s) (a : Nat) (w : Nat) (l : List (Option Byte)) : Kept orig (State.writeWordPart s a w l) := by
  unfold State.writeWordPart
  repeat any_goals first
    | with_reducible assumption
    | intro s x h
    | (extract_lets +onlyGivenNames x; refine Kept.of (a := orig) (x := x) ?_ ?_; rotate_left; (intro hx; clear_value x); rotate_right; subst x)
    | (extract_lets +onlyGivenNames x; refine Kept.of (a := orig) (x := x.1) ?_ ?_; rotate_left; (intro hx; clear_value x); rotate_right; subst x)
    | (extract_lets +onlyGivenNames x; refine Kept.of (a := orig) (x := x.2) ?_ ?_; rotate_left; (intro hx; clear_value x); rotate_right; subst x)
    | (extract_lets +onlyGivenNames x; first | (have keep := (x : Hbm); clear keep) | (have keep := (x : Mgmt); clear keep) | (have keep := (x : Seal); clear keep) | (have keep := (x : HostIf); clear keep) | clear_value x)
    | with_reducible apply Kept.ite
    | with_reducible apply State.setHbmWord_kept
    | with_reducible apply State.setHbmByte_kept
    | with_reducible apply State.countHbm_kept
    | with_reducible refine Kept.foldl ?_ (fun s x h => ?_)
    | fail_if_no_progress (with_reducible refine Kept.frame ?_ (by rfl) (by rfl) (by rfl) (by rfl) (by rfl) (by rfl) (by first | exact Nat.le_refl _ | exact Nat.le_add_right _ _ | with_unfolding_all exact Nat.le_add_right _ _) (by rfl) (by rfl) (by rfl) (by first | exact fun y => y | (with_unfolding_all exact fun y => Mem.wf_writeLE _ _ _ _ y) | (with_unfolding_all exact fun y => Mem.wf_writeByte _ _ _ y) | (with_unfolding_all exact fun y => Mem.wf_clearRange _ _ _ y) | (with_unfolding_all exact fun _ => rfl)) (by first | exact fun y => y | (with_unfolding_all exact fun y => Sparse.wf_set _ _ _ _ y) | (with_unfolding_all exact fun _ => rfl)))
    | split

theorem State.bar2Write_kept {orig s : State} (h : Kept orig s) (vw : Nat) (off : Nat) (l : List (Option Byte)) : Kept orig (State.bar2Write s vw off l) := by
  unfold State.bar2Write
  repeat any_goals first
    | with_reducible assumption
    | intro s x h
    | (extract_lets +onlyGivenNames x; refine Kept.of (a := orig) (x := x) ?_ ?_; rotate_left; (intro hx; clear_value x); rotate_right; subst x)
    | (extract_lets +onlyGivenNames x; refine Kept.of (a := orig) (x := x.1) ?_ ?_; rotate_left; (intro hx; clear_value x); rotate_right; subst x)
    | (extract_lets +onlyGivenNames x; refine Kept.of (a := orig) (x := x.2) ?_ ?_; rotate_left; (intro hx; clear_value x); rotate_right; subst x)
    | (extract_lets +onlyGivenNames x; first | (have keep := (x : Hbm); clear keep) | (have keep := (x : Mgmt); clear keep) | (have keep := (x : Seal); clear keep) | (have keep := (x : HostIf); clear keep) | clear_value x)
    | with_reducible apply Kept.ite
    | with_reducible apply State.suppressed_kept
    | with_reducible apply State.writeWordPart_kept
    | with_reducible refine Kept.foldl ?_ (fun s x h => ?_)
    | fail_if_no_progress (with_reducible refine Kept.frame ?_ (by rfl) (by rfl) (by rfl) (by rfl) (by rfl) (by rfl) (by first | exact Nat.le_refl _ | exact Nat.le_add_right _ _ | with_unfolding_all exact Nat.le_add_right _ _) (by rfl) (by rfl) (by rfl) (by first | exact fun y => y | (with_unfolding_all exact fun y => Mem.wf_writeLE _ _ _ _ y) | (with_unfolding_all exact fun y => Mem.wf_writeByte _ _ _ y) | (with_unfolding_all exact fun y => Mem.wf_clearRange _ _ _ y) | (with_unfolding_all exact fun _ => rfl)) (by first | exact fun y => y | (with_unfolding_all exact fun y => Sparse.wf_set _ _ _ _ y) | (with_unfolding_all exact fun _ => rfl)))
    | split

theorem State.bar2Read_kept {orig s : State} (h : Kept orig s) (vw : Nat) (off : Nat) (n : Nat) : Kept orig (State.bar2Read s vw off n) := by
  unfold State.bar2Read
  repeat any_goals first
    | with_reducible assumption
    | intro s x h
    | (extract_lets +onlyGivenNames x; refine Kept.of (a := orig) (x := x) ?_ ?_; rotate_left; (intro hx; clear_value x); rotate_right; subst x)
    | (extract_lets +onlyGivenNames x; first | (have keep := (x : Hbm); clear keep) | (have keep := (x : Mgmt); clear keep) | (have keep := (x : Seal); clear keep) | (have keep := (x : HostIf); clear keep) | clear_value x)
    | with_reducible apply Kept.ite
    | with_reducible apply State.emit_kept
    | with_reducible apply State.suppressed_kept
    | with_reducible apply State.windowBad_kept
    | with_reducible refine Kept.foldl ?_ (fun s x h => ?_)
    | fail_if_no_progress (with_reducible refine Kept.frame ?_ (by rfl) (by rfl) (by rfl) (by rfl) (by rfl) (by rfl) (by first | exact Nat.le_refl _ | exact Nat.le_add_right _ _ | with_unfolding_all exact Nat.le_add_right _ _) (by rfl) (by rfl) (by rfl) (by first | exact fun y => y | (with_unfolding_all exact fun y => Mem.wf_writeLE _ _ _ _ y) | (with_unfolding_all exact fun y => Mem.wf_writeByte _ _ _ y) | (with_unfolding_all exact fun y => Mem.wf_clearRange _ _ _ y) | (with_unfolding_all exact fun _ => rfl)) (by first | exact fun y => y | (with_unfolding_all exact fun y => Sparse.wf_set _ _ _ _ y) | (with_unfolding_all exact fun _ => rfl)))
    | split

theorem State.takeInbox_kept {orig s : State} (h : Kept orig s) (n : Nat) (kind : Nat) : KeptO Prod.snd orig (State.takeInbox s n kind) := by
  unfold State.takeInbox
  repeat any_goals first
    | with_reducible assumption
    | intro s x h
    | with_reducible apply Kept.ite
    | with_reducible exact KeptO.none
    | with_reducible refine KeptO.stay ?_
    | with_reducible refine KeptO.some ?_
    | with_reducible refine KeptO.ite ?_ ?_
    | fail_if_no_progress (with_reducible refine Kept.frame ?_ (by rfl) (by rfl) (by rfl) (by rfl) (by rfl) (by rfl) (by first | exact Nat.le_refl _ | exact Nat.le_add_right _ _ | with_unfolding_all exact Nat.le_add_right _ _) (by rfl) (by rfl) (by rfl) (by first | exact fun y => y | (with_unfolding_all exact fun y => Mem.wf_writeLE _ _ _ _ y) | (with_unfolding_all exact fun y => Mem.wf_writeByte _ _ _ y) | (with_unfolding_all exact fun y => Mem.wf_clearRange _ _ _ y) | (with_unfolding_all exact fun _ => rfl)) (by first | exact fun y => y | (with_unfolding_all exact fun y => Sparse.wf_set _ _ _ _ y) | (with_unfolding_all exact fun _ => rfl)))
    | split

theorem State.answerRequest_kept {orig s : State} (h : Kept orig s) (p : Packet) (kind : Nat) (err : Bool) (l : List Byte) (marks : List Nat) : Kept orig (State.answerRequest s p kind err l marks) := by
  unfold State.answerRequest
  repeat any_goals first
    | with_reducible assumption
    | intro s x h
    | (extract_lets +onlyGivenNames x; refine Kept.of (a := orig) (x := x) ?_ ?_; rotate_left; (intro hx; clear_value x); rotate_right; subst x)
    | (extract_lets +onlyGivenNames x; first | (have keep := (x : Hbm); clear keep) | (have keep := (x : Mgmt); clear keep) | (have keep := (x : Seal); clear keep) | (have keep := (x : HostIf); clear keep) | clear_value x)
    | with_reducible apply State.inject_kept
    | fail_if_no_progress (with_reducible refine Kept.frame ?_ (by rfl) (by rfl) (by rfl) (by rfl) (by rfl) (by rfl) (by first | exact Nat.le_refl _ | exact Nat.le_add_right _ _ | with_unfolding_all exact Nat.le_add_right _ _) (by rfl) (by rfl) (by rfl) (by first | exact fun y => y | (with_unfolding_all exact fun y => Mem.wf_writeLE _ _ _ _ y) | (with_unfolding_all exact fun y => Mem.wf_writeByte _ _ _ y) | (with_unfolding_all exact fun y => Mem.wf_clearRange _ _ _ y) | (with_unfolding_all exact fun _ => rfl)) (by first | exact fun y => y | (with_unfolding_all exact fun y => Sparse.wf_set _ _ _ _ y) | (with_unfolding_all exact fun _ => rfl)))

theorem State.hallRead_kept {orig s : State} (h : Kept orig s) (n : Nat) : Kept orig (State.hallRead s n) := by
  unfold State.hallRead
  repeat any_goals first
    | with_reducible assumption
    | intro s x h
    | (extract_lets +onlyGivenNames x; refine Kept.of (a := orig) (x := x) ?_ ?_; rotate_left; (intro hx; clear_value x); rotate_right; subst x)
    | (extract_lets +onlyGivenNames x; first | (have keep := (x : Hbm); clear keep) | (have keep := (x : Mgmt); clear keep) | (have keep := (x : Seal); clear keep) | (have keep := (x : HostIf); clear keep) | clear_value x)
    | with_reducible apply State.hbmUncorrectable_kept
    | with_reducible apply State.countHbm_kept
    | with_reducible apply State.takeInbox_kept
    | (refine Kept.ofO (g := Prod.snd) (State.takeInbox_kept ?_ _ _) (by assumption))
    | with_reducible apply State.answerRequest_kept
    | with_reducible refine Kept.foldl ?_ (fun s x h => ?_)
    | fail_if_no_progress (with_reducible refine Kept.frame ?_ (by rfl) (by rfl) (by rfl) (by rfl) (by rfl) (by rfl) (by first | exact Nat.le_refl _ | exact Nat.le_add_right _ _ | with_unfolding_all exact Nat.le_add_right _ _) (by rfl) (by rfl) (by rfl) (by first | exact fun y => y | (with_unfolding_all exact fun y => Mem.wf_writeLE _ _ _ _ y) | (with_unfolding_all exact fun y => Mem.wf_writeByte _ _ _ y) | (with_unfolding_all exact fun y => Mem.wf_clearRange _ _ _ y) | (with_unfolding_all exact fun _ => rfl)) (by first | exact fun y => y | (with_unfolding_all exact fun y => Sparse.wf_set _ _ _ _ y) | (with_unfolding_all exact fun _ => rfl)))
    | split

theorem State.hallWrite_kept {orig s : State} (h : Kept orig s) (n : Nat) : Kept orig (State.hallWrite s n) := by
  unfold State.hallWrite
  repeat any_goals first
    | with_reducible assumption
    | intro s x h
    | (extract_lets +onlyGivenNames x; refine Kept.of (a := orig) (x := x) ?_ ?_; rotate_left; (intro hx; clear_value x); rotate_right; subst x)
    | (extract_lets +onlyGivenNames x; refine Kept.of (a := orig) (x := x.1) ?_ ?_; rotate_left; (intro hx; clear_value x); rotate_right; subst x)
    | (extract_lets +onlyGivenNames x; refine Kept.of (a := orig) (x := x.2) ?_ ?_; rotate_left; (intro hx; clear_value x); rotate_right; subst x)
    | (extract_lets +onlyGivenNames x; first | (have keep := (x : Hbm); clear keep) | (have keep := (x : Mgmt); clear keep) | (have keep := (x : Seal); clear keep) | (have keep := (x : HostIf); clear keep) | clear_value x)
    | with_reducible apply State.setHbmWord_kept
    | with_reducible apply State.countHbm_kept
    | with_reducible apply State.takeInbox_kept
    | (refine Kept.ofO (g := Prod.snd) (State.takeInbox_kept ?_ _ _) (by assumption))
    | with_reducible apply State.answerRequest_kept
    | with_reducible refine Kept.foldl ?_ (fun s x h => ?_)
    | fail_if_no_progress (with_reducible refine Kept.frame ?_ (by rfl) (by rfl) (by rfl) (by rfl) (by rfl) (by rfl) (by first | exact Nat.le_refl _ | exact Nat.le_add_right _ _ | with_unfolding_all exact Nat.le_add_right _ _) (by rfl) (by rfl) (by rfl) (by first | exact fun y => y | (with_unfolding_all exact fun y => Mem.wf_writeLE _ _ _ _ y) | (with_unfolding_all exact fun y => Mem.wf_writeByte _ _ _ y) | (with_unfolding_all exact fun y => Mem.wf_clearRange _ _ _ y) | (with_unfolding_all exact fun _ => rfl)) (by first | exact fun y => y | (with_unfolding_all exact fun y => Sparse.wf_set _ _ _ _ y) | (with_unfolding_all exact fun _ => rfl)))
    | split

theorem State.bulkIn_kept {orig s : State} (h : Kept orig s) (n : Nat) : Kept orig (State.bulkIn s n) := by
  unfold State.bulkIn
  repeat any_goals first
    | with_reducible assumption
    | intro s x h
    | (extract_lets +onlyGivenNames x; refine Kept.of (a := orig) (x := x) ?_ ?_; rotate_left; (intro hx; clear_value x); rotate_right; subst x)
    | (extract_lets +onlyGivenNames x; first | (have keep := (x : Hbm); clear keep) | (have keep := (x : Mgmt); clear keep) | (have keep := (x : Seal); clear keep) | (have keep := (x : HostIf); clear keep) | clear_value x)
    | with_reducible apply Kept.ite
    | with_reducible apply State.setHbmBytes_kept
    | with_reducible apply State.acceptRecord_kept
    | with_reducible apply State.takeInbox_kept
    | (refine Kept.ofO (g := Prod.snd) (State.takeInbox_kept ?_ _ _) (by assumption))
    | with_reducible apply State.answerRequest_kept
    | fail_if_no_progress (with_reducible refine Kept.frame ?_ (by rfl) (by rfl) (by rfl) (by rfl) (by rfl) (by rfl) (by first | exact Nat.le_refl _ | exact Nat.le_add_right _ _ | with_unfolding_all exact Nat.le_add_right _ _) (by rfl) (by rfl) (by rfl) (by first | exact fun y => y | (with_unfolding_all exact fun y => Mem.wf_writeLE _ _ _ _ y) | (with_unfolding_all exact fun y => Mem.wf_writeByte _ _ _ y) | (with_unfolding_all exact fun y => Mem.wf_clearRange _ _ _ y) | (with_unfolding_all exact fun _ => rfl)) (by first | exact fun y => y | (with_unfolding_all exact fun y => Sparse.wf_set _ _ _ _ y) | (with_unfolding_all exact fun _ => rfl)))
    | split

theorem State.bulkAckIn_kept {orig s : State} (h : Kept orig s) (n : Nat) : Kept orig (State.bulkAckIn s n) := by
  unfold State.bulkAckIn
  repeat any_goals first
    | with_reducible assumption
    | intro s x h
    | with_reducible apply State.emit_kept
    | with_reducible apply State.takeInbox_kept
    | (refine Kept.ofO (g := Prod.snd) (State.takeInbox_kept ?_ _ _) (by assumption))
    | fail_if_no_progress (with_reducible refine Kept.frame ?_ (by rfl) (by rfl) (by rfl) (by rfl) (by rfl) (by rfl) (by first | exact Nat.le_refl _ | exact Nat.le_add_right _ _ | with_unfolding_all exact Nat.le_add_right _ _) (by rfl) (by rfl) (by rfl) (by first | exact fun y => y | (with_unfolding_all exact fun y => Mem.wf_writeLE _ _ _ _ y) | (with_unfolding_all exact fun y => Mem.wf_writeByte _ _ _ y) | (with_unfolding_all exact fun y => Mem.wf_clearRange _ _ _ y) | (with_unfolding_all exact fun _ => rfl)) (by first | exact fun y => y | (with_unfolding_all exact fun y => Sparse.wf_set _ _ _ _ y) | (with_unfolding_all exact fun _ => rfl)))
    | split

theorem State.mgmtPacketIn_kept {orig s : State} (h : Kept orig s) (n : Nat) : Kept orig (State.mgmtPacketIn s n) := by
  unfold State.mgmtPacketIn
  repeat any_goals first
    | with_reducible assumption
    | intro s x h
    | with_reducible apply State.mgmtEvent_kept
    | with_reducible apply State.takeInbox_kept
    | (refine Kept.ofO (g := Prod.snd) (State.takeInbox_kept ?_ _ _) (by assumption))
    | fail_if_no_progress (with_reducible refine Kept.frame ?_ (by rfl) (by rfl) (by rfl) (by rfl) (by rfl) (by rfl) (by first | exact Nat.le_refl _ | exact Nat.le_add_right _ _ | with_unfolding_all exact Nat.le_add_right _ _) (by rfl) (by rfl) (by rfl) (by first | exact fun y => y | (with_unfolding_all exact fun y => Mem.wf_writeLE _ _ _ _ y) | (with_unfolding_all exact fun y => Mem.wf_writeByte _ _ _ y) | (with_unfolding_all exact fun y => Mem.wf_clearRange _ _ _ y) | (with_unfolding_all exact fun _ => rfl)) (by first | exact fun y => y | (with_unfolding_all exact fun y => Sparse.wf_set _ _ _ _ y) | (with_unfolding_all exact fun _ => rfl)))
    | split

theorem State.setBell_kept {orig s : State} (h : Kept orig s) (vw : Nat) (d : Option Doorbell) : Kept orig (State.setBell s vw d) := by
  unfold State.setBell
  repeat any_goals first
    | with_reducible assumption
    | intro s x h
    | with_reducible apply State.setView_kept
    | fail_if_no_progress (with_reducible refine Kept.frame ?_ (by rfl) (by rfl) (by rfl) (by rfl) (by rfl) (by rfl) (by first | exact Nat.le_refl _ | exact Nat.le_add_right _ _ | with_unfolding_all exact Nat.le_add_right _ _) (by rfl) (by rfl) (by rfl) (by first | exact fun y => y | (with_unfolding_all exact fun y => Mem.wf_writeLE _ _ _ _ y) | (with_unfolding_all exact fun y => Mem.wf_writeByte _ _ _ y) | (with_unfolding_all exact fun y => Mem.wf_clearRange _ _ _ y) | (with_unfolding_all exact fun _ => rfl)) (by first | exact fun y => y | (with_unfolding_all exact fun y => Sparse.wf_set _ _ _ _ y) | (with_unfolding_all exact fun _ => rfl)))

theorem State.bellResult_kept {orig s : State} (h : Kept orig s) (vw : Nat) (d : Doorbell) (r : Nat) : Kept orig (State.bellResult s vw d r) := by
  unfold State.bellResult
  repeat any_goals first
    | with_reducible assumption
    | intro s x h
    | with_reducible apply State.setBell_kept
    | fail_if_no_progress (with_reducible refine Kept.frame ?_ (by rfl) (by rfl) (by rfl) (by rfl) (by rfl) (by rfl) (by first | exact Nat.le_refl _ | exact Nat.le_add_right _ _ | with_unfolding_all exact Nat.le_add_right _ _) (by rfl) (by rfl) (by rfl) (by first | exact fun y => y | (with_unfolding_all exact fun y => Mem.wf_writeLE _ _ _ _ y) | (with_unfolding_all exact fun y => Mem.wf_writeByte _ _ _ y) | (with_unfolding_all exact fun y => Mem.wf_clearRange _ _ _ y) | (with_unfolding_all exact fun _ => rfl)) (by first | exact fun y => y | (with_unfolding_all exact fun y => Sparse.wf_set _ _ _ _ y) | (with_unfolding_all exact fun _ => rfl)))

theorem State.nextRecord_kept {orig s : State} (h : Kept orig s) (vw : Nat) (d : Doorbell) : Kept orig (State.nextRecord s vw d) := by
  unfold State.nextRecord
  repeat any_goals first
    | with_reducible assumption
    | intro s x h
    | (extract_lets +onlyGivenNames x; refine Kept.of (a := orig) (x := x) ?_ ?_; rotate_left; (intro hx; clear_value x); rotate_right; subst x)
    | (extract_lets +onlyGivenNames x; first | (have keep := (x : Hbm); clear keep) | (have keep := (x : Mgmt); clear keep) | (have keep := (x : Seal); clear keep) | (have keep := (x : HostIf); clear keep) | clear_value x)
    | with_reducible apply Kept.ite
    | with_reducible apply State.emit_kept
    | with_reducible apply State.setBell_kept
    | with_reducible apply State.bellResult_kept
    | split

theorem State.serveBell_kept {orig s : State} (h : Kept orig s) (vw : Nat) : Kept orig (State.serveBell s vw) := by
  unfold State.serveBell
  repeat any_goals first
    | with_reducible assumption
    | intro s x h
    | (extract_lets +onlyGivenNames x; refine Kept.of (a := orig) (x := x) ?_ ?_; rotate_left; (intro hx; clear_value x); rotate_right; subst x)
    | (extract_lets +onlyGivenNames x; first | (have keep := (x : Hbm); clear keep) | (have keep := (x : Mgmt); clear keep) | (have keep := (x : Seal); clear keep) | (have keep := (x : HostIf); clear keep) | clear_value x)
    | with_reducible apply Kept.ite
    | with_reducible apply State.emit_kept
    | with_reducible apply State.windowBad_kept
    | with_reducible apply State.bellResult_kept
    | with_reducible apply State.nextRecord_kept
    | with_reducible refine Kept.foldl ?_ (fun s x h => ?_)
    | fail_if_no_progress (with_reducible refine Kept.frame ?_ (by rfl) (by rfl) (by rfl) (by rfl) (by rfl) (by rfl) (by first | exact Nat.le_refl _ | exact Nat.le_add_right _ _ | with_unfolding_all exact Nat.le_add_right _ _) (by rfl) (by rfl) (by rfl) (by first | exact fun y => y | (with_unfolding_all exact fun y => Mem.wf_writeLE _ _ _ _ y) | (with_unfolding_all exact fun y => Mem.wf_writeByte _ _ _ y) | (with_unfolding_all exact fun y => Mem.wf_clearRange _ _ _ y) | (with_unfolding_all exact fun _ => rfl)) (by first | exact fun y => y | (with_unfolding_all exact fun y => Sparse.wf_set _ _ _ _ y) | (with_unfolding_all exact fun _ => rfl)))
    | split

theorem State.setOrder_kept {orig s : State} (h : Kept orig s) (l : List Nat) : Kept orig (State.setOrder s l) := by
  unfold State.setOrder
  repeat any_goals first
    | with_reducible assumption
    | intro s x h
    | (extract_lets +onlyGivenNames x; refine Kept.of (a := orig) (x := x) ?_ ?_; rotate_left; (intro hx; clear_value x); rotate_right; subst x)
    | (extract_lets +onlyGivenNames x; first | (have keep := (x : Hbm); clear keep) | (have keep := (x : Mgmt); clear keep) | (have keep := (x : Seal); clear keep) | (have keep := (x : HostIf); clear keep) | clear_value x)
    | with_reducible apply State.serveBell_kept
    | with_reducible refine Kept.foldl ?_ (fun s x h => ?_)
    | fail_if_no_progress (with_reducible refine Kept.frame ?_ (by rfl) (by rfl) (by rfl) (by rfl) (by rfl) (by rfl) (by first | exact Nat.le_refl _ | exact Nat.le_add_right _ _ | with_unfolding_all exact Nat.le_add_right _ _) (by rfl) (by rfl) (by rfl) (by first | exact fun y => y | (with_unfolding_all exact fun y => Mem.wf_writeLE _ _ _ _ y) | (with_unfolding_all exact fun y => Mem.wf_writeByte _ _ _ y) | (with_unfolding_all exact fun y => Mem.wf_clearRange _ _ _ y) | (with_unfolding_all exact fun _ => rfl)) (by first | exact fun y => y | (with_unfolding_all exact fun y => Sparse.wf_set _ _ _ _ y) | (with_unfolding_all exact fun _ => rfl)))

theorem State.bellDone_kept {orig s : State} (h : Kept orig s) (vw : Nat) (result : Nat) (count : Nat) : Kept orig (State.bellDone s vw result count) := by
  unfold State.bellDone
  repeat any_goals first
    | with_reducible assumption
    | intro s x h
    | (extract_lets +onlyGivenNames x; refine Kept.of (a := orig) (x := x) ?_ ?_; rotate_left; (intro hx; clear_value x); rotate_right; subst x)
    | (extract_lets +onlyGivenNames x; first | (have keep := (x : Hbm); clear keep) | (have keep := (x : Mgmt); clear keep) | (have keep := (x : Seal); clear keep) | (have keep := (x : HostIf); clear keep) | clear_value x)
    | with_reducible apply State.wr_kept
    | with_reducible apply State.wrB_kept
    | with_reducible apply State.irq_kept

theorem State.ringBell_kept {orig s : State} (h : Kept orig s) (vw : Nat) (kind : Nat) (tag : Nat) (count : Nat) : Kept orig (State.ringBell s vw kind tag count) := by
  unfold State.ringBell
  repeat any_goals first
    | with_reducible assumption
    | intro s x h
    | (extract_lets +onlyGivenNames x; refine Kept.of (a := orig) (x := x) ?_ ?_; rotate_left; (intro hx; clear_value x); rotate_right; subst x)
    | (extract_lets +onlyGivenNames x; first | (have keep := (x : Hbm); clear keep) | (have keep := (x : Mgmt); clear keep) | (have keep := (x : Seal); clear keep) | (have keep := (x : HostIf); clear keep) | clear_value x)
    | with_reducible apply Kept.ite
    | with_reducible apply State.wr_kept
    | with_reducible apply State.wrB_kept
    | with_reducible apply State.setBell_kept
    | with_reducible apply State.setOrder_kept
    | with_reducible apply State.bellDone_kept
    | split

theorem State.bellWrite_kept {orig s : State} (h : Kept orig s) (vw : Nat) (data : Reg64) : Kept orig (State.bellWrite s vw data) := by
  unfold State.bellWrite
  repeat any_goals first
    | with_reducible assumption
    | intro s x h
    | with_reducible apply Kept.ite
    | with_reducible apply State.ringBell_kept
    | split

theorem State.takeRecords_kept {orig : State} {vw : Nat} (n : Nat) : ∀ {s : State} {d : Doorbell}, Kept orig s →
    Kept orig (State.takeRecords vw n s d).1 := by
  induction n with
  | zero => intro s d h; exact h
  | succ n ih =>
    intro s d h
    simp only [State.takeRecords]
    split
    · exact h
    · split
      · exact h
      · exact ih (State.acceptRecord_kept h ..)

theorem State.takeWords_kept {orig : State} {vw : Nat} (n : Nat) : ∀ {s : State} {d : Doorbell}, Kept orig s →
    Kept orig (State.takeWords vw n s d).1 := by
  induction n with
  | zero => intro s d h; exact h
  | succ n ih =>
    intro s d h
    simp only [State.takeWords]
    split
    · exact h
    · split
      · exact h
      · exact ih (State.countHbm_kept (State.setHbmBytes_kept h ..) ..)

theorem State.bellFault_kept {orig s : State} (h : Kept orig s) (vw : Nat) : Kept orig (State.bellFault s vw) := by
  unfold State.bellFault
  repeat any_goals first
    | with_reducible assumption
    | intro s x h
    | with_reducible apply Kept.ite
    | with_reducible apply State.emit_kept
    | with_reducible apply State.bellResult_kept
    | fail_if_no_progress (with_reducible refine Kept.frame ?_ (by rfl) (by rfl) (by rfl) (by rfl) (by rfl) (by rfl) (by first | exact Nat.le_refl _ | exact Nat.le_add_right _ _ | with_unfolding_all exact Nat.le_add_right _ _) (by rfl) (by rfl) (by rfl) (by first | exact fun y => y | (with_unfolding_all exact fun y => Mem.wf_writeLE _ _ _ _ y) | (with_unfolding_all exact fun y => Mem.wf_writeByte _ _ _ y) | (with_unfolding_all exact fun y => Mem.wf_clearRange _ _ _ y) | (with_unfolding_all exact fun _ => rfl)) (by first | exact fun y => y | (with_unfolding_all exact fun y => Sparse.wf_set _ _ _ _ y) | (with_unfolding_all exact fun _ => rfl)))
    | split

theorem State.bellData_kept {orig s : State} (h : Kept orig s) (vw : Nat) (l : List Byte) : Kept orig (State.bellData s vw l) := by
  unfold State.bellData
  repeat any_goals first
    | with_reducible assumption
    | intro s x h
    | (extract_lets +onlyGivenNames x; refine Kept.of (a := orig) (x := x) ?_ ?_; rotate_left; (intro hx; clear_value x); rotate_right; subst x)
    | (extract_lets +onlyGivenNames x; refine Kept.of (a := orig) (x := x.1) ?_ ?_; rotate_left; (intro hx; clear_value x); rotate_right; subst x)
    | (extract_lets +onlyGivenNames x; refine Kept.of (a := orig) (x := x.2) ?_ ?_; rotate_left; (intro hx; clear_value x); rotate_right; subst x)
    | (extract_lets +onlyGivenNames x; first | (have keep := (x : Hbm); clear keep) | (have keep := (x : Mgmt); clear keep) | (have keep := (x : Seal); clear keep) | (have keep := (x : HostIf); clear keep) | clear_value x)
    | with_reducible apply Kept.ite
    | with_reducible apply State.setBell_kept
    | with_reducible apply State.nextRecord_kept
    | with_reducible refine State.takeRecords_kept _ ?_
    | with_reducible refine State.takeWords_kept _ ?_
    | fail_if_no_progress (with_reducible refine Kept.frame ?_ (by rfl) (by rfl) (by rfl) (by rfl) (by rfl) (by rfl) (by first | exact Nat.le_refl _ | exact Nat.le_add_right _ _ | with_unfolding_all exact Nat.le_add_right _ _) (by rfl) (by rfl) (by rfl) (by first | exact fun y => y | (with_unfolding_all exact fun y => Mem.wf_writeLE _ _ _ _ y) | (with_unfolding_all exact fun y => Mem.wf_writeByte _ _ _ y) | (with_unfolding_all exact fun y => Mem.wf_clearRange _ _ _ y) | (with_unfolding_all exact fun _ => rfl)) (by first | exact fun y => y | (with_unfolding_all exact fun y => Sparse.wf_set _ _ _ _ y) | (with_unfolding_all exact fun _ => rfl)))
    | split

theorem State.hostData_kept {orig s : State} (h : Kept orig s) (vw : Nat) (d : HostData) : Kept orig (s.hostData vw d) := by
  cases d with
  | data l => exact State.bellData_kept h vw l
  | error => exact State.bellFault_kept h vw

theorem State.bellComplete_kept {orig s : State} (h : Kept orig s) (vw : Nat) : Kept orig (State.bellComplete s vw) := by
  unfold State.bellComplete
  repeat any_goals first
    | with_reducible assumption
    | intro s x h
    | with_reducible apply State.setBell_kept
    | with_reducible apply State.setOrder_kept
    | with_reducible apply State.bellDone_kept
    | fail_if_no_progress (with_reducible refine Kept.frame ?_ (by rfl) (by rfl) (by rfl) (by rfl) (by rfl) (by rfl) (by first | exact Nat.le_refl _ | exact Nat.le_add_right _ _ | with_unfolding_all exact Nat.le_add_right _ _) (by rfl) (by rfl) (by rfl) (by first | exact fun y => y | (with_unfolding_all exact fun y => Mem.wf_writeLE _ _ _ _ y) | (with_unfolding_all exact fun y => Mem.wf_writeByte _ _ _ y) | (with_unfolding_all exact fun y => Mem.wf_clearRange _ _ _ y) | (with_unfolding_all exact fun _ => rfl)) (by first | exact fun y => y | (with_unfolding_all exact fun y => Sparse.wf_set _ _ _ _ y) | (with_unfolding_all exact fun _ => rfl)))
    | split

theorem State.setMbox_kept {orig s : State} (h : Kept orig s) (vw : Nat) (m : Nat) (b : Mbox) : Kept orig (State.setMbox s vw m b) := by
  unfold State.setMbox
  repeat any_goals first
    | with_reducible assumption
    | intro s x h
    | with_reducible apply State.setView_kept
    | fail_if_no_progress (with_reducible refine Kept.frame ?_ (by rfl) (by rfl) (by rfl) (by rfl) (by rfl) (by rfl) (by first | exact Nat.le_refl _ | exact Nat.le_add_right _ _ | with_unfolding_all exact Nat.le_add_right _ _) (by rfl) (by rfl) (by rfl) (by first | exact fun y => y | (with_unfolding_all exact fun y => Mem.wf_writeLE _ _ _ _ y) | (with_unfolding_all exact fun y => Mem.wf_writeByte _ _ _ y) | (with_unfolding_all exact fun y => Mem.wf_clearRange _ _ _ y) | (with_unfolding_all exact fun _ => rfl)) (by first | exact fun y => y | (with_unfolding_all exact fun y => Sparse.wf_set _ _ _ _ y) | (with_unfolding_all exact fun _ => rfl)))

theorem State.mboxCfg_kept {orig s : State} (h : Kept orig s) (vw : Nat) (m : Nat) (data : Reg64) : KeptO id orig (State.mboxCfg s vw m data) := by
  unfold State.mboxCfg
  repeat any_goals first
    | with_reducible assumption
    | intro s x h
    | (extract_lets +onlyGivenNames x; refine Kept.of (a := orig) (x := x) ?_ ?_; rotate_left; (intro hx; clear_value x); rotate_right; subst x)
    | (extract_lets +onlyGivenNames x; first | (have keep := (x : Hbm); clear keep) | (have keep := (x : Mgmt); clear keep) | (have keep := (x : Seal); clear keep) | (have keep := (x : HostIf); clear keep) | clear_value x)
    | with_reducible apply Kept.ite
    | with_reducible exact KeptO.none
    | with_reducible refine KeptO.stay ?_
    | with_reducible refine KeptO.some ?_
    | with_reducible refine KeptO.ite ?_ ?_
    | with_reducible apply State.soft_kept
    | with_reducible apply State.setMbox_kept
    | split

theorem State.consume_kept {orig s : State} (h : Kept orig s) (vw : Nat) (m : Nat) : Kept orig (State.consume s vw m) := by
  unfold State.consume
  repeat any_goals first
    | with_reducible assumption
    | intro s x h
    | (extract_lets +onlyGivenNames x; refine Kept.of (a := orig) (x := x) ?_ ?_; rotate_left; (intro hx; clear_value x); rotate_right; subst x)
    | (extract_lets +onlyGivenNames x; first | (have keep := (x : Hbm); clear keep) | (have keep := (x : Mgmt); clear keep) | (have keep := (x : Seal); clear keep) | (have keep := (x : HostIf); clear keep) | clear_value x)
    | with_reducible apply Kept.ite
    | with_reducible apply State.setView_kept
    | with_reducible apply State.wr_kept
    | with_reducible apply State.flushResults_kept
    | fail_if_no_progress (with_reducible refine Kept.frame ?_ (by rfl) (by rfl) (by rfl) (by rfl) (by rfl) (by rfl) (by first | exact Nat.le_refl _ | exact Nat.le_add_right _ _ | with_unfolding_all exact Nat.le_add_right _ _) (by rfl) (by rfl) (by rfl) (by first | exact fun y => y | (with_unfolding_all exact fun y => Mem.wf_writeLE _ _ _ _ y) | (with_unfolding_all exact fun y => Mem.wf_writeByte _ _ _ y) | (with_unfolding_all exact fun y => Mem.wf_clearRange _ _ _ y) | (with_unfolding_all exact fun _ => rfl)) (by first | exact fun y => y | (with_unfolding_all exact fun y => Sparse.wf_set _ _ _ _ y) | (with_unfolding_all exact fun _ => rfl)))
    | split

theorem State.mboxAck_kept {orig s : State} (h : Kept orig s) (vw : Nat) (m : Nat) (mseq : Nat) : Kept orig (State.mboxAck s vw m mseq) := by
  unfold State.mboxAck
  repeat any_goals first
    | with_reducible assumption
    | intro s x h
    | (extract_lets +onlyGivenNames x; refine Kept.of (a := orig) (x := x) ?_ ?_; rotate_left; (intro hx; clear_value x); rotate_right; subst x)
    | (extract_lets +onlyGivenNames x; first | (have keep := (x : Hbm); clear keep) | (have keep := (x : Mgmt); clear keep) | (have keep := (x : Seal); clear keep) | (have keep := (x : HostIf); clear keep) | clear_value x)
    | with_reducible apply Kept.ite
    | with_reducible apply State.wrB_kept
    | with_reducible apply State.setMbox_kept
    | with_reducible apply State.consume_kept
    | split

theorem State.mboxPresent_kept {orig s : State} (h : Kept orig s) (vw : Nat) (m : Nat) : Kept orig (State.mboxPresent s vw m) := by
  unfold State.mboxPresent
  repeat any_goals first
    | with_reducible assumption
    | intro s x h
    | (extract_lets +onlyGivenNames x; refine Kept.of (a := orig) (x := x) ?_ ?_; rotate_left; (intro hx; clear_value x); rotate_right; subst x)
    | (extract_lets +onlyGivenNames x; first | (have keep := (x : Hbm); clear keep) | (have keep := (x : Mgmt); clear keep) | (have keep := (x : Seal); clear keep) | (have keep := (x : HostIf); clear keep) | clear_value x)
    | with_reducible apply State.irq_kept
    | with_reducible apply State.setMbox_kept
    | fail_if_no_progress (with_reducible refine Kept.frame ?_ (by rfl) (by rfl) (by rfl) (by rfl) (by rfl) (by rfl) (by first | exact Nat.le_refl _ | exact Nat.le_add_right _ _ | with_unfolding_all exact Nat.le_add_right _ _) (by rfl) (by rfl) (by rfl) (by first | exact fun y => y | (with_unfolding_all exact fun y => Mem.wf_writeLE _ _ _ _ y) | (with_unfolding_all exact fun y => Mem.wf_writeByte _ _ _ y) | (with_unfolding_all exact fun y => Mem.wf_clearRange _ _ _ y) | (with_unfolding_all exact fun _ => rfl)) (by first | exact fun y => y | (with_unfolding_all exact fun y => Sparse.wf_set _ _ _ _ y) | (with_unfolding_all exact fun _ => rfl)))
    | split

theorem State.dropStaging_kept {orig s : State} (h : Kept orig s) (vw : Nat) : Kept orig (State.dropStaging s vw) := by
  unfold State.dropStaging
  repeat any_goals first
    | with_reducible assumption
    | intro s x h
    | with_reducible apply Kept.ite
    | fail_if_no_progress (with_reducible refine Kept.frame ?_ (by rfl) (by rfl) (by rfl) (by rfl) (by rfl) (by rfl) (by first | exact Nat.le_refl _ | exact Nat.le_add_right _ _ | with_unfolding_all exact Nat.le_add_right _ _) (by rfl) (by rfl) (by rfl) (by first | exact fun y => y | (with_unfolding_all exact fun y => Mem.wf_writeLE _ _ _ _ y) | (with_unfolding_all exact fun y => Mem.wf_writeByte _ _ _ y) | (with_unfolding_all exact fun y => Mem.wf_clearRange _ _ _ y) | (with_unfolding_all exact fun _ => rfl)) (by first | exact fun y => y | (with_unfolding_all exact fun y => Sparse.wf_set _ _ _ _ y) | (with_unfolding_all exact fun _ => rfl)))
    | split

theorem State.flrOne_kept {orig s : State} (h : Kept orig s) (vw : Nat) : Kept orig (State.flrOne s vw) := by
  unfold State.flrOne
  repeat any_goals first
    | with_reducible assumption
    | intro s x h
    | (extract_lets +onlyGivenNames x; refine Kept.of (a := orig) (x := x) ?_ ?_; rotate_left; (intro hx; clear_value x); rotate_right; subst x)
    | (extract_lets +onlyGivenNames x; first | (have keep := (x : Hbm); clear keep) | (have keep := (x : Mgmt); clear keep) | (have keep := (x : Seal); clear keep) | (have keep := (x : HostIf); clear keep) | clear_value x)
    | with_reducible apply State.setView_kept
    | with_reducible apply State.resetRegs_kept
    | with_reducible apply State.setOrder_kept
    | with_reducible apply State.dropStaging_kept

theorem State.flr_kept {orig s : State} (h : Kept orig s) (f : Nat) : Kept orig (State.flr s f) := by
  unfold State.flr
  repeat any_goals first
    | with_reducible assumption
    | intro s x h
    | with_reducible apply Kept.ite
    | with_reducible apply State.sealFlr_kept
    | with_reducible apply State.flrOne_kept
    | with_reducible refine Kept.foldl ?_ (fun s x h => ?_)
    | fail_if_no_progress (with_reducible refine Kept.frame ?_ (by rfl) (by rfl) (by rfl) (by rfl) (by rfl) (by rfl) (by first | exact Nat.le_refl _ | exact Nat.le_add_right _ _ | with_unfolding_all exact Nat.le_add_right _ _) (by rfl) (by rfl) (by rfl) (by first | exact fun y => y | (with_unfolding_all exact fun y => Mem.wf_writeLE _ _ _ _ y) | (with_unfolding_all exact fun y => Mem.wf_writeByte _ _ _ y) | (with_unfolding_all exact fun y => Mem.wf_clearRange _ _ _ y) | (with_unfolding_all exact fun _ => rfl)) (by first | exact fun y => y | (with_unfolding_all exact fun y => Sparse.wf_set _ _ _ _ y) | (with_unfolding_all exact fun _ => rfl)))
    | split

theorem State.vfBind_kept {orig s : State} (h : Kept orig s) (v : Nat) (data : Reg64) : KeptO id orig (State.vfBind s v data) := by
  unfold State.vfBind
  repeat any_goals first
    | with_reducible assumption
    | intro s x h
    | (extract_lets +onlyGivenNames x; refine Kept.of (a := orig) (x := x) ?_ ?_; rotate_left; (intro hx; clear_value x); rotate_right; subst x)
    | (extract_lets +onlyGivenNames x; first | (have keep := (x : Hbm); clear keep) | (have keep := (x : Mgmt); clear keep) | (have keep := (x : Seal); clear keep) | (have keep := (x : HostIf); clear keep) | clear_value x)
    | with_reducible apply Kept.ite
    | with_reducible exact KeptO.none
    | with_reducible refine KeptO.stay ?_
    | with_reducible refine KeptO.some ?_
    | with_reducible refine KeptO.ite ?_ ?_
    | with_reducible apply State.soft_kept
    | with_reducible apply State.flrOne_kept
    | split

theorem State.configAccess_kept {orig s : State} (h : Kept orig s) (f : Nat) (off : Nat) (data : Option (BitVec 32)) : Kept orig (State.configAccess s f off data) := by
  unfold State.configAccess
  repeat any_goals first
    | with_reducible assumption
    | intro s x h
    | (extract_lets +onlyGivenNames x; refine Kept.of (a := orig) (x := x) ?_ ?_; rotate_left; (intro hx; clear_value x); rotate_right; subst x)
    | (extract_lets +onlyGivenNames x; first | (have keep := (x : Hbm); clear keep) | (have keep := (x : Mgmt); clear keep) | (have keep := (x : Seal); clear keep) | (have keep := (x : HostIf); clear keep) | clear_value x)
    | with_reducible apply Kept.ite
    | with_reducible apply State.emit_kept
    | with_reducible apply State.skip_kept
    | fail_if_no_progress (with_reducible refine Kept.frame ?_ (by rfl) (by rfl) (by rfl) (by rfl) (by rfl) (by rfl) (by first | exact Nat.le_refl _ | exact Nat.le_add_right _ _ | with_unfolding_all exact Nat.le_add_right _ _) (by rfl) (by rfl) (by rfl) (by first | exact fun y => y | (with_unfolding_all exact fun y => Mem.wf_writeLE _ _ _ _ y) | (with_unfolding_all exact fun y => Mem.wf_writeByte _ _ _ y) | (with_unfolding_all exact fun y => Mem.wf_clearRange _ _ _ y) | (with_unfolding_all exact fun _ => rfl)) (by first | exact fun y => y | (with_unfolding_all exact fun y => Sparse.wf_set _ _ _ _ y) | (with_unfolding_all exact fun _ => rfl)))
    | split

theorem State.i3cCode_kept {orig s : State} (h : Kept orig s) (c : I3cCcc) : Kept orig (State.i3cCode s c) := by
  unfold State.i3cCode
  repeat any_goals first
    | with_reducible assumption
    | intro s x h
    | (extract_lets +onlyGivenNames x; refine Kept.of (a := orig) (x := x) ?_ ?_; rotate_left; (intro hx; clear_value x); rotate_right; subst x)
    | (extract_lets +onlyGivenNames x; first | (have keep := (x : Hbm); clear keep) | (have keep := (x : Mgmt); clear keep) | (have keep := (x : Seal); clear keep) | (have keep := (x : HostIf); clear keep) | clear_value x)
    | with_reducible apply Kept.ite
    | fail_if_no_progress (with_reducible refine Kept.frame ?_ (by rfl) (by rfl) (by rfl) (by rfl) (by rfl) (by rfl) (by first | exact Nat.le_refl _ | exact Nat.le_add_right _ _ | with_unfolding_all exact Nat.le_add_right _ _) (by rfl) (by rfl) (by rfl) (by first | exact fun y => y | (with_unfolding_all exact fun y => Mem.wf_writeLE _ _ _ _ y) | (with_unfolding_all exact fun y => Mem.wf_writeByte _ _ _ y) | (with_unfolding_all exact fun y => Mem.wf_clearRange _ _ _ y) | (with_unfolding_all exact fun _ => rfl)) (by first | exact fun y => y | (with_unfolding_all exact fun y => Sparse.wf_set _ _ _ _ y) | (with_unfolding_all exact fun _ => rfl)))
    | split

theorem State.takeCounters_kept {orig s : State} (h : Kept orig s) (f : Nat → Fld) : KeptV Got.after orig (s.takeCounters f) :=
  Kept.foldl h (fun _ _ h => State.rcClear_kept h _)

theorem State.takeCounters_kept1 {orig s : State} (h : Kept orig s) (f : Nat → Fld) : Kept orig (s.takeCounters f).after :=
  State.takeCounters_kept h f

theorem State.readConfl_kept {orig s : State} (h : Kept orig s) (pb : Nat) : KeptV Got.after orig (State.readConfl s pb) := by
  unfold State.readConfl
  repeat any_goals first
    | with_reducible assumption
    | intro s x h
    | (extract_lets +onlyGivenNames x; refine Kept.of (a := orig) (x := x) ?_ ?_; rotate_left; (intro hx; clear_value x); rotate_right; subst x)
    | (extract_lets +onlyGivenNames x; first | (have keep := (x : Hbm); clear keep) | (have keep := (x : Mgmt); clear keep) | (have keep := (x : Seal); clear keep) | (have keep := (x : HostIf); clear keep) | clear_value x)
    | with_reducible refine KeptV.ite ?_ ?_
    | with_reducible refine KeptV.fst ?_
    | with_reducible refine KeptV.snd ?_
    | with_reducible refine KeptV.reply ?_
    | with_reducible refine KeptV.got ?_
    | with_reducible apply State.setReg_kept
    | with_reducible apply State.wr_kept
    | with_reducible refine Kept.foldl ?_ (fun s x h => ?_)

theorem State.readConfl_kept1 {orig s : State} (h : Kept orig s) (pb : Nat) : Kept orig (State.readConfl s pb).after := State.readConfl_kept h pb

theorem State.readBasinConfl_kept {orig s : State} (h : Kept orig s) : KeptV Got.after orig (State.readBasinConfl s) := by
  unfold State.readBasinConfl
  repeat any_goals first
    | with_reducible assumption
    | intro s x h
    | (extract_lets +onlyGivenNames x; refine Kept.of (a := orig) (x := x) ?_ ?_; rotate_left; (intro hx; clear_value x); rotate_right; subst x)
    | (extract_lets +onlyGivenNames x; refine Kept.of (a := orig) (x := x.after) ?_ ?_; rotate_left; (intro hx; clear_value x); rotate_right; subst x)
    | (extract_lets +onlyGivenNames x; first | (have keep := (x : Hbm); clear keep) | (have keep := (x : Mgmt); clear keep) | (have keep := (x : Seal); clear keep) | (have keep := (x : HostIf); clear keep) | clear_value x)
    | with_reducible refine KeptV.ite ?_ ?_
    | with_reducible refine KeptV.fst ?_
    | with_reducible refine KeptV.snd ?_
    | with_reducible refine KeptV.reply ?_
    | with_reducible refine KeptV.got ?_
    | with_reducible apply State.wr_kept
    | with_reducible apply State.takeCounters_kept
    | with_reducible apply State.takeCounters_kept1
    | with_reducible apply State.takeCounters_kept

theorem State.readBasinConfl_kept1 {orig s : State} (h : Kept orig s) : Kept orig (State.readBasinConfl s).after := State.readBasinConfl_kept h 

theorem State.readTemp_kept {orig s : State} (h : Kept orig s) : KeptV Got.after orig (State.readTemp s) := by
  unfold State.readTemp
  repeat any_goals first
    | with_reducible assumption
    | intro s x h
    | (extract_lets +onlyGivenNames x; refine Kept.of (a := orig) (x := x) ?_ ?_; rotate_left; (intro hx; clear_value x); rotate_right; subst x)
    | (extract_lets +onlyGivenNames x; first | (have keep := (x : Hbm); clear keep) | (have keep := (x : Mgmt); clear keep) | (have keep := (x : Seal); clear keep) | (have keep := (x : HostIf); clear keep) | clear_value x)
    | with_reducible refine KeptV.ite ?_ ?_
    | with_reducible refine KeptV.fst ?_
    | with_reducible refine KeptV.snd ?_
    | with_reducible refine KeptV.reply ?_
    | with_reducible refine KeptV.got ?_
    | with_reducible apply State.wr_kept
    | with_reducible apply State.rcClear_kept

theorem State.readTemp_kept1 {orig s : State} (h : Kept orig s) : Kept orig (State.readTemp s).after := State.readTemp_kept h 

theorem State.advance_kept {orig s : State} (h : Kept orig s) (f : Fld) : Kept orig (State.advance s f) := by
  unfold State.advance
  repeat any_goals first
    | with_reducible assumption
    | intro s x h
    | with_reducible apply State.wr_kept

theorem State.readBench_kept {orig s : State} (h : Kept orig s) (vw pb o : Nat) : KeptO Got.after orig (s.readBench vw pb o) := by
  unfold State.readBench
  extract_lets k halted
  repeat any_goals first
    | with_reducible assumption
    | with_reducible exact KeptO.none
    | with_reducible refine KeptO.ite ?_ ?_
    | with_reducible exact KeptO.map (State.fmMemRead_kept h pb) (fun _ => rfl)
    | with_reducible exact KeptO.map (State.tblRead_kept h pb) (fun _ => rfl)
    | with_reducible refine KeptO.some ?_
    | with_reducible exact State.readConfl_kept1 h pb
    | with_reducible exact State.weirNext_kept h pb
    | with_reducible exact State.skip_kept (State.clearRc_kept h _)
    | with_reducible exact State.clearRc_kept h _

theorem State.readReg_kept {orig s : State} (h : Kept orig s) (vw : Nat) (o : Nat) : KeptO Got.after orig (State.readReg s vw o) := by
  unfold State.readReg
  repeat any_goals first
    | with_reducible assumption
    | intro s x h
    | (extract_lets +onlyGivenNames x; refine Kept.of (a := orig) (x := x) ?_ ?_; rotate_left; (intro hx; clear_value x); rotate_right; subst x)
    | (extract_lets +onlyGivenNames x; refine Kept.of (a := orig) (x := x.1) ?_ ?_; rotate_left; (intro hx; clear_value x); rotate_right; subst x)
    | (extract_lets +onlyGivenNames x; refine Kept.of (a := orig) (x := x.2) ?_ ?_; rotate_left; (intro hx; clear_value x); rotate_right; subst x)
    | (extract_lets +onlyGivenNames x; first | (have keep := (x : Hbm); clear keep) | (have keep := (x : Mgmt); clear keep) | (have keep := (x : Seal); clear keep) | (have keep := (x : HostIf); clear keep) | clear_value x)
    | with_reducible apply Kept.ite
    | with_reducible exact KeptO.none
    | with_reducible refine KeptO.stay ?_
    | with_reducible refine KeptO.some ?_
    | with_reducible refine KeptO.ite ?_ ?_
    | with_reducible apply State.clearRc_kept
    | with_reducible apply State.dataRead_kept1
    | with_reducible apply State.dataRead_kept
    | with_reducible apply State.spoilRead_kept1
    | with_reducible apply State.spoilRead_kept
    | with_reducible apply State.readBasinConfl_kept
    | with_reducible apply State.readBasinConfl_kept1
    | with_reducible apply State.readBasinConfl_kept
    | with_reducible apply State.readTemp_kept
    | with_reducible apply State.readTemp_kept1
    | with_reducible apply State.readTemp_kept
    | with_reducible apply State.advance_kept
    | with_reducible apply State.readBench_kept
    | (refine Kept.ofO (g := Got.after) (State.readBench_kept ?_ _ _ _) (by assumption))
    | fail_if_no_progress (with_reducible refine Kept.frame ?_ (by rfl) (by rfl) (by rfl) (by rfl) (by rfl) (by rfl) (by first | exact Nat.le_refl _ | exact Nat.le_add_right _ _ | with_unfolding_all exact Nat.le_add_right _ _) (by rfl) (by rfl) (by rfl) (by first | exact fun y => y | (with_unfolding_all exact fun y => Mem.wf_writeLE _ _ _ _ y) | (with_unfolding_all exact fun y => Mem.wf_writeByte _ _ _ y) | (with_unfolding_all exact fun y => Mem.wf_clearRange _ _ _ y) | (with_unfolding_all exact fun _ => rfl)) (by first | exact fun y => y | (with_unfolding_all exact fun y => Sparse.wf_set _ _ _ _ y) | (with_unfolding_all exact fun _ => rfl)))
    | split

theorem State.writeDevctl_kept {orig s : State} (h : Kept orig s) (vw : Nat) (o : Nat) (data : Reg64) : KeptO id orig (State.writeDevctl s vw o data) := by
  unfold State.writeDevctl
  repeat any_goals first
    | with_reducible assumption
    | intro s x h
    | (extract_lets +onlyGivenNames x; refine Kept.of (a := orig) (x := x) ?_ ?_; rotate_left; (intro hx; clear_value x); rotate_right; subst x)
    | (extract_lets +onlyGivenNames x; first | (have keep := (x : Hbm); clear keep) | (have keep := (x : Mgmt); clear keep) | (have keep := (x : Seal); clear keep) | (have keep := (x : HostIf); clear keep) | clear_value x)
    | with_reducible apply Kept.ite
    | with_reducible exact KeptO.none
    | with_reducible refine KeptO.stay ?_
    | with_reducible refine KeptO.some ?_
    | with_reducible refine KeptO.ite ?_ ?_
    | with_reducible apply State.soft_kept
    | with_reducible apply State.setPageOwner_kept
    | with_reducible apply State.leaseStart_kept
    | with_reducible apply State.primeCmd_kept
    | with_reducible apply State.chainCmd_kept
    | with_reducible apply State.keyCmd_kept
    | with_reducible apply State.fillStart_kept
    | with_reducible apply State.advance_kept
    | split

theorem State.writeGauge_kept {orig s : State} (h : Kept orig s) (vw : Nat) (o : Nat) (data : Reg64) : KeptO id orig (State.writeGauge s vw o data) := by
  unfold State.writeGauge
  repeat any_goals first
    | with_reducible assumption
    | intro s x h
    | (extract_lets +onlyGivenNames x; refine Kept.of (a := orig) (x := x) ?_ ?_; rotate_left; (intro hx; clear_value x); rotate_right; subst x)
    | (extract_lets +onlyGivenNames x; first | (have keep := (x : Hbm); clear keep) | (have keep := (x : Mgmt); clear keep) | (have keep := (x : Seal); clear keep) | (have keep := (x : HostIf); clear keep) | clear_value x)
    | with_reducible apply Kept.ite
    | with_reducible exact KeptO.none
    | with_reducible refine KeptO.stay ?_
    | with_reducible refine KeptO.some ?_
    | with_reducible refine KeptO.ite ?_ ?_
    | with_reducible apply State.soft_kept
    | with_reducible apply State.throttleWrite_kept
    | with_reducible apply State.timeCtlWrite_kept
    | with_reducible apply State.spoilClear_kept
    | split

theorem State.writeHif_kept {orig s : State} (h : Kept orig s) (vw : Nat) (o : Nat) (data : Reg64) : KeptO id orig (State.writeHif s vw o data) := by
  unfold State.writeHif
  repeat any_goals first
    | with_reducible assumption
    | intro s x h
    | (extract_lets +onlyGivenNames x; refine Kept.of (a := orig) (x := x) ?_ ?_; rotate_left; (intro hx; clear_value x); rotate_right; subst x)
    | (extract_lets +onlyGivenNames x; first | (have keep := (x : Hbm); clear keep) | (have keep := (x : Mgmt); clear keep) | (have keep := (x : Seal); clear keep) | (have keep := (x : HostIf); clear keep) | clear_value x)
    | with_reducible apply Kept.ite
    | with_reducible exact KeptO.none
    | with_reducible refine KeptO.stay ?_
    | with_reducible refine KeptO.some ?_
    | with_reducible refine KeptO.ite ?_ ?_
    | with_reducible apply State.soft_kept
    | with_reducible apply State.mgmtCmdWrite_kept
    | with_reducible apply State.dataWrite_kept
    | with_reducible apply State.bellWrite_kept
    | with_reducible apply State.mboxCfg_kept
    | (refine Kept.ofO (g := id) (State.mboxCfg_kept ?_ _ _ _) (by assumption))
    | with_reducible apply State.mboxAck_kept
    | with_reducible apply State.vfBind_kept
    | (refine Kept.ofO (g := id) (State.vfBind_kept ?_ _ _) (by assumption))
    | fail_if_no_progress (with_reducible refine Kept.frame ?_ (by rfl) (by rfl) (by rfl) (by rfl) (by rfl) (by rfl) (by first | exact Nat.le_refl _ | exact Nat.le_add_right _ _ | with_unfolding_all exact Nat.le_add_right _ _) (by rfl) (by rfl) (by rfl) (by first | exact fun y => y | (with_unfolding_all exact fun y => Mem.wf_writeLE _ _ _ _ y) | (with_unfolding_all exact fun y => Mem.wf_writeByte _ _ _ y) | (with_unfolding_all exact fun y => Mem.wf_clearRange _ _ _ y) | (with_unfolding_all exact fun _ => rfl)) (by first | exact fun y => y | (with_unfolding_all exact fun y => Sparse.wf_set _ _ _ _ y) | (with_unfolding_all exact fun _ => rfl)))
    | split

theorem State.writeMgmt_kept {orig s : State} (h : Kept orig s) (vw : Nat) (o : Nat) (data : Reg64) : KeptO id orig (State.writeMgmt s vw o data) := by
  unfold State.writeMgmt
  repeat any_goals first
    | with_reducible assumption
    | intro s x h
    | (extract_lets +onlyGivenNames x; refine Kept.of (a := orig) (x := x) ?_ ?_; rotate_left; (intro hx; clear_value x); rotate_right; subst x)
    | (extract_lets +onlyGivenNames x; first | (have keep := (x : Hbm); clear keep) | (have keep := (x : Mgmt); clear keep) | (have keep := (x : Seal); clear keep) | (have keep := (x : HostIf); clear keep) | clear_value x)
    | with_reducible apply Kept.ite
    | with_reducible exact KeptO.none
    | with_reducible refine KeptO.stay ?_
    | with_reducible refine KeptO.some ?_
    | with_reducible refine KeptO.ite ?_ ?_
    | with_reducible apply State.soft_kept
    | with_reducible apply State.offerVersion_kept
    | split

theorem State.defaultAlloc_kept {orig s : State} (h : Kept orig s) (lk : Nat) (half : Bool) : Kept orig (State.defaultAlloc s lk half) := by
  unfold State.defaultAlloc
  repeat any_goals first
    | with_reducible assumption
    | intro s x h
    | with_reducible apply State.wr_kept
    | with_reducible refine Kept.foldl ?_ (fun s x h => ?_)

theorem State.writePortCtl_kept {orig s : State} (h : Kept orig s) (lk : Nat) (data : Reg64) : KeptO id orig (State.writePortCtl s lk data) := by
  unfold State.writePortCtl
  repeat any_goals first
    | with_reducible assumption
    | intro s x h
    | (extract_lets +onlyGivenNames x; refine Kept.of (a := orig) (x := x) ?_ ?_; rotate_left; (intro hx; clear_value x); rotate_right; subst x)
    | (extract_lets +onlyGivenNames x; first | (have keep := (x : Hbm); clear keep) | (have keep := (x : Mgmt); clear keep) | (have keep := (x : Seal); clear keep) | (have keep := (x : HostIf); clear keep) | clear_value x)
    | with_reducible apply Kept.ite
    | with_reducible exact KeptO.none
    | with_reducible refine KeptO.stay ?_
    | with_reducible refine KeptO.some ?_
    | with_reducible refine KeptO.ite ?_ ?_
    | with_reducible apply State.soft_kept
    | with_reducible apply State.linkEnableNow_kept
    | with_reducible apply State.linkDisableNow_kept
    | with_reducible apply State.linkRetrainNow_kept
    | with_reducible apply State.llResetNow_kept
    | with_reducible apply State.defaultAlloc_kept
    | split

theorem State.writeCredit_kept {orig s : State} (h : Kept orig s) (lk : Nat) (v : Nat) (data : Reg64) : KeptO id orig (State.writeCredit s lk v data) := by
  unfold State.writeCredit
  dsimp only
  repeat any_goals first
    | with_reducible assumption
    | intro s x h
    | with_reducible apply Kept.ite
    | with_reducible exact KeptO.none
    | with_reducible refine KeptO.stay ?_
    | with_reducible refine KeptO.some ?_
    | with_reducible refine KeptO.ite ?_ ?_
    | with_reducible apply State.wr_kept
    | with_reducible refine Kept.foldl ?_ (fun s x h => ?_)
    | split

theorem State.writeFab_kept {orig s : State} (h : Kept orig s) (o : Nat) (data : Reg64) : KeptO id orig (State.writeFab s o data) := by
  unfold State.writeFab
  repeat any_goals first
    | with_reducible assumption
    | intro s x h
    | (extract_lets +onlyGivenNames x; refine Kept.of (a := orig) (x := x) ?_ ?_; rotate_left; (intro hx; clear_value x); rotate_right; subst x)
    | (extract_lets +onlyGivenNames x; first | (have keep := (x : Hbm); clear keep) | (have keep := (x : Mgmt); clear keep) | (have keep := (x : Seal); clear keep) | (have keep := (x : HostIf); clear keep) | clear_value x)
    | with_reducible apply Kept.ite
    | with_reducible exact KeptO.none
    | with_reducible refine KeptO.stay ?_
    | with_reducible refine KeptO.some ?_
    | with_reducible refine KeptO.ite ?_ ?_
    | with_reducible apply State.soft_kept
    | with_reducible apply State.writePortCtl_kept
    | (refine Kept.ofO (g := id) (State.writePortCtl_kept ?_ _ _) (by assumption))
    | with_reducible apply State.writeCredit_kept
    | (refine Kept.ofO (g := id) (State.writeCredit_kept ?_ _ _ _) (by assumption))
    | split

theorem State.writeTrib_kept {orig s : State} (h : Kept orig s) (data : Reg64) : Kept orig (State.writeTrib s data) := by
  unfold State.writeTrib
  repeat any_goals first
    | with_reducible assumption
    | intro s x h
    | (extract_lets +onlyGivenNames x; refine Kept.of (a := orig) (x := x) ?_ ?_; rotate_left; (intro hx; clear_value x); rotate_right; subst x)
    | (extract_lets +onlyGivenNames x; first | (have keep := (x : Hbm); clear keep) | (have keep := (x : Mgmt); clear keep) | (have keep := (x : Seal); clear keep) | (have keep := (x : HostIf); clear keep) | clear_value x)
    | with_reducible apply Kept.ite
    | with_reducible apply State.setTrib_kept
    | with_reducible apply State.advance_kept
    | fail_if_no_progress (with_reducible refine Kept.frame ?_ (by rfl) (by rfl) (by rfl) (by rfl) (by rfl) (by rfl) (by first | exact Nat.le_refl _ | exact Nat.le_add_right _ _ | with_unfolding_all exact Nat.le_add_right _ _) (by rfl) (by rfl) (by rfl) (by first | exact fun y => y | (with_unfolding_all exact fun y => Mem.wf_writeLE _ _ _ _ y) | (with_unfolding_all exact fun y => Mem.wf_writeByte _ _ _ y) | (with_unfolding_all exact fun y => Mem.wf_clearRange _ _ _ y) | (with_unfolding_all exact fun _ => rfl)) (by first | exact fun y => y | (with_unfolding_all exact fun y => Sparse.wf_set _ _ _ _ y) | (with_unfolding_all exact fun _ => rfl)))
    | split

theorem State.writeHall_kept {orig s : State} (h : Kept orig s) (vw : Nat) (o : Nat) (data : Reg64) : KeptO id orig (State.writeHall s vw o data) := by
  unfold State.writeHall
  repeat any_goals first
    | with_reducible assumption
    | intro s x h
    | (extract_lets +onlyGivenNames x; refine Kept.of (a := orig) (x := x) ?_ ?_; rotate_left; (intro hx; clear_value x); rotate_right; subst x)
    | (extract_lets +onlyGivenNames x; first | (have keep := (x : Hbm); clear keep) | (have keep := (x : Mgmt); clear keep) | (have keep := (x : Seal); clear keep) | (have keep := (x : HostIf); clear keep) | clear_value x)
    | with_reducible apply Kept.ite
    | with_reducible exact KeptO.none
    | with_reducible refine KeptO.stay ?_
    | with_reducible refine KeptO.some ?_
    | with_reducible refine KeptO.ite ?_ ?_
    | with_reducible apply State.setReg_kept
    | with_reducible apply State.soft_kept
    | with_reducible apply State.setGen_kept
    | with_reducible apply State.tblCmd_kept
    | with_reducible apply State.cflCmd_kept
    | with_reducible apply State.snapWrite_kept
    | with_reducible apply State.fresetWrite_kept
    | with_reducible apply State.advance_kept
    | with_reducible apply State.writeTrib_kept
    | split

theorem State.testChannel_kept {orig s : State} (h : Kept orig s) (c : Nat) (st : Nat) : Kept orig (State.testChannel s c st) := by
  unfold State.testChannel
  repeat any_goals first
    | with_reducible assumption
    | intro s x h
    | (extract_lets +onlyGivenNames x; refine Kept.of (a := orig) (x := x) ?_ ?_; rotate_left; (intro hx; clear_value x); rotate_right; subst x)
    | (extract_lets +onlyGivenNames x; first | (have keep := (x : Hbm); clear keep) | (have keep := (x : Mgmt); clear keep) | (have keep := (x : Seal); clear keep) | (have keep := (x : HostIf); clear keep) | clear_value x)
    | with_reducible apply Kept.ite
    | with_reducible apply State.wr_kept
    | split

theorem State.writeMemc_kept {orig s : State} (h : Kept orig s) (vw : Nat) (o : Nat) (data : Reg64) : KeptO id orig (State.writeMemc s vw o data) := by
  unfold State.writeMemc
  repeat any_goals first
    | with_reducible assumption
    | intro s x h
    | (extract_lets +onlyGivenNames x; refine Kept.of (a := orig) (x := x) ?_ ?_; rotate_left; (intro hx; clear_value x); rotate_right; subst x)
    | (extract_lets +onlyGivenNames x; first | (have keep := (x : Hbm); clear keep) | (have keep := (x : Mgmt); clear keep) | (have keep := (x : Seal); clear keep) | (have keep := (x : HostIf); clear keep) | clear_value x)
    | with_reducible apply Kept.ite
    | with_reducible exact KeptO.none
    | with_reducible refine KeptO.stay ?_
    | with_reducible refine KeptO.some ?_
    | with_reducible refine KeptO.ite ?_ ?_
    | with_reducible apply State.soft_kept
    | with_reducible apply State.tgWrite_kept
    | with_reducible apply State.testChannel_kept
    | split

theorem State.writeReg_kept {orig s : State} (h : Kept orig s) (vw : Nat) (o : Nat) (data : Reg64) : KeptO id orig (State.writeReg s vw o data) := by
  unfold State.writeReg
  repeat any_goals first
    | with_reducible assumption
    | intro s x h
    | with_reducible apply Kept.ite
    | with_reducible exact KeptO.none
    | with_reducible refine KeptO.stay ?_
    | with_reducible refine KeptO.some ?_
    | with_reducible refine KeptO.ite ?_ ?_
    | with_reducible apply State.soft_kept
    | with_reducible apply State.benchWrite_kept
    | (refine Kept.ofO (g := id) (State.benchWrite_kept ?_ _ _ _) (by assumption))
    | with_reducible apply State.writeDevctl_kept
    | (refine Kept.ofO (g := id) (State.writeDevctl_kept ?_ _ _ _) (by assumption))
    | with_reducible apply State.writeGauge_kept
    | (refine Kept.ofO (g := id) (State.writeGauge_kept ?_ _ _ _) (by assumption))
    | with_reducible apply State.writeHif_kept
    | (refine Kept.ofO (g := id) (State.writeHif_kept ?_ _ _ _) (by assumption))
    | with_reducible apply State.writeMgmt_kept
    | (refine Kept.ofO (g := id) (State.writeMgmt_kept ?_ _ _ _) (by assumption))
    | with_reducible apply State.writeFab_kept
    | (refine Kept.ofO (g := id) (State.writeFab_kept ?_ _ _) (by assumption))
    | with_reducible apply State.writeHall_kept
    | (refine Kept.ofO (g := id) (State.writeHall_kept ?_ _ _ _) (by assumption))
    | with_reducible apply State.writeMemc_kept
    | (refine Kept.ofO (g := id) (State.writeMemc_kept ?_ _ _ _) (by assumption))
    | split

theorem State.judgedRead_kept {orig s : State} (h : Kept orig s) (vw : Nat) (o : Nat) : KeptO Got.after orig (State.judgedRead s vw o) := by
  unfold State.judgedRead
  repeat any_goals first
    | with_reducible assumption
    | intro s x h
    | with_reducible apply Kept.ite
    | with_reducible exact KeptO.none
    | with_reducible refine KeptO.stay ?_
    | with_reducible refine KeptO.some ?_
    | with_reducible refine KeptO.ite ?_ ?_
    | with_reducible apply State.readReg_kept
    | (refine Kept.ofO (g := Got.after) (State.readReg_kept ?_ _ _) (by assumption))
    | fail_if_no_progress (with_reducible refine Kept.frame ?_ (by rfl) (by rfl) (by rfl) (by rfl) (by rfl) (by rfl) (by first | exact Nat.le_refl _ | exact Nat.le_add_right _ _ | with_unfolding_all exact Nat.le_add_right _ _) (by rfl) (by rfl) (by rfl) (by first | exact fun y => y | (with_unfolding_all exact fun y => Mem.wf_writeLE _ _ _ _ y) | (with_unfolding_all exact fun y => Mem.wf_writeByte _ _ _ y) | (with_unfolding_all exact fun y => Mem.wf_clearRange _ _ _ y) | (with_unfolding_all exact fun _ => rfl)) (by first | exact fun y => y | (with_unfolding_all exact fun y => Sparse.wf_set _ _ _ _ y) | (with_unfolding_all exact fun _ => rfl)))
    | split

theorem State.judgedWrite_kept {orig s : State} (h : Kept orig s) (vw : Nat) (o : Nat) (data : Reg64) : KeptO id orig (State.judgedWrite s vw o data) := by
  unfold State.judgedWrite
  repeat any_goals first
    | with_reducible assumption
    | intro s x h
    | with_reducible apply Kept.ite
    | with_reducible exact KeptO.none
    | with_reducible refine KeptO.stay ?_
    | with_reducible refine KeptO.some ?_
    | with_reducible refine KeptO.ite ?_ ?_
    | with_reducible apply State.writeReg_kept
    | (refine Kept.ofO (g := id) (State.writeReg_kept ?_ _ _ _) (by assumption))
    | fail_if_no_progress (with_reducible refine Kept.frame ?_ (by rfl) (by rfl) (by rfl) (by rfl) (by rfl) (by rfl) (by first | exact Nat.le_refl _ | exact Nat.le_add_right _ _ | with_unfolding_all exact Nat.le_add_right _ _) (by rfl) (by rfl) (by rfl) (by first | exact fun y => y | (with_unfolding_all exact fun y => Mem.wf_writeLE _ _ _ _ y) | (with_unfolding_all exact fun y => Mem.wf_writeByte _ _ _ y) | (with_unfolding_all exact fun y => Mem.wf_clearRange _ _ _ y) | (with_unfolding_all exact fun _ => rfl)) (by first | exact fun y => y | (with_unfolding_all exact fun y => Sparse.wf_set _ _ _ _ y) | (with_unfolding_all exact fun _ => rfl)))
    | split

theorem State.refuseAccess_kept {orig s : State} (h : Kept orig s) (vw : Nat) (write : Bool) (o : Nat) : Kept orig (State.refuseAccess s vw write o) := by
  unfold State.refuseAccess
  repeat any_goals first
    | with_reducible assumption
    | intro s x h
    | with_reducible apply State.accessError_kept

theorem State.regRead_kept {orig s : State} (h : Kept orig s) (vw : Nat) (o : Nat) : KeptV Got.after orig (State.regRead s vw o) := by
  unfold State.regRead
  repeat any_goals first
    | with_reducible assumption
    | intro s x h
    | with_reducible refine KeptV.ite ?_ ?_
    | with_reducible refine KeptV.fst ?_
    | with_reducible refine KeptV.snd ?_
    | with_reducible refine KeptV.reply ?_
    | with_reducible refine KeptV.got ?_
    | with_reducible apply State.judgedRead_kept
    | (refine Kept.ofO (g := Got.after) (State.judgedRead_kept ?_ _ _) (by assumption))
    | with_reducible apply State.refuseAccess_kept
    | fail_if_no_progress (with_reducible refine Kept.frame ?_ (by rfl) (by rfl) (by rfl) (by rfl) (by rfl) (by rfl) (by first | exact Nat.le_refl _ | exact Nat.le_add_right _ _ | with_unfolding_all exact Nat.le_add_right _ _) (by rfl) (by rfl) (by rfl) (by first | exact fun y => y | (with_unfolding_all exact fun y => Mem.wf_writeLE _ _ _ _ y) | (with_unfolding_all exact fun y => Mem.wf_writeByte _ _ _ y) | (with_unfolding_all exact fun y => Mem.wf_clearRange _ _ _ y) | (with_unfolding_all exact fun _ => rfl)) (by first | exact fun y => y | (with_unfolding_all exact fun y => Sparse.wf_set _ _ _ _ y) | (with_unfolding_all exact fun _ => rfl)))
    | split

theorem State.regRead_kept1 {orig s : State} (h : Kept orig s) (vw : Nat) (o : Nat) : Kept orig (State.regRead s vw o).after := State.regRead_kept h vw o

theorem State.regWrite_kept {orig s : State} (h : Kept orig s) (vw : Nat) (o : Nat) (data : Reg64) : Kept orig (State.regWrite s vw o data) := by
  unfold State.regWrite
  repeat any_goals first
    | with_reducible assumption
    | intro s x h
    | with_reducible apply State.judgedWrite_kept
    | (refine Kept.ofO (g := id) (State.judgedWrite_kept ?_ _ _ _) (by assumption))
    | with_reducible apply State.refuseAccess_kept
    | fail_if_no_progress (with_reducible refine Kept.frame ?_ (by rfl) (by rfl) (by rfl) (by rfl) (by rfl) (by rfl) (by first | exact Nat.le_refl _ | exact Nat.le_add_right _ _ | with_unfolding_all exact Nat.le_add_right _ _) (by rfl) (by rfl) (by rfl) (by first | exact fun y => y | (with_unfolding_all exact fun y => Mem.wf_writeLE _ _ _ _ y) | (with_unfolding_all exact fun y => Mem.wf_writeByte _ _ _ y) | (with_unfolding_all exact fun y => Mem.wf_clearRange _ _ _ y) | (with_unfolding_all exact fun _ => rfl)) (by first | exact fun y => y | (with_unfolding_all exact fun y => Sparse.wf_set _ _ _ _ y) | (with_unfolding_all exact fun _ => rfl)))
    | split

theorem State.busRead_kept {orig s : State} (h : Kept orig s) (v : View) (o : Nat) : Kept orig (State.busRead s v o) := by
  unfold State.busRead
  repeat any_goals first
    | with_reducible assumption
    | intro s x h
    | (extract_lets +onlyGivenNames x; refine Kept.of (a := orig) (x := x) ?_ ?_; rotate_left; (intro hx; clear_value x); rotate_right; subst x)
    | (extract_lets +onlyGivenNames x; refine Kept.of (a := orig) (x := x.after) ?_ ?_; rotate_left; (intro hx; clear_value x); rotate_right; subst x)
    | (extract_lets +onlyGivenNames x; first | (have keep := (x : Hbm); clear keep) | (have keep := (x : Mgmt); clear keep) | (have keep := (x : Seal); clear keep) | (have keep := (x : HostIf); clear keep) | clear_value x)
    | with_reducible apply Kept.ite
    | with_reducible apply State.emit_kept
    | with_reducible apply State.regRead_kept
    | with_reducible apply State.regRead_kept1
    | with_reducible apply State.regRead_kept
    | split

theorem State.busWrite_kept {orig s : State} (h : Kept orig s) (v : View) (o : Nat) (data : Reg64) : Kept orig (State.busWrite s v o data) := by
  unfold State.busWrite
  repeat any_goals first
    | with_reducible assumption
    | intro s x h
    | with_reducible apply Kept.ite
    | with_reducible apply State.regWrite_kept
    | split

theorem State.badWidth_kept {orig s : State} (h : Kept orig s) (v : View) (o : Nat) (write : Bool) (width : Nat) : Kept orig (State.badWidth s v o write width) := by
  unfold State.badWidth
  repeat any_goals first
    | with_reducible assumption
    | intro s x h
    | (extract_lets +onlyGivenNames x; refine Kept.of (a := orig) (x := x) ?_ ?_; rotate_left; (intro hx; clear_value x); rotate_right; subst x)
    | (extract_lets +onlyGivenNames x; first | (have keep := (x : Hbm); clear keep) | (have keep := (x : Mgmt); clear keep) | (have keep := (x : Seal); clear keep) | (have keep := (x : HostIf); clear keep) | clear_value x)
    | with_reducible apply Kept.ite
    | with_reducible apply State.emit_kept
    | with_reducible apply State.accessError_kept
    | split

theorem State.i3cWords_kept {orig : State} (n : Nat) : ∀ {s : State} {o : Nat} {ws : List Reg64}, Kept orig s →
    Kept orig (State.i3cWords n s o ws).2 := by
  induction n with
  | zero => intro s o ws h; exact h
  | succ n ih => intro s o ws h; exact ih (State.regRead_kept1 h ..)

theorem State.i3cRead_kept {orig s : State} (h : Kept orig s) (k : Nat) : Kept orig (State.i3cRead s k) := by
  unfold State.i3cRead
  repeat any_goals first
    | with_reducible assumption
    | intro s x h
    | (extract_lets +onlyGivenNames x; refine Kept.of (a := orig) (x := x) ?_ ?_; rotate_left; (intro hx; clear_value x); rotate_right; subst x)
    | (extract_lets +onlyGivenNames x; refine Kept.of (a := orig) (x := x.1) ?_ ?_; rotate_left; (intro hx; clear_value x); rotate_right; subst x)
    | (extract_lets +onlyGivenNames x; refine Kept.of (a := orig) (x := x.2) ?_ ?_; rotate_left; (intro hx; clear_value x); rotate_right; subst x)
    | (extract_lets +onlyGivenNames x; first | (have keep := (x : Hbm); clear keep) | (have keep := (x : Mgmt); clear keep) | (have keep := (x : Seal); clear keep) | (have keep := (x : HostIf); clear keep) | clear_value x)
    | with_reducible apply Kept.ite
    | with_reducible apply State.setView_kept
    | with_reducible apply State.emit_kept
    | with_reducible refine State.i3cWords_kept _ ?_
    | fail_if_no_progress (with_reducible refine Kept.frame ?_ (by rfl) (by rfl) (by rfl) (by rfl) (by rfl) (by rfl) (by first | exact Nat.le_refl _ | exact Nat.le_add_right _ _ | with_unfolding_all exact Nat.le_add_right _ _) (by rfl) (by rfl) (by rfl) (by first | exact fun y => y | (with_unfolding_all exact fun y => Mem.wf_writeLE _ _ _ _ y) | (with_unfolding_all exact fun y => Mem.wf_writeByte _ _ _ y) | (with_unfolding_all exact fun y => Mem.wf_clearRange _ _ _ y) | (with_unfolding_all exact fun _ => rfl)) (by first | exact fun y => y | (with_unfolding_all exact fun y => Sparse.wf_set _ _ _ _ y) | (with_unfolding_all exact fun _ => rfl)))
    | split

theorem State.i3cWrite_kept {orig s : State} (h : Kept orig s) (o : Nat) (ws : List Reg64) : Kept orig (State.i3cWrite s o ws) := by
  unfold State.i3cWrite
  repeat any_goals first
    | with_reducible assumption
    | intro s x h
    | with_reducible apply Kept.ite
    | with_reducible apply State.setView_kept
    | with_reducible apply State.refuseAccess_kept
    | with_reducible apply State.regWrite_kept
    | with_reducible refine Kept.foldl ?_ (fun s x h => ?_)
    | fail_if_no_progress (with_reducible refine Kept.frame ?_ (by rfl) (by rfl) (by rfl) (by rfl) (by rfl) (by rfl) (by first | exact Nat.le_refl _ | exact Nat.le_add_right _ _ | with_unfolding_all exact Nat.le_add_right _ _) (by rfl) (by rfl) (by rfl) (by first | exact fun y => y | (with_unfolding_all exact fun y => Mem.wf_writeLE _ _ _ _ y) | (with_unfolding_all exact fun y => Mem.wf_writeByte _ _ _ y) | (with_unfolding_all exact fun y => Mem.wf_clearRange _ _ _ y) | (with_unfolding_all exact fun _ => rfl)) (by first | exact fun y => y | (with_unfolding_all exact fun y => Sparse.wf_set _ _ _ _ y) | (with_unfolding_all exact fun _ => rfl)))
    | split

theorem State.live_kept {orig s : State} (h : Kept orig s)  (f : State → State)
    (k : ∀ s, Kept orig s → Kept orig (f s)) : Kept orig (s.live  f) := by
  unfold State.live
  exact Kept.ite (k _ h) h

theorem State.drainPaths_kept {orig s : State} (h : Kept orig s) : Kept orig (State.drainPaths s) := by
  unfold State.drainPaths
  repeat any_goals first
    | with_reducible assumption
    | intro s x h
    | with_reducible apply Kept.ite
    | with_reducible apply State.setView_kept
    | with_reducible refine Kept.foldl ?_ (fun s x h => ?_)
    | fail_if_no_progress (with_reducible refine Kept.frame ?_ (by rfl) (by rfl) (by rfl) (by rfl) (by rfl) (by rfl) (by first | exact Nat.le_refl _ | exact Nat.le_add_right _ _ | with_unfolding_all exact Nat.le_add_right _ _) (by rfl) (by rfl) (by rfl) (by first | exact fun y => y | (with_unfolding_all exact fun y => Mem.wf_writeLE _ _ _ _ y) | (with_unfolding_all exact fun y => Mem.wf_writeByte _ _ _ y) | (with_unfolding_all exact fun y => Mem.wf_clearRange _ _ _ y) | (with_unfolding_all exact fun _ => rfl)) (by first | exact fun y => y | (with_unfolding_all exact fun y => Sparse.wf_set _ _ _ _ y) | (with_unfolding_all exact fun _ => rfl)))
    | split

theorem State.reopenAll_kept {orig s : State} (h : Kept orig s) : Kept orig (State.reopenAll s) := by
  unfold State.reopenAll
  repeat any_goals first
    | with_reducible assumption
    | intro s x h
    | with_reducible apply State.reopenIntake_kept
    | with_reducible refine Kept.foldl ?_ (fun s x h => ?_)

theorem State.idle_kept {orig s : State} (h : Kept orig s) : Kept orig (State.idle s) := by
  unfold State.idle
  repeat any_goals first
    | with_reducible assumption
    | intro s x h
    | (extract_lets +onlyGivenNames x; refine Kept.of (a := orig) (x := x) ?_ ?_; rotate_left; (intro hx; clear_value x); rotate_right; subst x)
    | (extract_lets +onlyGivenNames x; first | (have keep := (x : Hbm); clear keep) | (have keep := (x : Mgmt); clear keep) | (have keep := (x : Seal); clear keep) | (have keep := (x : HostIf); clear keep) | clear_value x)
    | with_reducible apply Kept.ite
    | with_reducible apply State.tick_kept
    | with_reducible apply State.drainPaths_kept
    | with_reducible apply State.reopenAll_kept
    | fail_if_no_progress (with_reducible refine Kept.frame ?_ (by rfl) (by rfl) (by rfl) (by rfl) (by rfl) (by rfl) (by first | exact Nat.le_refl _ | exact Nat.le_add_right _ _ | with_unfolding_all exact Nat.le_add_right _ _) (by rfl) (by rfl) (by rfl) (by first | exact fun y => y | (with_unfolding_all exact fun y => Mem.wf_writeLE _ _ _ _ y) | (with_unfolding_all exact fun y => Mem.wf_writeByte _ _ _ y) | (with_unfolding_all exact fun y => Mem.wf_clearRange _ _ _ y) | (with_unfolding_all exact fun _ => rfl)) (by first | exact fun y => y | (with_unfolding_all exact fun y => Sparse.wf_set _ _ _ _ y) | (with_unfolding_all exact fun _ => rfl)))
    | split

theorem State.dataAccess_kept {orig s : State} (h : Kept orig s) (v : View) (o : Nat) (w : Option Reg64) : Kept orig (State.dataAccess s v o w) := by
  unfold State.dataAccess
  repeat any_goals first
    | with_reducible assumption
    | intro s x h
    | with_reducible apply State.busRead_kept
    | with_reducible apply State.busWrite_kept
    | fail_if_no_progress (with_reducible refine Kept.frame ?_ (by rfl) (by rfl) (by rfl) (by rfl) (by rfl) (by rfl) (by first | exact Nat.le_refl _ | exact Nat.le_add_right _ _ | with_unfolding_all exact Nat.le_add_right _ _) (by rfl) (by rfl) (by rfl) (by first | exact fun y => y | (with_unfolding_all exact fun y => Mem.wf_writeLE _ _ _ _ y) | (with_unfolding_all exact fun y => Mem.wf_writeByte _ _ _ y) | (with_unfolding_all exact fun y => Mem.wf_clearRange _ _ _ y) | (with_unfolding_all exact fun _ => rfl)) (by first | exact fun y => y | (with_unfolding_all exact fun y => Sparse.wf_set _ _ _ _ y) | (with_unfolding_all exact fun _ => rfl)))
    | split

theorem State.onPcie_kept {orig s : State} (h : Kept orig s)  (f : State → State)
    (k : ∀ s, Kept orig s → Kept orig (f s)) : Kept orig (s.onPcie  f) := by
  unfold State.onPcie
  exact Kept.ite (State.live_kept h _ k) h

theorem State.onLane_kept {orig s : State} (h : Kept orig s)  (f : State → State)
    (k : ∀ s, Kept orig s → Kept orig (f s)) : Kept orig (s.onLane  f) := by
  unfold State.onLane
  exact Kept.ite h (State.live_kept h _ k)

theorem State.trigHalt_kept {orig s : State} (h : Kept orig s) : Kept orig (State.trigHalt s) := by
  unfold State.trigHalt
  repeat any_goals first
    | with_reducible assumption
    | intro s x h
    | with_reducible apply Kept.ite
    | with_reducible apply State.haltBench_kept
    | with_reducible refine Kept.foldl ?_ (fun s x h => ?_)
    | split

end Sys2Proof.Machine
end

