-- ==== Sys2Proof/Tests/Slice0.lean ====
section
/-! SUPPORT. Tests: the ill-formed commands that the check refuses, a witness that meets the hypotheses of each statement, clause by clause,
and the effect that the spec states there, on small states. -/

namespace Sys2Proof.Tests

open Sys2Proof Sys2Proof.Machine

set_option Elab.async false

/-- The running device. -/
def live : State := { State.reset with power := { State.reset.power with st := .running } }

/-- The state that a command leaves. -/
def after (c : Instr) (s : State) : State :=
  match exec c s with
  | .next t => t
  | _ => s

/-- The next state of an outcome, if it has one. -/
def nextOf (o : Host.Outcome State Fault Refusal) : Option State :=
  match o with
  | .next t => some t
  | _ => none

/-- A running device in a state of Table 16.1. -/
def device (st : Nat) : State := live.setDev st 0

/-- The class of the last entry on its way to the Spoil log. -/
def lastClass (s : State) : Option Nat := (s.spoil.inFlight.getLast?).map (·.cls)

/-! ### Form -/

theorem test_ill_formed_pool_window :
    (Instr.poolWindowComplete 0 0 .compute (List.replicate 513 0) none none).wellFormed = false := by decide +kernel

theorem test_ill_formed_samples :
    (Instr.hbmTempSample (List.replicate 7 0)).wellFormed = false ∧ (Instr.dieTempSample (List.replicate 81 0)).wellFormed = false ∧
      (Instr.railSample (List.replicate 8 0) [0, 0] [0, 0, 0, 0]).wellFormed = false ∧
      (Instr.railSample (List.replicate 9 0) [0] [0, 0, 0, 0]).wellFormed = false ∧
      (Instr.railSample (List.replicate 9 0) [0, 0] [0, 0, 0]).wellFormed = false := by decide +kernel

/-- A capability block with no credits listed. -/
def emptyCap : CapBlock := ⟨0, 0, 0, 0, 0, false, false, 0, false, false, 0, 0, [], 0, false⟩

theorem test_ill_formed_link_reports :
    (Instr.linkMeasureDone 0 0 []).wellFormed = false ∧ (Instr.linkExchangeDone 0 emptyCap).wellFormed = false ∧
      (Instr.flitReceive 0 (List.replicate 255 0) false 0).wellFormed = false := by decide +kernel

theorem test_ill_formed_collective :
    (Instr.collPacketReceive ⟨0, 0, true, 0, true, 0, List.replicate 4097 0⟩).wellFormed = false := by decide +kernel

/-- An image that passes checks 1, 2 and 4. -/
def goodImage : ImageCheck := ⟨none, 7, 3, false, [1, 2, 3, 4], 0xFF, 0x0100⟩

theorem test_ill_formed_images :
    (Instr.fwStageVerified { goodImage with digests := [] } false).wellFormed = false ∧
      (Instr.bootImageVerified { goodImage with failed := some (3, 0) } false).wellFormed = false := by decide

theorem test_ill_formed_host_frames :
    (Instr.bar2Write (.fn 0) 0 []).wellFormed = false ∧ (Instr.bar2Write (.fn 0) 0 (List.replicate 4097 none)).wellFormed = false ∧
      (Instr.bar2Read (.fn 0) 0 0).wellFormed = false ∧ (Instr.bar2Read (.fn 0) 0 4097).wellFormed = false ∧
      (Instr.doorbellHostData (.fn 0) (.data [])).wellFormed = false ∧
      (Instr.doorbellHostData (.fn 0) (.data (List.replicate 4097 0))).wellFormed = false ∧
      (Instr.i3cPrivateWrite 0 (List.replicate 33 0)).wellFormed = false ∧ (Instr.i3cPrivateRead 0).wellFormed = false ∧
      (Instr.i3cPrivateRead 33).wellFormed = false := by decide +kernel

/-! ### Witnesses: the step, reset, and register accesses -/

theorem witness_StepRunsFrontCommand :
    nextOf (step { live with pending := [.ledgerWrite, .snapCut] }) = nextOf (exec .ledgerWrite { live with pending := [.snapCut] }) := by
  decide +kernel

theorem witness_EmptyQueueStepPassesOneCycle :
    (State.reset.pending = [] ∧ State.reset.running = false ∧ nextOf (step State.reset) = some State.reset) ∧
      (live.running = true ∧ live.benches = [] ∧ live.host.views = [] ∧ live.mgmt.tenants = [] ∧
        (nextOf (step live)).map (·.power.time) = some 10) ∧
      (live.power.slew = 0 ∧ 0 ≤ live.power.frac ∧ live.power.frac < 1000000000) := by decide +kernel

/-- A device under PERST_N whose root clock is locked. -/
def heldDevice : State := { State.reset with power := { State.reset.power with st := .held } }.wr Fld.CLKPWR_CLK_ROOT_LOCK 1

theorem witness_EmptyQueueStepPassesOneCycle_held :
    heldDevice.power.st = .held ∧ heldDevice.flag Fld.CLKPWR_CLK_ROOT_LOCK = true ∧
      nextOf (step heldDevice) = some { heldDevice with power := heldDevice.power.ticked heldDevice.ratePpb } := by decide +kernel

theorem witness_StepKeepsStoresCanonical :
    State.reset.Canonical ∧ (nextOf (step { live with pending := [.rinse 3] })).isSome = true :=
  ⟨⟨by decide, by decide, by decide, by decide, by decide, by decide, by decide, by decide⟩, by decide +kernel⟩

theorem witness_StepTakesNothingBack :
    (nextOf (step { live with pending := [.rinse 3, .snapCut] })).map (·.pending) = some [.snapCut] := by decide +kernel

theorem witness_EveryWellFormedCommandCompletes :
    Instr.wellFormed .snapCut = true ∧ nextOf (exec .snapCut live) = some live ∧
      Instr.wellFormed (.i3cPrivateRead 0) = false ∧ nextOf (exec (.i3cPrivateRead 0) live) = none := by decide +kernel

/-- A device whose PWROK is low. -/
def offDevice : State := { State.reset with power := { State.reset.power with st := .off } }

theorem witness_OffIgnoresEveryCommand : nextOf (exec (.rinse 0) offDevice) = some offDevice := by decide +kernel

/-- A write of ones to the Basin conflict index by the PF: the fields take them, the reserved bits stay zero (R503). -/
theorem witness_RegisterWritesFollowAccessCodes :
    live.writable (.fn 0) Reg.DEVCTL_BASIN_CONFL_IDX = true ∧ live.resolve Reg.DEVCTL_BASIN_CONFL_IDX = some Reg.DEVCTL_BASIN_CONFL_IDX ∧
      plainOffset Reg.DEVCTL_BASIN_CONFL_IDX = true ∧ live.deadHalf Reg.DEVCTL_BASIN_CONFL_IDX = false ∧
      (after (.registerWrite (.fn 0) (BitVec.ofNat 26 Reg.DEVCTL_BASIN_CONFL_IDX) (BitVec.allOnes 64)) live).rd
        Fld.DEVCTL_BASIN_CONFL_IDX_GROUP = 63 := by decide +kernel

theorem witness_RefusedAccessLogsAndChangesNothing :
    live.reaches 0 false = true ∧ lastClass (after (.refusedAccess (.fn 0) 0 none .w32) live) = some 0x19 ∧
      (after (.refusedAccess (.fn 0) 0 none .w32) live).out = [.readData (.fn 0) 0 allOnes] ∧
      implemented 0xFFF8 = false ∧ live.reaches 3 true = true ∧ live.mayWriteAt 3 Reg.DEVCTL_PRIME_CMD = false ∧
      lastClass (after (.refusedAccess (.fn 3) (BitVec.ofNat 26 Reg.DEVCTL_PRIME_CMD) (some 0) .w64) live) = some 0x19 := by decide +kernel

theorem witness_RcReadTakesWholeUnits :
    live.readable (.fn 0) (Reg.DEVCTL_MILLRACE_BYTES 1) = true ∧ isDataReg (Reg.DEVCTL_MILLRACE_BYTES 1) = false ∧
      mgmtTenantAt (Reg.DEVCTL_MILLRACE_BYTES 1) = none ∧ live.deadHalf (Reg.DEVCTL_MILLRACE_BYTES 1) = false ∧
      live.resolve (Reg.DEVCTL_MILLRACE_BYTES 1) = some (Reg.DEVCTL_MILLRACE_BYTES 1) := by decide +kernel

/-- 3,000 bytes delivered count as 2 units of 1 KiB; a read takes these, and 952 bytes stay for the next (R526). -/
theorem test_rc_read_keeps_the_remainder :
    let s := live.bump (Fld.DEVCTL_MILLRACE_BYTES_DELIVERED 1) 3000
    let t := after (.rcFieldRead (.fn 0) (BitVec.ofNat 26 (Reg.DEVCTL_MILLRACE_BYTES 1))) s
    t.out = [.readData (.fn 0) (Reg.DEVCTL_MILLRACE_BYTES 1) (BitVec.ofNat 64 (2 * 2 ^ 32))] ∧
      t.cnt (Fld.DEVCTL_MILLRACE_BYTES_DELIVERED 1) = 952 := by decide +kernel

theorem witness_RcReadTakesWholeUnits_bench :
    live.readable (.fn 0) (benchOffset (.phys 66) + 0x228) = true ∧
      live.resolve (benchOffset (.phys 66) + 0x228) = some (0x100000 + 0x10000 * 66 + 0x228) := by decide +kernel

/-- An RC field whose place the register shows: the first and the last bench's scrub status, and a link's FEC counts. -/
theorem witness_RcReadTakesWholeUnits_fields :
    Fld.DEVCTL_MILLRACE_BYTES_DELIVERED 0 ∈ rcFields (regKey 0 (Reg.DEVCTL_MILLRACE_BYTES 0)) ∧
      Fld.BENCH_SCRUB_STATUS_LAG 67 ∈ rcFields (regKey 16 (Reg.BENCH_SCRUB_STATUS 67)) ∧
      Reg.BENCH_SCRUB_STATUS 67 < 0x540000 ∧ Reg.BENCH_SCRUB_STATUS 67 ≠ Reg.GAUGE_TEMP_DATA := by decide +kernel

/-- The PF reaches the registers of an idle bench, at the lowest and the highest block. -/
theorem witness_DataRegistersReadAndAdvance_bench :
    (live.benchWritable (.fn 0) (.phys 0) 0x88 0 ∧ live.benchReadable (.fn 0) (.phys 66) 0x88 66) ∧
      (live.benchWritable (.fn 0) (.phys 0) 0x420 0 ∧ live.benchReadable (.fn 0) (.phys 66) 0x420 66) ∧
      (live.benchWritable (.fn 0) (.phys 0) 0xA48 0 ∧ live.benchReadable (.fn 0) (.phys 66) 0xA48 66) ∧
      live.benchReadable (.fn 0) (.phys 66) 0xA28 66 ∧ live.benchIdle 0 = true ∧ (live.bench 0).held = [] := by
  simp only [State.benchWritable, State.benchReadable]
  decide +kernel

/-- The last doubleword of the command memory is written and INDEX wraps to 0 (R119). -/
theorem test_tbl_data_wraps :
    let s := live.wr (Fld.BENCH_TBL_ADDR_INDEX 5) (tableSize 0 - 1)
    let t := after (.tblDataAccess (.fn 0) (.phys 5) (some 0x1122)) s
    t.rd (Fld.BENCH_TBL_ADDR_INDEX 5) = 0 ∧ (t.bench 5).cmdMem.dword (tableSize 0 - 1) = 0x1122 := by decide +kernel

/-- Weir 9 written through WEIR_DATA holds the 32 low bits, and the selection moves on (R491). -/
theorem test_weir_data_advances :
    let t := after (.weirDataAccess (.fn 0) (.phys 5) (some 0x1_0000_0007)) (live.wr (Fld.BENCH_WEIR_SEL_WEIR 5) 9)
    (t.bench 5).weir 9 = 7 ∧ t.rd (Fld.BENCH_WEIR_SEL_WEIR 5) = 10 := by decide +kernel

theorem test_fm_mem_data_writes :
    let t := after (.fmMemDataAccess (.fn 0) (.phys 5) (some 0xABCD)) (live.wr (Fld.BENCH_FM_MEM_ADDR_INDEX 5) 3)
    (t.bench 5).dmem.dword 3 = 0xABCD ∧ t.rd (Fld.BENCH_FM_MEM_ADDR_INDEX 5) = 4 := by decide +kernel

/-- A conflict counter group is answered, cleared and left behind (R491); the last group wraps. -/
theorem test_confl_data_clears :
    let s := (live.wr (Fld.BENCH_CONFL_IDX_GROUP 5) 127).setReg (behind (Reg.BENCH_CONFL_DATA 5) 509) 6
    let t := after (.conflDataRead (.fn 0) (.phys 5)) s
    t.out = [.readData (.fn 0) (benchOffset (.phys 5) + 0xA28) 0x60000] ∧ t.rd (Fld.BENCH_CONFL_IDX_GROUP 5) = 0 ∧
      t.reg (behind (Reg.BENCH_CONFL_DATA 5) 509) = 0 := by decide +kernel

theorem witness_DataRegistersReadAndAdvance_windows :
    live.readable (.fn 0) Reg.DEVCTL_BASIN_CONFL_DATA = true ∧ live.readable (.fn 0) Reg.DEVCTL_HBM_PAGE_DATA = true ∧
      live.writable .matumon Reg.DEVCTL_HBM_PAGE_DATA = true ∧ live.readable (.fn 0) Reg.HALL_GEN_DATA = true ∧
      live.writable .matumon Reg.HALL_GEN_DATA = true ∧ live.readable (.fn 0) Reg.HALL_TRIB_DATA = true ∧
      live.writable .matumon Reg.HALL_TRIB_DATA = true ∧ live.readable (.fn 0) Reg.GAUGE_TEMP_DATA = true ∧
      live.readable (.fn 0) Reg.SPOIL_DATA = true := by decide +kernel

theorem test_basin_confl_data_clears :
    let f : Fld := ⟨behind Reg.DEVCTL_BASIN_CONFL_DATA (64 * 2 + 63), 31, 16⟩
    let s := (((live.wr Fld.DEVCTL_BASIN_CONFL_IDX_GROUP 63).wr Fld.DEVCTL_BASIN_CONFL_IDX_LEDGE 2).bump f 9)
    let t := after (.basinConflDataRead (.fn 0)) s
    t.out = [.readData (.fn 0) Reg.DEVCTL_BASIN_CONFL_DATA 0x90000] ∧ t.rd Fld.DEVCTL_BASIN_CONFL_IDX_GROUP = 0 ∧ t.cnt f = 0 := by
  decide +kernel

/-- Matumon sets the owner of page 5 and the generation of slot 16,383, and both selectors move on (R315, R376). -/
theorem test_table_windows :
    let s := (live.wr Fld.DEVCTL_HBM_PAGE_SEL_PAGE 5).wr Fld.HALL_GEN_SEL_SLOT 16383
    let t := after (.hallGenDataAccess .matumon (some 0x8000000000000004)) (after (.hbmPageDataAccess .matumon (some 3)) s)
    t.pageOwner (5 * 2 ^ 21) = 3 ∧ t.rd Fld.DEVCTL_HBM_PAGE_SEL_PAGE = 6 ∧ t.genEntry 16383 = (2, 4) ∧
      t.rd Fld.HALL_GEN_SEL_SLOT = 0 := by decide +kernel

theorem test_trib_data_keeps_what_hardware_writes :
    let s := (live.wr Fld.HALL_TRIB_SEL_ENTRY 127)
    let t := after (.hallTribDataAccess .matumon (some (BitVec.ofNat 64 (2 ^ 63 + 2 ^ 44 * 77 + 3)))) s
    (t.trib 127).valid = true ∧ (t.trib 127).dev = 77 ∧ (t.trib 127).st = 0 ∧ (t.trib 127).misses = 0 ∧
      t.rd Fld.HALL_TRIB_SEL_ENTRY = 0 := by decide +kernel

/-- Word 3 of the only entry is read from the latch, and WORD and SEQ move on to the next entry (R497). -/
theorem test_spoil_data_advances :
    let e : SpoilEvent := ⟨5, 0x19, 9, 0, 0x3F, 0, 11, 12⟩
    let s := after (.spoilEntryArrival 0) { live with spoil := { live.spoil with inFlight := [e] } }
    let s := s.wr Fld.SPOIL_SEL_SEQ 1
    let t := after (.spoilDataRead (.fn 0)) (after (.spoilDataRead (.fn 0)) (after (.spoilDataRead (.fn 0)) (after (.spoilDataRead (.fn 0)) s)))
    t.rd Fld.SPOIL_SEL_SEQ = 2 ∧ t.rd Fld.SPOIL_SEL_WORD = 0 ∧
      t.out.getLast? = some (.readData (.fn 0) Reg.SPOIL_DATA 12) := by decide +kernel

/-! ### Witnesses: the prime, chain, key and lease tables -/

/-- The prime of the pebble sets, 2 ^ 32 - 2 ^ 20 + 1, as DEVCTL_PRIME_STAGE shows it, and a root of it. -/
def pebStage : Reg64 := 0xFFF0000116151401
def pebRoot : Reg64 := 0x9ED32FAB

/-- Its entry. -/
def pebPrime : PrimeEnt := stagedPrime pebStage pebRoot

/-- The running device with that prime in slots 5 and 64. -/
def primed : State := (live.setPrime 5 pebPrime).setPrime 64 pebPrime

/-- The state with an operation in the checker. -/
def checking (s : State) (op : CheckerOp) : State := { s with primes := { s.primes with op := some op } }

theorem witness_CheckerOperationsLatchTheirStage :
    live.writable (.fn 0) Reg.DEVCTL_PRIME_CMD = true ∧ live.writable (.fn 0) Reg.DEVCTL_CHAIN_CMD = true ∧ live.primes.op = none ∧
      (after (.primeLoad (.fn 0) 127) live).primes.op = some (.primeLoad 127 false 0 0) ∧
      (after (.primeDelete (.fn 0) 0) live).primes.op = some (.primeDelete 0 false) ∧
      (after (.chainLoad (.fn 0) 64 16 31) live).primes.op = some (.chainLoad 31 false 64 16 (List.replicate 80 0)) ∧
      (after (.chainDelete (.fn 0) 0 0 31) live).primes.op = some (.chainDelete 31 false) := by decide +kernel

theorem witness_CheckerBusySetsOverrunOnly :
    let s := checking live (.primeDelete 3 false)
    s.writable (.fn 0) Reg.DEVCTL_PRIME_CMD = true ∧ s.writable (.fn 0) Reg.DEVCTL_CHAIN_CMD = true ∧ s.primes.op.isSome = true ∧
      after (.primeLoad (.fn 0) 3) s = s.wr Fld.DEVCTL_PRIME_STATUS_OVERRUN 1 ∧
      after (.chainDelete (.fn 0) 1 1 1) s = s.wr Fld.DEVCTL_CHAIN_STATUS_OVERRUN 1 ∧
      (0xC000000000000001 : Reg64).getLsbD 63 = true ∧ (0xC000000000000001 : Reg64).getLsbD 62 = true ∧
      after (.registerWrite (.fn 0) (BitVec.ofNat 26 Reg.DEVCTL_PRIME_CMD) 0xC000000000000001) live =
        live.wr Fld.DEVCTL_PRIME_STATUS_OVERRUN 1 := by decide +kernel

theorem witness_AcceptedPrimeHasShapeAndRoot : primeVerdict false pebPrime = 0 := by decide +kernel

/-- The conditions of Table 2.1 in their order: in use, a sign, an exponent, and a root that is none. -/
theorem test_prime_refusals :
    primeVerdict true pebPrime = 1 ∧ primeVerdict false { pebPrime with s1 := 2 } = 2 ∧ primeVerdict false { pebPrime with e3 := 17 } = 3 ∧
      primeVerdict false { pebPrime with p := 0xFFF00003 } = 5 ∧ primeVerdict false { pebPrime with root := 1 } = 7 := by decide +kernel

theorem witness_FoldReductionIsExact :
    psetPrime % 2 ^ 18 = 1 ∧ 2 ^ 31 < psetPrime ∧ psetPrime < 2 ^ 32 ∧ 2 ^ 64 - 1 < 2 ^ 64 ∧
      fold3 psetPrime (2 ^ 64 - 1) * 2 ^ 54 % psetPrime = (2 ^ 64 - 1) % psetPrime := by decide

theorem witness_CheckerCompletionsFillOrRefuse_primes :
    let s := checking live (.primeLoad 5 false pebStage pebRoot)
    let d := checking primed (.primeDelete 5 false)
    s.running = true ∧ (after .primeOpComplete s).primeEnt 5 = pebPrime ∧ (after .primeOpComplete s).primes.op = none ∧
      (after .primeOpComplete s).rd Fld.DEVCTL_PRIME_STATUS_RESULT = 0 ∧
      d.running = true ∧ (after .primeOpComplete d).primeEnt 5 = { pebPrime with valid := false } ∧
      (after .primeOpComplete d).primeEnt 64 = pebPrime := by decide +kernel

/-- A chain of two slots with the same prime is refused as REPEATED_PRIME (0xA), one that names an empty slot as 9, one of no ordinary
prime as 8. -/
theorem witness_CheckerCompletionsFillOrRefuse_chains :
    let go (ord spc : Nat) (idx : List Nat) := after .chainOpComplete (checking primed (.chainLoad 31 false ord spc idx))
    let idx := 5 :: List.replicate 79 64
    (go 1 0 idx).chainEnt 31 = ⟨true, 1, 0, idx⟩ ∧ (go 1 0 idx).rd Fld.DEVCTL_CHAIN_STATUS_RESULT = 0 ∧
      (go 2 0 idx).rd Fld.DEVCTL_CHAIN_STATUS_RESULT = 0xA ∧ (go 0 0 idx).rd Fld.DEVCTL_CHAIN_STATUS_RESULT = 8 ∧
      (go 1 1 (List.replicate 80 6)).rd Fld.DEVCTL_CHAIN_STATUS_RESULT = 9 ∧ (go 1 1 (List.replicate 80 6)).chainEnt 31 = ChainEnt.empty ∧
      (after .chainOpComplete (checking (go 1 0 idx) (.chainDelete 31 false))).chainEnt 31 = ⟨false, 1, 0, idx⟩ := by decide +kernel

/-- The state with a key operation. -/
def keying (s : State) (op : KeyOp) : State := { s with ledges := { s.ledges with keyOp := some op } }

theorem witness_KeyCommandsRunToTheirResult :
    live.writable (.fn 0) Reg.DEVCTL_KEY_CMD = true ∧ live.ledges.keyOp = none ∧
      (after (.keyInstall (.fn 0) 4095) live).ledges.keyOp = some ⟨0, 4095, live.keyStage⟩ ∧
      (after (.keyRemove (.fn 0) 1) live).ledges.keyOp = some ⟨1, 1, live.keyStage⟩ ∧
      (after (.keyRead (.fn 0) 1) live).ledges.keyOp = some ⟨2, 1, live.keyStage⟩ ∧
      after (.keyRead (.fn 0) 1) (keying live ⟨1, 0, []⟩) = (keying live ⟨1, 0, []⟩).wr Fld.DEVCTL_KEY_STATUS_OVERRUN 1 := by decide +kernel

/-- Index 0 never holds a key (RESULT 6), kind 7 is none (RESULT 2), REMOVE empties an entry. -/
theorem witness_KeyCommandsRunToTheirResult_complete :
    let s := keying live ⟨0, 0, [0x1000000000000000]⟩
    let k := keying live ⟨0, 4095, [0x7000000000000000]⟩
    let r := keying { live with ledges := { live.ledges with keys := [(7, [1, 2, 3, 4, 5, 6, 7, 8])] } } ⟨1, 7, []⟩
    s.running = true ∧ (after .keyOpComplete s).rd Fld.DEVCTL_KEY_STATUS_RESULT = 6 ∧
      (after .keyOpComplete k).rd Fld.DEVCTL_KEY_STATUS_RESULT = 2 ∧ (after .keyOpComplete k).keyEnt 4095 = [] ∧
      r.keyEnt 7 ≠ [] ∧ (after .keyOpComplete r).keyEnt 7 = [] ∧ (after .keyOpComplete r).rd Fld.DEVCTL_KEY_STATUS_INDEX = 7 := by
  decide +kernel

/-- The state with a lease operation. -/
def leasing (s : State) (op : LeaseOp) : State := { s with ledges := { s.ledges with leaseOp := some op } }

/-- VF 2 is bound to tenant 9; it takes leases for that tenant whatever its command says. -/
theorem witness_LeasesMoveAndClear_requests :
    let s := (live.wr (Fld.HIF_VF_BIND_TENANT 0 2) 9).wr (Fld.HIF_VF_BIND_EN 0 2) 1
    s.writable (.fn 2) Reg.DEVCTL_LEASE_CMD = true ∧ s.boundTenant 2 = 9 ∧ s.ledges.leaseOp = none ∧
      (after (.leaseTake (.fn 2) 4 3 2 4094) s).ledges.leaseOp = some ⟨0, 9, 3, 2, 4094⟩ ∧
      (after (.leaseFree (.fn 0) 4 3 2 4094) s).ledges.leaseOp = some ⟨1, 4, 3, 2, 4094⟩ ∧
      (after (.leaseRead (.fn 0) 3 4094) s).ledges.leaseOp = some ⟨2, 0, 3, 0, 4094⟩ ∧
      after (.leaseRead (.fn 0) 3 4094) (leasing s ⟨2, 0, 0, 0, 0⟩) = (leasing s ⟨2, 0, 0, 0, 0⟩).wr Fld.DEVCTL_LEASE_STATUS_OVERRUN 1 := by
  decide +kernel

/-- The last two leases of ledge 3 are taken and freed; a TAKE beyond the last lease changes none. -/
theorem witness_LeasesMoveAndClear_complete :
    let t := after .leaseCmdComplete (leasing live ⟨0, 9, 3, 2, 4094⟩)
    let u := after .leaseCmdComplete (leasing t ⟨1, 9, 3, 1, 4095⟩)
    let x := after .leaseCmdComplete (leasing t ⟨0, 9, 3, 2, 4095⟩)
    t.lease 3 4094 = ⟨.taken, 9⟩ ∧ t.lease 3 4095 = ⟨.taken, 9⟩ ∧ t.lease 3 4093 = ⟨.free, 0⟩ ∧
      t.rd Fld.DEVCTL_LEASE_STATUS_RESULT = 0 ∧ u.lease 3 4095 = ⟨.clearing, 9⟩ ∧
      Sparse.get (fun _ => []) u.ledges.sweep 3 = [4095] ∧ x.rd Fld.DEVCTL_LEASE_STATUS_RESULT ≠ 0 ∧ x.lease 3 4095 = t.lease 3 4095 := by
  decide +kernel

/-- A swept granule is free and zero. -/
theorem witness_LeasesMoveAndClear_swept :
    let s := { live with
      ledges := { live.ledges with
        sweep := [(0, [4095, 7])], leases := [(4095, ⟨.clearing, 9⟩)]
        basins := [(0, ⟨⟨[⟨4094 * 2 ^ 17, 0xBB⟩, ⟨4095 * 2 ^ 17, 0xAA⟩], none⟩, [4095 * 4096]⟩)] } }
    let t := after (.leaseGranuleSwept 0) s
    s.running = true ∧ s.lease 0 4095 = ⟨.clearing, 9⟩ ∧ (s.basin 0).mem.base = none ∧ t.lease 0 4095 = ⟨.free, 0⟩ ∧
      (t.basin 0).mem.readByte (4095 * 2 ^ 17) = 0 ∧
      (t.basin 0).mem.readByte (4094 * 2 ^ 17) = 0xBB ∧ (t.basin 0).bad = [] ∧ Sparse.get (fun _ => []) t.ledges.sweep 0 = [7] := by
  decide +kernel

theorem witness_PrimeTablesSurviveEveryWarmReset :
    (after (.functionLevelReset 15) primed).primeEnt 5 = pebPrime ∧ (after (.benchReset 0) primed).primeEnt 64 = pebPrime ∧
      (after (.fresetGo (.fn 0) true 0) primed).primeEnt 5 = pebPrime := by decide +kernel

/-! ### Witnesses: the life of a bench -/

/-- A running device with one bench changed. -/
def withBench (pb : Nat) (f : Bench → Bench) : State := live.onBench pb f

/-- A command word of an opcode with FLAGS, EMIT and AWAIT. -/
def cmdWord (op flags emit await low : Nat) : CmdWord := BitVec.ofNat 128 (op * 2 ^ 120 + flags * 2 ^ 112 + emit * 2 ^ 104 + await * 2 ^ 96 + low)

/-- A command in execution of stream 0. -/
def exOf (id : Nat) (w : CmdWord) (engines : Nat) (todo : List Todo) : Exec :=
  { (Ctx.mk live 0 0 ⟨w, 0, false, false⟩ nullDesc nullDesc nullDesc [] 0 0).exec engines with id := id, todo := todo }

theorem witness_BenchesStartStopAndReset_start :
    let s := live.wr (Fld.BENCH_STREAM_PC_PC 5 2) 0x3FFF
    let d : Reg64 := 0x3F
    let ctl := accWrite (regFields (Reg.BENCH_CTL 5)) (s.reg (Reg.BENCH_CTL 5)) ((d ||| word [(63, 1)]) &&& ~~~ (word [(62, 1)]))
    let t := after (.start (.fn 0) (.phys 5) d) s
    s.writable (.fn 0) (benchOffset (.phys 5)) = true ∧ s.resolve (benchOffset (.phys 5)) = some (0x100000 + 0x10000 * 5) ∧
      s.benchIdle 5 = true ∧ getBits ctl 16 16 = 0 ∧ bit (getBits ctl 5 0) 2 = true ∧ (t.bench 5).mode = .fill ∧
      ((t.bench 5).stream 2).fetchPc = 0x3FFF ∧ (t.bench 5).fm.st = .running := by decide +kernel

theorem witness_BenchesStartStopAndReset_stop :
    let s := withBench 5 (fun b => { b with mode := .work })
    let t := after (.stop (.fn 0) (.phys 5) (s.reg (Reg.BENCH_CTL 5))) s
    s.writable (.fn 0) (benchOffset (.phys 5)) = true ∧ s.resolve (benchOffset (.phys 5)) = some (0x100000 + 0x10000 * 5) ∧
      (s.bench 5).active = true ∧ (t.bench 5).mode = .halted ∧ (t.bench 5).haltCause = 8 ∧
      ((after (.stop (.fn 0) (.phys 5) (live.reg (Reg.BENCH_CTL 5))) live).bench 5).mode = .halted := by decide +kernel

theorem witness_BenchesStartStopAndReset_reset :
    let r := withBench 67 (fun b => { b with mode := .rinsing })
    let a := withBench 67 (fun b => { b with mode := .work, abandoning := true, tokens := [(3, 1)] })
    live.running = true ∧ (live.bench 0).mode ≠ .rinsing ∧ ((after (.benchReset 0) live).bench 0).abandoning = true ∧
      (r.bench 67).mode = .rinsing ∧ ((after (.benchReset 67) r).bench 67).resetHeld = true ∧
      (a.bench 67).abandoning = true ∧ (a.bench 67).execs = [] ∧ (a.bench 67).sluice = [] ∧
      ((after (.benchResetDone 67) a).bench 67).mode = .idle ∧ ((after (.benchResetDone 67) a).bench 67).tokens = [] := by decide +kernel

theorem witness_RinseLeavesNothingOfTheTenant :
    let s := withBench 16 (fun b => { b with mode := .work, weirs := [(1, 5)], tokens := [(3, 1)] })
    let r := { live with rc := [] }.onBench 16 (fun b => { b with mode := .rinsing, pool := ⟨⟨[⟨64, 1⟩], none⟩, [2]⟩ })
    (s.bench 16).mode ≠ .rinsing ∧ (s.bench 16).sluice = [] ∧ ((after (.rinse 16) s).bench 16).mode = .rinsing ∧
      ((after (.rinse 16) s).bench 16).weirs = [] ∧ ((after (.rinse 16) s).bench 16).tokens = [] ∧
      (r.bench 16).mode = .rinsing ∧ ((after (.rinseComplete 16) r).bench 16).mode = .idle ∧
      ((after (.rinseComplete 16) r).bench 16).pool = EMem.zero := by decide +kernel

theorem witness_BenchServiceFollowsItsTests_failure :
    let s := withBench 0 (fun b => { b with mode := .fill, passed := true })
    (s.bench 0).execs = [] ∧ ((after (.benchHwFailure 0) s).bench 0).mode = .halted ∧ ((after (.benchHwFailure 0) s).bench 0).haltCause = 7 ∧
      ((after (.benchHwFailure 0) s).bench 0).passed = false ∧ ((after (.benchHwFailure 0) live).bench 0).mode = .idle := by decide +kernel

/-- A device of which benches 12 to 14 have passed their self-tests: with bench 15 gang 3 comes into service. -/
theorem witness_BenchServiceFollowsItsTests_test :
    let s := [12, 13, 14].foldl (fun s pb => s.onBench pb (fun b => { b with passed := true })) (device devReady)
    let t := after (.benchSelfTestDone 15 true) s
    let u := after (.benchSelfTestDone 15 false) t
    s.running = true ∧ s.gangOf 15 = some 3 ∧ s.devState ≠ devClearing ∧ s.rd Fld.MGMT_STATUS_RESTRICTED = 0 ∧
      s.rd (Fld.MGMT_GANG_STATE 3) = gangOut ∧ t.gangPasses 3 = true ∧ bit (t.rd Fld.DEVCTL_GANG_AVAIL_AVAIL) 3 = true ∧
      t.rd (Fld.MGMT_GANG_STATE 3) = gangFree ∧ bit (u.rd Fld.DEVCTL_GANG_AVAIL_AVAIL) 3 = false ∧
      u.rd (Fld.MGMT_GANG_STATE 3) = gangOut := by decide +kernel

theorem witness_BenchServiceFollowsItsTests_gate :
    let s := device devReady
    let t := after (.gangGateOff 15) s
    s.gangIdle 15 = true ∧ bit (s.rd Fld.DEVCTL_GANG_AVAIL_GATED) 15 = false ∧ s.devState ≠ devClearing ∧
      s.rd Fld.MGMT_STATUS_RESTRICTED = 0 ∧ bit (t.rd Fld.DEVCTL_GANG_AVAIL_GATED) 15 = true ∧
      bit ((after (.gangGateOn 15) t).rd Fld.DEVCTL_GANG_AVAIL_GATED) 15 = false := by decide +kernel

/-- The spare of ledge 3 takes the place of its last bench. -/
theorem witness_BenchServiceFollowsItsTests_spare :
    let s := device devReady
    let t := after (.spareSubstitute 3 15 true) s
    s.gangIdle (4 * 3 + 15 / 4) = true ∧ s.flag (Fld.DEVCTL_LEDGE_MAP_SUBST 3) = false ∧ t.physOf 63 = 67 ∧ (t.bench 67).passed = true ∧
      t.rd (Fld.DEVCTL_LEDGE_MAP_RETIRED_PB 3) = 66 ∧ lastClass t = some 0x18 := by decide +kernel

theorem witness_FetchPhaseAndStallMoveABench :
    let s := withBench 4 (fun b => { b with mode := .fill }.setStream 2 ⟨[], 14, true, false, false, 0⟩)
    let t := after (.fetchLine 4) s
    (s.bench 4).active = true ∧ (s.bench 4).abandoning = false ∧
      ((List.range 6).map (fun k => ((s.bench 4).fetchRR + 1 + k) % 6)).find? (fun k => ((s.bench 4).stream k).wantsLine) = some 2 ∧
      ((t.bench 4).stream 2).queue.map QCmd.pc = [14, 15] ∧ ((t.bench 4).stream 2).fetchPc = 16 := by decide +kernel

/-- A bench in FILL that drains into WORK turns round and is in WORK. -/
theorem witness_FetchPhaseAndStallMoveABench_phase :
    let s := withBench 4 (fun b => { b with mode := .fill, switching := true, target := .work })
    let t := after (.phaseDrainComplete 4) s
    let u := after (.phaseTurnaroundEnd 4) t
    (s.bench 4).switching = true ∧ (s.bench 4).turnaround = false ∧ (s.bench 4).active = true ∧
      (∀ e ∈ (s.bench 4).execs, e.engines &&& engSL = 0) ∧ (s.bench 4).target ≠ .fill ∧ (t.bench 4).turnaround = true ∧
      (u.bench 4).mode = .work ∧ (u.bench 4).phaseSwitches = 1 ∧ (u.bench 4).switching = false := by decide +kernel

theorem witness_FetchPhaseAndStallMoveABench_stall :
    let s := (withBench 4 (fun b => { b with mode := .fill }.setStream 5 ⟨[], 0, true, false, false, 0⟩)).wr (Fld.BENCH_STALL_LIMIT_LIMIT 4) 9
    let t := after (.stallLimitReached 4) s
    (s.bench 4).active = true ∧ (s.bench 4).sluiceHalted = false ∧ s.rd (Fld.BENCH_STALL_LIMIT_LIMIT 4) ≠ 0 ∧
      (∃ i ∈ s.streamsOf 4, ((s.bench 4).stream i).ended = false) ∧ (t.bench 4).mode = .halted ∧ (t.bench 4).haltCause = 2 ∧
      t.rd (Fld.BENCH_STALL_COUNT_COUNT 4) = 9 ∧ lastClass t = some 6 := by decide +kernel

/-- Three words of bank 0 in one window are two conflicts (R88). -/
theorem witness_EngineEventsFeedTheirCommand_window :
    let t := after (.poolWindowComplete 4 0 .compute [0, 0, 0x201, 0x202] none none) live
    let u := after (.poolWindowComplete 4 0 .compute [] none (some 77)) live
    poolBank 0x201 = 0 ∧ poolBank 0x202 ≠ 0 ∧ t.reg (behind (Reg.BENCH_CONFL_DATA 4) 0) = 2 ∧
      t.reg (behind (Reg.BENCH_CONFL_DATA 4) 3) = 0 ∧ (u.bench 4).pool.bad = [77] := by decide +kernel

/-- Four posts of one shape end the exchange of bench 4, the first of gang 1. -/
theorem witness_EngineEventsFeedTheirCommand_exchange :
    let post : XPost := ⟨3, [1, 2], [], []⟩
    let e := exOf 9 (cmdWord 0x21 0 0 0 0) 1 [.exchange 3]
    let s := [4, 5, 6, 7].foldl (fun s pb => s.onBench pb (fun b => { b with xPosts := [post] })) live
    let s := s.onBench 4 (fun b => { b with execs := [e] })
    let t := after (.exchangeDataArrival 4) s
    s.gangBenches (s.gangIdx 4) = [4, 5, 6, 7] ∧
      (s.gangBenches (s.gangIdx 4)).filterMap (fun x => (s.bench x).xPosts.find? (fun p => decide (p.seq = 3))) = List.replicate 4 post ∧
      ((t.bench 4).execs.map Exec.todo) = [[]] ∧ ((t.bench 4).execs.map Exec.gathered) = [[List.replicate 4 post]] := by decide +kernel

theorem witness_EngineEventsFeedTheirCommand_tile :
    let e := exOf 9 (cmdWord 0x81 0 0 0 0) 8 [.drain 0 1]
    let s := withBench 4 (fun b => { b with execs := [e] })
    classOf e.word = 4 ∧ (s.bench 4).abandoning = false ∧ (s.bench 4).chute.length < 8 ∧
      ((after (.aeTileEnterChute 4) s).bench 4).execs.map Exec.todo = [[]] ∧
      ((after (.aeTileEnterChute 4) s).bench 4).chute.length = 1 := by decide +kernel

/-- A TOKEN command at the end of its stream posts token 7 and retires. -/
theorem witness_RetiredCommandLeavesItsResults :
    let e := exOf 9 (cmdWord 1 0xA0 7 0 0) 0 []
    let s := withBench 4 (fun b => { b with mode := .fill, execs := [e] }.setStream 0 ⟨[], 0, false, true, false, 4⟩)
    let t := after (.commandRetire 4 9) s
    s.running = true ∧ (s.bench 4).exec 9 = some e ∧ s.canRetire 4 e = true ∧ (s.bench 4).pool.bad = [] ∧ opcodeOf e.word ≠ 8 ∧
      emitEn e.word = true ∧ classOf e.word ≠ 4 ∧ endsStream e.word = true ∧ (t.bench 4).execs = [] ∧ (t.bench 4).token 7 = 1 ∧
      ((t.bench 4).stream 0).retired = 5 ∧ ((t.bench 4).stream 0).ended = true := by decide +kernel

/-! ### Witnesses: the bench commands -/

/-- An address descriptor of c0 by c1 words of the Pool from a byte address. -/
def adOf (start c0 c1 : Nat) : List Nat := [4 * 2 ^ 60, c0 + c1 * 2 ^ 16 + 2 ^ 32 + 2 ^ 48, 0, start, 32, 32 * c0, 0, 0]

/-- A slab or plaintext of gang 0 of one limb, of dimension 2 ^ logN, at a Pool address. -/
def slabOf (kind domain logN limbs base : Nat) : List Nat :=
  ({ Obj.ofDesc nullDesc with
    kind := kind, domain := domain, logN := logN, limbs := limbs, lcount := limbs, tlimbs := limbs, tcount := limbs, mask := 1, logSlots := 9
    base := base }).toDesc

/-- A pebble array of one pebble of set 1. -/
def pebOf (base : Nat) : List Nat := ({ Peb.ofDesc nullDesc with
  kind := 3, msgBits := 1, pad := true, prime := 5, dim := 960, count := 1, stride := 4096, base := base }).toDesc

/-- Key entries of kinds 1 to 6 of tenant 1, chain 0 and gang 0. -/
def keyOfKind (kind logN ord alpha galois : Nat) : List Reg64 :=
  [BitVec.ofNat 64 (kind * 2 ^ 60 + 2 ^ 48 + logN * 2 ^ 40 + alpha * 2 ^ 24 + ord * 2 ^ 16),
    BitVec.ofNat 64 (2 ^ 48 + galois), 0, 0, 0, 0, 0, 0]

/-- The keys 1 to 6, key k of kind k. -/
def keySix : List (Nat × List Reg64) :=
  [(1, keyOfKind 1 10 1 1 0), (2, keyOfKind 2 10 1 1 5), (3, keyOfKind 3 12 1 1 0), (4, keyOfKind 4 10 1 1 0), (5, keyOfKind 5 10 1 1 0),
    (6, keyOfKind 6 16 48 8 0)]

/-- Bench 0 of gang 0, which belongs to tenant 1, in a mode, with a command at the head of a stream, its descriptors in entries 1 to 3, a
prime in slot 5, chain 0 of 48 ordinary and 8 special limbs with that prime, keys, macros, and a credit on route 0. -/
def issuing (mode : BMode) (st : Nat) (w : CmdWord) (d0 d1 d2 : List Nat) : State :=
  let s := ((live.wr (Fld.MGMT_GANG_STATE 0) gangAssigned).wr (Fld.MGMT_GANG_TENANT 0) 1).wr (Fld.BENCH_MACRO_ID_VALID 0) 1
  let s := ((s.wr (Fld.BENCH_ROUTE_VALID 0 0) 1).wr (Fld.BENCH_ROUTE_CREDITS 0 0) 1).wr (Fld.BENCH_ROUTE_STAT_AVAIL 0 0) 1
  let s := { (s.setPrime 5 pebPrime).setChain 0 ⟨true, 48, 8, List.replicate 80 5⟩ with ledges := { s.ledges with keys := keySix } }
  s.onBench 0 (fun b =>
    let b := (b.writeDesc 1 d0).writeDesc 2 d1
    let b := b.writeDesc 3 d2
    { b with mode := mode }.setStream st ⟨[⟨w, 0, false, false⟩], 1, true, false, false, 0⟩)

/-- The command word of an opcode with descriptor entries, SUBOP and IMM. -/
def opWord (op i0 i1 i2 sub im : Nat) : CmdWord := cmdWord op 0 0 0 (i0 * 2 ^ 87 + i1 * 2 ^ 78 + i2 * 2 ^ 69 + sub * 2 ^ 48 + im)

/-- Whether a command at the head of a stream has every stage open to it. -/
def readyNow (s : State) (st : Nat) (w : CmdWord) : Bool :=
  let q : QCmd := ⟨w, 0, false, false⟩
  s.running && decide (((s.bench 0).stream st).queue = [q]) && s.mayMove 0 st q && (s.stage1 0 st w).isNone &&
    decide ((s.bench 0).stage2 q = some true) &&
    (match (s.passAwait 0 st q).lateVerdict 0 st q with
      | .ready _ => true
      | _ => false)

/-- readyNow says that the command is at its turn with some plan. -/
theorem readyNow_spec (s : State) (st : Fin 6) (w : CmdWord) (h : readyNow s st w = true) :
    ∃ p, s.readyAt 0 st ⟨w, 0, false, false⟩ [] p := by
  simp only [readyNow, Bool.and_eq_true, decide_eq_true_eq, Option.isNone_iff_eq_none] at h
  obtain ⟨⟨⟨⟨⟨h1, h2⟩, h3⟩, h4⟩, h5⟩, h6⟩ := h
  cases hv : (s.passAwait 0 st ⟨w, 0, false, false⟩).lateVerdict 0 st ⟨w, 0, false, false⟩ with
  | ready p => exact ⟨p, ⟨h1, h2, h3, rfl, h4, h5, hv⟩⟩
  | _ => rw [hv] at h6; simp at h6

theorem witness_HeadsEnterExecutionOrStay_control :
    (∀ op ∈ [1, 2, 3, 4, 5, 7], readyNow (issuing .fill 0 (opWord op 0 0 0 0 0) [] [] []) 0 (opWord op 0 0 0 0 0) = true) ∧
      readyNow (issuing .work 0 (opWord 2 0 0 0 0 0) [] [] []) 0 (opWord 2 0 0 0 0 0) = true ∧
      readyNow (issuing .fill 0 (opWord 6 0 0 0 0 1) [] [] []) 0 (opWord 6 0 0 0 0 1) = true ∧
      readyNow (issuing .fill 0 (opWord 8 0 0 0 0 0) [] [] []) 0 (opWord 8 0 0 0 0 0) = true := by decide +kernel

/-- NTT of a coefficient-form slab in gang mode, INTT of an NTT-form one, and NTT in local mode. -/
theorem witness_HeadsEnterExecutionOrStay_transform :
    (let w := opWord 0x21 1 0 3 0 0
     readyNow (issuing .work 1 w (slabOf 1 0 10 1 0) [] (slabOf 1 1 10 1 65536)) 1 w = true) ∧
      (let w := opWord 0x22 1 0 3 0 0
       readyNow (issuing .work 1 w (slabOf 1 1 10 1 0) [] (slabOf 1 1 10 1 65536)) 1 w = true) ∧
      (let w := opWord 0x21 1 0 3 1 (10 * 2 ^ 40 + 5 * 2 ^ 32)
       readyNow (issuing .work 1 w (adOf 0 128 1) [] (adOf 4096 128 1)) 1 w = true) := by decide +kernel

theorem witness_HeadsEnterExecutionOrStay_ring :
    (∀ op ∈ [0x41, 0x42, 0x44], (let w := opWord op 1 2 3 0 0
      readyNow (issuing .work 2 w (slabOf 1 1 10 1 0) (slabOf 1 1 10 1 65536) (slabOf 1 1 10 1 131072)) 2 w = true)) ∧
      (∀ op ∈ [0x43, 0x46, 0x4A], (let w := opWord op 1 0 3 0 0
        readyNow (issuing .work 2 w (slabOf 1 1 10 1 0) [] (slabOf 1 1 10 1 131072)) 2 w = true)) ∧
      (let w := opWord 0x45 1 2 3 0 0
       readyNow (issuing .work 2 w (slabOf 1 1 10 1 0) (slabOf 2 1 10 1 65536) (slabOf 1 1 10 1 131072)) 2 w = true) ∧
      (let w := opWord 0x49 1 0 3 0 1
       readyNow (issuing .work 2 w (slabOf 1 1 10 2 0) [] (slabOf 1 1 10 1 131072)) 2 w = true) := by decide +kernel

/-- RSTEP and RTAIL, which work tile by tile. -/
theorem witness_HeadsEnterExecutionOrStay_tiles :
    (let w := opWord 0x47 1 2 3 4 (5 * 2 ^ 41 + 5 * 2 ^ 32)
     readyNow (issuing .work 2 w (adOf 0 512 1) (adOf 16384 512 1) (adOf 32768 512 1)) 2 w = true) ∧
      (let w := opWord 0x48 1 2 3 4 (5 * 2 ^ 32)
       readyNow (issuing .work 2 w (adOf 0 512 1) (adOf 16384 512 1) (adOf 32768 512 1)) 2 w = true) := by decide +kernel

theorem witness_HeadsEnterExecutionOrStay_float :
    (∀ op ∈ [0x61, 0x62, 0x63, 0x64, 0x65, 0x66, 0x67], (let w := opWord op 1 2 3 0 0
      readyNow (issuing .work 2 w (adOf 0 512 1) (adOf 16384 512 1) (adOf 32768 512 1)) 2 w = true)) ∧
      (let w := opWord 0x68 1 0 3 4 0
       readyNow (issuing .work 2 w (adOf 0 256 1) [] (adOf 32768 512 1)) 2 w = true) ∧
      (let w := opWord 0x69 0 0 3 16 0
       readyNow (issuing .work 2 w [] [] (adOf 32768 512 1)) 2 w = true) ∧
      (∀ op ∈ [0x6A, 0x6B], (let w := opWord op 1 0 3 0 (2 ^ 40)
        readyNow (issuing .work 2 w (adOf 0 512 1) [] (adOf 32768 512 1)) 2 w = true)) := by decide +kernel

theorem witness_HeadsEnterExecutionOrStay_data :
    (let w := opWord 0x81 1 2 0 0 (2 ^ 28)
     readyNow (issuing .work 3 w (adOf 0 512 1) (adOf 16384 8 1) []) 3 w = true) ∧
      (let w := opWord 0xA1 1 0 3 0 0
       readyNow (issuing .work 4 w (adOf 0 512 1) [] (adOf 32768 512 1)) 4 w = true) ∧
      (let w := opWord 0xA2 1 0 3 0 (5 * 2 ^ 32 + 10 * 2 ^ 18 + 5)
       readyNow (issuing .work 4 w (adOf 0 128 1) [] (adOf 32768 128 1)) 4 w = true) ∧
      (let w := opWord 0xA3 1 2 3 0 0
       readyNow (issuing .work 4 w (adOf 0 128 1) (adOf 16384 64 1) (adOf 32768 128 1)) 4 w = true) ∧
      (let w := opWord 0xC1 1 0 3 0 0
       readyNow (issuing .fill 5 w (adOf 0 16 1) [] ((adOf 0 16 1).set 0 (4 * 2 ^ 60 + 4))) 5 w = true) ∧
      (let w := opWord 0xC2 1 0 0 0 0
       readyNow (issuing .fill 5 w (adOf 0 16 1) [] []) 5 w = true) ∧
      (let w := opWord 0xC3 0 0 0 0 0
       readyNow (issuing .fill 5 w [] [] []) 5 w = true) := by decide +kernel

theorem witness_HeadsEnterExecutionOrStay_macros :
    (let w := opWord 0xE1 1 2 3 0 1
     readyNow (issuing .work 0 w (slabOf 1 1 10 1 0) (adOf 65536 512 8) (slabOf 1 1 10 1 262144)) 0 w = true) ∧
      (let w := opWord 0xE2 1 2 3 0 (5 * 2 ^ 24 + 2)
       readyNow (issuing .work 0 w (slabOf 1 1 10 1 0) (adOf 65536 512 8) (slabOf 1 1 10 1 262144)) 0 w = true) ∧
      (let w := opWord 0xE3 1 2 3 0 0
       readyNow (issuing .work 0 w (slabOf 1 1 10 2 0) (adOf 65536 64 1) (slabOf 1 1 10 1 262144)) 0 w = true) ∧
      (let w := opWord 0xE4 1 2 3 0 (0x10 * 2 ^ 16 + 6)
       let o := ({ Obj.ofDesc (slabOf 1 1 16 1 0) with logSlots := 15 }).toDesc
       readyNow (issuing .work 0 w o (adOf 1048576 512 320) (slabOf 1 1 16 1 8388608)) 0 w = true) ∧
      (let w := opWord 0xE5 1 2 3 0 (2 ^ 16 + 3)
       readyNow (issuing .work 0 w (pebOf 0) (adOf 65536 512 7) (pebOf 8192)) 0 w = true) ∧
      (let w := opWord 0xE6 1 2 3 0 (2 ^ 16 + 4)
       readyNow (issuing .work 0 w (slabOf 1 1 10 1 0) (adOf 65536 512 1) (pebOf 524288)) 0 w = true) ∧
      (let w := opWord 0xE7 1 2 3 0 (2 ^ 16 + 5)
       readyNow (issuing .work 0 w (pebOf 0) (adOf 65536 512 1) (slabOf 1 1 10 1 524288)) 0 w = true) := by decide +kernel

/-- An undefined opcode, one that is not the row's, and a command whose token has not come. -/
theorem witness_HeadsEnterExecutionOrStay_stay :
    let w := opWord 0x3F 0 0 0 0 0
    let s := issuing .fill 0 w [] [] []
    let x := cmdWord 1 0x40 0 7 0
    let y := issuing .fill 0 x [] [] []
    s.running = true ∧ s.opcodeOk 0 (opcodeOf w) = false ∧ s.mayMove 0 0 ⟨w, 0, false, false⟩ = true ∧ s.stage1 0 0 w = some 3 ∧
      ((after (.undefinedOpcode 0 0) s).bench 0).mode = .halted ∧ ((after (.undefinedOpcode 0 0) s).bench 0).haltCause = 3 ∧
      lastClass (after (.undefinedOpcode 0 0) s) = some 0xB ∧ after (.token 0 0) s = s ∧ (y.bench 0).stage2 ⟨x, 0, false, false⟩ = none ∧
      y.stage1 0 0 x = none ∧ after (.token 0 0) y = y := by decide +kernel

/-- The TOKEN command goes into execution and leaves its queue (R139). -/
theorem test_token_issues :
    let t := after (.token 0 0) (issuing .fill 0 (opWord 1 0 0 0 0 0) [] [] [])
    (t.bench 0).execs.length = 1 ∧ ((t.bench 0).stream 0).queue = [] := by decide +kernel

/-- A PHASE command to WORK begins the switch. -/
theorem witness_ControlCommandsPlanTheirEffect :
    let w := opWord 2 0 0 0 1 0
    let t := after (.phase 0 0) (issuing .fill 0 w [] [] [])
    let u := after (.wsig 0 0) (issuing .fill 0 (opWord 4 0 0 0 0 (3 * 2 ^ 32 + 9)) [] [] [])
    (t.bench 0).switching = true ∧ (t.bench 0).target = .work ∧ (t.bench 0).execs.map Exec.todo = [[.phase]] ∧
      u.net.weirOps = [⟨0, 3, .signal, 9, ⟨0, false, 0⟩⟩] := by decide +kernel

theorem witness_ResidueOperationsAreExact :
    psetPrime % 2 ^ 18 = 1 ∧ 2 ^ 31 < psetPrime ∧ psetPrime < 2 ^ 32 ∧ psetPrime - 1 < psetPrime ∧
      addMod psetPrime (psetPrime - 1) 1 = 0 ∧ negMod psetPrime 0 = 0 ∧ subMod psetPrime 0 1 = psetPrime - 1 := by decide

theorem witness_RingCommandsComputeTheirLimbs :
    opcodeOf (opWord 0x41 0 0 0 0 0) = 0x41 ∧ opcodeOf (opWord 0x4A 0 0 0 0 0) = 0x4A ∧
      ringOut (opWord 0x41 0 0 0 0 0) 17 2 (fun _ => [16, 3]) (fun _ => [5, 6]) (fun _ => [0, 0]) 2 1 =
        [knownLimb [4, 9], knownLimb [4, 9]] ∧ nttForward 17 0 0 (addPoly 17 [16] [5]) = [4] := by decide +kernel

/-- 1.5, 2 and a quiet NaN (R264-R266). -/
theorem witness_FloatOperationsRoundOnce :
    (0x3FC00000 < 2 ^ (FFmt.fp32.prec + 8) ∧ 0x3FC00000 / 2 ^ (FFmt.fp32.prec - 1) % 256 = 127) ∧
      (fAdd .fp32 (FFmt.fp32.read 0x3FC00000) (FFmt.fp32.read 0x40000000)).bits = 0x40600000 ∧
      (fMul .fp32 (FFmt.fp32.read 0x3FC00000) (FFmt.fp32.read 0x40000000)).bits = 0x40400000 ∧
      FFmt.fp32.read 0x80000001 = .fin true 0 0 ∧ (fAdd .fp32 .nan (.inf true)).bits = FFmt.fp32.qnan := by decide +kernel

/-! ### Witnesses: key streams and the Sluice -/

/-- A key stream with one unit to deliver of a key whose tag is zero. -/
def oneUnit : KStream := ⟨1, 0, [], false, 0, 1⟩

theorem witness_KeyStreamsStartAndDeliver :
    let s := withBench 0 (fun b => { b with kPending := some oneUnit })
    let m := withBench 0 (fun b => { b with kPending := some { oneUnit with tag := 8 } })
    let d := withBench 0 (fun b => { b with mode := .work, kActive := some oneUnit })
    (s.bench 0).kActive = none ∧ oneUnit.total ≠ 0 ∧ (s.bench 0).kPending = some oneUnit ∧
      ((after (.millraceStreamStart 0) s).bench 0).kActive = some oneUnit ∧
      (after (.millraceStreamStart 0) m).cnt (Fld.DEVCTL_MILLRACE_STATUS_MISMATCHES 0) = 1 ∧
      (d.bench 0).credits ≠ 0 ∧ (d.bench 0).execs = [] ∧ ((after (.keyUnitDeliver 0 .clean) d).bench 0).credits = 63 ∧
      ((after (.keyUnitDeliver 0 .clean) d).bench 0).kActive = none ∧
      (after (.keyUnitDeliver 0 .clean) d).cnt (Fld.DEVCTL_MILLRACE_BYTES_DELIVERED 0) = 512 ∧
      (live.bench 0).kActive = none ∧ after (.keyUnitDeliver 0 .clean) live = live := by decide +kernel

/-- A COPY of n words between byte 0 of the Pool (slot 0 or 2) and byte far of another space, in execution. -/
def copyEx (outward : Bool) (space n far : Nat) (sub im : Nat) : Exec :=
  let d := (adOf far n 1).set 0 (4 * 2 ^ 60 + space * 4)
  { exOf 1 (opWord 0xC1 1 0 3 sub im) engSL [.sluice] with
    descs := if outward then [adOf 0 n 1, nullDesc, d] else [d, nullDesc, adOf 0 n 1], loop := unitLoop }

/-- Bench 0 in FILL with that COPY and a tag of it of two words. -/
def tagged (e : Exec) (far : Nat) (data : List (Nat × Bool)) (served : Bool) : State :=
  (issuing .fill 5 0 [] [] []).onBench 0 (fun b => { b with
    execs := [e], sluice := [⟨1, 2, 2, [⟨511, 0, 2, far, data, served, false⟩], false, false, 0, false⟩], tagSeq := 512 })

/-- Words written to a lease that the tenant holds arrive; without the lease nothing is written and KEY class 0x08 is logged (R295). -/
theorem witness_TagsAreSentServedAndCollected_basin :
    let e := copyEx true 1 2 131072 0 0
    let s := (tagged e 131072 [(7, false), (8, false)] false).setLease 0 1 ⟨.taken, 1⟩
    let n := tagged e 131072 [(7, false), (8, false)] false
    let r := (tagged (copyEx false 1 2 131072 0 0) 131072 [] false).setLease 0 1 ⟨.taken, 1⟩
    s.running = true ∧ ((s.bench 0).findTag 511).isSome = true ∧ e.side = .basin ∧ e.outward = true ∧ adderOf e.word = 0 ∧
      s.leaseOk 0 131072 (s.benchTenant 0) = true ∧ ((after (.basinAccess 0 511 .clean) s).basin 0).readWord 131104 = (8, false) ∧
      n.leaseOk 0 131072 (n.benchTenant 0) = false ∧ lastClass (after (.basinAccess 0 511 .clean) n) = some 8 ∧
      ((after (.basinAccess 0 511 .clean) n).basin 0).readWord 131104 = (0, false) ∧ (copyEx false 1 2 131072 0 0).outward = false ∧
      ((after (.basinAccess 0 511 .clean) r).bench 0).sluice.map (fun j => j.tags.map Tag.data) = [[[(0, false), (0, false)]]] := by
  decide +kernel

/-- A device with 64 active HBM channels whose memory reads zero and page 0 belongs to tenant 1. -/
def withHbm (s : State) : State :=
  { (s.wr (Fld.DEVCTL_HBM_ACT_ACT 0) (2 ^ 64 - 1)).wr Fld.DEVCTL_HBM_CFG_ACTIVE 64 with
    hbm := { s.hbm with mem := EMem.zero, owners := [(0, 1)] } }

theorem witness_TagsAreSentServedAndCollected_hbm :
    let e := copyEx true 2 2 512 0 0
    let s := withHbm (tagged e 512 [(7, false), (8, false)] false)
    let t := after (.hbmChannelAccess 0 511 .clean) s
    s.pageOk 512 (s.benchTenant 0) = true ∧ s.benchTenant 0 = 1 ∧ e.side = .hbm ∧ t.hbmWord 544 = (8, false) ∧
      (t.bench 0).sluice.map (fun j => j.tags.map Tag.served) = [[true]] := by decide +kernel

/-- Bench 0 writes to the Pool of bench 1, which is in FILL, in RINSING or IDLE. -/
theorem witness_TagsAreSentServedAndCollected_peer :
    let e := copyEx true 0 2 64 0x10 (1 * 2 ^ 40)
    let s := fun m => (tagged e 64 [(7, false), (8, false)] false).onBench 1 (fun b => { b with mode := m })
    let t := after (.peerTagArrival 0 511) (s .fill)
    e.side = .peer ∧ e.outward = true ∧ (s .fill).physOf 1 = 1 ∧ imm e.word 45 40 = 1 ∧ (t.bench 1).pool.readWord 96 = (8, false) ∧
      ((after (.peerTagArrival 0 511) (s .rinsing)).bench 1).pool = EMem.zero ∧ after (.peerTagArrival 0 511) (s .idle) = s .idle := by
  decide +kernel

/-- A transfer of sixteen words from byte 480 of the Basin sends one word, then the tag of the next granule. -/
theorem witness_TagsAreSentServedAndCollected_send :
    let e := copyEx false 1 16 480 0 0
    let s := (issuing .fill 5 0 [] [] []).onBench 0 (fun b => { b with execs := [e], sluice := [⟨1, 0, 16, [], false, false, 0, false⟩] })
    let t := after (.tagSend 0) s
    (s.bench 0).exec 1 = some e ∧ ((s.bench 0).farOf e)[0]? = some (some 480) ∧ e.side ≠ .hall ∧
      ((t.bench 0).sluice.map (fun j => j.tags.map (fun g => (g.id, g.first, g.count, g.far)))) = [[(0, 0, 1, 480)]] ∧
      (((after (.tagSend 0) t).bench 0).sluice.map (fun j => j.tags.map (fun g => (g.id, g.first, g.count, g.far)))) =
        [[(0, 0, 1, 480), (1, 1, 15, 512)]] := by decide +kernel

/-- A Hall page that no entry maps halts the transfer with no tag out (R331). -/
theorem witness_TagsAreSentServedAndCollected_fault :
    let a := 3 * 2 ^ 21
    let e := copyEx false 3 2 a 0 0
    let s := (issuing .fill 5 0 [] [] []).onBench 0 (fun b => { b with execs := [e], sluice := [⟨1, 0, 2, [], false, false, 0, false⟩] })
    let t := after (.tagSend 0) s
    let u := after (.sluiceReady (.fn 0) (.phys 0)) t
    e.side = .hall ∧ ((s.bench 0).farOf e)[0]? = some (some a) ∧ s.hallTranslate (a / 2 ^ 21) (s.benchTenant 0) e.outward = some 0 ∧
      (t.bench 0).sluiceHalted = true ∧ t.rd (Fld.BENCH_SLUICE_FAULT_PAGE 0) = 3 ∧ lastClass t = some 9 ∧
      t.writable (.fn 0) (benchOffset (.phys 0) + 0xC10) = true ∧
      t.resolve (benchOffset (.phys 0) + 0xC10) = some (0x100000 + 0xC10) ∧ (u.bench 0).token 192 = 1 ∧
      ((after (.sluiceReady (.fn 0) (.phys 0)) (t.wr (Fld.BENCH_SLUICE_CFG_AUTO_RESUME 0) 1)).bench 0).sluiceHalted = false := by
  decide +kernel

/-- The last tag of a COPY into the Pool: its words are in the Pool and the transfer is over. -/
theorem witness_TagsAreSentServedAndCollected_response :
    let e := copyEx false 1 2 131072 0 0
    let s := tagged e 131072 [(7, false), (8, false)] true
    let t := after (.tagResponse 0 511) s
    (s.bench 0).sluice.length = 1 ∧ isTload e.word = false ∧ (t.bench 0).sluice = [] ∧ (t.bench 0).execs.map Exec.todo = [[]] ∧
      (t.bench 0).pool.readWord 32 = (8, false) := by decide +kernel

/-! ### Witnesses: Weirs, the Foreman and messages -/

/-- A Weir operation on its way to logical bench 63. -/
def weirTo (op : WeirOp) (arg : Nat) : WeirMsg := ⟨63, 2047, op, arg, ⟨0, false, 5⟩⟩

/-- A device with that operation on its way, Weir 2047 of bench 63 at a count, and one held wait for 9. -/
def weirState (op : WeirOp) (arg count : Nat) : State :=
  { withBench 66 (fun b => { b with weirs := if count = 0 then [] else [(2047, count)], held := [⟨2047, 9, ⟨1, true, 3⟩⟩] }) with
    net := { live.net with weirOps := [weirTo op arg] } }

theorem witness_WeirsServeTheirOperations_due :
    let s := weirState .signal 4 5
    s.running = true ∧ s.net.weirOps[0]? = some (weirTo .signal 4) ∧ s.physOf 63 = 66 ∧ (s.bench 66).mode ≠ .rinsing ∧
      (weirTo .signal 4).req.pb ≠ noBench ∧ (∀ h ∈ (s.bench 66).held, h.req.pb ≠ noBench) ∧
      (∀ i, i < 64 → (s.cfl i).startWeir ≠ 2047) := by decide +kernel

/-- A signal that takes the count to 9 releases the held wait, the last arrival of an epoch starts the next, a wait that is not met is held. -/
theorem witness_WeirsServeTheirOperations :
    let t := after (.weirOperationArrival 0) (weirState .signal 4 5)
    let a := after (.weirOperationArrival 0) (weirState .arrive 3 (65536 * 7 + 2))
    let w := after (.weirOperationArrival 0) (weirState .wait 4 3)
    (t.bench 66).weir 2047 = 9 ∧ (t.bench 66).held = [] ∧ t.net.weirReplies = [⟨⟨0, false, 5⟩, 9⟩, ⟨⟨1, true, 3⟩, 9⟩] ∧
      (a.bench 66).weir 2047 = 65536 * 8 ∧ (w.bench 66).held.length = 2 ∧ w.net.weirReplies = [] ∧
      ((after (.weirOperationArrival 0) (weirState .signal 0xFFFFFFFF 5)).bench 66).weir 2047 = 0xFFFFFFFF ∧
      ((after (.weirOperationArrival 0) (weirState .reset 0 5)).bench 66).weir 2047 = 0 ∧
      (after (.weirOperationArrival 0) (weirState .read 0 5)).net.weirReplies = [⟨⟨0, false, 5⟩, 5⟩] := by decide +kernel

theorem witness_WeirsServeTheirOperations_reply :
    let f := withBench 0 (fun b => { b with mode := .fill, fm := { b.fm with st := .stalled, weirId := 5 } })
    let s := { f with net := { f.net with weirReplies := [⟨⟨0, true, 5⟩, 77⟩] } }
    let g := withBench 0 (fun b => { b with mode := .fill, execs := [exOf 5 (opWord 4 0 0 0 0 0) 0 [.weir]] })
    let u := { g with net := { g.net with weirReplies := [⟨⟨0, false, 5⟩, 77⟩] } }
    (s.bench 0).fm.st = .stalled ∧ ((after (.weirReplyArrival 0) s).bench 0).fm.weirReply = some 77 ∧
      ((after (.weirReplyArrival 0) u).bench 0).execs.map Exec.todo = [[]] := by decide +kernel

/-- Bench 0 in FILL of a tenant's gang with the Foreman before an instruction word, with registers 5 and 6. -/
def foreman (st : FState) (w x5 x6 : Nat) : State :=
  (issuing .fill 1 0 [] [] []).onBench 0 (fun b => { b with
    imem := b.imem.setDword 0 (BitVec.ofNat 64 w)
    fm := { b.fm with st := st, regs := [(5, BitVec.ofNat 64 x5), (6, BitVec.ofNat 64 x6)] } })

/-- An Xchotra word: rd, funct3 and funct7 with rs1 = x5 and rs2 = x6 or x0. -/
def xcWord (f3 f7 rd : Nat) (two : Bool) : Nat := f7 * 2 ^ 25 + (if two then 6 * 2 ^ 20 else 0) + 5 * 2 ^ 15 + f3 * 2 ^ 12 + rd * 2 ^ 7 + 0x0B

/-- Whether the Foreman of bench 0 stands before an Xchotra instruction with its operands. -/
def atXc (s : State) (st : FState) (op : XcOp) (w a b : Nat) : Bool :=
  s.running && (match s.fmFetch ((0 : Fin 68) : Nat) st with
    | some (.instr v 4) => decide (v = w)
    | _ => false) && decide (xcOf w = some op) && decide (a = (s.bench 0).fm.x (rvRs1 w)) && decide (b = (s.bench 0).fm.x (rvRs2 w))

/-- atXc says what XchotraInstructionsAct asks. -/
theorem atXc_spec (s : State) (op : XcOp) (w a b : Nat) (h : atXc s .running op w a b = true) : s.xcAt 0 op ⟨w, a, b⟩ := by
  simp only [atXc, Bool.and_eq_true, decide_eq_true_eq] at h
  obtain ⟨⟨⟨⟨h1, h2⟩, h3⟩, h4⟩, h5⟩ := h
  refine ⟨⟨h1, ?_⟩, h3, h4, h5⟩
  split at h2
  · next v hv =>
    rw [decide_eq_true_eq] at h2
    subst h2
    exact hv
  · simp at h2

/-- xc.push of a TOKEN command to stream 3; xc.pushm of the last entry of command memory. -/
theorem witness_XchotraInstructionsAct_push :
    let src := fun s : State => s.wr (Fld.BENCH_CTL_STREAM_SRC 0) 0x3F
    let w := xcWord 0 3 0 true
    let s := (src (foreman .running w (2 ^ 56) 7)).onBench 0 (fun b => b.setStream 3 ⟨[], 0, false, false, false, 0⟩)
    let wm := xcWord 0 (64 + 3) 0 false
    let m := (src (foreman .running wm 16383 7)).onBench 0 (fun b => b.setStream 3 ⟨[], 0, false, false, false, 0⟩)
    atXc s .running .push w (2 ^ 56) 7 = true ∧ bits w 27 25 = 3 ∧ rvRd w = 0 ∧ bit (s.rd (Fld.BENCH_CTL_STREAM_SRC 0)) 3 = true ∧
      s.lockstep 0 = false ∧ ((s.bench 0).stream 3).closed = false ∧ ((s.bench 0).stream 3).ended = false ∧
      (((after (.xcPush 0) s).bench 0).stream 3).queue = [⟨BitVec.ofNat 128 (2 ^ 120 + 7), 0x3FFF, false, false⟩] ∧
      ((after (.xcPush 0) s).bench 0).fm.pc = 4 ∧ atXc m .running .pushm wm 16383 0 = true ∧ rvRs2 wm = 0 ∧
      (((after (.xcPushm 0) m).bench 0).stream 3).queue.length = 1 := by decide +kernel

/-- The last doubleword of the loop table is written and read; descriptor 0 takes no write and reads as zero (R118). -/
theorem witness_XchotraInstructionsAct_tables :
    let w := xcWord 1 0 0 true
    let s := foreman .running w (2 * 2 ^ 62 + 2047) 0xABC
    let z := foreman .running w (2 ^ 62 + 7) 0xABC
    let r := xcWord 1 1 9 false
    let v := foreman .running r (2 * 2 ^ 62 + 0) 0
    tableSize 2 = 2048 ∧ atXc s .running .tw w (2 * 2 ^ 62 + 2047) 0xABC = true ∧
      ((after (.xcTw 0) s).bench 0).loopTab.dword 2047 = 0xABC ∧ ((after (.xcTw 0) z).bench 0).descTab = (z.bench 0).descTab ∧
      atXc v .running .tr r (2 * 2 ^ 62) 0 = true ∧ rvRs2 r = 0 ∧ ((after (.xcTr 0) v).bench 0).fm.x 9 = 0x0001000100010001 := by
  decide +kernel

theorem witness_XchotraInstructionsAct_tokens :
    let p := xcWord 2 0 0 false
    let s := foreman .running p 191 0
    let w := xcWord 2 1 9 false
    let v := (foreman .running w 31 0).onBench 0 (fun b => b.setToken 223 2)
    let q := xcWord 2 2 9 false
    let u := (foreman .running q 31 0).onBench 0 (fun b => b.setToken 223 2)
    atXc s .running .tkpost p 191 0 = true ∧ ((after (.xcTkpost 0) s).bench 0).token 191 = 1 ∧
      atXc v .running .tkwait w 31 0 = true ∧ ((after (.xcTkwait 0) v).bench 0).token 223 = 1 ∧ ((after (.xcTkwait 0) v).bench 0).fm.x 9 = 2 ∧
      ((after (.xcTkwait 0) (foreman .running w 31 0)).bench 0).fm.st = .stalled ∧
      atXc u .running .tkpoll q 31 0 = true ∧ ((after (.xcTkpoll 0) u).bench 0).token 223 = 2 ∧ ((after (.xcTkpoll 0) u).bench 0).fm.x 9 = 2 := by
  decide +kernel

/-- The five Weir instructions on Weir 2047 of bench 3, and a stalled xc.wread that has its reply. -/
theorem witness_XchotraInstructionsAct_weirs :
    (let w := xcWord 3 0 0 true
     let s := foreman .running w (3 * 2 ^ 16 + 2047) 9
     atXc s .running .wsig w (3 * 2 ^ 16 + 2047) 9 = true ∧ s.weirAllowed 0 3 = true ∧
       (after (.xcWsig 0) s).net.weirOps = [⟨3, 2047, .signal, 9, ⟨0, true, 1⟩⟩] ∧ ((after (.xcWsig 0) s).bench 0).fm.st = .stalled) ∧
      (let w := xcWord 3 1 0 true
       let s := foreman .running w (3 * 2 ^ 16 + 2047) 9
       atXc s .running .wwait w (3 * 2 ^ 16 + 2047) 9 = true ∧ (after (.xcWwait 0) s).net.weirOps.map WeirMsg.op = [.wait]) ∧
      (let w := xcWord 3 2 0 true
       let s := foreman .running w (3 * 2 ^ 16 + 2047) 65535
       atXc s .running .warrive w (3 * 2 ^ 16 + 2047) 65535 = true ∧ (after (.xcWarrive 0) s).net.weirOps.map WeirMsg.arg = [65535]) ∧
      (let w := xcWord 3 3 0 false
       let s := foreman .running w (3 * 2 ^ 16 + 2047) 0
       atXc s .running .wreset w (3 * 2 ^ 16 + 2047) 0 = true ∧ (after (.xcWreset 0) s).net.weirOps.map WeirMsg.op = [.reset]) ∧
      (let w := xcWord 3 4 9 false
       let s := foreman .running w (3 * 2 ^ 16 + 2047) 0
       let r := (foreman .stalled w (3 * 2 ^ 16 + 2047) 0).onBench 0 (fun b => { b with fm := { b.fm with weirReply := some 77 } })
       atXc s .running .wread w (3 * 2 ^ 16 + 2047) 0 = true ∧ (after (.xcWread 0) s).net.weirOps.map WeirMsg.op = [.read] ∧
         atXc r .stalled .wread w (3 * 2 ^ 16 + 2047) 0 = true ∧ ((after (.stalledInstructionRetire 0) r).bench 0).fm.x 9 = 77 ∧
         ((after (.stalledInstructionRetire 0) r).bench 0).fm.st = .running) := by decide +kernel

/-- xc.send of eight words on route 0, and xc.rfree of more entries than a ring holds. -/
theorem witness_XchotraInstructionsAct_send :
    let w := xcWord 4 0 9 true
    let a := 64 * 2 ^ 32 + 8 * 2 ^ 16 + 255 * 2 ^ 8
    let s := foreman .running w a 77
    let f := xcWord 4 1 9 true
    let r := ((foreman .running f 15 9).wr (Fld.BENCH_RING_PTR_WR_COUNT 0 15) 2).wr (Fld.BENCH_RING_CFG_EN 0 15) 1
    atXc s .running .send w a 77 = true ∧ s.routeOk 0 0 = true ∧ s.rd (Fld.BENCH_ROUTE_DEV 0 0) = s.devId ∧
      (s.bench 0).dmem.bad = [] ∧ 1 ≤ s.rd (Fld.BENCH_ROUTE_STAT_AVAIL 0 0) ∧
      (after (.xcSend 0) s).net.messages.map (fun m => (m.handler, m.arg, m.tenant, m.payload.length)) = [(255, 77, 1, 256)] ∧
      (after (.xcSend 0) s).rd (Fld.BENCH_ROUTE_STAT_AVAIL 0 0) = 0 ∧ atXc r .running .rfree f 15 9 = true ∧ r.ringOcc 0 15 = 2 ∧
      (after (.xcRfree 0) r).rd (Fld.BENCH_RING_PTR_RD_COUNT 0 15) = 2 ∧ ((after (.xcRfree 0) r).bench 0).fm.x 9 = 0 := by decide +kernel

/-- LUI, ADDI of -1, ADD, SUB, SD, LD, JAL, ECALL and WFI (the encodings of the RISC-V ISA, log 30). -/
theorem witness_ForemanRunsRv64AndTakesInterrupts :
    let go := fun (w x5 x6 : Nat) => (after (.foremanInstruction 0) (foreman .running w x5 x6)).bench 0
    let at_ := fun (w : Nat) => match (foreman .running w 0 0).fmFetch 0 .running with
      | some (.instr v 4) => decide (v = w) && decide (xcOf w = none)
      | _ => false
    at_ 0x800004B7 = true ∧ (go 0x800004B7 0 0).fm.x 9 = 0xFFFFFFFF80000000 ∧ at_ 0xFFF28493 = true ∧ (go 0xFFF28493 5 0).fm.x 9 = 4 ∧
      at_ 0x006284B3 = true ∧ (go 0x006284B3 (2 ^ 64 - 1) 2).fm.x 9 = 1 ∧ (go 0x406284B3 1 2).fm.x 9 = 2 ^ 64 - 1 ∧
      at_ 0x0062B023 = true ∧ (go 0x0062B023 (2 ^ 18 - 8) 0x0102030405060708).dmem.mem.readLE (2 ^ 18 - 8) 8 = 0x0102030405060708 ∧
      at_ 0x0002B483 = true ∧ (go 0x0002B483 8 0).fm.x 9 = 0 ∧ at_ 0x008004EF = true ∧ (go 0x008004EF 0 0).fm.pc = 8 ∧
      (go 0x008004EF 0 0).fm.x 9 = 4 ∧ at_ 0x73 = true ∧ (go 0x73 0 0).fm.mcause = 11 ∧ at_ 0x10500073 = true ∧
      (go 0x10500073 0 0).fm.st = .wfi := by decide +kernel

/-- The timer interrupt of a Foreman that waits. -/
theorem witness_ForemanRunsRv64AndTakesInterrupts_timer :
    let s := (foreman .wfi 0 0 0).onBench 0 (fun b => { b with fm := { b.fm with mieBit := true, mie := 0x80, mtvec := 0x100, timecmp := 0 } })
    let t := after (.foremanInterrupt 0) s
    (s.bench 0).fmLive = true ∧ s.mip 0 &&& (s.bench 0).fm.mie.toNat = 0x80 ∧ s.msgRing 0 = none ∧ (t.bench 0).fm.st = .running ∧
      (t.bench 0).fm.mcause = BitVec.ofNat 64 (2 ^ 63 + 7) ∧ (t.bench 0).fm.pc = 0x100 ∧ (t.bench 0).fm.mieBit = false := by decide +kernel

/-- A message for ring 15 of bench 0. -/
def letter (tenant : Nat) : Message := ⟨0, 15, 255, 3, 0, 1, 2, tenant, 77, [1, 2, 3], none, 0, 0⟩

theorem witness_MessagesAndCreditsMove :
    let s := fun tn : Nat => { (foreman .running 0 0 0).wr (Fld.BENCH_RING_CFG_EN 0 15) 1 with
      net := { live.net with messages := [letter tn], credits := [⟨0, 0, false⟩, ⟨0, 255, false⟩] } }
    let t := after (.messageArrival 0) (s 1)
    (s 1).dropsMessage 0 (letter 1) = false ∧ t.rd (Fld.BENCH_RING_PTR_WR_COUNT 0 15) = 1 ∧ t.net.messages = [] ∧
      (s 2).dropsMessage 0 (letter 2) = true ∧ (after (.messageArrival 0) (s 2)).cnt (Fld.BENCH_RING_PTR_DROPPED 0 15) = 1 ∧
      (s 1).routeOk 0 0 = true ∧ (after (.creditReturnArrival 0) (s 1)).rd (Fld.BENCH_ROUTE_STAT_AVAIL 0 0) = 1 ∧
      (s 1).routeOk 0 255 = false ∧ (after (.creditReturnArrival 1) (s 1)).regs = (s 1).regs := by decide +kernel

theorem witness_MessagesAndCreditsMove_route :
    live.writable (.fn 0) (benchOffset (.phys 0) + (0x1000 + 8 * 255)) = true ∧
      live.resolve (benchOffset (.phys 0) + (0x1000 + 8 * 255)) = some (0x100000 + (0x1000 + 8 * 255)) ∧ live.benchIdle 0 = true ∧
      (after (.routeWrite (.fn 0) (.phys 0) 255 0xFFFFFFFFFFFFFFFF) live).rd (Fld.BENCH_ROUTE_STAT_AVAIL 0 255) = 255 := by decide +kernel

/-! ### Witnesses: scrubbers and local HBM -/

/-- The last row of the Pool of bench 66 is clean and the pass counts; a bad word in its first row is marked; in RINSING the step waits. -/
theorem witness_ScrubbersStepAndReport_pool :
    let at_ := fun (m : BMode) (row : Nat) => withBench 66 (fun b => { b with mode := m, scrubs := [(memPool, ⟨row, true⟩)] })
    let s := at_ .idle 4095
    let t := after (.poolScrubStep 66 .clean) s
    let u := after (.poolScrubStep 66 .uncorrectable) (at_ .halted 3)
    s.running = true ∧ (s.bench 66).scrub memPool = ⟨4095, true⟩ ∧ (s.bench 66).pool.bad = [] ∧ (t.bench 66).scrub memPool = ⟨0, false⟩ ∧
      t.rd (Fld.BENCH_SCRUB_STATUS_PASSES 66) = 1 ∧ t.cnt (Fld.BENCH_SCRUB_STATUS_LAG 66) = 1 ∧ (u.bench 66).pool.bad = [1536] ∧
      lastClass u = some 2 ∧ ((after (.poolScrubStep 66 .clean) (at_ .rinsing 5)).bench 66).scrub memPool = ⟨5, true⟩ := by decide +kernel

theorem witness_ScrubbersStepAndReport_rest :
    let s := withBench 0 (fun b => { b with fm := { b.fm with st := .stopped }, scrubs := [(memInstr, ⟨511, false⟩)] })
    let t := after (.foremanScrubStep 0 true .clean) s
    let p := { live with hbm := { live.hbm with patrol := [(255, 2 ^ 26 - 1)] } }
    (s.bench 0).fm.st = .stopped ∧ (s.bench 0).mode ≠ .rinsing ∧ (s.bench 0).imem.bad = [] ∧ (s.bench 0).dmem.bad = [] ∧
      (t.bench 0).scrub memInstr = ⟨0, false⟩ ∧ (s.basin 3).bad = [] ∧
      p.hbm.mem.bad = [] ∧ (after (.hbmPatrolRead 255 0 .clean) p).rd (Fld.MEMC_CH_ECC_PASSES 255) = 1 ∧
      (after (.hbmPatrolRead 255 5 .uncorrectable) p).hbm.mem.bad = [255 * 2 ^ 26 + 5] ∧
      (after (.hbmPatrolRead 255 5 .uncorrectable) { p with hbm := { p.hbm with uncorr := [(255, 15)] } }).flag
        (Fld.MEMC_CH_STATUS_PENDING 255) = true := by decide +kernel

/-- A fill of the last page; one page more, and a fill while one runs, set OVERRUN. -/
theorem witness_HbmFillsRemapsAndThrottles_fill :
    let s := withHbm live
    let last := BitVec.ofNat 18 (s.hbmPages - 1)
    let t := after (.hbmFillGo .matumon 0 last) s
    s.writable .matumon Reg.DEVCTL_HBM_FILL = true ∧ s.hbmPages = 65536 ∧ t.hbm.fills = [⟨[65535], .register⟩] ∧
      t.flag Fld.DEVCTL_HBM_FILL_BUSY = true ∧ (after (.hbmFillGo .matumon 1 last) s).flag Fld.DEVCTL_HBM_FILL_OVERRUN = true ∧
      (after (.hbmFillGo .matumon 1 last) s).hbm = s.hbm ∧ (after (.hbmFillGo .matumon 0 0) t).flag Fld.DEVCTL_HBM_FILL_OVERRUN = true := by
  decide +kernel

theorem witness_HbmFillsRemapsAndThrottles_complete :
    let s := { live with hbm := { live.hbm with mem := EMem.zero, fills := [⟨[], .register⟩] } }
    s.running = true ∧ (after .hbmFillComplete s).hbm.fills = [] ∧ (after .hbmFillComplete s).flag Fld.DEVCTL_HBM_FILL_DONE = true := by
  decide +kernel

theorem witness_HbmFillsRemapsAndThrottles_remap :
    (live.running = true ∧ live.anyAssigned = false ∧ live.hbmQuiet = true ∧ (64 : BitVec 7).toNat ≤ 64) ∧
      (let s := live.wr (Fld.MGMT_GANG_STATE 15) gangAssigned
       s.anyAssigned = true ∧ after (.hbmRemap 3 64) s = s) ∧
      { live with hbm := { live.hbm with fills := [⟨[0], .register⟩] } }.hbmQuiet = false := by decide +kernel

/-- Stack 7 at the threshold of step 6 and stack 0 hot. -/
theorem witness_HbmFillsRemapsAndThrottles_temp :
    let s := [0, 7].foldl (fun s x => s.wr (Fld.DEVCTL_HBM_STACK_PRESENT x) 1)
      (((live.wr Fld.DEVCTL_HBM_THERM_T5 80).wr Fld.DEVCTL_HBM_THERM_T6 90).wr Fld.DEVCTL_HBM_THERM_T8 100)
    let t := after (.hbmTempSample [85, 0, 0, 0, 0, 0, 0, 90]) s
    s.flag (Fld.DEVCTL_HBM_STACK_PRESENT 7) = true ∧ s.rd Fld.DEVCTL_HBM_THERM_T6 ≤ 90 ∧ t.rd Fld.DEVCTL_HBM_THERM_REQUEST = 2 ∧
      t.rd (Fld.DEVCTL_HBM_STACK_TEMP 7) = 90 ∧ t.flag (Fld.DEVCTL_HBM_STACK_HOT 0) = true ∧ t.rd Fld.CLKPWR_THROTTLE_TARGET = 2 ∧
      lastClass t = some 0x16 := by decide +kernel

theorem witness_TrafficGeneratorRuns :
    let c : Fin 256 := 255
    let s := ((live.wr (Fld.MEMC_CH_STATUS_STATE c) 1).wr (Fld.MEMC_CH_TG_RANGE_FIRST c) (2 ^ 22 - 2)).wr (Fld.MEMC_CH_TG_RANGE_LINES c) 2
    let t := after (.tgGo (.fn 0) c (BitVec.ofNat 64 (2 * 2 ^ 60))) s
    s.writable (.fn 0) (Reg.MEMC_CH_TG_CTL c) = true ∧ s.rd (Fld.MEMC_CH_STATUS_STATE c) = 1 ∧ s.tgRun c = none ∧
      s.rd (Fld.MEMC_CH_TG_RANGE_FIRST c) + s.rd (Fld.MEMC_CH_TG_RANGE_LINES c) ≤ 2 ^ 22 ∧
      t.tgRun c = some ⟨2, 0, 2 ^ 22 - 2, 2⟩ ∧ t.flag (Fld.MEMC_CH_TG_STATUS_BUSY c) = true := by decide +kernel

theorem witness_TrafficGeneratorRuns_complete :
    let run := fun (r : TgRun) => { (device devReady) with hbm := { live.hbm with mem := ⟨Mem.zero.writeByte (2 ^ 31 + 512) 9, []⟩, tg := [(1, r)] } }
    let z := after (.tgRunComplete 1 []) (run ⟨0, 0, 1, 1⟩)
    let f := after (.tgRunComplete 1 [7, 6, 900]) (run ⟨1, 2, 6, 3⟩)
    (run ⟨0, 0, 1, 1⟩).tgRun 1 = some ⟨0, 0, 1, 1⟩ ∧ z.hbm.mem.mem.readByte (2 ^ 31 + 512) = 0 ∧ z.tgRun 1 = none ∧
      (run ⟨1, 2, 6, 3⟩).devState ≠ devClearing ∧ f.flag (Fld.MEMC_CH_TG_STATUS_FAIL 1) = true ∧
      f.rd (Fld.MEMC_CH_TG_STATUS_FIRST_FAIL 1) = 6 ∧ f.cnt (Fld.MEMC_CH_TG_STATUS_FAIL_COUNT 1) = 2 := by decide +kernel

/-! ### Witnesses: the fabric links -/

/-- The running device with link 63 (a half-port) in a state. -/
def linkIn (st : Nat) : State := ((live.wr (Fld.FAB_PORT_CTL_SPLIT 62) 1).wr (Fld.FAB_PORT_STATUS_STATE 63) st).wr (Fld.FAB_PORT_STATUS_SPARED 63) 15

theorem witness_LinksTrainAndObeyTheirPorts_port :
    let d : Reg64 := 0
    let en := fun st => (linkIn st).wr (Fld.FAB_PORT_CTL_ENABLE 63) 1
    (∀ st ∈ [lkDisabled, lkActive, lkDown, lkDetect], (linkIn st).writable (.fn 0) (Reg.FAB_PORT_CTL 63) = true ∧
      (linkIn st).linkExists 63 = true ∧ getBits d 57 56 ≠ 3) ∧
    (linkIn lkDisabled).flag (Fld.FAB_PORT_CTL_ENABLE 63) = false ∧ (linkIn lkDisabled).linkState 63 = lkDisabled ∧
      (after (.linkEnable (.fn 0) 63 d) (linkIn lkDisabled)).linkState 63 = lkDetect ∧
      (en lkActive).flag (Fld.FAB_PORT_CTL_ENABLE 63) = true ∧ (en lkActive).linkState 63 ≠ lkDisabled ∧ (en lkActive).linkUp 63 = true ∧
      (en lkDetect).linkUp 63 = false ∧ (after (.linkDisable (.fn 0) 63 d) (en lkActive)).linkState 63 = lkDisabled ∧
      (after (.linkDisable (.fn 0) 63 d) (en lkDetect)).linkState 63 = lkDisabled ∧
      (after (.linkRetrain (.fn 0) 63 d) (linkIn lkActive)).linkState 63 = lkRetrain ∧
      (after (.linkRetrain (.fn 0) 63 d) (linkIn lkDown)).linkState 63 = lkDetect ∧
      (linkIn lkActive).linkState 63 = lkActive ∧ ((linkIn lkActive).link 63).resetting = false ∧
      ((after (.llReset (.fn 0) 63 d) (linkIn lkActive)).link 63).resetting = true := by decide +kernel

theorem witness_LinksTrainAndObeyTheirPorts_reset :
    let s := (linkIn lkActive).onLink 63 (fun l => { l with resetting := true, partnerAlloc := List.replicate 8 64 })
    (s.running = true ∧ s.power.thermtrip = false) ∧ (s.link 63).resetting = true ∧ s.net.held = false ∧
      (after (.llResetComplete 63) s).rd (Fld.FAB_PORT_CREDIT_AVAIL0 63 0) = 64 ∧
      (after (.llResetComplete 63) s).rd (Fld.FAB_PORT_CREDIT_AVAIL1 63 7) = 32 := by decide +kernel

/-- Three of four lanes are enough for a half-port, two are not. -/
theorem witness_LinksTrainAndObeyTheirPorts_training :
    let go := fun (c : Instr) (st : Nat) => (after c (linkIn st)).linkState 63
    (linkIn lkDetect).lanesOf 63 = 4 ∧ popcount (0x7 : BitVec 8).toNat 4 + 1 = 4 ∧
      (after (.linkDetectRetry 63) (linkIn lkDetect)).cnt (Fld.FAB_PORT_STATUS_TRAIN_ATTEMPTS 63) = 1 ∧
      go (.linkPartnerSeen 63 0x7) lkDetect = lkEqualise ∧ go (.linkPartnerSeen 63 0x3) lkDetect = lkDetect ∧
      go (.linkEqualiseDone 63) lkEqualise = lkMeasure ∧ go (.linkStateTimeout 63) lkExchange = lkDetect ∧
      go (.linkStateTimeout 63) lkRetrain = lkDetect ∧ lastClass (after (.linkStateTimeout 63) (linkIn lkRetrain)) = some 0x0D ∧
      ((linkIn lkRetrain).link 63).spareLane = none ∧ go (.linkRetrainDone 63) lkRetrain = lkActive := by decide +kernel

theorem witness_LinksTrainAndObeyTheirPorts_lanes :
    let up := fun st => (linkIn st).wr (Fld.FAB_PORT_STATUS_LANES_UP 63) 15
    let r := (up lkRetrain).onLink 63 (fun l => { l with spareLane := some 3 })
    let m := (linkIn lkMeasure).onLink 63 (fun l => { l with trained := 7 })
    let t := after (.linkMeasureDone 63 0xFFFFF [1, 2, 3, 4, 5, 6, 7, 8]) m
    (m.linkState 63 = lkMeasure ∧ t.rd (Fld.FAB_PORT_MEAS_LENGTH 63) = 104858 % 65536 ∧ t.rd (Fld.FAB_PORT_LANE_LOSS_LOSS 63 2) = 3 ∧
        t.rd (Fld.FAB_PORT_LANE_LOSS_LOSS 63 3) = 255) ∧
      (r.link 63).spareLane = some (3 : Fin 8).val ∧ bit (r.rd (Fld.FAB_PORT_STATUS_LANES_UP 63)) 3 = true ∧
      (after (.linkRetrainDone 63) r).rd (Fld.FAB_PORT_STATUS_LANES_UP 63) = 7 ∧
      (up lkActive).rd (Fld.FAB_PORT_STATUS_SPARED 63) = 0xF ∧ ((up lkActive).link 63).spareLane = none ∧
      (after (.laneFailure 63 3) (up lkActive)).linkState 63 = lkRetrain ∧
      (after (.laneFailure 63 3) ((up lkActive).wr (Fld.FAB_PORT_STATUS_SPARED 63) 0)).rd (Fld.FAB_PORT_STATUS_DOWN_REASON 63) = 1 := by
  decide +kernel

/-- A partner that answers on two of four lanes: DOWN for reason 1. -/
theorem witness_LinksTrainAndObeyTheirPorts_exchange :
    let s := (linkIn lkExchange).onLink 63 (fun l => { l with trained := 15 })
    let c := { emptyCap with lanes := 0x3, alloc := List.replicate 8 4, dev := 77 }
    s.linkState 63 = lkExchange ∧ c.alloc.length = 8 ∧ popcount ((s.link 63).trained &&& c.lanes.toNat) 4 + 1 < 4 ∧
      (after (.linkExchangeDone 63 c) s).linkState 63 = lkDown ∧
      (after (.linkExchangeDone 63 c) s).rd (Fld.FAB_PORT_STATUS_DOWN_REASON 63) = 1 ∧
      (after (.linkExchangeDone 63 c) s).rd (Fld.FAB_PORT_PARTNER0_DEV 63) = 77 := by decide +kernel

/-- A one-flit body of 244 bytes. -/
def oneFlit (vc : Nat) : Flit := ⟨vc, 0, true, true, false, none, List.replicate 244 1⟩

theorem witness_FlitsAreSentAndChecked_send :
    let s := (linkIn lkActive).onLink 63 (fun l => { l with txSeq := 4095, due := [⟨7, 1, 1023⟩, ⟨0, 0, 3⟩] })
    let g := ((linkIn lkActive).onLink 63 (fun l => { l with txSeq := 4095, egress := [⟨0, 0, 1, [oneFlit 0], 0, none, 0⟩] })).wr
      (Fld.FAB_PORT_CREDIT_AVAIL0 63 0) 1
    let t := after (.flitSend 63) g
    s.linkState 63 = lkActive ∧ (s.link 63).resetting = false ∧ (s.link 63).resend = 0 ∧ (s.link 63).egress = [] ∧
      ((after (.flitSend 63) s).link 63).due = [⟨0, 0, 3⟩] ∧ (g.choose 63).1.place = some 0 ∧ (g.link 63).replay.length < 512 ∧
      (t.link 63).txSeq = 0 ∧ (t.link 63).egress = [] ∧ (t.link 63).replay.map Prod.fst = [0] ∧
      t.rd (Fld.FAB_PORT_CREDIT_AVAIL0 63 0) = 0 := by decide +kernel

/-- A null flit, a flit in sequence, one out of sequence, and one with a wrong CRC. -/
theorem witness_FlitsAreSentAndChecked_receive :
    let f := fun seq => byteList ((oneFlit 0).encode ⟨false, false, seq, 0⟩)
    let s := (linkIn lkActive).onLink 63 (fun l => { l with rxSeq := 4095 })
    (f 0).length = 256 ∧ flitCrcOk (natBytes (f 0)) = true ∧ (Flit.decode (natBytes (f 0))).2.seq = nextSeq (s.link 63).rxSeq ∧
      ((after (.flitReceive 63 (f 0) false 0) s).link 63).rxSeq = 0 ∧ (Flit.decode (natBytes (f 9))).2.null = false ∧
      ((after (.flitReceive 63 (f 9) false 0) s).link 63).nak = true ∧ flitCrcOk (natBytes ((f 0).set 9 0)) = false ∧
      ((after (.flitReceive 63 ((f 0).set 9 0) false 0) s).link 63).nak = true ∧
      ((after (.flitReceive 63 (f 0) true 0) s).link 63).nak = true := by decide +kernel

theorem witness_FlitsAreSentAndChecked_modules :
    (after (.modulePresenceSample 1) (linkIn lkActive)).flag (Fld.FAB_PORT_STATUS_OPTICAL 63) = true ∧
      (after (.modulePresenceSample 1) (linkIn lkActive)).flag (Fld.FAB_PORT_STATUS_OPTICAL 0) = false := by decide +kernel

/-- CRC-32C of the digits 1 to 9 (its published check value). -/
theorem test_crc32c : crc32c [49, 50, 51, 52, 53, 54, 55, 56, 57] = 0xE3069283 := by decide +kernel

/-- A route entry to slots 0 to 16383 over link 0 alone. -/
def routeAll : Reg64 := BitVec.ofNat 64 (2 ^ 63 + 16383 * 2 ^ 42)

/-- A route of one link that is up leads there. -/
theorem nextHop_one (s : State) (p : Packet) (e : Reg64) (lk : Nat) (h0 : p.dest ≠ s.devId) (h1 : s.routeFor p.dest = some e)
    (h2 : routeLinks e = [lk]) (h3 : s.linkUp lk = true) : s.nextHop p = .link lk (e.getLsbD 62) := by
  simp [State.nextHop, h0, h1, State.pickLink, h2, h3, Nat.mod_one]

/-- A packet from slot 5 for tenant 1. -/
def request (kind address : Nat) (payload : List Byte) : Packet := ⟨0, 5, 0, kind, payload.length, 3, 1, 9, 2, 0, address, 0, payload, []⟩

/-- The device as slot 0 with link 0 up, page 0 exported and of tenant 1, and a packet delivered. -/
def receiving (p : Packet) : State :=
  let s := (withHbm live).wr (Fld.FAB_PORT_STATUS_STATE 0) lkActive
  let s := (s.wr Fld.HALL_EXPORT_EN 1).wr Fld.HALL_EXPORT_PAGES 1
  { s with hall := { s.hall with routes := [(0, routeAll)] }, net := { s.net with inbox := [⟨p, some 0⟩] } }

/-- What `asked` asks of such a device, in parts that can be decided. -/
theorem asked_one (s : State) (kind : Nat) (p : Packet) (h : s.running = true ∧ s.net.inbox[0]? = some ⟨p, some 0⟩ ∧ p.kind = kind ∧
    (s.fenced = false ∧ s.net.held = false) ∧ s.devId = 0 ∧ p.src = 5 ∧ s.routeFor 5 = some routeAll ∧ s.linkUp 0 = true) :
    s.asked 0 kind p 0 0 := by
  obtain ⟨h1, h2, h3, h4, h5, h6, h7, h8⟩ := h
  refine ⟨h1, ⟨_, h2⟩, h3, h4, fun q hq _ => ⟨false, ?_, rfl⟩⟩
  rw [h6] at hq
  exact nextHop_one _ q routeAll 0 (by rw [h5, hq]; decide) (by rw [hq]; exact h7) (by decide +kernel) h8

theorem witness_DeliveredPacketsAreAnswered :
    let p := fun a => request kRdReq a (List.replicate 64 0)
    let w := fun a => request kWrReq a (List.replicate 32 7)
    (receiving (p 0)).asked 0 kRdReq (p 0) 0 0 ∧ (receiving (p 0)).exportAt (p 0) = some 0 ∧
      (receiving (p (2 ^ 21))).exportAt (p (2 ^ 21)) = none ∧ (receiving (w 0)).asked 0 kWrReq (w 0) 0 0 ∧
      (receiving (w 0)).exportAt (w 0) = some 0 ∧ (receiving (w (2 ^ 21))).exportAt (w (2 ^ 21)) = none ∧
      (receiving (w 0)).hbm.mem.bad = [] :=
  ⟨asked_one _ _ _ (by decide +kernel), by decide +kernel, by decide +kernel, asked_one _ _ _ (by decide +kernel), by decide +kernel, by decide +kernel, rfl⟩

theorem witness_DeliveredPacketsAreAnswered_segment :
    let p := fun a => request kBulk a (List.replicate 32 7)
    (receiving (p 0)).asked 0 kBulk (p 0) 0 0 ∧ (p 0).payload.length ≠ 128 ∧
      (receiving (p 0)).ownsRange 1 (2 ^ 21 - 32) 32 = true ∧ (receiving (p 0)).ownsRange 1 (2 ^ 21 - 31) 32 = false :=
  ⟨asked_one _ _ _ (by decide +kernel), by decide +kernel, by decide +kernel, by decide +kernel⟩

/-- A service of tenant 1 with a set of sources. -/
def service (sources : Nat) : Service := ⟨0, 3, 8192, 3, 16384, 3, 4, 100, sources, [], 0, 0, [], [], false, false⟩

/-- The device as it receives, with a service that runs, and its intake. -/
def serving (p : Packet) (sources intake : Nat) : State :=
  let s := (receiving p).wr (Fld.MGMT_TENANT_INTAKE 1) intake
  { s with mgmt := { s.mgmt with tenants := [(1, { Tenant.closed with job := some ⟨1, 0, false, 0, true, none⟩, svc := some (service sources) })] } }

theorem witness_DeliveredPacketsAreAnswered_record :
    let p := request kBulk 0 (List.replicate 128 7)
    let yes := serving p (2 ^ 16) inOpen
    let no := serving p 0 inOpen
    yes.asked 0 kBulk p 0 0 ∧ no.asked 0 kBulk p 0 0 ∧ yes.svcRuns 1 = true ∧ (yes.tenant 1).svc = some (service (2 ^ 16)) ∧
      bit (service (2 ^ 16)).sources 16 = true ∧ bit (service 0).sources 16 = false ∧ yes.rd (Fld.MGMT_TENANT_INTAKE 1) = inOpen ∧
      yes.reqOcc 1 < 2 ^ (service 0).reqLog ∧ (serving p 0 inClosed).rd (Fld.MGMT_TENANT_INTAKE 1) ≠ inOpen :=
  ⟨asked_one _ _ _ (by decide +kernel), asked_one _ _ _ (by decide +kernel), by decide +kernel, by decide +kernel, by decide +kernel,
    by decide +kernel, by decide +kernel, by decide +kernel, by decide +kernel⟩

theorem witness_DeliveredPacketsAreAnswered_firmware :
    let a := { request kBulkAck 0 [] with argB := 1 }
    let m := request kMgmt 0 [1]
    (receiving a).net.inbox[0]? = some ⟨a, some 0⟩ ∧ (after (.bulkAckReceive 0) (receiving a)).out = [.bulkAck 5 true] ∧
      (after (.mgmtPacketReceive 0) (receiving m)).out = [.mgmtEvent evPacket 5] := by decide +kernel

/-! ### Witnesses: the Hall -/

/-- The stage holds all ones; entry 1023 of the route table and of the map. -/
theorem witness_HallTablesTakeCommitsAndInstalls_tables :
    let s := (live.setReg (Reg.HALL_TBL_STAGE 0) (BitVec.allOnes 64)).setReg (Reg.HALL_TBL_STAGE 1) (BitVec.allOnes 64)
    let t := after (.hallTblCommit (.fn 0) 0 1023) s
    let m := after (.hallTblCommit .matumon 1 1023) s
    s.writable (.fn 0) Reg.HALL_TBL_CMD = true ∧ s.writable .matumon Reg.HALL_TBL_CMD = true ∧ viewNum .matumon = 17 ∧
      t.routeEnt 1023 ≠ 0 ∧ t.rd Fld.HALL_TBL_STATUS_INDEX = 1023 ∧ Sparse.get (fun _ => (0 : Reg64)) m.hall.mapLo 1023 ≠ 0 ∧
      (after (.hallTblRead (.fn 0) 0 5) s).reg (Reg.HALL_TBL_STAGE 0) = 0 ∧ (after (.hallTblRead (.fn 0) 1 1023) m).flag Fld.HALL_TBL_STATUS_DONE = true := by
  decide +kernel

/-- A verb is captured; a second one sets OVERRUN. -/
theorem witness_HallTablesTakeCommitsAndInstalls_verbs :
    let t := after (.cflInstall (.fn 0) 63) live
    live.writable (.fn 0) Reg.HALL_CFL_CMD = true ∧ live.hall.cflOp = none ∧ t.hall.cflOp.map CflOp.index = some 63 ∧
      t.hall.cflOp.isSome = true ∧ (after (.cflRead (.fn 0) 0) t).flag Fld.HALL_CFL_STATUS_OVERRUN = true ∧
      (after (.cflRemove (.fn 0) 0) live).hall.cflOp.map CflOp.verb = some 1 := by decide +kernel

/-- The eight doublewords of an ALLREDUCE (or another operation) of tenant 1 over slots 0 and 1, one element. -/
def stage (op size src start : Nat) : List Reg64 :=
  [BitVec.ofNat 64 (op * 2 ^ 60 + 2 * 2 ^ 57 + 2 ^ 54 + 2 ^ 48 + size * 2 ^ 16), BitVec.ofNat 64 (2 ^ 32), BitVec.ofNat 64 src, 64,
    BitVec.ofNat 64 (start * 2 ^ 58 + 2047 * 2 ^ 44 + 1), BitVec.ofNat 64 1, 0, 0]

/-- A device that holds gang 0 for tenant 1, with that operation on entry 63. -/
def installing (verb : Nat) (l : List Reg64) : State :=
  let s := ((withHbm live).wr (Fld.MGMT_GANG_STATE 0) gangAssigned).wr (Fld.MGMT_GANG_TENANT 0) 1
  { s with hall := { s.hall with cflOp := some ⟨verb, 63, l⟩ } }

/-- Each check of Table 14.4 by an entry that fails it, and one that passes (R388). -/
theorem witness_HallTablesTakeCommitsAndInstalls_install :
    let go := fun (l : List Reg64) => (after .cflCmdComplete (installing 0 l)).rd Fld.HALL_CFL_STATUS_RESULT
    let ok := after .cflCmdComplete (installing 0 (stage 2 2 32 3))
    go (stage 2 2 32 3) = 0 ∧ (ok.cfl 63).valid = true ∧ ok.hall.cflOp = none ∧ go (stage 4 2 32 3) = 2 ∧ go (stage 2 0 32 3) = 3 ∧
      go (stage 2 2 33 3) = 4 ∧ go (stage 2 2 32 4) = 5 ∧
      (let s := { ok with hall := { ok.hall with cflOp := some ⟨1, 63, []⟩ } }
       ((after .cflCmdComplete s).cfl 63).valid = false ∧
         (after .cflCmdComplete (s.onRun 63 id)).rd Fld.HALL_CFL_STATUS_RESULT = 0) ∧
      (let s := { ok with hall := { ok.hall with cflOp := some ⟨2, 63, []⟩ } }
       (after .cflCmdComplete s).reg (Reg.HALL_CFL_STAGE 2) = 32) := by decide +kernel

/-- A chief, a member or a spare of the Hall. -/
def hallDevice (role st slot gen : Nat) : State :=
  { ((((device devReady).wr Fld.HALL_ID_ROLE role).wr Fld.HALL_ID_STATE st).wr Fld.HALL_ID_DEV_ID slot).wr Fld.HALL_ID_GEN gen with
    out := [] }

/-- A tributary slot 9 with its misses and last heartbeat. -/
def trib9 (misses : Nat) (beat : Option Nat) : Trib := { Trib.reset with valid := true, dev := 9, misses := misses, lastBeat := beat }

/-- A headwater that watches slot 9 (generation 4) at time 100,000 ns. -/
def headwater (t : Trib) : State :=
  let s := (hallDevice 1 2 3 7).setGen 9 2 4
  { s with hall := { s.hall with tribs := [(0, t)] }, power := { s.power with time := 100000 } }

theorem witness_HeartbeatsFenceAndAdmit_beats :
    let s := headwater (trib9 3 (some 49999))
    let t := after (.heartbeatReceive ⟨9, 4, 4, 600⟩) s
    s.running = true ∧ (after .heartbeatSend s).out.length = 1 ∧ (after .heartbeatSend live).out = [] ∧ live.rd Fld.HALL_ID_STATE = 0 ∧
      (s.genEntry 9).1 = 2 ∧ (s.genEntry 9).2 = 4 ∧ s.tribOf 9 = some 0 ∧ (t.trib 0).misses = 0 ∧ (t.trib 0).lagAvg = 600 ∧
      (t.trib 0).lastBeat = some 100000 ∧ (s.genEntry 9).2 ≠ (5 : BitVec 16).toNat := by decide +kernel

/-- A miss counts beyond 50 µs; the fourth one declares the slot dead. -/
theorem witness_HeartbeatsFenceAndAdmit_tick :
    let s := headwater (trib9 2 (some 49999))
    let d := headwater (trib9 3 (some 49999))
    ((s.trib 0).valid = true ∧ (s.trib 0).st < 2 ∧ (s.trib 0).condemned = false ∧ (s.trib 0).misses < 3) ∧
      ((after .heartbeatTick s).trib 0).misses = 3 ∧ ((after .heartbeatTick (headwater (trib9 2 (some 50000)))).trib 0).misses = 2 ∧
      d.hall.tribs = [(0, trib9 3 (some 49999))] ∧ (trib9 3 (some 49999)).st < 2 ∧ d.isChief = false ∧ d.flag Fld.HALL_ID_DEPUTY = false ∧
      ((after .heartbeatTick d).trib 0).st = 2 ∧ (after .heartbeatTick d).genEntry 9 = (3, 4) ∧
      (after .heartbeatTick d).out.getLast? = some (.fenceRequest 0 9) := by decide +kernel

/-- The chief with a spare slot 12 and without one. -/
theorem witness_HeartbeatsFenceAndAdmit_chief :
    let c := (hallDevice 2 2 0 1).setGen 9 2 0xFFFE
    let s := c.setGen 12 1 6
    let t := after (.fenceRequestReceive 9) s
    s.isChief = true ∧ s.hall.fencing = none ∧ s.hall.fenceQueue = [] ∧ (s.genEntry 9).2 = 0xFFFE ∧
      (s.setGen 9 3 0xFFFE).spareSlot = some 12 ∧ t.out = [.fenceNotice ⟨9, 0xFFFF, 2, some (12, 0)⟩] ∧ t.genEntry 9 = (2, 0xFFFF) ∧
      t.genEntry 12 = (0, 7) ∧ t.hall.fencing = some (9, 12) ∧ (c.setGen 9 3 0xFFFE).spareSlot = none ∧
      lastClass (after (.fenceRequestReceive 9) c) = some 0x1B ∧ t.hall.fenceQueue = [] ∧ t.tribOf 9 = none ∧
      (after .fenceAcksComplete t).out.getLast? = some (.admitSpare 12 9 0xFFFF 0) := by decide +kernel

theorem witness_HeartbeatsFenceAndAdmit_notice :
    let s := ((hallDevice 0 2 3 7).setGen 9 3 4).setGen 12 1 0xFFFF
    let s := { s with hall := { s.hall with routes := [(70, routeAll)] } }
    let n : FenceNotice := ⟨9, 5, 2, some (12, 63)⟩
    let t := after (.fenceNoticeApply n) s
    let own : FenceNotice := ⟨3, 8, 2, none⟩
    (n.slot.toNat ≠ s.devId ∧ (s.genEntry 9).2 < n.gen.toNat) ∧ t.genEntry 9 = (2, 5) ∧ t.genEntry 12 = (3, 0xFFFF) ∧
      t.out = [.fenceAck 9] ∧ s.routeFor 12 = some routeAll ∧ t.routeEnt 63 = overrideEntry 9 routeAll ∧
      own.slot.toNat = s.devId ∧ s.rd Fld.HALL_ID_STATE ≠ 0 ∧ own.gen.toNat ≠ s.rd Fld.HALL_ID_GEN ∧ s.devOpen = true ∧
      (s.setDev devHeld 1).devState = devHeld := by decide +kernel

theorem witness_HeartbeatsFenceAndAdmit_admission :
    let s := hallDevice 0 1 12 6
    let t := after (.admitReceive 9 5 1) s
    let q := (hallDevice 0 3 9 4).setDev devQuarantine 0
    let q := { q with mgmt := { q.mgmt with quarantineFilled := true } }
    let u := after (.tribTableReceive [none, some 77]) (hallDevice 1 2 3 7)
    s.rd Fld.HALL_ID_STATE = 1 ∧ t.devId = 9 ∧ t.rd Fld.HALL_ID_STATE = 2 ∧ t.genEntry 9 = (2, 5) ∧
      t.power.ledger.devId = 9 ∧ q.devState = devQuarantine ∧ q.benches = [] ∧ (q.bench 0).mode = .idle ∧
      (after (.spareNoticeReceive 40 2) q).devId = 40 ∧ (after (.spareNoticeReceive 40 2) q).devOpen = true ∧
      (hallDevice 1 2 3 7).rd Fld.HALL_ID_ROLE ≠ 0 ∧ (u.trib 1).dev = 77 ∧ (u.trib 1).valid = true ∧ u.trib 0 = Trib.reset := by
  decide +kernel

/-- Entry 63: the operation over slots 0 to 1, this device as slot 0, with a run or none. -/
def gathering (op : Nat) (run : Option CollRun) : State :=
  let s := installing 2 []
  { s with hall := { s.hall with cflOp := none, cfl := [(63, ⟨(putBits ((stage op 2 32 3).getD 0 0) 63 63 1) :: (stage op 2 32 3).drop 1, 0, run, []⟩)] } }

/-- A packet of rank 1 for entry 63. -/
def fromRank1 (last : Bool) : CollPacket := ⟨63, 1, true, 0, last, 0, [0, 0, 0x80, 0x3F]⟩

theorem witness_CollectivesSnapshotsAndResetsSpread_packets :
    let s := gathering 2 none
    let r : CollRun := ⟨[], [], [0], 0, false, false, false⟩
    let g := gathering 2 (some r)
    let t := after (.collPacketReceive (fromRank1 false)) s
    let u := after (.collPacketReceive (fromRank1 true)) g
    (fromRank1 false).bytes.length ≤ 4096 ∧ (s.cfl 63).valid = true ∧ (s.cfl 63).run = none ∧
      (fromRank1 false).rank.toNat ∈ (s.cfl 63).awaited ((s.cfl 63).rankOf s.devId) ∧ (t.cfl 63).early = [fromRank1 false] ∧
      (g.cfl 63).run = some r ∧ ((after (.collPacketReceive (fromRank1 false)) g).cfl 63).run.map (fun r => r.inputs.length) = some 1 ∧
      (u.cfl 63).run.map CollRun.done = some true ∧ (List.range 4).map (fun k => u.hbmByte (64 + k)) = [0, 0, 0x80, 0x3F] ∧
      (live.cfl 63).valid = false ∧ ((gathering 1 none).cfl 63).awaited 0 = [] := by decide +kernel

/-- A member of a broadcast starts its run at the signal that meets the target; a run that is done signals DONE. -/
theorem witness_CollectivesSnapshotsAndResetsSpread_runs :
    let g := (gathering 1 none).wr Fld.HALL_ID_DEV_ID 1
    let s := { g with net := { g.net with weirOps := [⟨3, 2047, .signal, 1, ⟨0, false, 5⟩⟩] } }
    let e := s.cfl 63
    let r : CollRun := ⟨[], [], [], 0, true, true, false⟩
    let d := gathering 2 (some r)
    let t := after (.cflRunComplete 63) d
    s.net.weirOps[0]? = some ⟨3, 2047, .signal, 1, ⟨0, false, 5⟩⟩ ∧ s.physOf 3 = 3 ∧ (s.bench 3).mode ≠ .rinsing ∧ (s.bench 3).held = [] ∧
      s.logicalOf 3 = some e.startBench ∧ e.startWeir = 2047 ∧ e.op = 1 ∧ e.rankOf s.devId = 1 ∧ e.early = [] ∧
      e.due (min ((s.bench 3).weir 2047 + 1) 0xFFFFFFFF) = true ∧ (s.cfl 0).startWeir ≠ 2047 ∧
      ((after (.weirOperationArrival 0) s).cfl 63).run = some ⟨[], [], [], s.power.time, false, false, false⟩ ∧
      (d.cfl 63).run = some r ∧ r.done = true ∧
      Sparse.get (fun _ => 0) (d.bench (d.physOf (d.cfl 63).startBench)).weirs (d.cfl 63).startWeir <
        (d.cfl 63).startTarget + ((d.cfl 63).started + 1) * (d.cfl 63).stepBy ∧
      (t.cfl 63).started = 1 ∧ (t.cfl 63).run = none ∧ t.net.weirOps.map WeirMsg.arg = [1] := by decide +kernel

theorem witness_CollectivesSnapshotsAndResetsSpread_snapshot :
    let c := hallDevice 2 2 0 1
    let m := { hallDevice 0 2 3 7 with power := { live.power with time := 100 } }
    let cut := { m with hall := { m.hall with snapCut := some 100 } }
    let t := after (.snapGo (.fn 0) 0xFFFF) c
    let n := after .snapCut cut
    c.isChief = true ∧ c.flag Fld.HALL_SNAP_CTL_BUSY = false ∧ c.writable (.fn 0) Reg.HALL_SNAP_CTL = true ∧
      t.hall.snapCut = some 0xFFFF ∧ t.out = [.snapMarker 1 0xFFFF] ∧ (after .trigInSnapshotEdge c).flag Fld.HALL_SNAP_CTL_BUSY = true ∧
      (after (.snapMarkerReceive 9 99) m).out = [.snapMarker 9 99, .snapReport true] ∧
      (after (.snapMarkerReceive 9 100) m).hall.snapCut = some 100 ∧ cut.hall.snapCut.isSome = true ∧ cut.isChief = false ∧
      n.flag Fld.HALL_SNAP_CTL_DONE = true ∧ n.out.getLast? = some (.snapReport false) ∧
      (after (.snapReportReceive true false) m).out = [.snapReport true] ∧ t.isChief = true ∧ t.flag Fld.HALL_SNAP_CTL_BUSY = true ∧
      (after (.snapReportReceive true false) t).flag Fld.HALL_SNAP_CTL_FAILED = true ∧
      (after (.snapReportReceive false true) t).flag Fld.HALL_SNAP_CTL_DONE = true := by decide +kernel

theorem witness_CollectivesSnapshotsAndResetsSpread_freset :
    let c := hallDevice 2 2 0 1
    let m := hallDevice 0 2 3 7
    let t := after (.fresetGo (.fn 0) false 5) c
    c.writable (.fn 0) Reg.HALL_FRESET = true ∧ c.isChief = true ∧ c.flag Fld.HALL_FRESET_BUSY = false ∧
      (5 : BitVec 4).toNat ≠ c.rd Fld.HALL_ID_PARTITION ∧ t.flag Fld.HALL_FRESET_BUSY = true ∧ t.out = [.resetNotice false 5] ∧
      (after (.fresetReportReceive true) t).flag Fld.HALL_FRESET_DONE = true ∧ m.isChief = false ∧
      (after (.fresetReportReceive true) m).out = [.resetReport] ∧ (after (.fresetNoticeReceive false 5) m).out = [.resetNotice false 5] ∧
      (c.wr (Fld.FAB_PORT_STATUS_STATE 4) lkActive).linkState 4 = lkActive := by decide +kernel

/-- An offset of 5 ns as the sixteenth one in ±5 ns, one of 1 µs and one beyond. -/
theorem witness_DeviceTimeFollowsItsSources_sync :
    let s := (hallDevice 0 2 3 7).wr (Fld.FAB_PORT_STATUS_STATE 0) lkActive
    let g := { s with power := { s.power with good := 15, badRun := 3, time := 5000 } }
    let off := fun (t1 t2 t3 t4 : Nat) => (((t2 : Int) - t1) - ((t4 : Int) - t3)) * 500
    let u := after (.tsyncPacketReceive 100 1200 0 0) g
    s.hasUpstream = true ∧ s.linkUp (s.rd Fld.CLKPWR_TSYNC_LINK) = true ∧ (after .tsyncExchange s).out = [.tsync 0 0] ∧
      off 100 110 50 50 = 5000 ∧ off 0 2000 0 0 = 1000000 ∧ off 0 0 0 2000 = -1000000 ∧ off 0 2002 0 0 = 1001000 ∧ g.power.stepped = false ∧
      (after (.tsyncPacketReceive 100 110 50 50) g).flag Fld.CLKPWR_TSYNC_LOCKED = true ∧ u.power.good = 0 ∧ u.power.badRun = 4 ∧
      (after (.tsyncPacketReceive 0 2002 0 0) g).power.time = 6001 := by decide +kernel

theorem witness_DeviceTimeFollowsItsSources_pps :
    let c := { hallDevice 2 2 0 1 with power := { live.power with time := 500000000, ppsLast := 1 } }
    let p := (c.wrB Fld.CLKPWR_TSYNC_PPS_OK true).wr Fld.CLKPWR_TIME_SET_VALUE 77
    let q := c.wr Fld.CLKPWR_TIME_SET_VALUE 77
    c.isChief = true ∧ c.power.ppsLast + 500000000 ≤ c.power.time + 1 ∧ live.power.ppsLast = 0 ∧
      p.flag Fld.CLKPWR_TSYNC_PPS_OK = true ∧ (after .ppsTimeout p).flag Fld.CLKPWR_TSYNC_PPS_OK = false ∧
      c.writable .matumon Reg.CLKPWR_TIME_CTL = true ∧ (after (.timeSet .matumon 0x7FFFFFFF) p).power.setPending = true ∧
      q.flag Fld.CLKPWR_TSYNC_PPS_OK = false ∧ (after (.timeSet .matumon 0x7FFFFFFF) q).power.time = 77 ∧
      (after (.timeSet .matumon 0x7FFFFFFF) q).ratePpb = 100000 ∧ c.devState ≠ devFailed ∧
      (after .trigOutSecond c).out = [.trigSecond 500000000] := by decide +kernel

/-! ### Witnesses: Matumon -/

/-- A device with its cores up, in READY, whose view vw has an accepted handshake and a command that has passed; VF 3 is tenant 1's. -/
def commanded (s : State) (vw code : Nat) (ws : List Reg64) : State :=
  let s := ((s.setDev devReady 0).wr Fld.MGMT_STATUS_CORE_UP 15).wr (Fld.MGMT_DRV_VERSION_RESULT vw) 1
  let s := (s.wr (Fld.HIF_VF_BIND_EN 0 3) 1).wr (Fld.HIF_VF_BIND_TENANT 0 3) 1
  { s.setView vw { s.view vw with cmd := some ⟨code, 8 * ws.length, ws, true⟩ } with out := [] }

/-- What `cmdServed` asks, in parts that can be decided. -/
theorem served (s : State) (vw code : Nat) (ws : List Reg64) (h : s.running = true ∧ s.coreRuns 0 = true ∧
    (s.view vw).cmd = some ⟨code, 8 * ws.length, ws, true⟩ ∧ vw ≠ 16 ∧ s.shaken vw = true ∧ s.mayIssue vw code ws = true ∧
    s.restrictedMode = false) : s.cmdServed vw code ws :=
  ⟨⟨h.1, h.2.1, _, h.2.2.1⟩, h.2.2.2⟩

theorem witness_WatchdogsVersionsAndFirmware_watchdog :
    let s := commanded live 0 0x10 []
    let t := after (.watchdogExpiry 3 0x80001234) s
    let late := { s with mgmt := { s.mgmt with expiries := [5, 1] }, power := { s.power with time := 600000000000 } }
    let gone := { late with power := { late.power with time := 600000000005 } }
    let recent := fun (s : State) => s.mgmt.expiries.filter (fun x => decide (s.power.time < x + 600000000000)) ++ [s.power.time]
    s.coreRuns (3 : Fin 4).val = true ∧ (recent s).length < 3 ∧ s.restrictedMode = false ∧ t.coreRuns 3 = false ∧
      t.rd (Fld.MGMT_WDOG_LAST_PC 3) = 0x80001234 ∧ lastClass t = some 0x11 ∧ t.flag (Fld.MGMT_WDOG_RESTARTING 3) = true ∧
      (after (.coreRestartDone 3) t).coreRuns 3 = true ∧ (recent late).length = 3 ∧ (recent gone).length = 1 ∧ late.devOpen = true ∧
      Sparse.get (fun _ => 0) (after (.watchdogFeed 3) late).mgmt.fed 3 = 600000000000 := by decide +kernel

/-- The PF of a held device offers the device's major version, and another. -/
theorem witness_WatchdogsVersionsAndFirmware_version :
    let s := (commanded live 0 0x10 []).setDev devHeld 1
    let major := BitVec.ofNat 8 (s.rd Fld.DEVCTL_ID_IF_MAJOR)
    let t := after (.drvVersionOffer (.fn 0) major 0xFF) s
    let u := after (.drvVersionOffer (.fn 0) (major + 1) 0) s
    s.writable (.fn 0) 0x60010 = true ∧ s.coreRuns 0 = true ∧ s.restrictedMode = false ∧ s.devState = devHeld ∧
      s.rd Fld.MGMT_STATUS_HELD_CAUSE = 1 ∧ t.rd (Fld.MGMT_DRV_VERSION_RESULT 0) = 1 ∧
      t.rd (Fld.MGMT_DRV_VERSION_NEG_MINOR 0) = s.rd Fld.DEVCTL_ID_IF_MINOR ∧ t.devOpen = true ∧
      u.rd (Fld.MGMT_DRV_VERSION_RESULT 0) = 2 ∧ u.rd Fld.MGMT_STATUS_HELD_CAUSE = 2 ∧ lastClass u = some 0x12 := by decide +kernel

theorem witness_WatchdogsVersionsAndFirmware_stage :
    let s := commanded live 0 0x50 [0x1122334455667788, 1]
    let i := commanded live 16 0x50 []
    let t := after (.fwStage (.fn 0)) s
    let v := { s with mgmt := { s.mgmt with staged := some 1 } }
    let a := after (.fwStageVerified goodImage false) v
    let b := after (.fwStageVerified { goodImage with failed := some (2, 1) } false) v
    (s.view 0).cmd = some ⟨0x50, 16, [0x1122334455667788, 1], true⟩ ∧ s.shaken 0 = true ∧ s.mgmt.staged = none ∧
      (i.view (viewNum .i3c)).cmd = some ⟨0x50, 0, [], true⟩ ∧ s.rd Fld.MGMT_FW_SLOT = 0 ∧
      t.power.nor.readByte (slotBase 1) = 0x88 ∧ t.mgmt.staged = some 1 ∧ goodImage.wellFormed = true ∧ v.sealLocked = false ∧
      goodImage.failed = none ∧ v.kwa.svnFloor ≤ goodImage.svn.toNat ∧ a.rd Fld.MGMT_FW_STAGE_RESULT = 1 ∧ a.power.ledger.slot = 1 ∧
      a.power.ledger.trial = true ∧ a.rd (Fld.HIF_MGMT_STATUS_STATUS 0) = 0 ∧ b.rd Fld.MGMT_FW_STAGE_RESULT = 2 ∧
      lastClass b = some 0x13 ∧ b.rd (Fld.HIF_MGMT_STATUS_STATUS 0) = 5 := by decide +kernel

/-- A view without a handshake, one without the right, one in restricted mode, one without a command. -/
theorem witness_TenantAndKeyCommandsAnswer_refused :
    let s := commanded live 3 0x20 [2, 0]
    let n := s.wr (Fld.MGMT_DRV_VERSION_RESULT 3) 0
    let r := (commanded live 3 0x20 [1, 0]).wr Fld.MGMT_STATUS_RESTRICTED 1
    let st := fun (s : State) => (after (.jobStart (.fn 3)) s).rd (Fld.HIF_MGMT_STATUS_STATUS 3)
    mgmtRow (.jobStart (.fn 3)) = some (.fn 3, 0x20) ∧ s.running = true ∧ s.coreRuns 0 = true ∧
      (s.view 3).cmd = some ⟨0x20, 16, [2, 0], true⟩ ∧ s.mayIssue 3 0x20 [2, 0] = false ∧ s.shaken 3 = true ∧ st s = 1 ∧
      n.shaken 3 = false ∧ st n = 1 ∧ r.mayIssue 3 0x20 [1, 0] = true ∧ r.restrictedMode = true ∧ st r = 2 ∧
      (live.view 3).cmd = none ∧ after (.jobStart (.fn 3)) live = live := by decide +kernel

/-- The base point of P-384 as an uncompressed key behind the version byte, in words (a point of the curve by its equation). -/
def wrapped : List Reg64 :=
  let x := 0xaa87ca22be8b05378eb1c71ef320ad746e1d3b628ba79b9859f741e082542a385502f25dbf55296c3a545e3872760ab7
  let y := 0x3617de4a96262c6f5d9e98bf9292dc29f8f41dbd289a147ce9da3113b5f0b8c00a60b1ce1d7e819d7a431d7c90ea0e5f
  let l := [1, 4] ++ (toBytes 48 x).reverse ++ (toBytes 48 y).reverse ++ List.replicate 30 0
  (chunksOf 8 l).map (fun c => BitVec.ofNat 64 (ofBytes c))

theorem witness_TenantAndKeyCommandsAnswer_open :
    let ws := (16 : Reg64) :: wrapped
    let s := commanded live 0 0x10 ws
    let w := wordBytes (ws.drop 1)
    s.cmdServed 0 0x10 ws ∧ argTenant ws = 16 ∧ s.tnState 16 = tnClosed ∧ w.length = 128 ∧ w.head? = some 1 ∧
      s.flag Fld.SEAL_DEBUG_UNLOCKED = false ∧ s.sealLocked = false ∧ gatePublicKey ((w.drop 1).take 97) = none :=
  ⟨served _ _ _ _ (by decide +kernel), by decide +kernel⟩

/-- Tenant 1 open, with an entry 7 of its own and one of tenant 2. -/
def keyed (s : State) : State :=
  { s.wr (Fld.MGMT_TENANT_STATE 1) tnOpen with ledges := { s.ledges with keys := [(7, [BitVec.ofNat 64 (2 ^ 60 + 2 ^ 48)]), (8, [BitVec.ofNat 64 (2 ^ 60 + 2 ^ 49)])] } }

theorem witness_TenantAndKeyCommandsAnswer_close :
    let s := keyed (commanded live 0 0x11 [1])
    s.cmdServed 0 0x11 [1] ∧ s.tnState 1 = tnOpen ∧ (after (.tenantClose (.fn 0)) s).keyEnt 7 = [] ∧
      (after (.tenantClose (.fn 0)) s).keyEnt 8 = s.keyEnt 8 ∧ (after (.tenantClose (.fn 0)) s).tnState 1 = tnClosed :=
  ⟨served _ _ _ _ (by decide +kernel), by decide +kernel⟩

theorem witness_TenantAndKeyCommandsAnswer_evict :
    let ws := [BitVec.ofNat 64 (2 ^ 32 + 1), 7]
    let s := keyed (commanded live 3 0x41 ws)
    let t := after (.keyEvict (.fn 3)) s
    s.cmdServed (viewNum (.fn 3)) 0x41 ws ∧ getBits (ws.getD 0 0) 47 32 = 1 ∧ s.keyInUse 7 = false ∧ keyTenant (s.keyEnt 7) = 1 ∧
      t.keyEnt 7 = [] ∧ t.keyEnt 8 = s.keyEnt 8 ∧ t.rd (Fld.HIF_MGMT_STATUS_STATUS 3) = 0 :=
  ⟨served _ _ _ _ (by decide +kernel), by decide +kernel⟩

/-- A key of kind 1 for gang 0: N = 1024, one limb, staged at page 0 of tenant 1. -/
def stagedKey : List Reg64 :=
  [BitVec.ofNat 64 (2 ^ 60 + 10 * 2 ^ 40 + 2 ^ 24 + 2 ^ 16), BitVec.ofNat 64 (2 ^ 48), 0, 0, 0, 0, 0, 0]

/-- The device with one HBM channel, a die-local region, and chain 0. -/
def oneChannel (s : State) : State :=
  let s := ((s.wr (Fld.DEVCTL_HBM_ACT_ACT 0) 1).wr Fld.DEVCTL_HBM_CFG_ACTIVE 1).wr Fld.DEVCTL_HBM_CFG_SPLIT 1
  { s.setChain 0 ⟨true, 48, 8, List.replicate 80 5⟩ with hbm := { s.hbm with mem := EMem.zero, owners := [(0, 1)] } }

theorem witness_TenantAndKeyCommandsAnswer_load :
    let ws := BitVec.ofNat 64 (2 ^ 32 + 1) :: 4095 :: (stagedKey ++ [0])
    let s := ((oneChannel (commanded live 3 0x40 ws)).wr (Fld.MGMT_TENANT_STATE 1) tnOpen).wr (Fld.MGMT_TENANT_KEY_BUDGET 1) 0x3FFFF
    s.cmdServed (viewNum (.fn 3)) 0x40 ws ∧ s.tnState 1 ≠ tnClosed ∧ keyReqs ws = [⟨4095, stagedKey, [0, 0, 0, 0]⟩] ∧
      (∀ r ∈ keyReqs ws, s.keyReqOk 1 r = true ∧ s.keyInUse r.index = false) ∧
      (s.placeAll 1 (s.tenant 1).tag (keyReqs ws)).isSome = true ∧ s.rd (Fld.MGMT_TENANT_KEY_BUDGET 1) = 0x3FFFF :=
  ⟨served _ _ _ _ (by decide +kernel), by decide +kernel⟩

/-- A job image of four benches with empty sections at page 0, gang 15 free and granted. -/
def imaged (s : State) : State :=
  let s := ((oneChannel s).wr (Fld.MGMT_TENANT_STATE 1) tnOpen).wr (Fld.MGMT_TENANT_GANG_ALLOW 1) 0x8000
  (s.wr (Fld.MGMT_GANG_STATE 15) gangFree).setHbmDwords 0 [BitVec.ofNat 64 (2 ^ 48 + 4 * 2 ^ 40)]

theorem witness_JobsStartEndAndClear_start :
    let ws := [BitVec.ofNat 64 (0x80000000 + 1), 0]
    let s := imaged (commanded live 3 0x20 ws)
    s.cmdServed (viewNum (.fn 3)) 0x20 ws ∧ (argTenant ws = 1 ∧ s.tnState 1 = tnOpen ∧ s.devOpen = true ∧
      getBits (ws.getD 0 0) 31 16 = 0x8000 ∧ (∀ g, g < 16 → bit 0x8000 g = true → s.rd (Fld.MGMT_GANG_STATE g) = gangFree ∧
        bit (s.rd (Fld.MGMT_TENANT_GANG_ALLOW 1)) g = true) ∧ s.imageOk 1 0 0x8000 = true ∧ (ws.getD 0 0).getLsbD 8 = false) ∧
      (s.view 3).endRecords.length < 16 :=
  ⟨served _ _ _ _ (by decide +kernel), by decide +kernel⟩

theorem witness_JobsStartEndAndClear_service :
    let ws := [BitVec.ofNat 64 (0x80000000 + 1), 0, BitVec.ofNat 64 (2 ^ 21 + 1), BitVec.ofNat 64 (2 ^ 22 + 15), BitVec.ofNat 64 1,
      BitVec.ofNat 64 (2 ^ 32 + 2 ^ 16 + 256)]
    let s := imaged (commanded live 0 0x30 ws)
    s.cmdServed 0 0x30 ws ∧ s.serviceOk 1 (serviceOf ws) = true ∧ s.imageOk 1 0 0x8000 = true :=
  ⟨served _ _ _ _ (by decide +kernel), by decide +kernel⟩

/-- Tenant 1 with a job on gang 15, kept or not, ended or not. -/
def working (s : State) (keep : Bool) (ended : Option Nat) : State :=
  let s := (s.wr (Fld.MGMT_TENANT_STATE 1) (if ended.isSome then tnKept else tnJob)).wr (Fld.MGMT_GANG_STATE 15) (if ended.isSome then gangKept else gangAssigned)
  s.setTenant 1 { s.tenant 1 with job := some ⟨0x8000, 3, keep, 0, false, ended⟩ }

theorem witness_JobsStartEndAndClear_kill :
    let s := working (commanded live 3 0x21 [1]) true none
    let t := after (.jobKill (.fn 3)) s
    s.cmdServed (viewNum (.fn 3)) 0x21 [1] ∧ s.tnState 1 = tnJob ∧ (s.tenant 1).job = some ⟨0x8000, 3, true, 0, false, none⟩ ∧
      s.mgmt.clearing = [] ∧ t.rd (Fld.MGMT_TENANT_LAST_END 1) = 1 ∧ t.tnState 1 = tnKept ∧ t.rd (Fld.MGMT_GANG_STATE 15) = gangKept ∧
      (t.view 3).endRecords.length = 1 :=
  ⟨served _ _ _ _ (by decide +kernel), by decide +kernel⟩

/-- Each cause of JOB_END that can hold: benches idle, halted by their program, by hardware, ordered, restricted. -/
theorem witness_JobsStartEndAndClear_end :
    let s := working (commanded live 0 0x10 []) false none
    let h := fun (c : Nat) => s.onBench 63 (fun b => { b with mode := .halted, haltCause := c })
    let t := after (.jobEnd 1 5) s
    s.coreRuns 3 = true ∧ s.mgmt.clearing = [] ∧ (∀ pb ∈ s.maskBenches 0x8000, s.benchIdle pb = true) ∧
      ((h 2).bench 63).mode = .halted ∧ ((h 2).bench 63).haltCause ≠ 7 ∧ 63 ∈ (h 2).maskBenches 0x8000 ∧ ((h 7).bench 63).haltCause = 7 ∧
      (s.wr Fld.MGMT_STATUS_RESTRICTED 1).restrictedMode = true ∧ t.tnState 1 = tnOpen ∧ t.rd (Fld.MGMT_GANG_STATE 15) = gangRinsing ∧
      (t.bench 63).mode = .rinsing ∧ (after (.jobEnd 1 0) s).rd (Fld.MGMT_TENANT_LAST_END 1) = 0 ∧
      (after (.jobEnd 1 3) (h 2)).rd (Fld.MGMT_TENANT_LAST_END 1) = 3 ∧ (after (.jobEnd 1 4) (h 2)).tnState 1 = tnJob := by decide +kernel

theorem witness_JobsStartEndAndClear_release :
    let s := working (commanded live 0 0x22 [1]) true (some 9)
    let t := after (.jobRelease (.fn 0)) s
    s.cmdServed 0 0x22 [1] ∧ (s.tenant 1).job = some ⟨0x8000, 3, true, 0, false, some 9⟩ ∧ s.mgmt.clearing = [] ∧ s.tnState 1 = tnKept ∧
      t.tnState 1 = tnOpen ∧ (t.bench 63).mode = .rinsing ∧ (after (.keepLimitExpiry 1) s).rd (Fld.MGMT_GANG_STATE 15) = gangRinsing :=
  ⟨served _ _ _ _ (by decide +kernel), by decide +kernel⟩

theorem witness_JobsStartEndAndClear_dump :
    let ws := [(63 : Reg64), 1]
    let s := working (oneChannel (commanded live 0 0x23 ws)) true (some 9)
    s.cmdServed 0 0x23 ws ∧ s.rd (Fld.MGMT_GANG_STATE (63 / 4)) = gangKept ∧ (s.bench (s.physOf 63)).mode ≠ .rinsing ∧
      s.ownsRange 0 (2 ^ 21) (2 ^ 26) = true :=
  ⟨served _ _ _ _ (by decide +kernel), by decide +kernel⟩

/-- A request record of a model. -/
def requestOf (model : Nat) : List Reg64 := BitVec.ofNat 64 (model * 2 ^ 8) :: List.replicate 15 0

/-- Tenant 1's service on gang 0 with that state. -/
def serviced (v : Service) : State :=
  let s := ((oneChannel (commanded live 0 0x31 [1])).wr (Fld.MGMT_TENANT_STATE 1) tnJob).wr (Fld.MGMT_TENANT_INTAKE 1) inOpen
  s.setTenant 1 { s.tenant 1 with job := some ⟨1, 0, false, 0, true, none⟩, svc := some v }

/-- Two requests of one model make a full batch of two; an answered one and one of another model end it. -/
theorem witness_ServicesBatchAndAnswer_dispatch :
    let v := { service 1 with batchMax := 2, accepted := [([], 1), (requestOf 4, 2), (requestOf 4, 3), (requestOf 5, 4)] }
    let s := serviced v
    let t := after (.batchDispatch 1) s
    let w := { v with accepted := [(requestOf 4, 2)] }
    (s.tenant 1).svc = some v ∧ s.coreRuns 1 = true ∧ v.finished = [] ∧ v.dispatched - v.doneSeen < 2 ^ v.batchLog ∧ v.finalSent = false ∧
      v.quiesce = false ∧ takeBatch 2 v.accepted 0 [] = (3, [requestOf 4, requestOf 4]) ∧
      ((t.tenant 1).svc.map Service.dispatched) = some 1 ∧ t.rd (Fld.MGMT_SVC_PTR_REQ_HEAD 1) = 3 ∧
      t.net.weirOps.map WeirMsg.weir = [0x7FE] ∧ after (.batchDispatch 1) (serviced w) = serviced w ∧
      (after (.batchWaitExpiry 1) (serviced w)).rd (Fld.MGMT_SVC_PTR_REQ_HEAD 1) = 1 ∧
      after (.batchDispatch 1) (serviced { v with accepted := [] }) = serviced { v with accepted := [] } := by decide +kernel

theorem witness_ServicesBatchAndAnswer_done :
    let v := { service 1 with dispatched := 2, batches := [⟨1, [requestOf 4]⟩, ⟨2, [requestOf 5]⟩] }
    let s := (serviced v).onBench 0 (fun b => { b with weirs := [(0x7FF, 1)] })
    let t := after (.donePoll 1) s
    min ((s.bench (s.physOf 0)).weir 0x7FF) v.dispatched = 1 ∧ 1 ≤ s.resRoom 1 v ∧
      (t.tenant 1).svc.map (fun v => (v.doneSeen, v.batches.map Batch.number)) = some (1, [2]) ∧
      t.rd (Fld.MGMT_SVC_PTR_RES_TAIL 1) = 1 ∧ t.hbmDword 8192 = BitVec.ofNat 64 (4 * 2 ^ 8) := by decide +kernel

theorem witness_ServicesBatchAndAnswer_close :
    let s := serviced (service 1)
    let t := after (.serviceClose (.fn 0)) s
    let u := after (.intakeStarved 1) s
    s.cmdServed 0 0x31 [1] ∧ s.rd (Fld.MGMT_TENANT_INTAKE 1) = inOpen ∧ t.rd (Fld.MGMT_TENANT_CLOSE_REASON 1) = 3 ∧
      (t.tenant 1).svc.map Service.quiesce = some true ∧ u.rd (Fld.MGMT_TENANT_INTAKE 1) = inClosed ∧
      u.rd (Fld.MGMT_TENANT_CLOSE_REASON 1) = 2 ∧ lastClass u = some 0x1A :=
  ⟨served _ _ _ _ (by decide +kernel), by decide +kernel⟩

/-! ### Witnesses: Kwawekan -/

/-- A device whose engines belong to a session or an operation, with requests that wait. -/
def owned (o : Option SealSession) (q : List SealWait) : State := { live with kwa := { live.kwa with owner := o, queue := q } }

/-- Sessions of Matumon: open, or at its end; and a signature that runs. -/
def openSession : SealSession := ⟨.matumon, .sha256 64, true, false, false, 0⟩
def signing : SealSession := ⟨.spdm, .verify, false, true, false, 0⟩

theorem witness_KwawekanServesOneOwner_requests :
    let w := owned (some openSession) []
    let f := owned (some openSession) [⟨.boot, .random, false⟩, ⟨.boot, .random, false⟩, ⟨.boot, .random, false⟩, ⟨.boot, .random, false⟩]
    (after (.sealInit .debug .ecdh) live).kwa.owner = some ⟨.debug, .ecdh, true, false, false, 0⟩ ∧
      (after (.sealSingleRequest .debug .ecdh) live).kwa.owner = some ⟨.debug, .ecdh, false, true, false, 0⟩ ∧
      (after (.sealInit .debug .ecdh) w).out = [.sealAnswer .debug seBusy 1] ∧ f.kwa.queue.length = 4 ∧
      (after (.sealInit .debug .ecdh) f).out = [.sealAnswer .debug seFull 0] ∧
      (after (.sealInit .matumon .ecdh) w).out = [.sealAnswer .matumon seSequence 0] ∧
      (after (.sealInit .boot .ecdh) f).out = [.sealAnswer .boot seSequence 0] := by decide +kernel

theorem witness_KwawekanServesOneOwner_session :
    let s := owned (some openSession) []
    let lost := { live with kwa := { live.kwa with abandoned := [.matumon] } }
    let t := after .sealIdleTimeout s
    openSession.multi = true ∧ openSession.final = false ∧
      (after (.sealUpdate .matumon 64) s).kwa.owner = some { openSession with busy := true } ∧
      (after (.sealFinal .matumon) s).kwa.owner = some { openSession with busy := true, final := true } ∧
      (after (.sealAbort .matumon) s).kwa.owner = none ∧ t.kwa.owner = none ∧ t.kwa.abandoned = [.matumon] ∧
      (after (.sealUpdate .matumon 64) lost).out = [.sealAnswer .matumon seAbandoned 0] ∧
      (after (.sealUpdate .matumon 64) live).out = [.sealAnswer .matumon seSequence 0] := by decide +kernel

theorem witness_KwawekanServesOneOwner_completion :
    let s := owned (some signing) []
    let part := owned (some { openSession with busy := true }) []
    let more := owned (some signing) [⟨.debug, .ecdh, true⟩]
    let seven := s.wr Fld.SEAL_STATUS_FAULTS 7
    let r := after (.sealOpComplete (.refused 3 2)) s
    signing.busy = true ∧ s.sealLocked = false ∧ kindRandom signing.kind = false ∧ kindPublicKey signing.kind = true ∧
      kindPublicKey openSession.kind = false ∧ (after (.sealOpComplete .ok) part).kwa.owner = some openSession ∧
      (after (.sealOpComplete .ok) s).out = [.sealAnswer .spdm seOk 0] ∧ (after (.sealOpComplete .ok) s).kwa.owner = none ∧
      (after (.sealOpComplete .ok) more).kwa.owner.map SealSession.req = some .debug ∧ r.out = [.sealAnswer .spdm seRefused 0] ∧
      lastClass r = some 0x15 ∧ r.cnt Fld.SEAL_STATUS_REFUSED = 1 ∧ lastClass (after (.sealOpComplete .mismatch) s) = some 0x14 ∧
      (after (.sealOpComplete .mismatch) s).sealLocked = false ∧ (after (.sealOpComplete .mismatch) seven).kwa.owner = none := by decide +kernel

theorem witness_EntropySpdmIdeAndDebug_entropy :
    let s := { live with kwa := { live.kwa with entropyFailed := some 5 }, power := { live.power with time := 1000000005 } }
    let late := { s with power := { s.power with time := 1000000006 } }
    let t := after (.entropyHealthFail true) late
    (after (.entropyHealthFail false) s).kwa.entropyDead = true ∧ t.kwa.entropyDead = false ∧ lastClass t = some 0x14 ∧
      t.cnt Fld.SEAL_ENTROPY_APT_FAILS = 1 ∧ t.flag Fld.SEAL_ENTROPY_OK = false ∧
      (after .entropyRestartDone t).flag Fld.SEAL_ENTROPY_OK = true ∧ (after .entropyRestartDone t).cnt Fld.SEAL_ENTROPY_RESEEDS = 1 := by
  decide +kernel

theorem witness_EntropySpdmIdeAndDebug_spdm :
    let s := fun n => { live with kwa := { live.kwa with sessions := n } }
    let ask := fun (c : SpdmCode) (x : Bool) (n : Nat) => (after (.spdmRequest c x) (s n)).out
    (s 1).kwa.owner = none ∧ (s 1).kwa.queue = [] ∧ ask .getDigests false 0 = [.spdmAnswer .getDigests true] ∧
      ask .unsupported true 1 = [.spdmAnswer .unsupported false] ∧ ask .finish true 1 = [.spdmAnswer .finish true] ∧
      ask .finish true 0 = [.spdmAnswer .finish false] ∧ (after (.spdmRequest .keyExchange false) (s 1)).kwa.sessions = 2 ∧
      ask .keyExchange false 2 = [.spdmAnswer .keyExchange false] ∧ (after (.spdmRequest .endSession true) (s 2)).kwa.sessions = 1 ∧
      (after (.spdmRequest .challenge false) (s 0)).kwa.owner = some ⟨.spdm, .sign, false, true, false, 0⟩ := by decide +kernel

theorem witness_EntropySpdmIdeAndDebug_ide :
    let s := { live with kwa := { live.kwa with sessions := 1, ideKeys := [(3, true)] } }
    let used := (s.wrB Fld.SEAL_IDE_LINK_EN true).wrB Fld.SEAL_IDE_LINK_KSET false
    s.flag (ideEn .link) = false ∧ (2 * ideNum .link + b2n true, true) ∈ (after (.ideKeyProg .link true) s).kwa.ideKeys ∧
      used.flag (ideEn .link) = true ∧ used.flag (ideSet .link) = false ∧
      (after (.ideKeyProg .link false) used).out = [.sealAnswer .spdm seRefused 0] ∧
      (2 * ideNum .selective + b2n true, true) ∈ s.kwa.ideKeys ∧ (after (.ideKSetGo .selective true) s).flag (ideEn .selective) = true := by
  decide +kernel

theorem witness_EntropySpdmIdeAndDebug_debug :
    let s := live.wrB Fld.SEAL_ENTROPY_OK true
    let t := after .debugChallengeRead s
    let old := { t with power := { t.power with time := 1000000001 } }
    let b := { (s.onBench 67 (fun b => { b with mode := .fill })).wrB Fld.SEAL_DEBUG_UNLOCKED true with out := [] }.wr Fld.SEAL_DEBUG_SCOPE 1
    s.sealLocked = false ∧ s.kwa.entropyDead = false ∧ s.flag Fld.SEAL_ENTROPY_OK = true ∧ t.kwa.challenge = some (0, 1000000000) ∧
      (after (.debugUnlock 1 []) old).kwa.challenge = none ∧ (after (.debugUnlock 1 []) old).out.getLast? = some (.unlock false) ∧
      b.flag Fld.SEAL_DEBUG_UNLOCKED = true ∧ bit (b.rd Fld.SEAL_DEBUG_SCOPE) 0 = true ∧
      ((after .trigInHaltEdge b).bench 67).mode = .halted ∧ ((after .trigInHaltEdge b).bench 67).haltCause = 8 ∧
      live.flag Fld.SEAL_DEBUG_UNLOCKED = false ∧ after .trigInHaltEdge live = live := by decide +kernel

/-! ### Witnesses: the host interface -/

/-- The device with one HBM channel, whose VF 15 is bound to tenant 1, the owner of page 0. -/
def hosted : State := { ((oneChannel (device devReady)).wr (Fld.HIF_VF_BIND_EN 0 15) 1).wr (Fld.HIF_VF_BIND_TENANT 0 15) 1 with out := [] }

/-- VF 15 writes the last byte of its page and one beyond, which is suppressed; a byte not enabled is not written. -/
theorem witness_HostWindowAndDoorbellsMoveData_window :
    let t := after (.bar2Write (.fn 15) (BitVec.ofNat 36 (2 ^ 21 - 2)) [none, some 7, some 8]) hosted
    let r := after (.bar2Read (.fn 15) (BitVec.ofNat 36 (2 ^ 21 - 1)) 2) t
    hosted.running = true ∧ hosted.power.thermtrip = false ∧ hosted.windowAt 15 5 = 5 ∧ hosted.mayReach 15 (2 ^ 21 - 1) = true ∧
      hosted.mayReach 15 (2 ^ 21) = false ∧ hosted.hbmKey 5 ≠ hosted.hbmKey 6 ∧ hosted.mayLog 0x300 = true ∧
      t.hbmByte (2 ^ 21 - 1) = 7 ∧ t.hbmByte (2 ^ 21) = 0 ∧ lastClass t = some 0x19 ∧ (hosted.hbmWord 0).2 = false ∧
      r.out = [.bar2Data (.fn 15) [7, 0]] ∧ 2 ^ 34 - 2 + 2 ≤ bar2Size (15 : Fin 16).val := by decide +kernel

/-- A doorbell of VF 15 that copies in one word, a second one, one with no words, and a fifth in the queue. -/
theorem witness_HostWindowAndDoorbellsMoveData_bells :
    let d := hosted.newBell 15 1 9 1
    let t := after (.doorbellCopyIn (.fn 15) 9 1) hosted
    let f := { hosted with host := { hosted.host with order := [1, 2, 3, 4] } }
    let o := after (.doorbellCopyOut (.fn 15) 9 1) hosted
    hosted.writable (.fn 15) 0x40020 = true ∧ d.fieldsOk = true ∧ (hosted.view 15).doorbell = none ∧ 15 ∉ hosted.host.order ∧
      hosted.host.order.length < 4 ∧ (t.view 15).doorbell = some d ∧ t.out = [.hostRead (.fn 15) 0 32] ∧
      (t.view 15).doorbell.isSome = true ∧ (after (.doorbellCopyIn (.fn 15) 9 1) t).flag (Fld.HIF_DB_STATUS_OVERRUN 15) = true ∧
      (hosted.newBell 15 1 9 0).fieldsOk = false ∧ (after (.doorbellCopyIn (.fn 15) 9 0) hosted).rd (Fld.HIF_DB_STATUS_RESULT 15) = 6 ∧
      f.host.order.length = 4 ∧ (after (.doorbellCopyIn (.fn 15) 9 1) f).host.order = [1, 2, 3, 4, 15] ∧
      hosted.mayReach 15 (0 + 32 * 0) = true ∧ (o.view 15).doorbell.map Doorbell.result = some (some 0) ∧ o.out.length = 1 := by
  decide +kernel

theorem witness_HostWindowAndDoorbellsMoveData_data :
    let s := after (.doorbellCopyIn (.fn 15) 9 1) hosted
    let t := after (.doorbellHostData (.fn 15) (.data (List.replicate 32 5))) s
    let p := { s with hbm := { s.hbm with owners := [] } }
    let e := after (.hostCompletionTimeout (.fn 15)) s
    let c := after (.doorbellComplete (.fn 15)) t
    15 ∈ s.servedBells ∧ ((s.view 15).doorbell.map (fun d => (d.kind, d.rest, d.result))) = some (1, [], none) ∧ t.hbmByte 31 = 5 ∧
      ((t.view 15).doorbell.map (fun d => (d.moved, d.result))) = some (1, some 0) ∧ p.mayReach 15 0 = false ∧
      ((after (.doorbellHostData (.fn 15) (.data (List.replicate 32 5))) p).view 15).doorbell.map Doorbell.result = some (some 4) ∧
      (e.view 15).doorbell.map Doorbell.result = some (some 5) ∧ e.out.getLast? = some (.aer (.fn 15)) ∧ (c.view 15).doorbell = none ∧
      c.rd (Fld.HIF_DB_STATUS_RESULT 15) = 0 ∧ c.rd (Fld.HIF_DB_STATUS_COUNT 15) = 1 ∧ t.host.order.length ≤ 4 := by decide +kernel

/-- A request doorbell of VF 3, whose tenant's service admits it, and its only record. -/
theorem witness_HostWindowAndDoorbellsMoveData_request :
    let v := service (2 ^ 3)
    let s := { ((serviced v).wr (Fld.MGMT_DRV_VERSION_RESULT 3) 1).wr Fld.MGMT_CFG_INTAKE_HIGH 5 with out := [] }
    let t := after (.doorbellRequest (.fn 3) 9 1) s
    let l : List Byte := wordBytes (List.replicate 8 0 ++ [BitVec.ofNat 64 (2 ^ 60 + 10 * 2 ^ 52 + 2 ^ 48), BitVec.ofNat 64 8, 0, 0, 0, 0, 0, 0])
    s.writable (.fn 3) 0x40020 = true ∧ (s.newBell 3 0 9 1).fieldsOk = true ∧ s.requestAllowed 3 = true ∧ s.boundTenant 3 = 1 ∧
      s.intakeVerdict 1 = 0 ∧ t.out = [.hostRead (.fn 3) 0 128] ∧ l.length = 128 ∧ (s.tenant 1).svc = some v ∧
      v.backlog + 1 < s.rd Fld.MGMT_CFG_INTAKE_HIGH := by decide +kernel

theorem witness_MailboxesBindingsAndResets_boxes :
    let k := after (.mboxCfgWrite (.fn 15) 15 false 2 0) hosted
    let s := k.setView 15 { k.view 15 with endRecords := [[1, 0, 0, 0, 0, 0, 0, 0]] }
    let p := after (.mboxResultPresent (.fn 15) 15) s
    let a := after (.mboxAck (.fn 15) 15 1) p
    hosted.writable (.fn 15) (0x41000 + 0x80 * 15) = true ∧ hosted.boundElsewhere 15 15 2 0 = false ∧
      hosted.boundElsewhere 15 15 1 1 = false ∧ hosted.boundTenant 15 = 1 ∧ k.rd (Fld.HIF_MBOX_CFG_KIND 15 15) = 2 ∧
      (after (.mboxCfgWrite (.fn 15) 15 false 1 1) hosted).rd (Fld.HIF_MBOX_CFG_TENANT 15 15) = 1 ∧ (s.mbox 15 15).present = none ∧
      s.mboxHead 15 15 = some [1, 0, 0, 0, 0, 0, 0, 0] ∧ (p.mbox 15 15).present.isSome = true ∧ (p.mbox 15 15).shown = 1 ∧
      (a.mbox 15 15) = ⟨1, none⟩ ∧ (a.view 15).endRecords = [] ∧ p.writable (.fn 15) (0x41008 + 0x80 * 15) = true ∧
      after (.mboxAck (.fn 15) 15 0) p = p ∧ (after (.mboxAck (.fn 15) 15 2) p).flag (Fld.HIF_MBOX_CFG_BAD_ACK 15 15) = true := by decide +kernel

/-- VF 15 bound anew, unbound, and reset. -/
theorem witness_MailboxesBindingsAndResets_vf :
    let s := hosted.setView 15 { hosted.view 15 with resp := [5], endRecords := [[1]] }
    let t := after (.vfBindWrite (.fn 0) 15 true 16) s
    let u := after (.vfBindWrite (.fn 0) 15 false 0) s
    let f := after (.functionLevelReset 15) s
    s.writable (.fn 0) (0x40100 + 8 * 15) = true ∧ (∀ u, u < 16 → u ≠ 15 → s.boundTenant u ≠ 16) ∧ t.boundTenant 15 = 16 ∧
      (t.view 15).resp = [] ∧ (t.view 15).endRecords = [[1]] ∧ u.boundTenant 15 = 0 ∧ s.host.order.length ≤ 4 ∧ (f.view 15).resp = [] ∧
      f.boundTenant 15 = 1 ∧ (after (.pcieConfigAccess 15 4095 (some 9)) s).out = [.config 15 4095 true 9] ∧ s.power.st = .running := by
  decide +kernel

theorem witness_ManagementWordsAndI3cFrames_commands :
    let s := after (.mgmtCmdStart (.fn 15) 0x20 16) hosted
    let w := after (.mgmtDataWrite (.fn 15) 7) s
    let p := after (.mgmtDataWrite (.fn 15) 8) w
    let r := hosted.setView 15 { hosted.view 15 with resp := [5, 6] }
    hosted.writable (.fn 15) 0x40030 = true ∧ (hosted.view 15).cmd = none ∧ (s.view 15).cmd = some ⟨0x20, 16, [], false⟩ ∧
      (after (.mgmtCmdStart (.fn 15) 0x20 16) s).flag (Fld.HIF_MGMT_STATUS_OVERFLOW 15) = true ∧
      (after (.mgmtCmdStart (.fn 15) 0x20 17) hosted).rd (Fld.HIF_MGMT_STATUS_STATUS 15) = 3 ∧
      ((after (.mgmtCmdAbort (.fn 15)) s).view 15).cmd = none ∧ (w.view 15).cmd = some ⟨0x20, 16, [7], false⟩ ∧
      (p.view 15).cmd = some ⟨0x20, 16, [7, 8], true⟩ ∧ after (.mgmtCmdAbort (.fn 15)) p = p ∧
      (after (.mgmtDataWrite (.fn 15) 7) hosted).flag (Fld.HIF_MGMT_STATUS_OVERFLOW 15) = true ∧
      hosted.readable (.fn 15) 0x40038 = true ∧ (after (.mgmtDataRead (.fn 15)) r).out = [.readData (.fn 15) 0x40038 5] ∧
      ((after (.mgmtDataRead (.fn 15)) r).view 15).resp = [6] ∧
      (after (.mgmtDataRead (.fn 15)) hosted).flag (Fld.HIF_MGMT_STATUS_UNDERRUN 15) = true := by decide +kernel

theorem witness_ManagementWordsAndI3cFrames_i3c :
    let t := after (.i3cPrivateWrite 0x40038 []) hosted
    let r := after (.i3cPrivateRead 32) t
    let a := after (.i3cCcc (.entdaa 5)) hosted
    (t.view 16).i3cRead = some 0x40038 ∧ r.out.map (fun o => match o with | .i3cData l => l.length | _ => 0) = [32] ∧
      isDataReg 0x40038 = true ∧ (t.view 16).i3cRead = some (0x40038 : BitVec 32).toNat ∧ hosted.power.st ≠ .off ∧
      a.host.i3cAddr = some 5 ∧ (after (.i3cCcc (.setdasa 9)) a).host.i3cAddr = some 5 ∧ (after (.i3cCcc .rstdaa) a).host.i3cAddr = none ∧
      (after (.i3cCcc (.disec true)) a).host.i3cIbi = false ∧ (after (.i3cCcc (.enec true)) a).host.i3cIbi = true := by decide +kernel

/-! ### Witnesses: power, boot, throttling, the Spoil log -/

/-- A register word put into the file as it stands, for the registers whose reset value is open (straps, fused voltages). -/
def forced (s : State) (f : Fld) (v : Nat) : State :=
  { s with regs := Sparse.place (Sparse.erase s.regs f.key) f.key (putBits 0 f.hi f.lo v) }

theorem witness_PowerAndResetSequencesRun_power :
    let s := State.reset
    let f := after (.pwrokFall 1000) live
    offDevice.power.st = .off ∧ (after (.pwrokRise 3 2) offDevice).power.st = .locking ∧
      s.flag Fld.CLKPWR_CLK_ROOT_LOCK = false ∧ s.devState ≠ devFailed ∧ s.power.st = .locking ∧
      (forced s Fld.CLKPWR_RESET_BOOT_SRC 1).rd Fld.CLKPWR_RESET_BOOT_SRC = 1 ∧ (forced s Fld.CLKPWR_RESET_BOOT_SRC 1).devState ≠ devFailed ∧
      (forced s Fld.CLKPWR_RESET_BOOT_SRC 2).rd Fld.CLKPWR_RESET_BOOT_SRC = 2 ∧
      after (.pwrokFall 99) live = live ∧ live.power.ledgerOp = none ∧ f.power.st = .off ∧ f.regs = State.reset.regs := by decide +kernel

/-- The device under PERST_N before its root clock locks. -/
def unlocked : State := { State.reset with power := { State.reset.power with st := .held } }

theorem witness_PowerAndResetSequencesRun_perst :
    live.devState ≠ devFailed ∧ live.power.st = .running ∧ heldDevice.power.st = .held ∧ heldDevice.flag Fld.CLKPWR_CLK_ROOT_LOCK = true ∧
      (forced heldDevice Fld.CLKPWR_RESET_BOOT_SRC 1).rd Fld.CLKPWR_RESET_BOOT_SRC < 2 ∧ unlocked.flag Fld.CLKPWR_CLK_ROOT_LOCK = false ∧
      unlocked.devState ≠ devFailed ∧ (after .perstRelease unlocked).power.st = .locking ∧ (after .rootPllLock unlocked).power.st = .held ∧
      (after .rootPllLock unlocked).flag Fld.CLKPWR_CLK_ROOT_LOCK = true ∧ live.power.thermtrip = false ∧ heldDevice.power.thermtrip = false := by
  decide +kernel

/-- An image that boots, one below the floor with the other slot untried, and one with no slot left. -/
theorem witness_BootClearsAndLedgerWrites_boot :
    let low := { live with kwa := { live.kwa with svnFloor := 4 } }
    let t := after (.bootImageVerified goodImage false) low
    live.devState = devClearing ∧ live.mgmt.booted = false ∧ live.sealLocked = false ∧ goodImage.wellFormed = true ∧ goodImage.failed = none ∧
      live.kwa.svnFloor ≤ goodImage.svn.toNat ∧ goodImage.svn.toNat < low.kwa.svnFloor ∧ low.flag Fld.MGMT_FW_FALLBACK = false ∧
      t.flag Fld.MGMT_FW_FALLBACK = true ∧ t.power.ledger.slot = 1 ∧ lastClass t = some 0x13 ∧ (low.wrB Fld.MGMT_FW_FALLBACK true).flag Fld.MGMT_FW_FALLBACK = true := by decide +kernel

/-- The end of CLEARING of a booted device with and without a host. -/
theorem witness_BootClearsAndLedgerWrites_clearing :
    let b := fun (m : Nat) => { live with mgmt := { live.mgmt with booted := true }, power := { live.power with ledger := { live.power.ledger with startMode := m } } }
    (b 1).devState = devClearing ∧ (b 1).mgmt.booted = true ∧ (b 1).power.ledger.startMode = 1 ∧ (b 0).power.ledger.startMode ≠ 1 ∧
      (b 0).host.views = [] ∧ ((b 0).view 16).offer = false := by decide +kernel

theorem witness_BootClearsAndLedgerWrites_ledger :
    let s := commanded live 0 0x10 []
    let t := after .ledgerWrite s
    let r := after (.ledgerWriteComplete false) t
    let f := after (.ledgerWriteComplete false) r
    s.coreRuns 0 = true ∧ s.power.ledgerOp = none ∧ s.power.nor.currentBank = 0 ∧ t.power.ledgerOp.map (fun o => (o.bank, o.seq, o.retried)) = some (1, 1, false) ∧
      t.flag Fld.CLKPWR_LEDGER_WRITING = true ∧ r.power.ledgerOp.map LedgerOp.retried = some true ∧ f.power.ledgerOp = none ∧
      f.rd Fld.CLKPWR_LEDGER_LAST_WRITE = 2 := by decide +kernel

/-- The thresholds of a device at rest. -/
def throttled : State := ((((live.wr Fld.CLKPWR_THERM_T5 80).wr Fld.CLKPWR_THERM_T6 90).wr Fld.CLKPWR_THERM_T8 100).wr Fld.CLKPWR_THERM_THW 110).wr
  Fld.CLKPWR_PCAP_REACH_CAP 10

theorem witness_ThrottlingFollowsItsRequests_samples :
    let hot := (List.replicate 80 (BitVec.ofNat 16 0)).set 79 (BitVec.ofNat 16 880)
    let cool := List.replicate 80 (BitVec.ofNat 16 856)
    let t := after (.dieTempSample hot) throttled
    let u := after (.dieTempSample cool) t
    let g := after (.railSample (List.replicate 9 7) [1, 2] [3, 4, 5, 101]) throttled
    hot.length = 80 ∧ 8 * (throttled.rd Fld.CLKPWR_THERM_THW : Int) ≤ dieTemp 880 ∧ t.rd Fld.CLKPWR_THROTTLE_HW = 3 ∧
      t.rd Fld.CLKPWR_THROTTLE_TARGET = 3 ∧ lastClass t = some 0x16 ∧ dieTemp 856 ≤ 8 * (throttled.rd Fld.CLKPWR_THERM_THW : Int) - 24 ∧
      u.rd Fld.CLKPWR_THROTTLE_HW = 0 ∧ g.rd (Fld.GAUGE_RAIL_LATEST 8) = 7 ∧ g.rd (Fld.GAUGE_CORE_I_LATEST 1) = 2 ∧
      g.rd (Fld.GAUGE_REACH_POWER 3) = 101 := by decide +kernel

/-- Reach 3 at T6, above its power cap: one step deeper. -/
theorem witness_ThrottlingFollowsItsRequests_warden :
    let s := (throttled.wr (Fld.GAUGE_REACH_POWER 3) 101)
    let s := { s with power := { s.power with temps := List.replicate 80 (BitVec.ofNat 16 720) } }
    let t := after (.reachWardenEval 3) s
    hottestOf s.power.temps (s.reachSensors 3) = some (720, (s.reachSensors 3).headD 0) ∧ Sparse.get (fun _ => 0) s.power.wardens 3 = 0 ∧
      s.reachDepth (celsius 720) = 2 ∧ 10 * s.rd Fld.CLKPWR_PCAP_REACH_CAP < s.rd (Fld.GAUGE_REACH_POWER 3) ∧ t.rd (reachRequest 3) = 3 ∧
      t.rd Fld.CLKPWR_THROTTLE_TARGET = 3 ∧ lastClass t = some 0x16 ∧ throttled.writable (.fn 0) Reg.CLKPWR_THROTTLE = true ∧
      (after (.throttleFloorWrite (.fn 0) 3) throttled).rd Fld.CLKPWR_THROTTLE_TARGET = 3 := by decide +kernel

theorem witness_ThrottlingFollowsItsRequests_sequence :
    let s := forced (throttled.wr Fld.CLKPWR_CLK_STEP 2) Fld.CLKPWR_VCORE_AVS_EN 1
    let slow := s.wr Fld.CLKPWR_THROTTLE_TARGET 3
    let h := after .throttleTargetChange slow
    let quick := after .throttleTargetChange s
    let asked := { s with power := { s.power with sequence := some (1, true), avsCode := 255, avsTries := 2 } }
    let fast := { asked with power := { asked.power with avsTries := 1 } }
    let t := after .switchPoint h
    s.power.sequence = none ∧ s.rd Fld.CLKPWR_THROTTLE_TARGET = 0 ∧ s.flag Fld.CLKPWR_VCORE_AVS_EN = true ∧
      s.rd Fld.CLKPWR_CLK_STEP = 2 ∧ quick.power.sequence = some (0, true) ∧ quick.out = [.avs 0] ∧
      (after .throttleTargetChange (s.wr Fld.CLKPWR_THROTTLE_TARGET 2)) = s.wr Fld.CLKPWR_THROTTLE_TARGET 2 ∧
      h.power.sequence = some (3, false) ∧ h.flag Fld.CLKPWR_CLK_HOLD = true ∧ asked.power.avsCode < 256 ∧
      (after (.vcoreAck false) fast).power.avsTries = 2 ∧ t.rd Fld.CLKPWR_CLK_STEP = 3 ∧ t.flag Fld.CLKPWR_CLK_HOLD = false ∧
      t.power.sequence = some (3, true) ∧ (throttled.wr Fld.CLKPWR_CLK_STEP 2).power.sequence = none ∧
      (forced (throttled.wr Fld.CLKPWR_CLK_STEP 2) Fld.CLKPWR_VCORE_AVS_EN 0).flag Fld.CLKPWR_VCORE_AVS_EN = false := by decide +kernel

/-- Two events on their way: the second of one source arrives only after the first. -/
theorem witness_SpoilEntriesArriveInOrder :
    let e := fun (c : Nat) => (⟨5, c, 2, 9, 0x3F, 0, 0, 0⟩ : SpoilEvent)
    let s := { live with spoil := { live.spoil with inFlight := [e 2, e 3] } }.wr Fld.SPOIL_IRQ_EN_EN 4
    let t := after (.spoilEntryArrival 1) s
    let full := { s with spoil := { s.spoil with ring := List.replicate 3 ⟨1, []⟩ } }
    let c := after (.spoilClear (.fn 0)) t
    arrivalPlace s.spoil.inFlight 1 = some 0 ∧ s.spoil.inFlight[0]? = some (e 2) ∧ s.rd Fld.SPOIL_STATUS_NEXT_SEQ = 1 ∧
      t.spoil.inFlight = [e 3] ∧ t.spoil.ring = [⟨1, (e 2).words 1⟩] ∧ t.flag Fld.SPOIL_STATUS_PINNED = true ∧
      t.flag Fld.SPOIL_STATUS_PENDING = true ∧ t.rd Fld.SPOIL_STATUS_NEXT_SEQ = 2 ∧ (after (.spoilEntryArrival 0) full).spoil.ring.length = 4 ∧
      after (.spoilEntryArrival 2) s = s ∧ live.writable (.fn 0) Reg.SPOIL_CTL = true ∧ c.spoil.ring = [] ∧ c.rd Fld.SPOIL_STATUS_NEXT_SEQ = 1 ∧
      c.flag Fld.SPOIL_STATUS_PINNED = false := by decide +kernel

end Sys2Proof.Tests
end

section
/-! PROOF. Fields of register words, bit by bit: what is read in a field's place, and what a run of field updates makes of a bit. -/

namespace Sys2Proof.Machine

theorem getBits_congr {n : Nat} {v w : BitVec n} {hi lo : Nat} (h : ∀ i, lo ≤ i → i ≤ hi → v.getLsbD i = w.getLsbD i) :
    getBits v hi lo = getBits w hi lo := by
  apply Nat.eq_of_testBit_eq
  intro j
  simp only [getBits, bits, Nat.testBit_mod_two_pow, Nat.testBit_shiftRight, BitVec.testBit_toNat]
  by_cases hj : j < hi + 1 - lo
  · rw [h (lo + j) (by omega) (by omega)]
  · simp only [hj, decide_false, Bool.false_and]

theorem testBit_getBits {n : Nat} (w : BitVec n) (hi lo i : Nat) (hl : lo ≤ i) (hh : i ≤ hi) :
    (getBits w hi lo).testBit (i - lo) = w.getLsbD i := by
  have h : i - lo < hi + 1 - lo := by omega
  simp [getBits, bits, Nat.testBit_mod_two_pow, h, BitVec.testBit_toNat, Nat.add_sub_cancel' hl]

theorem getLsbD_fieldMask {n : Nat} (hi lo i : Nat) (hn : hi < n) :
    (fieldMask n hi lo).getLsbD i = (decide (lo ≤ i) && decide (i ≤ hi)) := by
  rw [fieldMask, BitVec.getLsbD_ofNat, Nat.testBit_shiftLeft, Nat.testBit_two_pow_sub_one, Bool.eq_iff_iff]
  simp only [Bool.and_eq_true, decide_eq_true_eq]
  omega

theorem getLsbD_putBits {n : Nat} (w : BitVec n) (hi lo v i : Nat) (hn : hi < n) :
    (putBits w hi lo v).getLsbD i = if lo ≤ i ∧ i ≤ hi then v.testBit (i - lo) else w.getLsbD i := by
  rw [putBits, BitVec.getLsbD_or, BitVec.getLsbD_and, BitVec.getLsbD_not, getLsbD_fieldMask hi lo i hn, BitVec.getLsbD_ofNat,
    Nat.testBit_shiftLeft, Nat.testBit_mod_two_pow]
  split
  next h =>
    have hin : i < n := by omega
    have hw : i - lo < hi + 1 - lo := by omega
    simp [h.1, h.2, hin, hw]
  next h =>
    have hout : ¬ (lo ≤ i ∧ i - lo < hi + 1 - lo) := by omega
    by_cases hin : i < n <;> grind

/-- A run of updates leaves a bit alone that none of them touches. -/
theorem foldl_getLsbD_untouched {α : Type} {n : Nat} (step : BitVec n → α → BitVec n) (i : Nat) (l : List α) :
    ∀ w, (∀ g ∈ l, ∀ w, (step w g).getLsbD i = w.getLsbD i) → (l.foldl step w).getLsbD i = w.getLsbD i := by
  induction l with
  | nil => intro w _; rfl
  | cons g l ih =>
    intro w h
    rw [List.foldl_cons, ih _ (fun g hg => h g (List.mem_cons_of_mem _ hg)), h g List.mem_cons_self]

/-- A bit that the update of f alone touches, and the same however often, is touched once by a run of updates with f among them. -/
theorem foldl_getLsbD_touched {α : Type} {n : Nat} (step : BitVec n → α → BitVec n) (i : Nat) (f : α) (φ : Bool → Bool)
    (hφ : ∀ b, φ (φ b) = φ b) (hf : ∀ w, (step w f).getLsbD i = φ (w.getLsbD i)) (l : List α) :
    ∀ w, f ∈ l → (∀ g ∈ l, g = f ∨ ∀ w, (step w g).getLsbD i = w.getLsbD i) →
      (l.foldl step w).getLsbD i = φ (w.getLsbD i) := by
  induction l with
  | nil => intro w hm; cases hm
  | cons g l ih =>
    intro w hm h
    have hl : ∀ g ∈ l, g = f ∨ ∀ w, (step w g).getLsbD i = w.getLsbD i := fun g hg => h g (List.mem_cons_of_mem _ hg)
    rw [List.foldl_cons]
    by_cases hfl : f ∈ l
    · rw [ih _ hfl hl]
      rcases h g List.mem_cons_self with rfl | hg
      · rw [hf, hφ]
      · rw [hg]
    · obtain rfl : f = g := (List.mem_cons.mp hm).resolve_right hfl
      rw [foldl_getLsbD_untouched step i l _ (fun g hg => (hl g hg).resolve_left (fun e => hfl (e ▸ hg))), hf]

end Sys2Proof.Machine
end

section
/-! PROOF. Writes of plain registers by their access codes (R4, R501, R503). -/

namespace Sys2Proof.Machine

/-- The fields of a row lie in the word, an RC field is wider than one bit, and no two fields share a bit. -/
def RegSpec.sound (r : RegSpec) : Prop :=
  ∀ f ∈ r.fields, f.hi < 64 ∧ (f.acc = .rc → f.lo < f.hi) ∧ ∀ g ∈ r.fields, g = f ∨ g.hi < f.lo ∨ f.hi < g.lo

theorem regTableAt_sound (c : Nat) : ∀ r ∈ regTableAt c, r.sound := by
  unfold regTableAt RegSpec.sound
  split_ifs <;> decide +kernel

theorem regFields_cases (k : Nat) :
    regFields k = [] ∨ ∃ r ∈ regTableAt (canon k), r.covers (canon k) = true ∧ regFields k = r.fields := by
  unfold regFields
  cases h : regSpecOf k with
  | none => exact .inl rfl
  | some r => exact .inr ⟨r, List.mem_of_find?_eq_some h, List.find?_some (p := fun r : RegSpec => r.covers (canon k)) h, rfl⟩

/-- The fields of a register have what those of a sound row have. -/
theorem regFields_sound {k : Nat} {f : FieldSpec} (hf : f ∈ regFields k) :
    f.hi < 64 ∧ (f.acc = .rc → f.lo < f.hi) ∧ ∀ g ∈ regFields k, g = f ∨ g.hi < f.lo ∨ f.hi < g.lo := by
  rcases regFields_cases k with h | ⟨r, hr, -, h⟩
  · simp [h] at hf
  · rw [h] at hf ⊢
    exact regTableAt_sound _ r hr f hf

theorem regFields_hi_lt {k : Nat} {f : FieldSpec} (hf : f ∈ regFields k) : f.hi < 64 := (regFields_sound hf).1

theorem regFields_apart {k : Nat} {f g : FieldSpec} (hf : f ∈ regFields k) (hg : g ∈ regFields k) :
    g = f ∨ g.hi < f.lo ∨ f.hi < g.lo :=
  (regFields_sound hf).2.2 g hg

/-- What a write makes of one bit of a field: from the bit before and the bit written. -/
def Access.bitAfter : Access → Bool → Bool → Bool
  | .rw, _, d => d
  | .w1c, o, d => o && !d
  | .w1s, o, d => o || d
  | .ro, o, _ => o
  | .wo, o, _ => o
  | .rc, o, _ => o

theorem Access.bitAfter_idem (a : Access) (o d : Bool) : a.bitAfter (a.bitAfter o d) d = a.bitAfter o d := by
  cases a <;> cases o <;> cases d <;> rfl

/-- The same for a whole word, were all of it one field. -/
def Access.wordAfter : Access → Reg64 → Reg64 → Reg64
  | .rw, _, d => d
  | .w1c, o, d => o &&& ~~~ d
  | .w1s, o, d => o ||| d
  | .ro, o, _ => o
  | .wo, o, _ => o
  | .rc, o, _ => o

theorem Access.getLsbD_wordAfter (a : Access) (o d : Reg64) {i : Nat} (hi : i < 64) :
    (a.wordAfter o d).getLsbD i = a.bitAfter (o.getLsbD i) (d.getLsbD i) := by
  cases a with
  | w1c => simp only [wordAfter, bitAfter, BitVec.getLsbD_and, BitVec.getLsbD_not, hi, decide_true, Bool.true_and]
  | w1s => exact BitVec.getLsbD_or
  | rw | ro | wo | rc => rfl

/-- A write's effect through one field, as accWrite folds it over a register's fields. -/
def FieldSpec.write (data w : Reg64) (f : FieldSpec) : Reg64 :=
  match f.acc with
  | .rw => putBits w f.hi f.lo (getBits data f.hi f.lo)
  | .w1c => w &&& ~~~ (data &&& fieldMask 64 f.hi f.lo)
  | .w1s => w ||| (data &&& fieldMask 64 f.hi f.lo)
  | .ro => w
  | .wo => w
  | .rc => w

theorem accWrite_eq_foldl (fs : List FieldSpec) (old data : Reg64) :
    accWrite fs old data = fs.foldl (FieldSpec.write data) old := rfl

theorem FieldSpec.getLsbD_write (f : FieldSpec) (data w : Reg64) (i : Nat) (hf : f.hi < 64) :
    (FieldSpec.write data w f).getLsbD i =
      if f.lo ≤ i ∧ i ≤ f.hi then f.acc.bitAfter (w.getLsbD i) (data.getLsbD i) else w.getLsbD i := by
  obtain ⟨hi, lo, acc, rst⟩ := f
  have hf : hi < 64 := hf
  have hw : ∀ h : lo ≤ i ∧ i ≤ hi, i < 64 := fun h => by omega
  cases acc with
  | rw =>
    refine (getLsbD_putBits w hi lo _ i hf).trans (if_ctx_congr Iff.rfl (fun h => ?_) (fun _ => rfl))
    exact testBit_getBits data hi lo i h.1 h.2
  | w1c =>
    simp only [FieldSpec.write, BitVec.getLsbD_and, BitVec.getLsbD_not, getLsbD_fieldMask hi lo i hf, Access.bitAfter]
    grind
  | w1s =>
    simp only [FieldSpec.write, BitVec.getLsbD_or, BitVec.getLsbD_and, getLsbD_fieldMask hi lo i hf, Access.bitAfter]
    grind
  | ro | wo | rc => exact (ite_self _).symm

/-- A bit of a field after a write: only its own field's access code acts on it. -/
theorem getLsbD_accWrite {k : Nat} (old data : Reg64) {f : FieldSpec} (hf : f ∈ regFields k) {i : Nat} (hl : f.lo ≤ i)
    (hh : i ≤ f.hi) :
    (accWrite (regFields k) old data).getLsbD i = f.acc.bitAfter (old.getLsbD i) (data.getLsbD i) := by
  rw [accWrite_eq_foldl]
  refine foldl_getLsbD_touched _ i f (fun o => f.acc.bitAfter o (data.getLsbD i)) (fun o => Access.bitAfter_idem _ _ _) ?_ _ _ hf ?_
  · intro w
    rw [FieldSpec.getLsbD_write f data w i (regFields_hi_lt hf), if_pos ⟨hl, hh⟩]
  · intro g hg
    refine (regFields_apart hf hg).imp_right (fun hd w => ?_)
    rw [FieldSpec.getLsbD_write g data w i (regFields_hi_lt hg), if_neg (by omega)]

/-- A bit of no field is as before a write. -/
theorem getLsbD_accWrite_of_no_field {k : Nat} (old data : Reg64) {i : Nat} (hi : ∀ f ∈ regFields k, i < f.lo ∨ f.hi < i) :
    (accWrite (regFields k) old data).getLsbD i = old.getLsbD i := by
  rw [accWrite_eq_foldl]
  refine foldl_getLsbD_untouched _ i _ _ (fun g hg w => ?_)
  have := hi g hg
  rw [FieldSpec.getLsbD_write g data w i (regFields_hi_lt hg), if_neg (by omega)]

/-- A field after a write, by its access code. -/
theorem getBits_accWrite {k : Nat} (old data : Reg64) {f : FieldSpec} (hf : f ∈ regFields k) :
    getBits (accWrite (regFields k) old data) f.hi f.lo = getBits (f.acc.wordAfter old data) f.hi f.lo := by
  have hw := regFields_hi_lt hf
  refine getBits_congr (fun i hl hh => ?_)
  rw [getLsbD_accWrite old data hf hl hh, Access.getLsbD_wordAfter _ _ _ (by omega)]

/-- A write that its register accepts is what the access comes to. -/
theorem State.busWrite_of_writeReg {s t : State} {vw : View} {o p : Nat} {data : Reg64} (hw : s.writable vw o = true)
    (hp : s.resolve o = some p) (ht : s.writeReg (viewNum vw) p data = some t) : s.busWrite vw o data = t := by
  simp only [State.writable, Bool.and_eq_true] at hw
  obtain ⟨⟨hr, hm⟩, hi⟩ := hw
  simp [State.busWrite, State.regWrite, State.judgedWrite, hr, hm, hi, hp, ht]

/-- No block does more to a register at a plain offset than its access codes say. -/
theorem State.writeReg_of_plainOffset {s : State} {vw p : Nat} {data : Reg64} (h : plainOffset p = true)
    (hd : s.deadHalf p = false) : s.writeReg vw p data = some (s.soft p data) := by
  unfold plainOffset at h
  unfold State.writeReg
  split_ifs at h ⊢
  · simp_all [State.writeDevctl]
  · simp_all [State.writeGauge]
  · rfl
  · simp_all [State.writeMgmt]
  · have hr : ¬ p % 0x800 = 0 ∧ ¬ (0x40 ≤ p % 0x800 ∧ p % 0x800 < 0x80) := by
      simp only [Bool.or_eq_true, Bool.and_eq_true, decide_eq_true_eq] at h
      omega
    simp [State.writeFab, hd, hr]
  · have hr : ¬ (0xA0200 ≤ p ∧ p < 0xA0240) := fun hr => by simp [hr] at h
    simp_all [State.writeHall]
  · simp_all [State.writeMemc]
  · have hp : 0x100000 + 0x10000 * ((p - 0x100000) / 0x10000) + p % 0x10000 = p := by omega
    simp_all [State.benchWrite]

theorem execRegisterWrite_of_plainOffset {s : State} {vw : View} {off : BitVec 26} {data : Reg64} {p : Nat}
    (hw : s.writable vw off.toNat = true) (hp : s.resolve off.toNat = some p) (h : plainOffset p = true) (hd : s.deadHalf p = false) :
    exec (.registerWrite vw off data) s = .next (s.setReg p (accWrite (regFields p) (s.reg p) data)) :=
  congrArg Host.Outcome.next (State.busWrite_of_writeReg hw hp (State.writeReg_of_plainOffset h hd))

/-- Settles O9: a plain register is written by its access codes, and these act on each field alone, since no two fields share a bit. -/
theorem registerWritesFollowAccessCodes : Obligations.RegisterWritesFollowAccessCodes := by
  refine ⟨fun _ _ _ _ _ hw hp h hd _ => execRegisterWrite_of_plainOffset hw hp h hd,
    fun k old data => ⟨fun f hf => ?_, fun _ hi => ?_⟩⟩
  · rw [getBits_accWrite old data hf]
    cases f.acc <;> rfl
  · exact getLsbD_accWrite_of_no_field old data hi

end Sys2Proof.Machine
end

section
/-! PROOF. Refused accesses of a function or of I3C (R3, R455, R501). -/

namespace Sys2Proof.Machine

/-- What a refused access of a function or I3C comes to: the one event on its way to the log, its first data word the write bit, the
width and the reason (Table 19.5), and for a read the answer of all ones. -/
theorem State.refused_of_function (s : State) {vw : View} (hvw : viewNum vw ≤ 16) (write : Bool) (width reason o d0 : Nat)
    (hd0 : (b2n write * 2 ^ 63 + width * 2 ^ 60 + reason * 2 ^ 56 + 0 * 2 ^ 52) % 2 ^ 64 = d0) (ho : o < 2 ^ 64) :
    (if write then s.accessError (viewNum vw) write width reason 0 o
      else (s.accessError (viewNum vw) write width reason 0 o).emit (.readData vw o allOnes)) =
      { s with
        spoil := { s.spoil with inFlight := s.spoil.inFlight ++ [⟨s.power.time, 0x19, 9, viewNum vw, 0x3F, s.boundTenant (viewNum vw),
          d0, o⟩] }
        out := if write then s.out else s.out ++ [.readData vw o allOnes] } := by
  simp only [State.accessError, if_pos hvw, State.log, hd0, Nat.mod_eq_of_lt ho]
  cases write <;> rfl

theorem b2n_le_one (b : Bool) : b2n b ≤ 1 := by cases b <;> decide

theorem widthOf_le (w : AccessWidth) : widthOf w ≤ 4 := by cases w <;> decide

theorem execRefusedAccess_of_ne_w64 (vw : View) (off : BitVec 26) (data : Option Reg64) {width : AccessWidth} (h : width ≠ .w64)
    (s : State) : exec (.refusedAccess vw off data width) s = .next (s.badWidth vw off.toNat data.isSome (widthOf width)) := by
  cases width with
  | w64 => exact absurd rfl h
  | w32 | w16 | w8 | other => rfl

/-- An access turned away by check 2, 3 or 4 of R501 is logged, and a read answers all ones. -/
theorem State.dataAccess_of_turnedAway {s : State} {vw : View} {o : Nat} {data : Option Reg64}
    (hr : s.reaches (viewNum vw) data.isSome = true) (h : s.turnedAway (viewNum vw) o data.isSome) :
    s.dataAccess vw o data = if data.isSome then s.refuseAccess (viewNum vw) data.isSome o
      else (s.refuseAccess (viewNum vw) data.isSome o).emit (.readData vw o allOnes) := by
  unfold State.turnedAway at h
  cases data with
  | none =>
    have hj : s.judgedRead (viewNum vw) o = none := by
      unfold State.judgedRead
      rcases h with h | h | h <;> simp_all
    have hr : s.reaches (viewNum vw) false = true := hr
    simp [State.dataAccess, State.busRead, State.regRead, hr, hj]
  | some d =>
    have hj : s.judgedWrite (viewNum vw) o d = none := by
      unfold State.judgedWrite
      rcases h with h | h | h <;> simp_all
    have hr : s.reaches (viewNum vw) true = true := hr
    simp [State.dataAccess, State.busWrite, State.regWrite, hr, hj]

theorem toNat_lt_of_offset (off : BitVec 26) : off.toNat < 2 ^ 64 := lt_trans off.isLt (by decide)

theorem execRefusedAccess_of_w64 (vw : View) (off : BitVec 26) (data : Option Reg64) (s : State) :
    exec (.refusedAccess vw off data .w64) s = .next (s.dataAccess vw off.toNat data) := rfl

theorem State.badWidth_of_reaches {s : State} {vw : View} {o : Nat} {write : Bool} (hr : s.reaches (viewNum vw) write = true)
    (width : Nat) : s.badWidth vw o write width = if write then s.accessError (viewNum vw) write width 0 0 o
      else (s.accessError (viewNum vw) write width 0 0 o).emit (.readData vw o allOnes) := if_pos hr

/-- Settles O10: both refusals end in the one HOST_ACCESS_ERROR, reason 0 for the width and 1 for the offset. -/
theorem refusedAccessLogsAndChangesNothing : Obligations.RefusedAccessLogsAndChangesNothing := by
  refine ⟨fun s vw off data width hne hvw hr => ?_, fun s vw off data hvw hr h => ?_⟩
  all_goals have hb := b2n_le_one data.isSome
  · have hwd := widthOf_le width
    rw [execRefusedAccess_of_ne_w64 vw off data hne, State.badWidth_of_reaches hr]
    exact congrArg Host.Outcome.next (s.refused_of_function hvw _ _ _ _ _ (by omega) (toNat_lt_of_offset off))
  · rw [execRefusedAccess_of_w64, State.dataAccess_of_turnedAway hr h]
    exact congrArg Host.Outcome.next (s.refused_of_function hvw _ _ _ _ _ (by omega) (toNat_lt_of_offset off))

end Sys2Proof.Machine
end

section
/-! PROOF. RC fields: what a count holds, and what the clear of a register takes (R4, R526). -/

namespace Sys2Proof.Machine

theorem rcUnit_pos (k lo : Nat) : 0 < rcUnit k lo := by
  unfold rcUnit
  simp only
  split_ifs <;> decide

theorem State.cnt_rcClear (s : State) (f : Fld) : (s.rcClear f).cnt f = s.cnt f % rcUnit f.key f.lo := by
  have h : f.rcKey ≠ f.armedKey := by simp [Fld.armedKey]
  simp only [State.rcClear, State.cnt, Sparse.get_set_ne _ _ _ h]
  exact State.cnt_setCnt s f _

/-- A count is untouched by the clearing of a field whose places lie elsewhere. -/
theorem State.cnt_rcClear_ne (s : State) {f g : Fld} (hc : f.rcKey ≠ g.rcKey) (ha : f.rcKey ≠ g.armedKey) :
    (s.rcClear g).cnt f = s.cnt f := by
  simp only [State.rcClear, State.cnt, Sparse.get_set_ne _ _ _ ha]
  exact State.cnt_setCnt_ne s _ hc

theorem State.rcShown_rcClear (s : State) (f : Fld) : (s.rcClear f).rcShown f = 0 := by
  rw [State.rcShown, State.cnt_rcClear, Nat.div_eq_of_lt (Nat.mod_lt _ (rcUnit_pos _ _)), Nat.min_zero]

theorem State.cnt_bump_of_unit (s : State) {f : Fld} (h : rcUnit f.key f.lo = 1) (n : Nat) :
    (s.bump f n).cnt f = min f.top (s.cnt f + n) := by
  rw [State.bump, if_pos h, State.cnt_setCnt]

theorem State.cnt_bump_of_smaller (s : State) {f : Fld} (h : rcUnit f.key f.lo ≠ 1) (n : Nat) :
    (s.bump f n).cnt f = s.cnt f + n := by
  rw [State.bump, if_neg h, State.cnt_setCnt]

theorem mem_rcFields {k : Nat} {f : Fld} : f ∈ rcFields k ↔ ∃ g ∈ regFields k, g.acc = .rc ∧ f = ⟨k, g.hi, g.lo⟩ := by
  simp [rcFields, and_assoc, eq_comm]

/-- An RC field lies in the word, is wider than one bit, and shares no bit with another RC field. -/
theorem rcFields_sound {k : Nat} {f : Fld} (hf : f ∈ rcFields k) :
    f.key = k ∧ f.lo < f.hi ∧ f.hi < 64 ∧ ∀ g ∈ rcFields k, g = f ∨ g.hi < f.lo ∨ f.hi < g.lo := by
  obtain ⟨f', hf', hacc, rfl⟩ := mem_rcFields.mp hf
  obtain ⟨hw, hrc, hapart⟩ := regFields_sound hf'
  refine ⟨rfl, hrc hacc, hw, fun g hg => ?_⟩
  obtain ⟨g', hg', -, rfl⟩ := mem_rcFields.mp hg
  exact (hapart g' hg').imp_left (fun e => by rw [e])

theorem rcFields_hi_lt {k : Nat} {f : Fld} (hf : f ∈ rcFields k) : f.hi < 64 := by
  obtain ⟨g, hg, -, rfl⟩ := mem_rcFields.mp hf
  exact regFields_hi_lt hg

/-- An RC field shares no bit with a field of another access code. -/
theorem rcFields_apart {k : Nat} {f : Fld} (hf : f ∈ rcFields k) {g : FieldSpec} (hg : g ∈ regFields k) (hacc : g.acc ≠ .rc) :
    g.hi < f.lo ∨ f.hi < g.lo := by
  obtain ⟨f', hf', hrc, rfl⟩ := mem_rcFields.mp hf
  exact (regFields_apart hf' hg).resolve_left (fun e => hacc (e ▸ hrc))

/-- The clearing of one RC field of a register leaves the count of each other one. -/
theorem State.cnt_rcClear_of_other {k : Nat} {f g : Fld} (hf : f ∈ rcFields k) (hg : g ∈ rcFields k) (hne : g ≠ f) (s : State) :
    (s.rcClear g).cnt f = s.cnt f := by
  obtain ⟨hfk, hfw, -, hapart⟩ := rcFields_sound hf
  obtain ⟨hgk, hgw, -, -⟩ := rcFields_sound hg
  have hd := (hapart g hg).resolve_left hne
  apply State.cnt_rcClear_ne <;> simp only [Fld.armedKey, Fld.rcKey, hfk, hgk] <;> omega

theorem State.cnt_foldl_rcClear {k : Nat} {f : Fld} (hf : f ∈ rcFields k) (l : List Fld) (hl : l ⊆ rcFields k) :
    ∀ s : State, (l.foldl State.rcClear s).cnt f = if f ∈ l then s.cnt f % rcUnit f.key f.lo else s.cnt f := by
  induction l with
  | nil => intro s; rfl
  | cons g l ih =>
    intro s
    rw [List.foldl_cons, ih (List.subset_of_cons_subset hl)]
    by_cases hg : g = f
    · subst hg
      simp [State.cnt_rcClear]
    · have hc := State.cnt_rcClear_of_other hf (hl List.mem_cons_self) hg s
      simp [hc, Ne.symm hg]

/-- The clear of a register takes the whole units of each of its RC fields. -/
theorem State.cnt_clearRc {k : Nat} {f : Fld} (hf : f ∈ rcFields k) (s : State) :
    (s.clearRc k).cnt f = s.cnt f % rcUnit f.key f.lo := by
  rw [State.clearRc, State.cnt_foldl_rcClear hf _ (List.Subset.refl _), if_pos hf]

theorem State.rcShown_lt (s : State) (f : Fld) : s.rcShown f < 2 ^ (f.hi + 1 - f.lo) :=
  lt_of_le_of_lt (Nat.min_le_left _ _) (Nat.sub_one_lt (Nat.two_pow_pos _).ne')

/-- A register's own word holds each RC field's units in the field's place. -/
theorem State.getBits_plain {k : Nat} {f : Fld} (hf : f ∈ rcFields k) (s : State) :
    getBits (s.plain k) f.hi f.lo = s.rcShown f := by
  obtain ⟨-, hw, h64, hapart⟩ := rcFields_sound hf
  have hbit : ∀ i, f.lo ≤ i → i ≤ f.hi → (s.plain k).getLsbD i = (putBits (0 : Reg64) f.hi f.lo (s.rcShown f)).getLsbD i := by
    intro i hl hh
    have hput : ∀ w : Reg64, (putBits w f.hi f.lo (s.rcShown f)).getLsbD i = (s.rcShown f).testBit (i - f.lo) := fun w => by
      rw [getLsbD_putBits _ _ _ _ _ h64, if_pos ⟨hl, hh⟩]
    rw [State.plain, hput, foldl_getLsbD_untouched]
    · refine foldl_getLsbD_touched _ i f (fun _ => (s.rcShown f).testBit (i - f.lo)) (fun _ => rfl) hput _ _ hf ?_
      refine fun g hg => (hapart g hg).imp_right (fun hd w => ?_)
      rw [getLsbD_putBits _ _ _ _ _ (rcFields_hi_lt hg), if_neg (by omega)]
    · intro g hg w
      obtain ⟨hg, hwo⟩ := List.mem_filter.mp hg
      have hd := rcFields_apart hf hg (by simp [of_decide_eq_true hwo])
      rw [getLsbD_putBits _ _ _ _ _ (regFields_hi_lt hg), if_neg (by omega)]
  rw [getBits_congr hbit, getBits_putBits _ _ _ _ h64 hw.le, Nat.mod_eq_of_lt (s.rcShown_lt f)]

end Sys2Proof.Machine
end

section
/-! PROOF. Where the RC fields lie, and that what a register shows of state held elsewhere leaves their places alone (R502, R526). -/

namespace Sys2Proof.Machine

/-- The offsets of a row's registers. -/
def RegSpec.offsets (r : RegSpec) : List Nat :=
  if r.stride = 0 then [r.base] else (List.range' r.first r.count).map (fun i => r.base + r.stride * i)

theorem RegSpec.mem_offsets_of_covers {r : RegSpec} {c : Nat} (h : r.covers c = true) : c ∈ r.offsets := by
  unfold RegSpec.covers at h
  unfold RegSpec.offsets
  split_ifs at h ⊢
  · exact List.mem_singleton.mpr (of_decide_eq_true h)
  · simp only [Bool.and_eq_true, decide_eq_true_eq] at h
    obtain ⟨⟨⟨hbase, hmod⟩, hfirst⟩, hlast⟩ := h
    refine List.mem_map.mpr ⟨_, List.mem_range'_1.mpr ⟨hfirst, hlast⟩, ?_⟩
    rw [Nat.mul_div_cancel' (Nat.dvd_of_mod_eq_zero hmod), Nat.add_sub_cancel' hbase]

/-- What holds of the RC fields of every row of a block's table holds of each RC field in the block: of its register's place in the table
and of its highest bit. The view that the key names does not matter. -/
theorem rcField_of_rows {P : Nat → Nat → Prop} {vw p : Nat} {f : Fld} {rows : List RegSpec} (hrows : regTableAt (canon p) = rows)
    (hP : ∀ r ∈ rows, ∀ g ∈ r.fields, g.acc = .rc → ∀ c ∈ r.offsets, P c g.hi) (hf : f ∈ rcFields (regKey vw p)) :
    P (canon p) f.hi := by
  obtain ⟨g, hg, hacc, rfl⟩ := mem_rcFields.mp hf
  have hc : canon (regKey vw p) = canon p := by simp only [canon, regKey, Nat.add_mul_mod_self_left]
  rcases regFields_cases (regKey vw p) with h | ⟨r, hr, hcov, h⟩
  · simp [h] at hg
  · rw [hc] at hr hcov
    rw [h] at hg
    exact hP r (hrows ▸ hr) g hg hacc _ (RegSpec.mem_offsets_of_covers hcov)

theorem canon_devctl {p : Nat} (hp : p < 0x10000) : canon p = p ∨ canon p < 0x2080 := by
  grind [canon, viewBit]

theorem canon_hif {p : Nat} (hl : 0x40000 ≤ p) (hp : p < 0x50000) : 0x40000 ≤ canon p ∧ canon p < 0x50000 := by
  grind [canon, viewBit]

theorem canon_memc {p : Nat} (hl : 0xC0000 ≤ p) (hp : p < 0x100000) : canon p = 0xC0000 + p % 0x100 ∨ 0xD0000 ≤ p ∧ canon p = p := by
  grind [canon, viewBit]

theorem canon_bench {p : Nat} (hl : 0x100000 ≤ p) (hp : p < 0x540000) : canon p = 0x100000 + p % 0x10000 := by
  grind [canon, viewBit]

/-- The blocks whose registers all stand in the table by themselves. -/
theorem canon_eq_self {p : Nat} (hp : 0x10000 ≤ p ∧ p < 0x40000 ∨ 0x50000 ≤ p ∧ p < 0x80000 ∨ 0xA0000 ≤ p ∧ p < 0xC0000) :
    canon p = p := by
  grind [canon, viewBit]

/-- Where DEVCTL's RC fields lie: MILLRACE_STATUS, MILLRACE_BYTES, BASIN_ECC, BASIN_CONFL_DATA and HBM_STACK. -/
abbrev RcInDevctl (c hi : Nat) : Prop :=
  0x4080 ≤ c ∧ c < 0x40A0 ∧ hi = 31 ∨ 0x40A0 ≤ c ∧ c < 0x40C0 ∨ 0x5040 ≤ c ∧ c < 0x5060 ∨ c = 0x5088 ∨ 0x6040 ≤ c ∧ c < 0x6080 ∧ hi = 15

theorem rcField_devctl {vw p : Nat} {f : Fld} (hp : p < 0x10000) (hf : f ∈ rcFields (regKey vw p)) : RcInDevctl p f.hi := by
  have hc := canon_devctl hp
  have hrows : regTableAt (canon p) = regTableDevctl0 ++ regTableDevctl1 ++ regTableDevctl2 ++ regTableDevctl3 := by grind [regTableAt]
  have h := rcField_of_rows (P := RcInDevctl) hrows (by decide +kernel) hf
  unfold RcInDevctl at h ⊢
  omega

/-- Where the RC fields of CLKPWR, GAUGE and SPOIL do not lie, and the highest bit of the one in CLKPWR_THROTTLE. -/
abbrev RcInGauge (c hi : Nat) : Prop :=
  (c = Reg.CLKPWR_THROTTLE → hi = 31) ∧ c ≠ Reg.CLKPWR_TIME ∧ c ≠ Reg.SPOIL_DATA

theorem rcField_gauge {vw p : Nat} {f : Fld} (hl : 0x10000 ≤ p) (hp : p < 0x40000) (hf : f ∈ rcFields (regKey vw p)) :
    RcInGauge p f.hi := by
  have hc := canon_eq_self (p := p) (by omega)
  have hsub : ∀ r ∈ regTableAt (canon p), r ∈ regTableClkpwr0 ++ regTableGauge0 ++ regTableSpoil0 := by grind [regTableAt]
  have hplaces : ∀ r ∈ regTableClkpwr0 ++ regTableGauge0 ++ regTableSpoil0, ∀ g ∈ r.fields, g.acc = .rc → ∀ c ∈ r.offsets,
      RcInGauge c g.hi := by decide +kernel
  exact hc ▸ rcField_of_rows (P := RcInGauge) rfl (fun r hr => hplaces r (hsub r hr)) hf

theorem rcField_hif {vw p : Nat} {f : Fld} (hl : 0x40000 ≤ p) (hp : p < 0x50000) : f ∉ rcFields (regKey vw p) := by
  have hc := canon_hif hl hp
  have hrows : regTableAt (canon p) = regTableHif0 ++ regTableHif1 := by grind [regTableAt]
  exact fun hf => rcField_of_rows (P := fun _ _ => False) hrows (by decide +kernel) hf

/-- Where Kwawekan's RC fields do not lie, and the highest bit of the one in SEAL_STATUS. -/
abbrev RcInSeal (c hi : Nat) : Prop := (c = Reg.SEAL_STATUS → hi = 31) ∧ c ≠ Reg.SEAL_BOOT

theorem rcField_seal {vw p : Nat} {f : Fld} (hl : 0x50000 ≤ p) (hp : p < 0x60000) (hf : f ∈ rcFields (regKey vw p)) :
    RcInSeal p f.hi := by
  have hc := canon_eq_self (p := p) (by omega)
  have hrows : regTableAt (canon p) = regTableSeal0 := by grind [regTableAt]
  exact hc ▸ rcField_of_rows (P := RcInSeal) hrows (by decide +kernel) hf

/-- The Hall unit's RC fields lie in HALL_LAG, HALL_FENCE_STATUS and HALL_TBL_STATUS. -/
theorem rcField_hall {vw p : Nat} {f : Fld} (hl : 0xA0000 ≤ p) (hp : p < 0xC0000) (hf : f ∈ rcFields (regKey vw p)) :
    p ∈ [Reg.HALL_LAG, Reg.HALL_FENCE_STATUS, Reg.HALL_TBL_STATUS] := by
  have hc := canon_eq_self (p := p) (by omega)
  have hrows : regTableAt (canon p) = regTableHall0 ++ regTableHall1 := by grind [regTableAt]
  have h := rcField_of_rows (P := fun c _ => c ∈ [Reg.HALL_LAG, Reg.HALL_FENCE_STATUS, Reg.HALL_TBL_STATUS]) hrows
    (by decide +kernel) hf
  rwa [hc] at h

theorem rcField_memc {vw p : Nat} {f : Fld} (hl : 0xC0000 ≤ p) (hp : p < 0x100000) (hf : f ∈ rcFields (regKey vw p)) :
    p % 0x100 ≠ 0 := by
  have hc := canon_memc hl hp
  have hrows : regTableAt (canon p) = regTableMemc0 := by grind [regTableAt]
  have h := rcField_of_rows (P := fun c _ => c % 0x100 ≠ 0) hrows (by decide +kernel) hf
  omega

/-- The registers of a bench block whose word the device shows in part: each has one RC field, in the low half. -/
def benchStatus : List Nat := [0x208, 0x210, 0x218, 0x220, 0x228, 0x238, 0xA50, 0xC00]

/-- Where a bench's RC fields do not lie, and their highest bit in the registers that the device shows in part. -/
abbrev RcInBench (o hi : Nat) : Prop :=
  ((0x200 < o ∧ o < 0x408 ∨ 0x410 < o) ∧ o ≠ 0xA48) ∧ (o ∈ benchStatus → hi = 31) ∧
    (0x808 ≤ o ∧ o < 0xA00 → o % 0x20 = 8 ∧ hi = 47)

theorem rcField_bench {vw p : Nat} {f : Fld} (hl : 0x100000 ≤ p) (hp : p < 0x540000) (hf : f ∈ rcFields (regKey vw p)) :
    RcInBench (p % 0x10000) f.hi := by
  have hc := canon_bench hl hp
  have hrows : regTableAt (canon p) = regTableBench0 ++ regTableBench1 ++ regTableBench2 ++ regTableBench3 := by grind [regTableAt]
  have h := rcField_of_rows (P := fun c => RcInBench (c % 0x10000)) hrows (by decide +kernel) hf
  have ho : canon p % 0x10000 = p % 0x10000 := by omega
  rwa [ho] at h

/-- A field below one that the device puts into a word reads as before. -/
theorem Fld.getBits_put_above (g : Fld) (w : Reg64) (v : Nat) {hi lo : Nat} (h : hi < 64) (hg : hi < g.lo) :
    getBits (g.put w v) hi lo = getBits w hi lo :=
  getBits_putBits_apart w g.hi g.lo v hi lo h (.inl hg)

theorem Fld.getBits_putB_above (g : Fld) (w : Reg64) (v : Bool) {hi lo : Nat} (h : hi < 64) (hg : hi < g.lo) :
    getBits (g.putB w v) hi lo = getBits w hi lo :=
  g.getBits_put_above w (b2n v) h hg

theorem State.getBits_devctlShown (s : State) (w : Reg64) {vw p : Nat} {f : Fld} (hp : p < 0x10000)
    (hf : f ∈ rcFields (regKey vw p)) : getBits (s.devctlShown p w) f.hi f.lo = getBits w f.hi f.lo := by
  have hplace := rcField_devctl hp hf
  have hreg : p ≠ Reg.DEVCTL_PRIME_STATUS ∧ p ≠ Reg.DEVCTL_CHAIN_STATUS ∧ p ≠ Reg.DEVCTL_KEY_STATUS ∧ p ≠ Reg.DEVCTL_HBM_PAGE_DATA := by
    simp only [Reg.DEVCTL_PRIME_STATUS, Reg.DEVCTL_CHAIN_STATUS, Reg.DEVCTL_KEY_STATUS, Reg.DEVCTL_HBM_PAGE_DATA]
    omega
  simp only [State.devctlShown, hreg, if_false]
  by_cases hm : 0x4080 ≤ p ∧ p < 0x40A0
  · have hhi : f.hi = 31 := by omega
    simp (disch := omega) only [if_pos, if_neg]
    simp [Fld.getBits_put_above, Fld.getBits_putB_above, hhi, Fld.DEVCTL_MILLRACE_STATUS_PENDING,
      Fld.DEVCTL_MILLRACE_STATUS_ACTIVE, Fld.DEVCTL_MILLRACE_STATUS_BUSY]
  by_cases hs : 0x6040 ≤ p ∧ p < 0x6080
  · have hhi : f.hi = 15 := by omega
    simp (disch := omega) only [if_pos, if_neg]
    simp [Fld.getBits_put_above, hhi, Fld.DEVCTL_HBM_STACK_GIB]
  · simp (disch := omega) only [if_neg]

theorem State.getBits_gaugeShown (s : State) (w : Reg64) {vw p : Nat} {f : Fld} (hl : 0x10000 ≤ p) (hp : p < 0x40000)
    (hne : p ≠ Reg.GAUGE_TEMP_DATA) (hf : f ∈ rcFields (regKey vw p)) :
    getBits (s.gaugeShown p w) f.hi f.lo = getBits w f.hi f.lo := by
  obtain ⟨hthr, htime, hspoil⟩ := rcField_gauge hl hp hf
  unfold State.gaugeShown
  split_ifs with h
  · have hhi := hthr h
    simp [Fld.getBits_put_above, hhi, Fld.CLKPWR_THROTTLE_HBM]
  · rfl

theorem State.getBits_sealShown (s : State) (w : Reg64) {vw p : Nat} {f : Fld} (hl : 0x50000 ≤ p) (hp : p < 0x60000)
    (hf : f ∈ rcFields (regKey vw p)) :
    getBits (s.sealShown p w) f.hi f.lo = getBits w f.hi f.lo := by
  obtain ⟨hst, hboot⟩ := rcField_seal hl hp hf
  unfold State.sealShown
  split_ifs with h
  · have hhi := hst h
    simp [Fld.getBits_put_above, Fld.getBits_putB_above, hhi, Fld.SEAL_STATUS_DEBUG_UNLOCKED, Fld.SEAL_STATUS_ENTROPY_OK,
      Fld.SEAL_STATUS_MULTIPART, Fld.SEAL_STATUS_QUEUED, Fld.SEAL_STATUS_OWNER]
  · rfl

theorem State.hallShown_of_rcField (s : State) (w : Reg64) {vw p : Nat} {f : Fld} (hl : 0xA0000 ≤ p) (hp : p < 0xC0000)
    (hf : f ∈ rcFields (regKey vw p)) : s.hallShown p w = w := by
  have h := rcField_hall hl hp hf
  simp only [List.mem_cons, List.not_mem_nil, or_false] at h
  rcases h with rfl | rfl | rfl <;> rfl

theorem State.memcShown_of_rcField (s : State) (w : Reg64) {vw p : Nat} {f : Fld} (hl : 0xB0000 ≤ p) (hp : p < 0x100000)
    (hf : f ∈ rcFields (regKey vw p)) : s.memcShown p w = w := by
  by_cases hc : p < 0xC0000
  · have h := rcField_hall (by omega) hc hf
    simp only [List.mem_cons, List.not_mem_nil, or_false, Reg.HALL_LAG, Reg.HALL_FENCE_STATUS, Reg.HALL_TBL_STATUS] at h
    omega
  · exact if_neg (rcField_memc (by omega) hp hf)

theorem inArray_eq_none {o base stride count : Nat} (h : ¬ (base ≤ o ∧ (o - base) % stride = 0 ∧ (o - base) / stride < count)) :
    inArray o base stride count = none := if_neg h

/-- The registers of a bench block of which no field is shown of state held elsewhere. -/
theorem State.benchShown_stored (s : State) (pb : Nat) {o : Nat} (w : Reg64)
    (h : (0x200 < o ∧ o < 0x408 ∨ 0x410 < o) ∧ o ≠ 0xA48) (hst : o ∉ benchStatus)
    (hring : ¬ (0x808 ≤ o ∧ o < 0xA00)) : s.benchShown pb o w = w := by
  simp only [benchStatus, List.mem_cons, List.not_mem_nil, or_false, not_or] at hst
  simp (disch := omega) only [State.benchShown, if_neg, inArray_eq_none]

theorem State.benchShown_ringPtr (s : State) (pb : Nat) {o : Nat} (w : Reg64) (h : 0x808 ≤ o ∧ o < 0xA00 ∧ o % 0x20 = 8) :
    s.benchShown pb o w = (Fld.BENCH_RING_PTR_OCC pb ((o - 0x808) / 0x20)).put w (s.ringOcc pb ((o - 0x808) / 0x20)) := by
  have hi : inArray o 0x808 0x20 16 = some ((o - 0x808) / 0x20) := if_pos (by omega)
  simp (disch := omega) only [State.benchShown, if_neg, hi]

theorem State.getBits_benchShown (s : State) (w : Reg64) {vw p : Nat} {f : Fld} (hl : 0x100000 ≤ p) (hp : p < 0x540000)
    (hf : f ∈ rcFields (regKey vw p)) (pb : Nat) :
    getBits (s.benchShown pb (p % 0x10000) w) f.hi f.lo = getBits w f.hi f.lo := by
  obtain ⟨hwhole, hst, hring⟩ := rcField_bench hl hp hf
  generalize p % 0x10000 = o at *
  by_cases ho : o ∈ benchStatus
  · have hhi := hst ho
    simp only [benchStatus, List.mem_cons, List.not_mem_nil, or_false] at ho
    rcases ho with rfl | rfl | rfl | rfl | rfl | rfl | rfl | rfl <;>
      simp [State.benchShown, Fld.getBits_put_above, Fld.getBits_putB_above, hhi, Fld.BENCH_TE_STATUS_EXCHANGE, Fld.BENCH_TE_STATUS_BUSY,
        Fld.BENCH_VE_STATUS_SLOT_PENDING, Fld.BENCH_VE_STATUS_BUSY, Fld.BENCH_AE_STATUS_CHUTE_COUNT, Fld.BENCH_AE_STATUS_DRAIN_WAIT,
        Fld.BENCH_AE_STATUS_BUSY, Fld.BENCH_RIFFLE_STATUS_ROUTING, Fld.BENCH_RIFFLE_STATUS_BUSY, Fld.BENCH_KEYBUF_STATUS_CREDITS,
        Fld.BENCH_KEYBUF_STATUS_LEVEL, Fld.BENCH_TRACKER_STATUS_INTERVALS, Fld.BENCH_WEIR_STATUS_HELD, Fld.BENCH_SLUICE_STATUS_TAGS_OUT,
        Fld.BENCH_SLUICE_STATUS_BUSY]
  by_cases hr : 0x808 ≤ o ∧ o < 0xA00
  · obtain ⟨hmod, hhi⟩ := hring hr
    rw [s.benchShown_ringPtr pb w ⟨hr.1, hr.2, hmod⟩, hhi]
    exact Fld.getBits_put_above _ _ _ (by decide) (by simp [Fld.BENCH_RING_PTR_OCC])
  · rw [s.benchShown_stored pb w hwhole ho hr]

theorem State.getBits_shown (s : State) {vw p : Nat} {f : Fld} (hp : p < 0x540000) (hne : p ≠ Reg.GAUGE_TEMP_DATA)
    (hf : f ∈ rcFields (regKey vw p)) : getBits (s.shown vw p) f.hi f.lo = getBits (s.plain (regKey vw p)) f.hi f.lo := by
  simp only [State.shown]
  split_ifs
  · exact s.getBits_devctlShown _ (by omega) hf
  · exact s.getBits_gaugeShown _ (by omega) (by omega) hne hf
  · exact absurd hf (rcField_hif (by omega) (by omega))
  · exact s.getBits_sealShown _ (by omega) (by omega) hf
  · rfl
  · rw [s.hallShown_of_rcField _ (by omega) (by omega) hf]
  · rw [s.memcShown_of_rcField _ (by omega) (by omega) hf]
  · exact s.getBits_benchShown _ (by omega) hp hf _

end Sys2Proof.Machine
end

section
/-! PROOF. Reads of registers with RC fields (R501, R505, R526). -/

namespace Sys2Proof.Machine

theorem State.busRead_of_readReg {s : State} {vw : View} {o p : Nat} {g : Got} (hr : s.readable vw o = true)
    (hp : s.resolve o = some p) (hg : s.readReg (viewNum vw) p = some g) : s.busRead vw o = g.after.emit (.readData vw o g.val) := by
  simp only [State.readable, Bool.and_eq_true] at hr
  obtain ⟨⟨hr, hm⟩, hi⟩ := hr
  simp [State.busRead, State.regRead, State.judgedRead, hr, hm, hi, hp, hg]

/-- A register with no array behind it answers its word and loses the whole units of its RC fields. -/
theorem State.readReg_of_plain (s : State) (vw : Nat) {p : Nat} (hp : p < 0x100000) (hdata : isDataReg p = false)
    (ht : mgmtTenantAt p = none) (hd : s.deadHalf p = false) :
    s.readReg vw p = some ⟨s.shown vw p, s.clearRc (regKey vw p)⟩ := by
  simp only [isDataReg, Bool.or_eq_false_iff, decide_eq_false_iff_not] at hdata
  obtain ⟨⟨⟨⟨⟨⟨⟨hbasin, hpage⟩, htemp⟩, hspoil⟩, hmgmt⟩, hgen⟩, htrib⟩, -⟩ := hdata
  simp [State.readReg, hp.not_ge, hd, hbasin, hpage, htemp, hspoil, hmgmt, hgen, htrib, ht]

theorem State.readBench_of_plain (s : State) (vw pb : Nat) {o : Nat} (h : [0x88, 0x210, 0x220, 0x420, 0xA28, 0xA48].contains o = false) :
    s.readBench vw pb o = some ⟨s.shown vw (0x100000 + 0x10000 * pb + o), s.clearRc (0x100000 + 0x10000 * pb + o)⟩ := by
  simp_all [State.readBench]

theorem State.readReg_of_plain_bench (s : State) (vw : Nat) {pb o : Nat} (ho : o < 0x10000)
    (h : [0x88, 0x210, 0x220, 0x420, 0xA28, 0xA48].contains o = false) :
    s.readReg vw (0x100000 + 0x10000 * pb + o) =
      some ⟨s.shown vw (0x100000 + 0x10000 * pb + o), s.clearRc (0x100000 + 0x10000 * pb + o)⟩ := by
  have hpb : (0x100000 + 0x10000 * pb + o - 0x100000) / 0x10000 = pb := by omega
  have hoff : (0x100000 + 0x10000 * pb + o) % 0x10000 = o := by omega
  simp only [State.readReg]
  rw [if_pos (by omega), hpb, hoff, s.readBench_of_plain vw pb h]

/-- Settles O11: the read of a plain register answers its word and clears its RC fields, the clear of each RC field takes the whole units,
and what the device shows of state held elsewhere lies in no RC field. -/
theorem rcReadTakesWholeUnits : Obligations.RcReadTakesWholeUnits := by
  refine ⟨fun s vw off p hr hp hlt hdata ht hd => ?_, fun s vw off pb o hr hp _ ho hplain => ?_, fun s f n => ?_,
    fun s vw p f hp hne hf => ?_⟩
  · exact congrArg Host.Outcome.next (State.busRead_of_readReg hr hp (s.readReg_of_plain _ hlt hdata ht hd))
  · exact congrArg Host.Outcome.next (State.busRead_of_readReg hr hp (s.readReg_of_plain_bench _ ho hplain))
  · exact ⟨rfl, s.cnt_rcClear f, s.rcShown_rcClear f, fun h => s.cnt_bump_of_smaller h n,
      fun h => ⟨s.cnt_bump_of_unit h n, by rw [s.cnt_rcClear, h, Nat.mod_one]⟩⟩
  · exact ⟨(s.getBits_shown hp hne hf).trans (State.getBits_plain hf s), State.cnt_clearRc hf s⟩

end Sys2Proof.Machine
end

section
/-! PROOF. Register fields and frames over runs of updates, and events of a running device. -/

namespace Sys2Proof.Machine

/-- An event of a unit takes place while the device runs. -/
theorem next_live_of_running {s : State} (h : s.running = true) (f : State → State) :
    (Host.Outcome.next (s.live f) : Result) = .next (f s) :=
  congrArg _ (if_pos h)

/-- A run of steps leaves a reading alone that none of them changes. -/
theorem foldl_read_untouched {σ α β : Type} (step : σ → α → σ) (read : σ → β) (l : List α) (s : σ)
    (h : ∀ x ∈ l, ∀ t, read (step t x) = read t) : read (l.foldl step s) = read s :=
  List.foldlRecOn l step (motive := fun t => read t = read s) rfl (fun t ht x hx => (h x hx t).trans ht)

/-- A reading that the step of x alone sets is set by a run of steps with x among them. -/
theorem foldl_read_touched {σ α β : Type} (step : σ → α → σ) (read : σ → β) (x : α) (v : β) (hx : ∀ t, read (step t x) = v)
    (l : List α) : ∀ s, x ∈ l → (∀ y ∈ l, y ≠ x → ∀ t, read (step t y) = read t) → read (l.foldl step s) = v := by
  classical
  induction l with
  | nil => intro s hm; cases hm
  | cons y l ih =>
    intro s hm h
    have hl : ∀ y ∈ l, y ≠ x → ∀ t, read (step t y) = read t := fun y hy => h y (List.mem_cons_of_mem _ hy)
    rw [List.foldl_cons]
    by_cases hxl : x ∈ l
    · exact ih _ hxl hl
    · obtain rfl : x = y := (List.mem_cons.mp hm).resolve_right hxl
      rw [foldl_read_untouched step read l _ (fun y hy => hl y hy (fun e => hxl (e ▸ hy))), hx]

theorem State.reg_congr {s t : State} (h : t.regs = s.regs) (k : Nat) : t.reg k = s.reg k := by
  rw [State.reg, State.reg, h]

theorem State.rd_congr {s t : State} (h : t.regs = s.regs) (f : Fld) : t.rd f = s.rd f := by
  rw [State.rd, State.rd, State.reg_congr h]

theorem State.flag_congr {s t : State} {f : Fld} (h : t.rd f = s.rd f) : t.flag f = s.flag f := by
  rw [State.flag, State.flag, h]

theorem State.rd_lt (s : State) (f : Fld) : s.rd f < 2 ^ (f.hi + 1 - f.lo) := Nat.mod_lt _ (Nat.two_pow_pos _)

theorem State.rd_wr_of_lt (s : State) {f : Fld} {v : Nat} (h : f.hi < 64) (hl : f.lo ≤ f.hi) (hv : v < 2 ^ (f.hi + 1 - f.lo)) :
    (s.wr f v).rd f = v := by
  rw [State.rd_wr s f v h hl, Nat.mod_eq_of_lt hv]

theorem State.flag_wrB (s : State) {f : Fld} (b : Bool) (h : f.hi < 64) (hl : f.lo ≤ f.hi) : (s.wrB f b).flag f = b := by
  have hv : (if b then 1 else 0) < 2 ^ (f.hi + 1 - f.lo) :=
    lt_of_le_of_lt (by cases b <;> decide) (Nat.one_lt_two_pow (by omega))
  rw [State.flag, State.wrB, State.rd_wr_of_lt s h hl hv]
  cases b <;> rfl

theorem State.rd_wrB_apart (s : State) (f g : Fld) (b : Bool) (h : g.key ≠ f.key ∨ (g.hi < 64 ∧ (g.hi < f.lo ∨ f.hi < g.lo))) :
    (s.wrB f b).rd g = s.rd g := State.rd_wr_apart s f g _ h

theorem State.flag_wr_apart (s : State) (f g : Fld) (v : Nat) (h : g.key ≠ f.key ∨ (g.hi < 64 ∧ (g.hi < f.lo ∨ f.hi < g.lo))) :
    (s.wr f v).flag g = s.flag g := State.flag_congr (State.rd_wr_apart s f g v h)

theorem RegsApart.of_regs_eq {s t : State} (h : t.regs = s.regs) (ks : List Nat) : RegsApart s t ks :=
  fun k _ => State.reg_congr h k

theorem RegsApart.trans {s t u : State} {ks : List Nat} (h : RegsApart s t ks) (g : RegsApart t u ks) : RegsApart s u ks :=
  fun k hk => (g k hk).trans (h k hk)

theorem RegsApart.wr {s t : State} {ks : List Nat} (h : RegsApart s t ks) (f : Fld) (v : Nat) (hf : f.key ∈ ks) :
    RegsApart s (t.wr f v) ks :=
  h.trans (fun _ hk => State.reg_wr_ne t v (fun e => hk (e ▸ hf)))

theorem RegsApart.rd {s t : State} {ks : List Nat} (h : RegsApart s t ks) {f : Fld} (hf : f.key ∉ ks) : t.rd f = s.rd f := by
  rw [State.rd, State.rd, h f.key hf]

/-- A bit of a field's value. -/
theorem bit_eq_testBit (w i : Nat) : bit w i = w.testBit i := by
  simp only [bit, Nat.testBit_eq_decide_div_mod_eq, Nat.shiftRight_eq_div_pow]

end Sys2Proof.Machine
end

section
/-! PROOF. What a cold reset leaves (R8, R34, R293, R377, R479, R496, R509; log 5, 11). -/

namespace Sys2Proof.Machine

/-- Settles O3: the stores of the reset state are empty, and each register named reads its reset value. -/
theorem resetLeavesSpecValues : Obligations.ResetLeavesSpecValues := by
  have hid : State.reset.shown 0 Reg.DEVCTL_ID = 0x2416010001004408 := by decide +kernel
  have hgangs : ∀ g, g < 16 → State.reset.rd (Fld.MGMT_GANG_STATE g) = gangOut := by decide +kernel
  have hdev : State.reset.devState = devClearing := by decide +kernel
  have hhall : State.reset.rd Fld.HALL_ID_STATE = 0 := by decide +kernel
  have hseq : State.reset.rd Fld.SPOIL_STATUS_NEXT_SEQ = 1 := by decide +kernel
  have hlag : State.reset.rd Fld.HALL_LAG_POLICY_WARN_NS = 1000 := by decide +kernel
  exact ⟨rfl, hid, rfl, fun _ => rfl, fun _ => rfl, fun _ _ => rfl, fun _ => ⟨rfl, rfl⟩, hgangs, hdev, hhall, hseq, rfl,
    fun _ => rfl, hlag⟩

end Sys2Proof.Machine
end

section
/-! PROOF. A bench that fails: its Pool, its self-test and its mode, and the waits it gives up at the other benches (R113). -/

namespace Sys2Proof.Machine

/-- A run of changes of single benches is a change of benches alone. -/
theorem State.foldl_onBench_frame (f : Bench → Bench) (l : List Nat) :
    ∀ s : State, l.foldl (fun s k => s.onBench k f) s = { s with benches := (l.foldl (fun s k => s.onBench k f) s).benches } := by
  induction l with
  | nil => exact fun _ => rfl
  | cons k l ih => exact fun s => ih (s.onBench k f)

theorem State.foldl_onBench_regs (f : Bench → Bench) (l : List Nat) (s : State) : (l.foldl (fun s k => s.onBench k f) s).regs = s.regs :=
  foldl_read_untouched _ State.regs l s (fun _ _ _ => rfl)

/-- A part of a bench that the change does not touch is as before a run of changes, whichever benches it takes. -/
theorem State.bench_foldl_onBench_read {β : Type} (read : Bench → β) {f : Bench → Bench} (hf : ∀ b, read (f b) = read b) (l : List Nat)
    (s : State) (q : Nat) : read ((l.foldl (fun s k => s.onBench k f) s).bench q) = read (s.bench q) := by
  refine foldl_read_untouched _ (fun t : State => read (t.bench q)) l s (fun k _ t => ?_)
  by_cases hk : q = k
  · subst hk
    exact (congrArg read (t.bench_onBench q f)).trans (hf _)
  · exact congrArg read (t.bench_onBench_ne f hk)

theorem State.bench_foldl_onBench_mem {f : Bench → Bench} {β : Type} (read : Bench → β) {v : β} (hf : ∀ b, read (f b) = v) {l : List Nat}
    (s : State) {q : Nat} (hq : q ∈ l) : read ((l.foldl (fun s k => s.onBench k f) s).bench q) = v := by
  refine foldl_read_touched _ (fun t : State => read (t.bench q)) q v (fun t => ?_) l s hq (fun k _ hk t => ?_)
  · exact (congrArg read (t.bench_onBench q f)).trans (hf _)
  · exact congrArg read (t.bench_onBench_ne f hk.symm)

theorem State.abandonWaits_regs (s : State) (pb : Nat) : (s.abandonWaits pb).regs = s.regs :=
  State.foldl_onBench_regs _ (s.benches.map Prod.fst) s

/-- A part of a bench other than its held waits is as before when a bench's waits are given up. -/
theorem State.bench_abandonWaits_read {β : Type} (read : Bench → β) (hread : ∀ (b : Bench) h, read { b with held := h } = read b)
    (s : State) (pb q : Nat) : read ((s.abandonWaits pb).bench q) = read (s.bench q) :=
  State.bench_foldl_onBench_read read (fun b => hread b _) (s.benches.map Prod.fst) s q

/-- What a hardware failure makes of a bench with nothing in execution; n numbers what its Pool then holds. -/
def Bench.failedAt (n : Nat) (b : Bench) : Bench :=
  if b.active then { ({ b with pool := ⟨Mem.free n, []⟩ }.halt 7) with execs := [], sluice := [], passed := false }
  else { b with pool := ⟨Mem.free n, []⟩, passed := false }

theorem Bench.failedAt_pool (n : Nat) (b : Bench) : (b.failedAt n).pool = ⟨Mem.free n, []⟩ := by
  unfold Bench.failedAt Bench.halt
  split_ifs <;> rfl

theorem Bench.failedAt_passed (n : Nat) (b : Bench) : (b.failedAt n).passed = false := by
  unfold Bench.failedAt
  split_ifs <;> rfl

theorem Bench.failedAt_of_active (n : Nat) {b : Bench} (h : b.active = true) :
    (b.failedAt n).mode = .halted ∧ (b.failedAt n).haltCause = 7 := by
  have hpool : { b with pool := ⟨Mem.free n, []⟩ }.active = true := h
  simp [Bench.failedAt, Bench.halt, h, hpool]

theorem Bench.failedAt_mode_of_inactive (n : Nat) {b : Bench} (h : b.active = false) : (b.failedAt n).mode = b.mode := by
  simp [Bench.failedAt, h]

theorem State.benchHwFailure_of_execs_nil {s : State} {pb : Nat} (h : (s.bench pb).execs = []) :
    s.benchHwFailure pb = { (s.setBench pb ((s.bench pb).failedAt s.fresh)).abandonWaits pb with fresh := s.fresh + 2 } := by
  simp only [State.benchHwFailure, Bench.failedAt, h, List.foldl_nil, List.any_nil, Bool.false_eq_true, if_false]
  rfl

/-- R113 for a bench with nothing in execution. -/
theorem State.benchHwFailure_spec {s t : State} {pb : Nat} (h : (s.bench pb).execs = []) (ht : t = s.benchHwFailure pb) :
    (t.bench pb).pool = ⟨Mem.free s.fresh, []⟩ ∧ (t.bench pb).passed = false ∧ t.fresh = s.fresh + 2 ∧ t.regs = s.regs ∧
      (if (s.bench pb).active then (t.bench pb).mode = .halted ∧ (t.bench pb).haltCause = 7 else (t.bench pb).mode = (s.bench pb).mode) ∧
      ∀ q, q ≠ pb → (t.bench q).pool = (s.bench q).pool ∧ (t.bench q).mode = (s.bench q).mode := by
  obtain ⟨u, hu⟩ : ∃ u, u = (s.setBench pb ((s.bench pb).failedAt s.fresh)).abandonWaits pb := ⟨_, rfl⟩
  rw [State.benchHwFailure_of_execs_nil h, ← hu] at ht
  have hread {β : Type} (read : Bench → β) (hr : ∀ (b : Bench) l, read { b with held := l } = read b) (q : Nat) :
      read (t.bench q) = read ((s.setBench pb ((s.bench pb).failedAt s.fresh)).bench q) := by
    have hsame : t.bench q = u.bench q := by rw [ht]; rfl
    rw [hsame, hu, State.bench_abandonWaits_read read hr]
  have hpool := hread Bench.pool (fun _ _ => rfl)
  have hpassed := hread Bench.passed (fun _ _ => rfl)
  have hmode := hread Bench.mode (fun _ _ => rfl)
  have hcause := hread Bench.haltCause (fun _ _ => rfl)
  have hregs : u.regs = s.regs := hu ▸ State.abandonWaits_regs _ pb
  refine ⟨?_, ?_, by rw [ht], by rw [ht]; exact hregs, ?_, fun q hq => ?_⟩
  · rw [hpool, State.bench_setBench, Bench.failedAt_pool]
  · rw [hpassed, State.bench_setBench, Bench.failedAt_passed]
  · split_ifs with ha
    · rw [hmode, hcause, State.bench_setBench]
      exact Bench.failedAt_of_active s.fresh ha
    · rw [hmode, State.bench_setBench, Bench.failedAt_mode_of_inactive s.fresh (Bool.eq_false_of_not_eq_true ha)]
  · rw [hpool, hmode, State.bench_setBench_ne s _ hq]
    exact ⟨rfl, rfl⟩

end Sys2Proof.Machine
end

section
/-! PROOF. The service of gangs and benches: AVAIL and the gang's state by the self-tests, gating, and the spare's place in the bench map
(R17, R22, R25; log 69). -/

namespace Sys2Proof.Machine

/-- A bench with the outcome of its self-test. -/
def Bench.tested (pass : Bool) (b : Bench) : Bench := { b with passed := pass }

theorem testBit_sub_two_pow {a g : Nat} (hg : a.testBit g = true) (i : Nat) :
    (a - 2 ^ g).testBit i = (a.testBit i && decide (i ≠ g)) := by
  have hle := Nat.ge_two_pow_of_testBit hg
  have ha : a = 2 ^ g + (a - 2 ^ g) := by omega
  rcases lt_trichotomy i g with hi | rfl | hi
  · have h := Nat.testBit_two_pow_add_gt hi (a - 2 ^ g)
    rw [← ha] at h
    simp [h, hi.ne]
  · have h := Nat.testBit_two_pow_add_eq (a - 2 ^ i) i
    rw [← ha, hg] at h
    simpa using h.symm
  · obtain ⟨j, rfl⟩ := Nat.exists_eq_add_of_lt hi
    have hhigh (x : Nat) : x.testBit (g + j + 1) = (x / 2 ^ g / 2).testBit j := by
      rw [← Nat.testBit_add_one, Nat.testBit_div_two_pow, Nat.add_assoc, Nat.add_comm g]
    have hquot : (a - 2 ^ g) / 2 ^ g = a / 2 ^ g - 1 := by simpa using Nat.sub_mul_div a (2 ^ g) 1
    have hodd : a / 2 ^ g % 2 = 1 := by simpa [Nat.testBit_eq_decide_div_mod_eq] using hg
    have hhalf : (a / 2 ^ g - 1) / 2 = a / 2 ^ g / 2 := by generalize a / 2 ^ g = q at hodd ⊢; omega
    simp [hhigh, hquot, hhalf, hi.ne']

theorem bit_or_two_pow (a g i : Nat) : bit (a ||| 2 ^ g) i = (bit a i || decide (i = g)) := by
  simp [bit_eq_testBit, Nat.testBit_or, Nat.testBit_two_pow, eq_comm]

theorem bit_sub_if_bit (a g i : Nat) : bit (a - (if bit a g then 2 ^ g else 0)) i = (bit a i && decide (i ≠ g)) := by
  simp only [bit_eq_testBit]
  split_ifs with h
  · exact testBit_sub_two_pow h i
  · by_cases hi : i = g <;> simp_all

/-- The bench map lies apart from a set of registers. -/
abbrev MapApart (ks : List Nat) : Prop := ∀ l, l < 4 → Reg.DEVCTL_LEDGE_MAP l ∉ ks

theorem RegsApart.physOf {s t : State} {ks : List Nat} (h : RegsApart s t ks) (hk : MapApart ks) {m : Nat} (hm : m < 64) :
    t.physOf m = s.physOf m := by
  have hl : m / 16 < 4 := by omega
  have hsub := h.rd (f := Fld.DEVCTL_LEDGE_MAP_SUBST (m / 16)) (hk _ hl)
  have hslot := h.rd (f := Fld.DEVCTL_LEDGE_MAP_SUB_SLOT (m / 16)) (hk _ hl)
  simp only [State.physOf, State.flag_congr hsub, hslot]

theorem RegsApart.gangBenches {s t : State} {ks : List Nat} (h : RegsApart s t ks) (hk : MapApart ks) {g : Nat} (hg : g < 16) :
    t.gangBenches g = s.gangBenches g :=
  List.map_congr_left (fun i hi => h.physOf hk (by have := List.mem_range.mp hi; omega))

/-- What settling a gang can do: nothing, or AVAIL alone, or AVAIL and the gang's state. -/
theorem State.settleAvail_cases (s : State) (g : Nat) :
    s.settleAvail g = s ∨ ∃ v, s.settleAvail g = s.wr Fld.DEVCTL_GANG_AVAIL_AVAIL v ∨
      ∃ w, s.settleAvail g = (s.wr Fld.DEVCTL_GANG_AVAIL_AVAIL v).wr (Fld.MGMT_GANG_STATE g) w := by
  unfold State.settleAvail
  extract_lets ok a s1 st
  split_ifs
  · exact .inl rfl
  · exact .inr ⟨_, .inr ⟨_, rfl⟩⟩
  · exact .inr ⟨_, .inr ⟨_, rfl⟩⟩
  · exact .inr ⟨_, .inl rfl⟩

theorem State.settleAvail_frame (s : State) (g : Nat) : s.settleAvail g = { s with regs := (s.settleAvail g).regs } := by
  rcases s.settleAvail_cases g with h | ⟨v, h | ⟨w, h⟩⟩ <;> rw [h] <;> rfl

theorem State.bench_settleAvail (s : State) (g pb : Nat) : (s.settleAvail g).bench pb = s.bench pb := by
  rw [State.settleAvail_frame]
  rfl

/-- The registers that settling a gang may change. -/
abbrev availRegs (g : Nat) : List Nat := [Reg.DEVCTL_GANG_AVAIL, Reg.MGMT_GANG g]

theorem State.regsApart_settleAvail (s : State) (g : Nat) : RegsApart s (s.settleAvail g) (availRegs g) := by
  have havail (v : Nat) := (RegsApart.of_regs_eq (rfl : s.regs = s.regs) (availRegs g)).wr Fld.DEVCTL_GANG_AVAIL_AVAIL v
    List.mem_cons_self
  rcases s.settleAvail_cases g with h | ⟨v, h | ⟨w, h⟩⟩ <;> rw [h]
  · exact RegsApart.of_regs_eq rfl _
  · exact havail v
  · exact (havail v).wr _ w (List.mem_cons_of_mem _ List.mem_cons_self)

theorem mapApart_availRegs (g : Nat) : MapApart (availRegs g) := by
  intro l hl
  simp only [List.mem_cons, List.not_mem_nil, or_false, Reg.DEVCTL_LEDGE_MAP, Reg.DEVCTL_GANG_AVAIL, Reg.MGMT_GANG]
  omega

theorem mgmtGang_ne_gangAvail (g : Nat) : Reg.MGMT_GANG g ≠ Reg.DEVCTL_GANG_AVAIL := by
  simp only [Reg.MGMT_GANG, Reg.DEVCTL_GANG_AVAIL]
  omega

theorem State.rd_gated_settleAvail (s : State) (g : Nat) :
    (s.settleAvail g).rd Fld.DEVCTL_GANG_AVAIL_GATED = s.rd Fld.DEVCTL_GANG_AVAIL_GATED := by
  have havail (v : Nat) := s.rd_wr_apart Fld.DEVCTL_GANG_AVAIL_AVAIL Fld.DEVCTL_GANG_AVAIL_GATED v (by decide)
  rcases s.settleAvail_cases g with h | ⟨v, h | ⟨w, h⟩⟩ <;> rw [h]
  · exact havail v
  · rw [State.rd_wr_apart _ _ _ _ (.inl (mgmtGang_ne_gangAvail g).symm), havail]

theorem State.gangPasses_settleAvail (s : State) (g : Nat) {k : Nat} (hk : k < 16) : (s.settleAvail g).gangPasses k = s.gangPasses k := by
  simp only [State.gangPasses, (s.regsApart_settleAvail g).gangBenches (mapApart_availRegs g) hk, State.bench_settleAvail,
    State.rd_gated_settleAvail]

/-- AVAIL's bits once gang g is settled. -/
def State.availAfter (s : State) (g : Nat) : Nat :=
  if s.gangPasses g then s.rd Fld.DEVCTL_GANG_AVAIL_AVAIL ||| 2 ^ g
  else s.rd Fld.DEVCTL_GANG_AVAIL_AVAIL - (if bit (s.rd Fld.DEVCTL_GANG_AVAIL_AVAIL) g then 2 ^ g else 0)

theorem State.bit_availAfter (s : State) (g h : Nat) :
    bit (s.availAfter g) h = if h = g then s.gangPasses g else bit (s.rd Fld.DEVCTL_GANG_AVAIL_AVAIL) h := by
  unfold State.availAfter
  by_cases hg : h = g <;> cases s.gangPasses g <;> simp [bit_or_two_pow, bit_sub_if_bit, hg]

theorem State.availAfter_lt (s : State) {g : Nat} (hg : g < 16) : s.availAfter g < 2 ^ 16 := by
  have ha : s.rd Fld.DEVCTL_GANG_AVAIL_AVAIL < 2 ^ 16 := s.rd_lt _
  unfold State.availAfter
  split_ifs
  · exact Nat.or_lt_two_pow ha (Nat.pow_lt_pow_right (by decide) hg)
  · exact lt_of_le_of_lt (Nat.sub_le _ _) ha
  · exact lt_of_le_of_lt (Nat.sub_le _ _) ha

/-- A gang's state once it is settled (Table 15.3). -/
def State.gangStateAfter (s : State) (g : Nat) : Nat :=
  if s.gangPasses g = true ∧ s.rd (Fld.MGMT_GANG_STATE g) = gangOut then gangFree
  else if ¬ s.gangPasses g = true ∧ s.rd (Fld.MGMT_GANG_STATE g) = gangFree then gangOut
  else s.rd (Fld.MGMT_GANG_STATE g)

theorem State.gangStateAfter_lt (s : State) (g : Nat) : s.gangStateAfter g < 2 ^ 3 := by
  have hst : s.rd (Fld.MGMT_GANG_STATE g) < 2 ^ 3 := s.rd_lt _
  unfold State.gangStateAfter
  split_ifs
  · decide
  · decide
  · exact hst

section Settle

variable {s : State} (hdev : s.devState ≠ devClearing) (hrestr : s.rd Fld.MGMT_STATUS_RESTRICTED = 0)
include hdev hrestr

/-- Outside CLEARING and restricted mode. -/
theorem State.settleAvail_eq (g : Nat) :
    s.settleAvail g = s.wr Fld.DEVCTL_GANG_AVAIL_AVAIL (s.availAfter g) ∧ s.gangStateAfter g = s.rd (Fld.MGMT_GANG_STATE g) ∨
      s.settleAvail g = (s.wr Fld.DEVCTL_GANG_AVAIL_AVAIL (s.availAfter g)).wr (Fld.MGMT_GANG_STATE g) (s.gangStateAfter g) := by
  unfold State.settleAvail State.gangStateAfter
  extract_lets ok a s1 st
  have hst : st = s.rd (Fld.MGMT_GANG_STATE g) := s.rd_wr_apart _ _ _ (.inl (mgmtGang_ne_gangAvail g))
  rw [if_neg (by simp [hdev, hrestr]), ← hst]
  split_ifs
  · exact .inr rfl
  · exact .inr rfl
  · exact .inl ⟨rfl, rfl⟩

theorem State.bit_avail_settleAvail {g : Nat} (hg : g < 16) (h : Nat) : bit ((s.settleAvail g).rd Fld.DEVCTL_GANG_AVAIL_AVAIL) h =
    if h = g then s.gangPasses g else bit (s.rd Fld.DEVCTL_GANG_AVAIL_AVAIL) h := by
  have hav : (s.wr Fld.DEVCTL_GANG_AVAIL_AVAIL (s.availAfter g)).rd Fld.DEVCTL_GANG_AVAIL_AVAIL = s.availAfter g :=
    s.rd_wr_of_lt (by decide) (by decide) (s.availAfter_lt hg)
  rw [← State.bit_availAfter]
  rcases State.settleAvail_eq hdev hrestr g with ⟨ht, -⟩ | ht <;> rw [ht]
  · rw [hav]
  · rw [State.rd_wr_apart _ _ _ _ (.inl (mgmtGang_ne_gangAvail g).symm), hav]

theorem State.rd_gangState_settleAvail (g : Nat) : (s.settleAvail g).rd (Fld.MGMT_GANG_STATE g) = s.gangStateAfter g := by
  rcases State.settleAvail_eq hdev hrestr g with ⟨ht, hst⟩ | ht <;> rw [ht]
  · exact (s.rd_wr_apart _ _ _ (.inl (mgmtGang_ne_gangAvail g))).trans hst.symm
  · exact State.rd_wr_of_lt _ (by decide : 63 < 64) (by decide : 61 ≤ 63) (s.gangStateAfter_lt g)

end Settle

theorem State.rd_gangState_settleAvail_ne (s : State) {g h : Nat} (hne : h ≠ g) :
    (s.settleAvail g).rd (Fld.MGMT_GANG_STATE h) = s.rd (Fld.MGMT_GANG_STATE h) := by
  refine (s.regsApart_settleAvail g).rd ?_
  simp only [List.mem_cons, List.not_mem_nil, or_false, Fld.MGMT_GANG_STATE, Reg.DEVCTL_GANG_AVAIL, Reg.MGMT_GANG]
  omega

theorem State.gangOf_congr {s t : State} (h : t.regs = s.regs) (pb : Nat) : t.gangOf pb = s.gangOf pb := by
  simp only [State.gangOf, State.logicalOf, State.flag_congr (State.rd_congr h _), State.rd_congr h]

/-- The outcome of a self-test of a bench that is no spare (R17, R25). -/
theorem State.selfTestDone_of_gang {s : State} {pb g : Nat} (pass : Bool) (hg : s.gangOf pb = some g) (hspare : pb % 17 ≠ 16) :
    s.selfTestDone pb pass = (s.onBench pb (Bench.tested pass)).settleAvail g := by
  have hgang := State.gangOf_congr (s.onBench_regs pb (Bench.tested pass)) pb
  unfold State.selfTestDone
  extract_lets u l v
  have hv : v = s.onBench pb (Bench.tested pass) := if_neg hspare
  rw [hv, hgang, hg]

theorem State.selfTestDone_spec {s t : State} {pb g : Nat} {pass : Bool} (hg : s.gangOf pb = some g) (hspare : pb % 17 ≠ 16)
    (hg16 : g < 16) (hdev : s.devState ≠ devClearing) (hrestr : s.rd Fld.MGMT_STATUS_RESTRICTED = 0) (ht : t = s.selfTestDone pb pass) :
    t = { s with regs := t.regs, benches := t.benches } ∧ BenchesApart s t pb ∧
      t.bench pb = { s.bench pb with passed := pass } ∧ bit (t.rd Fld.DEVCTL_GANG_AVAIL_AVAIL) g = t.gangPasses g ∧
      (t.gangPasses g = false → s.rd (Fld.MGMT_GANG_STATE g) = gangFree → t.rd (Fld.MGMT_GANG_STATE g) = gangOut) ∧
      (t.gangPasses g = true → s.rd (Fld.MGMT_GANG_STATE g) = gangOut → t.rd (Fld.MGMT_GANG_STATE g) = gangFree) ∧
      (∀ h, h < 16 → h ≠ g → bit (t.rd Fld.DEVCTL_GANG_AVAIL_AVAIL) h = bit (s.rd Fld.DEVCTL_GANG_AVAIL_AVAIL) h ∧
        t.rd (Fld.MGMT_GANG_STATE h) = s.rd (Fld.MGMT_GANG_STATE h)) := by
  rw [State.selfTestDone_of_gang pass hg hspare] at ht
  set u := s.onBench pb (Bench.tested pass) with hu
  have hpasses : t.gangPasses g = u.gangPasses g := ht ▸ u.gangPasses_settleAvail g hg16
  have hstate : t.rd (Fld.MGMT_GANG_STATE g) = u.gangStateAfter g := ht ▸ State.rd_gangState_settleAvail (s := u) hdev hrestr g
  have havail (h : Nat) := ht ▸ State.bit_avail_settleAvail (s := u) hdev hrestr hg16 h
  refine ⟨?_, fun q hq => ?_, ?_, ?_, fun hp hs => ?_, fun hp hs => ?_, fun h _ hne => ⟨?_, ?_⟩⟩
  · rw [ht, u.settleAvail_frame]
    rfl
  · rw [ht, u.bench_settleAvail, hu, State.bench_onBench_ne s _ hq]
  · rw [ht, u.bench_settleAvail, hu, State.bench_onBench]
    rfl
  · rw [havail, if_pos rfl, hpasses]
  · rw [hstate, State.gangStateAfter, ← hpasses, hp, if_neg (by simp), if_pos ⟨by simp, hs⟩]
  · rw [hstate, State.gangStateAfter, ← hpasses, hp, if_pos ⟨rfl, hs⟩]
  · rw [havail, if_neg hne]
    rfl
  · rw [ht, u.rd_gangState_settleAvail_ne hne]
    rfl

/-- Benches with their self-test still to pass. -/
def State.untested (s : State) (pbs : List Nat) : State := pbs.foldl (fun s pb => s.onBench pb (Bench.tested false)) s

theorem State.untested_regs (s : State) (pbs : List Nat) : (s.untested pbs).regs = s.regs := State.foldl_onBench_regs _ pbs s

theorem State.untested_frame (s : State) (pbs : List Nat) : s.untested pbs = { s with benches := (s.untested pbs).benches } :=
  State.foldl_onBench_frame _ pbs s

theorem State.bench_untested_passed (s : State) {pbs : List Nat} {pb : Nat} (h : pb ∈ pbs) : ((s.untested pbs).bench pb).passed = false :=
  State.bench_foldl_onBench_mem (f := Bench.tested false) Bench.passed (fun _ => rfl) s h

/-- The GATED bit of a gang set. -/
def State.gated (s : State) (g : Nat) : State := s.wr Fld.DEVCTL_GANG_AVAIL_GATED (s.rd Fld.DEVCTL_GANG_AVAIL_GATED ||| 2 ^ g)

theorem State.regsApart_gated (s : State) (g : Nat) : RegsApart s (s.gated g) [Reg.DEVCTL_GANG_AVAIL] :=
  (RegsApart.of_regs_eq rfl _).wr _ _ List.mem_cons_self

theorem State.bit_gated (s : State) {g : Nat} (hg : g < 16) : bit ((s.gated g).rd Fld.DEVCTL_GANG_AVAIL_GATED) g = true := by
  have hlt : s.rd Fld.DEVCTL_GANG_AVAIL_GATED ||| 2 ^ g < 2 ^ 16 :=
    Nat.or_lt_two_pow (s.rd_lt _) (Nat.pow_lt_pow_right (by decide) hg)
  rw [State.gated, State.rd_wr_of_lt s (by decide) (by decide) hlt, bit_or_two_pow]
  simp

/-- Gating off an idle gang (R17). -/
theorem State.gateOff_of_idle {s : State} {g : Nat} (hidle : s.gangIdle g = true) (hgated : bit (s.rd Fld.DEVCTL_GANG_AVAIL_GATED) g = false)
    (hg : g < 16) : s.gateOff g = ((s.gated g).untested (s.gangBenches g)).settleAvail g := by
  rw [← (s.regsApart_gated g).gangBenches (by decide) hg]
  simp only [State.gateOff, hidle, hgated, Bool.not_true, Bool.or_self, Bool.false_eq_true, if_false]
  rfl

theorem State.gateOff_spec {s t : State} {g : Nat} (hidle : s.gangIdle g = true) (hgated : bit (s.rd Fld.DEVCTL_GANG_AVAIL_GATED) g = false)
    (hg : g < 16) (hdev : s.devState ≠ devClearing) (hrestr : s.rd Fld.MGMT_STATUS_RESTRICTED = 0) (ht : t = s.gateOff g) :
    t = { s with regs := t.regs, benches := t.benches } ∧ bit (t.rd Fld.DEVCTL_GANG_AVAIL_GATED) g = true ∧
      bit (t.rd Fld.DEVCTL_GANG_AVAIL_AVAIL) g = false ∧ ∀ pb, pb ∈ s.gangBenches g → (t.bench pb).passed = false := by
  rw [State.gateOff_of_idle hidle hgated hg] at ht
  obtain ⟨u, hu⟩ : ∃ u, u = (s.gated g).untested (s.gangBenches g) := ⟨_, rfl⟩
  rw [← hu] at ht
  have hregs : u.regs = (s.gated g).regs := hu ▸ State.untested_regs _ _
  have hframe : u = { s.gated g with benches := u.benches } := hu ▸ State.untested_frame _ _
  have hrd {f : Fld} (hf : f.key ∉ [Reg.DEVCTL_GANG_AVAIL]) : u.rd f = s.rd f :=
    (State.rd_congr hregs f).trans ((s.regsApart_gated g).rd hf)
  have hbit : bit (u.rd Fld.DEVCTL_GANG_AVAIL_GATED) g = true := State.rd_congr hregs _ ▸ s.bit_gated hg
  have hfails : u.gangPasses g = false := by simp [State.gangPasses, hbit]
  have hdevU : u.devState ≠ devClearing := by rwa [State.devState, hrd (by decide)]
  have hrestrU : u.rd Fld.MGMT_STATUS_RESTRICTED = 0 := by rwa [hrd (by decide)]
  refine ⟨?_, ?_, ?_, fun pb hpb => ?_⟩
  · rw [ht, u.settleAvail_frame, hframe]
    rfl
  · rw [ht, u.rd_gated_settleAvail, hbit]
  · rw [ht, State.bit_avail_settleAvail hdevU hrestrU hg, if_pos rfl, hfails]
  · rw [ht, u.bench_settleAvail, hu, State.bench_untested_passed _ hpb]

/-- A bench taken out of the map of its ledge, the spare in its place (R22). -/
def State.mapSpare (s : State) (l slot pb : Nat) : State :=
  ((s.wrB (Fld.DEVCTL_LEDGE_MAP_SUBST l) true).wr (Fld.DEVCTL_LEDGE_MAP_SUB_SLOT l) slot).wr (Fld.DEVCTL_LEDGE_MAP_RETIRED_PB l) pb

theorem State.mapSpare_spec (s : State) (l : Nat) {slot pb : Nat} (hslot : slot < 16) (hpb : pb < 128) :
    (s.mapSpare l slot pb).flag (Fld.DEVCTL_LEDGE_MAP_SUBST l) = true ∧ (s.mapSpare l slot pb).rd (Fld.DEVCTL_LEDGE_MAP_SUB_SLOT l) = slot ∧
      (s.mapSpare l slot pb).rd (Fld.DEVCTL_LEDGE_MAP_RETIRED_PB l) = pb ∧
      (s.mapSpare l slot pb).flag (Fld.DEVCTL_LEDGE_MAP_SPARE_OK l) = s.flag (Fld.DEVCTL_LEDGE_MAP_SPARE_OK l) := by
  have hsubst := s.flag_wrB (f := Fld.DEVCTL_LEDGE_MAP_SUBST l) true (by decide : 63 < 64) (by decide : 63 ≤ 63)
  have hsub := (s.wrB (Fld.DEVCTL_LEDGE_MAP_SUBST l) true).rd_wr_of_lt (f := Fld.DEVCTL_LEDGE_MAP_SUB_SLOT l)
    (by decide : 59 < 64) (by decide : 56 ≤ 59) hslot
  have hretired := State.rd_wr_of_lt ((s.wrB (Fld.DEVCTL_LEDGE_MAP_SUBST l) true).wr (Fld.DEVCTL_LEDGE_MAP_SUB_SLOT l) slot)
    (f := Fld.DEVCTL_LEDGE_MAP_RETIRED_PB l) (by decide : 54 < 64) (by decide : 48 ≤ 54) hpb
  have hok := s.rd_wrB_apart (Fld.DEVCTL_LEDGE_MAP_SUBST l) (Fld.DEVCTL_LEDGE_MAP_SPARE_OK l) true
    (.inr ⟨(by decide : 62 < 64), .inl (by decide : 62 < 63)⟩)
  simp (disch := simp [Fld.DEVCTL_LEDGE_MAP_SUBST, Fld.DEVCTL_LEDGE_MAP_SUB_SLOT, Fld.DEVCTL_LEDGE_MAP_RETIRED_PB,
    Fld.DEVCTL_LEDGE_MAP_SPARE_OK]) only [State.mapSpare, State.flag_wr_apart, State.rd_wr_apart, hsubst, hsub, hretired,
    State.flag_congr hok, and_self]

/-- The device as the spare of a ledge takes a bench's place, before the gang's AVAIL follows (R22). -/
def State.spared (s : State) (l slot d0 : Nat) (ledger : LedgerData) : State :=
  { (((s.onBench (17 * l + 16) (Bench.tested true)).wrB (Fld.DEVCTL_LEDGE_MAP_SPARE_OK l) false).mapSpare l slot
      (17 * l + slot)) with power := { s.power with ledger := ledger } }.log 0x18 2 l (16 * l + slot) 0 d0 0

theorem State.substitute_of_idle {s : State} {l slot : Nat} (hidle : s.gangIdle (4 * l + slot / 4) = true)
    (hsub : s.flag (Fld.DEVCTL_LEDGE_MAP_SUBST l) = false) :
    ∃ d0 ledger, s.substitute l slot true = (s.spared l slot d0 ledger).settleAvail (4 * l + slot / 4) := by
  simp only [State.substitute, hidle, hsub, Bool.not_true, Bool.false_eq_true, if_false, if_true]
  exact ⟨_, _, rfl⟩

section Spared

variable (s : State) {l slot : Nat} (d0 : Nat) (ledger : LedgerData)

theorem State.bench_spared (q : Nat) :
    (s.spared l slot d0 ledger).bench q = (s.onBench (17 * l + 16) (Bench.tested true)).bench q := by
  simp [State.bench, State.spared, State.mapSpare]

theorem State.spared_spoil : ∃ e : SpoilEvent, e.cls = 0x18 ∧ (s.spared l slot d0 ledger).spoil.inFlight = s.spoil.inFlight ++ [e] :=
  ⟨_, rfl, rfl⟩

theorem State.spared_map (hl : l < 4) (hslot : slot < 16) :
    (s.spared l slot d0 ledger).physOf (16 * l + slot) = 17 * l + 16 ∧
      (s.spared l slot d0 ledger).rd (Fld.DEVCTL_LEDGE_MAP_RETIRED_PB l) = 17 * l + slot ∧
      (s.spared l slot d0 ledger).flag (Fld.DEVCTL_LEDGE_MAP_SPARE_OK l) = false := by
  obtain ⟨v, hv⟩ : ∃ v, v = (s.onBench (17 * l + 16) (Bench.tested true)).wrB (Fld.DEVCTL_LEDGE_MAP_SPARE_OK l) false :=
    ⟨_, rfl⟩
  have hok : v.flag (Fld.DEVCTL_LEDGE_MAP_SPARE_OK l) = false :=
    hv ▸ State.flag_wrB _ false (by decide : 62 < 64) (by decide : 62 ≤ 62)
  have hregs : (s.spared l slot d0 ledger).regs = (v.mapSpare l slot (17 * l + slot)).regs := by rw [hv]; rfl
  obtain ⟨hsubst, hsub, hretired, hkept⟩ := v.mapSpare_spec l hslot (pb := 17 * l + slot) (by omega)
  have hdiv : (16 * l + slot) / 16 = l := by omega
  have hmod : (16 * l + slot) % 16 = slot := by omega
  refine ⟨?_, (State.rd_congr hregs _).trans hretired, ?_⟩
  · rw [State.physOf, hdiv, hmod, State.flag_congr (State.rd_congr hregs _), State.rd_congr hregs, hsubst, hsub, if_pos ⟨rfl, rfl⟩]
  · rw [State.flag_congr (State.rd_congr hregs _), hkept, hok]

end Spared

theorem State.spared_spec {s t : State} {l slot g d0 : Nat} {ledger : LedgerData} (hl : l < 4) (hslot : slot < 16)
    (ht : t = (s.spared l slot d0 ledger).settleAvail g) :
    t.physOf (16 * l + slot) = 17 * l + 16 ∧ (t.bench (17 * l + 16)).passed = true ∧
      t.rd (Fld.DEVCTL_LEDGE_MAP_RETIRED_PB l) = 17 * l + slot ∧ t.flag (Fld.DEVCTL_LEDGE_MAP_SPARE_OK l) = false ∧
      t.spoil.inFlight.length = s.spoil.inFlight.length + 1 ∧ (t.spoil.inFlight.getLast?).map (·.cls) = some 0x18 ∧
      BenchesApart s t (17 * l + 16) := by
  obtain ⟨hphys, hretired, hok⟩ := s.spared_map d0 ledger hl hslot
  obtain ⟨e, hcls, hspoil⟩ := s.spared_spoil (l := l) (slot := slot) d0 ledger
  have hbench := s.bench_spared (l := l) (slot := slot) d0 ledger
  generalize s.spared l slot d0 ledger = u at *
  have hapart : RegsApart u t (availRegs g) := ht ▸ u.regsApart_settleAvail g
  have hmap : Reg.DEVCTL_LEDGE_MAP l ∉ availRegs g := mapApart_availRegs g l hl
  have hbenchT (q : Nat) : t.bench q = u.bench q := ht ▸ u.bench_settleAvail g q
  have hspoilT : t.spoil = u.spoil := by rw [ht, u.settleAvail_frame]
  refine ⟨?_, ?_, ?_, ?_, ?_, ?_, fun q hq => ?_⟩
  · rw [hapart.physOf (mapApart_availRegs g) (by omega), hphys]
  · rw [hbenchT, hbench, State.bench_onBench]
    rfl
  · rw [hapart.rd hmap, hretired]
  · rw [State.flag_congr (hapart.rd hmap), hok]
  · rw [hspoilT, hspoil, List.length_append, List.length_singleton]
  · rw [hspoilT, hspoil, List.getLast?_concat, Option.map_some, hcls]
  · rw [hbenchT, hbench, State.bench_onBench_ne _ _ hq]

end Sys2Proof.Machine
end

section
/-! PROOF. Failure, self-test, gating and sparing of benches, put together (R17, R22, R25, R113; log 69). -/

namespace Sys2Proof.Machine

/-- Settles O23: each event of a running device is the change of its benches, its map and its gang that the lemmas above describe. -/
theorem benchServiceFollowsItsTests : Obligations.BenchServiceFollowsItsTests := by
  refine ⟨fun s pb hrun hexecs => ?_, fun s pb pass g hrun hgang hspare hg hdev hrestr => ?_,
    fun s g hrun hidle hgated hdev hrestr => ?_, fun s g hrun hgated => ?_, fun s l slot hrun hidle hsub => ?_⟩
  · exact ⟨_, next_live_of_running hrun _, State.benchHwFailure_spec hexecs rfl⟩
  · exact ⟨_, next_live_of_running hrun _, State.selfTestDone_spec hgang hspare hg hdev hrestr rfl⟩
  · exact ⟨_, next_live_of_running hrun _, State.gateOff_spec hidle hgated g.isLt hdev hrestr rfl⟩
  · refine (next_live_of_running hrun _).trans (congrArg _ ?_)
    simp only [State.gateOn, hgated, if_true]
  · obtain ⟨d0, ledger, hs⟩ := State.substitute_of_idle hidle hsub
    exact ⟨_, next_live_of_running hrun _, State.spared_spec l.isLt slot.isLt hs⟩

end Sys2Proof.Machine
end

section
/-! PROOF. TARGET is the deepest of the posted requests (R472), and what bringing it in step leaves. -/

namespace Sys2Proof.Machine

/-- What settling TARGET can do: nothing, when it is the deepest request already, or its write and the time of the request. -/
theorem State.settleTarget_cases (s : State) :
    s.settleTarget = s ∧ s.rd Fld.CLKPWR_THROTTLE_TARGET = s.requests.foldl max 0 ∨
      s.settleTarget = { s.wr Fld.CLKPWR_THROTTLE_TARGET (s.requests.foldl max 0) with
        power := { s.power with requestTime := s.power.time } } := by
  unfold State.settleTarget
  extract_lets l t
  split_ifs with h
  · exact .inl ⟨rfl, h.symm⟩
  · exact .inr rfl

theorem State.settleTarget_frame (s : State) :
    s.settleTarget = { s with regs := s.settleTarget.regs, power := s.settleTarget.power } := by
  rcases s.settleTarget_cases with ⟨h, -⟩ | h
  · rw [h]
  · rw [h]
    rfl

theorem State.settleTarget_spoil (s : State) : s.settleTarget.spoil = s.spoil := by rw [State.settleTarget_frame]

theorem State.settleTarget_temps (s : State) : s.settleTarget.power.temps = s.power.temps := by
  rcases s.settleTarget_cases with ⟨h, -⟩ | h <;> rw [h]

theorem State.regsApart_settleTarget (s : State) : RegsApart s s.settleTarget [Reg.CLKPWR_THROTTLE] := by
  rcases s.settleTarget_cases with ⟨h, -⟩ | h <;> rw [h]
  · exact RegsApart.of_regs_eq rfl _
  · exact (RegsApart.of_regs_eq (rfl : s.regs = s.regs) _).wr Fld.CLKPWR_THROTTLE_TARGET _ List.mem_cons_self

theorem State.rd_settleTarget (s : State) {f : Fld} (hf : f.key ≠ Fld.CLKPWR_THROTTLE_TARGET.key ∨
    (f.hi < 64 ∧ (f.hi < Fld.CLKPWR_THROTTLE_TARGET.lo ∨ Fld.CLKPWR_THROTTLE_TARGET.hi < f.lo))) : s.settleTarget.rd f = s.rd f := by
  rcases s.settleTarget_cases with ⟨h, -⟩ | h <;> rw [h]
  exact s.rd_wr_apart _ f _ hf

theorem State.requests_settleTarget (s : State) : s.settleTarget.requests = s.requests := by
  simp (disch := decide) only [State.requests, State.rd_settleTarget]

theorem State.deepest_lt (s : State) : s.requests.foldl max 0 < 4 := by
  refine List.foldlRecOn s.requests max (motive := (· < 4)) (by decide) (fun m hm r hr => max_lt hm ?_)
  simp only [State.requests, List.mem_cons, List.not_mem_nil, or_false] at hr
  rcases hr with rfl | rfl | rfl | rfl | rfl | rfl | rfl <;> exact s.rd_lt _

theorem State.rd_target_settleTarget (s : State) :
    s.settleTarget.rd Fld.CLKPWR_THROTTLE_TARGET = s.settleTarget.requests.foldl max 0 := by
  rw [State.requests_settleTarget]
  rcases s.settleTarget_cases with ⟨h, htarget⟩ | h <;> rw [h]
  · exact htarget
  · exact s.rd_wr_of_lt (by decide) (by decide) s.deepest_lt

/-- The clock unit's own request of the deepest step is the deepest of all. -/
theorem State.deepest_of_hw {s : State} (h : s.rd Fld.CLKPWR_THROTTLE_HW = 3) : s.requests.foldl max 0 = 3 := by
  have hlt := s.deepest_lt
  have hle : 3 ≤ s.requests.foldl max 0 := by
    simp only [State.requests, h, List.foldl_cons, le_max_iff, le_refl, or_true, true_or, List.foldl_nil]
  omega

end Sys2Proof.Machine
end

section
/-! PROOF. Die temperatures: the hottest sensor, and the clock unit's request at THW and 3 °C below it (R471, R491). -/

namespace Sys2Proof.Machine

theorem hottestOf_concat_of_none {temps : List (BitVec 16)} {l : List Nat} {i : Nat} {v : BitVec 16} (h : hottestOf temps l = none)
    (hv : temps[i]? = some v) : hottestOf temps (l ++ [i]) = some (dieTemp v, i) := by
  unfold hottestOf at h ⊢
  simp only [List.foldl_append, List.foldl_cons, List.foldl_nil, h, hv]

theorem hottestOf_concat_of_some {temps : List (BitVec 16)} {l : List Nat} {i : Nat} {v : BitVec 16} {x : Int × Nat}
    (h : hottestOf temps l = some x) (hv : temps[i]? = some v) :
    hottestOf temps (l ++ [i]) = if x.1 < dieTemp v then some (dieTemp v, i) else some x := by
  unfold hottestOf at h ⊢
  simp only [List.foldl_append, List.foldl_cons, List.foldl_nil, h, hv]

/-- The hottest of the first sensors: one of them reads as it says, and none reads higher. -/
theorem hottestOf_range_succ (temps : List (BitVec 16)) (n : Nat) (hn : n < temps.length) :
    ∃ x, hottestOf temps (List.range (n + 1)) = some x ∧ (∀ v ∈ temps.take (n + 1), dieTemp v ≤ x.1) ∧
      ∃ v ∈ temps.take (n + 1), dieTemp v = x.1 := by
  have hv (m : Nat) (hm : m < temps.length) : temps[m]? = some temps[m] := List.getElem?_eq_getElem hm
  induction n with
  | zero =>
    refine ⟨_, hottestOf_concat_of_none (l := []) rfl (hv 0 hn), ?_⟩
    simp [List.take_add_one, hv 0 hn]
  | succ n ih =>
    obtain ⟨x, hx, hall, v, hmem, hxv⟩ := ih (by omega)
    rw [List.range_succ, hottestOf_concat_of_some hx (hv _ hn)]
    rw [List.take_add_one, hv _ hn]
    split_ifs with hlt
    · refine ⟨_, rfl, fun w hw => ?_, _, List.mem_append_right _ (by simp), rfl⟩
      rcases List.mem_append.mp hw with hw | hw
      · exact (hall w hw).trans hlt.le
      · rw [show w = temps[n + 1] by simpa using hw]
    · refine ⟨x, rfl, fun w hw => ?_, v, List.mem_append_left _ hmem, hxv⟩
      rcases List.mem_append.mp hw with hw | hw
      · exact hall w hw
      · rw [show w = temps[n + 1] by simpa using hw]
        exact not_lt.mp hlt

theorem State.extreme_frame (s : State) (f : Fld) (better : Nat → Nat → Bool) (v : Nat) :
    s.extreme f better v = { s with rc := (s.extreme f better v).rc } := by
  unfold State.extreme
  extract_lets seen u
  simp only [u]
  split_ifs <;> rfl

/-- The samples of the die taken in: each sensor's highest and latest reading. -/
def State.sampled (s : State) (temps : List (BitVec 16)) : State :=
  let s := temps.zipIdx.foldl (fun s x => s.extreme (sensorMax x.2) (fun old new => hotter new old) x.1.toNat) s
  { s with power := { s.power with temps := temps } }

theorem State.sampled_regs (s : State) (temps : List (BitVec 16)) : (s.sampled temps).regs = s.regs :=
  foldl_read_untouched _ State.regs temps.zipIdx s (fun _ _ t => by rw [State.extreme_frame])

theorem State.sampled_spoil (s : State) (temps : List (BitVec 16)) : (s.sampled temps).spoil = s.spoil :=
  foldl_read_untouched _ State.spoil temps.zipIdx s (fun _ _ t => by rw [State.extreme_frame])

theorem State.logAt_last_cls (s : State) (c k i d0 d1 : Nat) :
    ((s.logAt c k i d0 d1).spoil.inFlight.getLast?).map (·.cls) = some c := by
  simp [State.logAt, State.log]

/-- The clock unit's request from the hottest sensor. -/
def State.hwRequest (s : State) (h : Int × Nat) : State :=
  if 8 * (s.rd Fld.CLKPWR_THERM_THW : Int) ≤ h.1 ∧ s.rd Fld.CLKPWR_THROTTLE_HW ≠ 3 then
    (s.wr Fld.CLKPWR_THROTTLE_HW 3).logAt 0x16 0 0 (3 * 2 ^ 60 + h.2 * 2 ^ 48 + celsius h.1 % 256 * 2 ^ 40 + 3 * 2 ^ 32) 0
  else if h.1 ≤ 8 * (s.rd Fld.CLKPWR_THERM_THW : Int) - 24 then s.wr Fld.CLKPWR_THROTTLE_HW 0 else s

theorem State.hwRequest_temps (s : State) (h : Int × Nat) : (s.hwRequest h).power.temps = s.power.temps := by
  unfold State.hwRequest
  split_ifs <;> rfl

theorem State.hwRequest_of_hot {s : State} {h : Int × Nat} (hot : 8 * (s.rd Fld.CLKPWR_THERM_THW : Int) ≤ h.1) :
    (s.hwRequest h).rd Fld.CLKPWR_THROTTLE_HW = 3 ∧
      (s.rd Fld.CLKPWR_THROTTLE_HW ≠ 3 → ((s.hwRequest h).spoil.inFlight.getLast?).map (·.cls) = some 0x16) := by
  unfold State.hwRequest
  by_cases hreq : s.rd Fld.CLKPWR_THROTTLE_HW = 3
  · rw [if_neg (fun hn => hn.2 hreq), if_neg (by omega)]
    exact ⟨hreq, fun hn => absurd hreq hn⟩
  · rw [if_pos ⟨hot, hreq⟩]
    exact ⟨s.rd_wr_of_lt (by decide) (by decide) (by decide), fun _ => State.logAt_last_cls _ _ _ _ _ _⟩

theorem State.hwRequest_of_cool {s : State} {h : Int × Nat} (cool : h.1 ≤ 8 * (s.rd Fld.CLKPWR_THERM_THW : Int) - 24) :
    (s.hwRequest h).rd Fld.CLKPWR_THROTTLE_HW = 0 ∧ (s.hwRequest h).spoil = s.spoil := by
  unfold State.hwRequest
  rw [if_neg (by omega), if_pos cool]
  exact ⟨s.rd_wr_of_lt (by decide) (by decide) (by decide), rfl⟩

theorem State.dieTempSample_eq (s : State) {l : List (BitVec 16)} {h : Int × Nat} (hl : l.length = 80)
    (hh : hottestOf l (List.range 80) = some h) : s.dieTempSample l = ((s.sampled l).hwRequest h).settleTarget := by
  have hsame : (List.range 80).map (fun i => l.getD i 0) = l :=
    List.ext_getElem (by simp [hl]) (fun i _ hi => by simp [hi])
  unfold State.dieTempSample
  rw [hsame]
  extract_lets temps u p v
  have hv : v = s.sampled l := rfl
  clear_value v
  subst hv
  rw [hh]
  rfl

theorem State.dieTempSample_spec {s t : State} {l : List (BitVec 16)} (hl : l.length = 80) (ht : t = s.dieTempSample l) :
    t.power.temps = l ∧ t.rd Fld.CLKPWR_THROTTLE_TARGET = t.requests.foldl max 0 ∧
      ((∃ v ∈ l, 8 * (s.rd Fld.CLKPWR_THERM_THW : Int) ≤ dieTemp v) → t.rd Fld.CLKPWR_THROTTLE_HW = 3 ∧
        t.rd Fld.CLKPWR_THROTTLE_TARGET = 3 ∧
        (s.rd Fld.CLKPWR_THROTTLE_HW ≠ 3 → (t.spoil.inFlight.getLast?).map (·.cls) = some 0x16)) ∧
      ((∀ v ∈ l, dieTemp v ≤ 8 * (s.rd Fld.CLKPWR_THERM_THW : Int) - 24) → t.rd Fld.CLKPWR_THROTTLE_HW = 0 ∧ t.spoil = s.spoil) := by
  obtain ⟨h, hh, hall, v, hv, hvh⟩ := hottestOf_range_succ l 79 (by omega)
  rw [List.take_of_length_le hl.le] at hall hv
  rw [s.dieTempSample_eq hl hh] at ht
  have hrd (f : Fld) : (s.sampled l).rd f = s.rd f := State.rd_congr (s.sampled_regs l) f
  have htarget : t.rd Fld.CLKPWR_THROTTLE_TARGET = t.requests.foldl max 0 := ht ▸ State.rd_target_settleTarget _
  have hhw : t.rd Fld.CLKPWR_THROTTLE_HW = ((s.sampled l).hwRequest h).rd Fld.CLKPWR_THROTTLE_HW :=
    ht ▸ State.rd_settleTarget _ (by decide)
  have hspoil : t.spoil = ((s.sampled l).hwRequest h).spoil := ht ▸ State.settleTarget_spoil _
  refine ⟨?_, htarget, fun ⟨w, hw, hot⟩ => ?_, fun cool => ?_⟩
  · rw [ht, State.settleTarget_temps, State.hwRequest_temps]
    rfl
  · obtain ⟨hreq, hlog⟩ := State.hwRequest_of_hot (s := s.sampled l) (h := h) (hrd _ ▸ hot.trans (hall w hw))
    rw [htarget, hhw, hspoil]
    exact ⟨hreq, State.deepest_of_hw (hhw.trans hreq), fun hne => hlog (hrd _ ▸ hne)⟩
  · obtain ⟨hreq, hkept⟩ := State.hwRequest_of_cool (s := s.sampled l) (h := h) (hrd _ ▸ hvh ▸ cool v hv)
    rw [hhw, hspoil]
    exact ⟨hreq, hkept.trans (s.sampled_spoil l)⟩

end Sys2Proof.Machine
end

section
/-! PROOF. Samples of rails, currents and reach powers (R488-R490). -/

namespace Sys2Proof.Machine

/-- Only registers and RC counts differ. -/
def GaugeOnly (s t : State) : Prop := t = { s with regs := t.regs, rc := t.rc }

theorem GaugeOnly.refl (s : State) : GaugeOnly s s := rfl

theorem GaugeOnly.trans {s t u : State} (h : GaugeOnly s t) (g : GaugeOnly t u) : GaugeOnly s u := by
  unfold GaugeOnly at h g
  rw [h] at g
  exact g

theorem GaugeOnly.setReg {s t : State} (h : GaugeOnly s t) (k : Nat) (v : Reg64) : GaugeOnly s (t.setReg k v) := h.trans rfl

theorem GaugeOnly.wr {s t : State} (h : GaugeOnly s t) (f : Fld) (v : Nat) : GaugeOnly s (t.wr f v) := h.setReg f.key _

theorem GaugeOnly.extreme {s t : State} (h : GaugeOnly s t) (f : Fld) (better : Nat → Nat → Bool) (v : Nat) :
    GaugeOnly s (t.extreme f better v) := by
  refine h.trans ?_
  rw [GaugeOnly, State.extreme_frame]

theorem State.extreme_regs (s : State) (f : Fld) (better : Nat → Nat → Bool) (v : Nat) : (s.extreme f better v).regs = s.regs := by
  rw [State.extreme_frame]

/-- One sense point sampled. -/
def State.railStep (rails : List (BitVec 16)) (s : State) (r : Nat) : State :=
  let v := (rails.getD r 0).toNat
  ((s.wr (Fld.GAUGE_RAIL_LATEST r) v).extreme (Fld.GAUGE_RAIL_MAX r) (fun old new => decide (old < new)) v).extreme
    (Fld.GAUGE_RAIL_MIN r) (fun old new => decide (new < old)) v

/-- One core current sampled. -/
def State.coreStep (currents : List (BitVec 16)) (s : State) (d : Nat) : State :=
  let v := (currents.getD d 0).toNat
  (s.wr (Fld.GAUGE_CORE_I_LATEST d) v).extreme (Fld.GAUGE_CORE_I_MAX d) (fun old new => decide (old < new)) v

/-- One reach's power sampled, and its hottest sensor. -/
def State.reachStep (powers : List (BitVec 16)) (s : State) (k : Nat) : State :=
  let v := (powers.getD k 0).toNat
  let s := (s.wr (Fld.GAUGE_REACH_POWER k) v).extreme (Fld.GAUGE_REACH_POWER_MAX k) (fun old new => decide (old < new)) v
  match hottestOf s.power.temps (s.reachSensors k) with
  | none => s
  | some h => (s.wr (Fld.GAUGE_REACH_HOT_TEMP k) (celsius h.1)).wr (Fld.GAUGE_REACH_HOT_SENSOR k) h.2

/-- All the gauges of a RAIL_SAMPLE, before its time stamp. -/
def State.gauged (s : State) (rails currents powers : List (BitVec 16)) : State :=
  [0, 1, 2, 3].foldl (State.reachStep powers) ([0, 1].foldl (State.coreStep currents) ((List.range 9).foldl (State.railStep rails) s))

theorem State.railSample_eq (s : State) (rails currents powers : List (BitVec 16)) : s.railSample rails currents powers =
    (s.gauged rails currents powers).setReg Reg.GAUGE_STAMP (BitVec.ofNat 64 (s.gauged rails currents powers).power.time) := by
  unfold State.railSample State.gauged
  extract_lets u v w
  have hw : w = [0, 1, 2, 3].foldl (State.reachStep powers) v := rfl
  have hv : v = [0, 1].foldl (State.coreStep currents) u := rfl
  have hu : u = (List.range 9).foldl (State.railStep rails) s := rfl
  rw [← hu, ← hv, ← hw]

/-- A sample put into its field: nothing but registers and counts changes, and of the registers only the field's own. -/
structure Sampled (s t : State) (f : Fld) (v : Nat) : Prop where
  gauge : GaugeOnly s t
  apart : RegsApart s t [f.key]
  reads : t.rd f = v

/-- Each step of a run of samples puts its sample into its field. -/
def SampleStep (step : State → Nat → State) (F : Nat → Fld) (V : Nat → Nat) : Prop := ∀ s i, Sampled s (step s i) (F i) (V i)

theorem railStep_sampleStep (rails : List (BitVec 16)) :
    SampleStep (State.railStep rails) Fld.GAUGE_RAIL_LATEST (fun r => (rails.getD r 0).toNat) := by
  intro s r
  have hregs : (State.railStep rails s r).regs = (s.wr (Fld.GAUGE_RAIL_LATEST r) (rails.getD r 0).toNat).regs := by
    simp only [State.railStep, State.extreme_regs]
  refine ⟨?_, ?_, ?_⟩
  · unfold State.railStep
    exact (((GaugeOnly.refl s).wr _ _).extreme _ _ _).extreme _ _ _
  · exact ((RegsApart.of_regs_eq rfl _).wr _ _ List.mem_cons_self).trans (RegsApart.of_regs_eq hregs _)
  · rw [State.rd_congr hregs, State.rd_wr_of_lt s (by decide : 15 < 64) (by decide : 0 ≤ 15) (rails.getD r 0).isLt]

theorem coreStep_sampleStep (currents : List (BitVec 16)) :
    SampleStep (State.coreStep currents) Fld.GAUGE_CORE_I_LATEST (fun d => (currents.getD d 0).toNat) := by
  intro s d
  have hregs : (State.coreStep currents s d).regs = (s.wr (Fld.GAUGE_CORE_I_LATEST d) (currents.getD d 0).toNat).regs := by
    simp only [State.coreStep, State.extreme_regs]
  refine ⟨?_, ?_, ?_⟩
  · unfold State.coreStep
    exact ((GaugeOnly.refl s).wr _ _).extreme _ _ _
  · exact ((RegsApart.of_regs_eq rfl _).wr _ _ List.mem_cons_self).trans (RegsApart.of_regs_eq hregs _)
  · rw [State.rd_congr hregs, State.rd_wr_of_lt s (by decide : 15 < 64) (by decide : 0 ≤ 15) (currents.getD d 0).isLt]

theorem reachStep_sampleStep (powers : List (BitVec 16)) :
    SampleStep (State.reachStep powers) Fld.GAUGE_REACH_POWER (fun k => (powers.getD k 0).toNat) := by
  intro s k
  unfold State.reachStep
  extract_lets v u
  have hgauge : GaugeOnly s u := ((GaugeOnly.refl s).wr _ _).extreme _ _ _
  have hregs : u.regs = (s.wr (Fld.GAUGE_REACH_POWER k) v).regs := State.extreme_regs _ _ _ _
  have hapart : RegsApart s u [Reg.GAUGE_REACH k] :=
    ((RegsApart.of_regs_eq rfl _).wr (Fld.GAUGE_REACH_POWER k) v List.mem_cons_self).trans (RegsApart.of_regs_eq hregs _)
  have hpower : u.rd (Fld.GAUGE_REACH_POWER k) = v := by
    rw [State.rd_congr hregs, State.rd_wr_of_lt s (by decide : 63 < 64) (by decide : 48 ≤ 63) (powers.getD k 0).isLt]
  clear_value u
  split
  · exact ⟨hgauge, hapart, hpower⟩
  · refine ⟨(hgauge.wr _ _).wr _ _, (hapart.wr _ _ List.mem_cons_self).wr _ _ List.mem_cons_self, ?_⟩
    rw [State.rd_wr_apart _ _ _ _ (.inr ⟨(by decide : 63 < 64), .inr (by decide : 39 < 48)⟩),
      State.rd_wr_apart _ _ _ _ (.inr ⟨(by decide : 63 < 64), .inr (by decide : 47 < 48)⟩), hpower]

/-- A run of sample steps over different registers puts every sample into its field. -/
theorem SampleStep.foldl {step : State → Nat → State} {F : Nat → Fld} {V : Nat → Nat} (h : SampleStep step F V) (l : List Nat)
    (hF : ∀ i j, i ≠ j → (F i).key ≠ (F j).key) (s : State) :
    GaugeOnly s (l.foldl step s) ∧ RegsApart s (l.foldl step s) (l.map (fun i => (F i).key)) ∧
      ∀ i ∈ l, (l.foldl step s).rd (F i) = V i := by
  refine ⟨?_, fun k hk => ?_, fun i hi => ?_⟩
  · exact List.foldlRecOn l step (motive := GaugeOnly s) (GaugeOnly.refl s) (fun t ht i _ => ht.trans (h t i).gauge)
  · refine foldl_read_untouched step (fun t : State => t.reg k) l s (fun i hi t => (h t i).apart k ?_)
    exact fun hik => hk (List.mem_map.mpr ⟨i, hi, (List.mem_singleton.mp hik).symm⟩)
  · refine foldl_read_touched step (fun t : State => t.rd (F i)) i (V i) (fun t => (h t i).reads) l s hi (fun j _ hj t => ?_)
    exact (h t j).apart.rd (fun hm => hF i j hj.symm (List.mem_singleton.mp hm))

/-- The registers of the rails, of the core currents and of the reaches, and the time stamp, are all different. -/
theorem railLatest_place {r : Nat} (hr : r < 9) : (Fld.GAUGE_RAIL_LATEST r).key ≠ Reg.GAUGE_STAMP ∧
    (Fld.GAUGE_RAIL_LATEST r).key ∉ [0, 1].map (fun d => (Fld.GAUGE_CORE_I_LATEST d).key) ∧
    (Fld.GAUGE_RAIL_LATEST r).key ∉ [0, 1, 2, 3].map (fun k => (Fld.GAUGE_REACH_POWER k).key) := by
  revert r
  decide

theorem coreLatest_place {d : Nat} (hd : d < 2) : (Fld.GAUGE_CORE_I_LATEST d).key ≠ Reg.GAUGE_STAMP ∧
    (Fld.GAUGE_CORE_I_LATEST d).key ∉ [0, 1, 2, 3].map (fun k => (Fld.GAUGE_REACH_POWER k).key) := by
  revert d
  decide

theorem reachPower_place {k : Nat} (hk : k < 4) : (Fld.GAUGE_REACH_POWER k).key ≠ Reg.GAUGE_STAMP := by
  revert k
  decide

theorem State.railSample_spec {s t : State} {rails currents powers : List (BitVec 16)} (ht : t = s.railSample rails currents powers) :
    t = { s with regs := t.regs, rc := t.rc } ∧
      (∀ r, r < 9 → t.rd (Fld.GAUGE_RAIL_LATEST r) = (rails.getD r 0).toNat) ∧
      (∀ d, d < 2 → t.rd (Fld.GAUGE_CORE_I_LATEST d) = (currents.getD d 0).toNat) ∧
      (∀ k, k < 4 → t.rd (Fld.GAUGE_REACH_POWER k) = (powers.getD k 0).toNat) ∧ t.reg Reg.GAUGE_STAMP = BitVec.ofNat 64 s.power.time := by
  obtain ⟨gr, -, hrail⟩ := (railStep_sampleStep rails).foldl (List.range 9)
    (fun i j hij => by simp only [Fld.GAUGE_RAIL_LATEST, Reg.GAUGE_RAIL]; omega) s
  obtain ⟨gc, ac, hcore⟩ := (coreStep_sampleStep currents).foldl [0, 1]
    (fun i j hij => by simp only [Fld.GAUGE_CORE_I_LATEST, Reg.GAUGE_CORE_I]; omega) ((List.range 9).foldl (State.railStep rails) s)
  obtain ⟨gp, ap, hpower⟩ := (reachStep_sampleStep powers).foldl [0, 1, 2, 3]
    (fun i j hij => by simp only [Fld.GAUGE_REACH_POWER, Reg.GAUGE_REACH]; omega)
    ([0, 1].foldl (State.coreStep currents) ((List.range 9).foldl (State.railStep rails) s))
  have hgauge : GaugeOnly s (s.gauged rails currents powers) := (gr.trans gc).trans gp
  have htime : (s.gauged rails currents powers).power.time = s.power.time := by rw [hgauge]
  have hrd {f : Fld} (hf : f.key ≠ Reg.GAUGE_STAMP) : t.rd f = (s.gauged rails currents powers).rd f := by
    rw [ht, State.railSample_eq, State.rd, State.rd, State.reg_setReg_ne _ _ hf]
  refine ⟨?_, fun r hr => ?_, fun d hd => ?_, fun k hk => ?_, ?_⟩
  · rw [ht, State.railSample_eq]
    exact hgauge.setReg _ _
  · obtain ⟨hstamp, hcurrents, hpowers⟩ := railLatest_place hr
    rw [hrd hstamp, State.gauged, ap.rd hpowers, ac.rd hcurrents, hrail r (List.mem_range.mpr hr)]
  · obtain ⟨hstamp, hpowers⟩ := coreLatest_place hd
    rw [hrd hstamp, State.gauged, ap.rd hpowers, hcore d (List.mem_range.mpr hd)]
  · rw [hrd (reachPower_place hk), State.gauged, hpower k (List.mem_range.mpr hk)]
  · rw [ht, State.railSample_eq, State.reg_setReg, htime]

end Sys2Proof.Machine
end

section
/-! PROOF. The requests of the reach wardens and of the host (R18, R471). -/

namespace Sys2Proof.Machine

/-- With no request in force, a warden asks by its thresholds alone. -/
theorem thermRequest_of_none (s : State) (cool : List (Nat × Nat)) (base now deg : Nat) :
    thermRequest cool base now deg 0 [s.rd Fld.CLKPWR_THERM_T5, s.rd Fld.CLKPWR_THERM_T6, s.rd Fld.CLKPWR_THERM_T8] = s.reachDepth deg := by
  simp [thermRequest, State.reachDepth]

theorem reachRequest_mem (k : Nat) : reachRequest k ∈
    [Fld.CLKPWR_THROTTLE_RCH0, Fld.CLKPWR_THROTTLE_RCH1, Fld.CLKPWR_THROTTLE_RCH2, Fld.CLKPWR_THROTTLE_RCH3] := by
  unfold reachRequest
  split_ifs <;> decide

/-- A reach's request is a field of two bits in CLKPWR_THROTTLE, apart from TARGET, the host's and the clock unit's. -/
theorem reachRequest_place (k : Nat) : (reachRequest k).key = Reg.CLKPWR_THROTTLE ∧ (reachRequest k).hi < 40 ∧
    (reachRequest k).hi = (reachRequest k).lo + 1 := by
  have hall : ∀ f ∈ [Fld.CLKPWR_THROTTLE_RCH0, Fld.CLKPWR_THROTTLE_RCH1, Fld.CLKPWR_THROTTLE_RCH2, Fld.CLKPWR_THROTTLE_RCH3],
    f.key = Reg.CLKPWR_THROTTLE ∧ f.hi < 40 ∧ f.hi = f.lo + 1 := by decide
  exact hall _ (reachRequest_mem k)

/-- The events of a warden: one for a deeper request by temperature, one for the power cap. -/
def State.wardenLog (s : State) (k : Nat) (deeper capped : Prop) [Decidable deeper] [Decidable capped] (a b watt : Nat) : State :=
  let s := if deeper then s.logAt 0x16 1 k a watt else s
  if capped then s.logAt 0x16 1 k b watt else s

section WardenLog

variable (s : State) (k : Nat) (deeper capped : Prop) [Decidable deeper] [Decidable capped] (a b watt : Nat)

theorem State.wardenLog_frame :
    s.wardenLog k deeper capped a b watt = { s with spoil := (s.wardenLog k deeper capped a b watt).spoil } := by
  unfold State.wardenLog
  extract_lets v
  simp only [v]
  split_ifs <;> rfl

theorem State.wardenLog_last_cls (h : deeper ∨ capped) :
    ((s.wardenLog k deeper capped a b watt).spoil.inFlight.getLast?).map (·.cls) = some 0x16 := by
  unfold State.wardenLog
  extract_lets v
  by_cases hc : capped
  · rw [if_pos hc, State.logAt_last_cls]
  · have hv : v = s.logAt 0x16 1 k a watt := if_pos (h.resolve_right hc)
    rw [if_neg hc, hv, State.logAt_last_cls]

theorem State.wardenLog_of_neither (hd : ¬ deeper) (hc : ¬ capped) : s.wardenLog k deeper capped a b watt = s := by
  simp only [State.wardenLog, if_neg hd, if_neg hc]

end WardenLog

/-- A warden's evaluation: the records of cooling, the events of the new request, then the request. -/
theorem State.wardenEval_eq (s : State) (k : Nat) : ∃ (p : Power) (cool : List (Nat × Nat)) (low : Bool) (a b : Nat),
    s.wardenEval k =
      let old := Sparse.get (fun _ => 0) s.power.wardens k
      let base := thermRequest cool (16 * k) s.power.time
        (((hottestOf s.power.temps (s.reachSensors k)).map (fun h => celsius h.1)).getD 0) (old / 2)
        [s.rd Fld.CLKPWR_THERM_T5, s.rd Fld.CLKPWR_THERM_T6, s.rd Fld.CLKPWR_THERM_T8]
      let extra := decide (10 * s.rd Fld.CLKPWR_PCAP_REACH_CAP < s.rd (Fld.GAUGE_REACH_POWER k)) || (decide (old % 2 = 1) && low)
      ((State.wardenLog { s with power := p } k (old / 2 < base) (extra ∧ old % 2 = 0) a b (s.rd (Fld.GAUGE_REACH_POWER k))).wr
        (reachRequest k) (min 3 (base + b2n extra))).settleTarget := by
  obtain ⟨t, ht⟩ : ∃ t, t = s.wardenEval k := ⟨_, rfl⟩
  rw [← ht]
  unfold State.wardenEval at ht
  extract_lets now th hot deg cool old base cap watt low extra req p u d0 v w at ht
  exact ⟨u.power, cool, !coolFor low k now 10000000, d0 0, d0 1, ht⟩

/-- What a warden with no request in force asks for: the depth by its hottest sensor, one step deeper above the power cap (R471). -/
def State.freshRequest (s : State) (k : Nat) (h : Int × Nat) : Nat :=
  min 3 (s.reachDepth (celsius h.1) + if 10 * s.rd Fld.CLKPWR_PCAP_REACH_CAP < s.rd (Fld.GAUGE_REACH_POWER k) then 1 else 0)

theorem State.wardenEval_of_none {s : State} {k : Nat} {h : Int × Nat} (hh : hottestOf s.power.temps (s.reachSensors k) = some h)
    (hw : Sparse.get (fun _ => 0) s.power.wardens k = 0) {r : Nat} (hr : r = s.freshRequest k h) :
    ∃ (p : Power) (l : Spoil), s.wardenEval k = (State.wr { s with power := p, spoil := l } (reachRequest k) r).settleTarget ∧
      (0 < r → (l.inFlight.getLast?).map (·.cls) = some 0x16) ∧ (r = 0 → l = s.spoil) := by
  obtain ⟨p, cool, low, a, b, heval⟩ := s.wardenEval_eq k
  rw [State.freshRequest] at hr
  simp only [hw, hh, Option.map_some, Option.getD_some, Nat.zero_div, thermRequest_of_none, Nat.zero_mod, Nat.zero_ne_one, decide_false,
    Bool.false_and, Bool.or_false, decide_eq_true_eq, and_true, b2n, ← hr] at heval
  rw [State.wardenLog_frame] at heval
  refine ⟨p, _, heval, fun hpos => State.wardenLog_last_cls _ _ _ _ _ _ _ ?_, fun hzero => ?_⟩
  · split_ifs at hr <;> omega
  · rw [State.wardenLog_of_neither]
    all_goals split_ifs at hr <;> omega

theorem State.wardenEval_spec {s t : State} {k : Nat} {h : Int × Nat} (hh : hottestOf s.power.temps (s.reachSensors k) = some h)
    (hw : Sparse.get (fun _ => 0) s.power.wardens k = 0) {r : Nat} (hr : r = s.freshRequest k h) (ht : t = s.wardenEval k) :
    t = { s with regs := t.regs, power := t.power, spoil := t.spoil } ∧ t.rd (reachRequest k) = r ∧
      t.rd Fld.CLKPWR_THROTTLE_TARGET = t.requests.foldl max 0 ∧ (0 < r → (t.spoil.inFlight.getLast?).map (·.cls) = some 0x16) ∧
      (r = 0 → t.spoil = s.spoil) ∧ RegsApart s t [Reg.CLKPWR_THROTTLE] := by
  obtain ⟨p, l, heval, hlog, hquiet⟩ := State.wardenEval_of_none hh hw hr
  obtain ⟨hkey, hhi, hwidth⟩ := reachRequest_place k
  rw [heval] at ht
  have hspoil : t.spoil = l := ht ▸ State.settleTarget_spoil _
  refine ⟨?_, ?_, ht ▸ State.rd_target_settleTarget _, hspoil ▸ hlog, hspoil ▸ hquiet, ?_⟩
  · rw [hspoil, ht]
    exact State.settleTarget_frame _
  · have hlt : r < 2 ^ ((reachRequest k).hi + 1 - (reachRequest k).lo) := by
      rw [show (reachRequest k).hi + 1 - (reachRequest k).lo = 2 by omega, hr]
      exact (Nat.min_le_left 3 _).trans_lt (by decide)
    have hapart : (reachRequest k).hi < Fld.CLKPWR_THROTTLE_TARGET.lo := hhi.trans (by decide)
    rw [ht, State.rd_settleTarget _ (.inr ⟨by omega, .inl hapart⟩), State.rd_wr_of_lt _ (by omega) (by omega) hlt]
  · have hregs := RegsApart.of_regs_eq (rfl : State.regs { s with power := p, spoil := l } = s.regs) [Reg.CLKPWR_THROTTLE]
    rw [ht]
    exact (hregs.wr _ _ (hkey ▸ List.mem_cons_self)).trans (State.regsApart_settleTarget _)

theorem State.resolve_throttle (s : State) : s.resolve Reg.CLKPWR_THROTTLE = some Reg.CLKPWR_THROTTLE := by
  simp [State.resolve, logicalAt, Reg.CLKPWR_THROTTLE]

theorem State.writeReg_throttle (s : State) (vw : Nat) (data : Reg64) :
    s.writeReg vw Reg.CLKPWR_THROTTLE data = some (s.throttleWrite (decide (vw = 17)) data) := by
  simp [State.writeReg, State.writeGauge, Reg.CLKPWR_THROTTLE]

/-- The requests of the four reaches written. -/
def State.reachesWritten (s : State) (data : Reg64) : State :=
  [0, 1, 2, 3].foldl (fun s k => s.wr (reachRequest k) (getBits data (33 + 2 * k) (32 + 2 * k))) s

/-- A run of field writes is a change of registers alone. -/
theorem State.foldl_wr_frame (f : Nat → Fld) (v : Nat → Nat) (l : List Nat) :
    ∀ s : State, l.foldl (fun s k => s.wr (f k) (v k)) s = { s with regs := (l.foldl (fun s k => s.wr (f k) (v k)) s).regs } := by
  induction l with
  | nil => exact fun _ => rfl
  | cons k l ih => exact fun s => ih (s.wr (f k) (v k))

theorem State.reachesWritten_frame (s : State) (data : Reg64) :
    s.reachesWritten data = { s with regs := (s.reachesWritten data).regs } := State.foldl_wr_frame _ _ _ s

theorem State.regsApart_reachesWritten (s : State) (data : Reg64) : RegsApart s (s.reachesWritten data) [Reg.CLKPWR_THROTTLE] :=
  List.foldlRecOn _ _ (motive := fun t => RegsApart s t [Reg.CLKPWR_THROTTLE]) (RegsApart.of_regs_eq rfl _)
    (fun _ ht k _ => ht.wr _ _ ((reachRequest_place k).1 ▸ List.mem_cons_self))

theorem State.rd_reachesWritten (s : State) (data : Reg64) {f : Fld} (hf : 40 ≤ f.lo) (hf64 : f.hi < 64) :
    (s.reachesWritten data).rd f = s.rd f := by
  refine foldl_read_untouched _ (fun t : State => t.rd f) _ s (fun k _ t => ?_)
  obtain ⟨-, hhi, -⟩ := reachRequest_place k
  exact t.rd_wr_apart _ _ _ (.inr ⟨hf64, .inr (hhi.trans_le hf)⟩)

/-- A write of CLKPWR_THROTTLE: the host's floor, the reaches' requests at most, then TARGET (R18). -/
theorem State.throttleWrite_spec {s t : State} {matumon : Bool} {data : Reg64} (ht : t = s.throttleWrite matumon data) :
    t = { s with regs := t.regs, power := t.power } ∧ t.rd Fld.CLKPWR_THROTTLE_HOST = getBits data 47 46 ∧
      t.rd Fld.CLKPWR_THROTTLE_HW = s.rd Fld.CLKPWR_THROTTLE_HW ∧ t.rd Fld.CLKPWR_THROTTLE_TARGET = t.requests.foldl max 0 ∧
      RegsApart s t [Reg.CLKPWR_THROTTLE] := by
  obtain ⟨u, hu⟩ : ∃ u, u = s.wr Fld.CLKPWR_THROTTLE_HOST (getBits data 47 46) := ⟨_, rfl⟩
  have hframe : u = { s with regs := u.regs } := hu ▸ rfl
  have hhost : u.rd Fld.CLKPWR_THROTTLE_HOST = getBits data 47 46 :=
    hu ▸ s.rd_wr_of_lt (by decide) (by decide) (Nat.mod_lt _ (by decide))
  have hhw : u.rd Fld.CLKPWR_THROTTLE_HW = s.rd Fld.CLKPWR_THROTTLE_HW := hu ▸ s.rd_wr_apart _ _ _ (by decide)
  have hapart : RegsApart s u [Reg.CLKPWR_THROTTLE] := hu ▸ (RegsApart.of_regs_eq rfl _).wr _ _ List.mem_cons_self
  have hwritten : t = (if matumon then u.reachesWritten data else u).settleTarget := by rw [ht, hu]; rfl
  obtain ⟨v, hv, hvframe, hvhost, hvhw, hvapart⟩ : ∃ v : State, t = v.settleTarget ∧ v = { u with regs := v.regs } ∧
      v.rd Fld.CLKPWR_THROTTLE_HOST = u.rd Fld.CLKPWR_THROTTLE_HOST ∧ v.rd Fld.CLKPWR_THROTTLE_HW = u.rd Fld.CLKPWR_THROTTLE_HW ∧
      RegsApart u v [Reg.CLKPWR_THROTTLE] := by
    cases matumon with
    | false => exact ⟨u, hwritten, rfl, rfl, rfl, RegsApart.of_regs_eq rfl _⟩
    | true => exact ⟨_, hwritten, u.reachesWritten_frame data, u.rd_reachesWritten data (by decide) (by decide),
        u.rd_reachesWritten data (by decide) (by decide), u.regsApart_reachesWritten data⟩
  refine ⟨?_, ?_, ?_, hv ▸ v.rd_target_settleTarget, hv ▸ (hapart.trans hvapart).trans v.regsApart_settleTarget⟩
  · rw [hv, State.settleTarget_frame, hvframe, hframe]
  · rw [hv, State.rd_settleTarget _ (by decide), hvhost, hhost]
  · rw [hv, State.rd_settleTarget _ (by decide), hvhw, hhw]

theorem State.throttleFloorWrite_spec {s : State} {vw : View} {floor : BitVec 2} (hw : s.writable vw Reg.CLKPWR_THROTTLE = true) :
    ∃ t, exec (.throttleFloorWrite vw floor) s = .next t ∧ t = { s with regs := t.regs, power := t.power } ∧
      t.rd Fld.CLKPWR_THROTTLE_HOST = floor.toNat ∧ t.rd Fld.CLKPWR_THROTTLE_HW = s.rd Fld.CLKPWR_THROTTLE_HW ∧
      t.rd Fld.CLKPWR_THROTTLE_TARGET = t.requests.foldl max 0 ∧ RegsApart s t [Reg.CLKPWR_THROTTLE] := by
  have hdata : getBits (putBits (s.reg Reg.CLKPWR_THROTTLE) 47 46 floor.toNat) 47 46 = floor.toNat := by
    rw [getBits_putBits _ _ _ _ (by decide) (by decide), Nat.mod_eq_of_lt floor.isLt]
  have hexec : exec (.throttleFloorWrite vw floor) s = .next (s.throttleWrite (decide (viewNum vw = 17))
      (putBits (s.reg Reg.CLKPWR_THROTTLE) 47 46 floor.toNat)) :=
    congrArg Host.Outcome.next (State.busWrite_of_writeReg hw s.resolve_throttle (s.writeReg_throttle (viewNum vw) _))
  obtain ⟨hframe, hhost, hrest⟩ := State.throttleWrite_spec (s := s) (matumon := decide (viewNum vw = 17))
    (data := putBits (s.reg Reg.CLKPWR_THROTTLE) 47 46 floor.toNat) rfl
  exact ⟨_, hexec, hframe, hhost.trans hdata, hrest⟩

end Sys2Proof.Machine
end

section
/-! PROOF. The sequence of a change of frequency: VDD_CORE, the hold of issue, the switch point (R469, R472). -/

namespace Sys2Proof.Machine

theorem State.holdFor_frame (s : State) (step : Nat) : s.holdFor step =
    { s with regs := (s.holdFor step).regs, power := { s.power with sequence := some (step, false) } } := rfl

theorem State.holdFor_hold (s : State) (step : Nat) : (s.holdFor step).flag Fld.CLKPWR_CLK_HOLD = true :=
  State.flag_wrB _ true (by decide) (by decide)

theorem State.regsApart_holdFor (s : State) (step : Nat) : RegsApart s (s.holdFor step) [Reg.CLKPWR_CLK] :=
  (RegsApart.of_regs_eq (rfl : (s.setSequence (some (step, false))).regs = s.regs) _).wr _ _ List.mem_cons_self

section TargetChange

variable {s : State} {step target : Nat} (hstep : step = s.rd Fld.CLKPWR_CLK_STEP) (htarget : target = s.rd Fld.CLKPWR_THROTTLE_TARGET)
  (hseq : s.power.sequence = none)
include hstep htarget

theorem State.targetChange_of_eq (h : target = step) : s.targetChange = s :=
  if_pos (.inl (htarget.symm.trans (h.trans hstep)))

include hseq

theorem State.targetChange_starts (h : target ≠ step) :
    ¬ (s.rd Fld.CLKPWR_THROTTLE_TARGET = s.rd Fld.CLKPWR_CLK_STEP ∨ s.power.sequence.isSome = true) := by
  rw [← htarget, ← hstep, hseq]
  exact not_or.mpr ⟨h, Bool.false_ne_true⟩

theorem State.targetChange_of_raise (h : target < step) (havs : s.flag Fld.CLKPWR_VCORE_AVS_EN = true) : s.targetChange = { s with
    power := { s.power with sequence := some (target, true), avsCode := s.setpointOf target, avsTries := 0 }
    out := s.out ++ [.avs (s.setpointOf target)] } := by
  have hstart := State.targetChange_starts hstep htarget hseq h.ne
  subst hstep htarget
  rw [State.targetChange, if_neg hstart, if_pos ⟨h, havs⟩]
  rfl

theorem State.targetChange_of_hold (h : step < target ∨ (target < step ∧ s.flag Fld.CLKPWR_VCORE_AVS_EN = false)) :
    s.targetChange = s.holdFor target := by
  have hstart := State.targetChange_starts hstep htarget hseq (by omega)
  have hhold : ¬ (target < step ∧ s.flag Fld.CLKPWR_VCORE_AVS_EN = true) := fun ⟨hlt, havs⟩ =>
    h.elim hlt.not_gt (fun hoff => Bool.false_ne_true (hoff.2.symm.trans havs))
  subst hstep htarget
  rw [State.targetChange, if_neg hstart, if_neg hhold]

end TargetChange

section VcoreAck

variable {s : State} {step : Nat} (hseq : s.power.sequence = some (step, true))
include hseq

/-- The acknowledged setpoint (R469). -/
theorem State.vcoreAck_true_spec (hcode : s.power.avsCode < 256) {t : State} (ht : t = s.vcoreAck true) :
    t = { s with regs := t.regs, power := t.power } ∧ t.rd Fld.CLKPWR_VCORE_SETPOINT = s.power.avsCode ∧
      t.flag Fld.CLKPWR_VCORE_PGOOD = true ∧
      (if step < s.rd Fld.CLKPWR_CLK_STEP then t.power.sequence = some (step, false) ∧ t.flag Fld.CLKPWR_CLK_HOLD = true
       else t.power.sequence = none) := by
  obtain ⟨u, hu⟩ : ∃ u, u = (s.wr Fld.CLKPWR_VCORE_SETPOINT s.power.avsCode).wrB Fld.CLKPWR_VCORE_PGOOD true := ⟨_, rfl⟩
  have hset : u.rd Fld.CLKPWR_VCORE_SETPOINT = s.power.avsCode := by
    rw [hu, State.rd_wrB_apart _ _ _ _ (by decide), State.rd_wr_of_lt s (by decide) (by decide) hcode]
  have hgood : u.flag Fld.CLKPWR_VCORE_PGOOD = true := hu ▸ State.flag_wrB _ true (by decide) (by decide)
  have hframe : u = { s with regs := u.regs } := hu ▸ rfl
  have hack : t = if step < s.rd Fld.CLKPWR_CLK_STEP then u.holdFor step else u.setSequence none := by
    rw [ht, hu, State.vcoreAck, hseq]
    simp only [if_true, decide_eq_true_eq]
  split_ifs at hack ⊢ with hfast
  · have hapart := u.regsApart_holdFor step
    rw [← hack] at hapart
    refine ⟨?_, ?_, ?_, ?_, ?_⟩
    · rw [hack, State.holdFor_frame, hframe]
    · rw [hapart.rd (by decide), hset]
    · rw [State.flag_congr (hapart.rd (by decide)), hgood]
    · rw [hack, State.holdFor_frame]
    · rw [hack, State.holdFor_hold]
  · rw [hack]
    refine ⟨?_, hset, hgood, rfl⟩
    rw [hframe]
    rfl

/-- A failed transaction that is tried again. -/
theorem State.vcoreAck_false_of_tries (h : s.power.avsTries < 2) : s.vcoreAck false = { s with
    power := { s.power with avsTries := s.power.avsTries + 1 }, out := s.out ++ [.avs s.power.avsCode] } := by
  rw [State.vcoreAck, hseq]
  simp only [Bool.false_eq_true, if_false, if_pos h]
  rfl

/-- A transaction that failed for the third time: counted, the setpoint last acknowledged stands. -/
theorem State.vcoreAck_false_spec (h : 2 ≤ s.power.avsTries) {t : State} (ht : t = s.vcoreAck false) :
    t.flag Fld.CLKPWR_VCORE_PGOOD = false ∧ t.rd Fld.CLKPWR_VCORE_SETPOINT = s.rd Fld.CLKPWR_VCORE_SETPOINT ∧
      t.cnt Fld.CLKPWR_VCORE_AVS_ERRORS = min Fld.CLKPWR_VCORE_AVS_ERRORS.top (s.cnt Fld.CLKPWR_VCORE_AVS_ERRORS + 1) := by
  obtain ⟨u, hu⟩ : ∃ u, u = (s.bump Fld.CLKPWR_VCORE_AVS_ERRORS 1).wrB Fld.CLKPWR_VCORE_PGOOD false := ⟨_, rfl⟩
  have hgood : u.flag Fld.CLKPWR_VCORE_PGOOD = false := hu ▸ State.flag_wrB _ false (by decide) (by decide)
  have hbump : (s.bump Fld.CLKPWR_VCORE_AVS_ERRORS 1).regs = s.regs := by
    unfold State.bump
    split_ifs <;> rfl
  have hset : u.rd Fld.CLKPWR_VCORE_SETPOINT = s.rd Fld.CLKPWR_VCORE_SETPOINT := by
    rw [hu, State.rd_wrB_apart _ _ _ _ (by decide), State.rd_congr hbump]
  have hcnt : u.cnt Fld.CLKPWR_VCORE_AVS_ERRORS = min Fld.CLKPWR_VCORE_AVS_ERRORS.top (s.cnt Fld.CLKPWR_VCORE_AVS_ERRORS + 1) :=
    hu ▸ s.cnt_bump_of_unit (by decide) 1
  have hgoes : (∃ j, t = u.holdFor j) ∨ t = u.setSequence none := by
    rw [ht, State.vcoreAck, hseq]
    simp only [Bool.false_eq_true, if_false, if_neg h.not_gt, ← hu]
    split_ifs
    · exact .inl ⟨_, rfl⟩
    · exact .inr rfl
  rcases hgoes with ⟨j, rfl⟩ | rfl
  · have hapart := u.regsApart_holdFor j
    exact ⟨(State.flag_congr (hapart.rd (by decide))).trans hgood, (hapart.rd (by decide)).trans hset, hcnt⟩
  · exact ⟨hgood, hset, hcnt⟩

end VcoreAck

/-- CLKPWR_CLK at the switch point: the new step, issue going on, the switch counted with its latency (R472). -/
def State.switched (s : State) (step : Nat) : State :=
  (((s.wr Fld.CLKPWR_CLK_STEP step).wrB Fld.CLKPWR_CLK_HOLD false).wrapInc Fld.CLKPWR_CLK_SWITCHES).wr Fld.CLKPWR_CLK_LAST_LATENCY_US
    (min 0xFFFF ((s.power.time - s.power.requestTime) / 1000))

theorem State.switched_frame (s : State) (step : Nat) : s.switched step = { s with regs := (s.switched step).regs } := by
  simp [State.switched, State.wrapInc, State.wrB, State.wr, State.setReg]

theorem State.regsApart_switched (s : State) (step : Nat) : RegsApart s (s.switched step) [Reg.CLKPWR_CLK] := by
  have hstep := (RegsApart.of_regs_eq (rfl : s.regs = s.regs) [Reg.CLKPWR_CLK]).wr Fld.CLKPWR_CLK_STEP step List.mem_cons_self
  have hhold := hstep.wr Fld.CLKPWR_CLK_HOLD (if false then 1 else 0) List.mem_cons_self
  exact (hhold.wr Fld.CLKPWR_CLK_SWITCHES _ List.mem_cons_self).wr Fld.CLKPWR_CLK_LAST_LATENCY_US _ List.mem_cons_self

theorem State.switched_clk (s : State) {step : Nat} (hstep : step < 4) : (s.switched step).rd Fld.CLKPWR_CLK_STEP = step ∧
    (s.switched step).flag Fld.CLKPWR_CLK_HOLD = false ∧
    (s.switched step).rd Fld.CLKPWR_CLK_SWITCHES = (s.rd Fld.CLKPWR_CLK_SWITCHES + 1) % 2 ^ 32 := by
  refine ⟨?_, ?_, ?_⟩
  · rw [State.switched, State.rd_wr_apart _ _ _ _ (by decide), State.wrapInc, State.rd_wr_apart _ _ _ _ (by decide),
      State.rd_wrB_apart _ _ _ _ (by decide), State.rd_wr_of_lt s (by decide) (by decide) hstep]
  · rw [State.switched, State.flag_wr_apart _ _ _ _ (by decide), State.wrapInc, State.flag_wr_apart _ _ _ _ (by decide),
      State.flag_wrB _ _ (by decide) (by decide)]
  · rw [State.switched, State.rd_wr_apart _ _ _ _ (by decide), State.wrapInc, State.rd_wr _ _ _ (by decide) (by decide),
      State.rd_wrB_apart _ _ _ _ (by decide), State.rd_wr_apart _ _ _ _ (by decide)]
    rfl

theorem RegsApart.setpointOf {s t : State} {ks : List Nat} (h : RegsApart s t ks) (hk : Reg.CLKPWR_VCORE ∉ ks) (step : Nat) :
    t.setpointOf step = s.setpointOf step := by
  simp only [State.setpointOf, h.rd (f := Fld.CLKPWR_VCORE_V4) hk, h.rd (f := Fld.CLKPWR_VCORE_V5) hk, h.rd (f := Fld.CLKPWR_VCORE_V6) hk,
    h.rd (f := Fld.CLKPWR_VCORE_V8) hk]

theorem State.switchPoint_eq {s : State} {step : Nat} (hseq : s.power.sequence = some (step, false)) : s.switchPoint =
    if s.rd Fld.CLKPWR_CLK_STEP < step ∧ s.flag Fld.CLKPWR_VCORE_AVS_EN = true then
      ((s.switched step).setSequence (some (step, true))).askVcore (s.setpointOf step)
    else (s.switched step).setSequence none := by
  have hapart := s.regsApart_switched step
  rw [← hapart.setpointOf (by decide), ← State.flag_congr (hapart.rd (f := Fld.CLKPWR_VCORE_AVS_EN) (by decide)), State.switchPoint, hseq]
  simp only [decide_eq_true_eq]
  rfl

/-- The switch point: the benches run at the new step and issue goes on; to a slower step VDD_CORE is lowered (R472). -/
theorem State.switchPoint_spec {s t : State} {step : Nat} (hseq : s.power.sequence = some (step, false)) (hstep : step < 4)
    (ht : t = s.switchPoint) :
    t = { s with regs := t.regs, power := t.power, out := t.out } ∧ t.rd Fld.CLKPWR_CLK_STEP = step ∧
      t.flag Fld.CLKPWR_CLK_HOLD = false ∧ t.rd Fld.CLKPWR_CLK_SWITCHES = (s.rd Fld.CLKPWR_CLK_SWITCHES + 1) % 2 ^ 32 ∧
      RegsApart s t [Reg.CLKPWR_CLK] ∧
      (if s.rd Fld.CLKPWR_CLK_STEP < step ∧ s.flag Fld.CLKPWR_VCORE_AVS_EN = true then
        t.power.sequence = some (step, true) ∧ t.out = s.out ++ [Out.avs (s.setpointOf step)]
       else t.power.sequence = none ∧ t.out = s.out) := by
  rw [State.switchPoint_eq hseq] at ht
  obtain ⟨hclk, hhold, hcount⟩ := s.switched_clk hstep
  have hapart := s.regsApart_switched step
  have hframe := s.switched_frame step
  generalize s.switched step = u at *
  have hout : u.out = s.out := by rw [hframe]
  have hregs : t.regs = u.regs := by rw [ht]; split_ifs <;> rfl
  refine ⟨?_, (State.rd_congr hregs _).trans hclk, (State.flag_congr (State.rd_congr hregs _)).trans hhold,
    (State.rd_congr hregs _).trans hcount, hapart.trans (RegsApart.of_regs_eq hregs _), ?_⟩
  · split_ifs at ht <;> rw [ht, hframe] <;> rfl
  · split_ifs at ht ⊢ <;> rw [ht, ← hout] <;> exact ⟨rfl, rfl⟩

end Sys2Proof.Machine
end

section
/-! PROOF. Gauges, requests and the frequency switch, put together (R18, R469, R471, R472, R488, R491). -/

namespace Sys2Proof.Machine

/-- Settles O59: each event of a running device is the operation that the lemmas above describe. -/
theorem throttlingFollowsItsRequests : Obligations.ThrottlingFollowsItsRequests := by
  refine ⟨fun s l hrun hl => ?_, fun s rails currents powers hrun hr hc hp => ?_, fun s k h r hrun hh hw hr => ?_,
    fun s vw floor hw => State.throttleFloorWrite_spec hw, fun s step target hrun hstep htarget hseq => ⟨?_, ?_, ?_⟩,
    fun s step hrun hseq => ⟨fun hcode => ?_, fun htries => ?_, fun htries => ?_⟩, fun s step hrun hseq hstep => ?_⟩
  · exact ⟨_, (if_pos (by simp [hl])).trans (next_live_of_running hrun _), State.dieTempSample_spec hl rfl⟩
  · exact ⟨_, (if_pos (by simp [hr, hc, hp])).trans (next_live_of_running hrun _), State.railSample_spec rfl⟩
  · exact ⟨_, next_live_of_running hrun _, State.wardenEval_spec hh hw hr rfl⟩
  · exact fun h => (next_live_of_running hrun _).trans (congrArg _ (State.targetChange_of_eq hstep htarget h))
  · exact fun h havs => (next_live_of_running hrun _).trans (congrArg _ (State.targetChange_of_raise hstep htarget hseq h havs))
  · refine fun h => ⟨_, (next_live_of_running hrun _).trans (congrArg _ (State.targetChange_of_hold hstep htarget hseq h)), ?_⟩
    exact ⟨s.holdFor_frame target, s.holdFor_hold target, s.regsApart_holdFor target⟩
  · exact ⟨_, next_live_of_running hrun _, State.vcoreAck_true_spec hseq hcode rfl⟩
  · exact (next_live_of_running hrun _).trans (congrArg _ (State.vcoreAck_false_of_tries hseq htries))
  · exact ⟨_, next_live_of_running hrun _, State.vcoreAck_false_spec hseq htries rfl⟩
  · exact ⟨_, next_live_of_running hrun _, State.switchPoint_spec hseq hstep rfl⟩

end Sys2Proof.Machine
end

section
/-! PROOF. The fold reduction and the residue operations (R37-R40). A prime of Table 2.1 is 1 modulo 2 ^ 18, so each fold clears the low
18 bits by adding a multiple of p and is exact; three folds bring a 64-bit word below 2 * p. -/

namespace Sys2Proof.Machine

/-- A fold is exact: the sum that it shifts is a multiple of 2 ^ 18. -/
theorem foldOnce_mul {p : Nat} (hp : p % 2 ^ 18 = 1) (y : Nat) :
    foldOnce p y * 2 ^ 18 = y + (2 ^ 18 - y % 2 ^ 18) % 2 ^ 18 * p := by
  have hdvd : 2 ^ 18 ∣ y + (2 ^ 18 - y % 2 ^ 18) % 2 ^ 18 * p := by
    refine Nat.dvd_of_mod_eq_zero ?_
    rw [Nat.add_mod, Nat.mul_mod, hp]
    omega
  exact Nat.div_mul_cancel hdvd

theorem foldOnce_mul_modEq {p : Nat} (hp : p % 2 ^ 18 = 1) (y : Nat) : foldOnce p y * 2 ^ 18 ≡ y [MOD p] := by
  rw [foldOnce_mul hp]
  exact Nat.add_mul_mod_self_right _ _ _

/-- A fold shortens by 18 bits, but for less than p that it adds. -/
theorem foldOnce_mul_le (p y : Nat) : foldOnce p y * 2 ^ 18 ≤ y + (2 ^ 18 - 1) * p := by
  have hm : (2 ^ 18 - y % 2 ^ 18) % 2 ^ 18 * p ≤ (2 ^ 18 - 1) * p := Nat.mul_le_mul_right p (by omega)
  exact (Nat.div_mul_le_self _ _).trans (by omega)

/-- Three folds divide by 2 ^ 54 modulo p. -/
theorem foldOnce_thrice_mul_modEq {p : Nat} (hp : p % 2 ^ 18 = 1) (x : Nat) :
    foldOnce p (foldOnce p (foldOnce p x)) * 2 ^ 54 ≡ x [MOD p] := by
  have h1 := foldOnce_mul_modEq hp x
  have h2 := foldOnce_mul_modEq hp (foldOnce p x)
  have h3 := foldOnce_mul_modEq hp (foldOnce p (foldOnce p x))
  calc foldOnce p (foldOnce p (foldOnce p x)) * 2 ^ 54
      = foldOnce p (foldOnce p (foldOnce p x)) * 2 ^ 18 * 2 ^ 18 * 2 ^ 18 := by ring
    _ ≡ foldOnce p (foldOnce p x) * 2 ^ 18 * 2 ^ 18 [MOD p] := (h3.mul_right _).mul_right _
    _ ≡ foldOnce p x * 2 ^ 18 [MOD p] := h2.mul_right _
    _ ≡ x [MOD p] := h1

theorem foldOnce_thrice_lt {p x : Nat} (hp : 2 ^ 31 < p) (hx : x < 2 ^ 64) :
    foldOnce p (foldOnce p (foldOnce p x)) < 2 * p := by
  have h1 := foldOnce_mul_le p x
  have h2 := foldOnce_mul_le p (foldOnce p x)
  have h3 := foldOnce_mul_le p (foldOnce p (foldOnce p x))
  omega

theorem fold3_lt {p x : Nat} (hp : 2 ^ 31 < p) (hx : x < 2 ^ 64) : fold3 p x < p := by
  have h := foldOnce_thrice_lt hp hx
  unfold fold3
  dsimp only
  split_ifs <;> omega

theorem fold3_mul_modEq {p : Nat} (hp : p % 2 ^ 18 = 1) (x : Nat) : fold3 p x * 2 ^ 54 ≡ x [MOD p] := by
  refine Nat.ModEq.trans (Nat.ModEq.mul_right _ ?_) (foldOnce_thrice_mul_modEq hp x)
  unfold fold3
  dsimp only
  split_ifs with h
  · rfl
  · exact Nat.modEq_sub_modulus_iff (not_lt.mp h) |>.mpr rfl |>.symm

theorem mul_lt_of_residues {p a b : Nat} (hp : p < 2 ^ 32) (ha : a < p) (hb : b < p) : a * b < 2 ^ 64 :=
  calc a * b < p * p := Nat.mul_lt_mul'' ha hb
    _ ≤ 2 ^ 32 * 2 ^ 32 := Nat.mul_le_mul hp.le hp.le
    _ = 2 ^ 64 := by norm_num

theorem addMod_eq_mod {p a b : Nat} (ha : a < p) (hb : b < p) : addMod p a b = (a + b) % p := by
  unfold addMod
  split_ifs with h
  · exact (Nat.mod_eq_of_lt h).symm
  · rw [Nat.mod_eq_sub_mod (not_lt.mp h), Nat.mod_eq_of_lt (by omega)]

theorem subMod_eq_mod {p a b : Nat} (ha : a < p) (hb : b < p) : subMod p a b = (a + (p - b)) % p := by
  unfold subMod
  split_ifs with h
  · rw [Nat.mod_eq_sub_mod (by omega), Nat.mod_eq_of_lt (by omega)]
    omega
  · rw [Nat.mod_eq_of_lt (by omega)]
    omega

theorem negMod_eq_mod {p a : Nat} (ha : a < p) : negMod p a = (p - a) % p := by
  rw [negMod, subMod_eq_mod (by omega) ha, Nat.zero_add]

/-- 2 ^ 54 is a unit modulo a number that is 1 modulo 2 ^ 18. -/
theorem coprime_two_pow {p : Nat} (hp : p % 2 ^ 18 = 1) (n : Nat) : p.Coprime (2 ^ n) :=
  (Nat.coprime_two_right.mpr (Nat.odd_iff.mpr (by omega))).pow_right n

theorem foldCube_lt {p : Nat} (hp : 0 < p) : foldCube p < p := Nat.mod_lt _ hp

/-- The fold form of x is x * 2 ^ 54: its fold is multiplied by 2 ^ 162 and folded again (R38). -/
theorem toFold_modEq {p : Nat} (hp : p % 2 ^ 18 = 1) (x : Nat) : toFold p x ≡ x * 2 ^ 54 [MOD p] := by
  refine Nat.ModEq.cancel_right_of_coprime (coprime_two_pow hp 54) ?_
  calc toFold p x * 2 ^ 54 ≡ fold3 p x * foldCube p [MOD p] := fold3_mul_modEq hp _
    _ ≡ fold3 p x * 2 ^ 162 [MOD p] := (Nat.mod_modEq _ _).mul_left _
    _ = fold3 p x * 2 ^ 54 * 2 ^ 108 := by ring
    _ ≡ x * 2 ^ 108 [MOD p] := (fold3_mul_modEq hp x).mul_right _
    _ = x * 2 ^ 54 * 2 ^ 54 := by ring

theorem toFold_lt {p : Nat} (hp : 2 ^ 31 < p) (hp32 : p < 2 ^ 32) {x : Nat} (hx : x < 2 ^ 64) : toFold p x < p :=
  fold3_lt hp (mul_lt_of_residues hp32 (fold3_lt hp hx) (foldCube_lt (by omega)))

/-- Settles O16: three exact folds divide by 2 ^ 54 modulo p, and one subtraction of p brings what they leave below p. -/
theorem foldReductionIsExact : Obligations.FoldReductionIsExact :=
  fun _ x hp hp31 _ hx => ⟨fold3_lt hp31 hx, fold3_mul_modEq hp x⟩

/-- Settles O29: sums and differences need one correction by p, a product is one fold reduction, and fold form is two. -/
theorem residueOperationsAreExact : Obligations.ResidueOperationsAreExact :=
  fun _ a b hp hp31 hp32 ha hb => ⟨addMod_eq_mod ha hb, subMod_eq_mod ha hb, negMod_eq_mod ha,
    fold3_lt hp31 (mul_lt_of_residues hp32 ha hb), fold3_mul_modEq hp (a * b),
    fun x hx => ⟨toFold_lt hp31 hp32 hx, toFold_modEq hp x⟩⟩

end Sys2Proof.Machine
end

section
/-! PROOF. What the ring commands write for known operands (Table 6.6, R169-R171). -/

namespace Sys2Proof.Machine

theorem knownPolys_getD (f : Nat → List Nat) (i : Nat) (l : List El) : (knownPolys f i).getD l = knownLimb (f i) := rfl

/-- An operation on known values gives known values. -/
theorem zipWith_map2_knownLimb (f : Nat → Nat → Nat) (x y : List Nat) :
    List.zipWith (El.map2 f) (knownLimb x) (knownLimb y) = knownLimb (List.zipWith f x y) := by
  rw [knownLimb, knownLimb, knownLimb, List.zipWith_map, List.map_zipWith]
  rfl

theorem map_map_knownLimb (f : Nat → Nat) (x : List Nat) : (knownLimb x).map (El.map f) = knownLimb (x.map f) := by
  rw [knownLimb, knownLimb, List.map_map, List.map_map]
  rfl

section RingOut

variable {w : CmdWord} {p n : Nat} {a b d : Nat → List Nat} {k : Nat}

theorem ringOut_radd (h : opcodeOf w = 0x41) :
    ringOut w p n a b d k 1 = [knownLimb (addPoly p (a 0) (b 0)), knownLimb (addPoly p (a 1) (b 1))] ∧
      ringOut w p n a b d k 2 = [knownLimb (addPoly p (a 0) (b 0)), knownLimb (a 1)] := by
  simp [ringOut, ringLimb, h, knownPolys_getD, zipWith_map2_knownLimb, addPoly]

theorem ringOut_rsub (h : opcodeOf w = 0x42) :
    ringOut w p n a b d k 1 = [knownLimb (subPoly p (a 0) (b 0)), knownLimb (subPoly p (a 1) (b 1))] ∧
      ringOut w p n a b d k 2 = [knownLimb (subPoly p (a 0) (b 0)), knownLimb (a 1)] := by
  simp [ringOut, ringLimb, h, knownPolys_getD, zipWith_map2_knownLimb, subPoly]

theorem ringOut_rneg (h : opcodeOf w = 0x43) :
    ringOut w p n a b d k 1 = (List.range k).map (fun i => knownLimb ((a i).map (negMod p))) := by
  simp [ringOut, ringLimb, h, knownPolys_getD, map_map_knownLimb]

theorem ringOut_rmul (h : opcodeOf w = 0x44) :
    ringOut w p n a b d k 1 = [knownLimb (mulPoint p (a 0) (b 0)),
        knownLimb (addPoly p (mulPoint p (a 0) (b 1)) (mulPoint p (a 1) (b 0))), knownLimb (mulPoint p (a 1) (b 1))] ∧
      ringOut w p n a b d k 2 = [knownLimb (mulPoint p (a 0) (b 0)), knownLimb (mulPoint p (a 1) (b 0))] := by
  simp [ringOut, ringLimb, h, knownPolys_getD, zipWith_map2_knownLimb, addPoly, mulPoint]

theorem ringOut_rmac (h : opcodeOf w = 0x45) :
    ringOut w p n a b d k 2 = [knownLimb (addPoly p (d 0) (mulPoint p (a 0) (b 0))),
      knownLimb (addPoly p (d 1) (mulPoint p (a 1) (b 0)))] := by
  simp [ringOut, ringLimb, h, knownPolys_getD, zipWith_map2_knownLimb, addPoly, mulPoint, List.range_succ]

theorem ringOut_rmuls (h : opcodeOf w = 0x46) :
    ringOut w p n a b d k 1 = (List.range k).map (fun i => knownLimb ((a i).map (fun v => mulMod p v (toFold p (argOf w))))) := by
  simp [ringOut, ringLimb, h, knownPolys_getD, map_map_knownLimb]

theorem ringOut_mov (h : opcodeOf w = 0x4A) : ringOut w p n a b d k 1 = (List.range k).map (fun i => knownLimb (a i)) := by
  simp [ringOut, ringLimb, h, knownPolys_getD]

end RingOut

end Sys2Proof.Machine
end

section
/-! PROOF. The forward transform is linear (R43): each of its blocks takes element-wise sums to element-wise sums, so do the stages built
of them, and every step keeps the length and leaves elements below p. -/

namespace Sys2Proof.Machine

/-- n elements, each below p: a polynomial of n residues. -/
def Residues (p n : Nat) (l : List Nat) : Prop := l.length = n ∧ ∀ x ∈ l, x < p

theorem addMod_lt {p a b : Nat} (ha : a < p) (hb : b < p) : addMod p a b < p := by
  unfold addMod
  split_ifs <;> omega

theorem subMod_lt {p a b : Nat} (ha : a < p) (hb : b < p) : subMod p a b < p := by
  unfold subMod
  split_ifs <;> omega

theorem addMod_addMod_comm {p a b c d : Nat} (ha : a < p) (hb : b < p) (hc : c < p) (hd : d < p) :
    addMod p (addMod p a b) (addMod p c d) = addMod p (addMod p a c) (addMod p b d) := by
  unfold addMod
  split_ifs <;> omega

theorem subMod_addMod_comm {p a b c d : Nat} (ha : a < p) (hb : b < p) (hc : c < p) (hd : d < p) :
    subMod p (addMod p a b) (addMod p c d) = addMod p (subMod p a c) (subMod p b d) := by
  unfold addMod subMod
  split_ifs <;> omega

theorem addMod_mul_mod {p a b : Nat} (w : Nat) (ha : a < p) (hb : b < p) :
    addMod p a b * w % p = addMod p (a * w % p) (b * w % p) := by
  have hp : 0 < p := by omega
  rw [addMod_eq_mod ha hb, addMod_eq_mod (Nat.mod_lt _ hp) (Nat.mod_lt _ hp), Nat.mod_mul_mod, ← Nat.add_mod, Nat.add_mul]

section Residues

variable {p n : Nat} {a b c d : List Nat}

theorem Residues.take (h : Residues p n a) {m : Nat} (hm : m ≤ n) : Residues p m (a.take m) :=
  ⟨by rw [List.length_take, h.1, min_eq_left hm], fun x hx => h.2 x (List.mem_of_mem_take hx)⟩

theorem Residues.drop (h : Residues p n a) (m : Nat) : Residues p (n - m) (a.drop m) :=
  ⟨by rw [List.length_drop, h.1], fun x hx => h.2 x (List.mem_of_mem_drop hx)⟩

theorem Residues.append {m : Nat} (h : Residues p n a) (g : Residues p m b) : Residues p (n + m) (a ++ b) :=
  ⟨by rw [List.length_append, h.1, g.1], fun x hx => (List.mem_append.mp hx).elim (h.2 x) (g.2 x)⟩

theorem Residues.zipWith {f : Nat → Nat → Nat} (hf : ∀ {x y}, x < p → y < p → f x y < p) (ha : Residues p n a)
    (hb : Residues p n b) : Residues p n (List.zipWith f a b) := by
  refine ⟨by rw [List.length_zipWith, ha.1, hb.1, min_self], fun x hx => ?_⟩
  obtain ⟨i, hi, rfl⟩ := List.getElem_of_mem hx
  rw [List.getElem_zipWith]
  exact hf (ha.2 _ (List.getElem_mem _)) (hb.2 _ (List.getElem_mem _))

/-- Element-wise sums pass an element-wise operation that passes sums of residues. -/
theorem zipWith_addPoly {f : Nat → Nat → Nat}
    (hf : ∀ {x y z u}, x < p → y < p → z < p → u < p → f (addMod p x y) (addMod p z u) = addMod p (f x z) (f y u))
    (ha : Residues p n a) (hb : Residues p n b) (hc : Residues p n c) (hd : Residues p n d) :
    List.zipWith f (addPoly p a b) (addPoly p c d) = addPoly p (List.zipWith f a c) (List.zipWith f b d) := by
  refine List.ext_getElem (by simp [addPoly, ha.1, hb.1, hc.1, hd.1]) (fun i _ _ => ?_)
  simp only [addPoly, List.getElem_zipWith]
  exact hf (ha.2 _ (List.getElem_mem _)) (hb.2 _ (List.getElem_mem _)) (hc.2 _ (List.getElem_mem _)) (hd.2 _ (List.getElem_mem _))

theorem addPoly_append (h : a.length = b.length) : addPoly p (a ++ c) (b ++ d) = addPoly p a b ++ addPoly p c d :=
  List.zipWith_append h

theorem addPoly_take (m : Nat) : (addPoly p a b).take m = addPoly p (a.take m) (b.take m) := List.take_zipWith

theorem addPoly_drop (m : Nat) : (addPoly p a b).drop m = addPoly p (a.drop m) (b.drop m) := List.drop_zipWith

end Residues

/-- A map of polynomials of n residues that takes sums to sums. -/
structure LinearOn (p n : Nat) (F : List Nat → List Nat) : Prop where
  keeps : ∀ {a}, Residues p n a → Residues p n (F a)
  add : ∀ {a b}, Residues p n a → Residues p n b → F (addPoly p a b) = addPoly p (F a) (F b)

theorem LinearOn.comp {p n : Nat} {F G : List Nat → List Nat} (hG : LinearOn p n G) (hF : LinearOn p n F) :
    LinearOn p n (fun a => G (F a)) :=
  ⟨fun ha => hG.keeps (hF.keeps ha), fun ha hb => by rw [hF.add ha hb, hG.add (hF.keeps ha) (hF.keeps hb)]⟩

/-- Multiplication by a twiddle. -/
theorem linearOn_twiddle {p : Nat} (n w : Nat) (hp : 0 < p) : LinearOn p n (fun l => l.map (fun x => x * w % p)) := by
  refine ⟨fun ha => ⟨by rw [List.length_map, ha.1], fun x hx => ?_⟩, fun {a b} ha hb => ?_⟩
  · obtain ⟨y, -, rfl⟩ := List.mem_map.mp hx
    exact Nat.mod_lt _ hp
  · refine List.ext_getElem (by simp [addPoly]) (fun i _ _ => ?_)
    simp only [addPoly, List.getElem_map, List.getElem_zipWith]
    exact addMod_mul_mod w (ha.2 _ (List.getElem_mem _)) (hb.2 _ (List.getElem_mem _))

section Block

variable {p t : Nat} (w : Nat) {lo hi lo' hi' : List Nat} (hp : 0 < p) (hlo : Residues p t lo) (hhi : Residues p t hi)

include hp hlo hhi

theorem residues_nttBlock : Residues p (2 * t) (nttBlock p w lo hi) := by
  have hv := (linearOn_twiddle t w hp).keeps hhi
  rw [two_mul]
  exact (hlo.zipWith addMod_lt hv).append (hlo.zipWith subMod_lt hv)

theorem nttBlock_addPoly (hlo' : Residues p t lo') (hhi' : Residues p t hi') :
    nttBlock p w (addPoly p lo lo') (addPoly p hi hi') = addPoly p (nttBlock p w lo hi) (nttBlock p w lo' hi') := by
  have hlin := linearOn_twiddle t w hp
  have hv := hlin.keeps hhi
  have hv' := hlin.keeps hhi'
  simp only [nttBlock]
  rw [hlin.add hhi hhi', zipWith_addPoly addMod_addMod_comm hlo hlo' hv hv', zipWith_addPoly subMod_addMod_comm hlo hlo' hv hv',
    addPoly_append]
  rw [(hlo.zipWith addMod_lt hv).1, (hlo'.zipWith addMod_lt hv').1]

end Block

/-- n blocks of 2 * t elements, one after another. -/
theorem linearOn_nttBlocks {p : Nat} (psi k m t : Nat) (hp : 0 < p) (n : Nat) :
    ∀ i, LinearOn p (n * (2 * t)) (nttBlocks p psi k m t n i) := by
  induction n with
  | zero => exact fun i => ⟨fun _ => ⟨by simp [nttBlocks], by simp [nttBlocks]⟩, fun _ _ => rfl⟩
  | succ n ih =>
    intro i
    have hlen : (n + 1) * (2 * t) - 2 * t = n * (2 * t) := by rw [Nat.succ_mul, Nat.add_sub_cancel]
    have hle : 2 * t ≤ (n + 1) * (2 * t) := Nat.le_mul_of_pos_left _ n.succ_pos
    have hparts : ∀ {a}, Residues p ((n + 1) * (2 * t)) a →
        Residues p t (a.take t) ∧ Residues p t ((a.drop t).take t) ∧ Residues p (n * (2 * t)) (a.drop (2 * t)) :=
      fun ha => ⟨ha.take (by omega), (ha.drop t).take (by omega), hlen ▸ ha.drop (2 * t)⟩
    refine ⟨fun {a} ha => ?_, fun {a b} ha hb => ?_⟩
    · obtain ⟨hlo, hhi, hrest⟩ := hparts ha
      rw [Nat.succ_mul, Nat.add_comm]
      exact (residues_nttBlock _ hp hlo hhi).append ((ih (i + 1)).keeps hrest)
    · obtain ⟨hlo, hhi, hrest⟩ := hparts ha
      obtain ⟨hlo', hhi', hrest'⟩ := hparts hb
      simp only [nttBlocks, addPoly_take, addPoly_drop]
      rw [nttBlock_addPoly _ hp hlo hhi hlo' hhi', (ih (i + 1)).add hrest hrest', addPoly_append]
      rw [(residues_nttBlock _ hp hlo hhi).1, (residues_nttBlock _ hp hlo' hhi').1]

/-- Stage j has 2 ^ j blocks of 2 ^ (k - j) elements. -/
theorem stage_length {k j : Nat} (hj : j < k) : 2 ^ j * (2 * (2 ^ k / 2 ^ (j + 1))) = 2 ^ k := by
  rw [Nat.pow_div hj two_pos, ← pow_succ', ← pow_add]
  congr 1
  omega

theorem linearOn_nttStages {p : Nat} (psi k : Nat) (hp : 0 < p) (n : Nat) :
    ∀ j, j + n = k → LinearOn p (2 ^ k) (nttStages p psi k n j) := by
  induction n with
  | zero => exact fun j _ => ⟨fun ha => ha, fun _ _ => rfl⟩
  | succ n ih =>
    intro j hj
    have hstage := linearOn_nttBlocks psi k (2 ^ j) (2 ^ k / 2 ^ (j + 1)) hp (2 ^ j) 0
    rw [stage_length (by omega)] at hstage
    exact (ih (j + 1) (by omega)).comp hstage

theorem linearOn_nttForward {p : Nat} (root k : Nat) (hp : 0 < p) : LinearOn p (2 ^ k) (nttForward p root k) :=
  linearOn_nttStages _ k hp k 0 (Nat.zero_add k)

/-- Settles O30: each opcode's branch on known values, and linearity stage by stage. -/
theorem ringCommandsComputeTheirLimbs : Obligations.RingCommandsComputeTheirLimbs := by
  refine ⟨fun w p n a b d k _ => ⟨ringOut_radd, ringOut_rsub, ringOut_rneg, ringOut_rmul, ringOut_rmac, ringOut_rmuls, ringOut_mov⟩,
    fun p root k a b hp ha hb hap hbp => ?_⟩
  have hlin := linearOn_nttForward root k hp
  obtain ⟨hlen, hlt⟩ := hlin.keeps (a := a) ⟨ha, hap⟩
  exact ⟨hlin.add ⟨ha, hap⟩ ⟨hb, hbp⟩, hlen, hlt⟩

end Sys2Proof.Machine
end

section
/-! PROOF. The checker of the prime and chain tables: what the writes of its command registers latch, and when they only set OVERRUN
(R30-R32, R35, R36). -/

namespace Sys2Proof.Machine

theorem State.resolve_primeCmd (s : State) : s.resolve Reg.DEVCTL_PRIME_CMD = some Reg.DEVCTL_PRIME_CMD := by
  simp [State.resolve, logicalAt, Reg.DEVCTL_PRIME_CMD]

theorem State.resolve_chainCmd (s : State) : s.resolve Reg.DEVCTL_CHAIN_CMD = some Reg.DEVCTL_CHAIN_CMD := by
  simp [State.resolve, logicalAt, Reg.DEVCTL_CHAIN_CMD]

theorem State.busWrite_primeCmd {s : State} {vw : View} (hw : s.writable vw Reg.DEVCTL_PRIME_CMD = true) (data : Reg64) :
    s.busWrite vw Reg.DEVCTL_PRIME_CMD data = s.primeCmd data :=
  State.busWrite_of_writeReg hw s.resolve_primeCmd rfl

theorem State.busWrite_chainCmd {s : State} {vw : View} (hw : s.writable vw Reg.DEVCTL_CHAIN_CMD = true) (data : Reg64) :
    s.busWrite vw Reg.DEVCTL_CHAIN_CMD data = s.chainCmd data :=
  State.busWrite_of_writeReg hw s.resolve_chainCmd rfl

/-- A register written by its access codes: every other register is as before. -/
theorem State.regsApart_soft (s : State) (k : Nat) (data : Reg64) : RegsApart s (s.soft k data) [k] :=
  fun _ hk => State.reg_setReg_ne s _ (fun e => hk (e ▸ List.mem_singleton_self k))

theorem getBits_ofNat {n hi lo v : Nat} (hn : n < 2 ^ 64) (hv : n / 2 ^ lo % 2 ^ (hi + 1 - lo) = v) :
    getBits (BitVec.ofNat 64 n) hi lo = v := by
  rw [getBits, bits, BitVec.toNat_ofNat, Nat.mod_eq_of_lt hn, Nat.shiftRight_eq_div_pow, hv]

theorem getLsbD_ofNat {n i : Nat} {b : Bool} (hi : i < 64) (hb : decide (n / 2 ^ i % 2 = 1) = b) :
    (BitVec.ofNat 64 n).getLsbD i = b := by
  rw [BitVec.getLsbD_ofNat, Nat.testBit_eq_decide_div_mod_eq, hb, decide_eq_true hi, Bool.true_and]

/-- The verbs of a command word, LOAD (63) or DELETE (62), above its other fields. -/
theorem getLsbD_verb {v n : Nat} (hv : v = 62 ∨ v = 63) (hn : n < 2 ^ 62) :
    (BitVec.ofNat 64 (2 ^ v + n)).getLsbD 63 = decide (v = 63) ∧ (BitVec.ofNat 64 (2 ^ v + n)).getLsbD 62 = decide (v = 62) := by
  rcases hv with rfl | rfl
  · exact ⟨getLsbD_ofNat (by decide) (decide_eq_false (by omega)), getLsbD_ofNat (by decide) (decide_eq_true (by omega))⟩
  · exact ⟨getLsbD_ofNat (by decide) (decide_eq_true (by omega)), getLsbD_ofNat (by decide) (decide_eq_false (by omega))⟩

/-- The word that PRIME_LOAD and PRIME_DELETE write. -/
theorem primeWord_fields {v i : Nat} (hv : v = 62 ∨ v = 63) (hi : i < 2 ^ 7) :
    (word [(v, 1), (0, i)]).getLsbD 63 = decide (v = 63) ∧ (word [(v, 1), (0, i)]).getLsbD 62 = decide (v = 62) ∧
      getBits (word [(v, 1), (0, i)]) 6 0 = i := by
  have hword : word [(v, 1), (0, i)] = BitVec.ofNat 64 (2 ^ v + i) := by simp [word]
  obtain ⟨hload, hdel⟩ := getLsbD_verb (n := i) hv (by omega)
  rw [hword]
  refine ⟨hload, hdel, ?_⟩
  rcases hv with rfl | rfl <;> exact getBits_ofNat (by omega) (by omega)

/-- The word that CHAIN_LOAD and CHAIN_DELETE write. -/
theorem chainWord_fields {v ord spc c : Nat} (hv : v = 62 ∨ v = 63) (hord : ord < 2 ^ 7) (hspc : spc < 2 ^ 5) (hc : c < 2 ^ 5) :
    (word [(v, 1), (16, ord), (8, spc), (0, c)]).getLsbD 63 = decide (v = 63) ∧
      (word [(v, 1), (16, ord), (8, spc), (0, c)]).getLsbD 62 = decide (v = 62) ∧
      getBits (word [(v, 1), (16, ord), (8, spc), (0, c)]) 22 16 = ord ∧
      getBits (word [(v, 1), (16, ord), (8, spc), (0, c)]) 12 8 = spc ∧ getBits (word [(v, 1), (16, ord), (8, spc), (0, c)]) 4 0 = c := by
  have hword : word [(v, 1), (16, ord), (8, spc), (0, c)] = BitVec.ofNat 64 (2 ^ v + (ord * 2 ^ 16 + spc * 2 ^ 8 + c)) := by
    simp [word, Nat.add_assoc]
  obtain ⟨hload, hdel⟩ := getLsbD_verb (n := ord * 2 ^ 16 + spc * 2 ^ 8 + c) hv (by omega)
  rw [hword]
  refine ⟨hload, hdel, ?_⟩
  rcases hv with rfl | rfl <;>
    exact ⟨getBits_ofNat (by omega) (by omega), getBits_ofNat (by omega) (by omega), getBits_ofNat (by omega) (by omega)⟩

section Commands

variable {s : State} {data : Reg64}

/-- One verb, and the checker is idle: the slot, its INUSE and the stage registers are latched (R30). -/
theorem State.primeCmd_of_idle (hop : s.primes.op = none) (hverb : data.getLsbD 62 = !data.getLsbD 63) :
    s.primeCmd data = (s.soft Reg.DEVCTL_PRIME_CMD data).setChecker (some (if data.getLsbD 63 then
      .primeLoad (getBits data 6 0) (s.primeInUse (getBits data 6 0)) (s.reg Reg.DEVCTL_PRIME_STAGE) (s.reg Reg.DEVCTL_PRIME_ROOT_STAGE)
      else .primeDelete (getBits data 6 0) (s.primeInUse (getBits data 6 0)))) := by
  simp only [State.primeCmd, hop, hverb]
  cases data.getLsbD 63 <;> rfl

theorem State.chainCmd_of_idle (hop : s.primes.op = none) (hverb : data.getLsbD 62 = !data.getLsbD 63) :
    s.chainCmd data = (s.soft Reg.DEVCTL_CHAIN_CMD data).setChecker (some (if data.getLsbD 63 then
      .chainLoad (getBits data 4 0) (s.chainInUse (getBits data 4 0)) (getBits data 22 16) (getBits data 12 8) s.chainStage
      else .chainDelete (getBits data 4 0) (s.chainInUse (getBits data 4 0)))) := by
  simp only [State.chainCmd, hop, hverb]
  cases data.getLsbD 63 <;> rfl

/-- A verb while the checker is busy, or both verbs at once: only OVERRUN (R32). -/
theorem State.primeCmd_of_overrun (hany : (data.getLsbD 63 || data.getLsbD 62) = true)
    (h : (data.getLsbD 63 && data.getLsbD 62 || s.primes.op.isSome) = true) :
    s.primeCmd data = s.wr Fld.DEVCTL_PRIME_STATUS_OVERRUN 1 := by
  have hverb : (!data.getLsbD 63 && !data.getLsbD 62) = false := by rw [← Bool.not_or, hany, Bool.not_true]
  simp only [State.primeCmd, hverb, h, Bool.false_eq_true, if_false, if_true]
  rfl

theorem State.chainCmd_of_overrun (hany : (data.getLsbD 63 || data.getLsbD 62) = true)
    (h : (data.getLsbD 63 && data.getLsbD 62 || s.primes.op.isSome) = true) :
    s.chainCmd data = s.wr Fld.DEVCTL_CHAIN_STATUS_OVERRUN 1 := by
  have hverb : (!data.getLsbD 63 && !data.getLsbD 62) = false := by rw [← Bool.not_or, hany, Bool.not_true]
  simp only [State.chainCmd, hverb, h, Bool.false_eq_true, if_false, if_true]
  rfl

end Commands

/-- The two verbs of a command register. -/
theorem verb_exclusive {v : Nat} (hv : v = 62 ∨ v = 63) :
    (decide (v = 62) = !decide (v = 63)) ∧ (decide (v = 63) || decide (v = 62)) = true := by
  rcases hv with rfl | rfl <;> decide

section Words

variable {s : State} {vw : View} {v : Nat}

theorem State.busWrite_primeWord_of_idle (hw : s.writable vw Reg.DEVCTL_PRIME_CMD = true) (hop : s.primes.op = none)
    (hv : v = 62 ∨ v = 63) (i : BitVec 7) :
    s.busWrite vw Reg.DEVCTL_PRIME_CMD (word [(v, 1), (0, i.toNat)]) =
      (s.soft Reg.DEVCTL_PRIME_CMD (word [(v, 1), (0, i.toNat)])).setChecker (some (if v = 63 then
        .primeLoad i.toNat (s.primeInUse i.toNat) (s.reg Reg.DEVCTL_PRIME_STAGE) (s.reg Reg.DEVCTL_PRIME_ROOT_STAGE)
        else .primeDelete i.toNat (s.primeInUse i.toNat))) := by
  obtain ⟨hload, hdel, hi⟩ := primeWord_fields hv i.isLt
  rw [State.busWrite_primeCmd hw, State.primeCmd_of_idle hop (by rw [hload, hdel, (verb_exclusive hv).1]), hload, hi]
  simp only [decide_eq_true_eq]

theorem State.busWrite_chainWord_of_idle (hw : s.writable vw Reg.DEVCTL_CHAIN_CMD = true) (hop : s.primes.op = none)
    (hv : v = 62 ∨ v = 63) (ord : BitVec 7) (spc c : BitVec 5) :
    s.busWrite vw Reg.DEVCTL_CHAIN_CMD (word [(v, 1), (16, ord.toNat), (8, spc.toNat), (0, c.toNat)]) =
      (s.soft Reg.DEVCTL_CHAIN_CMD (word [(v, 1), (16, ord.toNat), (8, spc.toNat), (0, c.toNat)])).setChecker (some (if v = 63 then
        .chainLoad c.toNat (s.chainInUse c.toNat) ord.toNat spc.toNat s.chainStage
        else .chainDelete c.toNat (s.chainInUse c.toNat))) := by
  obtain ⟨hload, hdel, hord, hspc, hc⟩ := chainWord_fields hv ord.isLt spc.isLt c.isLt
  rw [State.busWrite_chainCmd hw, State.chainCmd_of_idle hop (by rw [hload, hdel, (verb_exclusive hv).1]), hload, hord, hspc, hc]
  simp only [decide_eq_true_eq]

theorem State.busWrite_primeWord_of_busy (hw : s.writable vw Reg.DEVCTL_PRIME_CMD = true) (hop : s.primes.op.isSome = true)
    (hv : v = 62 ∨ v = 63) (i : BitVec 7) :
    s.busWrite vw Reg.DEVCTL_PRIME_CMD (word [(v, 1), (0, i.toNat)]) = s.wr Fld.DEVCTL_PRIME_STATUS_OVERRUN 1 := by
  obtain ⟨hload, hdel, -⟩ := primeWord_fields hv i.isLt
  rw [State.busWrite_primeCmd hw, State.primeCmd_of_overrun (by rw [hload, hdel, (verb_exclusive hv).2]) (by rw [hop, Bool.or_true])]

theorem State.busWrite_chainWord_of_busy (hw : s.writable vw Reg.DEVCTL_CHAIN_CMD = true) (hop : s.primes.op.isSome = true)
    (hv : v = 62 ∨ v = 63) (ord : BitVec 7) (spc c : BitVec 5) :
    s.busWrite vw Reg.DEVCTL_CHAIN_CMD (word [(v, 1), (16, ord.toNat), (8, spc.toNat), (0, c.toNat)]) =
      s.wr Fld.DEVCTL_CHAIN_STATUS_OVERRUN 1 := by
  obtain ⟨hload, hdel, -⟩ := chainWord_fields hv ord.isLt spc.isLt c.isLt
  rw [State.busWrite_chainCmd hw, State.chainCmd_of_overrun (by rw [hload, hdel, (verb_exclusive hv).2]) (by rw [hop, Bool.or_true])]

end Words

/-- A latched operation changes the command register and the checker alone. -/
theorem exec_latched {c : Instr} {s u : State} {k : Nat} {data : Reg64} {op : CheckerOp} (h : exec c s = .next u)
    (hu : u = (s.soft k data).setChecker (some op)) :
    ∃ t, exec c s = .next t ∧ t = { s with regs := t.regs, primes := t.primes } ∧ t.primes = { s.primes with op := some op } ∧
      RegsApart s t [k] := by
  subst hu
  exact ⟨_, h, rfl, rfl, s.regsApart_soft k data⟩

/-- Settles O13: each command writes its register with one verb, and the idle checker latches. -/
theorem checkerOperationsLatchTheirStage : Obligations.CheckerOperationsLatchTheirStage := by
  refine ⟨fun s vw i hw hop => ⟨?_, ?_⟩, fun s vw ord spc c hw hop => ⟨?_, ?_⟩⟩
  · exact exec_latched rfl (State.busWrite_primeWord_of_idle hw hop (.inr rfl) i)
  · exact exec_latched rfl (State.busWrite_primeWord_of_idle hw hop (.inl rfl) i)
  · exact exec_latched rfl (State.busWrite_chainWord_of_idle hw hop (.inr rfl) ord spc c)
  · exact exec_latched rfl (State.busWrite_chainWord_of_idle hw hop (.inl rfl) ord spc c)

/-- Settles O14: the busy checker takes no verb, and two verbs at once are none. -/
theorem checkerBusySetsOverrunOnly : Obligations.CheckerBusySetsOverrunOnly := by
  refine ⟨fun s vw i hw hop => ⟨?_, ?_⟩, fun s vw ord spc c hw hop => ⟨?_, ?_⟩,
    fun s vw d hload hdel => ⟨fun hw => ?_, fun hw => ?_⟩⟩
  · exact congrArg Host.Outcome.next (State.busWrite_primeWord_of_busy hw hop (.inr rfl) i)
  · exact congrArg Host.Outcome.next (State.busWrite_primeWord_of_busy hw hop (.inl rfl) i)
  · exact congrArg Host.Outcome.next (State.busWrite_chainWord_of_busy hw hop (.inr rfl) ord spc c)
  · exact congrArg Host.Outcome.next (State.busWrite_chainWord_of_busy hw hop (.inl rfl) ord spc c)
  · exact congrArg Host.Outcome.next ((State.busWrite_primeCmd hw d).trans
      (State.primeCmd_of_overrun (by rw [hload, Bool.true_or]) (by rw [hload, hdel, Bool.and_self, Bool.true_or])))
  · exact congrArg Host.Outcome.next ((State.busWrite_chainCmd hw d).trans
      (State.chainCmd_of_overrun (by rw [hload, Bool.true_or]) (by rw [hload, hdel, Bool.and_self, Bool.true_or])))

end Sys2Proof.Machine
end

section
/-! PROOF. What the completions of the checker leave in the prime table, the chains and their status registers (R30, R31, R33, R35, R36). -/

namespace Sys2Proof.Machine

theorem nodup_eraseDups {α : Type} [BEq α] [LawfulBEq α] : ∀ l : List α, l.eraseDups.Nodup
  | [] => List.nodup_nil
  | a :: l => by
    rw [List.eraseDups_cons, List.nodup_cons, List.mem_eraseDups]
    exact ⟨by simp, nodup_eraseDups _⟩
  termination_by l => l.length
  decreasing_by exact Nat.lt_succ_of_le (List.length_filter_le _ _)

/-- Erasing what repeats keeps the length of a list without repetition alone. -/
theorem length_eraseDups_eq_iff {α : Type} [DecidableEq α] {l : List α} : l.eraseDups.length = l.length ↔ l.Nodup := by
  have hperm : l.eraseDups.Perm l.dedup :=
    (List.perm_ext_iff_of_nodup (nodup_eraseDups l) l.nodup_dedup).mpr (fun a => by rw [List.mem_eraseDups, List.mem_dedup])
  rw [hperm.length_eq, ← List.dedup_eq_self]
  exact ⟨(List.dedup_sublist l).eq_of_length, congrArg List.length⟩

theorem primeVerdict_lt (u : Bool) (e : PrimeEnt) : primeVerdict u e < 2 ^ 4 := by
  unfold primeVerdict
  split_ifs <;> decide

/-- The conditions on a chain in their order (R35). -/
theorem State.chainVerdict_eq (s : State) (u : Bool) (ord spc : Nat) {idx used : List Nat}
    (hused : used = idx.take ord ++ (idx.drop 64).take spc) :
    s.chainVerdict u ord spc idx =
      if u then 1 else if ¬ (1 ≤ ord ∧ ord ≤ 64 ∧ spc ≤ 16) then 8 else if ∃ i ∈ used, (s.primeEnt i).valid = false then 9
        else if ¬ (used.map (fun i => (s.primeEnt i).p)).Nodup then 0xA else 0 := by
  have hvalid : ¬ used.all (fun i => (s.primeEnt i).valid) = true ↔ ∃ i ∈ used, (s.primeEnt i).valid = false := by
    simp only [List.all_eq_true, not_forall, Bool.not_eq_true, exists_prop]
  subst hused
  exact if_congr Iff.rfl rfl (if_congr Iff.rfl rfl (if_congr hvalid rfl (if_congr (not_congr length_eraseDups_eq_iff) rfl rfl)))

theorem State.chainVerdict_lt (s : State) (u : Bool) (ord spc : Nat) (idx : List Nat) : s.chainVerdict u ord spc idx < 2 ^ 4 := by
  rw [s.chainVerdict_eq u ord spc rfl]
  split_ifs <;> decide

theorem State.primeEnt_setPrime (s : State) (i j : Nat) (e : PrimeEnt) :
    (s.setPrime i e).primeEnt j = if j = i then e else s.primeEnt j := Sparse.get_set _ _ _ _ _

theorem State.chainEnt_setChain (s : State) (c d : Nat) (e : ChainEnt) :
    (s.setChain c e).chainEnt d = if d = c then e else s.chainEnt d := Sparse.get_set _ _ _ _ _

/-- The fields of a status register that the end of an operation writes: DONE, the target and RESULT, from the highest down. -/
structure StatusFields (k : Nat) (done target result : Fld) : Prop where
  keys : done.key = k ∧ target.key = k ∧ result.key = k
  order : result.hi < target.lo ∧ target.hi < done.lo ∧ done.hi < 64
  places : result.lo ≤ result.hi ∧ target.lo ≤ target.hi ∧ done.lo ≤ done.hi

theorem primeStatus_fields : StatusFields Reg.DEVCTL_PRIME_STATUS Fld.DEVCTL_PRIME_STATUS_DONE Fld.DEVCTL_PRIME_STATUS_INDEX
    Fld.DEVCTL_PRIME_STATUS_RESULT := by
  constructor <;> decide

theorem chainStatus_fields : StatusFields Reg.DEVCTL_CHAIN_STATUS Fld.DEVCTL_CHAIN_STATUS_DONE Fld.DEVCTL_CHAIN_STATUS_CHAIN
    Fld.DEVCTL_CHAIN_STATUS_RESULT := by
  constructor <;> decide

/-- What a status register shows once an operation on target i has ended with r. -/
theorem StatusFields.spec {k : Nat} {done target result : Fld} (h : StatusFields k done target result) (s : State) {i r : Nat}
    (hi : i < 2 ^ (target.hi + 1 - target.lo)) (hr : r < 2 ^ (result.hi + 1 - result.lo)) {t : State}
    (ht : t = ((s.wrB done true).wr target i).wr result r) :
    t.flag done = true ∧ t.rd target = i ∧ t.rd result = r ∧ RegsApart s t [k] := by
  obtain ⟨⟨hkd, hkt, hkr⟩, ⟨hrt, htd, hdone64⟩, hresult, htarget, hdone⟩ := h
  subst ht
  refine ⟨?_, ?_, State.rd_wr_of_lt _ (by omega) hresult hr, ?_⟩
  · rw [State.flag_wr_apart _ _ _ _ (.inr ⟨hdone64, .inr (by omega)⟩), State.flag_wr_apart _ _ _ _ (.inr ⟨hdone64, .inr htd⟩),
      State.flag_wrB _ _ hdone64 hdone]
  · rw [State.rd_wr_apart _ _ _ _ (.inr ⟨by omega, .inr hrt⟩), State.rd_wr_of_lt _ (by omega) htarget hi]
  · have hfirst := (RegsApart.of_regs_eq (rfl : s.regs = s.regs) [k]).wr done (if true then 1 else 0) (hkd ▸ List.mem_cons_self)
    exact (hfirst.wr target i (hkt ▸ List.mem_cons_self)).wr result r (hkr ▸ List.mem_cons_self)

/-- The end of a prime operation: the checker is free, the slot takes e if the operation stores, the status follows. -/
theorem State.primeDone_spec {s t : State} {i r : Nat} {e : PrimeEnt} {stores : Prop} [Decidable stores]
    (ht : t = (if stores then (s.setChecker none).setPrime i e else s.setChecker none).primeDone i r) (hi : i < 128) (hr : r < 2 ^ 4) :
    t = { s with regs := t.regs, primes := t.primes } ∧ t.primes.op = none ∧ t.primes.chain = s.primes.chain ∧
      t.primeEnt i = (if stores then e else s.primeEnt i) ∧ (∀ j, j ≠ i → t.primeEnt j = s.primeEnt j) ∧
      t.flag Fld.DEVCTL_PRIME_STATUS_DONE = true ∧ t.rd Fld.DEVCTL_PRIME_STATUS_INDEX = i ∧ t.rd Fld.DEVCTL_PRIME_STATUS_RESULT = r ∧
      RegsApart s t [Reg.DEVCTL_PRIME_STATUS] := by
  have hstatus := fun u : State => primeStatus_fields.spec u hi hr (t := u.primeDone i r) rfl
  subst ht
  split_ifs with h
  · refine ⟨rfl, rfl, rfl, ?_, fun j hj => ?_, hstatus _⟩
    · exact (State.primeEnt_setPrime _ i i e).trans (if_pos rfl)
    · exact (State.primeEnt_setPrime _ i j e).trans (if_neg hj)
  · exact ⟨rfl, rfl, rfl, rfl, fun _ _ => rfl, hstatus _⟩

/-- The end of a chain operation. -/
theorem State.chainDone_spec {s t : State} {c r : Nat} {e : ChainEnt} {stores : Prop} [Decidable stores]
    (ht : t = (if stores then (s.setChecker none).setChain c e else s.setChecker none).chainDone c r) (hc : c < 32) (hr : r < 2 ^ 4) :
    t = { s with regs := t.regs, primes := t.primes } ∧ t.primes.op = none ∧ t.primes.prime = s.primes.prime ∧
      t.chainEnt c = (if stores then e else s.chainEnt c) ∧ (∀ d, d ≠ c → t.chainEnt d = s.chainEnt d) ∧
      t.flag Fld.DEVCTL_CHAIN_STATUS_DONE = true ∧ t.rd Fld.DEVCTL_CHAIN_STATUS_CHAIN = c ∧ t.rd Fld.DEVCTL_CHAIN_STATUS_RESULT = r ∧
      RegsApart s t [Reg.DEVCTL_CHAIN_STATUS] := by
  have hstatus := fun u : State => chainStatus_fields.spec u hc hr (t := u.chainDone c r) rfl
  subst ht
  split_ifs with h
  · refine ⟨rfl, rfl, rfl, ?_, fun d hd => ?_, hstatus _⟩
    · exact (State.chainEnt_setChain _ c c e).trans (if_pos rfl)
    · exact (State.chainEnt_setChain _ c d e).trans (if_neg hd)
  · exact ⟨rfl, rfl, rfl, rfl, fun _ _ => rfl, hstatus _⟩

section Complete

variable {s : State} {i : Nat} {u : Bool}

theorem State.primeComplete_of_load {stage root : Reg64} (hop : s.primes.op = some (.primeLoad i u stage root)) :
    s.primeComplete = (if primeVerdict u (stagedPrime stage root) = 0 then (s.setChecker none).setPrime i (stagedPrime stage root)
      else s.setChecker none).primeDone i (primeVerdict u (stagedPrime stage root)) := by
  simp only [State.primeComplete, hop]

theorem State.primeComplete_of_delete (hop : s.primes.op = some (.primeDelete i u)) :
    s.primeComplete = (if ¬ u = true then (s.setChecker none).setPrime i { s.primeEnt i with valid := false }
      else s.setChecker none).primeDone i (if u then 1 else 0) := by
  simp only [State.primeComplete, hop, ite_not]
  rfl

theorem State.chainComplete_of_load {ord spc : Nat} {idx : List Nat} (hop : s.primes.op = some (.chainLoad i u ord spc idx)) :
    s.chainComplete = (if s.chainVerdict u ord spc idx = 0 then (s.setChecker none).setChain i ⟨true, ord, spc, idx⟩
      else s.setChecker none).chainDone i (s.chainVerdict u ord spc idx) := by
  simp only [State.chainComplete, hop]

theorem State.chainComplete_of_delete (hop : s.primes.op = some (.chainDelete i u)) :
    s.chainComplete = (if ¬ u = true then (s.setChecker none).setChain i { s.chainEnt i with valid := false }
      else s.setChecker none).chainDone i (if u then 1 else 0) := by
  simp only [State.chainComplete, hop, ite_not]
  rfl

end Complete

/-- IN_USE or success: the RESULT of a DELETE. -/
theorem deleteResult_lt (u : Bool) : (if u then 1 else 0) < 2 ^ 4 := by cases u <;> decide

/-- Settles O17: the checker's latched operation decides which end comes, and the verdict what is stored. -/
theorem checkerCompletionsFillOrRefuse : Obligations.CheckerCompletionsFillOrRefuse := by
  refine ⟨⟨fun s i u stage root r hrun hi hop hr => ?_, fun s i u hrun hi hop => ?_⟩,
    fun s c u ord spc idx used hrun hc hop hused => ?_, fun s c u hrun hc hop => ?_⟩
  · subst hr
    exact ⟨_, next_live_of_running hrun _, State.primeDone_spec (State.primeComplete_of_load hop) hi (primeVerdict_lt _ _)⟩
  · have h := State.primeDone_spec (State.primeComplete_of_delete hop) hi (deleteResult_lt u)
    rw [ite_not] at h
    exact ⟨_, next_live_of_running hrun _, h⟩
  · have h := State.chainDone_spec (State.chainComplete_of_load hop) hc (s.chainVerdict_lt u ord spc idx)
    obtain ⟨hframe, hfree, hprime, hrest⟩ := h
    exact ⟨_, _, next_live_of_running hrun _, hframe, hfree, hprime, s.chainVerdict_eq u ord spc hused, hrest⟩
  · have h := State.chainDone_spec (State.chainComplete_of_delete hop) hc (deleteResult_lt u)
    rw [ite_not] at h
    obtain ⟨hframe, hfree, hprime, hent, hother, hdone, -, hrest⟩ := h
    exact ⟨_, next_live_of_running hrun _, hframe, hfree, hprime, hent, hother, hdone, hrest⟩

end Sys2Proof.Machine
end

section
/-! PROOF. No operation of a reset touches the prime table and the chains (R34): one lemma per operation that a reset is made of, in the
order of the model. First the ways in which operations are put together, the log, interrupts and the state of the device. -/

namespace Sys2Proof.Machine

@[simp] theorem State.ite_primes (c : Prop) [Decidable c] (s t : State) :
    (if c then s else t).primes = if c then s.primes else t.primes := apply_ite State.primes c s t

/-- A run of steps that each leave the tables alone leaves them alone. -/
@[simp] theorem State.foldl_primes {α : Type} (f : State → α → State) (h : ∀ s x, (f s x).primes = s.primes) (l : List α)
    (s : State) : (l.foldl f s).primes = s.primes :=
  foldl_read_untouched f State.primes l s (fun x _ t => h t x)

section

variable (s : State)

@[simp] theorem State.live_primes (f : State → State) (h : ∀ t, (f t).primes = t.primes) : (s.live f).primes = s.primes := by
  simp [State.live, h]

@[simp] theorem State.onPcie_primes (f : State → State) (h : ∀ t, (f t).primes = t.primes) : (s.onPcie f).primes = s.primes := by
  simp [State.onPcie, h]

@[simp] theorem State.logOnce_primes (key : Nat) (f : State → State) (h : ∀ t, (f t).primes = t.primes) :
    (s.logOnce key f).primes = s.primes := by
  simp [State.logOnce, h]

@[simp] theorem State.warnOnce_primes (pb : Nat) (j : SlJob) (f : State → State) (h : ∀ t, (f t).primes = t.primes) :
    (s.warnOnce pb j f).primes = s.primes := by
  simp [State.warnOnce, h]

@[simp] theorem State.bump_primes (f : Fld) (n : Nat) : (s.bump f n).primes = s.primes := by simp [State.bump]

@[simp] theorem State.irq_primes (view src : Nat) : (s.irq view src).primes = s.primes := by simp [State.irq]

@[simp] theorem State.irqDevice_primes (src : Nat) : (s.irqDevice src).primes = s.primes := by simp [State.irqDevice]

@[simp] theorem State.setDev_primes (st cause : Nat) : (s.setDev st cause).primes = s.primes := by simp [State.setDev]

@[simp] theorem State.settleActive_primes : s.settleActive.primes = s.primes := by simp [State.settleActive]

@[simp] theorem State.fail_primes (cause : Nat) : (s.fail cause).primes = s.primes := by simp [State.fail]

@[simp] theorem State.setPower_primes (st : PowerSt) : (s.setPower st).primes = s.primes := rfl

end

end Sys2Proof.Machine
end

section
/-! PROOF. The tables under errors and writes of memories, far words served for the Sluice, and what abandonment lets land. -/

namespace Sys2Proof.Machine

variable (s : State)

@[simp] theorem State.benchUncorrectable_primes (pb mem reader addr header : Nat) :
    (s.benchUncorrectable pb mem reader addr header).primes = s.primes := by
  simp [State.benchUncorrectable]

@[simp] theorem State.basinCorrected_primes (l reader addr : Nat) : (s.basinCorrected l reader addr).primes = s.primes := by
  simp [State.basinCorrected]

@[simp] theorem State.basinUncorrectable_primes (l reader addr tenant header : Nat) :
    (s.basinUncorrectable l reader addr tenant header).primes = s.primes := by
  simp [State.basinUncorrectable]

@[simp] theorem State.hbmCorrected_primes (c reader addr : Nat) : (s.hbmCorrected c reader addr).primes = s.primes := by
  simp [State.hbmCorrected]

@[simp] theorem State.markMapOut_primes (c cause count : Nat) : (s.markMapOut c cause count).primes = s.primes := by
  simp [State.markMapOut]

@[simp] theorem State.hbmUncorrectable_primes (c reader addr tenant header : Nat) :
    (s.hbmUncorrectable c reader addr tenant header).primes = s.primes := by
  simp [State.hbmUncorrectable]

@[simp] theorem State.setBasin_primes (l : Nat) (m : EMem) : (s.setBasin l m).primes = s.primes := rfl

@[simp] theorem State.setHbmWord_primes (a v : Nat) (poison : Bool) : (s.setHbmWord a v poison).primes = s.primes := by
  unfold State.setHbmWord
  split <;> rfl

@[simp] theorem State.setHbmDwords_primes (a : Nat) (l : List Reg64) : (s.setHbmDwords a l).primes = s.primes := by
  simp [State.setHbmDwords, State.setHbmBytes]

@[simp] theorem State.countHbm_primes (a n : Nat) (write : Bool) : (s.countHbm a n write).primes = s.primes := by
  unfold State.countHbm
  split <;> simp

@[simp] theorem State.serveTag_primes (pb id : Nat) (data : List (Nat × Bool)) : (s.serveTag pb id data).primes = s.primes := rfl

@[simp] theorem State.ownerFault_primes (pb : Nat) (j : SlJob) (e : Exec) (a owner : Nat) :
    (s.ownerFault pb j e a owner).primes = s.primes :=
  s.warnOnce_primes _ _ _ (fun t => t.bump_primes _ _)

/-- A fault of a lease, logged once. -/
@[simp] theorem State.warnOnce_log_primes (pb : Nat) (j : SlJob) (c k i l t : Nat) (d0 : State → Nat) (d1 : Nat) :
    (s.warnOnce pb j (fun s => s.log c k i l t (d0 s) d1)).primes = s.primes :=
  s.warnOnce_primes _ _ _ (fun _ => rfl)

@[simp] theorem State.basinWait_primes (l a : Nat) : (s.basinWait l a).primes = s.primes := by simp [State.basinWait]

@[simp] theorem State.basinAccess_primes (pb id : Nat) (ecc : Ecc) : (s.basinAccess pb id ecc).primes = s.primes := by
  unfold State.basinAccess
  split
  · rfl
  · simp

@[simp] theorem State.hbmAccess_primes (pb id : Nat) (ecc : Ecc) : (s.hbmAccess pb id ecc).primes = s.primes := by
  unfold State.hbmAccess
  split
  · rfl
  · simp

@[simp] theorem State.peerArrival_primes (pb id : Nat) : (s.peerArrival pb id).primes = s.primes := by
  unfold State.peerArrival
  split
  · rfl
  · simp

@[simp] theorem State.serveNow_primes (pb : Nat) (side : FarSide) (id : Nat) : (s.serveNow pb side id).primes = s.primes := by
  cases side <;> simp [State.serveNow]

@[simp] theorem State.writeMaybe_primes (base pb : Nat) (r : WRun) : (s.writeMaybe base pb r).primes = s.primes := by
  simp [State.writeMaybe]

@[simp] theorem State.abandonExec_primes (base pb : Nat) (e : Exec) : (s.abandonExec base pb e).primes = s.primes := by
  simp [State.abandonExec]

@[simp] theorem State.abandonJob_primes (base : Nat) (land : Nat → Bool) (inward : Bool) (pb : Nat) (j : SlJob) :
    (State.abandonJob base land inward s pb j).primes = s.primes := by
  unfold State.abandonJob
  split
  · rfl
  · dsimp only
    split_ifs
    · simp
    · rfl
    · refine (State.foldl_primes _ (fun t w => ?_) _ _).trans (by simp)
      split_ifs
      · split <;> rfl
      · rfl

end Sys2Proof.Machine
end

section
/-! PROOF. The tables under what a link and the routes do as a link layer is lost and packets move. -/

namespace Sys2Proof.Machine

variable (s : State)

@[simp] theorem State.routeMiss_primes (p : Packet) (ingress : Nat) : (s.routeMiss p ingress).primes = s.primes :=
  (State.logOnce_primes _ _ _ (fun _ => by rfl)).trans (s.bump_primes _ _)

@[simp] theorem State.oweCredit_primes (lk : Option Nat) (vc cls n : Nat) : (s.oweCredit lk vc cls n).primes = s.primes := by
  cases lk <;> simp [State.oweCredit]

@[simp] theorem State.takeResponse_primes (p : Packet) (link : Option Nat) : (s.takeResponse p link).primes = s.primes := by
  cases link <;> simp [State.takeResponse]

@[simp] theorem State.deliver_primes (p : Packet) (link : Option Nat) (cls : Nat) : (s.deliver p link cls).primes = s.primes := by
  simp [State.deliver]

@[simp] theorem State.enqueue_primes (lk : Nat) (p : Packet) (cls : Nat) : (s.enqueue lk p cls).primes = s.primes := rfl

@[simp] theorem State.route_primes (p : Packet) : (s.route p).primes = s.primes := by
  unfold State.route
  split <;> simp

@[simp] theorem State.inject_primes (p : Packet) : (s.inject p).primes = s.primes := by simp [State.inject]

@[simp] theorem State.dropPartials_primes (lk : Nat) : (s.dropPartials lk).primes = s.primes := by
  refine (State.foldl_primes _ (fun t r => ?_) _ _).trans (s.bump_primes _ _)
  split <;> rfl

@[simp] theorem State.freeEgress_primes (es : List EgPacket) : (s.freeEgress es).primes = s.primes := by simp [State.freeEgress]

@[simp] theorem State.loseLink_primes (lk : Nat) : (s.loseLink lk).primes = s.primes := by simp [State.loseLink]

@[simp] theorem State.logDown_primes (lk st reason : Nat) : (s.logDown lk st reason).primes = s.primes := rfl

@[simp] theorem State.tsyncLost_primes (lk : Nat) : (s.tsyncLost lk).primes = s.primes := by simp [State.tsyncLost]

@[simp] theorem State.leaveLink_primes (lk st reason : Nat) (ordered : Bool) : (s.leaveLink lk st reason ordered).primes = s.primes := by
  unfold State.leaveLink
  extract_lets up s1 s2 s3
  have h1 : s1.primes = s.primes := by simp only [s1, State.ite_primes, State.logDown_primes, ite_self]
  clear_value s1
  have h2 : s2.primes = s1.primes := by simp only [s2, State.ite_primes, State.tsyncLost_primes, State.loseLink_primes, ite_self]
  clear_value s2
  have h3 : s3.primes = s2.primes := by simp only [s3, State.ite_primes, State.bump_primes, ite_self]
  clear_value s3
  exact h3.trans (h2.trans h1)

@[simp] theorem State.llResetNow_primes (lk : Nat) : (s.llResetNow lk).primes = s.primes := by simp [State.llResetNow]

end Sys2Proof.Machine
end

section
/-! PROOF. The tables under the ends of a bench: resets, Rinse, failures (R113, R114, R116). -/

namespace Sys2Proof.Machine

variable (s : State)

@[simp] theorem State.replyWeir_primes (req : WeirReq) (count : Nat) : (s.replyWeir req count).primes = s.primes := by
  simp [State.replyWeir]

@[simp] theorem State.abandonWaits_primes (pb : Nat) : (s.abandonWaits pb).primes = s.primes :=
  State.foldl_primes _ (fun _ _ => by rfl) _ s

@[simp] theorem State.rinseWeirs_primes (pb : Nat) : (s.rinseWeirs pb).primes = s.primes := by simp [State.rinseWeirs]

@[simp] theorem State.clearSnap_primes (pb : Nat) : (s.clearSnap pb).primes = s.primes := by
  unfold State.clearSnap
  rw [State.foldl_primes _ (fun _ _ => by rfl), State.setReg_primes]

@[simp] theorem State.clearCtx_primes (pb : Nat) : (s.clearCtx pb).primes = s.primes := by simp [State.clearCtx]

@[simp] theorem State.stopBench_primes (pb : Nat) : (s.stopBench pb).primes = s.primes := by simp [State.stopBench]

@[simp] theorem State.benchReset_primes (pb : Nat) : (s.benchReset pb).primes = s.primes := by simp [State.benchReset]

@[simp] theorem State.benchResetDone_primes (pb : Nat) : (s.benchResetDone pb).primes = s.primes := by simp [State.benchResetDone]

@[simp] theorem State.rinse_primes (pb : Nat) : (s.rinse pb).primes = s.primes := by simp [State.rinse]

@[simp] theorem State.freeFar_primes (pb : Nat) (e : Exec) : (s.freeFar pb e).primes = s.primes := by
  unfold State.freeFar
  dsimp only
  split
  · exact State.foldl_primes _ (fun _ _ => by rfl) _ s
  · simp
  · rfl

@[simp] theorem State.freeEntries_primes (pb : Nat) (e : Exec) : (s.freeEntries pb e).primes = s.primes :=
  State.foldl_primes _ (fun _ _ => by rfl) _ s

@[simp] theorem State.benchHwFailure_primes (pb : Nat) : (s.benchHwFailure pb).primes = s.primes := by
  simp [State.benchHwFailure]

@[simp] theorem State.killBench_primes (pb : Nat) : (s.killBench pb).primes = s.primes := by simp [State.killBench]

end Sys2Proof.Machine
end

section
/-! PROOF. The tables under the end of a tenant's job, which a fabric reset brings about (R394). -/

namespace Sys2Proof.Machine

variable (s : State)

@[simp] theorem State.settleAvail_primes (g : Nat) : (s.settleAvail g).primes = s.primes := by rw [State.settleAvail_frame]

@[simp] theorem State.clearLeases_primes (l : Nat) (ns : List Nat) : (s.clearLeases l ns).primes = s.primes :=
  State.foldl_primes _ (fun _ _ => by rfl) _ s

@[simp] theorem State.freeTenantLeases_primes (t : Nat) : (s.freeTenantLeases t).primes = s.primes := by
  simp [State.freeTenantLeases]

@[simp] theorem State.setFills_primes (l : List FillJob) : (s.setFills l).primes = s.primes := rfl

@[simp] theorem State.addFill_primes (pages : List Nat) (f : FillFor) : (s.addFill pages f).primes = s.primes := rfl

@[simp] theorem State.onSvc_primes (t : Nat) (f : Service → Service) : (s.onSvc t f).primes = s.primes := rfl

@[simp] theorem State.closeIntake_primes (t reason : Nat) : (s.closeIntake t reason).primes = s.primes := by
  simp [State.closeIntake]

@[simp] theorem State.putResult_primes (t : Nat) (v : Service) (r : List Reg64) : (s.putResult t v r).primes = s.primes := by
  simp [State.putResult]

@[simp] theorem State.flushResults_primes (t : Nat) : (s.flushResults t).primes = s.primes := by
  unfold State.flushResults
  split <;> simp

@[simp] theorem State.finish_primes (t status : Nat) (reqs : List (List Reg64)) : (s.finish t status reqs).primes = s.primes := by
  simp [State.finish]

@[simp] theorem State.endService_primes (t : Nat) : (s.endService t).primes = s.primes := by
  unfold State.endService
  split <;> simp

@[simp] theorem State.settleJobs_primes : s.settleJobs.primes = s.primes := by simp [State.settleJobs]

@[simp] theorem State.setGangs_primes (gangs st : Nat) : (s.setGangs gangs st).primes = s.primes :=
  State.foldl_primes _ (fun _ _ => by rfl) _ s

@[simp] theorem State.dropTenantHall_primes (t : Nat) : (s.dropTenantHall t).primes = s.primes := rfl

@[simp] theorem State.settleClearing_primes : s.settleClearing.primes = s.primes := by simp [State.settleClearing]

@[simp] theorem State.clearJob_primes (t gangs ended : Nat) : (s.clearJob t gangs ended).primes = s.primes := by
  simp [State.clearJob]

@[simp] theorem State.freeTenantJob_primes (t : Nat) : (s.freeTenantJob t).primes = s.primes := by simp [State.freeTenantJob]

@[simp] theorem State.endJob_primes (t cause : Nat) : (s.endJob t cause).primes = s.primes := by
  unfold State.endJob
  split <;> simp

end Sys2Proof.Machine
end

section
/-! PROOF. The tables under boot, PERST_N, function-level resets and fabric resets, and as a cold reset leaves them (R34). -/

namespace Sys2Proof.Machine

section

variable (s : State)

@[simp] theorem State.setNor_primes (m : Mem) : (s.setNor m).primes = s.primes := rfl

@[simp] theorem State.setLedgerOp_primes (op : Option LedgerOp) : (s.setLedgerOp op).primes = s.primes := rfl

@[simp] theorem State.onLedger_primes (f : LedgerData → LedgerData) : (s.onLedger f).primes = s.primes := rfl

@[simp] theorem State.showLedger_primes : s.showLedger.primes = s.primes := rfl

@[simp] theorem State.readLedger_primes : s.readLedger.primes = s.primes := by simp [State.readLedger]

@[simp] theorem State.ledgerCut_primes : s.ledgerCut.primes = s.primes := by
  unfold State.ledgerCut
  split <;> simp

@[simp] theorem State.trainHbm_primes : s.trainHbm.primes = s.primes := by simp [State.trainHbm]

@[simp] theorem State.startBoot_primes (cold : Bool) : (s.startBoot cold).primes = s.primes := by simp [State.startBoot]

@[simp] theorem State.windowBad_primes (vw a : Nat) : (s.windowBad vw a).primes = s.primes := by
  unfold State.windowBad
  dsimp only
  split_ifs
  · split <;> simp
  · simp

@[simp] theorem State.setBell_primes (vw : Nat) (d : Option Doorbell) : (s.setBell vw d).primes = s.primes := rfl

@[simp] theorem State.bellResult_primes (vw : Nat) (d : Doorbell) (r : Nat) : (s.bellResult vw d r).primes = s.primes := rfl

@[simp] theorem State.nextRecord_primes (vw : Nat) (d : Doorbell) : (s.nextRecord vw d).primes = s.primes := by
  simp [State.nextRecord]

@[simp] theorem State.serveBell_primes (vw : Nat) : (s.serveBell vw).primes = s.primes := by
  unfold State.serveBell
  split <;> simp

@[simp] theorem State.setOrder_primes (l : List Nat) : (s.setOrder l).primes = s.primes := by simp [State.setOrder]

@[simp] theorem State.dropStaging_primes (vw : Nat) : (s.dropStaging vw).primes = s.primes := by
  unfold State.dropStaging
  split
  · rfl
  · simp

@[simp] theorem State.flrOne_primes (vw : Nat) : (s.flrOne vw).primes = s.primes := by simp [State.flrOne]

@[simp] theorem State.sealFlr_primes : s.sealFlr.primes = s.primes := rfl

@[simp] theorem State.flr_primes (f : Nat) : (s.flr f).primes = s.primes := by simp [State.flr]

@[simp] theorem State.haltJob_primes (t : Nat) : (s.haltJob t).primes = s.primes := by
  unfold State.haltJob
  split
  · rfl
  · exact State.foldl_primes _ (fun u pb => by rw [State.onBench_primes, State.stopBench_primes]) _ s

@[simp] theorem State.refillRoutes_primes : s.refillRoutes.primes = s.primes := by
  unfold State.refillRoutes
  refine State.foldl_primes _ (fun t pb => State.foldl_primes _ (fun u r => ?_) _ t) _ s
  rw [State.ite_primes, State.wr_primes, ite_self]

@[simp] theorem State.fresetSettle_primes : s.fresetSettle.primes = s.primes := by simp [State.fresetSettle]

@[simp] theorem State.fresetHere_primes (hall : Bool) : (s.fresetHere hall).primes = s.primes := by
  unfold State.fresetHere
  extract_lets busy net held tenants ended hallUnit refilled relinked
  have hended : ended.primes = s.primes := State.foldl_primes _ (fun u t => by simp) _ _
  clear_value ended
  have hrefilled : refilled.primes = ended.primes := State.refillRoutes_primes _
  clear_value refilled
  have hrelinked : relinked.primes = refilled.primes := State.foldl_primes _ (fun u lk => by simp) _ _
  clear_value relinked
  rw [State.fresetSettle_primes, hrelinked, hrefilled, hended]

@[simp] theorem State.fresetWrite_primes (data : Reg64) : (s.fresetWrite data).primes = s.primes := by simp [State.fresetWrite]

@[simp] theorem State.fresetNotice_primes (hall : Bool) (part : Nat) : (s.fresetNotice hall part).primes = s.primes := by
  simp [State.fresetNotice]

@[simp] theorem State.accessError_primes (vw : Nat) (write : Bool) (width reason bar d1 : Nat) :
    (s.accessError vw write width reason bar d1).primes = s.primes := by
  simp [State.accessError]

/-- A write of HALL_FRESET by any view, accepted or refused. -/
theorem State.busWrite_freset_primes (vw : View) (data : Reg64) : (s.busWrite vw Reg.HALL_FRESET data).primes = s.primes := by
  have hreg : s.writeReg (viewNum vw) Reg.HALL_FRESET data = some (s.fresetWrite data) := rfl
  have hres : s.resolve Reg.HALL_FRESET = some Reg.HALL_FRESET := by simp [State.resolve, logicalAt, Reg.HALL_FRESET]
  rw [State.busWrite, State.regWrite, State.judgedWrite, hres]
  split_ifs <;> simp [hreg, State.refuseAccess]

/-- PERST_N released: the warm CLEARING leaves the tables. -/
theorem State.perstHigh_primes : s.perstHigh.primes = s.primes := by
  unfold State.perstHigh
  split_ifs
  · rfl
  · extract_lets emptied rinsed hbm hallUnit mgmt power cleared counted locked unsealed restarted
    have hrinsed : rinsed.primes = s.primes := State.foldl_primes _ (fun u pb => u.rinse_primes pb) _ _
    clear_value rinsed
    have hlocked : locked.primes = rinsed.primes := rfl
    clear_value locked
    have hunsealed : unsealed.primes = locked.primes := by simp only [unsealed, State.ite_primes, State.wr_primes, ite_self]
    clear_value unsealed
    have hrestarted : restarted.primes = unsealed.primes := State.foldl_primes _ (fun _ _ => by rfl) _ _
    clear_value restarted
    rw [State.startBoot_primes, State.setFills_primes, State.wrB_primes, State.wrB_primes, hrestarted, hunsealed, hlocked, hrinsed]
  · rfl

/-- PERST_N asserted: the tables stay, and only the checker's operation ends. -/
theorem State.perstLow_tables : s.perstLow.primes.prime = s.primes.prime ∧ s.perstLow.primes.chain = s.primes.chain := by
  unfold State.perstLow
  split_ifs
  · exact ⟨rfl, rfl⟩
  · exact ⟨rfl, rfl⟩
  · exact ⟨rfl, rfl⟩
  · extract_lets killed unlinked tables kwa ended masked
    have hkilled : killed.primes = s.primes := (State.foldl_primes _ (fun u pb => u.killBench_primes pb) _ _).trans s.ledgerCut_primes
    clear_value killed
    have hunlinked : unlinked.primes = killed.primes := State.foldl_primes _ (fun u lk => by simp) _ _
    clear_value unlinked
    have hmasked : masked.primes = { unlinked.primes with op := none } := rfl
    rw [State.setPower_primes, hmasked, hunlinked, hkilled]
    exact ⟨rfl, rfl⟩

end

/-- The resets that reach the part after its cold reset: PERST_N and its release, of a function, of the fabric and of a bench. -/
theorem tables_of_reset {s t : State} {c : Instr} {vw : View} {pb : Fin 68} {f : Fin 16} {hall : Bool} {part : BitVec 4}
    (hc : c = .perstAssert ∨ c = .perstRelease ∨ c = .functionLevelReset f ∨ c = .fresetGo vw hall part ∨
      c = .fresetNoticeReceive hall part ∨ c = .benchReset pb ∨ c = .benchResetDone pb) (ht : exec c s = .next t) :
    t.primes.prime = s.primes.prime ∧ t.primes.chain = s.primes.chain := by
  have hsame : t.primes = s.primes → t.primes.prime = s.primes.prime ∧ t.primes.chain = s.primes.chain := fun h => by
    rw [h]
    exact ⟨rfl, rfl⟩
  rcases hc with rfl | rfl | rfl | rfl | rfl | rfl | rfl <;> cases ht
  · exact s.perstLow_tables
  · exact hsame s.perstHigh_primes
  · exact hsame (s.onPcie_primes _ (fun u => u.flr_primes f.val))
  · exact hsame (s.busWrite_freset_primes vw _)
  · exact hsame (s.live_primes _ (fun u => u.fresetNotice_primes hall part.toNat))
  · exact hsame (s.live_primes _ (fun u => u.benchReset_primes pb.val))
  · exact hsame (s.live_primes _ (fun u => u.benchResetDone_primes pb.val))

/-- Settles O20: a cold reset leaves empty stores, and no operation of the other resets writes the tables. -/
theorem primeTablesSurviveEveryWarmReset : Obligations.PrimeTablesSurviveEveryWarmReset :=
  ⟨fun _ => ⟨rfl, rfl⟩, fun _ _ _ _ _ _ _ _ hc ht => tables_of_reset hc ht⟩

end Sys2Proof.Machine
end

section
/-! PROOF. What stands beside the benches: frames of single benches, and the stall registers of a bench as they are cleared (R156). -/

namespace Sys2Proof.Machine

theorem State.bench_congr {s t : State} (h : t.benches = s.benches) (q : Nat) : t.bench q = s.bench q := by
  rw [State.bench, State.bench, h]

theorem BenchesApart.of_benches_eq {s t : State} (h : t.benches = s.benches) (pb : Nat) : BenchesApart s t pb :=
  fun q _ => State.bench_congr h q

theorem BenchesApart.trans {s t u : State} {pb : Nat} (h : BenchesApart s t pb) (g : BenchesApart t u pb) : BenchesApart s u pb :=
  fun q hq => (g q hq).trans (h q hq)

theorem State.benchesApart_setBench (s : State) (pb : Nat) (b : Bench) : BenchesApart s (s.setBench pb b) pb :=
  fun _ hq => s.bench_setBench_ne b hq

theorem State.rd_of_reg_eq {s t : State} {f : Fld} (h : t.reg f.key = s.reg f.key) : t.rd f = s.rd f := by
  rw [State.rd, State.rd, h]

theorem State.flag_of_reg_eq {s t : State} {f : Fld} (h : t.reg f.key = s.reg f.key) : t.flag f = s.flag f :=
  State.flag_congr (State.rd_of_reg_eq h)

/-- t is s but for what its registers hold. -/
def RegsOnly (s t : State) : Prop := ∃ r, t = { s with regs := r }

theorem RegsOnly.refl (s : State) : RegsOnly s s := ⟨s.regs, rfl⟩

theorem RegsOnly.trans {s t u : State} (h : RegsOnly s t) (g : RegsOnly t u) : RegsOnly s u := by
  obtain ⟨r, rfl⟩ := h
  obtain ⟨q, rfl⟩ := g
  exact ⟨q, rfl⟩

theorem RegsOnly.setReg {s t : State} (h : RegsOnly s t) (k : Nat) (v : Reg64) : RegsOnly s (t.setReg k v) := h.trans ⟨_, rfl⟩

theorem RegsOnly.wr {s t : State} (h : RegsOnly s t) (f : Fld) (v : Nat) : RegsOnly s (t.wr f v) := h.setReg f.key _

theorem RegsOnly.foldl {α : Type} {step : State → α → State} (h : ∀ t x, RegsOnly t (step t x)) (l : List α) {s t : State}
    (g : RegsOnly s t) : RegsOnly s (l.foldl step t) :=
  List.foldlRecOn l step g (fun t ht x _ => ht.trans (h t x))

theorem RegsOnly.frame {s t : State} (h : RegsOnly s t) : t = { s with regs := t.regs } := by
  obtain ⟨r, rfl⟩ := h
  rfl

theorem RegsOnly.bench {s t : State} (h : RegsOnly s t) (q : Nat) : t.bench q = s.bench q := by
  obtain ⟨r, rfl⟩ := h
  rfl

theorem State.bump_frame (s : State) (f : Fld) (n : Nat) : s.bump f n = { s with rc := (s.bump f n).rc } := by
  unfold State.bump
  split_ifs <;> rfl

theorem State.bump_benches (s : State) (f : Fld) (n : Nat) : (s.bump f n).benches = s.benches := by
  rw [State.bump_frame]

theorem State.regsOnly_clearSnap (s : State) (pb : Nat) : RegsOnly s (s.clearSnap pb) :=
  RegsOnly.foldl (fun t _ => ((RegsOnly.refl t).setReg _ _).setReg _ _) _ ((RegsOnly.refl s).setReg _ _)

/-- A register outside the stall count and the snapshots of a bench. -/
abbrev OffStall (pb k : Nat) : Prop := k < Reg.BENCH_STALL_COUNT pb ∨ Reg.BENCH_STALL_SNAP1 pb 5 < k

theorem State.reg_clearSnap (s : State) {pb k : Nat} (h : OffStall pb k) : (s.clearSnap pb).reg k = s.reg k := by
  simp only [OffStall, Reg.BENCH_STALL_COUNT, Reg.BENCH_STALL_SNAP1] at h
  refine (foldl_read_untouched _ (fun t : State => t.reg k) _ _ (fun i hi t => ?_)).trans (s.reg_setReg_ne _ ?_)
  · have hi := List.mem_range.mp hi
    rw [State.reg_setReg_ne _ _ (by simp only [Reg.BENCH_STALL_SNAP1]; omega),
      State.reg_setReg_ne _ _ (by simp only [Reg.BENCH_STALL_SNAP0]; omega)]
  · simp only [Reg.BENCH_STALL_COUNT]
    omega

theorem State.reg_stallCount_clearSnap (s : State) (pb : Nat) : (s.clearSnap pb).reg (Reg.BENCH_STALL_COUNT pb) = 0 := by
  refine (foldl_read_untouched _ (fun t : State => t.reg (Reg.BENCH_STALL_COUNT pb)) _ _ (fun i _ t => ?_)).trans (s.reg_setReg _ 0)
  rw [State.reg_setReg_ne _ _ (by simp only [Reg.BENCH_STALL_COUNT, Reg.BENCH_STALL_SNAP1]; omega),
    State.reg_setReg_ne _ _ (by simp only [Reg.BENCH_STALL_COUNT, Reg.BENCH_STALL_SNAP0]; omega)]

end Sys2Proof.Machine
end

section
/-! PROOF. Instruction fetch, the phase switch and the stall detector (R88-R90, R138, R155-R157). -/

namespace Sys2Proof.Machine

theorem Bench.stream_setStream (b : Bench) (i j : Nat) (x : Stream) : (b.setStream i x).stream j = if j = i then x else b.stream j :=
  Sparse.get_set _ _ _ _ _

/-- A bench whose stream i has taken the rest of its line of four (R138). -/
def Bench.fetched (b : Bench) (i : Nat) : Bench :=
  { (b.onStream i (fun x =>
    { x with
      queue := x.queue ++ (List.range (4 - x.fetchPc % 4)).map (fun k => b.fetchCmd (x.fetchPc + k))
      fetchPc := x.fetchPc + (4 - x.fetchPc % 4) })) with fetchRR := i }

theorem Bench.stream_fetched_ne (b : Bench) {i j : Nat} (h : j ≠ i) : (b.fetched i).stream j = b.stream j :=
  (b.stream_setStream i j _).trans (if_neg h)

theorem Bench.stream_fetched (b : Bench) (i : Nat) :
    ((b.fetched i).stream i).queue = (b.stream i).queue ++
        (List.range (4 - (b.stream i).fetchPc % 4)).map (fun k => b.fetchCmd ((b.stream i).fetchPc + k)) ∧
      ((b.fetched i).stream i).fetchPc = (b.stream i).fetchPc / 4 * 4 + 4 := by
  have hpc : (b.stream i).fetchPc + (4 - (b.stream i).fetchPc % 4) = (b.stream i).fetchPc / 4 * 4 + 4 := by omega
  have hst := (b.stream_setStream i i { b.stream i with
    queue := (b.stream i).queue ++ (List.range (4 - (b.stream i).fetchPc % 4)).map (fun k => b.fetchCmd ((b.stream i).fetchPc + k))
    fetchPc := (b.stream i).fetchPc + (4 - (b.stream i).fetchPc % 4) }).trans (if_pos rfl)
  exact ⟨congrArg Stream.queue hst, (congrArg Stream.fetchPc hst).trans hpc⟩

theorem State.fetchLine_eq {s : State} {pb i : Nat} (hact : (s.bench pb).active = true) (hab : (s.bench pb).abandoning = false)
    (hi : ((List.range 6).map (fun k => ((s.bench pb).fetchRR + 1 + k) % 6)).find? (fun k => ((s.bench pb).stream k).wantsLine) = some i) :
    s.fetchLine pb = s.setBench pb ((s.bench pb).fetched i) := by
  simp only [State.fetchLine, hact, hab, Bool.not_false, Bool.and_self, if_true, hi]
  rfl

theorem State.phaseDrained_spec {s : State} {pb : Nat} (hsw : (s.bench pb).switching = true) (hta : (s.bench pb).turnaround = false)
    (hact : (s.bench pb).active = true) (hfill : (s.bench pb).target = .fill → ∀ e ∈ (s.bench pb).execs, e.engines &&& 15 = 0)
    (hwork : (s.bench pb).target ≠ .fill → ∀ e ∈ (s.bench pb).execs, e.engines &&& engSL = 0) :
    s.phaseDrained pb = s.onBench pb (fun b => { b with turnaround := true }) := by
  have hidle : (if (s.bench pb).target = .fill then (s.bench pb).execs.any (fun e => decide (e.engines &&& 15 ≠ 0))
      else (s.bench pb).execs.any (fun e => decide (e.engines &&& engSL ≠ 0))) = false := by
    split_ifs with h
    · simpa using hfill h
    · simpa using hwork h
  unfold State.phaseDrained
  extract_lets b busy
  rw [if_pos (by simp [b, hsw, hta, hact, show busy = false from hidle])]
  rfl

theorem State.phaseDone_spec {s : State} {pb : Nat} (hsw : (s.bench pb).switching = true) (hta : (s.bench pb).turnaround = true)
    (hact : (s.bench pb).active = true) (hexecs : ∀ e ∈ (s.bench pb).execs, Todo.phase ∉ e.todo) :
    s.phaseDone pb = s.onBench pb (fun b => { b with
      mode := b.target, switching := false, turnaround := false, phaseSwitches := (b.phaseSwitches + 1) % 2 ^ 32 }) := by
  have hnone : (s.bench pb).execs.find? (fun e => e.todo.contains .phase) = none := by
    simpa [List.find?_eq_none] using hexecs
  simp only [State.phaseDone, hsw, hta, hact, hnone]
  rfl

end Sys2Proof.Machine
end

section
/-! PROOF. The stall limit: the heads of the streams captured, QUEUE_STALL, the halt (R155-R157). -/

namespace Sys2Proof.Machine

/-- What one stream's snapshot comes to in its two registers (R156). -/
def State.putSnap (pb : Nat) (s : State) (x : (Nat × Nat × Nat × Nat × Nat × Nat) × Nat) : State :=
  (s.setReg (Reg.BENCH_STALL_SNAP0 pb x.2)
    (BitVec.ofNat 64 (x.1.1 * 2 ^ 60 + x.1.2.1 * 2 ^ 48 + x.1.2.2.1 * 2 ^ 32 + x.1.2.2.2.1 % 2 ^ 32))).setReg
    (Reg.BENCH_STALL_SNAP1 pb x.2) (BitVec.ofNat 64 (x.1.2.2.2.2.1 * 2 ^ 11 + x.1.2.2.2.2.2))

/-- The stall count at the limit and the six snapshots taken. -/
def State.snapped (s : State) (pb limit : Nat) : State :=
  (List.range 6).foldl (fun t i => t.putSnap pb (s.snapStream pb i, i)) (s.wr (Fld.BENCH_STALL_COUNT_COUNT pb) limit)

theorem State.regsOnly_snapped (s : State) (pb limit : Nat) : RegsOnly s (s.snapped pb limit) :=
  RegsOnly.foldl (fun t _ => ((RegsOnly.refl t).setReg _ _).setReg _ _) _ ((RegsOnly.refl s).wr _ _)

theorem State.reg_putSnap_ne (pb : Nat) (s : State) {x : (Nat × Nat × Nat × Nat × Nat × Nat) × Nat} {k : Nat}
    (h0 : k ≠ Reg.BENCH_STALL_SNAP0 pb x.2) (h1 : k ≠ Reg.BENCH_STALL_SNAP1 pb x.2) : (s.putSnap pb x).reg k = s.reg k := by
  rw [State.putSnap, State.reg_setReg_ne _ _ h1, State.reg_setReg_ne _ _ h0]

theorem State.rd_count_snapped (s : State) (pb : Nat) {limit : Nat} (h : limit < 2 ^ 32) :
    (s.snapped pb limit).rd (Fld.BENCH_STALL_COUNT_COUNT pb) = limit := by
  have hcount := s.rd_wr_of_lt (f := Fld.BENCH_STALL_COUNT_COUNT pb) (by decide : 31 < 64) (by decide : 0 ≤ 31) h
  refine (congrArg (fun w => getBits w 31 0) (foldl_read_untouched _ (fun t : State => t.reg (Reg.BENCH_STALL_COUNT pb)) _ _
    (fun i _ t => State.reg_putSnap_ne pb t ?_ ?_))).trans hcount
  · simp only [Reg.BENCH_STALL_COUNT, Reg.BENCH_STALL_SNAP0]
    omega
  · simp only [Reg.BENCH_STALL_COUNT, Reg.BENCH_STALL_SNAP1]
    omega

/-- A snapshot names a token of eight bits and a PC of fourteen. -/
theorem State.snapStream_bounds (s : State) (pb i : Nat) :
    (s.snapStream pb i).1 = (s.waitInfo pb i).1 ∧ (s.snapStream pb i).2.1 < 2 ^ 8 ∧ (s.snapStream pb i).2.2.1 < 2 ^ 14 := by
  unfold State.snapStream
  extract_lets b w q tok
  have htok : tok < 2 ^ 8 := by
    unfold tok
    split_ifs
    · cases q with
      | none => exact Nat.two_pow_pos 8
      | some q => exact Nat.mod_lt _ (Nat.two_pow_pos 8)
    · exact Nat.two_pow_pos 8
  split
  · exact ⟨rfl, Nat.two_pow_pos 8, Nat.mod_lt _ (by decide)⟩
  · exact ⟨rfl, htok, Nat.mod_lt _ (by decide)⟩

/-- The wait kind stands in the top four bits of its word. -/
theorem getBits_snapWord {kind tok pc arg : Nat} (htok : tok < 2 ^ 8) (hpc : pc < 2 ^ 14) :
    getBits (BitVec.ofNat 64 (kind * 2 ^ 60 + tok * 2 ^ 48 + pc * 2 ^ 32 + arg % 2 ^ 32)) 63 60 = kind % 16 := by
  simp only [getBits, bits, BitVec.toNat_ofNat, Nat.shiftRight_eq_div_pow]
  omega

theorem State.getBits_snap0_snapped (s : State) (pb limit : Nat) {i : Nat} (hi : i < 6) :
    getBits ((s.snapped pb limit).reg (Reg.BENCH_STALL_SNAP0 pb i)) 63 60 = (s.waitInfo pb i).1 % 16 := by
  obtain ⟨hkind, htok, hpc⟩ := s.snapStream_bounds pb i
  rw [← hkind, ← getBits_snapWord htok hpc]
  refine congrArg (fun w => getBits w 63 60) (foldl_read_touched _ (fun t : State => t.reg (Reg.BENCH_STALL_SNAP0 pb i)) i _ (fun t => ?_)
    _ _ (List.mem_range.mpr hi) (fun j _ hj t => State.reg_putSnap_ne pb t ?_ ?_))
  · rw [State.putSnap, State.reg_setReg_ne _ _ (by simp only [Reg.BENCH_STALL_SNAP0, Reg.BENCH_STALL_SNAP1]; omega), State.reg_setReg]
  · simp only [Reg.BENCH_STALL_SNAP0]
    omega
  · simp only [Reg.BENCH_STALL_SNAP0, Reg.BENCH_STALL_SNAP1]
    omega

theorem Bench.halt_of_active {b : Bench} (h : b.active = true) (cause : Nat) :
    (b.halt cause).mode = .halted ∧ (b.halt cause).haltCause = cause := by
  simp [Bench.halt, h]

theorem State.stallReached_eq {s : State} {pb : Nat} (hact : (s.bench pb).active = true) (hab : (s.bench pb).abandoning = false)
    (hsl : (s.bench pb).sluiceHalted = false) (hlim : s.rd (Fld.BENCH_STALL_LIMIT_LIMIT pb) ≠ 0)
    (hopen : ∃ i ∈ s.streamsOf pb, ((s.bench pb).stream i).ended = false) :
    ∃ d0 d1, s.stallReached pb = ((s.snapped pb (s.rd (Fld.BENCH_STALL_LIMIT_LIMIT pb))).logBench pb 0x06 d0 d1).haltBench pb 2 := by
  have hany : (s.streamsOf pb).any (fun i => !((s.bench pb).stream i).ended) = true := by simpa using hopen
  simp only [State.stallReached, hact, hab, hsl, hlim, hany, not_true_eq_false, Bool.false_eq_true, or_self, if_false]
  exact ⟨_, _, rfl⟩

/-- A bench at its stall limit (R155-R157). -/
theorem State.stallReached_spec {s t : State} {pb : Nat} (hact : (s.bench pb).active = true) (hab : (s.bench pb).abandoning = false)
    (hsl : (s.bench pb).sluiceHalted = false) (hlim : s.rd (Fld.BENCH_STALL_LIMIT_LIMIT pb) ≠ 0)
    (hopen : ∃ i ∈ s.streamsOf pb, ((s.bench pb).stream i).ended = false) (ht : t = s.stallReached pb) :
    t = { s with regs := t.regs, benches := t.benches, spoil := t.spoil } ∧
      BenchesApart s t pb ∧ (t.bench pb).mode = .halted ∧ (t.bench pb).haltCause = 2 ∧
      t.rd (Fld.BENCH_STALL_COUNT_COUNT pb) = s.rd (Fld.BENCH_STALL_LIMIT_LIMIT pb) ∧
      (t.spoil.inFlight.getLast?).map (·.cls) = some 0x06 ∧
      (∀ i, i < 6 → getBits (t.reg (Reg.BENCH_STALL_SNAP0 pb i)) 63 60 = (s.waitInfo pb i).1 % 16) := by
  obtain ⟨d0, d1, he⟩ := State.stallReached_eq hact hab hsl hlim hopen
  rw [he] at ht
  have hcount := s.rd_count_snapped pb (limit := s.rd (Fld.BENCH_STALL_LIMIT_LIMIT pb)) (s.rd_lt _)
  have hsnap := fun i (hi : i < 6) => s.getBits_snap0_snapped pb (s.rd (Fld.BENCH_STALL_LIMIT_LIMIT pb)) hi
  have hu := s.regsOnly_snapped pb (s.rd (Fld.BENCH_STALL_LIMIT_LIMIT pb))
  generalize s.snapped pb (s.rd (Fld.BENCH_STALL_LIMIT_LIMIT pb)) = u at *
  obtain ⟨v, hv⟩ : ∃ v, v = u.logBench pb 0x06 d0 d1 := ⟨_, rfl⟩
  rw [← hv] at ht
  have hvb (q : Nat) : v.bench q = s.bench q := by rw [State.bench_congr (hv ▸ State.logBench_benches u pb _ _ _), hu.bench]
  have hvr : v.regs = u.regs := hv ▸ State.logBench_regs u pb _ _ _
  have hvl : (v.spoil.inFlight.getLast?).map (·.cls) = some 0x06 := by simp [hv, State.logBench, State.log]
  have hregs : t.regs = u.regs := by rw [ht, State.haltBench_regs, hvr]
  have hbench : t.bench pb = (s.bench pb).halt 2 := by rw [ht, State.haltBench, State.bench_onBench, hvb]
  obtain ⟨hmode, hcause⟩ := hbench ▸ Bench.halt_of_active hact 2
  refine ⟨?_, fun q hq => ?_, hmode, hcause, (State.rd_congr hregs _).trans hcount, ?_, fun i hi => ?_⟩
  · obtain ⟨r, rfl⟩ := hu
    rw [ht, hv]
    rfl
  · rw [ht, State.haltBench, State.bench_onBench_ne _ _ hq, hvb]
  · rw [ht, State.haltBench_spoil, hvl]
  · rw [State.reg_congr hregs, hsnap i hi]

/-- Settles O24: each event of a running device is the change of its bench that the lemmas above describe. -/
theorem fetchPhaseAndStallMoveABench : Obligations.FetchPhaseAndStallMoveABench := by
  refine ⟨fun s pb i hrun hact hab hi => ?_, fun s pb hrun hsw hta hact hfill hwork => ?_, fun s pb hrun hsw hta hact hexecs => ?_,
    fun s pb hrun hact hab hsl hlim hopen => ?_⟩
  · obtain ⟨hqueue, hpc⟩ := (s.bench pb).stream_fetched i
    refine ⟨s.setBench pb ((s.bench pb).fetched i), (next_live_of_running hrun _).trans (congrArg _ (State.fetchLine_eq hact hab hi)),
      rfl, s.benchesApart_setBench pb _, ?_⟩
    rw [State.bench_setBench]
    exact ⟨rfl, hqueue, hpc, fun j hj => (s.bench pb).stream_fetched_ne hj⟩
  · exact (next_live_of_running hrun _).trans (congrArg _ (State.phaseDrained_spec hsw hta hact hfill hwork))
  · exact (next_live_of_running hrun _).trans (congrArg _ (State.phaseDone_spec hsw hta hact hexecs))
  · exact ⟨_, next_live_of_running hrun _, State.stallReached_spec hact hab hsl hlim hopen rfl⟩

end Sys2Proof.Machine
end

section
/-! PROOF. Pool windows: bank conflicts counted bank by bank, and a bad word noted with its command (R83, R85, R286, R292). -/

namespace Sys2Proof.Machine

/-- A reading that the step of x alone changes is changed once by a run of steps that has x once. -/
theorem foldl_read_once {σ α β : Type} (step : σ → α → σ) (read : σ → β) {x : α} (g : β → β) (hx : ∀ t, read (step t x) = g (read t))
    {l : List α} (hl : l.Nodup) (hmem : x ∈ l) (h : ∀ y ∈ l, y ≠ x → ∀ t, read (step t y) = read t) (s : σ) :
    read (l.foldl step s) = g (read s) := by
  obtain ⟨a, b, rfl⟩ := List.append_of_mem hmem
  obtain ⟨hb, hab⟩ := List.nodup_cons.mp (List.nodup_middle.mp hl)
  have hstay : ∀ y ∈ a ++ b, ∀ t, read (step t y) = read t := fun y hy =>
    h y (by simp only [List.mem_append, List.mem_cons] at hy ⊢; tauto) (fun e => hb (e ▸ hy))
  rw [List.foldl_append, List.foldl_cons, foldl_read_untouched step read b _ (fun y hy => hstay y (List.mem_append_right a hy)), hx,
    foldl_read_untouched step read a _ (fun y hy => hstay y (List.mem_append_left b hy))]

theorem poolBank_lt (w : Nat) : poolBank w < 512 :=
  Nat.xor_lt_two_pow (n := 9) (Nat.mod_lt _ (by decide)) (Nat.mod_lt _ (by decide))

theorem behind_inj {k i j : Nat} : behind k i = behind k j ↔ i = j := by
  simp only [behind, viewBit]
  omega

/-- The count of a bank's conflicts after a window that meets it j times. -/
def conflictsAfter (j : Nat) (r : Reg64) : Reg64 := if j ≤ 1 then r else BitVec.ofNat 64 (min 0xFFFF (r.toNat + (j - 1)))

/-- The conflicts of one bank of a window counted (R292). -/
def State.countBank (pb : Nat) (bs : List Nat) (s : State) (k : Nat) : State :=
  if bs.count k ≤ 1 then s
  else s.setReg (behind (Reg.BENCH_CONFL_DATA pb) k)
    (BitVec.ofNat 64 (min 0xFFFF ((s.reg (behind (Reg.BENCH_CONFL_DATA pb) k)).toNat + (bs.count k - 1))))

theorem State.countConflicts_eq (s : State) (pb : Nat) (words : List Nat) :
    s.countConflicts pb words = (words.map poolBank).eraseDups.foldl (State.countBank pb (words.map poolBank)) s := rfl

theorem State.regsOnly_countBank (pb : Nat) (bs : List Nat) (s : State) (k : Nat) : RegsOnly s (s.countBank pb bs k) := by
  unfold State.countBank
  split_ifs
  · exact RegsOnly.refl s
  · exact (RegsOnly.refl s).setReg _ _

theorem State.reg_countBank (pb : Nat) (bs : List Nat) (s : State) (k : Nat) :
    (s.countBank pb bs k).reg (behind (Reg.BENCH_CONFL_DATA pb) k) =
      conflictsAfter (bs.count k) (s.reg (behind (Reg.BENCH_CONFL_DATA pb) k)) := by
  unfold State.countBank conflictsAfter
  split_ifs
  · rfl
  · rw [State.reg_setReg]

theorem State.reg_countBank_ne (pb : Nat) (bs : List Nat) (s : State) {k key : Nat} (h : key ≠ behind (Reg.BENCH_CONFL_DATA pb) k) :
    (s.countBank pb bs k).reg key = s.reg key := by
  unfold State.countBank
  split_ifs
  · rfl
  · rw [State.reg_setReg_ne _ _ h]

theorem State.reg_countConflicts (s : State) (pb : Nat) (words : List Nat) (k : Nat) :
    (s.countConflicts pb words).reg (behind (Reg.BENCH_CONFL_DATA pb) k) =
      conflictsAfter ((words.map poolBank).count k) (s.reg (behind (Reg.BENCH_CONFL_DATA pb) k)) := by
  rw [State.countConflicts_eq]
  have hother : ∀ j, j ≠ k → ∀ t : State, (t.countBank pb (words.map poolBank) j).reg (behind (Reg.BENCH_CONFL_DATA pb) k) =
      t.reg (behind (Reg.BENCH_CONFL_DATA pb) k) := fun j hj t => State.reg_countBank_ne pb _ t (fun e => hj (behind_inj.mp e).symm)
  by_cases hk : k ∈ words.map poolBank
  · exact foldl_read_once _ (fun t : State => t.reg (behind (Reg.BENCH_CONFL_DATA pb) k)) _ (fun t => State.reg_countBank pb _ t k)
      (nodup_eraseDups _) (List.mem_eraseDups.mpr hk) (fun j _ hj => hother j hj) s
  · rw [List.count_eq_zero_of_not_mem hk]
    exact foldl_read_untouched _ (fun t : State => t.reg (behind (Reg.BENCH_CONFL_DATA pb) k)) _ _
      (fun j hj => hother j (fun e => hk (e ▸ List.mem_eraseDups.mp hj)))

theorem State.regsApart_countConflicts (s : State) (pb : Nat) (words : List Nat) :
    RegsApart s (s.countConflicts pb words) ((List.range 512).map (behind (Reg.BENCH_CONFL_DATA pb))) := by
  intro key hkey
  rw [State.countConflicts_eq]
  refine foldl_read_untouched _ (fun t : State => t.reg key) _ _ (fun j hj t => State.reg_countBank_ne pb _ t (fun e => hkey ?_))
  obtain ⟨w, -, rfl⟩ := List.mem_map.mp (List.mem_eraseDups.mp hj)
  exact List.mem_map.mpr ⟨_, List.mem_range.mpr (poolBank_lt w), e.symm⟩

/-- A window without an error (R292). -/
theorem State.poolWindow_clean_spec {s t : State} {pb cmd : Nat} {port : PoolPort} {words : List Nat}
    (ht : t = s.poolWindow pb cmd port words none none) :
    t = { s with regs := t.regs } ∧
      (∀ k, t.reg (behind (Reg.BENCH_CONFL_DATA pb) k) =
        conflictsAfter ((words.map poolBank).count k) (s.reg (behind (Reg.BENCH_CONFL_DATA pb) k))) ∧
      RegsApart s t ((List.range 512).map (behind (Reg.BENCH_CONFL_DATA pb))) := by
  have ht : t = s.countConflicts pb words := ht
  subst ht
  exact ⟨(RegsOnly.foldl (State.regsOnly_countBank pb _) _ (RegsOnly.refl s)).frame, s.reg_countConflicts pb words,
    s.regsApart_countConflicts pb words⟩

theorem State.benchUncorrectable_benches (s : State) (pb mem reader addr header : Nat) :
    (s.benchUncorrectable pb mem reader addr header).benches = s.benches := by
  unfold State.benchUncorrectable
  extract_lets f u v
  have hv : v.benches = u.benches := by
    unfold v
    split_ifs <;> rfl
  exact hv.trans (s.bump_benches f 1)

/-- A word of the Pool marked as uncorrectable. -/
def Bench.markBad (w : Nat) (b : Bench) : Bench :=
  { b with pool := { b.pool with bad := b.pool.bad.filter (fun x => decide (x ≠ w)) ++ [w] } }

/-- A Pool word met that decodes as uncorrectable: recorded, logged, and still uncorrectable (R286, R291). -/
def State.metBad (s : State) (pb reader w header : Nat) : State :=
  (s.benchUncorrectable pb memPool reader (32 * w) header).onBench pb (Bench.markBad w)

theorem State.bench_metBad (s : State) (pb reader w header : Nat) : (s.metBad pb reader w header).bench pb = (s.bench pb).markBad w := by
  rw [State.metBad, State.bench_onBench, State.bench_congr (s.benchUncorrectable_benches _ _ _ _ _)]

section BadWord

variable {s : State} {pb cmd : Nat} (port : PoolPort) (w : Nat)

theorem State.poolWindow_bad_of_none (h : (s.bench pb).exec cmd = none) :
    ∃ reader, s.poolWindow pb cmd port [] none (some w) = s.metBad pb reader w 0 := by
  have hnil : s.countConflicts pb [] = s := rfl
  simp only [State.poolWindow, hnil, h]
  exact ⟨_, rfl⟩

/-- Beside its own command, a bad word is noted with commands of other benches at most. -/
theorem State.poolWindow_bad_of_some {e : Exec} (h : (s.bench pb).exec cmd = some e) :
    ∃ (reader : Nat) (l : List Nat) (f : State → Nat → Bench → Bench), (∀ x ∈ l, x ≠ pb) ∧
      s.poolWindow pb cmd port [] none (some w) = l.foldl (fun t x => t.onBench x (f t x))
        ((s.metBad pb reader w e.header).onBench pb (·.noteBad (fun x => decide (x.id = cmd)) w)) := by
  have hnil : s.countConflicts pb [] = s := rfl
  unfold State.poolWindow
  rw [hnil]
  dsimp only
  rw [h, Option.map_some, Option.getD_some]
  dsimp only
  generalize (if port = .compute then rdEngine else rdSluice) = reader
  split
  · exact ⟨_, _, _, fun x hx => of_decide_eq_true (List.mem_filter.mp hx).2, rfl⟩
  · exact ⟨_, [], fun _ _ => id, nofun, rfl⟩

end BadWord

theorem Bench.mem_noteBad {b : Bench} {cmd w : Nat} {e : Exec} (he : e ∈ (b.noteBad (fun x => decide (x.id = cmd)) w).execs)
    (hid : e.id = cmd) : e.halt = some 6 ∧ w ∈ e.badWords := by
  obtain ⟨x, -, rfl⟩ := List.mem_map.mp he
  by_cases hx : x.id = cmd <;> simp_all

/-- A window with an uncorrectable word (R85, R286). -/
theorem State.poolWindow_bad_spec {s t : State} {pb cmd : Nat} {port : PoolPort} {w : Nat}
    (ht : t = s.poolWindow pb cmd port [] none (some w)) :
    w ∈ (t.bench pb).pool.bad ∧ (t.bench pb).pool.mem = (s.bench pb).pool.mem ∧
      ∀ e ∈ (t.bench pb).execs, e.id = cmd → e.halt = some 6 ∧ w ∈ e.badWords := by
  have hmem : w ∈ ((s.bench pb).markBad w).pool.bad := List.mem_append_right _ (List.mem_singleton.mpr rfl)
  cases h : (s.bench pb).exec cmd with
  | none =>
    obtain ⟨reader, hs⟩ := State.poolWindow_bad_of_none port w h
    rw [ht, hs, State.bench_metBad]
    exact ⟨hmem, rfl, fun e he hid => absurd (decide_eq_true hid) (List.find?_eq_none.mp h e he)⟩
  | some x =>
    obtain ⟨reader, l, f, hl, hs⟩ := State.poolWindow_bad_of_some port w h
    have hbench : t.bench pb = ((s.bench pb).markBad w).noteBad (fun x => decide (x.id = cmd)) w := by
      rw [ht, hs, foldl_read_untouched _ (fun t : State => t.bench pb) l _ (fun y hy t => t.bench_onBench_ne _ (hl y hy).symm),
        State.bench_onBench, State.bench_metBad]
    rw [hbench]
    exact ⟨hmem, rfl, fun e he hid => Bench.mem_noteBad he hid⟩

end Sys2Proof.Machine
end

section
/-! PROOF. Exchanges and tiles of the only command in execution (R105, R167). -/

namespace Sys2Proof.Machine

/-- A bench whose commands wait for no tile and no key unit is fed nothing. -/
theorem State.feed_of_feeder_none {s : State} {pb : Nat} (h : (s.bench pb).feeder = none) : s.feed pb = s := by
  have honce : s.feedOnce pb = s := by simp only [State.feedOnce, h]
  have hloop (n : Nat) : s.feedLoop pb n = s := by
    induction n with
    | zero => rfl
    | succ n ih => rw [State.feedLoop, honce, ih]
  exact hloop _

theorem Bench.feeder_of_execs_nil {b : Bench} (h : b.execs = []) : b.feeder = none := by
  rw [Bench.feeder, h]
  rfl

theorem Bench.feeder_of_todo_nil {b : Bench} {e : Exec} (h : b.execs = [e]) (he : e.todo = []) : b.feeder = none := by
  simp [Bench.feeder, h, he]

theorem Bench.feeder_of_drain {b : Bench} {e : Exec} {n tot : Nat} {rest : List Todo} (h : b.execs = [e])
    (he : e.todo = .drain n tot :: rest) : b.feeder = none := by
  simp [Bench.feeder, h, he]

theorem Bench.execs_onExec_self {b : Bench} {e : Exec} (h : b.execs = [e]) (f : Exec → Exec) : (b.onExec e.id f).execs = [f e] := by
  simp [Bench.onExec, h]

/-- A command that the posts of its exchange have reached. -/
def Exec.takePosts (posts : List XPost) (e : Exec) : Exec := { e with todo := e.todo.drop 1, gathered := e.gathered ++ [posts] }

/-- The posts of a gang's exchange handed to the command that waits for it (R167). -/
theorem State.exchange_spec {s t : State} {pb : Nat} {e : Exec} {q : Nat} {posts : List XPost} (hexecs : (s.bench pb).execs = [e])
    (htodo : e.todo = [.exchange q])
    (hposts : posts = (s.gangBenches (s.gangIdx pb)).filterMap (fun x => (s.bench x).xPosts.find? (fun p => decide (p.seq = q))))
    (hfour : posts.length = 4) (hshape : ∀ p ∈ posts, p.shape = (posts.headD ⟨0, [], [], []⟩).shape) (ht : t = s.exchange pb) :
    (t.bench pb).execs = [e.takePosts posts] ∧ (t.bench pb).pool = (s.bench pb).pool ∧ t.regs = s.regs := by
  obtain ⟨u, hu⟩ : ∃ u, u = (s.gangBenches (s.gangIdx pb)).foldl (fun u x => u.onBench x (·.takePost q (s.posOf pb))) s :=
    ⟨_, rfl⟩
  obtain ⟨v, hv⟩ : ∃ v, v = u.onBench pb (·.onExec e.id (Exec.takePosts posts)) := ⟨_, rfl⟩
  have hex : (s.bench pb).exchanger = some (e, q) := by simp [Bench.exchanger, hexecs, htodo]
  have hsame : posts.all (fun p => decide (p.shape = (posts.headD ⟨0, [], [], []⟩).shape)) = true := by simpa using hshape
  have ht : t = v.feed pb := by
    rw [ht, hv, hu]
    simp only [State.exchange, hex, ← hposts, hfour, hsame, Nat.lt_irrefl, if_true, if_false]
    rfl
  have hread {β : Type} (read : Bench → β) (hr : ∀ b, read (Bench.takePost b q (s.posOf pb)) = read b) :
      read (u.bench pb) = read (s.bench pb) := hu ▸ State.bench_foldl_onBench_read read hr _ s pb
  have hbench : v.bench pb = (u.bench pb).onExec e.id (Exec.takePosts posts) := hv ▸ u.bench_onBench pb _
  have hx : (v.bench pb).execs = [e.takePosts posts] := by
    rw [hbench, Bench.execs_onExec_self ((hread Bench.execs (fun _ => rfl)).trans hexecs)]
  have hdone : (e.takePosts posts).todo = [] := by rw [Exec.takePosts, htodo, List.drop_one, List.tail_cons]
  rw [State.feed_of_feeder_none (Bench.feeder_of_todo_nil hx hdone)] at ht
  rw [ht]
  refine ⟨hx, ?_, ?_⟩
  · rw [hbench, ← hread Bench.pool (fun _ => rfl)]
    rfl
  · rw [hv, State.onBench_regs, hu, State.foldl_onBench_regs]

theorem State.countFloat_frame (s : State) (pb nan inf flush : Nat) :
    s.countFloat pb nan inf flush = { s with rc := (s.countFloat pb nan inf flush).rc } := by
  unfold State.countFloat
  rw [State.bump_frame, State.bump_frame (s.bump _ _), State.bump_frame s]

/-- A command of which tile n of tot has entered the chute. -/
def Exec.tileDrained (n tot : Nat) (e : Exec) : Exec := { e with todo := if n + 1 = tot then [] else [.drain (n + 1) tot] }

/-- The next tile of an array command enters a chute with room (R105). -/
theorem State.enterChute_spec {s t : State} {pb : Nat} {e : Exec} {n tot : Nat} (hexecs : (s.bench pb).execs = [e])
    (hclass : classOf e.word = 4) (htodo : e.todo = [.drain n tot]) (hab : (s.bench pb).abandoning = false)
    (hroom : (s.bench pb).chute.length < 8) (ht : t = s.enterChute pb) :
    (t.bench pb).chute = (s.bench pb).chute ++ [(aeTile s pb e n).1] ∧ (t.bench pb).execs = [e.tileDrained n tot] ∧
      (t.bench pb).pool = (s.bench pb).pool ∧ BenchesApart s t pb := by
  have hfind : (s.bench pb).execs.find? (fun e => decide (classOf e.word = 4)) = some e := by simp [hexecs, hclass]
  have hfull : ¬ 8 ≤ (s.bench pb).chute.length := by omega
  obtain ⟨b, hb⟩ : ∃ b : Bench, b = { (s.bench pb).onExec e.id (Exec.tileDrained n tot) with
    chute := (s.bench pb).chute ++ [(aeTile s pb e n).1] } := ⟨_, rfl⟩
  obtain ⟨u, hu⟩ : ∃ u, u = (s.setBench pb b).countFloat pb (aeTile s pb e n).2.1 (aeTile s pb e n).2.2.1 (aeTile s pb e n).2.2.2 :=
    ⟨_, rfl⟩
  have ht : t = u.feed pb := by
    rw [ht, hu, hb]
    simp only [State.enterChute, hfind, htodo, hab, hfull, Bool.false_eq_true, or_self, if_false]
    rfl
  have hbenches : u.benches = (s.setBench pb b).benches := by rw [hu, State.countFloat_frame]
  have hbench : u.bench pb = b := (State.bench_congr hbenches pb).trans (s.bench_setBench pb b)
  have hx : b.execs = [e.tileDrained n tot] := hb ▸ Bench.execs_onExec_self hexecs _
  have hfeeder : (u.bench pb).feeder = none := by
    rw [hbench]
    by_cases hlast : n + 1 = tot
    · exact Bench.feeder_of_todo_nil hx (if_pos hlast)
    · exact Bench.feeder_of_drain hx (if_neg hlast)
  rw [State.feed_of_feeder_none hfeeder] at ht
  rw [ht, hbench]
  exact ⟨by rw [hb], hx, by rw [hb]; rfl, (s.benchesApart_setBench pb b).trans (BenchesApart.of_benches_eq hbenches pb)⟩

theorem exec_poolWindowComplete {s : State} (hrun : s.running = true) (pb : Fin 68) (cmd : Nat) (port : PoolPort)
    {words : List (BitVec 21)} (hlen : words.length ≤ 512) (corr bad : Option (BitVec 21)) :
    exec (.poolWindowComplete pb cmd port words corr bad) s =
      .next (s.poolWindow pb cmd port (words.map BitVec.toNat) (corr.map BitVec.toNat) (bad.map BitVec.toNat)) :=
  (if_pos (decide_eq_true hlen)).trans (next_live_of_running hrun _)

/-- Settles O25: each event of a running device is the change of its command that the lemmas above describe. -/
theorem engineEventsFeedTheirCommand : Obligations.EngineEventsFeedTheirCommand := by
  refine ⟨fun s pb cmd port words hrun hlen => ?_, fun s pb cmd w port bad hrun hw => ?_,
    fun s pb e q rest posts hrun hexecs htodo hposts hfour hshape hrest => ?_,
    fun s pb e n tot hrun hexecs hclass htodo hab hroom => ?_⟩
  · obtain ⟨hframe, hcount, hapart⟩ := State.poolWindow_clean_spec (s := s) (pb := pb) (cmd := cmd) (port := port)
      (words := words.map BitVec.toNat) rfl
    rw [List.map_map] at hcount
    exact ⟨_, exec_poolWindowComplete hrun pb cmd port hlen none none, hframe, fun k _ => hcount k, hapart⟩
  · subst hw
    exact ⟨_, exec_poolWindowComplete hrun pb cmd port (Nat.zero_le _) none (some bad), State.poolWindow_bad_spec rfl⟩
  · subst hrest
    obtain ⟨hx, hpool, hregs⟩ := State.exchange_spec hexecs htodo hposts hfour hshape rfl
    exact ⟨_, _, next_live_of_running hrun _, hx, rfl, rfl, congrArg (List.drop 1) htodo, rfl, rfl, hpool, hregs⟩
  · obtain ⟨hchute, hx, hpool, hapart⟩ := State.enterChute_spec hexecs hclass htodo hab hroom rfl
    exact ⟨_, _, next_live_of_running hrun _, hchute, hx, rfl, hpool, hapart⟩

end Sys2Proof.Machine
end

section
/-! PROOF. Key streams: the start of the pending stream and the delivery of units against credits (R92, R228-R231). -/

namespace Sys2Proof.Machine

theorem State.basinCorrected_benches (s : State) (l reader addr : Nat) : (s.basinCorrected l reader addr).benches = s.benches := by
  unfold State.basinCorrected
  extract_lets f first u
  have hu : u.benches = s.benches := s.bump_benches f 1
  split_ifs
  · rw [State.logAt_benches, hu]
  · exact hu

theorem State.hbmCorrected_benches (s : State) (c reader addr : Nat) : (s.hbmCorrected c reader addr).benches = s.benches := by
  unfold State.hbmCorrected
  extract_lets f first u
  have hu : u.benches = s.benches := s.bump_benches f 1
  split_ifs
  · rw [State.logAt_benches, hu]
  · exact hu

theorem ledgeOf_lt (pb : Fin 68) : ledgeOf pb < 4 := by
  simp only [ledgeOf]
  omega

/-- Tag mismatches are counted one by one (R526). -/
theorem rcUnit_mismatches : ∀ l, l < 4 →
    rcUnit (Fld.DEVCTL_MILLRACE_STATUS_MISMATCHES l).key (Fld.DEVCTL_MILLRACE_STATUS_MISMATCHES l).lo = 1 := by decide

/-- Delivered bytes are shown in KiB (R526). -/
theorem rcUnit_delivered : ∀ l, l < 4 →
    rcUnit (Fld.DEVCTL_MILLRACE_BYTES_DELIVERED l).key (Fld.DEVCTL_MILLRACE_BYTES_DELIVERED l).lo ≠ 1 := by decide

/-- A bench as its pending stream k starts. -/
def Bench.streamStarted (b : Bench) (k : KStream) (bad : Bool) : Bench :=
  { b with kActive := some { k with mismatch := bad }, kPending := b.kWait.head?, kWait := b.kWait.drop 1 }

theorem State.streamStart_eq {s : State} {pb : Nat} {k : KStream} {bad : Bool} (hact : (s.bench pb).kActive = none)
    (hpend : (s.bench pb).kPending = some k) (htotal : k.total ≠ 0) (hbad : bad = decide (keyTag (s.keyEnt k.entry) ≠ k.tag)) :
    s.streamStart pb = if bad then
      (s.setBench pb ((s.bench pb).streamStarted k bad)).bump (Fld.DEVCTL_MILLRACE_STATUS_MISMATCHES (ledgeOf pb)) 1
      else s.setBench pb ((s.bench pb).streamStarted k bad) := by
  simp only [State.streamStart, hact, hpend, htotal, if_false, ← hbad]
  rfl

/-- The start of a key stream (R229, R231). -/
theorem State.streamStart_spec {s t : State} {pb : Nat} {k : KStream} {bad : Bool} (hl : ledgeOf pb < 4)
    (hact : (s.bench pb).kActive = none) (hpend : (s.bench pb).kPending = some k) (htotal : k.total ≠ 0)
    (hbad : bad = decide (keyTag (s.keyEnt k.entry) ≠ k.tag)) (ht : t = s.streamStart pb) :
    t = { s with benches := t.benches, rc := t.rc } ∧ BenchesApart s t pb ∧ t.bench pb = (s.bench pb).streamStarted k bad ∧
      t.cnt (Fld.DEVCTL_MILLRACE_STATUS_MISMATCHES (ledgeOf pb)) =
        (if bad then min 0xFFFFFFFF (s.cnt (Fld.DEVCTL_MILLRACE_STATUS_MISMATCHES (ledgeOf pb)) + 1)
         else s.cnt (Fld.DEVCTL_MILLRACE_STATUS_MISMATCHES (ledgeOf pb))) := by
  rw [State.streamStart_eq hact hpend htotal hbad] at ht
  have hset := s.bench_setBench pb ((s.bench pb).streamStarted k bad)
  have hapart := s.benchesApart_setBench pb ((s.bench pb).streamStarted k bad)
  have hcnt : ∀ f, (s.setBench pb ((s.bench pb).streamStarted k bad)).cnt f = s.cnt f := fun _ => rfl
  cases bad with
  | false =>
    rw [if_neg Bool.false_ne_true] at ht
    subst ht
    exact ⟨rfl, hapart, hset, hcnt _⟩
  | true =>
    rw [if_pos rfl] at ht
    have hbenches := State.bump_benches (s.setBench pb ((s.bench pb).streamStarted k true))
      (Fld.DEVCTL_MILLRACE_STATUS_MISMATCHES (ledgeOf pb)) 1
    refine ⟨?_, ?_, ?_, ?_⟩
    · rw [ht, State.bump_frame]
      rfl
    · exact ht ▸ hapart.trans (BenchesApart.of_benches_eq hbenches pb)
    · rw [ht, State.bench_congr hbenches, hset]
    · rw [ht, State.cnt_bump_of_unit _ (rcUnit_mismatches _ hl), hcnt]
      rfl

/-- A bench as unit u of its active stream k is delivered. -/
def Bench.delivered (b : Bench) (k : KStream) (u : KUnit) : Bench :=
  { b with
    keyBuf := b.keyBuf ++ [u], credits := b.credits - 1
    kActive := if k.total ≤ k.sent + 1 then none else some { k with sent := k.sent + 1 } }

/-- The counts of a delivery: the unit's bytes and those of its stored words. -/
def State.countDelivery (s : State) (l stored : Nat) : State :=
  (s.bump (Fld.DEVCTL_MILLRACE_BYTES_DELIVERED l) 512).bump (Fld.DEVCTL_MILLRACE_BYTES_STORED l) (4 * stored)

theorem State.countDelivery_frame (s : State) (l stored : Nat) :
    s.countDelivery l stored = { s with rc := (s.countDelivery l stored).rc } := by
  unfold State.countDelivery
  rw [State.bump_frame, State.bump_frame s]

theorem State.cnt_countDelivery (s : State) {l : Nat} (hl : l < 4) (stored : Nat) :
    (s.countDelivery l stored).cnt (Fld.DEVCTL_MILLRACE_BYTES_DELIVERED l) = s.cnt (Fld.DEVCTL_MILLRACE_BYTES_DELIVERED l) + 512 := by
  have hne : (Fld.DEVCTL_MILLRACE_BYTES_DELIVERED l).rcKey ≠ (Fld.DEVCTL_MILLRACE_BYTES_STORED l).rcKey := by
    simp only [Fld.rcKey, Fld.DEVCTL_MILLRACE_BYTES_DELIVERED, Fld.DEVCTL_MILLRACE_BYTES_STORED]
    omega
  have hstored (u : State) (n : Nat) : (u.bump (Fld.DEVCTL_MILLRACE_BYTES_STORED l) n).cnt (Fld.DEVCTL_MILLRACE_BYTES_DELIVERED l) =
      u.cnt (Fld.DEVCTL_MILLRACE_BYTES_DELIVERED l) := by
    unfold State.bump
    split_ifs <;> exact u.cnt_setCnt_ne _ hne
  rw [State.countDelivery, hstored, State.cnt_bump_of_smaller _ (rcUnit_delivered l hl)]

/-- The next unit in the buffer, after what its check codes bring to the log (R92, R230, R291). -/
theorem State.unitDeliver_eq {s : State} {pb : Nat} (ecc : Ecc) {k : KStream} (hact : (s.bench pb).kActive = some k)
    (hcr : (s.bench pb).credits ≠ 0) (hmode : (s.bench pb).mode ≠ .rinsing) :
    ∃ (v : State) (u : KUnit) (n : Nat), v.benches = s.benches ∧ (ecc = .clean → v = s) ∧
      u.vals = (s.streamUnit pb k k.sent).map (·.el) ∧ (k.mismatch = false → u.mismatch = none) ∧
      s.unitDeliver pb ecc = ((v.setBench pb ((s.bench pb).delivered k u)).countDelivery (ledgeOf pb) n).feed pb := by
  have hgo : ¬ ((s.bench pb).credits = 0 ∨ (s.bench pb).mode = .rinsing) := not_or.mpr ⟨hcr, hmode⟩
  unfold State.unitDeliver
  extract_lets b l
  have hb : b.kActive = some k := hact
  simp -zeta only [hb]
  rw [if_neg hgo]
  extract_lets rs hbm stored hit poison at1 at2 u v w x
  refine ⟨v, u, stored.length, ?_, fun hclean => ?_, rfl, fun hm => ?_, rfl⟩
  · unfold v
    split_ifs
    · split
      · exact State.hbmCorrected_benches _ _ _ _
      · rfl
    · exact State.basinCorrected_benches _ _ _ _
    · rfl
  · exact if_neg (fun h => absurd (hclean.symm.trans h.1) (by decide))
  · exact if_neg (fun h => Bool.false_ne_true (hm.symm.trans h.1))

/-- The delivery of a unit to a bench with nothing in execution (R92, R230). -/
theorem State.unitDeliver_spec {s : State} {pb : Nat} {ecc : Ecc} {k : KStream} (hl : ledgeOf pb < 4)
    (hact : (s.bench pb).kActive = some k) (hcr : (s.bench pb).credits ≠ 0) (hmode : (s.bench pb).mode ≠ .rinsing)
    (hexecs : (s.bench pb).execs = []) :
    ∃ u, BenchesApart s (s.unitDeliver pb ecc) pb ∧ (s.unitDeliver pb ecc).bench pb = (s.bench pb).delivered k u ∧
      u.vals = (s.streamUnit pb k k.sent).map (·.el) ∧ (k.mismatch = false → u.mismatch = none) ∧
      (ecc = .clean → s.unitDeliver pb ecc = { s with benches := (s.unitDeliver pb ecc).benches, rc := (s.unitDeliver pb ecc).rc } ∧
        (s.unitDeliver pb ecc).cnt (Fld.DEVCTL_MILLRACE_BYTES_DELIVERED (ledgeOf pb)) =
          s.cnt (Fld.DEVCTL_MILLRACE_BYTES_DELIVERED (ledgeOf pb)) + 512) := by
  obtain ⟨v, u, n, hv, hclean, hvals, hmis, he⟩ := State.unitDeliver_eq ecc hact hcr hmode
  obtain ⟨w, hw⟩ : ∃ w, w = (v.setBench pb ((s.bench pb).delivered k u)).countDelivery (ledgeOf pb) n := ⟨_, rfl⟩
  have hbenches : w.benches = (v.setBench pb ((s.bench pb).delivered k u)).benches := by rw [hw, State.countDelivery_frame]
  have hbench : w.bench pb = (s.bench pb).delivered k u := by rw [State.bench_congr hbenches, State.bench_setBench]
  have hfeeder : (w.bench pb).feeder = none := Bench.feeder_of_execs_nil (by rw [hbench]; exact hexecs)
  rw [← hw, State.feed_of_feeder_none hfeeder] at he
  rw [he]
  refine ⟨u, ?_, hbench, hvals, hmis, fun hc => ?_⟩
  · exact ((BenchesApart.of_benches_eq hv pb).trans (v.benchesApart_setBench pb _)).trans (BenchesApart.of_benches_eq hbenches pb)
  · obtain rfl := hclean hc
    refine ⟨?_, ?_⟩
    · rw [hw, State.countDelivery_frame]
      rfl
    · rw [hw, State.cnt_countDelivery _ hl]
      rfl

theorem State.unitDeliver_of_none {s : State} {pb : Nat} (ecc : Ecc)
    (h : (s.bench pb).kActive = none ∨ (s.bench pb).credits = 0) : s.unitDeliver pb ecc = s := by
  unfold State.unitDeliver
  cases hk : (s.bench pb).kActive with
  | none => simp only [hk]
  | some k =>
    have hcr := h.resolve_left (by simp [hk])
    simp only [hk, hcr, true_or, if_true]

/-- Settles O32: each event of a running device is the change of its bench's key streams that the lemmas above describe; where a stream or a
credit is missing it finds nothing to do (log 4). -/
theorem keyStreamsStartAndDeliver : Obligations.KeyStreamsStartAndDeliver := by
  refine ⟨fun s pb k bad hrun hact hpend htotal hbad => ?_, fun s pb ecc k hrun hact hcr hmode hexecs => ?_, fun s pb ecc hrun h => ?_⟩
  · exact ⟨_, next_live_of_running hrun _, State.streamStart_spec (ledgeOf_lt pb) hact hpend htotal hbad rfl⟩
  · obtain ⟨u, hspec⟩ := State.unitDeliver_spec (ecc := ecc) (ledgeOf_lt pb) hact hcr hmode hexecs
    exact ⟨_, u, next_live_of_running hrun _, hspec⟩
  · exact (next_live_of_running hrun _).trans (congrArg _ (State.unitDeliver_of_none ecc h))

end Sys2Proof.Machine
end

section
/-! PROOF. What abandonment leaves of the waits and the registers of a bench (R114, R116, R303, R333). -/

namespace Sys2Proof.Machine

theorem State.abandonWaits_frame (s : State) (pb : Nat) :
    ∃ b n, s.abandonWaits pb = { s with benches := b, net := n } := by
  unfold State.abandonWaits
  rw [State.foldl_onBench_frame]
  exact ⟨_, _, rfl⟩

theorem State.replyWeir_frame (s : State) (req : WeirReq) (count : Nat) : ∃ n, s.replyWeir req count = { s with net := n } := by
  unfold State.replyWeir
  split_ifs
  · exact ⟨s.net, rfl⟩
  · exact ⟨_, rfl⟩

/-- A reading of anything but what is on its way is the same after any number of replies of Weirs. -/
theorem State.foldl_replyWeir_read {β : Type} (read : State → β) (hr : ∀ (t : State) n, read { t with net := n } = read t)
    (l : List HeldWait) (s : State) : read (l.foldl (fun s h => s.replyWeir h.req 0) s) = read s := by
  refine foldl_read_untouched _ read l s (fun h _ t => ?_)
  obtain ⟨n, ht⟩ := t.replyWeir_frame h.req 0
  rw [ht, hr]

theorem State.rinseWeirs_read {β : Type} (read : State → β) (hr : ∀ (t : State) n, read { t with net := n } = read t) (s : State)
    (pb : Nat) : read (s.rinseWeirs pb) = read (s.setBench pb { s.bench pb with weirs := [], held := [] }) :=
  State.foldl_replyWeir_read read hr _ _

theorem State.regsOnly_clearCtx (s : State) (pb : Nat) : RegsOnly s (s.clearCtx pb) :=
  ((RegsOnly.refl s).setReg _ _).trans (State.regsOnly_clearSnap _ pb)

theorem State.reg_sluiceCtx_clearCtx (s : State) (pb : Nat) : (s.clearCtx pb).reg (Reg.BENCH_SLUICE_CTX pb) = 0 := by
  rw [State.clearCtx, State.reg_clearSnap _ (.inr (by simp only [Reg.BENCH_STALL_SNAP1, Reg.BENCH_SLUICE_CTX]; omega)),
    State.reg_setReg]

end Sys2Proof.Machine
end

section
/-! PROOF. Rinse: the bench as it enters RINSING, and as zeroisation ends (R116, R121, R202, R303, R304). -/

namespace Sys2Proof.Machine

/-- A bench as a Rinse begins, its Weirs not yet released. -/
def Bench.rinsed (b : Bench) : Bench :=
  { b.emptied with mode := .rinsing, fm := { Foreman.reset with stopCause := (b.fm.stop 4).stopCause, weirId := b.fm.weirId + 1 } }

theorem State.rinse_of_sluice_nil {s : State} {pb : Nat} (hmode : (s.bench pb).mode ≠ .rinsing) (hsl : (s.bench pb).sluice = []) :
    s.rinse pb = (((s.abandonWaits pb).onBench pb Bench.rinsed).clearCtx pb).rinseWeirs pb := by
  unfold State.rinse
  dsimp only
  rw [if_neg hmode, hsl, List.foldl_nil]
  rfl

/-- A Rinse with no Sluice transfer in flight (R116, R202, R303). -/
theorem State.rinse_spec {s t : State} {pb : Nat} (hmode : (s.bench pb).mode ≠ .rinsing) (hsl : (s.bench pb).sluice = [])
    (ht : t = s.rinse pb) :
    (∃ b, t.bench pb = { Bench.rinsed b with weirs := [], held := [] }) ∧
      (∀ q, q ≠ pb → (t.bench q).pool = (s.bench q).pool ∧ (t.bench q).mode = (s.bench q).mode) ∧ t.hbm = s.hbm := by
  rw [State.rinse_of_sluice_nil hmode hsl] at ht
  obtain ⟨u, hu⟩ : ∃ u, u = (s.abandonWaits pb).onBench pb Bench.rinsed := ⟨_, rfl⟩
  rw [← hu] at ht
  have hctx := u.regsOnly_clearCtx pb
  have hbench (q : Nat) : t.bench q = ((u.clearCtx pb).setBench pb { u.bench pb with weirs := [], held := [] }).bench q := by
    rw [ht, State.rinseWeirs_read (State.bench · q) (fun _ _ => rfl), hctx.bench]
  have hother {β : Type} (read : Bench → β) (hr : ∀ (b : Bench) h, read { b with held := h } = read b) {q : Nat} (hq : q ≠ pb) :
      read (t.bench q) = read (s.bench q) := by
    rw [hbench, State.bench_setBench_ne _ _ hq, hctx.bench, hu, State.bench_onBench_ne _ _ hq, State.bench_abandonWaits_read read hr]
  refine ⟨⟨(s.abandonWaits pb).bench pb, ?_⟩,
    fun q hq => ⟨hother Bench.pool (fun _ _ => rfl) hq, hother Bench.mode (fun _ _ => rfl) hq⟩, ?_⟩
  · rw [hbench, State.bench_setBench, hu, State.bench_onBench]
  · obtain ⟨b, n, hw⟩ := s.abandonWaits_frame pb
    rw [ht, State.rinseWeirs_read State.hbm (fun _ _ => rfl), State.setBench_hbm, hctx.frame, hu, State.onBench_hbm, hw]

/-- A message ring as a Rinse leaves it (R202). -/
def State.ringCleared (pb : Nat) (s : State) (i : Nat) : State :=
  ((s.wrB (Fld.BENCH_RING_CFG_EN pb i) false).setReg (Reg.BENCH_RING_PTR pb i) 0).setCnt (Fld.BENCH_RING_PTR_DROPPED pb i) 0

/-- A route and its handler as a Rinse leaves them (R202). -/
def State.routeCleared (pb : Nat) (s : State) (r : Nat) : State :=
  ((s.setReg (Reg.BENCH_ROUTE pb r) 0).wr (Fld.BENCH_ROUTE_STAT_AVAIL pb r) 0).setReg (Reg.BENCH_HANDLER pb r) 0

theorem State.rinseMessages_eq (s : State) (pb : Nat) :
    s.rinseMessages pb = (List.range 256).foldl (State.routeCleared pb) ((List.range 16).foldl (State.ringCleared pb) s) := rfl

theorem State.reg_ringCleared_ne (pb : Nat) (s : State) {i k : Nat} (hc : k ≠ Reg.BENCH_RING_CFG pb i)
    (hp : k ≠ Reg.BENCH_RING_PTR pb i) : (s.ringCleared pb i).reg k = s.reg k :=
  (State.reg_setReg_ne _ _ hp).trans (State.reg_wr_ne s _ hc)

theorem State.reg_routeCleared_ne (pb : Nat) (s : State) {r k : Nat} (hr : k ≠ Reg.BENCH_ROUTE pb r)
    (hs : k ≠ Reg.BENCH_ROUTE_STAT pb r) (hh : k ≠ Reg.BENCH_HANDLER pb r) : (s.routeCleared pb r).reg k = s.reg k :=
  (State.reg_setReg_ne _ _ hh).trans ((State.reg_wr_ne _ _ hs).trans (State.reg_setReg_ne s _ hr))

/-- What a Rinse clears of a ring, as software reads it. -/
def State.ringShown (s : State) (pb i : Nat) : Bool × Reg64 := (s.flag (Fld.BENCH_RING_CFG_EN pb i), s.reg (Reg.BENCH_RING_PTR pb i))

/-- What a Rinse clears of a route and its handler, as software reads it. -/
def State.routeShown (s : State) (pb r : Nat) : Reg64 × Reg64 × Nat :=
  (s.reg (Reg.BENCH_ROUTE pb r), s.reg (Reg.BENCH_HANDLER pb r), s.rd (Fld.BENCH_ROUTE_STAT_AVAIL pb r))

theorem State.ringShown_congr {s t : State} {pb i : Nat} (hc : t.reg (Reg.BENCH_RING_CFG pb i) = s.reg (Reg.BENCH_RING_CFG pb i))
    (hp : t.reg (Reg.BENCH_RING_PTR pb i) = s.reg (Reg.BENCH_RING_PTR pb i)) : t.ringShown pb i = s.ringShown pb i :=
  congrArg₂ Prod.mk (State.flag_of_reg_eq hc) hp

theorem State.routeShown_congr {s t : State} {pb r : Nat} (hr : t.reg (Reg.BENCH_ROUTE pb r) = s.reg (Reg.BENCH_ROUTE pb r))
    (hh : t.reg (Reg.BENCH_HANDLER pb r) = s.reg (Reg.BENCH_HANDLER pb r))
    (hs : t.reg (Reg.BENCH_ROUTE_STAT pb r) = s.reg (Reg.BENCH_ROUTE_STAT pb r)) : t.routeShown pb r = s.routeShown pb r :=
  congrArg₂ Prod.mk hr (congrArg₂ Prod.mk hh (State.rd_of_reg_eq hs))

theorem State.ringShown_ringCleared (s : State) (pb i : Nat) : (s.ringCleared pb i).ringShown pb i = (false, 0) := by
  obtain ⟨u, hu⟩ : ∃ u, u = s.wrB (Fld.BENCH_RING_CFG_EN pb i) false := ⟨_, rfl⟩
  have hregs (k : Nat) : (s.ringCleared pb i).reg k = (u.setReg (Reg.BENCH_RING_PTR pb i) 0).reg k := hu ▸ rfl
  have hen : u.flag (Fld.BENCH_RING_CFG_EN pb i) = false := hu ▸ s.flag_wrB false (by decide : 63 < 64) (by decide : 63 ≤ 63)
  have hne : Reg.BENCH_RING_CFG pb i ≠ Reg.BENCH_RING_PTR pb i := by
    simp only [Reg.BENCH_RING_CFG, Reg.BENCH_RING_PTR]
    omega
  exact congrArg₂ Prod.mk ((State.flag_of_reg_eq ((hregs _).trans (u.reg_setReg_ne 0 hne))).trans hen)
    ((hregs _).trans (u.reg_setReg _ 0))

theorem State.ringShown_ringCleared_ne (s : State) (pb : Nat) {i j : Nat} (h : j ≠ i) :
    (s.ringCleared pb j).ringShown pb i = s.ringShown pb i := by
  apply State.ringShown_congr <;> apply State.reg_ringCleared_ne <;> simp only [Reg.BENCH_RING_CFG, Reg.BENCH_RING_PTR] <;> omega

theorem State.routeShown_routeCleared (s : State) (pb r : Nat) : (s.routeCleared pb r).routeShown pb r = (0, 0, 0) := by
  obtain ⟨hrh, hrs, hsh⟩ : Reg.BENCH_ROUTE pb r ≠ Reg.BENCH_HANDLER pb r ∧ Reg.BENCH_ROUTE pb r ≠ Reg.BENCH_ROUTE_STAT pb r ∧
      Reg.BENCH_ROUTE_STAT pb r ≠ Reg.BENCH_HANDLER pb r := by
    simp only [Reg.BENCH_ROUTE, Reg.BENCH_HANDLER, Reg.BENCH_ROUTE_STAT]
    omega
  have hstat := State.rd_wr_of_lt (s.setReg (Reg.BENCH_ROUTE pb r) 0) (f := Fld.BENCH_ROUTE_STAT_AVAIL pb r) (v := 0)
    (by decide : 63 < 64) (by decide : 56 ≤ 63) (Nat.two_pow_pos _)
  refine congrArg₂ Prod.mk ?_ (congrArg₂ Prod.mk (State.reg_setReg _ _ 0)
    ((State.rd_of_reg_eq (State.reg_setReg_ne _ 0 hsh)).trans hstat))
  rw [State.routeCleared, State.reg_setReg_ne _ _ hrh, State.reg_wr_ne _ _ hrs, State.reg_setReg]

theorem State.routeShown_routeCleared_ne (s : State) (pb : Nat) {r j : Nat} (hr : r < 256) (hj : j < 256) (h : j ≠ r) :
    (s.routeCleared pb j).routeShown pb r = s.routeShown pb r := by
  apply State.routeShown_congr <;> apply State.reg_routeCleared_ne <;>
    simp only [Reg.BENCH_ROUTE, Reg.BENCH_HANDLER, Reg.BENCH_ROUTE_STAT] <;> omega

/-- The routes and handlers lie above the rings. -/
theorem State.ringShown_routeCleared (s : State) (pb r : Nat) {i : Nat} (hi : i < 16) :
    (s.routeCleared pb r).ringShown pb i = s.ringShown pb i := by
  apply State.ringShown_congr <;> apply State.reg_routeCleared_ne <;>
    simp only [Reg.BENCH_ROUTE, Reg.BENCH_ROUTE_STAT, Reg.BENCH_HANDLER, Reg.BENCH_RING_CFG, Reg.BENCH_RING_PTR] <;> omega

theorem State.rinseMessages_benches (s : State) (pb : Nat) : (s.rinseMessages pb).benches = s.benches := by
  rw [State.rinseMessages_eq, foldl_read_untouched (State.routeCleared pb) State.benches _ _ (fun _ _ _ => rfl),
    foldl_read_untouched (State.ringCleared pb) State.benches _ _ (fun _ _ _ => rfl)]

theorem State.ringShown_rinseMessages (s : State) (pb : Nat) {i : Nat} (hi : i < 16) :
    (s.rinseMessages pb).ringShown pb i = (false, 0) := by
  rw [State.rinseMessages_eq, foldl_read_untouched _ (State.ringShown · pb i) _ _ (fun r _ t => t.ringShown_routeCleared pb r hi)]
  exact foldl_read_touched _ (State.ringShown · pb i) i _ (fun t => t.ringShown_ringCleared pb i) _ s (List.mem_range.mpr hi)
    (fun j _ hj t => t.ringShown_ringCleared_ne pb hj)

theorem State.routeShown_rinseMessages (s : State) (pb : Nat) {r : Nat} (hr : r < 256) :
    (s.rinseMessages pb).routeShown pb r = (0, 0, 0) := by
  rw [State.rinseMessages_eq]
  exact foldl_read_touched _ (State.routeShown · pb r) r _ (fun t => t.routeShown_routeCleared pb r) _ _ (List.mem_range.mpr hr)
    (fun j hj hne t => t.routeShown_routeCleared_ne pb hr (List.mem_range.mp hj) hne)

/-- A reading that neither the gangs' registers nor the list of clearings changes is as before when the clearings are settled. -/
theorem State.settleClearing_read {β : Type} (read : State → β) (hm : ∀ (t : State) m, read { t with mgmt := m } = read t)
    (hg : ∀ (t : State) g f v, g < 16 → f.key = Reg.MGMT_GANG g → read (t.wr f v) = read t)
    (hs : ∀ (t : State) g, g < 16 → read (t.settleAvail g) = read t) (s : State) : read s.settleClearing = read s := by
  unfold State.settleClearing
  refine (foldl_read_untouched _ read _ _ (fun c _ t => foldl_read_untouched _ read _ _ (fun g hgs u => ?_))).trans (hm s _)
  have hg16 : g < 16 := List.mem_range.mp (List.mem_of_mem_filter hgs)
  dsimp only
  split_ifs
  · rw [hg _ g _ _ hg16 rfl, hg _ g _ _ hg16 rfl]
  · rw [hs _ g hg16, hg _ g _ _ hg16 rfl, hg _ g _ _ hg16 rfl]

theorem State.bench_settleClearing (s : State) (q : Nat) : s.settleClearing.bench q = s.bench q :=
  State.settleClearing_read (State.bench · q) (fun _ _ => rfl) (fun _ _ _ _ _ _ => rfl) (fun t g _ => t.bench_settleAvail g q) s

/-- The registers of the benches lie above those of the gangs. -/
theorem State.reg_settleClearing (s : State) {pb k : Nat} (hk : Reg.BENCH_CTL pb ≤ k) : s.settleClearing.reg k = s.reg k := by
  simp only [Reg.BENCH_CTL] at hk
  refine State.settleClearing_read (State.reg · k) (fun _ _ => rfl) (fun t g f v hg hf => t.reg_wr_ne v ?_)
    (fun t g hg => t.regsApart_settleAvail g k ?_) s
  · rw [hf, Reg.MGMT_GANG]
    omega
  · simp only [List.mem_cons, List.not_mem_nil, or_false, Reg.DEVCTL_GANG_AVAIL, Reg.MGMT_GANG]
    omega

/-- A bench as zeroisation leaves it. -/
def Bench.zeroised (b : Bench) : Bench :=
  { b.emptied with
    mode := .idle, epoch := b.epoch, resetHeld := false, pool := EMem.zero, cmdMem := EMem.zero, descTab := EMem.zero
    loopTab := EMem.zero, route := [], imem := EMem.zero, dmem := EMem.zero }

theorem State.rinseDone_eq {s : State} {pb : Nat} (hmode : (s.bench pb).mode = .rinsing) :
    s.rinseDone pb = ((s.setBench pb (s.bench pb).zeroised).rinseMessages pb).settleClearing := by
  unfold State.rinseDone State.rinseComplete
  dsimp only
  rw [if_neg (not_not.mpr hmode)]
  rfl

/-- The end of a Rinse (R116, R121, R202). -/
theorem State.rinseDone_spec {s t : State} {pb : Nat} (hmode : (s.bench pb).mode = .rinsing) (ht : t = s.rinseDone pb) :
    t.bench pb = (s.bench pb).zeroised ∧ (∀ r, r < 256 → t.routeShown pb r = (0, 0, 0)) ∧
      (∀ i, i < 16 → t.ringShown pb i = (false, 0)) ∧ BenchesApart s t pb := by
  rw [State.rinseDone_eq hmode] at ht
  obtain ⟨u, hu⟩ : ∃ u, u = (s.setBench pb (s.bench pb).zeroised).rinseMessages pb := ⟨_, rfl⟩
  rw [← hu] at ht
  have hbench (q : Nat) : t.bench q = (s.setBench pb (s.bench pb).zeroised).bench q := by
    rw [ht, State.bench_settleClearing, State.bench_congr (hu ▸ State.rinseMessages_benches _ pb)]
  have hreg (k : Nat) (hk : Reg.BENCH_CTL pb ≤ k) : t.reg k = u.reg k := ht ▸ u.reg_settleClearing hk
  refine ⟨by rw [hbench, State.bench_setBench], fun r hr => ?_, fun i hi => ?_,
    fun q hq => by rw [hbench, State.bench_setBench_ne _ _ hq]⟩
  · rw [← State.routeShown_rinseMessages (s.setBench pb (s.bench pb).zeroised) pb hr, ← hu]
    apply State.routeShown_congr <;> apply hreg <;>
      simp only [Reg.BENCH_CTL, Reg.BENCH_ROUTE, Reg.BENCH_HANDLER, Reg.BENCH_ROUTE_STAT] <;> omega
  · rw [← State.ringShown_rinseMessages (s.setBench pb (s.bench pb).zeroised) pb hi, ← hu]
    apply State.ringShown_congr <;> apply hreg <;> simp only [Reg.BENCH_CTL, Reg.BENCH_RING_CFG, Reg.BENCH_RING_PTR] <;> omega

/-- Settles O22: a Rinse empties its bench and releases its Weirs, and its end zeroises the bench's stores and message registers. -/
theorem rinseLeavesNothingOfTheTenant : Obligations.RinseLeavesNothingOfTheTenant := by
  refine ⟨fun s pb hrun hmode hsl => ?_, fun s pb hrun hmode => ?_⟩
  · obtain ⟨⟨b, hb⟩, hother, hhbm⟩ := State.rinse_spec hmode hsl rfl
    refine ⟨_, next_live_of_running hrun _, ?_⟩
    rw [hb]
    exact ⟨rfl, rfl, rfl, rfl, rfl, rfl, rfl, rfl, rfl, rfl, rfl, hother, hhbm⟩
  · obtain ⟨hb, hroutes, hrings, hapart⟩ := State.rinseDone_spec hmode rfl
    refine ⟨_, next_live_of_running hrun _, ?_⟩
    simp only [State.routeShown, State.ringShown, Prod.mk.injEq] at hroutes hrings
    rw [hb]
    exact ⟨rfl, rfl, rfl, rfl, rfl, rfl, rfl, rfl, hroutes, hrings, hapart⟩

end Sys2Proof.Machine
end

section
/-! PROOF. Writes of BENCH_CTL that start and stop a bench (R115, R136, R137). -/

namespace Sys2Proof.Machine

theorem getLsbD_word_singleton (n : Nat) {i : Nat} (hi : i < 64) : (word [(n, 1)]).getLsbD i = decide (i = n) := by
  simp only [word, List.foldl_cons, List.foldl_nil, Nat.zero_add, Nat.one_mul, BitVec.getLsbD_ofNat, Nat.testBit_two_pow, hi, decide_true,
    Bool.true_and]
  exact decide_eq_decide.mpr eq_comm

/-- A bit of a control word with bit m set and bit n cleared. -/
theorem getLsbD_set_clear (d : Reg64) (m n : Nat) {i : Nat} (hi : i < 64) :
    ((d ||| word [(m, 1)]) &&& ~~~ (word [(n, 1)])).getLsbD i = ((d.getLsbD i || decide (i = m)) && !decide (i = n)) := by
  rw [BitVec.getLsbD_and, BitVec.getLsbD_or, BitVec.getLsbD_not, getLsbD_word_singleton m hi, getLsbD_word_singleton n hi,
    decide_eq_true hi, Bool.true_and]

theorem canon_of_bench {k : Nat} (hl : 0x100000 ≤ k) (hp : k < 0x540000) : canon k = 0x100000 + k % 0x10000 := by
  have hmod : k % viewBit = k := Nat.mod_eq_of_lt (lt_trans hp (by decide))
  rw [canon, hmod]
  exact if_pos ⟨hl, hp⟩

/-- A write of BENCH_CTL that comes through is judged by the register's own rules. -/
theorem State.busWrite_ctl {s t : State} {vw : View} {b : BenchRef} {pb : Nat} {data : Reg64} (h : s.benchWritable vw b 0 pb)
    (ht : s.ctlWrite pb data = some t) : s.busWrite vw (benchOffset b) data = t := by
  obtain ⟨hw, hres, hpb⟩ := h
  refine State.busWrite_of_writeReg hw hres ?_
  have hblock : (0x100000 + 0x10000 * pb + 0 - 0x100000) / 0x10000 = pb := by omega
  have hoff : (0x100000 + 0x10000 * pb + 0) % 0x10000 = 0 := by omega
  unfold State.writeReg
  simp (disch := omega) only [if_neg]
  rw [hblock, hoff, State.benchWrite, if_pos rfl, ht]

/-- The fields of BENCH_CTL: START and STOP read as zero, the others lie below them. -/
theorem regFields_benchCtl {pb : Nat} (hpb : pb < 68) :
    ∀ f ∈ regFields (Reg.BENCH_CTL pb), f.acc = .wo ∨ (f.acc = .rw ∧ f.hi < 62) := by
  have hcanon : canon (Reg.BENCH_CTL pb) = canon (Reg.BENCH_CTL 0) := by
    simp only [Reg.BENCH_CTL]
    rw [canon_of_bench (by omega) (by omega), canon_of_bench (by omega) (by omega)]
    omega
  have hfields : regFields (Reg.BENCH_CTL pb) = regFields (Reg.BENCH_CTL 0) := by rw [regFields, regFields, regSpecOf, regSpecOf, hcanon]
  rw [hfields]
  decide +kernel

/-- A write of BENCH_CTL that differs from it in START and STOP alone leaves it. -/
theorem accWrite_benchCtl_of_agree {pb : Nat} (hpb : pb < 68) {old data : Reg64} (h : ∀ i, i < 62 → data.getLsbD i = old.getLsbD i) :
    accWrite (regFields (Reg.BENCH_CTL pb)) old data = old := by
  refine BitVec.eq_of_getLsbD_eq (fun i _ => ?_)
  by_cases hf : ∃ f ∈ regFields (Reg.BENCH_CTL pb), f.lo ≤ i ∧ i ≤ f.hi
  · obtain ⟨f, hf, hlo, hhi⟩ := hf
    rw [getLsbD_accWrite old data hf hlo hhi]
    rcases regFields_benchCtl hpb f hf with hacc | ⟨hacc, h62⟩ <;> rw [hacc]
    · rfl
    · exact h i (by omega)
  · refine getLsbD_accWrite_of_no_field old data (fun f hm => ?_)
    have hout : ¬ (f.lo ≤ i ∧ i ≤ f.hi) := fun hin => hf ⟨f, hm, hin⟩
    omega

section CtlWrite

variable {s : State} {pb : Nat} {data : Reg64}

theorem State.ctlWrite_start (hidle : s.benchIdle pb = true) (hstart : data.getLsbD 63 = true) (hstop : data.getLsbD 62 = false) :
    s.ctlWrite pb data =
      some ((s.setReg (Reg.BENCH_CTL pb) (accWrite (regFields (Reg.BENCH_CTL pb)) (s.reg (Reg.BENCH_CTL pb)) data)).startBench pb) := by
  simp only [State.ctlWrite, hidle, hstart, hstop, Bool.and_false, Bool.not_true, Bool.false_and, Bool.false_eq_true, if_false, if_true]

theorem State.ctlWrite_stop (hnew : accWrite (regFields (Reg.BENCH_CTL pb)) (s.reg (Reg.BENCH_CTL pb)) data = s.reg (Reg.BENCH_CTL pb))
    (hstart : data.getLsbD 63 = false) (hstop : data.getLsbD 62 = true) :
    s.ctlWrite pb data = some ((s.setReg (Reg.BENCH_CTL pb) (s.reg (Reg.BENCH_CTL pb))).stopBench pb) := by
  simp only [State.ctlWrite, hnew, hstart, hstop, ne_eq, not_true_eq_false, decide_false, Bool.or_self, Bool.and_false, Bool.false_and,
    Bool.false_eq_true, if_false, if_true]

end CtlWrite

end Sys2Proof.Machine
end

section
/-! PROOF. START and STOP of a bench (R115, R137). -/

namespace Sys2Proof.Machine

/-- Six streams set at once. -/
def Bench.withStreams (b : Bench) (f : Nat → Stream) : Bench := [0, 1, 2, 3, 4, 5].foldl (fun b i => b.setStream i (f i)) b

theorem Bench.withStreams_frame (b : Bench) (f : Nat → Stream) :
    ∃ l : List (Nat × Stream), b.withStreams f = { b with streams := l } := by
  refine List.foldlRecOn (motive := fun c : Bench => ∃ l : List (Nat × Stream), c = { b with streams := l }) _ _ ⟨b.streams, rfl⟩
    (fun c hc i _ => ?_)
  obtain ⟨l, rfl⟩ := hc
  exact ⟨_, rfl⟩

theorem Bench.stream_withStreams (b : Bench) (f : Nat → Stream) {i : Nat} (hi : i < 6) : (b.withStreams f).stream i = f i := by
  refine foldl_read_touched _ (fun c : Bench => c.stream i) i (f i) (fun c => ?_) (List.range 6) b (List.mem_range.mpr hi)
    (fun j _ hj c => ?_)
  · exact (c.stream_setStream i i _).trans (if_pos rfl)
  · exact (c.stream_setStream j i _).trans (if_neg hj.symm)

/-- Stream i of a bench as its program starts. -/
def State.startedStream (s : State) (pb i : Nat) : Stream :=
  startStream (bit (s.rd (Fld.BENCH_CTL_STREAM_EN pb)) i && (!s.lockstep pb || decide (i = 0)))
    (bit (s.rd (Fld.BENCH_CTL_STREAM_SRC pb)) i) (s.rd (Fld.BENCH_STREAM_PC_PC pb i))

/-- A bench as its program starts, but for its streams. -/
def Bench.starting (b : Bench) (entry : Nat) : Bench :=
  { b with
    mode := .fill, haltCause := 0, switching := false, turnaround := false, tokens := [], execs := [], streams := []
    xSeq := 0, xPosts := [], xBroken := false, fm := b.fm.start entry }

/-- A bench as its program starts. -/
def State.started (s : State) (pb : Nat) : Bench :=
  ((s.bench pb).starting (s.rd (Fld.BENCH_FM_CTL_ENTRY pb))).withStreams (s.startedStream pb)

theorem State.startBench_eq (s : State) (pb : Nat) :
    s.startBench pb = ((s.setBench pb (s.started pb)).clearSnap pb).checkComplete pb := rfl

/-- A program with a stream that has not ended is not complete. -/
theorem State.checkComplete_of_open {s : State} {pb i : Nat} (hi : i ∈ s.streamsOf pb) (h : ((s.bench pb).stream i).ended = false) :
    s.checkComplete pb = s := by
  have hopen : ¬ (s.streamsOf pb).all (fun i => ((s.bench pb).stream i).ended) = true := fun hall =>
    Bool.false_ne_true (h.symm.trans (List.all_eq_true.mp hall i hi))
  exact if_neg (fun ⟨_, _, hall⟩ => hopen hall)

/-- A decoupled program runs the streams that are enabled. -/
theorem State.stream_started {s : State} {pb i : Nat} (hlock : s.lockstep pb = false) (hi : i < 6) :
    (s.started pb).stream i = startStream (bit (s.rd (Fld.BENCH_CTL_STREAM_EN pb)) i) (bit (s.rd (Fld.BENCH_CTL_STREAM_SRC pb)) i)
      (s.rd (Fld.BENCH_STREAM_PC_PC pb i)) := by
  rw [State.started, Bench.stream_withStreams _ _ hi, State.startedStream, hlock, Bool.not_false, Bool.true_or, Bool.and_true]

theorem offStall_benchCtl (pb : Nat) : OffStall pb (Reg.BENCH_CTL pb) := by
  refine .inl ?_
  simp only [Reg.BENCH_CTL, Reg.BENCH_STALL_COUNT]
  omega

/-- The start of a decoupled program with an enabled stream is not its end. -/
theorem State.startBench_of_enabled {s : State} {pb i : Nat} (hlock : s.lockstep pb = false) (hi : i < 6)
    (hen : bit (s.rd (Fld.BENCH_CTL_STREAM_EN pb)) i = true) : s.startBench pb = (s.setBench pb (s.started pb)).clearSnap pb := by
  have hkept : ((s.setBench pb (s.started pb)).clearSnap pb).lockstep pb = false :=
    (State.flag_of_reg_eq (State.reg_clearSnap _ (offStall_benchCtl pb))).trans hlock
  have hmem : i ∈ ((s.setBench pb (s.started pb)).clearSnap pb).streamsOf pb := by
    rw [State.streamsOf, hkept]
    exact List.mem_range.mpr hi
  rw [State.startBench_eq]
  refine State.checkComplete_of_open hmem ?_
  rw [(State.regsOnly_clearSnap _ pb).bench, State.bench_setBench, State.stream_started hlock hi, hen]
  rfl

/-- START with the control word ctl (R137). -/
theorem State.start_spec {s t : State} {pb : Nat} {ctl : Reg64} (hmode : getBits ctl 16 16 = 0)
    (hen : ∃ i, i < 6 ∧ bit (getBits ctl 5 0) i = true) (ht : t = (s.setReg (Reg.BENCH_CTL pb) ctl).startBench pb) :
    t = { s with regs := t.regs, benches := t.benches } ∧ BenchesApart s t pb ∧
      t.reg (Reg.BENCH_CTL pb) = ctl ∧ t.rd (Fld.BENCH_STALL_COUNT_COUNT pb) = 0 ∧
      (∃ l, t.bench pb = { (s.bench pb).starting (s.rd (Fld.BENCH_FM_CTL_ENTRY pb)) with streams := l }) ∧
      ∀ i, i < 6 → ((t.bench pb).stream i).queue = [] ∧ ((t.bench pb).stream i).retired = 0 ∧
        ((t.bench pb).stream i).ended = !(bit (getBits ctl 5 0) i) ∧
        ((t.bench pb).stream i).fetchPc = s.rd (Fld.BENCH_STREAM_PC_PC pb i) := by
  obtain ⟨j, hj, hbit⟩ := hen
  obtain ⟨u, hu⟩ : ∃ u, u = s.setReg (Reg.BENCH_CTL pb) ctl := ⟨_, rfl⟩
  obtain ⟨v, hv⟩ : ∃ v, v = u.setBench pb (u.started pb) := ⟨_, rfl⟩
  have hctl : u.reg (Reg.BENCH_CTL pb) = ctl := hu ▸ s.reg_setReg _ ctl
  have hen : u.rd (Fld.BENCH_CTL_STREAM_EN pb) = getBits ctl 5 0 := congrArg (fun w => getBits w 5 0) hctl
  have hlock : u.lockstep pb = false := decide_eq_false (not_not.mpr ((congrArg (fun w => getBits w 16 16) hctl).trans hmode))
  have hother {f : Fld} (hf : f.key ≠ Reg.BENCH_CTL pb) : u.rd f = s.rd f := hu ▸ State.rd_of_reg_eq (s.reg_setReg_ne ctl hf)
  have hpc (i : Nat) : u.rd (Fld.BENCH_STREAM_PC_PC pb i) = s.rd (Fld.BENCH_STREAM_PC_PC pb i) := hother (by
    simp only [Fld.BENCH_STREAM_PC_PC, Reg.BENCH_STREAM_PC, Reg.BENCH_CTL]
    omega)
  have hentry : u.rd (Fld.BENCH_FM_CTL_ENTRY pb) = s.rd (Fld.BENCH_FM_CTL_ENTRY pb) := hother (by
    simp only [Fld.BENCH_FM_CTL_ENTRY, Reg.BENCH_FM_CTL, Reg.BENCH_CTL]
    omega)
  have hub (q : Nat) : u.bench q = s.bench q := State.bench_congr (hu ▸ State.setReg_benches s _ ctl) q
  rw [← hu, State.startBench_of_enabled hlock hj (hen ▸ hbit), ← hv] at ht
  have hsnap : RegsOnly v t := ht ▸ v.regsOnly_clearSnap pb
  have hbench : t.bench pb = u.started pb := by rw [hsnap.bench, hv, State.bench_setBench]
  refine ⟨?_, fun q hq => ?_, ?_, ?_, ?_, fun i hi => ?_⟩
  · rw [hsnap.frame, hv, hu]
    rfl
  · rw [hsnap.bench, hv, State.bench_setBench_ne _ _ hq, hub]
  · rw [ht, State.reg_clearSnap _ (offStall_benchCtl pb), hv]
    exact hctl
  · exact (congrArg (fun w => getBits w 31 0) (ht ▸ v.reg_stallCount_clearSnap pb)).trans (by decide)
  · rw [hbench, State.started, hub, hentry]
    exact Bench.withStreams_frame _ _
  · rw [hbench, State.stream_started hlock hi, hen, hpc]
    exact ⟨rfl, rfl, rfl, rfl⟩

theorem Bench.halt_pool (b : Bench) (cause : Nat) : (b.halt cause).pool = b.pool := by
  unfold Bench.halt
  split_ifs <;> rfl

theorem Bench.halt_streams (b : Bench) (cause : Nat) : (b.halt cause).streams = b.streams := by
  unfold Bench.halt
  split_ifs <;> rfl

/-- The stop of a bench in FILL, WORK or IDLE (R115). -/
theorem State.stopBench_eq {s : State} {pb : Nat} (h : (s.bench pb).active = true ∨ (s.bench pb).mode = .idle) :
    ∃ b, s.stopBench pb = s.setBench pb b ∧ b.mode = .halted ∧ b.haltCause = 8 ∧ b.pool = (s.bench pb).pool ∧
      b.streams = (s.bench pb).streams := by
  by_cases hidle : (s.bench pb).mode = .idle
  · exact ⟨{ s.bench pb with mode := .halted, haltCause := 8 }, if_pos hidle, rfl, rfl, rfl, rfl⟩
  · have hact := h.resolve_right hidle
    obtain ⟨hmode, hcause⟩ := Bench.halt_of_active hact 8
    exact ⟨(s.bench pb).halt 8, (if_neg hidle).trans (if_pos hact), hmode, hcause, Bench.halt_pool _ _, Bench.halt_streams _ _⟩

/-- STOP of a bench in FILL, WORK or IDLE (R115). -/
theorem State.stop_spec {s t : State} {pb : Nat} (h : (s.bench pb).active = true ∨ (s.bench pb).mode = .idle)
    (ht : t = (s.setReg (Reg.BENCH_CTL pb) (s.reg (Reg.BENCH_CTL pb))).stopBench pb) :
    t = { s with regs := t.regs, benches := t.benches } ∧ BenchesApart s t pb ∧ (t.bench pb).mode = .halted ∧
      (t.bench pb).haltCause = 8 ∧ (t.bench pb).pool = (s.bench pb).pool ∧ (t.bench pb).streams = (s.bench pb).streams ∧
      RegsApart s t [Reg.BENCH_CTL pb] := by
  obtain ⟨b, hb, hmode, hcause, hpool, hstreams⟩ := State.stopBench_eq (s := s.setReg (Reg.BENCH_CTL pb) (s.reg (Reg.BENCH_CTL pb))) h
  rw [hb] at ht
  have hbench : t.bench pb = b := ht ▸ State.bench_setBench _ pb b
  refine ⟨?_, ?_, ?_⟩
  · rw [ht]
    rfl
  · exact ht ▸ State.benchesApart_setBench _ pb b
  · rw [hbench]
    refine ⟨hmode, hcause, hpool, hstreams, fun k hk => ?_⟩
    rw [ht]
    exact s.reg_setReg_ne _ (fun e => hk (e ▸ List.mem_cons_self))

end Sys2Proof.Machine
end

section
/-! PROOF. The reset of a bench, and START, STOP and reset put together (R112, R114, R115, R117, R137; log 70). -/

namespace Sys2Proof.Machine

/-- A bench as its reset arrives: its Foreman and its key streams stopped (R114). -/
def Bench.resetting (b : Bench) : Bench :=
  { b.dropKeys with
    abandoning := true, fm := { Foreman.reset with st := .stopped, stopCause := (b.fm.stop 3).stopCause, weirId := (b.fm.stop 3).weirId } }

theorem State.benchReset_of_not_rinsing {s : State} {pb : Nat} (h : (s.bench pb).mode ≠ .rinsing) :
    s.benchReset pb = s.setBench pb (s.bench pb).resetting := if_neg h

theorem State.benchReset_of_rinsing {s : State} {pb : Nat} (h : (s.bench pb).mode = .rinsing) :
    s.benchReset pb = s.onBench pb (fun b => { b with resetHeld := true }) := if_pos h

/-- A bench whose abandonment is complete. -/
def Bench.wasReset (b : Bench) : Bench := { b.emptied with mode := .idle }

theorem State.benchResetDone_of_nothing {s : State} {pb : Nat} (hab : (s.bench pb).abandoning = true) (hexecs : (s.bench pb).execs = [])
    (hsl : (s.bench pb).sluice = []) :
    s.benchResetDone pb = ((({ s with fresh := s.fresh + 2 ^ 22 } : State).abandonWaits pb).onBench pb Bench.wasReset).clearCtx pb := by
  unfold State.benchResetDone
  dsimp only
  rw [hab, hexecs, hsl]
  rfl

/-- The end of a reset of a bench with nothing in execution (R114). -/
theorem State.benchResetDone_spec {s t : State} {pb : Nat} (hab : (s.bench pb).abandoning = true) (hexecs : (s.bench pb).execs = [])
    (hsl : (s.bench pb).sluice = []) (ht : t = s.benchResetDone pb) :
    (∃ b : Bench, t.bench pb = b.wasReset ∧ b.pool = (s.bench pb).pool ∧ b.cmdMem = (s.bench pb).cmdMem ∧ b.dmem = (s.bench pb).dmem ∧
        b.weirs = (s.bench pb).weirs) ∧ t.reg (Reg.BENCH_SLUICE_CTX pb) = 0 ∧
      (∀ q, q ≠ pb → (t.bench q).pool = (s.bench q).pool ∧ (t.bench q).mode = (s.bench q).mode) ∧ t.hbm = s.hbm := by
  rw [State.benchResetDone_of_nothing hab hexecs hsl] at ht
  obtain ⟨u, hu⟩ : ∃ u, u = ({ s with fresh := s.fresh + 2 ^ 22 } : State).abandonWaits pb := ⟨_, rfl⟩
  rw [← hu] at ht
  have hctx : RegsOnly (u.onBench pb Bench.wasReset) t := ht ▸ State.regsOnly_clearCtx _ pb
  have hread {β : Type} (read : Bench → β) (hr : ∀ (b : Bench) h, read { b with held := h } = read b) (q : Nat) :
      read (u.bench q) = read (s.bench q) := hu ▸ State.bench_abandonWaits_read read hr _ pb q
  have hbench : t.bench pb = (u.bench pb).wasReset := by rw [hctx.bench, State.bench_onBench]
  have hother (q : Nat) (hq : q ≠ pb) : t.bench q = u.bench q := by rw [hctx.bench, State.bench_onBench_ne _ _ hq]
  refine ⟨⟨u.bench pb, hbench, hread Bench.pool (fun _ _ => rfl) pb, hread Bench.cmdMem (fun _ _ => rfl) pb,
    hread Bench.dmem (fun _ _ => rfl) pb, hread Bench.weirs (fun _ _ => rfl) pb⟩, ?_, fun q hq => ?_, ?_⟩
  · exact ht ▸ State.reg_sluiceCtx_clearCtx _ pb
  · rw [hother q hq]
    exact ⟨hread Bench.pool (fun _ _ => rfl) q, hread Bench.mode (fun _ _ => rfl) q⟩
  · obtain ⟨b, n, hw⟩ := State.abandonWaits_frame ({ s with fresh := s.fresh + 2 ^ 22 } : State) pb
    rw [hctx.frame, hu, hw]
    rfl

theorem exec_start_of_benchWritable {s : State} {vw : View} {b : BenchRef} {pb : Nat} {d : Reg64} (hw : s.benchWritable vw b 0 pb)
    (hidle : s.benchIdle pb = true) :
    exec (.start vw b d) s = .next ((s.setReg (Reg.BENCH_CTL pb) (accWrite (regFields (Reg.BENCH_CTL pb)) (s.reg (Reg.BENCH_CTL pb))
      ((d ||| word [(63, 1)]) &&& ~~~ (word [(62, 1)])))).startBench pb) := by
  refine congrArg Host.Outcome.next (State.busWrite_ctl hw (State.ctlWrite_start hidle ?_ ?_))
  · rw [getLsbD_set_clear d 63 62 (by decide), decide_eq_true rfl, Bool.or_true]
    rfl
  · rw [getLsbD_set_clear d 63 62 (by decide), decide_eq_true rfl, Bool.not_true, Bool.and_false]

theorem exec_stop_of_benchWritable {s : State} {vw : View} {b : BenchRef} {pb : Nat} (hw : s.benchWritable vw b 0 pb) :
    exec (.stop vw b (s.reg (Reg.BENCH_CTL pb))) s =
      .next ((s.setReg (Reg.BENCH_CTL pb) (s.reg (Reg.BENCH_CTL pb))).stopBench pb) := by
  have ⟨_, _, hpb⟩ := hw
  refine congrArg Host.Outcome.next (State.busWrite_ctl hw (State.ctlWrite_stop (accWrite_benchCtl_of_agree hpb (fun i hi => ?_)) ?_ ?_))
  · have h62 : i ≠ 62 := by omega
    have h63 : i ≠ 63 := by omega
    rw [getLsbD_set_clear _ 62 63 (by omega), decide_eq_false h62, decide_eq_false h63, Bool.or_false, Bool.not_false, Bool.and_true]
  · rw [getLsbD_set_clear _ 62 63 (by decide), decide_eq_true rfl, Bool.not_true, Bool.and_false]
  · rw [getLsbD_set_clear _ 62 63 (by decide), decide_eq_true rfl, Bool.or_true]
    rfl

/-- Settles O21: START and STOP are writes of BENCH_CTL that come through, a reset begins or is held, and abandonment that meets nothing in
execution leaves an empty bench (RETIRED and the PC history with its streams: log 70). -/
theorem benchesStartStopAndReset : Obligations.BenchesStartStopAndReset := by
  refine ⟨⟨fun s vw b pb d ctl hw hidle hctl ⟨i, hi, hmode, hen⟩ => ?_, fun s vw b pb hw hmode => ?_⟩,
    fun s pb hrun hmode => ?_, fun s pb hrun hmode => ?_, fun s pb hrun hab hexecs hsl => ?_⟩
  · subst hctl
    obtain ⟨hframe, hapart, hctl, hcount, ⟨l, hb⟩, hstreams⟩ := State.start_spec hmode ⟨i, hi, hen⟩ rfl
    refine ⟨_, exec_start_of_benchWritable hw hidle, hframe, hapart, hctl, hcount, ?_⟩
    rw [hb] at hstreams ⊢
    exact ⟨rfl, rfl, rfl, rfl, hstreams, rfl, rfl, rfl, rfl, rfl, rfl, rfl⟩
  · have hidle : (s.bench pb).active = true ∨ (s.bench pb).mode = .idle := hmode.imp_right (fun h =>
      of_decide_eq_true (Bool.and_eq_true _ _ ▸ h).1)
    exact ⟨_, exec_stop_of_benchWritable hw, State.stop_spec hidle rfl⟩
  · refine ⟨s.setBench pb (s.bench pb).resetting,
      (next_live_of_running hrun _).trans (congrArg _ (State.benchReset_of_not_rinsing hmode)), rfl, s.benchesApart_setBench pb _, ?_⟩
    rw [State.bench_setBench]
    exact ⟨rfl, rfl, rfl, rfl, rfl, rfl, rfl, rfl, rfl⟩
  · exact (next_live_of_running hrun _).trans (congrArg _ (State.benchReset_of_rinsing hmode))
  · obtain ⟨⟨b, hb, hpool, hcmd, hdata, hweirs⟩, hctx, hother, hhbm⟩ := State.benchResetDone_spec hab hexecs hsl rfl
    refine ⟨_, next_live_of_running hrun _, ?_⟩
    rw [hb]
    exact ⟨rfl, rfl, rfl, rfl, rfl, rfl, hpool, hcmd, hdata, hweirs, hctx, hother, hhbm⟩

end Sys2Proof.Machine
end

section
/-! PROOF. Halts and ends of a program as what stands in a bench sees them: its Pool, its streams, its tokens and the numbers of its commands
stay (R113, R138). -/

namespace Sys2Proof.Machine

theorem State.benchesApart_onBench (s : State) (pb : Nat) (f : Bench → Bench) : BenchesApart s (s.onBench pb f) pb :=
  s.benchesApart_setBench pb _

theorem Bench.halt_of_inactive {b : Bench} (h : b.active = false) (cause : Nat) : b.halt cause = b :=
  if_neg (by rw [h]; exact Bool.false_ne_true)

theorem Bench.active_halt (b : Bench) (cause : Nat) : (b.halt cause).active = false := by
  cases hact : b.active
  · rw [Bench.halt_of_inactive hact, hact]
  · rw [Bench.active, (Bench.halt_of_active hact cause).1]
    rfl

theorem Bench.halt_tokens (b : Bench) (cause : Nat) : (b.halt cause).tokens = b.tokens := by
  unfold Bench.halt
  split_ifs <;> rfl

theorem Bench.halt_ids (b : Bench) (cause : Nat) : (b.halt cause).execs.map Exec.id = b.execs.map Exec.id := by
  unfold Bench.halt
  split_ifs
  · rw [List.map_map]
    exact List.map_congr_left (fun e _ => apply_ite Exec.id _ _ _ |>.trans (ite_self _))
  · rfl

/-- c is b, or b halted with some cause. -/
def Bench.HaltedOr (b c : Bench) : Prop := c = b ∨ ∃ cause, c = b.halt cause

theorem Bench.HaltedOr.halt {b c : Bench} (h : b.HaltedOr c) (cause : Nat) : b.HaltedOr (c.halt cause) := by
  obtain rfl | ⟨k, rfl⟩ := h
  · exact .inr ⟨cause, rfl⟩
  · exact .inr ⟨k, Bench.halt_of_inactive (b.active_halt k) cause⟩

theorem Bench.HaltedOr.mode_halt {b c : Bench} (h : b.HaltedOr c) (hact : b.active = true) (cause : Nat) :
    (c.halt cause).mode = .halted := by
  obtain rfl | ⟨k, rfl⟩ := h
  · exact (Bench.halt_of_active hact cause).1
  · rw [Bench.halt_of_inactive (b.active_halt k)]
    exact (Bench.halt_of_active hact k).1

/-- What neither a halt nor the end of the program changes in a bench: its Pool, its streams, its tokens, and which commands it executes. -/
structure Bench.Settled (b c : Bench) : Prop where
  pool : c.pool = b.pool
  streams : c.streams = b.streams
  tokens : c.tokens = b.tokens
  ids : c.execs.map Exec.id = b.execs.map Exec.id

theorem Bench.Settled.trans {b c d : Bench} (h : b.Settled c) (g : c.Settled d) : b.Settled d :=
  ⟨g.pool.trans h.pool, g.streams.trans h.streams, g.tokens.trans h.tokens, g.ids.trans h.ids⟩

theorem Bench.HaltedOr.settled {b c : Bench} (h : b.HaltedOr c) : b.Settled c := by
  obtain rfl | ⟨k, rfl⟩ := h
  · exact ⟨rfl, rfl, rfl, rfl⟩
  · exact ⟨b.halt_pool k, b.halt_streams k, b.halt_tokens k, b.halt_ids k⟩

/-- The end of a program, if it has come: only a bench in FILL or WORK leaves its mode. -/
theorem State.checkComplete_spec {s t : State} {pb : Nat} (ht : t = s.checkComplete pb) :
    BenchesApart s t pb ∧ (s.bench pb).Settled (t.bench pb) ∧ ((s.bench pb).mode = .halted → (t.bench pb).mode = .halted) := by
  subst ht
  unfold State.checkComplete
  dsimp only
  split_ifs with h
  · refine ⟨s.benchesApart_setBench pb _, ?_, fun hm => ?_⟩
    · rw [State.bench_setBench]
      exact ⟨rfl, rfl, rfl, rfl⟩
    · have hact := h.1
      rw [Bench.active, hm] at hact
      exact absurd hact (by decide)
  · exact ⟨fun _ _ => rfl, ⟨rfl, rfl, rfl, rfl⟩, id⟩

end Sys2Proof.Machine
end

section
/-! PROOF. What counting and logging leave of the benches. -/

namespace Sys2Proof.Machine

variable (s : State) (pb : Nat) (e : Exec)

theorem State.progress_benches : (s.progress pb).benches = s.benches := by
  unfold State.progress
  split_ifs <;> rfl

theorem State.shapeWaits_benches (w : CmdWord) : (s.shapeWaits pb w).benches = s.benches := by
  unfold State.shapeWaits
  dsimp only
  split_ifs
  · exact State.bump_benches s.skip _ _
  · exact State.bump_benches s.skip _ _
  · rfl

theorem State.countShape_benches : (s.countShape pb e).benches = s.benches := by
  unfold State.countShape
  split_ifs
  · exact s.bump_benches _ _
  · exact s.bump_benches _ _
  · rfl

theorem State.countSpent_benches : (s.countSpent pb e).benches = s.benches := by
  unfold State.countSpent
  split
  next => rfl
  next c _ =>
    split
    next => rfl
    next =>
      split
      next => exact s.bump_benches _ _
      next =>
        dsimp only
        split
        next => exact (State.logBench_benches _ _ _ _ _).trans (s.bump_benches _ _)
        next => exact s.bump_benches _ _

theorem State.countFloat_benches (nan inf flush : Nat) : (s.countFloat pb nan inf flush).benches = s.benches := by
  rw [State.countFloat_frame]

theorem State.logAlign_benches (a : Option (Nat × Nat × Nat)) : (s.logAlign pb e a).benches = s.benches := by
  cases a <;> rfl

end Sys2Proof.Machine
end

section
/-! PROOF. COMMAND_RETIRE: the writes of a command, and what its bench is after them (R141, R143; the effects come about at retirement: log
34). -/

namespace Sys2Proof.Machine

theorem Bench.exec_some {b : Bench} {id : Nat} {e : Exec} (h : b.exec id = some e) : e ∈ b.execs ∧ e.id = id :=
  ⟨List.mem_of_find?_eq_some h, of_decide_eq_true (List.find?_some (p := fun e : Exec => decide (e.id = id)) h)⟩

/-- c is b with other contents of its Pool, its tile slots and its descriptor table. -/
def Bench.Rewritten (b c : Bench) : Prop := ∃ pool slots tab, c = { b with pool := pool, slots := slots, descTab := tab }

theorem Bench.Rewritten.refl (b : Bench) : b.Rewritten b := ⟨b.pool, b.slots, b.descTab, rfl⟩

theorem Bench.Rewritten.trans {b c d : Bench} (h : b.Rewritten c) (g : c.Rewritten d) : b.Rewritten d := by
  obtain ⟨_, _, _, rfl⟩ := h
  obtain ⟨pool, slots, tab, rfl⟩ := g
  exact ⟨pool, slots, tab, rfl⟩

theorem Bench.rewritten_writeRun (b : Bench) (fresh : Nat) (r : WRun) : b.Rewritten (b.writeRun fresh r) := by
  unfold Bench.writeRun
  dsimp only
  split_ifs
  · exact ⟨_, _, _, rfl⟩
  · exact ⟨_, _, _, rfl⟩

/-- The state after one run of elements. -/
def State.afterRun (s : State) (pb : Nat) (r : WRun) : State :=
  { s.onBench pb (·.writeRun s.fresh r) with fresh := s.fresh + r.els.length }

theorem State.writeRuns_cons (s : State) (pb : Nat) (r : WRun) (l : List WRun) :
    s.writeRuns pb (r :: l) = (s.afterRun pb r).writeRuns pb l := rfl

theorem State.bench_afterRun (s : State) (pb : Nat) (r : WRun) : (s.afterRun pb r).bench pb = (s.bench pb).writeRun s.fresh r :=
  s.bench_onBench pb (·.writeRun s.fresh r)

theorem State.benchesApart_afterRun (s : State) (pb : Nat) (r : WRun) : BenchesApart s (s.afterRun pb r) pb :=
  s.benchesApart_onBench pb (·.writeRun s.fresh r)

theorem State.writeRuns_spec (pb : Nat) (l : List WRun) (s : State) :
    BenchesApart s (s.writeRuns pb l) pb ∧ (s.bench pb).Rewritten ((s.writeRuns pb l).bench pb) := by
  induction l generalizing s with
  | nil => exact ⟨fun _ _ => rfl, Bench.Rewritten.refl _⟩
  | cons r l ih =>
    obtain ⟨hapart, hbench⟩ := ih (s.afterRun pb r)
    rw [State.bench_afterRun] at hbench
    rw [State.writeRuns_cons]
    exact ⟨(s.benchesApart_afterRun pb r).trans hapart, (Bench.rewritten_writeRun _ _ r).trans hbench⟩

theorem Written.steps_spec (pb : Nat) (e : Exec) (l : List (State → Effect)) (w : Written) :
    BenchesApart w.s (l.foldl (Written.step pb e) w).s pb ∧ (w.s.bench pb).Rewritten ((l.foldl (Written.step pb e) w).s.bench pb) := by
  induction l generalizing w with
  | nil => exact ⟨fun _ _ => rfl, Bench.Rewritten.refl _⟩
  | cons f l ih =>
    obtain ⟨hapart, hbench⟩ := ih (Written.step pb e w f)
    obtain ⟨hapart', hbench'⟩ := State.writeRuns_spec pb _ w.s
    exact ⟨hapart'.trans hapart, hbench'.trans hbench⟩

/-- The descriptors that a command leaves in the table, written in order (R54). -/
def Bench.writeResults (e : Exec) (b : Bench) : Bench := e.results.foldl (fun b r => b.writeDesc r.1 (finishDesc r.2 e.spent)) b

theorem Bench.writeResults_frame (e : Exec) (b : Bench) : ∃ tab, b.writeResults e = { b with descTab := tab } := by
  refine List.foldlRecOn e.results _ (motive := fun c => ∃ tab, c = { b with descTab := tab }) ⟨b.descTab, rfl⟩ (fun c ⟨tab, hc⟩ r _ => ?_)
  subst hc
  unfold Bench.writeDesc
  split_ifs
  · exact ⟨tab, rfl⟩
  · exact ⟨_, rfl⟩

/-- What a command has written once all its steps are made. -/
def State.written (s : State) (pb : Nat) (e : Exec) : Written := (stepsOf s pb e).foldl (Written.step pb e) ⟨s, 0, 0, 0, none⟩

theorem State.meetBad_of_bad_nil {s : State} {pb : Nat} (h : (s.bench pb).pool.bad = []) (e : Exec) : s.meetBad pb e = s := by
  have hbad : (s.bench pb).badReads e = [] := by rw [Bench.badReads, h, List.filter_nil]
  unfold State.meetBad
  rw [hbad]
  exact ite_self _

/-- The writes of a command whose reads met no bad word: the steps' writes, then its result descriptors. -/
theorem State.finishWrites_spec {s : State} {pb : Nat} (h : (s.bench pb).pool.bad = []) (e : Exec) :
    BenchesApart s (s.finishWrites pb e).1 pb ∧ (s.bench pb).Rewritten ((s.finishWrites pb e).1.bench pb) ∧
      ((s.finishWrites pb e).1.bench pb).pool = ((s.written pb e).s.bench pb).pool := by
  have hbenches : (s.finishWrites pb e).1.benches = ((s.written pb e).s.onBench pb (·.writeResults e)).benches := by
    rw [State.finishWrites, State.meetBad_of_bad_nil h]
    exact (State.countSpent_benches _ pb e).trans ((State.countShape_benches _ pb e).trans (State.countFloat_benches _ pb _ _ _))
  obtain ⟨tab, htab⟩ := ((s.written pb e).s.bench pb).writeResults_frame e
  obtain ⟨hapart, hbench⟩ := Written.steps_spec pb e (stepsOf s pb e) ⟨s, 0, 0, 0, none⟩
  rw [State.bench_congr hbenches, State.bench_onBench, htab]
  exact ⟨hapart.trans ((State.benchesApart_onBench _ pb _).trans (BenchesApart.of_benches_eq hbenches pb)), hbench.trans ⟨_, _, _, rfl⟩, rfl⟩

/-- A bench that a command has left: its stream counts it and, at its END, has ended (R138, R141). -/
def Bench.retired (e : Exec) (b : Bench) : Bench :=
  ({ b with execs := b.execs.filter (fun x => decide (x.id ≠ e.id)) } : Bench).onStream e.stream (fun x =>
    { x with retired := (x.retired + 1) % 2 ^ 32, ended := x.ended || endsStream e.word })

/-- The token of a retiring command posted; those of the Array engine go with their tiles (R105, R143). -/
def State.posted (s : State) (pb : Nat) (e : Exec) : State :=
  if emitEn e.word ∧ classOf e.word ≠ 4 then s.postToken pb e.word e.stream e.pc (emitOf e.word) else s

theorem State.postToken_spec {s t : State} {pb : Nat} {w : CmdWord} {stream pc tok : Nat} (ht : t = s.postToken pb w stream pc tok) :
    BenchesApart s t pb ∧ ∃ toks, ({ s.bench pb with tokens := toks } : Bench).HaltedOr (t.bench pb) ∧
      ((s.bench pb).token tok < 255 → Sparse.get (fun _ => 0) toks tok = (s.bench pb).token tok + 1) := by
  subst ht
  unfold State.postToken
  dsimp only
  split_ifs with hfull
  · refine ⟨(s.logBench pb 0x0A _ _).benchesApart_onBench pb (·.halt 5), (s.bench pb).tokens, .inr ⟨5, ?_⟩, fun h => absurd hfull h.ne⟩
    exact (s.logBench pb 0x0A _ _).bench_onBench pb (·.halt 5)
  · exact ⟨s.benchesApart_onBench pb _, _, .inl (s.bench_onBench pb _), fun _ => Sparse.get_set_same (fun _ => 0) _ _ _⟩

theorem State.posted_spec {s t : State} {pb : Nat} {e : Exec} (ht : t = s.posted pb e) :
    BenchesApart s t pb ∧ ∃ toks, ({ s.bench pb with tokens := toks } : Bench).HaltedOr (t.bench pb) ∧
      (emitEn e.word = true → classOf e.word ≠ 4 → (s.bench pb).token (emitOf e.word) < 255 →
        Sparse.get (fun _ => 0) toks (emitOf e.word) = (s.bench pb).token (emitOf e.word) + 1) := by
  by_cases hem : emitEn e.word = true ∧ classOf e.word ≠ 4
  · obtain ⟨hapart, toks, hhalt, htoks⟩ := State.postToken_spec (ht.trans (if_pos hem))
    exact ⟨hapart, toks, hhalt, fun _ _ => htoks⟩
  · obtain rfl := ht.trans (if_neg hem)
    exact ⟨fun _ _ => rfl, (t.bench pb).tokens, .inl rfl, fun h1 h2 => absurd ⟨h1, h2⟩ hem⟩

/-- A bench halts with a cause that a command met, if it met one. -/
def State.haltOn (s : State) (pb : Nat) (cause : Option Nat) : State :=
  match cause with
  | none => s
  | some c => s.haltBench pb c

theorem State.haltOn_spec (s : State) (pb : Nat) (cause : Option Nat) :
    BenchesApart s (s.haltOn pb cause) pb ∧
      (∀ b : Bench, b.HaltedOr (s.bench pb) → b.HaltedOr ((s.haltOn pb cause).bench pb) ∧
        (∀ c ∈ cause, b.active = true → ((s.haltOn pb cause).bench pb).mode = .halted)) := by
  cases cause with
  | none => exact ⟨fun _ _ => rfl, fun b h => ⟨h, fun c hc => nomatch hc⟩⟩
  | some c =>
    have hbench : (s.haltOn pb (some c)).bench pb = (s.bench pb).halt c := s.bench_onBench pb (·.halt c)
    exact ⟨s.benchesApart_onBench pb (·.halt c), fun b h => hbench ▸ ⟨h.halt c, fun _ _ hact => h.mode_halt hact c⟩⟩

/-- The state in which a retiring command has left its bench and nothing has halted it yet. -/
def State.left (s : State) (pb : Nat) (e : Exec) : State :=
  (((((s.finishWrites pb e).1.logAlign pb e (s.finishWrites pb e).2).onBench pb (·.retired e)).progress pb).shapeWaits pb e.word).posted pb e

/-- The halts of what a retiring command met: an index offset that suppressed an access (R162), then what it was marked with (R85). -/
def State.haltMet (s : State) (pb : Nat) (align : Option (Nat × Nat × Nat)) (mark : Option Nat) : State :=
  (s.haltOn pb (align.map (fun _ => 4))).haltOn pb mark

theorem State.haltMet_spec {s t : State} {pb : Nat} {align : Option (Nat × Nat × Nat)} {mark : Option Nat}
    (ht : t = s.haltMet pb align mark) {b : Bench} (h : b.HaltedOr (s.bench pb)) :
    BenchesApart s t pb ∧ b.HaltedOr (t.bench pb) ∧ (∀ c ∈ mark, b.active = true → (t.bench pb).mode = .halted) := by
  subst ht
  obtain ⟨hapart, halign⟩ := s.haltOn_spec pb (align.map (fun _ => 4))
  obtain ⟨hapart', hmark⟩ := (s.haltOn pb (align.map (fun _ => 4))).haltOn_spec pb mark
  exact ⟨hapart.trans hapart', hmark b (halign b h).1⟩

theorem State.retireNow_eq {s : State} {pb id : Nat} {e : Exec} (he : (s.bench pb).exec id = some e) (hbad : (s.bench pb).pool.bad = [])
    (hop : opcodeOf e.word ≠ 8) :
    s.retireNow pb id = ((s.left pb e).haltMet pb (s.finishWrites pb e).2 e.halt).checkComplete pb := by
  obtain ⟨-, ⟨pool, slots, tab, hbench⟩, -⟩ := State.finishWrites_spec hbad e
  have hexec : (((s.finishWrites pb e).1.logAlign pb e (s.finishWrites pb e).2).bench pb).exec id = some e := by
    rw [State.bench_congr (State.logAlign_benches _ pb e _), hbench]
    exact he
  obtain ⟨-, rfl⟩ := Bench.exec_some he
  unfold State.retireNow State.left
  simp only [he, hexec, Option.getD_some, if_neg hop]
  cases (s.finishWrites pb e).2 with
  | none => rfl
  | some a => rfl

theorem State.left_spec {s t : State} {pb : Nat} {e : Exec} (hbad : (s.bench pb).pool.bad = []) (ht : t = s.left pb e) :
    BenchesApart s t pb ∧ ∃ b toks, (s.bench pb).Rewritten b ∧ b.pool = ((s.written pb e).s.bench pb).pool ∧
      ({ b.retired e with tokens := toks } : Bench).HaltedOr (t.bench pb) ∧
      (emitEn e.word = true → classOf e.word ≠ 4 → b.token (emitOf e.word) < 255 →
        Sparse.get (fun _ => 0) toks (emitOf e.word) = b.token (emitOf e.word) + 1) := by
  obtain ⟨hapart, hrw, hpool⟩ := State.finishWrites_spec hbad e
  obtain ⟨v, hv⟩ : ∃ v, v = (s.finishWrites pb e).1.logAlign pb e (s.finishWrites pb e).2 := ⟨_, rfl⟩
  obtain ⟨u, hu⟩ : ∃ u, u = ((v.onBench pb (·.retired e)).progress pb).shapeWaits pb e.word := ⟨_, rfl⟩
  have hlog : v.benches = (s.finishWrites pb e).1.benches := hv ▸ State.logAlign_benches _ pb e _
  have hbenches : u.benches = (v.onBench pb (·.retired e)).benches :=
    hu ▸ (State.shapeWaits_benches _ pb _).trans (State.progress_benches _ pb)
  have hbench : u.bench pb = ((s.finishWrites pb e).1.bench pb).retired e := by
    rw [State.bench_congr hbenches, State.bench_onBench, State.bench_congr hlog]
  obtain ⟨hapart', toks, hhalt, htoks⟩ := State.posted_spec (s := u) (ht.trans (by rw [hu, hv]; rfl))
  rw [hbench] at hhalt htoks
  have hu : BenchesApart v u pb := (v.benchesApart_onBench pb (·.retired e)).trans (BenchesApart.of_benches_eq hbenches pb)
  exact ⟨((hapart.trans (BenchesApart.of_benches_eq hlog pb)).trans hu).trans hapart', _, toks, hrw, hpool, hhalt, htoks⟩

theorem exec_commandRetire {s : State} {pb : Fin 68} {id : Nat} {e : Exec} (hrun : s.running = true) (he : (s.bench pb).exec id = some e)
    (hcan : s.canRetire pb e = true) : exec (.commandRetire pb id) s = .next (s.retireNow pb id) := by
  refine (next_live_of_running hrun _).trans (congrArg _ ?_)
  rw [State.retire, he]
  exact if_pos hcan

/-- Settles O26: the steps' writes stay in the Pool through the descriptors, the counts, the token and the halts that follow them (at
retirement: log 34; the order of canRetire: log 62). -/
theorem retiredCommandLeavesItsResults : Obligations.RetiredCommandLeavesItsResults := by
  intro s pb id e hrun he hcan hbad hop
  obtain ⟨-, rfl⟩ := Bench.exec_some he
  obtain ⟨hapart, b, toks, ⟨pool, slots, tab, hb⟩, hpool, hleft, htoks⟩ := State.left_spec hbad (t := s.left pb e) rfl
  obtain ⟨haparth, hhalted, hcause⟩ := State.haltMet_spec rfl hleft
  obtain ⟨hapartc, hsettled, hstays⟩ := State.checkComplete_spec (State.retireNow_eq he hbad hop)
  obtain ⟨hp, hs, htok, hids⟩ := hhalted.settled.trans hsettled
  have hstream : ∀ i, ((s.retireNow pb e.id).bench pb).stream i = (b.retired e).stream i := fun i => by
    rw [Bench.stream, Bench.stream, hs]
  subst hb
  refine ⟨_, exec_commandRetire hrun he hcan, hp.trans hpool, fun x hx hid => ?_, ?_, ?_, fun i hi => ?_, fun hem hcl hlt => ?_,
    fun d hd hact => hstays (hcause d hd hact), (hapart.trans haparth).trans hapartc⟩
  · have hmem : x.id ∈ ((s.bench pb).execs.filter (fun x => decide (x.id ≠ e.id))).map Exec.id :=
      hids ▸ List.mem_map_of_mem hx
    obtain ⟨y, hy, hyx⟩ := List.mem_map.mp hmem
    exact of_decide_eq_true (List.mem_filter.mp hy).2 (hyx.trans hid)
  · rw [hstream, Bench.retired, Bench.onStream, Bench.stream_setStream, if_pos rfl]
    rfl
  · rw [hstream, Bench.retired, Bench.onStream, Bench.stream_setStream, if_pos rfl]
    rfl
  · rw [hstream, Bench.retired, Bench.onStream, Bench.stream_setStream, if_neg hi]
    rfl
  · rw [Bench.token, htok]
    exact htoks hem hcl hlt

end Sys2Proof.Machine
end

section
/-! PROOF. Errors of key words leave the benches alone (R233, R291). -/

namespace Sys2Proof.Machine

variable (s : State)

theorem State.markMapOut_benches (c cause count : Nat) : (s.markMapOut c cause count).benches = s.benches := by
  simp [State.markMapOut, apply_ite State.benches]

theorem State.hbmUncorrectable_benches (c reader addr tenant header : Nat) :
    (s.hbmUncorrectable c reader addr tenant header).benches = s.benches := by
  simp [State.hbmUncorrectable, apply_ite State.benches, State.markMapOut_benches, State.bump_benches]

theorem State.basinUncorrectable_benches (l reader addr tenant header : Nat) :
    (s.basinUncorrectable l reader addr tenant header).benches = s.benches := by
  simp [State.basinUncorrectable, apply_ite State.benches, State.bump_benches]

theorem State.keyPoison_benches (pb : Nat) (e : Exec) (u : KUnit) : (s.keyPoison pb e u).benches = s.benches := by
  unfold State.keyPoison
  split
  next => rfl
  next =>
    split
    next =>
      split
      next => rfl
      next => exact s.hbmUncorrectable_benches _ _ _ _ _
    next => exact s.basinUncorrectable_benches _ _ _ _ _

theorem State.keyVerdictAt_benches (pb : Nat) (e : Exec) (us : List KUnit) : (s.keyVerdictAt pb e us).1.benches = s.benches := by
  unfold State.keyVerdictAt
  split
  next =>
    split
    next =>
      split
      next => rfl
      next => rfl
    next => rfl
  next => rfl

end Sys2Proof.Machine
end

section
/-! PROOF. What the start, the feeding and the transfers of commands leave of a bench: its streams, its tokens and, of each command in
execution, what it was issued with (R141). -/

namespace Sys2Proof.Machine

/-- Two states of one command in execution: the same number, word, stream, write intervals and result descriptors. -/
structure Exec.SameIssue (x y : Exec) : Prop where
  id : y.id = x.id
  word : y.word = x.word
  stream : y.stream = x.stream
  writes : y.writes = x.writes
  results : y.results = x.results

theorem Exec.SameIssue.refl (x : Exec) : x.SameIssue x := ⟨rfl, rfl, rfl, rfl, rfl⟩

theorem Exec.SameIssue.trans {x y z : Exec} (h : x.SameIssue y) (g : y.SameIssue z) : x.SameIssue z :=
  ⟨g.id.trans h.id, g.word.trans h.word, g.stream.trans h.stream, g.writes.trans h.writes, g.results.trans h.results⟩

/-- What stands in bench c is what was issued in bench b. -/
structure Bench.SameIssues (b c : Bench) : Prop where
  streams : c.streams = b.streams
  tokens : c.tokens = b.tokens
  ids : c.execs.map Exec.id = b.execs.map Exec.id
  execs : ∀ y ∈ c.execs, ∃ x ∈ b.execs, x.SameIssue y

theorem Bench.SameIssues.of_eq {b c : Bench} (hs : c.streams = b.streams) (ht : c.tokens = b.tokens) (he : c.execs = b.execs) :
    b.SameIssues c :=
  ⟨hs, ht, he ▸ rfl, fun y hy => ⟨y, he ▸ hy, .refl y⟩⟩

theorem Bench.SameIssues.refl (b : Bench) : b.SameIssues b := .of_eq rfl rfl rfl

theorem Bench.SameIssues.trans {b c d : Bench} (h : b.SameIssues c) (g : c.SameIssues d) : b.SameIssues d where
  streams := g.streams.trans h.streams
  tokens := g.tokens.trans h.tokens
  ids := g.ids.trans h.ids
  execs z hz := by
    obtain ⟨y, hy, hyz⟩ := g.execs z hz
    obtain ⟨x, hx, hxy⟩ := h.execs y hy
    exact ⟨x, hx, hxy.trans hyz⟩

/-- A change of the command of a number: its new value may come from any command of that number. -/
theorem Bench.SameIssues.onExec {b : Bench} {id : Nat} {f : Exec → Exec}
    (h : ∀ x ∈ b.execs, x.id = id → (f x).id = id ∧ ∃ e ∈ b.execs, e.SameIssue (f x)) : b.SameIssues (b.onExec id f) where
  streams := rfl
  tokens := rfl
  ids := by
    refine (List.map_map ..).trans (List.map_congr_left fun x hx => ?_)
    by_cases hid : x.id = id
    · exact (congrArg Exec.id (if_pos hid)).trans ((h x hx hid).1.trans hid.symm)
    · exact congrArg Exec.id (if_neg hid)
  execs y hy := by
    obtain ⟨x, hx, rfl⟩ := List.mem_map.mp hy
    by_cases hid : x.id = id
    · rw [if_pos hid]
      exact (h x hx hid).2
    · rw [if_neg hid]
      exact ⟨x, hx, .refl x⟩

/-- Every bench holds in t what was issued in s. -/
def State.SameIssues (s t : State) : Prop := ∀ q, (s.bench q).SameIssues (t.bench q)

theorem State.SameIssues.refl (s : State) : s.SameIssues s := fun _ => .refl _

theorem State.SameIssues.trans {s t u : State} (h : s.SameIssues t) (g : t.SameIssues u) : s.SameIssues u :=
  fun q => (h q).trans (g q)

theorem State.SameIssues.of_benches {s t : State} (h : t.benches = s.benches) : s.SameIssues t :=
  fun q => State.bench_congr h q ▸ .refl _

theorem State.SameIssues.setBench {s : State} {pb : Nat} {b : Bench} (h : (s.bench pb).SameIssues b) : s.SameIssues (s.setBench pb b) := by
  intro q
  by_cases hq : q = pb
  · subst hq
    rw [State.bench_setBench]
    exact h
  · rw [State.bench_setBench_ne _ _ hq]
    exact .refl _

theorem State.SameIssues.onBench {s : State} {pb : Nat} {f : Bench → Bench} (h : (s.bench pb).SameIssues (f (s.bench pb))) :
    s.SameIssues (s.onBench pb f) := .setBench h

theorem State.sameIssues_postExchange (s : State) (pb seq : Nat) (shape : List Nat) (data : List (List El)) :
    s.SameIssues (s.postExchange pb seq shape data) := .onBench (.of_eq rfl rfl rfl)

theorem State.sameIssues_noteStage (s : State) (pb : Nat) (w : CmdWord) (start : Nat) (made : List Nat) (n : Nat) :
    s.SameIssues (s.onBench pb (fun b => { (b.noteStage w start made) with xSeq := b.xSeq + n })) := .onBench (.of_eq rfl rfl rfl)

end Sys2Proof.Machine
end

section
/-! PROOF. The transfers of a Sluice that is advanced (R328). -/

namespace Sys2Proof.Machine

/-- c is b with other contents of its Pool and its tables. -/
def Bench.Refilled (b c : Bench) : Prop :=
  ∃ pool cm dt lt, c = { b with pool := pool, cmdMem := cm, descTab := dt, loopTab := lt }

theorem Bench.Refilled.refl (b : Bench) : b.Refilled b := ⟨b.pool, b.cmdMem, b.descTab, b.loopTab, rfl⟩

theorem Bench.Refilled.trans {b c d : Bench} (h : b.Refilled c) (g : c.Refilled d) : b.Refilled d := by
  obtain ⟨_, _, _, _, rfl⟩ := h
  obtain ⟨pool, cm, dt, lt, rfl⟩ := g
  exact ⟨pool, cm, dt, lt, rfl⟩

theorem Bench.Refilled.foldl {α : Type} {f : Bench → α → Bench} (h : ∀ (b : Bench) (a : α), b.Refilled (f b a)) (l : List α)
    (b : Bench) : b.Refilled (l.foldl f b) :=
  List.foldlRecOn l f (motive := b.Refilled) (.refl b) fun c hc a _ => hc.trans (h c a)

theorem Bench.refilled_tableWrite (b : Bench) (t i : Nat) (v : Reg64) : b.Refilled (b.tableWrite t i v) := by
  unfold Bench.tableWrite
  split_ifs
  all_goals exact ⟨_, _, _, _, rfl⟩

theorem Bench.refilled_tableMark (b : Bench) (t w : Nat) (poison : Bool) : b.Refilled (b.tableMark t w poison) := by
  unfold Bench.tableMark
  dsimp only
  split_ifs
  all_goals exact ⟨_, _, _, _, rfl⟩

theorem Bench.refilled_tlWrite (b : Bench) (w : CmdWord) (pos v : Nat) (poison : Bool) : b.Refilled (b.tlWrite w pos v poison) := by
  refine (Bench.Refilled.foldl (fun c k => c.refilled_tableWrite _ _ _) _ b).trans (.foldl (fun c x => ?_) _ _)
  split_ifs
  · exact c.refilled_tableMark _ _ _
  · exact c.refilled_tableMark _ _ _
  · exact .refl c

theorem Bench.refilled_bring (b : Bench) (e : Exec) (own : List (Option Nat)) (pos v : Nat) (poison : Bool) :
    b.Refilled (b.bring e own pos v poison) := by
  unfold Bench.bring
  split
  next => exact b.refilled_tlWrite _ _ _ _
  next =>
    split
    next => exact .refl b
    next => exact ⟨_, _, _, _, rfl⟩

theorem refilled_slSkip (e : Exec) (far own : List (Option Nat)) (fuel i : Nat) (b : Bench) :
    b.Refilled (slSkip e far own fuel i b).2 := by
  induction fuel generalizing i b with
  | zero => exact .refl b
  | succ n ih =>
    rw [slSkip]
    split
    next =>
      refine Bench.Refilled.trans ?_ (ih _ _)
      split
      next => exact .refl b
      next => exact b.refilled_bring _ _ _ _ _
    next => exact .refl b

theorem Bench.Refilled.sameIssues {b c : Bench} (h : b.Refilled c) : b.SameIssues c := by
  obtain ⟨_, _, _, _, rfl⟩ := h
  exact .of_eq rfl rfl rfl

theorem Bench.sameIssues_slFinish (b : Bench) (cmd : Nat) : b.SameIssues (b.slFinish cmd) := by
  unfold Bench.slFinish
  split
  next => exact .refl b
  next =>
    split
    next =>
      refine Bench.SameIssues.trans (.onExec fun x hx hid => ?_) (.of_eq rfl rfl rfl)
      exact ⟨hid, x, hx, ⟨rfl, rfl, rfl, rfl, rfl⟩⟩
    next => exact .refl b

theorem State.sameIssues_slAdvance (s : State) (pb cmd : Nat) : s.SameIssues (s.slAdvance pb cmd) := by
  refine .onBench ?_
  split
  next j e _ _ =>
    have hskip := refilled_slSkip e ((s.bench pb).farOf e) ((s.bench pb).ownOf e) j.total j.next (s.bench pb)
    dsimp only
    refine Bench.SameIssues.trans ?_ (Bench.sameIssues_slFinish _ cmd)
    exact hskip.sameIssues.trans (.of_eq rfl rfl rfl)
  next => exact .refl _

end Sys2Proof.Machine
end

section
/-! PROOF. The feeding of the commands in execution (R92, R100). -/

namespace Sys2Proof.Machine

variable (s : State) (pb : Nat)

theorem State.sameIssues_openExchange (e : Exec) : s.SameIssues (s.openExchange pb e) := by
  unfold State.openExchange
  split
  next =>
    split
    next => exact s.sameIssues_postExchange _ _ _ _
    next => exact .refl s
  next => exact .refl s

theorem State.sameIssues_keyPoisons (e : Exec) (us : List KUnit) : s.SameIssues (us.foldl (fun s u => s.keyPoison pb e u) s) :=
  .of_benches (foldl_read_untouched _ State.benches us s fun u _ t => t.keyPoison_benches pb e u)

theorem State.sameIssues_feedOnce : s.SameIssues (s.feedOnce pb) := by
  unfold State.feedOnce
  extract_lets b
  split
  next => exact .refl s
  next e hfeed =>
    have he : e ∈ b.execs := List.mem_of_find?_eq_some hfeed
    extract_lets want nt nu us v left e2 b2 s1 s2
    have hv : v.1.bench pb = b := State.bench_congr (s.keyVerdictAt_benches pb e us) pb
    have h1 : s.SameIssues s1 := by
      refine (State.SameIssues.of_benches (s.keyVerdictAt_benches pb e us)).trans (.setBench ?_)
      rw [hv]
      refine Bench.SameIssues.trans (.onExec (id := e.id) (f := fun _ => e2) fun x _ _ => ?_) (.of_eq rfl rfl rfl)
      exact ⟨rfl, e, he, ⟨rfl, rfl, rfl, rfl, rfl⟩⟩
    have h2 : s.SameIssues s2 := h1.trans (s1.sameIssues_keyPoisons pb e us)
    split
    next =>
      split
      next => exact h2.trans (s2.sameIssues_openExchange pb e2)
      next => exact h2
    next => exact h2

theorem State.sameIssues_feed : s.SameIssues (s.feed pb) := by
  have hloop (n : Nat) : ∀ t : State, t.SameIssues (t.feedLoop pb n) := by
    induction n with
    | zero => exact fun t => .refl t
    | succ n ih => exact fun t => (t.sameIssues_feedOnce pb).trans (ih _)
  exact hloop _ s

end Sys2Proof.Machine
end

section
/-! PROOF. The plans of all opcodes start without a change to what a bench has issued (Table 5.7, stage 8). -/

namespace Sys2Proof.Machine

/-- A plan that a command's checks give starts without a change to what the benches have issued. -/
def StartsApart (x : Except Reject Plan) : Prop := ∀ p, x = .ok p → ∀ s : State, s.SameIssues (p.start s)

theorem StartsApart.error (r : Reject) : StartsApart (.error r) := fun _ h => nomatch h

theorem StartsApart.ok {e : Exec} {f : State → State} (h : ∀ s : State, s.SameIssues (f s)) : StartsApart (.ok ⟨e, f⟩) := by
  rintro _ ⟨⟩
  exact h

theorem StartsApart.of (e : Exec) : StartsApart (.ok (Plan.of e)) := .ok State.SameIssues.refl

theorem StartsApart.bind {α : Type} {x : Except Reject α} {f : α → Except Reject Plan} (h : ∀ a, StartsApart (f a)) :
    StartsApart (x >>= f) := by
  cases x with
  | error r => exact .error r
  | ok a => exact h a

theorem StartsApart.ite {c : Prop} [Decidable c] {x y : Except Reject Plan} (hx : StartsApart x) (hy : StartsApart y) :
    StartsApart (if c then x else y) := by
  split
  · exact hx
  · exact hy

/-- A check that only some commands need, with the rest of the checks behind it. -/
theorem StartsApart.guarded {c : Prop} [Decidable c] {x : Except Reject Unit} {f : Unit → Except Reject Plan}
    (h : ∀ u, StartsApart (f u)) : StartsApart (if c then x >>= f else f ()) := .ite (.bind h) (h ())

theorem State.SameIssues.ite {s t u : State} {c : Prop} [Decidable c] (ht : s.SameIssues t) (hu : s.SameIssues u) :
    s.SameIssues (if c then t else u) := by
  split
  · exact ht
  · exact hu

/-- A post of a first exchange behind the rest of a start. -/
theorem State.SameIssues.post {s t : State} {pb seq : Nat} {shape : List Nat} {data : List (List El)} (h : s.SameIssues t) :
    s.SameIssues (t.postExchange pb seq shape data) := h.trans (t.sameIssues_postExchange pb seq shape data)

variable (c : Ctx)

theorem startsApart_planToken : StartsApart (planToken c) := .bind fun _ => .of _

theorem startsApart_planPhase : StartsApart (planPhase c) :=
  .bind fun _ => .ite (.of _) (.ok fun _ => .onBench (.of_eq rfl rfl rfl))

theorem startsApart_planWeir (op : WeirOp) : StartsApart (planWeir op c) :=
  .bind fun _ => .ok fun _ => .of_benches rfl

theorem startsApart_planMsend : StartsApart (planMsend c) := .bind fun _ => .of _

theorem startsApart_planTeGang (inverse : Bool) : StartsApart (planTeGang c inverse) := by
  refine .bind fun _ => .bind fun _ => .ok fun s => ?_
  exact State.SameIssues.ite (.onBench (.of_eq rfl rfl rfl)) (.refl s)

theorem startsApart_planTeLocal : StartsApart (planTeLocal c) :=
  .bind fun _ => .bind fun _ => .bind fun _ => .bind fun _ => .bind fun _ => .of _

theorem startsApart_planTe (inverse : Bool) : StartsApart (planTe inverse c) :=
  .bind fun _ => .ite (startsApart_planTeLocal c) (startsApart_planTeGang c inverse)

theorem startsApart_planConv (toRing : Bool) : StartsApart (planConv toRing c) :=
  .bind fun _ => .bind fun _ => .bind fun _ => .bind fun _ => .bind fun _ => .of _

theorem startsApart_planVeTiles (primes : List Nat) : StartsApart (planVeTiles primes c) := by
  unfold planVeTiles
  extract_lets
  refine .guarded fun _ => .guarded fun _ => .guarded fun _ => .bind fun _ => .bind fun _ => .bind fun _ => .bind fun _ => .of _

theorem startsApart_planFloat : StartsApart (planFloat c) := .bind fun _ => startsApart_planVeTiles c []

theorem State.sameIssues_logMismatch (s : State) (pb : Nat) (m : Option (Nat × Nat)) : s.SameIssues (logMismatch pb m s) := by
  cases m with
  | none => exact .refl s
  | some m => exact .of_benches (s.logBench_benches _ _ _ _)

theorem startsApart_planRingObj : StartsApart (planRingObj c) :=
  .bind fun _ => .guarded fun _ => .guarded fun _ => .bind fun _ => .bind fun _ => .bind fun _ => .bind fun _ => .guarded fun _ =>
    .ok fun s => s.sameIssues_logMismatch _ _

theorem startsApart_planRing : StartsApart (planRing c) :=
  .bind fun _ => .ite (startsApart_planVeTiles c _) (startsApart_planRingObj c)

theorem startsApart_planMatmul : StartsApart (planMatmul c) :=
  .bind fun _ => .bind fun _ => .bind fun _ => .guarded fun _ => .bind fun _ => .bind fun _ => .bind fun _ => .ok fun s =>
    .of_benches ((State.wr_benches _ _ _).trans (s.wrB_benches _ _))

theorem startsApart_planRiffle : StartsApart (planRiffle c) :=
  .bind fun _ => .bind fun _ => .guarded fun _ => .bind fun _ => .bind fun _ => .bind fun _ => .bind fun _ => .bind fun _ => .of _

theorem startsApart_planSluice : StartsApart (planSluice c) :=
  .bind fun _ => .ite (.of _) <| .bind fun _ => .ite
    (.bind fun _ => .bind fun _ => .bind fun _ => .bind fun _ => .bind fun _ => .ok fun _ => .onBench (.of_eq rfl rfl rfl))
    (.bind fun _ => .ok fun _ => .onBench (.of_eq rfl rfl rfl))

theorem startsApart_planPbs : StartsApart (planPbs c) :=
  .bind fun _ => .bind fun _ => .bind fun _ => .bind fun _ => .bind fun _ => .bind fun _ => .of _

theorem startsApart_planRescale : StartsApart (planRescale c) := by
  refine .bind fun _ => .bind fun _ => .bind fun _ => .bind fun _ => .bind fun _ => .bind fun _ => .ok fun s => ?_
  exact State.SameIssues.ite (.refl s) (State.SameIssues.post (.onBench (.of_eq rfl rfl rfl)))

theorem startsApart_planKsw : StartsApart (planKsw c) := by
  refine .bind fun _ => .bind fun _ => .bind fun _ => .bind fun _ => .bind fun _ => .bind fun _ => .bind fun _ => .bind fun _ =>
    .bind fun _ => .bind fun _ => .bind fun _ => .bind fun _ => .ok fun s => ?_
  dsimp only
  split
  · exact State.SameIssues.post (s.sameIssues_noteStage _ _ _ _ _)
  · exact s.sameIssues_noteStage _ _ _ _ _

theorem startsApart_planFreshet : StartsApart (planFreshet c) := by
  refine .bind fun _ => .bind fun _ => .bind fun _ => .bind fun _ => .bind fun _ => .ok fun s => ?_
  dsimp only
  split
  · exact State.SameIssues.post (s.sameIssues_noteStage _ _ _ _ _)
  · exact s.sameIssues_noteStage _ _ _ _ _

theorem startsApart_planExtract : StartsApart (planExtract c) := by
  refine .bind fun _ => .bind fun _ => .bind fun _ => .bind fun _ => .bind fun _ => .bind fun _ => .ok fun s => ?_
  exact State.SameIssues.ite (s.sameIssues_noteStage _ _ _ _ _) (State.SameIssues.post (s.sameIssues_noteStage _ _ _ _ _))

theorem startsApart_planPack : StartsApart (planPack c) := by
  refine .bind fun _ => .bind fun _ => .bind fun _ => .bind fun _ => .bind fun _ => .ok fun s => ?_
  exact State.SameIssues.ite (s.sameIssues_noteStage _ _ _ _ _) (State.SameIssues.post (s.sameIssues_noteStage _ _ _ _ _))

theorem startsApart_planOf (op : Nat) : StartsApart (planOf op c) :=
  .ite (startsApart_planToken c) <| .ite (startsApart_planPhase c) <| .ite (startsApart_planWeir c _) <|
  .ite (startsApart_planWeir c _) <| .ite (startsApart_planWeir c _) <| .ite (startsApart_planWeir c _) <|
  .ite (startsApart_planMsend c) <| .ite (startsApart_planTe c _) <| .ite (startsApart_planTe c _) <|
  .ite (startsApart_planConv c _) <| .ite (startsApart_planConv c _) <| .ite (startsApart_planRing c) <|
  .ite (startsApart_planFloat c) <| .ite (startsApart_planMatmul c) <| .ite (startsApart_planRiffle c) <|
  .ite (startsApart_planSluice c) <| .ite (startsApart_planKsw c) <| .ite (startsApart_planRescale c) <|
  .ite (startsApart_planFreshet c) <| .ite (startsApart_planPbs c) <| .ite (startsApart_planExtract c) <|
  startsApart_planPack c

/-- A command that is ready has the plan that its opcode's checks give. -/
theorem State.planOf_of_ready {s : State} {pb st : Nat} {q : QCmd} {p : Plan} (h : s.lateVerdict pb st q = .ready p) :
    planOf (opcodeOf q.word) (s.ctx pb st q) = .ok p := by
  unfold State.lateVerdict at h
  dsimp only at h
  split at h
  · cases h
  · split at h
    · cases h
    · split at h
      · cases h
      · split at h
        · cases h
        · next hp =>
          split at h
          · cases h
          · split_ifs at h
            cases h
            exact hp

end Sys2Proof.Machine
end

section
/-! PROOF. The head of a stream: it passes the stages of Table 5.7, stays, or halts its bench (R122, R139, R143, R158; issue at one
instant: log 34). -/

namespace Sys2Proof.Machine

theorem State.sameIssues_postStream (s : State) (pb : Nat) (w : CmdWord) : s.SameIssues (s.postStream pb w) := by
  unfold State.postStream
  split
  next => exact .refl s
  next =>
    extract_lets b
    split
    next => exact .refl s
    next =>
      refine .setBench ?_
      split
      · exact .of_eq rfl rfl rfl
      · exact .of_eq rfl rfl rfl

theorem Bench.queue_onStream_setHead {b : Bench} {st : Nat} {q : QCmd} {rest : List QCmd} (h : (b.stream st).queue = q :: rest)
    (f : QCmd → QCmd) : ((b.onStream st (·.setHead f)).stream st).queue = f q :: rest := by
  rw [Bench.onStream, Bench.stream_setStream, if_pos rfl, Stream.setHead, h]

/-- A command that has passed stage 2. -/
def QCmd.pass (q : QCmd) : QCmd := { q with passed := true }

/-- A bench whose stream st has passed the command at its head through stage 2. -/
def Bench.awaited (b : Bench) (st : Nat) (w : CmdWord) : Bench :=
  if awaitEn w && !readsChute w then (b.onStream st (·.setHead QCmd.pass)).setToken (awaitOf w) (b.token (awaitOf w) - 1)
  else b.onStream st (·.setHead QCmd.pass)

theorem Bench.awaited_frame (b : Bench) (st : Nat) (w : CmdWord) :
    ∃ toks, b.awaited st w = { b.onStream st (·.setHead QCmd.pass) with tokens := toks } ∧
      (awaitEn w = true → readsChute w = false → Sparse.get (fun _ => 0) toks (awaitOf w) = b.token (awaitOf w) - 1) := by
  unfold Bench.awaited
  split
  next => exact ⟨_, rfl, fun _ _ => Sparse.get_set_same (fun _ => 0) _ _ _⟩
  next h =>
    refine ⟨b.tokens, rfl, fun ha hr => absurd ?_ h⟩
    rw [ha, hr]
    rfl

/-- A command past stage 2: it stands at the head still, and its token is consumed. -/
theorem State.passAwait_spec {s t : State} {pb st : Nat} {q : QCmd} {rest : List QCmd} (hq : ((s.bench pb).stream st).queue = q :: rest)
    (ht : t = s.passAwait pb st q) :
    (∃ q', ((t.bench pb).stream st).queue = q' :: rest) ∧ (t.bench pb).execs.map Exec.id = (s.bench pb).execs.map Exec.id ∧
      (q.passed = false → awaitEn q.word = true → readsChute q.word = false →
        (t.bench pb).token (awaitOf q.word) = (s.bench pb).token (awaitOf q.word) - 1) := by
  cases hp : q.passed with
  | true =>
    obtain rfl : t = s := ht.trans (if_pos hp)
    exact ⟨⟨q, hq⟩, rfl, nofun⟩
  | false =>
    obtain ⟨toks, hb, htok⟩ := (s.bench pb).awaited_frame st q.word
    obtain ⟨u, hu⟩ : ∃ u, u = s.onBench pb (·.awaited st q.word) := ⟨_, rfl⟩
    have ht : t = u.postStream pb q.word := ht.trans ((if_neg (by rw [hp]; decide)).trans (by rw [hu]; rfl))
    have hbench : u.bench pb = _ := (hu ▸ s.bench_onBench pb _).trans hb
    have hpost := u.sameIssues_postStream pb q.word pb
    rw [← ht, hbench] at hpost
    refine ⟨⟨q.pass, ?_⟩, hpost.ids, fun _ ha hr => ?_⟩
    · rw [Bench.stream, hpost.streams]
      exact Bench.queue_onStream_setHead hq QCmd.pass
    · rw [Bench.token, hpost.tokens]
      exact htok ha hr

/-- A command that enters execution under a plan. -/
def State.entering (s : State) (b : Bench) (e : Exec) : Exec :=
  { e with broken := e.broken || (b.xBroken && e.exchanges) || s.checkerTouches e }

/-- The queue of a stream whose head enters execution: END discards what stands behind it (R138). -/
def Stream.issued (w : CmdWord) (x : Stream) : Stream :=
  if endsStream w then { x with queue := [], closed := true, fetching := false } else { x with queue := x.queue.drop 1 }

/-- A bench that a command enters. -/
def Bench.entered (b : Bench) (st : Nat) (w : CmdWord) (e : Exec) : Bench :=
  ({ b with execs := b.execs ++ [e], nextId := b.nextId + 1 } : Bench).onStream st (·.issued w)

theorem Bench.stream_entered (b : Bench) (st : Nat) (w : CmdWord) (e : Exec) :
    (b.entered st w e).stream st = (b.stream st).issued w := by
  rw [Bench.entered, Bench.onStream, Bench.stream_setStream, if_pos rfl]
  rfl

/-- The state that a command enters execution in. -/
def State.entered (s : State) (pb st : Nat) (w : CmdWord) (e : Exec) : State :=
  s.onBench pb (fun b => b.entered st w (s.entering b e))

/-- The state that a command's start leaves its bench in. -/
def State.begun (s : State) (pb st : Nat) (q : QCmd) (p : Plan) : State := (p.start (s.entered pb st q.word p.ex)).progress pb

/-- What follows a command's entry, PHASE and RESUME aside, issues nothing. -/
theorem State.sameIssues_issueNow {s : State} {pb st : Nat} {q : QCmd} {p : Plan} (h2 : opcodeOf q.word ≠ 2)
    (h3 : opcodeOf q.word ≠ 0xC3) (hstart : ∀ t : State, t.SameIssues (p.start t)) :
    (s.entered pb st q.word p.ex).SameIssues (s.issueNow pb st q p) := by
  have heq : s.issueNow pb st q p = (if classOf q.word = 6 ∧ opcodeOf q.word ≠ 0xC3 then (s.begun pb st q p).slAdvance pb p.ex.id
      else s.begun pb st q p).feed pb := (if_neg h3).trans (if_neg fun h => h2 h.1)
  have hbegun : (s.entered pb st q.word p.ex).SameIssues (s.begun pb st q p) :=
    (hstart _).trans (.of_benches (State.progress_benches _ pb))
  rw [heq]
  exact (hbegun.trans (.ite (State.sameIssues_slAdvance _ _ _) (.refl _))).trans (State.sameIssues_feed _ pb)

/-- A head that enters execution. -/
theorem State.issueNow_spec {s t : State} {pb st : Nat} {q q' : QCmd} {rest : List QCmd} {p : Plan} (h2 : opcodeOf q.word ≠ 2)
    (h3 : opcodeOf q.word ≠ 0xC3) (hstart : ∀ t : State, t.SameIssues (p.start t)) (hq : ((s.bench pb).stream st).queue = q' :: rest)
    (ht : t = s.issueNow pb st q p) :
    ((t.bench pb).stream st).queue = (if endsStream q.word then [] else rest) ∧
      (endsStream q.word = true → ((t.bench pb).stream st).closed = true) ∧
      (∃ e ∈ (t.bench pb).execs, e.id = p.ex.id ∧ ((∀ x ∈ (s.bench pb).execs, x.id ≠ p.ex.id) → p.ex.SameIssue e)) ∧
      (t.bench pb).tokens = (s.bench pb).tokens := by
  have hsame := State.sameIssues_issueNow (s := s) (pb := pb) (st := st) h2 h3 hstart pb
  rw [← ht, State.entered, State.bench_onBench] at hsame
  have hstream : (t.bench pb).stream st = ((s.bench pb).stream st).issued q.word := by
    rw [← Bench.stream_entered, Bench.stream, hsame.streams, Bench.stream]
  have hid : p.ex.id ∈ (t.bench pb).execs.map Exec.id := by
    rw [hsame.ids]
    exact List.mem_map_of_mem (a := s.entering (s.bench pb) p.ex) (List.mem_append_right _ (List.mem_singleton.mpr rfl))
  obtain ⟨e, he, heid⟩ := List.mem_map.mp hid
  refine ⟨?_, fun hend => ?_, ⟨e, he, heid, fun hfree => ?_⟩, hsame.tokens⟩
  · rw [hstream, Stream.issued, apply_ite Stream.queue, hq]
    rfl
  · rw [hstream, Stream.issued, if_pos hend]
  · obtain ⟨x, hx, hxe⟩ := hsame.execs e he
    obtain hx | hx := List.mem_append.mp hx
    · exact absurd (hxe.id.symm.trans heid) (hfree x hx)
    · obtain rfl := List.mem_singleton.mp hx
      exact ⟨hxe.id, hxe.word, hxe.stream, hxe.writes, hxe.results⟩

/-- What a command of Table 6.1 does is issue the head of its stream if that has its opcode. -/
def Issues (pb : Fin 68) (st : Fin 6) (x : Nat × Instr) : Prop := ∀ s : State, exec x.2 s = .next (s.live (fun s => s.issueOp pb st x.1))

theorem issues_of_mem {pb : Fin 68} {st : Fin 6} : ∀ x ∈ benchCommands pb st, Issues pb st x := by
  have hcontrol : ∀ x ∈ controlCommands pb st, Issues pb st x := by
    intro x hx
    fin_cases hx <;> exact fun _ => rfl
  have hring : ∀ x ∈ ringCommands pb st, Issues pb st x := by
    intro x hx
    fin_cases hx <;> exact fun _ => rfl
  have hfloat : ∀ x ∈ floatCommands pb st, Issues pb st x := by
    intro x hx
    fin_cases hx <;> exact fun _ => rfl
  have hdata : ∀ x ∈ dataCommands pb st, Issues pb st x := by
    intro x hx
    fin_cases hx <;> exact fun _ => rfl
  have hmacro : ∀ x ∈ macroCommands pb st, Issues pb st x := by
    intro x hx
    fin_cases hx <;> exact fun _ => rfl
  simp only [benchCommands, List.forall_mem_append]
  exact ⟨hcontrol, hring, hfloat, hdata, hmacro⟩

section Head

variable {s : State} {pb : Fin 68} {st : Fin 6} {q : QCmd} {rest : List QCmd} {op : Nat} {c : Instr}

theorem exec_command (hc : (op, c) ∈ benchCommands pb st) (hrun : s.running = true) (hq : ((s.bench pb).stream st).queue = q :: rest) :
    exec c s = .next (if opcodeOf q.word = op then s.tryIssue pb st q else s) := by
  refine (issues_of_mem _ hc s).trans ((next_live_of_running hrun _).trans (congrArg _ ?_))
  rw [State.issueOp, hq]

theorem exec_command_of_readyAt {p : Plan} (hc : (op, c) ∈ benchCommands pb st) (hop : opcodeOf q.word = op)
    (h : s.readyAt pb st q rest p) : exec c s = .next ((s.passAwait pb st q).issueNow pb st q p) := by
  obtain ⟨hrun, hq, hmoves, hgood, hfirst, hsecond, hlate⟩ := h
  rw [exec_command hc hrun hq, if_pos hop]
  simp only [State.tryIssue, hmoves, hgood, hfirst, hsecond, hlate, Bool.not_true, Bool.false_eq_true, if_false]

theorem State.tryIssue_of_stays
    (h : s.mayMove pb st q = false ∨ q.bad = false ∧ s.stage1 pb st q.word = none ∧ (s.bench pb).stage2 q = none) :
    s.tryIssue pb st q = s := by
  obtain hmoves | ⟨hgood, hfirst, hsecond⟩ := h
  · simp only [State.tryIssue, hmoves, Bool.not_false, if_true]
  · simp only [State.tryIssue, hgood, hfirst, hsecond, Bool.false_eq_true, if_false, ite_self]

theorem State.active_of_mayMove (h : s.mayMove pb st q = true) : (s.bench pb).active = true := by
  simp only [State.mayMove, Bool.and_eq_true] at h
  exact h.1.1.1.1.1.1

/-- A command that fails the first checks halts its bench, and is logged (R158). -/
theorem State.rejectCmd_spec {t : State} {slot : Nat} (hact : (s.bench pb).active = true)
    (ht : t = s.rejectCmd pb st q ⟨3, 1, slot, 0⟩) :
    t = { s with benches := t.benches, spoil := t.spoil } ∧ BenchesApart s t pb ∧ (t.bench pb).mode = .halted ∧
      (t.bench pb).haltCause = 3 ∧ (t.bench pb).streams = (s.bench pb).streams ∧ (t.bench pb).pool = (s.bench pb).pool ∧
      t.spoil.inFlight.length = s.spoil.inFlight.length + 1 ∧ (t.spoil.inFlight.getLast?).map (·.cls) = some 0x0B := by
  obtain ⟨d0, d1, ht⟩ : ∃ d0 d1, t = (s.logBench pb 0x0B d0 d1).haltBench pb 3 := ⟨_, _, ht⟩
  have hbench : t.bench pb = (s.bench pb).halt 3 := by
    rw [ht, State.haltBench, State.bench_onBench, State.bench_congr (s.logBench_benches ..)]
  obtain ⟨hmode, hcause⟩ := Bench.halt_of_active hact 3
  rw [hbench]
  refine ⟨ht ▸ rfl, fun k hk => ?_, hmode, hcause, Bench.halt_streams _ 3, Bench.halt_pool _ 3, ?_, ?_⟩
  · rw [ht, State.haltBench, State.bench_onBench_ne _ _ hk, State.bench_congr (s.logBench_benches ..)]
  · rw [ht, State.haltBench_spoil]
    simp [State.logBench, State.log]
  · rw [ht, State.haltBench_spoil]
    simp [State.logBench, State.log]

theorem State.stage1_of_undefined (h : s.opcodeOk pb (opcodeOf q.word) = false) : s.stage1 pb st q.word = some 3 := by
  simp only [State.stage1, h, Bool.not_false, if_true]

theorem exec_undefinedOpcode {slot : Nat} (hrun : s.running = true) (hq : ((s.bench pb).stream st).queue = q :: rest)
    (hop : s.opcodeOk pb (opcodeOf q.word) = false) (hmoves : s.mayMove pb st q = true) (hgood : q.bad = false)
    (hfirst : s.stage1 pb st q.word = some slot) : exec (.undefinedOpcode pb st) s = .next (s.rejectCmd pb st q ⟨3, 1, slot, 0⟩) := by
  refine (next_live_of_running hrun _).trans (congrArg _ ?_)
  simp only [State.issueUndefined, hq, hop, State.tryIssue, hmoves, hgood, hfirst, Bool.not_true, Bool.false_eq_true, if_false]

end Head

/-- Settles O27: a head that is ready enters execution by issueNow, which after the command's entry issues nothing (at one instant: log 34);
else its stream stays, or its bench halts (a command without its opcode changes nothing: log 4). -/
theorem headsEnterExecutionOrStay : Obligations.HeadsEnterExecutionOrStay := by
  refine ⟨fun s pb st q rest p op c hc hop h => ?_, fun s pb st op c q rest hc hrun hq hstays => ?_,
    fun s pb st q rest slot hrun hq hop hmoves hgood hfirst => ?_⟩
  · have hexec := exec_command_of_readyAt hc hop h
    have hplan := State.planOf_of_ready h.late
    obtain ⟨⟨q', hq'⟩, hids, htok⟩ := State.passAwait_spec h.head rfl
    refine ⟨hop ▸ hplan, hexec, fun h2 h3 => ⟨_, hexec, ?_⟩⟩
    obtain ⟨hqueue, hclosed, ⟨e, he, heid, hsame⟩, htokens⟩ :=
      State.issueNow_spec (hop ▸ h2) (hop ▸ h3) (startsApart_planOf _ _ p hplan) hq' rfl
    refine ⟨hqueue, hclosed, ⟨e, he, heid, fun hfree => ?_⟩, fun hp ha hr => ?_⟩
    · obtain ⟨-, hword, hstream, hwrites, hresults⟩ := hsame fun x hx hid => by
        obtain ⟨y, hy, hyx⟩ := List.mem_map.mp (hids ▸ List.mem_map_of_mem (f := Exec.id) hx)
        exact hfree y hy (hyx.trans hid)
      exact ⟨hword, hstream, hwrites, hresults⟩
    · rw [Bench.token, htokens]
      exact htok hp ha hr
  · rw [exec_command hc hrun hq]
    obtain hop | hstays := hstays
    · rw [if_neg hop]
    · rw [State.tryIssue_of_stays hstays, ite_self]
  · obtain ⟨hframe, hapart, hmode, hcause, hstreams, hpool, hlen, hlast⟩ :=
      State.rejectCmd_spec (State.active_of_mayMove hmoves) (q := q) (st := st) (slot := slot) rfl
    refine ⟨_, exec_undefinedOpcode hrun hq hop hmoves hgood hfirst, hframe, hapart, hmode, hcause, ?_, ?_, hpool, hlen, hlast⟩
    · exact Option.some.inj (hfirst.symm.trans (State.stage1_of_undefined hop))
    · rw [Bench.stream, hstreams]
      exact hq

end Sys2Proof.Machine
end

section
/-! PROOF. Accesses to the data registers of a bench (R119, R197, R300). -/

namespace Sys2Proof.Machine

section BenchBlock

variable {s : State} {vw : View} {b : BenchRef} {pb o : Nat}

theorem benchBlock_of_key (pb : Nat) (ho : o < 0x10000) :
    (0x100000 + 0x10000 * pb + o - 0x100000) / 0x10000 = pb ∧ (0x100000 + 0x10000 * pb + o) % 0x10000 = o := by
  omega

/-- A read of a view that comes through to a bench answers as the bench's register does. -/
theorem State.busRead_bench {g : Got} (h : s.benchReadable vw b o pb) (ho : o < 0x10000)
    (hg : s.readBench (viewNum vw) pb o = some g) :
    s.busRead vw (benchOffset b + o) = g.after.emit (.readData vw (benchOffset b + o) g.val) := by
  obtain ⟨hr, hres, -⟩ := h
  obtain ⟨hblock, hoff⟩ := benchBlock_of_key pb ho
  refine State.busRead_of_readReg hr hres ?_
  rw [State.readReg, if_pos (by omega), hblock, hoff, hg]

/-- A write of a view that comes through to a bench does what the bench's register does. -/
theorem State.busWrite_bench {t : State} {d : Reg64} (h : s.benchWritable vw b o pb) (ho : o < 0x10000)
    (ht : s.benchWrite pb o d = some t) : s.busWrite vw (benchOffset b + o) d = t := by
  obtain ⟨hw, hres, -⟩ := h
  obtain ⟨hblock, hoff⟩ := benchBlock_of_key pb ho
  refine State.busWrite_of_writeReg hw hres ?_
  unfold State.writeReg
  simp (disch := omega) only [if_neg]
  rw [hblock, hoff, ht]

theorem State.shown_bench (s : State) (v pb : Nat) (ho : o < 0x10000) :
    s.shown v (0x100000 + 0x10000 * pb + o) = s.benchShown pb o (s.plain (regKey v (0x100000 + 0x10000 * pb + o))) := by
  obtain ⟨hblock, hoff⟩ := benchBlock_of_key pb ho
  unfold State.shown
  simp (disch := omega) only [if_neg]
  rw [hblock, hoff]

theorem State.not_halted_of_benchIdle (h : s.benchIdle pb = true) : decide ((s.bench pb).mode = .halted) = false := by
  simp only [State.benchIdle, Bool.and_eq_true, decide_eq_true_eq] at h
  rw [h.1]
  rfl

theorem State.readBench_tbl (v : Nat) (hidle : s.benchIdle pb = true) (ht : s.rd (Fld.BENCH_TBL_ADDR_TABLE pb) ≠ 3) :
    s.readBench v pb 0x88 =
      some ⟨BitVec.ofNat 64 ((s.bench pb).tableRead (s.rd (Fld.BENCH_TBL_ADDR_TABLE pb)) (s.tblIndex pb)), s.tblNext pb⟩ := by
  simp [State.readBench, State.not_halted_of_benchIdle hidle, State.tblRead, hidle, ht]

theorem State.benchWrite_tbl (d : Reg64) (hidle : s.benchIdle pb = true) (ht : s.rd (Fld.BENCH_TBL_ADDR_TABLE pb) ≠ 3) :
    s.benchWrite pb 0x88 d =
      some ((s.onBench pb (fun x => x.tableWrite (s.rd (Fld.BENCH_TBL_ADDR_TABLE pb)) (s.tblIndex pb) d)).tblNext pb) := by
  simp [State.benchWrite, State.tblWrite, hidle, ht]

theorem State.readBench_fmMem (v : Nat) (hidle : s.benchIdle pb = true) (hspace : s.flag (Fld.BENCH_FM_MEM_ADDR_SPACE pb) = false)
    (hbad : (s.bench pb).dmem.bad = []) :
    s.readBench v pb 0x420 = some ⟨(s.bench pb).dmem.dword (s.fmMemIndex pb), s.fmMemNext pb⟩ := by
  simp [State.readBench, State.not_halted_of_benchIdle hidle, State.fmMemRead, hidle, hspace, hbad]

theorem State.fmMemSize_of_data (hspace : s.flag (Fld.BENCH_FM_MEM_ADDR_SPACE pb) = false) : s.fmMemSize pb = 32768 := by
  rw [State.fmMemSize, if_neg (by rw [hspace]; decide)]

theorem State.benchWrite_fmMem (d : Reg64) (hidle : s.benchIdle pb = true) :
    s.benchWrite pb 0x420 d =
      some ((s.onBench pb (fun x => if s.flag (Fld.BENCH_FM_MEM_ADDR_SPACE pb) then { x with imem := x.imem.setDword (s.fmMemIndex pb) d }
        else { x with dmem := x.dmem.setDword (s.fmMemIndex pb) d })).fmMemNext pb) := by
  simp [State.benchWrite, State.fmMemWrite, hidle]

theorem State.readBench_weir (s : State) (v pb : Nat) :
    s.readBench v pb 0xA48 = some ⟨BitVec.ofNat 64 ((s.bench pb).weir (s.rd (Fld.BENCH_WEIR_SEL_WEIR pb))), s.weirNext pb⟩ := by
  simp [State.readBench, s.shown_bench v pb (o := 0xA48), State.benchShown]

/-- No run of Confluence waits for a count: none starts. -/
theorem State.cflWatch_of_not_due {count : Nat} (h : ∀ i, (s.cfl i).due count = false) (m w : Nat) : s.cflWatch m w count = s := by
  refine List.foldlRecOn (List.range 64) _ (motive := fun t => t = s) rfl (fun t ht i _ => ?_)
  subst ht
  simp [h i]

/-- A bench with another count in a Weir. -/
def Bench.withWeir (b : Bench) (w count : Nat) : Bench := { b with weirs := Sparse.set (fun _ => 0) b.weirs w count }

theorem Bench.withWeir_of_held_nil {b : Bench} (h : b.held = []) (w count : Nat) :
    { b with weirs := Sparse.set (fun _ => 0) b.weirs w count, held := [] } = b.withWeir w count := by
  rw [← h]
  rfl

/-- A count set while no wait is held and no run is due. -/
theorem State.setWeir_of_held_nil {count : Nat} (hheld : (s.bench pb).held = []) (h : ∀ i, (s.cfl i).due count = false) (w : Nat) :
    s.setWeir pb w count = s.onBench pb (·.withWeir w count) := by
  have hbench := Bench.withWeir_of_held_nil hheld w count
  simp only [State.setWeir, hheld, List.filter_nil, List.foldl_nil]
  rw [hbench]
  split
  next => rfl
  next m _ => exact State.cflWatch_of_not_due (s := s.onBench pb (·.withWeir w count)) h m w

theorem State.benchWrite_weir (d : Reg64) (hidle : s.benchIdle pb = true) :
    s.benchWrite pb 0xA48 d = some ((s.setWeir pb (s.rd (Fld.BENCH_WEIR_SEL_WEIR pb)) (getBits d 31 0)).weirNext pb) := by
  simp [State.benchWrite, State.weirDataWrite, hidle]

end BenchBlock

end Sys2Proof.Machine
end

section
/-! PROOF. Conflict counters: read four at a time, and cleared (R292). -/

namespace Sys2Proof.Machine

/-- Four counters of 16 bits in a word. -/
def fourCounters (v : Nat → Nat) : Nat := ofBytes ((List.range 4).flatMap (fun j => toBytes 2 (v j)))

theorem fourCounters_eq (v : Nat → Nat) :
    fourCounters v = v 0 % 65536 + 65536 * (v 1 % 65536) + 65536 ^ 2 * (v 2 % 65536) + 65536 ^ 3 * (v 3 % 65536) := by
  simp only [fourCounters, List.range_succ, List.range_zero, List.nil_append, List.cons_append, List.flatMap_cons, List.flatMap_nil,
    List.append_nil, toBytes, ofBytes]
  omega

theorem getBits_fourCounters (v : Nat → Nat) {j : Nat} (hj : j < 4) :
    getBits (BitVec.ofNat 64 (fourCounters v)) (16 * j + 15) (16 * j) = v j % 65536 := by
  have hwidth : 16 * j + 15 + 1 - 16 * j = 16 := by omega
  refine getBits_ofNat ?_ ?_
  · rw [fourCounters_eq]
    omega
  · rw [fourCounters_eq, hwidth]
    interval_cases j <;> omega

theorem State.reg_foldl_setReg_zero (ks : List Nat) (s : State) (k : Nat) :
    (ks.foldl (fun s k => s.setReg k 0) s).reg k = if k ∈ ks then 0 else s.reg k := by
  split
  next h =>
    exact foldl_read_touched _ (fun t : State => t.reg k) k 0 (fun t => t.reg_setReg k 0) ks s h
      (fun y _ hy t => t.reg_setReg_ne 0 hy.symm)
  next h => exact foldl_read_untouched _ (fun t : State => t.reg k) ks s (fun y hy t => t.reg_setReg_ne 0 (fun e => h (e ▸ hy)))

/-- The keys of a group of conflict counters of a bench. -/
def conflKeys (pb g : Nat) : List Nat := (List.range 4).map (fun j => behind (Reg.BENCH_CONFL_DATA pb) (4 * g + j))

theorem conflIdx_not_mem_conflKeys (pb g : Nat) : Reg.BENCH_CONFL_IDX pb ∉ conflKeys pb g := by
  simp only [conflKeys, List.mem_map, List.mem_range, behind, viewBit, Reg.BENCH_CONFL_DATA, Reg.BENCH_CONFL_IDX]
  omega

theorem State.readConfl_eq (s : State) (pb : Nat) {g : Nat} (hg : g = s.rd (Fld.BENCH_CONFL_IDX_GROUP pb)) :
    s.readConfl pb = ⟨BitVec.ofNat 64 (fourCounters (fun j => (s.reg (behind (Reg.BENCH_CONFL_DATA pb) (4 * g + j))).toNat)),
      ((conflKeys pb g).foldl (fun s k => s.setReg k 0) s).wr (Fld.BENCH_CONFL_IDX_GROUP pb) (g + 1)⟩ := by
  subst hg
  rfl

theorem State.readConfl_spec {s t : State} {pb g : Nat}
    (ht : t = ((conflKeys pb g).foldl (fun s k => s.setReg k 0) s).wr (Fld.BENCH_CONFL_IDX_GROUP pb) (g + 1)) :
    RegsOnly s t ∧ t.rd (Fld.BENCH_CONFL_IDX_GROUP pb) = (g + 1) % 128 ∧ (∀ k ∈ conflKeys pb g, t.reg k = 0) ∧
      RegsApart s t (Reg.BENCH_CONFL_IDX pb :: conflKeys pb g) := by
  have hhi : (Fld.BENCH_CONFL_IDX_GROUP pb).hi < 64 := (by decide : 6 < 64)
  subst ht
  refine ⟨((RegsOnly.refl s).foldl (fun t k => (RegsOnly.refl t).setReg k 0) _).wr _ _, State.rd_wr _ _ _ hhi (Nat.zero_le _), ?_, ?_⟩
  · intro k hk
    have hidx : k ≠ Reg.BENCH_CONFL_IDX pb := fun e => conflIdx_not_mem_conflKeys pb g (e ▸ hk)
    rw [State.reg_wr_ne _ _ hidx, State.reg_foldl_setReg_zero, if_pos hk]
  · intro k hk
    obtain ⟨hidx, hkeys⟩ := not_or.mp (List.mem_cons.not.mp hk)
    rw [State.reg_wr_ne _ _ hidx, State.reg_foldl_setReg_zero, if_neg hkeys]

/-- Counter j of a group of Basin conflict counters. -/
def basinCounter (k j : Nat) : Fld := ⟨k, 16 * j + 15, 16 * j⟩

theorem rcUnit_basinConfl (n lo : Nat) : rcUnit (behind Reg.DEVCTL_BASIN_CONFL_DATA n) lo = 1 := by
  have hcanon : canon (behind Reg.DEVCTL_BASIN_CONFL_DATA n) = 0x5088 := by
    have hmod : behind Reg.DEVCTL_BASIN_CONFL_DATA n % viewBit = 0x5088 := by
      rw [behind, Nat.add_mul_mod_self_left]
      rfl
    rw [canon, hmod]
    rfl
  rw [rcUnit, hcanon]
  rfl

section Basin

variable {s : State} {k n : Nat} (hk : k = behind Reg.DEVCTL_BASIN_CONFL_DATA n)
include hk

theorem State.rcShown_basinCounter (j : Nat) : s.rcShown (basinCounter k j) = min 65535 (s.cnt (basinCounter k j)) := by
  have htop : (basinCounter k j).top = 65535 := by
    have hwidth : 16 * j + 15 + 1 - 16 * j = 16 := by omega
    rw [Fld.top, basinCounter, hwidth]
    rfl
  have hunit : rcUnit (basinCounter k j).key (basinCounter k j).lo = 1 := hk ▸ rcUnit_basinConfl n _
  rw [State.rcShown, htop, hunit, Nat.div_one]

theorem State.cnt_clearBasinCounters (s : State) {j : Nat} (hj : j < 4) :
    ((List.range 4).foldl (fun s j => s.rcClear (basinCounter k j)) s).cnt (basinCounter k j) = 0 := by
  have hunit : rcUnit (basinCounter k j).key (basinCounter k j).lo = 1 := hk ▸ rcUnit_basinConfl n _
  refine foldl_read_touched _ (fun t : State => t.cnt (basinCounter k j)) j 0 (fun t => ?_) _ s (List.mem_range.mpr hj)
    (fun i _ hij t => ?_)
  · rw [State.cnt_rcClear, hunit, Nat.mod_one]
  · refine State.cnt_rcClear_ne t ?_ ?_
    · simp only [Fld.rcKey, basinCounter]
      omega
    · simp only [Fld.armedKey, Fld.rcKey, basinCounter]
      omega

end Basin

theorem State.foldl_rcClear_frame (f : Nat → Fld) (l : List Nat) (s : State) :
    ∃ r, l.foldl (fun s j => s.rcClear (f j)) s = { s with rc := r } := by
  refine List.foldlRecOn l _ (motive := fun t : State => ∃ r, t = { s with rc := r }) ⟨s.rc, rfl⟩ (fun t h j _ => ?_)
  obtain ⟨r, rfl⟩ := h
  exact ⟨_, rfl⟩

/-- The state after a read of a group of Basin conflict counters. -/
def State.basinTaken (s : State) (k g : Nat) : State :=
  ((List.range 4).foldl (fun s j => s.rcClear (basinCounter k j)) s).wr Fld.DEVCTL_BASIN_CONFL_IDX_GROUP (g + 1)

theorem State.readReg_basinConfl {s : State} {g k : Nat} (v : Nat) (hg : g = s.rd Fld.DEVCTL_BASIN_CONFL_IDX_GROUP)
    (hk : k = behind Reg.DEVCTL_BASIN_CONFL_DATA (64 * s.rd Fld.DEVCTL_BASIN_CONFL_IDX_LEDGE + g)) :
    s.readReg v Reg.DEVCTL_BASIN_CONFL_DATA =
      some ⟨BitVec.ofNat 64 (fourCounters (fun j => s.rcShown (basinCounter k j))), s.basinTaken k g⟩ := by
  subst hk hg
  rfl

theorem State.basinTaken_spec {s t : State} {g k n : Nat} (hk : k = behind Reg.DEVCTL_BASIN_CONFL_DATA n) (ht : t = s.basinTaken k g) :
    (∃ r c, t = { s with regs := r, rc := c }) ∧ t.rd Fld.DEVCTL_BASIN_CONFL_IDX_GROUP = (g + 1) % 64 ∧
      (∀ j, j < 4 → t.cnt (basinCounter k j) = 0) ∧ RegsApart s t [Reg.DEVCTL_BASIN_CONFL_IDX] := by
  obtain ⟨r, hr⟩ := State.foldl_rcClear_frame (basinCounter k) (List.range 4) s
  obtain ⟨u, hu⟩ : ∃ u, u = (List.range 4).foldl (fun s j => s.rcClear (basinCounter k j)) s := ⟨_, rfl⟩
  have ht : t = u.wr Fld.DEVCTL_BASIN_CONFL_IDX_GROUP (g + 1) := ht.trans (hu ▸ rfl)
  have hregs : u.regs = s.regs := by rw [hu, hr]
  refine ⟨⟨t.regs, r, ?_⟩, ?_, fun j hj => ?_, ?_⟩
  · rw [ht, hu, hr]
    rfl
  · rw [ht]
    exact State.rd_wr _ _ _ (by decide) (by decide)
  · rw [ht]
    exact hu ▸ State.cnt_clearBasinCounters hk s hj
  · rw [ht]
    exact (RegsApart.of_regs_eq hregs _).wr _ _ List.mem_cons_self

end Sys2Proof.Machine
end

section
/-! PROOF. Table windows: the selected entry read or written, and the selector advanced (R315, R376, R377, R491, R505). -/

namespace Sys2Proof.Machine

variable {s : State} {vw : View}

theorem State.busRead_hbmPage (h : s.readable vw Reg.DEVCTL_HBM_PAGE_DATA = true) :
    s.busRead vw Reg.DEVCTL_HBM_PAGE_DATA =
      (s.advance Fld.DEVCTL_HBM_PAGE_SEL_PAGE).emit (.readData vw Reg.DEVCTL_HBM_PAGE_DATA
        (BitVec.ofNat 64 (s.pageOwner (s.rd Fld.DEVCTL_HBM_PAGE_SEL_PAGE * 2 ^ 21)))) :=
  State.busRead_of_readReg (p := Reg.DEVCTL_HBM_PAGE_DATA) h rfl rfl

theorem State.busWrite_hbmPage (d : Reg64) (h : s.writable .matumon Reg.DEVCTL_HBM_PAGE_DATA = true) :
    s.busWrite .matumon Reg.DEVCTL_HBM_PAGE_DATA d =
      (s.setPageOwner (s.rd Fld.DEVCTL_HBM_PAGE_SEL_PAGE) (getBits d 4 0)).advance Fld.DEVCTL_HBM_PAGE_SEL_PAGE :=
  State.busWrite_of_writeReg (p := Reg.DEVCTL_HBM_PAGE_DATA) h rfl rfl

theorem State.busRead_hallGen (h : s.readable vw Reg.HALL_GEN_DATA = true) :
    s.busRead vw Reg.HALL_GEN_DATA =
      (s.advance Fld.HALL_GEN_SEL_SLOT).emit (.readData vw Reg.HALL_GEN_DATA
        (BitVec.ofNat 64 (fieldAt 63 62 (s.genEntry (s.rd Fld.HALL_GEN_SEL_SLOT)).1 +
          fieldAt 15 0 (s.genEntry (s.rd Fld.HALL_GEN_SEL_SLOT)).2))) :=
  State.busRead_of_readReg (p := Reg.HALL_GEN_DATA) h rfl rfl

theorem State.busWrite_hallGen (d : Reg64) (h : s.writable .matumon Reg.HALL_GEN_DATA = true) :
    s.busWrite .matumon Reg.HALL_GEN_DATA d =
      (s.setGen (s.rd Fld.HALL_GEN_SEL_SLOT) (getBits d 63 62) (getBits d 15 0)).advance Fld.HALL_GEN_SEL_SLOT :=
  State.busWrite_of_writeReg (p := Reg.HALL_GEN_DATA) h rfl rfl

theorem State.busRead_hallTrib (h : s.readable vw Reg.HALL_TRIB_DATA = true) :
    s.busRead vw Reg.HALL_TRIB_DATA =
      (s.advance Fld.HALL_TRIB_SEL_ENTRY).emit (.readData vw Reg.HALL_TRIB_DATA
        (BitVec.ofNat 64 (s.tribWord (s.rd Fld.HALL_TRIB_SEL_ENTRY)))) :=
  State.busRead_of_readReg (p := Reg.HALL_TRIB_DATA) h rfl rfl

theorem State.busWrite_hallTrib (d : Reg64) (h : s.writable vw Reg.HALL_TRIB_DATA = true) :
    s.busWrite vw Reg.HALL_TRIB_DATA d = s.writeTrib d :=
  State.busWrite_of_writeReg (p := Reg.HALL_TRIB_DATA) h rfl rfl

theorem State.busRead_temp (h : s.readable vw Reg.GAUGE_TEMP_DATA = true) :
    s.busRead vw Reg.GAUGE_TEMP_DATA =
      ((s.rcClear (sensorMax s.tempSel)).wr Fld.GAUGE_TEMP_SEL_SENSOR ((s.tempSel + 1) % 80)).emit (.readData vw Reg.GAUGE_TEMP_DATA
        (BitVec.ofNat 64 (fieldAt 63 48 (s.rcShown (sensorMax s.tempSel)) + (s.power.temps.getD s.tempSel 0).toNat))) :=
  State.busRead_of_readReg (p := Reg.GAUGE_TEMP_DATA) h rfl rfl

theorem State.busRead_spoil (h : s.readable vw Reg.SPOIL_DATA = true) :
    s.busRead vw Reg.SPOIL_DATA = s.spoilRead.2.emit (.readData vw Reg.SPOIL_DATA s.spoilRead.1) :=
  State.busRead_of_readReg (p := Reg.SPOIL_DATA) h rfl rfl

theorem State.trib_setTrib (s : State) (i j : Nat) (x : Trib) : (s.setTrib i x).trib j = if j = i then x else s.trib j :=
  Sparse.get_set (fun _ => Trib.reset) s.hall.tribs i j x

/-- An entry of the tributary table written: VALID and DEV, with its state and its misses as before (R376). -/
theorem State.writeTrib_spec {t : State} {d : Reg64} {i : Nat} (hi : i = s.rd Fld.HALL_TRIB_SEL_ENTRY) (ht : t = s.writeTrib d) :
    t = { s with regs := t.regs, hall := t.hall } ∧
      (t.trib i).valid = d.getLsbD 63 ∧ (t.trib i).dev = getBits d 57 44 ∧ (t.trib i).st = (s.trib i).st ∧
      (t.trib i).misses = (s.trib i).misses ∧ (∀ j, j ≠ i → t.trib j = s.trib j) ∧
      t.rd Fld.HALL_TRIB_SEL_ENTRY = (i + 1) % 128 ∧ RegsApart s t [Reg.HALL_TRIB_SEL] := by
  obtain ⟨last, ht⟩ : ∃ last, t = (s.setTrib i { s.trib i with
      valid := d.getLsbD 63, dev := getBits d 57 44, lastBeat := last }).advance Fld.HALL_TRIB_SEL_ENTRY := ⟨_, by rw [ht, hi]; rfl⟩
  have htrib (j : Nat) : t.trib j = _ := (congrArg (fun u : State => u.trib j) ht).trans (s.trib_setTrib i j _)
  have hsel := htrib i
  rw [if_pos rfl] at hsel
  refine ⟨ht ▸ rfl, ?_, ?_, ?_, ?_, fun j hj => (htrib j).trans (if_neg hj), ?_, ?_⟩
  · rw [hsel]
  · rw [hsel]
  · rw [hsel]
  · rw [hsel]
  · rw [ht, hi]
    exact State.rd_wr _ _ _ (by decide) (by decide)
  · rw [ht]
    exact (RegsApart.of_regs_eq rfl _).wr _ _ List.mem_cons_self

theorem seqAfter_lt {n : Nat} (h : n < 2 ^ 32) : seqAfter n < 2 ^ 32 := by
  unfold seqAfter
  split <;> omega

/-- The state after the latch of a read of SPOIL_DATA, with WORD advanced. -/
def State.latched (s : State) (w : Nat) (e : List Reg64) : State :=
  (s.setSpoil { s.spoil with latched := e }).wr Fld.SPOIL_SEL_WORD (w + 1)

theorem State.rd_latched (s : State) (w : Nat) (e : List Reg64) :
    (s.latched w e).rd Fld.SPOIL_SEL_WORD = (w + 1) % 4 ∧ (s.latched w e).rd Fld.SPOIL_SEL_SEQ = s.rd Fld.SPOIL_SEL_SEQ :=
  ⟨State.rd_wr _ _ _ (by decide) (by decide), State.rd_wr_apart _ _ _ _ (.inr ⟨by decide, .inl (by decide)⟩)⟩

theorem State.regsApart_latched (s : State) (w : Nat) (e : List Reg64) : RegsApart s (s.latched w e) [Reg.SPOIL_SEL] :=
  (RegsApart.of_regs_eq (t := s.setSpoil { s.spoil with latched := e }) rfl _).wr _ _ List.mem_cons_self

/-- A read of SPOIL_DATA: WORD and, after WORD 3, SEQ advance (R497). -/
theorem State.spoilRead_spec {w seq : Nat} {e : List Reg64} (hw : w = s.rd Fld.SPOIL_SEL_WORD) (hseq : seq = s.rd Fld.SPOIL_SEL_SEQ)
    (he : e = if w = 0 then s.spoilEntry seq else s.spoil.latched) :
    s.spoilRead.1 = e.getD w 0 ∧ s.spoilRead.2 = { s with regs := s.spoilRead.2.regs, spoil := { s.spoil with latched := e } } ∧
      s.spoilRead.2.rd Fld.SPOIL_SEL_WORD = (w + 1) % 4 ∧
      s.spoilRead.2.rd Fld.SPOIL_SEL_SEQ = (if w = 3 then seqAfter seq else seq) ∧ RegsApart s s.spoilRead.2 [Reg.SPOIL_SEL] := by
  obtain ⟨hword, hseq'⟩ := s.rd_latched w e
  have hapart := s.regsApart_latched w e
  have hread : s.spoilRead = (e.getD w 0,
      if w = 3 then (s.latched w e).wr Fld.SPOIL_SEL_SEQ (seqAfter ((s.latched w e).rd Fld.SPOIL_SEL_SEQ)) else s.latched w e) := by
    subst hw hseq he
    rfl
  rw [hread, hseq', ← hseq]
  by_cases h3 : w = 3
  · have hlt : seqAfter seq < 2 ^ 32 := seqAfter_lt (hseq ▸ s.rd_lt Fld.SPOIL_SEL_SEQ)
    rw [if_pos h3, if_pos h3]
    exact ⟨rfl, rfl, (State.rd_wr_apart _ _ _ _ (.inr ⟨by decide, .inr (by decide)⟩)).trans hword,
      State.rd_wr_of_lt _ (by decide) (by decide) hlt, hapart.wr _ _ List.mem_cons_self⟩
  · rw [if_neg h3, if_neg h3]
    exact ⟨rfl, rfl, hword, hseq'.trans hseq.symm, hapart⟩

/-- A read of a group of a bench's conflict counters. -/
theorem State.busRead_confl {b : BenchRef} {pb g : Nat} (h : s.benchReadable vw b 0xA28 pb)
    (hg : g = s.rd (Fld.BENCH_CONFL_IDX_GROUP pb)) :
    s.busRead vw (benchOffset b + 0xA28) =
      (((conflKeys pb g).foldl (fun s k => s.setReg k 0) s).wr (Fld.BENCH_CONFL_IDX_GROUP pb) (g + 1)).emit
        (.readData vw (benchOffset b + 0xA28)
          (BitVec.ofNat 64 (fourCounters (fun j => (s.reg (behind (Reg.BENCH_CONFL_DATA pb) (4 * g + j))).toNat)))) :=
  State.busRead_bench h (by decide) (congrArg some (s.readConfl_eq pb hg))

/-- A read of a group of Basin conflict counters. -/
theorem State.busRead_basinConfl {g k : Nat} (h : s.readable vw Reg.DEVCTL_BASIN_CONFL_DATA = true)
    (hg : g = s.rd Fld.DEVCTL_BASIN_CONFL_IDX_GROUP)
    (hk : k = behind Reg.DEVCTL_BASIN_CONFL_DATA (64 * s.rd Fld.DEVCTL_BASIN_CONFL_IDX_LEDGE + g)) :
    s.busRead vw Reg.DEVCTL_BASIN_CONFL_DATA = (s.basinTaken k g).emit (.readData vw Reg.DEVCTL_BASIN_CONFL_DATA
      (BitVec.ofNat 64 (fourCounters (fun j => s.rcShown (basinCounter k j))))) :=
  State.busRead_of_readReg (p := Reg.DEVCTL_BASIN_CONFL_DATA) h rfl (State.readReg_basinConfl _ hg hk)

end Sys2Proof.Machine
end

section
/-! PROOF. The data registers (R119, R197, R292, R300, R315, R376, R377, R491, R497, R505). -/

namespace Sys2Proof.Machine

/-- Settles O12: an access that comes through is a read or a write of the one entry that its index names, and of the index. -/
theorem dataRegistersReadAndAdvance : Obligations.DataRegistersReadAndAdvance := by
  refine ⟨fun s vw b pb => ⟨?_, fun hidle => ⟨?_, ?_⟩, fun h => ?_, fun d h hidle hheld hdue => ?_⟩, ⟨?_, ?_⟩,
    ⟨fun s vw h => ?_, fun s d h => ?_, fun s vw h => ?_, fun s d h => ?_, fun s vw h => ?_,
      fun s vw d i h hi => ?_, fun s vw h => ?_⟩, ?_⟩
  · rintro _ rfl ht hidle
    exact ⟨fun h => congrArg Host.Outcome.next (State.busRead_bench h (by decide) (State.readBench_tbl _ hidle ht)),
      fun d h => congrArg Host.Outcome.next (State.busWrite_bench h (by decide) (State.benchWrite_tbl d hidle ht))⟩
  · intro h hspace hbad
    rw [← State.fmMemSize_of_data hspace]
    exact congrArg Host.Outcome.next (State.busRead_bench h (by decide) (State.readBench_fmMem _ hidle hspace hbad))
  · exact fun d h => congrArg Host.Outcome.next (State.busWrite_bench h (by decide) (State.benchWrite_fmMem d hidle))
  · exact congrArg Host.Outcome.next (State.busRead_bench h (by decide) (s.readBench_weir _ pb))
  · refine congrArg Host.Outcome.next (State.busWrite_bench h (by decide) ?_)
    rw [State.benchWrite_weir d hidle, State.setWeir_of_held_nil hheld hdue]
    rfl
  · intro s vw b pb g h hg
    obtain ⟨t, ht⟩ : ∃ t, t = ((conflKeys pb g).foldl (fun s k => s.setReg k 0) s).wr (Fld.BENCH_CONFL_IDX_GROUP pb) (g + 1) :=
      ⟨_, rfl⟩
    have hread := State.busRead_confl h hg
    obtain ⟨⟨r, hframe⟩, hgroup, hclear, hapart⟩ := State.readConfl_spec ht
    rw [← ht] at hread
    refine ⟨_, BitVec.ofNat 64 (fourCounters (fun j => (s.reg (behind (Reg.BENCH_CONFL_DATA pb) (4 * g + j))).toNat)),
      congrArg Host.Outcome.next hread, ?_, ?_, hgroup, fun j hj => ⟨?_, ?_⟩, hapart⟩
    · rw [State.emit_out, hframe]
    · rw [hframe]
      rfl
    · exact getBits_fourCounters _ hj
    · exact hclear _ (List.mem_map_of_mem (List.mem_range.mpr hj))
  · intro s vw g k h hg hk
    obtain ⟨t, ht⟩ : ∃ t, t = s.basinTaken k g := ⟨_, rfl⟩
    have hread := State.busRead_basinConfl h hg hk
    obtain ⟨⟨r, c, hframe⟩, hgroup, hclear, hapart⟩ := State.basinTaken_spec hk ht
    rw [← ht] at hread
    refine ⟨_, BitVec.ofNat 64 (fourCounters (fun j => s.rcShown (basinCounter k j))),
      congrArg Host.Outcome.next hread, ?_, ?_, hgroup, fun j hj => ⟨?_, hclear j hj⟩, hapart⟩
    · rw [State.emit_out, hframe]
    · rw [hframe]
      rfl
    · rw [getBits_fourCounters _ hj, State.rcShown_basinCounter hk, Nat.mod_eq_of_lt (by omega)]
      rfl
  · exact congrArg Host.Outcome.next (State.busRead_hbmPage h)
  · exact congrArg Host.Outcome.next (State.busWrite_hbmPage d h)
  · rw [← Nat.mul_one (_ % 2 ^ 16)]
    exact congrArg Host.Outcome.next (State.busRead_hallGen h)
  · exact congrArg Host.Outcome.next (State.busWrite_hallGen d h)
  · exact congrArg Host.Outcome.next (State.busRead_hallTrib h)
  · exact ⟨_, congrArg Host.Outcome.next (State.busWrite_hallTrib d h), State.writeTrib_spec hi rfl⟩
  · exact congrArg Host.Outcome.next (State.busRead_temp h)
  · intro s vw w seq e h hw hseq he
    obtain ⟨hval, hframe, hword, hnext, hapart⟩ := State.spoilRead_spec hw hseq he
    refine ⟨_, congrArg Host.Outcome.next (State.busRead_spoil h), ?_, hword, hnext, hapart⟩
    rw [hval]
    exact congrArg (fun u : State => u.emit _) hframe

end Sys2Proof.Machine
end

section
/-! PROOF. A message written into its entry: the bytes of the data memory outside it stay (R216, Table 7.5). -/

namespace Sys2Proof.Machine

theorem length_toBytes (n : Nat) : ∀ v, (toBytes n v).length = n := by
  induction n with
  | zero => exact fun _ => rfl
  | succ n ih => exact fun v => congrArg Nat.succ (ih _)

/-- Bytes outside a number that is written read as before. -/
theorem Mem.readByte_writeLE (m : Mem) {a n k : Nat} (v : Nat) (h : k < a ∨ a + n ≤ k) :
    (m.writeLE a n v).readByte k = m.readByte k :=
  Mem.readByte_writeBytes _ m a k (by rwa [List.length_map, length_toBytes])

theorem EMem.readByte_writeWord (m : EMem) {a k : Nat} (v : Nat) (poison : Bool) (h : k < a ∨ a + 32 ≤ k) :
    (m.writeWord a v poison).mem.readByte k = m.mem.readByte k :=
  m.mem.readByte_writeLE v h

theorem length_chunksFuel_mul {α : Type} {n : Nat} (hn : 0 < n) (fuel : Nat) :
    ∀ l : List α, (chunksFuel n fuel l).length * n < l.length + n := by
  induction fuel with
  | zero => intro l; simp only [chunksFuel, List.length_nil]; omega
  | succ fuel ih =>
    intro l
    unfold chunksFuel
    split_ifs with h
    · simp only [List.length_nil]
      omega
    · have hl : 0 < l.length := List.length_pos_iff.mpr (fun e => h (by rw [e]; rfl))
      have hrest := ih (l.drop n)
      rw [List.length_drop] at hrest
      rw [List.length_cons, Nat.succ_mul]
      by_cases hs : n ≤ l.length
      · omega
      · have : (chunksFuel n fuel (l.drop n)).length = 0 := by
          rw [Nat.sub_eq_zero_of_le (by omega), Nat.zero_add] at hrest
          exact Nat.lt_one_iff.mp (Nat.lt_of_mul_lt_mul_right (by rwa [Nat.one_mul]))
        rw [this]
        omega

/-- A payload of at most 256 bytes takes at most eight words. -/
theorem length_chunksOf_le {α : Type} {l : List α} (h : l.length ≤ 256) : (chunksOf 32 l).length ≤ 8 := by
  have := length_chunksFuel_mul (n := 32) (by decide) l.length l
  unfold chunksOf
  omega

/-- Outside its 288 bytes an entry written leaves the data memory as it was. -/
theorem readByte_writeEntry (mem : EMem) {a k : Nat} {m : Message} (hm : m.payload.length ≤ 256) (hk : k < a ∨ a + 288 ≤ k) :
    (writeEntry mem a m).mem.readByte k = mem.mem.readByte k := by
  refine (foldl_read_untouched _ (fun x : EMem => x.mem.readByte k) _ _ (fun w hw x => ?_)).trans
    (mem.readByte_writeWord _ _ (by omega))
  have hlen := length_chunksOf_le hm
  have hidx := (List.mem_zipIdx hw).2.1
  exact x.readByte_writeWord _ _ (by omega)

end Sys2Proof.Machine
end

section
/-! PROOF. Messages and credit returns on their way: what sending a credit return leaves, and the release of ring entries (R209, R214-R216). -/

namespace Sys2Proof.Machine

/-- What the sending of a credit return can change: what is on its way, and the count and the log of packets without a route. -/
structure CreditSent (s t : State) : Prop where
  frame : t = { s with rc := t.rc, spoil := t.spoil, net := t.net, links := t.links }
  messages : t.net.messages = s.net.messages
  cnt : ∀ f : Fld, f.lo < 64 → f.key ≠ Reg.HALL_TBL_STATUS → t.cnt f = s.cnt f

theorem State.cnt_bump_ne (s : State) {f g : Fld} (n : Nat) (h : g.rcKey ≠ f.rcKey) : (s.bump f n).cnt g = s.cnt g := by
  unfold State.bump
  split_ifs <;> exact s.cnt_setCnt_ne _ h

theorem Fld.rcKey_ne {f g : Fld} (hf : f.lo < 64) (hg : g.lo < 64) (h : f.key ≠ g.key) : f.rcKey ≠ g.rcKey := by
  unfold Fld.rcKey
  omega

theorem State.creditSent_routeMiss (s : State) (p : Packet) (ingress : Nat) : CreditSent s (s.routeMiss p ingress) := by
  obtain ⟨u, hu⟩ : ∃ u, u = s.bump Fld.HALL_TBL_STATUS_ROUTE_MISSES 1 := ⟨_, rfl⟩
  obtain ⟨sp, hsp⟩ : ∃ sp, s.routeMiss p ingress = { u with spoil := sp } := by
    unfold State.routeMiss State.logOnce
    rw [← hu]
    dsimp only
    split_ifs
    · exact ⟨_, rfl⟩
    · exact ⟨u.spoil, rfl⟩
  have hframe : u = { s with rc := u.rc } := hu ▸ s.bump_frame _ 1
  rw [hsp]
  refine ⟨?_, ?_, fun f hlo hf => ?_⟩
  · rw [hframe]
  · rw [hframe]
  · exact (congrArg (State.cnt · f) hu).trans (s.cnt_bump_ne 1 (Fld.rcKey_ne hlo (by decide) hf))

theorem State.creditSent_deliver (s : State) {p : Packet} (hp : p.kind = kMsgCredit) (cls : Nat) :
    CreditSent s (s.deliver p none cls) := by
  have hmsg : kMsgCredit ≠ kMsg := by decide
  rw [State.deliver, if_neg (hp ▸ hmsg), if_pos hp]
  exact ⟨rfl, rfl, fun _ _ _ => rfl⟩

theorem State.creditSent_inject (s : State) {p : Packet} (hp : p.kind = kMsgCredit) : CreditSent s (s.inject p) := by
  unfold State.inject
  split_ifs
  · exact ⟨rfl, rfl, fun _ _ _ => rfl⟩
  · exact ⟨rfl, rfl, fun _ _ _ => rfl⟩
  · unfold State.route
    cases s.nextHop p with
    | here => exact s.creditSent_deliver hp 0
    | miss => exact s.creditSent_routeMiss p 0x3F
    | lost => exact ⟨rfl, rfl, fun _ _ _ => rfl⟩
    | link lk up => exact ⟨rfl, rfl, fun _ _ _ => rfl⟩

theorem State.creditSent_sendCredit (s : State) (pb dev bench route : Nat) (dropped : Bool) :
    CreditSent s (s.sendCredit pb dev bench route dropped) := s.creditSent_inject rfl

theorem CreditSent.regs {s t : State} (h : CreditSent s t) : t.regs = s.regs := by rw [h.frame]

theorem CreditSent.benches {s t : State} (h : CreditSent s t) : t.benches = s.benches := by rw [h.frame]

/-- Entries released from the head of a ring move RD_COUNT alone; a credit return leaves for each (R209). -/
theorem State.ringRelease_spec (pb i n : Nat) : ∀ s : State,
    (s.ringRelease pb i n).benches = s.benches ∧ RegsApart s (s.ringRelease pb i n) [Reg.BENCH_RING_PTR pb i] ∧
      (s.ringRelease pb i n).rd (Fld.BENCH_RING_PTR_WR_COUNT pb i) = s.rd (Fld.BENCH_RING_PTR_WR_COUNT pb i) ∧
      (s.ringRelease pb i n).rd (Fld.BENCH_RING_PTR_RD_COUNT pb i) = (s.rd (Fld.BENCH_RING_PTR_RD_COUNT pb i) + n) % 65536 := by
  induction n with
  | zero => exact fun s => ⟨rfl, fun _ _ => rfl, rfl, (Nat.mod_eq_of_lt (s.rd_lt _)).symm⟩
  | succ n ih =>
    intro s
    obtain ⟨u, hu⟩ : ∃ u, u = s.wr (Fld.BENCH_RING_PTR_RD_COUNT pb i) (s.rd (Fld.BENCH_RING_PTR_RD_COUNT pb i) + 1) := ⟨_, rfl⟩
    obtain ⟨v, hv, hsent⟩ : ∃ v, s.ringRelease pb i (n + 1) = v.ringRelease pb i n ∧ CreditSent u v :=
      ⟨_, rfl, hu ▸ State.creditSent_sendCredit _ pb _ _ _ false⟩
    obtain ⟨hbenches, happ, hwr, hrd⟩ := ih v
    have hapart : RegsApart s u [Reg.BENCH_RING_PTR pb i] := hu ▸ (RegsApart.of_regs_eq rfl _).wr _ _ List.mem_cons_self
    have hcount : u.rd (Fld.BENCH_RING_PTR_RD_COUNT pb i) = (s.rd (Fld.BENCH_RING_PTR_RD_COUNT pb i) + 1) % 65536 :=
      hu ▸ s.rd_wr _ _ (by decide : 15 < 64) (by decide : 0 ≤ 15)
    have hother : u.rd (Fld.BENCH_RING_PTR_WR_COUNT pb i) = s.rd (Fld.BENCH_RING_PTR_WR_COUNT pb i) :=
      hu ▸ s.rd_wr_apart _ _ _ (.inr ⟨(by decide : 31 < 64), .inr (by decide : 15 < 16)⟩)
    rw [hv]
    refine ⟨hbenches.trans (hsent.benches.trans (hu ▸ rfl)), (hapart.trans (.of_regs_eq hsent.regs _)).trans happ,
      hwr.trans ((State.rd_congr hsent.regs _).trans hother), hrd.trans ?_⟩
    rw [State.rd_congr hsent.regs, hcount]
    omega

end Sys2Proof.Machine
end

section
/-! PROOF. Messages that arrive, credit returns, and the writes of routes (R213-R216). -/

namespace Sys2Proof.Machine

/-- Credits owed to the partner of a link change its link layer alone. -/
theorem State.oweCredit_frame (s : State) (lk : Option Nat) (vc cls n : Nat) :
    s.oweCredit lk vc cls n = { s with links := (s.oweCredit lk vc cls n).links } := by
  cases lk with
  | none => rfl
  | some k =>
    unfold State.oweCredit
    dsimp only
    split_ifs <;> rfl

theorem State.due_oweCredit (s : State) {k vc cls n : Nat} (h : n ≠ 0) :
    ((s.oweCredit (some k) vc cls n).link k).due = (s.link k).due ++ [⟨vc, cls, n⟩] := by
  have he : s.oweCredit (some k) vc cls n = s.onLink k (fun l => { l with due := l.due ++ [⟨vc, cls, n⟩] }) := if_neg h
  rw [he, State.onLink, State.link_setLink]

/-- The count of dropped messages is a count of events. -/
theorem rcUnit_ringPtr (pb : Nat) {i : Nat} (hi : i < 16) (lo : Nat) : rcUnit (Reg.BENCH_RING_PTR pb i) lo = 1 := by
  obtain ⟨o, ho⟩ : ∃ o, o = Reg.BENCH_RING_PTR pb i % viewBit := ⟨_, rfl⟩
  have hlow : 0x808 ≤ o % 0x10000 ∧ o % 0x10000 ≤ 0x9E8 ∧ o % 0x20 = 8 := by
    simp only [Reg.BENCH_RING_PTR, viewBit] at ho
    omega
  have hcanon : canon (Reg.BENCH_RING_PTR pb i) ≠ 0xC0018 ∧ canon (Reg.BENCH_RING_PTR pb i) ≠ 0x10008 ∧
      canon (Reg.BENCH_RING_PTR pb i) ≠ 0x80098 ∧
      ¬ (0x40A0 ≤ canon (Reg.BENCH_RING_PTR pb i) ∧ canon (Reg.BENCH_RING_PTR pb i) < 0x40C0) := by
    unfold canon
    rw [← ho]
    dsimp only
    split_ifs <;> omega
  obtain ⟨h1, h2, h3, h4⟩ := hcanon
  simp only [rcUnit, h1, h2, h3, h4, false_and, if_false]

/-- A message taken off its way, its receive buffer given back. -/
def State.taken (s : State) (n : Nat) (m : Message) : State :=
  ({ s with net := { s.net with messages := s.net.messages.eraseIdx n } } : State).oweCredit m.link 3 m.cls m.flits

theorem State.taken_frame (s : State) (n : Nat) (m : Message) :
    s.taken n m = { s with net := { s.net with messages := s.net.messages.eraseIdx n }, links := (s.taken n m).links } :=
  State.oweCredit_frame _ _ _ _ _

theorem State.taken_regs (s : State) (n : Nat) (m : Message) : (s.taken n m).regs = s.regs := by rw [State.taken_frame]

theorem State.taken_benches (s : State) (n : Nat) (m : Message) : (s.taken n m).benches = s.benches := by rw [State.taken_frame]

theorem State.dropsMessage_taken (s : State) (n pb : Nat) (m : Message) : (s.taken n m).dropsMessage pb m = s.dropsMessage pb m := by
  rw [State.taken_frame]
  rfl

section Arrival

variable {s : State} {n pb : Nat} {m : Message}

theorem State.messageArrives_of_dropped (hm : s.net.messages[n]? = some m) (hpb : pb = s.physOf m.dest)
    (h : s.dropsMessage pb m = true) :
    s.messageArrives n =
      ((s.taken n m).bump (Fld.BENCH_RING_PTR_DROPPED pb m.ring) 1).sendCredit pb m.srcDev m.srcBench m.srcRoute true := by
  subst hpb
  simp only [State.messageArrives, hm]
  exact if_pos ((s.dropsMessage_taken n _ m).trans h)

theorem State.messageArrives_of_kept (hm : s.net.messages[n]? = some m) (hpb : pb = s.physOf m.dest)
    (h : s.dropsMessage pb m = false) :
    s.messageArrives n =
      ((s.taken n m).onBench pb (fun b => { b with
        dmem := Machine.writeEntry b.dmem (s.ringEntry pb m.ring (s.rd (Fld.BENCH_RING_PTR_WR_COUNT pb m.ring))) m })).wr
        (Fld.BENCH_RING_PTR_WR_COUNT pb m.ring) (s.rd (Fld.BENCH_RING_PTR_WR_COUNT pb m.ring) + 1) := by
  have hwr : (s.taken n m).rd (Fld.BENCH_RING_PTR_WR_COUNT pb m.ring) = s.rd (Fld.BENCH_RING_PTR_WR_COUNT pb m.ring) :=
    State.rd_congr (s.taken_regs n m) _
  have hentry (c : Nat) : (s.taken n m).ringEntry pb m.ring c = s.ringEntry pb m.ring c := by
    rw [State.taken_frame]
    rfl
  rw [← hentry, ← hwr]
  subst hpb
  simp only [State.messageArrives, hm]
  exact if_neg (by rw [← State.taken, State.dropsMessage_taken, h]; exact Bool.false_ne_true)

/-- A message that its ring drops (R215). -/
theorem State.dropped_spec {t : State} (hring : m.ring < 16) (hm : s.net.messages[n]? = some m) (hpb : pb = s.physOf m.dest)
    (h : s.dropsMessage pb m = true) (ht : t = s.messageArrives n) :
    t.benches = s.benches ∧
      t.cnt (Fld.BENCH_RING_PTR_DROPPED pb m.ring) = min 65535 (s.cnt (Fld.BENCH_RING_PTR_DROPPED pb m.ring) + 1) ∧
      t.regs = s.regs ∧ t.net.messages = s.net.messages.eraseIdx n := by
  rw [State.messageArrives_of_dropped hm hpb h] at ht
  obtain ⟨u, hu⟩ : ∃ u, u = (s.taken n m).bump (Fld.BENCH_RING_PTR_DROPPED pb m.ring) 1 := ⟨_, rfl⟩
  have hsent : CreditSent u t := ht ▸ hu ▸ State.creditSent_sendCredit _ _ _ _ _ _
  have hbump : u = { s.taken n m with rc := u.rc } := hu ▸ State.bump_frame _ _ _
  have hkey : (Fld.BENCH_RING_PTR_DROPPED pb m.ring).key ≠ Reg.HALL_TBL_STATUS := by
    simp only [Fld.BENCH_RING_PTR_DROPPED, Reg.BENCH_RING_PTR, Reg.HALL_TBL_STATUS]
    omega
  have hcnt : (s.taken n m).cnt (Fld.BENCH_RING_PTR_DROPPED pb m.ring) = s.cnt (Fld.BENCH_RING_PTR_DROPPED pb m.ring) := by
    rw [State.taken_frame]
    rfl
  refine ⟨hsent.benches.trans ?_, (hsent.cnt _ (by decide : 32 < 64) hkey).trans ?_, hsent.regs.trans ?_, hsent.messages.trans ?_⟩
  · rw [hbump]
    exact s.taken_benches n m
  · rw [hu, State.cnt_bump_of_unit _ (rcUnit_ringPtr pb hring 32), hcnt]
    rfl
  · rw [hbump]
    exact s.taken_regs n m
  · rw [hbump, State.taken_frame]

/-- A message that its ring takes (R216). -/
theorem State.kept_spec {t : State} {a : Nat} (hm : s.net.messages[n]? = some m) (hpb : pb = s.physOf m.dest)
    (ha : a = s.ringEntry pb m.ring (s.rd (Fld.BENCH_RING_PTR_WR_COUNT pb m.ring))) (h : s.dropsMessage pb m = false)
    (ht : t = s.messageArrives n) :
    t = { s with benches := t.benches, regs := t.regs, net := t.net, links := t.links } ∧ BenchesApart s t pb ∧
      t.links = (s.taken n m).links ∧ t.net = { s.net with messages := s.net.messages.eraseIdx n } ∧
      RegsApart s t [Reg.BENCH_RING_PTR pb m.ring] ∧
      t.rd (Fld.BENCH_RING_PTR_WR_COUNT pb m.ring) = (s.rd (Fld.BENCH_RING_PTR_WR_COUNT pb m.ring) + 1) % 65536 ∧
      t.rd (Fld.BENCH_RING_PTR_RD_COUNT pb m.ring) = s.rd (Fld.BENCH_RING_PTR_RD_COUNT pb m.ring) ∧
      t.bench pb = { s.bench pb with dmem := Machine.writeEntry (s.bench pb).dmem a m } := by
  rw [State.messageArrives_of_kept hm hpb h, ← ha] at ht
  obtain ⟨u, hu⟩ : ∃ u, u = (s.taken n m).onBench pb (fun b => { b with dmem := Machine.writeEntry b.dmem a m }) := ⟨_, rfl⟩
  rw [← hu] at ht
  have hregs : u.regs = s.regs := hu ▸ s.taken_regs n m
  have hbench (q : Nat) : (s.taken n m).bench q = s.bench q := State.bench_congr (s.taken_benches n m) q
  have hapart : BenchesApart s u pb := fun q hq => by rw [hu, State.bench_onBench_ne _ _ hq, hbench]
  refine ⟨?_, ht ▸ hapart, ?_, ?_, ht ▸ (RegsApart.of_regs_eq hregs _).wr _ _ List.mem_cons_self, ?_, ?_, ?_⟩
  · rw [ht, hu, State.taken_frame]
    rfl
  · rw [ht, hu]
    rfl
  · rw [ht, hu, State.taken_frame]
    rfl
  · rw [ht]
    exact u.rd_wr _ _ (by decide : 31 < 64) (by decide : 16 ≤ 31)
  · rw [ht, State.rd_wr_apart _ _ _ _ (.inr ⟨(by decide : 15 < 64), .inl (by decide : 15 < 16)⟩)]
    exact State.rd_congr hregs _
  · rw [ht]
    exact (congrArg (State.bench · pb) hu).trans (by rw [State.bench_onBench, hbench])

end Arrival

/-- A credit return taken off its way. -/
def State.creditTaken (s : State) (n : Nat) : State := { s with net := { s.net with credits := s.net.credits.eraseIdx n } }

/-- AVAIL of a route after one more credit has come back to it (R214). -/
def State.creditAdded (s : State) (n pb r : Nat) : State :=
  (s.creditTaken n).wr (Fld.BENCH_ROUTE_STAT_AVAIL pb r)
    (min (s.rd (Fld.BENCH_ROUTE_CREDITS pb r)) (s.rd (Fld.BENCH_ROUTE_STAT_AVAIL pb r) + 1))

theorem State.rd_avail_creditAdded (s : State) (n pb r : Nat) : (s.creditAdded n pb r).rd (Fld.BENCH_ROUTE_STAT_AVAIL pb r) =
    min (s.rd (Fld.BENCH_ROUTE_CREDITS pb r)) (s.rd (Fld.BENCH_ROUTE_STAT_AVAIL pb r) + 1) :=
  State.rd_wr_of_lt _ (by decide : 63 < 64) (by decide : 56 ≤ 63)
    (lt_of_le_of_lt (Nat.min_le_left _ _) (s.rd_lt (Fld.BENCH_ROUTE_CREDITS pb r)))

theorem State.regsApart_creditAdded (s : State) (n pb r : Nat) : RegsApart s (s.creditAdded n pb r) [Reg.BENCH_ROUTE_STAT pb r] :=
  (RegsApart.of_regs_eq (rfl : (s.creditTaken n).regs = s.regs) _).wr _ _ List.mem_cons_self

/-- A credit return that reaches a configured route (R214, R215). -/
theorem State.creditArrives_of_configured {s : State} {n pb : Nat} {c : CreditReturn} (hc : s.net.credits[n]? = some c)
    (hpb : pb = s.physOf c.bench) (h : s.routeOk pb c.route = true) :
    ∃ rc, s.creditArrives n = { s.creditAdded n pb c.route with rc := rc } := by
  have he : s.creditArrives n = if c.dropped then
      (s.creditAdded n pb c.route).bump (Fld.BENCH_ROUTE_STAT_DROPPED pb c.route) 1 else s.creditAdded n pb c.route := by
    subst hpb
    simp only [State.creditArrives, hc]
    exact if_pos h
  rw [he]
  split_ifs
  · exact ⟨_, State.bump_frame _ _ _⟩
  · exact ⟨(s.creditAdded n pb c.route).rc, rfl⟩

theorem State.creditArrives_of_unconfigured {s : State} {n : Nat} {c : CreditReturn} (hc : s.net.credits[n]? = some c)
    (h : s.routeOk (s.physOf c.bench) c.route = false) :
    s.creditArrives n = { s with net := { s.net with credits := s.net.credits.eraseIdx n } } := by
  simp only [State.creditArrives, hc]
  exact if_neg (fun e => Bool.false_ne_true (h.symm.trans e))

theorem State.benchWrite_route {s : State} {pb r : Nat} (hr : r < 256) (d : Reg64) (hidle : s.benchIdle pb = true) :
    s.benchWrite pb (0x1000 + 8 * r) d =
      some ((s.soft (Reg.BENCH_ROUTE pb r) d).wr (Fld.BENCH_ROUTE_STAT_AVAIL pb r) (getBits d 31 24)) := by
  have hpc : inArray (0x1000 + 8 * r) 0x10 8 6 = none := inArray_eq_none (by omega)
  have hring : inArray (0x1000 + 8 * r) 0x800 0x20 16 = none := inArray_eq_none (by omega)
  have hroute : inArray (0x1000 + 8 * r) 0x1000 8 256 = some r := by
    have hin : 0x1000 ≤ 0x1000 + 8 * r ∧ (0x1000 + 8 * r - 0x1000) % 8 = 0 ∧ (0x1000 + 8 * r - 0x1000) / 8 < 256 := by omega
    rw [inArray, if_pos hin]
    exact congrArg some (by omega)
  unfold State.benchWrite
  simp (disch := omega) only [if_neg]
  rw [hpc, hring, hroute]
  exact if_pos hidle

/-- A write of a route of a bench in IDLE (R213). -/
theorem exec_routeWrite {s : State} {vw : View} {b : BenchRef} {pb : Nat} {r : Fin 256} (d : Reg64)
    (hw : s.benchWritable vw b (0x1000 + 8 * r.val) pb) (hidle : s.benchIdle pb = true) :
    exec (.routeWrite vw b r d) s =
      .next ((s.soft (Reg.BENCH_ROUTE pb r) d).wr (Fld.BENCH_ROUTE_STAT_AVAIL pb r) (getBits d 31 24)) := by
  have hr := r.isLt
  have hwrite := State.busWrite_bench hw (by omega) (State.benchWrite_route hr d hidle)
  rw [← Nat.add_assoc] at hwrite
  exact congrArg Host.Outcome.next hwrite

/-- Settles O37: a message that arrives is written at the entry of WR_COUNT or dropped, a credit return raises AVAIL of its route, and the
write of a route sets both of its registers. -/
theorem messagesAndCreditsMove : Obligations.MessagesAndCreditsMove := by
  refine ⟨fun s n m pb a hrun hm hpb hring ha => ⟨fun h => ?_, fun h => ?_⟩, fun s n c pb hrun hc hpb _ => ⟨fun h => ?_, fun h => ?_⟩,
    fun s vw b pb r d hw hidle => ?_⟩
  · obtain ⟨hframe, hapart, hlinks, hnet, hregs, hwr, hrd, hbench⟩ := State.kept_spec hm hpb ha h rfl
    refine ⟨_, next_live_of_running hrun _, hframe, hapart, fun hl => ?_, fun k hl hf => ?_, hnet, hregs, hwr, hrd, hbench,
      fun hlen k hk => ?_⟩
    · rw [hlinks, State.taken, hl]
      rfl
    · have hdue := State.due_oweCredit { s with net := { s.net with messages := s.net.messages.eraseIdx n } } (k := k) (vc := 3)
        (cls := m.cls) hf
      rw [← hl] at hdue
      rw [State.link, hlinks]
      exact hdue
    · rw [hbench]
      exact readByte_writeEntry _ hlen hk
  · exact ⟨_, next_live_of_running hrun _, State.dropped_spec hring hm hpb h rfl⟩
  · obtain ⟨rc, hrc⟩ := State.creditArrives_of_configured hc hpb h
    exact ⟨_, (next_live_of_running hrun _).trans (congrArg _ hrc), rfl, rfl, s.regsApart_creditAdded n pb c.route,
      s.rd_avail_creditAdded n pb c.route⟩
  · exact (next_live_of_running hrun _).trans (congrArg _ (State.creditArrives_of_unconfigured hc (hpb ▸ h)))
  · have hne : Reg.BENCH_ROUTE pb r ≠ Reg.BENCH_ROUTE_STAT pb r := by
      simp only [Reg.BENCH_ROUTE, Reg.BENCH_ROUTE_STAT]
      omega
    refine ⟨_, exec_routeWrite d hw hidle, rfl, ?_, ?_, ?_⟩
    · have hsoft : RegsApart s (s.soft (Reg.BENCH_ROUTE pb r) d) [Reg.BENCH_ROUTE pb r, Reg.BENCH_ROUTE_STAT pb r] := fun k hk =>
        s.regsApart_soft _ d k (fun e => hk (List.mem_cons.mpr (.inl (List.mem_singleton.mp e))))
      exact hsoft.wr _ _ (List.mem_cons_of_mem _ List.mem_cons_self)
    · rw [State.reg_wr_ne _ _ hne, State.soft, State.reg_setReg]
    · exact State.rd_wr_of_lt _ (by decide : 63 < 64) (by decide : 56 ≤ 63) (Nat.mod_lt _ (by decide))

end Sys2Proof.Machine
end

section
/-! PROOF. Numbers in a byte memory: what is read where a number was written (R7). -/

namespace Sys2Proof.Machine

theorem ofBytes_toBytes (n : Nat) : ∀ v, ofBytes (toBytes n v) = v % 256 ^ n := by
  induction n with
  | zero => exact fun v => (Nat.mod_one v).symm
  | succ n ih =>
    intro v
    rw [toBytes, ofBytes, ih, Nat.pow_succ', Nat.mod_mul, Nat.mod_mod]

theorem ofBytes_map_byte (l : List Nat) : ofBytes ((l.map (BitVec.ofNat 8)).map BitVec.toNat) = ofBytes l := by
  induction l with
  | nil => rfl
  | cons b l ih => rw [List.map_cons, List.map_cons, ofBytes, ih, BitVec.toNat_ofNat, Nat.mod_mod, ofBytes]

theorem Mem.readBytes_writeBytes (bs : List Byte) : ∀ (m : Mem) (a : Nat), (m.writeBytes a bs).readBytes a bs.length = bs := by
  induction bs with
  | nil => exact fun _ _ => rfl
  | cons b bs ih =>
    intro m a
    have hhead : (m.writeBytes a (b :: bs)).readByte a = b := by
      rw [Mem.writeBytes, Mem.readByte_writeBytes _ _ _ _ (.inl (Nat.lt_succ_self a)), Mem.readByte_writeByte, if_pos rfl]
    rw [List.length_cons, Mem.readBytes, hhead, Mem.writeBytes, ih]

/-- A number read where it was written. -/
theorem Mem.readLE_writeLE (m : Mem) (a n v : Nat) : (m.writeLE a n v).readLE a n = v % 256 ^ n := by
  have hbytes := Mem.readBytes_writeBytes ((toBytes n v).map (BitVec.ofNat 8)) m a
  rw [List.length_map, length_toBytes] at hbytes
  rw [Mem.readLE, Mem.writeLE, hbytes, ofBytes_map_byte, ofBytes_toBytes]

theorem EMem.dword_setDword (m : EMem) (i : Nat) (v : Reg64) : (m.setDword i v).dword i = v := by
  refine BitVec.eq_of_toNat_eq ?_
  rw [EMem.dword, EMem.setDword, EMem.mergeLE, Mem.readLE_writeLE, BitVec.toNat_ofNat]
  exact (Nat.mod_mod _ _).trans (Nat.mod_eq_of_lt v.isLt)

/-- Sign extension of 64 bits to 64 bits takes the number modulo 2^64. -/
theorem sext_64_64 (v : Nat) : sext 64 64 v = v % 2 ^ 64 := by
  unfold sext ofSigned toSigned
  split_ifs <;> omega

end Sys2Proof.Machine
end

section
/-! PROOF. The Foreman's registers, and instructions of a bench's Foreman as changes of the Foreman alone (R194, R195, R203). -/

namespace Sys2Proof.Machine

theorem Foreman.x_congr {f g : Foreman} (h : g.regs = f.regs) (r : Nat) : g.x r = f.x r := by
  rw [Foreman.x, Foreman.x, h]

theorem Foreman.x_lt (f : Foreman) (r : Nat) : f.x r < 2 ^ 64 := by
  unfold Foreman.x
  split_ifs
  · exact Nat.two_pow_pos 64
  · exact BitVec.isLt _

theorem Foreman.x_setX (f : Foreman) (rd v r : Nat) : (f.setX rd v).x r = if r = rd ∧ r ≠ 0 then v % 2 ^ 64 else f.x r := by
  unfold Foreman.setX
  split_ifs with hrd h h
  · exact absurd (h.1.trans hrd) h.2
  · rfl
  · rw [Foreman.x, if_neg h.2, ← h.1, Sparse.get_set_same, BitVec.toNat_ofNat]
  · unfold Foreman.x
    split_ifs with hr
    · rfl
    · rw [Sparse.get_set_ne _ _ _ (fun e => h ⟨e, hr⟩)]

theorem Foreman.setX_sext (f : Foreman) (rd v : Nat) : f.setX rd (sext 64 64 v) = f.setX rd v := by
  have hword : BitVec.ofNat 64 (v % 2 ^ 64) = BitVec.ofNat 64 v := BitVec.eq_of_toNat_eq (by simp)
  rw [sext_64_64, Foreman.setX, Foreman.setX, hword]

theorem Foreman.setX_frame (f : Foreman) (rd v : Nat) : f.setX rd v = { f with regs := (f.setX rd v).regs } := by
  unfold Foreman.setX
  split_ifs <;> rfl

@[simp] theorem Foreman.setX_st (f : Foreman) (rd v : Nat) : (f.setX rd v).st = f.st := by rw [Foreman.setX_frame]
@[simp] theorem Foreman.await_regs (f : Foreman) (l : List Nat) : (f.await l).regs = f.regs := rfl
@[simp] theorem Foreman.x_await (f : Foreman) (l : List Nat) (r : Nat) : (f.await l).x r = f.x r := rfl

/-- The result of an instruction in its register, where it has one. -/
def Foreman.result (f : Foreman) (rd : Nat) : Option Nat → Foreman
  | some v => f.setX rd v
  | none => f

theorem Foreman.result_frame (f : Foreman) (rd : Nat) (v : Option Nat) : f.result rd v = { f with regs := (f.result rd v).regs } := by
  cases v with
  | none => rfl
  | some v => exact f.setX_frame rd v

/-- An instruction that goes on to the next one has retired with its result, whatever it waited for before it. -/
theorem FmRetired.of_result {f h g : Foreman} {w len : Nat} {v : Option Nat} (hpc : g.pc = add64 f.pc len) (hst : g.st = .running)
    (hf : h.regs = f.regs) (hx : ∀ r, g.x r = (h.result (rvRd w) v).x r) : FmRetired f g w len v := by
  refine ⟨hpc, hst, fun r => (hx r).trans ?_⟩
  cases v with
  | none => exact Foreman.x_congr hf r
  | some v => rw [Foreman.result, Foreman.x_setX, Foreman.x_congr hf]

section BenchOnly

variable {s t u : State} {pb : Fin 68} {b : Bench}

theorem State.benchOnly_setBench (s : State) (pb : Fin 68) (b : Bench) (f : Foreman) :
    BenchOnly s (s.setBench pb { b with fm := f }) pb b :=
  ⟨rfl, s.benchesApart_setBench pb _, by rw [State.bench_setBench]⟩

theorem BenchOnly.refl (s : State) (pb : Fin 68) : BenchOnly s s pb (s.bench pb) := ⟨rfl, fun _ _ => rfl, rfl⟩

theorem BenchOnly.setBench (s : State) (pb : Fin 68) (b : Bench) : BenchOnly s (s.setBench pb b) pb b :=
  s.benchOnly_setBench pb b b.fm

theorem BenchOnly.trans (h : BenchOnly s t pb b) (g : BenchOnly t u pb (t.bench pb)) : BenchOnly s u pb b := by
  obtain ⟨hframe, hapart, hbench⟩ := h
  obtain ⟨gframe, gapart, gbench⟩ := g
  refine ⟨?_, hapart.trans gapart, ?_⟩
  · rw [gframe, hframe]
  · rw [gbench, hbench]

theorem State.fm_onFm (s : State) (pb : Nat) (f : Foreman → Foreman) : ((s.onFm pb f).bench pb).fm = f (s.bench pb).fm := by
  rw [State.onFm, State.bench_onBench]

theorem State.benchOnly_onFm (s : State) (pb : Fin 68) (f : Foreman → Foreman) : BenchOnly s (s.onFm pb f) pb (s.bench pb) :=
  s.benchOnly_setBench pb (s.bench pb) (f (s.bench pb).fm)

end BenchOnly

end Sys2Proof.Machine
end

section
/-! PROOF. The Foreman's RV64 instructions, one of each kind (R194, R195; encodings: log 30). -/

namespace Sys2Proof.Machine

section Exec

variable {f : Foreman} {mem : EMem} {env : FmEnv} {w len : Nat}

theorem fmExec_lui (hop : rvOp w = 0x37) :
    fmExec f mem env w len = .done (f.setX (rvRd w) (immU w)) mem (add64 f.pc len) false := by
  simp [fmExec, hop]

theorem fmExec_addi (hop : rvOp w = 0x13) (hk : rvF3 w = 0) :
    fmExec f mem env w len = .done (f.setX (rvRd w) (add64 (f.x (rvRs1 w)) (immI w))) mem (add64 f.pc len) false := by
  simp [fmExec, hop, hk, alu64]

theorem fmExec_add (hop : rvOp w = 0x33) (hk : rvF3 w = 0) (hg : rvF7 w = 0) :
    fmExec f mem env w len =
      .done (f.setX (rvRd w) (add64 (f.x (rvRs1 w)) (f.x (rvRs2 w)))) mem (add64 f.pc len) false := by
  simp [fmExec, hop, hk, hg, alu64]

theorem fmExec_sub (hop : rvOp w = 0x33) (hk : rvF3 w = 0) (hg : rvF7 w = 0x20) :
    fmExec f mem env w len =
      .done (f.setX (rvRd w) ((f.x (rvRs1 w) + 2 ^ 64 - f.x (rvRs2 w)) % 2 ^ 64)) mem (add64 f.pc len) false := by
  simp [fmExec, hop, hk, hg, alu64]

theorem fmExec_jal (hop : rvOp w = 0x6F) :
    fmExec f mem env w len = .done (f.setX (rvRd w) (add64 f.pc len)) mem (add64 f.pc (immJ w)) true := by
  simp [fmExec, hop]

/-- An aligned access of a doubleword within the data memory meets no fault, if it reads no uncorrectable word. -/
theorem dataFault_dword {a : Nat} {store reads : Bool} (ha : a % 8 = 0) (hin : a + 8 ≤ 2 ^ 18) (hbad : reads = true → mem.bad = []) :
    dataFault mem a 8 store reads = none := by
  unfold dataFault
  rw [if_neg (not_not.mpr ha), if_neg (Nat.not_lt.mpr (show a + 8 ≤ fmDataBytes from hin)), if_neg]
  rintro ⟨hr, hb⟩
  rw [hbad hr] at hb
  exact Bool.false_ne_true hb

theorem fmExec_sd {a : Nat} (hop : rvOp w = 0x23) (hk : rvF3 w = 3) (ha : a = add64 (f.x (rvRs1 w)) (immS w)) (hal : a % 8 = 0)
    (hin : a + 8 ≤ 2 ^ 18) : fmExec f mem env w len = .done f (mem.mergeLE a 8 (f.x (rvRs2 w))) (add64 f.pc len) false := by
  have hfault : dataFault mem a 8 true false = none := dataFault_dword hal hin nofun
  subst ha
  simp [fmExec, fmStore, hop, hk, hfault]

theorem fmExec_ld {a : Nat} (hop : rvOp w = 0x03) (hk : rvF3 w = 3) (ha : a = add64 (f.x (rvRs1 w)) (immI w)) (hal : a % 8 = 0)
    (hin : a + 8 ≤ 2 ^ 18) (hbad : mem.bad = []) :
    fmExec f mem env w len = .done (f.setX (rvRd w) (mem.mem.readLE a 8)) mem (add64 f.pc len) false := by
  have hfault : dataFault mem a 8 false true = none := dataFault_dword hal hin (fun _ => hbad)
  subst ha
  simp [fmExec, fmLoad, hop, hk, hfault, Foreman.setX_sext]

theorem fmExec_ecall : fmExec f mem env 0x73 len = .trap 11 (some 0) := by
  have hop : rvOp 0x73 = 0x73 := by decide
  have hk : rvF3 0x73 = 0 := by decide
  simp [fmExec, fmSystem, hop, hk]

theorem fmExec_wfi : fmExec f mem env 0x10500073 len = .wfi := by
  have hop : rvOp 0x10500073 = 0x73 := by decide
  have hk : rvF3 0x10500073 = 0 := by decide
  simp [fmExec, fmSystem, hop, hk]

end Exec

/-- What the end of an instruction makes of the state, f being the Foreman that has waited for the registers it reads. -/
def State.fmEnd (s : State) (pb w : Nat) (f : Foreman) : FmOut → State
  | .trap c t => s.fmTrap pb c t
  | .bad c a => s.fmBad pb memData c a
  | .wfi => s.onFm pb (fun _ => { f with st := .wfi })
  | .done f2 mem pc jumped => s.setBench pb { s.bench pb with
      dmem := mem
      fm := f2.retire (rvRd w) (fmCost w jumped).1 (fmCost w jumped).2 pc jumped
        (decide (rvOp w = 0x73) && decide (rvF3 w ≠ 0) && decide (bits w 31 20 = 0xB02)) }

section Instruction

variable {s : State} {pb : Fin 68} {w len : Nat} {f : Foreman}

theorem State.fmInstr_eq (hat : s.fmAt pb .running w len) (hxc : xcOf w = none) (hf : f = (s.bench pb).fm.await (fmSources w)) :
    s.fmInstr pb = s.fmEnd pb w f (fmExec f (s.bench pb).dmem (s.fmEnv pb) w len) := by
  subst hf
  simp only [State.fmInstr, hat.fetch, hxc, Option.isSome_none, Bool.false_eq_true, and_false, if_false]
  rfl

theorem State.st_of_fmFetch {pb : Nat} {st : FState} {x : Fetched} (h : s.fmFetch pb st = some x) : (s.bench pb).fm.st = st := by
  unfold State.fmFetch at h
  dsimp only at h
  split_ifs at h with hlive
  simp only [Bool.and_eq_true, decide_eq_true_eq] at hlive
  exact hlive.2

/-- An instruction that is done: the bench has its memory and its Foreman's registers, and the Foreman is at its pc. -/
theorem exec_foremanInstruction_of_done {f2 : Foreman} {mem : EMem} {pc : Nat} {jumped : Bool} (hat : s.fmAt pb .running w len)
    (hxc : xcOf w = none) (hf : f = (s.bench pb).fm.await (fmSources w))
    (hdone : fmExec f (s.bench pb).dmem (s.fmEnv pb) w len = .done f2 mem pc jumped) :
    ∃ g, exec (.foremanInstruction pb) s = .next (s.setBench pb { s.bench pb with dmem := mem, fm := g }) ∧
      g.pc = pc ∧ g.st = f2.st ∧ ∀ r, g.x r = f2.x r := by
  have hend : s.fmInstr pb = s.fmEnd pb w f (.done f2 mem pc jumped) := hdone ▸ State.fmInstr_eq hat hxc hf
  exact ⟨_, (next_live_of_running hat.running _).trans (congrArg _ hend), rfl, rfl, fun _ => rfl⟩

/-- An instruction that only computes the value of its register. -/
theorem exec_foremanInstruction_of_value {v : Nat} (hat : s.fmAt pb .running w len) (hxc : xcOf w = none)
    (hf : f = (s.bench pb).fm.await (fmSources w))
    (hdone : fmExec f (s.bench pb).dmem (s.fmEnv pb) w len = .done (f.setX (rvRd w) v) (s.bench pb).dmem (add64 f.pc len) false) :
    ∃ t, exec (.foremanInstruction pb) s = .next t ∧ BenchOnly s t pb (s.bench pb) ∧
      FmRetired (s.bench pb).fm (t.bench pb).fm w len (some v) := by
  obtain ⟨g, hexec, hpc, hst, hx⟩ := exec_foremanInstruction_of_done hat hxc hf hdone
  subst hf
  refine ⟨_, hexec, s.benchOnly_setBench pb (s.bench pb) g, ?_⟩
  rw [State.bench_setBench]
  exact .of_result hpc (hst.trans ((Foreman.setX_st _ _ _).trans (State.st_of_fmFetch hat.fetch))) (Foreman.await_regs _ _) hx

/-- SD stores its eight bytes. -/
theorem exec_foremanInstruction_sd {a : Nat} (hat : s.fmAt pb .running w len) (hxc : xcOf w = none) (hop : rvOp w = 0x23)
    (hk : rvF3 w = 3) (ha : a = add64 ((s.bench pb).fm.x (rvRs1 w)) (immS w)) (hal : a % 8 = 0) (hin : a + 8 ≤ 2 ^ 18) :
    ∃ t, exec (.foremanInstruction pb) s = .next t ∧ FmRetired (s.bench pb).fm (t.bench pb).fm w len none ∧
      BenchOnly s t pb { s.bench pb with dmem := (t.bench pb).dmem } ∧
      (t.bench pb).dmem = (s.bench pb).dmem.mergeLE a 8 ((s.bench pb).fm.x (rvRs2 w)) := by
  obtain ⟨g, hexec, hpc, hst, hx⟩ := exec_foremanInstruction_of_done hat hxc rfl (fmExec_sd hop hk ha hal hin)
  refine ⟨_, hexec, ?_, ?_, ?_⟩
  · rw [State.bench_setBench]
    exact .of_result hpc (hst.trans (State.st_of_fmFetch hat.fetch)) rfl hx
  · rw [State.bench_setBench]
    exact s.benchOnly_setBench pb { s.bench pb with dmem := (s.bench pb).dmem.mergeLE a 8 ((s.bench pb).fm.x (rvRs2 w)) } g
  · rw [State.bench_setBench]
    rfl

/-- JAL jumps and links. -/
theorem exec_foremanInstruction_jal (hat : s.fmAt pb .running w len) (hxc : xcOf w = none) (hop : rvOp w = 0x6F) :
    ∃ t, exec (.foremanInstruction pb) s = .next t ∧ BenchOnly s t pb (s.bench pb) ∧
      (t.bench pb).fm.pc = add64 (s.bench pb).fm.pc (immJ w) ∧
      (rvRd w ≠ 0 → (t.bench pb).fm.x (rvRd w) = add64 (s.bench pb).fm.pc len) := by
  obtain ⟨g, hexec, hpc, -, hx⟩ := exec_foremanInstruction_of_done hat hxc rfl (fmExec_jal hop)
  refine ⟨_, hexec, s.benchOnly_setBench pb (s.bench pb) g, ?_, fun hrd => ?_⟩
  · rw [State.bench_setBench]
    exact hpc
  · rw [State.bench_setBench]
    refine (hx _).trans ((Foreman.x_setX _ _ _ _).trans ((if_pos ⟨rfl, hrd⟩).trans ?_))
    exact Nat.mod_eq_of_lt (Nat.mod_lt _ (Nat.two_pow_pos 64))

/-- An exception whose mtval the spec gives enters at mtvec. -/
theorem exec_foremanInstruction_of_trap {cause tval : Nat} (hat : s.fmAt pb .running w len) (hxc : xcOf w = none)
    (htrap : fmExec ((s.bench pb).fm.await (fmSources w)) (s.bench pb).dmem (s.fmEnv pb) w len = .trap cause (some tval)) :
    exec (.foremanInstruction pb) s = .next (s.onFm pb (fun f =>
      ({ (f.pass 4) with fetched := f.fetched + 1 } : Foreman).trap cause tval f.mtvec.toNat)) := by
  have hend : s.fmInstr pb = s.fmTrap pb cause (some tval) := (State.fmInstr_eq hat hxc rfl).trans (congrArg _ htrap)
  exact (next_live_of_running hat.running _).trans (congrArg _ hend)

theorem exec_foremanInstruction_of_wfi (hat : s.fmAt pb .running w len) (hxc : xcOf w = none)
    (hwfi : fmExec ((s.bench pb).fm.await (fmSources w)) (s.bench pb).dmem (s.fmEnv pb) w len = .wfi) :
    exec (.foremanInstruction pb) s =
      .next (s.onFm pb (fun _ => { (s.bench pb).fm.await (fmSources w) with st := .wfi })) := by
  have hend := (State.fmInstr_eq hat hxc rfl).trans (congrArg (s.fmEnd pb w _) hwfi)
  exact (next_live_of_running hat.running _).trans (congrArg _ hend)

end Instruction

end Sys2Proof.Machine
end

section
/-! PROOF. The Foreman's interrupts: which one is taken, and where it enters (R212, Table 7.3). -/

namespace Sys2Proof.Machine

/-- MSG is pending only while a ring makes it so. -/
theorem State.msgRing_of_mip {s : State} {pb : Nat} (h : bit (s.mip pb) 16 = true) : ∃ i, s.msgRing pb = some i := by
  cases hring : s.msgRing pb with
  | some i => exact ⟨i, rfl⟩
  | none =>
    unfold State.mip at h
    rw [hring, Option.isSome_none, if_neg Bool.false_ne_true] at h
    dsimp only at h
    split_ifs at h <;> exact absurd h (by decide)

theorem bit_land (a b i : Nat) : bit (a &&& b) i = (bit a i && bit b i) := by
  simp only [bit_eq_testBit, Nat.testBit_land]

section Interrupt

variable {s : State} {pb : Fin 68}

theorem State.fmFetch_eq_none {pb : Nat} {st : FState} (h : (s.bench pb).fm.st ≠ st) : s.fmFetch pb st = none := by
  unfold State.fmFetch
  dsimp only
  rw [decide_eq_false h, Bool.and_false]
  rfl

theorem State.fmLeaves_of_not_stalled {pb : Nat} (h : (s.bench pb).fm.st ≠ .stalled) : s.fmLeaves pb = true := by
  unfold State.fmLeaves
  rw [State.fmFetch_eq_none h]

/-- Which interrupt is taken: MSG at the handler of its ring's head, else TOK6, else the timer. -/
theorem State.fmInterrupt_eq {on code target : Nat} (hlive : (s.bench pb).fmLive = true)
    (hst : (s.bench pb).fm.st = .running ∨ (s.bench pb).fm.st = .wfi) (hmie : (s.bench pb).fm.mieBit = true)
    (hon : on = s.mip pb &&& (s.bench pb).fm.mie.toNat) (hne : on ≠ 0)
    (hcode : code = (if bit on 16 then 16 else if bit on 17 then 17 else 7))
    (hmsg : ∀ i h, s.msgRing pb = some i → bit on 16 = true → h = getBits (s.ringHead pb i 0) 35 28 →
      target = if s.flag (Fld.BENCH_HANDLER_VALID pb h) then s.rd (Fld.BENCH_HANDLER_ADDR pb h) else (s.bench pb).fm.mtvec.toNat)
    (helse : bit on 16 = false → target = (s.bench pb).fm.mtvec.toNat) :
    ∃ u, s.fmInterrupt pb = u.fmEnter pb code target ∧ BenchOnly s u pb (s.bench pb) ∧
      ∃ x, (u.bench pb).fm = { (s.bench pb).fm with xcmsg := x } := by
  have hleaves : s.fmLeaves pb = true := State.fmLeaves_of_not_stalled (by obtain h | h := hst <;> rw [h] <;> decide)
  have hrun : (s.bench pb).fm.st ≠ .stopped := by obtain h | h := hst <;> rw [h] <;> decide
  unfold State.fmInterrupt
  dsimp only
  rw [← hon, if_neg (by simp [hlive, hrun, hmie, hne, hleaves])]
  split_ifs with h16 h17
  · obtain ⟨i, hi⟩ := State.msgRing_of_mip (Bool.and_eq_true _ _ ▸ bit_land _ _ 16 ▸ hon ▸ h16).1
    rw [hi, hcode, if_pos h16, hmsg i _ hi h16 rfl]
    exact ⟨_, rfl, s.benchOnly_onFm pb _, _, s.fm_onFm pb _⟩
  · rw [hcode, if_neg h16, if_pos h17, helse (Bool.eq_false_iff.mpr h16)]
    exact ⟨s, rfl, ⟨rfl, fun _ _ => rfl, rfl⟩, _, rfl⟩
  · rw [hcode, if_neg h16, if_neg h17, helse (Bool.eq_false_iff.mpr h16)]
    exact ⟨s, rfl, ⟨rfl, fun _ _ => rfl, rfl⟩, _, rfl⟩

end Interrupt

/-- Settles O36: each instruction is carried out by fmExec as the lemmas above say, and an interrupt enters with its code and its target. -/
theorem foremanRunsRv64AndTakesInterrupts : Obligations.ForemanRunsRv64AndTakesInterrupts := by
  refine ⟨?_, fun s pb on code target hrun hlive hst hmie hon hne hcode hmsg helse => ?_⟩
  · rintro s pb w len _ hat rfl - hxc
    refine ⟨?_, fun a hop hk ha hal hin => ?_, fun a hop hk ha hal hin hbad => ?_, fun hop => ?_, ?_, ?_⟩
    · rintro v (⟨hop, rfl⟩ | ⟨hop, hk, rfl⟩ | ⟨hop, hk, hg, rfl⟩ | ⟨hop, hk, hg, rfl⟩)
      · exact exec_foremanInstruction_of_value hat hxc rfl (fmExec_lui hop)
      · exact exec_foremanInstruction_of_value hat hxc rfl (fmExec_addi hop hk)
      · exact exec_foremanInstruction_of_value hat hxc rfl (fmExec_add hop hk hg)
      · exact exec_foremanInstruction_of_value hat hxc rfl (fmExec_sub hop hk hg)
    · obtain ⟨t, hexec, hretired, honly, hmem⟩ := exec_foremanInstruction_sd hat hxc hop hk ha hal hin
      refine ⟨t, hexec, hretired, honly, ?_, hmem ▸ rfl, fun k hk => ?_⟩
      · rw [hmem, EMem.mergeLE, Mem.readLE_writeLE]
        exact Nat.mod_eq_of_lt (Foreman.x_lt _ _)
      · rw [hmem]
        exact Mem.readByte_writeLE _ _ hk
    · exact exec_foremanInstruction_of_value hat hxc rfl (fmExec_ld hop hk ha hal hin hbad)
    · exact exec_foremanInstruction_jal hat hxc hop
    · rintro rfl
      refine ⟨_, exec_foremanInstruction_of_trap hat hxc fmExec_ecall, s.benchOnly_onFm pb _, ?_⟩
      rw [State.fm_onFm]
      exact ⟨rfl, rfl, rfl, rfl, rfl, rfl⟩
    · rintro rfl
      refine ⟨_, exec_foremanInstruction_of_wfi hat hxc fmExec_wfi, s.benchOnly_onFm pb _, ?_⟩
      rw [State.fm_onFm]
      exact ⟨rfl, rfl, rfl⟩
  · obtain ⟨u, hu, honly, x, hfm⟩ := State.fmInterrupt_eq hlive hst hmie hon hne hcode hmsg helse
    refine ⟨_, (next_live_of_running hrun _).trans (congrArg _ hu), honly.trans (u.benchOnly_onFm pb _), ?_⟩
    rw [State.fmEnter, State.fm_onFm, hfm]
    exact ⟨rfl, rfl, rfl, rfl, rfl, hmie, rfl, rfl, rfl⟩

end Sys2Proof.Machine
end

section
/-! PROOF. How an Xchotra instruction ends: it retires with its result, or stalls (R203, Table 7.2). -/

namespace Sys2Proof.Machine

/-- A Foreman whose Xchotra instruction has retired with its result. -/
def Foreman.xcRetired (f : Foreman) (w cost : Nat) (v : Option Nat) : Foreman :=
  { ((f.await [rvRs1 w, rvRs2 w]).result (rvRd w) v).retire (rvRd w) cost cost (add64 f.pc 4) false false with
    st := if f.st = .stopped then .stopped else .running }

theorem Foreman.xcRetired_weirReply (f : Foreman) (w cost : Nat) (v : Option Nat) :
    (f.xcRetired w cost v).weirReply = f.weirReply := by
  rw [Foreman.xcRetired, Foreman.result_frame]
  rfl

/-- What it waited for and what its time cost does not show in what FmRetired says. -/
theorem Foreman.fmRetired_xcRetired {f g : Foreman} (w cost : Nat) (v : Option Nat) (hst : f.st ≠ .stopped) (hpc : g.pc = f.pc)
    (hregs : g.regs = f.regs) (hg : g.st = f.st) : FmRetired f (g.xcRetired w cost v) w 4 v :=
  .of_result (congrArg (add64 · 4) hpc) (if_neg (hg ▸ hst)) (show (g.await [rvRs1 w, rvRs2 w]).regs = f.regs from hregs) (fun _ => rfl)

/-- What the end of an Xchotra instruction makes of the state. -/
def State.xcEnd (s : State) (pb w : Nat) : XcOut → State
  | .illegal => s.fmTrap pb 2 none
  | .fault mem cause addr => s.fmBad pb mem cause addr
  | .stall t => t.onFm pb (fun f => { f with st := .stalled })
  | .retire t v cost => t.onFm pb (fun f => f.xcRetired w cost v)

theorem State.xcStep_eq {s : State} {pb : Nat} (op : XcOp) {x : XcArgs} (ha : x.a = (s.bench pb).fm.x (rvRs1 x.w))
    (hb : x.b = (s.bench pb).fm.x (rvRs2 x.w)) : s.xcStep pb op x.w = s.xcEnd pb x.w (s.xcRun pb op x) := by
  have hx : (⟨x.w, (s.bench pb).fm.x (rvRs1 x.w), (s.bench pb).fm.x (rvRs2 x.w)⟩ : XcArgs) = x := by rw [← ha, ← hb]
  unfold State.xcStep
  dsimp only
  simp only [Foreman.x_await]
  rw [hx]
  cases s.xcRun pb op x with
  | illegal | fault | stall => rfl
  | retire t v cost => cases v <;> rfl

/-- Instruction c is the row of an Xchotra instruction. -/
def XcRow (pb : Fin 68) (op : XcOp) (c : Instr) : Prop := ∀ s : State, exec c s = .next (s.live (fun s => s.xcRow pb.val op))

section Row

variable {s u : State} {pb : Fin 68} {op : XcOp} {c : Instr} {x : XcArgs}

theorem exec_xcRow (hc : XcRow pb op c) (hat : s.xcAt pb op x) : exec c s = .next (s.xcEnd pb x.w (s.xcRun pb op x)) := by
  have hrow : s.xcRow pb op = s.xcStep pb op x.w := by
    simp only [State.xcRow, hat.at_.fetch, hat.kind, true_and, if_true]
  rw [hc s, State.live, if_pos hat.at_.running, hrow, State.xcStep_eq op hat.a hat.b]

theorem exec_xcRow_of_retire {v : Option Nat} {cost : Nat} (hc : XcRow pb op c) (hat : s.xcAt pb op x)
    (hrun : s.xcRun pb op x = .retire u v cost) : exec c s = .next (u.onFm pb (fun f => f.xcRetired x.w cost v)) := by
  rw [exec_xcRow hc hat, hrun, State.xcEnd]

theorem exec_xcRow_of_stall (hc : XcRow pb op c) (hat : s.xcAt pb op x) (hrun : s.xcRun pb op x = .stall u) :
    exec c s = .next (u.onFm pb (fun f => { f with st := .stalled })) := by
  rw [exec_xcRow hc hat, hrun, State.xcEnd]

theorem State.xcAt.st (hat : s.xcAt pb op x) : (s.bench pb).fm.st = .running := State.st_of_fmFetch hat.at_.fetch

theorem State.xcAt.not_stopped (hat : s.xcAt pb op x) : (s.bench pb).fm.st ≠ .stopped := by
  rw [hat.st]
  decide

/-- The Foreman of u is f but for a Weir reply; then its instruction retires as f's would. -/
theorem State.xcRetired_spec {t : State} {f : Foreman} {w cost : Nat} {v : Option Nat} (hst : f.st ≠ .stopped)
    (hf : ∃ r, (u.bench pb).fm = { f with weirReply := r }) (ht : t = u.onFm pb (fun f => f.xcRetired w cost v)) :
    BenchOnly u t pb (u.bench pb) ∧ FmRetired f (t.bench pb).fm w 4 v ∧
      (t.bench pb).fm.weirReply = (u.bench pb).fm.weirReply := by
  obtain ⟨r, hr⟩ := hf
  refine ⟨ht ▸ u.benchOnly_onFm pb _, ?_, ?_⟩
  · rw [ht, State.fm_onFm, hr]
    exact Foreman.fmRetired_xcRetired w cost v hst rfl rfl rfl
  · rw [ht, State.fm_onFm, Foreman.xcRetired_weirReply]

/-- An Xchotra instruction that retires after an effect that leaves its Foreman alone. -/
theorem exec_xcRow_retired {v : Option Nat} {cost : Nat} (hc : XcRow pb op c) (hat : s.xcAt pb op x)
    (hrun : s.xcRun pb op x = .retire u v cost) (hf : (u.bench pb).fm = (s.bench pb).fm) :
    ∃ t, exec c s = .next t ∧ FmRetired (s.bench pb).fm (t.bench pb).fm x.w 4 v ∧ BenchOnly u t pb (u.bench pb) := by
  obtain ⟨honly, hretired, -⟩ := State.xcRetired_spec (u := u) (w := x.w) (cost := cost) (v := v) hat.not_stopped ⟨_, hf⟩ rfl
  exact ⟨_, exec_xcRow_of_retire hc hat hrun, hretired, honly⟩

/-- An instruction that retires with a change of its own bench beside the Foreman. -/
theorem exec_xcRow_benchOnly {b : Bench} {v : Option Nat} {cost : Nat} (hc : XcRow pb op c) (hat : s.xcAt pb op x)
    (hrun : s.xcRun pb op x = .retire u v cost) (hu : BenchOnly s u pb b) (hf : (u.bench pb).fm = (s.bench pb).fm) :
    ∃ t, exec c s = .next t ∧ FmRetired (s.bench pb).fm (t.bench pb).fm x.w 4 v ∧ BenchOnly s t pb b := by
  obtain ⟨t, hexec, hretired, honly⟩ := exec_xcRow_retired hc hat hrun hf
  exact ⟨t, hexec, hretired, hu.trans honly⟩

end Row

/-- An instruction leaves the fields clear that Table 7.2 does not name. -/
theorem XcArgs.clean_of {x : XcArgs} {rd rs2 : Bool} {mask : Nat} (hrd : rd = false → rvRd x.w = 0)
    (hrs2 : rs2 = false → rvRs2 x.w = 0) (hmask : x.a &&& mask = x.a) : x.clean rd rs2 mask = true := by
  unfold XcArgs.clean
  rw [hmask, decide_eq_true rfl, Bool.and_true, Bool.and_eq_true, Bool.or_eq_true, Bool.or_eq_true]
  refine ⟨?_, ?_⟩
  · cases rd with
    | true => exact .inl rfl
    | false => exact .inr (decide_eq_true (hrd rfl))
  · cases rs2 with
    | true => exact .inl rfl
    | false => exact .inr (decide_eq_true (hrs2 rfl))

theorem land_of_lt {a n : Nat} (h : a < 2 ^ n) : a &&& (2 ^ n - 1) = a := by
  rw [Nat.and_two_pow_sub_one_eq_mod, Nat.mod_eq_of_lt h]

/-- Two fields of a register, the upper one of p bits at bit n, the lower one of q bits, kept by the mask of both. -/
theorem land_of_fields {a i n p q : Nat} (ha : a < 2 ^ p) (hi : i < 2 ^ q) (hq : q ≤ n) :
    (a * 2 ^ n + i) &&& ((2 ^ p - 1) * 2 ^ n + (2 ^ q - 1)) = a * 2 ^ n + i := by
  have hpow := Nat.pow_le_pow_right (n := 2) (by decide) hq
  have hin : i < 2 ^ n := by omega
  have hmn : 2 ^ q - 1 < 2 ^ n := by omega
  refine Nat.eq_of_testBit_eq (fun j => ?_)
  rw [Nat.testBit_land, Nat.mul_comm a, Nat.mul_comm _ (2 ^ n), Nat.testBit_two_pow_mul_add _ hin, Nat.testBit_two_pow_mul_add _ hmn]
  split_ifs
  · rw [← Nat.testBit_land, land_of_lt hi]
  · rw [← Nat.testBit_land, land_of_lt ha]

end Sys2Proof.Machine
end

section
/-! PROOF. The Xchotra instructions that push commands, access tables and move tokens (R204-R206). -/

namespace Sys2Proof.Machine

section Push

variable {s : State} {pb : Fin 68} {x : XcArgs} {st : Nat} {word : CmdWord} {bad mem : Bool} {c : Instr}

/-- A bench with one more command at the tail of a stream. -/
def Bench.pushed (b : Bench) (st : Nat) (q : QCmd) : Bench :=
  b.setStream st { b.stream st with queue := (b.stream st).queue ++ [q] }

theorem Bench.enqueue_of_open {b : Bench} {q : QCmd} (hclosed : (b.stream st).closed = false) (hended : (b.stream st).ended = false) :
    b.enqueue st false q = b.pushed st q := by
  have hopen : ¬ ((b.stream st).closed || (b.stream st).ended) = true := by rw [hclosed, hended]; exact Bool.false_ne_true
  exact congrArg (b.setStream st) (if_neg hopen)

/-- A push to a stream that the Foreman feeds, in decoupled mode, that has not ended and has room (R204). -/
theorem State.xcPush_of_room (hclean : (if mem then x.clean false false 0x3FFF else x.clean false true (2 ^ 64 - 1)) = true)
    (hword : word = if mem then BitVec.ofNat 128 ((s.bench pb).cmdMem.mem.readLE (16 * x.a) 16)
      else BitVec.ofNat 128 (x.a * 2 ^ 64 + x.b))
    (hbad : bad = (mem && (s.bench pb).cmdMem.bad.contains (x.a / 2)))
    (hst : st = bits x.w 27 25) (hst5 : st ≤ 5) (hsrc : bit (s.rd (Fld.BENCH_CTL_STREAM_SRC pb)) st = true)
    (hlock : s.lockstep pb = false) (hresume : ¬ (opcodeOf word = 0xC3 ∧ st = 5)) (hroom : ((s.bench pb).stream st).queue.length < 512)
    (hclosed : ((s.bench pb).stream st).closed = false) (hended : ((s.bench pb).stream st).ended = false) :
    ∃ cost, s.xcPush pb x mem = .retire (s.setBench pb ((s.bench pb).pushed st ⟨word, 0x3FFF, false, bad⟩)) none cost := by
  have hres : (decide (opcodeOf word = 0xC3) && decide (st = 5)) = false := by
    rw [← Bool.decide_and]
    exact decide_eq_false hresume
  refine ⟨if mem then 2 else 1, ?_⟩
  unfold State.xcPush
  extract_lets b st' word' q resume dst
  have hword' : word' = word := hword.symm
  have hst' : st' = st := hst.symm
  have hresume' : resume = false := by rw [← hres, ← hword', ← hst']
  have hdst : dst = st := by rw [← hst']; exact if_neg (by rw [hresume']; exact Bool.false_ne_true)
  have hq : q = ⟨word, 0x3FFF, false, bad⟩ := by rw [hbad, ← hword']
  rw [hclean, hresume', hdst, hst', hq]
  simp only [b, hst5, hsrc, hlock, Nat.not_le.mpr hroom, Bench.enqueue_of_open hclosed hended, decide_true, decide_false, Bool.not_true,
    Bool.not_false, Bool.true_or, Bool.and_true, Bool.and_false, Bool.false_eq_true, if_false]

/-- What a push leaves (R204). -/
theorem exec_xcPush {op : XcOp} {q : QCmd} {cost : Nat} (hc : XcRow pb op c) (hat : s.xcAt pb op x)
    (hrun : s.xcRun pb op x = .retire (s.setBench pb ((s.bench pb).pushed st q)) none cost) :
    ∃ t, exec c s = .next t ∧ t = { s with benches := t.benches } ∧ BenchesApart s t pb ∧
      FmRetired (s.bench pb).fm (t.bench pb).fm x.w 4 none ∧
      (t.bench pb).stream st = { (s.bench pb).stream st with queue := ((s.bench pb).stream st).queue ++ [q] } ∧
      (∀ i, i ≠ st → (t.bench pb).stream i = (s.bench pb).stream i) := by
  obtain ⟨t, hexec, hretired, hframe, hapart, hbench⟩ := exec_xcRow_benchOnly hc hat hrun (.setBench s pb _)
    (by rw [State.bench_setBench]; rfl)
  have hstream (i : Nat) : (t.bench pb).stream i = ((s.bench pb).pushed st q).stream i := by
    rw [hbench]
    rfl
  refine ⟨t, hexec, hframe, hapart, hretired, ?_, fun i hi => ?_⟩
  · rw [hstream, Bench.pushed, Bench.stream_setStream, if_pos rfl]
  · rw [hstream, Bench.pushed, Bench.stream_setStream, if_neg hi]

end Push

section Tables

variable {s : State} {pb : Fin 68} {x : XcArgs} {tb i : Nat}

/-- The table and the doubleword that rs1 names (R205). -/
theorem tableOperand (htb : tb < 3) (hi : i < tableSize tb) (ha : x.a = tb * 2 ^ 62 + i) :
    bits x.a 63 62 = tb ∧ x.a % 2 ^ 15 = i ∧ x.a &&& (2 ^ 63 + 2 ^ 62 + 0x7FFF) = x.a := by
  have hi15 : i < 2 ^ 15 := by
    unfold tableSize at hi
    split_ifs at hi <;> omega
  have htb4 : tb < 2 ^ 2 := by omega
  refine ⟨?_, by omega, ?_⟩
  · rw [ha, bits, Nat.shiftRight_eq_div_pow]
    omega
  · rw [ha]
    exact land_of_fields htb4 hi15 (by decide)

theorem State.xcTable_write (htb : tb < 3) (hi : i < tableSize tb) (ha : x.a = tb * 2 ^ 62 + i) (hrd : rvRd x.w = 0) :
    s.xcTable pb x true = .retire (s.setBench pb ((s.bench pb).tableWrite tb i (BitVec.ofNat 64 x.b))) none 2 := by
  obtain ⟨ht, hidx, hmask⟩ := tableOperand htb hi ha
  unfold State.xcTable
  dsimp only
  have hclean : x.clean (!true) true (2 ^ 63 + 2 ^ 62 + 0x7FFF) = true := XcArgs.clean_of (fun _ => hrd) nofun hmask
  rw [ht, hidx, if_neg, if_pos rfl]
  rw [hclean, decide_eq_false (Nat.not_le.mpr hi)]
  exact Bool.false_ne_true

theorem State.xcTable_read (htb : tb < 3) (hi : i < tableSize tb) (ha : x.a = tb * 2 ^ 62 + i) (hrs2 : rvRs2 x.w = 0)
    (hbad : ((s.bench pb).table tb).bad = []) : s.xcTable pb x false = .retire s (some ((s.bench pb).tableRead tb i)) 3 := by
  obtain ⟨ht, hidx, hmask⟩ := tableOperand htb hi ha
  unfold State.xcTable
  dsimp only
  have hclean : x.clean (!false) false (2 ^ 63 + 2 ^ 62 + 0x7FFF) = true := XcArgs.clean_of nofun (fun _ => hrs2) hmask
  rw [ht, hidx, if_neg, if_neg Bool.false_ne_true, if_neg]
  · rw [hbad]
    exact fun h => Bool.false_ne_true h.1
  · rw [hclean, decide_eq_false (Nat.not_le.mpr hi)]
    exact Bool.false_ne_true

theorem Bench.tableWrite_frame (b : Bench) (t i : Nat) (v : Reg64) : ∃ cm dt lt,
    b.tableWrite t i v = { b with cmdMem := cm, descTab := dt, loopTab := lt } := by
  unfold Bench.tableWrite
  split_ifs
  · exact ⟨_, _, _, rfl⟩
  · exact ⟨_, _, _, rfl⟩
  · exact ⟨_, _, _, rfl⟩
  · exact ⟨_, _, _, rfl⟩
  · exact ⟨_, _, _, rfl⟩

theorem Bench.dword_tableWrite (b : Bench) (htb : tb < 3) (v : Reg64) (h : tb = 0 ∨ 8 ≤ i) :
    ((b.tableWrite tb i v).table tb).dword i = v := by
  obtain rfl | rfl | rfl : tb = 0 ∨ tb = 1 ∨ tb = 2 := by omega
  · exact EMem.dword_setDword _ i v
  · rw [Bench.tableWrite, if_neg (by decide), if_neg (by omega)]
    exact EMem.dword_setDword _ i v
  · rw [Bench.tableWrite, if_neg (by decide), if_neg (by omega)]
    exact EMem.dword_setDword _ i v

theorem Bench.tableWrite_of_entry0 (b : Bench) (v : Reg64) (htb : tb ≠ 0) (hi : i < 8) : b.tableWrite tb i v = b := by
  rw [Bench.tableWrite, if_neg htb, if_pos hi]

/-- xc.tw writes a doubleword of a table (R118, R205). -/
theorem exec_xcTw (hat : s.xcAt pb .tw x) (htb : tb < 3) (hi : i < tableSize tb) (ha : x.a = tb * 2 ^ 62 + i) (hrd : rvRd x.w = 0) :
    ∃ t, exec (.xcTw pb) s = .next t ∧ FmRetired (s.bench pb).fm (t.bench pb).fm x.w 4 none ∧
      BenchOnly s t pb ((s.bench pb).tableWrite tb i (BitVec.ofNat 64 x.b)) ∧
      (tb = 0 ∨ 8 ≤ i → ((t.bench pb).table tb).dword i = BitVec.ofNat 64 x.b) ∧
      (tb ≠ 0 → i < 8 → (t.bench pb).table tb = (s.bench pb).table tb) := by
  obtain ⟨cm, dt, lt, hw⟩ := (s.bench pb).tableWrite_frame tb i (BitVec.ofNat 64 x.b)
  obtain ⟨t, hexec, hretired, honly⟩ := exec_xcRow_benchOnly (c := .xcTw pb) (fun _ => rfl) hat
    (State.xcTable_write htb hi ha hrd) (.setBench s pb _) (by rw [State.bench_setBench, hw])
  have htable : (t.bench pb).table tb = ((s.bench pb).tableWrite tb i (BitVec.ofNat 64 x.b)).table tb := by
    rw [honly.2.2]
    rfl
  refine ⟨t, hexec, hretired, honly, fun h => ?_, fun h0 h8 => ?_⟩
  · rw [htable]
    exact Bench.dword_tableWrite _ htb _ h
  · rw [htable, Bench.tableWrite_of_entry0 _ _ h0 h8]

end Tables

section Tokens

variable {s : State} {pb : Fin 68} {x : XcArgs}

theorem State.xcTkpost_of_room (hrd : rvRd x.w = 0) (hrs2 : rvRs2 x.w = 0) (ha : x.a < 192) (hroom : (s.bench pb).token x.a < 255) :
    s.xcTkpost pb x = .retire (s.setBench pb ((s.bench pb).setToken x.a ((s.bench pb).token x.a + 1))) none 1 := by
  have ha8 : x.a < 2 ^ 8 := by omega
  have hclean : x.clean false false 0xFF = true := XcArgs.clean_of (fun _ => hrd) (fun _ => hrs2) (land_of_lt ha8)
  have hpost : s.postToken pb 0 0 0x3FFF x.a = s.setBench pb ((s.bench pb).setToken x.a ((s.bench pb).token x.a + 1)) :=
    if_neg (Nat.ne_of_lt hroom)
  unfold State.xcTkpost
  rw [hclean, hpost, if_neg]
  rw [decide_eq_false (by omega)]
  exact Bool.false_ne_true

theorem XcArgs.clean_token (hrs2 : rvRs2 x.w = 0) (ha : x.a < 32) : x.clean true false 0x1F = true :=
  XcArgs.clean_of nofun (fun _ => hrs2) (land_of_lt (show x.a < 2 ^ 5 from ha))

theorem State.xcTk_poll (hrs2 : rvRs2 x.w = 0) (ha : x.a < 32) :
    s.xcTk pb x false = .retire s (some ((s.bench pb).token (192 + x.a))) 2 := by
  simp only [State.xcTk, XcArgs.clean_token hrs2 ha, Bool.not_true, Bool.not_false, Bool.false_eq_true, if_false, if_true]

theorem State.xcTk_wait (hrs2 : rvRs2 x.w = 0) (ha : x.a < 32) :
    s.xcTk pb x true = if (s.bench pb).token (192 + x.a) = 0 then .stall s
      else .retire (s.setBench pb ((s.bench pb).setToken (192 + x.a) ((s.bench pb).token (192 + x.a) - 1)))
        (some ((s.bench pb).token (192 + x.a))) 2 := by
  simp only [State.xcTk, XcArgs.clean_token hrs2 ha, Bool.not_true, Bool.false_eq_true, if_false]

end Tokens

end Sys2Proof.Machine
end

section
/-! PROOF. The Weir instructions: their operation leaves, and they retire with its reply (R203, R207). -/

namespace Sys2Proof.Machine

/-- Instruction c is the Weir instruction op, whose operation is wop. -/
structure WeirRow (pb : Fin 68) (op : XcOp) (wop : WeirOp) (c : Instr) : Prop where
  row : XcRow pb op c
  run : ∀ (s : State) (x : XcArgs), s.xcRun pb op x = s.xcWeir pb x wop
  read : op = .wread ↔ wop = .read
  reset : op = .wreset ↔ wop = .reset
  arrive : op = .warrive ↔ wop = .arrive

theorem weirRow_of_mem {pb : Fin 68} {op : XcOp} {wop : WeirOp} {c : Instr}
    (h : (op, wop, c) ∈ [(XcOp.wsig, WeirOp.signal, Instr.xcWsig pb), (.wwait, .wait, .xcWwait pb), (.warrive, .arrive, .xcWarrive pb),
      (.wreset, .reset, .xcWreset pb), (.wread, .read, .xcWread pb)]) : WeirRow pb op wop c := by
  simp only [List.mem_cons, Prod.mk.injEq, List.not_mem_nil, or_false] at h
  obtain ⟨rfl, rfl, rfl⟩ | ⟨rfl, rfl, rfl⟩ | ⟨rfl, rfl, rfl⟩ | ⟨rfl, rfl, rfl⟩ | ⟨rfl, rfl, rfl⟩ := h <;>
    exact ⟨fun _ => rfl, fun _ _ => rfl, by decide, by decide, by decide⟩

/-- What a Weir operation accepts in rs2 (R207, R301). -/
def WeirOp.Accepts : WeirOp → Nat → Prop
  | .signal, v => v < 2 ^ 32
  | .wait, v => v < 2 ^ 32
  | .arrive, v => 1 ≤ v ∧ v ≤ 65535
  | .reset, v => v = 0
  | .read, v => v = 0

theorem WeirRow.accepts {pb : Fin 68} {op : XcOp} {wop : WeirOp} {c : Instr} (h : WeirRow pb op wop c) {v : Nat}
    (hv : if op = .wreset ∨ op = .wread then v = 0 else v < 2 ^ 32) (harr : op = .warrive → 1 ≤ v ∧ v ≤ 65535) : wop.Accepts v := by
  simp only [h.reset, h.read] at hv
  rw [h.arrive] at harr
  cases wop with
  | signal | wait | reset | read => exact hv
  | arrive => exact harr rfl

/-- An operand that an operation accepts passes the checks of its instruction. -/
theorem WeirOp.Accepts.checks {wop : WeirOp} {v : Nat} (h : wop.Accepts v) :
    (if decide (wop = .signal) || decide (wop = .wait) || decide (wop = .arrive) then decide (v < 2 ^ 32) else decide (v = 0)) = true ∧
      (decide (wop = .arrive) && !(decide (1 ≤ v) && decide (v ≤ 65535))) = false := by
  cases wop with
  | signal | wait | reset | read => exact ⟨decide_eq_true h, rfl⟩
  | arrive =>
    obtain ⟨h1, h2⟩ : 1 ≤ v ∧ v ≤ 65535 := h
    refine ⟨decide_eq_true (lt_of_le_of_lt h2 (by decide)), ?_⟩
    rw [decide_eq_true h1, decide_eq_true h2]
    rfl

section Weir

variable {s : State} {pb : Fin 68} {x : XcArgs} {op : XcOp} {wop : WeirOp} {c : Instr} {b n : Nat}

/-- A Weir instruction whose operands are in order sends its operation, or retires with its reply (R207). -/
theorem State.xcWeir_spec (hb : b < 64) (hn : n < 2048) (ha : x.a = b * 2 ^ 16 + n) (hrd : wop ≠ .read → rvRd x.w = 0)
    (hv : wop.Accepts x.b) (hallowed : s.weirAllowed pb b = true) :
    ((s.bench pb).fm.st ≠ .stalled → s.xcWeir pb x wop =
      .stall ((s.onFm pb (fun f => { f with weirId := f.weirId + 1, weirReply := none })).sendWeir b n wop x.b
        ⟨pb, true, (s.bench pb).fm.weirId + 1⟩)) ∧
    (∀ v, (s.bench pb).fm.st = .stalled → (s.bench pb).fm.weirReply = some v → s.xcWeir pb x wop =
      .retire (s.onFm pb (fun f => { f with weirReply := none })) (if wop = .read then some v else none) 1) := by
  have htarget : bits x.a 21 16 = b := by
    rw [ha, bits, Nat.shiftRight_eq_div_pow]
    omega
  have hweir : x.a % 2048 = n := by omega
  have hmask : x.a &&& 0x3F07FF = x.a := by
    rw [ha]
    exact land_of_fields (p := 6) (q := 11) hb hn (by decide)
  have hclean : x.clean (decide (wop = .read)) true 0x3F07FF = true :=
    XcArgs.clean_of (fun h => hrd (of_decide_eq_false h)) nofun hmask
  obtain ⟨hnamed, harrive⟩ := hv.checks
  have hid : ((s.onFm pb (fun f => { f with weirId := f.weirId + 1, weirReply := none })).bench pb).fm.weirId =
      (s.bench pb).fm.weirId + 1 := by rw [State.fm_onFm]
  unfold State.xcWeir
  dsimp only
  rw [htarget, hweir, hclean, hallowed, hid, hnamed, harrive]
  refine ⟨fun hst => if_neg hst, fun v hst hreply => ?_⟩
  rw [hreply]
  exact if_pos hst

/-- A Weir instruction sends its operation and stalls (R207). -/
theorem exec_xcWeir_send (hrow : WeirRow pb op wop c) (hat : s.xcAt pb op x) (hb : b < 64) (hn : n < 2048)
    (ha : x.a = b * 2 ^ 16 + n) (hrd : wop ≠ .read → rvRd x.w = 0) (hv : wop.Accepts x.b) (hallowed : s.weirAllowed pb b = true) :
    ∃ t, exec c s = .next t ∧ t = { s with benches := t.benches, net := t.net } ∧ BenchesApart s t pb ∧
      t.bench pb = { s.bench pb with fm := { (s.bench pb).fm with
        st := .stalled, weirId := (s.bench pb).fm.weirId + 1, weirReply := none } } ∧
      t.net = { s.net with weirOps := s.net.weirOps ++ [⟨b, n, wop, x.b, ⟨pb, true, (s.bench pb).fm.weirId + 1⟩⟩] } := by
  have hrunning : (s.bench pb).fm.st ≠ .stalled := by
    rw [hat.st]
    decide
  have hsend := (hrow.run s x).trans ((State.xcWeir_spec hb hn ha hrd hv hallowed).1 hrunning)
  obtain ⟨u, hu⟩ : ∃ u, u = (s.onFm pb (fun f => { f with weirId := f.weirId + 1, weirReply := none })).sendWeir b n wop x.b
    ⟨pb, true, (s.bench pb).fm.weirId + 1⟩ := ⟨_, rfl⟩
  rw [← hu] at hsend
  have hbench (q : Nat) : u.bench q = (s.onFm pb (fun f => { f with weirId := f.weirId + 1, weirReply := none })).bench q :=
    hu ▸ rfl
  refine ⟨_, exec_xcRow_of_stall hrow.row hat hsend, ?_, fun q hq => ?_, ?_, ?_⟩
  · rw [hu]
    rfl
  · rw [State.onFm, State.bench_onBench_ne _ _ hq, hbench, State.onFm, State.bench_onBench_ne _ _ hq]
  · rw [State.onFm, State.bench_onBench, hbench, State.onFm, State.bench_onBench]
  · rw [hu]
    rfl

/-- A Weir instruction that has its reply retires (R203, R207). -/
theorem exec_stalledInstructionRetire_weir {v : Nat} (hrow : WeirRow pb op wop c) (hat : s.fmAt pb .stalled x.w 4)
    (hop : xcOf x.w = some op) (hxa : x.a = (s.bench pb).fm.x (rvRs1 x.w)) (hxb : x.b = (s.bench pb).fm.x (rvRs2 x.w)) (hb : b < 64)
    (hn : n < 2048) (ha : x.a = b * 2 ^ 16 + n) (hrd : wop ≠ .read → rvRd x.w = 0) (hv : wop.Accepts x.b)
    (hallowed : s.weirAllowed pb b = true) (hreply : (s.bench pb).fm.weirReply = some v) :
    ∃ t, exec (.stalledInstructionRetire pb) s = .next t ∧ BenchOnly s t pb (s.bench pb) ∧
      FmRetired (s.bench pb).fm (t.bench pb).fm x.w 4 (if wop = .read then some v else none) ∧ (t.bench pb).fm.weirReply = none := by
  have hst := State.st_of_fmFetch hat.fetch
  have hretire := (hrow.run s x).trans ((State.xcWeir_spec hb hn ha hrd hv hallowed).2 v hst hreply)
  have hretry : s.fmRetry pb = s.xcEnd pb x.w (s.xcRun pb op x) := by
    rw [← State.xcStep_eq op hxa hxb]
    simp only [State.fmRetry, hat.fetch, hop]
  obtain ⟨u, hu⟩ : ∃ u, u = s.onFm pb (fun f => { f with weirReply := none }) := ⟨_, rfl⟩
  rw [hretire, ← hu] at hretry
  have hfm : (u.bench pb).fm = { (s.bench pb).fm with weirReply := none } := hu ▸ s.fm_onFm pb _
  have honly : BenchOnly s u pb (s.bench pb) := hu ▸ s.benchOnly_onFm pb _
  have hstopped : (s.bench pb).fm.st ≠ .stopped := by
    rw [hst]
    decide
  obtain ⟨hthen, hretired, hwr⟩ := State.xcRetired_spec (u := u) (w := x.w) (cost := 1) (v := if wop = .read then some v else none)
    hstopped ⟨_, hfm⟩ rfl
  exact ⟨_, (next_live_of_running hat.running _).trans (congrArg _ hretry), honly.trans hthen, hretired, hwr.trans (by rw [hfm])⟩

end Weir

end Sys2Proof.Machine
end

section
/-! PROOF. xc.send and xc.rfree: a message takes a credit and the next number of its route, entries leave the head of a ring (R208, R209,
R214). -/

namespace Sys2Proof.Machine

section Send

variable {s : State} {pb r : Nat}

/-- A route that has used a credit and a number. -/
def State.creditUsed (s : State) (pb r : Nat) : State :=
  (s.wr (Fld.BENCH_ROUTE_STAT_AVAIL pb r) (s.rd (Fld.BENCH_ROUTE_STAT_AVAIL pb r) - 1)).wr (Fld.BENCH_ROUTE_STAT_SEQ pb r)
    (s.rd (Fld.BENCH_ROUTE_STAT_SEQ pb r) + 1)

theorem State.regsApart_creditUsed (s : State) (pb r : Nat) : RegsApart s (s.creditUsed pb r) [Reg.BENCH_ROUTE_STAT pb r] :=
  ((RegsApart.of_regs_eq (rfl : s.regs = s.regs) _).wr _ _ List.mem_cons_self).wr _ _ List.mem_cons_self

theorem State.rd_avail_creditUsed (s : State) (pb r : Nat) : (s.creditUsed pb r).rd (Fld.BENCH_ROUTE_STAT_AVAIL pb r) =
    s.rd (Fld.BENCH_ROUTE_STAT_AVAIL pb r) - 1 := by
  rw [State.creditUsed, State.rd_wr_apart _ _ _ _ (.inr ⟨(by decide : 63 < 64), .inr (by decide : 47 < 56)⟩)]
  exact State.rd_wr_of_lt _ (by decide : 63 < 64) (by decide : 56 ≤ 63)
    (lt_of_le_of_lt (Nat.sub_le _ _) (s.rd_lt (Fld.BENCH_ROUTE_STAT_AVAIL pb r)))

theorem State.rd_seq_creditUsed (s : State) (pb r : Nat) : (s.creditUsed pb r).rd (Fld.BENCH_ROUTE_STAT_SEQ pb r) =
    (s.rd (Fld.BENCH_ROUTE_STAT_SEQ pb r) + 1) % 65536 :=
  State.rd_wr _ _ _ (by decide : 47 < 64) (by decide : 32 ≤ 47)

theorem State.devId_creditUsed (s : State) (pb r : Nat) : (s.creditUsed pb r).devId = s.devId := by
  refine (s.regsApart_creditUsed pb r).rd (f := Fld.HALL_ID_DEV_ID) (fun h => ?_)
  have hkey := List.mem_singleton.mp h
  simp only [Fld.HALL_ID_DEV_ID, Reg.HALL_ID, Reg.BENCH_ROUTE_STAT] at hkey
  omega

theorem State.logBadData_of_nil (h : (s.bench pb).dmem.bad = []) (addr len reader : Nat) : s.logBadData pb addr len reader = s := by
  have hnone : ((List.range len).map (fun i => addr + 32 * i)).filter (fun a => (s.bench pb).dmem.bad.contains (a / 32)) = [] :=
    List.filter_eq_nil_iff.mpr (fun a _ => by rw [h]; exact Bool.false_ne_true)
  rw [State.logBadData, hnone]
  rfl

/-- A packet that this device sends to itself is delivered. -/
theorem State.inject_of_here {p : Packet} (h : p.dest = s.devId) : s.inject p = s.deliver p none 0 := by
  have hmay : s.maySend p = true := by
    rw [State.maySend, decide_eq_true h, Bool.or_true, Bool.true_or]
  rw [State.inject, if_neg (by rw [hmay]; decide), if_neg (fun hh => hh.2 h), State.route, State.nextHop, if_pos h]

/-- A message on its way to a bench of this device, as xc.send makes it (R208). -/
def State.letterOf (s : State) (pb r h len addr arg : Nat) : Message where
  dest := s.rd (Fld.BENCH_ROUTE_BENCH pb r)
  ring := s.rd (Fld.BENCH_ROUTE_RING pb r)
  handler := h
  seq := s.rd (Fld.BENCH_ROUTE_STAT_SEQ pb r)
  srcDev := s.devId
  srcBench := (s.logicalOf pb).getD 0
  srcRoute := r
  tenant := s.benchTenant pb
  arg := arg
  payload := (s.bench pb).dmem.mem.readBytes addr (32 * len)
  link := none
  cls := 0
  flits := flitsFor ((s.bench pb).dmem.mem.readBytes addr (32 * len)).length

/-- The fields of a message's packet come back as they were put in (Table 13.6). -/
theorem messageFields {r h seq bench ring : Nat} (hr : r < 256) (hh : h < 256) (hseq : seq < 2 ^ 16) (hbench : bench < 2 ^ 6)
    (hring : ring < 2 ^ 4) :
    bits (bench * 2 ^ 58 + ring * 2 ^ 54) 63 58 = bench ∧ bits (bench * 2 ^ 58 + ring * 2 ^ 54) 57 54 = ring ∧
      bits (r * 2 ^ 24 + h * 2 ^ 16 + seq) 31 24 = r ∧ bits (r * 2 ^ 24 + h * 2 ^ 16 + seq) 23 16 = h ∧
      bits (r * 2 ^ 24 + h * 2 ^ 16 + seq) 15 0 = seq := by
  simp only [bits, Nat.shiftRight_eq_div_pow]
  omega

/-- A message to a bench of this device (R208, R214). -/
theorem State.sendMessage_of_here {h len addr arg : Nat} (hr : r < 256) (hh : h < 256) (hbad : (s.bench pb).dmem.bad = [])
    (hdev : s.rd (Fld.BENCH_ROUTE_DEV pb r) = s.devId) :
    s.sendMessage pb r h len addr arg = { s.creditUsed pb r with
      net := { s.net with messages := s.net.messages ++ [s.letterOf pb r h len addr arg] } } := by
  obtain ⟨hbench, hring, hroute, hhandler, hseq⟩ := messageFields hr hh (s.rd_lt (Fld.BENCH_ROUTE_STAT_SEQ pb r))
    (s.rd_lt (Fld.BENCH_ROUTE_BENCH pb r)) (s.rd_lt (Fld.BENCH_ROUTE_RING pb r))
  unfold State.sendMessage
  dsimp only
  rw [State.logBadData_of_nil hbad, ← State.creditUsed, State.inject_of_here (hdev.trans (s.devId_creditUsed pb r).symm)]
  simp only [State.deliver, State.packet, hbench, hring, hroute, hhandler, hseq, if_true]
  rfl

/-- The operands of xc.send pass its checks, and name a route, a handler, a length and an address (R208). -/
theorem sendOperand {x : XcArgs} {r h len addr : Nat} (hr : r < 256) (hh : h < 256) (hlen : len ≤ 8) (haddr : addr < 2 ^ 18)
    (ha : x.a = addr * 2 ^ 32 + len * 2 ^ 16 + h * 2 ^ 8 + r) :
    x.clean true true 0x0003FFFF000FFFFF = true ∧ bits x.a 7 0 = r ∧ bits x.a 15 8 = h ∧ bits x.a 19 16 = len ∧ bits x.a 49 32 = addr := by
  have hlow : len * 2 ^ 16 + h * 2 ^ 8 + r < 2 ^ 20 := by omega
  refine ⟨XcArgs.clean_of nofun nofun ?_, ?_⟩
  · rw [ha, Nat.add_assoc, Nat.add_assoc, ← Nat.add_assoc (len * 2 ^ 16)]
    exact land_of_fields (p := 18) (q := 20) haddr hlow (by decide)
  · rw [ha]
    simp only [bits, Nat.shiftRight_eq_div_pow]
    omega

theorem State.xcSend_of_credit {x : XcArgs} {h len addr : Nat} (hr : r < 256) (hh : h < 256)
    (ha : x.a = addr * 2 ^ 32 + len * 2 ^ 16 + h * 2 ^ 8 + r) (hroute : s.routeOk pb r = true) (hlen : len ≤ 8) (hal : addr % 32 = 0)
    (haddr : addr < 2 ^ 18) (hend : addr + 32 * len ≤ 2 ^ 18) (havail : 1 ≤ s.rd (Fld.BENCH_ROUTE_STAT_AVAIL pb r)) :
    s.xcSend pb x = .retire (s.sendMessage pb r h len addr x.b) (some (s.rd (Fld.BENCH_ROUTE_STAT_SEQ pb r))) (1 + len) := by
  obtain ⟨hclean, hbr, hbh, hblen, hbaddr⟩ := sendOperand hr hh hlen haddr ha
  have hpayload : payloadOk addr len = true := by
    rw [payloadOk, decide_eq_true hlen, decide_eq_true hal, decide_eq_true (show addr + 32 * len ≤ dataBytes from hend)]
    rfl
  unfold State.xcSend
  dsimp only
  rw [hbr, hbh, hblen, hbaddr, hclean, hroute, hpayload]
  exact if_neg (Nat.ne_of_gt havail)

/-- Entries that a ring holds once n of them have been released. -/
theorem State.ringOcc_ringRelease (s : State) (pb i : Nat) {n : Nat} (hn : n ≤ s.ringOcc pb i) :
    (s.ringRelease pb i n).ringOcc pb i = s.ringOcc pb i - n := by
  obtain ⟨-, -, hwr, hrd⟩ := State.ringRelease_spec pb i n s
  have hw := s.rd_lt (Fld.BENCH_RING_PTR_WR_COUNT pb i)
  have hr := s.rd_lt (Fld.BENCH_RING_PTR_RD_COUNT pb i)
  have hw16 : s.rd (Fld.BENCH_RING_PTR_WR_COUNT pb i) < 2 ^ 16 := hw
  have hr16 : s.rd (Fld.BENCH_RING_PTR_RD_COUNT pb i) < 2 ^ 16 := hr
  unfold State.ringOcc at hn ⊢
  rw [hwr, hrd]
  omega

theorem State.xcRfree_eq {x : XcArgs} (ha : x.a < 16) : s.xcRfree pb x =
    .retire (s.ringRelease pb x.a (min x.b (s.ringOcc pb x.a))) (some (s.ringOcc pb x.a - min x.b (s.ringOcc pb x.a))) 2 := by
  have hclean : x.clean true true 0xF = true := XcArgs.clean_of nofun nofun (land_of_lt (show x.a < 2 ^ 4 from ha))
  unfold State.xcRfree
  rw [hclean]
  dsimp only
  rw [State.ringOcc_ringRelease s pb x.a (Nat.min_le_right _ _)]
  exact if_neg Bool.false_ne_true

end Send

section Rows

variable {s : State} {pb : Fin 68} {x : XcArgs}

/-- xc.send on a route of this device (R208, R214). -/
theorem exec_xcSend {r h len addr : Nat} (hat : s.xcAt pb .send x) (hr : r < 256) (hh : h < 256)
    (ha : x.a = addr * 2 ^ 32 + len * 2 ^ 16 + h * 2 ^ 8 + r) (hroute : s.routeOk pb r = true) (hlen : len ≤ 8) (hal : addr % 32 = 0)
    (haddr : addr < 2 ^ 18) (hend : addr + 32 * len ≤ 2 ^ 18) (havail : 1 ≤ s.rd (Fld.BENCH_ROUTE_STAT_AVAIL pb r))
    (hbad : (s.bench pb).dmem.bad = []) (hdev : s.rd (Fld.BENCH_ROUTE_DEV pb r) = s.devId) :
    ∃ t, exec (.xcSend pb) s = .next t ∧ t = { s with benches := t.benches, net := t.net, regs := t.regs } ∧
      t.regs = (s.creditUsed pb r).regs ∧ BenchesApart s t pb ∧
      FmRetired (s.bench pb).fm (t.bench pb).fm x.w 4 (some (s.rd (Fld.BENCH_ROUTE_STAT_SEQ pb r))) ∧
      t.net = { s.net with messages := s.net.messages ++ [s.letterOf pb r h len addr x.b] } := by
  obtain ⟨u, hu⟩ : ∃ u, u = s.sendMessage pb r h len addr x.b := ⟨_, rfl⟩
  have hrun : s.xcRun pb .send x = .retire u (some (s.rd (Fld.BENCH_ROUTE_STAT_SEQ pb r))) (1 + len) :=
    hu ▸ State.xcSend_of_credit hr hh ha hroute hlen hal haddr hend havail
  rw [State.sendMessage_of_here hr hh hbad hdev] at hu
  have hbench (q : Nat) : u.bench q = s.bench q := hu ▸ rfl
  obtain ⟨t, hexec, hretired, hframe, hapart, -⟩ := exec_xcRow_retired (c := .xcSend pb) (fun _ => rfl) hat hrun
    (congrArg Bench.fm (hbench pb))
  refine ⟨t, hexec, ?_, ?_, fun q hq => (hapart q hq).trans (hbench q), hretired, ?_⟩
  · rw [hframe, hu]
    rfl
  · rw [hframe, hu]
  · rw [hframe, hu]

/-- xc.rfree of entries of a ring (R209). -/
theorem exec_xcRfree (hat : s.xcAt pb .rfree x) (ha : x.a < 16) :
    ∃ t, exec (.xcRfree pb) s = .next t ∧ BenchesApart s t pb ∧
      t.regs = (s.ringRelease pb x.a (min x.b (s.ringOcc pb x.a))).regs ∧ (t.bench pb).dmem = (s.bench pb).dmem ∧
      FmRetired (s.bench pb).fm (t.bench pb).fm x.w 4 (some (s.ringOcc pb x.a - min x.b (s.ringOcc pb x.a))) := by
  obtain ⟨hbenches, -⟩ := State.ringRelease_spec pb x.a (min x.b (s.ringOcc pb x.a)) s
  have hbench (q : Nat) := State.bench_congr hbenches q
  obtain ⟨t, hexec, hretired, hframe, hapart, hown⟩ := exec_xcRow_retired (c := .xcRfree pb) (fun _ => rfl) hat (State.xcRfree_eq ha)
    (congrArg Bench.fm (hbench pb))
  refine ⟨t, hexec, fun q hq => (hapart q hq).trans (hbench q), ?_, ?_, hretired⟩
  · rw [hframe]
  · rw [hown, hbench]

end Rows

end Sys2Proof.Machine
end

section
/-! PROOF. The Xchotra instructions, put together (R203-R209). -/

namespace Sys2Proof.Machine

/-- Settles O35: every Xchotra instruction whose operands are in order retires, or stalls until its reply, as the lemmas above say. -/
theorem xchotraInstructionsAct : Obligations.XchotraInstructionsAct := by
  refine ⟨⟨?_, ?_, ?_, ?_⟩, ?_, ?_, ?_⟩
  · rintro s pb x st word bad mem c (⟨rfl, rfl, hat, hword, rfl⟩ | ⟨rfl, rfl, hat, ha, hrs2, hword, hbad⟩) hst hst5 hrd hsrc hlock
      hresume hroom hclosed hended
    · have ha64 : x.a < 2 ^ 64 := hat.a ▸ Foreman.x_lt _ _
      obtain ⟨cost, hrun⟩ := State.xcPush_of_room (mem := false) (XcArgs.clean_of (fun _ => hrd) nofun (land_of_lt ha64)) hword rfl hst
        hst5 hsrc hlock hresume hroom hclosed hended
      exact exec_xcPush (fun _ => rfl) hat hrun
    · have ha14 : x.a < 2 ^ 14 := ha
      obtain ⟨cost, hrun⟩ := State.xcPush_of_room (mem := true) (XcArgs.clean_of (fun _ => hrd) (fun _ => hrs2) (land_of_lt ha14)) hword
        hbad hst hst5 hsrc hlock hresume hroom hclosed hended
      exact exec_xcPush (fun _ => rfl) hat hrun
  · intro s pb x tb i htb hi ha
    refine ⟨fun hat hrd => exec_xcTw hat htb hi ha hrd, fun hat hrs2 hbad => ?_⟩
    obtain ⟨t, hexec, hretired, honly⟩ := exec_xcRow_benchOnly (c := .xcTr pb) (fun _ => rfl) hat
      (State.xcTable_read htb hi ha hrs2 hbad) (.refl s pb) rfl
    exact ⟨t, hexec, honly, hretired⟩
  · intro s pb x hat hrd hrs2 ha hroom
    exact exec_xcRow_benchOnly (fun _ => rfl) hat (State.xcTkpost_of_room hrd hrs2 ha hroom) (.setBench s pb _)
      (by rw [State.bench_setBench]; rfl)
  · intro s pb x hrs2 ha
    refine ⟨fun hat hpos => ?_, fun hat hzero => ?_, fun hat => ?_⟩
    · exact exec_xcRow_benchOnly (fun _ => rfl) hat ((State.xcTk_wait hrs2 ha).trans (if_neg (Nat.ne_of_gt hpos))) (.setBench s pb _)
        (by rw [State.bench_setBench]; rfl)
    · refine ⟨_, exec_xcRow_of_stall (fun _ => rfl) hat ((State.xcTk_wait hrs2 ha).trans (if_pos hzero)), ?_⟩
      rw [State.onFm, State.bench_onBench]
    · exact exec_xcRow_benchOnly (fun _ => rfl) hat (State.xcTk_poll hrs2 ha) (.refl s pb) rfl
  · intro s pb x op wop c b n hmem hb hn ha hrd hv harr hallowed
    have hrow := weirRow_of_mem hmem
    have hrd' : wop ≠ .read → rvRd x.w = 0 := fun h => hrd (fun e => h (hrow.read.mp e))
    refine ⟨fun hat => exec_xcWeir_send hrow hat hb hn ha hrd' (hrow.accepts hv harr) hallowed,
      fun v hat hop hxa hxb hreply => ?_⟩
    simp only [hrow.read]
    exact exec_stalledInstructionRetire_weir hrow hat hop hxa hxb hb hn ha hrd' (hrow.accepts hv harr) hallowed hreply
  · intro s pb x r h len addr hat hr hh ha hroute hlen hal haddr hend havail hbad hdev
    obtain ⟨t, hexec, hframe, hregs, hapart, hretired, hnet⟩ :=
      exec_xcSend hat hr hh ha hroute hlen hal haddr hend havail hbad hdev
    exact ⟨t, s.letterOf pb r h len addr x.b, hexec, hframe, (State.rd_congr hregs _).trans (s.rd_avail_creditUsed pb r),
      (State.rd_congr hregs _).trans (s.rd_seq_creditUsed pb r), (s.regsApart_creditUsed pb r).trans (.of_regs_eq hregs _), hapart,
      hretired, hnet, rfl, rfl, rfl, rfl, rfl, rfl, rfl, rfl⟩
  · intro s pb x hat ha
    obtain ⟨t, hexec, hapart, hregs, hdmem, hretired⟩ := exec_xcRfree hat ha
    obtain ⟨-, hother, -, hrd⟩ := State.ringRelease_spec pb x.a (min x.b (s.ringOcc pb x.a)) s
    exact ⟨t, hexec, hapart, (State.rd_congr hregs _).trans hrd, hother.trans (.of_regs_eq hregs _), hdmem, hretired⟩

end Sys2Proof.Machine
end

section
/-! PROOF. The commands of the key table: what the writes of DEVCTL_KEY_CMD capture, and when they only set OVERRUN (R222). -/

namespace Sys2Proof.Machine

/-- Verb v of a key command register, INSTALL (63), REMOVE (62) or READ (61), is the only one that data names. -/
def KeyVerb (v : Nat) (data : Reg64) : Prop := v < 3 ∧ [63, 62, 61].filter (fun i => data.getLsbD i) = [63 - v]

/-- The word that KEY_INSTALL, KEY_REMOVE and KEY_READ write. -/
theorem keyWord_fields {v i : Nat} (hv : v < 3) (hi : i < 2 ^ 12) :
    KeyVerb v (word [(63 - v, 1), (0, i)]) ∧ getBits (word [(63 - v, 1), (0, i)]) 11 0 = i := by
  have hword : word [(63 - v, 1), (0, i)] = BitVec.ofNat 64 (2 ^ (63 - v) + i) := by simp [word]
  have hbit : ∀ k ∈ [63, 62, 61], (BitVec.ofNat 64 (2 ^ (63 - v) + i)).getLsbD k = decide (k = 63 - v) := by
    intro k hk
    simp only [List.mem_cons, List.not_mem_nil, or_false] at hk
    rcases hk with rfl | rfl | rfl <;> interval_cases v <;> exact getLsbD_ofNat (by decide) (decide_eq_decide.mpr (by omega))
  rw [hword]
  refine ⟨⟨hv, ?_⟩, ?_⟩
  · rw [List.filter_congr hbit]
    interval_cases v <;> rfl
  · interval_cases v <;> exact getBits_ofNat (by omega) (by omega)

/-- Each key command is a write of the command register that names its verb and its entry. -/
theorem exec_keyCommand {s : State} {vw : View} {i : BitVec 12} {v : Nat} {c : Instr}
    (hc : v = 0 ∧ c = .keyInstall vw i ∨ v = 1 ∧ c = .keyRemove vw i ∨ v = 2 ∧ c = .keyRead vw i) :
    v < 3 ∧ exec c s = .next (s.busWrite vw Reg.DEVCTL_KEY_CMD (word [(63 - v, 1), (0, i.toNat)])) := by
  rcases hc with ⟨rfl, rfl⟩ | ⟨rfl, rfl⟩ | ⟨rfl, rfl⟩ <;> exact ⟨by decide, rfl⟩

theorem State.resolve_keyCmd (s : State) : s.resolve Reg.DEVCTL_KEY_CMD = some Reg.DEVCTL_KEY_CMD := by
  simp [State.resolve, logicalAt, Reg.DEVCTL_KEY_CMD]

section Command

variable {s : State} {vw : View} {v : Nat} {data : Reg64}

theorem State.busWrite_keyCmd (hw : s.writable vw Reg.DEVCTL_KEY_CMD = true) :
    s.busWrite vw Reg.DEVCTL_KEY_CMD data = s.keyCmd data :=
  State.busWrite_of_writeReg hw s.resolve_keyCmd rfl

/-- The state with a key operation captured, and BUSY set. -/
def State.keyCaptured (s : State) (op : KeyOp) : State :=
  { s with ledges := { s.ledges with keyOp := some op } }.wrB Fld.DEVCTL_KEY_STATUS_BUSY true

/-- One verb, and no key operation runs: the verb, the entry and the stage registers are captured. -/
theorem State.keyCmd_of_idle (hverb : KeyVerb v data) (hop : s.ledges.keyOp = none) :
    s.keyCmd data = (s.soft Reg.DEVCTL_KEY_CMD data).keyCaptured ⟨v, getBits data 11 0, s.keyStage⟩ := by
  obtain ⟨hv, hfilter⟩ := hverb
  have hback : 63 - (63 - v) = v := by omega
  simp [State.keyCmd, State.keyCaptured, hfilter, hop, hback]

/-- A verb while a key operation runs: only OVERRUN. -/
theorem State.keyCmd_of_busy (hverb : KeyVerb v data) (hop : s.ledges.keyOp.isSome = true) :
    s.keyCmd data = s.wr Fld.DEVCTL_KEY_STATUS_OVERRUN 1 := by
  simp [State.keyCmd, hverb.2, hop, State.wrB]

theorem State.keyCaptured_spec {t : State} {op : KeyOp} (ht : t = (s.soft Reg.DEVCTL_KEY_CMD data).keyCaptured op) :
    t = { s with regs := t.regs, ledges := t.ledges } ∧ t.ledges = { s.ledges with keyOp := some op } ∧
      t.flag Fld.DEVCTL_KEY_STATUS_BUSY = true ∧ RegsApart s t [Reg.DEVCTL_KEY_CMD, Reg.DEVCTL_KEY_STATUS] := by
  have hsoft : RegsApart s (s.soft Reg.DEVCTL_KEY_CMD data) [Reg.DEVCTL_KEY_CMD, Reg.DEVCTL_KEY_STATUS] :=
    fun k hk => s.regsApart_soft _ data k (fun h => hk (List.mem_cons.mpr (.inl (List.mem_singleton.mp h))))
  subst ht
  exact ⟨rfl, rfl, State.flag_wrB _ true (by decide) (by decide), (hsoft.trans (.of_regs_eq rfl _)).wr _ _ (by decide)⟩

end Command

end Sys2Proof.Machine
end

section
/-! PROOF. How the operations of the key table end: what INSTALL, REMOVE and READ store, and their status (R222, R223, Table 8.3; its
corners: log 24, 67). -/

namespace Sys2Proof.Machine

theorem keyStatus_fields : StatusFields Reg.DEVCTL_KEY_STATUS Fld.DEVCTL_KEY_STATUS_DONE Fld.DEVCTL_KEY_STATUS_INDEX
    Fld.DEVCTL_KEY_STATUS_RESULT := by
  constructor <;> decide

theorem State.keyVerdict_lt (s : State) (i : Nat) (u : Bool) (e : List Reg64) : s.keyVerdict i u e < 2 ^ 4 := by
  unfold State.keyVerdict
  split_ifs <;> decide

/-- The checks of Table 8.3 read the primes, the chains and the sizes of the spaces alone. -/
theorem State.keyVerdict_congr {s t : State} (hprimes : t.primes = s.primes) (hspace : t.spaceBytes = s.spaceBytes) (i : Nat) (u : Bool)
    (e : List Reg64) : t.keyVerdict i u e = s.keyVerdict i u e := by
  have hchain : t.chainEnt = s.chainEnt := by unfold State.chainEnt; rw [hprimes]
  have hent : t.primeEnt = s.primeEnt := by unfold State.primeEnt; rw [hprimes]
  unfold State.keyVerdict State.keyShapeOk State.keyAddrOk State.segBytes State.keyBenchBytes State.keySlots State.chainPrime
    State.chainSlot
  rw [hchain, hent, hspace]

theorem State.keyEnt_setKey (s : State) (k j : Nat) (e : List Reg64) : (s.setKey k e).keyEnt j = if j = k then e else s.keyEnt j :=
  Sparse.get_set _ _ _ _ _

theorem stageReg_injective : Function.Injective Reg.DEVCTL_KEY_STAGE := fun a b h => by
  simp only [Reg.DEVCTL_KEY_STAGE] at h
  omega

/-- The stage registers with an entry copied to them. -/
def State.stageKey (s : State) (e : List Reg64) : State :=
  (List.range 8).foldl (fun s k => s.setReg (Reg.DEVCTL_KEY_STAGE k) (e.getD k 0)) s

theorem State.regsOnly_stageKey (s : State) (e : List Reg64) : RegsOnly s (s.stageKey e) :=
  RegsOnly.foldl (fun t _ => (RegsOnly.refl t).setReg _ _) _ (.refl s)

theorem State.reg_stageKey (s : State) (e : List Reg64) {k : Nat} (hk : k < 8) :
    (s.stageKey e).reg (Reg.DEVCTL_KEY_STAGE k) = e.getD k 0 :=
  foldl_read_touched _ (fun t : State => t.reg (Reg.DEVCTL_KEY_STAGE k)) k _ (fun t => t.reg_setReg _ _) _ s (List.mem_range.mpr hk)
    (fun _ _ hj t => t.reg_setReg_ne _ (fun h => hj (stageReg_injective h).symm))

theorem keyStatus_ne_stage {k : Nat} (hk : k < 8) : Reg.DEVCTL_KEY_STATUS ≠ Reg.DEVCTL_KEY_STAGE k := by
  simp only [Reg.DEVCTL_KEY_STATUS, Reg.DEVCTL_KEY_STAGE]
  omega

theorem State.reg_keyStatus_stageKey (s : State) (e : List Reg64) :
    (s.stageKey e).reg Reg.DEVCTL_KEY_STATUS = s.reg Reg.DEVCTL_KEY_STATUS :=
  foldl_read_untouched _ (fun t : State => t.reg Reg.DEVCTL_KEY_STATUS) _ s
    (fun _ hk t => t.reg_setReg_ne _ (keyStatus_ne_stage (List.mem_range.mp hk)))

/-- The state as a key operation ends: none runs, and BUSY is clear. -/
def State.keyIdle (s : State) : State :=
  { s with ledges := { s.ledges with keyOp := none } }.wrB Fld.DEVCTL_KEY_STATUS_BUSY false

theorem State.spaceBytes_keyIdle (s : State) : s.keyIdle.spaceBytes = s.spaceBytes := by
  have hactive : s.keyIdle.rd Fld.DEVCTL_HBM_CFG_ACTIVE = s.rd Fld.DEVCTL_HBM_CFG_ACTIVE :=
    State.rd_wrB_apart _ _ _ _ (.inl (by decide))
  unfold State.spaceBytes
  rw [hactive]

/-- The RESULT of a key operation. -/
def State.keyResult (s : State) (op : KeyOp) : Nat :=
  if op.verb = 0 then s.keyVerdict op.index (s.keyInUse op.index) op.stage
  else if op.verb = 1 ∧ s.keyInUse op.index = true then 1 else 0

theorem State.keyResult_lt (s : State) (op : KeyOp) : s.keyResult op < 2 ^ 4 := by
  unfold State.keyResult
  split_ifs
  · exact s.keyVerdict_lt _ _ _
  · decide
  · decide

theorem State.keyResult_of_read (s : State) {op : KeyOp} (h : op.verb = 2) : s.keyResult op = 0 := by
  rw [State.keyResult, if_neg (by omega), if_neg (by omega)]

theorem State.keyResult_keyIdle (s : State) (op : KeyOp) : s.keyIdle.keyResult op = s.keyResult op := by
  have hverdict := State.keyVerdict_congr (s := s) (t := s.keyIdle) rfl s.spaceBytes_keyIdle op.index (s.keyInUse op.index) op.stage
  exact if_congr Iff.rfl hverdict rfl

/-- What a key operation that ends with RESULT r stores in the table or in the stage registers. -/
def State.keyStored (s : State) (op : KeyOp) (r : Nat) : State :=
  if r ≠ 0 then s
  else if op.verb = 0 then s.setKey op.index op.stage
  else if op.verb = 1 then s.setKey op.index []
  else s.stageKey (s.keyEnt op.index)

/-- The status of a key operation that has ended. -/
def State.keyDone (s : State) (i r : Nat) : State :=
  ((s.wrB Fld.DEVCTL_KEY_STATUS_DONE true).wr Fld.DEVCTL_KEY_STATUS_INDEX i).wr Fld.DEVCTL_KEY_STATUS_RESULT r

theorem State.keyComplete_of_op {s : State} {op : KeyOp} (hop : s.ledges.keyOp = some op) :
    s.keyComplete = (s.keyIdle.keyStored op (s.keyResult op)).keyDone op.index (s.keyResult op) := by
  rw [← s.keyResult_keyIdle op]
  unfold State.keyComplete
  rw [hop]
  simp only [Bool.decide_eq_true]
  rfl

/-- The status register shows the end of the operation, and its BUSY is as before. -/
theorem State.keyDone_spec {s t : State} {i r : Nat} (ht : t = s.keyDone i r) (hi : i < 4096) (hr : r < 2 ^ 4) :
    t.flag Fld.DEVCTL_KEY_STATUS_BUSY = s.flag Fld.DEVCTL_KEY_STATUS_BUSY ∧ t.flag Fld.DEVCTL_KEY_STATUS_DONE = true ∧
      t.rd Fld.DEVCTL_KEY_STATUS_INDEX = i ∧ t.rd Fld.DEVCTL_KEY_STATUS_RESULT = r ∧ RegsApart s t [Reg.DEVCTL_KEY_STATUS] := by
  refine ⟨?_, keyStatus_fields.spec s hi hr ht⟩
  rw [ht, State.keyDone, State.flag_wr_apart _ _ _ _ (.inr (by decide)), State.flag_wr_apart _ _ _ _ (.inr (by decide)), State.wrB,
    State.flag_wr_apart _ _ _ _ (.inr (by decide))]

/-- INSTALL stores the captured stage, REMOVE nothing, READ the entry in the stage registers; beside the table and these registers all
stays. -/
theorem State.keyStored_spec {s t : State} {op : KeyOp} {r : Nat} (ht : t = s.keyStored op r) :
    (∃ rs ks, t = { s with regs := rs, ledges := { s.ledges with keys := ks } }) ∧
      t.keyEnt op.index = (if r = 0 ∧ op.verb = 0 then op.stage else if r = 0 ∧ op.verb = 1 then [] else s.keyEnt op.index) ∧
      (∀ j, j ≠ op.index → t.keyEnt j = s.keyEnt j) ∧
      (r = 0 → op.verb = 2 → ∀ k, k < 8 → t.reg (Reg.DEVCTL_KEY_STAGE k) = (s.keyEnt op.index).getD k 0) ∧
      t.reg Reg.DEVCTL_KEY_STATUS = s.reg Reg.DEVCTL_KEY_STATUS := by
  have hset (e : List Reg64) := fun j => s.keyEnt_setKey op.index j e
  subst ht
  unfold State.keyStored
  by_cases hr : r = 0
  · by_cases h0 : op.verb = 0
    · rw [if_neg (not_not.mpr hr), if_pos h0, if_pos ⟨hr, h0⟩]
      exact ⟨⟨_, _, rfl⟩, (hset _ _).trans (if_pos rfl), fun j hj => (hset _ j).trans (if_neg hj), fun _ h2 => by omega, rfl⟩
    · by_cases h1 : op.verb = 1
      · rw [if_neg (not_not.mpr hr), if_neg h0, if_pos h1, if_neg (fun h => h0 h.2), if_pos ⟨hr, h1⟩]
        exact ⟨⟨_, _, rfl⟩, (hset _ _).trans (if_pos rfl), fun j hj => (hset _ j).trans (if_neg hj), fun _ h2 => by omega, rfl⟩
      · rw [if_neg (not_not.mpr hr), if_neg h0, if_neg h1, if_neg (fun h => h0 h.2), if_neg (fun h => h1 h.2)]
        obtain ⟨rs, hrs⟩ := s.regsOnly_stageKey (s.keyEnt op.index)
        exact ⟨⟨rs, _, hrs⟩, by rw [hrs]; rfl, fun j _ => by rw [hrs]; rfl, fun _ _ k hk => s.reg_stageKey _ hk,
          s.reg_keyStatus_stageKey _⟩
  · rw [if_pos hr, if_neg (fun h => hr h.1), if_neg (fun h => hr h.1)]
    exact ⟨⟨_, _, rfl⟩, rfl, fun _ _ => rfl, fun h => absurd h hr, rfl⟩

/-- The end of a key operation: none runs, the entry or the stage registers take what the operation stores, the status follows. -/
theorem State.keyEnd_spec {s t : State} {op : KeyOp} {r : Nat} (ht : t = (s.keyIdle.keyStored op r).keyDone op.index r)
    (hi : op.index < 4096) (hr : r < 2 ^ 4) :
    t = { s with regs := t.regs, ledges := t.ledges } ∧ t.ledges.keyOp = none ∧
      t.keyEnt op.index = (if r = 0 ∧ op.verb = 0 then op.stage else if r = 0 ∧ op.verb = 1 then [] else s.keyEnt op.index) ∧
      (∀ j, j ≠ op.index → t.keyEnt j = s.keyEnt j) ∧ (∀ l n, t.lease l n = s.lease l n) ∧
      (r = 0 → op.verb = 2 → ∀ k, k < 8 → t.reg (Reg.DEVCTL_KEY_STAGE k) = (s.keyEnt op.index).getD k 0) ∧
      t.flag Fld.DEVCTL_KEY_STATUS_BUSY = false ∧ t.flag Fld.DEVCTL_KEY_STATUS_DONE = true ∧
      t.rd Fld.DEVCTL_KEY_STATUS_INDEX = op.index ∧ t.rd Fld.DEVCTL_KEY_STATUS_RESULT = r := by
  obtain ⟨u, hu⟩ : ∃ u, u = s.keyIdle.keyStored op r := ⟨_, rfl⟩
  rw [← hu] at ht
  obtain ⟨hbusy, hdone, hindex, hresult, hapart⟩ := State.keyDone_spec ht hi hr
  obtain ⟨⟨rs, ks, hframe⟩, hent, hother, hstage, hstatus⟩ := State.keyStored_spec hu
  have hidle : u.flag Fld.DEVCTL_KEY_STATUS_BUSY = false :=
    (State.flag_of_reg_eq hstatus).trans (State.flag_wrB _ false (by decide) (by decide))
  have hread (h0 : r = 0) (h2 : op.verb = 2) (k : Nat) (hk : k < 8) :
      t.reg (Reg.DEVCTL_KEY_STAGE k) = (s.keyEnt op.index).getD k 0 :=
    (hapart _ (fun h => keyStatus_ne_stage hk (List.mem_singleton.mp h).symm)).trans (hstage h0 h2 k hk)
  subst ht hframe
  exact ⟨rfl, rfl, hent, hother, fun _ _ => rfl, hread, hbusy.trans hidle, hdone, hindex, hresult⟩

/-- Settles O18: a key command names one verb, which is captured or sets OVERRUN, and the captured operation decides what its end stores. -/
theorem keyCommandsRunToTheirResult : Obligations.KeyCommandsRunToTheirResult := by
  refine ⟨fun s vw i v c hw hc => ?_, fun s op hrun hop _ hindex => ?_⟩
  · obtain ⟨hv, hexec⟩ := exec_keyCommand (s := s) hc
    obtain ⟨hword, hi⟩ := keyWord_fields hv i.isLt
    rw [hexec, State.busWrite_keyCmd hw]
    exact ⟨fun hop => ⟨_, rfl, State.keyCaptured_spec (hi ▸ State.keyCmd_of_idle hword hop)⟩,
      fun hop => congrArg _ (State.keyCmd_of_busy hword hop)⟩
  · obtain ⟨hframe, hfree, hent, hother, hlease, hstage, hstatus⟩ :=
      State.keyEnd_spec (State.keyComplete_of_op hop) hindex (s.keyResult_lt op)
    exact ⟨_, _, next_live_of_running hrun _, hframe, hfree, rfl, hent, hother, hlease,
      fun h2 => hstage (s.keyResult_of_read h2) h2, hstatus⟩

end Sys2Proof.Machine
end

section
/-! PROOF. Float arithmetic (R263-R266): a normal value carries exactly the significant bits of its format, so one rounding gives its bits
back; sums and products are symmetric, and a NaN addend decides a sum. -/

namespace Sys2Proof.Machine

section Round

variable {f : FFmt} {b : Nat}

theorem FFmt.prec_pos (f : FFmt) : 0 < f.prec := by cases f <;> decide

/-- A number of bits is its three fields put together: sign, exponent, fraction. -/
theorem FFmt.fields_add (hb : b < 2 ^ (f.prec + 8)) :
    f.zeroBits (bit b (f.prec + 7)) + b / 2 ^ (f.prec - 1) % 256 * 2 ^ (f.prec - 1) + b % 2 ^ (f.prec - 1) = b := by
  cases f <;> simp only [FFmt.prec, FFmt.zeroBits, bit, Nat.shiftRight_eq_div_pow, decide_eq_true_eq] at hb ⊢
  all_goals split <;> omega

/-- A zero exponent reads as zero: subnormals are flushed (R264). -/
theorem FFmt.read_of_expo_zero (hx : b / 2 ^ (f.prec - 1) % 256 = 0) : f.read b = .fin (bit b (f.prec + 7)) 0 0 := by
  have hsign : f.prec - 1 + 8 = f.prec + 7 := by have := f.prec_pos; omega
  simp [FFmt.read, hx, hsign]

/-- A normal value reads as its fraction under the hidden bit. -/
theorem FFmt.read_of_normal (h1 : 1 ≤ b / 2 ^ (f.prec - 1) % 256) (h2 : b / 2 ^ (f.prec - 1) % 256 ≤ 254) :
    f.read b = .fin (bit b (f.prec + 7)) (2 ^ (f.prec - 1) + b % 2 ^ (f.prec - 1))
      (((b / 2 ^ (f.prec - 1) % 256 : Nat) : Int) - 127 - (f.prec - 1 : Nat)) := by
  have hsign : f.prec - 1 + 8 = f.prec + 7 := by have := f.prec_pos; omega
  simp only [FFmt.read, hsign]
  rw [if_neg (by omega), if_neg (by omega)]

@[simp] theorem rneShift_zero (m : Nat) : rneShift m 0 = m := by simp [rneShift, Nat.mod_one]

/-- A significand of exactly the format's bits, in the format's exponent range, is not changed by rounding (R266). -/
theorem FFmt.round_of_exact (neg : Bool) {m : Nat} {e : Int} (hlo : 2 ^ (f.prec - 1) ≤ m) (hhi : m < 2 ^ f.prec)
    (he1 : -126 ≤ e + (f.prec - 1 : Nat)) (he2 : e + (f.prec - 1 : Nat) ≤ 127) :
    f.round (.fin neg m e) =
      ⟨f.zeroBits neg + (e + (f.prec - 1 : Nat) + 127).toNat * 2 ^ (f.prec - 1) + (m - 2 ^ (f.prec - 1)), false⟩ := by
  have hprec : f.prec - 1 + 1 = f.prec := Nat.sub_add_cancel f.prec_pos
  have hm : m ≠ 0 := by have := Nat.two_pow_pos (f.prec - 1); omega
  have hlen : Nat.log2 m + 1 = f.prec := by
    rw [Nat.log2_eq_log_two, Nat.log_eq_of_pow_le_of_lt_pow hlo (hprec ▸ hhi), hprec]
  simp [FFmt.round, hm, hlen, hhi.ne, Int.not_lt.mpr he1, Int.not_lt.mpr he2]

/-- Rounding gives the bits of a normal value back. -/
theorem FFmt.round_read_of_normal (hb : b < 2 ^ (f.prec + 8)) (h1 : 1 ≤ b / 2 ^ (f.prec - 1) % 256)
    (h2 : b / 2 ^ (f.prec - 1) % 256 ≤ 254) : f.round (f.read b) = ⟨b, false⟩ := by
  have hfrac := Nat.mod_lt b (Nat.two_pow_pos (f.prec - 1))
  have hprec : 2 ^ (f.prec - 1) * 2 = 2 ^ f.prec := Nat.pow_pred_mul f.prec_pos
  rw [FFmt.read_of_normal h1 h2, FFmt.round_of_exact _ (by omega) (by omega) (by omega) (by omega)]
  have hexp : (((b / 2 ^ (f.prec - 1) % 256 : Nat) : Int) - 127 - (f.prec - 1 : Nat) + (f.prec - 1 : Nat) + 127).toNat =
      b / 2 ^ (f.prec - 1) % 256 := by omega
  rw [hexp, Nat.add_sub_cancel_left, FFmt.fields_add hb]

end Round

theorem FVal.mul_comm (a b : FVal) : a.mul b = b.mul a := by
  cases a <;> cases b <;> simp [FVal.mul, bne_comm, Nat.mul_comm, Int.add_comm]

theorem FVal.sum_perm {l l' : List FVal} (h : l.Perm l') : FVal.sum l = FVal.sum l' := by
  have hexpo : l.foldl (fun a x => min a x.expo) 0 = l'.foldl (fun a x => min a x.expo) 0 :=
    h.foldl_eq' (fun x _ y _ z => min_right_comm z x.expo y.expo) 0
  have hscaled (e : Int) : l.foldl (fun a x => a + x.scaled e) 0 = l'.foldl (fun a x => a + x.scaled e) 0 :=
    h.foldl_eq' (fun x _ y _ z => Int.add_right_comm z (x.scaled e) (y.scaled e)) 0
  simp only [FVal.sum, h.any_eq, h.all_eq, hexpo, hscaled]

/-- One NaN among the addends makes the sum NaN. -/
theorem FVal.sum_of_nan_mem {l : List FVal} (h : FVal.nan ∈ l) : FVal.sum l = .nan :=
  if_pos (List.any_eq_true.mpr ⟨_, h, rfl⟩)

@[simp] theorem FVal.nan_mul (a : FVal) : FVal.nan.mul a = .nan := rfl

/-- Unlike infinities have no sum, like ones are their own. -/
theorem FVal.sum_inf_inf (m n : Bool) : FVal.sum [.inf m, .inf n] = if m = n then .inf m else .nan := by
  cases m <;> cases n <;> rfl

@[simp] theorem FVal.inf_mul_zero (n s : Bool) (e : Int) : (FVal.inf n).mul (.fin s 0 e) = .nan := rfl

section Commands

variable (f : FFmt)

theorem fAdd_comm (a b : FVal) : fAdd f a b = fAdd f b a := congrArg f.round (FVal.sum_perm (.swap b a []))

theorem fMul_comm (a b : FVal) : fMul f a b = fMul f b a := congrArg f.round (a.mul_comm b)

theorem fFma_comm (a b d : FVal) : fFma f a b d = fFma f b a d := by rw [fFma, fFma, a.mul_comm b]

/-- Rounding NaN gives the canonical quiet NaN (R265). -/
@[simp] theorem FFmt.round_nan : f.round .nan = ⟨f.qnan, false⟩ := rfl

@[simp] theorem FFmt.round_inf (n : Bool) : f.round (.inf n) = ⟨f.infBits n, false⟩ := rfl

theorem fAdd_nan (a : FVal) : fAdd f .nan a = ⟨f.qnan, false⟩ := by
  rw [fAdd, FVal.sum_of_nan_mem List.mem_cons_self, f.round_nan]

theorem fMul_nan (a : FVal) : fMul f .nan a = ⟨f.qnan, false⟩ := by rw [fMul, FVal.nan_mul, f.round_nan]

theorem fFma_nan (a b : FVal) : fFma f a b .nan = ⟨f.qnan, false⟩ := by
  rw [fFma, FVal.sum_of_nan_mem (List.mem_cons_of_mem _ List.mem_cons_self), f.round_nan]

theorem fMinMax_of_nan {a b : FVal} (h : a = .nan ∨ b = .nan) (isMax : Bool) : fMinMax f isMax a b = ⟨f.qnan, false⟩ := if_pos h

theorem fCmp_of_nan {a b : FVal} (h : a = .nan ∨ b = .nan) (q : Nat) : fCmp q a b = false := if_pos h

theorem fAdd_inf_inf (m n : Bool) : fAdd f (.inf m) (.inf n) = ⟨if m = n then f.infBits m else f.qnan, false⟩ := by
  rw [fAdd, FVal.sum_inf_inf]
  split
  · exact f.round_inf m
  · exact f.round_nan

theorem fMul_inf_zero (n s : Bool) (e : Int) : fMul f (.inf n) (.fin s 0 e) = ⟨f.qnan, false⟩ := by
  rw [fMul, FVal.inf_mul_zero, f.round_nan]

end Commands

/-- Settles O31: a normal value has the format's own significand, so rounding keeps it; sums and products are symmetric before the one
rounding, and what has no value rounds to the quiet NaN. -/
theorem floatOperationsRoundOnce : Obligations.FloatOperationsRoundOnce := by
  refine ⟨fun _ _ => FFmt.round_read_of_normal, fun _ _ => FFmt.read_of_expo_zero, fun f a b d => ?_, fun f n e => ?_⟩
  · exact ⟨fAdd_comm f a b, fMul_comm f a b, fFma_comm f a b d, by rw [fAdd_nan], by rw [fMul_nan], by rw [fFma_nan],
      fun m => ⟨fMinMax_of_nan f (.inl rfl) m, fMinMax_of_nan f (.inr rfl) m⟩, fCmp_of_nan (.inl rfl)⟩
  · exact ⟨by rw [fAdd_inf_inf]; rfl, by rw [fMul_inf_zero], by rw [fAdd_inf_inf, if_pos rfl]⟩

end Sys2Proof.Machine
end

section
/-! PROOF. Every command, and so every step, keeps what no operation takes back; the stores stay canonical (R293, R502; log 12). -/

namespace Sys2Proof.Machine

/-- Settles O4: every store of the reset state is empty. -/
theorem resetIsCanonical : Obligations.ResetIsCanonical := State.reset_canonical

/-- Where a row answers a next state, that state keeps what Kept speaks of. -/
def NextKept (s : State) (r : Result) : Prop := ∀ t, r = .next t → Kept s t

section Rows

variable {s t : State} {f : State → State}

theorem NextKept.next (h : Kept s t) : NextKept s (.next t) := by
  intro u hu
  cases hu
  exact h

theorem NextKept.formed {ok : Bool} (h : Kept s t) : NextKept s (formed ok t) := by
  cases ok with
  | true => exact .next h
  | false => exact fun _ hu => nomatch hu

theorem NextKept.live (k : ∀ {u}, Kept s u → Kept s (f u)) : NextKept s (.next (s.live f)) :=
  .next (State.live_kept (.refl s) f fun _ => k)

theorem NextKept.onLane (k : ∀ {u}, Kept s u → Kept s (f u)) : NextKept s (.next (s.onLane f)) :=
  .next (State.onLane_kept (.refl s) f fun _ => k)

theorem NextKept.onPcie (k : ∀ {u}, Kept s u → Kept s (f u)) : NextKept s (.next (s.onPcie f)) :=
  .next (State.onPcie_kept (.refl s) f fun _ => k)

end Rows

/-- No command takes anything back: each row is one operation of the device, or one access of a register. -/
theorem exec_kept (c : Instr) (s : State) : NextKept s (exec c s) := by
  cases c with
  | registerWrite | primeLoad | primeDelete | chainLoad | chainDelete | keyInstall | keyRemove | keyRead | start | stop | sluiceReady
  | routeWrite | leaseTake | leaseFree | leaseRead | tgGo | tgStop | hbmFillGo | linkEnable | linkDisable | linkRetrain | llReset
  | hallTblCommit | hallTblRead | cflInstall | cflRemove | cflRead | snapGo | fresetGo | timeSet | drvVersionOffer | doorbellRequest
  | doorbellCopyIn | doorbellCopyOut | mboxCfgWrite | mboxAck | vfBindWrite | mgmtCmdStart | mgmtCmdAbort | mgmtDataWrite
  | throttleFloorWrite | spoilClear => exact .next (State.busWrite_kept (.refl s) _ _ _)
  | rcFieldRead | conflDataRead | basinConflDataRead | tempDataRead | mgmtDataRead | spoilDataRead =>
    exact .next (State.busRead_kept (.refl s) _ _)
  | tblDataAccess | fmMemDataAccess | weirDataAccess | hbmPageDataAccess | hallGenDataAccess | hallTribDataAccess =>
    exact .next (State.dataAccess_kept (.refl s) _ _ _)
  | primeOpComplete => exact .live (State.primeComplete_kept ·)
  | chainOpComplete => exact .live (State.chainComplete_kept ·)
  | keyOpComplete => exact .live (State.keyComplete_kept ·)
  | benchReset => exact .live (State.benchReset_kept · _)
  | benchResetDone => exact .live (State.benchResetDone_kept · _)
  | rinse => exact .live (State.rinse_kept · _)
  | rinseComplete => exact .live (State.rinseDone_kept · _)
  | benchHwFailure => exact .live (State.benchHwFailure_kept · _)
  | benchSelfTestDone => exact .live (State.selfTestDone_kept · _ _)
  | gangGateOff => exact .live (State.gateOff_kept · _)
  | gangGateOn => exact .live (State.gateOn_kept · _)
  | spareSubstitute => exact .live (State.substitute_kept · _ _ _)
  | fetchLine => exact .live (State.fetchLine_kept · _)
  | poolWindowComplete => exact .formed (State.live_kept (.refl s) _ (fun _ k => State.poolWindow_kept k _ _ _ _ _ _))
  | exchangeDataArrival => exact .live (State.exchange_kept · _)
  | aeTileEnterChute => exact .live (State.enterChute_kept · _)
  | commandRetire => exact .live (State.retire_kept · _ _)
  | stallLimitReached => exact .live (State.stallReached_kept · _)
  | phaseDrainComplete => exact .live (State.phaseDrained_kept · _)
  | phaseTurnaroundEnd => exact .live (State.phaseDone_kept · _)
  | token | phase | endStream | wsig | wwait | warrive | wreset | msend | ntt | intt | radd | rsub | rneg | rmul | rmac | rmuls
  | rstep | rtail | drop | mov | fadd | fmul | ffma | fcmp | fsel | fmin | fmax | fcvt | fdrain | fconv | rconv | matmul | transpose
  | automorph | permute | copy | tload | resume | ksw | rot | rescale | freshet | pbs | extract | pack =>
    exact .live (State.issueOp_kept · _ _ _)
  | millraceStreamStart => exact .live (State.streamStart_kept · _)
  | keyUnitDeliver => exact .live (State.unitDeliver_kept · _ _)
  | tagSend => exact .live (State.tagSend_kept · _)
  | tagResponse => exact .live (State.tagResponse_kept · _ _)
  | peerTagArrival => exact .live (State.peerArrival_kept · _ _)
  | basinAccess => exact .live (State.basinAccess_kept · _ _ _)
  | hbmChannelAccess => exact .live (State.hbmAccess_kept · _ _ _)
  | weirOperationArrival => exact .live (State.weirArrives_kept · _)
  | weirReplyArrival => exact .live (State.weirReplyArrives_kept · _)
  | foremanInstruction => exact .live (State.fmInstr_kept · _)
  | foremanInterrupt => exact .live (State.fmInterrupt_kept · _)
  | stalledInstructionRetire => exact .live (State.fmRetry_kept · _)
  | xcPush | xcPushm | xcTw | xcTr | xcTkpost | xcTkwait | xcTkpoll | xcWsig | xcWwait | xcWarrive | xcWreset | xcWread | xcSend
  | xcRfree => exact .live (State.xcRow_kept · _ _)
  | messageArrival => exact .live (State.messageArrives_kept · _)
  | creditReturnArrival => exact .live (State.creditArrives_kept · _)
  | poolScrubStep => exact .live (State.poolScrub_kept · _ _)
  | basinScrubStep => exact .live (State.basinScrub_kept · _ _)
  | foremanScrubStep => exact .live (State.fmScrub_kept · _ _ _)
  | leaseCmdComplete => exact .live (State.leaseComplete_kept ·)
  | leaseGranuleSwept => exact .live (State.granuleSwept_kept · _)
  | hbmRemap => exact .live (State.hbmRemap_kept · _ _)
  | hbmTempSample => exact .formed (State.live_kept (.refl s) _ (fun _ k => State.hbmTempSample_kept k _))
  | hbmPatrolRead => exact .live (State.hbmPatrol_kept · _ _ _)
  | tgRunComplete => exact .live (State.tgComplete_kept · _ _)
  | hbmFillComplete => exact .live (State.fillDone_kept ·)
  | llResetComplete => exact .onLane (fun h => State.fresetSettle_kept (State.llResetEnd_kept h _))
  | linkDetectRetry => exact .onLane (State.detectRetry_kept · _)
  | linkPartnerSeen => exact .onLane (State.partnerSeen_kept · _ _)
  | linkEqualiseDone => exact .onLane (State.equaliseDone_kept · _)
  | linkMeasureDone => exact .formed (State.onLane_kept (.refl s) _ (fun _ k => State.measureDone_kept k _ _ _))
  | linkExchangeDone => exact .formed (State.onLane_kept (.refl s) _ (fun _ k => State.exchangeDone_kept k _ _))
  | linkStateTimeout => exact .onLane (State.linkTimeout_kept · _)
  | linkRetrainDone => exact .onLane (State.retrainDone_kept · _)
  | laneFailure => exact .onLane (State.laneFails_kept · _ _)
  | flitSend => exact .onLane (State.flitSlot_kept · _)
  | flitReceive => exact .formed (State.onLane_kept (.refl s) _ (fun _ k => State.flitIn_kept k _ _ _ _))
  | modulePresenceSample => exact .onLane (State.modulePins_kept · _)
  | hallReadRequest => exact .live (State.hallRead_kept · _)
  | hallWriteRequest => exact .live (State.hallWrite_kept · _)
  | bulkReceive => exact .live (State.bulkIn_kept · _)
  | mgmtPacketReceive => exact .live (State.mgmtPacketIn_kept · _)
  | heartbeatSend => exact .live (State.heartbeat_kept ·)
  | heartbeatReceive => exact .live (State.heartbeatIn_kept · _)
  | heartbeatTick => exact .live (State.heartbeatTick_kept ·)
  | fenceRequestReceive => exact .live (State.fenceAsked_kept · _)
  | fenceNoticeApply => exact .live (State.fenceNotice_kept · _)
  | fenceAcksComplete => exact .live (State.fenceAcked_kept ·)
  | admitReceive => exact .live (State.admitted_kept · _ _ _)
  | spareNoticeReceive => exact .live (State.spareNotice_kept · _ _)
  | tribTableReceive => exact .live (State.tribTable_kept · _)
  | cflCmdComplete => exact .live (State.cflCmdDone_kept ·)
  | collPacketReceive => exact .formed (State.live_kept (.refl s) _ (fun _ k => State.cflPacket_kept k _))
  | cflRunComplete => exact .live (State.cflComplete_kept · _)
  | snapMarkerReceive => exact .live (State.snapMarked_kept · _ _)
  | snapCut => exact .live (State.snapCutNow_kept ·)
  | snapReportReceive => exact .live (State.snapReported_kept · _ _)
  | fresetNoticeReceive => exact .live (State.fresetNotice_kept · _ _)
  | fresetReportReceive => exact .live (State.fresetReported_kept · _)
  | tsyncExchange => exact .live (State.tsyncSend_kept ·)
  | tsyncPacketReceive => exact .live (State.tsyncReply_kept · _ _ _ _)
  | ppsEdge => exact .live (State.ppsRise_kept ·)
  | ppsTimeout => exact .live (State.ppsLost_kept ·)
  | watchdogFeed => exact .live (State.watchdogFeed_kept · _)
  | watchdogExpiry => exact .live (State.watchdogExpiry_kept · _ _)
  | coreRestartDone => exact .live (State.coreRestarted_kept · _)
  | tenantOpen => exact .live (fun h => State.runCmd_kept h _ _ _ _ (fun _ _ k => State.tenantOpenCmd_kept k _))
  | tenantClose => exact .live (fun h => State.runCmd_kept h _ _ _ _ (fun _ _ k => State.tenantCloseCmd_kept k _))
  | jobStart => exact .live (fun h => State.runCmd_kept h _ _ _ _ (fun _ _ k => State.jobStartCmd_kept k _ _))
  | jobKill => exact .live (fun h => State.runCmd_kept h _ _ _ _ (fun _ _ k => State.jobKillCmd_kept k _ _))
  | jobRelease => exact .live (fun h => State.runCmd_kept h _ _ _ _ (fun _ _ k => State.jobReleaseCmd_kept k _))
  | dumpPool => exact .live (fun h => State.runCmd_kept h _ _ _ _ (fun _ _ k => State.dumpPoolCmd_kept k _))
  | serviceOpen => exact .live (fun h => State.runCmd_kept h _ _ _ _ (fun _ _ k => State.serviceOpenCmd_kept k _ _))
  | serviceClose => exact .live (fun h => State.runCmd_kept h _ _ _ _ (fun _ _ k => State.serviceCloseCmd_kept k _))
  | keyLoad => exact .live (fun h => State.runCmd_kept h _ _ _ _ (fun _ _ k => State.keyLoadCmd_kept k _))
  | keyEvict => exact .live (fun h => State.runCmd_kept h _ _ _ _ (fun _ _ k => State.keyEvictCmd_kept k _))
  | fwStage => exact .live (State.stageFirmware_kept · _)
  | fwStageVerified => exact .formed (State.live_kept (.refl s) _ (fun _ k => State.stageVerified_kept k _ _))
  | jobEnd => exact .live (State.jobEndNow_kept · _ _)
  | keepLimitExpiry => exact .live (State.releaseKept_kept · _)
  | batchDispatch | batchWaitExpiry => exact .live (State.dispatch_kept · _ _)
  | donePoll => exact .live (State.donePollNow_kept · _)
  | intakeStarved => exact .live (State.starveIntake_kept · _)
  | sealSingleRequest | sealInit => exact .live (State.sealAsk_kept · _ _ _)
  | sealUpdate | sealFinal => exact .live (State.sealFeed_kept · _ _)
  | sealAbort => exact .live (State.sealAbortNow_kept · _)
  | sealOpComplete => exact .live (State.sealComplete_kept · _)
  | sealIdleTimeout => exact .live (State.sealIdle_kept ·)
  | entropyHealthFail => exact .live (State.entropyFails_kept · _)
  | entropyRestartDone => exact .live (State.entropyUp_kept ·)
  | spdmRequest => exact .live (State.spdm_kept · _ _)
  | ideKeyProg => exact .live (State.ideProg_kept · _ _)
  | ideKSetGo => exact .live (State.ideGo_kept · _ _)
  | debugChallengeRead => exact .live (State.challengeRead_kept ·)
  | debugUnlock => exact .live (State.debugTry_kept · _ _)
  | bar2Write => exact .formed (State.onPcie_kept (.refl s) _ (fun _ k => State.bar2Write_kept k _ _ _))
  | bar2Read => exact .formed (State.onPcie_kept (.refl s) _ (fun _ k => State.bar2Read_kept k _ _ _))
  | doorbellHostData => exact .formed (State.onPcie_kept (.refl s) _ (fun _ k => State.hostData_kept k _ _))
  | doorbellComplete => exact .onPcie (State.bellComplete_kept · _)
  | mboxResultPresent => exact .onPcie (State.mboxPresent_kept · _ _)
  | i3cPrivateWrite => exact .formed (State.i3cWrite_kept (.refl s) _ _)
  | i3cPrivateRead => exact .formed (State.i3cRead_kept (.refl s) _)
  | functionLevelReset => exact .onPcie (State.flr_kept · _)
  | pwrokRise => exact .next (State.pwrokRise_kept (.refl s) _ _)
  | rootPllLock => exact .next (State.rootLock_kept (.refl s))
  | pllLockTimeout => exact .next (State.lockTimeout_kept (.refl s))
  | pwrokFall => exact .next (State.pwrokFall_kept (.refl s) _)
  | perstAssert => exact .next (State.perstLow_kept (.refl s))
  | perstRelease => exact .next (State.perstHigh_kept (.refl s))
  | bootImageVerified => exact .formed (State.live_kept (.refl s) _ (fun _ k => State.bootVerified_kept k _ _))
  | clearingComplete => exact .live (State.clearingDone_kept ·)
  | ledgerWrite => exact .live (State.ledgerWrite_kept ·)
  | ledgerWriteComplete => exact .live (State.ledgerDone_kept · _)
  | dieTempSample => exact .formed (State.live_kept (.refl s) _ (fun _ k => State.dieTempSample_kept k _))
  | thermalTrip => exact .next (State.thermalTrip_kept (.refl s) _ _)
  | railSample => exact .formed (State.live_kept (.refl s) _ (fun _ k => State.railSample_kept k _ _ _))
  | reachWardenEval => exact .live (State.wardenEval_kept · _)
  | throttleTargetChange => exact .live (State.targetChange_kept ·)
  | vcoreAck => exact .live (State.vcoreAck_kept · _)
  | switchPoint => exact .live (State.switchPoint_kept ·)
  | spoilEntryArrival => exact .live (State.spoilArrive_kept · _)
  | trigInSnapshotEdge => exact .live (State.snapStart_kept ·)
  | trigInHaltEdge => exact .live (State.trigHalt_kept ·)
  | trigOutSecond => exact .live (State.secondPulse_kept ·)
  | undefinedOpcode => exact .live (State.issueUndefined_kept · _ _)
  | hostCompletionTimeout => exact .onPcie (State.bellFault_kept · _)
  | bulkAckReceive => exact .live (State.bulkAckIn_kept · _)
  | pcieConfigAccess => exact .next (State.configAccess_kept (.refl s) _ _ _)
  | i3cCcc => exact .next (State.i3cCode_kept (.refl s) _)
  | refusedAccess vw off data width =>
    cases width with
    | w64 => exact .next (State.dataAccess_kept (.refl s) _ _ _)
    | w32 | w16 | w8 | other => exact .next (State.badWidth_kept (.refl s) _ _ _ _)

theorem step_canonical {s t : State} (hs : s.Canonical) (h : step s = .next t) : t.Canonical := by
  unfold step at h
  split at h
  · cases h
    exact (State.idle_kept (.refl s)).canonical hs
  · next c rest _ => exact (exec_kept c { s with pending := rest } t h).canonical { hs with }

/-- Settles O5: the front command keeps the stores canonical whatever it is, and so does a cycle without one. -/
theorem stepKeepsStoresCanonical : Obligations.StepKeepsStoresCanonical := fun _ _ => step_canonical

end Sys2Proof.Machine
end

section
/-! PROOF. A Weir unit: the count that an operation leaves, the replies to its asker and to the waits that the count meets, and the reply at
its requester (R299-R301, R207). -/

namespace Sys2Proof.Machine

section Replies

variable {s : State}

/-- Replies put on their way. -/
def State.replied (s : State) (l : List WeirReply) : State :=
  { s with net := { s.net with weirReplies := s.net.weirReplies ++ l } }

theorem State.replyWeir_of_asker {req : WeirReq} (h : req.pb ≠ noBench) (count : Nat) :
    s.replyWeir req count = s.replied [⟨req, count⟩] :=
  if_neg h

theorem State.replied_nil (s : State) : s.replied [] = s := by
  rw [State.replied, List.append_nil]

theorem State.replied_replied (l l' : List WeirReply) : (s.replied l).replied l' = s.replied (l ++ l') := by
  simp only [State.replied, List.append_assoc]

theorem State.foldl_replyWeir {l : List HeldWait} (h : ∀ x ∈ l, x.req.pb ≠ noBench) (count : Nat) :
    l.foldl (fun s x => s.replyWeir x.req count) s = s.replied (l.map (fun x => ⟨x.req, count⟩)) := by
  induction l generalizing s with
  | nil => simp only [List.foldl_nil, List.map_nil, State.replied, List.append_nil]
  | cons x l ih =>
    obtain ⟨hx, hl⟩ := List.forall_mem_cons.mp h
    rw [List.foldl_cons, State.replyWeir_of_asker hx, ih hl, State.replied_replied]
    rfl

end Replies

section Counts

variable {s : State} {pb w count : Nat}

/-- No Confluence entry watches the Weir: none starts a run. -/
theorem State.cflWatch_of_unwatched {m : Nat} (h : ∀ i, i < 64 → (s.cfl i).startBench ≠ m ∨ (s.cfl i).startWeir ≠ w) :
    s.cflWatch m w count = s := by
  refine List.foldlRecOn (List.range 64) _ (motive := fun t => t = s) rfl (fun t ht i hi => ?_)
  subst ht
  refine if_neg fun hdue => ?_
  obtain ⟨-, hbench, hweir⟩ := hdue
  exact (h i (List.mem_range.mp hi)).elim (· hbench) (· hweir)

/-- Whether a count meets a held wait. -/
def HeldWait.met (w count : Nat) (h : HeldWait) : Bool := decide (h.weir = w) && decide (h.target ≤ count)

/-- A bench whose Weir has another count; the waits that it meets are held no longer. -/
def Bench.counted (b : Bench) (w count : Nat) : Bench :=
  { b with weirs := Sparse.set (fun _ => 0) b.weirs w count, held := b.held.filter (fun h => !h.met w count) }

theorem Bench.weir_counted (b : Bench) (w count v : Nat) : (b.counted w count).weir v = if v = w then count else b.weir v :=
  Sparse.get_set _ _ _ _ _

/-- Confluence told of a count at physical bench pb. -/
def State.watched (s : State) (pb w count : Nat) : State :=
  match s.logicalOf pb with
  | none => s
  | some m => s.cflWatch m w count

theorem State.watched_of_unwatched
    (h : ∀ i l, i < 64 → s.logicalOf pb = some l → (s.cfl i).startBench ≠ l ∨ (s.cfl i).startWeir ≠ w) :
    s.watched pb w count = s := by
  unfold State.watched
  split
  next => rfl
  next m hm => exact State.cflWatch_of_unwatched fun i hi => h i m hi hm

theorem State.setWeir_eq (s : State) (pb w count : Nat) :
    s.setWeir pb w count = (((s.bench pb).held.filter (HeldWait.met w count)).foldl (fun s h => s.replyWeir h.req count)
      (s.setBench pb ((s.bench pb).counted w count))).watched pb w count := rfl

/-- A count set where no Confluence entry watches it answers the waits that it meets, and does nothing else (R300). -/
theorem State.setWeir_of_unwatched (hheld : ∀ h ∈ (s.bench pb).held, h.req.pb ≠ noBench)
    (hwatch : ∀ i l, i < 64 → s.logicalOf pb = some l → (s.cfl i).startBench ≠ l ∨ (s.cfl i).startWeir ≠ w) :
    s.setWeir pb w count = (s.setBench pb ((s.bench pb).counted w count)).replied
      (((s.bench pb).held.filter (HeldWait.met w count)).map (fun h => ⟨h.req, count⟩)) := by
  rw [State.setWeir_eq, State.foldl_replyWeir (fun x hx => hheld x (List.mem_of_mem_filter hx))]
  exact State.watched_of_unwatched hwatch

theorem arriveCount_eq (c size : Nat) : arriveCount c size = weirAfter .arrive c size := by
  have hsplit : c / 65536 * 65536 + (c % 65536 + 1) = c + 1 := by omega
  rw [arriveCount, hsplit]
  rfl

theorem rcUnit_weirStatus (pb lo : Nat) : rcUnit (Reg.BENCH_WEIR_STATUS pb) lo = 1 := by
  obtain ⟨o, ho⟩ : ∃ o, o = Reg.BENCH_WEIR_STATUS pb % viewBit := ⟨_, rfl⟩
  have hlow : o % 0x10000 = 0xA50 := by
    simp only [Reg.BENCH_WEIR_STATUS, viewBit] at ho
    omega
  have hcanon : canon (Reg.BENCH_WEIR_STATUS pb) ≠ 0xC0018 ∧ canon (Reg.BENCH_WEIR_STATUS pb) ≠ 0x10008 ∧
      canon (Reg.BENCH_WEIR_STATUS pb) ≠ 0x80098 ∧
      ¬ (0x40A0 ≤ canon (Reg.BENCH_WEIR_STATUS pb) ∧ canon (Reg.BENCH_WEIR_STATUS pb) < 0x40C0) := by
    unfold canon
    rw [← ho]
    dsimp only
    split_ifs <;> omega
  obtain ⟨h1, h2, h3, h4⟩ := hcanon
  simp only [rcUnit, h1, h2, h3, h4, false_and, if_false]

end Counts

section Operation

variable {s : State} {m : WeirMsg} {pb n c : Nat}

/-- A Weir operation taken off its way. -/
def State.weirOff (s : State) (n : Nat) : State := { s with net := { s.net with weirOps := s.net.weirOps.eraseIdx n } }

/-- A Weir operation taken off its way and counted by its unit. -/
def State.weirTaken (s : State) (n pb : Nat) : State := (s.weirOff n).bump (Fld.BENCH_WEIR_STATUS_OPS pb) 1

theorem State.weirTaken_frame (s : State) (n pb : Nat) :
    s.weirTaken n pb = { s with rc := (s.weirTaken n pb).rc, net := { s.net with weirOps := s.net.weirOps.eraseIdx n } } :=
  State.bump_frame _ _ _

theorem State.bench_weirTaken (s : State) (n pb q : Nat) : (s.weirTaken n pb).bench q = s.bench q := by
  rw [State.weirTaken_frame]
  rfl

theorem State.cnt_weirTaken (s : State) (n pb : Nat) : (s.weirTaken n pb).cnt (Fld.BENCH_WEIR_STATUS_OPS pb) =
    min 0xFFFFFFFF (s.cnt (Fld.BENCH_WEIR_STATUS_OPS pb) + 1) :=
  State.cnt_bump_of_unit _ (rcUnit_weirStatus pb _) 1

/-- What an operation leaves that leaves its bench as b and sends replies l. -/
structure WeirServed (s t : State) (n pb : Nat) (b : Bench) (l : List WeirReply) : Prop where
  frame : t = { s with benches := t.benches, net := t.net, rc := t.rc }
  apart : BenchesApart s t pb
  net : t.net = { s.net with weirOps := s.net.weirOps.eraseIdx n, weirReplies := t.net.weirReplies }
  cnt : t.cnt (Fld.BENCH_WEIR_STATUS_OPS pb) = min 0xFFFFFFFF (s.cnt (Fld.BENCH_WEIR_STATUS_OPS pb) + 1)
  bench : t.bench pb = b
  replies : t.net.weirReplies = s.net.weirReplies ++ l

theorem State.weirServed_replied (s : State) (n pb : Nat) (l : List WeirReply) :
    WeirServed s ((s.weirTaken n pb).replied l) n pb (s.bench pb) l := by
  have hcnt := s.cnt_weirTaken n pb
  rw [s.weirTaken_frame n pb] at hcnt ⊢
  exact ⟨rfl, fun _ _ => rfl, rfl, hcnt, rfl, rfl⟩

theorem State.weirServed_setBench (s : State) (n pb : Nat) (b : Bench) (l : List WeirReply) :
    WeirServed s (((s.weirTaken n pb).setBench pb b).replied l) n pb b l := by
  have hcnt := s.cnt_weirTaken n pb
  have hbench := State.bench_setBench (s.weirTaken n pb) pb b
  have hapart : BenchesApart s ((s.weirTaken n pb).setBench pb b) pb := fun q hq =>
    (State.bench_setBench_ne _ b hq).trans (s.bench_weirTaken n pb q)
  rw [s.weirTaken_frame n pb] at hcnt hbench hapart ⊢
  exact ⟨rfl, hapart, rfl, hcnt, hbench, rfl⟩

theorem State.serveWeir_count {c : Nat} (hunit : pb = s.physOf m.bench) (hmode : (s.bench pb).mode ≠ .rinsing)
    (hc : c = weirAfter m.op ((s.bench pb).weir m.weir) m.arg) (hop : m.op = .signal ∨ m.op = .arrive ∨ m.op = .reset) :
    s.serveWeir m = ((s.bump (Fld.BENCH_WEIR_STATUS_OPS pb) 1).replyWeir m.req c).setWeir pb m.weir c := by
  unfold State.serveWeir
  dsimp only
  rw [← hunit, if_neg hmode, hc]
  obtain hop | hop | hop := hop <;> rw [hop]
  · rfl
  · rw [← arriveCount_eq]
  · rfl

theorem State.serveWeir_met {c : Nat} (hunit : pb = s.physOf m.bench) (hmode : (s.bench pb).mode ≠ .rinsing)
    (hc : c = weirAfter m.op ((s.bench pb).weir m.weir) m.arg) (hop : m.op = .read ∨ m.op = .wait ∧ m.arg ≤ c) :
    s.serveWeir m = (s.bump (Fld.BENCH_WEIR_STATUS_OPS pb) 1).replyWeir m.req c := by
  unfold State.serveWeir
  dsimp only
  rw [← hunit, if_neg hmode]
  obtain hop | ⟨hop, hmet⟩ := hop <;> rw [hop] at hc ⊢
  · rw [hc]
    rfl
  · subst hc
    exact if_pos hmet

theorem State.serveWeir_unmet (hunit : pb = s.physOf m.bench) (hmode : (s.bench pb).mode ≠ .rinsing) (hop : m.op = .wait)
    (hmet : (s.bench pb).weir m.weir < m.arg) :
    s.serveWeir m = (s.bump (Fld.BENCH_WEIR_STATUS_OPS pb) 1).onBench pb
      (fun b => { b with held := b.held ++ [⟨m.weir, m.arg, m.req⟩] }) := by
  unfold State.serveWeir
  dsimp only
  rw [← hunit, if_neg hmode, hop]
  exact if_neg (not_le_of_gt hmet)

theorem exec_weirOperationArrival (hdue : s.weirDue n m pb) :
    exec (.weirOperationArrival n) s = .next ((s.weirOff n).serveWeir m) := by
  refine (next_live_of_running hdue.running _).trans (congrArg _ ?_)
  simp only [State.weirArrives, hdue.next]
  rfl

/-- An operation that sets the count answers its asker, then the waits that the count meets. -/
theorem exec_weirOperationArrival_count (hdue : s.weirDue n m pb) (hc : c = weirAfter m.op ((s.bench pb).weir m.weir) m.arg)
    (hop : m.op = .signal ∨ m.op = .arrive ∨ m.op = .reset) :
    ∃ t, exec (.weirOperationArrival n) s = .next t ∧ WeirServed s t n pb ((s.bench pb).counted m.weir c)
      (⟨m.req, c⟩ :: ((s.bench pb).held.filter (HeldWait.met m.weir c)).map (fun h => ⟨h.req, c⟩)) := by
  refine ⟨_, ?_, s.weirServed_setBench n pb _ _⟩
  have hbench : ((s.weirTaken n pb).replied [⟨m.req, c⟩]).bench pb = s.bench pb := s.bench_weirTaken n pb pb
  have hserve : (s.weirOff n).serveWeir m = ((s.weirTaken n pb).replyWeir m.req c).setWeir pb m.weir c :=
    State.serveWeir_count (s := s.weirOff n) hdue.unit hdue.mode hc hop
  rw [exec_weirOperationArrival hdue, hserve, State.replyWeir_of_asker hdue.asker, State.setWeir_of_unwatched, hbench]
  · exact congrArg _ (State.replied_replied (s := (s.weirTaken n pb).setBench pb _) [⟨m.req, c⟩] _)
  · rw [hbench]
    exact hdue.holders
  · rw [State.weirTaken_frame]
    exact hdue.watch

theorem exec_weirOperationArrival_met (hdue : s.weirDue n m pb) (hc : c = weirAfter m.op ((s.bench pb).weir m.weir) m.arg)
    (hop : m.op = .read ∨ m.op = .wait ∧ m.arg ≤ c) :
    ∃ t, exec (.weirOperationArrival n) s = .next t ∧ WeirServed s t n pb (s.bench pb) [⟨m.req, c⟩] := by
  refine ⟨_, ?_, s.weirServed_replied n pb _⟩
  have hserve : (s.weirOff n).serveWeir m = (s.weirTaken n pb).replyWeir m.req c :=
    State.serveWeir_met (s := s.weirOff n) hdue.unit hdue.mode hc hop
  rw [exec_weirOperationArrival hdue, hserve, State.replyWeir_of_asker hdue.asker]

theorem exec_weirOperationArrival_unmet (hdue : s.weirDue n m pb) (hop : m.op = .wait) (hmet : (s.bench pb).weir m.weir < m.arg) :
    ∃ t, exec (.weirOperationArrival n) s = .next t ∧
      WeirServed s t n pb { s.bench pb with held := (s.bench pb).held ++ [⟨m.weir, m.arg, m.req⟩] } [] := by
  refine ⟨_, ?_, s.weirServed_setBench n pb _ _⟩
  have hserve : (s.weirOff n).serveWeir m = _ := State.serveWeir_unmet (s := s.weirOff n) hdue.unit hdue.mode hop hmet
  rw [exec_weirOperationArrival hdue, hserve, State.replied_nil, ← s.bench_weirTaken n pb pb]
  rfl

end Operation

section Reply

variable {s : State} {n : Nat} {r : WeirReply}

/-- A reply taken off its way. -/
def State.weirReplyOff (s : State) (n : Nat) : State := { s with net := { s.net with weirReplies := s.net.weirReplies.eraseIdx n } }

/-- The Foreman of a bench has the reply that its stalled instruction waits for. -/
def Bench.weirAnswered (b : Bench) (count : Nat) : Bench := { b with fm := { b.fm with weirReply := some count } }

theorem exec_weirReplyArrival_foreman (hrun : s.running = true) (hr : s.net.weirReplies[n]? = some r) (hfore : r.req.fore = true)
    (hst : (s.bench r.req.pb).fm.st = .stalled) (hid : (s.bench r.req.pb).fm.weirId = r.req.id) :
    exec (.weirReplyArrival n) s =
      .next ((s.weirReplyOff n).setBench r.req.pb ((s.bench r.req.pb).weirAnswered r.count)) := by
  refine (next_live_of_running hrun _).trans (congrArg _ ?_)
  simp only [State.weirReplyArrives, hr, hfore, if_true]
  exact congrArg (State.setBench _ _) (if_pos ⟨hst, hid⟩)

/-- A Weir command whose reply has come goes on with what is left of it. -/
theorem exec_weirReplyArrival_command {e : Exec} {rest : List Todo} (hrun : s.running = true) (hr : s.net.weirReplies[n]? = some r)
    (hfore : r.req.fore = false) (hexecs : (s.bench r.req.pb).execs = [e]) (hid : e.id = r.req.id) (htodo : e.todo = .weir :: rest) :
    exec (.weirReplyArrival n) s =
      .next ((s.weirReplyOff n).setBench r.req.pb { s.bench r.req.pb with execs := [{ e with todo := rest }] }) := by
  refine (next_live_of_running hrun _).trans (congrArg _ ?_)
  simp only [State.weirReplyArrives, hr, hfore, Bool.false_eq_true, if_false]
  have hexec : (s.bench r.req.pb).onExec r.req.id (fun e => match e.todo with | .weir :: rest => { e with todo := rest } | _ => e) =
      { s.bench r.req.pb with execs := [{ e with todo := rest }] } := by
    rw [Bench.onExec, hexecs, List.map_singleton, if_pos hid, htodo]
  exact congrArg (State.setBench _ _) hexec

end Reply

/-- The operations that set a count are neither a READ nor a WAIT. -/
theorem WeirOp.of_sets {op : WeirOp} (h : op = .signal ∨ op = .arrive ∨ op = .reset) : op ≠ .read ∧ op ≠ .wait := by
  obtain rfl | rfl | rfl := h <;> decide

theorem WeirOp.eq_wait_of_not {op : WeirOp} (hsets : ¬ (op = .signal ∨ op = .arrive ∨ op = .reset)) (hread : op ≠ .read) :
    op = .wait := by
  cases op with
  | wait => rfl
  | signal | arrive | reset => exact (hsets (by decide)).elim
  | read => exact (hread rfl).elim

/-- A Weir operation at its unit, by what it asks for and whether the count meets it (R299-R301). -/
theorem exec_weirOperationArrival_spec {s : State} {m : WeirMsg} {pb n c : Nat} (hdue : s.weirDue n m pb)
    (hc : c = weirAfter m.op ((s.bench pb).weir m.weir) m.arg) :
    ∃ t b l, exec (.weirOperationArrival n) s = .next t ∧ WeirServed s t n pb b l ∧
      (m.op = .signal ∨ m.op = .arrive ∨ m.op = .reset → b = (s.bench pb).counted m.weir c ∧
        l = ⟨m.req, c⟩ :: ((s.bench pb).held.filter (HeldWait.met m.weir c)).map (fun h => ⟨h.req, c⟩)) ∧
      (m.op = .read ∨ m.op = .wait ∧ m.arg ≤ c → b = s.bench pb ∧ l = [⟨m.req, c⟩]) ∧
      (m.op = .wait → c < m.arg → l = [] ∧ b = { s.bench pb with held := (s.bench pb).held ++ [⟨m.weir, m.arg, m.req⟩] }) := by
  by_cases hsets : m.op = .signal ∨ m.op = .arrive ∨ m.op = .reset
  · obtain ⟨hread, hwait⟩ := WeirOp.of_sets hsets
    obtain ⟨t, ht, hserved⟩ := exec_weirOperationArrival_count hdue hc hsets
    exact ⟨t, _, _, ht, hserved, fun _ => ⟨rfl, rfl⟩, fun h => (h.elim hread (fun h => hwait h.1)).elim, fun h => (hwait h).elim⟩
  by_cases hmet : m.op = .read ∨ m.op = .wait ∧ m.arg ≤ c
  · obtain ⟨t, ht, hserved⟩ := exec_weirOperationArrival_met hdue hc hmet
    exact ⟨t, _, _, ht, hserved, fun h => (hsets h).elim, fun _ => ⟨rfl, rfl⟩,
      fun hop hlt => absurd hmet (not_or.mpr ⟨by rw [hop]; decide, fun h => not_le_of_gt hlt h.2⟩)⟩
  · have hop : m.op = .wait := WeirOp.eq_wait_of_not hsets fun h => hmet (.inl h)
    have hlt : c < m.arg := not_le.mp fun h => hmet (.inr ⟨hop, h⟩)
    rw [hop] at hc
    obtain ⟨t, ht, hserved⟩ := exec_weirOperationArrival_unmet hdue hop (lt_of_eq_of_lt hc.symm hlt)
    exact ⟨t, _, _, ht, hserved, fun h => (hsets h).elim, fun h => (hmet h).elim, fun _ _ => ⟨rfl, rfl⟩⟩

/-- Settles O34: by what the operation asks for and whether the count meets it; a reply goes to the one who asked. -/
theorem weirsServeTheirOperations : Obligations.WeirsServeTheirOperations := by
  refine ⟨fun s n m pb c hdue hc => ?_, fun s n r hrun hr => ⟨fun hfore hst hid => ?_, fun e rest hfore hexecs hid htodo => ?_⟩⟩
  · obtain ⟨t, b, l, ht, hserved, hcount, hmet, hunmet⟩ := exec_weirOperationArrival_spec hdue hc
    refine ⟨t, ht, hserved.frame, hserved.apart, hserved.net, hserved.cnt, fun hop => ?_, fun hop => ?_, fun hop hlt => ?_⟩
    · obtain ⟨rfl, rfl⟩ := hcount hop
      rw [hserved.bench]
      exact ⟨rfl, (Bench.weir_counted ..).trans (if_pos rfl), fun w hw => (Bench.weir_counted ..).trans (if_neg hw), hserved.replies⟩
    · obtain ⟨rfl, rfl⟩ := hmet hop
      exact ⟨hserved.bench, hserved.replies⟩
    · obtain ⟨rfl, rfl⟩ := hunmet hop hlt
      exact ⟨hserved.replies.trans (List.append_nil _), hserved.bench⟩
  · exact ⟨_, exec_weirReplyArrival_foreman hrun hr hfore hst hid, rfl, State.benchesApart_setBench (s.weirReplyOff n) _ _, rfl,
      State.bench_setBench ..⟩
  · exact ⟨_, exec_weirReplyArrival_command hrun hr hfore hexecs hid htodo, rfl, State.benchesApart_setBench (s.weirReplyOff n) _ _,
      State.bench_setBench ..⟩

end Sys2Proof.Machine
end

section
/-! PROOF. A step of a scrubber of a bench memory: the pointer, LAG, and what is found in the row (R288, R290, R291). -/

namespace Sys2Proof.Machine

theorem rcUnit_bench {k : Nat} (hl : 0x100000 ≤ k) (hp : k < 0x540000) (lo : Nat) : rcUnit k lo = 1 := by
  have hcanon := canon_bench hl hp
  unfold rcUnit
  dsimp only
  split_ifs <;> omega

theorem rcUnit_scrubStatus (pb : Fin 68) (lo : Nat) : rcUnit (Reg.BENCH_SCRUB_STATUS pb) lo = 1 :=
  rcUnit_bench (by unfold Reg.BENCH_SCRUB_STATUS; omega) (by unfold Reg.BENCH_SCRUB_STATUS; omega) lo

theorem Bench.scrub_setScrub (b : Bench) (k : Nat) (p : ScrubPtr) : (b.setScrub k p).scrub k = p := Sparse.get_set_same _ _ _ _

section Lag

variable {s : State} {f : Fld} {busy : Bool}

/-- LAG counts a step that was still waiting when the next one fell due. -/
def State.lagged (s : State) (f : Fld) (busy : Bool) : State := if busy then s.bump f 1 else s

theorem State.lagged_frame (s : State) (f : Fld) (busy : Bool) : s.lagged f busy = { s with rc := (s.lagged f busy).rc } := by
  cases busy with
  | true => exact s.bump_frame f 1
  | false => rfl

theorem State.cnt_lagged (h : rcUnit f.key f.lo = 1) :
    (s.lagged f busy).cnt f = if busy then min f.top (s.cnt f + 1) else s.cnt f := by
  cases busy with
  | true => exact s.cnt_bump_of_unit h 1
  | false => rfl

theorem State.cnt_lagged_ne {g : Fld} (h : g.rcKey ≠ f.rcKey) : (s.lagged f busy).cnt g = s.cnt g := by
  cases busy with
  | true => exact s.cnt_bump_ne 1 h
  | false => rfl

end Lag

section Bad

variable {first count : Nat}

theorem scrubBad_nil_clean : scrubBad [] first count .clean = [] := rfl

theorem scrubBad_nil_uncorrectable : scrubBad [] first count .uncorrectable = [first] := rfl

/-- The memory that a scrubber works on. -/
def Bench.scrubMem (b : Bench) (mem : Nat) : EMem := if mem = memPool then b.pool else if mem = memData then b.dmem else b.imem

/-- A memory with the words that a scrub step found marked. -/
def EMem.marked (m : EMem) (found : List Nat) : EMem := { m with bad := m.bad ++ found.filter (fun w => !m.bad.contains w) }

/-- The bench with the words that a scrub step found marked. -/
def Bench.scrubMarked (b : Bench) (mem : Nat) (found : List Nat) : Bench :=
  if mem = memPool then { b with pool := b.pool.marked found } else if mem = memData then { b with dmem := b.dmem.marked found }
  else { b with imem := b.imem.marked found }

theorem EMem.marked_nil (m : EMem) : m.marked [] = m := by
  rw [EMem.marked, List.filter_nil, List.append_nil]

theorem Bench.scrubMarked_nil (b : Bench) (mem : Nat) : b.scrubMarked mem [] = b := by
  simp only [Bench.scrubMarked, EMem.marked_nil, ite_self]

end Bad

section Step

variable {s t : State} {pb mem rows rowWords : Nat} {ecc : Ecc} {p : ScrubPtr}

/-- The scrubber of a memory goes to p; LAG counts if it was still waiting. -/
def State.scrubbed (s : State) (pb mem : Nat) (p : ScrubPtr) : State :=
  (s.setBench pb ((s.bench pb).setScrub mem p)).lagged (Fld.BENCH_SCRUB_STATUS_LAG pb) ((s.bench pb).scrub mem).busy

theorem State.scrubbed_spec (s : State) {t : State} (ht : t = s.scrubbed pb mem p) :
    t = { s with benches := t.benches, rc := t.rc } ∧ BenchesApart s t pb ∧ t.bench pb = (s.bench pb).setScrub mem p := by
  have hframe := (s.setBench pb ((s.bench pb).setScrub mem p)).lagged_frame (Fld.BENCH_SCRUB_STATUS_LAG pb) ((s.bench pb).scrub mem).busy
  have hbench := s.bench_setBench pb ((s.bench pb).setScrub mem p)
  have hapart := s.benchesApart_setBench pb ((s.bench pb).setScrub mem p)
  rw [State.scrubbed, hframe] at ht
  subst ht
  exact ⟨rfl, hapart, hbench⟩

theorem State.benchScrub_of_waits (s : State) (pb mem rows rowWords : Nat) (ecc : Ecc) :
    s.benchScrub pb mem rows rowWords false ecc = s.scrubbed pb mem ⟨((s.bench pb).scrub mem).row, true⟩ := rfl

/-- A step that completes marks and reports what it finds. -/
theorem State.benchScrub_of_completes (hecc : ecc ≠ .corrected) {found : List Nat}
    (hfound : found = scrubBad ((s.bench pb).scrubMem mem).bad (((s.bench pb).scrub mem).row * rowWords) rowWords ecc) :
    s.benchScrub pb mem rows rowWords true ecc = found.foldl (fun s w => s.benchUncorrectable pb mem rdScrub (32 * w) 0)
      ((s.scrubbed pb mem ⟨(((s.bench pb).scrub mem).row + 1) % rows, false⟩).onBench pb (·.scrubMarked mem found)) := by
  subst hfound
  unfold State.benchScrub
  dsimp only
  rw [if_neg hecc]
  rfl

/-- A step that meets no bad word moves the pointer and does nothing else. -/
theorem State.benchScrub_clean_spec (hbad : ((s.bench pb).scrubMem mem).bad = []) (hp : p = (s.bench pb).scrub mem)
    (ht : t = s.benchScrub pb mem rows rowWords true .clean) (hunit : rcUnit (Reg.BENCH_SCRUB_STATUS pb) 0 = 1) :
    t = { s with benches := t.benches, rc := t.rc } ∧ BenchesApart s t pb ∧
      t.bench pb = (s.bench pb).setScrub mem ⟨(p.row + 1) % rows, false⟩ ∧
      t.cnt (Fld.BENCH_SCRUB_STATUS_LAG pb) = (if p.busy then min 65535 (s.cnt (Fld.BENCH_SCRUB_STATUS_LAG pb) + 1)
        else s.cnt (Fld.BENCH_SCRUB_STATUS_LAG pb)) := by
  subst hp
  have hfound : [] = scrubBad ((s.bench pb).scrubMem mem).bad (((s.bench pb).scrub mem).row * rowWords) rowWords .clean := by
    rw [hbad, scrubBad_nil_clean]
  obtain ⟨u, hu⟩ : ∃ u, u = s.scrubbed pb mem ⟨(((s.bench pb).scrub mem).row + 1) % rows, false⟩ := ⟨_, rfl⟩
  obtain ⟨hframe, hapart, hbench⟩ := s.scrubbed_spec hu
  have hcnt : (s.scrubbed pb mem ⟨(((s.bench pb).scrub mem).row + 1) % rows, false⟩).cnt (Fld.BENCH_SCRUB_STATUS_LAG pb) = _ :=
    State.cnt_lagged (f := Fld.BENCH_SCRUB_STATUS_LAG pb) hunit
  rw [← hu] at hcnt
  rw [State.benchScrub_of_completes (by decide) hfound, ← hu, List.foldl_nil] at ht
  have htbench : t.bench pb = (s.bench pb).setScrub mem ⟨(((s.bench pb).scrub mem).row + 1) % rows, false⟩ := by
    rw [ht, State.bench_onBench, Bench.scrubMarked_nil, hbench]
  have htapart : BenchesApart s t pb := fun q hq => by rw [ht, State.bench_onBench_ne _ _ hq, hapart q hq]
  refine ⟨?_, htapart, htbench, ?_⟩
  · rw [ht, hframe]
    rfl
  · rw [ht]
    exact hcnt

end Step

section Uncorrectable

variable {s t : State} {pb mem reader addr header : Nat}

theorem State.logBench_last_cls (s : State) (pb c d0 d1 : Nat) :
    ((s.logBench pb c d0 d1).spoil.inFlight.getLast?).map (·.cls) = some c := by
  simp [State.logBench, State.log]

/-- The address of an error noted, unless one is held already (R291). -/
def State.eccNoted (s : State) (pb mem addr : Nat) (scrub : Bool) : State :=
  if s.flag (Fld.BENCH_ECC_ADDR_VALID pb) then s
  else (((s.wrB (Fld.BENCH_ECC_ADDR_VALID pb) true).wr (Fld.BENCH_ECC_ADDR_WHERE pb) mem).wrB
    (Fld.BENCH_ECC_ADDR_BY_SCRUB pb) scrub).wr (Fld.BENCH_ECC_ADDR_ADDR pb) addr

theorem State.regsOnly_eccNoted (s : State) (pb mem addr : Nat) (scrub : Bool) : RegsOnly s (s.eccNoted pb mem addr scrub) := by
  unfold State.eccNoted
  split_ifs
  · exact .refl s
  · exact ((((RegsOnly.refl s).wr _ _).wr _ _).wr _ _).wr _ _

/-- What an uncorrectable error of a Pool leaves (R291). -/
theorem State.benchUncorrectable_spec {pb : Fin 68} (ht : t = s.benchUncorrectable pb memPool reader addr header) :
    t = { s with regs := t.regs, rc := t.rc, spoil := t.spoil } ∧ (t.spoil.inFlight.getLast?).map (·.cls) = some 0x02 ∧
      t.cnt (Fld.BENCH_ECC_STATUS_POOL_UNCORR pb) = min 255 (s.cnt (Fld.BENCH_ECC_STATUS_POOL_UNCORR pb) + 1) := by
  obtain ⟨u, hu⟩ : ∃ u, u = s.bump (Fld.BENCH_ECC_STATUS_POOL_UNCORR pb) 1 := ⟨_, rfl⟩
  obtain ⟨v, hv⟩ : ∃ v, v = u.eccNoted pb memPool addr (decide (reader = rdScrub)) := ⟨_, rfl⟩
  have hlog : t = v.logBench pb 0x02 (eccWord memPool reader 0 addr) header := by
    rw [ht, hv, hu]
    rfl
  have hunit : rcUnit (Reg.BENCH_ECC_STATUS pb) 24 = 1 :=
    rcUnit_bench (by unfold Reg.BENCH_ECC_STATUS; omega) (by unfold Reg.BENCH_ECC_STATUS; omega) _
  have hcnt := s.cnt_bump_of_unit (f := Fld.BENCH_ECC_STATUS_POOL_UNCORR pb) hunit 1
  have hframe := s.bump_frame (Fld.BENCH_ECC_STATUS_POOL_UNCORR pb) 1
  rw [← hu] at hcnt hframe
  obtain ⟨r, rfl⟩ : RegsOnly u v := hv ▸ u.regsOnly_eccNoted pb memPool addr _
  refine ⟨?_, ?_, ?_⟩
  · rw [hlog, hframe]
    rfl
  · rw [hlog, State.logBench_last_cls]
  · rw [hlog]
    exact hcnt

end Uncorrectable

section Pool

variable {s t u : State} {pb : Nat} {ecc : Ecc}

/-- ROW shows the scrubber's row, and PASSES a pass that has ended. -/
def State.rowShown (s : State) (pb : Nat) : State :=
  if ((s.bench pb).scrub memPool).row = 0 then
    (s.wr (Fld.BENCH_SCRUB_STATUS_ROW pb) ((s.bench pb).scrub memPool).row).wrapInc (Fld.BENCH_SCRUB_STATUS_PASSES pb)
  else s.wr (Fld.BENCH_SCRUB_STATUS_ROW pb) ((s.bench pb).scrub memPool).row

theorem State.regsOnly_rowShown (s : State) (pb : Nat) : RegsOnly s (s.rowShown pb) := by
  unfold State.rowShown
  split_ifs
  · exact ((RegsOnly.refl s).wr _ _).wr _ _
  · exact (RegsOnly.refl s).wr _ _

theorem State.rowShown_spec {row : Nat} (hrow : row = ((s.bench pb).scrub memPool).row) (hlt : row < 4096) (ht : t = s.rowShown pb) :
    RegsApart s t [Reg.BENCH_SCRUB_STATUS pb] ∧ t.rd (Fld.BENCH_SCRUB_STATUS_ROW pb) = row ∧
      t.rd (Fld.BENCH_SCRUB_STATUS_PASSES pb) =
        (if row = 0 then (s.rd (Fld.BENCH_SCRUB_STATUS_PASSES pb) + 1) % 2 ^ 32 else s.rd (Fld.BENCH_SCRUB_STATUS_PASSES pb)) := by
  have hkey : Reg.BENCH_SCRUB_STATUS pb ∈ [Reg.BENCH_SCRUB_STATUS pb] := List.mem_singleton_self _
  obtain ⟨v, hv⟩ : ∃ v, v = s.wr (Fld.BENCH_SCRUB_STATUS_ROW pb) row := ⟨_, rfl⟩
  have hapart : RegsApart s v [Reg.BENCH_SCRUB_STATUS pb] :=
    hv ▸ (RegsApart.of_regs_eq rfl _).wr (Fld.BENCH_SCRUB_STATUS_ROW pb) row hkey
  have hshown : v.rd (Fld.BENCH_SCRUB_STATUS_ROW pb) = row := by
    rw [hv]
    exact s.rd_wr_of_lt (by decide : 27 < 64) (by decide : 16 ≤ 27) hlt
  have hpasses : v.rd (Fld.BENCH_SCRUB_STATUS_PASSES pb) = s.rd (Fld.BENCH_SCRUB_STATUS_PASSES pb) := by
    rw [hv]
    exact s.rd_wr_apart _ _ _ (.inr ⟨(by decide : 63 < 64), .inr (by decide : 27 < 32)⟩)
  rw [State.rowShown, ← hrow, ← hv] at ht
  by_cases hzero : row = 0
  · rw [if_pos hzero] at ht ⊢
    subst ht
    refine ⟨hapart.wr _ _ hkey, ?_, ?_⟩
    · exact (v.rd_wr_apart _ _ _ (.inr ⟨(by decide : 27 < 64), .inl (by decide : 27 < 32)⟩)).trans hshown
    · rw [← hpasses]
      exact v.rd_wr _ _ (by decide : 63 < 64) (by decide : 32 ≤ 63)
  · rw [if_neg hzero] at ht ⊢
    subst ht
    exact ⟨hapart, hshown, hpasses⟩

theorem State.poolScrub_of_free (hmode : (s.bench pb).mode = .idle ∨ (s.bench pb).mode = .halted) :
    s.poolScrub pb ecc = (s.benchScrub pb memPool 4096 512 true ecc).rowShown pb := by
  have htime : s.scrubTime (decide ((s.bench pb).mode = .idle) || decide ((s.bench pb).mode = .halted))
      (decide ((s.bench pb).mode = .rinsing)) = (true, s) := by
    obtain hmode | hmode := hmode <;> rw [hmode] <;> rfl
  unfold State.poolScrub
  dsimp only
  rw [htime]
  simp only [true_and]
  rfl

theorem State.poolScrub_of_rinsing (hmode : (s.bench pb).mode = .rinsing) :
    ∃ r, s.poolScrub pb ecc = (s.scrubbed pb memPool ⟨((s.bench pb).scrub memPool).row, true⟩).wr (Fld.BENCH_SCRUB_STATUS_ROW pb) r := by
  have htime : s.scrubTime (decide ((s.bench pb).mode = .idle) || decide ((s.bench pb).mode = .halted))
      (decide ((s.bench pb).mode = .rinsing)) = (false, s) := by
    rw [hmode]
    rfl
  refine ⟨(((s.scrubbed pb memPool ⟨((s.bench pb).scrub memPool).row, true⟩).bench pb).scrub memPool).row, ?_⟩
  unfold State.poolScrub
  dsimp only
  rw [htime]
  exact if_neg fun h => Bool.false_ne_true h.1

theorem exec_poolScrubStep_clean {pb : Fin 68} {p : ScrubPtr} (hrun : s.running = true) (hp : p = (s.bench pb).scrub memPool)
    (hrow : p.row < 4096) (hmode : (s.bench pb).mode = .idle ∨ (s.bench pb).mode = .halted) (hbad : (s.bench pb).pool.bad = []) :
    ∃ t, exec (.poolScrubStep pb .clean) s = .next t ∧ t = { s with benches := t.benches, regs := t.regs, rc := t.rc } ∧
      BenchesApart s t pb ∧ t.bench pb = (s.bench pb).setScrub memPool ⟨(p.row + 1) % 4096, false⟩ ∧
      RegsApart s t [Reg.BENCH_SCRUB_STATUS pb] ∧ t.rd (Fld.BENCH_SCRUB_STATUS_ROW pb) = (p.row + 1) % 4096 ∧
      t.rd (Fld.BENCH_SCRUB_STATUS_PASSES pb) =
        (if p.row = 4095 then (s.rd (Fld.BENCH_SCRUB_STATUS_PASSES pb) + 1) % 2 ^ 32 else s.rd (Fld.BENCH_SCRUB_STATUS_PASSES pb)) ∧
      t.cnt (Fld.BENCH_SCRUB_STATUS_LAG pb) = (if p.busy then min 65535 (s.cnt (Fld.BENCH_SCRUB_STATUS_LAG pb) + 1)
        else s.cnt (Fld.BENCH_SCRUB_STATUS_LAG pb)) := by
  obtain ⟨u, hu⟩ : ∃ u, u = s.benchScrub pb memPool 4096 512 true .clean := ⟨_, rfl⟩
  obtain ⟨t, ht⟩ : ∃ t, t = u.rowShown pb := ⟨_, rfl⟩
  obtain ⟨huframe, huapart, hubench, hulag⟩ := State.benchScrub_clean_spec (mem := memPool) hbad hp hu (rcUnit_scrubStatus pb 0)
  have hurow : (p.row + 1) % 4096 = ((u.bench pb).scrub memPool).row := by rw [hubench, Bench.scrub_setScrub]
  have hregs : RegsOnly u t := ht ▸ u.regsOnly_rowShown pb
  obtain ⟨hapart, hshown, hpasses⟩ := State.rowShown_spec hurow (Nat.mod_lt _ (by decide)) ht
  have hpass : (p.row + 1) % 4096 = 0 ↔ p.row = 4095 := by omega
  refine ⟨t, (next_live_of_running hrun _).trans (congrArg _ ?_), ?_, fun q hq => ?_, ?_, ?_, hshown, ?_, ?_⟩
  · rw [ht, hu, State.poolScrub_of_free hmode]
  · rw [hregs.frame, huframe]
  · rw [hregs.bench, huapart q hq]
  · rw [hregs.bench, hubench]
  · exact (RegsApart.of_regs_eq (by rw [huframe]) _).trans hapart
  · simp only [hpass] at hpasses
    rw [hpasses, State.rd_congr (s := s) (by rw [huframe])]
  · rw [← hulag, hregs.frame]
    rfl

theorem exec_poolScrubStep_uncorrectable {pb : Fin 68} {p : ScrubPtr} (hrun : s.running = true) (hp : p = (s.bench pb).scrub memPool)
    (hmode : (s.bench pb).mode = .idle ∨ (s.bench pb).mode = .halted) (hbad : (s.bench pb).pool.bad = []) :
    ∃ t, exec (.poolScrubStep pb .uncorrectable) s = .next t ∧ (t.bench pb).pool.bad = [512 * p.row] ∧
      (t.bench pb).pool.mem = (s.bench pb).pool.mem ∧ (t.spoil.inFlight.getLast?).map (·.cls) = some 0x02 ∧
      t.cnt (Fld.BENCH_ECC_STATUS_POOL_UNCORR pb) = min 255 (s.cnt (Fld.BENCH_ECC_STATUS_POOL_UNCORR pb) + 1) := by
  subst hp
  have hfound : [((s.bench pb).scrub memPool).row * 512] = scrubBad ((s.bench pb).scrubMem memPool).bad
      (((s.bench pb).scrub memPool).row * 512) 512 .uncorrectable := by
    rw [show ((s.bench pb).scrubMem memPool).bad = [] from hbad, scrubBad_nil_uncorrectable]
  obtain ⟨u, hu⟩ : ∃ u, u = (s.scrubbed pb memPool ⟨(((s.bench pb).scrub memPool).row + 1) % 4096, false⟩).onBench pb
    (·.scrubMarked memPool [((s.bench pb).scrub memPool).row * 512]) := ⟨_, rfl⟩
  have hupool : (u.bench pb).pool = (s.bench pb).pool.marked [((s.bench pb).scrub memPool).row * 512] := by
    obtain ⟨-, -, hbench⟩ := s.scrubbed_spec (pb := pb) (mem := memPool) rfl
    rw [hu, State.bench_onBench, hbench]
    rfl
  have hkey : (Fld.BENCH_ECC_STATUS_POOL_UNCORR pb).rcKey ≠ (Fld.BENCH_SCRUB_STATUS_LAG pb).rcKey :=
    Fld.rcKey_ne (by decide : 24 < 64) (by decide : 0 < 64) (by
      change Reg.BENCH_ECC_STATUS pb ≠ Reg.BENCH_SCRUB_STATUS pb
      unfold Reg.BENCH_ECC_STATUS Reg.BENCH_SCRUB_STATUS
      omega)
  have hucnt : u.cnt (Fld.BENCH_ECC_STATUS_POOL_UNCORR pb) = s.cnt (Fld.BENCH_ECC_STATUS_POOL_UNCORR pb) := by
    rw [hu]
    exact State.cnt_lagged_ne hkey
  obtain ⟨v, hv⟩ : ∃ v, v = u.benchUncorrectable pb memPool rdScrub (32 * (((s.bench pb).scrub memPool).row * 512)) 0 := ⟨_, rfl⟩
  obtain ⟨hvframe, hvlog, hvcnt⟩ := State.benchUncorrectable_spec hv
  obtain ⟨t, ht⟩ : ∃ t, t = v.rowShown pb := ⟨_, rfl⟩
  have hregs : RegsOnly v t := ht ▸ v.regsOnly_rowShown pb
  have hpool : (t.bench pb).pool = (s.bench pb).pool.marked [((s.bench pb).scrub memPool).row * 512] := by
    rw [hregs.bench, hvframe]
    exact hupool
  refine ⟨t, (next_live_of_running hrun _).trans (congrArg _ ?_), ?_, ?_, ?_, ?_⟩
  · rw [ht, hv, hu, State.poolScrub_of_free hmode, State.benchScrub_of_completes (by decide) hfound]
    rfl
  · simp only [hpool, EMem.marked, hbad, List.nil_append, List.contains_nil, Bool.not_false, List.filter_true, Nat.mul_comm]
  · rw [hpool]
    rfl
  · rw [← hvlog, hregs.frame]
  · rw [← hucnt, ← hvcnt, hregs.frame]
    rfl

/-- In RINSING a step waits where it is. -/
theorem exec_poolScrubStep_rinsing {pb : Fin 68} (hrun : s.running = true) (hmode : (s.bench pb).mode = .rinsing) :
    ∃ t, exec (.poolScrubStep pb ecc) s = .next t ∧
      t.bench pb = (s.bench pb).setScrub memPool ⟨((s.bench pb).scrub memPool).row, true⟩ := by
  obtain ⟨r, hr⟩ := State.poolScrub_of_rinsing (ecc := ecc) hmode
  obtain ⟨-, -, hbench⟩ := s.scrubbed_spec (pb := pb) (mem := memPool) rfl
  exact ⟨_, (next_live_of_running hrun _).trans (congrArg _ hr), hbench⟩

end Pool

section Foreman

variable {s : State} {pb : Fin 68} {k rows : Nat} {instr : Bool} {p : ScrubPtr}

/-- A memory of a stopped Foreman is scrubbed at once (R290). -/
theorem exec_foremanScrubStep_clean (hrun : s.running = true) (hst : (s.bench pb).fm.st = .stopped)
    (hmode : (s.bench pb).mode ≠ .rinsing) (hk : k = memInstr ∧ rows = 512 ∧ instr = true ∨ k = memData ∧ rows = 1024 ∧ instr = false)
    (hp : p = (s.bench pb).scrub k) (hi : (s.bench pb).imem.bad = []) (hd : (s.bench pb).dmem.bad = []) :
    ∃ t, exec (.foremanScrubStep pb instr .clean) s = .next t ∧ t = { s with benches := t.benches, rc := t.rc } ∧ BenchesApart s t pb ∧
      t.bench pb = (s.bench pb).setScrub k ⟨(p.row + 1) % rows, false⟩ := by
  have htime : s.scrubTime (decide ((s.bench pb).fm.st = .stopped) && decide ((s.bench pb).mode ≠ .rinsing))
      (decide ((s.bench pb).mode = .rinsing)) = (true, s) := by
    rw [decide_eq_true hst, decide_eq_true hmode]
    rfl
  have hscrub : s.fmScrub pb instr .clean = s.benchScrub pb k rows 8 true .clean := by
    unfold State.fmScrub
    dsimp only
    rw [htime]
    obtain ⟨rfl, rfl, rfl⟩ | ⟨rfl, rfl, rfl⟩ := hk
    · exact if_pos rfl
    · exact if_neg Bool.false_ne_true
  have hbad : ((s.bench pb).scrubMem k).bad = [] := by
    obtain ⟨rfl, -, -⟩ | ⟨rfl, -, -⟩ := hk
    · exact hi
    · exact hd
  obtain ⟨t, ht⟩ : ∃ t, t = s.benchScrub pb k rows 8 true .clean := ⟨_, rfl⟩
  obtain ⟨hframe, hapart, hbench, -⟩ := State.benchScrub_clean_spec hbad hp ht (rcUnit_scrubStatus pb 0)
  exact ⟨t, (next_live_of_running hrun _).trans (congrArg _ (hscrub.trans ht.symm)), hframe, hapart, hbench⟩

end Foreman

section Basin

variable {s t : State} {l : Fin 4} {p : ScrubPtr}

theorem rcUnit_basinLag : ∀ l : Fin 4, rcUnit (Fld.DEVCTL_BASIN_ECC_LAG l).key (Fld.DEVCTL_BASIN_ECC_LAG l).lo = 1 := by decide

/-- The scrubber of a Basin goes to p; LAG counts if it was still waiting. -/
def State.basinScrubbed (s : State) (l : Nat) (p : ScrubPtr) (busy : Bool) : State :=
  ({ s.skip with ledges := { s.ledges with scrub := Sparse.set (fun _ => ScrubPtr.reset) s.ledges.scrub l p } } : State).lagged
    (Fld.DEVCTL_BASIN_ECC_LAG l) busy

/-- What a step of a Basin's scrubber leaves, where it goes to q. -/
structure BasinStepped (s t : State) (l : Fin 4) (q : ScrubPtr) (busy : Bool) : Prop where
  fresh : t.fresh = s.fresh + 1
  basin : ∀ m, t.basin m = s.basin m
  scrub : Sparse.get (fun _ => ScrubPtr.reset) t.ledges.scrub l.val = q
  lag : t.cnt (Fld.DEVCTL_BASIN_ECC_LAG l) = (if busy then min 255 (s.cnt (Fld.DEVCTL_BASIN_ECC_LAG l) + 1)
    else s.cnt (Fld.DEVCTL_BASIN_ECC_LAG l))
  lease : ∀ m n, t.lease m n = s.lease m n

theorem State.basinStepped_scrubbed (s : State) (l : Fin 4) (q : ScrubPtr) (busy : Bool) :
    BasinStepped s (s.basinScrubbed l q busy) l q busy := by
  obtain ⟨u, hu⟩ : ∃ u : State, u = { s.skip with ledges := { s.ledges with
    scrub := Sparse.set (fun _ => ScrubPtr.reset) s.ledges.scrub l.val q } } := ⟨_, rfl⟩
  have hcnt := State.cnt_lagged (s := u) (busy := busy) (rcUnit_basinLag l)
  rw [State.basinScrubbed, ← hu]
  rw [u.lagged_frame] at hcnt ⊢
  subst hu
  exact ⟨rfl, fun _ => rfl, Sparse.get_set_same _ _ _ _, hcnt, fun _ _ => rfl⟩

theorem State.basin_setBasin_self (s : State) (l m : Nat) : (s.setBasin l (s.basin l)).basin m = s.basin m := by
  refine (Sparse.get_set _ _ _ _ _).trans ?_
  split_ifs with h
  · rw [h]
  · rfl

theorem BasinStepped.setBasin {q : ScrubPtr} {busy : Bool} (h : BasinStepped s t l q busy) :
    BasinStepped s (t.setBasin l (t.basin l)) l q busy :=
  ⟨h.fresh, fun m => (t.basin_setBasin_self l m).trans (h.basin m), h.scrub, h.lag, h.lease⟩

theorem BasinStepped.wrapInc {q : ScrubPtr} {busy : Bool} (h : BasinStepped s t l q busy) (f : Fld) :
    BasinStepped s (t.wrapInc f) l q busy := ⟨h.fresh, h.basin, h.scrub, h.lag, h.lease⟩

theorem State.scrubTime_basin {done : Bool} (h : Config.freeBool s.fresh = done) : s.scrubTime false false = (done, s.skip) := by
  rw [← h]
  rfl

theorem State.basinScrub_of_waits (hp : p = Sparse.get (fun _ => ScrubPtr.reset) s.ledges.scrub l.val)
    (h : Config.freeBool s.fresh = false) (ecc : Ecc) : s.basinScrub l ecc = s.basinScrubbed l ⟨p.row, true⟩ p.busy := by
  subst hp
  unfold State.basinScrub
  dsimp only
  rw [State.scrubTime_basin h]
  rfl

/-- A step that completes marks and reports what it finds. -/
theorem State.basinScrub_of_completes (hp : p = Sparse.get (fun _ => ScrubPtr.reset) s.ledges.scrub l.val)
    (h : Config.freeBool s.fresh = true) {ecc : Ecc} (hecc : ecc ≠ .corrected) {u v : State} {found : List Nat}
    (hu : u = s.basinScrubbed l ⟨(p.row + 1) % 65536, false⟩ p.busy) (hfound : found = scrubBad (u.basin l).bad (p.row * 256) 256 ecc)
    (hv : v = found.foldl (fun s w => s.basinUncorrectable l rdScrub (32 * w) 0 0) (u.setBasin l ((u.basin l).marked found))) :
    s.basinScrub l ecc = if (p.row + 1) % 65536 = 0 then v.wrapInc (Fld.DEVCTL_BASIN_ECC_PASSES l) else v := by
  subst hp hu hfound hv
  unfold State.basinScrub
  dsimp only
  rw [State.scrubTime_basin h, if_neg hecc]
  rfl

/-- Whether the step finds a slot is open; a Basin without a marked word keeps its contents either way (R290). -/
theorem State.basinScrub_clean_spec (hp : p = Sparse.get (fun _ => ScrubPtr.reset) s.ledges.scrub l.val)
    (hbad : (s.basin l.val).bad = []) : ∃ done : Bool,
    BasinStepped s (s.basinScrub l .clean) l (if done then ⟨(p.row + 1) % 65536, false⟩ else ⟨p.row, true⟩) p.busy := by
  cases h : Config.freeBool s.fresh with
  | false => exact ⟨false, State.basinScrub_of_waits hp h _ ▸ s.basinStepped_scrubbed l _ _⟩
  | true =>
    obtain ⟨u, hu⟩ : ∃ u, u = s.basinScrubbed l ⟨(p.row + 1) % 65536, false⟩ p.busy := ⟨_, rfl⟩
    have hstep : BasinStepped s u l ⟨(p.row + 1) % 65536, false⟩ p.busy := hu ▸ s.basinStepped_scrubbed l _ _
    have hfound : [] = scrubBad (u.basin l).bad (p.row * 256) 256 .clean := by rw [hstep.basin, hbad, scrubBad_nil_clean]
    refine ⟨true, ?_⟩
    change BasinStepped s _ l ⟨(p.row + 1) % 65536, false⟩ _
    rw [State.basinScrub_of_completes hp h (by decide) hu hfound rfl, List.foldl_nil, EMem.marked_nil]
    split_ifs
    · exact hstep.setBasin.wrapInc _
    · exact hstep.setBasin

end Basin

section Patrol

variable {s t u : State} {c : Fin 256} {n reader addr tenant header cause count : Nat}

/-- The patrol of a channel stands at word n; PASSES counts the end of a pass. -/
def State.patrolled (s : State) (c n : Nat) : State :=
  let s := { s with hbm := { s.hbm with patrol := Sparse.set (fun _ => 0) s.hbm.patrol c n } }
  if n = 0 then s.wrapInc (Fld.MEMC_CH_ECC_PASSES c) else s

theorem State.patrolled_spec (ht : t = s.patrolled c n) :
    t = { s with hbm := t.hbm, regs := t.regs } ∧ t.hbm.mem = s.hbm.mem ∧ Sparse.get (fun _ => 0) t.hbm.patrol c.val = n ∧
      RegsApart s t [Reg.MEMC_CH_ECC c] ∧
      t.rd (Fld.MEMC_CH_ECC_PASSES c) = (if n = 0 then (s.rd (Fld.MEMC_CH_ECC_PASSES c) + 1) % 2 ^ 32 else s.rd (Fld.MEMC_CH_ECC_PASSES c)) := by
  have hpatrol : Sparse.get (fun _ => 0) (Sparse.set (fun _ => 0) s.hbm.patrol c.val n) c.val = n := Sparse.get_set_same _ _ _ _
  obtain ⟨u, hu⟩ : ∃ u : State, u = { s with hbm := { s.hbm with patrol := Sparse.set (fun _ => 0) s.hbm.patrol c.val n } } := ⟨_, rfl⟩
  have hregs : u.regs = s.regs := hu ▸ rfl
  rw [State.patrolled, ← hu] at ht
  by_cases hzero : n = 0
  · rw [if_pos hzero] at ht
    rw [if_pos hzero]
    refine ⟨?_, ?_, ?_, ?_, ?_⟩
    · rw [ht, hu]
      rfl
    · rw [ht, hu]
      rfl
    · rw [ht, hu]
      exact hpatrol
    · exact ht ▸ (RegsApart.of_regs_eq hregs _).wr (Fld.MEMC_CH_ECC_PASSES c) _ (List.mem_singleton_self _)
    · rw [ht, ← State.rd_congr hregs]
      exact u.rd_wr _ _ (by decide : 31 < 64) (by decide : 0 ≤ 31)
  · rw [if_neg hzero] at ht
    rw [if_neg hzero]
    subst ht hu
    exact ⟨rfl, rfl, hpatrol, RegsApart.of_regs_eq rfl _, rfl⟩

theorem State.markMapOut_spec (ht : t = s.markMapOut c cause count) :
    t.hbm = s.hbm ∧ t.rc = s.rc ∧ t.flag (Fld.MEMC_CH_STATUS_PENDING c) = true := by
  unfold State.markMapOut at ht
  split_ifs at ht with hpending
  · subst ht
    exact ⟨rfl, rfl, hpending⟩
  · subst ht
    exact ⟨rfl, rfl, s.flag_wrB true (by decide : 61 < 64) (by decide : 61 ≤ 61)⟩

theorem rcUnit_channelEcc (c : Fin 256) (lo : Nat) : rcUnit (Reg.MEMC_CH_ECC c) lo = 1 := by
  obtain ⟨k, hk⟩ : ∃ k, k = Reg.MEMC_CH_ECC c := ⟨_, rfl⟩
  have hlow : 0xC0000 ≤ k ∧ k < 0xD0000 ∧ k % 0x100 = 8 := by
    unfold Reg.MEMC_CH_ECC at hk
    omega
  obtain ⟨h1, h2, h3⟩ := hlow
  have hcanon := canon_memc (p := k) h1 (by omega)
  rw [← hk]
  unfold rcUnit
  dsimp only
  split_ifs <;> omega

/-- The address of an error of a channel noted, unless one is held already (R291). -/
def State.channelNoted (s : State) (c addr : Nat) (scrub : Bool) : State :=
  if s.flag (Fld.MEMC_CH_ECC_ADDR_VALID c) then s
  else ((s.wrB (Fld.MEMC_CH_ECC_ADDR_VALID c) true).wrB (Fld.MEMC_CH_ECC_ADDR_BY_SCRUB c) scrub).wr (Fld.MEMC_CH_ECC_ADDR_ADDR c) addr

theorem State.regsOnly_channelNoted (s : State) (c addr : Nat) (scrub : Bool) : RegsOnly s (s.channelNoted c addr scrub) := by
  unfold State.channelNoted
  split_ifs
  · exact .refl s
  · exact (((RegsOnly.refl s).wr _ _).wr _ _).wr _ _

/-- An uncorrectable error of a channel counted: in the register, and since the cold reset. -/
def State.channelCounted (s : State) (c n : Nat) : State :=
  { s.bump (Fld.MEMC_CH_ECC_UNCORR c) 1 with hbm := { s.hbm with uncorr := Sparse.set (fun _ => 0) s.hbm.uncorr c n } }

theorem State.hbmUncorrectable_eq (hn : n = Sparse.get (fun _ => 0) s.hbm.uncorr c.val + 1)
    (hu : u = ((s.channelCounted c n).channelNoted c addr (decide (reader = rdScrub))).log 0x02 5 c 0x3F tenant
      (eccWord memHbm reader c addr) header) :
    s.hbmUncorrectable c reader addr tenant header = if 16 ≤ n then u.markMapOut c 2 n else u := by
  subst hn hu
  have hhbm : (s.bump (Fld.MEMC_CH_ECC_UNCORR c) 1).hbm = s.hbm := by rw [State.bump_frame]
  unfold State.hbmUncorrectable
  dsimp only
  rw [hhbm]
  rfl

/-- What an uncorrectable error of a channel leaves; the sixteenth marks the channel (R291, R321, R325). -/
theorem State.hbmUncorrectable_spec (ht : t = s.hbmUncorrectable c reader addr tenant header) :
    t.hbm.mem = s.hbm.mem ∧ t.cnt (Fld.MEMC_CH_ECC_UNCORR c) = min 255 (s.cnt (Fld.MEMC_CH_ECC_UNCORR c) + 1) ∧
      (15 ≤ Sparse.get (fun _ => 0) s.hbm.uncorr c.val → t.flag (Fld.MEMC_CH_STATUS_PENDING c) = true) := by
  obtain ⟨n, hn⟩ : ∃ n, n = Sparse.get (fun _ => 0) s.hbm.uncorr c.val + 1 := ⟨_, rfl⟩
  obtain ⟨v, hv⟩ : ∃ v, v = (s.channelCounted c n).channelNoted c addr (decide (reader = rdScrub)) := ⟨_, rfl⟩
  obtain ⟨u, hu⟩ : ∃ u, u = v.log 0x02 5 c 0x3F tenant (eccWord memHbm reader c addr) header := ⟨_, rfl⟩
  have hcnt : (s.channelCounted c n).cnt (Fld.MEMC_CH_ECC_UNCORR c) = min 255 (s.cnt (Fld.MEMC_CH_ECC_UNCORR c) + 1) :=
    State.cnt_bump_of_unit (f := Fld.MEMC_CH_ECC_UNCORR c) s (rcUnit_channelEcc c _) 1
  have hmem : (s.channelCounted c n).hbm.mem = s.hbm.mem := rfl
  have hregs : RegsOnly (s.channelCounted c n) v := hv ▸ State.regsOnly_channelNoted _ _ _ _
  have huhbm : u.hbm = (s.channelCounted c n).hbm := by rw [hu, State.log_hbm, hregs.frame]
  have hurc : u.rc = (s.channelCounted c n).rc := by rw [hu, State.log_rc, hregs.frame]
  rw [State.hbmUncorrectable_eq hn (hu.trans (by rw [hv]))] at ht
  by_cases hmany : 16 ≤ n
  · rw [if_pos hmany] at ht
    obtain ⟨hhbm, hrc, hpending⟩ := State.markMapOut_spec ht
    refine ⟨by rw [hhbm, huhbm, hmem], ?_, fun _ => hpending⟩
    rw [State.cnt, hrc, hurc]
    exact hcnt
  · rw [if_neg hmany] at ht
    subst ht
    refine ⟨by rw [huhbm, hmem], ?_, fun h => absurd h (by omega)⟩
    rw [State.cnt, hurc]
    exact hcnt

theorem channelStatus_notMem (c : Fin 256) : (Fld.MEMC_CH_STATUS_PENDING c).key ∉ [Reg.MEMC_CH_ECC c] := by
  change Reg.MEMC_CH_STATUS c ∉ _
  rw [List.mem_singleton]
  unfold Reg.MEMC_CH_STATUS Reg.MEMC_CH_ECC
  omega

/-- The word that the patrol reads: a new error that cannot be corrected marks it, and errors are reported (R322). -/
def State.patrolRead (s : State) (c word : Nat) (ecc : Ecc) : State :=
  let idx := c * 2 ^ 26 + word
  let old := s.hbm.mem.bad.contains idx
  let s := if ecc = .corrected ∧ ¬ old then s.hbmCorrected c rdScrub (32 * word) else s
  let s := if ecc = .uncorrectable ∧ ¬ old then
      { s with hbm := { s.hbm with mem := { s.hbm.mem with bad := s.hbm.mem.bad ++ [idx] } } }
    else s
  if ecc = .uncorrectable ∨ old then s.hbmUncorrectable c rdScrub (32 * word) 0 0 else s

theorem State.hbmPatrol_eq (s : State) (c word : Nat) (ecc : Ecc) : s.hbmPatrol c word ecc =
    (s.patrolRead c word ecc).patrolled c ((Sparse.get (fun _ => 0) (s.patrolRead c word ecc).hbm.patrol c + 1) % 2 ^ 26) := rfl

theorem State.patrolRead_clean (hbad : s.hbm.mem.bad = []) (c word : Nat) : s.patrolRead c word .clean = s := by
  simp [State.patrolRead, hbad]

theorem State.patrolRead_uncorrectable (hbad : s.hbm.mem.bad = []) (c word : Nat) : s.patrolRead c word .uncorrectable =
    State.hbmUncorrectable { s with hbm := { s.hbm with mem := { s.hbm.mem with bad := [c * 2 ^ 26 + word] } } }
      c rdScrub (32 * word) 0 0 := by
  simp [State.patrolRead, hbad]

end Patrol

/-- Settles O38, memory by memory: where the step leaves its pointer, what it marks, and what it reports. -/
theorem scrubbersStepAndReport : Obligations.ScrubbersStepAndReport := by
  refine ⟨fun s pb p hrun hp hrow => ⟨fun hmode hbad => ⟨?_, ?_⟩, fun ecc hmode => ?_⟩, fun s pb instr k rows p hrun hst hmode hk hp hi hd => ?_,
    fun s l p hrun hp hbad => ?_, fun s c w n hrun hbad hn => ⟨?_, ?_⟩⟩
  · exact exec_poolScrubStep_clean hrun hp hrow hmode hbad
  · exact exec_poolScrubStep_uncorrectable hrun hp hmode hbad
  · exact hp ▸ exec_poolScrubStep_rinsing hrun hmode
  · exact exec_foremanScrubStep_clean hrun hst hmode hk hp hi hd
  · obtain ⟨done, hstep⟩ := State.basinScrub_clean_spec hp hbad
    exact ⟨_, done, next_live_of_running hrun _, hstep.fresh, hstep.basin, hstep.scrub, hstep.lag, hstep.lease⟩
  · have hpatrol : s.hbmPatrol c w.toNat .clean = s.patrolled c n := by rw [State.hbmPatrol_eq, State.patrolRead_clean hbad, ← hn]
    obtain ⟨t, ht⟩ : ∃ t, t = s.patrolled c n := ⟨_, rfl⟩
    exact ⟨t, (next_live_of_running hrun _).trans (congrArg _ (hpatrol.trans ht.symm)), State.patrolled_spec ht⟩
  · obtain ⟨u, hu⟩ : ∃ u, u = s.patrolRead c w.toNat .uncorrectable := ⟨_, rfl⟩
    obtain ⟨hmem, hcnt, hpending⟩ := State.hbmUncorrectable_spec (hu.trans (State.patrolRead_uncorrectable hbad _ _))
    obtain ⟨t, ht⟩ : ∃ t, t = u.patrolled c ((Sparse.get (fun _ => 0) u.hbm.patrol c.val + 1) % 2 ^ 26) := ⟨_, rfl⟩
    have hpatrol : s.hbmPatrol c w.toNat .uncorrectable = t := by rw [State.hbmPatrol_eq, ← hu, ht]
    obtain ⟨hframe, htmem, -, hapart, -⟩ := State.patrolled_spec ht
    refine ⟨t, (next_live_of_running hrun _).trans (congrArg _ hpatrol), htmem.trans hmem, ?_, fun h => ?_⟩
    · rw [hframe]
      exact hcnt
    · exact (State.flag_congr (hapart.rd (channelStatus_notMem c))).trans (hpending h)

end Sys2Proof.Machine
end

section
/-! PROOF. A tag served at its far side: by a Basin, by local HBM, by a peer's Pool (R295, R309, R315). -/

namespace Sys2Proof.Machine

section Served

variable {s t u : State} {pb id : Nat} {data : List (Nat × Bool)}

theorem TagServed.of_bench_eq {pb : Fin 68} {id : Fin 512} (h : u.bench pb = s.bench pb) :
    TagServed s (u.serveTag pb id data) pb id data := by
  rw [TagServed, State.serveTag, State.bench_onBench, h]

theorem BenchesApart.serveTag (h : BenchesApart s u pb) : BenchesApart s (u.serveTag pb id data) pb :=
  h.trans (State.benchesApart_setBench _ _ _)

theorem State.serveTag_frame (u : State) (pb id : Nat) (data : List (Nat × Bool)) :
    u.serveTag pb id data = { u with benches := (u.serveTag pb id data).benches } := rfl

/-- Words seen without an error are the words read. -/
theorem zipIdx_map_seen_clean (l : List (Nat × Bool)) :
    l.zipIdx.map (fun w => (w.1.1, w.1.2 || (false && decide (w.2 = 0)))) = l := by
  simp only [Bool.false_and, Bool.or_false]
  exact List.zipIdx_map_fst 0 l

/-- A run of steps over words that take no notice of the words seen before them. -/
theorem foldl_zip_zip {α β γ σ : Type} (f : σ → α × γ → σ) (as : List α) (bs : List β) (cs : List γ) (m : σ) (h : bs.length = as.length) :
    ((as.zip bs).zip cs).foldl (fun m x => f m (x.1.1, x.2)) m = (as.zip cs).foldl f m := by
  induction as generalizing bs cs m with
  | nil => rfl
  | cons a as ih =>
    obtain ⟨b, bs, rfl⟩ := List.exists_cons_of_length_eq_add_one h
    cases cs with
    | nil => rfl
    | cons c cs => exact ih bs cs _ (Nat.succ.inj h)

theorem farWord_of_plain {e : Exec} (h : adderOf e.word = 0) (p : Nat) (old new : Nat × Bool) (bad : Bool) :
    farWord e p old new bad = new :=
  if_pos h

end Served

section Basin

variable {s : State} {pb : Fin 68} {id : Fin 512} {j : SlJob} {g : Tag} {e : Exec} {l : Nat}

theorem State.basinWait_frame (s : State) (l a : Nat) :
    s.basinWait l a = { s with rc := (s.basinWait l a).rc, fresh := (s.basinWait l a).fresh } := by
  unfold State.basinWait
  rw [State.bump_frame]
  rfl

theorem State.basinWait_benches (s : State) (l a : Nat) : (s.basinWait l a).benches = s.benches := by
  rw [State.basinWait_frame]

theorem State.basinWait_ledges (s : State) (l a : Nat) : (s.basinWait l a).ledges = s.ledges := by
  rw [State.basinWait_frame]

theorem State.leaseOk_basinWait (s : State) (l a m b tenant : Nat) : (s.basinWait l a).leaseOk m b tenant = s.leaseOk m b tenant := by
  rw [State.leaseOk, State.leaseOk, State.lease, State.lease, State.basinWait_ledges]

theorem State.basin_basinWait (s : State) (l a m : Nat) : (s.basinWait l a).basin m = s.basin m := by
  rw [State.basin, State.basin, State.basinWait_ledges]

theorem State.bump_ledges (s : State) (f : Fld) (n : Nat) : (s.bump f n).ledges = s.ledges := by
  rw [State.bump_frame]

theorem State.basinUncorrectable_ledges (s : State) (l reader addr tenant header : Nat) :
    (s.basinUncorrectable l reader addr tenant header).ledges = s.ledges := by
  simp [State.basinUncorrectable, apply_ite State.ledges, State.bump_ledges]

/-- Words of a Basin with a bad one among them noted at a read. -/
def State.basinNoted (s : State) (l far tenant header : Nat) (bad : List Nat) : State :=
  bad.foldl (fun s k => s.basinUncorrectable l rdSluice (far + 32 * k) tenant header) s

theorem State.basinNoted_benches (s : State) (l far tenant header : Nat) (bad : List Nat) :
    (s.basinNoted l far tenant header bad).benches = s.benches :=
  foldl_read_untouched _ State.benches bad s fun _ _ _ => State.basinUncorrectable_benches _ _ _ _ _ _

theorem State.basinNoted_ledges (s : State) (l far tenant header : Nat) (bad : List Nat) :
    (s.basinNoted l far tenant header bad).ledges = s.ledges :=
  foldl_read_untouched _ State.ledges bad s fun _ _ _ => State.basinUncorrectable_ledges _ _ _ _ _ _

/-- Words sent to a Basin whose lease the tenant holds are written. -/
theorem State.basinAccess_outward (h : s.tagOut pb id .basin j g e) (hadd : adderOf e.word = 0)
    (hlease : s.leaseOk (adLedge e.farDesc) g.far (s.benchTenant pb) = true) (hout : e.outward = true) (hl : l = adLedge e.farDesc) :
    s.basinAccess pb id .clean = ((s.basinWait l g.far).setBasin l (wordsWritten (s.basin l) g)).serveTag pb id g.data := by
  obtain ⟨-, hfound, hwaits, hfar, -⟩ := h
  subst hl
  have hfold (m : EMem) (p : Nat) (seen : List (Nat × Bool)) (hlen : seen.length = g.addrs.length) :=
    foldl_zip_zip (fun (m : EMem) (x : Nat × (Nat × Bool)) => m.writeWord x.1 x.2.1 x.2.2) g.addrs seen g.data m hlen
  simp only [State.basinAccess, hfound, hwaits, hfar, hadd, hout, State.leaseOk_basinWait, hlease, State.basin_basinWait,
    farWord_of_plain, ne_eq, not_true_eq_false,
    decide_false, Bool.or_self, Bool.false_eq_true, if_false, if_true, Bool.not_true, false_and, Bool.false_and, Bool.or_false]
  rw [hfold _ (s.addPrime e) _ (by simp), wordsWritten]

/-- Words read from a Basin whose lease the tenant holds. -/
theorem State.basinAccess_inward (h : s.tagOut pb id .basin j g e) (hadd : adderOf e.word = 0)
    (hlease : s.leaseOk (adLedge e.farDesc) g.far (s.benchTenant pb) = true) (hout : e.outward = false) (hl : l = adLedge e.farDesc) :
    s.basinAccess pb id .clean = ((s.basinWait l g.far).basinNoted l g.far (s.benchTenant pb) e.header
      (markedAt (g.addrs.map (s.basin l).readWord))).serveTag pb id (g.addrs.map (s.basin l).readWord) := by
  obtain ⟨-, hfound, hwaits, hfar, -⟩ := h
  subst hl
  simp only [State.basinAccess, hfound, hwaits, hfar, hadd, hout, State.leaseOk_basinWait, hlease, State.basin_basinWait,
    reduceCtorEq, ne_eq, not_true_eq_false,
    decide_false, Bool.or_self, Bool.or_false, Bool.false_eq_true, if_false, if_true, Bool.not_false, and_false, Bool.and_false,
    Bool.false_and, List.zipIdx_map_fst, State.basinNoted]

/-- A tag served by a Basin whose lease the tenant holds (R295). -/
theorem exec_basinAccess_leased (h : s.tagOut pb id .basin j g e) (hadd : adderOf e.word = 0)
    (hlease : s.leaseOk (adLedge e.farDesc) g.far (s.benchTenant pb) = true) :
    ∃ t, exec (.basinAccess pb id .clean) s = .next t ∧ BenchesApart s t pb ∧
      (e.outward = true → t = { s with benches := t.benches, rc := t.rc, fresh := t.fresh, ledges := t.ledges } ∧
        TagServed s t pb id g.data ∧ t.basin (adLedge e.farDesc) = wordsWritten (s.basin (adLedge e.farDesc)) g ∧
        (∀ l, l ≠ adLedge e.farDesc → t.basin l = s.basin l)) ∧
      (e.outward = false → (∀ l, t.basin l = s.basin l) ∧
        TagServed s t pb id (g.addrs.map (s.basin (adLedge e.farDesc)).readWord)) := by
  refine ⟨_, next_live_of_running h.running _, ?_⟩
  obtain ⟨l, hl⟩ : ∃ l, l = adLedge e.farDesc := ⟨_, rfl⟩
  have hbenches := s.basinWait_benches l g.far
  have hledges := s.basinWait_ledges l g.far
  rw [← hl]
  cases hout : e.outward with
  | true =>
    rw [State.basinAccess_outward h hadd hlease hout hl]
    refine ⟨(BenchesApart.of_benches_eq hbenches _).serveTag, fun _ => ⟨?_, .of_bench_eq (State.bench_congr hbenches _), ?_, ?_⟩, nofun⟩
    · rw [State.serveTag_frame, State.setBasin, State.basinWait_frame]
    · exact Sparse.get_set_same _ _ _ _
    · intro q hq
      exact (Sparse.get_set_ne _ _ _ hq).trans (s.basin_basinWait l g.far q)
  | false =>
    rw [State.basinAccess_inward h hadd hlease hout hl]
    refine ⟨?_, nofun, fun _ => ⟨fun q => ?_, .of_bench_eq (State.bench_congr ?_ _)⟩⟩
    · exact (BenchesApart.of_benches_eq ((State.basinNoted_benches _ _ _ _ _ _).trans hbenches) _).serveTag
    · rw [State.basin, State.basin, State.serveTag_frame]
      exact congrArg (Sparse.get _ ·.basins q) ((State.basinNoted_ledges _ _ _ _ _ _).trans hledges)
    · exact (State.basinNoted_benches _ _ _ _ _ _).trans hbenches

theorem State.not_warned_of_sluice_eq {u : State} (hbenches : u.benches = s.benches) (hsl : (s.bench pb).sluice = [j])
    (hwarned : j.warned = false) : ((u.bench pb).sluice.find? (fun x => decide (x.cmd = j.cmd))).any (·.warned) = false := by
  simpa only [State.bench_congr hbenches, hsl, List.find?_cons, decide_true, Option.any_some] using hwarned

/-- The first access of a transfer that its lease refuses: noted and logged, the tag answered (R295). -/
theorem State.basinAccess_refused {ecc : Ecc} (h : s.tagOut pb id .basin j g e) (hadd : adderOf e.word = 0)
    (hlease : s.leaseOk (adLedge e.farDesc) g.far (s.benchTenant pb) = false) (hwarned : j.warned = false)
    (hsl : (s.bench pb).sluice = [j]) (hl : l = adLedge e.farDesc) :
    ∃ d0, s.basinAccess pb id ecc = (((s.basinWait l g.far).onBench pb (·.onJob j.cmd (fun x => { x with warned := true }))).log
        0x08 2 l 0x3F (s.benchTenant pb) d0 g.far).serveTag pb id (if e.outward then g.data else List.replicate g.count (0, false)) := by
  obtain ⟨-, hfound, hwaits, hfar, -⟩ := h
  subst hl
  have hnot := State.not_warned_of_sluice_eq (s.basinWait_benches (adLedge e.farDesc) g.far) hsl hwarned
  simp only [State.basinAccess, hfound, hwaits, hfar, hadd, State.leaseOk_basinWait, hlease, State.warnOnce, hnot, ne_eq, not_true_eq_false, decide_false,
    Bool.or_self, Bool.false_eq_true, if_false, if_true]
  exact ⟨_, rfl⟩

theorem Bench.onJob_single {b : Bench} (hsl : b.sluice = [j]) (w : SlJob → SlJob) : (b.onJob j.cmd w).sluice = [w j] := by
  simp only [Bench.onJob, hsl, List.map_cons, List.map_nil, if_true]

theorem Bench.onTag_single {b : Bench} (hsl : b.sluice = [j]) (n : Nat) (f : Tag → Tag) :
    (b.onTag n f).sluice = [{ j with tags := j.tags.map (fun x => if x.id = n then f x else x) }] := by
  simp only [Bench.onTag, hsl, List.map_cons, List.map_nil]

/-- A tag that comes to a Basin whose lease the tenant does not hold (R295). -/
theorem exec_basinAccess_refused (h : s.tagOut pb id .basin j g e) (hadd : adderOf e.word = 0) (ecc : Ecc)
    (hlease : s.leaseOk (adLedge e.farDesc) g.far (s.benchTenant pb) = false) (hwarned : j.warned = false)
    (hsl : (s.bench pb).sluice = [j]) :
    ∃ t, exec (.basinAccess pb id ecc) s = .next t ∧
      t = { s with benches := t.benches, rc := t.rc, fresh := t.fresh, spoil := t.spoil } ∧
      (t.spoil.inFlight.getLast?).map (·.cls) = some 0x08 ∧
      (∃ j', (t.bench pb).sluice = [j'] ∧ j'.warned = true ∧
        j'.tags = j.tags.map (fun x => if x.id = id.val then
          { x with served := true, data := if e.outward then g.data else List.replicate g.count (0, false) } else x)) := by
  obtain ⟨d0, ht⟩ := State.basinAccess_refused (ecc := ecc) h hadd hlease hwarned hsl rfl
  refine ⟨_, next_live_of_running h.running _, ?_⟩
  rw [ht]
  refine ⟨?_, ?_, { j with warned := true, tags := _ }, ?_, rfl, rfl⟩
  · rw [State.basinWait_frame]
    rfl
  · simp [State.serveTag, State.onBench, State.setBench, State.log]
  · have hbu : ((s.basinWait (adLedge e.farDesc) g.far).bench pb).sluice = [j] := by
      rw [State.bench_congr (s.basinWait_benches _ _), hsl]
    have hlog (v : State) (d0 : Nat) : (v.log 0x08 2 (adLedge e.farDesc) 0x3F (s.benchTenant pb) d0 g.far).bench pb = v.bench pb := rfl
    rw [State.serveTag, State.bench_onBench, hlog, State.bench_onBench]
    exact Bench.onTag_single (Bench.onJob_single hbu _) _ _

end Basin

end Sys2Proof.Machine
end

section
/-! PROOF. A tag served by local HBM (R315, R321). -/

namespace Sys2Proof.Machine

section Words

variable {s u : State}

theorem State.actList_congr (h : u.regs = s.regs) (lo n : Nat) : u.actList lo n = s.actList lo n := by
  have hactive : u.chanActive = s.chanActive := funext fun c => by rw [State.chanActive, State.chanActive, State.rd_congr h]
  rw [State.actList, State.actList, hactive]

/-- Where an address of local HBM lies is said by the registers. -/
theorem State.hbmLoc_congr (h : u.regs = s.regs) (a : Nat) : u.hbmLoc a = s.hbmLoc a := by
  simp only [State.hbmLoc, State.rd_congr h, State.actList_congr h]

/-- A word written at its place in local HBM, where it has one. -/
def EMem.placed (m : EMem) (loc : Option HbmLoc) (w : Nat × Bool) : EMem :=
  match loc with
  | some p => m.writeWord p.key w.1 w.2
  | none => m

/-- Local HBM with other contents. -/
def State.withHbmMem (s : State) (m : EMem) : State := { s with hbm := { s.hbm with mem := m } }

theorem State.setHbmWord_eq (s : State) (a : Nat) (w : Nat × Bool) :
    s.setHbmWord a w.1 w.2 = s.withHbmMem (s.hbm.mem.placed (s.hbmLoc a) w) := by
  unfold State.setHbmWord
  cases s.hbmLoc a <;> rfl

theorem State.foldl_setHbmWord (s : State) (m : EMem) (l : List (Nat × (Nat × Bool))) :
    l.foldl (fun s x => s.setHbmWord x.1 x.2.1 x.2.2) (s.withHbmMem m) =
      s.withHbmMem (l.foldl (fun m x => m.placed (s.hbmLoc x.1) x.2) m) := by
  induction l generalizing m with
  | nil => rfl
  | cons x l ih =>
    have hloc : (s.withHbmMem m).hbmLoc x.1 = s.hbmLoc x.1 := State.hbmLoc_congr rfl x.1
    rw [List.foldl_cons, State.setHbmWord_eq, hloc]
    exact ih _

theorem State.countHbm_frame (s : State) (a n : Nat) (write : Bool) :
    s.countHbm a n write = { s with rc := (s.countHbm a n write).rc } := by
  unfold State.countHbm
  split
  · rfl
  · exact State.bump_frame _ _ _

theorem State.bump_hbm (s : State) (f : Fld) (n : Nat) : (s.bump f n).hbm = s.hbm := by
  rw [State.bump_frame]

theorem State.hbmUncorrectable_mem (s : State) (c reader addr tenant header : Nat) :
    (s.hbmUncorrectable c reader addr tenant header).hbm.mem = s.hbm.mem := by
  simp [State.hbmUncorrectable, State.markMapOut, apply_ite State.hbm, State.bump_hbm]

/-- Words of a channel with a bad one among them noted at a read. -/
def State.channelNotedAt (s : State) (loc : HbmLoc) (tenant header : Nat) (bad : List Nat) : State :=
  bad.foldl (fun s k => s.hbmUncorrectable loc.ch rdSluice (loc.inChannel + 32 * k) tenant header) s

theorem State.channelNotedAt_benches (s : State) (loc : HbmLoc) (tenant header : Nat) (bad : List Nat) :
    (s.channelNotedAt loc tenant header bad).benches = s.benches :=
  foldl_read_untouched _ State.benches bad s fun _ _ _ => State.hbmUncorrectable_benches _ _ _ _ _ _

theorem State.channelNotedAt_mem (s : State) (loc : HbmLoc) (tenant header : Nat) (bad : List Nat) :
    (s.channelNotedAt loc tenant header bad).hbm.mem = s.hbm.mem :=
  foldl_read_untouched _ (·.hbm.mem) bad s fun _ _ _ => State.hbmUncorrectable_mem _ _ _ _ _ _

end Words

section Channel

variable {s : State} {pb : Fin 68} {id : Fin 512} {j : SlJob} {g : Tag} {e : Exec}

/-- Words sent to a page of local HBM that the tenant owns are written at their places. -/
theorem State.hbmAccess_outward (h : s.tagOut pb id .hbm j g e) (hadd : adderOf e.word = 0)
    (hpage : s.pageOk g.far (s.benchTenant pb) = true) (hout : e.outward = true) :
    s.hbmAccess pb id .clean = ((s.countHbm g.far (32 * g.count) true).withHbmMem
      ((g.addrs.zip g.data).foldl (fun m x => m.placed (s.hbmLoc x.1) x.2) s.hbm.mem)).serveTag pb id g.data := by
  obtain ⟨-, hfound, hwaits, hfar, -⟩ := h
  obtain ⟨u, hu⟩ : ∃ u, u = s.countHbm g.far (32 * g.count) true := ⟨_, rfl⟩
  have hframe := s.countHbm_frame g.far (32 * g.count) true
  rw [← hu] at hframe
  have hfold (seen : List (Nat × Bool)) (hlen : seen.length = g.addrs.length) :=
    foldl_zip_zip (fun (t : State) (x : Nat × (Nat × Bool)) => t.setHbmWord x.1 x.2.1 x.2.2) g.addrs seen g.data u hlen
  have hplaced := u.foldl_setHbmWord u.hbm.mem (g.addrs.zip g.data)
  have hmem : u.hbm.mem = s.hbm.mem := by rw [hframe]
  have hregs : u.regs = s.regs := by rw [hframe]
  simp only [hmem, State.hbmLoc_congr hregs] at hplaced
  simp only [State.hbmAccess, hfound, hwaits, hfar, hpage, hadd, hout, ← hu, farWord_of_plain, ne_eq, not_true_eq_false,
    decide_false, Bool.or_self, Bool.false_eq_true, if_false, if_true, Bool.not_true, false_and, Bool.false_and, Bool.or_false]
  rw [hfold _ (by simp), ← hplaced, ← hmem]
  rfl

/-- Words read from a page of local HBM that the tenant owns. -/
theorem State.hbmAccess_inward (h : s.tagOut pb id .hbm j g e) (hadd : adderOf e.word = 0)
    (hpage : s.pageOk g.far (s.benchTenant pb) = true) (hout : e.outward = false) :
    s.hbmAccess pb id .clean = ((s.channelNotedAt ((s.hbmLoc g.far).getD ⟨0, 0, 0⟩) (s.benchTenant pb) e.header
      (markedAt (g.addrs.map s.hbmWord))).countHbm g.far (32 * g.count) false).serveTag pb id (g.addrs.map s.hbmWord) := by
  obtain ⟨-, hfound, hwaits, hfar, -⟩ := h
  simp only [State.hbmAccess, hfound, hwaits, hfar, hpage, hadd, hout, reduceCtorEq, ne_eq, not_true_eq_false, decide_false,
    Bool.or_self, Bool.or_false, Bool.false_eq_true, if_false, if_true, Bool.not_false, and_false, Bool.and_false, Bool.false_and,
    List.zipIdx_map_fst, State.channelNotedAt]

/-- A tag served by local HBM whose page the tenant owns (R315). -/
theorem exec_hbmChannelAccess_owned (h : s.tagOut pb id .hbm j g e) (hadd : adderOf e.word = 0)
    (hpage : s.pageOk g.far (s.benchTenant pb) = true) :
    ∃ t, exec (.hbmChannelAccess pb id .clean) s = .next t ∧ BenchesApart s t pb ∧
      (e.outward = true → t = { s with benches := t.benches, rc := t.rc, hbm := t.hbm } ∧ TagServed s t pb id g.data ∧
        t.hbm = { s.hbm with mem := (g.addrs.zip g.data).foldl (fun m x => m.placed (s.hbmLoc x.1) x.2) s.hbm.mem }) ∧
      (e.outward = false → t.hbm.mem = s.hbm.mem ∧ TagServed s t pb id (g.addrs.map s.hbmWord)) := by
  refine ⟨_, next_live_of_running h.running _, ?_⟩
  cases hout : e.outward with
  | true =>
    rw [State.hbmAccess_outward h hadd hpage hout]
    obtain ⟨u, hu⟩ : ∃ u, u = s.countHbm g.far (32 * g.count) true := ⟨_, rfl⟩
    have hframe := s.countHbm_frame g.far (32 * g.count) true
    rw [← hu] at hframe ⊢
    have hbenches : u.benches = s.benches := by rw [hframe]
    refine ⟨(BenchesApart.of_benches_eq hbenches _).serveTag, fun _ => ⟨?_, .of_bench_eq (State.bench_congr hbenches _), ?_⟩, nofun⟩
    · rw [State.serveTag_frame, State.withHbmMem, hframe]
    · rw [State.serveTag_frame, State.withHbmMem, hframe]
  | false =>
    rw [State.hbmAccess_inward h hadd hpage hout]
    obtain ⟨u, hu⟩ : ∃ u, u = s.channelNotedAt ((s.hbmLoc g.far).getD ⟨0, 0, 0⟩) (s.benchTenant pb) e.header
      (markedAt (g.addrs.map s.hbmWord)) := ⟨_, rfl⟩
    have hub : u.benches = s.benches := hu ▸ State.channelNotedAt_benches _ _ _ _ _
    have hum : u.hbm.mem = s.hbm.mem := hu ▸ State.channelNotedAt_mem _ _ _ _ _
    have hbenches : (u.countHbm g.far (32 * g.count) false).benches = s.benches := by rw [State.countHbm_frame, hub]
    rw [← hu]
    refine ⟨(BenchesApart.of_benches_eq hbenches _).serveTag, nofun, fun _ => ⟨?_, .of_bench_eq (State.bench_congr hbenches _)⟩⟩
    rw [State.serveTag_frame, State.countHbm_frame, hum]

end Channel

end Sys2Proof.Machine
end

section
/-! PROOF. A tag served by the Pool of another bench (R309). -/

namespace Sys2Proof.Machine

theorem markedAt_eq_nil {l : List (Nat × Bool)} (h : ∀ x ∈ l, x.2 = false) : markedAt l = [] := by
  have hnone : l.zipIdx.filter (fun w => w.1.2) = [] := List.filter_eq_nil_iff.mpr fun w hw => by
    rw [h w.1 (List.fst_mem_of_mem_zipIdx hw)]
    exact Bool.false_ne_true
  rw [markedAt, hnone, List.map_nil]

theorem EMem.readWord_mark {m : EMem} (h : m.bad = []) (a : Nat) : (m.readWord a).2 = false := by
  rw [EMem.readWord, h]
  rfl

section Peer

variable {s : State} {pb : Fin 68} {id : Fin 512} {j : SlJob} {g : Tag} {e : Exec} {p2 : Nat}

/-- The Pool of a peer in FILL takes the words of a tag (R309). -/
theorem exec_peerTagArrival_outward (h : s.tagOut pb id .peer j g e) (hp : p2 = s.physOf (imm e.word 45 40)) (hne : p2 ≠ pb.val)
    (hmode : (s.bench p2).mode = .fill) (hout : e.outward = true) :
    ∃ t, exec (.peerTagArrival pb id) s = .next t ∧ t = { s with benches := t.benches } ∧ TagServed s t pb id g.data ∧
      t.bench p2 = { s.bench p2 with pool := wordsWritten (s.bench p2).pool g } ∧ (∀ q, q ≠ pb.val → q ≠ p2 → t.bench q = s.bench q) := by
  obtain ⟨hrun, hfound, hwaits, hfar, -⟩ := h
  have hserved : s.peerArrival pb id =
      (s.setBench p2 { s.bench p2 with pool := wordsWritten (s.bench p2).pool g }).serveTag pb id g.data := by
    simp only [State.peerArrival, hfound, hwaits, hfar, ← hp, hmode, hout, ne_eq, not_true_eq_false, decide_false, Bool.or_self,
      Bool.false_eq_true, reduceCtorEq, if_false, if_true, wordsWritten]
  refine ⟨_, next_live_of_running hrun _, ?_⟩
  rw [hserved]
  refine ⟨rfl, .of_bench_eq (s.bench_setBench_ne _ hne.symm), ?_, fun q hq hq2 => ?_⟩
  · rw [State.serveTag, State.bench_onBench_ne _ _ hne, State.bench_setBench]
  · rw [State.serveTag, State.bench_onBench_ne _ _ hq, State.bench_setBench_ne _ _ hq2]

/-- The Pool of a peer in FILL answers a tag with its words (R309). -/
theorem exec_peerTagArrival_inward (h : s.tagOut pb id .peer j g e) (hp : p2 = s.physOf (imm e.word 45 40))
    (hmode : (s.bench p2).mode = .fill) (hout : e.outward = false) (hbad : (s.bench p2).pool.bad = []) :
    ∃ t, exec (.peerTagArrival pb id) s = .next t ∧ t = { s with benches := t.benches } ∧ BenchesApart s t pb ∧
      TagServed s t pb id (g.addrs.map (s.bench p2).pool.readWord) := by
  obtain ⟨hrun, hfound, hwaits, hfar, -⟩ := h
  have hclean : markedAt (g.addrs.map (s.bench p2).pool.readWord) = [] := markedAt_eq_nil fun x hx => by
    obtain ⟨a, -, rfl⟩ := List.mem_map.mp hx
    exact EMem.readWord_mark hbad a
  have hserved : s.peerArrival pb id = s.serveTag pb id (g.addrs.map (s.bench p2).pool.readWord) := by
    simp only [State.peerArrival, hfound, hwaits, hfar, ← hp, hmode, hout, hclean, List.foldl_nil, ne_eq, not_true_eq_false,
      decide_false, Bool.or_self, Bool.false_eq_true, reduceCtorEq, if_false, if_true]
  refine ⟨_, next_live_of_running hrun _, ?_⟩
  rw [hserved]
  exact ⟨rfl, BenchesApart.serveTag fun _ _ => rfl, .of_bench_eq rfl⟩

/-- A peer in RINSING discards the words of a tag (R309). -/
theorem exec_peerTagArrival_rinsing (h : s.tagOut pb id .peer j g e) (hp : p2 = s.physOf (imm e.word 45 40))
    (hmode : (s.bench p2).mode = .rinsing) :
    ∃ t, exec (.peerTagArrival pb id) s = .next t ∧ t = { s with benches := t.benches } ∧ BenchesApart s t pb ∧
      TagServed s t pb id (if e.outward then g.data else List.replicate g.count (0, false)) := by
  obtain ⟨hrun, hfound, hwaits, hfar, -⟩ := h
  have hserved : s.peerArrival pb id = s.serveTag pb id (if e.outward then g.data else List.replicate g.count (0, false)) := by
    simp only [State.peerArrival, hfound, hwaits, hfar, ← hp, hmode, ne_eq, not_true_eq_false, decide_false, Bool.or_self,
      Bool.false_eq_true, if_false, if_true]
  refine ⟨_, next_live_of_running hrun _, ?_⟩
  rw [hserved]
  exact ⟨rfl, BenchesApart.serveTag fun _ _ => rfl, .of_bench_eq rfl⟩

/-- At a peer in any other mode a tag waits (R309). -/
theorem exec_peerTagArrival_waits (h : s.tagOut pb id .peer j g e) (hp : p2 = s.physOf (imm e.word 45 40))
    (hfill : (s.bench p2).mode ≠ .fill) (hrinse : (s.bench p2).mode ≠ .rinsing) : exec (.peerTagArrival pb id) s = .next s := by
  obtain ⟨hrun, hfound, hwaits, hfar, -⟩ := h
  refine (next_live_of_running hrun _).trans (congrArg _ ?_)
  simp only [State.peerArrival, hfound, hwaits, hfar, ← hp, hfill, hrinse, ne_eq, not_true_eq_false, decide_false, Bool.or_self,
    Bool.false_eq_true, if_false]

end Peer

end Sys2Proof.Machine
end

section
/-! PROOF. A tag sent: its words, and the transfer moved past them (R328, R329). -/

namespace Sys2Proof.Machine

section Length

theorem tagLen_single (fuel a : Nat) {l : List (Option Nat)} (h : ∀ b rest, l ≠ some b :: rest) : tagLen (fuel + 1) (some a :: l) = 1 := by
  match l with
  | [] => rfl
  | none :: _ => rfl
  | some b :: rest => exact absurd rfl (h b rest)

/-- A tag holds from one to sixteen words, all in the granule of its first. -/
theorem tagLen_spec (fuel a : Nat) (l : List (Option Nat)) :
    1 ≤ tagLen (fuel + 1) (some a :: l) ∧ tagLen (fuel + 1) (some a :: l) ≤ fuel + 1 ∧
      a / 512 = (a + 32 * (tagLen (fuel + 1) (some a :: l) - 1)) / 512 := by
  induction fuel generalizing a l with
  | zero =>
    have hone : tagLen 1 (some a :: l) = 1 := by
      match l with
      | [] => rfl
      | none :: _ => rfl
      | some b :: rest => exact ite_self (c := b = a + 32 ∧ a / 512 = b / 512) 1
    rw [Nat.zero_add, hone]
    omega
  | succ fuel ih =>
    by_cases hl : ∃ b rest, l = some b :: rest
    · obtain ⟨b, rest, rfl⟩ := hl
      obtain ⟨hpos, hle, hgranule⟩ := ih b rest
      have hstep : tagLen (fuel + 2) (some a :: some b :: rest) =
          if b = a + 32 ∧ a / 512 = b / 512 then 1 + tagLen (fuel + 1) (some b :: rest) else 1 := rfl
      rw [hstep]
      split_ifs <;> omega
    · rw [tagLen_single _ _ fun b rest h => hl ⟨b, rest, h⟩]
      omega

end Length

section Skip

variable {e : Exec} {far own : List (Option Nat)}

theorem le_slSkip (e : Exec) (far own : List (Option Nat)) (fuel i : Nat) (b : Bench) : i ≤ (slSkip e far own fuel i b).1 := by
  induction fuel generalizing i b with
  | zero => exact le_rfl
  | succ n ih =>
    rw [slSkip]
    split
    next => exact (Nat.le_succ i).trans (ih _ _)
    next => exact le_rfl

theorem slSkip_outward (hout : e.outward = true) (fuel i : Nat) (b : Bench) : (slSkip e far own fuel i b).2 = b := by
  induction fuel generalizing i with
  | zero => rfl
  | succ n ih =>
    rw [slSkip]
    split
    next =>
      rw [if_pos hout]
      exact ih _
    next => rfl

theorem Bench.slFinish_of_tags_out {b : Bench} {j : SlJob} (hsl : b.sluice = [j]) (htags : j.tags ≠ []) : b.slFinish j.cmd = b := by
  have hsome : j.tags.isEmpty = false := by simpa using htags
  unfold Bench.slFinish
  simp only [hsl, List.find?_cons, decide_true, hsome, Bool.false_eq_true, and_false, if_false]

/-- A transfer with a tag out passes over the suppressed accesses at its head (R328). -/
theorem State.slAdvance_of_tags_out {s : State} {pb : Nat} {j : SlJob} (hsl : (s.bench pb).sluice = [j])
    (he : (s.bench pb).exec j.cmd = some e) (htags : j.tags ≠ []) :
    ∃ b n, s.slAdvance pb j.cmd = s.setBench pb b ∧ b.sluice = [{ j with next := n }] ∧ j.next ≤ n ∧ b.tagSeq = (s.bench pb).tagSeq ∧
      (e.outward = true → b.pool = (s.bench pb).pool) := by
  obtain ⟨r, hr⟩ : ∃ r, r = slSkip e ((s.bench pb).farOf e) ((s.bench pb).ownOf e) j.total j.next (s.bench pb) := ⟨_, rfl⟩
  have hle : j.next ≤ r.1 := hr ▸ le_slSkip _ _ _ _ _ _
  have hpool (hout : e.outward = true) : r.2 = s.bench pb := hr ▸ slSkip_outward hout _ _ _
  obtain ⟨p, c, d, l, hfilled⟩ : (s.bench pb).Refilled r.2 := hr ▸ refilled_slSkip _ _ _ _ _ _
  have hrsl : r.2.sluice = [j] := by
    rw [hfilled]
    exact hsl
  have hmoved : (r.2.onJob j.cmd (fun j => { j with next := r.1 })).sluice = [{ j with next := r.1 }] :=
    Bench.onJob_single hrsl _
  refine ⟨r.2.onJob j.cmd (fun j => { j with next := r.1 }), r.1, ?_, hmoved, hle, ?_, fun hout => ?_⟩
  · have hfinish := Bench.slFinish_of_tags_out hmoved htags
    simp only [State.slAdvance, State.onBench, hsl, List.find?_cons, decide_true, he, ← hr]
    rw [hfinish]
  · change r.2.tagSeq = _
    rw [hfilled]
  · change r.2.pool = _
    rw [hpool hout]

end Skip

section Send

variable {s : State} {pb : Nat} {j : SlJob} {e : Exec} {a : Nat}

theorem slData_unmarked {b : Bench} (hbad : b.pool.bad = []) (hwords : e.badWords = []) (l : List (Option Nat)) (first n : Nat) :
    ∀ x ∈ slData b e l first n, x.2 = false := by
  intro x hx
  obtain ⟨w, -, rfl⟩ := List.mem_map.mp hx
  cases w with
  | none => rfl
  | some a => simp [EMem.readWord_mark hbad, hwords]

/-- The words that a tag carries when it is sent: those to be written, or those of the own Pool. -/
def Bench.tagData (b : Bench) (e : Exec) (first n : Nat) : List (Nat × Bool) :=
  if e.outward then slData b e (b.ownOf e) first n else if e.side = .own then slData b e (b.farOf e) first n else []

/-- The next tag of a transfer. -/
def Bench.nextTag (b : Bench) (j : SlJob) (e : Exec) : Tag :=
  let n := tagLen 16 ((b.farOf e).drop j.next)
  ⟨b.tagSeq % 512, j.next, n, ((b.farOf e).getD j.next none).getD 0, b.tagData e j.next n, decide (e.side = .own), false⟩

theorem Bench.tagData_unmarked {b : Bench} (hbad : b.pool.bad = []) (hwords : e.badWords = []) (first n : Nat) :
    ∀ x ∈ b.tagData e first n, x.2 = false := by
  unfold Bench.tagData
  split_ifs
  · exact slData_unmarked hbad hwords _ _ _
  · exact slData_unmarked hbad hwords _ _ _
  · exact fun _ hx => absurd hx List.not_mem_nil

/-- A transfer with a tag sent. -/
def Bench.withTag (b : Bench) (j : SlJob) (g : Tag) : Bench :=
  { b.onJob j.cmd (fun x => { x with next := x.next + g.count, tags := x.tags ++ [g] }) with tagSeq := b.tagSeq + 1 }

/-- A tag without a bad word for a side other than the Hall is sent. -/
theorem State.slSend_of_unmarked (hside : e.side ≠ .hall) (hclean : markedAt ((s.bench pb).nextTag j e).data = []) :
    s.slSend pb j e = (s.setBench pb ((s.bench pb).withTag j ((s.bench pb).nextTag j e))).slAdvance pb j.cmd := by
  unfold State.slSend
  extract_lets b far own a n id data tag bad marked halted sent u src v m p w
  have hbad : bad = [] := hclean
  have hsent : sent = b.withTag j tag := by
    have hhalted : halted = marked := if_pos (hbad ▸ rfl)
    simp only [sent, hhalted]
    rfl
  have hv : v = u := by
    simp only [v, hbad, List.foldl_nil]
  have hw : w = u := (if_neg hside).trans hv
  rw [hw]
  exact congrArg (fun c => (s.setBench pb c).slAdvance pb j.cmd) hsent

/-- TAG_SEND of a transfer with words left and no halt, on a side other than the Hall. -/
theorem State.tagSend_of_ready (hsl : (s.bench pb).sluice = [j]) (hleft : j.next < j.total) (he : (s.bench pb).exec j.cmd = some e)
    (hfree : ∀ g ∈ j.tags, g.id ≠ (s.bench pb).tagSeq % 512) (hhalted : j.halted = false) (hpending : j.pending = false)
    (hside : e.side ≠ .hall) : s.tagSend pb = s.slSend pb j e := by
  have hused : j.tags.any (fun t => decide (t.id = (s.bench pb).tagSeq % 512)) = false :=
    List.any_eq_false.mpr fun g hg => by simpa using hfree g hg
  simp only [State.tagSend, hsl, List.any_cons, List.any_nil, List.find?_cons, hleft, decide_true, hused, hhalted, hpending, he, hside,
    Bool.or_self, Bool.false_eq_true, if_false]

/-- A tag of a transfer is sent (R328, R329). -/
theorem exec_tagSend {pb : Fin 68} (hrun : s.running = true) (hsl : (s.bench pb).sluice = [j]) (hleft : j.next < j.total)
    (he : (s.bench pb).exec j.cmd = some e) (hfree : ∀ g ∈ j.tags, g.id ≠ (s.bench pb).tagSeq % 512) (hhalted : j.halted = false)
    (hpending : j.pending = false) (ha : ((s.bench pb).farOf e)[j.next]? = some (some a)) (hside : e.side ≠ .hall)
    (hbad : (s.bench pb).pool.bad = []) (hwords : e.badWords = []) :
    ∃ t g j', exec (.tagSend pb) s = .next t ∧ t = { s with benches := t.benches } ∧ BenchesApart s t pb ∧
      (t.bench pb).sluice = [j'] ∧ j'.tags = j.tags ++ [g] ∧ j'.cmd = j.cmd ∧ j.next + g.count ≤ j'.next ∧
      g.id = (s.bench pb).tagSeq % 512 ∧ g.first = j.next ∧ g.far = a ∧ 1 ≤ g.count ∧ g.count ≤ 16 ∧
      a / 512 = (a + 32 * (g.count - 1)) / 512 ∧ g.served = decide (e.side = .own) ∧ g.err = false ∧
      (t.bench pb).tagSeq = (s.bench pb).tagSeq + 1 ∧ (e.outward = true → (t.bench pb).pool = (s.bench pb).pool ∧
        g.data = slData (s.bench pb) e ((s.bench pb).ownOf e) j.next g.count) := by
  obtain ⟨g, hg⟩ : ∃ g, g = (s.bench pb).nextTag j e := ⟨_, rfl⟩
  have hsend := State.tagSend_of_ready hsl hleft he hfree hhalted hpending hside
  rw [State.slSend_of_unmarked hside (markedAt_eq_nil (Bench.tagData_unmarked hbad hwords _ _)), ← hg] at hsend
  obtain ⟨u, hu⟩ : ∃ u, u = s.setBench pb ((s.bench pb).withTag j g) := ⟨_, rfl⟩
  have hub : u.bench pb = (s.bench pb).withTag j g := hu ▸ s.bench_setBench pb _
  have husl : (u.bench pb).sluice = [{ j with next := j.next + g.count, tags := j.tags ++ [g] }] := by
    rw [hub]
    exact Bench.onJob_single hsl _
  have hue : (u.bench pb).exec j.cmd = some e := by
    rw [hub]
    exact he
  obtain ⟨b, n, hadvance, hbsl, hn, hseq, hpool⟩ := State.slAdvance_of_tags_out husl hue (by simp)
  obtain ⟨rest, hrest⟩ : ∃ rest, ((s.bench pb).farOf e).drop j.next = some a :: rest := by
    obtain ⟨hlt, hget⟩ := List.getElem?_eq_some_iff.mp ha
    exact ⟨_, hget ▸ List.drop_eq_getElem_cons hlt⟩
  have hcount : g.count = tagLen 16 (some a :: rest) := by
    rw [← hrest, hg]
    rfl
  obtain ⟨hpos, hle, hgranule⟩ := tagLen_spec 15 a rest
  rw [← hcount] at hpos hle hgranule
  refine ⟨_, g, { j with next := n, tags := j.tags ++ [g] }, next_live_of_running hrun _, ?_⟩
  rw [hsend, ← hu, hadvance, hu, State.bench_setBench]
  refine ⟨rfl, (s.benchesApart_setBench _ _).trans (State.benchesApart_setBench _ _ _), hbsl, rfl, rfl, hn, congrArg Tag.id hg,
    congrArg Tag.first hg, ?_, hpos, hle, hgranule, congrArg Tag.served hg, congrArg Tag.err hg, ?_, fun hout => ⟨?_, ?_⟩⟩
  · rw [hg, Bench.nextTag]
    simp [List.getD, ha]
  · rw [hseq, hub]
    rfl
  · rw [hpool hout, hub]
    rfl
  · rw [hg]
    exact if_pos hout

end Send

end Sys2Proof.Machine
end

section
/-! PROOF. A Hall page that does not translate: the transfer halts once no tag is out (R331). -/

namespace Sys2Proof.Machine

section Halt

variable {s t u : State} {pb : Nat} {j : SlJob} {e : Exec} {a kind : Nat}

/-- The position and the page of a halted transfer saved. -/
def State.contextSaved (s : State) (pb iter word page : Nat) : State :=
  ((s.wr (Fld.BENCH_SLUICE_CTX_ITER pb) iter).wr (Fld.BENCH_SLUICE_CTX_WORD pb) word).wr (Fld.BENCH_SLUICE_FAULT_PAGE pb) page

theorem State.regsOnly_contextSaved (s : State) (pb iter word page : Nat) : RegsOnly s (s.contextSaved pb iter word page) :=
  (((RegsOnly.refl s).wr _ _).wr _ _).wr _ _

theorem State.rd_page_contextSaved (s : State) (pb iter word page : Nat) :
    (s.contextSaved pb iter word page).rd (Fld.BENCH_SLUICE_FAULT_PAGE pb) = page % 2 ^ 43 :=
  State.rd_wr _ _ _ (by decide : 63 < 64) (by decide : 21 ≤ 63)

/-- A transfer that halts: marked, its place saved, the fault counted and logged. -/
theorem State.slHalt_eq (hsl : (s.bench pb).sluice = [j]) (he : (s.bench pb).exec j.cmd = some e)
    (ha : (((s.bench pb).farOf e).getD j.next none).getD 0 = a) :
    ∃ iter word d1, s.slHalt pb j.cmd =
      (((s.setBench pb ((s.bench pb).onJob j.cmd (fun j => { j with halted := true, pending := false }))).contextSaved pb iter word
        (a / 2 ^ 21)).bump (Fld.BENCH_SLUICE_STATUS_FAULTS pb) 1).logBench pb 0x09 a d1 := by
  simp only [State.slHalt, hsl, List.find?_cons, decide_true, he, ha]
  exact ⟨_, _, _, rfl⟩

/-- What the halt of a transfer leaves (R331). -/
theorem State.slHalt_spec {pb : Fin 68} (hsl : (s.bench pb).sluice = [j]) (he : (s.bench pb).exec j.cmd = some e)
    (ha : (((s.bench pb).farOf e).getD j.next none).getD 0 = a) (ht : t = s.slHalt pb j.cmd) :
    BenchesApart s t pb ∧ (t.bench pb).sluice = [{ j with halted := true, pending := false }] ∧ (t.bench pb).pool = (s.bench pb).pool ∧
      t.rd (Fld.BENCH_SLUICE_FAULT_PAGE pb) = a / 2 ^ 21 % 2 ^ 43 ∧
      t.cnt (Fld.BENCH_SLUICE_STATUS_FAULTS pb) = min 0xFFFFFFFF (s.cnt (Fld.BENCH_SLUICE_STATUS_FAULTS pb) + 1) ∧
      (t.spoil.inFlight.getLast?).map (·.cls) = some 0x09 := by
  obtain ⟨iter, word, d1, hhalt⟩ := State.slHalt_eq hsl he ha
  obtain ⟨c, hc⟩ : ∃ c, c = (s.bench pb).onJob j.cmd (fun j => { j with halted := true, pending := false }) := ⟨_, rfl⟩
  obtain ⟨v, hv⟩ : ∃ v, v = (s.setBench pb c).contextSaved pb iter word (a / 2 ^ 21) := ⟨_, rfl⟩
  obtain ⟨w, hw⟩ : ∃ w, w = v.bump (Fld.BENCH_SLUICE_STATUS_FAULTS pb) 1 := ⟨_, rfl⟩
  rw [← hc, ← hv, ← hw] at hhalt
  have hregs : RegsOnly (s.setBench pb c) v := hv ▸ State.regsOnly_contextSaved _ _ _ _ _
  have hpage := State.rd_page_contextSaved (s.setBench pb c) pb iter word (a / 2 ^ 21)
  rw [← hv] at hpage
  have hunit : rcUnit (Reg.BENCH_SLUICE_STATUS pb) 0 = 1 :=
    rcUnit_bench (by unfold Reg.BENCH_SLUICE_STATUS; omega) (by unfold Reg.BENCH_SLUICE_STATUS; omega) _
  have hcnt := v.cnt_bump_of_unit (f := Fld.BENCH_SLUICE_STATUS_FAULTS pb) hunit 1
  rw [← hw] at hcnt
  have hwb : w.benches = v.benches := hw ▸ State.bump_benches _ _ _
  have hbench (q : Nat) : t.bench q = (s.setBench pb c).bench q := by
    rw [ht, hhalt, ← hregs.bench q]
    exact State.bench_congr hwb q
  refine ⟨fun q hq => ?_, ?_, ?_, ?_, ?_, ?_⟩
  · rw [hbench, State.bench_setBench_ne _ _ hq]
  · rw [hbench, State.bench_setBench, hc, Bench.onJob_single hsl]
  · rw [hbench, State.bench_setBench, hc]
    rfl
  · have hwr : w.regs = v.regs := by rw [hw, State.bump_frame]
    rw [ht, hhalt, ← hpage]
    exact State.rd_congr hwr _
  · rw [ht, hhalt]
    refine hcnt.trans ?_
    rw [hregs.frame]
    rfl
  · rw [ht, hhalt, State.logBench_last_cls]

/-- A transfer whose page does not translate, with no tag out, halts there (R331). -/
theorem State.tagSend_of_fault (hsl : (s.bench pb).sluice = [j]) (hleft : j.next < j.total) (he : (s.bench pb).exec j.cmd = some e)
    (hhalted : j.halted = false) (hpending : j.pending = false) (htags : j.tags = [])
    (ha : (((s.bench pb).farOf e).getD j.next none).getD 0 = a) (hside : e.side = .hall)
    (hkind : s.hallTranslate (a / 2 ^ 21) (s.benchTenant pb) e.outward = some kind)
    (hu : u = s.setBench pb ((s.bench pb).onJob j.cmd (fun j => { j with pending := true, fault := kind }))) :
    s.tagSend pb = u.slHalt pb j.cmd := by
  have husl : (u.bench pb).sluice = [{ j with pending := true, fault := kind }] := by
    rw [hu, State.bench_setBench, Bench.onJob_single hsl]
  have hsettle : u.slSettle pb = u.slHalt pb j.cmd := by
    simp [State.slSettle, husl, htags]
  have hsend : s.tagSend pb = u.slSettle pb := by
    simp only [State.tagSend, hsl, List.any_cons, List.any_nil, List.find?_cons, hleft, decide_true, htags, hhalted, hpending, he, ha,
      hside, hkind, Bool.or_self, Bool.false_eq_true, if_false, if_true, hu]
  rw [hsend, hsettle]

/-- A Hall page that does not translate (R331). -/
theorem exec_tagSend_fault {pb : Fin 68} (hrun : s.running = true) (hsl : (s.bench pb).sluice = [j]) (hleft : j.next < j.total)
    (he : (s.bench pb).exec j.cmd = some e) (hhalted : j.halted = false) (hpending : j.pending = false)
    (ha : ((s.bench pb).farOf e)[j.next]? = some (some a)) (hside : e.side = .hall)
    (hkind : s.hallTranslate (a / 2 ^ 21) (s.benchTenant pb) e.outward = some kind) (htags : j.tags = []) :
    ∃ t, exec (.tagSend pb) s = .next t ∧ BenchesApart s t pb ∧
      (t.bench pb).sluice = [{ j with halted := true, pending := false, fault := kind }] ∧ (t.bench pb).pool = (s.bench pb).pool ∧
      t.rd (Fld.BENCH_SLUICE_FAULT_PAGE pb) = a / 2 ^ 21 % 2 ^ 43 ∧
      t.cnt (Fld.BENCH_SLUICE_STATUS_FAULTS pb) = min 0xFFFFFFFF (s.cnt (Fld.BENCH_SLUICE_STATUS_FAULTS pb) + 1) ∧
      (t.spoil.inFlight.getLast?).map (·.cls) = some 0x09 := by
  have hget : (((s.bench pb).farOf e).getD j.next none).getD 0 = a := by simp [List.getD, ha]
  obtain ⟨u, hu⟩ : ∃ u, u = s.setBench pb ((s.bench pb).onJob j.cmd (fun j => { j with pending := true, fault := kind })) := ⟨_, rfl⟩
  have hub : u.bench pb = (s.bench pb).onJob j.cmd (fun j => { j with pending := true, fault := kind }) := hu ▸ s.bench_setBench _ _
  have husl : (u.bench pb).sluice = [{ j with pending := true, fault := kind }] := by
    rw [hub, Bench.onJob_single hsl]
  have hue : (u.bench pb).exec j.cmd = some e := by
    rw [hub]
    exact he
  have hua : (((u.bench pb).farOf e).getD j.next none).getD 0 = a := by
    rw [hub]
    exact hget
  have hsend := State.tagSend_of_fault hsl hleft he hhalted hpending htags hget hside hkind hu
  obtain ⟨hapart, hsluice, hpool, hpage, hcnt, hlog⟩ := State.slHalt_spec husl hue hua hsend
  refine ⟨_, next_live_of_running hrun _, BenchesApart.trans ?_ hapart, hsluice, ?_, hpage, ?_, hlog⟩
  · rw [hu]
    exact s.benchesApart_setBench _ _
  · rw [hpool, hub]
    rfl
  · rw [hcnt, hu]
    rfl

end Halt

end Sys2Proof.Machine
end

section
/-! PROOF. A tag that returns: its words at the own side, and the end of the transfer with its last tag (R141, R328, R329). -/

namespace Sys2Proof.Machine

section Response

variable {s : State} {pb : Nat} {id : Nat} {j : SlJob} {g : Tag} {e : Exec}

/-- A word written at its place in the own Pool, where it has one. -/
def EMem.brought (m : EMem) (at_ : Option Nat) (w : Nat × Bool) : EMem :=
  match at_ with
  | some a => m.writeWord a w.1 w.2
  | none => m

/-- A bench with another Pool. -/
def Bench.withPool (b : Bench) (m : EMem) : Bench := { b with pool := m }

theorem Bench.bring_of_copy (b : Bench) (h : isTload e.word = false) (own : List (Option Nat)) (pos : Nat) (w : Nat × Bool) :
    b.bring e own pos w.1 w.2 = b.withPool (b.pool.brought (own.getD pos none) w) := by
  unfold Bench.bring
  rw [h, if_neg Bool.false_ne_true]
  cases own.getD pos none <;> rfl

/-- The Pool of a COPY's bench with the words of a tag brought to it. -/
def Bench.poolBrought (b : Bench) (e : Exec) (g : Tag) : EMem :=
  g.data.zipIdx.foldl (fun m x => m.brought ((b.ownOf e).getD (g.first + x.2) none) x.1) b.pool

theorem Bench.foldl_bring (h : isTload e.word = false) (own : List (Option Nat)) (first : Nat) (l : List ((Nat × Bool) × Nat)) (b : Bench)
    (m : EMem) : l.foldl (fun b x => b.bring e own (first + x.2) x.1.1 x.1.2) (b.withPool m) =
      b.withPool (l.foldl (fun m x => m.brought (own.getD (first + x.2) none) x.1) m) := by
  induction l generalizing m with
  | nil => rfl
  | cons x l ih =>
    rw [List.foldl_cons, Bench.bring_of_copy _ h]
    exact ih _

theorem Bench.findTag_single {b : Bench} (hsl : b.sluice = [j]) (htags : j.tags = [g]) (hid : g.id = id) (he : b.exec j.cmd = some e) :
    b.findTag id = some (j, g, e) := by
  simp [Bench.findTag, hsl, htags, hid, he]

/-- A transfer over: its command has nothing left to do. -/
def Bench.finished (b : Bench) (cmd : Nat) : Bench := { b.onExec cmd (fun e => { e with todo := [] }) with sluice := [] }

theorem Bench.slFinish_of_over {b : Bench} {cmd : Nat} (hsl : b.sluice = [j]) (hover : j.total ≤ j.next) (htags : j.tags = [])
    (hcmd : j.cmd = cmd) : b.slFinish cmd = b.finished cmd := by
  simp [Bench.slFinish, hsl, hover, htags, hcmd, Bench.finished]

theorem Bench.todo_of_finished (b : Bench) (cmd : Nat) : ∀ x ∈ (b.finished cmd).execs, x.id = cmd → x.todo = [] := by
  intro x hx hid
  obtain ⟨y, -, rfl⟩ := List.mem_map.mp hx
  split_ifs at hid ⊢ with hy
  · rfl
  · exact absurd hid hy

theorem State.slSettle_of_none_pending (h : (s.bench pb).sluice = []) : s.slSettle pb = s := by
  simp only [State.slSettle, h, List.find?_nil]

/-- The Pool of a bench after the words of a tag have come back. -/
def Bench.poolAnswered (b : Bench) (e : Exec) (g : Tag) : EMem := if e.outward then b.pool else b.poolBrought e g

/-- The last tag of a COPY returns without a bad word. -/
theorem State.tagResponse_last (hsl : (s.bench pb).sluice = [j]) (htags : j.tags = [g]) (hid : g.id = id)
    (he : (s.bench pb).exec j.cmd = some e) (hserved : g.served = true) (herr : g.err = false) (hover : j.total ≤ j.next)
    (htl : isTload e.word = false) (hclean : ∀ x ∈ g.data, x.2 = false) :
    s.tagResponse pb id = s.setBench pb ((((s.bench pb).withPool ((s.bench pb).poolAnswered e g)).onJob j.cmd
      (fun x => { x with tags := x.tags.filter (fun y => decide (y.id ≠ id)) })).finished j.cmd) := by
  obtain ⟨c, hc⟩ : ∃ c, c = ((s.bench pb).withPool ((s.bench pb).poolAnswered e g)).onJob j.cmd
    (fun x => { x with tags := x.tags.filter (fun y => decide (y.id ≠ id)) }) := ⟨_, rfl⟩
  have hmarks : g.data.any Prod.snd = false := List.any_eq_false.mpr fun x hx => by simp [hclean x hx]
  have hnone : (j.tags.filter (fun y => decide (y.id ≠ id))) = [] := by simp [htags, hid]
  have hcsl : c.sluice = [{ j with tags := j.tags.filter (fun y => decide (y.id ≠ id)) }] := hc ▸ Bench.onJob_single hsl _
  have hfinish : c.slFinish j.cmd = c.finished j.cmd := Bench.slFinish_of_over hcsl hover hnone rfl
  have hbrought : (if e.outward then s.bench pb else g.data.zipIdx.foldl (fun b x =>
      b.bring e ((s.bench pb).ownOf e) (g.first + x.2) x.1.1 x.1.2) (s.bench pb)) =
      (s.bench pb).withPool ((s.bench pb).poolAnswered e g) := by
    unfold Bench.poolAnswered
    split_ifs
    · rfl
    · exact Bench.foldl_bring htl _ _ _ (s.bench pb) (s.bench pb).pool
  simp only [State.tagResponse, Bench.findTag_single hsl htags hid he, hserved, herr, hmarks, hbrought, Bool.not_true, Bool.and_false,
    Bool.false_eq_true, if_false, ← hc, hfinish]
  exact State.slSettle_of_none_pending (by rw [State.bench_setBench]; rfl)

/-- The last tag of a COPY returns (R141, R328, R329). -/
theorem exec_tagResponse_last {pb : Fin 68} {id : Fin 512} (hrun : s.running = true) (hsl : (s.bench pb).sluice = [j])
    (htags : j.tags = [g]) (hid : g.id = id.val) (he : (s.bench pb).exec j.cmd = some e) (hserved : g.served = true)
    (herr : g.err = false) (hover : j.total ≤ j.next) (htl : isTload e.word = false) (hclean : ∀ x ∈ g.data, x.2 = false) :
    ∃ t, exec (.tagResponse pb id) s = .next t ∧ t = { s with benches := t.benches } ∧ BenchesApart s t pb ∧ (t.bench pb).sluice = [] ∧
      (∀ x ∈ (t.bench pb).execs, x.id = j.cmd → x.todo = []) ∧ (t.bench pb).pool = (s.bench pb).poolAnswered e g := by
  refine ⟨_, next_live_of_running hrun _, ?_⟩
  rw [State.tagResponse_last hsl htags hid he hserved herr hover htl hclean, State.bench_setBench]
  exact ⟨rfl, s.benchesApart_setBench _ _, rfl, Bench.todo_of_finished _ _, rfl⟩

end Response

end Sys2Proof.Machine
end

section
/-! PROOF. READY written to BENCH_SLUICE_FAULT (R332). -/

namespace Sys2Proof.Machine

section Ready

variable {s t : State} {vw : View} {b : BenchRef} {pb tok : Nat}

/-- The fields of BENCH_SLUICE_FAULT: READY reads as zero, the page is written by the device alone. -/
theorem regFields_sluiceFault (hpb : pb < 68) : ∀ f ∈ regFields (Reg.BENCH_SLUICE_FAULT pb), f.acc = .wo ∨ f.acc = .ro := by
  have hcanon : canon (Reg.BENCH_SLUICE_FAULT pb) = canon (Reg.BENCH_SLUICE_FAULT 0) := by
    simp only [Reg.BENCH_SLUICE_FAULT]
    rw [canon_of_bench (by omega) (by omega), canon_of_bench (by omega) (by omega)]
    omega
  have hfields : regFields (Reg.BENCH_SLUICE_FAULT pb) = regFields (Reg.BENCH_SLUICE_FAULT 0) := by
    rw [regFields, regFields, regSpecOf, regSpecOf, hcanon]
  rw [hfields]
  decide +kernel

/-- A write by software leaves a register without a field that software sets. -/
theorem accWrite_of_unwritable {k : Nat} (h : ∀ f ∈ regFields k, f.acc = .wo ∨ f.acc = .ro) (old data : Reg64) :
    accWrite (regFields k) old data = old := by
  refine BitVec.eq_of_getLsbD_eq fun i _ => ?_
  by_cases hf : ∃ f ∈ regFields k, f.lo ≤ i ∧ i ≤ f.hi
  · obtain ⟨f, hf, hlo, hhi⟩ := hf
    rw [getLsbD_accWrite old data hf hlo hhi]
    rcases h f hf with hacc | hacc <;> rw [hacc] <;> rfl
  · refine getLsbD_accWrite_of_no_field old data fun f hm => ?_
    have hout : ¬ (f.lo ≤ i ∧ i ≤ f.hi) := fun hin => hf ⟨f, hm, hin⟩
    omega

theorem State.benchWrite_sluiceReady (s : State) (pb : Nat) :
    s.benchWrite pb 0xC10 (word [(0, 1)]) = some ((s.soft (Reg.BENCH_SLUICE_FAULT pb) (word [(0, 1)])).sluiceReadyNow pb) := by
  have hready : (word [(0, 1)]).getLsbD 0 = true := by decide
  simp [State.benchWrite, hready]

theorem State.sluiceReadyNow_regs (s : State) (pb : Nat) : (s.sluiceReadyNow pb).regs = s.regs := by
  unfold State.sluiceReadyNow
  dsimp only
  split_ifs
  · rfl
  · rfl
  · split
    next => rfl
    next =>
      unfold State.postToken
      dsimp only
      split_ifs <;> rfl

theorem State.benchesApart_sluiceReadyNow (s : State) (pb : Nat) : BenchesApart s (s.sluiceReadyNow pb) pb := by
  unfold State.sluiceReadyNow
  dsimp only
  split_ifs
  · exact fun _ _ => rfl
  · exact s.benchesApart_setBench _ _
  · split
    next => exact fun _ _ => rfl
    next =>
      unfold State.postToken
      dsimp only
      split_ifs
      · exact State.benchesApart_setBench _ _ _
      · exact s.benchesApart_setBench _ _

/-- READY without a halt is ignored. -/
theorem State.sluiceReadyNow_of_not_halted (h : (s.bench pb).sluiceHalted = false) : s.sluiceReadyNow pb = s := by
  simp only [State.sluiceReadyNow, h, Bool.not_false, if_true]

/-- With AUTO_RESUME a halted transfer goes on. -/
theorem State.sluiceReadyNow_of_auto (h : (s.bench pb).sluiceHalted = true)
    (hauto : s.flag (Fld.BENCH_SLUICE_CFG_AUTO_RESUME pb) = true) : s.sluiceReadyNow pb = s.slResume pb := by
  simp only [State.sluiceReadyNow, h, hauto, Bool.not_true, Bool.false_eq_true, if_false, if_true]

/-- Without AUTO_RESUME FAULT_TAG is posted for the halted command. -/
theorem State.sluiceReadyNow_of_post {e : Exec} (h : ((s.bench pb).sluice.find? (·.halted)).bind (s.bench pb).slExec = some e)
    (hauto : s.flag (Fld.BENCH_SLUICE_CFG_AUTO_RESUME pb) = false) :
    s.sluiceReadyNow pb = s.postToken pb e.word e.stream e.pc (192 + s.rd (Fld.BENCH_SLUICE_CFG_FAULT_TAG pb)) := by
  have hhalted : (s.bench pb).sluiceHalted = true := by
    obtain ⟨j, hj, -⟩ := Option.bind_eq_some_iff.mp h
    exact List.any_eq_true.mpr ⟨j, List.mem_of_find?_eq_some hj, List.find?_some hj⟩
  simp only [State.sluiceReadyNow, hhalted, hauto, h, Bool.not_true, Bool.false_eq_true, if_false]

theorem State.bench_postToken (h : (s.bench pb).token tok < 255) (w : CmdWord) (stream pc : Nat) :
    (s.postToken pb w stream pc tok).bench pb = (s.bench pb).setToken tok ((s.bench pb).token tok + 1) := by
  simp only [State.postToken, Nat.ne_of_lt h, if_false, State.bench_onBench]

/-- READY written to BENCH_SLUICE_FAULT (R332). -/
theorem exec_sluiceReady (hw : s.benchWritable vw b 0xC10 pb) :
    ∃ t, exec (.sluiceReady vw b) s = .next t ∧ RegsApart s t [] ∧ BenchesApart s t pb ∧
      ((s.bench pb).sluiceHalted = false → t.bench pb = s.bench pb) ∧
      ((s.bench pb).sluiceHalted = true → s.flag (Fld.BENCH_SLUICE_CFG_AUTO_RESUME pb) = true →
        (t.bench pb).sluice = (s.bench pb).sluice.map (fun j => { j with halted := false })) ∧
      (∀ e, ((s.bench pb).sluice.find? (·.halted)).bind (s.bench pb).slExec = some e →
        s.flag (Fld.BENCH_SLUICE_CFG_AUTO_RESUME pb) = false →
        (s.bench pb).token (192 + s.rd (Fld.BENCH_SLUICE_CFG_FAULT_TAG pb)) < 255 →
        t.bench pb = (s.bench pb).setToken (192 + s.rd (Fld.BENCH_SLUICE_CFG_FAULT_TAG pb))
          ((s.bench pb).token (192 + s.rd (Fld.BENCH_SLUICE_CFG_FAULT_TAG pb)) + 1)) := by
  obtain ⟨u, hu⟩ : ∃ u, u = s.soft (Reg.BENCH_SLUICE_FAULT pb) (word [(0, 1)]) := ⟨_, rfl⟩
  have hpb : pb < 68 := by
    obtain ⟨-, -, hpb⟩ := hw
    exact hpb
  have hsame : s.soft (Reg.BENCH_SLUICE_FAULT pb) (word [(0, 1)]) =
      s.setReg (Reg.BENCH_SLUICE_FAULT pb) (s.reg (Reg.BENCH_SLUICE_FAULT pb)) := by
    rw [State.soft, accWrite_of_unwritable (regFields_sluiceFault hpb)]
  have hreg (k : Nat) : u.reg k = s.reg k := by
    rw [hu, hsame]
    by_cases hk : k = Reg.BENCH_SLUICE_FAULT pb
    · rw [hk, State.reg_setReg]
    · exact s.reg_setReg_ne _ hk
  have hbench (q : Nat) : u.bench q = s.bench q := State.bench_congr (hu ▸ rfl) q
  have hauto : u.flag (Fld.BENCH_SLUICE_CFG_AUTO_RESUME pb) = s.flag (Fld.BENCH_SLUICE_CFG_AUTO_RESUME pb) :=
    State.flag_of_reg_eq (hreg _)
  have htag : u.rd (Fld.BENCH_SLUICE_CFG_FAULT_TAG pb) = s.rd (Fld.BENCH_SLUICE_CFG_FAULT_TAG pb) := State.rd_of_reg_eq (hreg _)
  have hwrite := State.busWrite_bench hw (by omega) (s.benchWrite_sluiceReady pb)
  rw [← hu] at hwrite
  refine ⟨_, congrArg Host.Outcome.next hwrite, fun k _ => ?_, fun q hq => ?_, fun h => ?_, fun h ha => ?_, fun e he ha htok => ?_⟩
  · rw [State.reg_congr (u.sluiceReadyNow_regs pb), hreg]
  · rw [u.benchesApart_sluiceReadyNow pb q hq, hbench]
  · rw [State.sluiceReadyNow_of_not_halted (by rw [hbench, h]), hbench]
  · rw [State.sluiceReadyNow_of_auto (by rw [hbench, h]) (by rw [hauto, ha]), State.slResume, State.bench_onBench, hbench]
  · rw [State.sluiceReadyNow_of_post (by rw [hbench, he]) (by rw [hauto, ha]), htag, State.bench_postToken (by rw [hbench]; exact htok),
      hbench]

end Ready

end Sys2Proof.Machine
end

section
/-! PROOF. The tags of the Sluice, sent, served and collected. -/

namespace Sys2Proof.Machine

/-- Settles O33: each far side serves its tags as its rule says, a transfer sends its tags in order and halts on a page that does not
translate, its last tag ends it, and READY lets a halted one go on. -/
theorem tagsAreSentServedAndCollected : Obligations.TagsAreSentServedAndCollected := by
  refine ⟨⟨fun s pb id j g e h hadd => ⟨exec_basinAccess_leased h hadd, fun ecc => exec_basinAccess_refused h hadd ecc⟩,
    fun s pb id j g e h hadd hpage => exec_hbmChannelAccess_owned h hadd hpage,
    fun s pb id j g e p2 h hp hne => ⟨exec_peerTagArrival_outward h hp hne, exec_peerTagArrival_inward h hp,
      exec_peerTagArrival_rinsing h hp, exec_peerTagArrival_waits h hp⟩⟩,
    fun s pb j e a hrun hsl hleft he hfree hhalted hpending ha => ⟨exec_tagSend hrun hsl hleft he hfree hhalted hpending ha, fun kind =>
      exec_tagSend_fault hrun hsl hleft he hhalted hpending ha⟩,
    fun s pb id j g e hrun hsl htags hid he hserved herr hover _ htl hclean =>
      exec_tagResponse_last hrun hsl htags hid he hserved herr hover htl hclean,
    fun s vw b pb hw => exec_sluiceReady hw⟩

end Sys2Proof.Machine
end

section
/-! PROOF. The runs of the traffic generators: how one is stored and ended, and what the writes of a channel's control register do to it
(R323). -/

namespace Sys2Proof.Machine

section Store

variable {β : Type}

theorem Sparse.find?_erase (m : List (Nat × β)) (k : Nat) : (Sparse.erase m k).find? (fun x => decide (x.1 = k)) = none :=
  List.find?_eq_none.mpr (fun p hp => by simpa using (Sparse.erase_keys m k p hp).2)

theorem Sparse.find?_place {m : List (Nat × β)} {k : Nat} (h : ∀ p ∈ m, p.1 ≠ k) (v : β) :
    (Sparse.place m k v).find? (fun x => decide (x.1 = k)) = some (k, v) := by
  induction m with
  | nil => exact List.find?_cons_of_pos (decide_eq_true rfl)
  | cons p m ih =>
    obtain ⟨hp, hm⟩ := List.forall_mem_cons.mp h
    rw [Sparse.place]
    split_ifs
    · exact List.find?_cons_of_pos (decide_eq_true rfl)
    · rw [List.find?_cons_of_neg (by simpa using hp)]
      exact ih hm

end Store

section Run

variable {s t : State} {c : Nat} {r : Option TgRun}

theorem State.tgRun_setTg (s : State) (c : Nat) (r : Option TgRun) : (s.setTg c r).tgRun c = r := by
  cases r with
  | none => exact congrArg (Option.map Prod.snd) (Sparse.find?_erase s.hbm.tg c)
  | some x =>
    exact congrArg (Option.map Prod.snd) (Sparse.find?_place (fun p hp => (Sparse.erase_keys s.hbm.tg c p hp).2) x)

theorem State.tgRun_congr (h : t.hbm = s.hbm) (c : Nat) : t.tgRun c = s.tgRun c := by
  rw [State.tgRun, State.tgRun, h]

theorem State.setTg_frame (s : State) (c : Nat) (r : Option TgRun) :
    s.setTg c r = { s with regs := (s.setTg c r).regs, hbm := { s.hbm with tg := (s.setTg c r).hbm.tg } } := rfl

theorem State.flag_busy_setTg (s : State) (c : Nat) (r : Option TgRun) :
    (s.setTg c r).flag (Fld.MEMC_CH_TG_STATUS_BUSY c) = r.isSome :=
  State.flag_wrB _ _ (by decide : 63 < 64) (by decide : 63 ≤ 63)

theorem State.regsApart_setTg (s : State) (c : Nat) (r : Option TgRun) : RegsApart s (s.setTg c r) [Reg.MEMC_CH_TG_STATUS c] :=
  RegsApart.wr (t := { s with hbm := (s.setTg c r).hbm }) (fun _ _ => rfl) (Fld.MEMC_CH_TG_STATUS_BUSY c) _ (List.mem_singleton_self _)

/-- Nothing but BUSY tells that a run was stored or ended. -/
theorem State.rd_setTg_apart (s : State) (r : Option TgRun) {f : Fld} (hf : f.key ≠ Reg.MEMC_CH_TG_STATUS c ∨ f.hi < 63) :
    (s.setTg c r).rd f = s.rd f :=
  (State.rd_wrB_apart _ (Fld.MEMC_CH_TG_STATUS_BUSY c) f _ (hf.imp id (fun h => ⟨h.trans (by decide : 63 < 64), .inl h⟩))).trans rfl

end Run

section Control

variable {s : State} {vw : View} {c : Nat} {d : Reg64} {r : TgRun}

/-- The word that TG_GO and TG_STOP write: one verb set, the other cleared. -/
def tgCommand (d : Reg64) (on off : Nat) : Reg64 := (d ||| word [(on, 1)]) &&& ~~~ (word [(off, 1)])

theorem exec_tgGo_eq (s : State) (vw : View) (c : Fin 256) (d : Reg64) :
    exec (.tgGo vw c d) s = .next (s.busWrite vw (Reg.MEMC_CH_TG_CTL c) (tgCommand d 63 62)) := rfl

theorem exec_tgStop_eq (s : State) (vw : View) (c : Fin 256) (d : Reg64) :
    exec (.tgStop vw c d) s = .next (s.busWrite vw (Reg.MEMC_CH_TG_CTL c) (tgCommand d 62 63)) := rfl

theorem getLsbD_tgCommand (d : Reg64) (on off : Nat) {i : Nat} (hi : i < 64) :
    (tgCommand d on off).getLsbD i = ((d.getLsbD i || decide (on = i)) && !decide (off = i)) := by
  have hverb (v : Nat) : (word [(v, 1)]).getLsbD i = decide (v = i) := by
    simp only [word, List.foldl_cons, List.foldl_nil, Nat.zero_add, Nat.one_mul, BitVec.getLsbD_ofNat, hi, decide_true, Bool.true_and,
      Nat.testBit_two_pow]
  simp only [tgCommand, BitVec.getLsbD_and, BitVec.getLsbD_or, BitVec.getLsbD_not, hverb, hi, decide_true, Bool.true_and]

/-- The verbs stand above the fields. -/
theorem getBits_tgCommand (d : Reg64) {on off hi lo : Nat} (hon : hi < on) (hoff : hi < off) (hhi : hi < 64) :
    getBits (tgCommand d on off) hi lo = getBits d hi lo := by
  refine getBits_congr (fun i _ h => ?_)
  rw [getLsbD_tgCommand d on off (by omega), decide_eq_false (by omega), decide_eq_false (by omega), Bool.or_false, Bool.not_false,
    Bool.and_true]

theorem State.resolve_tgCtl (s : State) (c : Fin 256) : s.resolve (Reg.MEMC_CH_TG_CTL c) = some (Reg.MEMC_CH_TG_CTL c) := by
  have hc := c.isLt
  have hlogical : logicalAt (Reg.MEMC_CH_TG_CTL c) = none := if_neg (by unfold Reg.MEMC_CH_TG_CTL; omega)
  rw [State.resolve, hlogical]
  exact if_neg (by unfold Reg.MEMC_CH_TG_CTL; omega)

theorem State.writeReg_tgCtl {c : Fin 256} (hacc : s.tgAccepts c d = true) (v : Nat) :
    s.writeReg v (Reg.MEMC_CH_TG_CTL c) d = some (s.tgWrite c d) := by
  obtain ⟨k, hk⟩ : ∃ k, k = Reg.MEMC_CH_TG_CTL c := ⟨_, rfl⟩
  have hplace : k = 0xC0020 + 0x100 * c.val := hk
  have hc := c.isLt
  have hchannel : (k - 0xC0000) / 0x100 = c.val := by omega
  have hoffset : k % 0x100 = 0x20 := by omega
  rw [← hk, State.writeReg, if_neg (by omega), if_neg (by omega), if_neg (by omega), if_neg (by omega), if_neg (by omega),
    if_neg (by omega), if_neg (by omega), if_pos (by omega)]
  unfold State.writeMemc
  dsimp only
  rw [hchannel, hoffset, if_neg (by decide), if_pos rfl, if_pos hacc]

theorem State.busWrite_tgCtl {c : Fin 256} (hw : s.writable vw (Reg.MEMC_CH_TG_CTL c) = true) (hacc : s.tgAccepts c d = true) :
    s.busWrite vw (Reg.MEMC_CH_TG_CTL c) d = s.tgWrite c d :=
  State.busWrite_of_writeReg hw (s.resolve_tgCtl c) (State.writeReg_tgCtl hacc _)

/-- A write without GO is accepted by its operation and pattern, one with GO by the state and range of its channel as well. -/
theorem State.tgAccepts_of_fields (hop : getBits d 61 60 ≤ 2) (hpattern : getBits d 59 57 ≤ 4)
    (hgo : d.getLsbD 63 = true → s.rd (Fld.MEMC_CH_STATUS_STATE c) = 1 ∧
      s.rd (Fld.MEMC_CH_TG_RANGE_FIRST c) + s.rd (Fld.MEMC_CH_TG_RANGE_LINES c) ≤ 2 ^ 22) : s.tgAccepts c d = true := by
  rw [State.tgAccepts, decide_eq_true hop, decide_eq_true hpattern, Bool.true_and, Bool.true_and]
  cases h : d.getLsbD 63 with
  | false => rfl
  | true =>
    obtain ⟨htest, hrange⟩ := hgo h
    rw [decide_eq_true htest, decide_eq_true hrange]
    rfl

/-- GO with no run in progress: the operation, pattern and range that stand. -/
theorem State.tgWrite_of_go (hrun : s.tgRun c = none) (hgo : d.getLsbD 63 = true) :
    s.tgWrite c d = (s.soft (Reg.MEMC_CH_TG_CTL c) d).setTg c (some ⟨getBits d 61 60, getBits d 59 57,
      s.rd (Fld.MEMC_CH_TG_RANGE_FIRST c), s.rd (Fld.MEMC_CH_TG_RANGE_LINES c)⟩) := by
  have hsoft : (s.soft (Reg.MEMC_CH_TG_CTL c) d).tgRun c = none := (State.tgRun_congr rfl c).trans hrun
  have hreg : (s.soft (Reg.MEMC_CH_TG_CTL c) d).reg (Reg.MEMC_CH_TG_RANGE c) = s.reg (Reg.MEMC_CH_TG_RANGE c) :=
    s.reg_setReg_ne _ (by unfold Reg.MEMC_CH_TG_RANGE Reg.MEMC_CH_TG_CTL; omega)
  unfold State.tgWrite
  dsimp only
  rw [hsoft, if_pos hgo, State.rd_of_reg_eq (f := Fld.MEMC_CH_TG_RANGE_FIRST c) hreg,
    State.rd_of_reg_eq (f := Fld.MEMC_CH_TG_RANGE_LINES c) hreg]

/-- STOP with a run in progress: a free number of its granules, no more than it has. -/
theorem State.tgWrite_of_stop (hrun : s.tgRun c = some r) (hstop : d.getLsbD 62 = true) :
    ∃ n, n ≤ r.lines ∧ s.tgWrite c d = ((s.soft (Reg.MEMC_CH_TG_CTL c) d).skip).setTg c (some { r with lines := n }) := by
  have hsoft : (s.soft (Reg.MEMC_CH_TG_CTL c) d).tgRun c = some r := (State.tgRun_congr rfl c).trans hrun
  refine ⟨_, Nat.min_le_left _ ((Config.freeWord s.fresh).toNat % (r.lines + 1)), ?_⟩
  unfold State.tgWrite
  dsimp only
  rw [hsoft]
  exact if_pos hstop

/-- TG_GO on a channel in TEST. -/
theorem exec_tgGo {c : Fin 256} (hw : s.writable vw (Reg.MEMC_CH_TG_CTL c) = true) (hop : getBits d 61 60 ≤ 2)
    (hpattern : getBits d 59 57 ≤ 4) (htest : s.rd (Fld.MEMC_CH_STATUS_STATE c) = 1)
    (hrange : s.rd (Fld.MEMC_CH_TG_RANGE_FIRST c) + s.rd (Fld.MEMC_CH_TG_RANGE_LINES c) ≤ 2 ^ 22) (hrun : s.tgRun c = none) :
    ∃ t, exec (.tgGo vw c d) s = .next t ∧ t = { s with regs := t.regs, hbm := t.hbm } ∧ t.hbm = { s.hbm with tg := t.hbm.tg } ∧
      t.tgRun c = some ⟨getBits d 61 60, getBits d 59 57, s.rd (Fld.MEMC_CH_TG_RANGE_FIRST c), s.rd (Fld.MEMC_CH_TG_RANGE_LINES c)⟩ ∧
      t.flag (Fld.MEMC_CH_TG_STATUS_BUSY c) = true ∧ RegsApart s t [Reg.MEMC_CH_TG_CTL c, Reg.MEMC_CH_TG_STATUS c] := by
  have hopWord : getBits (tgCommand d 63 62) 61 60 = getBits d 61 60 := getBits_tgCommand d (by decide) (by decide) (by decide)
  have hpatternWord : getBits (tgCommand d 63 62) 59 57 = getBits d 59 57 := getBits_tgCommand d (by decide) (by decide) (by decide)
  have hgo : (tgCommand d 63 62).getLsbD 63 = true := (getLsbD_tgCommand d 63 62 (by decide)).trans (by simp)
  have hacc : s.tgAccepts c (tgCommand d 63 62) = true :=
    State.tgAccepts_of_fields (hopWord ▸ hop) (hpatternWord ▸ hpattern) (fun _ => ⟨htest, hrange⟩)
  have hexec := exec_tgGo_eq s vw c d
  rw [State.busWrite_tgCtl hw hacc, State.tgWrite_of_go hrun hgo] at hexec
  refine ⟨_, hexec, rfl, rfl, ?_, State.flag_busy_setTg _ _ _, fun k hk => ?_⟩
  · rw [State.tgRun_setTg, hopWord, hpatternWord]
  · obtain ⟨hctl, hstatus⟩ := not_or.mp (fun h => hk (List.mem_cons.mpr h))
    exact (State.regsApart_setTg _ _ _ k hstatus).trans (s.regsApart_soft _ _ k (mt List.mem_singleton.mp hctl))

/-- TG_STOP while a run is in progress. -/
theorem exec_tgStop {c : Fin 256} (hw : s.writable vw (Reg.MEMC_CH_TG_CTL c) = true) (hop : getBits d 61 60 ≤ 2)
    (hpattern : getBits d 59 57 ≤ 4) (hrun : s.tgRun c = some r) :
    ∃ t n, exec (.tgStop vw c d) s = .next t ∧ t = { s with regs := t.regs, hbm := t.hbm, fresh := s.fresh + 1 } ∧ n ≤ r.lines ∧
      t.tgRun c = some { r with lines := n } ∧ t.hbm.mem = s.hbm.mem := by
  have hstop : (tgCommand d 62 63).getLsbD 62 = true := (getLsbD_tgCommand d 62 63 (by decide)).trans (by simp)
  have hgo : (tgCommand d 62 63).getLsbD 63 = false := (getLsbD_tgCommand d 62 63 (by decide)).trans (by simp)
  have hacc : s.tgAccepts c (tgCommand d 62 63) = true :=
    State.tgAccepts_of_fields ((getBits_tgCommand d (by decide) (by decide) (by decide)).trans_le hop)
      ((getBits_tgCommand d (by decide) (by decide) (by decide)).trans_le hpattern) (fun h => Bool.noConfusion (h.symm.trans hgo))
  obtain ⟨n, hn, hwrite⟩ := State.tgWrite_of_stop hrun hstop
  have hexec := exec_tgStop_eq s vw c d
  obtain ⟨a, hu⟩ : ∃ a, (s.soft (Reg.MEMC_CH_TG_CTL c) (tgCommand d 62 63)).skip = { s with regs := a, fresh := s.fresh + 1 } :=
    ⟨_, rfl⟩
  rw [State.busWrite_tgCtl hw hacc, hwrite, hu] at hexec
  exact ⟨_, n, hexec, rfl, hn, State.tgRun_setTg _ _ _, rfl⟩

end Control

end Sys2Proof.Machine
end

section
/-! PROOF. The end of a traffic generator's run: what it wrote, and what it reports (R323). -/

namespace Sys2Proof.Machine

section Written

theorem Mem.readByte_writeBytes_replicate (n : Nat) (v : Byte) (m : Mem) (a b : Nat) :
    (m.writeBytes a (List.replicate n v)).readByte b = if a ≤ b ∧ b < a + n then v else m.readByte b := by
  induction n generalizing m a with
  | zero => exact (if_neg (by omega)).symm
  | succ n ih =>
    rw [List.replicate_succ, Mem.writeBytes, ih, Mem.readByte_writeByte, ← ite_or]
    exact if_congr (by omega) rfl rfl

/-- Granule i of a run as the run writes it. -/
def State.granuleWritten (s : State) (c : Nat) (r : TgRun) (m : EMem) (i : Nat) : EMem :=
  let key := c * 2 ^ 31 + (r.first + i) * 512
  ⟨m.mem.writeBytes key (tgGranule r.pattern s.fresh key), m.bad.filter (fun w => decide (w < key / 32 ∨ key / 32 + 16 ≤ w))⟩

theorem State.tgWritten_eq (s : State) (c : Nat) (r : TgRun) : s.tgWritten c r =
    { s.skip with hbm := { s.hbm with mem := (List.range r.lines).foldl (s.granuleWritten c r) s.hbm.mem } } := rfl

theorem State.readByte_granuleWritten (s : State) (c : Nat) {r : TgRun} (h : r.pattern = 0) (m : EMem) (i a : Nat) :
    (s.granuleWritten c r m i).mem.readByte a =
      if c * 2 ^ 31 + (r.first + i) * 512 ≤ a ∧ a < c * 2 ^ 31 + (r.first + i) * 512 + 512 then 0 else m.mem.readByte a := by
  unfold State.granuleWritten tgGranule
  dsimp only
  rw [if_pos h, Mem.readByte_writeBytes_replicate]

/-- The first n granules of a run of zeros. -/
theorem State.readByte_foldl_granuleWritten (s : State) (c : Nat) {r : TgRun} (h : r.pattern = 0) (m : EMem) (n a : Nat) :
    ((List.range n).foldl (s.granuleWritten c r) m).mem.readByte a =
      if c * 2 ^ 31 + r.first * 512 ≤ a ∧ a < c * 2 ^ 31 + (r.first + n) * 512 then 0 else m.mem.readByte a := by
  induction n with
  | zero => exact (if_neg (by omega)).symm
  | succ n ih =>
    rw [List.range_succ, List.foldl_append, List.foldl_cons, List.foldl_nil, s.readByte_granuleWritten c h, ih]
    rw [← ite_or]
    exact if_congr (by omega) rfl rfl

end Written

section Done

variable {s t u : State} {c g n : Nat}

/-- Nothing has changed but registers, their counts, and local HBM. -/
def RunOnly (s t : State) : Prop := ∃ a b h, t = { s with regs := a, rc := b, hbm := h }

theorem RunOnly.trans (hst : RunOnly s t) (htu : RunOnly t u) : RunOnly s u := by
  obtain ⟨a, b, h, rfl⟩ := hst
  obtain ⟨a', b', h', rfl⟩ := htu
  exact ⟨a', b', h', rfl⟩

theorem RunOnly.frame (h : RunOnly s t) : t = { s with regs := t.regs, rc := t.rc, hbm := t.hbm } := by
  obtain ⟨a, b, h, rfl⟩ := h
  rfl

/-- The end of a run as STATUS shows it: BUSY clear, DONE set. -/
def State.tgDone (s : State) (c : Nat) : State := (s.setTg c none).wrB (Fld.MEMC_CH_TG_STATUS_DONE c) true

/-- What a run that found n failing granules, g the first of them, reports. -/
def State.tgFailed (s : State) (c g n : Nat) : State :=
  ((s.wrB (Fld.MEMC_CH_TG_STATUS_FAIL c) true).bump (Fld.MEMC_CH_TG_STATUS_FAIL_COUNT c) n).wr (Fld.MEMC_CH_TG_STATUS_FIRST_FAIL c) g

theorem State.runOnly_tgDone (s : State) (c : Nat) : RunOnly s (s.tgDone c) := ⟨_, _, _, rfl⟩

theorem State.hbm_tgDone (s : State) (c : Nat) : (s.tgDone c).hbm = (s.setTg c none).hbm := State.wrB_hbm _ _ _

theorem State.mem_tgDone (s : State) (c : Nat) : (s.tgDone c).hbm.mem = s.hbm.mem := by rw [State.hbm_tgDone, State.setTg_frame]

theorem State.rc_tgDone (s : State) (c : Nat) : (s.tgDone c).rc = s.rc := by rw [State.tgDone, State.wrB_rc, State.setTg_frame]

theorem State.tgRun_tgDone (s : State) (c : Nat) : (s.tgDone c).tgRun c = none :=
  (State.tgRun_congr (s.hbm_tgDone c) c).trans (s.tgRun_setTg c none)

theorem State.flag_busy_tgDone (s : State) (c : Nat) : (s.tgDone c).flag (Fld.MEMC_CH_TG_STATUS_BUSY c) = false :=
  (State.flag_wr_apart _ _ _ _ (.inr (by decide : 63 < 64 ∧ (63 < 62 ∨ 62 < 63)))).trans (s.flag_busy_setTg c none)

theorem State.flag_done_tgDone (s : State) (c : Nat) : (s.tgDone c).flag (Fld.MEMC_CH_TG_STATUS_DONE c) = true :=
  State.flag_wrB _ _ (by decide : 62 < 64) (by decide : 62 ≤ 62)

/-- Below its two top bits STATUS is as before. -/
theorem State.rd_tgDone_apart (s : State) {f : Fld} (hf : f.key ≠ Reg.MEMC_CH_TG_STATUS c ∨ f.hi < 62) : (s.tgDone c).rd f = s.rd f :=
  (State.rd_wrB_apart _ (Fld.MEMC_CH_TG_STATUS_DONE c) f _ (hf.imp id (fun h => ⟨h.trans (by decide : 62 < 64), .inl h⟩))).trans
    (s.rd_setTg_apart none (hf.imp id (fun h => h.trans (by decide : 62 < 63))))

theorem State.tgFailed_frame (s : State) (c g n : Nat) :
    s.tgFailed c g n = { s with regs := (s.tgFailed c g n).regs, rc := (s.tgFailed c g n).rc } := by
  unfold State.tgFailed
  rw [State.bump_frame]
  rfl

theorem State.runOnly_tgFailed (s : State) (c g n : Nat) : RunOnly s (s.tgFailed c g n) := ⟨_, _, _, s.tgFailed_frame c g n⟩

theorem State.hbm_tgFailed (s : State) (c g n : Nat) : (s.tgFailed c g n).hbm = s.hbm := by rw [State.tgFailed_frame]

theorem State.rd_bump (s : State) (f g : Fld) (n : Nat) : (s.bump f n).rd g = s.rd g := State.rd_congr (by rw [State.bump_frame]) g

/-- A failing run reports in FAIL, FAIL_COUNT and FIRST_FAIL alone. -/
theorem State.rd_tgFailed_apart (s : State) (g n : Nat) {f : Fld}
    (hf : f.key ≠ Reg.MEMC_CH_TG_STATUS c ∨ f.hi < 64 ∧ 61 < f.lo) : (s.tgFailed c g n).rd f = s.rd f :=
  calc (s.tgFailed c g n).rd f
    _ = ((s.wrB (Fld.MEMC_CH_TG_STATUS_FAIL c) true).bump (Fld.MEMC_CH_TG_STATUS_FAIL_COUNT c) n).rd f :=
      State.rd_wr_apart _ (Fld.MEMC_CH_TG_STATUS_FIRST_FAIL c) f g (hf.imp id (fun h => ⟨h.1, .inr ((by decide : 21 < 61).trans h.2)⟩))
    _ = (s.wrB (Fld.MEMC_CH_TG_STATUS_FAIL c) true).rd f := State.rd_bump _ _ _ _
    _ = s.rd f := State.rd_wrB_apart s (Fld.MEMC_CH_TG_STATUS_FAIL c) f true (hf.imp id (fun h => ⟨h.1, .inr h.2⟩))

theorem State.flag_fail_tgFailed (s : State) (c g n : Nat) : (s.tgFailed c g n).flag (Fld.MEMC_CH_TG_STATUS_FAIL c) = true :=
  calc (s.tgFailed c g n).flag (Fld.MEMC_CH_TG_STATUS_FAIL c)
    _ = ((s.wrB (Fld.MEMC_CH_TG_STATUS_FAIL c) true).bump (Fld.MEMC_CH_TG_STATUS_FAIL_COUNT c) n).flag (Fld.MEMC_CH_TG_STATUS_FAIL c) :=
      State.flag_wr_apart _ _ _ _ (.inr (by decide : 61 < 64 ∧ (61 < 0 ∨ 21 < 61)))
    _ = (s.wrB (Fld.MEMC_CH_TG_STATUS_FAIL c) true).flag (Fld.MEMC_CH_TG_STATUS_FAIL c) := State.flag_congr (State.rd_bump _ _ _ _)
    _ = true := s.flag_wrB true (by decide : 61 < 64) (by decide : 61 ≤ 61)

theorem State.rd_firstFail_tgFailed (s : State) (c g n : Nat) :
    (s.tgFailed c g n).rd (Fld.MEMC_CH_TG_STATUS_FIRST_FAIL c) = g % 2 ^ 22 :=
  State.rd_wr _ (Fld.MEMC_CH_TG_STATUS_FIRST_FAIL c) g (by decide : 21 < 64) (by decide : 0 ≤ 21)

/-- STATUS counts in single granules. -/
theorem rcUnit_tgStatus (c : Fin 256) (lo : Nat) : rcUnit (Reg.MEMC_CH_TG_STATUS c) lo = 1 := by
  obtain ⟨k, hk⟩ : ∃ k, k = 0xC0030 + 0x100 * c.val := ⟨_, rfl⟩
  have hcanon := canon_memc (p := k) (by omega) (by omega)
  change rcUnit (0xC0030 + 0x100 * c.val) lo = 1
  rw [← hk]
  unfold rcUnit
  dsimp only
  split_ifs <;> omega

theorem State.cnt_tgFailed (s : State) (c : Fin 256) (g n : Nat) : (s.tgFailed c g n).cnt (Fld.MEMC_CH_TG_STATUS_FAIL_COUNT c) =
    min 65535 (s.cnt (Fld.MEMC_CH_TG_STATUS_FAIL_COUNT c) + n) :=
  State.cnt_bump_of_unit (f := Fld.MEMC_CH_TG_STATUS_FAIL_COUNT c) _ (rcUnit_tgStatus c _) n

end Done

section Moved

variable {s : State} {c : Nat}

theorem State.hbmMoved_frame (s : State) (c n : Nat) (write : Bool) :
    s.hbmMoved c n write = { s with rc := (s.hbmMoved c n write).rc } := State.bump_frame _ _ _

theorem State.hbm_hbmMoved (s : State) (c n : Nat) (write : Bool) : (s.hbmMoved c n write).hbm = s.hbm := by rw [State.hbmMoved_frame]

theorem State.regs_hbmMoved (s : State) (c n : Nat) (write : Bool) : (s.hbmMoved c n write).regs = s.regs := by
  rw [State.hbmMoved_frame]

/-- The bytes that move count in BYTES alone. -/
theorem State.cnt_hbmMoved_ne (s : State) (c n : Nat) (write : Bool) {f : Fld} (hlo : f.lo < 64) (hf : f.key ≠ Reg.MEMC_CH_BYTES c) :
    (s.hbmMoved c n write).cnt f = s.cnt f := by
  cases write with
  | false => exact s.cnt_bump_ne n (Fld.rcKey_ne hlo (by decide : 32 < 64) hf)
  | true => exact s.cnt_bump_ne n (Fld.rcKey_ne hlo (by decide : 0 < 64) hf)

end Moved

section Complete

variable {s : State} {fails : List Nat} {r : TgRun} {g : Nat} {rest : List Nat}

/-- A writing run has nothing to compare. -/
theorem State.tgComplete_of_write {c : Nat} (hrun : s.tgRun c = some r) (hop : r.op = 0) (fails : List Nat) :
    s.tgComplete c fails = ((s.tgWritten c r).hbmMoved c (512 * r.lines) true).tgDone c := by
  have hread : r.op ≠ 1 := by omega
  unfold State.tgComplete
  rw [hrun]
  dsimp only
  rw [if_neg hread, if_pos hop, List.filter_eq_nil_iff.mpr (fun x _ => by simp [hop])]
  rfl

theorem mgmtStatus_ne_tgStatus (c : Fin 256) : Fld.MGMT_STATUS_STATE.key ≠ Reg.MEMC_CH_TG_STATUS c := by
  change Reg.MGMT_STATUS ≠ _
  unfold Reg.MGMT_STATUS Reg.MEMC_CH_TG_STATUS
  omega

/-- A reading run of a pattern that is judged by its failing granules alone. -/
theorem State.tgComplete_of_failing_read {c : Fin 256} (hrun : s.tgRun c = some r) (hop : r.op = 1) (hpattern : 2 ≤ r.pattern)
    (hdev : s.devState ≠ devClearing)
    (hbad : ((List.range r.lines).map (· + r.first)).filter (fun x => fails.contains x) = g :: rest) :
    s.tgComplete c fails = ((s.hbmMoved c (512 * r.lines) false).tgDone c).tgFailed c g (rest.length + 1) := by
  have hmust : s.tgMismatch c r = [] := if_pos (.inr (by omega))
  have hwrite : r.op ≠ 0 := by omega
  have hfilter : (fun x => decide (r.op ≠ 0) && (fails.contains x || (s.tgMismatch c r).contains x)) = fun x => fails.contains x := by
    rw [hmust, decide_eq_true hwrite]
    funext x
    rw [List.contains_nil, Bool.or_false, Bool.true_and]
  have hstate : (((s.hbmMoved c (512 * r.lines) false).tgDone c).tgFailed c g (rest.length + 1)).devState = s.devState :=
    (State.rd_tgFailed_apart _ _ _ (.inl (mgmtStatus_ne_tgStatus c))).trans
      ((State.rd_tgDone_apart _ (.inl (mgmtStatus_ne_tgStatus c))).trans (State.rd_congr (State.regs_hbmMoved _ _ _ _) _))
  unfold State.tgComplete
  rw [hrun]
  dsimp only
  rw [hfilter, hbad, if_pos hop, if_neg hwrite]
  exact if_neg (hstate ▸ hdev)

/-- TG_RUN_COMPLETE of a run that writes zeros. -/
theorem exec_tgRunComplete_write {c : Fin 256} (fails : List (BitVec 22)) (hlive : s.running = true) (hrun : s.tgRun c = some r)
    (hop : r.op = 0) (hpattern : r.pattern = 0) :
    ∃ t, exec (.tgRunComplete c fails) s = .next t ∧ t.tgRun c = none ∧
      t.flag (Fld.MEMC_CH_TG_STATUS_BUSY c) = false ∧ t.flag (Fld.MEMC_CH_TG_STATUS_DONE c) = true ∧
      t.flag (Fld.MEMC_CH_TG_STATUS_FAIL c) = s.flag (Fld.MEMC_CH_TG_STATUS_FAIL c) ∧
      ∀ a, t.hbm.mem.mem.readByte a = (if c.val * 2 ^ 31 + r.first * 512 ≤ a ∧ a < c.val * 2 ^ 31 + (r.first + r.lines) * 512 then 0
        else s.hbm.mem.mem.readByte a) := by
  obtain ⟨u, hu⟩ : ∃ u, u = (s.tgWritten c r).hbmMoved c (512 * r.lines) true := ⟨_, rfl⟩
  have hexec : exec (.tgRunComplete c fails) s = .next (u.tgDone c) :=
    (next_live_of_running hlive _).trans (congrArg _ ((State.tgComplete_of_write hrun hop _).trans (by rw [hu])))
  have hregs : u.regs = s.regs := hu ▸ State.regs_hbmMoved _ _ _ _
  have hmem : u.hbm.mem = (List.range r.lines).foldl (s.granuleWritten c r) s.hbm.mem := by
    rw [hu, State.hbm_hbmMoved, State.tgWritten_eq]
  refine ⟨_, hexec, u.tgRun_tgDone c, u.flag_busy_tgDone c, u.flag_done_tgDone c,
    State.flag_congr ((u.rd_tgDone_apart (.inr (by decide : 61 < 62))).trans (State.rd_congr hregs _)), fun a => ?_⟩
  rw [State.mem_tgDone, hmem, s.readByte_foldl_granuleWritten c hpattern]

/-- TG_RUN_COMPLETE of a reading run that fails outside the self-test. -/
theorem exec_tgRunComplete_failing_read {c : Fin 256} {fails : List (BitVec 22)} (hlive : s.running = true)
    (hrun : s.tgRun c = some r) (hop : r.op = 1) (hpattern : 2 ≤ r.pattern) (hdev : s.devState ≠ devClearing)
    (hbad : ((List.range r.lines).map (· + r.first)).filter (fun x => (fails.map BitVec.toNat).contains x) = g :: rest) :
    ∃ t, exec (.tgRunComplete c fails) s = .next t ∧ t = { s with regs := t.regs, rc := t.rc, hbm := t.hbm } ∧ t.tgRun c = none ∧
      t.hbm.mem = s.hbm.mem ∧ t.flag (Fld.MEMC_CH_TG_STATUS_DONE c) = true ∧ t.flag (Fld.MEMC_CH_TG_STATUS_FAIL c) = true ∧
      t.rd (Fld.MEMC_CH_TG_STATUS_FIRST_FAIL c) = g % 2 ^ 22 ∧ t.cnt (Fld.MEMC_CH_TG_STATUS_FAIL_COUNT c) =
        min 65535 (s.cnt (Fld.MEMC_CH_TG_STATUS_FAIL_COUNT c) + (rest.length + 1)) := by
  obtain ⟨u, hu⟩ : ∃ u, u = s.hbmMoved c (512 * r.lines) false := ⟨_, rfl⟩
  obtain ⟨v, hv⟩ : ∃ v, v = u.tgDone c := ⟨_, rfl⟩
  have hexec : exec (.tgRunComplete c fails) s = .next (v.tgFailed c g (rest.length + 1)) :=
    (next_live_of_running hlive _).trans
      (congrArg _ ((State.tgComplete_of_failing_read hrun hop hpattern hdev hbad).trans (by rw [hv, hu])))
  have hmoved : RunOnly s u := hu ▸ ⟨_, _, _, State.hbmMoved_frame _ _ _ _⟩
  have hdone : RunOnly s v := hmoved.trans (hv ▸ u.runOnly_tgDone c)
  have hmem : v.hbm.mem = s.hbm.mem := by
    rw [hv, State.mem_tgDone, hu, State.hbm_hbmMoved]
  have hcount : v.cnt (Fld.MEMC_CH_TG_STATUS_FAIL_COUNT c) = s.cnt (Fld.MEMC_CH_TG_STATUS_FAIL_COUNT c) := by
    have hne : Reg.MEMC_CH_TG_STATUS c ≠ Reg.MEMC_CH_BYTES c := by
      unfold Reg.MEMC_CH_TG_STATUS Reg.MEMC_CH_BYTES
      omega
    rw [State.cnt, hv, State.rc_tgDone, hu]
    exact s.cnt_hbmMoved_ne c _ false (f := Fld.MEMC_CH_TG_STATUS_FAIL_COUNT c) (by decide : 32 < 64) hne
  have hhbm := v.hbm_tgFailed c g (rest.length + 1)
  refine ⟨_, hexec, (hdone.trans (v.runOnly_tgFailed _ _ _)).frame, ?_, ?_, ?_, v.flag_fail_tgFailed _ _ _, v.rd_firstFail_tgFailed _ _ _, ?_⟩
  · rw [State.tgRun_congr hhbm, hv, State.tgRun_tgDone]
  · rw [hhbm, hmem]
  · rw [State.flag_congr (v.rd_tgFailed_apart _ _ (.inr (by decide : 62 < 64 ∧ 61 < 62))), hv, State.flag_done_tgDone]
  · rw [State.cnt_tgFailed, hcount]

end Complete

/-- Settles O40: GO and STOP are accepted writes of the control register, a run that writes leaves its granules written one after another,
and a run that reads reports the granules that fail. -/
theorem trafficGeneratorRuns : Obligations.TrafficGeneratorRuns :=
  ⟨fun _ _ _ _ hw hop hpattern => ⟨fun htest hrange hrun => exec_tgGo hw hop hpattern htest hrange hrun,
      fun _ hrun => exec_tgStop hw hop hpattern hrun⟩,
    fun _ _ fails _ hlive hrun => ⟨fun hop hpattern => exec_tgRunComplete_write fails hlive hrun hop hpattern,
      fun _ _ hop hpattern hdev hbad => exec_tgRunComplete_failing_read hlive hrun hop hpattern hdev hbad⟩⟩

end Sys2Proof.Machine
end

section
/-! PROOF. Answers of this device: a packet for the requester leaves by the link that leads there, with the requester's identity (R349,
R357, R363). -/

namespace Sys2Proof.Machine

/-- What the way of a packet hangs on is as before: the links, the Hall's tables, the hold of injection, and every register from the
fabric's on. -/
structure SameWays (s t : State) : Prop where
  links : t.links = s.links
  hall : t.hall = s.hall
  held : t.net.held = s.net.held
  regs : ∀ k, 0x80000 ≤ k → t.reg k = s.reg k

theorem SameWays.refl (s : State) : SameWays s s := ⟨rfl, rfl, rfl, fun _ _ => rfl⟩

theorem SameWays.trans {s t u : State} (h : SameWays s t) (g : SameWays t u) : SameWays s u :=
  ⟨g.links.trans h.links, g.hall.trans h.hall, g.held.trans h.held, fun k hk => (g.regs k hk).trans (h.regs k hk)⟩

theorem SameWays.of_eqs {s t : State} (hregs : t.regs = s.regs) (hheld : t.net.held = s.net.held) (hlinks : t.links = s.links)
    (hhall : t.hall = s.hall) : SameWays s t :=
  ⟨hlinks, hhall, hheld, fun k _ => State.reg_congr hregs k⟩

theorem State.sameWays_countHbm (s : State) (a n : Nat) (write : Bool) : SameWays s (s.countHbm a n write) := by
  rw [State.countHbm_frame]
  exact .of_eqs rfl rfl rfl rfl

/-- A field of a register below the fabric's takes no part in a packet's way. -/
theorem State.sameWays_wr (s : State) {f : Fld} (v : Nat) (hf : f.key < 0x80000) : SameWays s (s.wr f v) :=
  ⟨rfl, rfl, rfl, fun _ hk => s.reg_wr_ne v (by omega)⟩

section

variable {s t : State}

theorem SameWays.rd (h : SameWays s t) {f : Fld} (hf : 0x80000 ≤ f.key) : t.rd f = s.rd f := by
  rw [State.rd, State.rd, h.regs f.key hf]

theorem SameWays.devId (h : SameWays s t) : t.devId = s.devId := h.rd (by decide : 0x80000 ≤ Fld.HALL_ID_DEV_ID.key)

theorem SameWays.linkUp (h : SameWays s t) : t.linkUp = s.linkUp := funext fun lk => by
  have hst : t.linkState lk = s.linkState lk := h.rd (by simp only [Fld.FAB_PORT_STATUS_STATE, Reg.FAB_PORT_STATUS]; omega)
  rw [State.linkUp, State.linkUp, hst]

/-- A packet goes the same way (R367, R368). -/
theorem SameWays.nextHop (h : SameWays s t) (p : Packet) : t.nextHop p = s.nextHop p := by
  simp only [State.nextHop, State.routeFor, State.pickLink, h.devId, h.hall, h.linkUp]

/-- A packet put into an egress changes that link alone. -/
theorem State.enqueue_frame (s : State) (lk : Nat) (p : Packet) (cls : Nat) :
    s.enqueue lk p cls = { s with links := (s.enqueue lk p cls).links } := rfl

/-- A packet that a link leads to is put there, where nothing holds injection (R359, R382, R394). -/
theorem State.inject_of_link {p : Packet} {lk : Nat} {up : Bool} (hfenced : s.fenced = false) (hheld : s.net.held = false)
    (hhop : s.nextHop p = .link lk up) : s.inject p = s.enqueue lk p (b2n up) := by
  simp [State.inject, State.maySend, State.route, hfenced, hheld, hhop]

end

section Answer

variable {s u : State} {n kind lk cls : Nat} {p : Packet}

/-- The packet that an answer is. -/
def State.answer (s : State) (p : Packet) (kind : Nat) (err : Bool) (l : List Byte) (marks : List Nat) : Packet :=
  { s.packet kind p.src p.srcBench p.tenant p.tag p.epoch 0 p.address (b2n err) l with marks := marks }

/-- An answer goes into the egress of the link that leads to the requester. -/
theorem State.asked.answerRequest_eq (h : s.asked n kind p lk cls) (hu : SameWays s u) (k : Nat) (err : Bool) (l : List Byte)
    (marks : List Nat) : u.answerRequest p k err l marks = u.enqueue lk (u.answer p k err l marks) cls := by
  obtain ⟨up, hhop, rfl⟩ := h.way (u.answer p k err l marks) rfl hu.devId
  obtain ⟨hfenced, hheld⟩ := h.free
  refine State.inject_of_link ?_ (hu.held.trans hheld) ((hu.nextHop _).trans hhop)
  rw [State.fenced, hu.rd (by decide : 0x80000 ≤ Fld.HALL_ID_STATE.key)]
  exact hfenced

/-- A request is answered once the device has done what it asks for, as long as that leaves the packet's way alone. -/
theorem State.asked.answered (h : s.asked n kind p lk cls) (hu : SameWays s u) (k : Nat) (err : Bool) (l : List Byte)
    (marks : List Nat) : Answered s (u.answerRequest p k err l marks) p lk cls k err l := by
  have hgen : u.rd Fld.HALL_ID_GEN = s.rd Fld.HALL_ID_GEN := hu.rd (by decide : 0x80000 ≤ Fld.HALL_ID_GEN.key)
  refine ⟨u.answer p k err l marks, rfl, hu.devId, hgen, rfl, rfl, rfl, rfl, rfl, rfl, rfl, ?_⟩
  have hlink : u.link lk = s.link lk := by rw [State.link, State.link, hu.links]
  rw [h.answerRequest_eq hu, State.enqueue, State.onLink, State.link_setLink, hlink]
  rfl

theorem State.asked.answerRequest_frame (h : s.asked n kind p lk cls) (hu : SameWays s u) (k : Nat) (err : Bool) (l : List Byte)
    (marks : List Nat) : u.answerRequest p k err l marks = { u with links := (u.answerRequest p k err l marks).links } := by
  rw [h.answerRequest_eq hu]
  rfl

theorem State.asked.answerRequest_hbm (h : s.asked n kind p lk cls) (hu : SameWays s u) (k : Nat) (err : Bool) (l : List Byte)
    (marks : List Nat) : (u.answerRequest p k err l marks).hbm = u.hbm := by
  rw [h.answerRequest_frame hu]

theorem State.asked.answerRequest_rd (h : s.asked n kind p lk cls) (hu : SameWays s u) (k : Nat) (err : Bool) (l : List Byte)
    (marks : List Nat) (f : Fld) : (u.answerRequest p k err l marks).rd f = u.rd f :=
  State.rd_congr (by rw [h.answerRequest_frame hu]) f

/-- A packet taken from those delivered. -/
def State.unboxed (s : State) (n : Nat) : State := { s with net := { s.net with inbox := s.net.inbox.eraseIdx n } }

theorem State.sameWays_unboxed (s : State) (n : Nat) : SameWays s (s.unboxed n) := .of_eqs rfl rfl rfl rfl

theorem State.takeInbox_eq {d : Option Nat} (hthere : s.net.inbox[n]? = some ⟨p, d⟩) (hkind : p.kind = kind) :
    s.takeInbox n kind = some (p, s.unboxed n) := by
  simp only [State.takeInbox, hthere, hkind, if_true]
  rfl

theorem State.asked.takeInbox (h : s.asked n kind p lk cls) : s.takeInbox n kind = some (p, s.unboxed n) := by
  obtain ⟨_, hthere⟩ := h.there
  exact State.takeInbox_eq hthere h.kind

end Answer

end Sys2Proof.Machine
end

section
/-! PROOF. Reads, writes and bulk segments of exported memory, answered (R363, R364, R417). -/

namespace Sys2Proof.Machine

section Memory

variable {s : State} {n lk cls : Nat} {p : Packet}

/-- A read outside the window of exported pages, or of a page of another tenant (R363). -/
theorem exec_hallReadRequest_refused (h : s.asked n kRdReq p lk cls) (hno : s.exportAt p = none) :
    ∃ t, exec (.hallReadRequest n) s = .next t ∧ t = { s with net := t.net, links := t.links } ∧
      t.net = { s.net with inbox := s.net.inbox.eraseIdx n } ∧ Answered s t p lk cls kRdResp true (List.replicate p.bytes 0) := by
  have hways := s.sameWays_unboxed n
  have hread : s.hallRead n = (s.unboxed n).answerRequest p kRdResp true (List.replicate p.bytes 0) [] := by
    have hat : (s.unboxed n).exportAt p = none := hno
    simp only [State.hallRead, h.takeInbox, hat]
  refine ⟨_, (next_live_of_running h.running _).trans (congrArg _ hread), ?_, ?_, h.answered hways _ _ _ _⟩
  · rw [h.answerRequest_frame hways]
    rfl
  · rw [h.answerRequest_frame hways]
    rfl

/-- Words of a memory without a bad word carry no mark. -/
theorem State.hbmWord_clean (hbad : s.hbm.mem.bad = []) (a : Nat) : (s.hbmWord a).2 = false := by
  unfold State.hbmWord EMem.readWord
  rw [hbad]
  split <;> rfl

/-- A read of an exported page of the requester's tenant (R363, R364). -/
theorem exec_hallReadRequest_granted {a : Nat} (h : s.asked n kRdReq p lk cls) (hat : s.exportAt p = some a) (hbad : s.hbm.mem.bad = []) :
    ∃ t, exec (.hallReadRequest n) s = .next t ∧ t = { s with net := t.net, links := t.links, rc := t.rc } ∧
      Answered s t p lk cls kRdResp false
        ((wordsBytes ((List.range ((p.bytes + 31) / 32)).map (fun i => s.hbmWord (a + 32 * i)))).take p.bytes) := by
  obtain ⟨u, hu⟩ : ∃ u, u = (s.unboxed n).countHbm a p.bytes false := ⟨_, rfl⟩
  have hframe : u = { s.unboxed n with rc := u.rc } := hu ▸ State.countHbm_frame _ _ _ _
  have hways : SameWays s u := hu ▸ (s.sameWays_unboxed n).trans (State.sameWays_countHbm _ _ _ _)
  obtain ⟨ws, hws⟩ : ∃ ws, ws = (List.range ((p.bytes + 31) / 32)).map (fun i => s.hbmWord (a + 32 * i)) := ⟨_, rfl⟩
  have hmarked : markedAt ws = [] := hws ▸ markedAt_eq_nil fun w hw => by
    obtain ⟨i, -, rfl⟩ := List.mem_map.mp hw
    exact State.hbmWord_clean hbad _
  have hread : s.hallRead n = u.answerRequest p kRdResp false ((wordsBytes ws).take p.bytes) [] := by
    have hat : (s.unboxed n).exportAt p = some a := hat
    have hwords : (List.range (cdiv p.bytes 32)).map (fun i => (s.unboxed n).hbmWord (a + 32 * i)) = ws := hws ▸ rfl
    simp only [State.hallRead, h.takeInbox, hat, hwords, hmarked, List.foldl_nil, hu]
  rw [← hws]
  refine ⟨_, (next_live_of_running h.running _).trans (congrArg _ hread), ?_, h.answered hways _ _ _ _⟩
  rw [h.answerRequest_frame hways, hframe]
  rfl


/-- A write outside the window of exported pages, or to a page of another tenant (R363). -/
theorem exec_hallWriteRequest_refused (h : s.asked n kWrReq p lk cls) (hno : s.exportAt p = none) :
    ∃ t, exec (.hallWriteRequest n) s = .next t ∧ t.hbm = s.hbm ∧ Answered s t p lk cls kWrAck true [] := by
  have hways := s.sameWays_unboxed n
  have hwrite : s.hallWrite n = (s.unboxed n).answerRequest p kWrAck true [] [] := by
    have hat : (s.unboxed n).exportAt p = none := hno
    simp only [State.hallWrite, h.takeInbox, hat]
  refine ⟨_, (next_live_of_running h.running _).trans (congrArg _ hwrite), ?_, h.answered hways _ _ _ _⟩
  rw [h.answerRequest_frame hways]
  rfl

/-- A memory with words written at the places of the addresses from a on. -/
def State.placeWords (s : State) (a : Nat) (ws : List (Nat × Bool)) (m : EMem) : EMem :=
  ws.zipIdx.foldl (fun m w => m.placed (s.hbmLoc (a + 32 * w.2)) w.1) m

theorem State.foldl_setHbmWord_zipIdx (s : State) (a : Nat) (ws : List (Nat × Bool)) :
    ws.zipIdx.foldl (fun s w => s.setHbmWord (a + 32 * w.2) w.1.1 w.1.2) s = s.withHbmMem (s.placeWords a ws s.hbm.mem) := by
  have hfold := s.foldl_setHbmWord s.hbm.mem (ws.zipIdx.map (fun w => (a + 32 * w.2, w.1)))
  rw [List.foldl_map, List.foldl_map] at hfold
  exact hfold

theorem State.placeWords_congr {u : State} (h : u.regs = s.regs) (a : Nat) (ws : List (Nat × Bool)) (m : EMem) :
    u.placeWords a ws m = s.placeWords a ws m := by
  simp only [State.placeWords, State.hbmLoc_congr h]

/-- A write to an exported page of the requester's tenant (R349, R363, R364). -/
theorem exec_hallWriteRequest_granted {a : Nat} (h : s.asked n kWrReq p lk cls) (hat : s.exportAt p = some a) :
    ∃ t, exec (.hallWriteRequest n) s = .next t ∧ t = { s with net := t.net, links := t.links, rc := t.rc, hbm := t.hbm } ∧
      Answered s t p lk cls kWrAck false [] ∧
      t.hbm = { s.hbm with mem := s.placeWords a (payloadWords p.payload p.marks) s.hbm.mem } := by
  obtain ⟨m, hm⟩ : ∃ m, m = s.placeWords a (payloadWords p.payload p.marks) s.hbm.mem := ⟨_, rfl⟩
  obtain ⟨u, hu⟩ : ∃ u, u = ((s.unboxed n).withHbmMem m).countHbm a p.payload.length true := ⟨_, rfl⟩
  have hframe : u = { (s.unboxed n).withHbmMem m with rc := u.rc } := hu ▸ State.countHbm_frame _ _ _ _
  have hstored : SameWays s ((s.unboxed n).withHbmMem m) := .of_eqs rfl rfl rfl rfl
  have hways : SameWays s u := hu ▸ hstored.trans (State.sameWays_countHbm _ _ _ _)
  have hwrite : s.hallWrite n = u.answerRequest p kWrAck false [] [] := by
    have hat : (s.unboxed n).exportAt p = some a := hat
    have hplaced : (s.unboxed n).placeWords a (payloadWords p.payload p.marks) (s.unboxed n).hbm.mem = m :=
      hm ▸ State.placeWords_congr rfl _ _ _
    simp only [State.hallWrite, h.takeInbox, hat, State.foldl_setHbmWord_zipIdx, hplaced, hu]
  rw [← hm]
  refine ⟨_, (next_live_of_running h.running _).trans (congrArg _ hwrite), ?_, h.answered hways _ _ _ _, ?_⟩
  · rw [h.answerRequest_frame hways, hframe]
    rfl
  · rw [h.answerRequest_frame hways, hframe]
    rfl

/-- Bytes written into local HBM: word by word at the places of their addresses. -/
theorem State.setHbmBytes_eq (s : State) (a : Nat) (l : List Byte) : s.setHbmBytes a l =
    s.withHbmMem
    (s.placeWords a ((chunksOf 32 l).map (fun c => (ofBytes (c.map BitVec.toNat), false))) s.hbm.mem) := by
  rw [← State.foldl_setHbmWord_zipIdx, List.zipIdx_map, List.foldl_map]
  rfl

theorem State.sameWays_setHbmBytes (s : State) (a : Nat) (l : List Byte) : SameWays s (s.setHbmBytes a l) := by
  rw [State.setHbmBytes_eq]
  exact .of_eqs rfl rfl rfl rfl

/-- What bytes do to local HBM hangs on local HBM and the registers alone. -/
theorem State.setHbmBytes_hbm_congr {u : State} (hregs : u.regs = s.regs) (hhbm : u.hbm = s.hbm) (a : Nat) (l : List Byte) :
    (u.setHbmBytes a l).hbm = (s.setHbmBytes a l).hbm := by
  simp only [State.setHbmBytes_eq, State.placeWords_congr hregs, State.withHbmMem, hhbm]

/-- A bulk packet that is no request record (R417). -/
theorem State.bulkIn_segment (h : s.asked n kBulk p lk cls) (hlen : p.payload.length ≠ 128) :
    s.bulkIn n = if s.ownsRange p.tenant (p.address % 2 ^ 39) p.payload.length = true then
      ((s.unboxed n).setHbmBytes (p.address % 2 ^ 39) p.payload).answerRequest p kBulkAck false [] []
      else (s.unboxed n).answerRequest p kBulkAck true [] [] := by
  simp only [State.bulkIn, h.takeInbox, hlen, false_and, if_false]
  rfl

/-- A segment for pages that are not the tenant's (R417). -/
theorem exec_bulkReceive_foreign_segment (h : s.asked n kBulk p lk cls) (hlen : p.payload.length ≠ 128)
    (howns : s.ownsRange p.tenant (p.address % 2 ^ 39) p.payload.length = false) :
    ∃ t, exec (.bulkReceive n) s = .next t ∧ t.hbm = s.hbm ∧ Answered s t p lk cls kBulkAck true [] := by
  have hways := s.sameWays_unboxed n
  have hbulk := State.bulkIn_segment h hlen
  rw [if_neg (Bool.eq_false_iff.mp howns)] at hbulk
  refine ⟨_, (next_live_of_running h.running _).trans (congrArg _ hbulk), ?_, h.answered hways _ _ _ _⟩
  rw [h.answerRequest_frame hways]
  rfl

/-- A segment for the tenant's pages (R417). -/
theorem exec_bulkReceive_own_segment (h : s.asked n kBulk p lk cls) (hlen : p.payload.length ≠ 128)
    (howns : s.ownsRange p.tenant (p.address % 2 ^ 39) p.payload.length = true) :
    ∃ t, exec (.bulkReceive n) s = .next t ∧ t.hbm = (s.setHbmBytes (p.address % 2 ^ 39) p.payload).hbm ∧
      Answered s t p lk cls kBulkAck false [] := by
  have hways := (s.sameWays_unboxed n).trans (State.sameWays_setHbmBytes _ (p.address % 2 ^ 39) p.payload)
  have hbulk := State.bulkIn_segment h hlen
  rw [if_pos howns] at hbulk
  refine ⟨_, (next_live_of_running h.running _).trans (congrArg _ hbulk), ?_, h.answered hways _ _ _ _⟩
  exact (h.answerRequest_hbm hways _ _ _ _).trans (State.setHbmBytes_hbm_congr (s := s) (u := s.unboxed n) rfl rfl _ _)

end Memory

end Sys2Proof.Machine
end

section
/-! PROOF. Request records that come by the fabric (R417, R421; 128 bytes make a record: log 51). -/

namespace Sys2Proof.Machine

/-- What taking a record in leaves alone beyond its ring: the ways of packets, and where the request ring ends. -/
structure TailKept (n : Nat) (s t : State) : Prop where
  ways : SameWays s t
  tail : t.rd (Fld.MGMT_SVC_PTR_REQ_TAIL n) = s.rd (Fld.MGMT_SVC_PTR_REQ_TAIL n)

section

variable {n : Nat} {s t u : State}

theorem TailKept.refl (n : Nat) (s : State) : TailKept n s s := ⟨.refl s, rfl⟩

theorem TailKept.trans (h : TailKept n s t) (g : TailKept n t u) : TailKept n s u := ⟨h.ways.trans g.ways, g.tail.trans h.tail⟩

theorem TailKept.of_eqs (hregs : t.regs = s.regs) (hheld : t.net.held = s.net.held) (hlinks : t.links = s.links)
    (hhall : t.hall = s.hall) : TailKept n s t := ⟨.of_eqs hregs hheld hlinks hhall, State.rd_congr hregs _⟩

/-- A field of Matumon's registers other than the tail itself. -/
theorem State.tailKept_wr (s : State) {f : Fld} (v : Nat) (hf : f.key < 0x80000)
    (hapart : Reg.MGMT_SVC_PTR n ≠ f.key ∨ f.hi < 48) : TailKept n s (s.wr f v) :=
  ⟨s.sameWays_wr v hf, s.rd_wr_apart f _ v (hapart.imp id fun h => ⟨(by decide : 63 < 64), .inr h⟩)⟩

theorem State.tailKept_onSvc (s : State) (m : Nat) (f : Service → Service) : TailKept n s (s.onSvc m f) := .of_eqs rfl rfl rfl rfl

theorem State.tailKept_setHbmDwords (s : State) (a : Nat) (l : List Reg64) : TailKept n s (s.setHbmDwords a l) := by
  rw [State.setHbmDwords, State.setHbmBytes_eq]
  exact .of_eqs rfl rfl rfl rfl

theorem State.tailKept_log (s : State) (cls kind id logical tenant d0 d1 : Nat) :
    TailKept n s (s.log cls kind id logical tenant d0 d1) := .of_eqs rfl rfl rfl rfl

theorem svcPtr_below_fabric {m : Nat} (hm : m < 17) : Reg.MGMT_SVC_PTR m < 0x80000 := by
  unfold Reg.MGMT_SVC_PTR
  omega

theorem mgmtTenant_place {m : Nat} (hm : m < 17) : Reg.MGMT_TENANT m < 0x80000 ∧ Reg.MGMT_SVC_PTR n ≠ Reg.MGMT_TENANT m := by
  unfold Reg.MGMT_SVC_PTR Reg.MGMT_TENANT
  omega

theorem State.tailKept_putResult (s : State) {m : Nat} (hm : m < 17) (v : Service) (r : List Reg64) :
    TailKept n s (s.putResult m v r) :=
  (s.tailKept_setHbmDwords _ _).trans (State.tailKept_wr _ _ (svcPtr_below_fabric hm) (.inr (by decide : 31 < 48)))

theorem State.tailKept_flushResults (s : State) {m : Nat} (hm : m < 17) : TailKept n s (s.flushResults m) := by
  unfold State.flushResults
  split
  · exact .refl n s
  · rename_i v _
    refine TailKept.trans ?_ (State.tailKept_onSvc _ _ _)
    exact List.foldlRecOn _ _ (motive := TailKept n s) (.refl n s) fun t h r _ => h.trans (t.tailKept_putResult hm v r)

theorem State.tailKept_finish (s : State) {m : Nat} (hm : m < 17) (status : Nat) (reqs : List (List Reg64)) :
    TailKept n s (s.finish m status reqs) :=
  (s.tailKept_onSvc _ _).trans (State.tailKept_flushResults _ hm)

theorem State.tailKept_skipAnswered (s : State) {m : Nat} (hm : m < 17) : TailKept n s (s.skipAnswered m) := by
  unfold State.skipAnswered
  split
  · exact .refl n s
  · exact (s.tailKept_onSvc _ _).trans (State.tailKept_wr _ _ (svcPtr_below_fabric hm) (.inr (by decide : 47 < 48)))

theorem State.tailKept_closeIntake (s : State) {m : Nat} (hm : m < 17) (reason : Nat) : TailKept n s (s.closeIntake m reason) := by
  obtain ⟨hlow, hne⟩ := mgmtTenant_place (n := n) hm
  have hreason (u : State) : TailKept n u (u.wr (Fld.MGMT_TENANT_CLOSE_REASON m) reason) := u.tailKept_wr _ hlow (.inl hne)
  unfold State.closeIntake
  dsimp only
  split_ifs
  · exact ((s.tailKept_wr _ hlow (.inl hne)).trans (hreason _)).trans (State.tailKept_log _ _ _ _ _ _ _ _)
  · exact hreason s
  · exact .refl n s

/-- A record taken into the ring of a service: its tail moves on by one (R417). -/
theorem State.acceptRecord_spec {v : Service} (s : State) (hn : n < 17) (hsvc : (s.tenant n).svc = some v) (r : List Reg64) :
    SameWays s (s.acceptRecord n r) ∧ (s.acceptRecord n r).rd (Fld.MGMT_SVC_PTR_REQ_TAIL n) =
      (s.rd (Fld.MGMT_SVC_PTR_REQ_TAIL n) + 1) % 65536 := by
  obtain ⟨w, hw⟩ : ∃ w, w = s.setHbmDwords (v.reqBase + s.rd (Fld.MGMT_SVC_PTR_REQ_TAIL n) % 2 ^ v.reqLog * 128) r := ⟨_, rfl⟩
  obtain ⟨u, hu⟩ : ∃ u, u = w.wr (Fld.MGMT_SVC_PTR_REQ_TAIL n) (s.rd (Fld.MGMT_SVC_PTR_REQ_TAIL n) + 1) := ⟨_, rfl⟩
  have hstored : TailKept n s w := hw ▸ s.tailKept_setHbmDwords _ _
  have htail : u.rd (Fld.MGMT_SVC_PTR_REQ_TAIL n) = (s.rd (Fld.MGMT_SVC_PTR_REQ_TAIL n) + 1) % 65536 :=
    hu ▸ w.rd_wr _ _ (by decide : 63 < 64) (by decide : 48 ≤ 63)
  have hrest : TailKept n u (s.acceptRecord n r) := by
    rw [State.acceptRecord, hsvc]
    dsimp only
    rw [← hw, ← hu]
    split_ifs
    · exact (u.tailKept_onSvc _ _).trans (State.tailKept_closeIntake _ hn _)
    · exact u.tailKept_onSvc _ _
    · exact ((u.tailKept_onSvc _ _).trans (State.tailKept_finish _ hn _ _)).trans (State.tailKept_skipAnswered _ hn)
  exact ⟨(hstored.ways.trans (hu ▸ w.sameWays_wr _ (svcPtr_below_fabric hn))).trans hrest.ways, hrest.tail.trans htail⟩

end

section Records

variable {s : State} {n lk cls : Nat} {p : Packet} {v : Service}

/-- A record for a service that runs (R417, R421). -/
theorem State.bulkIn_record (h : s.asked n kBulk p lk cls) (hlen : p.payload.length = 128) (hruns : s.svcRuns p.tenant = true)
    (hsvc : (s.tenant p.tenant).svc = some v) :
    s.bulkIn n = if bit v.sources 16 = true ∧ s.intakeVerdict p.tenant = 0 then
      ((s.unboxed n).acceptRecord p.tenant (recordOf p.payload)).answerRequest p kBulkAck false [] []
      else (s.unboxed n).answerRequest p kBulkAck true [] [] := by
  have hruns' : (s.unboxed n).svcRuns p.tenant = true := hruns
  have hsvc' : ((s.unboxed n).tenant p.tenant).svc = some v := hsvc
  simp only [State.bulkIn, h.takeInbox, hlen, hruns', hsvc', and_self, if_true]
  rfl

/-- A service takes one more record exactly if its intake is open and its ring has room (R421). -/
theorem State.intakeVerdict_eq_zero_iff (hsvc : (s.tenant n).svc = some v) :
    s.intakeVerdict n = 0 ↔ s.rd (Fld.MGMT_TENANT_INTAKE n) = inOpen ∧ s.reqOcc n < 2 ^ v.reqLog := by
  simp only [State.intakeVerdict, hsvc]
  split_ifs with hopen hroom
  · simp [hopen]
  · simp [hroom]
  · simp only [true_iff]
    omega

/-- A record that its service does not take (R421). -/
theorem exec_bulkReceive_refused_record (h : s.asked n kBulk p lk cls) (hlen : p.payload.length = 128)
    (hruns : s.svcRuns p.tenant = true) (hsvc : (s.tenant p.tenant).svc = some v)
    (hno : bit v.sources 16 = false ∨ s.rd (Fld.MGMT_TENANT_INTAKE p.tenant) ≠ inOpen ∨ 2 ^ v.reqLog ≤ s.reqOcc p.tenant) :
    ∃ t, exec (.bulkReceive n) s = .next t ∧ t.hbm = s.hbm ∧ t.mgmt = s.mgmt ∧ Answered s t p lk cls kBulkAck true [] := by
  have hways := s.sameWays_unboxed n
  have hbulk := State.bulkIn_record h hlen hruns hsvc
  rw [if_neg] at hbulk
  · refine ⟨_, (next_live_of_running h.running _).trans (congrArg _ hbulk), ?_, ?_, h.answered hways _ _ _ _⟩ <;>
    · rw [h.answerRequest_frame hways]
      rfl
  · rintro ⟨hfabric, hverdict⟩
    obtain ⟨hopen, hroom⟩ := (State.intakeVerdict_eq_zero_iff hsvc).mp hverdict
    rcases hno with hno | hno | hno
    · simp [hno] at hfabric
    · exact hno hopen
    · omega

/-- A record that its service takes (R417, R421). -/
theorem exec_bulkReceive_accepted_record (h : s.asked n kBulk p lk cls) (hlen : p.payload.length = 128) (ht : p.tenant < 17)
    (hruns : s.svcRuns p.tenant = true) (hsvc : (s.tenant p.tenant).svc = some v) (hfabric : bit v.sources 16 = true)
    (hopen : s.rd (Fld.MGMT_TENANT_INTAKE p.tenant) = inOpen) (hroom : s.reqOcc p.tenant < 2 ^ v.reqLog) :
    ∃ t, exec (.bulkReceive n) s = .next t ∧ Answered s t p lk cls kBulkAck false [] ∧
      t.rd (Fld.MGMT_SVC_PTR_REQ_TAIL p.tenant) = (s.rd (Fld.MGMT_SVC_PTR_REQ_TAIL p.tenant) + 1) % 65536 := by
  obtain ⟨haccepted, htail⟩ := (s.unboxed n).acceptRecord_spec ht hsvc (recordOf p.payload)
  have hways := (s.sameWays_unboxed n).trans haccepted
  have hbulk := State.bulkIn_record h hlen hruns hsvc
  rw [if_pos ⟨hfabric, (State.intakeVerdict_eq_zero_iff hsvc).mpr ⟨hopen, hroom⟩⟩] at hbulk
  refine ⟨_, (next_live_of_running h.running _).trans (congrArg _ hbulk), h.answered hways _ _ _ _, ?_⟩
  exact (h.answerRequest_rd hways _ _ _ _ _).trans htail

end Records

section Firmware

variable {s : State} {n : Nat} {p : Packet} {d : Option Nat}

/-- The producer's firmware learns what became of a record (R421). -/
theorem exec_bulkAckReceive (hrun : s.running = true) (hthere : s.net.inbox[n]? = some ⟨p, d⟩) (hkind : p.kind = kBulkAck) :
    exec (.bulkAckReceive n) s = .next ((s.unboxed n).emit (.bulkAck p.src (bit p.argB 0))) :=
  (next_live_of_running hrun _).trans (by rw [State.bulkAckIn, State.takeInbox_eq hthere hkind])

/-- A management packet reaches firmware (R354). -/
theorem exec_mgmtPacketReceive (hrun : s.running = true) (hthere : s.net.inbox[n]? = some ⟨p, d⟩) (hkind : p.kind = kMgmt) :
    exec (.mgmtPacketReceive n) s = .next ((s.unboxed n).emit (.mgmtEvent evPacket p.src)) :=
  (next_live_of_running hrun _).trans (by rw [State.mgmtPacketIn, State.takeInbox_eq hthere hkind]; rfl)

end Firmware

/-- Settles O43: each request is done as its checks say, and its answer leaves by the link that leads back to the requester, since what is
done on the way moves no register of the fabric, no link and no route. -/
theorem deliveredPacketsAreAnswered : Obligations.DeliveredPacketsAreAnswered :=
  ⟨fun _ _ _ _ _ h => ⟨exec_hallReadRequest_refused h, fun _ => exec_hallReadRequest_granted h⟩,
    fun _ _ _ _ _ h => ⟨exec_hallWriteRequest_refused h, fun _ => exec_hallWriteRequest_granted h⟩,
    fun _ _ _ _ _ h hlen => ⟨exec_bulkReceive_foreign_segment h hlen, exec_bulkReceive_own_segment h hlen⟩,
    fun _ _ _ _ _ _ h hlen ht hruns hsvc => ⟨exec_bulkReceive_refused_record h hlen hruns hsvc,
      exec_bulkReceive_accepted_record h hlen ht hruns hsvc⟩,
    fun _ _ _ _ hrun hthere => ⟨exec_bulkAckReceive hrun hthere, exec_mgmtPacketReceive hrun hthere⟩⟩

end Sys2Proof.Machine
end

section
/-! PROOF. The registers of a link's port: where they lie, what writing the fields of its status leaves, and what its lanes' events are
(R338, R360, R475). -/

namespace Sys2Proof.Machine

theorem RegsApart.mono {s t : State} {ks ls : List Nat} (h : RegsApart s t ks) (hks : ks ⊆ ls) : RegsApart s t ls :=
  fun k hk => h k (fun hm => hk (hks hm))

theorem RegsApart.flag {s t : State} {ks : List Nat} (h : RegsApart s t ks) {f : Fld} (hf : f.key ∉ ks) : t.flag f = s.flag f :=
  State.flag_congr (h.rd hf)

theorem State.regsApart_setReg (s : State) (k : Nat) (v : Reg64) : RegsApart s (s.setReg k v) [k] :=
  fun _ hj => s.reg_setReg_ne v (fun e => hj (List.mem_singleton.mpr e))

theorem State.regsApart_wr (s : State) (f : Fld) (v : Nat) : RegsApart s (s.wr f v) [f.key] := s.regsApart_setReg _ _

theorem PortOnly.refl (s : State) (lk : Fin 64) : PortOnly s s lk := ⟨rfl, fun _ _ => rfl⟩

theorem PortOnly.trans {s t u : State} {lk : Fin 64} (h : PortOnly s t lk) (g : PortOnly t u lk) : PortOnly s u lk := by
  obtain ⟨hframe, hregs⟩ := h
  obtain ⟨gframe, gregs⟩ := g
  refine ⟨?_, fun k hk => (gregs k hk).trans (hregs k hk)⟩
  rw [hframe] at gframe
  exact gframe

/-- A register of the set of one link's port. -/
theorem PortOnly.setReg {s t : State} {lk : Fin 64} (h : PortOnly s t lk) {k : Nat} (v : Reg64)
    (hk : 0x80000 + 0x800 * lk.val ≤ k ∧ k < 0x80800 + 0x800 * lk.val) : PortOnly s (t.setReg k v) lk :=
  h.trans ⟨rfl, fun j hj => t.reg_setReg_ne v (fun e => by omega)⟩

theorem PortOnly.wr {s t : State} {lk : Fin 64} (h : PortOnly s t lk) {f : Fld} (v : Nat)
    (hf : 0x80000 + 0x800 * lk.val ≤ f.key ∧ f.key < 0x80800 + 0x800 * lk.val) : PortOnly s (t.wr f v) lk := h.setReg _ hf

theorem portStatus_inPort (lk : Fin 64) :
    0x80000 + 0x800 * lk.val ≤ Reg.FAB_PORT_STATUS lk ∧ Reg.FAB_PORT_STATUS lk < 0x80800 + 0x800 * lk.val := by
  unfold Reg.FAB_PORT_STATUS
  omega

theorem PortOnly.setLinkState {s t : State} {lk : Fin 64} (h : PortOnly s t lk) (st : Nat) : PortOnly s (t.setLinkState lk st) lk :=
  h.wr st (portStatus_inPort lk)

section

variable {s t : State} (h : RegsOnly s t)
include h

theorem RegsOnly.rc : t.rc = s.rc := by
  obtain ⟨_, rfl⟩ := h
  rfl

theorem RegsOnly.links : t.links = s.links := by
  obtain ⟨_, rfl⟩ := h
  rfl

theorem RegsOnly.spoil : t.spoil = s.spoil := by
  obtain ⟨_, rfl⟩ := h
  rfl

theorem RegsOnly.benches : t.benches = s.benches := by
  obtain ⟨_, rfl⟩ := h
  rfl

theorem RegsOnly.hbm : t.hbm = s.hbm := by
  obtain ⟨_, rfl⟩ := h
  rfl

end

theorem PortOnly.regsOnly {s t : State} {lk : Fin 64} (h : PortOnly s t lk) : RegsOnly s t := ⟨_, h.1⟩

theorem State.cnt_congr {s t : State} (h : t.rc = s.rc) (f : Fld) : t.cnt f = s.cnt f := by
  rw [State.cnt, State.cnt, h]

/-- An offset of a port's set stands for the same offset of the first port's. -/
theorem canon_port (lk : Fin 64) {o : Nat} (ho : o < 0x800) : canon (0x80000 + 0x800 * lk.val + o) = 0x80000 + o := by
  have hlk := lk.isLt
  have hmod : (0x80000 + 0x800 * lk.val + o) % viewBit = 0x80000 + 0x800 * lk.val + o := Nat.mod_eq_of_lt (by unfold viewBit; omega)
  simp only [canon, hmod]
  rw [if_neg (by omega), if_pos (by omega)]
  omega

theorem rcUnit_portStatus (lk : Fin 64) (lo : Nat) : rcUnit (Reg.FAB_PORT_STATUS lk) lo = 1 := by
  have hkey : Reg.FAB_PORT_STATUS lk = 0x80000 + 0x800 * lk.val + 8 := by
    unfold Reg.FAB_PORT_STATUS
    omega
  have hcanon : canon (Reg.FAB_PORT_STATUS lk) = 0x80008 := by rw [hkey, canon_port lk (by omega)]
  simp only [rcUnit, hcanon]
  rfl

/-- An attempt to train counted (R339). -/
theorem State.cnt_trainAttempts_bump (s : State) (lk : Fin 64) :
    (s.bump (Fld.FAB_PORT_STATUS_TRAIN_ATTEMPTS lk) 1).cnt (Fld.FAB_PORT_STATUS_TRAIN_ATTEMPTS lk) =
      min 65535 (s.cnt (Fld.FAB_PORT_STATUS_TRAIN_ATTEMPTS lk) + 1) :=
  s.cnt_bump_of_unit (rcUnit_portStatus lk _) 1

/-- A state that a link's status takes and shows. -/
theorem State.linkState_setLinkState (s : State) (lk : Nat) {st : Nat} (h : st < 8) : (s.setLinkState lk st).linkState lk = st :=
  s.rd_wr_of_lt (by decide : 63 < 64) (by decide : 61 ≤ 63) h

theorem State.linkState_wr_apart (s : State) (lk : Nat) {f : Fld} (v : Nat) (h : Reg.FAB_PORT_STATUS lk ≠ f.key ∨ f.hi < 61) :
    (s.wr f v).linkState lk = s.linkState lk :=
  s.rd_wr_apart f _ v (h.imp id fun h => ⟨(by decide : 63 < 64), .inr h⟩)

theorem State.linkState_congr {s t : State} (h : t.regs = s.regs) (lk : Nat) : t.linkState lk = s.linkState lk := State.rd_congr h _

theorem State.linkUp_eq_of_linkState {s t : State} {lk : Nat} (h : t.linkState lk = s.linkState lk) : t.linkUp lk = s.linkUp lk := by
  rw [State.linkUp, State.linkUp, h]

/-- A link in another state than ACTIVE and RETRAIN carries nothing. -/
theorem State.linkUp_eq_false {s : State} {lk : Nat} (ha : s.linkState lk ≠ lkActive) (hr : s.linkState lk ≠ lkRetrain) :
    s.linkUp lk = false := by
  simp only [State.linkUp, ha, hr, decide_false, Bool.or_self]

theorem State.linkUp_eq_true {s : State} {lk : Nat} (h : s.linkState lk = lkActive ∨ s.linkState lk = lkRetrain) :
    s.linkUp lk = true := by
  simpa only [State.linkUp, Bool.or_eq_true, decide_eq_true_eq] using h

/-- A lane's event takes place while the device runs and no thermal trip has idled its lanes. -/
theorem next_onLane {s : State} (h : s.laneOk) (f : State → State) : (Host.Outcome.next (s.onLane f) : Result) = .next (f s) := by
  obtain ⟨hrun, htrip⟩ := h
  rw [State.onLane, htrip, if_neg Bool.false_ne_true]
  exact next_live_of_running hrun f

theorem LinksApart.of_links_eq {s t : State} (h : t.links = s.links) (lk : Nat) : LinksApart s t lk := fun q _ => by
  rw [State.link, State.link, h]

theorem LinksApart.trans {s t u : State} {lk : Nat} (h : LinksApart s t lk) (g : LinksApart t u lk) : LinksApart s u lk :=
  fun q hq => (g q hq).trans (h q hq)

theorem State.link_onLink (s : State) (lk : Nat) (f : Link → Link) : (s.onLink lk f).link lk = f (s.link lk) := s.link_setLink lk _

theorem State.linksApart_onLink (s : State) (lk : Nat) (f : Link → Link) : LinksApart s (s.onLink lk f) lk :=
  fun _ hq => s.link_setLink_ne _ hq

theorem State.link_congr {s t : State} (h : t.links = s.links) (lk : Nat) : t.link lk = s.link lk := by
  rw [State.link, State.link, h]

end Sys2Proof.Machine
end

section
/-! PROOF. The link layer of a link as it is lost or emptied: packets cut short, buffers given back, sequence numbers at zero (R356,
R358). -/

namespace Sys2Proof.Machine

/-- RC counts and link layers are all that differs. -/
def LinkOnly (s t : State) : Prop := ∃ c l, t = { s with rc := c, links := l }

section

variable {s t u : State}

theorem LinkOnly.refl (s : State) : LinkOnly s s := ⟨_, _, rfl⟩

theorem LinkOnly.trans (h : LinkOnly s t) (g : LinkOnly t u) : LinkOnly s u := by
  obtain ⟨_, _, rfl⟩ := h
  obtain ⟨_, _, rfl⟩ := g
  exact ⟨_, _, rfl⟩

theorem LinkOnly.regs (h : LinkOnly s t) : t.regs = s.regs := by
  obtain ⟨_, _, rfl⟩ := h
  rfl

theorem LinkOnly.benches (h : LinkOnly s t) : t.benches = s.benches := by
  obtain ⟨_, _, rfl⟩ := h
  rfl

theorem LinkOnly.spoil (h : LinkOnly s t) : t.spoil = s.spoil := by
  obtain ⟨_, _, rfl⟩ := h
  rfl

theorem State.linkOnly_bump (s : State) (f : Fld) (n : Nat) : LinkOnly s (s.bump f n) := ⟨_, _, s.bump_frame f n⟩

theorem State.linkOnly_onLink (s : State) (lk : Nat) (f : Link → Link) : LinkOnly s (s.onLink lk f) := ⟨_, _, rfl⟩

theorem State.linkOnly_freeEgress (s : State) (es : List EgPacket) : LinkOnly s (s.freeEgress es) :=
  List.foldlRecOn es _ (motive := LinkOnly s) (.refl s) fun t h e _ =>
    h.trans ⟨_, _, t.oweCredit_frame e.source e.vc e.srcCls e.flits.length⟩

/-- The packets of a link cut short: counted, and completed with filler where they are forwarded (R356). -/
theorem State.linkOnly_dropPartials (s : State) (lk : Nat) : LinkOnly s (s.dropPartials lk) := by
  unfold State.dropPartials
  refine LinkOnly.trans ?_ (State.linkOnly_onLink _ lk _)
  refine List.foldlRecOn _ _ (motive := LinkOnly s) (s.linkOnly_bump _ _) fun t h r _ => ?_
  cases r.action with
  | deliver => exact h
  | drop => exact h
  | forward l2 => exact h.trans (t.linkOnly_onLink l2 _)

theorem State.linkOnly_loseLink (s : State) (lk : Nat) : LinkOnly s (s.loseLink lk) := by
  unfold State.loseLink
  exact ((s.linkOnly_dropPartials lk).trans (State.linkOnly_freeEgress _ _)).trans (State.linkOnly_onLink _ lk _)

/-- Beside the layers of links, registers, counts and device time are all that differs. -/
def LayerOnly (s t : State) : Prop := ∃ r c l p, t = { s with regs := r, rc := c, links := l, power := p }

theorem LayerOnly.refl (s : State) : LayerOnly s s := ⟨_, _, _, _, rfl⟩

theorem LayerOnly.trans (h : LayerOnly s t) (g : LayerOnly t u) : LayerOnly s u := by
  obtain ⟨_, _, _, _, rfl⟩ := h
  obtain ⟨_, _, _, _, rfl⟩ := g
  exact ⟨_, _, _, _, rfl⟩

theorem LinkOnly.layerOnly (h : LinkOnly s t) : LayerOnly s t := by
  obtain ⟨_, _, rfl⟩ := h
  exact ⟨_, _, _, _, rfl⟩

theorem LayerOnly.spoil (h : LayerOnly s t) : t.spoil = s.spoil := by
  obtain ⟨_, _, _, _, rfl⟩ := h
  rfl

theorem LayerOnly.benches (h : LayerOnly s t) : t.benches = s.benches := by
  obtain ⟨_, _, _, _, rfl⟩ := h
  rfl

theorem LayerOnly.hbm (h : LayerOnly s t) : t.hbm = s.hbm := by
  obtain ⟨_, _, _, _, rfl⟩ := h
  rfl

end

/-- Credits owed add to what is due and to nothing else of a link. -/
theorem State.partials_oweCredit (s : State) (src : Option Nat) (vc cls n lk : Nat) :
    ((s.oweCredit src vc cls n).link lk).partials = (s.link lk).partials := by
  cases src with
  | none => rfl
  | some k =>
    unfold State.oweCredit
    dsimp only
    split_ifs
    · rfl
    · by_cases hk : lk = k
      · subst hk
        rw [State.link_onLink]
      · rw [s.linksApart_onLink k _ lk hk]

theorem State.partials_freeEgress (s : State) (es : List EgPacket) (lk : Nat) :
    ((s.freeEgress es).link lk).partials = (s.link lk).partials :=
  foldl_read_untouched _ (fun t : State => (t.link lk).partials) es s fun _ _ t => t.partials_oweCredit _ _ _ _ _

theorem State.partials_dropPartials (s : State) (lk : Nat) : ((s.dropPartials lk).link lk).partials = [] := by
  rw [State.dropPartials, State.link_onLink]

/-- A layer that is lost has nothing left (R356). -/
theorem State.layerLost_loseLink (s : State) (lk : Nat) : LayerLost ((s.loseLink lk).link lk) := by
  unfold State.loseLink
  dsimp only
  rw [State.link_onLink]
  exact ⟨rfl, rfl, rfl, rfl, rfl, rfl, (State.partials_freeEgress _ _ lk).trans (s.partials_dropPartials lk)⟩

theorem LayerLost.of_links_eq {s t : State} {lk : Nat} (h : LayerLost (s.link lk)) (hl : t.links = s.links) : LayerLost (t.link lk) :=
  State.link_congr hl lk ▸ h

/-- The loss of the upstream link ends the lock of device time, and changes no other register and no link (R486). -/
theorem State.tsyncLost_spec (s : State) (lk : Nat) :
    LayerOnly s (s.tsyncLost lk) ∧ (s.tsyncLost lk).links = s.links ∧ RegsApart s (s.tsyncLost lk) [Reg.CLKPWR_TSYNC] := by
  unfold State.tsyncLost
  split_ifs
  · exact ⟨⟨_, _, _, _, rfl⟩, rfl, s.regsApart_wr Fld.CLKPWR_TSYNC_LOCKED 0⟩
  · exact ⟨.refl s, rfl, fun _ _ => rfl⟩

end Sys2Proof.Machine
end

section
/-! PROOF. A link that leaves its state: the status it shows, and, from ACTIVE or RETRAIN, the loss of its layer (R345, R356). -/

namespace Sys2Proof.Machine

/-- The status of a link as it has left for a state: no lane is up. -/
def State.statusLeft (s : State) (lk st reason : Nat) : State :=
  ((s.setLinkState lk st).wr (Fld.FAB_PORT_STATUS_DOWN_REASON lk) reason).wr (Fld.FAB_PORT_STATUS_LANES_UP lk) 0

theorem State.regsOnly_statusLeft (s : State) (lk st reason : Nat) : RegsOnly s (s.statusLeft lk st reason) :=
  (((RegsOnly.refl s).wr (Fld.FAB_PORT_STATUS_STATE lk) st).wr (Fld.FAB_PORT_STATUS_DOWN_REASON lk) reason).wr
    (Fld.FAB_PORT_STATUS_LANES_UP lk) 0

theorem PortOnly.statusLeft {s t : State} {lk : Fin 64} (h : PortOnly s t lk) (st reason : Nat) :
    PortOnly s (t.statusLeft lk st reason) lk :=
  ((h.setLinkState st).wr reason (portStatus_inPort lk)).wr 0 (portStatus_inPort lk)

theorem State.regsApart_statusLeft (s : State) (lk st reason : Nat) :
    RegsApart s (s.statusLeft lk st reason) [Reg.FAB_PORT_STATUS lk] :=
  ((s.regsApart_wr (Fld.FAB_PORT_STATUS_STATE lk) st).wr (Fld.FAB_PORT_STATUS_DOWN_REASON lk) reason (List.mem_singleton.mpr rfl)).wr
    (Fld.FAB_PORT_STATUS_LANES_UP lk) 0 (List.mem_singleton.mpr rfl)

theorem State.linkState_statusLeft (s : State) (lk : Nat) {st : Nat} (h : st < 8) (reason : Nat) :
    (s.statusLeft lk st reason).linkState lk = st := by
  rw [State.statusLeft, State.linkState_wr_apart _ _ _ (.inr (by decide : 55 < 61)),
    State.linkState_wr_apart _ _ _ (.inr (by decide : 58 < 61)), State.linkState_setLinkState _ _ h]

theorem State.rd_lanesUp_statusLeft (s : State) (lk st reason : Nat) :
    (s.statusLeft lk st reason).rd (Fld.FAB_PORT_STATUS_LANES_UP lk) = 0 :=
  State.rd_wr_of_lt _ (by decide : 55 < 64) (by decide : 48 ≤ 55) (Nat.two_pow_pos _)

theorem State.rd_downReason_statusLeft (s : State) (lk st : Nat) {reason : Nat} (h : reason < 8) :
    (s.statusLeft lk st reason).rd (Fld.FAB_PORT_STATUS_DOWN_REASON lk) = reason := by
  rw [State.statusLeft, State.rd_wr_apart _ _ _ _ (.inr (by decide : 58 < 64 ∧ (58 < 48 ∨ 55 < 56))),
    State.rd_wr_of_lt _ (by decide : 58 < 64) (by decide : 56 ≤ 58) h]

section

variable {s : State} {lk : Nat}

/-- A link that carries nothing leaves by its status alone; a return to DETECT counts as an attempt (R339). -/
theorem State.leaveLink_of_idle (h : s.linkUp lk = false) (st reason : Nat) (ordered : Bool) :
    s.leaveLink lk st reason ordered =
      (if st = lkDetect then s.bump (Fld.FAB_PORT_STATUS_TRAIN_ATTEMPTS lk) 1 else s).statusLeft lk st reason := by
  simp only [State.leaveLink, h, Bool.false_and, Bool.false_eq_true, if_false]
  rfl

theorem State.leaveLink_detect_of_idle {lk : Fin 64} (h : s.linkUp lk = false) (reason : Nat) (ordered : Bool) :
    (s.leaveLink lk lkDetect reason ordered).linkState lk = lkDetect ∧
      (s.leaveLink lk lkDetect reason ordered).links = s.links ∧ (s.leaveLink lk lkDetect reason ordered).spoil = s.spoil ∧
      (s.leaveLink lk lkDetect reason ordered).cnt (Fld.FAB_PORT_STATUS_TRAIN_ATTEMPTS lk) =
        min 65535 (s.cnt (Fld.FAB_PORT_STATUS_TRAIN_ATTEMPTS lk) + 1) := by
  obtain ⟨u, hu⟩ : ∃ u, u = s.bump (Fld.FAB_PORT_STATUS_TRAIN_ATTEMPTS lk) 1 := ⟨_, rfl⟩
  have hframe : u = { s with rc := u.rc } := hu ▸ s.bump_frame _ 1
  have hlinks : u.links = s.links := by rw [hframe]
  have hspoil : u.spoil = s.spoil := by rw [hframe]
  have hleft := u.regsOnly_statusLeft lk lkDetect reason
  rw [State.leaveLink_of_idle h, if_pos rfl, ← s.cnt_trainAttempts_bump lk, ← hu]
  exact ⟨u.linkState_statusLeft lk (by decide) _, hleft.links.trans hlinks, hleft.spoil.trans hspoil, State.cnt_congr hleft.rc _⟩

/-- A link that carries packets leaves with its layer lost, and the log says so unless it was ordered (R345, R356). -/
theorem State.leaveLink_of_up (h : s.linkUp lk = true) (st reason : Nat) (ordered : Bool) :
    ∃ w, s.leaveLink lk st reason ordered = w.statusLeft lk st reason ∧
      RegsApart s w [Reg.CLKPWR_TSYNC] ∧ LayerLost (w.link lk) ∧
      LayerOnly (if ordered = true then s else s.logDown lk st reason) w := by
  obtain ⟨u, hu⟩ : ∃ u, u = (if ordered = true then s else s.logDown lk st reason) := ⟨_, rfl⟩
  obtain ⟨v, hv⟩ : ∃ v, v = (u.loseLink lk).tsyncLost lk := ⟨_, rfl⟩
  obtain ⟨w, hw⟩ : ∃ w, w = (if st = lkDetect then v.bump (Fld.FAB_PORT_STATUS_TRAIN_ATTEMPTS lk) 1 else v) := ⟨_, rfl⟩
  have hlogged : u.regs = s.regs := by
    rw [hu]
    split_ifs
    · rfl
    · exact s.logAt_regs _ _ _ _ _
  have hlost := u.linkOnly_loseLink lk
  obtain ⟨hsync, hsynclinks, hsyncregs⟩ := (u.loseLink lk).tsyncLost_spec lk
  rw [← hv] at hsync hsynclinks hsyncregs
  have hcounted : w = { v with rc := w.rc } := by
    rw [hw]
    split_ifs
    · exact v.bump_frame _ _
    · rfl
  have hwlinks : w.links = v.links := by rw [hcounted]
  have hwregs : w.regs = v.regs := by rw [hcounted]
  refine ⟨w, ?_, ?_, ?_, ?_⟩
  · cases ordered <;> simp only [State.leaveLink, State.statusLeft, h, hw, hv, hu, Bool.not_true, Bool.not_false, Bool.and_true,
      Bool.and_false, Bool.false_eq_true, if_true, if_false]
  · exact (RegsApart.of_regs_eq (hlost.regs.trans hlogged) _).trans (hsyncregs.trans (RegsApart.of_regs_eq hwregs _))
  · exact (u.layerLost_loseLink lk).of_links_eq (hwlinks.trans hsynclinks)
  · exact hu ▸ (hlost.layerOnly.trans hsync).trans ⟨_, _, _, _, hcounted⟩

/-- A link that leaves by order for another state than DETECT: nothing is logged, and its layer is lost where it had one (R356). -/
theorem State.leaveLink_ordered (s : State) (lk : Nat) {st : Nat} (hst : st ≠ lkDetect) (reason : Nat) :
    ∃ w, s.leaveLink lk st reason true = w.statusLeft lk st reason ∧ RegsApart s w [Reg.CLKPWR_TSYNC] ∧ LayerOnly s w ∧
      (s.linkUp lk = true → LayerLost (w.link lk)) ∧ (s.linkUp lk = false → w = s) := by
  by_cases hup : s.linkUp lk = true
  · obtain ⟨w, hleft, happ, hlost, hframe⟩ := State.leaveLink_of_up hup st reason true
    exact ⟨w, hleft, happ, hframe, fun _ => hlost, fun hno => absurd hup (by simp [hno])⟩
  · have hidle := Bool.eq_false_iff.mpr hup
    refine ⟨s, ?_, fun _ _ => rfl, .refl s, fun h => absurd h hup, fun _ => rfl⟩
    rw [State.leaveLink_of_idle hidle, if_neg hst]

/-- A link that fails: its layer is lost, and the log says so (R345). -/
theorem State.leaveLink_unordered (h : s.linkUp lk = true) {st reason : Nat} (hst : st < 8) (hreason : reason < 8) :
    (s.leaveLink lk st reason false).linkState lk = st ∧
      (s.leaveLink lk st reason false).rd (Fld.FAB_PORT_STATUS_DOWN_REASON lk) = reason ∧
      LayerLost ((s.leaveLink lk st reason false).link lk) ∧
      ((s.leaveLink lk st reason false).spoil.inFlight.getLast?).map (·.cls) = some 0x0D := by
  obtain ⟨w, hleft, -, hlost, hframe⟩ := State.leaveLink_of_up h st reason false
  have hstatus := w.regsOnly_statusLeft lk st reason
  rw [if_neg Bool.false_ne_true] at hframe
  rw [hleft, hstatus.spoil, hframe.spoil]
  exact ⟨w.linkState_statusLeft lk hst reason, w.rd_downReason_statusLeft lk st hreason, hlost.of_links_eq hstatus.links,
    s.logAt_last_cls 0x0D 6 lk _ _⟩

end

end Sys2Proof.Machine
end

section
/-! PROOF. Writes of FAB_PORT_CTL (R335, R339, R356, R358, R360): the fields stored, then what ENABLE, RETRAIN and LL_RESET ask for. -/

namespace Sys2Proof.Machine

/-- The word of a port write as its row makes it from d: the bits of ENABLE, RETRAIN and LL_RESET are chosen, those below are d's. -/
structure PortWord (d data : Reg64) (enable retrain reset : Bool) : Prop where
  enable : data.getLsbD 63 = enable
  retrain : data.getLsbD 62 = retrain
  reset : data.getLsbD 61 = reset
  low : ∀ i, i < 61 → data.getLsbD i = d.getLsbD i

/-- A word with the bits of on set and those of off cleared. -/
theorem getLsbD_or_andNot (d on off : Reg64) {i : Nat} (hi : i < 64) :
    ((d ||| on) &&& ~~~ off).getLsbD i = ((d.getLsbD i || on.getLsbD i) && !off.getLsbD i) := by
  rw [BitVec.getLsbD_and, BitVec.getLsbD_or, BitVec.getLsbD_not, decide_eq_true hi, Bool.true_and]

/-- A mask of the top three bits. -/
def TopMask (w : Reg64) (e r l : Bool) : Prop :=
  w.getLsbD 63 = e ∧ w.getLsbD 62 = r ∧ w.getLsbD 61 = l ∧ ∀ i, i < 61 → w.getLsbD i = false

theorem portWord_of_masks (d : Reg64) {on off : Reg64} {e r l e1 r1 l1 e0 r0 l0 : Bool} (hon : TopMask on e1 r1 l1)
    (hoff : TopMask off e0 r0 l0) (he : ∀ x, ((x || e1) && !e0) = e) (hr : ∀ x, ((x || r1) && !r0) = r)
    (hl : ∀ x, ((x || l1) && !l0) = l) :
    PortWord d ((d ||| on) &&& ~~~ off) e r l := by
  obtain ⟨he1, hr1, hl1, hon⟩ := hon
  obtain ⟨he0, hr0, hl0, hoff⟩ := hoff
  refine ⟨?_, ?_, ?_, fun i hi => ?_⟩
  · rw [getLsbD_or_andNot d on off (by decide), he1, he0, he]
  · rw [getLsbD_or_andNot d on off (by decide), hr1, hr0, hr]
  · rw [getLsbD_or_andNot d on off (by decide), hl1, hl0, hl]
  · rw [getLsbD_or_andNot d on off (by omega), hon i hi, hoff i hi, Bool.or_false, Bool.not_false, Bool.and_true]

theorem portWord_enable (d : Reg64) : PortWord d ((d ||| word [(63, 1)]) &&& ~~~ (word [(62, 1), (61, 1)])) true false false := by
  have hon : TopMask (word [(63, 1)]) true false false := by unfold TopMask; decide +kernel
  have hoff : TopMask (word [(62, 1), (61, 1)]) false true true := by unfold TopMask; decide +kernel
  exact portWord_of_masks d hon hoff (by decide) (by decide) (by decide)

theorem portWord_disable (d : Reg64) : PortWord d (d &&& ~~~ (word [(63, 1), (62, 1), (61, 1)])) false false false := by
  have hon : TopMask 0#64 false false false := by unfold TopMask; decide +kernel
  have hoff : TopMask (word [(63, 1), (62, 1), (61, 1)]) true true true := by unfold TopMask; decide +kernel
  have h := portWord_of_masks d hon hoff (e := false) (r := false) (l := false) (by decide) (by decide) (by decide)
  rwa [BitVec.or_zero] at h

theorem portWord_retrain (d : Reg64) : PortWord d ((d ||| word [(63, 1), (62, 1)]) &&& ~~~ (word [(61, 1)])) true true false := by
  have hon : TopMask (word [(63, 1), (62, 1)]) true true false := by unfold TopMask; decide +kernel
  have hoff : TopMask (word [(61, 1)]) false false true := by unfold TopMask; decide +kernel
  exact portWord_of_masks d hon hoff (by decide) (by decide) (by decide)

theorem portWord_reset (d : Reg64) : PortWord d ((d ||| word [(63, 1), (61, 1)]) &&& ~~~ (word [(62, 1)])) true false true := by
  have hon : TopMask (word [(63, 1), (61, 1)]) true false true := by unfold TopMask; decide +kernel
  have hoff : TopMask (word [(62, 1)]) false true false := by unfold TopMask; decide +kernel
  exact portWord_of_masks d hon hoff (by decide) (by decide) (by decide)

/-- The word that a port write stores: a half B has no SPLIT (R335). -/
def portData (lk : Nat) (data : Reg64) : Reg64 := if lk % 2 = 1 then data &&& ~~~ (1#64 <<< 48) else data

/-- The state with a port write stored. -/
def State.portStored (s : State) (lk : Nat) (data : Reg64) : State :=
  s.soft (Reg.FAB_PORT_CTL lk) (portData lk data)

/-- What the orders in a port write do to the link, ENABLE having stood at was. -/
def State.portOrders (s : State) (lk : Nat) (was enable retrain reset : Bool) : State :=
  let s := if enable then (if was then s else s.linkEnableNow lk) else (if was then s.linkDisableNow lk else s)
  let s := if retrain then s.linkRetrainNow lk else s
  if reset then s.llResetNow lk else s

section

variable {s : State} {vw : View} {lk : Fin 64} {d data : Reg64} {e r l : Bool}

theorem getLsbD_without_split (data : Reg64) {i : Nat} (hi : i < 64) (hne : i ≠ 48) :
    (data &&& ~~~ (1#64 <<< 48)).getLsbD i = data.getLsbD i := by
  have hmask : ∀ i, i < 64 → i ≠ 48 → (1#64 <<< 48).getLsbD i = false := by decide +kernel
  rw [BitVec.getLsbD_and, BitVec.getLsbD_not, hmask i hi hne, decide_eq_true hi, Bool.not_false, Bool.and_self, Bool.and_true]

theorem getLsbD_portData (lk : Nat) (data : Reg64) {i : Nat} (hi : i < 64) (hne : i ≠ 48) :
    (portData lk data).getLsbD i = data.getLsbD i := by
  unfold portData
  split_ifs
  · exact getLsbD_without_split data hi hne
  · rfl

theorem State.deadHalf_portCtl (s : State) {lk : Fin 64} (h : s.linkExists lk = true) : s.deadHalf (Reg.FAB_PORT_CTL lk) = false := by
  have hlk := lk.isLt
  rw [State.deadHalf, Bool.and_eq_false_iff]
  by_cases heven : lk.val % 2 = 0
  · left
    have hlow : ¬ Reg.FAB_PORT_CTL lk % 0x1000 ≥ 0x800 := by
      unfold Reg.FAB_PORT_CTL
      omega
    rw [decide_eq_false hlow, Bool.and_false]
  · right
    have hport : 2 * ((Reg.FAB_PORT_CTL lk - 0x80000) / 0x1000) = lk.val - 1 := by
      unfold Reg.FAB_PORT_CTL
      omega
    have hsplit : s.flag (Fld.FAB_PORT_CTL_SPLIT (lk.val - 1)) = true := by simpa [State.linkExists, heven] using h
    rw [hport, hsplit, Bool.not_true]

/-- A port write that comes through stores its word and carries its orders out. -/
theorem State.portWritable.busWrite (h : s.portWritable vw lk d) (hw : PortWord d data e r l) :
    s.busWrite vw (portCtl lk) data = (s.portStored lk data).portOrders lk (s.flag (Fld.FAB_PORT_CTL_ENABLE lk)) e r l := by
  have hlk := lk.isLt
  obtain ⟨hwritable, hexists, hmode, hsplit⟩ := h
  have hres : s.resolve (Reg.FAB_PORT_CTL lk) = some (Reg.FAB_PORT_CTL lk) := by
    unfold State.resolve logicalAt Reg.FAB_PORT_CTL
    rw [if_neg (by omega)]
    exact if_neg (by omega)
  refine State.busWrite_of_writeReg hwritable hres ?_
  have hfab : s.writeReg (viewNum vw) (Reg.FAB_PORT_CTL lk) data = s.writePortCtl lk data := by
    have hblock : (Reg.FAB_PORT_CTL lk - 0x80000) / 0x800 = lk.val := by
      unfold Reg.FAB_PORT_CTL
      omega
    have hoff : Reg.FAB_PORT_CTL lk % 0x800 = 0 := by
      unfold Reg.FAB_PORT_CTL
      omega
    have hrange : 0x80000 ≤ Reg.FAB_PORT_CTL lk ∧ Reg.FAB_PORT_CTL lk < 0xA0000 := by
      unfold Reg.FAB_PORT_CTL
      omega
    unfold State.writeReg
    rw [if_neg (by omega), if_neg (by omega), if_neg (by omega), if_neg (by omega), if_neg (by omega), if_pos (by omega), State.writeFab,
      s.deadHalf_portCtl hexists, hblock, hoff]
    rfl
  rw [hfab]
  have hbit {i : Nat} (hi : i < 64) (hne : i ≠ 48) : (portData lk data).getLsbD i = data.getLsbD i := getLsbD_portData lk data hi hne
  have hmode' : getBits (portData lk data) 57 56 = getBits d 57 56 := getBits_congr fun i hl hh => by
    rw [hbit (by omega) (by omega), hw.low i (by omega)]
  have hchange : (decide (lk.val % 2 = 0) &&
      decide ((portData lk data).getLsbD 48 ≠ s.flag (Fld.FAB_PORT_CTL_SPLIT (lk.val - lk.val % 2)))) = false := by
    rw [Bool.and_eq_false_iff, decide_eq_false_iff_not, decide_eq_false_iff_not]
    by_cases heven : lk.val % 2 = 0
    · right
      have hsame := hsplit.resolve_left (by omega)
      rw [portData, if_neg (by omega), hw.low 48 (by decide), hsame, heven]
      exact not_not.mpr rfl
    · exact .inl heven
  have hfold : (if lk.val % 2 = 1 then data &&& ~~~ (1#64 <<< 48) else data) = portData lk data := rfl
  unfold State.writePortCtl
  rw [hfold]
  dsimp only
  rw [hchange, hmode', if_neg (by simp [hmode]), hbit (by decide) (by decide), hbit (by decide) (by decide), hbit (by decide) (by decide),
    hw.enable, hw.retrain, hw.reset]
  simp only [Bool.false_eq_true, if_false, State.portOrders, State.portStored]

theorem State.regsApart_portStored (s : State) (lk : Nat) (data : Reg64) : RegsApart s (s.portStored lk data) [Reg.FAB_PORT_CTL lk] :=
  s.regsApart_soft _ _

theorem State.portOnly_portStored (s : State) (lk : Fin 64) (data : Reg64) : PortOnly s (s.portStored lk data) lk :=
  (PortOnly.refl s lk).setReg _ (by unfold Reg.FAB_PORT_CTL; omega)

theorem portStatus_ne_portCtl (lk lk' : Fin 64) : Reg.FAB_PORT_STATUS lk ≠ Reg.FAB_PORT_CTL lk' := by
  unfold Reg.FAB_PORT_STATUS Reg.FAB_PORT_CTL
  omega

theorem State.linkState_portStored (s : State) (lk : Fin 64) (data : Reg64) : (s.portStored lk data).linkState lk = s.linkState lk :=
  (s.regsApart_portStored lk data).rd (fun h => portStatus_ne_portCtl lk lk (List.mem_singleton.mp h))

/-- ENABLE is an RW field of the port's control register. -/
theorem enable_mem_regFields (lk : Fin 64) : (⟨63, 63, .rw, 0⟩ : FieldSpec) ∈ regFields (Reg.FAB_PORT_CTL lk) := by
  have hkey : Reg.FAB_PORT_CTL lk = 0x80000 + 0x800 * lk.val + 0 := rfl
  have hcanon : canon (Reg.FAB_PORT_CTL lk) = 0x80000 := by rw [hkey, canon_port lk (by decide)]
  have hfields : regFields (Reg.FAB_PORT_CTL lk) = regFields (Reg.FAB_PORT_CTL 0) := by
    have hzero : canon (Reg.FAB_PORT_CTL 0) = 0x80000 := by decide
    rw [regFields, regFields, regSpecOf, regSpecOf, hcanon, hzero]
  rw [hfields]
  decide +kernel

theorem State.flag_enable_portStored (s : State) (lk : Fin 64) (data : Reg64) :
    (s.portStored lk data).flag (Fld.FAB_PORT_CTL_ENABLE lk) = data.getLsbD 63 := by
  have hbit := getLsbD_portData lk data (i := 63) (by decide) (by decide)
  have hrd : (s.portStored lk data).rd (Fld.FAB_PORT_CTL_ENABLE lk) =
      getBits (portData lk data) 63 63 := by
    have hreg : (s.portStored lk data).reg (Reg.FAB_PORT_CTL lk) = accWrite (regFields (Reg.FAB_PORT_CTL lk)) (s.reg (Reg.FAB_PORT_CTL lk))
      (portData lk data) := s.reg_setReg _ _
    rw [State.rd]
    exact (congrArg (getBits · 63 63) hreg).trans (getBits_accWrite _ _ (enable_mem_regFields lk))
  rw [State.flag, hrd, ← hbit, ← testBit_getBits _ 63 63 63 (by decide) (by decide), Nat.sub_self, Nat.testBit_zero]
  have hlt : getBits (portData lk data) 63 63 < 2 := Nat.mod_lt _ (by decide)
  congr 1
  exact propext (by omega)

end

end Sys2Proof.Machine
end

section
/-! PROOF. What the orders in a port write do: ENABLE, RETRAIN, LL_RESET (R339, R356, R358), and the end of a reset of the link layer. -/

namespace Sys2Proof.Machine

section Orders

variable {s : State} {vw : View} {lk : Fin 64} {d data : Reg64}

theorem State.flag_enable_wr_status (s : State) {lk : Fin 64} {f : Fld} (v : Nat) (hf : f.key = Reg.FAB_PORT_STATUS lk) :
    (s.wr f v).flag (Fld.FAB_PORT_CTL_ENABLE lk) = s.flag (Fld.FAB_PORT_CTL_ENABLE lk) :=
  s.flag_wr_apart f _ v (.inl (hf ▸ (portStatus_ne_portCtl lk lk).symm))

theorem State.flag_enable_statusLeft (s : State) (lk : Fin 64) (st reason : Nat) :
    (s.statusLeft lk st reason).flag (Fld.FAB_PORT_CTL_ENABLE lk) = s.flag (Fld.FAB_PORT_CTL_ENABLE lk) :=
  (s.regsApart_statusLeft lk st reason).flag fun h => portStatus_ne_portCtl lk lk (List.mem_singleton.mp h).symm

/-- ENABLE written as one to a DISABLED link (R339). -/
theorem exec_linkEnable (h : s.portWritable vw lk d) (hwas : s.flag (Fld.FAB_PORT_CTL_ENABLE lk) = false)
    (hst : s.linkState lk = lkDisabled) :
    ∃ t, exec (.linkEnable vw lk d) s = .next t ∧ PortOnly s t lk ∧ t.linkState lk = lkDetect ∧
      t.flag (Fld.FAB_PORT_CTL_ENABLE lk) = true := by
  have hexec : exec (.linkEnable vw lk d) s = _ := congrArg Host.Outcome.next (h.busWrite (portWord_enable d))
  obtain ⟨c, hc⟩ : ∃ c, c = s.portStored lk ((d ||| word [(63, 1)]) &&& ~~~ (word [(62, 1), (61, 1)])) := ⟨_, rfl⟩
  have hst' : c.linkState lk = lkDisabled := hc ▸ (s.linkState_portStored lk _).trans hst
  have henable : c.flag (Fld.FAB_PORT_CTL_ENABLE lk) = true := by rw [hc, State.flag_enable_portStored, (portWord_enable d).enable]
  have horders : c.portOrders lk false true false false = c.setLinkState lk lkDetect := by
    simp [State.portOrders, State.linkEnableNow, hst']
  rw [← hc, hwas, horders] at hexec
  exact ⟨_, hexec, (hc ▸ s.portOnly_portStored lk _ : PortOnly s c lk).setLinkState _, c.linkState_setLinkState lk (by decide),
    (c.flag_enable_wr_status (f := Fld.FAB_PORT_STATUS_STATE lk) _ rfl).trans henable⟩

/-- ENABLE cleared on a link that is not DISABLED (R356). -/
theorem exec_linkDisable (h : s.portWritable vw lk d) (hwas : s.flag (Fld.FAB_PORT_CTL_ENABLE lk) = true)
    (hst : s.linkState lk ≠ lkDisabled) :
    ∃ t, exec (.linkDisable vw lk d) s = .next t ∧ t.linkState lk = lkDisabled ∧ t.flag (Fld.FAB_PORT_CTL_ENABLE lk) = false ∧
      t.rd (Fld.FAB_PORT_STATUS_LANES_UP lk) = 0 ∧ t.spoil = s.spoil ∧ t.benches = s.benches ∧ t.hbm = s.hbm ∧
      (s.linkUp lk = true → LayerLost (t.link lk)) ∧ (s.linkUp lk = false → PortOnly s t lk) := by
  have hexec : exec (.linkDisable vw lk d) s = _ := congrArg Host.Outcome.next (h.busWrite (portWord_disable d))
  obtain ⟨c, hc⟩ : ∃ c, c = s.portStored lk (d &&& ~~~ (word [(63, 1), (62, 1), (61, 1)])) := ⟨_, rfl⟩
  have hport : PortOnly s c lk := hc ▸ s.portOnly_portStored lk _
  have hsame : c.linkState lk = s.linkState lk := hc ▸ s.linkState_portStored lk _
  have hup : c.linkUp lk = s.linkUp lk := State.linkUp_eq_of_linkState hsame
  have henable : c.flag (Fld.FAB_PORT_CTL_ENABLE lk) = false := by rw [hc, State.flag_enable_portStored, (portWord_disable d).enable]
  have horders : c.portOrders lk true false false false = c.leaveLink lk lkDisabled 0 true := by
    simp [State.portOrders, State.linkDisableNow, hsame, hst]
  obtain ⟨w, hleft, happ, hframe, hlost⟩ := c.leaveLink_ordered lk (st := lkDisabled) (by decide) 0
  have hstatus := w.regsOnly_statusLeft lk lkDisabled 0
  rw [← hc, hwas, horders, hleft] at hexec
  have htsync : Reg.FAB_PORT_CTL lk ∉ [Reg.CLKPWR_TSYNC] := fun h => by
    have he := List.mem_singleton.mp h
    simp only [Reg.FAB_PORT_CTL, Reg.CLKPWR_TSYNC] at he
    omega
  refine ⟨_, hexec, w.linkState_statusLeft lk (by decide) 0, ?_, w.rd_lanesUp_statusLeft lk _ _,
    hstatus.spoil.trans (hframe.spoil.trans hport.regsOnly.spoil), hstatus.benches.trans (hframe.benches.trans hport.regsOnly.benches),
    hstatus.hbm.trans (hframe.hbm.trans hport.regsOnly.hbm), fun hsup => ?_, fun hdown => ?_⟩
  · exact (w.flag_enable_statusLeft lk _ _).trans ((happ.flag htsync).trans henable)
  · exact (hlost.1 (hup.trans hsup)).of_links_eq hstatus.links
  · exact hlost.2 (hup.trans hdown) ▸ hport.statusLeft _ _

/-- RETRAIN written to an ACTIVE link (R358). -/
theorem exec_linkRetrain_active (h : s.portWritable vw lk d) (hst : s.linkState lk = lkActive) :
    ∃ t, exec (.linkRetrain vw lk d) s = .next t ∧ PortOnly s t lk ∧ t.linkState lk = lkRetrain := by
  have hexec : exec (.linkRetrain vw lk d) s = _ := congrArg Host.Outcome.next (h.busWrite (portWord_retrain d))
  obtain ⟨c, hc⟩ : ∃ c, c = s.portStored lk ((d ||| word [(63, 1), (62, 1)]) &&& ~~~ (word [(61, 1)])) := ⟨_, rfl⟩
  have hst' : c.linkState lk = lkActive := hc ▸ (s.linkState_portStored lk _).trans hst
  have horders (was : Bool) : c.portOrders lk was true true false = c.setLinkState lk lkRetrain := by
    have hne : lkActive ≠ lkDisabled := by decide
    simp [State.portOrders, State.linkEnableNow, State.linkRetrainNow, hst', hne]
  rw [← hc, horders] at hexec
  exact ⟨_, hexec, (hc ▸ s.portOnly_portStored lk _ : PortOnly s c lk).setLinkState _, c.linkState_setLinkState lk (by decide)⟩

/-- RETRAIN written to a DOWN link (R339, R358). -/
theorem exec_linkRetrain_down (h : s.portWritable vw lk d) (hst : s.linkState lk = lkDown) :
    ∃ t, exec (.linkRetrain vw lk d) s = .next t ∧ t.linkState lk = lkDetect ∧
      t.cnt (Fld.FAB_PORT_STATUS_TRAIN_ATTEMPTS lk) = min 65535 (s.cnt (Fld.FAB_PORT_STATUS_TRAIN_ATTEMPTS lk) + 1) ∧
      t.links = s.links ∧ t.spoil = s.spoil := by
  have hexec : exec (.linkRetrain vw lk d) s = _ := congrArg Host.Outcome.next (h.busWrite (portWord_retrain d))
  obtain ⟨c, hc⟩ : ∃ c, c = s.portStored lk ((d ||| word [(63, 1), (62, 1)]) &&& ~~~ (word [(61, 1)])) := ⟨_, rfl⟩
  have hregs : RegsOnly s c := hc ▸ (s.portOnly_portStored lk _).regsOnly
  have hst' : c.linkState lk = lkDown := hc ▸ (s.linkState_portStored lk _).trans hst
  have hidle : c.linkUp lk = false := State.linkUp_eq_false (hst' ▸ by decide) (hst' ▸ by decide)
  have horders (was : Bool) : c.portOrders lk was true true false = c.leaveLink lk lkDetect 0 true := by
    have hne : lkDown ≠ lkDisabled ∧ lkDown ≠ lkActive := by decide
    simp [State.portOrders, State.linkEnableNow, State.linkRetrainNow, hst', hne]
  rw [← hc, horders] at hexec
  obtain ⟨hst, hlinks, hspoil, hcnt⟩ := State.leaveLink_detect_of_idle hidle 0 true
  exact ⟨_, hexec, hst, hcnt.trans (by rw [State.cnt_congr hregs.rc]), hlinks.trans hregs.links, hspoil.trans hregs.spoil⟩

/-- The link layer of a link as LL_RESET leaves it (R358): nothing begun, sequence numbers at zero. -/
def Link.restarted (l : Link) : Link :=
  { l with
    egress := l.egress.filter (fun e => decide (e.sent = 0))
    txSeq := 0, rxSeq := 0, nak := false, replay := [], resend := 0, failSeq := 0, failCount := 0, due := []
    resetting := true }

/-- A link whose layer starts again (R358). -/
theorem State.llResetNow_spec {c : State} {lk : Nat} (hst : c.linkState lk = lkActive) (hreset : (c.link lk).resetting = false) :
    ∃ w : State, c.llResetNow lk = w.onLink lk Link.restarted ∧ (w.link lk).partials = [] ∧ LinkOnly c w := by
  obtain ⟨u, hu⟩ : ∃ u, u = c.dropPartials lk := ⟨_, rfl⟩
  obtain ⟨w, hw⟩ : ∃ w, w = u.freeEgress ((u.link lk).egress.filter (fun e => decide (0 < e.sent))) := ⟨_, rfl⟩
  have hpartials : (w.link lk).partials = [] := by rw [hw, State.partials_freeEgress, hu, State.partials_dropPartials]
  refine ⟨w, ?_, hpartials, hw ▸ (hu ▸ c.linkOnly_dropPartials lk : LinkOnly c u).trans (u.linkOnly_freeEgress _)⟩
  rw [State.llResetNow, if_pos ⟨hst, by simp [hreset]⟩, hw, hu]
  rfl

/-- LL_RESET written to an ACTIVE link (R358). -/
theorem exec_llReset (h : s.portWritable vw lk d) (hst : s.linkState lk = lkActive) (hreset : (s.link lk).resetting = false) :
    ∃ t, exec (.llReset vw lk d) s = .next t ∧ t.linkState lk = lkActive ∧ (t.link lk).resetting = true ∧ (t.link lk).replay = [] ∧
      (t.link lk).txSeq = 0 ∧ (t.link lk).rxSeq = 0 ∧ (t.link lk).due = [] ∧ (t.link lk).partials = [] ∧
      (∀ e ∈ (t.link lk).egress, e.sent = 0) ∧ t.benches = s.benches ∧ t.spoil = s.spoil := by
  have hexec : exec (.llReset vw lk d) s = _ := congrArg Host.Outcome.next (h.busWrite (portWord_reset d))
  obtain ⟨c, hc⟩ : ∃ c, c = s.portStored lk ((d ||| word [(63, 1), (61, 1)]) &&& ~~~ (word [(62, 1)])) := ⟨_, rfl⟩
  have hst' : c.linkState lk = lkActive := hc ▸ (s.linkState_portStored lk _).trans hst
  have hregs : RegsOnly s c := hc ▸ (s.portOnly_portStored lk _).regsOnly
  have hreset' : (c.link lk).resetting = false := by rw [State.link_congr hregs.links, hreset]
  have horders (was : Bool) : c.portOrders lk was true false true = c.llResetNow lk := by
    have hne : lkActive ≠ lkDisabled := by decide
    simp [State.portOrders, State.linkEnableNow, hst', hne]
  obtain ⟨w, hrestart, hpartials, hframe⟩ := State.llResetNow_spec hst' hreset'
  have hlink : (w.onLink lk Link.restarted).link lk = (w.link lk).restarted := w.link_onLink _ _
  rw [← hc, horders, hrestart] at hexec
  refine ⟨_, hexec, (State.linkState_congr hframe.regs _).trans hst', ?_⟩
  rw [hlink]
  exact ⟨rfl, rfl, rfl, rfl, rfl, hpartials, fun e he => of_decide_eq_true (List.mem_filter.mp he).2, hframe.benches.trans hregs.benches,
    hframe.spoil.trans hregs.spoil⟩

end Orders

section Credits

/-- The credits of channel vc in class 0 and in class 1 that an allocation gives (R351). -/
def creditOf (alloc : List Nat) (vc cls : Nat) : Nat :=
  if vc = 0 ∨ vc = 6 then (if cls = 0 then alloc.getD vc 0 else 0) else alloc.getD vc 0 / 2

/-- The credits of one channel set. -/
def State.setCredit (lk : Nat) (alloc : List Nat) (s : State) (vc : Nat) : State :=
  (s.wr (Fld.FAB_PORT_CREDIT_AVAIL0 lk vc) (creditOf alloc vc 0)).wr (Fld.FAB_PORT_CREDIT_AVAIL1 lk vc) (creditOf alloc vc 1)

theorem State.initCredits_eq (s : State) (lk : Nat) (alloc : List Nat) :
    s.initCredits lk alloc = (List.range 8).foldl (State.setCredit lk alloc) s := by
  have hstep : State.setCredit lk alloc = fun t vc =>
      if vc = 0 ∨ vc = 6 then (t.wr (Fld.FAB_PORT_CREDIT_AVAIL0 lk vc) (alloc.getD vc 0)).wr (Fld.FAB_PORT_CREDIT_AVAIL1 lk vc) 0
      else (t.wr (Fld.FAB_PORT_CREDIT_AVAIL0 lk vc) (alloc.getD vc 0 / 2)).wr (Fld.FAB_PORT_CREDIT_AVAIL1 lk vc) (alloc.getD vc 0 / 2) := by
    funext t vc
    unfold State.setCredit creditOf
    by_cases hvc : vc = 0 ∨ vc = 6
    · simp only [hvc, if_true, if_false, Nat.one_ne_zero]
    · simp only [hvc, if_false]
  rw [State.initCredits, State.each, hstep]

theorem State.regsOnly_initCredits (s : State) (lk : Nat) (alloc : List Nat) : RegsOnly s (s.initCredits lk alloc) := by
  have hstep (t : State) (vc : Nat) : RegsOnly t (State.setCredit lk alloc t vc) :=
    ((RegsOnly.refl t).wr (Fld.FAB_PORT_CREDIT_AVAIL0 lk vc) _).wr (Fld.FAB_PORT_CREDIT_AVAIL1 lk vc) _
  rw [State.initCredits_eq]
  exact .foldl hstep _ (.refl s)

theorem State.regsApart_initCredits (s : State) (lk : Nat) (alloc : List Nat) :
    RegsApart s (s.initCredits lk alloc) ((List.range 8).map (Reg.FAB_PORT_CREDIT lk)) := by
  have hstep (t : State) (vc : Nat) (hvc : vc ∈ List.range 8) :
      RegsApart t (State.setCredit lk alloc t vc) ((List.range 8).map (Reg.FAB_PORT_CREDIT lk)) := by
    have hmem : Reg.FAB_PORT_CREDIT lk vc ∈ (List.range 8).map (Reg.FAB_PORT_CREDIT lk) := List.mem_map_of_mem hvc
    have hfirst : RegsApart t (t.wr (Fld.FAB_PORT_CREDIT_AVAIL0 lk vc) (creditOf alloc vc 0)) _ :=
      (t.regsApart_wr _ _).mono (List.cons_subset.mpr ⟨hmem, List.nil_subset _⟩)
    exact hfirst.wr (Fld.FAB_PORT_CREDIT_AVAIL1 lk vc) _ hmem
  rw [State.initCredits_eq]
  exact List.foldlRecOn _ _ (motive := fun t => RegsApart s t _) (fun _ _ => rfl) fun t h vc hvc => h.trans (hstep t vc hvc)

theorem portCredit_injective (lk : Nat) {v w : Nat} (h : Reg.FAB_PORT_CREDIT lk v = Reg.FAB_PORT_CREDIT lk w) : v = w := by
  simp only [Reg.FAB_PORT_CREDIT] at h
  omega

/-- After training and after a reset of the link layer every channel has the credits of its allocation (R351, R358). -/
theorem State.rd_initCredits (s : State) (lk : Nat) (alloc : List Nat) {vc : Nat} (hvc : vc < 8) :
    (s.initCredits lk alloc).rd (Fld.FAB_PORT_CREDIT_AVAIL0 lk vc) = creditOf alloc vc 0 % 1024 ∧
      (s.initCredits lk alloc).rd (Fld.FAB_PORT_CREDIT_AVAIL1 lk vc) = creditOf alloc vc 1 % 1024 := by
  have hother (f : Fld) (hf : f.key = Reg.FAB_PORT_CREDIT lk vc) (v : Nat) (hne : v ≠ vc) (t : State) :
      (State.setCredit lk alloc t v).rd f = t.rd f := by
    have hkey : f.key ≠ Reg.FAB_PORT_CREDIT lk v := fun h => hne (portCredit_injective lk (h.symm.trans hf))
    rw [State.setCredit, State.rd_wr_apart _ _ _ _ (.inl hkey), State.rd_wr_apart _ _ _ _ (.inl hkey)]
  rw [State.initCredits_eq]
  refine ⟨foldl_read_touched _ (·.rd (Fld.FAB_PORT_CREDIT_AVAIL0 lk vc)) vc _ (fun t => ?_) _ s (List.mem_range.mpr hvc)
      fun v _ => hother _ rfl v,
    foldl_read_touched _ (·.rd (Fld.FAB_PORT_CREDIT_AVAIL1 lk vc)) vc _ (fun t => ?_) _ s (List.mem_range.mpr hvc)
      fun v _ => hother _ rfl v⟩
  · rw [State.setCredit, State.rd_wr_apart _ _ _ _ (.inr (by decide : 9 < 64 ∧ (9 < 16 ∨ 25 < 0)))]
    exact State.rd_wr _ _ _ (by decide : 9 < 64) (by decide : 0 ≤ 9)
  · exact State.rd_wr _ _ _ (by decide : 25 < 64) (by decide : 16 ≤ 25)

/-- Injection that nothing holds is not let go once more (R394). -/
theorem State.fresetSettle_of_not_held {s : State} (h : s.net.held = false) : s.fresetSettle = s := by
  unfold State.fresetSettle
  rw [if_pos (.inl (by rw [h]; rfl))]

/-- Registers written before and after a link's change. -/
theorem State.onLink_frame {s u v t : State} {lk : Nat} {f : Link → Link} (h : RegsOnly s u) (hv : v = u.onLink lk f)
    (g : RegsOnly v t) : t = { s with regs := t.regs, links := t.links } := by
  subst hv
  obtain ⟨_, rfl⟩ := h
  obtain ⟨_, rfl⟩ := g
  rfl

/-- The link layer resumes where no fabric reset waits for it (R358). -/
theorem exec_llResetComplete {s : State} {lk : Fin 64} (h : s.laneOk) (hreset : (s.link lk).resetting = true)
    (hheld : s.net.held = false) :
    ∃ t, exec (.llResetComplete lk) s = .next t ∧ t = { s with regs := t.regs, links := t.links } ∧ LinksApart s t lk ∧
      t.link lk = { s.link lk with resetting := false } ∧
      (∀ vc, vc < 8 → t.rd (Fld.FAB_PORT_CREDIT_AVAIL0 lk vc) = creditOf (s.link lk).partnerAlloc vc 0 % 1024 ∧
        t.rd (Fld.FAB_PORT_CREDIT_AVAIL1 lk vc) = creditOf (s.link lk).partnerAlloc vc 1 % 1024) := by
  obtain ⟨u, hu⟩ : ∃ u, u = s.initCredits lk (s.link lk).partnerAlloc := ⟨_, rfl⟩
  have hregs : RegsOnly s u := hu ▸ s.regsOnly_initCredits _ _
  have hframe := hregs.frame
  have hlinks : u.links = s.links := by rw [hframe]
  have hend : (s.llResetEnd lk).fresetSettle = u.onLink lk (fun l => { l with resetting := false }) := by
    have hheld' : u.net.held = false := by
      rw [hframe]
      exact hheld
    rw [State.llResetEnd, hreset, if_pos rfl, ← hu]
    exact State.fresetSettle_of_not_held hheld'
  refine ⟨_, (next_onLane h _).trans (congrArg _ hend), ?_, ?_, ?_, fun vc hvc => ?_⟩
  · exact State.onLink_frame hregs rfl (.refl _)
  · exact (LinksApart.of_links_eq hlinks lk).trans (u.linksApart_onLink lk _)
  · rw [State.link_onLink, State.link_congr hlinks]
  · obtain ⟨h0, h1⟩ := s.rd_initCredits lk (s.link lk).partnerAlloc hvc
    rw [← hu] at h0 h1
    exact ⟨(State.rd_congr (u.onLink_regs lk _) _).trans h0, (State.rd_congr (u.onLink_regs lk _) _).trans h1⟩

end Credits

end Sys2Proof.Machine
end

section
/-! PROOF. The training machine of a link: DETECT, EQUALISE, MEASURE, the limits of its states, RETRAIN and the failure of lanes (R339,
R340, R343). -/

namespace Sys2Proof.Machine

section Training

variable {s : State} {lk : Fin 64}

/-- The partner searched for once more (R339). -/
theorem exec_linkDetectRetry (h : s.laneOk) (hst : s.linkState lk = lkDetect) :
    ∃ t, exec (.linkDetectRetry lk) s = .next t ∧ t = { s with rc := t.rc } ∧
      t.cnt (Fld.FAB_PORT_STATUS_TRAIN_ATTEMPTS lk) = min 65535 (s.cnt (Fld.FAB_PORT_STATUS_TRAIN_ATTEMPTS lk) + 1) := by
  have hretry : s.detectRetry lk = s.bump (Fld.FAB_PORT_STATUS_TRAIN_ATTEMPTS lk) 1 := if_pos hst
  exact ⟨_, (next_onLane h _).trans (congrArg _ hretry), s.bump_frame _ _, s.cnt_trainAttempts_bump lk⟩

/-- The partner seen on all lanes but at most one (R339, R340). -/
theorem exec_linkPartnerSeen_enough (h : s.laneOk) {lanes : BitVec 8} (hst : s.linkState lk = lkDetect)
    (henough : s.lanesOf lk ≤ popcount lanes.toNat (s.lanesOf lk) + 1) :
    ∃ t, exec (.linkPartnerSeen lk lanes) s = .next t ∧ t = { s with regs := t.regs, links := t.links } ∧ t.linkState lk = lkEqualise ∧
      LinksApart s t lk ∧ (t.link lk).trained = lanes.toNat % 2 ^ s.lanesOf lk ∧ t.reg (Reg.FAB_PORT_MEAS lk) = 0 ∧
      t.reg (Reg.FAB_PORT_LANE_LOSS lk) = BitVec.allOnes 64 := by
  obtain ⟨u, hu⟩ : ∃ u, u = (s.setLinkState lk lkEqualise).onLink lk (fun l =>
    { l with trained := lanes.toNat % 2 ^ s.lanesOf lk }) := ⟨_, rfl⟩
  have hseen : s.partnerSeen lk lanes.toNat =
      (u.setReg (Reg.FAB_PORT_MEAS lk) 0).setReg (Reg.FAB_PORT_LANE_LOSS lk) (BitVec.allOnes 64) := by
    rw [State.partnerSeen, hu]
    exact if_pos ⟨hst, henough⟩
  have hne : Reg.FAB_PORT_MEAS lk ≠ Reg.FAB_PORT_LANE_LOSS lk ∧ Reg.FAB_PORT_STATUS lk ≠ Reg.FAB_PORT_MEAS lk ∧
      Reg.FAB_PORT_STATUS lk ≠ Reg.FAB_PORT_LANE_LOSS lk := by
    unfold Reg.FAB_PORT_MEAS Reg.FAB_PORT_LANE_LOSS Reg.FAB_PORT_STATUS
    omega
  have hregs : RegsOnly s (s.setLinkState lk lkEqualise) := (RegsOnly.refl s).wr (Fld.FAB_PORT_STATUS_STATE lk) _
  have hmeas : RegsOnly u ((u.setReg (Reg.FAB_PORT_MEAS lk) 0).setReg (Reg.FAB_PORT_LANE_LOSS lk) (BitVec.allOnes 64)) :=
    ((RegsOnly.refl u).setReg _ _).setReg _ _
  refine ⟨_, (next_onLane h _).trans (congrArg _ hseen), ?_, ?_, ?_, ?_, ?_, State.reg_setReg _ _ _⟩
  · exact State.onLink_frame hregs hu hmeas
  · have hst : u.linkState lk = lkEqualise := by
      rw [hu, State.linkState_congr (State.onLink_regs _ _ _), State.linkState_setLinkState _ _ (by decide)]
    have happ : RegsApart u _ [Reg.FAB_PORT_MEAS lk, Reg.FAB_PORT_LANE_LOSS lk] :=
      ((u.regsApart_setReg (Reg.FAB_PORT_MEAS lk) 0).mono (List.cons_subset_cons _ (List.nil_subset _))).trans
        ((State.regsApart_setReg _ (Reg.FAB_PORT_LANE_LOSS lk) (BitVec.allOnes 64)).mono (List.subset_cons_self _ _))
    refine (happ.rd ?_ : _ = u.linkState lk).trans hst
    simpa [Fld.FAB_PORT_STATUS_STATE] using ⟨hne.2.1, hne.2.2⟩
  · have hlinks : LinksApart s u lk := by
      rw [hu]
      exact (LinksApart.of_links_eq hregs.links lk).trans (State.linksApart_onLink _ lk _)
    exact hlinks.trans (LinksApart.of_links_eq hmeas.links lk)
  · rw [State.link_congr hmeas.links, hu, State.link_onLink]
  · rw [State.reg_setReg_ne _ _ hne.1, State.reg_setReg]

/-- Too few lanes see the partner (R339). -/
theorem exec_linkPartnerSeen_few (h : s.laneOk) {lanes : BitVec 8} (hfew : popcount lanes.toNat (s.lanesOf lk) + 1 < s.lanesOf lk) :
    exec (.linkPartnerSeen lk lanes) s = .next s :=
  (next_onLane h _).trans (congrArg _ (if_neg fun hseen => by
    obtain ⟨-, henough⟩ := hseen
    omega))

theorem exec_linkEqualiseDone (h : s.laneOk) (hst : s.linkState lk = lkEqualise) :
    ∃ t, exec (.linkEqualiseDone lk) s = .next t ∧ PortOnly s t lk ∧ t.linkState lk = lkMeasure := by
  have hdone : s.equaliseDone lk = s.setLinkState lk lkMeasure := if_pos hst
  exact ⟨_, (next_onLane h _).trans (congrArg _ hdone), (PortOnly.refl s lk).setLinkState _, s.linkState_setLinkState lk (by decide)⟩

/-- A training state beyond its limit (Table 13.4). -/
theorem exec_linkStateTimeout_training (h : s.laneOk)
    (hst : s.linkState lk = lkEqualise ∨ s.linkState lk = lkMeasure ∨ s.linkState lk = lkExchange) :
    ∃ t, exec (.linkStateTimeout lk) s = .next t ∧ t.linkState lk = lkDetect ∧ t.links = s.links ∧ t.spoil = s.spoil ∧
      t.cnt (Fld.FAB_PORT_STATUS_TRAIN_ATTEMPTS lk) = min 65535 (s.cnt (Fld.FAB_PORT_STATUS_TRAIN_ATTEMPTS lk) + 1) := by
  have hout : s.linkTimeout lk = s.leaveLink lk lkDetect 0 false := if_pos (by omega)
  have hidle : s.linkUp lk = false := by
    refine State.linkUp_eq_false ?_ ?_ <;> rcases hst with hst | hst | hst <;> rw [hst] <;> decide
  exact ⟨_, (next_onLane h _).trans (congrArg _ hout), State.leaveLink_detect_of_idle hidle 0 false⟩

/-- RETRAIN beyond its limit: the layer is lost (Table 13.4, R345). -/
theorem exec_linkStateTimeout_retrain (h : s.laneOk) (hst : s.linkState lk = lkRetrain) :
    ∃ t, exec (.linkStateTimeout lk) s = .next t ∧ t.linkState lk = lkDetect ∧ LayerLost (t.link lk) ∧
      (t.spoil.inFlight.getLast?).map (·.cls) = some 0x0D := by
  have hout : s.linkTimeout lk = s.leaveLink lk lkDetect 0 false := if_pos (by simp [hst])
  obtain ⟨hdetect, -, hlost, hlogged⟩ :=
    State.leaveLink_unordered (State.linkUp_eq_true (.inr hst)) (st := lkDetect) (reason := 0) (by decide) (by decide)
  exact ⟨_, (next_onLane h _).trans (congrArg _ hout), hdetect, hlost, hlogged⟩

/-- The status of a link that comes back from RETRAIN (R339). -/
def State.retrained (s : State) (lk : Nat) : State := (s.setLinkState lk lkActive).wrapInc (Fld.FAB_PORT_STATUS_LINK_UPS lk)

theorem State.retrained_def (s : State) (lk : Nat) :
    (s.setLinkState lk lkActive).wrapInc (Fld.FAB_PORT_STATUS_LINK_UPS lk) = s.retrained lk := rfl

theorem State.retrained_spec (s : State) (lk : Fin 64) : PortOnly s (s.retrained lk) lk ∧ (s.retrained lk).linkState lk = lkActive ∧
    (s.retrained lk).rd (Fld.FAB_PORT_STATUS_LINK_UPS lk) = (s.rd (Fld.FAB_PORT_STATUS_LINK_UPS lk) + 1) % 65536 ∧
    (s.retrained lk).rd (Fld.FAB_PORT_STATUS_LANES_UP lk) = s.rd (Fld.FAB_PORT_STATUS_LANES_UP lk) := by
  obtain ⟨u, hu⟩ : ∃ u, u = s.setLinkState lk lkActive := ⟨_, rfl⟩
  have hups : u.rd (Fld.FAB_PORT_STATUS_LINK_UPS lk) = s.rd (Fld.FAB_PORT_STATUS_LINK_UPS lk) :=
    hu ▸ s.rd_wr_apart _ _ _ (.inr (by decide : 15 < 64 ∧ (15 < 61 ∨ 63 < 0)))
  have hlanes : u.rd (Fld.FAB_PORT_STATUS_LANES_UP lk) = s.rd (Fld.FAB_PORT_STATUS_LANES_UP lk) :=
    hu ▸ s.rd_wr_apart _ _ _ (.inr (by decide : 55 < 64 ∧ (55 < 61 ∨ 63 < 48)))
  rw [State.retrained, ← hu, State.wrapInc, hups]
  refine ⟨?_, ?_, ?_, ?_⟩
  · exact (hu ▸ (PortOnly.refl s lk).setLinkState _ : PortOnly s u lk).wr _ (portStatus_inPort lk)
  · rw [u.linkState_wr_apart lk _ (.inr (by decide : 15 < 61)), hu, s.linkState_setLinkState lk (by decide)]
  · exact u.rd_wr _ _ (by decide : 15 < 64) (by decide : 0 ≤ 15)
  · rw [u.rd_wr_apart _ _ _ (.inr (by decide : 55 < 64 ∧ (55 < 0 ∨ 15 < 48))), hlanes]

/-- RETRAIN complete with every lane that was up (R339). -/
theorem exec_linkRetrainDone_all (h : s.laneOk) (hst : s.linkState lk = lkRetrain) (hspare : (s.link lk).spareLane = none) :
    ∃ t, exec (.linkRetrainDone lk) s = .next t ∧ PortOnly s t lk ∧ t.linkState lk = lkActive ∧
      t.rd (Fld.FAB_PORT_STATUS_LINK_UPS lk) = (s.rd (Fld.FAB_PORT_STATUS_LINK_UPS lk) + 1) % 65536 := by
  obtain ⟨hport, hactive, hups, -⟩ := s.retrained_spec lk
  have hkept : ((s.retrained lk).link lk).spareLane = none := by rw [State.link_congr hport.regsOnly.links, hspare]
  have hdone : s.retrainDone lk = s.retrained lk := by
    rw [State.retrainDone, if_pos hst, State.retrained_def]
    simp only [hkept]
  exact ⟨_, (next_onLane h _).trans (congrArg _ hdone), hport, hactive, hups⟩

/-- RETRAIN complete without a lane that failed (R343). -/
theorem exec_linkRetrainDone_spared (h : s.laneOk) {lane : Fin 8} (hst : s.linkState lk = lkRetrain)
    (hspare : (s.link lk).spareLane = some lane.val) (hbit : bit (s.rd (Fld.FAB_PORT_STATUS_LANES_UP lk)) lane = true) :
    ∃ t, exec (.linkRetrainDone lk) s = .next t ∧ t.linkState lk = lkActive ∧ t.rd (Fld.FAB_PORT_STATUS_SPARED lk) = lane.val ∧
      t.rd (Fld.FAB_PORT_STATUS_LANES_UP lk) = s.rd (Fld.FAB_PORT_STATUS_LANES_UP lk) - 2 ^ lane.val ∧
      t.link lk = { s.link lk with spareLane := none } ∧ (t.spoil.inFlight.getLast?).map (·.cls) = some 0x0E := by
  obtain ⟨hport, hactive, -, hlanes⟩ := s.retrained_spec lk
  have hlink : (s.retrained lk).link lk = s.link lk := State.link_congr hport.regsOnly.links lk
  obtain ⟨up, hup⟩ : ∃ up, up = s.rd (Fld.FAB_PORT_STATUS_LANES_UP lk) := ⟨_, rfl⟩
  have hlt : up < 256 := hup ▸ s.rd_lt _
  obtain ⟨u, hu⟩ : ∃ u, u = (s.retrained lk).wr (Fld.FAB_PORT_STATUS_SPARED lk) lane.val := ⟨_, rfl⟩
  obtain ⟨w, hw⟩ : ∃ w, w = u.wr (Fld.FAB_PORT_STATUS_LANES_UP lk) (up - 2 ^ lane.val) := ⟨_, rfl⟩
  have hdone : s.retrainDone lk = (w.onLink lk (fun l => { l with spareLane := none })).logAt 0x0E 6 lk (lane.val * 2 ^ 32) 0 := by
    rw [State.retrainDone, if_pos hst, State.retrained_def]
    have hset : bit up lane = true := hup ▸ hbit
    simp only [hlink, hspare, hlanes, ← hup, hset, if_true, ← hu, ← hw]
  have hregs : ((w.onLink lk (fun l => { l with spareLane := none })).logAt 0x0E 6 lk (lane.val * 2 ^ 32) 0).regs = w.regs :=
    (State.logAt_regs _ _ _ _ _ _).trans (w.onLink_regs lk _)
  refine ⟨_, (next_onLane h _).trans (congrArg _ hdone), ?_, ?_, ?_, ?_, State.logAt_last_cls _ 0x0E 6 lk _ _⟩
  · rw [State.linkState_congr hregs, hw, u.linkState_wr_apart lk _ (.inr (by decide : 55 < 61)), hu,
      State.linkState_wr_apart _ lk _ (.inr (by decide : 47 < 61)), hactive]
  · rw [State.rd_congr hregs, hw, u.rd_wr_apart _ _ _ (.inr (by decide : 47 < 64 ∧ (47 < 48 ∨ 55 < 44))), hu]
    have hlane := lane.isLt
    exact State.rd_wr_of_lt _ (by decide : 47 < 64) (by decide : 44 ≤ 47) (by omega : lane.val < 16)
  · rw [State.rd_congr hregs, hw, ← hup]
    exact u.rd_wr_of_lt (f := Fld.FAB_PORT_STATUS_LANES_UP lk) (by decide : 55 < 64) (by decide : 48 ≤ 55)
      (lt_of_le_of_lt (Nat.sub_le _ _) hlt : up - 2 ^ lane.val < 2 ^ 8)
  · have hwlinks : w.links = s.links :=
      (hw ▸ (hu ▸ hport.regsOnly.wr _ _ : RegsOnly s u).wr _ _ : RegsOnly s w).links
    rw [State.link_congr (State.logAt_links _ _ _ _ _ _), State.link_onLink, State.link_congr hwlinks]

/-- The first lane of an ACTIVE link that fails (R343). -/
theorem exec_laneFailure_first (h : s.laneOk) {lane : Fin 8} (hst : s.linkState lk = lkActive)
    (hbit : bit (s.rd (Fld.FAB_PORT_STATUS_LANES_UP lk)) lane = true) (hspare : (s.link lk).spareLane = none)
    (hspared : s.rd (Fld.FAB_PORT_STATUS_SPARED lk) = 0xF) :
    ∃ t, exec (.laneFailure lk lane) s = .next t ∧ t.linkState lk = lkRetrain ∧
      t.link lk = { s.link lk with spareLane := some lane.val } ∧ LinksApart s t lk ∧ t.spoil = s.spoil := by
  obtain ⟨u, hu⟩ : ∃ u, u = s.setLinkState lk lkRetrain := ⟨_, rfl⟩
  have hregs : RegsOnly s u := hu ▸ (RegsOnly.refl s).wr (Fld.FAB_PORT_STATUS_STATE lk) _
  have hfails : s.laneFails lk lane = u.onLink lk (fun l => { l with spareLane := some lane.val }) := by
    have hup : s.linkUp lk = true := State.linkUp_eq_true (.inl hst)
    rw [State.laneFails, hup, hbit, Bool.and_self, if_pos rfl, if_pos ⟨hst, hspared, hspare⟩, hu]
  refine ⟨_, (next_onLane h _).trans (congrArg _ hfails), ?_, ?_, ?_, ?_⟩
  · rw [State.linkState_congr (u.onLink_regs lk _), hu, s.linkState_setLinkState lk (by decide)]
  · rw [State.link_onLink, State.link_congr hregs.links]
  · exact (LinksApart.of_links_eq hregs.links lk).trans (u.linksApart_onLink lk _)
  · rw [State.onLink_spoil, hregs.spoil]

/-- A second lane that fails ends the link (R343). -/
theorem exec_laneFailure_second (h : s.laneOk) {lane : Fin 8} (hst : s.linkState lk = lkActive)
    (hbit : bit (s.rd (Fld.FAB_PORT_STATUS_LANES_UP lk)) lane = true) (hspared : s.rd (Fld.FAB_PORT_STATUS_SPARED lk) ≠ 0xF) :
    ∃ t, exec (.laneFailure lk lane) s = .next t ∧ t.linkState lk = lkDown ∧ t.rd (Fld.FAB_PORT_STATUS_DOWN_REASON lk) = 1 ∧
      LayerLost (t.link lk) ∧ (t.spoil.inFlight.getLast?).map (·.cls) = some 0x0D := by
  have hup : s.linkUp lk = true := State.linkUp_eq_true (.inl hst)
  have hfails : s.laneFails lk lane = s.leaveLink lk lkDown 1 false := by
    rw [State.laneFails, hup, hbit, Bool.and_self, if_pos rfl, if_neg fun hall => hspared hall.2.1]
  exact ⟨_, (next_onLane h _).trans (congrArg _ hfails),
    State.leaveLink_unordered hup (st := lkDown) (reason := 1) (by decide) (by decide)⟩

end Training

section Measure

/-- The loss that a lane shows after MEASURE: what was measured where it is trained (R340). -/
def State.laneLoss (s : State) (lk : Nat) (ls : List (BitVec 8)) (i : Nat) : Nat :=
  if i < s.lanesOf lk ∧ bit (s.link lk).trained i = true then (ls.getD i 0xFF).toNat else 0xFF

theorem State.laneLoss_lt (s : State) (lk : Nat) (ls : List (BitVec 8)) (i : Nat) : s.laneLoss lk ls i < 256 := by
  unfold State.laneLoss
  split_ifs
  · exact (ls.getD i 0xFF).isLt
  · decide

theorem State.lossWord_getD (s : State) (lk : Nat) (ls : List (BitVec 8)) {i : Nat} (hi : i < 8) :
    (s.lossWord lk (ls.map BitVec.toNat)).getD i 0xFF = s.laneLoss lk ls i := by
  have hmap : (ls.map BitVec.toNat).getD i 0xFF = (ls.getD i 0xFF).toNat := List.getD_map ls (0xFF : BitVec 8) BitVec.toNat
  rw [State.lossWord, List.getD_eq_getElem _ _ (by simpa using hi), List.getElem_map, List.getElem_range, hmap]
  rfl

/-- The losses of the eight lanes shown. -/
def State.showLosses (s : State) (lk : Nat) (l : List Nat) : State :=
  (List.range 8).foldl (fun s j => s.wr (Fld.FAB_PORT_LANE_LOSS_LOSS lk j) (l.getD j 0xFF)) s

theorem State.rd_showLosses (s : State) (lk : Nat) (l : List Nat) {i : Nat} (hi : i < 8) :
    (s.showLosses lk l).rd (Fld.FAB_PORT_LANE_LOSS_LOSS lk i) = l.getD i 0xFF % 256 := by
  refine foldl_read_touched _ (·.rd (Fld.FAB_PORT_LANE_LOSS_LOSS lk i)) i _ (fun t => ?_) _ s (List.mem_range.mpr hi) fun j hj hne t => ?_
  · have hwidth : 8 * i + 7 + 1 - 8 * i = 8 := by omega
    have hrd := t.rd_wr (Fld.FAB_PORT_LANE_LOSS_LOSS lk i) (l.getD i 0xFF) (by omega : 8 * i + 7 < 64) (by omega : 8 * i ≤ 8 * i + 7)
    exact hrd.trans (congrArg (fun n => l.getD i 0xFF % 2 ^ n) hwidth)
  · exact t.rd_wr_apart _ _ _ (.inr (by omega : 8 * i + 7 < 64 ∧ (8 * i + 7 < 8 * j ∨ 8 * j + 7 < 8 * i)))

theorem PortOnly.showLosses {s t : State} {lk : Fin 64} (h : PortOnly s t lk) (l : List Nat) : PortOnly s (t.showLosses lk l) lk :=
  List.foldlRecOn _ _ (motive := fun u => PortOnly s u lk) h fun u g j _ =>
    g.wr (f := Fld.FAB_PORT_LANE_LOSS_LOSS lk j) _ (by simp only [Fld.FAB_PORT_LANE_LOSS_LOSS, Reg.FAB_PORT_LANE_LOSS]; omega)

theorem State.regsApart_showLosses (s : State) (lk : Nat) (l : List Nat) :
    RegsApart s (s.showLosses lk l) [Reg.FAB_PORT_LANE_LOSS lk] :=
  List.foldlRecOn _ _ (motive := fun t => RegsApart s t _) (fun _ _ => rfl) fun _ h j _ =>
    h.wr (Fld.FAB_PORT_LANE_LOSS_LOSS lk j) _ (List.mem_singleton.mpr rfl)

/-- MEASURE complete: the round trip, the length it gives, and the losses of the lanes (R340). -/
theorem exec_linkMeasureDone {s : State} {lk : Fin 64} {rtt : BitVec 20} {ls : List (BitVec 8)} (h : s.laneOk)
    (hst : s.linkState lk = lkMeasure) (hlen : ls.length = 8) :
    ∃ t, exec (.linkMeasureDone lk rtt ls) s = .next t ∧ PortOnly s t lk ∧ t.linkState lk = lkExchange ∧
      t.rd (Fld.FAB_PORT_MEAS_RTT lk) = rtt.toNat ∧ t.rd (Fld.FAB_PORT_MEAS_LENGTH lk) = (rtt.toNat + 5) / 10 % 65536 ∧
      (∀ i, i < 8 → t.rd (Fld.FAB_PORT_LANE_LOSS_LOSS lk i) = s.laneLoss lk ls i) := by
  obtain ⟨l, hl⟩ : ∃ l, l = s.lossWord lk (ls.map BitVec.toNat) := ⟨_, rfl⟩
  obtain ⟨worst, hworst⟩ : ∃ worst, worst = (((List.range 8).filter (fun i =>
    decide (i < s.lanesOf lk) && bit (s.link lk).trained i)).map (fun i => l.getD i 0)).foldl max 0 := ⟨_, rfl⟩
  obtain ⟨a, ha⟩ : ∃ a, a = s.wr (Fld.FAB_PORT_MEAS_RTT lk) rtt.toNat := ⟨_, rfl⟩
  obtain ⟨b, hb⟩ : ∃ b, b = a.wr (Fld.FAB_PORT_MEAS_LENGTH lk) ((rtt.toNat + 5) / 10) := ⟨_, rfl⟩
  obtain ⟨c, hc⟩ : ∃ c, c = b.wr (Fld.FAB_PORT_MEAS_LOSS_MAX lk) worst := ⟨_, rfl⟩
  have hdone : s.measureDone lk rtt.toNat (ls.map BitVec.toNat) = (c.showLosses lk l).setLinkState lk lkExchange := by
    rw [State.measureDone, if_pos hst, hc, hb, ha, hworst, hl]
    rfl
  have hport : PortOnly s c lk := by
    have hmeas : 0x80000 + 0x800 * lk.val ≤ Reg.FAB_PORT_MEAS lk ∧ Reg.FAB_PORT_MEAS lk < 0x80800 + 0x800 * lk.val := by
      unfold Reg.FAB_PORT_MEAS
      omega
    rw [hc, hb, ha]
    exact (((PortOnly.refl s lk).wr _ hmeas).wr _ hmeas).wr _ hmeas
  have hne : Reg.FAB_PORT_MEAS lk ≠ Reg.FAB_PORT_LANE_LOSS lk ∧ Reg.FAB_PORT_MEAS lk ≠ Reg.FAB_PORT_STATUS lk ∧
      Reg.FAB_PORT_LANE_LOSS lk ≠ Reg.FAB_PORT_STATUS lk := by
    unfold Reg.FAB_PORT_MEAS Reg.FAB_PORT_LANE_LOSS Reg.FAB_PORT_STATUS
    omega
  have hkept {f : Fld} (hf : f.key = Reg.FAB_PORT_MEAS lk) : ((c.showLosses lk l).setLinkState lk lkExchange).rd f = c.rd f := by
    rw [State.setLinkState, State.rd_wr_apart _ _ _ _ (.inl (hf ▸ hne.2.1))]
    exact (c.regsApart_showLosses lk l).rd fun hmem => hne.1 (hf ▸ List.mem_singleton.mp hmem)
  refine ⟨_, (if_pos (decide_eq_true hlen)).trans ((next_onLane h _).trans (congrArg _ hdone)), (hport.showLosses l).setLinkState _,
    State.linkState_setLinkState _ lk (by decide), ?_, ?_, fun i hi => ?_⟩
  · rw [hkept rfl, hc, b.rd_wr_apart _ _ _ (.inr (by decide : 63 < 64 ∧ (63 < 0 ∨ 7 < 44))), hb,
      a.rd_wr_apart _ _ _ (.inr (by decide : 63 < 64 ∧ (63 < 28 ∨ 43 < 44))), ha]
    exact s.rd_wr_of_lt (by decide : 63 < 64) (by decide : 44 ≤ 63) rtt.isLt
  · rw [hkept rfl, hc, b.rd_wr_apart _ _ _ (.inr (by decide : 43 < 64 ∧ (43 < 0 ∨ 7 < 28))), hb]
    exact a.rd_wr _ _ (by decide : 43 < 64) (by decide : 28 ≤ 43)
  · rw [State.setLinkState, State.rd_wr_apart _ _ _ _ (.inl hne.2.2), State.rd_showLosses _ _ _ hi, hl, State.lossWord_getD _ _ _ hi,
      Nat.mod_eq_of_lt (s.laneLoss_lt lk ls i)]

end Measure

end Sys2Proof.Machine
end

section
/-! PROOF. The end of EXCHANGE: what the partner showed, and the link ACTIVE with the partner's credits or DOWN with the reason (R341,
R342, R351); the obligation on links, assembled from its clauses. -/

namespace Sys2Proof.Machine

section Shown

/-- The registers of a port that show the partner lie beside its status. -/
theorem portPartner_ne_portStatus (lk : Nat) :
    Reg.FAB_PORT_PARTNER0 lk ≠ Reg.FAB_PORT_STATUS lk ∧ Reg.FAB_PORT_PARTNER1 lk ≠ Reg.FAB_PORT_STATUS lk := by
  unfold Reg.FAB_PORT_PARTNER0 Reg.FAB_PORT_PARTNER1 Reg.FAB_PORT_STATUS
  omega

/-- A register of a port below its credits. -/
theorem not_mem_portCredits {lk k : Nat} (h : k < 0x80040 + 0x800 * lk) : k ∉ (List.range 8).map (Reg.FAB_PORT_CREDIT lk) := by
  intro hmem
  obtain ⟨v, -, hv⟩ := List.mem_map.mp hmem
  unfold Reg.FAB_PORT_CREDIT at hv
  omega

/-- A partner's block shown in PARTNER0 and PARTNER1. -/
theorem State.showPartner_spec (s : State) (lk : Nat) (c : CapBlock) :
    RegsOnly s (s.showPartner lk c) ∧ RegsApart s (s.showPartner lk c) [Reg.FAB_PORT_PARTNER0 lk, Reg.FAB_PORT_PARTNER1 lk] ∧
      (s.showPartner lk c).rd (Fld.FAB_PORT_PARTNER0_DEV lk) = c.dev.toNat ∧
      (s.showPartner lk c).reg (Reg.FAB_PORT_PARTNER1 lk) = c.serial := by
  have hne : Reg.FAB_PORT_PARTNER0 lk ≠ Reg.FAB_PORT_PARTNER1 lk := by
    unfold Reg.FAB_PORT_PARTNER0 Reg.FAB_PORT_PARTNER1
    omega
  have hhalf (b : Bool) : b2n b < 2 := by cases b <;> decide
  have hdev := c.dev.isLt
  have hgen := c.gen.isLt
  have hrole := c.role.isLt
  have hport := c.port.isLt
  have hlanes := c.lanes.isLt
  have hmode := c.modeReq.isLt
  have hversion := c.version.isLt
  have h25 := hhalf c.half
  have h24 := hhalf c.halfB
  have h15 := hhalf c.fecSr
  have h14 := hhalf c.fecLr
  unfold State.showPartner
  refine ⟨((RegsOnly.refl s).setReg _ _).setReg _ _, ?_, ?_, State.reg_setReg _ _ _⟩
  · exact ((s.regsApart_setReg _ _).mono (List.cons_subset_cons _ (List.nil_subset _))).trans
      ((State.regsApart_setReg _ _ _).mono (List.subset_cons_self _ _))
  · rw [State.rd, show (Fld.FAB_PORT_PARTNER0_DEV lk).key = Reg.FAB_PORT_PARTNER0 lk from rfl, State.reg_setReg_ne _ _ hne,
      State.reg_setReg]
    exact getBits_ofNat (by omega) (show _ / 2 ^ 50 % 2 ^ 14 = _ by omega)

/-- The status of a link that becomes ACTIVE after EXCHANGE (R341). -/
def State.statusActive (s : State) (lk : Nat) (lr : Bool) (lanes spared : Nat) : State :=
  (((((s.setLinkState lk lkActive).wr (Fld.FAB_PORT_STATUS_DOWN_REASON lk) 0).wrB (Fld.FAB_PORT_STATUS_MODE lk) lr).wr
    (Fld.FAB_PORT_STATUS_LANES_UP lk) lanes).wr (Fld.FAB_PORT_STATUS_SPARED lk) spared).wrapInc (Fld.FAB_PORT_STATUS_LINK_UPS lk)

theorem State.regsOnly_statusActive (s : State) (lk : Nat) (lr : Bool) (lanes spared : Nat) :
    RegsOnly s (s.statusActive lk lr lanes spared) :=
  ((((((RegsOnly.refl s).wr (Fld.FAB_PORT_STATUS_STATE lk) _).wr (Fld.FAB_PORT_STATUS_DOWN_REASON lk) _).wr
    (Fld.FAB_PORT_STATUS_MODE lk) _).wr (Fld.FAB_PORT_STATUS_LANES_UP lk) _).wr (Fld.FAB_PORT_STATUS_SPARED lk) _).wr
    (Fld.FAB_PORT_STATUS_LINK_UPS lk) _

theorem State.regsApart_statusActive (s : State) (lk : Nat) (lr : Bool) (lanes spared : Nat) :
    RegsApart s (s.statusActive lk lr lanes spared) [Reg.FAB_PORT_STATUS lk] :=
  have hmem : Reg.FAB_PORT_STATUS lk ∈ [Reg.FAB_PORT_STATUS lk] := List.mem_singleton.mpr rfl
  (((((s.regsApart_wr (Fld.FAB_PORT_STATUS_STATE lk) _).wr (Fld.FAB_PORT_STATUS_DOWN_REASON lk) _ hmem).wr
    (Fld.FAB_PORT_STATUS_MODE lk) _ hmem).wr (Fld.FAB_PORT_STATUS_LANES_UP lk) _ hmem).wr (Fld.FAB_PORT_STATUS_SPARED lk) _ hmem).wr
    (Fld.FAB_PORT_STATUS_LINK_UPS lk) _ hmem

/-- What the status shows then: the fields are apart, so each keeps what was written to it. -/
theorem State.statusActive_spec (s : State) (lk : Nat) (lr : Bool) {lanes : Nat} (hlanes : lanes < 256) (spared : Nat) :
    (s.statusActive lk lr lanes spared).linkState lk = lkActive ∧
    (s.statusActive lk lr lanes spared).rd (Fld.FAB_PORT_STATUS_DOWN_REASON lk) = 0 ∧
    (s.statusActive lk lr lanes spared).flag (Fld.FAB_PORT_STATUS_MODE lk) = lr ∧
    (s.statusActive lk lr lanes spared).rd (Fld.FAB_PORT_STATUS_LANES_UP lk) = lanes ∧
    (s.statusActive lk lr lanes spared).rd (Fld.FAB_PORT_STATUS_LINK_UPS lk) = (s.rd (Fld.FAB_PORT_STATUS_LINK_UPS lk) + 1) % 65536 := by
  obtain ⟨a, ha⟩ : ∃ a, a = s.setLinkState lk lkActive := ⟨_, rfl⟩
  obtain ⟨b, hb⟩ : ∃ b, b = a.wr (Fld.FAB_PORT_STATUS_DOWN_REASON lk) 0 := ⟨_, rfl⟩
  obtain ⟨d, hd⟩ : ∃ d, d = b.wrB (Fld.FAB_PORT_STATUS_MODE lk) lr := ⟨_, rfl⟩
  obtain ⟨e, he⟩ : ∃ e, e = d.wr (Fld.FAB_PORT_STATUS_LANES_UP lk) lanes := ⟨_, rfl⟩
  obtain ⟨u, hu⟩ : ∃ u, u = e.wr (Fld.FAB_PORT_STATUS_SPARED lk) spared := ⟨_, rfl⟩
  rw [State.statusActive, ← ha, ← hb, ← hd, ← he, ← hu, State.wrapInc]
  refine ⟨?_, ?_, ?_, ?_, ?_⟩
  · rw [u.linkState_wr_apart lk _ (.inr (by decide : 15 < 61)), hu, e.linkState_wr_apart lk _ (.inr (by decide : 47 < 61)), he,
      d.linkState_wr_apart lk _ (.inr (by decide : 55 < 61)), hd, State.wrB, b.linkState_wr_apart lk _ (.inr (by decide : 60 < 61)), hb,
      a.linkState_wr_apart lk _ (.inr (by decide : 58 < 61)), ha, s.linkState_setLinkState lk (by decide)]
  · rw [u.rd_wr_apart _ _ _ (.inr (by decide : 58 < 64 ∧ (58 < 0 ∨ 15 < 56))), hu,
      e.rd_wr_apart _ _ _ (.inr (by decide : 58 < 64 ∧ (58 < 44 ∨ 47 < 56))), he,
      d.rd_wr_apart _ _ _ (.inr (by decide : 58 < 64 ∧ (58 < 48 ∨ 55 < 56))), hd,
      b.rd_wrB_apart _ _ _ (.inr (by decide : 58 < 64 ∧ (58 < 60 ∨ 60 < 56))), hb]
    exact a.rd_wr_of_lt (by decide : 58 < 64) (by decide : 56 ≤ 58) (Nat.two_pow_pos _)
  · rw [u.flag_wr_apart _ _ _ (.inr (by decide : 60 < 64 ∧ (60 < 0 ∨ 15 < 60))), hu,
      e.flag_wr_apart _ _ _ (.inr (by decide : 60 < 64 ∧ (60 < 44 ∨ 47 < 60))), he,
      d.flag_wr_apart _ _ _ (.inr (by decide : 60 < 64 ∧ (60 < 48 ∨ 55 < 60))), hd]
    exact b.flag_wrB lr (by decide : 60 < 64) (by decide : 60 ≤ 60)
  · rw [u.rd_wr_apart _ _ _ (.inr (by decide : 55 < 64 ∧ (55 < 0 ∨ 15 < 48))), hu,
      e.rd_wr_apart _ _ _ (.inr (by decide : 55 < 64 ∧ (55 < 44 ∨ 47 < 48))), he]
    exact d.rd_wr_of_lt (by decide : 55 < 64) (by decide : 48 ≤ 55) (hlanes : lanes < 2 ^ 8)
  · have hups : u.rd (Fld.FAB_PORT_STATUS_LINK_UPS lk) = s.rd (Fld.FAB_PORT_STATUS_LINK_UPS lk) := by
      rw [hu, e.rd_wr_apart _ _ _ (.inr (by decide : 15 < 64 ∧ (15 < 44 ∨ 47 < 0))), he,
        d.rd_wr_apart _ _ _ (.inr (by decide : 15 < 64 ∧ (15 < 48 ∨ 55 < 0))), hd,
        b.rd_wrB_apart _ _ _ (.inr (by decide : 15 < 64 ∧ (15 < 60 ∨ 60 < 0))), hb,
        a.rd_wr_apart _ _ _ (.inr (by decide : 15 < 64 ∧ (15 < 56 ∨ 58 < 0))), ha, State.setLinkState,
        s.rd_wr_apart _ _ _ (.inr (by decide : 15 < 64 ∧ (15 < 61 ∨ 63 < 0)))]
    rw [← hups]
    exact u.rd_wr (Fld.FAB_PORT_STATUS_LINK_UPS lk) _ (by decide : 15 < 64) (by decide : 0 ≤ 15)

end Shown

section Exchange

theorem State.lanesOf_le (s : State) (lk : Nat) : s.lanesOf lk ≤ 8 := by
  unfold State.lanesOf
  split_ifs <;> decide

/-- The reasons are those of Table 13.4, and fit their field. -/
theorem State.downReason_lt (s : State) (lk : Nat) (c : CapBlock) : s.downReason lk c < 8 := by
  unfold State.downReason
  dsimp only
  split_ifs <;> decide

variable {s : State} {lk : Fin 64} {c : CapBlock}

/-- A lane's event with a block of eight allocations. -/
theorem exec_linkExchangeDone (h : s.laneOk) (hlen : c.alloc.length = 8) :
    exec (.linkExchangeDone lk c) s = .next (s.exchangeDone lk c) :=
  (if_pos (decide_eq_true hlen)).trans (next_onLane h _)

theorem State.exchangeDone_down (hst : s.linkState lk = lkExchange) (hr : s.downReason lk c ≠ 0) :
    s.exchangeDone lk c =
      ((s.showPartner lk c).setLinkState lk lkDown).wr (Fld.FAB_PORT_STATUS_DOWN_REASON lk) (s.downReason lk c) := by
  rw [State.exchangeDone, if_pos hst]
  exact if_pos hr

/-- EXCHANGE ends in DOWN (R342). -/
theorem exec_linkExchangeDone_down (h : s.laneOk) (hst : s.linkState lk = lkExchange) (hlen : c.alloc.length = 8)
    (hr : s.downReason lk c ≠ 0) :
    ∃ t, exec (.linkExchangeDone lk c) s = .next t ∧ t.linkState lk = lkDown ∧
      t.rd (Fld.FAB_PORT_STATUS_DOWN_REASON lk) = s.downReason lk c ∧ t.rd (Fld.FAB_PORT_PARTNER0_DEV lk) = c.dev.toNat ∧
      t.reg (Reg.FAB_PORT_PARTNER1 lk) = c.serial ∧ LinksApart s t lk := by
  obtain ⟨u, hu⟩ : ∃ u, u = s.showPartner lk c := ⟨_, rfl⟩
  obtain ⟨w, hw⟩ : ∃ w, w = u.setLinkState lk lkDown := ⟨_, rfl⟩
  obtain ⟨hregs, -, hdev, hserial⟩ := s.showPartner_spec lk c
  rw [← hu] at hregs hdev hserial
  have happ : RegsApart u (w.wr (Fld.FAB_PORT_STATUS_DOWN_REASON lk) (s.downReason lk c)) [Reg.FAB_PORT_STATUS lk] := by
    rw [hw]
    exact (u.regsApart_wr (Fld.FAB_PORT_STATUS_STATE lk) _).wr (Fld.FAB_PORT_STATUS_DOWN_REASON lk) _ (List.mem_singleton.mpr rfl)
  obtain ⟨hne0, hne1⟩ := portPartner_ne_portStatus lk
  have hwregs : RegsOnly s (w.wr (Fld.FAB_PORT_STATUS_DOWN_REASON lk) (s.downReason lk c)) := by
    rw [hw]
    exact (hregs.wr (Fld.FAB_PORT_STATUS_STATE lk) _).wr (Fld.FAB_PORT_STATUS_DOWN_REASON lk) _
  have hexec := (exec_linkExchangeDone h hlen).trans (congrArg Host.Outcome.next (State.exchangeDone_down hst hr))
  rw [← hu, ← hw] at hexec
  refine ⟨_, hexec, ?_, ?_, (happ.rd (mt List.mem_singleton.mp hne0)).trans hdev,
    (happ _ (mt List.mem_singleton.mp hne1)).trans hserial, LinksApart.of_links_eq hwregs.links lk⟩
  · rw [w.linkState_wr_apart lk _ (.inr (by decide : 58 < 61)), hw, u.linkState_setLinkState lk (by decide)]
  · exact w.rd_wr_of_lt (by decide : 58 < 64) (by decide : 56 ≤ 58) (s.downReason_lt lk c : _ < 2 ^ 3)

/-- EXCHANGE without a reason against the link: the status, the partner's credits, and a notice at most (R341, R382). -/
theorem State.exchangeDone_active (hst : s.linkState lk = lkExchange) (hr : s.downReason lk c = 0) :
    ∃ spared w, w = ((s.showPartner lk c).statusActive lk (s.agreeLr lk c)
        (((s.link lk).trained &&& c.lanes.toNat) % 2 ^ s.lanesOf lk) spared).initCredits lk (c.alloc.map BitVec.toNat) ∧
      (s.exchangeDone lk c).regs = w.regs ∧
      (s.exchangeDone lk c).links = (w.onLink lk (fun l => { l with partnerAlloc := c.alloc.map BitVec.toNat })).links := by
  obtain ⟨lanes, hlanes⟩ : ∃ lanes, lanes = ((s.link lk).trained &&& c.lanes.toNat) % 2 ^ s.lanesOf lk := ⟨_, rfl⟩
  obtain ⟨spared, hspared⟩ : ∃ spared, spared = ((List.range (s.lanesOf lk)).find? (fun i => !bit lanes i)).getD 0xF := ⟨_, rfl⟩
  obtain ⟨w, hw⟩ : ∃ w, w = ((s.showPartner lk c).statusActive lk (s.agreeLr lk c) lanes spared).initCredits lk
    (c.alloc.map BitVec.toNat) := ⟨_, rfl⟩
  obtain ⟨x, hx⟩ : ∃ x, x = w.onLink lk (fun l => { l with partnerAlloc := c.alloc.map BitVec.toNat }) := ⟨_, rfl⟩
  have hdone : s.exchangeDone lk c = if (x.genEntry c.dev.toNat).2 ≠ c.gen.toNat then x.fenceBack lk c.dev.toNat else x := by
    rw [State.exchangeDone, if_pos hst, hx, hw, hspared, hlanes]
    exact if_neg (not_not_intro hr)
  have hxregs : x.regs = w.regs := hx ▸ w.onLink_regs lk _
  refine ⟨spared, w, hlanes ▸ hw, ?_⟩
  rw [hdone, ← hx]
  split_ifs
  · exact ⟨hxregs, rfl⟩
  · exact ⟨hxregs, rfl⟩

/-- EXCHANGE ends in ACTIVE with the partner's credits (R341, R351). -/
theorem exec_linkExchangeDone_active (h : s.laneOk) (hst : s.linkState lk = lkExchange) (hlen : c.alloc.length = 8)
    (hr : s.downReason lk c = 0) :
    ∃ t, exec (.linkExchangeDone lk c) s = .next t ∧ t.linkState lk = lkActive ∧ t.rd (Fld.FAB_PORT_STATUS_DOWN_REASON lk) = 0 ∧
      t.rd (Fld.FAB_PORT_PARTNER0_DEV lk) = c.dev.toNat ∧ t.reg (Reg.FAB_PORT_PARTNER1 lk) = c.serial ∧ LinksApart s t lk ∧
      t.flag (Fld.FAB_PORT_STATUS_MODE lk) = s.agreeLr lk c ∧
      t.rd (Fld.FAB_PORT_STATUS_LANES_UP lk) = ((s.link lk).trained &&& c.lanes.toNat) % 2 ^ s.lanesOf lk ∧
      t.rd (Fld.FAB_PORT_STATUS_LINK_UPS lk) = (s.rd (Fld.FAB_PORT_STATUS_LINK_UPS lk) + 1) % 65536 ∧
      t.rd (Fld.FAB_PORT_CREDIT_AVAIL0 lk 0) = (c.alloc.getD 0 0).toNat % 1024 ∧
      t.rd (Fld.FAB_PORT_CREDIT_AVAIL1 lk 1) = (c.alloc.getD 1 0).toNat / 2 % 1024 := by
  obtain ⟨spared, w, hw, htregs, htlinks⟩ := State.exchangeDone_active (c := c) hst hr
  obtain ⟨lanes, hlanes⟩ : ∃ lanes, lanes = ((s.link lk).trained &&& c.lanes.toNat) % 2 ^ s.lanesOf lk := ⟨_, rfl⟩
  have hlt : lanes < 256 := hlanes ▸
    (Nat.mod_lt _ (Nat.two_pow_pos _)).trans_le (Nat.pow_le_pow_right (by decide) (s.lanesOf_le lk) : _ ≤ 2 ^ 8)
  obtain ⟨u, hu⟩ : ∃ u, u = s.showPartner lk c := ⟨_, rfl⟩
  obtain ⟨v, hv⟩ : ∃ v, v = u.statusActive lk (s.agreeLr lk c) lanes spared := ⟨_, rfl⟩
  obtain ⟨huregs, huapart, hdev, hserial⟩ := s.showPartner_spec lk c
  obtain ⟨hactive, hreason, hmode, hup, hups⟩ := u.statusActive_spec lk (s.agreeLr lk c) hlt spared
  have hvregs := u.regsOnly_statusActive lk (s.agreeLr lk c) lanes spared
  have hvapart := u.regsApart_statusActive lk (s.agreeLr lk c) lanes spared
  rw [← hu, ← hlanes] at hw
  rw [← hu] at huregs huapart hdev hserial
  rw [← hv] at hactive hreason hmode hup hups hvregs hvapart hw
  have hwapart := v.regsApart_initCredits lk (c.alloc.map BitVec.toNat)
  have hwregs := v.regsOnly_initCredits lk (c.alloc.map BitVec.toNat)
  obtain ⟨hcredit0, -⟩ := v.rd_initCredits lk (c.alloc.map BitVec.toNat) (by decide : 0 < 8)
  obtain ⟨-, hcredit1⟩ := v.rd_initCredits lk (c.alloc.map BitVec.toNat) (by decide : 1 < 8)
  rw [← hw] at hwapart hwregs hcredit0 hcredit1
  have hstatus : Reg.FAB_PORT_STATUS lk ∉ (List.range 8).map (Reg.FAB_PORT_CREDIT lk) ∧
      Reg.FAB_PORT_PARTNER0 lk ∉ (List.range 8).map (Reg.FAB_PORT_CREDIT lk) ∧
      Reg.FAB_PORT_PARTNER1 lk ∉ (List.range 8).map (Reg.FAB_PORT_CREDIT lk) := by
    unfold Reg.FAB_PORT_STATUS Reg.FAB_PORT_PARTNER0 Reg.FAB_PORT_PARTNER1
    exact ⟨not_mem_portCredits (by omega), not_mem_portCredits (by omega), not_mem_portCredits (by omega)⟩
  obtain ⟨hne0, hne1⟩ := portPartner_ne_portStatus lk
  have hshown : Reg.FAB_PORT_STATUS lk ∉ [Reg.FAB_PORT_PARTNER0 lk, Reg.FAB_PORT_PARTNER1 lk] := by simp [hne0.symm, hne1.symm]
  have hrd (f : Fld) : (s.exchangeDone lk c).rd f = w.rd f := State.rd_congr htregs f
  have hreg (k : Nat) : (s.exchangeDone lk c).reg k = w.reg k := State.reg_congr htregs k
  have hkept {f : Fld} (hf : f.key = Reg.FAB_PORT_STATUS lk) : (s.exchangeDone lk c).rd f = v.rd f :=
    (hrd f).trans (hwapart.rd (hf ▸ hstatus.1))
  have halloc (i : Nat) : (c.alloc.map BitVec.toNat).getD i 0 = (c.alloc.getD i 0).toNat :=
    List.getD_map c.alloc (0 : BitVec 10) BitVec.toNat
  refine ⟨_, exec_linkExchangeDone h hlen, (hkept rfl).trans hactive, (hkept rfl).trans hreason, ?_, ?_, ?_,
    (State.flag_congr (hkept rfl)).trans hmode, (hkept rfl).trans (hup.trans hlanes), ?_, ?_, ?_⟩
  · exact (hrd _).trans ((hwapart.rd hstatus.2.1).trans ((hvapart.rd (mt List.mem_singleton.mp hne0)).trans hdev))
  · exact (hreg _).trans ((hwapart _ hstatus.2.2).trans ((hvapart _ (mt List.mem_singleton.mp hne1)).trans hserial))
  · have hlinks : w.links = s.links := hwregs.links.trans (hvregs.links.trans huregs.links)
    exact ((LinksApart.of_links_eq hlinks lk).trans (w.linksApart_onLink lk _)).trans (LinksApart.of_links_eq htlinks lk)
  · rw [hkept rfl, hups, huapart.rd hshown]
  · rw [hrd, hcredit0, ← halloc]
    rfl
  · rw [hrd, hcredit1, ← halloc]
    rfl

end Exchange

/-- Settles O41, clause by clause: each event and each order of a port is one lemma above. -/
theorem linksTrainAndObeyTheirPorts : Obligations.LinksTrainAndObeyTheirPorts := by
  unfold Obligations.LinksTrainAndObeyTheirPorts
  refine ⟨⟨fun s vw lk d h => ⟨exec_linkEnable h, exec_linkDisable h, exec_linkRetrain_active h, exec_linkRetrain_down h,
    exec_llReset h⟩, fun s lk h hreset hheld => ?_⟩, fun s lk h => ⟨exec_linkDetectRetry h, fun lanes hst =>
    ⟨exec_linkPartnerSeen_enough h hst, exec_linkPartnerSeen_few h⟩, exec_linkEqualiseDone h, fun rtt ls => exec_linkMeasureDone h,
    exec_linkStateTimeout_training h, exec_linkStateTimeout_retrain h, exec_linkRetrainDone_all h,
    fun lane => exec_linkRetrainDone_spared h,
    fun lane hst hbit hspare => ⟨exec_laneFailure_first h hst hbit hspare, exec_laneFailure_second h hst hbit⟩⟩,
    fun s lk c r n lanes h hst hlen hn hlanes hr => ?_⟩
  · obtain ⟨t, hexec, hframe, hothers, hlink, hcredits⟩ := exec_llResetComplete h hreset hheld
    exact ⟨t, hexec, hframe, hothers, hlink, hcredits⟩
  · subst hn hlanes
    replace hr : r = s.downReason lk c := hr
    by_cases hzero : s.downReason lk c = 0
    · obtain ⟨t, hexec, hst', hreason, hdev, hserial, hothers, hrest⟩ := exec_linkExchangeDone_active h hst hlen hzero
      rw [hr, hzero]
      exact ⟨t, hexec, hst', hreason, hdev, hserial, hothers, fun _ => hrest⟩
    · obtain ⟨t, hexec, hst', hreason, hdev, hserial, hothers⟩ := exec_linkExchangeDone_down h hst hlen hzero
      rw [hr, if_neg hzero]
      exact ⟨t, hexec, hst', hreason, hdev, hserial, hothers, fun h0 => absurd h0 hzero⟩

end Sys2Proof.Machine
end
